-- ==== Sys2Proof/Word.lean ====
section
/-! DEFINITION. The words, names and operand types of the AGR9264 model: the fixed sets of names the spec numbers
(requesters, pages, lane states, causes), and the small records a command carries. -/

namespace Sys2Proof

/-- A fabric word (R31: the fabric is 32 bits wide). -/
abbrev Word := BitVec 32
/-- A byte of the spool or of a frame. -/
abbrev Byte := BitVec 8
/-- A lane, LN0 to LN63 (R8). -/
abbrev Lane := Fin 64
/-- A cluster, CL0 to CL7 (R8). -/
abbrev Clu := Fin 8
/-- A motion axis, AX0 to AX7 (R31). -/
abbrev Axis := Fin 8
/-- A colour plane, 0 to 7. -/
abbrev Plane := Fin 8

/-- The requesters of the fabric, in the order of R49 (R43 gives the REQ codes). Device hardware acting alone
(REQ 6) sends no command and is a code only. -/
inductive Req where
  | host
  | app (k : Fin 4)
  | safe
  | jtag
  deriving DecidableEq, Repr

/-- The register pages of R34, with their copies. -/
inductive Page where
  | sys | pwr | aon | pmb | clk | fab | core | fuse | evt
  | pci | int | cdc | ddr | ddrs (k : Fin 4)
  | lst | pln | pace | ax (a : Axis)
  | tim | eth (p : Fin 2) | pair
  | bst | cal | scb | den | spl | gio
  | clu (c : Clu) | scr (c : Clu) | seam (c : Clu) | ccal (c : Clu) | cpwr (c : Clu)
  | lne (l : Lane) | seq (l : Lane) | wav (l : Lane) | vnl (l : Lane)
  deriving DecidableEq, Repr

/-- What a fabric address names (R31, R32). -/
inductive Target where
  | page (p : Page) (off : Nat)
  | window (l : Lane) (off : Nat)
  | unmapped
  deriving DecidableEq, Repr

/-- The access types of R38. -/
inductive Acc where
  | ro | rw | w1c | wo | rwl | rws
  deriving DecidableEq, Repr

/-- The values a field permits (R38, R418, and the field's own Meaning column). -/
inductive Chk where
  /-- every value of the width -/
  | any
  /-- lo to hi -/
  | range (lo hi : Nat)
  /-- a multiple of m -/
  | align (m : Nat)
  /-- 0, or lo and above -/
  | zeroOr (lo : Nat)
  /-- four nibbles, none 0 (`DDR.PORT_WT`) -/
  | nibbles
  /-- 0, or a nozzle count R11 allows (`VNL.N_EXP`) -/
  | nozzles
  /-- 4 to 256 and a multiple of 4 (`PAIR.FW_TX_CTRL.LEN`) -/
  | fwLen
  deriving DecidableEq, Repr

/-- One field of a register table: byte offset in its page, lowest bit, width (64 for a pair), access type, reset
value, number of copies, bytes from one copy to the next, permitted values. -/
structure Row where
  off : Nat
  lo : Nat
  width : Nat
  acc : Acc
  reset : Nat
  count : Nat
  stride : Nat
  chk : Chk
  deriving DecidableEq, Repr

/-- What a spool read found (R169 to R172): the devices in error as the mask DEV of the log. -/
inductive ReadKind where
  | clean
  | corrected (dev : BitVec 5)
  | uncorrectable (dev : BitVec 5)
  deriving DecidableEq, Repr

/-- The users of the spool ports, with what an error response means to each (R160, R171). -/
inductive SpoolUser where
  | intake | fetch | encoder | core (k : Fin 4) | bar2 | image | other
  deriving DecidableEq, Repr

/-- The port of a user (R160). -/
def SpoolUser.port : SpoolUser → Nat
  | .intake => 0
  | .fetch => 1
  | .encoder => 2
  | _ => 3

/-- The data of a write access: its word, and the high word of an access of 64 bits (R45, R50). -/
structure WriteData where
  low : Word
  high : Option Word
  deriving DecidableEq, Repr

/-- What a comparator sees of its ball: the voltage in steps of 7.03 mV, and for how many X32 ticks the result has held (R71). -/
structure CmpLevel where
  v : BitVec 8
  held : BitVec 8
  deriving DecidableEq, Repr

/-- What a request at a spool port does to its burst, with what its DRAM read finds (R160, R169 to R173). -/
inductive SpoolOp where
  | read (kind : ReadKind) (wait : Nat)
  | write (data : BitVec 512) (mask : BitVec 64) (poison ue : Bool)
  | scrub (kind : ReadKind)
  deriving DecidableEq, Repr

/-- What a rank's MR4 asks for (R162). -/
inductive Mr4 where
  | x1 | x2 | over
  deriving DecidableEq, Repr

/-- A tile's place (R114). -/
structure TileKey where
  page : Nat
  plane : Nat
  band : Nat
  col : Nat
  deriving DecidableEq, Repr

/-- What a failed DMA read was for (R127). -/
inductive DmaTarget where
  /-- the descriptor of a ring -/
  | ring (r : Fin 10)
  /-- the data of a tile -/
  | tile (k : TileKey)
  /-- the dictionary of a PRESET_LOAD -/
  | preset (id : BitVec 8)
  deriving DecidableEq, Repr

/-- An uncorrectable error found in the device's SRAM: global array number and word (R358, R389). -/
structure SramUe where
  array : BitVec 11
  word : BitVec 12
  deriving DecidableEq, Repr

/-- How an encode ended (R144, R146, R150, R152). -/
inductive EncodeResult where
  /-- the input was read to its end, or to where the stream became too long: the bytes that DMA brought, and the entries of a
  chain in host memory; what lies in the device the encoder reads there -/
  | ended (input : List Byte) (chain : List (BitVec 128))
  /-- an uncorrectable error in the encoder's memory, or in the DRAM as it reads a burst of its input -/
  | memUe (at_ : SramUe)
  | dramUe (addr : BitVec 36) (dev : BitVec 5)
  /-- a DMA error with an entry of a chain in host memory, or with the output -/
  | chainDma
  deriving DecidableEq, Repr

/-- Where an uncorrectable error that a decoder meets lies (R152): in its memory, or in the DRAM devices the read of the tile
found in error. -/
inductive UeAt where
  | sram (at_ : SramUe)
  | dram (dev : BitVec 5)
  deriving DecidableEq, Repr

/-- An uncorrectable error that ends a decode (R152): the offset of the affected byte in the stream, and where the error
lies. -/
structure DecodeUe where
  off : BitVec 17
  at_ : UeAt
  deriving DecidableEq, Repr

/-- What the SECDED check of a seam word found (R215, R217). -/
inductive Ecc where
  | clean | corrected | bad
  deriving DecidableEq, Repr

/-- What a test found on one instance (R363, R364): the failing rows as array and row, the cycles it ran, the signature
of a logic test, and whether the restore met an uncorrectable read (R365). -/
structure BistResult where
  fails : List (BitVec 11 × BitVec 9)
  cycles : BitVec 32
  sig : BitVec 64
  ue : Bool
  deriving DecidableEq, Repr

/-- The calibration items of R373. -/
inductive CalItem where
  | hvSense | txAmp | txImp | rxOfs | fdly | dll | dqTrack
  deriving DecidableEq, Repr

/-- The ID of an item. -/
def CalItem.id : CalItem → Nat
  | .hvSense => 1 | .txAmp => 2 | .txImp => 3 | .rxOfs => 4 | .fdly => 5 | .dll => 6 | .dqTrack => 7

/-- The background tasks that have a MAX_DEFER of R370, but for scans and calibration items. -/
inductive BgTask where
  | dramScrub | sramScrub | codecJob | tableImage
  deriving DecidableEq, Repr

/-- The PLLs of `CLK.LOCK` (R84). -/
inductive Pll where
  | cclk | fclk | mclk | tclk | dclk
  deriving DecidableEq, Repr

/-- The PMBus commands the device uses (R82). -/
inductive PmbCmd where
  | page | operation | clearFaults | voutMode | voutCommand | statusWord | readVout | readIout
  deriving DecidableEq, Repr

/-- How a PMBus transfer to a rail ended (R82): STATUS_WORD and the readings; or no acknowledgement, a bad PEC, or a
VOUT_MODE that is not ULINEAR16. -/
inductive PmbResult where
  | done (status : BitVec 16) (vout iout : BitVec 16)
  | nack
  | pec
  | badMode
  deriving DecidableEq, Repr

/-- What an accepted sample of ENC_A and ENC_B shows: an edge, or a change of both (R273, R275). -/
inductive EncKind where
  | forward | reverse | both
  deriving DecidableEq, Repr

/-- The fields every upstream frame of a head carries before its own (R308): whether its header names a port, that port,
the epoch, the temperature field and the eye field. -/
structure UpHead where
  port : BitVec 8
  epoch : BitVec 16
  temp : BitVec 16
  eye : BitVec 16
  deriving DecidableEq, Repr

end Sys2Proof
end

