-- ==== Sys2Proof/Syntax.lean ====
section
/-! DEFINITION. The commands of the block: one constructor for each row of the opcode table, with the operands its
sender gives it. -/

namespace Sys2Proof

/-- A command: a write or read of a register, a message or frame that arrives, an edge on a pin, or the expiry of a
timer, as the opcode table lists them. The docstring of a constructor is its row's rule and summary. -/
inductive Instr where
  /-- R38. A write to a register field that has no step of its own is judged as a whole word and stored, or refused as a whole. -/
  | registerWrite (req : Req) (addr : Word) (be : BitVec 4) (data : WriteData)
  /-- R45. A target that has not answered within 256 FCLK ends the access with the fabric error TIMEOUT. -/
  | accessTimeout (req : Req) (wr : Bool) (addr : Word)
  /-- R50. A read of the low word of a 64-bit pair captures the high word for that requester. The command reads any fabric
  address; `wide` says that it is a 64-bit access. -/
  | pairLowRead (req : Req) (addr : Word) (wide : Bool)
  /-- R50. A write of the low word of a 64-bit pair is held, or replaces the held low word, until the same requester writes
  the high word. -/
  | pairLowWrite (req : Req) (p : Page) (w : BitVec 10) (data : Word)
  /-- R50. A write of the high word makes the held pair take effect together, or is discarded when no low word is held. -/
  | pairHighWrite (req : Req) (p : Page) (w : BitVec 10) (data : Word)
  /-- R35. PG_CTRL.INIT returns the block registers and staged copies to reset values and withdraws any pending commit. -/
  | pgInit (req : Req) (p : Page) (data : Word)
  /-- R35. PG_CTRL.LOCK makes the page's RWL registers read-only until device reset. -/
  | pgLock (req : Req) (p : Page) (data : Word)
  /-- R40. A commit request checks the staged set and sets COMMIT_PEND for the named boundary, or takes effect on arrival when
  RUN is 0. -/
  | commit (req : Req) (p : Page) (data : Word)
  /-- R42. PG_CTRL.CANCEL withdraws a pending commit and keeps the staged values. -/
  | cancel (req : Req) (p : Page) (data : Word)
  /-- R40. At its boundary a pending commit copies every staged field to the active copy in one DCLK, clears COMMIT_PEND and
  raises COMMIT_DONE. -/
  | commitDone (p : Page)
  /-- R51. A W1C write to PG_EVT_PEND clears the bits in RAW and PEND, unless an occurrence falls in the same FCLK. -/
  | evtPendClear (req : Req) (p : Page) (mask : Word)
  /-- R44. A W1C of PG_ERR_CODE.VALID clears the error code, information and time of the page. -/
  | errCodeClear (req : Req) (p : Page)
  /-- R56. A write of a vector to EVT.EOI re-sends that vector's MSI-X message when a routed source is still pending. -/
  | eoi (req : Req) (vec : BitVec 6)
  /-- R56. Unmasking an MSI-X vector sends the message that the mask held. -/
  | msixUnmask (req : Req) (vec : BitVec 6)
  /-- R63. VDD_AON and VDDIO_AON become good, the AON power-on reset completes and the device enters SETT. -/
  | powerOnReset
  /-- R401. An always-on supply falls below its reset level and the device restarts from OFF. -/
  | porAssert
  /-- R72. The RTC reaches ALARM_SEC with the alarm armed, disarms it, raises ALARM and may wake the device. -/
  | rtcAlarm
  /-- R71. A comparator result that has held for DEBOUNCE ticks becomes OUT and acts by its ACTION. `level` is what it sees of
  its ball. -/
  | cmpOutRise (k : Fin 6) (level : CmpLevel)
  /-- R69. WAKE_REQ_N asserted for at least 3 X32 wakes the device or cancels an entry into SETT. -/
  | wakeReqN
  /-- R402. PERST_N deasserts, the endpoint becomes ready for training, and in SETT the device wakes. -/
  | perstNDeassert
  /-- R402. PERST_N asserted resets only the PCI Express endpoint and its configuration space. -/
  | perstNAssert
  /-- R401. A deglitched PGOOD sampled high after its PEN lets the wake sequence proceed. -/
  | pgoodRise (k : Fin 2) (bootsel : BitVec 2)
  /-- R63. PGOOD0 or PGOOD1 does not rise within its bound, and the device enters FAULT with cause PGOOD. -/
  | pgoodTimeout (k : Fin 2)
  /-- R401. An unplanned fall of PGOOD0 or PGOOD1 sets the fatal cause PGOOD. -/
  | pgoodLost (k : Fin 2)
  /-- R63. The PLLs lock and, on a warm wake, DRAM exits self-refresh and the image is re-checked, and the device reports
  IDLE. -/
  | settWakeComplete
  /-- R64. PWR.REQ.TARGET = SETT starts IDLE to SETT, is held for a transition, or is rejected by the state. -/
  | reqSett (req : Req)
  /-- R64. PWR.REQ.TARGET = IDLE brings READY down, stops TO_READY or leaves FAULT when its causes are clear. -/
  | reqIdle (req : Req)
  /-- R64. PWR.REQ.TARGET = READY starts the bring-up of the clusters in CLU_SEL from IDLE. -/
  | reqReady (req : Req)
  /-- R78. 40 ms plus the largest HV_TMO after TO_READY began, the device reports READY and marks clusters not ready as
  failed. -/
  | toReadyDeadline
  /-- R76. A cluster domain switches on, at least 50 us after the previous one, and the head logic supply is enabled. -/
  | clusterPowerOn (c : Clu) (code : BitVec 16) (qual : Word)
  /-- R76. Once every enabled lane of a cluster has its link up and VOUT is set, the device raises HVEN and starts waiting for
  HVPG. -/
  | hvenSet (c : Clu)
  /-- R78. A deglitched HVPG rise makes the cluster ready, sets its CLU_RDY bit and raises HV_UP. -/
  | hvpgRise (c : Clu)
  /-- R77. HVPG does not rise within HV_TMO, so the cluster records HV_TIMEOUT, drops HVEN and fails. -/
  | hvTimeout (c : Clu)
  /-- R77. HVPG falls while HVEN is high, the cluster records HVPG_LOST, drops HVEN and faults its lanes. -/
  | hvpgLost (c : Clu)
  /-- R78. A failed cluster retries raising HVEN, at least 1 s after its last try, once its links are up and VOUT is nonzero. -/
  | clusterRetry (c : Clu)
  /-- R76. After HVPG falls and HV_DIS_MS elapses, the head logic supply, the links and the cluster domain go down. -/
  | hvDischargeDone (c : Clu)
  /-- R63. READY_IDLE_S seconds in READY without a page take the device from READY to IDLE. -/
  | readyIdleTimeout
  /-- R66. The auto-sleep conditions have held for IDLE_S seconds, so the device raises SLEEP_PENDING and starts the grace
  wait. -/
  | autoSleepDue
  /-- R67. The grace period ends without a host write, and the device enters TO_SETT. -/
  | sleepGraceEnd
  /-- R63. After DRAM self-refresh entry, the retention latches close, the PLLs stop and PEN1 then PEN0 fall, and the device
  is in SETT. -/
  | settEntryComplete
  /-- R65. The hottest die sensor reaches TJ_WARN and the event TJ_WARN is raised. -/
  | tjWarn
  /-- R65. The hottest die sensor reaches TJ_SHUT and sets a fatal cause. -/
  | tjShut
  /-- R70. X32 stops for four RC periods, so the RTC continues on the RC oscillator and sets X32_FAIL. -/
  | x32Fail
  /-- R70. After X32 has run for 32,768 ticks the RTC returns to X32. -/
  | x32Restore
  /-- R72. A written RTC_LOAD pair is loaded into the RTC at the next X32 tick. -/
  | rtcLoadApply
  /-- R73. The spit timer reaches INTERVAL and a keep-wet burst begins, waking and bringing the clusters up if needed. -/
  | spitTimerExpiry
  /-- R73. The spit lines have been sent, the device returns to its starting state and the timer restarts. -/
  | spitBurstDone
  /-- R80. A cluster operating-point change starts, or is rejected with DOM_BUSY while a queued or active page names the
  cluster. -/
  | opChange (c : Clu)
  /-- R80. The voltage and DCLK of the new operating point are in force and OP_CHANGE is raised. -/
  | opChangeDone (c : Clu)
  /-- R82. The PMBus poll interval expires and status transfers to the configured rails begin. -/
  | pmbPoll
  /-- R82. A PMBus transfer ends, is retried on failure, and records RAIL_FAULT or PMB_CRIT when the rail reports a fault. -/
  | pmbTransferDone (rail : Fin 16) (res : PmbResult)
  /-- R82. SMBALERT# is sensed asserted on PMB_ALERT_N. -/
  | pmbAlert
  /-- R84. A PLL loses lock, UNLOCK is raised, and lanes fault if FCLK or DCLK lock is lost while printing. -/
  | pllUnlock (pll : Pll)
  /-- R93. The boot ROM finishes its checks and starts the cores, or ends the boot as FAILED, and writes a BOOT Den entry. -/
  | bootComplete (img : Option (List Byte))
  /-- R91. A host word written to CORE.PUSH_DATA enters the push buffer, or is discarded with PUSH_OVF when the buffer is
  full. -/
  | pushData (req : Req) (data : Word)
  /-- R94. CORE.BOOT_CMD.RESTART repeats the cold boot, or is rejected with BAD_REQ unless STAGE is FAILED or WAIT_PUSH. -/
  | bootRestart (req : Req)
  /-- R97. A safety-core write of HART_CTRL.RUN starts or stops application cores. -/
  | hartRun (req : Req) (data : Word)
  /-- R97. A safety-core write of HART_CTRL.RST resets application cores. -/
  | hartReset (req : Req) (data : Word)
  /-- R99. A write of 0xA5 restarts a watchdog count, and any other value records BAD_KICK. -/
  | wdtKick (req : Req) (k : Fin 5) (key : BitVec 8)
  /-- R99. A watchdog count expires, raises WDTk, and for watchdog 4 sets the fatal cause SAFE_WDT. -/
  | wdtExpire (k : Fin 5)
  /-- R99. A further TIMEOUT/4 without a kick resets and halts the application core and writes a WATCHDOG Den entry. -/
  | wdtHalt (k : Fin 4) (mepc : BitVec 64)
  /-- R98. The sender writes CTRL with FULL = 1, raising the FULL event, or is rejected with MBX_BUSY while FULL is 1. -/
  | mbxSend (req : Req) (h2c : Bool) (len : BitVec 9)
  /-- R98. The receiver writes FULL = 0, raising the EMPTY event. -/
  | mbxRelease (req : Req) (h2c : Bool)
  /-- R85. An uncorrectable error in a core's L1 or local memory resets that core. -/
  | coreMemUe (core : Fin 5)
  /-- R103. The PCI Express link reaches DL_Active and LINK_UP is raised. -/
  | pcieLinkUp (speed : BitVec 4) (width : BitVec 6) (rev : Bool)
  /-- R103. The link leaves DL_Active, every ring stops, tile reads in flight fail and unwritten completions are lost. -/
  | pcieLinkDown
  /-- R102. In D3hot the device stops DMA and MSI-X while accepted pages go on printing. -/
  | d3hotEntry
  /-- R102. On return to D0 the rings resume from their positions. -/
  | d0Return
  /-- R104. A host read of the spool window is served, refused or poisoned byte by byte by region. -/
  | bar2Read (addr : BitVec 36) (len : BitVec 13) (ue : Option (BitVec 36 × BitVec 5))
  /-- R104. A host write to the spool window stores the bytes in served regions and drops and records the rest. -/
  | bar2Write (addr : BitVec 36) (data : List Byte) (poisoned : Bool)
  /-- R108. A DB write moves a ring's tail, or for ring 9 its head, or is rejected with TAIL_BAD. -/
  | ringDoorbell (req : Req) (r : Fin 10) (v : BitVec 16)
  /-- R108. Writing a ring's EN to 1 starts fetching or writing with the stored DB. -/
  | ringEnable (req : Req) (r : Fin 10)
  /-- R108. Writing EN to 0 stops fetching at once and the ring enters STOPPING. -/
  | ringDisable (req : Req) (r : Fin 10)
  /-- R108. Work already fetched completes and posts its completions, and the ring reaches DISABLED. -/
  | ringStopped (r : Fin 10)
  /-- R107. RESET returns HEAD, DB and the phase to 0, or is rejected with RING_BUSY unless DISABLED. -/
  | ringReset (req : Req) (r : Fin 10)
  /-- R128. A ring makes a fetch decision and presents a descriptor read request. -/
  | descriptorFetch (r : Fin 9)
  /-- R112. A PAGE_OPEN admin entry is checked by intake and the Last and the page is accepted with F_SAFE or rejected. -/
  | pageOpen (entry : BitVec 512)
  /-- R113. A PAGE_CANCEL admin entry closes the named page, returns its granules and completes with ADMIN_DONE. -/
  | pageCancel (entry : BitVec 512)
  /-- R113. A PRESET_LOAD admin entry starts copying a dictionary into the preset table, or fails with PRESET_BAD. -/
  | presetLoad (entry : BitVec 512)
  /-- R138. The preset copy into the spool completes, its VALID bit sets and ADMIN_DONE is written. -/
  | presetLoadDone (id : BitVec 8) (data : List Byte)
  /-- R138. A PRESET_DROP admin entry clears the preset's VALID bit when it executes. -/
  | presetDrop (entry : BitVec 512)
  /-- R138. Every unit reading the dropped preset has finished, and its ADMIN_DONE is written. -/
  | presetDropDone (id : BitVec 8)
  /-- R145. A COMPRESS admin entry queues a host compress job in a free slot, or completes with QUEUE_FULL or JOB_BAD. -/
  | compress (entry : BitVec 512)
  /-- R113. A NOP admin entry completes with status 0. -/
  | nop (entry : BitVec 512)
  /-- R116. A tile entry is checked in ring order, waits for its page, or completes with TILE_FAIL. -/
  | tileDescriptor (r : Fin 8) (entry : BitVec 512)
  /-- R117. Granules for a tile are allocated once credit and quota allow, and its data read starts. -/
  | tileAllocate (r : Fin 8)
  /-- R131. The 16 header bytes of an SCW tile arrive and are checked, and a bad header fails the tile with BAD_DESC. -/
  | scwHeaderCheck (key : TileKey) (hdr : BitVec 128)
  /-- R121. The spool acknowledges a tile's last write and TILE_DONE is written, unless NO_CPL suppresses it. -/
  | tileLanded (key : TileKey) (data : List Byte)
  /-- R127. A DMA read fails, stopping a ring for a descriptor or failing only the tile for tile data. -/
  | dmaError (target : DmaTarget)
  /-- R120. A completion entry is written to ring 9 once a free entry permits it. -/
  | completionWrite
  /-- R123. TIME_US after the first unsignalled completion, the CQ event is raised. -/
  | cqTimerExpiry
  /-- R111. A write of HEAP_BASE or HEAP_SIZE sets the heap, or is rejected with HEAP_BUSY while a page is open. -/
  | heapConfigWrite (req : Req) (isSize : Bool) (mib : BitVec 16)
  /-- R191. The Last takes a tag for a tile whose band window is open or next and issues the read of its header. -/
  | tileFetch
  /-- R191. A free decoder takes the tagged tile with the earliest deadline. -/
  | decodeStart (d : Fin 16)
  /-- R134. A decode passes its CRC and the tile is marked complete in its band. -/
  | decodeDone (d : Fin 16)
  /-- R135. A decode ends with PRESET_MISSING, OVERRUN, DIST or CRC_DECODE and none of its bytes is used. -/
  | decodeFail (d : Fin 16) (ue : Option DecodeUe)
  /-- R149. A free encoder goes to intake, the oldest firmware job or the oldest host job. -/
  | encoderAssign (e : Fin 12)
  /-- R150. An encode or job ends DONE, NO_GAIN or with an error, and writes ADMIN_DONE or moves the firmware slot to DONE. -/
  | encodeEnd (e : Fin 12) (res : EncodeResult)
  /-- R148. A job needs a chain entry beyond COUNT, parks and raises PARKED. -/
  | jobPark (slot : Fin 16) (input : List Byte) (chain : List (BitVec 128))
  /-- R148. A write of JS_CHAIN.COUNT extends the chain and resumes a parked job, or is rejected. -/
  | chainCountWrite (req : Req) (slot : Fin 16) (n : BitVec 13)
  /-- R148. A job parked longer than PARK_TMO ends with CHAIN_TMO. -/
  | parkTimeout (slot : Fin 16)
  /-- R153. JS_CTRL.ABORT ends the job ABORTED. -/
  | jobAbort (req : Req) (slot : Fin 16)
  /-- R150. JS_CTRL.RELEASE frees a firmware slot in DONE. -/
  | jobRelease (req : Req) (slot : Fin 16)
  /-- R153. FJOB_GO queues the firmware descriptor in the lowest free slot 12–15, or is rejected with QUEUE_FULL. -/
  | fjobGo (req : Req)
  /-- R159. DDR5 training ends with every sub-channel passing, or the DDR page enters FAILED and the boot fails.
  `stops` is the step at which each stopped, 0 for none, with its byte lane; `eyes` are the eyes of its byte lanes. -/
  | ddrTrainingDone (stops : List (BitVec 3 × BitVec 3)) (eyes : List (List (BitVec 16 × BitVec 16)))
  /-- R163. A rank's refresh tick adds 1 to OWED and may make refreshes due. -/
  | refreshTick (k : Fin 4) (rank : Fin 2)
  /-- R162. A sub-channel reads MR4 of every rank and enters or leaves the doubled range, or records DRAM_HOT. -/
  | mr4Poll (k : Fin 4) (rank0 rank1 : Mr4 × BitVec 8) (osc : BitVec 16)
  /-- R171. A spool read returns data, corrected data with a write-back, or an uncorrectable error response. -/
  | spoolReadReturn (user : SpoolUser) (addr : BitVec 36) (kind : ReadKind) (wait : BitVec 16)
  /-- R174. A spool write's last data beat leaves the PHY and the write is acknowledged to its port. -/
  | spoolWriteAck (user : SpoolUser) (addr : BitVec 36) (data : BitVec 512) (mask : BitVec 64) (poison ue : Bool)
  /-- R192. A decoder falls below PANIC_LOW or waits, so the Last asserts panic and P1 takes precedence. -/
  | panicAssert
  /-- R192. Every decoder holds at least PANIC_HIGH and none waits, so panic is released. -/
  | panicRelease
  /-- R166. No port request for AUTO_US in IDLE starts auto self-refresh entry. -/
  | autoSrTimeout
  /-- R166. The ports have drained, and the controller precharges and issues self-refresh entry. -/
  | srDrainDone
  /-- R168. A held request or PWR's resume starts self-refresh exit. -/
  | srExit
  /-- R168. Exit completes, the ports reopen and an MR4 poll follows at once. -/
  | srExitDone
  /-- R173. The patrol scrub's pacing interval expires and it reads the next burst, writing back or logging errors. -/
  | scrubRead (kind : ReadKind)
  /-- R278. The ratio accumulator crosses DEN and the web line counter advances by one tick. -/
  | lineTick
  /-- R281. No SLOWREQ source has held for HOLD_MS, so SLOWREQ falls. -/
  | slowreqRelease
  /-- R282. No tick for STOP_MS sets STOPPED and raises it. -/
  | paceStopped
  /-- R186. A write of a page ID to LST.START starts a mode 3 page at the next tick, or is rejected with START_BAD. -/
  | lstStart (req : Req) (id : Word)
  /-- R200. A lane engine starts a line once it is whole in the input buffer and the previous line has entered. -/
  | lineScreenStart (l : Lane) (stall : BitVec 16) (ue : Option (SramUe × Bool))
  /-- R216. A seam word reaches its receiver and its errors are added to the edge nozzles. -/
  | seamWordArrive (l : Lane) (left : Bool) (ecc : Ecc)
  /-- R217. A needed seam word has not arrived TMO_US after the pair waited, so its values are taken as 0 and the lane is
  tainted. -/
  | seamTimeout (l : Lane) (left : Bool)
  /-- R207. A write to a lane table window takes effect, or is discarded with TABLE_RUN, TABLE_RO, AWL_BUSY or COMMIT_BUSY. -/
  | tableWindowWrite (req : Req) (l : Lane) (off : BitVec 18) (data : Word)
  /-- R223. TBL_CTRL.CRC_GO starts computing the tone region's CRC, or is rejected with CRC_BUSY. -/
  | tblCrcGo (req : Req) (l : Lane)
  /-- R223. The tone-region CRC computation ends and CRC_DONE is raised. -/
  | tblCrcDone (l : Lane)
  /-- R212. MAT_CMD.LOAD starts copying matrix cells from the spool, or is refused. -/
  | matLoad (req : Req) (c : Clu)
  /-- R212. A matrix load completes and writes MAT_CRC, or stops with MAT_ORDER or MAT_DMA, and raises MAT_DONE. -/
  | matLoadEnd (c : Clu) (ue : Option (BitVec 16))
  /-- R212. MAT_CMD.CRC starts computing the CRC of the stored cells, or is refused. -/
  | matCrc (req : Req) (c : Clu)
  /-- R212. The matrix CRC computation ends, writes MAT_CRC and raises CRC_DONE. -/
  | matCrcEnd (c : Clu)
  /-- R233. AWL_CMD.START starts a scan on a lane that meets the conditions, or is rejected. -/
  | awlStart (req : Req) (l : Lane)
  /-- R233. The device starts a scan by itself on an idle lane that has no valid map or whose scan age has reached the period.
  -/
  | awlAutoStart (l : Lane)
  /-- R235. AWL_CMD.ABORT aborts the scan and the lane returns to IDLE. -/
  | awlAbort (req : Req) (l : Lane)
  /-- R230. A SCAN_DATA frame with a good CRC delivers heater codes of the scan. -/
  | scanDataReceive (l : Lane) (up : UpHead) (first : BitVec 16) (codes : List (BitVec 12))
  /-- R232. After the last code the device evaluates the scan and stages, holds or rejects the result map. -/
  | awlScanComplete (l : Lane)
  /-- R234. The scan age reaches MAX_DEFER_MIN without a scan, so OVERDUE is set. -/
  | awlOverdue (l : Lane)
  /-- R249. The sequencer prepares a line: temperature band and set, element guard, head guard. -/
  | linePrepare (l : Lane) (ue guardUe : Option SramUe)
  /-- R249. A prepared line's frame starts once the previous FIRE marker has left the port. -/
  | lineFrameStart (l : Lane)
  /-- R250. D DCLK after its tick the sequencer checks a line and sends its FIRE marker or skips it. -/
  | firingInstant (l : Lane)
  /-- R262. TMO FIRE markers in a row without a temperature reading place the lane in HOLD. -/
  | tempLost (l : Lane)
  /-- R263. SEQ.CMD.RESUME returns a lane from HOLD to FIRING, or is rejected. -/
  | seqResume (req : Req) (l : Lane)
  /-- R264. SEQ.CMD.CLEAR moves a faulted lane to LINK or IDLE, or is rejected with CLEAR_STATE. -/
  | seqClear (req : Req) (l : Lane)
  /-- R261. No FIRE marker for WE or WH times 3,125 DCLK empties that guard. -/
  | guardIdleExpiry (l : Lane) (head : Bool)
  /-- R267. A run open for FLUSH_US closes and joins or opens a spoil record. -/
  | spoilRunFlush (l : Lane) (after : Bool)
  /-- R267. A record open for 64 DCLK, or pushed out by a fifth, is written to the spoil ring. -/
  | spoilRecordWrite
  /-- R268. The spool acknowledges a spoil record and SPL.HEAD advances. -/
  | spoilWriteAck
  /-- R268. A write to SPL.DB frees entries, or is rejected with TAIL_BAD. -/
  | spoilDoorbell (req : Req) (v : Word)
  /-- R273. An accepted encoder or belt edge updates the ratio accumulator. -/
  | encEdge (kind : EncKind)
  /-- R275. An accepted rising Z edge checks the edge count and records ENC_Z on a mismatch. -/
  | encIndex
  /-- R277. In INTERNAL mode the INT_PER timer expires and a line tick is made. -/
  | internalTick
  /-- R272. A write of PACE.CTRL.MODE selects the tick source and clears ACC, or is rejected with RATIO_BAD. -/
  | paceModeWrite (req : Req) (data : Word)
  /-- R279. A write of WL_LOAD sets the web line counter, or is rejected with WL_RUN. -/
  | wlLoad (req : Req) (wl : BitVec 48)
  /-- R283. An accepted top-of-form edge is counted and passed to the Last, or ignored within MIN_WL. -/
  | tofEdge
  /-- R290. Every 0.5 us the axis generator takes any new set and replans its profile. -/
  | profileUpdate (a : Axis)
  /-- R287. The generator issues a step pulse on STEP and updates POS. -/
  | axisStep (a : Axis)
  /-- R286. A SHADOW axis sees a step on its STEP input and moves POS. -/
  | observedStep (a : Axis) (neg : Bool)
  /-- R293. AX.CMD.HOME starts the homing sequence. -/
  | axHome (req : Req) (a : Axis)
  /-- R290. AX.CMD.STOP brings the axis to rest at DMAX. -/
  | axStop (req : Req) (a : Axis)
  /-- R292. AX.CMD.ESTOP stops the axis as a HARD limit trip does. -/
  | axEstop (req : Req) (a : Axis)
  /-- R294. AX.CMD.CLEAR returns a faulted axis to IDLE, or is rejected with AX_FAULT. -/
  | axClear (req : Req) (a : Axis) (drvflt : Bool)
  /-- R295. AX.CMD.SLEEP drives DRVSLP_N low. -/
  | axSleep (req : Req) (a : Axis)
  /-- R295. AX.CMD.WAKE drives DRVSLP_N high. -/
  | axWake (req : Req) (a : Axis)
  /-- R292. A recognised limit toward the motion stops the axis HARD or RAMP and enters LIMIT. -/
  | limitTrip (a : Axis) (pos : Bool)
  /-- R292. The tripped limit is released for LIM_DEB and the axis returns to IDLE or MOVING. -/
  | limitRelease (a : Axis) (pos : Bool)
  /-- R293. A home edge held for HOME_DEB captures the position and starts braking. -/
  | homeEdge (a : Axis) (since : BitVec 16)
  /-- R293. The home signal has been released for HOME_DEB in back-off, so the axis brakes and homing completes. -/
  | homeRelease (a : Axis)
  /-- R294. DRVFLT_N or a supply loss stops the axis, sets LOST and moves it to FAULT. -/
  | driverFault (a : Axis) (pin : Bool)
  /-- R295. An axis idle for SLEEP_MS drives DRVSLP_N low. -/
  | axisSleepTimeout (a : Axis)
  /-- R305. A queued control frame starts downstream when no line frame is ready. -/
  | controlFrameSend (l : Lane)
  /-- R305. A control frame without its reply within 10 us is sent again, and after the third the link is lost. -/
  | controlRetry (l : Lane)
  /-- R308. An LSTAT gives the head's result for a FIRE, spoiling lines not fired, and carries a temperature. -/
  | lstatReceive (l : Lane) (up : UpHead) (seq : BitVec 16) (result : BitVec 8)
  /-- R311. An HSTAT carries status and temperature and advances bring-up on lock. -/
  | hstatReceive (l : Lane) (up : UpHead) (rate : BitVec 8)
  /-- R305. A CACK acknowledges a control frame, advancing bank loading, training or bring-up. -/
  | cackReceive (l : Lane) (up : UpHead) (cseq cresult : BitVec 8)
  /-- R311. An IDENT sets the lane's nozzle count and target rate, or records IDENT_BAD. -/
  | identReceive (l : Lane) (up : UpHead) (proto caps : BitVec 8) (n vendor model tHead : BitVec 16) (serial : Word)
  /-- R312. A TRAIN_RES decides whether a rate trial passes. -/
  | trainResReceive (l : Lane) (up : UpHead) (rate preset good : BitVec 8)
  /-- R309. An upstream frame with a bad CRC is discarded and counted in UP_CRC. -/
  | upstreamCrcError (l : Lane)
  /-- R309. No LSTAT within ACK_US of a FIRE spoils the line with HEAD_NOACK. -/
  | lstatTimeout (l : Lane)
  /-- R311. 20 ms in WAKE without an HSTAT records NO_HEAD and the link waits. -/
  | noHeadTimeout (l : Lane)
  /-- R311. 35 ms since the bring-up bound started records BRINGUP_TMO and the link waits. -/
  | bringupTmo (l : Lane)
  /-- R311. 100 ms in WAIT restarts bring-up at 0.8 Gbaud. -/
  | linkWaitExpiry (l : Lane)
  /-- R312. 2 us after the SPEED acknowledgement the transmitter switches to the trial rate and preset. -/
  | trialSwitch (l : Lane)
  /-- R312. No lock within 200 us or no TRAIN_RES within 20 us fails the trial. -/
  | trialTimeout (l : Lane)
  /-- R311. No relock within 1 ms in FAST returns the link to WAKE. -/
  | fastLockTimeout (l : Lane)
  /-- R314. Sixteen invalid code-groups or loss of upstream lock lose the link. -/
  | upstreamLockLoss (l : Lane) (n : BitVec 8)
  /-- R314. No good upstream frame for STAT_TMO loses the link. -/
  | statusTimeout (l : Lane)
  /-- R314. CRC_LIMIT consecutive LSTAT results of 1–3 lose the link. -/
  | crcLimitReached (l : Lane)
  /-- R316. A SCAN_DATA frame not arrived by its bound ends the scan with AWL_LINK and loses the link. -/
  | scanDataLate (l : Lane)
  /-- R318. VNL.CMD.RETRAIN enters FAST as if the link were lost, or is rejected with CMD_RUN. -/
  | retrain (req : Req) (l : Lane)
  /-- R315. Every 4 ms the upstream eye opening is written to VNL.EYE. -/
  | eyeMeasure (l : Lane) (mui : BitVec 16)
  /-- R320. A write of TIME_SET loads the time counter and increments the step tag. -/
  | timeSet (req : Req) (ns : BitVec 64)
  /-- R320. A write of TIME_ADJ adds a signed value to the time counter and increments the step tag. -/
  | timeAdj (req : Req) (ns : BitVec 64)
  /-- R325. An offset written to TIM.OFFSET steps or updates the servo, or is discarded for a stale tag. -/
  | offsetWrite (req : Req) (ns : BitVec 48) (tag : BitVec 4)
  /-- R325. Writing SERVO_CTRL.EN moves the servo out of or into FREE. -/
  | servoEnWrite (req : Req) (data : Word)
  /-- R325. SERVO_CTRL.REARM returns the servo to STEP. -/
  | servoRearm (req : Req) (data : Word)
  /-- R325. No offset for HOLD_MS puts the servo in HOLDOVER with F = I. -/
  | servoHoldover
  /-- R327. The counter reaches an armed trigger's TIME and it fires, drives its ball and rearms or disarms. -/
  | triggerFire (k : Fin 16)
  /-- R328. Writing a trigger's EN to 1 arms it, firing at once with LATE if its time has passed. -/
  | trigArm (req : Req) (k : Fin 16) (data : Word)
  /-- R330. A capture's source event records the time, tag and web line, or counts as LOST. -/
  | captureEvent (k : Fin 16)
  /-- R323. Moving the transmit tail hands descriptors to the device for sending. -/
  | ethTxTail (req : Req) (p : Fin 2) (v : Word)
  /-- R324. A frame is sent, its timestamp is written back and TX_DONE is raised. -/
  | ethTxDone (p : Fin 2)
  /-- R324. A received frame is timestamped and stored in a receive descriptor, or dropped. -/
  | ethRxFrame (p : Fin 2) (bytes : List Byte) (bad : Bool)
  /-- R333. An Ethernet port's link comes up. -/
  | ethLinkUp (p : Fin 2)
  /-- R333. An Ethernet port's link goes down. -/
  | ethLinkDown (p : Fin 2)
  /-- R331. Every 2^20 X32 ticks the X32 error against the counter is stored in X32_PPB. -/
  | x32Measure (ppb : BitVec 31)
  /-- R342. All four lanes hold lock, MARK columns agree and a good heartbeat arrives, so the pair link is UP. -/
  | pairLinkUp (pol : BitVec 4) (reversed mapOk : Bool) (skew : BitVec 5)
  /-- R342. Loss of lock, a missing MARK or a broken MCOUNT takes the pair link DOWN. -/
  | pairLinkDown (lock : BitVec 4)
  /-- R344. Every 1 us a device queues a HEARTBEAT message. -/
  | heartbeatSend
  /-- R343. A valid heartbeat resets HB_AGE and is used for role changes, HOLD mirroring and the web line check. -/
  | heartbeatReceive (msg : List Byte)
  /-- R355. A 500-DCLK interval passes without a valid heartbeat and is counted. -/
  | hbMiss
  /-- R345. HB_AGE reaches 1,600 DCLK and a SHADOW with TAKE_EN promotes. -/
  | heartbeatTimeout
  /-- R345. PFAULT_I is recognised and a SHADOW with TAKE_EN promotes. -/
  | pfaultI (level : Bool)
  /-- R347. A LEAD sees ROLE_I rise and demotes to SHADOW. -/
  | roleIRise (level : Bool)
  /-- R338. PAIR.CMD.ALIGN on a stopped LEAD sends its counter and ACC in an ALIGN message. -/
  | pairAlign (req : Req)
  /-- R338. The shadow loads the counter and ACC from ALIGN, or records ALIGN_REJ. -/
  | alignReceive (msg : List Byte)
  /-- R354. PAIR.CMD.HANDOVER sends a HANDOVER message, or is rejected with HANDOVER_BAD. -/
  | pairHandover (req : Req)
  /-- R354. The shadow promotes with cause HANDOVER and spoils nothing. -/
  | handoverReceive (msg : List Byte)
  /-- R355. PAIR.CMD.FW_SEND sends FW_TX as an FW message, or is rejected with FW_BUSY. -/
  | fwSend (req : Req)
  /-- R343. An FW message is stored in FW_RX, or dropped while FULL is set. -/
  | fwReceive (msg : List Byte)
  /-- R357. BST.CMD.START puts the named targets in TEST and saves lifetime counts, or is refused. -/
  | bistStart (req : Req)
  /-- R362. BST.CMD.ABORT ends the test at once with cleanup. -/
  | bistAbort (req : Req)
  /-- R360. The test ends, registers reset, windows are restored and the lanes return to IDLE. -/
  | bistDone (results : List BistResult)
  /-- R362. Every 1 us the on-die monitor samples VDD_CORE and aborts a test out of range. -/
  | vcoreSample (mv : BitVec 12)
  /-- R365. BST.CMD.IMG_SAVE copies a lane's window to its image with a fresh header. -/
  | imgSave (req : Req) (inst : BitVec 7)
  /-- R367. BST.CMD.BURN starts blowing fuse entries for a slot's soft repairs, or is refused. -/
  | fuseBurn (req : Req) (slot : BitVec 7) (fsrc : Bool)
  /-- R367. One fuse entry has been blown and a REPAIR Den entry is queued. -/
  | burnEntryDone
  /-- R367. FSRC falls during a burn and the burn stops with FSRC_LOW. -/
  | fsrcFall
  /-- R371. The SRAM scrub reads the next word, writing back or logging errors. -/
  | sramScrubRead (kind : Ecc) (table : Bool)
  /-- R370. A background task waits longer than its MAX_DEFER and OVERDUE is set. -/
  | backgroundOverdue (task : BgTask)
  /-- R376. The scheduler starts a due calibration item once its conditions hold. -/
  | calStart (item : CalItem) (inst : BitVec 6)
  /-- R377. CAL.CMD.RUN starts an item on an instance at once, or is rejected. -/
  | calRun (req : Req) (item : BitVec 4) (inst : BitVec 6)
  /-- R379. An item's run ends and its result is accepted or rejected, possibly suspending the instance. -/
  | calResult (item : CalItem) (inst : BitVec 6) (code : BitVec 16) (qual : Word) (eyes : List (BitVec 16 × BitVec 16))
  /-- R373. One step of an accepted value is applied at a permitted moment. -/
  | calStep (item : CalItem) (inst : BitVec 6) (eye : BitVec 16)
  /-- R378. An item due for MAX_DEFER seconds without starting sets OVERDUE. -/
  | calOverdue (item : CalItem) (inst : BitVec 6)
  /-- R387. The power-up scan of the Den ends and HEAD, NEXT_SEQ and OLDEST are set. -/
  | denScanDone
  /-- R386. A queued Den entry has been written to its ring slot. -/
  | denEntryWritten (back backPin : Option (BitVec 512))
  /-- R390. The token bucket refills at RATE_MAX per second. -/
  | denTokenRefill
  /-- R390. A write of RATE_MAX changes the bucket size and refill rate, clipping its content. -/
  | denRateWrite (req : Req) (data : Word)
  /-- R391. DEN.FW_GO queues a firmware entry, or is rejected. -/
  | denFwGo (req : Req)
  /-- R392. A write of RD_SLOT copies a slot into RD_DATA as one snapshot. -/
  | denRdSlot (req : Req) (data : Word)
  /-- R417. Firmware answers a HELLO with its version and BOOT_STAT. -/
  | hello
  /-- R417. Firmware starts or restarts PTP with the given port, profile, transport and domain. -/
  | ptpStart
  /-- R417. Firmware replies with the servo state and the last offset. -/
  | ptpState
  /-- R29. A cluster's timing-reference DLL loses lock while lanes are ARMED or FIRING, and every lane of the cluster goes to
  FAULT. -/
  | dllLockLoss (c : Clu)
  /-- R76. On the way down, HVPG[c] falls after HVEN[c] has dropped, HV_DOWN is raised and the HV_DIS_MS wait begins. -/
  | hvpgFall (c : Clu)
  /-- R362. A new die temperature sample updates PWR.TJ.TJ_MAX, which can abort a self-test outside -20 to +105 degC and move
  the drift reference of calibration items. -/
  | dieSensorSample (t : BitVec 12)
  /-- R73. During a keep-wet burst the FREQ timer expires and each lane sends the next spit line at drop level LEVEL. -/
  | spitLine
  /-- R365. The copy of a lane's window and header into its spool table image ends and BST returns to IDLE. -/
  | imgSaveDone
  deriving DecidableEq, Repr

end Sys2Proof
end

