-- ==== Sys2Proof/Machine/Map.lean ====
section
/-! DEFINITION. The address map (R8, R31, R32, R34): which page or table window a fabric address names, the type,
level and instance of a page, and the place of a field in the register file. -/

namespace Sys2Proof

/-- Lane LNn belongs to cluster n / 8 (R8). -/
def Lane.clu (l : Lane) : Clu := ⟨l.val / 8, by omega⟩

/-- The lanes of a cluster in rising order (R8). -/
def Clu.lanes (c : Clu) : List Lane :=
  (List.finRange 8).map fun k => ⟨8 * c.val + k.val, by omega⟩

/-- The REQ code of R43. -/
def Req.code : Req → Nat
  | .host => 0
  | .app k => 1 + k.val
  | .safe => 5
  | .jtag => 7

/-- REQ code of the device hardware acting alone (R43). -/
def Req.hw : Nat := 6

/-- The page type code TT (R34). -/
def Page.tt : Page → Nat
  | .sys => 0x00 | .pwr => 0x01 | .aon => 0x02 | .pmb => 0x03 | .clk => 0x04 | .fab => 0x05 | .core => 0x06
  | .fuse => 0x07 | .evt => 0x08 | .pci => 0x10 | .int => 0x11 | .cdc => 0x12 | .ddr => 0x14 | .ddrs _ => 0x15
  | .lst => 0x20 | .pln => 0x21 | .pace => 0x28 | .ax _ => 0x30 | .tim => 0x40 | .eth _ => 0x41 | .pair => 0x48
  | .bst => 0x50 | .cal => 0x51 | .scb => 0x52 | .den => 0x58 | .spl => 0x60 | .gio => 0x61
  | .clu _ => 0x80 | .scr _ => 0x81 | .seam _ => 0x82 | .ccal _ => 0x83 | .cpwr _ => 0x84
  | .lne _ => 0x90 | .seq _ => 0x91 | .wav _ => 0x92 | .vnl _ => 0x93

/-- The number of a page among the copies of its type (R34). -/
def Page.inst : Page → Nat
  | .ddrs k => k.val | .ax a => a.val | .eth p => p.val
  | .clu c => c.val | .scr c => c.val | .seam c => c.val | .ccal c => c.val | .cpwr c => c.val
  | .lne l => l.val | .seq l => l.val | .wav l => l.val | .vnl l => l.val
  | _ => 0

/-- 0 device, 1 cluster, 2 lane (R34). -/
def Page.level : Page → Nat
  | .clu _ => 1 | .scr _ => 1 | .seam _ => 1 | .ccal _ => 1 | .cpwr _ => 1
  | .lne _ => 2 | .seq _ => 2 | .wav _ => 2 | .vnl _ => 2
  | _ => 0

/-- The slot number of a page within its level: n of a device page, p of a cluster or lane page (R31, R34). -/
def Page.slot : Page → Nat
  | .clu _ => 0 | .scr _ => 1 | .seam _ => 2 | .ccal _ => 3 | .cpwr _ => 4
  | .lne _ => 0 | .seq _ => 1 | .wav _ => 2 | .vnl _ => 3
  | p => p.tt + p.inst

/-- The fabric address of a page (R31). -/
def Page.base (p : Page) : Nat :=
  if p.level = 0 then 0x1000 * p.slot
  else if p.level = 1 then 0x100000 + 0x10000 * p.inst + 0x1000 * p.slot
  else 0x200000 + 0x4000 * p.inst + 0x1000 * p.slot

/-- The cluster whose domain a page belongs to; none for a device page (R10, R34). -/
def Page.cluster : Page → Option Clu
  | .clu c => some c | .scr c => some c | .seam c => some c | .ccal c => some c | .cpwr c => some c
  | .lne l => some (Lane.clu l) | .seq l => some (Lane.clu l) | .wav l => some (Lane.clu l)
  | .vnl l => some (Lane.clu l)
  | _ => none

/-- The lane of a lane page. -/
def Page.lane : Page → Option Lane
  | .lne l => some l | .seq l => some l | .wav l => some l | .vnl l => some l
  | _ => none

/-- The device page in slot n, where the page type table has one (R32, R34). -/
def Page.ofSlot (n : Nat) : Option Page :=
  if n = 0x00 then some .sys else if n = 0x01 then some .pwr else if n = 0x02 then some .aon
  else if n = 0x03 then some .pmb else if n = 0x04 then some .clk else if n = 0x05 then some .fab
  else if n = 0x06 then some .core else if n = 0x07 then some .fuse else if n = 0x08 then some .evt
  else if n = 0x10 then some .pci else if n = 0x11 then some .int else if n = 0x12 then some .cdc
  else if n = 0x14 then some .ddr
  else if h : 0x15 ≤ n ∧ n < 0x19 then some (.ddrs ⟨n - 0x15, by omega⟩)
  else if n = 0x20 then some .lst else if n = 0x21 then some .pln else if n = 0x28 then some .pace
  else if h : 0x30 ≤ n ∧ n < 0x38 then some (.ax ⟨n - 0x30, by omega⟩)
  else if n = 0x40 then some .tim
  else if h : 0x41 ≤ n ∧ n < 0x43 then some (.eth ⟨n - 0x41, by omega⟩)
  else if n = 0x48 then some .pair else if n = 0x50 then some .bst else if n = 0x51 then some .cal
  else if n = 0x52 then some .scb else if n = 0x58 then some .den else if n = 0x60 then some .spl
  else if n = 0x61 then some .gio
  else none

/-- The fabric address map of R31. -/
def Target.ofAddr (a : Nat) : Target :=
  if a < 0x100000 then
    match Page.ofSlot (a / 0x1000) with
    | some p => .page p (a % 0x1000)
    | none => .unmapped
  else if h : a < 0x180000 then
    let c : Clu := ⟨(a - 0x100000) / 0x10000, by omega⟩
    let p := (a - 0x100000) % 0x10000 / 0x1000
    let o := a % 0x1000
    if p = 0 then .page (.clu c) o else if p = 1 then .page (.scr c) o else if p = 2 then .page (.seam c) o
    else if p = 3 then .page (.ccal c) o else if p = 4 then .page (.cpwr c) o else .unmapped
  else if h : 0x200000 ≤ a ∧ a < 0x300000 then
    let l : Lane := ⟨(a - 0x200000) / 0x4000, by omega⟩
    let p := (a - 0x200000) % 0x4000 / 0x1000
    let o := a % 0x1000
    if p = 0 then .page (.lne l) o else if p = 1 then .page (.seq l) o else if p = 2 then .page (.wav l) o
    else .page (.vnl l) o
  else if h : 0x1000000 ≤ a ∧ a < 0x2000000 then
    .window ⟨(a - 0x1000000) / 0x40000, by omega⟩ (a % 0x40000)
  else .unmapped

/-- The key of copy i of a field in the register file: the bit address of its lowest bit on the fabric. -/
def Row.key (p : Page) (r : Row) (i : Nat) : Nat := (p.base + r.off + r.stride * i) * 8 + r.lo

/-- Whether a value lies in a field's encoding and range (R38, R418). -/
def Chk.ok (c : Chk) (v : Nat) : Bool :=
  match c with
  | .any => true
  | .range lo hi => decide (lo ≤ v ∧ v ≤ hi)
  | .align m => v % m == 0
  | .zeroOr lo => v == 0 || decide (lo ≤ v)
  | .nibbles => v % 16 != 0 && v / 16 % 16 != 0 && v / 256 % 16 != 0 && v / 4096 % 16 != 0
  | .nozzles => v == 0 || (decide (1024 ≤ v ∧ v ≤ 4096) && v % 64 == 0)
  | .fwLen => decide (4 ≤ v ∧ v ≤ 256) && v % 4 == 0

end Sys2Proof
end

