-- ==== Sys2Proof/Machine/RegDevice.lean ====
section
/-! DEFINITION. The register tables of the device, power, core, intake, codec and spool pages: one `Row` for each field,
written from the spec's register tables (offset, lowest bit, width, access type, reset value, copies, distance between copies,
permitted values). -/

namespace Sys2Proof.Machine.Reg

/-! Page HDR (R35). -/
namespace HDR
  def PG_ID_LEVEL : Row := ⟨0x0, 0, 8, .ro, 0, 1, 4, .any⟩
  def PG_ID_INSTANCE : Row := ⟨0x0, 8, 8, .ro, 0, 1, 4, .any⟩
  def PG_ID_TYPE : Row := ⟨0x0, 16, 16, .ro, 0, 1, 4, .any⟩
  def PG_VER_MINOR : Row := ⟨0x4, 0, 8, .ro, 0, 1, 4, .any⟩
  def PG_VER_MAJOR : Row := ⟨0x4, 8, 8, .ro, 0, 1, 4, .any⟩
  def PG_CAP_HAS_CAL : Row := ⟨0x8, 0, 1, .ro, 0, 1, 4, .any⟩
  def PG_CAP_HAS_RWS : Row := ⟨0x8, 1, 1, .ro, 0, 1, 4, .any⟩
  def PG_CAP_BLOCK : Row := ⟨0x8, 8, 24, .ro, 0, 1, 4, .any⟩
  def PG_CTRL_EN : Row := ⟨0xC, 0, 1, .rw, 0, 1, 4, .any⟩
  def PG_CTRL_INIT : Row := ⟨0xC, 1, 1, .wo, 0, 1, 4, .any⟩
  def PG_CTRL_LOCK : Row := ⟨0xC, 2, 1, .rw, 0, 1, 4, .any⟩
  def PG_CTRL_COMMIT : Row := ⟨0xC, 8, 1, .wo, 0, 1, 4, .any⟩
  def PG_CTRL_COMMIT_AT : Row := ⟨0xC, 9, 3, .rw, 0, 1, 4, .any⟩
  def PG_CTRL_CANCEL : Row := ⟨0xC, 12, 1, .wo, 0, 1, 4, .any⟩
  def PG_STAT_STATE : Row := ⟨0x10, 0, 4, .ro, 0, 1, 4, .any⟩
  def PG_STAT_BUSY : Row := ⟨0x10, 4, 1, .ro, 0, 1, 4, .any⟩
  def PG_STAT_STALE : Row := ⟨0x10, 5, 1, .ro, 0, 1, 4, .any⟩
  def PG_STAT_COMMIT_PEND : Row := ⟨0x10, 6, 1, .ro, 0, 1, 4, .any⟩
  def PG_STAT_OVERDUE : Row := ⟨0x10, 7, 1, .ro, 0, 1, 4, .any⟩
  def PG_STAT_FAULT : Row := ⟨0x10, 8, 1, .ro, 0, 1, 4, .any⟩
  def PG_STAT_RUN : Row := ⟨0x10, 9, 1, .ro, 0, 1, 4, .any⟩
  def PG_STAT_PEND_AT : Row := ⟨0x10, 10, 3, .ro, 0, 1, 4, .any⟩
  def PG_EVT_RAW : Row := ⟨0x14, 0, 32, .ro, 0, 1, 4, .any⟩
  def PG_EVT_EN : Row := ⟨0x18, 0, 32, .rw, 0, 1, 4, .any⟩
  def PG_EVT_PEND : Row := ⟨0x1C, 0, 32, .w1c, 0, 1, 4, .any⟩
  def PG_ERR_CODE_CODE : Row := ⟨0x20, 0, 16, .ro, 0, 1, 4, .any⟩
  def PG_ERR_CODE_COUNT : Row := ⟨0x20, 16, 8, .ro, 0, 1, 4, .any⟩
  def PG_ERR_CODE_VALID : Row := ⟨0x20, 31, 1, .w1c, 0, 1, 4, .any⟩
  def PG_ERR_INFO : Row := ⟨0x24, 0, 32, .ro, 0, 1, 4, .any⟩
  def PG_ERR_TIME : Row := ⟨0x28, 0, 64, .ro, 0, 1, 4, .any⟩
  def PG_CALCNT : Row := ⟨0x30, 0, 32, .ro, 0, 1, 4, .any⟩
  def PG_CALQ : Row := ⟨0x34, 0, 32, .ro, 0, 1, 4, .any⟩
  def PG_CALT : Row := ⟨0x38, 0, 64, .ro, 0, 1, 4, .any⟩
  /-- The fields of the page (R35). -/
  def rows : List Row :=
    [PG_ID_LEVEL, PG_ID_INSTANCE, PG_ID_TYPE, PG_VER_MINOR, PG_VER_MAJOR, PG_CAP_HAS_CAL, PG_CAP_HAS_RWS, PG_CAP_BLOCK,
     PG_CTRL_EN, PG_CTRL_INIT, PG_CTRL_LOCK, PG_CTRL_COMMIT, PG_CTRL_COMMIT_AT, PG_CTRL_CANCEL, PG_STAT_STATE, PG_STAT_BUSY,
     PG_STAT_STALE, PG_STAT_COMMIT_PEND, PG_STAT_OVERDUE, PG_STAT_FAULT, PG_STAT_RUN, PG_STAT_PEND_AT, PG_EVT_RAW,
     PG_EVT_EN]
      ++ [PG_EVT_PEND, PG_ERR_CODE_CODE, PG_ERR_CODE_COUNT, PG_ERR_CODE_VALID, PG_ERR_INFO, PG_ERR_TIME, PG_CALCNT, PG_CALQ,
        PG_CALT]
end HDR

/-! Page SYS (R4, R22, R23). -/
namespace SYS
  def DEV_ID_PART : Row := ⟨0x40, 0, 16, .ro, 37476, 1, 4, .any⟩
  def DEV_ID_STEP : Row := ⟨0x40, 16, 8, .ro, 1, 1, 4, .any⟩
  def DEV_ID_CL_MASK : Row := ⟨0x40, 24, 8, .ro, 255, 1, 4, .any⟩
  def LANE_RDY_LINK_UP : Row := ⟨0x100, 0, 1, .ro, 0, 64, 4, .any⟩
  def LANE_RDY_TEMP_VALID : Row := ⟨0x100, 1, 1, .ro, 0, 64, 4, .any⟩
  def LANE_RDY_MAP_VALID : Row := ⟨0x100, 2, 1, .ro, 0, 64, 4, .any⟩
  def LANE_RDY_DLL_LOCK : Row := ⟨0x100, 3, 1, .ro, 0, 64, 4, .any⟩
  def LANE_RDY_HV_GOOD : Row := ⟨0x100, 4, 1, .ro, 0, 64, 4, .any⟩
  def LANE_RDY_AVAIL : Row := ⟨0x100, 5, 1, .ro, 0, 64, 4, .any⟩
  def LANE_RDY_ARMABLE : Row := ⟨0x100, 6, 1, .ro, 0, 64, 4, .any⟩
  def LANE_RDY_STATE : Row := ⟨0x100, 8, 4, .ro, 0, 64, 4, .any⟩
  def LANE_RDY_PRESENT : Row := ⟨0x100, 31, 1, .ro, 1, 64, 4, .any⟩
  def ARMABLE_LO : Row := ⟨0x48, 0, 32, .ro, 0, 1, 4, .any⟩
  def ARMABLE_HI : Row := ⟨0x4C, 0, 32, .ro, 0, 1, 4, .any⟩
  /-- The fields of the page (R4, R22, R23). -/
  def rows : List Row :=
    [DEV_ID_PART, DEV_ID_STEP, DEV_ID_CL_MASK, LANE_RDY_LINK_UP, LANE_RDY_TEMP_VALID, LANE_RDY_MAP_VALID, LANE_RDY_DLL_LOCK,
     LANE_RDY_HV_GOOD, LANE_RDY_AVAIL, LANE_RDY_ARMABLE, LANE_RDY_STATE, LANE_RDY_PRESENT, ARMABLE_LO, ARMABLE_HI]
end SYS

/-! Page GIO (R15). -/
namespace GIO
  def CTRL : Row := ⟨0x40, 0, 1, .rw, 1, 1, 4, .any⟩
  def STAT_FAULT_N : Row := ⟨0x44, 0, 1, .ro, 1, 1, 4, .any⟩
  def STAT_SLOWREQ : Row := ⟨0x44, 1, 1, .ro, 0, 1, 4, .any⟩
  def STAT_PRN_RDY : Row := ⟨0x44, 2, 1, .ro, 0, 1, 4, .any⟩
  def STAT_ROLE_I : Row := ⟨0x44, 3, 1, .ro, 0, 1, 4, .any⟩
  def STAT_ROLE_O : Row := ⟨0x44, 4, 1, .ro, 0, 1, 4, .any⟩
  def STAT_PFAULT_I : Row := ⟨0x44, 5, 1, .ro, 0, 1, 4, .any⟩
  def STAT_PFAULT_O : Row := ⟨0x44, 6, 1, .ro, 0, 1, 4, .any⟩
  def RDY_CNT : Row := ⟨0x48, 0, 32, .ro, 0, 1, 4, .any⟩
  /-- The fields of the page (R15). -/
  def rows : List Row :=
    [CTRL, STAT_FAULT_N, STAT_SLOWREQ, STAT_PRN_RDY, STAT_ROLE_I, STAT_ROLE_O, STAT_PFAULT_I, STAT_PFAULT_O, RDY_CNT]
end GIO

/-! Page FAB (R47). -/
namespace FAB
  def CTRL_HOST_UR : Row := ⟨0x40, 0, 1, .rw, 0, 1, 4, .any⟩
  def CTRL_CORE_FAULT : Row := ⟨0x40, 1, 1, .rw, 1, 1, 4, .any⟩
  def CTRL_CNT_CLR : Row := ⟨0x40, 31, 1, .wo, 0, 1, 4, .any⟩
  def LAST_ADDR : Row := ⟨0x44, 0, 32, .ro, 0, 1, 4, .any⟩
  def LAST_INFO_CODE : Row := ⟨0x48, 0, 8, .ro, 0, 1, 4, .any⟩
  def LAST_INFO_REQ : Row := ⟨0x48, 8, 4, .ro, 0, 1, 4, .any⟩
  def LAST_INFO_WR : Row := ⟨0x48, 12, 1, .ro, 0, 1, 4, .any⟩
  def CNT : Row := ⟨0x50, 0, 32, .ro, 0, 6, 4, .any⟩
  /-- The fields of the page (R47). -/
  def rows : List Row :=
    [CTRL_HOST_UR, CTRL_CORE_FAULT, CTRL_CNT_CLR, LAST_ADDR, LAST_INFO_CODE, LAST_INFO_REQ, LAST_INFO_WR, CNT]
end FAB

/-! Page CLU (R53). -/
namespace CLU
  def EVT_SUM_PAGE : Row := ⟨0x40, 0, 5, .ro, 0, 1, 4, .any⟩
  def EVT_SUM_LANE : Row := ⟨0x40, 8, 8, .ro, 0, 1, 4, .any⟩
  /-- The fields of the page (R53). -/
  def rows : List Row :=
    [EVT_SUM_PAGE, EVT_SUM_LANE]
end CLU

/-! Page EVT (R54). -/
namespace EVT
  def SUM : Row := ⟨0x40, 0, 32, .ro, 0, 5, 4, .any⟩
  def EOI : Row := ⟨0xA0, 0, 6, .wo, 0, 1, 4, .any⟩
  def ROUTE_VEC : Row := ⟨0x200, 0, 6, .rw, 0, 136, 4, .any⟩
  def ROUTE_HOST_EN : Row := ⟨0x200, 8, 1, .rw, 0, 136, 4, .any⟩
  def ROUTE_CORE_EN : Row := ⟨0x200, 9, 4, .rw, 0, 136, 4, .any⟩
  def ROUTE_SAFE_EN : Row := ⟨0x200, 13, 1, .rw, 0, 136, 4, .any⟩
  def VEC_PEND : Row := ⟨0xA8, 0, 32, .ro, 0, 2, 4, .any⟩
  /-- The fields of the page (R54). -/
  def rows : List Row :=
    [SUM, EOI, ROUTE_VEC, ROUTE_HOST_EN, ROUTE_CORE_EN, ROUTE_SAFE_EN, VEC_PEND]
end EVT

/-! Page PWR (R65). -/
namespace PWR
  def REQ : Row := ⟨0x40, 0, 3, .wo, 0, 1, 4, .any⟩
  def CLU_SEL : Row := ⟨0x44, 0, 8, .rw, 255, 1, 4, .any⟩
  def SLEEP_POL_AUTO_EN : Row := ⟨0x48, 0, 1, .rw, 0, 1, 4, .any⟩
  def SLEEP_POL_GRACE : Row := ⟨0x48, 8, 8, .rw, 100, 1, 4, .any⟩
  def SLEEP_POL_IDLE_S : Row := ⟨0x48, 16, 16, .rw, 600, 1, 4, .range 1 65535⟩
  def READY_POL : Row := ⟨0x4C, 0, 16, .rw, 0, 1, 4, .any⟩
  def WAKE_CAUSE_ALARM : Row := ⟨0x50, 0, 1, .w1c, 0, 1, 4, .any⟩
  def WAKE_CAUSE_SPIT : Row := ⟨0x50, 1, 1, .w1c, 0, 1, 4, .any⟩
  def WAKE_CAUSE_CMP : Row := ⟨0x50, 2, 6, .w1c, 0, 1, 4, .any⟩
  def WAKE_CAUSE_WAKE_REQ : Row := ⟨0x50, 8, 1, .w1c, 0, 1, 4, .any⟩
  def WAKE_CAUSE_PERST : Row := ⟨0x50, 9, 1, .w1c, 0, 1, 4, .any⟩
  def WAKE_CAUSE_COLD : Row := ⟨0x50, 10, 1, .w1c, 1, 1, 4, .any⟩
  def FAULT_CAUSE_PGOOD : Row := ⟨0x54, 0, 1, .w1c, 0, 1, 4, .any⟩
  def FAULT_CAUSE_TJ_SHUT : Row := ⟨0x54, 1, 1, .w1c, 0, 1, 4, .any⟩
  def FAULT_CAUSE_SAFE_WDT : Row := ⟨0x54, 2, 1, .w1c, 0, 1, 4, .any⟩
  def FAULT_CAUSE_CMP : Row := ⟨0x54, 3, 1, .w1c, 0, 1, 4, .any⟩
  def FAULT_CAUSE_PMB_CRIT : Row := ⟨0x54, 4, 1, .w1c, 0, 1, 4, .any⟩
  def TJ : Row := ⟨0x58, 0, 12, .ro, 0, 1, 4, .any⟩
  def TJ_LIM_TJ_WARN : Row := ⟨0x5C, 0, 12, .rwl, 420, 1, 4, .any⟩
  def TJ_LIM_TJ_SHUT : Row := ⟨0x5C, 16, 12, .rwl, 460, 1, 4, .any⟩
  def CLU_RDY : Row := ⟨0x60, 0, 8, .ro, 0, 1, 4, .any⟩
  /-- The fields of the page (R65). -/
  def rows : List Row :=
    [REQ, CLU_SEL, SLEEP_POL_AUTO_EN, SLEEP_POL_GRACE, SLEEP_POL_IDLE_S, READY_POL, WAKE_CAUSE_ALARM, WAKE_CAUSE_SPIT,
     WAKE_CAUSE_CMP, WAKE_CAUSE_WAKE_REQ, WAKE_CAUSE_PERST, WAKE_CAUSE_COLD, FAULT_CAUSE_PGOOD, FAULT_CAUSE_TJ_SHUT,
     FAULT_CAUSE_SAFE_WDT, FAULT_CAUSE_CMP, FAULT_CAUSE_PMB_CRIT, TJ, TJ_LIM_TJ_WARN, TJ_LIM_TJ_SHUT, CLU_RDY]
end PWR

/-! Page AON (R72). -/
namespace AON
  def RTC_SUB : Row := ⟨0x40, 0, 15, .ro, 0, 1, 4, .any⟩
  def RTC_SEC : Row := ⟨0x44, 0, 32, .ro, 0, 1, 4, .any⟩
  def RTC_LOAD_SEC : Row := ⟨0x48, 0, 32, .wo, 0, 1, 4, .any⟩
  def RTC_LOAD_SUB : Row := ⟨0x48, 32, 15, .wo, 0, 1, 4, .any⟩
  def RTC_CTRL_X32_FAIL : Row := ⟨0x50, 0, 1, .w1c, 0, 1, 4, .any⟩
  def RTC_CTRL_X32_RUN : Row := ⟨0x50, 1, 1, .ro, 0, 1, 4, .any⟩
  def ALARM_SEC : Row := ⟨0x54, 0, 32, .rw, 0, 1, 4, .any⟩
  def ALARM_CTRL : Row := ⟨0x58, 0, 1, .rw, 0, 1, 4, .any⟩
  def CMP_CTRL_DAC : Row := ⟨0x60, 0, 8, .rw, 0, 6, 4, .any⟩
  def CMP_CTRL_HYST : Row := ⟨0x60, 8, 2, .rw, 0, 6, 4, .any⟩
  def CMP_CTRL_POL : Row := ⟨0x60, 10, 1, .rw, 0, 6, 4, .any⟩
  def CMP_CTRL_EN : Row := ⟨0x60, 11, 1, .rw, 0, 6, 4, .any⟩
  def CMP_CTRL_DEBOUNCE : Row := ⟨0x60, 12, 4, .rw, 2, 6, 4, .range 1 15⟩
  def CMP_CTRL_ACTION : Row := ⟨0x60, 16, 2, .rw, 0, 6, 4, .any⟩
  def CMP_CTRL_OUT : Row := ⟨0x60, 24, 1, .ro, 0, 6, 4, .any⟩
  def WAKE_EN : Row := ⟨0x80, 0, 11, .rw, 1792, 1, 4, .any⟩
  def SPIT_CTRL_EN : Row := ⟨0x84, 0, 1, .rw, 0, 1, 4, .any⟩
  def SPIT_CTRL_AWAKE : Row := ⟨0x84, 1, 1, .rw, 1, 1, 4, .any⟩
  def SPIT_CTRL_PERMIT : Row := ⟨0x84, 3, 3, .rw, 0, 1, 4, .range 0 6⟩
  def SPIT_CTRL_LEVEL : Row := ⟨0x84, 8, 3, .rw, 2, 1, 4, .range 1 7⟩
  def SPIT_CTRL_DROPS : Row := ⟨0x84, 16, 8, .rw, 8, 1, 4, .range 1 255⟩
  def SPIT_INT_INTERVAL : Row := ⟨0x88, 0, 16, .rw, 900, 1, 4, .range 10 65535⟩
  def SPIT_INT_FREQ : Row := ⟨0x88, 16, 16, .rw, 200, 1, 4, .range 10 1600⟩
  def SPIT_NEXT : Row := ⟨0x8C, 0, 32, .ro, 0, 1, 4, .any⟩
  def SPIT_CNT : Row := ⟨0x90, 0, 32, .ro, 0, 1, 4, .any⟩
  def SPIT_SKIP : Row := ⟨0x94, 0, 32, .ro, 0, 1, 4, .any⟩
  /-- The fields of the page (R72). -/
  def rows : List Row :=
    [RTC_SUB, RTC_SEC, RTC_LOAD_SEC, RTC_LOAD_SUB, RTC_CTRL_X32_FAIL, RTC_CTRL_X32_RUN, ALARM_SEC, ALARM_CTRL, CMP_CTRL_DAC,
     CMP_CTRL_HYST, CMP_CTRL_POL, CMP_CTRL_EN, CMP_CTRL_DEBOUNCE, CMP_CTRL_ACTION, CMP_CTRL_OUT, WAKE_EN, SPIT_CTRL_EN,
     SPIT_CTRL_AWAKE, SPIT_CTRL_PERMIT, SPIT_CTRL_LEVEL, SPIT_CTRL_DROPS, SPIT_INT_INTERVAL, SPIT_INT_FREQ, SPIT_NEXT]
      ++ [SPIT_CNT, SPIT_SKIP]
end AON

/-! Page CPWR (R81). -/
namespace CPWR
  def CTRL_DVFS_AUTO : Row := ⟨0x40, 0, 1, .rw, 1, 1, 4, .any⟩
  def CTRL_OP : Row := ⟨0x40, 1, 2, .rws, 0, 1, 4, .any⟩
  def STAT_DOM_UP : Row := ⟨0x44, 0, 1, .ro, 0, 1, 4, .any⟩
  def STAT_HVEN : Row := ⟨0x44, 1, 1, .ro, 0, 1, 4, .any⟩
  def STAT_HVPG : Row := ⟨0x44, 2, 1, .ro, 0, 1, 4, .any⟩
  def STAT_DLL_LOCK : Row := ⟨0x44, 3, 1, .ro, 0, 1, 4, .any⟩
  def STAT_OP_ACT : Row := ⟨0x44, 4, 2, .ro, 0, 1, 4, .any⟩
  def HV_TIME_HV_TMO : Row := ⟨0x48, 0, 16, .rw, 20, 1, 4, .range 1 100⟩
  def HV_TIME_HV_DIS_MS : Row := ⟨0x48, 16, 16, .rw, 10, 1, 4, .range 1 100⟩
  def HV_SET : Row := ⟨0x4C, 0, 16, .rws, 0, 1, 4, .any⟩
  /-- The fields of the page (R81). -/
  def rows : List Row :=
    [CTRL_DVFS_AUTO, CTRL_OP, STAT_DOM_UP, STAT_HVEN, STAT_HVPG, STAT_DLL_LOCK, STAT_OP_ACT, HV_TIME_HV_TMO,
     HV_TIME_HV_DIS_MS, HV_SET]
end CPWR

/-! Page PMB (R83). -/
namespace PMB
  def CTRL_SPEED : Row := ⟨0x40, 0, 2, .rw, 0, 1, 4, .range 0 2⟩
  def CTRL_PEC : Row := ⟨0x40, 2, 1, .rw, 1, 1, 4, .any⟩
  def POLL : Row := ⟨0x44, 0, 8, .rw, 10, 1, 4, .range 1 255⟩
  def RAIL_CFG_ADDR : Row := ⟨0x100, 0, 7, .rw, 0, 16, 16, .any⟩
  def RAIL_CFG_VALID : Row := ⟨0x100, 7, 1, .rw, 0, 16, 16, .any⟩
  def RAIL_CFG_ROLE : Row := ⟨0x100, 8, 4, .rw, 0, 16, 16, .any⟩
  def RAIL_CFG_PAGE : Row := ⟨0x100, 12, 4, .rw, 0, 16, 16, .any⟩
  def RAIL_CFG_CRIT : Row := ⟨0x100, 16, 1, .rw, 0, 16, 16, .any⟩
  def RAIL_VSET : Row := ⟨0x104, 0, 16, .rw, 0, 16, 16, .any⟩
  def RAIL_MEAS_VOUT : Row := ⟨0x108, 0, 16, .ro, 0, 16, 16, .any⟩
  def RAIL_MEAS_IOUT : Row := ⟨0x108, 16, 16, .ro, 0, 16, 16, .any⟩
  def RAIL_STAT : Row := ⟨0x10C, 0, 16, .ro, 0, 16, 16, .any⟩
  /-- The fields of the page (R83). -/
  def rows : List Row :=
    [CTRL_SPEED, CTRL_PEC, POLL, RAIL_CFG_ADDR, RAIL_CFG_VALID, RAIL_CFG_ROLE, RAIL_CFG_PAGE, RAIL_CFG_CRIT, RAIL_VSET,
     RAIL_MEAS_VOUT, RAIL_MEAS_IOUT, RAIL_STAT]
end PMB

/-! Page CLK (R84). -/
namespace CLK
  def LOCK : Row := ⟨0x40, 8, 8, .ro, 0, 1, 4, .any⟩
  def MSEL : Row := ⟨0x44, 0, 1, .rwl, 0, 1, 4, .any⟩
  def DCLK_CL : Row := ⟨0x80, 0, 12, .ro, 0, 8, 4, .any⟩
  def LOCK_CCLK : Row := ⟨0x40, 0, 1, .ro, 0, 1, 4, .any⟩
  def LOCK_FCLK : Row := ⟨0x40, 1, 1, .ro, 0, 1, 4, .any⟩
  def LOCK_MCLK : Row := ⟨0x40, 2, 1, .ro, 0, 1, 4, .any⟩
  def LOCK_TCLK : Row := ⟨0x40, 3, 1, .ro, 0, 1, 4, .any⟩
  def LOCK_DCLK : Row := ⟨0x40, 4, 1, .ro, 0, 1, 4, .any⟩
  /-- The fields of the page (R84). -/
  def rows : List Row :=
    [LOCK, MSEL, DCLK_CL, LOCK_CCLK, LOCK_FCLK, LOCK_MCLK, LOCK_TCLK, LOCK_DCLK]
end CLK

/-! Page FUSE (R96, R366). -/
namespace FUSE
  def SEC_SECURE : Row := ⟨0x40, 0, 1, .ro, 0, 1, 4, .any⟩
  def SEC_KEY_REVOKE : Row := ⟨0x40, 4, 4, .ro, 0, 1, 4, .any⟩
  def SVN : Row := ⟨0x48, 0, 64, .ro, 0, 1, 4, .any⟩
  def KEY_HASH : Row := ⟨0x80, 0, 256, .ro, 0, 4, 32, .any⟩
  def REPAIR_ARRAY : Row := ⟨0x400, 0, 11, .ro, 0, 512, 4, .any⟩
  def REPAIR_ROW : Row := ⟨0x400, 11, 9, .ro, 0, 512, 4, .any⟩
  def REPAIR_SPARE : Row := ⟨0x400, 20, 1, .ro, 0, 512, 4, .any⟩
  def REPAIR_VALID : Row := ⟨0x400, 31, 1, .ro, 0, 512, 4, .any⟩
  /-- The fields of the page (R96, R366). -/
  def rows : List Row :=
    [SEC_SECURE, SEC_KEY_REVOKE, SVN, KEY_HASH, REPAIR_ARRAY, REPAIR_ROW, REPAIR_SPARE, REPAIR_VALID]
end FUSE

/-! Page CORE (R97). -/
namespace CORE
  def BOOT_STAT_STAGE : Row := ⟨0x40, 0, 4, .ro, 0, 1, 4, .any⟩
  def BOOT_STAT_SRC : Row := ⟨0x40, 4, 2, .ro, 0, 1, 4, .any⟩
  def BOOT_STAT_SECURE : Row := ⟨0x40, 6, 1, .ro, 0, 1, 4, .any⟩
  def BOOT_STAT_WARM : Row := ⟨0x40, 7, 1, .ro, 0, 1, 4, .any⟩
  def BOOT_STAT_KEY_SLOT : Row := ⟨0x40, 8, 2, .ro, 0, 1, 4, .any⟩
  def BOOT_STAT_SVN : Row := ⟨0x40, 16, 7, .ro, 0, 1, 4, .any⟩
  def BOOT_CMD : Row := ⟨0x44, 0, 1, .wo, 0, 1, 4, .any⟩
  def PUSH_DATA : Row := ⟨0x48, 0, 32, .wo, 0, 1, 4, .any⟩
  def PUSH_ROOM : Row := ⟨0x4C, 0, 13, .ro, 4096, 1, 4, .any⟩
  def HART_CTRL_RUN : Row := ⟨0x50, 0, 4, .rw, 0, 1, 4, .any⟩
  def HART_CTRL_RST : Row := ⟨0x50, 4, 4, .wo, 0, 1, 4, .any⟩
  def HART_STAT_RUNNING : Row := ⟨0x54, 0, 4, .ro, 0, 1, 4, .any⟩
  def HART_STAT_WDT_HALT : Row := ⟨0x54, 4, 4, .ro, 0, 1, 4, .any⟩
  def HART_STAT_SAFE_RUN : Row := ⟨0x54, 8, 1, .ro, 0, 1, 4, .any⟩
  def WDT_TIMEOUT : Row := ⟨0x60, 0, 20, .rw, 100000, 4, 8, .any⟩
  def WDT4_TIMEOUT : Row := ⟨0x80, 0, 20, .rw, 10000, 1, 8, .any⟩
  def WDT_EN : Row := ⟨0x60, 31, 1, .rw, 0, 5, 8, .any⟩
  def WDT_KICKk : Row := ⟨0x64, 0, 8, .wo, 0, 5, 8, .any⟩
  def MBX_H2C_CTRL_LEN : Row := ⟨0xA0, 0, 9, .rw, 0, 1, 4, .range 0 256⟩
  def MBX_H2C_CTRL_FULL : Row := ⟨0xA0, 31, 1, .rw, 0, 1, 4, .any⟩
  def MBX_C2H_CTRL_LEN : Row := ⟨0xA4, 0, 9, .rw, 0, 1, 4, .range 0 256⟩
  def MBX_C2H_CTRL_FULL : Row := ⟨0xA4, 31, 1, .rw, 0, 1, 4, .any⟩
  def MBX_H2C : Row := ⟨0x400, 0, 32, .rw, 0, 64, 4, .any⟩
  def MBX_C2H : Row := ⟨0x500, 0, 32, .rw, 0, 64, 4, .any⟩
  /-- The fields of the page (R97). -/
  def rows : List Row :=
    [BOOT_STAT_STAGE, BOOT_STAT_SRC, BOOT_STAT_SECURE, BOOT_STAT_WARM, BOOT_STAT_KEY_SLOT, BOOT_STAT_SVN, BOOT_CMD,
     PUSH_DATA, PUSH_ROOM, HART_CTRL_RUN, HART_CTRL_RST, HART_STAT_RUNNING, HART_STAT_WDT_HALT, HART_STAT_SAFE_RUN,
     WDT_TIMEOUT, WDT4_TIMEOUT, WDT_EN, WDT_KICKk, MBX_H2C_CTRL_LEN, MBX_H2C_CTRL_FULL, MBX_C2H_CTRL_LEN, MBX_C2H_CTRL_FULL,
     MBX_H2C, MBX_C2H]
end CORE

/-! Page PCI (R105, R106). -/
namespace PCI
  def LINK_SPEED : Row := ⟨0x40, 0, 4, .ro, 0, 1, 4, .any⟩
  def LINK_WIDTH : Row := ⟨0x40, 4, 6, .ro, 0, 1, 4, .any⟩
  def LINK_REVERSED : Row := ⟨0x40, 10, 1, .ro, 0, 1, 4, .any⟩
  def LINK_UP : Row := ⟨0x40, 11, 1, .ro, 0, 1, 4, .any⟩
  def LINK_CTRL : Row := ⟨0x44, 0, 4, .rwl, 4, 1, 4, .range 1 4⟩
  def RD_OUT : Row := ⟨0x48, 0, 8, .rw, 128, 1, 4, .range 1 128⟩
  def MSIX_LO : Row := ⟨0x800, 0, 32, .rw, 0, 64, 16, .any⟩
  def MSIX_HI : Row := ⟨0x804, 0, 32, .rw, 0, 64, 16, .any⟩
  def MSIX_DATA : Row := ⟨0x808, 0, 32, .rw, 0, 64, 16, .any⟩
  def MSIX_MASK : Row := ⟨0x80C, 0, 1, .rw, 1, 64, 16, .any⟩
  def MSIX_PBA : Row := ⟨0xC00, 0, 32, .ro, 0, 2, 4, .any⟩
  /-- The fields of the page (R105, R106). -/
  def rows : List Row :=
    [LINK_SPEED, LINK_WIDTH, LINK_REVERSED, LINK_UP, LINK_CTRL, RD_OUT, MSIX_LO, MSIX_HI, MSIX_DATA, MSIX_MASK, MSIX_PBA]
end PCI

/-! Page INT (R107, R111). -/
namespace INT
  def RING_BASE : Row := ⟨0x100, 0, 64, .rw, 0, 10, 32, .align 64⟩
  def RING_SIZE : Row := ⟨0x108, 0, 5, .rw, 4, 9, 32, .range 4 16⟩
  def RING9_SIZE : Row := ⟨0x228, 0, 5, .rw, 8, 1, 32, .range 8 16⟩
  def RING_CTRL_EN : Row := ⟨0x10C, 0, 1, .rw, 0, 10, 32, .any⟩
  def RING_CTRL_RESET : Row := ⟨0x10C, 1, 1, .wo, 0, 10, 32, .any⟩
  def RING_DB : Row := ⟨0x110, 0, 16, .rw, 0, 10, 32, .any⟩
  def RING_HEAD : Row := ⟨0x114, 0, 16, .ro, 0, 10, 32, .any⟩
  def RING_STAT : Row := ⟨0x118, 0, 3, .ro, 0, 10, 32, .any⟩
  def RING_COUNT : Row := ⟨0x11C, 0, 32, .ro, 0, 10, 32, .any⟩
  def CTRL_ENC_MAX : Row := ⟨0x40, 0, 4, .rw, 12, 1, 4, .range 1 12⟩
  def CTRL_REREQ_MAX : Row := ⟨0x40, 4, 2, .rw, 2, 1, 4, .range 1 3⟩
  def CTRL_GAIN_MAX : Row := ⟨0x40, 8, 8, .rw, 224, 1, 4, .any⟩
  def HEAP_BASE : Row := ⟨0x44, 0, 16, .rw, 64, 1, 4, .range 64 65535⟩
  def HEAP_SIZE : Row := ⟨0x48, 0, 16, .rw, 0, 1, 4, .any⟩
  def CREDIT : Row := ⟨0x4C, 0, 25, .ro, 0, 1, 4, .any⟩
  def CREDIT_LOW : Row := ⟨0x50, 0, 25, .rw, 0, 1, 4, .any⟩
  def CQ_COAL_COUNT : Row := ⟨0x54, 0, 8, .rw, 1, 1, 4, .range 1 255⟩
  def CQ_COAL_TIME_US : Row := ⟨0x54, 8, 16, .rw, 0, 1, 4, .any⟩
  def OPEN : Row := ⟨0x58, 0, 7, .ro, 0, 1, 4, .any⟩
  def PQUOTA : Row := ⟨0x60, 0, 16, .rw, 0, 8, 4, .any⟩
  /-- The fields of the page (R107, R111). -/
  def rows : List Row :=
    [RING_BASE, RING_SIZE, RING9_SIZE, RING_CTRL_EN, RING_CTRL_RESET, RING_DB, RING_HEAD, RING_STAT, RING_COUNT,
     CTRL_ENC_MAX, CTRL_REREQ_MAX, CTRL_GAIN_MAX, HEAP_BASE, HEAP_SIZE, CREDIT, CREDIT_LOW, CQ_COAL_COUNT, CQ_COAL_TIME_US,
     OPEN, PQUOTA]
end INT

/-! Page CDC (R153). -/
namespace CDC
  def CTRL_HOST_ENC_MAX : Row := ⟨0x40, 0, 4, .rw, 4, 1, 4, .range 0 12⟩
  def CTRL_FW_ENC_MAX : Row := ⟨0x40, 4, 4, .rw, 2, 1, 4, .range 0 12⟩
  def CTRL_PARK_TMO : Row := ⟨0x40, 8, 8, .rw, 10, 1, 4, .range 1 255⟩
  def PRESET_BASE : Row := ⟨0x44, 0, 16, .rw, 0, 1, 4, .any⟩
  def PRESET_VALID : Row := ⟨0x50, 0, 32, .ro, 0, 8, 4, .any⟩
  def DEC_BUSY : Row := ⟨0x70, 0, 16, .ro, 0, 1, 4, .any⟩
  def ENC_OWNER : Row := ⟨0x74, 0, 24, .ro, 0, 1, 4, .any⟩
  def DEC_FAIL : Row := ⟨0x78, 0, 32, .ro, 0, 1, 4, .any⟩
  def ENC_NOGAIN : Row := ⟨0x7C, 0, 32, .ro, 0, 1, 4, .any⟩
  def FJOB_DESC : Row := ⟨0x100, 0, 32, .rw, 0, 12, 4, .any⟩
  def FJOB_GO : Row := ⟨0x130, 0, 1, .wo, 0, 1, 4, .any⟩
  def FJOB_SLOT : Row := ⟨0x134, 0, 4, .ro, 0, 1, 4, .any⟩
  def JS_STAT_STATE : Row := ⟨0x200, 0, 3, .ro, 0, 16, 32, .any⟩
  def JS_STAT_NO_GAIN : Row := ⟨0x200, 3, 1, .ro, 0, 16, 32, .any⟩
  def JS_STAT_ENC : Row := ⟨0x200, 4, 4, .ro, 0, 16, 32, .any⟩
  def JS_STAT_RESULT : Row := ⟨0x200, 16, 16, .ro, 0, 16, 32, .any⟩
  def JS_TAG : Row := ⟨0x204, 0, 32, .ro, 0, 16, 32, .any⟩
  def JS_OUT : Row := ⟨0x208, 0, 17, .ro, 0, 16, 32, .any⟩
  def JS_IN : Row := ⟨0x20C, 0, 17, .ro, 0, 16, 32, .any⟩
  def JS_CHAIN : Row := ⟨0x210, 0, 13, .rw, 0, 16, 32, .range 0 4096⟩
  def JS_CTRL_ABORT : Row := ⟨0x214, 0, 1, .wo, 0, 16, 32, .any⟩
  def JS_CTRL_RELEASE : Row := ⟨0x214, 1, 1, .wo, 0, 16, 32, .any⟩
  /-- The fields of the page (R153). -/
  def rows : List Row :=
    [CTRL_HOST_ENC_MAX, CTRL_FW_ENC_MAX, CTRL_PARK_TMO, PRESET_BASE, PRESET_VALID, DEC_BUSY, ENC_OWNER, DEC_FAIL,
     ENC_NOGAIN, FJOB_DESC, FJOB_GO, FJOB_SLOT, JS_STAT_STATE, JS_STAT_NO_GAIN, JS_STAT_ENC, JS_STAT_RESULT, JS_TAG, JS_OUT,
     JS_IN, JS_CHAIN, JS_CTRL_ABORT, JS_CTRL_RELEASE]
end CDC

/-! Page DDR (R175). -/
namespace DDR
  def CFG_RATE : Row := ⟨0x40, 0, 1, .ro, 0, 1, 4, .any⟩
  def CFG_DENSITY : Row := ⟨0x40, 1, 2, .ro, 0, 1, 4, .any⟩
  def CFG_RANK2 : Row := ⟨0x40, 3, 1, .ro, 0, 1, 4, .any⟩
  def CFG_SIZE_GIB : Row := ⟨0x40, 8, 8, .ro, 0, 1, 4, .any⟩
  def REF_CTRL_MAX_POSTPONE : Row := ⟨0x44, 0, 3, .rw, 4, 1, 4, .range 0 4⟩
  def REF_CTRL_MR4_MS : Row := ⟨0x44, 8, 8, .rw, 16, 1, 4, .range 1 255⟩
  def REF_CTRL_MAX_POSTPONE_ACT : Row := ⟨0x44, 16, 3, .ro, 4, 1, 4, .any⟩
  def PORT_WT : Row := ⟨0x48, 0, 16, .rw, 8836, 1, 4, .nibbles⟩
  def STAT_PANIC : Row := ⟨0x4C, 0, 1, .ro, 0, 1, 4, .any⟩
  def STAT_HOT : Row := ⟨0x4C, 1, 4, .ro, 0, 1, 4, .any⟩
  def SR_CTRL_AUTO_EN : Row := ⟨0x50, 0, 1, .rw, 0, 1, 4, .any⟩
  def SR_CTRL_AUTO_US : Row := ⟨0x50, 16, 16, .rw, 1000, 1, 4, .range 1 65535⟩
  def SCRUB_EN : Row := ⟨0x54, 0, 1, .rw, 1, 1, 4, .any⟩
  def SCRUB_HOURS : Row := ⟨0x54, 8, 8, .rw, 24, 1, 4, .range 1 255⟩
  def SCRUB_MAX_DEFER_MS : Row := ⟨0x54, 16, 16, .rw, 1000, 1, 4, .range 1 65535⟩
  def SCRUB_POS : Row := ⟨0x58, 0, 30, .ro, 0, 1, 4, .any⟩
  def SCRUB_PASS : Row := ⟨0x5C, 0, 32, .ro, 0, 1, 4, .any⟩
  def CE_CNT : Row := ⟨0x60, 0, 32, .ro, 0, 1, 4, .any⟩
  def UE_CNT : Row := ⟨0x64, 0, 32, .ro, 0, 1, 4, .any⟩
  def PANIC_CNT : Row := ⟨0x68, 0, 32, .ro, 0, 1, 4, .any⟩
  def HOT_CNT : Row := ⟨0x6C, 0, 32, .ro, 0, 1, 4, .any⟩
  def SR_ABORT : Row := ⟨0x70, 0, 32, .ro, 0, 1, 4, .any⟩
  def STALL_MAX : Row := ⟨0x74, 0, 16, .ro, 0, 1, 4, .any⟩
  def LAST_CE : Row := ⟨0x80, 0, 64, .ro, 0, 1, 4, .any⟩
  def LAST_UE : Row := ⟨0x88, 0, 64, .ro, 0, 1, 4, .any⟩
  /-- The fields of the page (R175). -/
  def rows : List Row :=
    [CFG_RATE, CFG_DENSITY, CFG_RANK2, CFG_SIZE_GIB, REF_CTRL_MAX_POSTPONE, REF_CTRL_MR4_MS, REF_CTRL_MAX_POSTPONE_ACT,
     PORT_WT, STAT_PANIC, STAT_HOT, SR_CTRL_AUTO_EN, SR_CTRL_AUTO_US, SCRUB_EN, SCRUB_HOURS, SCRUB_MAX_DEFER_MS, SCRUB_POS,
     SCRUB_PASS, CE_CNT, UE_CNT, PANIC_CNT, HOT_CNT, SR_ABORT, STALL_MAX, LAST_CE]
      ++ [LAST_UE]
end DDR

/-! Page DDRS (R176). -/
namespace DDRS
  def TRAIN_DONE : Row := ⟨0x40, 0, 1, .ro, 0, 1, 4, .any⟩
  def TRAIN_PASS : Row := ⟨0x40, 1, 1, .ro, 0, 1, 4, .any⟩
  def TRAIN_STEP : Row := ⟨0x40, 4, 3, .ro, 0, 1, 4, .any⟩
  def TRAIN_LANE : Row := ⟨0x40, 8, 3, .ro, 0, 1, 4, .any⟩
  def TEMP_RANGE : Row := ⟨0x44, 0, 2, .ro, 0, 1, 4, .any⟩
  def TEMP_MR4 : Row := ⟨0x44, 8, 8, .ro, 0, 1, 4, .any⟩
  def OWED_RANK0 : Row := ⟨0x48, 0, 3, .ro, 0, 1, 4, .any⟩
  def OWED_RANK1 : Row := ⟨0x48, 4, 3, .ro, 0, 1, 4, .any⟩
  def REF_CNT : Row := ⟨0x4C, 0, 32, .ro, 0, 1, 4, .any⟩
  def CE_DEV : Row := ⟨0x50, 0, 32, .ro, 0, 5, 4, .any⟩
  def UE_CNT : Row := ⟨0x64, 0, 32, .ro, 0, 1, 4, .any⟩
  def EYE_RD : Row := ⟨0x70, 0, 16, .ro, 0, 5, 4, .any⟩
  def EYE_WR : Row := ⟨0x70, 16, 16, .ro, 0, 5, 4, .any⟩
  /-- The fields of the page (R176). -/
  def rows : List Row :=
    [TRAIN_DONE, TRAIN_PASS, TRAIN_STEP, TRAIN_LANE, TEMP_RANGE, TEMP_MR4, OWED_RANK0, OWED_RANK1, REF_CNT, CE_DEV, UE_CNT,
     EYE_RD, EYE_WR]
end DDRS

end Sys2Proof.Machine.Reg
end

