-- ==== Sys2Proof/Machine/RegPrint.lean ====
section
/-! DEFINITION. The register tables of the Last, lane, cluster, pace and axis pages: one `Row` for each field, written from
the spec's register tables (offset, lowest bit, width, access type, reset value, copies, distance between copies, permitted
values). -/

namespace Sys2Proof.Machine.Reg

/-! Page PLN (R183). -/
namespace PLN
  def MAP_STAT_PLANES : Row := ⟨0x40, 0, 8, .ro, 0, 1, 4, .any⟩
  def MAP_STAT_LANES : Row := ⟨0x40, 8, 7, .ro, 0, 1, 4, .any⟩
  def PLANE_WIDTH : Row := ⟨0x100, 0, 19, .rws, 0, 8, 32, .range 0 262144⟩
  def PLANE_ORIGIN : Row := ⟨0x104, 0, 19, .rws, 0, 8, 32, .range 0 262143⟩
  def PLANE_YOFF : Row := ⟨0x108, 0, 16, .rws, 0, 8, 32, .any⟩
  def PLANE_MODE_LINEAR : Row := ⟨0x10C, 0, 1, .rws, 0, 8, 32, .any⟩
  def PLANE_MODE_BAND_KIB : Row := ⟨0x10C, 16, 13, .rws, 640, 8, 32, .range 0 5120⟩
  def PLANE_PSTAT_W_P : Row := ⟨0x110, 0, 19, .ro, 0, 8, 32, .any⟩
  def PLANE_PSTAT_NLANES : Row := ⟨0x110, 19, 7, .ro, 0, 8, 32, .any⟩
  def LMAP_PLANE : Row := ⟨0x400, 0, 3, .rws, 0, 64, 4, .any⟩
  def LMAP_EN : Row := ⟨0x400, 3, 1, .rws, 0, 64, 4, .any⟩
  def LMAP_POS : Row := ⟨0x400, 4, 6, .rws, 0, 64, 4, .any⟩
  def LMAP_OVL : Row := ⟨0x400, 16, 8, .rws, 0, 64, 4, .range 0 128⟩
  /-- The fields of the page (R183). -/
  def rows : List Row :=
    [MAP_STAT_PLANES, MAP_STAT_LANES, PLANE_WIDTH, PLANE_ORIGIN, PLANE_YOFF, PLANE_MODE_LINEAR, PLANE_MODE_BAND_KIB,
     PLANE_PSTAT_W_P, PLANE_PSTAT_NLANES, LMAP_PLANE, LMAP_EN, LMAP_POS, LMAP_OVL]
end PLN

/-! Page LST (R199). -/
namespace LST
  def CTRL_LATE_REJECT : Row := ⟨0x40, 0, 1, .rw, 0, 1, 4, .any⟩
  def CTRL_REREQ_RES : Row := ⟨0x40, 4, 4, .rw, 1, 1, 4, .any⟩
  def CTRL_LEAD : Row := ⟨0x40, 8, 4, .rw, 8, 1, 4, .range 4 14⟩
  def CTRL_PANIC_LOW : Row := ⟨0x40, 12, 4, .rw, 10, 1, 4, .range 9 15⟩
  def CTRL_PANIC_HIGH : Row := ⟨0x40, 16, 4, .rw, 12, 1, 4, .any⟩
  def TOF_DELAY_WL : Row := ⟨0x44, 0, 16, .rw, 0, 1, 4, .any⟩
  def TOF_SRC : Row := ⟨0x44, 16, 3, .rw, 0, 1, 4, .range 0 6⟩
  def START : Row := ⟨0x48, 0, 32, .wo, 0, 1, 4, .any⟩
  def NEXT : Row := ⟨0x4C, 0, 32, .ro, 0, 1, 4, .any⟩
  def CUR : Row := ⟨0x50, 0, 32, .ro, 0, 1, 4, .any⟩
  def CUR_COPY : Row := ⟨0x54, 0, 16, .ro, 0, 1, 4, .any⟩
  def FSAFE_NEXT : Row := ⟨0x58, 0, 16, .ro, 0, 1, 4, .any⟩
  def FSAFE_CUR : Row := ⟨0x58, 16, 16, .ro, 0, 1, 4, .any⟩
  def TAGS_USED : Row := ⟨0x5C, 0, 10, .ro, 0, 1, 4, .any⟩
  def TAGS_PEAK : Row := ⟨0x5C, 16, 10, .ro, 0, 1, 4, .any⟩
  def LATE_CNT : Row := ⟨0x60, 0, 32, .ro, 0, 1, 4, .any⟩
  def WAIT_CNT : Row := ⟨0x64, 0, 32, .ro, 0, 1, 4, .any⟩
  def REREQ_CNT : Row := ⟨0x68, 0, 32, .ro, 0, 1, 4, .any⟩
  def FILL_PEAK : Row := ⟨0x6C, 0, 10, .ro, 0, 1, 4, .any⟩
  def START_WL : Row := ⟨0x70, 0, 48, .ro, 0, 1, 4, .any⟩
  def TRIG_EARLY : Row := ⟨0x78, 0, 32, .ro, 0, 1, 4, .any⟩
  /-- The fields of the page (R199). -/
  def rows : List Row :=
    [CTRL_LATE_REJECT, CTRL_REREQ_RES, CTRL_LEAD, CTRL_PANIC_LOW, CTRL_PANIC_HIGH, TOF_DELAY_WL, TOF_SRC, START, NEXT, CUR,
     CUR_COPY, FSAFE_NEXT, FSAFE_CUR, TAGS_USED, TAGS_PEAK, LATE_CNT, WAIT_CNT, REREQ_CNT, FILL_PEAK, START_WL, TRIG_EARLY]
end LST

/-! Page LNE (R223, R245). -/
namespace LNE
  def CTRL_TONE_EN : Row := ⟨0x40, 0, 1, .rws, 1, 1, 4, .any⟩
  def CTRL_LEVEL_MAX : Row := ⟨0x40, 4, 3, .rws, 7, 1, 4, .range 1 7⟩
  def CTRL_INK_MAX : Row := ⟨0x40, 16, 12, .rws, 4095, 1, 4, .any⟩
  def STAT_DIR : Row := ⟨0x44, 0, 1, .ro, 0, 1, 4, .any⟩
  def STAT_TAINT : Row := ⟨0x44, 1, 1, .ro, 0, 1, 4, .any⟩
  def STAT_INBUF : Row := ⟨0x44, 8, 5, .ro, 0, 1, 4, .any⟩
  def SYNC_WL_WL : Row := ⟨0x48, 0, 48, .rws, 0, 1, 4, .any⟩
  def SYNC_WL_EN : Row := ⟨0x48, 63, 1, .rws, 0, 1, 4, .any⟩
  def TBL_VER : Row := ⟨0x50, 0, 32, .rw, 0, 1, 4, .any⟩
  def TBL_CRC : Row := ⟨0x54, 0, 32, .ro, 0, 1, 4, .any⟩
  def TBL_CTRL_CRC_GO : Row := ⟨0x58, 0, 1, .wo, 0, 1, 4, .any⟩
  def TBL_CTRL_CRC_VALID : Row := ⟨0x58, 1, 1, .ro, 0, 1, 4, .any⟩
  def LINES : Row := ⟨0x60, 0, 32, .ro, 0, 1, 4, .any⟩
  def TAINT_CNT : Row := ⟨0x64, 0, 32, .ro, 0, 1, 4, .any⟩
  def STALL_CNT : Row := ⟨0x68, 0, 32, .ro, 0, 1, 4, .any⟩
  def UE_CNT : Row := ⟨0x6C, 0, 32, .ro, 0, 1, 4, .any⟩
  def AWL_CMD_START : Row := ⟨0x80, 0, 1, .wo, 0, 1, 4, .any⟩
  def AWL_CMD_ABORT : Row := ⟨0x80, 1, 1, .wo, 0, 1, 4, .any⟩
  def AWL_POL_AUTO : Row := ⟨0x84, 0, 1, .rw, 1, 1, 4, .any⟩
  def AWL_POL_AUTO_COMMIT : Row := ⟨0x84, 1, 1, .rw, 1, 1, 4, .any⟩
  def AWL_POL_REVIVE : Row := ⟨0x84, 2, 1, .rw, 0, 1, 4, .any⟩
  def AWL_POL_NEW_DEAD_MAX : Row := ⟨0x84, 8, 8, .rw, 16, 1, 4, .any⟩
  def AWL_POL_PERIOD_MIN : Row := ⟨0x84, 16, 16, .rw, 60, 1, 4, .range 1 65535⟩
  def AWL_DEFER : Row := ⟨0x88, 0, 16, .rw, 240, 1, 4, .range 1 65535⟩
  def AWL_WIN_LO : Row := ⟨0x8C, 0, 12, .rw, 1024, 1, 4, .range 1 4094⟩
  def AWL_WIN_HI : Row := ⟨0x8C, 16, 12, .rw, 3072, 1, 4, .range 2 4094⟩
  def AWL_STAT_STATE : Row := ⟨0x90, 0, 3, .ro, 0, 1, 4, .any⟩
  def AWL_STAT_DEAD : Row := ⟨0x90, 8, 13, .ro, 0, 1, 4, .any⟩
  def AWL_NEW_NEW : Row := ⟨0x94, 0, 13, .ro, 0, 1, 4, .any⟩
  def AWL_NEW_REVIVED : Row := ⟨0x94, 16, 13, .ro, 0, 1, 4, .any⟩
  def AWL_TIME : Row := ⟨0x98, 0, 64, .ro, 0, 1, 4, .any⟩
  def AWL_CNT : Row := ⟨0xA0, 0, 32, .ro, 0, 1, 4, .any⟩
  def AWL_REJ : Row := ⟨0xA4, 0, 32, .ro, 0, 1, 4, .any⟩
  def AWL_ABORT : Row := ⟨0xA8, 0, 32, .ro, 0, 1, 4, .any⟩
  def MAP_CTRL_VALID : Row := ⟨0xB0, 0, 1, .rws, 0, 1, 4, .any⟩
  def MAP_CTRL_ACT_VALID : Row := ⟨0xB0, 1, 1, .ro, 0, 1, 4, .any⟩
  def MAP_CTRL_DEAD_ACT : Row := ⟨0xB0, 16, 13, .ro, 0, 1, 4, .any⟩
  def MAP_VER : Row := ⟨0xB4, 0, 32, .rws, 0, 1, 4, .any⟩
  def MAP_CRC : Row := ⟨0xB8, 0, 32, .ro, 0, 1, 4, .any⟩
  def WELT_CTRL_HANDOVER : Row := ⟨0xBC, 0, 1, .rw, 1, 1, 4, .any⟩
  def WELT_CTRL_DCOMP : Row := ⟨0xBC, 1, 1, .rw, 1, 1, 4, .any⟩
  /-- The fields of the page (R223, R245). -/
  def rows : List Row :=
    [CTRL_TONE_EN, CTRL_LEVEL_MAX, CTRL_INK_MAX, STAT_DIR, STAT_TAINT, STAT_INBUF, SYNC_WL_WL, SYNC_WL_EN, TBL_VER, TBL_CRC,
     TBL_CTRL_CRC_GO, TBL_CTRL_CRC_VALID, LINES, TAINT_CNT, STALL_CNT, UE_CNT, AWL_CMD_START, AWL_CMD_ABORT, AWL_POL_AUTO,
     AWL_POL_AUTO_COMMIT, AWL_POL_REVIVE, AWL_POL_NEW_DEAD_MAX, AWL_POL_PERIOD_MIN, AWL_DEFER]
      ++ [AWL_WIN_LO, AWL_WIN_HI, AWL_STAT_STATE, AWL_STAT_DEAD, AWL_NEW_NEW, AWL_NEW_REVIVED, AWL_TIME, AWL_CNT, AWL_REJ,
        AWL_ABORT, MAP_CTRL_VALID, MAP_CTRL_ACT_VALID, MAP_CTRL_DEAD_ACT, MAP_VER, MAP_CRC, WELT_CTRL_HANDOVER,
        WELT_CTRL_DCOMP]
end LNE

/-! Page SCR (R225). -/
namespace SCR
  def MAT_SRC : Row := ⟨0x40, 0, 36, .rw, 0, 1, 4, .align 64⟩
  def MAT_CELL_BASE : Row := ⟨0x48, 0, 16, .rw, 0, 1, 4, .range 0 61439⟩
  def MAT_CELL_COUNT : Row := ⟨0x48, 16, 16, .rw, 0, 1, 4, .range 1 61440⟩
  def MAT_CMD_LOAD : Row := ⟨0x4C, 0, 1, .wo, 0, 1, 4, .any⟩
  def MAT_CMD_CRC : Row := ⟨0x4C, 1, 1, .wo, 0, 1, 4, .any⟩
  def MAT_STAT_DONE : Row := ⟨0x50, 0, 1, .ro, 0, 1, 4, .any⟩
  def MAT_STAT_FAIL : Row := ⟨0x50, 1, 1, .ro, 0, 1, 4, .any⟩
  def MAT_STAT_CELL : Row := ⟨0x50, 16, 16, .ro, 0, 1, 4, .any⟩
  def MAT_CRC : Row := ⟨0x54, 0, 32, .ro, 0, 1, 4, .any⟩
  def SYNC_WL_WL : Row := ⟨0x58, 0, 48, .rws, 0, 1, 4, .any⟩
  def SYNC_WL_EN : Row := ⟨0x58, 63, 1, .rws, 0, 1, 4, .any⟩
  def PL_CFG_MODE : Row := ⟨0x100, 0, 2, .rws, 0, 8, 64, .range 0 1⟩
  def PL_CFG_ED_RESET : Row := ⟨0x100, 2, 1, .rws, 0, 8, 64, .any⟩
  def PL_CFG_LOG2W : Row := ⟨0x100, 4, 4, .rws, 4, 8, 64, .range 4 8⟩
  def PL_CFG_LOG2H : Row := ⟨0x100, 8, 4, .rws, 4, 8, 64, .range 4 8⟩
  def PL_CFG_AMP : Row := ⟨0x100, 16, 8, .rws, 64, 8, 64, .any⟩
  def PL_BASE : Row := ⟨0x104, 0, 16, .rws, 0, 8, 64, .any⟩
  def PL_SEED_XOFF : Row := ⟨0x108, 0, 16, .rws, 0, 8, 64, .any⟩
  def PL_SEED_YOFF : Row := ⟨0x108, 16, 16, .rws, 0, 8, 64, .any⟩
  def PL_KERN : Row := ⟨0x10C, 0, 20, .rws, 83521, 8, 64, .any⟩
  def PL_Q12_Q1 : Row := ⟨0x110, 0, 12, .rws, 585, 8, 64, .any⟩
  def PL_Q12_Q2 : Row := ⟨0x110, 16, 12, .rws, 1170, 8, 64, .any⟩
  def PL_Q34_Q3 : Row := ⟨0x114, 0, 12, .rws, 1755, 8, 64, .any⟩
  def PL_Q34_Q4 : Row := ⟨0x114, 16, 12, .rws, 2340, 8, 64, .any⟩
  def PL_Q56_Q5 : Row := ⟨0x118, 0, 12, .rws, 2925, 8, 64, .any⟩
  def PL_Q56_Q6 : Row := ⟨0x118, 16, 12, .rws, 3510, 8, 64, .any⟩
  def PL_Q7 : Row := ⟨0x11C, 0, 12, .rws, 4095, 8, 64, .any⟩
  /-- The fields of the page (R225). -/
  def rows : List Row :=
    [MAT_SRC, MAT_CELL_BASE, MAT_CELL_COUNT, MAT_CMD_LOAD, MAT_CMD_CRC, MAT_STAT_DONE, MAT_STAT_FAIL, MAT_STAT_CELL,
     MAT_CRC, SYNC_WL_WL, SYNC_WL_EN, PL_CFG_MODE, PL_CFG_ED_RESET, PL_CFG_LOG2W, PL_CFG_LOG2H, PL_CFG_AMP, PL_BASE,
     PL_SEED_XOFF, PL_SEED_YOFF, PL_KERN, PL_Q12_Q1, PL_Q12_Q2, PL_Q34_Q3, PL_Q34_Q4]
      ++ [PL_Q56_Q5, PL_Q56_Q6, PL_Q7]
end SCR

/-! Page SEAM (R227). -/
namespace SEAM
  def CTRL : Row := ⟨0x40, 0, 8, .rw, 16, 1, 4, .range 1 255⟩
  def STAT_LAT : Row := ⟨0x44, 0, 8, .ro, 76, 1, 4, .any⟩
  def STAT_ACTIVE : Row := ⟨0x44, 8, 1, .ro, 0, 1, 4, .any⟩
  def WORDS : Row := ⟨0x48, 0, 32, .ro, 0, 1, 4, .any⟩
  def SEQ_CNT : Row := ⟨0x4C, 0, 32, .ro, 0, 1, 4, .any⟩
  def TMO_CNT : Row := ⟨0x50, 0, 32, .ro, 0, 1, 4, .any⟩
  def CE_CNT : Row := ⟨0x54, 0, 32, .ro, 0, 1, 4, .any⟩
  def UE_CNT : Row := ⟨0x58, 0, 32, .ro, 0, 1, 4, .any⟩
  /-- The fields of the page (R227). -/
  def rows : List Row :=
    [CTRL, STAT_LAT, STAT_ACTIVE, WORDS, SEQ_CNT, TMO_CNT, CE_CNT, UE_CNT]
end SEAM

/-! Page WAV (R258). -/
namespace WAV
  def EMODEL : Row := ⟨0x40, 0, 16, .rws, 0, 1, 4, .any⟩
  def REFILL : Row := ⟨0x44, 0, 12, .rws, 300, 1, 4, .any⟩
  def TWAV : Row := ⟨0x48, 0, 13, .ro, 0, 1, 4, .any⟩
  def BANK_ACTIVE : Row := ⟨0x4C, 0, 1, .ro, 0, 1, 4, .any⟩
  def BANK_LOADED : Row := ⟨0x4C, 1, 1, .ro, 0, 1, 4, .any⟩
  def TB1 : Row := ⟨0x50, 0, 12, .rws, 100, 1, 4, .any⟩
  def TB2 : Row := ⟨0x50, 16, 12, .rws, 140, 1, 4, .any⟩
  def TB3 : Row := ⟨0x54, 0, 12, .rws, 180, 1, 4, .any⟩
  def TB4 : Row := ⟨0x54, 16, 12, .rws, 220, 1, 4, .any⟩
  def TB5 : Row := ⟨0x58, 0, 12, .rws, 260, 1, 4, .any⟩
  def TB6 : Row := ⟨0x58, 16, 12, .rws, 300, 1, 4, .any⟩
  def TB7 : Row := ⟨0x5C, 0, 12, .rws, 340, 1, 4, .any⟩
  def HYST : Row := ⟨0x5C, 16, 8, .rws, 8, 1, 4, .any⟩
  def SYNC_WL_WL : Row := ⟨0x60, 0, 48, .rws, 0, 1, 4, .any⟩
  def SYNC_WL_EN : Row := ⟨0x60, 63, 1, .rws, 0, 1, 4, .any⟩
  /-- `SET[s].LV[L].PULSE[i].START` (R258), L = 1 to 7, copies i = 0 to 3. -/
  def PULSE_START (s L : Nat) : Row := ⟨0x100 + 0x90 * s + 0x14 * (L - 1), 0, 12, .rws, 0, 4, 4, .any⟩
  /-- `SET[s].LV[L].PULSE[i].WIDTH` (R258). -/
  def PULSE_WIDTH (s L : Nat) : Row := ⟨0x100 + 0x90 * s + 0x14 * (L - 1), 12, 12, .rws, 0, 4, 4, .any⟩
  /-- `SET[s].LV[L].ENERGY` (R256, R258). -/
  def ENERGY (s L : Nat) : Row := ⟨0x110 + 0x90 * s + 0x14 * (L - 1), 0, 12, .ro, 0, 1, 4, .any⟩
  /-- The fields of the page (R258). -/
  def rows : List Row :=
    [EMODEL, REFILL, TWAV, BANK_ACTIVE, BANK_LOADED, TB1, TB2, TB3, TB4, TB5, TB6, TB7, HYST, SYNC_WL_WL, SYNC_WL_EN]
      ++ (List.range 9).flatMap (fun s => (List.range 7).flatMap fun L =>
        [PULSE_START s (L + 1), PULSE_WIDTH s (L + 1), ENERGY s (L + 1)])
end WAV

/-! Page SPL (R270). -/
namespace SPL
  def BASE : Row := ⟨0x40, 0, 36, .rw, 0, 1, 4, .align 64⟩
  def SIZE : Row := ⟨0x48, 0, 5, .rw, 10, 1, 4, .range 6 20⟩
  def CTRL_COAL : Row := ⟨0x4C, 0, 8, .rw, 1, 1, 4, .range 1 255⟩
  def CTRL_FLUSH_US : Row := ⟨0x4C, 8, 16, .rw, 100, 1, 4, .range 1 65535⟩
  def LOW : Row := ⟨0x50, 0, 20, .rw, 64, 1, 4, .any⟩
  def HEAD : Row := ⟨0x54, 0, 20, .ro, 0, 1, 4, .any⟩
  def DB : Row := ⟨0x58, 0, 20, .wo, 0, 1, 4, .any⟩
  def TAIL : Row := ⟨0x5C, 0, 20, .ro, 0, 1, 4, .any⟩
  def STAT_FREE : Row := ⟨0x60, 0, 21, .ro, 0, 1, 4, .any⟩
  def STAT_OVF : Row := ⟨0x60, 21, 1, .ro, 0, 1, 4, .any⟩
  def STAT_HOLD : Row := ⟨0x60, 22, 1, .ro, 0, 1, 4, .any⟩
  def STAT_PHASE : Row := ⟨0x60, 23, 1, .ro, 1, 1, 4, .any⟩
  def SEQ : Row := ⟨0x64, 0, 32, .ro, 0, 1, 4, .any⟩
  def REC_CNT : Row := ⟨0x68, 0, 32, .ro, 0, 1, 4, .any⟩
  def CAUSE_CNT : Row := ⟨0x80, 0, 32, .ro, 0, 15, 4, .any⟩
  /-- The fields of the page (R270). -/
  def rows : List Row :=
    [BASE, SIZE, CTRL_COAL, CTRL_FLUSH_US, LOW, HEAD, DB, TAIL, STAT_FREE, STAT_OVF, STAT_HOLD, STAT_PHASE, SEQ, REC_CNT,
     CAUSE_CNT]
end SPL

/-! Page SEQ (R271). -/
namespace SEQ
  def CTRL_AUTO_RESUME : Row := ⟨0x40, 0, 1, .rws, 1, 1, 4, .any⟩
  def CTRL_GUARD_E : Row := ⟨0x40, 1, 1, .rws, 1, 1, 4, .any⟩
  def CTRL_GUARD_H : Row := ⟨0x40, 2, 1, .rws, 1, 1, 4, .any⟩
  def PHASE_WL : Row := ⟨0x44, 0, 6, .rws, 0, 1, 4, .range 0 48⟩
  def PHASE_FRAC : Row := ⟨0x44, 8, 8, .rws, 0, 1, 4, .any⟩
  def TEMP_LIM_T_SOFT : Row := ⟨0x48, 0, 12, .rws, 280, 1, 4, .any⟩
  def TEMP_LIM_T_HARD : Row := ⟨0x48, 16, 12, .rws, 360, 1, 4, .any⟩
  def TEMP_RES_T_RESUME : Row := ⟨0x4C, 0, 12, .rws, 240, 1, 4, .any⟩
  def TEMP_RES_TMO : Row := ⟨0x4C, 16, 8, .rws, 8, 1, 4, .range 1 255⟩
  def GUARD_E_WE : Row := ⟨0x50, 0, 9, .rws, 256, 1, 4, .range 16 256⟩
  def GUARD_E_NE : Row := ⟨0x50, 16, 9, .rws, 240, 1, 4, .range 1 256⟩
  def GUARD_H : Row := ⟨0x54, 0, 13, .rws, 1024, 1, 4, .range 256 4096⟩
  def GUARD_EH : Row := ⟨0x58, 0, 28, .rws, 268435455, 1, 4, .any⟩
  def CMD_RESUME : Row := ⟨0x5C, 0, 1, .wo, 0, 1, 4, .any⟩
  def CMD_CLEAR : Row := ⟨0x5C, 1, 1, .wo, 0, 1, 4, .any⟩
  def STAT_BAND : Row := ⟨0x60, 0, 3, .ro, 0, 1, 4, .any⟩
  def STAT_REDUCED : Row := ⟨0x60, 3, 1, .ro, 0, 1, 4, .any⟩
  def STAT_SOFT : Row := ⟨0x60, 4, 1, .ro, 0, 1, 4, .any⟩
  def STAT_HOLD_WHY : Row := ⟨0x60, 5, 3, .ro, 0, 1, 4, .any⟩
  def STAT_FIFO : Row := ⟨0x60, 8, 7, .ro, 0, 1, 4, .any⟩
  def TEMP_READING : Row := ⟨0x64, 0, 12, .ro, 0, 1, 4, .any⟩
  def TEMP_VALID : Row := ⟨0x64, 12, 1, .ro, 0, 1, 4, .any⟩
  def TMIN : Row := ⟨0x68, 0, 16, .ro, 3125, 1, 4, .any⟩
  def SYNC_WL_WL : Row := ⟨0x70, 0, 48, .rws, 0, 1, 4, .any⟩
  def SYNC_WL_EN : Row := ⟨0x70, 63, 1, .rws, 0, 1, 4, .any⟩
  def LAST_WL : Row := ⟨0x78, 0, 48, .ro, 0, 1, 4, .any⟩
  def FIRED : Row := ⟨0x80, 0, 32, .ro, 0, 1, 4, .any⟩
  def SKIP : Row := ⟨0x84, 0, 32, .ro, 0, 1, 4, .any⟩
  def LATE : Row := ⟨0x88, 0, 32, .ro, 0, 1, 4, .any⟩
  def GUARD_E_CNT : Row := ⟨0x8C, 0, 32, .ro, 0, 1, 4, .any⟩
  def DEMOTE_CNT : Row := ⟨0x90, 0, 32, .ro, 0, 1, 4, .any⟩
  def HOLD_CNT : Row := ⟨0x94, 0, 32, .ro, 0, 1, 4, .any⟩
  def HEAD_CRC_CNT : Row := ⟨0x98, 0, 32, .ro, 0, 1, 4, .any⟩
  def NOACK_CNT : Row := ⟨0x9C, 0, 32, .ro, 0, 1, 4, .any⟩
  /-- The fields of the page (R271). -/
  def rows : List Row :=
    [CTRL_AUTO_RESUME, CTRL_GUARD_E, CTRL_GUARD_H, PHASE_WL, PHASE_FRAC, TEMP_LIM_T_SOFT, TEMP_LIM_T_HARD,
     TEMP_RES_T_RESUME, TEMP_RES_TMO, GUARD_E_WE, GUARD_E_NE, GUARD_H, GUARD_EH, CMD_RESUME, CMD_CLEAR, STAT_BAND,
     STAT_REDUCED, STAT_SOFT, STAT_HOLD_WHY, STAT_FIFO, TEMP_READING, TEMP_VALID, TMIN, SYNC_WL_WL]
      ++ [SYNC_WL_EN, LAST_WL, FIRED, SKIP, LATE, GUARD_E_CNT, DEMOTE_CNT, HOLD_CNT, HEAD_CRC_CNT, NOACK_CNT]
end SEQ

/-! Page PACE (R284). -/
namespace PACE
  def CTRL_MODE : Row := ⟨0x40, 0, 2, .rw, 0, 1, 4, .any⟩
  def CTRL_DIR_INV : Row := ⟨0x40, 2, 1, .rw, 0, 1, 4, .any⟩
  def CTRL_Z_EN : Row := ⟨0x40, 3, 1, .rw, 0, 1, 4, .any⟩
  def CTRL_FSAFE_SLOW : Row := ⟨0x40, 4, 1, .rw, 0, 1, 4, .any⟩
  def CTRL_BELT_LIMIT : Row := ⟨0x40, 5, 1, .rw, 1, 1, 4, .any⟩
  def CTRL_FILT : Row := ⟨0x40, 8, 4, .rw, 4, 1, 4, .any⟩
  def RATIO_NUM : Row := ⟨0x44, 0, 16, .rw, 1, 1, 4, .range 1 65535⟩
  def RATIO_DEN : Row := ⟨0x48, 0, 24, .rw, 1, 1, 4, .range 1 16777215⟩
  def INT_PER : Row := ⟨0x4C, 0, 19, .rw, 3125, 1, 4, .range 3125 500000⟩
  def SLOW_HOLD_MS : Row := ⟨0x50, 0, 8, .rw, 50, 1, 4, .range 1 255⟩
  def SLOW_STOP_MS : Row := ⟨0x50, 8, 8, .rw, 10, 1, 4, .range 1 255⟩
  def Z_EDGES : Row := ⟨0x54, 0, 24, .rw, 0, 1, 4, .any⟩
  def TOF_CTRL_POL : Row := ⟨0x58, 0, 1, .rw, 0, 1, 4, .any⟩
  def TOF_CTRL_DEB : Row := ⟨0x58, 8, 8, .rw, 10, 1, 4, .any⟩
  def TOF_CTRL_MIN_WL : Row := ⟨0x58, 16, 16, .rw, 256, 1, 4, .any⟩
  def STAT_STOPPED : Row := ⟨0x60, 0, 1, .ro, 1, 1, 4, .any⟩
  def STAT_SLOWREQ : Row := ⟨0x60, 1, 1, .ro, 0, 1, 4, .any⟩
  def STAT_SRC_RATE : Row := ⟨0x60, 2, 1, .ro, 0, 1, 4, .any⟩
  def STAT_SRC_SOFT : Row := ⟨0x60, 3, 1, .ro, 0, 1, 4, .any⟩
  def STAT_SRC_FSAFE : Row := ⟨0x60, 4, 1, .ro, 0, 1, 4, .any⟩
  def STAT_REVERSE : Row := ⟨0x60, 5, 1, .ro, 0, 1, 4, .any⟩
  def WL : Row := ⟨0x68, 0, 48, .ro, 0, 1, 4, .any⟩
  def WL_LOAD : Row := ⟨0x70, 0, 48, .wo, 0, 1, 4, .any⟩
  def PERM : Row := ⟨0x78, 0, 16, .ro, 3125, 1, 4, .any⟩
  def PERM_F : Row := ⟨0x7C, 0, 16, .ro, 16000, 1, 4, .any⟩
  def PERIOD : Row := ⟨0x80, 0, 20, .ro, 0, 1, 4, .any⟩
  def PERIOD_MIN : Row := ⟨0x84, 0, 20, .ro, 1048575, 1, 4, .any⟩
  def TICK_TIME : Row := ⟨0x88, 0, 64, .ro, 0, 1, 4, .any⟩
  def ENC_POS : Row := ⟨0x90, 0, 48, .ro, 0, 1, 4, .any⟩
  def ERR_WL : Row := ⟨0x98, 0, 48, .ro, 0, 1, 4, .any⟩
  def OVS_CNT : Row := ⟨0xA0, 0, 32, .ro, 0, 1, 4, .any⟩
  def SLOW_CNT : Row := ⟨0xA4, 0, 32, .ro, 0, 1, 4, .any⟩
  def PHASE_CNT : Row := ⟨0xA8, 0, 32, .ro, 0, 1, 4, .any⟩
  def Z_CNT : Row := ⟨0xAC, 0, 32, .ro, 0, 1, 4, .any⟩
  def TOF_CNT : Row := ⟨0xB0, 0, 32, .ro, 0, 1, 4, .any⟩
  def TOF_IGN : Row := ⟨0xB4, 0, 32, .ro, 0, 1, 4, .any⟩
  /-- The fields of the page (R284). -/
  def rows : List Row :=
    [CTRL_MODE, CTRL_DIR_INV, CTRL_Z_EN, CTRL_FSAFE_SLOW, CTRL_BELT_LIMIT, CTRL_FILT, RATIO_NUM, RATIO_DEN, INT_PER,
     SLOW_HOLD_MS, SLOW_STOP_MS, Z_EDGES, TOF_CTRL_POL, TOF_CTRL_DEB, TOF_CTRL_MIN_WL, STAT_STOPPED, STAT_SLOWREQ,
     STAT_SRC_RATE, STAT_SRC_SOFT, STAT_SRC_FSAFE, STAT_REVERSE, WL, WL_LOAD, PERM]
      ++ [PERM_F, PERIOD, PERIOD_MIN, TICK_TIME, ENC_POS, ERR_WL, OVS_CNT, SLOW_CNT, PHASE_CNT, Z_CNT, TOF_CNT, TOF_IGN]
end PACE

/-! Page AX (R297). -/
namespace AX
  def CFG_STEP_HI : Row := ⟨0x40, 0, 8, .rw, 10, 1, 4, .range 4 255⟩
  def CFG_DIR_SU : Row := ⟨0x40, 8, 8, .rw, 20, 1, 4, .range 1 255⟩
  def CFG_DIR_INV : Row := ⟨0x40, 16, 1, .rw, 0, 1, 4, .any⟩
  def CFG_LIM_ACT : Row := ⟨0x40, 17, 1, .rw, 0, 1, 4, .any⟩
  def CFG_LIM_POL : Row := ⟨0x40, 18, 1, .rw, 0, 1, 4, .any⟩
  def CFG_HOME_POL : Row := ⟨0x40, 19, 1, .rw, 0, 1, 4, .any⟩
  def CFG_LIMN_EN : Row := ⟨0x40, 20, 1, .rw, 1, 1, 4, .any⟩
  def CFG_LIMP_EN : Row := ⟨0x40, 21, 1, .rw, 1, 1, 4, .any⟩
  def CFG_EN_POL : Row := ⟨0x40, 22, 1, .rw, 0, 1, 4, .any⟩
  def CFG_SUPPLY_CMP : Row := ⟨0x40, 24, 3, .rw, 0, 1, 4, .range 0 6⟩
  def TIMES_LIM_DEB : Row := ⟨0x44, 0, 8, .rw, 5, 1, 4, .any⟩
  def TIMES_HOME_DEB : Row := ⟨0x44, 8, 8, .rw, 10, 1, 4, .range 1 255⟩
  def TIMES_SLEEP_MS : Row := ⟨0x44, 16, 16, .rw, 0, 1, 4, .any⟩
  def WAKE : Row := ⟨0x48, 0, 16, .rw, 1000, 1, 4, .any⟩
  def EDEC : Row := ⟨0x4C, 0, 24, .rw, 16777215, 1, 4, .any⟩
  def MOVE_KIND : Row := ⟨0x50, 0, 2, .rws, 0, 1, 4, .range 0 2⟩
  def MOVE_NO_OVERSHOOT : Row := ⟨0x50, 2, 1, .rws, 0, 1, 4, .any⟩
  def TARGET : Row := ⟨0x54, 0, 32, .rws, 0, 1, 4, .any⟩
  def VMAX : Row := ⟨0x58, 0, 21, .rws, 10000, 1, 4, .range 1 2000000⟩
  def AMAX : Row := ⟨0x5C, 0, 24, .rws, 625, 1, 4, .range 1 16777215⟩
  def DMAX : Row := ⟨0x60, 0, 24, .rws, 625, 1, 4, .range 1 16777215⟩
  def JMAX : Row := ⟨0x64, 0, 24, .rws, 0, 1, 4, .any⟩
  def HOME_CFG_DIR : Row := ⟨0x70, 0, 1, .rw, 0, 1, 4, .any⟩
  def HOME_CFG_SRC : Row := ⟨0x70, 1, 1, .rw, 0, 1, 4, .any⟩
  def HOME_V : Row := ⟨0x74, 0, 21, .rw, 1000, 1, 4, .any⟩
  def BACKOFF_V : Row := ⟨0x78, 0, 21, .rw, 200, 1, 4, .any⟩
  def HOME_MAX : Row := ⟨0x7C, 0, 32, .rw, 16777216, 1, 4, .any⟩
  def BACKOFF_MAX : Row := ⟨0x80, 0, 24, .rw, 4096, 1, 4, .any⟩
  def HOME_POS : Row := ⟨0x84, 0, 32, .rw, 0, 1, 4, .any⟩
  def CMD_HOME : Row := ⟨0x90, 0, 1, .wo, 0, 1, 4, .any⟩
  def CMD_STOP : Row := ⟨0x90, 1, 1, .wo, 0, 1, 4, .any⟩
  def CMD_ESTOP : Row := ⟨0x90, 2, 1, .wo, 0, 1, 4, .any⟩
  def CMD_CLEAR : Row := ⟨0x90, 3, 1, .wo, 0, 1, 4, .any⟩
  def CMD_SLEEP : Row := ⟨0x90, 4, 1, .wo, 0, 1, 4, .any⟩
  def CMD_WAKE : Row := ⟨0x90, 5, 1, .wo, 0, 1, 4, .any⟩
  def STAT_PROF : Row := ⟨0x94, 0, 3, .ro, 0, 1, 4, .any⟩
  def STAT_LOST : Row := ⟨0x94, 8, 1, .ro, 1, 1, 4, .any⟩
  def STAT_ASLEEP : Row := ⟨0x94, 9, 1, .ro, 0, 1, 4, .any⟩
  def STAT_LIMN : Row := ⟨0x94, 10, 1, .ro, 0, 1, 4, .any⟩
  def STAT_LIMP : Row := ⟨0x94, 11, 1, .ro, 0, 1, 4, .any⟩
  def STAT_HOME : Row := ⟨0x94, 12, 1, .ro, 0, 1, 4, .any⟩
  def STAT_DRVFLT : Row := ⟨0x94, 13, 1, .ro, 0, 1, 4, .any⟩
  def STAT_AT_TARGET : Row := ⟨0x94, 14, 1, .ro, 0, 1, 4, .any⟩
  def STAT_DIR : Row := ⟨0x94, 15, 1, .ro, 0, 1, 4, .any⟩
  def STAT_HELD : Row := ⟨0x94, 16, 1, .ro, 0, 1, 4, .any⟩
  def POS : Row := ⟨0x98, 0, 32, .ro, 0, 1, 4, .any⟩
  def VEL : Row := ⟨0x9C, 0, 32, .ro, 0, 1, 4, .any⟩
  def HOME_CAP : Row := ⟨0xA0, 0, 32, .ro, 0, 1, 4, .any⟩
  def STEP_CNT : Row := ⟨0xA4, 0, 32, .ro, 0, 1, 4, .any⟩
  def LIM_CNT : Row := ⟨0xA8, 0, 32, .ro, 0, 1, 4, .any⟩
  def VMAX_EFF : Row := ⟨0xAC, 0, 21, .ro, 10000, 1, 4, .any⟩
  /-- The fields of the page (R297). -/
  def rows : List Row :=
    [CFG_STEP_HI, CFG_DIR_SU, CFG_DIR_INV, CFG_LIM_ACT, CFG_LIM_POL, CFG_HOME_POL, CFG_LIMN_EN, CFG_LIMP_EN, CFG_EN_POL,
     CFG_SUPPLY_CMP, TIMES_LIM_DEB, TIMES_HOME_DEB, TIMES_SLEEP_MS, WAKE, EDEC, MOVE_KIND, MOVE_NO_OVERSHOOT, TARGET, VMAX,
     AMAX, DMAX, JMAX, HOME_CFG_DIR, HOME_CFG_SRC]
      ++ [HOME_V, BACKOFF_V, HOME_MAX, BACKOFF_MAX, HOME_POS, CMD_HOME, CMD_STOP, CMD_ESTOP, CMD_CLEAR, CMD_SLEEP, CMD_WAKE,
        STAT_PROF, STAT_LOST, STAT_ASLEEP, STAT_LIMN, STAT_LIMP, STAT_HOME, STAT_DRVFLT, STAT_AT_TARGET, STAT_DIR,
        STAT_HELD, POS, VEL, HOME_CAP]
      ++ [STEP_CNT, LIM_CNT, VMAX_EFF]
end AX

/-! Page VNL (R317). -/
namespace VNL
  def CTRL_MAX_RATE : Row := ⟨0x40, 0, 2, .rw, 3, 1, 4, .any⟩
  def CTRL_EQ_MODE : Row := ⟨0x40, 2, 1, .rw, 0, 1, 4, .any⟩
  def CTRL_ACK_US : Row := ⟨0x40, 4, 4, .rw, 4, 1, 4, .range 2 15⟩
  def CTRL_CRC_LIMIT : Row := ⟨0x40, 8, 8, .rw, 8, 1, 4, .range 1 255⟩
  def CTRL_STAT_TMO : Row := ⟨0x40, 16, 8, .rw, 200, 1, 4, .range 100 255⟩
  def N_EXP : Row := ⟨0x44, 0, 13, .rw, 0, 1, 4, .nozzles⟩
  def COL_TDEF : Row := ⟨0x4C, 0, 16, .rw, 625, 1, 4, .any⟩
  def EQ_MAN_C_PRE : Row := ⟨0x50, 0, 4, .rw, 0, 1, 4, .any⟩
  def EQ_MAN_C_POST : Row := ⟨0x50, 4, 5, .rw, 0, 1, 4, .any⟩
  def STAT_LSTATE : Row := ⟨0x54, 0, 3, .ro, 0, 1, 4, .any⟩
  def STAT_RATE : Row := ⟨0x54, 4, 2, .ro, 0, 1, 4, .any⟩
  def STAT_PRESET : Row := ⟨0x54, 6, 2, .ro, 0, 1, 4, .any⟩
  def STAT_UP_LOCK : Row := ⟨0x54, 8, 1, .ro, 0, 1, 4, .any⟩
  def STAT_HEAD_LOCK : Row := ⟨0x54, 9, 1, .ro, 0, 1, 4, .any⟩
  def STAT_ACTIVE_US : Row := ⟨0x54, 10, 1, .ro, 0, 1, 4, .any⟩
  def STAT_FALLBACK : Row := ⟨0x54, 11, 1, .ro, 0, 1, 4, .any⟩
  def STAT_HEAD_EPOCH : Row := ⟨0x54, 16, 16, .ro, 0, 1, 4, .any⟩
  def EQ_ACT_C_PRE : Row := ⟨0x58, 0, 4, .ro, 0, 1, 4, .any⟩
  def EQ_ACT_C_POST : Row := ⟨0x58, 4, 5, .ro, 0, 1, 4, .any⟩
  def IDENT0_N : Row := ⟨0x5C, 0, 13, .ro, 0, 1, 4, .any⟩
  def IDENT0_MAX_RATE : Row := ⟨0x5C, 16, 2, .ro, 0, 1, 4, .any⟩
  def IDENT0_TWO_PORTS : Row := ⟨0x5C, 18, 1, .ro, 0, 1, 4, .any⟩
  def IDENT0_DS_EYE : Row := ⟨0x5C, 19, 1, .ro, 0, 1, 4, .any⟩
  def IDENT0_PROTO : Row := ⟨0x5C, 20, 4, .ro, 0, 1, 4, .any⟩
  def IDENT1_VENDOR : Row := ⟨0x60, 0, 16, .ro, 0, 1, 4, .any⟩
  def IDENT1_MODEL : Row := ⟨0x60, 16, 16, .ro, 0, 1, 4, .any⟩
  def IDENT2 : Row := ⟨0x64, 0, 11, .ro, 0, 1, 4, .any⟩
  def SERIAL : Row := ⟨0x68, 0, 32, .ro, 0, 1, 4, .any⟩
  def EYE_UP_MUI : Row := ⟨0x6C, 0, 16, .ro, 0, 1, 4, .any⟩
  def EYE_DS_MUI : Row := ⟨0x6C, 16, 16, .ro, 0, 1, 4, .any⟩
  def CMD : Row := ⟨0x70, 0, 1, .wo, 0, 1, 4, .any⟩
  def LINK_TIME : Row := ⟨0x78, 0, 64, .ro, 0, 1, 4, .any⟩
  def LINES_TX : Row := ⟨0x80, 0, 32, .ro, 0, 1, 4, .any⟩
  def UP_CRC : Row := ⟨0x98, 0, 32, .ro, 0, 1, 4, .any⟩
  def SYM_ERR : Row := ⟨0x9C, 0, 32, .ro, 0, 1, 4, .any⟩
  def RETRY : Row := ⟨0xA0, 0, 32, .ro, 0, 1, 4, .any⟩
  def LOSS_CNT : Row := ⟨0xA4, 0, 32, .ro, 0, 1, 4, .any⟩
  def TRIAL_CNT : Row := ⟨0xA8, 0, 32, .ro, 0, 1, 4, .any⟩
  def COL : Row := ⟨0x48, 0, 32, .rw, 0, 1, 4, .any⟩
  def RES_CNT : Row := ⟨0x84, 0, 32, .ro, 0, 5, 4, .any⟩
  /-- The fields of the page (R317). -/
  def rows : List Row :=
    [CTRL_MAX_RATE, CTRL_EQ_MODE, CTRL_ACK_US, CTRL_CRC_LIMIT, CTRL_STAT_TMO, N_EXP, COL_TDEF, EQ_MAN_C_PRE, EQ_MAN_C_POST,
     STAT_LSTATE, STAT_RATE, STAT_PRESET, STAT_UP_LOCK, STAT_HEAD_LOCK, STAT_ACTIVE_US, STAT_FALLBACK, STAT_HEAD_EPOCH,
     EQ_ACT_C_PRE, EQ_ACT_C_POST, IDENT0_N, IDENT0_MAX_RATE, IDENT0_TWO_PORTS, IDENT0_DS_EYE, IDENT0_PROTO]
      ++ [IDENT1_VENDOR, IDENT1_MODEL, IDENT2, SERIAL, EYE_UP_MUI, EYE_DS_MUI, CMD, LINK_TIME, LINES_TX, UP_CRC, SYM_ERR,
        RETRY, LOSS_CNT, TRIAL_CNT, COL, RES_CNT]
end VNL

end Sys2Proof.Machine.Reg
end

