-- ==== Sys2Proof/Machine/RegService.lean ====
section
/-! DEFINITION. The register tables of the time, pair, self-test, calibration and Den pages: one `Row` for each field, written
from the spec's register tables (offset, lowest bit, width, access type, reset value, copies, distance between copies,
permitted values). -/

namespace Sys2Proof.Machine.Reg

/-! Page TIM (R332). -/
namespace TIM
  def TIME : Row := ⟨0x40, 0, 64, .ro, 0, 1, 4, .any⟩
  def TIME_FRAC : Row := ⟨0x48, 0, 32, .ro, 0, 1, 4, .any⟩
  def TIME_SET : Row := ⟨0x50, 0, 64, .wo, 0, 1, 4, .any⟩
  def TIME_ADJ : Row := ⟨0x58, 0, 64, .wo, 0, 1, 4, .any⟩
  def INC : Row := ⟨0x60, 0, 40, .ro, 17179869184, 1, 4, .any⟩
  def SERVO_CTRL_EN : Row := ⟨0x68, 0, 1, .rw, 0, 1, 4, .any⟩
  def SERVO_CTRL_REARM : Row := ⟨0x68, 1, 1, .wo, 0, 1, 4, .any⟩
  def SERVO_CTRL_LOCK_N : Row := ⟨0x68, 4, 4, .rw, 4, 1, 4, .range 1 15⟩
  def SERVO_CTRL_HOLD_MS : Row := ⟨0x68, 16, 16, .rw, 3000, 1, 4, .range 1 65535⟩
  def STEP_LIMIT : Row := ⟨0x6C, 0, 32, .rw, 10000, 1, 4, .any⟩
  def LOCK_WIN_LOCK_WINDOW : Row := ⟨0x70, 0, 16, .rw, 100, 1, 4, .any⟩
  def LOCK_WIN_UNLOCK_WINDOW : Row := ⟨0x70, 16, 16, .rw, 400, 1, 4, .any⟩
  def GAIN_KP : Row := ⟨0x74, 0, 16, .rw, 1434, 1, 4, .any⟩
  def GAIN_KI : Row := ⟨0x74, 16, 16, .rw, 179, 1, 4, .any⟩
  def FMAX : Row := ⟨0x78, 0, 20, .rw, 500000, 1, 4, .range 1 500000⟩
  def FREQ : Row := ⟨0x7C, 0, 32, .rw, 0, 1, 4, .any⟩
  def OFFSET_NS : Row := ⟨0x80, 0, 48, .wo, 0, 1, 4, .any⟩
  def OFFSET_TAG : Row := ⟨0x80, 48, 4, .wo, 0, 1, 4, .any⟩
  def SERVO_STAT_TAG : Row := ⟨0x88, 0, 4, .ro, 0, 1, 4, .any⟩
  def SERVO_STAT_RUN : Row := ⟨0x88, 4, 4, .ro, 0, 1, 4, .any⟩
  def LAST_OFS : Row := ⟨0x90, 0, 48, .ro, 0, 1, 4, .any⟩
  def INTEG : Row := ⟨0x98, 0, 32, .ro, 0, 1, 4, .any⟩
  def OFS_CNT : Row := ⟨0xA0, 0, 32, .ro, 0, 1, 4, .any⟩
  def DISCARD_CNT : Row := ⟨0xA4, 0, 32, .ro, 0, 1, 4, .any⟩
  def BIG_CNT : Row := ⟨0xA8, 0, 32, .ro, 0, 1, 4, .any⟩
  def STEP_CNT : Row := ⟨0xAC, 0, 32, .ro, 0, 1, 4, .any⟩
  def LOCK_CNT : Row := ⟨0xB0, 0, 32, .ro, 0, 1, 4, .any⟩
  def X32_PPB_PPB : Row := ⟨0xB8, 0, 31, .ro, 0, 1, 4, .any⟩
  def X32_PPB_VALID : Row := ⟨0xB8, 31, 1, .ro, 0, 1, 4, .any⟩
  def HOLD : Row := ⟨0xBC, 0, 24, .rw, 20000, 1, 4, .any⟩
  def WAKE_ERR : Row := ⟨0xC0, 0, 32, .ro, 0, 1, 4, .any⟩
  def TRIG_FIRED : Row := ⟨0xD0, 0, 16, .w1c, 0, 1, 4, .any⟩
  def CAP_VALID : Row := ⟨0xD4, 0, 16, .ro, 0, 1, 4, .any⟩
  def TRIG_TIME : Row := ⟨0x200, 0, 64, .rw, 0, 16, 32, .any⟩
  def TRIG_PERIOD : Row := ⟨0x208, 0, 32, .rw, 0, 16, 32, .zeroOr 1000⟩
  def TRIG_WIDTH : Row := ⟨0x20C, 0, 32, .rw, 1000, 16, 32, .range 8 4294967295⟩
  def TRIG_CTRL_EN : Row := ⟨0x210, 0, 1, .rw, 0, 16, 32, .any⟩
  def TRIG_CTRL_OUT_EN : Row := ⟨0x210, 1, 1, .rw, 0, 16, 32, .any⟩
  def TRIG_CTRL_POL : Row := ⟨0x210, 2, 1, .rw, 0, 16, 32, .any⟩
  def TRIG_STAT : Row := ⟨0x214, 0, 1, .w1c, 0, 16, 32, .any⟩
  def TRIG_MISSED : Row := ⟨0x218, 0, 32, .ro, 0, 16, 32, .any⟩
  def CAP_CFG_SRC : Row := ⟨0x400, 0, 4, .rw, 0, 16, 32, .any⟩
  def CAP_CFG_EDGE : Row := ⟨0x400, 4, 2, .rw, 0, 16, 32, .range 0 2⟩
  def CAP_CFG_ARG : Row := ⟨0x400, 8, 4, .rw, 0, 16, 32, .any⟩
  def CAP_CFG_EN : Row := ⟨0x400, 31, 1, .rw, 0, 16, 32, .any⟩
  def CAP_TIME : Row := ⟨0x408, 0, 64, .ro, 0, 16, 32, .any⟩
  def CAP_WL_WL : Row := ⟨0x410, 0, 48, .ro, 0, 16, 32, .any⟩
  def CAP_WL_TAG : Row := ⟨0x410, 48, 4, .ro, 0, 16, 32, .any⟩
  def CAP_STAT : Row := ⟨0x418, 0, 1, .w1c, 0, 16, 32, .any⟩
  def CAP_LOST : Row := ⟨0x41C, 0, 32, .ro, 0, 16, 32, .any⟩
  /-- The fields of the page (R332). -/
  def rows : List Row :=
    [TIME, TIME_FRAC, TIME_SET, TIME_ADJ, INC, SERVO_CTRL_EN, SERVO_CTRL_REARM, SERVO_CTRL_LOCK_N, SERVO_CTRL_HOLD_MS,
     STEP_LIMIT, LOCK_WIN_LOCK_WINDOW, LOCK_WIN_UNLOCK_WINDOW, GAIN_KP, GAIN_KI, FMAX, FREQ, OFFSET_NS, OFFSET_TAG,
     SERVO_STAT_TAG, SERVO_STAT_RUN, LAST_OFS, INTEG, OFS_CNT, DISCARD_CNT]
      ++ [BIG_CNT, STEP_CNT, LOCK_CNT, X32_PPB_PPB, X32_PPB_VALID, HOLD, WAKE_ERR, TRIG_FIRED, CAP_VALID, TRIG_TIME,
        TRIG_PERIOD, TRIG_WIDTH, TRIG_CTRL_EN, TRIG_CTRL_OUT_EN, TRIG_CTRL_POL, TRIG_STAT, TRIG_MISSED, CAP_CFG_SRC,
        CAP_CFG_EDGE, CAP_CFG_ARG, CAP_CFG_EN, CAP_TIME, CAP_WL_WL, CAP_WL_TAG]
      ++ [CAP_STAT, CAP_LOST]
end TIM

/-! Page ETH (R333). -/
namespace ETH
  def CFG_SPEED : Row := ⟨0x40, 0, 1, .rw, 0, 1, 4, .any⟩
  def CFG_AN_EN : Row := ⟨0x40, 1, 1, .rw, 1, 1, 4, .any⟩
  def CFG_PROMISC : Row := ⟨0x40, 2, 1, .rw, 0, 1, 4, .any⟩
  def MAC : Row := ⟨0x44, 0, 48, .rw, 0, 1, 4, .any⟩
  def TX_LAT : Row := ⟨0x4C, 0, 16, .rw, 0, 1, 4, .any⟩
  def RX_LAT : Row := ⟨0x50, 0, 16, .rw, 0, 1, 4, .any⟩
  def RXR_BASE : Row := ⟨0x60, 0, 64, .rw, 0, 1, 4, .align 32⟩
  def TXR_BASE : Row := ⟨0x70, 0, 64, .rw, 0, 1, 4, .align 32⟩
  def RXR_SIZE : Row := ⟨0x68, 0, 4, .rw, 6, 1, 4, .range 4 12⟩
  def TXR_SIZE : Row := ⟨0x78, 0, 4, .rw, 6, 1, 4, .range 4 12⟩
  def RXR_TAIL : Row := ⟨0x6C, 0, 12, .rw, 0, 1, 4, .any⟩
  def TXR_TAIL : Row := ⟨0x7C, 0, 12, .rw, 0, 1, 4, .any⟩
  def RXR_HEAD : Row := ⟨0x80, 0, 12, .ro, 0, 1, 4, .any⟩
  def TXR_HEAD : Row := ⟨0x84, 0, 12, .ro, 0, 1, 4, .any⟩
  def RX_FRAMES : Row := ⟨0x90, 0, 32, .ro, 0, 1, 4, .any⟩
  def TX_FRAMES : Row := ⟨0x94, 0, 32, .ro, 0, 1, 4, .any⟩
  def RX_FCS : Row := ⟨0x98, 0, 32, .ro, 0, 1, 4, .any⟩
  def RX_DROP : Row := ⟨0x9C, 0, 32, .ro, 0, 1, 4, .any⟩
  /-- The fields of the page (R333). -/
  def rows : List Row :=
    [CFG_SPEED, CFG_AN_EN, CFG_PROMISC, MAC, TX_LAT, RX_LAT, RXR_BASE, TXR_BASE, RXR_SIZE, TXR_SIZE, RXR_TAIL, TXR_TAIL,
     RXR_HEAD, TXR_HEAD, RX_FRAMES, TX_FRAMES, RX_FCS, RX_DROP]
end ETH

/-! Page PAIR (R355). -/
namespace PAIR
  def CTRL_WANT : Row := ⟨0x40, 0, 2, .rw, 0, 1, 4, .range 0 2⟩
  def CTRL_SIDE : Row := ⟨0x40, 2, 1, .rw, 0, 1, 4, .any⟩
  def CTRL_TAKE_EN : Row := ⟨0x40, 3, 1, .rw, 1, 1, 4, .any⟩
  def STAT_LINK : Row := ⟨0x44, 0, 2, .ro, 0, 1, 4, .any⟩
  def STAT_LOCK : Row := ⟨0x44, 2, 4, .ro, 0, 1, 4, .any⟩
  def STAT_POL_INV : Row := ⟨0x44, 6, 4, .ro, 0, 1, 4, .any⟩
  def STAT_REVERSED : Row := ⟨0x44, 10, 1, .ro, 0, 1, 4, .any⟩
  def STAT_SYNC : Row := ⟨0x44, 11, 1, .ro, 0, 1, 4, .any⟩
  def STAT_ROLE_I : Row := ⟨0x44, 12, 1, .ro, 0, 1, 4, .any⟩
  def STAT_PFAULT_I : Row := ⟨0x44, 13, 1, .ro, 0, 1, 4, .any⟩
  def STAT_ROLE_O : Row := ⟨0x44, 14, 1, .ro, 0, 1, 4, .any⟩
  def STAT_PFAULT_O : Row := ⟨0x44, 15, 1, .ro, 0, 1, 4, .any⟩
  def STAT_P_ROLE : Row := ⟨0x44, 16, 2, .ro, 0, 1, 4, .any⟩
  def STAT_P_FAULT : Row := ⟨0x44, 18, 1, .ro, 0, 1, 4, .any⟩
  def EPOCH_EPOCH : Row := ⟨0x48, 0, 16, .ro, 0, 1, 4, .any⟩
  def EPOCH_P_EPOCH : Row := ⟨0x48, 16, 16, .ro, 0, 1, 4, .any⟩
  def CMD_ALIGN : Row := ⟨0x4C, 0, 1, .wo, 0, 1, 4, .any⟩
  def CMD_HANDOVER : Row := ⟨0x4C, 1, 1, .wo, 0, 1, 4, .any⟩
  def CMD_FW_SEND : Row := ⟨0x4C, 2, 1, .wo, 0, 1, 4, .any⟩
  def HB_AGE : Row := ⟨0x50, 0, 16, .ro, 65535, 1, 4, .any⟩
  def FIRED_WL : Row := ⟨0x58, 0, 48, .ro, 0, 1, 4, .any⟩
  def TO_TIME : Row := ⟨0x60, 0, 64, .ro, 0, 1, 4, .any⟩
  def TO_CAUSE : Row := ⟨0x68, 0, 2, .ro, 0, 1, 4, .any⟩
  def SKEW : Row := ⟨0x6C, 0, 5, .ro, 0, 1, 4, .any⟩
  def HB_RX : Row := ⟨0x70, 0, 32, .ro, 0, 1, 4, .any⟩
  def HB_MISS : Row := ⟨0x74, 0, 32, .ro, 0, 1, 4, .any⟩
  def CRC_ERR : Row := ⟨0x78, 0, 32, .ro, 0, 1, 4, .any⟩
  def FILL_INS : Row := ⟨0x7C, 0, 32, .ro, 0, 1, 4, .any⟩
  def FILL_DEL : Row := ⟨0x80, 0, 32, .ro, 0, 1, 4, .any⟩
  def PROMOTE_CNT : Row := ⟨0x84, 0, 32, .ro, 0, 1, 4, .any⟩
  def DEMOTE_CNT : Row := ⟨0x88, 0, 32, .ro, 0, 1, 4, .any⟩
  def WL_MIS_CNT : Row := ⟨0x8C, 0, 32, .ro, 0, 1, 4, .any⟩
  def FW_DROP : Row := ⟨0x90, 0, 32, .ro, 0, 1, 4, .any⟩
  def FW_TX_CTRL_LEN : Row := ⟨0x94, 0, 9, .rw, 0, 1, 4, .fwLen⟩
  def FW_TX_CTRL_BUSY : Row := ⟨0x94, 31, 1, .ro, 0, 1, 4, .any⟩
  def FW_RX_CTRL_LEN : Row := ⟨0x98, 0, 9, .ro, 0, 1, 4, .any⟩
  def FW_RX_CTRL_FULL : Row := ⟨0x98, 31, 1, .w1c, 0, 1, 4, .any⟩
  def FW_TX : Row := ⟨0x100, 0, 32, .rw, 0, 64, 4, .any⟩
  def FW_RX : Row := ⟨0x200, 0, 32, .ro, 0, 64, 4, .any⟩
  def LONG : Row := ⟨0xA0, 0, 64, .ro, 0, 1, 4, .any⟩
  /-- The fields of the page (R355). -/
  def rows : List Row :=
    [CTRL_WANT, CTRL_SIDE, CTRL_TAKE_EN, STAT_LINK, STAT_LOCK, STAT_POL_INV, STAT_REVERSED, STAT_SYNC, STAT_ROLE_I,
     STAT_PFAULT_I, STAT_ROLE_O, STAT_PFAULT_O, STAT_P_ROLE, STAT_P_FAULT, EPOCH_EPOCH, EPOCH_P_EPOCH, CMD_ALIGN,
     CMD_HANDOVER, CMD_FW_SEND, HB_AGE, FIRED_WL, TO_TIME, TO_CAUSE, SKEW]
      ++ [HB_RX, HB_MISS, CRC_ERR, FILL_INS, FILL_DEL, PROMOTE_CNT, DEMOTE_CNT, WL_MIS_CNT, FW_DROP, FW_TX_CTRL_LEN,
        FW_TX_CTRL_BUSY, FW_RX_CTRL_LEN, FW_RX_CTRL_FULL, FW_TX, FW_RX, LONG]
end PAIR

/-! Page BST (R368). -/
namespace BST
  def CTRL_TABLE_RESTORE : Row := ⟨0x40, 0, 1, .rw, 1, 1, 4, .any⟩
  def CTRL_SOFT_REPAIR : Row := ⟨0x40, 1, 1, .rw, 1, 1, 4, .any⟩
  def LB_CFG_PATTERNS : Row := ⟨0x44, 0, 16, .rw, 16384, 1, 4, .range 1 65535⟩
  def LB_CFG_SEED : Row := ⟨0x44, 16, 16, .rw, 44257, 1, 4, .range 1 65535⟩
  def LB_EXP : Row := ⟨0x48, 0, 64, .rw, 0, 1, 4, .any⟩
  def REQ : Row := ⟨0x50, 0, 3, .rw, 0, 1, 4, .any⟩
  def MASK : Row := ⟨0x58, 0, 64, .rw, 0, 1, 4, .any⟩
  def CMD_START : Row := ⟨0x60, 0, 1, .wo, 0, 1, 4, .any⟩
  def CMD_ABORT : Row := ⟨0x60, 1, 1, .wo, 0, 1, 4, .any⟩
  def CMD_BURN : Row := ⟨0x60, 2, 1, .wo, 0, 1, 4, .any⟩
  def CMD_IMG_SAVE : Row := ⟨0x60, 3, 1, .wo, 0, 1, 4, .any⟩
  def CMD_INST : Row := ⟨0x60, 8, 7, .wo, 0, 1, 4, .any⟩
  def STAT_FSRC_OK : Row := ⟨0x64, 0, 1, .ro, 0, 1, 4, .any⟩
  def STAT_ENV_OK : Row := ⟨0x64, 1, 1, .ro, 0, 1, 4, .any⟩
  def IMG_BASE : Row := ⟨0x68, 0, 36, .rw, 0, 1, 4, .any⟩
  def VCORE : Row := ⟨0x70, 0, 12, .ro, 0, 1, 4, .any⟩
  def EXP_CYC : Row := ⟨0x74, 0, 32, .ro, 0, 1, 4, .any⟩
  def FUSE_FREE : Row := ⟨0x78, 0, 10, .ro, 0, 1, 4, .any⟩
  def RES_STAT_DONE : Row := ⟨0x400, 0, 1, .ro, 0, 74, 16, .any⟩
  def RES_STAT_PASS : Row := ⟨0x400, 1, 1, .ro, 0, 74, 16, .any⟩
  def RES_STAT_ABORTED : Row := ⟨0x400, 2, 1, .ro, 0, 74, 16, .any⟩
  def RES_STAT_VALID : Row := ⟨0x400, 3, 1, .ro, 0, 74, 16, .any⟩
  def RES_STAT_ABORT_WHY : Row := ⟨0x400, 4, 4, .ro, 0, 74, 16, .any⟩
  def RES_STAT_FAILS : Row := ⟨0x400, 8, 8, .ro, 0, 74, 16, .any⟩
  def RES_STAT_REPAIRED : Row := ⟨0x400, 16, 8, .ro, 0, 74, 16, .any⟩
  def RES_STAT_UNREPAIRABLE : Row := ⟨0x400, 24, 1, .ro, 0, 74, 16, .any⟩
  def RES_STAT_RESTORE_OK : Row := ⟨0x400, 25, 1, .ro, 0, 74, 16, .any⟩
  def RES_STAT_RESTORE_FAIL : Row := ⟨0x400, 26, 1, .ro, 0, 74, 16, .any⟩
  def RES_CYCLES : Row := ⟨0x404, 0, 32, .ro, 0, 74, 16, .any⟩
  def RES_SIG : Row := ⟨0x408, 0, 64, .ro, 0, 74, 16, .any⟩
  /-- The fields of the page (R368). -/
  def rows : List Row :=
    [CTRL_TABLE_RESTORE, CTRL_SOFT_REPAIR, LB_CFG_PATTERNS, LB_CFG_SEED, LB_EXP, REQ, MASK, CMD_START, CMD_ABORT, CMD_BURN,
     CMD_IMG_SAVE, CMD_INST, STAT_FSRC_OK, STAT_ENV_OK, IMG_BASE, VCORE, EXP_CYC, FUSE_FREE, RES_STAT_DONE, RES_STAT_PASS,
     RES_STAT_ABORTED, RES_STAT_VALID, RES_STAT_ABORT_WHY, RES_STAT_FAILS]
      ++ [RES_STAT_REPAIRED, RES_STAT_UNREPAIRABLE, RES_STAT_RESTORE_OK, RES_STAT_RESTORE_FAIL, RES_CYCLES, RES_SIG]
end BST

/-! Page SCB (R372). -/
namespace SCB
  def CTRL_EN : Row := ⟨0x40, 0, 1, .rw, 1, 1, 4, .any⟩
  def CTRL_PASS_MIN : Row := ⟨0x40, 16, 16, .rw, 60, 1, 4, .range 1 65535⟩
  def DEFER_MAX_DEFER_MS : Row := ⟨0x44, 0, 16, .rw, 1000, 1, 4, .range 1 65535⟩
  def DEFER_EXP_DEFER_MS : Row := ⟨0x44, 16, 16, .rw, 10000, 1, 4, .range 1 65535⟩
  def POS_ARRAY : Row := ⟨0x48, 0, 11, .ro, 0, 1, 4, .any⟩
  def POS_WORD : Row := ⟨0x48, 11, 12, .ro, 0, 1, 4, .any⟩
  def PASS_CNT : Row := ⟨0x4C, 0, 32, .ro, 0, 1, 4, .any⟩
  def CE_CNT : Row := ⟨0x50, 0, 32, .ro, 0, 1, 4, .any⟩
  def UE_CNT : Row := ⟨0x54, 0, 32, .ro, 0, 1, 4, .any⟩
  def SKIP_CNT : Row := ⟨0x58, 0, 32, .ro, 0, 1, 4, .any⟩
  def LAST_UE_ARRAY : Row := ⟨0x5C, 0, 11, .ro, 0, 1, 4, .any⟩
  def LAST_UE_WORD : Row := ⟨0x5C, 11, 12, .ro, 0, 1, 4, .any⟩
  /-- The fields of the page (R372). -/
  def rows : List Row :=
    [CTRL_EN, CTRL_PASS_MIN, DEFER_MAX_DEFER_MS, DEFER_EXP_DEFER_MS, POS_ARRAY, POS_WORD, PASS_CNT, CE_CNT, UE_CNT,
     SKIP_CNT, LAST_UE_ARRAY, LAST_UE_WORD]
end SCB

/-! The item blocks of R382, by item. -/
namespace ITEM
  /-- The block number k of an item in its page (R373). -/
  def blk (item : Nat) : Nat := if item = 3 then 1 else if item = 4 then 2 else if item = 5 then 3 else 0
  /-- Offset of an item's block. -/
  def at_ (item off : Nat) : Nat := 0xC0 + 0x20 * blk item + off
  /-- The factory code of an item: its neutral or middle code (log entry 29). -/
  def factory (item : Nat) : Nat :=
    if item = 1 then 0x8000 else if item = 2 then 32 else if item = 3 then 16 else if item = 5 then 32
    else if item = 6 then 512 else 0
  def CNT (item : Nat) : Row := ⟨at_ item 0x00, 0, 32, .ro, 0, 1, 4, .any⟩
  def FAIL_REJECT (item : Nat) : Row := ⟨at_ item 0x04, 0, 16, .ro, 0, 1, 4, .any⟩
  def FAIL_ABORT (item : Nat) : Row := ⟨at_ item 0x04, 16, 16, .ro, 0, 1, 4, .any⟩
  def QUAL (item : Nat) : Row := ⟨at_ item 0x08, 0, 32, .ro, 0, 1, 4, .any⟩
  def VAL_VALUE (item : Nat) : Row := ⟨at_ item 0x0C, 0, 16, .ro, factory item, 1, 4, .any⟩
  def VAL_CONSEC (item : Nat) : Row := ⟨at_ item 0x0C, 16, 8, .ro, 0, 1, 4, .any⟩
  def VAL_SUSP (item : Nat) : Row := ⟨at_ item 0x0C, 31, 1, .ro, 0, 1, 4, .any⟩
  def TIME (item : Nat) : Row := ⟨at_ item 0x10, 0, 64, .ro, 0, 1, 4, .any⟩
  def REF (item : Nat) : Row := ⟨at_ item 0x18, 0, 16, .ro, 0, 1, 4, .any⟩
  def HV_MEAS : Row := ⟨0xA0, 0, 16, .ro, 0, 1, 4, .any⟩
  /-- The fields of an item's block. -/
  def rows (item : Nat) : List Row :=
    [CNT item, FAIL_REJECT item, FAIL_ABORT item, QUAL item, VAL_VALUE item, VAL_CONSEC item, VAL_SUSP item, TIME item, REF
     item]
end ITEM

/-! Page CAL (R383). -/
namespace CAL
  def CMD_ITEM : Row := ⟨0x40, 0, 4, .wo, 0, 1, 4, .any⟩
  def CMD_INST : Row := ⟨0x40, 8, 6, .wo, 0, 1, 4, .any⟩
  def CMD_RUN : Row := ⟨0x40, 16, 1, .wo, 0, 1, 4, .any⟩
  def STAT : Row := ⟨0x44, 0, 7, .ro, 0, 1, 4, .any⟩
  def OVD : Row := ⟨0x48, 1, 7, .ro, 0, 1, 4, .any⟩
  def SUSP : Row := ⟨0x4C, 1, 7, .ro, 0, 1, 4, .any⟩
  def RUN_CNT : Row := ⟨0x50, 0, 32, .ro, 0, 1, 4, .any⟩
  def REJ_CNT : Row := ⟨0x54, 0, 32, .ro, 0, 1, 4, .any⟩
  def ABORT_CNT : Row := ⟨0x58, 0, 32, .ro, 0, 1, 4, .any⟩
  /-- The policy fields of an item. -/
  def polEn (item : Nat) : Row := ⟨0x100 + 0x10 * item, 0, 1, .rw, 1, 1, 4, .any⟩
  def polFail (item : Nat) : Row := ⟨0x100 + 0x10 * item, 4, 4, .rw, if item = 6 then 2 else 3, 1, 4, .range 1 15⟩
  def polDelta (item : Nat) : Row :=
    ⟨0x100 + 0x10 * item, 8, 8, .rw, ([8, 8, 4, 3, 6, 8, 32, 6] : List Nat).getD item 8, 1, 4, .range 1 255⟩
  def polDrift (item : Nat) : Row :=
    ⟨0x100 + 0x10 * item, 16, 12, .rw, ([40, 40, 32, 40, 24, 24, 80, 10] : List Nat).getD item 40, 1, 4, .any⟩
  def polPeriod (item : Nat) : Row :=
    ⟨0x104 + 0x10 * item, 0, 32, .rw, ([3600, 3600, 3600, 14400, 1800, 600, 86400, 60] : List Nat).getD item 3600, 1, 4, .any⟩
  def polDefer (item : Nat) : Row :=
    ⟨0x108 + 0x10 * item, 0, 16, .rw, if item = 6 then 3600 else if item = 7 then 60 else 10, 1, 4, .range 1 65535⟩
  /-- The fields of the page (R383). -/
  def rows : List Row :=
    [CMD_ITEM, CMD_INST, CMD_RUN, STAT, OVD, SUSP, RUN_CNT, REJ_CNT, ABORT_CNT]
      ++ (List.range 7).flatMap fun i =>
        [polEn (i + 1), polFail (i + 1), polDelta (i + 1), polDrift (i + 1), polPeriod (i + 1), polDefer (i + 1)]
end CAL

/-! Page DEN (R393). -/
namespace DEN
  def CTRL : Row := ⟨0x40, 0, 11, .rw, 64, 1, 4, .range 1 1000⟩
  def STAT_PIN_USED : Row := ⟨0x44, 0, 8, .ro, 0, 1, 4, .any⟩
  def STAT_PIN_FULL : Row := ⟨0x44, 8, 1, .ro, 0, 1, 4, .any⟩
  def STAT_QUEUE : Row := ⟨0x44, 9, 5, .ro, 0, 1, 4, .any⟩
  def HEAD : Row := ⟨0x48, 0, 12, .ro, 0, 1, 4, .any⟩
  def NEXT_SEQ : Row := ⟨0x4C, 0, 32, .ro, 0, 1, 4, .any⟩
  def OLDEST_SLOT : Row := ⟨0x50, 0, 12, .ro, 0, 1, 4, .any⟩
  def OLDEST_COUNT : Row := ⟨0x50, 16, 12, .ro, 0, 1, 4, .any⟩
  def SCAN_BAD : Row := ⟨0x54, 0, 13, .ro, 0, 1, 4, .any⟩
  def SCAN_EMPTY : Row := ⟨0x54, 16, 13, .ro, 0, 1, 4, .any⟩
  def WR_CNT : Row := ⟨0x58, 0, 32, .ro, 0, 1, 4, .any⟩
  def DROP_CNT : Row := ⟨0x5C, 0, 32, .ro, 0, 1, 4, .any⟩
  def OVW_CNT : Row := ⟨0x60, 0, 32, .ro, 0, 1, 4, .any⟩
  def RD_SLOT : Row := ⟨0x70, 0, 12, .wo, 0, 1, 4, .any⟩
  def RD_STAT_DONE : Row := ⟨0x74, 0, 1, .ro, 0, 1, 4, .any⟩
  def RD_STAT_VALID : Row := ⟨0x74, 1, 1, .ro, 0, 1, 4, .any⟩
  def FW_TYPE : Row := ⟨0x78, 0, 16, .rw, 32768, 1, 4, .any⟩
  def FW_GO : Row := ⟨0x7C, 0, 1, .wo, 0, 1, 4, .any⟩
  def FW_DATA : Row := ⟨0x80, 0, 32, .rw, 0, 11, 4, .any⟩
  def RD_DATA : Row := ⟨0x100, 0, 32, .ro, 0, 16, 4, .any⟩
  /-- The fields of the page (R393). -/
  def rows : List Row :=
    [CTRL, STAT_PIN_USED, STAT_PIN_FULL, STAT_QUEUE, HEAD, NEXT_SEQ, OLDEST_SLOT, OLDEST_COUNT, SCAN_BAD, SCAN_EMPTY,
     WR_CNT, DROP_CNT, OVW_CNT, RD_SLOT, RD_STAT_DONE, RD_STAT_VALID, FW_TYPE, FW_GO, FW_DATA, RD_DATA]
end DEN

end Sys2Proof.Machine.Reg
end

