-- ==== Sys2Proof/Config.lean ====
section
/-! DEFINITION. What an implementation fixes, and the free values: values the spec leaves open. A free value is an
opaque constant with no body, applied to a counter of the state (`State.free`) or to the operands it depends on. -/

namespace Sys2Proof.Config

/-- The hash of an encoder over a 4-byte group; the spec gives none (R141; log entry 73). -/
opaque chainHash : List Nat → Nat
/-- The Max_Read_Request_Size the host has set, as a power of two of 128 bytes: no command of the block sets it (R101). -/
opaque readRequest : Nat
/-- A word whose value the spec does not state. -/
opaque freeWord : Nat → BitVec 32
/-- A natural number whose value the spec does not state; it is bounded where it is used. -/
opaque freeNat : Nat → Nat

/-- SHA-256 of a byte string, byte 0 of the hash in bits 7 to 0: the spec names the function and does not define it. -/
opaque sha256 : List Byte → BitVec 256
/-- Whether an ECDSA P-256 signature is valid for a public key over a hash: named by the spec, not defined in it. -/
opaque ecdsaP256 : List Byte → List Byte → BitVec 256 → Bool

/-- The words of the boot ROM, and of the QSPI NOR device, by their offset in bytes: the spec gives neither content. -/
opaque romWord : Nat → BitVec 32
opaque qspiWord : Nat → BitVec 32

/-- The firmware version a HELLO is answered with. -/
opaque firmwareVersion : BitVec 32

end Sys2Proof.Config
end

