-- ==== Sys2Proof/Machine/State.lean ====
section
/-! DEFINITION. The state of the block as plain data, the reasons a step can stop, and the state after reset. -/

namespace Sys2Proof.Machine

/-- Why the block would stop with a fault. No meaning raises one: every command of the table has an effect the spec
gives (safe). -/
inductive Fault where
  /-- Raised by no meaning: kept so that the type names a reason. Safe. -/
  | none
  deriving DecidableEq, Repr

/-- Why a command would be refused. -/
inductive Refusal where
  /-- Raised by an arm of `exec` whose command has no meaning yet. Safe: the block stops. -/
  | notModelled (mnemonic : String)
  deriving DecidableEq, Repr

/-- The register file: field key (`Row.key`) and value, keys strictly rising, an entry only where the value differs
from the field's reset value. -/
abbrev Regs := List (Nat × Nat)

/-- What an access answered to its requester (R45, R46, R50). -/
inductive Reply where
  /-- nothing was answered yet -/
  | idle
  /-- data of a read -/
  | data (req : Nat) (v : Nat)
  /-- read completed with Unsupported Request status (R46) -/
  | unsupported (req : Nat)
  /-- access-fault exception in a core (R46) -/
  | accessFault (req : Nat)
  /-- a spool read answered a burst (R174) -/
  | burst (port : Nat) (v : BitVec 512)
  /-- a BAR2 read answered bytes, or completed with poisoned data (R104) -/
  | window (bytes : List Nat)
  | poisoned
  /-- a spool read answered an error response (R171) -/
  | spoolError (port : Nat)
  /-- a posted write was accepted or dropped without a report -/
  | posted (req : Nat)
  deriving DecidableEq, Repr

/-- What the block sends to the outside. -/
inductive Out where
  /-- an MSI-X message of a vector (R56) -/
  | msix (vec : Nat)
  /-- a line frame of a lane: header and payload, then its CRC-32C (R302, R303) -/
  | line (lane : Nat) (bytes : List Nat) (crc : Nat)
  /-- a FIRE ordered set with its SEQ (R300) -/
  | fire (lane seq : Nat)
  /-- the line frame in progress is ended (R251) -/
  | abort (lane : Nat)
  /-- a control frame of a lane: header and payload, then its CRC-32C (R304) -/
  | ctrl (lane : Nat) (bytes : List Nat) (crc : Nat)
  /-- training sets at a rate and preset (R300, R311) -/
  | ts (lane rate preset : Nat)
  /-- a completion entry written to host memory (R120) -/
  | completion (addr : Nat) (bytes : List Nat)
  /-- a read request to host memory (R101, R117, R128) -/
  | read (addr len : Nat)
  /-- a write to host memory: the output of a host job (R147) -/
  | write (addr : Nat) (bytes : List Nat)
  /-- a message on the pair link: MTYPE and body, CRC included (R343) -/
  | pairMsg (mtype : Nat) (body : List Nat)
  /-- a level driven on a TRIG_OUT ball (R327) -/
  | trig (k : Nat) (level : Bool) (width : Nat)
  /-- a step pulse of an axis and its direction (R287) -/
  | step (axis : Nat) (neg : Bool)
  /-- a PMBus command to the regulator of a rail: its address, the output PAGE and the data (R82) -/
  | pmb (rail addr page : Nat) (cmd : PmbCmd) (data : Nat)
  /-- an Ethernet frame of a port (R323) -/
  | ethTx (port : Nat) (bytes : List Nat)
  deriving DecidableEq, Repr

/-! ### The Den (R384 to R393) -/

/-- A 64-byte MRAM slot (R385), or one whose write was cut off or read back wrong, with what it holds: invalid
whatever its CRC field says (R386). -/
inductive DenSlot where
  | entry (raw : BitVec 512)
  | torn (raw : BitVec 512)
  deriving DecidableEq, Repr

/-- An entry waiting to be written (R390). -/
structure DenReq where
  type : Nat
  src : Nat
  hw : Bool
  payload : Nat
  time : Nat
  /-- the pinned copy was written during the scan (R387) -/
  pinned : Bool := false
  /-- DCLK of its arrival -/
  at_ : Nat := 0
  deriving DecidableEq, Repr

structure Den where
  /-- slots that are not empty, by slot number, strictly rising (R384) -/
  mram : List (Nat × DenSlot) := []
  queue : List DenReq := []
  /-- the entry that the writer is working on, and the DCLK at which it began (R386) -/
  cur : Option DenReq := none
  curAt : Nat := 0
  /-- the slot whose snapshot waits for the writer (R392) -/
  rdWait : Option Nat := none
  tokens : Nat := 64
  /-- DCLK at which the last token came (R390) -/
  tokAt : Nat := 0
  /-- entries dropped since the last DROPPED entry, and the first of them (R390) -/
  dropped : Nat := 0
  dropType : Nat := 0
  dropTime : Nat := 0
  /-- array, word and time of the last SRAM_UE entry (R389) -/
  lastUe : Option (Nat × Nat × Nat) := none
  deriving DecidableEq, Repr

/-! ### The spool (R155 to R176) -/

/-- A request that a port of the controller has accepted (R160). -/
structure SpoolReq where
  user : SpoolUser
  addr : Nat
  op : SpoolOp
  deriving DecidableEq, Repr

/-- The port of a request: that of its user, or P4 for the patrol scrub. -/
def SpoolReq.port (r : SpoolReq) : Nat :=
  match r.op with
  | .scrub _ => 4
  | _ => r.user.port

/-- A host access of the spool window: the bytes of a write, and what a read finds (R104, R167). -/
structure WindowReq where
  addr : Nat
  len : Nat
  data : Option (List Byte)
  poisoned : Bool
  ue : Option (Nat × BitVec 5)
  deriving DecidableEq, Repr

/-- What the spool controller and its DRAM hold beside the DDR pages. -/
structure Ddr where
  /-- the spool's bytes, addresses strictly rising, an entry only where the byte differs from what an unlisted
  address reads as, 0 (log entry 4) -/
  mem : List Host.Cell := []
  /-- bursts that hold the poison pattern, as A[35:6], strictly rising (R169) -/
  poison : List Nat := []
  /-- the self-refresh entry under way is for SETT (R166, R167) -/
  forSett : Bool := false
  /-- polls in a row in which every rank of a sub-channel reported 1x (R162) -/
  cool : Vector Nat 4 := Vector.replicate 4 0
  /-- bursts whose corrected write-back waits on P4 (R170) -/
  writeBack : List Nat := []
  /-- requests accepted and not served, oldest first (R160) -/
  queue : List SpoolReq := []
  /-- the port whose turn it is on each sub-channel, and the requests it has been served in it (R161) -/
  turn : Vector (Nat × Nat) 4 := Vector.replicate 4 (0, 0)
  /-- the open row of each bank that has one: bank and row (R156, R161) -/
  rows : List (Nat × Nat) := []
  /-- host accesses of the window that are held (R167) -/
  window : List WindowReq := []
  /-- DCLK at which a port last presented a request (R166) -/
  lastReq : Nat := 0
  /-- normal tREFI in ns, from DRAM_PARAM (R157) -/
  trefi : Nat := 0
  /-- DCLK from which the next refresh tick of each rank (rank 0 of DDRS0 to DDRS3, then rank 1), the next MR4 poll of each
  sub-channel and the next scrub read may come (R162, R163, R173) -/
  tickAt : Vector Nat 8 := Vector.replicate 8 0
  pollAt : Vector Nat 4 := Vector.replicate 4 0
  scrubAt : Nat := 0
  /-- burst and time of the last DRAM_UE Den entry (R172) -/
  lastUe : Option (Nat × Nat) := none
  deriving DecidableEq, Repr

/-! ### Pages, planes and tiles (R112 to R127, R177 to R199) -/

/-- A PAGE_OPEN entry (R112). -/
structure PageDesc where
  lpi600 : Bool
  planes : Nat
  mode : Nat
  trig : Nat
  id : Nat
  length : Nat
  copies : Nat
  gap : Nat
  fmt : Vector Nat 8
  /-- R112 returns it in completions, R120 gives it no field of one (log entry 72) -/
  cookie : Nat
  deriving DecidableEq, Repr

/-- Where an open page stands. -/
inductive PagePhase where
  | waiting | active
  deriving DecidableEq, Repr

/-- An open page. -/
structure PageSt where
  desc : PageDesc
  /-- its number in the order in which pages opened -/
  ord : Nat
  /-- SRC_WIDTH of each plane when the page was opened (R112) -/
  width : Vector Nat 8
  /-- F_SAFE in Hz (R197) -/
  fsafe : Nat
  /-- nozzle counts of the lanes as the page started (R179, R195) -/
  counts : Vector Nat 64 := Vector.replicate 64 0
  phase : PagePhase := .waiting
  /-- the trigger, edge or host command of modes 1 to 3 has come: its delay in web lines counts from the next tick -/
  go : Bool := false
  /-- web line counter at which the page is to start, once known (R186) -/
  startAt : Option Nat := none
  /-- the start was moved because R24 did not hold, and counted (R187) -/
  moved : Bool := false
  wl0 : Nat := 0
  /-- copies whose PAGE_STARTED has been written -/
  started : Nat := 0
  /-- last content web line dealt, with its copy -/
  lastDealt : Option (Nat × Nat) := none
  /-- lines dealt of each plane, over all copies -/
  dealt : Vector Nat 8 := Vector.replicate 8 0
  /-- every line that will be dealt has been dealt -/
  ending : Bool := false
  cancel : Bool := false
  /-- lanes of the page, in rising order, and those whose last line has passed -/
  lanes : List Nat := []
  done : List Nat := []
  /-- content web line of the last FIRE marker any lane of each plane sent (R389) -/
  lastFired : Vector (Option Nat) 8 := Vector.replicate 8 none
  deriving DecidableEq, Repr

/-- A tile descriptor (R114). -/
structure TileDesc where
  scw : Bool
  compress : Bool
  crcByIntake : Bool
  resubmit : Bool
  noCpl : Bool
  presetEn : Bool
  level : Nat
  preset : Nat
  width : Nat
  lines : Nat
  srcAddr : Nat
  srcLen : Nat
  rawLen : Nat
  crc : Nat
  cookie : Nat
  deriving DecidableEq, Repr

/-- What the heap holds of a tile: raw content or an SCW stream, of so many bytes; the bytes lie in the tile's granules. -/
inductive Stored where
  | raw (len : Nat)
  | stream (len : Nat)
  deriving DecidableEq, Repr

/-- How the inline encode of a tile ended (R118, R138): with a stream, with NO_GAIN, or for want of its preset. -/
inductive TileEnc where
  | stream (input stream : List Nat)
  | noGain (input : List Nat)
  | missing
  deriving DecidableEq, Repr

/-- Where a tile stands between its descriptor and its release. -/
inductive TilePhase where
  | reading | landed
  deriving DecidableEq, Repr

/-- A tile intake knows. -/
structure Tile where
  key : TileKey
  desc : TileDesc
  phase : TilePhase
  /-- granules of the heap that hold it, in the order of its bytes (R117) -/
  gran : List Nat := []
  stored : Stored := .raw 0
  crc : Nat := 0
  info : Nat := 0
  /-- TILE_DONE written, or suppressed: the Last counts the tile as accepted (R194) -/
  accepted : Bool := false
  /-- re-requests written, and whether one is outstanding (R116, R124) -/
  rereqs : Nat := 0
  outstanding : Bool := false
  /-- the copy for which the tile holds a tag, and the one for which it was last decoded -/
  tag : Option Nat := none
  decoded : Option Nat := none
  /-- copies for which its decode failed while no replacement has landed -/
  failed : List Nat := []
  /-- this is a replacement that has not landed (R124) -/
  repl : Bool := false
  /-- how the inline encode of a COMPRESS tile ended, once it has -/
  enc : Option TileEnc := none
  deriving DecidableEq, Repr

/-- A decoded tile in a band region. -/
structure BandTile where
  key : TileKey
  copy : Nat
  content : List Nat
  /-- DCLK at which its decode passed -/
  at_ : Nat := 0
  /-- where its band's region lies in the band buffer: the half, and the offset in it (R184, R190) -/
  half : Bool := false
  region : Nat := 0
  deriving DecidableEq, Repr

/-- A band of a plane: the number of its page, its copy and its band number. -/
structure BandId where
  ord : Nat
  copy : Nat
  band : Nat
  deriving DecidableEq, Repr

/-- What a plane of the Last holds: the band whose deadline passed last, whether its lines are still being dealt, and
the lanes frozen in it, with cause and column (R193). -/
structure PlaneSt where
  cur : Option BandId := none
  /-- the half of the band buffer that holds that band (R190) -/
  half : Bool := true
  busy : Bool := false
  frozen : List (Nat × Nat × Nat) := []
  /-- DCLK of that deadline, and of the one before it in the same page: the window of the band opened then (R190) -/
  dead : Nat := 0
  opened : Option Nat := none
  /-- columns of a frozen band whose decode has not ended -/
  late : List Nat := []
  deriving DecidableEq, Repr

/-- What a decoder holds (R191): the tile and the copy it is decoded for, the preset its stream names, and whether
that preset's VALID bit was clear when the header was parsed (R138). -/
structure DecJob where
  key : TileKey
  copy : Nat
  preset : Option Nat
  missing : Bool
  /-- the preset's bytes in its history, and the 64-byte blocks of them that hold an uncorrectable error (R151, R152) -/
  dict : List Nat := []
  dictBad : List Nat := []
  /-- bytes of the tile received and not consumed, bytes still to receive, and whether the preset is waited for (R192) -/
  level : Nat := 0
  left : Nat := 0
  waits : Bool := false
  deriving DecidableEq, Repr

/-- Who holds an encoder (R149, R153). -/
inductive EncUser where
  | free
  | intake (key : TileKey) (preset : Option Nat)
  | job (slot : Nat) (preset : Option Nat)
  deriving DecidableEq, Repr

/-- A compress job in a slot (R145): its 48 descriptor bytes and its age; at a park, the input, the chain entries read and the
bytes of the stream written so far, and the DCLK of the park (R148). -/
structure Job where
  desc : Nat
  ord : Nat
  input : List Nat := []
  chain : List (BitVec 128) := []
  written : Nat := 0
  parkAt : Nat := 0
  /-- DCLK at which it was queued (R370) -/
  queuedAt : Nat := 0
  deriving DecidableEq, Repr

structure Codec where
  decoders : Vector (Option DecJob) 16 := Vector.replicate 16 none
  /-- the presets in the two slots of each decoder, the one used last first (R191) -/
  decPreset : Vector (List Nat) 16 := Vector.replicate 16 []
  encoders : Vector EncUser 12 := Vector.replicate 12 .free
  /-- the preset's bytes in the window of each encoder, read as its encode started (R142, R151) -/
  encDict : Vector (List Nat) 12 := Vector.replicate 12 []
  jobs : Vector (Option Job) 16 := Vector.replicate 16 none
  jobOrd : Nat := 0
  /-- PRESET_LOAD copies under way: ID and length (R138) -/
  loads : List (Nat × Nat) := []
  /-- dropped presets whose ADMIN_DONE waits for their readers (R138) -/
  drops : List Nat := []
  deriving DecidableEq, Repr

/-- What a submission or admin ring holds beside its registers: the entry that was fetched and not passed, whether a
descriptor read is under way, and whether WAIT_PAGE has been raised for the entry (R116). -/
structure RingSt where
  fetching : Bool := false
  entry : Option (BitVec 512) := none
  /-- the entry has passed the checks of R116 and waits to be allocated -/
  checked : Bool := false
  waited : Bool := false
  deriving DecidableEq, Repr

/-- A completion that waits to be written (R120). -/
structure Cqe where
  type : Nat
  src : Nat
  status : Nat
  page : Nat
  loc : Nat
  stored : Nat
  info : Nat
  /-- the tile whose acceptance this entry makes -/
  tile : Option TileKey := none
  deriving DecidableEq, Repr

/-- Who waits for data from host memory (R101). -/
inductive ReadFor where
  | dma (t : DmaTarget)
  | job (slot : Nat)
  deriving DecidableEq, Repr

/-- A DMA read under way: the requests still to issue, as address and length, and those outstanding (R101). -/
structure DmaRead where
  who : ReadFor
  todo : List (Nat × Nat)
  flying : Nat := 0
  deriving DecidableEq, Repr

structure Intake where
  /-- open pages, in the order in which they were opened -/
  pages : List PageSt := []
  /-- nozzle counts as the Last evaluated them when it checked a PLN commit, and those in force for the active map (R179) -/
  checked : Vector Nat 64 := Vector.replicate 64 0
  counts : Vector Nat 64 := Vector.replicate 64 0
  tiles : List Tile := []
  bandBuf : List BandTile := []
  planes : Vector PlaneSt 8 := Vector.replicate 8 {}
  /-- the last 64 pages closed, newest first (R116) -/
  closed : List Nat := []
  cq : List Cqe := []
  /-- entries written since the last CQ event, and the DCLK of the first of them (R123) -/
  unsignalled : Nat := 0
  unsigAt : Nat := 0
  /-- DMA reads under way, oldest first (R101) -/
  reads : List DmaRead := []
  /-- phase of the current lap of ring 9 (R121) -/
  phase9 : Bool := true
  /-- page and BAND of the last tile checked on each plane ring, and the pages it has named (R116) -/
  order : Vector (Option (Nat × Nat)) 8 := Vector.replicate 8 none
  /-- CREDIT was below CREDIT_LOW (event on the fall) -/
  lowSeen : Bool := false
  rings : Vector RingSt 9 := Vector.replicate 9 {}
  /-- only the reserved entries of ring 9 were free (event on the change, R122) -/
  reserveSeen : Bool := false
  /-- the plane ring after the one served last (R110) -/
  turn : Nat := 0
  /-- pages accepted so far -/
  ordN : Nat := 0
  /-- the device is in D3hot (R102) -/
  d3hot : Bool := false
  /-- first web line after the page that started last, and whether one started since `PACE.CTRL.MODE` was written
  (R186) -/
  prevEnd : Nat := 0
  prevKnown : Bool := false
  deriving DecidableEq, Repr

/-! ### The spoil ring (R265 to R270) -/

/-- A spoil record under construction, on its way or held (R266). -/
structure SpoilRec where
  page : Nat
  cause : Nat
  flags : Nat
  firstWl : Nat
  count : Nat
  lanes : Nat
  planes : Nat
  copy : Nat
  time : Nat
  detail : Nat
  /-- DCLK at which its first run closed (R267) -/
  opened : Nat := 0
  deriving DecidableEq, Repr

structure Spoil where
  /-- open records, oldest first, at most four -/
  opens : List SpoilRec := []
  /-- records presented on P3 and not acknowledged, oldest first, each with its SEQ -/
  flying : List (SpoilRec × Nat) := []
  /-- the overflow record, with the last web line it covers (R269) -/
  overflow : Option (SpoilRec × Nat) := none
  /-- records since the last SPOIL event (COAL) -/
  unsignalled : Nat := 0
  deriving DecidableEq, Repr

/-! ### Power (R60 to R84) -/

/-- The device states of R63. -/
inductive DevState where
  | off | sett | idle | ready | print | fault | toReady | toIdle | toSett
  deriving DecidableEq, Repr

/-- The code of a device state in `PWR.PG_STAT.STATE`. -/
def DevState.code : DevState → Nat
  | .off => 0 | .sett => 1 | .idle => 2 | .ready => 3 | .print => 4 | .fault => 5 | .toReady => 6 | .toIdle => 7
  | .toSett => 8

/-- Where the SETT to IDLE sequence stands (R63). -/
inductive WakeStep where
  | none | pgood0 | pgood1 | plls
  deriving DecidableEq, Repr

/-- A keep-wet burst (R73): the state it began in, and the spit lines still to send once the clusters are up. -/
structure SpitRun where
  origin : DevState
  left : Nat
  sending : Bool := false
  /-- its tables have been restored -/
  restored : Bool := false
  /-- DCLK of its last spit line -/
  last : Option Nat := none
  deriving DecidableEq, Repr

structure Power where
  dev : DevState := .off
  wake : WakeStep := .none
  /-- the wake under way, or the last one, is warm: DRAM holds an image (R63, R95) -/
  warm : Bool := false
  pen0 : Bool := false
  pen1 : Bool := false
  /-- TCLK of 4 ns since the PEN that the wake waits on rose (R63, R401) -/
  penFor : Nat := 0
  pgood0 : Bool := false
  pgood1 : Bool := false
  /-- the spool controller has issued self-refresh entry in TO_SETT (R64) -/
  sreIssued : Bool := false
  /-- a wake source held until SETT is reached (R64) -/
  wakeHeld : Bool := false
  /-- a SETT request accepted in READY or TO_IDLE (R64) -/
  settNext : Bool := false
  /-- the grace wait of auto-sleep runs, and the DCLK at which it began (R67) -/
  grace : Bool := false
  graceFrom : Nat := 0
  /-- what the auto-sleep count last saw, and since which DCLK: 0 it does not run, 1 a condition fails, 2 all hold (R66) -/
  sleepSees : Nat := 0
  sleepFrom : Nat := 0
  /-- whether the device was in READY without a page, and since which DCLK (R63) -/
  calm : Bool := false
  calmFrom : Nat := 0
  /-- the raw results of the comparators (R71) -/
  cmpRaw : Vector Bool 6 := Vector.replicate 6 false
  /-- the PCI Express WAKE_N signal is asserted (R69) -/
  wakeN : Bool := false
  /-- fatal causes that wait for a wake to end (R71) -/
  pendFault : Nat := 0
  /-- RTC_LOAD written, not yet loaded: seconds and sub-seconds (R72) -/
  rtcLoad : Option (Nat × Nat) := none
  /-- DCLK at which TO_READY began, and the largest HV_TMO of the selected clusters (R78) -/
  readyFrom : Nat := 0
  readyTmo : Nat := 0
  /-- DCLK at which a cluster domain last switched on (R76) -/
  domOn : Option Nat := none
  spit : Option SpitRun := none
  /-- X32 tick at which the wake under way was recognised (R64) -/
  wakeTick : Nat := 0
  /-- seconds the RTC has counted since the cold boot, whatever it was loaded with (R233), kept through SETT -/
  uptime : Nat := 0
  /-- seconds since a lane last fired (R73), kept through SETT -/
  dry : Nat := 0
  /-- clusters the bring-up under way selects (R76) -/
  sel : Nat := 0
  /-- PMBus transfers outstanding: rail and failures so far (R82) -/
  pmb : List (Nat × Nat) := []
  /-- the head logic supply is enabled (R76) -/
  headLogic : Bool := false
  deriving DecidableEq, Repr

/-- Where a cluster stands between off and ready (R76 to R78). -/
inductive CluPhase where
  /-- domain off -/
  | off
  /-- domain on, links coming up -/
  | links
  /-- HVEN high, HVPG awaited -/
  | hv
  | ready
  /-- failed: HVEN low, domain on (R78) -/
  | failed
  /-- on the way down: HVEN low, HVPG's fall awaited; then the discharge wait -/
  | fall
  | discharge
  deriving DecidableEq, Repr

structure CluHw where
  phase : CluPhase := .off
  /-- DCLK of the last rise of HVEN -/
  hvenAt : Nat := 0
  /-- DCLK from which the discharge wait counts (R76) -/
  fellAt : Nat := 0
  /-- V_CL in mV; 0 while the domain is off (R79) -/
  vcl : Nat := 0
  /-- DCLK from which the next try of a failed cluster counts -/
  tryAt : Nat := 0
  /-- the cluster has failed and has not been ready since (R78) -/
  retry : Bool := false
  /-- an enabled lane passed the 35 ms bound without its link (R78) -/
  linkLate : Bool := false
  /-- an operating-point change under way (R80) -/
  opTo : Option Nat := none
  /-- the operating point a self-test displaced (R80) -/
  opWas : Option Nat := none
  /-- the matrix store: cell index and cell, cells that are not 0, indices rising (R211) -/
  mat : Regs := []
  /-- a matrix load (true) or CRC computation (false) that runs, with BASE and COUNT (R212) -/
  matRun : Option (Bool × Nat × Nat) := none
  /-- MAT_SRC as the load began -/
  matSrc : Nat := 0
  deriving DecidableEq, Repr

/-! ### Lanes -/

/-- The lane states of R12. -/
inductive LaneState where
  | off | link | idle | armed | firing | hold | test | cal | fault
  deriving DecidableEq, Repr

/-- The encoding of R12. -/
def LaneState.code : LaneState → Nat
  | .off => 0 | .link => 1 | .idle => 2 | .armed => 3 | .firing => 4 | .hold => 5 | .test => 6 | .cal => 7
  | .fault => 8

/-- A line of a page on one lane: what names it (R182, R188, R247). -/
structure LineTag where
  page : Nat
  copy : Nat
  /-- web line of the copy -/
  w : Nat
  /-- content web line WL_k + w -/
  wl : Nat
  /-- web line counter at its firing tick -/
  tick : Nat
  plane : Nat
  /-- number of the line among all the lane was dealt -/
  ord : Nat
  /-- first line of its lane in the page (R250) -/
  first : Bool
  /-- last line of its lane in the page -/
  last : Bool
  deriving DecidableEq, Repr

/-- What the Last dealt for a line: the nozzle words of R181, or that the lane gets none, with the cause of R193 and
the column of the first unfinished tile and its band. -/
inductive Dealt where
  | words (l : List Nat)
  | missing (cause band col : Nat)
  deriving DecidableEq, Repr

/-- The screening of a plane on a lane as its cluster's SCR page gives it (R225): MODE, ED_RESET, the matrix, the seeds, the
kernel and Q1 to Q7. -/
structure PlSet where
  mode : Nat := 0
  edReset : Bool := false
  log2w : Nat := 4
  log2h : Nat := 4
  amp : Nat := 0
  cell : Nat := 0
  xoff : Nat := 0
  yoff : Nat := 0
  kern : Nat := 0
  q : List Nat := []
  deriving DecidableEq, Repr

/-- A line in the input buffer. -/
structure InLine where
  tag : LineTag
  body : Dealt
  /-- plane position of the lane's nozzle 0 as the page started (R179), and the screening set in force when the line was dealt
  (R220; log entry 91) -/
  base : Nat := 0
  set : PlSet := {}
  /-- E is 0 on this line (R214) -/
  reset : Bool
  /-- first line of a band of the plane (R41), and a line of a pre-screened plane (R203) -/
  band : Bool := false
  pre : Bool := false
  deriving DecidableEq, Repr

/-- A screened line in the line FIFO. -/
structure FifoLine where
  tag : LineTag
  levels : List Nat
  taint : Bool
  /-- an uncorrectable error in the FIFO when the line is read for preparation (R265, cause UE) -/
  ue : Bool
  deriving DecidableEq, Repr

/-- A prepared line (R249). -/
structure PrepLine where
  tag : LineTag
  levels : List Nat
  taint : Bool
  set : Nat
  bank : Nat
  /-- the FIFO word error of R265, cause UE -/
  ue : Bool := false
  /-- DCLK at which its preparation ends (R249) -/
  ready : Nat := 0
  /-- element drops, lowest cap, nozzles dropped or demoted (R266) -/
  elem : Bool
  cap : Nat
  hurt : Nat
  /-- sequence number of its line frame, and the DCLK at which the frame started and ends; none before it starts -/
  frame : Option (Nat × Nat × Nat)
  /-- cause and DETAIL of the HOLD that kept it from being sent: a RESUME does not send it (R262, R263) -/
  held : Option (Nat × Nat) := none
  deriving DecidableEq, Repr

/-- A line whose firing instant has not passed. -/
structure Due where
  tag : LineTag
  /-- the lane gets no words: cause, band and column (R193) -/
  miss : Option (Nat × Nat × Nat)
  /-- DCLK of its firing instant, known from its line tick on (R248) -/
  instant : Option Nat := none
  deriving DecidableEq, Repr

/-- A run of spoiled lines of one lane (R267). -/
structure Run where
  page : Nat
  cause : Nat
  flags : Nat
  firstWl : Nat
  count : Nat
  copy : Nat
  plane : Nat
  time : Nat
  detail : Nat
  /-- DCLK at which it opened (R267) -/
  opened : Nat := 0
  deriving DecidableEq, Repr

/-- A line whose instant passed while the device was SHADOW: the cause and DETAIL it gets if the device promotes before the
partner has fired it, and the DCLK of its instant (R352). -/
structure Passed where
  tag : LineTag
  cause : Nat
  detail : Nat
  at_ : Nat
  deriving DecidableEq, Repr

/-- A seam word (R215). -/
structure SeamWord where
  ea : Int
  eb : Int
  src : Nat
  taint : Bool
  line : Nat
  plane : Nat
  /-- content web line of the line it was made on -/
  wl : Nat := 0
  deriving DecidableEq, Repr

/-- A downstream control frame (R304): TYPE, payload and sequence number, and how often it has been sent (R305). -/
structure CtrlFrame where
  type : Nat
  payload : Nat
  cseq : Nat := 0
  sends : Nat := 0
  /-- DCLK at which the EOF of its last sending ends -/
  ends : Nat := 0
  deriving DecidableEq, Repr

/-- A FIRE whose LSTAT is awaited (R309): SEQ, the line, and the DCLK of its firing instant. -/
structure FireWait where
  seq : Nat
  tag : Option LineTag
  at_ : Nat := 0
  deriving DecidableEq, Repr

/-- An Awl scan and its result (R230 to R234). -/
structure Awl where
  /-- codes received, nozzle 0 first; only while a scan runs -/
  codes : List Nat := []
  /-- the result held for COMMIT_PEND (R232): result bits, nozzle 0 first, and NEW -/
  held : Option (List Bool × Nat) := none
  /-- the second of the RTC's count of the last accepted scan, or of the cold boot (R233) -/
  since : Nat := 0
  /-- DCLK at which the EOF of SCAN_START ended, and at which the last code arrived (R230, R316) -/
  start : Option Nat := none
  full : Option Nat := none
  /-- the state that a cause calls for which fell after the last code (R235) -/
  after : Option LaneState := none
  deriving DecidableEq, Repr

/-- The rate search of a bring-up (R311 to R313). -/
structure Trial where
  rate : Nat
  preset : Nat
  /-- 0 SPEED sent, 1 waiting for the switch, 2 waiting for lock, 3 TRAIN sent, 4 returning after a failure -/
  step : Nat
  /-- the upstream showed a code-group error during the trial -/
  bad : Bool := false
  /-- best passing preset so far and its DS_EYE, when the head reports DS_EYE (R313) -/
  best : Option (Nat × Nat) := none
  /-- the trial is the one of FAST -/
  fast : Bool := false
  /-- DCLK at which its step began -/
  at_ : Nat := 0
  deriving DecidableEq, Repr

/-- The registers of a VNL page that take effect at the next bring-up, as they stood when it began (R317). -/
structure LinkCfg where
  maxRate : Nat := 3
  board : Bool := false
  ackUs : Nat := 4
  crcLimit : Nat := 8
  statTmo : Nat := 200
  nExp : Nat := 0
  taps : Nat × Nat := (0, 0)
  deriving DecidableEq, Repr

/-- What a lane holds beside its registers and its table window. -/
structure LaneHw where
  st : LaneState := .off
  /-- the page the lane is armed for or serves -/
  page : Option Nat := none
  /-- why a lane of an active page that has left HOLD or FAULT no longer fires: the cause of its later lines -/
  outCause : Option (Nat × Nat) := none
  /-- the reading that placed the lane in HOLD (R266) -/
  holdTemp : Nat := 0
  /-- lines whose instants passed while the device was SHADOW, newest first; and whether the lane has sent no FIRE since
  promotion in the page it serves (R352) -/
  past : List Passed := []
  takeover : Bool := false
  /-- lines dealt so far -/
  ords : Nat := 0
  inbuf : List InLine := []
  /-- lines whose firing instant has not passed, in order -/
  due : List Due := []
  fifo : List FifoLine := []
  prep : List PrepLine := []
  /-- the page for the rest of which the engine is stopped (R219) -/
  stopped : Option Nat := none
  /-- DCLK at which the pair of the line under way first waited for a seam word (R217) -/
  waitAt : Option Nat := none
  /-- the last line screened: its index w -/
  lastW : Option Nat := none
  /-- error diffused to the next line, at 16 times scale; no entry stands for 0 (R213) -/
  acc : List Int := []
  /-- seam words in flight to this lane and words arrived: from the left and from the right (R216) -/
  wireL : List SeamWord := []
  wireR : List SeamWord := []
  rxL : List SeamWord := []
  rxR : List SeamWord := []
  tmoL : Bool := false
  tmoR : Bool := false
  /-- tainted for a cause of its own; tainted by a seam word (R218) -/
  taintOwn : Bool := false
  taintWord : Bool := false
  /-- element guard credits; the list shorter than N stands for zeros (R259) -/
  credit : List Nat := []
  /-- energies of the last lines, newest first (R260) -/
  energy : List Nat := []
  /-- DCLK of the last FIRE marker sent -/
  lastFire : Option Nat := none
  /-- FIRE markers since the last temperature reading (R262) -/
  noTemp : Nat := 0
  /-- no line was prepared since the link came up (R255) -/
  freshBand : Bool := true
  /-- last line was guarded (SEQ event GUARD, R271) -/
  guarded : Bool := false
  run : Option Run := none
  after : Option Run := none
  /-- next line frame SEQ (R302) and next control CSEQ (R304) -/
  seq : Nat := 0
  cseq : Nat := 0
  ctrl : List CtrlFrame := []
  unacked : List CtrlFrame := []
  fires : List FireWait := []
  /-- DCLK at which the preparation under way ends (R249), and at which the control frame under way does (R305) -/
  prepEnd : Nat := 0
  ctrlEnd : Nat := 0
  /-- DCLK at which LSTATE last changed, the bring-up bound started (R311), the last good upstream frame came (R314) and the eye
  was last measured (R315) -/
  lsAt : Nat := 0
  boundAt : Nat := 0
  heardAt : Nat := 0
  eyeAt : Nat := 0
  cfg : LinkCfg := {}
  /-- consecutive LSTAT results 1 to 3 (R314) -/
  crcRun : Nat := 0
  trial : Option Trial := none
  /-- an EPOCH frame has been acknowledged since LOAD was entered (R311) -/
  epochOk : Bool := false
  /-- VENDOR, MODEL, SERIAL and N before the loss, for FAST (R311) -/
  identity : Nat × Nat × Nat × Nat := (0, 0, 0, 0)
  awl : Awl := {}
  /-- the lane table window, by word index, entries that are not 0 (R206) -/
  win : Regs := []
  /-- the STAGED map as it stood when the pending commit was requested (R232) -/
  mapSnap : Option (List Nat) := none
  /-- `WELT_CTRL.HANDOVER` of the left neighbour, taken with MASK_L (R238) -/
  hoL : Bool := false
  /-- a computation of TBL_CRC runs (R223) -/
  tblRun : Bool := false
  /-- the lane takes part in the keep-wet burst under way (R73) -/
  spit : Bool := false
  deriving DecidableEq, Repr

/-! ### The pair (R334 to R355) -/

/-- The pair roles. -/
inductive Role where
  | solo | lead | shadow
  deriving DecidableEq, Repr

/-- The code of a role in `PAIR.PG_STAT.STATE` and in heartbeats (R334). -/
def Role.code : Role → Nat
  | .solo => 0 | .lead => 1 | .shadow => 2

structure Pair where
  role : Role := .solo
  /-- F_WL of the last promotion (R345, R352) -/
  fWl : Nat := 0
  /-- FIRED_WL of the last valid heartbeat whose FAULT flag was clear (R345) -/
  fClear : Nat := 0
  /-- HOLD_MASK of the last valid heartbeat, and the bits that have changed and not been mirrored yet (R336) -/
  holdMask : Nat := 0
  holdChg : Nat := 0
  /-- HB_SEQ of the next heartbeat -/
  hbSeq : Nat := 0
  /-- consecutive heartbeats whose counters differ by more than 1 (R338) -/
  differ : Nat := 0
  /-- a valid heartbeat has arrived since the last missed interval (R356) -/
  fresh : Bool := false
  /-- the last heartbeat heard: its FLAGS and PART (R343) -/
  heard : Option (Nat × Nat) := none
  /-- a handover was accepted; an ALIGN was sent and the shadow's next heartbeat is awaited (R354, R338) -/
  handover : Bool := false
  aligned : Bool := false
  /-- DCLK of the last heartbeat queued (R344), and at which the interval of HB_MISS began (R355) -/
  hbAt : Nat := 0
  missAt : Nat := 0
  /-- DCLK at which the FW message under way has been sent (R355) -/
  fwUntil : Nat := 0
  deriving DecidableEq, Repr

/-! ### The pace unit (R272 to R284) -/

structure Pace where
  /-- the ratio accumulator, 48 bits signed -/
  acc : Int := 0
  /-- line ticks made and not taken yet (R278) -/
  ticks : Nat := 0
  /-- DCLK of the last tick since MODE was written, and the interval before it -/
  last : Option Nat := none
  gap : Option Nat := none
  /-- the last tick interval, none on the first tick after the unit starts or after STOPPED (R281) -/
  interval : Option Nat := none
  /-- DCLK of the last tick (R282), of the last tick of INTERNAL mode or of the write of MODE (R277), and since which no source of
  SLOWREQ holds (R281) -/
  tickAt : Nat := 0
  intAt : Nat := 0
  quietFrom : Option Nat := some 0
  /-- the last interval was shorter than T_P (R282) -/
  short : Bool := false
  /-- no interval counts at the next tick: the unit starts, or was STOPPED (R281) -/
  fresh : Bool := true
  /-- net edges since the last accepted Z edge; none before the first -/
  zNet : Option Int := none
  /-- web line of the last accepted top-of-form edge, as the counter counts now -/
  tofWl : Option Int := none
  deriving DecidableEq, Repr

/-! ### Motion axes (R286 to R298) -/

/-- Where the homing sequence of R293 stands: seek, brake after the capture, back-off, brake after the release. -/
inductive Homing where
  | none | seek | capture | backoff | settle
  deriving DecidableEq, Repr

/-- What an axis holds beside its registers. Speeds are in steps/s over (2 x 10^6)^2, accelerations in steps/s^2 over
2 x 10^6 and places in steps over (2 x 10^6)^3, so that an update of 0.5 us adds whole numbers (R290). -/
structure AxisHw where
  vel : Int := 0
  acc : Int := 0
  /-- how far the profile is ahead of the steps issued -/
  lead : Int := 0
  /-- the move in progress: KIND and TARGET -/
  move : Option (Nat × Int) := none
  /-- AMAX, DMAX and JMAX in use (R291) -/
  amax : Nat := 625
  dmax : Nat := 625
  jmax : Nat := 0
  homing : Homing := .none
  /-- steps issued in the homing step under way -/
  homeSteps : Nat := 0
  /-- the limit whose trip the axis is in LIMIT for: 1 when it is the positive one -/
  trip : Option Bool := none
  /-- braking at EDEC, JMAX ignored (R292) -/
  ramp : Bool := false
  /-- DCLK before which the first step after a wake is held (R295) -/
  holdUntil : Nat := 0
  /-- the level of DIR as the generator drives it, true for negative motion, and the DCLK at which it changed (R287) -/
  dirNeg : Bool := false
  dirAt : Nat := 0
  /-- DCLK of the last step (R287), of the last update (R289) and of the entry into IDLE (R295) -/
  stepAt : Option Nat := none
  updAt : Nat := 0
  idleAt : Nat := 0
  /-- SHADOW: DCLK of the last observed step, the interval before it, and its direction (R353) -/
  seen : Option (Nat × Option Nat × Bool) := none
  /-- the retention record: POS, LOST and the comparator that watches the driver's supply (R294) -/
  kept : Nat × Bool × Nat := (0, true, 0)
  deriving DecidableEq, Repr

/-! ### Time (R319 to R333) -/

structure Time where
  /-- fraction of the time counter, units of 2^-32 ns -/
  frac : Nat := 0
  /-- fraction of an X32 tick, in units of 1/250,000,000, and X32 ticks since the last measurement of X32 began (R331) -/
  x32 : Nat := 0
  x32n : Nat := 0
  /-- DCLK from which HOLD_MS counts: the last accepted offset, or the entry into TRACK (R325) -/
  ofsAt : Nat := 0
  /-- T_save and R_save, and `X32_PPB` with its VALID bit, in AON retention (R331) -/
  saved : Option (Nat × Nat × Nat × Bool) := none
  deriving DecidableEq, Repr

/-! ### Self-test (R357 to R367) -/

/-- A repair: array, row, spare. -/
structure Repair where
  array : Nat
  row : Nat
  spare : Nat
  deriving DecidableEq, Repr

/-- A test that runs. -/
structure BistRun where
  target : Nat
  /-- lanes or clusters named; empty for kinds 4 and 5 -/
  insts : List Nat
  /-- lanes in TEST -/
  lanes : List Nat
  /-- DCLK at which it began -/
  at_ : Nat := 0
  deriving DecidableEq, Repr

/-- A fuse burn: the slot and the repairs still to blow. -/
structure Burn where
  slot : Nat
  todo : List Repair
  deriving DecidableEq, Repr

structure Bist where
  /-- the device and cluster pages whose blocks are in TEST -/
  pages : List Page := []
  run : Option BistRun := none
  burn : Option Burn := none
  /-- the lane whose window is being copied to its image (R365) -/
  img : Option Nat := none
  /-- soft repairs in force, each with its result slot (R364) -/
  soft : List (Nat × Repair) := []
  /-- fuse entries whose blowing was stopped: never used (R367) -/
  dead : List Nat := []
  /-- DCLK of the next sample of VDD_CORE (R362), of the next read of the SRAM scrub (R371), and at which the save of a table
  image or counts under way was asked for (R370) -/
  sampleAt : Nat := 0
  scrubAt : Nat := 0
  imgAt : Nat := 0
  deriving DecidableEq, Repr

/-! ### Calibration (R373 to R381) -/

/-- A running item: its instance, and once its result is accepted the values it walks to. -/
structure CalRun where
  item : Nat
  inst : Nat
  /-- target code and QUAL of an accepted result -/
  goal : Option (Nat × Nat) := none
  /-- DLL_LOCK as a DLL run began -/
  lock : Bool := false
  /-- DCLK at which it began, refreshes of its sub-channel at that moment (item 7), and DCLK of its result or last step (R373)
  -/
  at_ : Nat := 0
  refs : Nat := 0
  stepAt : Nat := 0
  deriving DecidableEq, Repr

structure Cal where
  runs : List CalRun := []
  /-- instances that have succeeded since their domain powered up: item and instance (R375) -/
  ok : List (Nat × Nat) := []
  /-- instances found due at a second of the RTC that have not started, each with that second (R378) -/
  waits : List (Nat × Nat × Nat) := []
  /-- instances that are OVERDUE -/
  late : List (Nat × Nat) := []
  /-- DQS oscillator count of each sub-channel, read at the last MR4 poll (R375) -/
  dqs : Vector Nat 4 := Vector.replicate 4 0
  deriving DecidableEq, Repr

/-! ### The cores (R85 to R100) -/

/-- What a PTP_START asked for (R417). -/
structure PtpSet where
  port : Nat
  profile : Nat
  transport : Nat
  domain : Nat
  mac : Nat
  deriving DecidableEq, Repr

structure Cores where
  /-- bytes in the push buffer, and those the boot ROM has taken from it: the image as far as it has come (R91) -/
  push : List Nat := []
  image : List Byte := []
  /-- the header of the image whose boot is under way, once steps 1 to 6 have passed it (R93) -/
  bootHdr : List Byte := []
  /-- the power and safety core's 64 KiB of local memory, in the form of the spool's (R85, R93) -/
  safeMem : List Host.Cell := []
  /-- `mtimecmp` of the application cores (R87; log entry 62) -/
  mtimecmp : Vector (BitVec 64) 4 := Vector.replicate 4 0
  /-- a word was discarded: the boot will fail (R91) -/
  pushOvf : Bool := false
  /-- the boot under way, or the last one, began with a source of R90 -/
  bootsel : Nat := 0
  /-- watchdogs that have expired and have not been kicked since (R99) -/
  expired : Vector Bool 5 := Vector.replicate 5 false
  /-- DCLK at which each watchdog's count last restarted (R99) -/
  kicked : Vector Nat 5 := Vector.replicate 5 0
  /-- the boot under way has DDR5 training before it (R93, R95) -/
  needTrain : Bool := true
  /-- the PTP the firmware runs -/
  ptp : Option PtpSet := none
  deriving DecidableEq, Repr

/-- The state of the block: everything the spec gives it, as plain data. -/
structure State where
  /-- the commands that are waiting, first in first out -/
  pending : List Instr := []
  /-- the register file: the value in force of every field of every page -/
  regs : Regs := []
  /-- the staged copies of the RWS fields (R38, R40) -/
  staged : Regs := []
  /-- device DCLK since power-on reset, 2 ns each -/
  dclk : Nat := 0
  /-- how many free values have been drawn -/
  free : Nat := 0
  /-- low words held for a requester: REQ code, key of the pair, word (R50) -/
  held : List (Nat × Nat × Nat) := []
  /-- high words captured for a requester (R50) -/
  captured : List (Nat × Nat × Nat) := []
  reply : Reply := .idle
  out : List Out := []
  /-- vectors whose routed sources were pending at the last tick, bit v (R56) -/
  vecWas : Nat := 0
  power : Power := {}
  lanes : Vector LaneHw 64 := Vector.replicate 64 {}
  pair : Pair := {}
  pace : Pace := {}
  axes : Vector AxisHw 8 := Vector.replicate 8 {}
  tim : Time := {}
  clusters : Vector CluHw 8 := Vector.replicate 8 {}
  cal : Cal := {}
  cores : Cores := {}
  codec : Codec := {}
  /-- pages with a pending commit and the DCLK of the request (R42) -/
  commits : List (Page × Nat) := []
  bist : Bist := {}
  ddr : Ddr := {}
  intake : Intake := {}
  spoil : Spoil := {}
  /-- nozzle count each lane's head gave since the cold boot; 0: none (R179) -/
  identN : Vector Nat 64 := Vector.replicate 64 0
  den : Den := {}
  deriving DecidableEq, Repr

/-- The block before power-on: state OFF, every register at its reset value, nothing waiting (log entry 1). -/
def State.reset : State := {}

end Sys2Proof.Machine
end

