-- ==== Sys2Proof/Machine/Ops.lean ====
section
/-! DEFINITION. The named operations every meaning is written with: reading and writing a field of the register
file, raising an event, recording an error, counting, checking and recording a fabric access, CRC-32C. -/

namespace Sys2Proof.Machine

open Reg

/-! ### The register file -/

/-- The value under a key, or the default. -/
def Regs.get : Regs → Nat → Nat → Nat
  | [], _, d => d
  | (k, v) :: m, key, d => if k = key then v else Regs.get m key d

/-- The map without a key. -/
def Regs.erase : Regs → Nat → Regs
  | [], _ => []
  | (k, v) :: m, key => if k = key then Regs.erase m key else (k, v) :: Regs.erase m key

/-- The map with a key set, keys kept rising. -/
def Regs.insert : Regs → Nat → Nat → Regs
  | [], key, x => [(key, x)]
  | (k, v) :: m, key, x =>
    if key < k then (key, x) :: (k, v) :: m
    else if k = key then (key, x) :: m
    else (k, v) :: Regs.insert m key x

/-- A field's value, the reset value removing the entry. -/
def Regs.put (m : Regs) (key reset x : Nat) : Regs :=
  if x = reset then Regs.erase m key else Regs.insert m key x

/-- The map without the keys from lo to hi - 1. -/
def Regs.clear (m : Regs) (lo hi : Nat) : Regs := m.filter fun e => !(decide (lo ≤ e.1) && decide (e.1 < hi))

/-- The canonical form: keys strictly rising. -/
def Regs.wf : Regs → Bool
  | [] => true
  | _ :: [] => true
  | (k, _) :: (k', v) :: m => decide (k < k') && Regs.wf ((k', v) :: m)

/-- The n keys from lo on return to their reset values. -/
def State.clearRange (s : State) (lo n : Nat) : State := { s with regs := Regs.clear s.regs lo (lo + n) }

/-- The value in force of copy i of a field. -/
def State.rd (s : State) (p : Page) (r : Row) (i : Nat := 0) : Nat := Regs.get s.regs (r.key p i) r.reset

/-- Whether a one-bit field is 1. -/
def State.on (s : State) (p : Page) (r : Row) (i : Nat := 0) : Bool := s.rd p r i == 1

/-- The staged copy of an RWS field (R38). -/
def State.rdStaged (s : State) (p : Page) (r : Row) (i : Nat := 0) : Nat := Regs.get s.staged (r.key p i) r.reset

/-- Set the value in force of copy i of a field, cut to its width. -/
def State.wr (s : State) (p : Page) (r : Row) (v : Nat) (i : Nat := 0) : State :=
  { s with regs := Regs.put s.regs (r.key p i) r.reset (v % 2 ^ r.width) }

/-- Set the staged copy of copy i of an RWS field, cut to its width. -/
def State.wrStaged (s : State) (p : Page) (r : Row) (v : Nat) (i : Nat := 0) : State :=
  { s with staged := Regs.put s.staged (r.key p i) r.reset (v % 2 ^ r.width) }

/-- Set both copies of an RWS field. -/
def State.wrBoth (s : State) (p : Page) (r : Row) (v : Nat) (i : Nat := 0) : State :=
  (s.wr p r v i).wrStaged p r v i

/-- Count n in a saturating counter (R395). -/
def State.bump (s : State) (p : Page) (r : Row) (n : Nat := 1) (i : Nat := 0) : State :=
  s.wr p r (min (s.rd p r i + n) (2 ^ r.width - 1)) i

/-- Set a one-bit field from a truth value. -/
def State.flag (s : State) (p : Page) (r : Row) (b : Bool) (i : Nat := 0) : State := s.wr p r b.toNat i

/-- The value of a field read as a two's complement number. -/
def signed (w v : Nat) : Int := if v < 2 ^ (w - 1) then (v : Int) else (v : Int) - (2 ^ w : Nat)

/-- The field of width w that holds an integer. -/
def unsigned (w : Nat) (i : Int) : Nat := (i % (2 ^ w : Nat)).toNat

/-- A signed field. -/
def State.rdS (s : State) (p : Page) (r : Row) (i : Nat := 0) : Int := signed r.width (s.rd p r i)

/-- Set a signed field. -/
def State.wrS (s : State) (p : Page) (r : Row) (v : Int) (i : Nat := 0) : State := s.wr p r (unsigned r.width v) i

/-- The fields from hi down to lo of a number. -/
def bits (v hi lo : Nat) : Nat := v / 2 ^ lo % 2 ^ (hi + 1 - lo)

/-- Bit i of a number. -/
def bit (v i : Nat) : Bool := v.testBit i

/-- An action taken only under a condition. -/
def State.when (s : State) (c : Bool) (f : State → State) : State := if c then f s else s

/-- An action for each member of a list, in order. -/
def State.each {α : Type} (s : State) (l : List α) (f : State → α → State) : State := l.foldl f s

/-- Device time in ns (R319). -/
def State.time (s : State) : Nat := s.rd .tim TIM.TIME

/-- Draw a free value: the number of the draw, and the state that has used it. -/
def State.draw (s : State) : Nat × State := (s.free, { s with free := s.free + 1 })

/-- Take n free values at once. -/
def State.drawMany (s : State) (n : Nat) : State := { s with free := s.free + n }

/-- Send something to the outside. -/
def State.emit (s : State) (o : Out) : State := { s with out := s.out ++ [o] }

/-! ### Events and errors (R43, R44, R51, R52) -/

/-- Event i of a page occurs (R51). -/
def State.raise (s : State) (p : Page) (i : Nat) : State :=
  s.wr p HDR.PG_EVT_RAW (s.rd p HDR.PG_EVT_RAW ||| 2 ^ i)

/-- Record error nn of a page with its information word (R35, R43); sets the event ERR (R52). -/
def State.err (s : State) (p : Page) (nn info : Nat) : State :=
  let s' :=
    if s.on p HDR.PG_ERR_CODE_VALID then
      s.wr p HDR.PG_ERR_CODE_COUNT (min (s.rd p HDR.PG_ERR_CODE_COUNT + 1) 255)
    else
      ((((s.wr p HDR.PG_ERR_CODE_CODE (p.tt * 256 + nn)).wr p HDR.PG_ERR_CODE_COUNT 1).wr p
        HDR.PG_ERR_CODE_VALID 1).wr p HDR.PG_ERR_INFO info).wr p HDR.PG_ERR_TIME s.time
  s'.raise p 0

/-- Record a block error whose `PG_ERR_INFO` the spec does not state: a free value (log entry 11). -/
def State.errOpen (s : State) (p : Page) (nn : Nat) : State :=
  let (n, s) := s.draw
  s.err p nn (Config.freeWord n).toNat

/-- The common layout of `PG_ERR_INFO`: OFFSET[11:2] and REQ[15:12] (R43). -/
def errInfo (off req : Nat) : Nat := off / 4 * 4 % 0x1000 + req * 0x1000

/-- Record an error with the common layout. -/
def State.errAt (s : State) (p : Page) (nn off req : Nat) : State := s.err p nn (errInfo off req)

namespace Err
  /-- The common codes of R43. -/
  def rejectRun : Nat := 0x01
  def locked : Nat := 0x02
  def badValue : Nat := 0x03
  def commitBusy : Nat := 0x04
  def commitInvalid : Nat := 0x05
  def commitAtBad : Nat := 0x06
  def notEnabled : Nat := 0x07
end Err

/-- A device page's block state (R35); a change raises STATE (R52). -/
def State.setPage (s : State) (p : Page) (v : Nat) : State :=
  if s.rd p HDR.PG_STAT_STATE = v then s else (s.wr p HDR.PG_STAT_STATE v).raise p 6

/-- A page's FAULT bit; a rise raises FAULT (R52). -/
def State.setFault (s : State) (p : Page) (b : Bool) : State :=
  ((s.flag p HDR.PG_STAT_FAULT b).when (b && !s.on p HDR.PG_STAT_FAULT) fun t => t.raise p 5)

/-- A page's OVERDUE bit; a rise raises OVERDUE (R52). -/
def State.setOverdue (s : State) (p : Page) (b : Bool) : State :=
  ((s.flag p HDR.PG_STAT_OVERDUE b).when (b && !s.on p HDR.PG_STAT_OVERDUE) fun t => t.raise p 4)

/-- The codec takes new work: EN is 1 and it is not in TEST (R150, R360). -/
def State.codecOn (s : State) : Bool := s.on .cdc HDR.PG_CTRL_EN && !s.bist.pages.contains .cdc

/-! ### CRC-32C (R115) -/

/-- One bit step of the reflected CRC-32C register. -/
def crcBit (c : Nat) : Nat := if c % 2 = 1 then (c / 2) ^^^ 0x82F63B78 else c / 2

/-- One byte into the CRC-32C register. -/
def crcByte (c b : Nat) : Nat :=
  crcBit (crcBit (crcBit (crcBit (crcBit (crcBit (crcBit (crcBit (c ^^^ b))))))))

/-- CRC-32C of a byte string: initial value and final exclusive-or 0xFFFF_FFFF. -/
def crc32c (l : List Nat) : Nat := l.foldl crcByte 0xFFFFFFFF ^^^ 0xFFFFFFFF

/-- The n low bytes of a number, lowest first. -/
def bytesOf (n v : Nat) : List Nat := (List.range n).map fun i => v / 2 ^ (8 * i) % 256

/-- The number a little-endian byte string spells. -/
def ofBytes : List Nat → Nat
  | [] => 0
  | b :: l => b + 256 * ofBytes l

end Sys2Proof.Machine
end

