-- ==== Sys2Proof/Machine/Operands.lean ====
section
/-! DEFINITION. The forms of the entries and descriptors the block reads: page descriptors (R112), tile descriptors
(R114), stream headers (R130), job descriptors (R145), and the figures of a page that follow from them (R18, R19, R177,
R178, R196, R197). -/

namespace Sys2Proof.Machine

/-- n bytes of an entry from a byte offset, little-endian. -/
def entryField (e : BitVec 512) (off n : Nat) : Nat := e.toNat / 2 ^ (8 * off) % 2 ^ (8 * n)

/-- A number divided by another, rounded up. -/
def ceilDiv (a b : Nat) : Nat := (a + b - 1) / b

/-! ### Pages -/

/-- Bits of a sample as stored, by FMT (R19, R112). -/
def fmtBits (f : Nat) : Nat := if f = 0 then 8 else if f = 1 then 10 else f - 1

/-- Samples per inch of a RES code (R112). -/
def resPpi (r : Nat) : Nat := 300 * 2 ^ r

namespace PageDesc

/-- The FMT byte of a plane. -/
def fmtByte (d : PageDesc) (p : Nat) : Nat := d.fmt.toList.getD p 0
def fmtOf (d : PageDesc) (p : Nat) : Nat := d.fmtByte p % 8
def bitsOf (d : PageDesc) (p : Nat) : Nat := fmtBits (d.fmtOf p)
def ppi (d : PageDesc) (p : Nat) : Nat := resPpi (bits (d.fmtByte p) 5 4)
def lpi (d : PageDesc) : Nat := if d.lpi600 then 600 else 1200
/-- A pre-screened plane (R112). -/
def pre (d : PageDesc) (p : Nat) : Bool := decide (2 ≤ d.fmtOf p)
/-- The printed planes in rising order. -/
def planeList (d : PageDesc) : List Nat := (List.range 8).filter fun p => d.planes.testBit p
/-- S_p source lines (R112). -/
def lines (d : PageDesc) (p : Nat) : Nat := d.length * d.ppi p / d.lpi
/-- Bands of a plane (R112). -/
def bands (d : PageDesc) (p : Nat) : Nat := ceilDiv (d.lines p) 32
/-- Source lines of band b (R177). -/
def bandLines (d : PageDesc) (p b : Nat) : Nat := min 32 (d.lines p - 32 * b)
/-- Web lines that n source lines cover (R177). -/
def webLines (d : PageDesc) (p n : Nat) : Nat := n * d.lpi / d.ppi p
/-- H_p (R177). -/
def bandWl (d : PageDesc) (p : Nat) : Nat := d.webLines p 32
/-- Web lines of band b. -/
def bandWlOf (d : PageDesc) (p b : Nat) : Nat := d.webLines p (d.bandLines p b)
/-- First web line of copy k after WL_0 (R188). -/
def copyWl (d : PageDesc) (k : Nat) : Nat := k * (d.length + d.gap)
/-- Web lines from WL_0 to the end of the last copy. -/
def span (d : PageDesc) : Nat := d.copyWl (d.copies - 1) + d.length

end PageDesc

/-- Tile columns of a source width (R114). -/
def columns (width : Nat) : Nat := ceilDiv width 1024
/-- Samples of a column. -/
def colWidth (width c : Nat) : Nat := min 1024 (width - 1024 * c)
/-- Bytes of a source line of a tile (R114). -/
def lineBytes (w b : Nat) : Nat := ceilDiv (w * b) 8

/-- The page descriptor an admin entry holds (R112). -/
def readPage (e : BitVec 512) : PageDesc :=
  { lpi600 := entryField e 1 1 % 2 == 1
    planes := entryField e 2 1
    mode := entryField e 3 1 % 4
    trig := entryField e 3 1 / 16
    id := entryField e 4 4
    length := entryField e 8 4
    copies := entryField e 0xC 2
    gap := entryField e 0xE 2
    fmt := Vector.ofFn fun i => entryField e (0x10 + i.val) 1
    cookie := entryField e 0x18 4 }

/-- Whether the FMT byte of a plane keeps R112. -/
def fmtOk (d : PageDesc) (p : Nat) : Bool :=
  let f := d.fmtByte p
  if d.planes.testBit p then
    bit f 3 == false && bits f 7 6 == 0 && decide (f % 8 ≤ 4) && decide (bits f 5 4 ≤ 2) &&
      (decide (f % 8 < 2) || resPpi (bits f 5 4) == d.lpi)
  else f == 0

/-- The byte offset of the first field of a PAGE_OPEN that breaks a rule of R112. -/
def pageBreak (e : BitVec 512) : Option Nat :=
  let d := readPage e
  let mult := d.planeList.all fun p => !fmtOk d p || d.length * d.ppi p % d.lpi == 0
  if entryField e 1 1 / 2 ≠ 0 then some 1
  else if d.planes = 0 then some 2
  else if bits (entryField e 3 1) 3 2 ≠ 0 then some 3
  else if d.length = 0 || decide (4194304 < d.length) || !mult then some 8
  else if d.copies = 0 then some 0xC
  else
    match (List.range 8).find? fun p => !fmtOk d p with
    | some p => some (0x10 + p)
    | none => if entryField e 0x1C 36 ≠ 0 then some 0x1C else none

/-! ### The rate and the fill time of a page -/

/-- r of R180: nozzles a sample serves; 1 for a pre-screened plane. -/
def PageDesc.rep (d : PageDesc) (p : Nat) : Nat := if d.pre p then 1 else 1200 / d.ppi p

/-- R18 over the printed widths: D exceeds 98,304 bytes per web line. A pre-screened plane carries one source line per web line
at nozzle pitch (log entry 88). -/
def rateExceeded (d : PageDesc) (wp : Nat → Nat) : Bool :=
  decide (98304 * 1200 * 8 * d.lpi <
    (d.planeList.map fun p => wp p * d.bitsOf p * (if d.pre p then 1200 * d.lpi else d.ppi p * d.ppi p)).sum)

/-- C(t): the cost charged to a tile of n bytes (R196). -/
def tileCost (n : Nat) : Nat := max (2 * n / 5 + 519) 1638

/-- The costs of the tiles of a band of n source lines. -/
def bandCosts (width b n : Nat) : List Nat :=
  (List.range (columns width)).map fun c => tileCost (n * lineBytes (colWidth width c) b)

/-- What enters the fill bound for a plane: summed cost of its full band, or of its one short band, the web lines it
stands for, the largest cost, the web lines of the windows to check (R197). -/
structure PlaneFill where
  sum : Nat
  h : Nat
  top : Nat
  windows : List Nat

/-- The figures of a plane of source width w (R197). -/
def planeFill (d : PageDesc) (p w : Nat) : PlaneFill :=
  let n := min 32 (d.lines p)
  let costs := bandCosts w (d.bitsOf p) n
  let h := d.webLines p n
  let last := d.bandWlOf p (d.bands p - 1)
  { sum := costs.sum, h, top := costs.foldl max 0
    windows := h :: (if 1 < d.copies then [last + d.gap] else []) }

/-- F_SAFE in Hz: the largest rate up to 160 kHz at which R196's inequality holds for every band class (R197), with
N_R replacements. Both sides are multiplied by 16 and by the product L of the planes' web lines. -/
def fSafe (d : PageDesc) (width : Nat → Nat) (nR : Nat) : Nat :=
  let ps := d.planeList.map fun p => (p, planeFill d p (width p))
  let L := (ps.map fun e => max 1 e.2.h).prod
  let cMax := ps.foldl (fun a e => max a e.2.top) 0
  let bound (e : Nat × PlaneFill) (w : Nat) : Nat :=
    let others := ((ps.filter fun o => o.1 != e.1).map fun o => o.2.sum * (L / max 1 o.2.h)).sum
    let need := L * (16 * cMax + 16 * e.2.top + nR * cMax + e.2.sum) + w * others
    8000000000 * w * L / max 1 need
  ps.foldl (fun a e => e.2.windows.foldl (fun b w => min b (bound e w)) a) 160000

/-! ### Tiles -/

/-- The place of the tile a plane ring entry names (R114). -/
def readKey (plane : Nat) (e : BitVec 512) : TileKey :=
  { page := entryField e 4 4, plane, band := entryField e 8 2, col := entryField e 0xA 2 }

/-- The tile descriptor of a plane ring entry (R114). -/
def readTile (e : BitVec 512) : TileDesc :=
  let f := entryField e 1 1
  { scw := bit f 0, compress := bit f 1, crcByIntake := bit f 2, resubmit := bit f 3, noCpl := bit f 4
    presetEn := bit f 5, level := entryField e 2 1, preset := entryField e 3 1, width := entryField e 0xC 2
    lines := entryField e 0xE 1, srcAddr := entryField e 0x10 8, srcLen := entryField e 0x18 4
    rawLen := entryField e 0x1C 4, crc := entryField e 0x20 4, cookie := entryField e 0x24 4 }

/-- Step 1 of R116: the error code of the fields that do not depend on the page. A PRESET that is not 0 without
PRESET_EN is a reserved byte in use (log entry 13). -/
def tileBreak (e : BitVec 512) : Option Nat :=
  let t := readTile e
  let bad := bits (entryField e 1 1) 7 6 != 0 || (t.scw && t.compress) || (t.scw && t.crcByIntake) ||
    (t.presetEn && !t.compress) || entryField e 0xF 1 != 0 || entryField e 0x28 24 != 0 || t.srcAddr % 4 != 0 ||
    t.srcLen == 0 || decide (65536 < t.srcLen) ||
    (if t.compress then t.level == 0 || decide (8 < t.level) else t.level != 0) ||
    (!t.presetEn && t.preset != 0) || ((t.scw || t.crcByIntake) && t.crc != 0)
  if entryField e 0 1 ≠ 1 then some 0x20
  else if bad then some 0x21
  else if !t.scw && t.srcLen != t.rawLen then some 0x27
  else none

/-- Step 2 of R116: the fields that depend on the page. -/
def tileFits (d : PageDesc) (width : Nat) (k : TileKey) (t : TileDesc) : Bool :=
  d.planes.testBit k.plane && decide (k.band < d.bands k.plane) && decide (k.col < columns width) &&
    t.width == colWidth width k.col && t.lines == d.bandLines k.plane k.band &&
    t.rawLen == t.lines * lineBytes t.width (d.bitsOf k.plane)

/-- What R131 finds wrong in the 16 bytes of a stream header. -/
def headerBad (h : BitVec 128) (t : TileDesc) (b : Nat) : Bool :=
  let f (off n : Nat) : Nat := h.toNat / 2 ^ (8 * off) % 2 ^ (8 * n)
  f 0 4 != 0x01574353 || f 4 1 / 2 != 0 || (f 4 1 == 0 && f 5 1 != 0) || f 7 1 != 0 || f 0xE 2 != 0 ||
    f 8 4 != t.rawLen || f 0xC 2 != lineBytes t.width b || decide (t.srcLen < 21)

/-- The preset a stream names, from its bytes (R130). -/
def streamPreset (l : List Nat) : Option Nat := if l.getD 4 0 % 2 = 1 then some (l.getD 5 0) else none

/-! ### Jobs -/

/-- A field of a job descriptor. -/
def jobField (d off n : Nat) : Nat := d / 2 ^ (8 * off) % 2 ^ (8 * n)

/-- The parts of a job descriptor the model reads (R145). -/
def jobSrc (d : Nat) : Nat := jobField d 0 8
def jobRaw (d : Nat) : Nat := jobField d 8 4
def jobLevel (d : Nat) : Nat := jobField d 0xC 1
def jobPreset (d : Nat) : Option Nat := if bit (jobField d 0xE 1) 0 then some (jobField d 0xD 1) else none
def jobSrcSpace (d : Nat) : Nat := bits (jobField d 0xE 1) 2 1
def jobChainSpool (d : Nat) : Bool := bit (jobField d 0xE 1) 3
def jobGain (d : Nat) : Nat := jobField d 0xF 1
def jobCount (d : Nat) : Nat := jobField d 0x12 2
def jobTag (d : Nat) : Nat := jobField d 0x14 4
def jobChain (d : Nat) : Nat := jobField d 0x18 8

/-- Whether a descriptor breaks R145: `lo` and `hi` are the bounds of the firmware carve-out in the spool. -/
def jobBad (d : Nat) (host : Bool) (lo hi : Nat) : Bool :=
  let f := jobField d 0xE 1
  let reach (a n : Nat) : Bool := decide (a < hi) && decide (lo < a + n)
  jobRaw d == 0 || decide (65536 < jobRaw d) || jobLevel d == 0 || decide (8 < jobLevel d) || bits f 7 4 != 0 ||
    jobSrcSpace d == 3 || decide (1280 < jobField d 0x10 2) || decide (4096 < jobCount d) || jobChain d % 16 != 0 ||
    jobField d 0x20 16 != 0 || (!bit f 0 && jobField d 0xD 1 != 0) ||
    (host && (jobSrcSpace d == 2 || jobChainSpool d)) ||
    (host && jobSrcSpace d == 1 && reach (jobSrc d) (jobRaw d)) ||
    (host && jobChainSpool d && reach (jobChain d) (16 * jobCount d))

end Sys2Proof.Machine
end

