-- ==== Sys2Proof/Machine/Scw.lean ====
section
/-! DEFINITION. The SCW stream (R129 to R136): the token decoder, the raw copy, and the samples of a raw tile line. -/

namespace Sys2Proof.Machine

/-- Why a decode ended: the block code of R154, OFFSET, and for an uncorrectable error the offset of its byte in the stream, or
none of the stream where it lies in the preset (R152). -/
structure DecodeError where
  nn : Nat
  off : Nat
  ue : Option (Option Nat) := none
  deriving DecidableEq, Repr

/-- The first of n bytes from `i` that is affected by an uncorrectable error. -/
def firstHurt (hurt : Nat → Bool) (i n : Nat) : Option Nat := ((List.range n).map fun k => i + k).find? hurt

/-- Copy n bytes at distance d onto a history held newest first (R134: byte by byte, overlap repeats). -/
def copyBack : Nat → Nat → List Nat → List Nat
  | 0, _, h => h
  | n + 1, d, h => copyBack n d (h.getD (d - 1) 0 :: h)

/-- Literals placed in a history held newest first. -/
def pushAll : List Nat → List Nat → List Nat
  | [], h => h
  | b :: l, h => pushAll l (b :: h)

/-- The parts of the token at `i` of a stream (R132, R133). -/
structure Token where
  /-- bytes of the token, and the place of its literals -/
  len : Nat
  litAt : Nat
  lit : Nat
  kind : Nat
  /-- match distance and length; a row match whose distance is not positive has distance 0 -/
  dist : Nat
  count : Nat
  deriving DecidableEq, Repr

/-- The two's complement number in the low 6 bits of a ROW byte (R132). -/
def rowDx (b : Nat) : Int := signed 6 (b % 64)

/-- Read the token at `i` (R132, R133), with the LINE_BYTES of the header. -/
def readToken (l : List Nat) (i lineLen : Nat) : Token :=
  let tag := l.getD i 0
  let two (k : Nat) : Nat := l.getD k 0 + 256 * l.getD (k + 1) 0
  let lit := if tag / 32 = 7 then 7 + two (i + 1) else tag / 32
  let litAt := if tag / 32 = 7 then i + 3 else i + 1
  let kind := tag / 8 % 4
  let m := litAt + lit
  let field := if kind = 0 then 0 else if kind = 2 then 3 else 1
  let dist :=
    if kind = 1 then l.getD m 0 + 1
    else if kind = 2 then l.getD m 0 + 256 * l.getD (m + 1) 0 + 65536 * l.getD (m + 2) 0 + 1
    else if kind = 3 then (((l.getD m 0 / 64 + 1 : Nat) : Int) * lineLen - rowDx (l.getD m 0)).toNat
    else 0
  let long := kind ≠ 0 ∧ tag % 8 = 7
  let count := if kind = 0 then 0 else if tag % 8 = 7 then 11 + two (m + field) else tag % 8 + 4
  { len := m + field + (if long then 2 else 0) - i, litAt, lit, kind, dist, count }

/-- The token area from `i`, with a history held newest first that starts with `p` preset bytes (R134); `fuel` bounds
the number of tokens. `hurt` and `hurtDict` say which bytes of the stream and of the preset an uncorrectable error affects: it
ends the decode where they would be consumed, before any check of the token (R152; log entry 74). -/
def scwTokens (l : List Nat) (lineLen rawLen stop p : Nat) (hurt hurtDict : Nat → Bool) :
    Nat → Nat → List Nat → Except DecodeError (List Nat)
  | 0, _, h => .ok h
  | fuel + 1, i, h =>
    if stop ≤ i then .ok h
    else
      let tag := l.getD i 0
      let short := (tag / 32 = 7 ∧ stop < i + 3)
      let t := readToken l i lineLen
      let pos := h.length - p
      match firstHurt hurt i (min t.len (stop - i)) with
      | some o => .error ⟨0x23, i, some (some o)⟩
      | none =>
      if short ∨ stop < i + t.len then .error ⟨0x21, i, none⟩
      else if t.kind = 3 ∧ lineLen = 0 then .error ⟨0x22, i, none⟩
      else if t.kind ≠ 0 ∧ (t.dist = 0 ∨ h.length + t.lit < t.dist) then .error ⟨0x22, i, none⟩
      else if rawLen < pos + t.lit + t.count then .error ⟨0x21, i, none⟩
      else if (firstHurt (fun x => decide (x < p) && hurtDict x) (h.length + t.lit - t.dist) t.count).isSome then
        .error ⟨0x23, i, some none⟩
      else
        let h := copyBack t.count t.dist (pushAll ((l.drop t.litAt).take t.lit) h)
        if t.kind = 0 ∧ i + t.len ≠ stop then .error ⟨0x21, i, none⟩
        else scwTokens l lineLen rawLen stop p hurt hurtDict fuel (i + t.len) h

/-- R134, R152. A stream decodes, given the bytes of the preset it names. -/
def scwDecode (l preset : List Nat) (hurt hurtDict : Nat → Bool) : Except DecodeError (List Nat) :=
  let stop := l.length - 4
  let rawLen := ofBytes ((l.drop 8).take 4)
  let lineLen := ofBytes ((l.drop 0xC).take 2)
  match scwTokens l lineLen rawLen stop preset.length hurt hurtDict l.length 16 preset.reverse with
  | .error e => .error e
  | .ok h =>
    let out := (h.take (h.length - preset.length)).reverse
    if out.length ≠ rawLen then .error ⟨0x21, stop, none⟩
    else
      match firstHurt hurt stop 4 with
      | some o => .error ⟨0x23, stop, some (some o)⟩
      | none => if crc32c out ≠ ofBytes (l.drop stop) then .error ⟨0x23, stop, none⟩ else .ok out

/-- R136, R152. A tile stored raw: its bytes, checked against its CRC. -/
def rawDecode (l : List Nat) (crc : Nat) (hurt : Nat → Bool) : Except DecodeError (List Nat) :=
  match firstHurt hurt 0 l.length with
  | some o => .error ⟨0x23, o, some (some o)⟩
  | none => if crc32c l = crc then .ok l else .error ⟨0x23, l.length, none⟩

/-- Bit j of a byte string, most significant first (R129). -/
def bitAt (l : List Nat) (j : Nat) : Bool := bit (l.getD (j / 8) 0) (7 - j % 8)

/-- Sample x of a source line that starts at byte `at_` of a raw tile, of b bits (R129). -/
def sampleAt (l : List Nat) (at_ b x : Nat) : Nat :=
  (List.range b).foldl (fun a k => 2 * a + (bitAt (l.drop at_) (x * b + k)).toNat) 0

end Sys2Proof.Machine
end

