-- ==== Sys2Proof/Machine/Encoder.lean ====
section
/-! DEFINITION. The SCW encoder (R141, R142, R144): candidates, tokens, the stream, and where a stream that exceeds its limit
ends. -/

namespace Sys2Proof.Machine

/-- Chain candidates tried at a searched position (R141). -/
def searchDepth (level : Nat) : Nat := [1, 2, 4, 8, 16, 32, 64, 256].getD (level - 1) 256

/-- Equal bytes at the front of two strings. -/
def equalLen : List Nat → List Nat → Nat
  | a :: l, b :: m => if a = b then equalLen l m + 1 else 0
  | _, _ => 0

/-- The equal bytes from positions j and i of the window on, up to the end of the input. -/
def matchLen (buf : List Nat) (j i : Nat) : Nat := equalLen (buf.drop j) (buf.drop i)

/-- A match at a position: the lines up of a row candidate, or 0 for one of the chain; its distance and its length. -/
structure Hit where
  rows : Nat
  dist : Nat
  len : Nat
  deriving DecidableEq, Repr

/-- The candidates at position i, the one that wins among equals first (R142): the positions 1 and 2 source lines above, then
up to `depth` positions of the chain, newest first, no further back than 32,768. `same j i` says that the groups at j and i
stand in one chain. -/
def candidates (same : Nat → Nat → Bool) (depth line i : Nat) : List (Nat × Nat) :=
  (if line = 0 then [] else ([1, 2].filter fun r => decide (r * line ≤ i)).map fun r => (r, r * line)) ++
    (((((List.range (min i 32768)).map fun k => i - 1 - k).filter fun j => same j i).take depth).map fun j => (0, i - j))

/-- The longest match at position i; a candidate shorter than 4 is none (R142). -/
def bestHit (same : Nat → Nat → Bool) (buf : List Nat) (depth line i : Nat) : Option Hit :=
  (candidates same depth line i).foldl (fun best c =>
    let n := matchLen buf (i - c.2) i
    if 4 ≤ n ∧ (match best with
      | some h => h.len
      | none => 0) < n then some ⟨c.1, c.2, n⟩ else best) none

/-- LIT of a tag and the bytes LX (R132, R133). -/
def litField (n : Nat) : Nat × List Nat := if n < 7 then (n, []) else (7, bytesOf 2 (n - 7))

/-- A token: its literals, and its match (R132, R133, R142). -/
def tokenBytes (lits : List Nat) : Option Hit → List Nat
  | none => (litField lits.length).1 * 32 :: ((litField lits.length).2 ++ lits)
  | some h =>
    let (kind, field) := if h.rows ≠ 0 then (3, [(h.rows - 1) * 64])
      else if h.dist ≤ 256 then (1, [h.dist - 1]) else (2, bytesOf 3 (h.dist - 1))
    let (ml, mx) := if h.len < 11 then (h.len - 4, []) else (7, bytesOf 2 (h.len - 11))
    ((litField lits.length).1 * 32 + kind * 8 + ml) :: ((litField lits.length).2 ++ lits ++ field ++ mx)

/-- The tokens from position i of the window on, each with the input bytes it covers; `lits` are the literals pending, newest
first (R142). -/
def encodeFrom (same : Nat → Nat → Bool) (buf : List Nat) (depth line : Nat) :
    Nat → Nat → List Nat → List (List Nat × Nat)
  | 0, _, _ => []
  | fuel + 1, i, lits =>
    match buf[i]? with
    | none => if lits.isEmpty then [] else [(tokenBytes lits.reverse none, lits.length)]
    | some b =>
      match bestHit same buf depth line i with
      | none => encodeFrom same buf depth line fuel (i + 1) (b :: lits)
      | some h =>
        (tokenBytes lits.reverse (some h), lits.length + h.len) :: encodeFrom same buf depth line fuel (i + h.len) []

/-- Whether the 4-byte groups at j and i of the window hash to one chain head of 8,192 (R141). -/
def sameChain (buf : List Nat) (j i : Nat) : Bool :=
  let group (k : Nat) : List Nat := (buf.drop k).take 4
  (group i).length == 4 && Config.chainHash (group j) % 8192 == Config.chainHash (group i) % 8192

/-- The tokens of an input behind a preset dictionary, at a level (R141, R142). -/
def encodeTokens (level line : Nat) (dict input : List Nat) : List (List Nat × Nat) :=
  encodeFrom (sameChain (dict ++ input)) (dict ++ input) (searchDepth level) line (input.length + 1) dict.length []

/-- The header an encoder writes (R130, R142). -/
def streamHeader (preset : Option Nat) (level rawLen lineLen : Nat) : List Nat :=
  [0x53, 0x43, 0x57, 1, if preset.isSome then 1 else 0, preset.getD 0, level, 0] ++ bytesOf 4 rawLen ++
    bytesOf 2 lineLen ++ [0, 0]

/-- What an encoder makes of an input: the tokens between its header and its trailer, and its limit in bytes (R144), if any. -/
structure Encoding where
  head : List Nat
  tokens : List (List Nat × Nat)
  tail : List Nat
  limit : Option Nat
  deriving DecidableEq, Repr

/-- The whole stream. -/
def Encoding.stream (e : Encoding) : List Nat := e.head ++ (e.tokens.flatMap fun t => t.1) ++ e.tail

/-- The encode ends with NO_GAIN (R144). -/
def Encoding.noGain (e : Encoding) : Bool :=
  match e.limit with
  | some n => decide (n < e.stream.length)
  | none => false

/-- The bytes that are written: the stream, or those before the byte at which the encode ends with NO_GAIN, the first with which
the stream would exceed its limit, its 4 trailer bytes counted (R144). -/
def Encoding.out (e : Encoding) : List Nat :=
  if e.noGain then e.stream.take (e.limit.getD 0 - 4) else e.stream

/-- The length up to the end of the last complete token among n bytes, the header counted as complete, and the input bytes that
the tokens begun by then cover (R148, R153; log entry 75). -/
def Encoding.progress (e : Encoding) (n : Nat) : Nat × Nat :=
  let rec go (at_ out used : Nat) : List (List Nat × Nat) → Nat × Nat
    | [] => (out, used)
    | t :: ts =>
      if n < at_ then (out, used)
      else go (at_ + t.1.length) (if at_ + t.1.length ≤ n then at_ + t.1.length else out) (used + t.2) ts
  go 16 16 0 e.tokens

/-- The encoding of an input (R141, R142, R144). -/
def encode (preset : Option Nat) (level line : Nat) (limit : Option Nat) (dict input : List Nat) : Encoding :=
  { head := streamHeader preset level input.length line
    tokens := encodeTokens level line dict input
    tail := bytesOf 4 (crc32c input)
    limit }

/-! ### Output chains (R146, R147) -/

/-- How the output of a job meets its chain: every byte has its place; an entry breaks R146; an entry or a place cannot be
reached; or more entries are needed. -/
inductive LayEnd where
  | done | bad | dma | short
  deriving DecidableEq, Repr

/-- Bytes laid over chain entries, each to its LEN; `reach a n` says that n bytes at address a can be written. -/
def layOut (reach : Nat → Nat → Bool) : List (Option (BitVec 128)) → List Nat → List (Nat × List Nat) × LayEnd
  | _, [] => ([], .done)
  | [], _ :: _ => ([], .short)
  | none :: _, _ :: _ => ([], .dma)
  | some e :: es, b :: l =>
    let a := e.toNat % 2 ^ 64
    let n := e.toNat / 2 ^ 64 % 2 ^ 32
    if n = 0 ∨ 65536 < n ∨ e.toNat / 2 ^ 96 ≠ 0 then ([], .bad)
    else if !reach a (min n (l.length + 1)) then ([], .dma)
    else
      let (r, x) := layOut reach es ((b :: l).drop n)
      ((a, (b :: l).take n) :: r, x)

/-- The pieces without their first n bytes, which were written before (R148). -/
def dropLaid : Nat → List (Nat × List Nat) → List (Nat × List Nat)
  | _, [] => []
  | n, (a, l) :: r => if l.length ≤ n then dropLaid (n - l.length) r else (a + n, l.drop n) :: r

end Sys2Proof.Machine
end

