-- ==== Sys2Proof/Machine/Fabric.lean ====
section
/-! DEFINITION. The control fabric: which access is served, which ends with a fabric error and how that reaches its
requester (R45 to R47), and the one gate every register write of a command passes. -/

namespace Sys2Proof.Machine

open Reg

/-- DEV is powered and the fabric answers: every state but OFF and SETT (the Domains and rails table). -/
def State.devUp (s : State) : Bool :=
  match s.power.dev with
  | .off => false
  | .sett => false
  | _ => true

/-- Cluster c is present (R2, R4). -/
def State.cluPresent (s : State) (c : Clu) : Bool := (s.rd .sys SYS.DEV_ID_CL_MASK).testBit c.val

/-- Cluster c's power domain is on (R10, R81). -/
def State.domUp (s : State) (c : Clu) : Bool := s.on (.cpwr c) CPWR.STAT_DOM_UP

/-- A block in TEST ends every access with TEST_BUSY (R45); a VNL page is never in TEST (R357). -/
def State.inTest (s : State) (p : Page) : Bool :=
  match p with
  | .vnl _ => false
  | _ => match p.lane with
    | some l => s.lanes[l].st == .test
    | none => s.bist.pages.contains p

/-- The fabric error code nn an access to a target meets, if any: the first of UNMAPPED, ABSENT, DOMAIN_OFF and
TEST_BUSY, and then ALIGN, that applies (R45). `aligned` says the access is a whole aligned word or pair. -/
def State.accessError (s : State) (t : Target) (aligned : Bool) : Option Nat :=
  match t with
  | .unmapped => some 0x01
  | .page p _ =>
    match p.cluster with
    | some c =>
      if !s.cluPresent c then some 0x02
      else if !s.domUp c && p != .cpwr c then some 0x03
      else if s.inTest p then some 0x04
      else if !aligned then some 0x05 else none
    | none => if s.inTest p then some 0x04 else if !aligned then some 0x05 else none
  | .window l _ =>
    if !s.cluPresent (Lane.clu l) then some 0x02
    else if !s.domUp (Lane.clu l) then some 0x03
    else if s.inTest (.lne l) then some 0x04
    else if !aligned then some 0x05 else none

/-- Record a fabric error in FAB (R45, R47). -/
def State.fabError (s : State) (nn : Nat) (req : Nat) (wr : Bool) (addr : Nat) : State :=
  let s := s.err .fab nn (req * 0x1000 + wr.toNat * 0x10000)
  let s := (((s.wr .fab FAB.LAST_ADDR addr).wr .fab FAB.LAST_INFO_CODE nn).wr .fab FAB.LAST_INFO_REQ req).wr .fab
    FAB.LAST_INFO_WR wr.toNat
  s.bump .fab FAB.CNT 1 (nn - 1)

/-- How a fabric error reaches its requester (R46). JTAG is served as a core is with CORE_FAULT 0 (log entry 9). A completion
with Unsupported Request status is an error of the AER capability (R106, log entry 71). -/
def State.answerError (s : State) (req : Req) (wr : Bool) : State :=
  let r :=
    match req with
    | .host => if wr then Reply.posted 0 else if s.on .fab FAB.CTRL_HOST_UR then .unsupported 0 else .data 0 0
    | .app _ => if s.on .fab FAB.CTRL_CORE_FAULT then Reply.accessFault req.code
                else if wr then .posted req.code else .data req.code 0
    | .safe => if s.on .fab FAB.CTRL_CORE_FAULT then Reply.accessFault req.code
               else if wr then .posted req.code else .data req.code 0
    | .jtag => if wr then Reply.posted req.code else .data req.code 0
  ({ s with reply := r }).when (r == Reply.unsupported 0) fun t => t.raise .pci 10

/-- A host write to BAR0 in the grace wait cancels the sleep, raises SLEEP_CANCEL and restarts the count of R66 (R67). -/
def State.hostTouch (s : State) (req : Req) : State :=
  if s.power.grace && req == .host then
    ({ s with power := { s.power with grace := false, sleepFrom := s.dclk } }).raise .pwr 9
  else s

/-- An access does not reach the fabric: the host's while the function is in D3hot (R102), and JTAG's core debug while SECURE
closes it (R96, log entry 61). -/
def State.hostCut (s : State) (req : Req) : Bool :=
  (req == .host && s.intake.d3hot) || (req == .jtag && s.on .fuse FUSE.SEC_SECURE)

/-- A write of a requester to a register: nothing happens while the fabric is down or the requester is cut off; a fabric
error is recorded and answered; otherwise the write acts. -/
def State.gate (s : State) (req : Req) (p : Page) (off : Nat) (act : State → State) : State :=
  if !s.devUp || s.hostCut req then s
  else
    let s := s.hostTouch req
    match s.accessError (.page p off) true with
    | some nn => (s.fabError nn req.code true (p.base + off)).answerError req true
    | none => act { s with reply := .posted req.code }

/-- A command to a block whose EN is 0 is rejected with NOT_ENABLED (R43). -/
def State.enabled (s : State) (req : Req) (p : Page) (off : Nat) (act : State → State) : State :=
  if s.on p HDR.PG_CTRL_EN then act s else s.errAt p Err.notEnabled off req.code

/-- A write of a command register: the fabric first, then EN. -/
def State.command (s : State) (req : Req) (p : Page) (off : Nat) (act : State → State) : State :=
  s.gate req p off fun t => t.enabled req p off act

end Sys2Proof.Machine
end

