-- ==== Sys2Proof/Machine/Den.lean ====
section
/-! DEFINITION. The Den (R384 to R394): the write queue with its token bucket, the two-phase entry, pinning, the
power-up scan, firmware entries and snapshots. -/

namespace Sys2Proof.Machine

open Reg

/-- The 512 bits of an entry (R385), its CRC computed over bytes 0x00 to 0x3B. -/
def denRaw (payload seq type src flags time : Nat) : BitVec 512 :=
  let body := payload % 2 ^ 352 + seq % 2 ^ 32 * 2 ^ 352 + type % 2 ^ 16 * 2 ^ 384 + src % 256 * 2 ^ 400
    + flags % 256 * 2 ^ 408 + time % 2 ^ 64 * 2 ^ 416
  BitVec.ofNat 512 (body + 2 ^ 480 * crc32c (bytesOf 60 body))

/-- The bits a slot holds. -/
def DenSlot.raw : DenSlot → BitVec 512
  | .entry w => w
  | .torn w => w

/-- The TYPE of a slot. -/
def DenSlot.type (d : DenSlot) : Nat := bits d.raw.toNat 399 384
/-- The SEQ of a slot. -/
def DenSlot.seq (d : DenSlot) : Nat := bits d.raw.toNat 383 352
/-- The first payload byte of a slot: CAUSE in a FATAL entry. -/
def DenSlot.cause (d : DenSlot) : Nat := d.raw.toNat % 256

/-- Validity (R386): TYPE is not 0x0000 and the CRC matches. -/
def DenSlot.valid (d : DenSlot) : Bool :=
  match d with
  | .torn _ => false
  | .entry w => d.type != 0 && bits w.toNat 511 480 == crc32c (bytesOf 60 (w.toNat % 2 ^ 480))

/-- The slot's content; a slot not listed is empty (R384). -/
def denAt (m : List (Nat × DenSlot)) (slot : Nat) : DenSlot :=
  match m.find? fun e => e.1 == slot with
  | some e => e.2
  | none => .entry 0

/-- The MRAM with a slot written, slots kept rising. -/
def denPut : List (Nat × DenSlot) → Nat → DenSlot → List (Nat × DenSlot)
  | [], k, d => [(k, d)]
  | (j, e) :: m, k, d =>
    if k < j then (k, d) :: (j, e) :: m else if j = k then (k, d) :: m else (j, e) :: denPut m k d

/-- s is newer than t (R310 widened to 32 bits, R387). -/
def seqNewer (s t : Nat) : Bool :=
  let d := (s + 2 ^ 32 - t) % 2 ^ 32
  decide (1 ≤ d ∧ d ≤ 2 ^ 31 - 1)

/-- The valid entries of the ring region. -/
def denRing (m : List (Nat × DenSlot)) : List (Nat × DenSlot) := m.filter fun e => decide (128 ≤ e.1) && e.2.valid
/-- The valid pinned entries. -/
def denPinned (m : List (Nat × DenSlot)) : List (Nat × DenSlot) := m.filter fun e => decide (e.1 < 128) && e.2.valid

/-- The lowest pinned slot that holds no valid entry (R387, R388). -/
def denFreePin (m : List (Nat × DenSlot)) : Option Nat :=
  (List.range 128).find? fun k => !(denAt m k).valid

/-- Entries of these types draw on the token bucket (R390). -/
def denNeedsToken (type : Nat) : Bool :=
  type == 2 || type == 3 || type == 5 || type == 6 || type == 8 || decide (0x8000 ≤ type)

/-- The DROPPED entry joins the queue, once there have been drops, none waits and there is a free place (R390). -/
def State.denRoom (s : State) : State :=
  if s.den.dropped != 0 && !(s.den.queue.any fun e => e.type == 9) && decide (s.den.queue.length < 16) then
    { s with den := { s.den with
      queue := s.den.queue ++ [{ type := 9, src := 0x58, hw := true, payload := 0, time := s.time, at_ := s.dclk }] } }
  else s

/-- The payload with which an entry is written: a DROPPED entry covers every entry dropped up to its writing (R390). -/
def State.denFill (s : State) (e : DenReq) : DenReq :=
  if e.type = 9 then
    { e with payload := min s.den.dropped (2 ^ 32 - 1) + 2 ^ 32 * s.den.dropType + 2 ^ 64 * s.den.dropTime }
  else e

/-- The writer takes the entry at the front of the queue (R386, R390). -/
def State.denPump (s : State) : State :=
  match s.den.queue with
  | e :: q =>
    if s.den.cur.isNone && s.rd .den HDR.PG_STAT_STATE == 1 then
      { s with den := { s.den with
        queue := q, cur := some (s.denFill e), curAt := s.dclk, dropped := if e.type = 9 then 0 else s.den.dropped } }
    else s
  | [] => s

/-- What follows from a change of the queue or the writer. -/
def State.denSettle (s : State) : State := s.denRoom.denPump.denRoom

/-- An entry is dropped (R390): counted, and DROP raised on the first since a DROPPED entry. -/
def State.denDrop (s : State) (type time : Nat) : State :=
  let s := s.bump .den DEN.DROP_CNT
  if s.den.dropped = 0 then
    { s with den := { s.den with dropped := 1, dropType := type, dropTime := time } }.raise .den 10
  else { s with den := { s.den with dropped := s.den.dropped + 1 } }

/-- Take the newest queued entry that is not FATAL out of the queue. -/
def denEvict (q : List DenReq) : Option (DenReq × List DenReq) :=
  match q.reverse.find? fun e => e.type != 1 with
  | none => none
  | some e => some (e, (q.reverse.erase e).reverse)

/-- An entry's place: at the end, but those of the same FCLK go in ascending TYPE, FATAL ahead of all (R390). FCLK makes 3
cycles in 5 DCLK. -/
def denInsert (q : List DenReq) (e : DenReq) : List DenReq :=
  let after := q.reverse.takeWhile fun x => x.type != 1 && x.at_ * 3 / 5 == e.at_ * 3 / 5 && decide (e.type < x.type)
  let n := q.length - after.length
  q.take n ++ e :: q.drop n

/-- A FATAL entry arrives: it goes ahead of every queued entry, in place of the newest that is not FATAL when the queue is
full. -/
def State.denPushFatal (s : State) (e : DenReq) : State :=
  if s.den.queue.length < 16 then { s with den := { s.den with queue := e :: s.den.queue } }
  else
    match denEvict s.den.queue with
    | some (d, q) => ({ s with den := { s.den with queue := e :: q } }).denDrop d.type d.time
    | none => s.denDrop e.type e.time

/-- An entry that is not FATAL finds a token and a place (R390). -/
def State.denTakes (s : State) (type : Nat) : Bool :=
  !(denNeedsToken type && s.den.tokens == 0) && decide (s.den.queue.length < 16)

/-- An entry arrives at the write queue (R390). -/
def State.denPush (s : State) (e : DenReq) : State :=
  let e := { e with at_ := s.dclk }
  let s :=
    if e.type = 1 then s.denPushFatal e
    else if !s.denTakes e.type then s.denDrop e.type e.time
    else
      { s with den := { s.den with
          queue := denInsert s.den.queue e
          tokens := if denNeedsToken e.type then s.den.tokens - 1 else s.den.tokens } }
  s.denSettle

/-- The hardware queues an entry (R389). -/
def State.denHw (s : State) (type src payload : Nat) : State :=
  s.denPush { type, src, hw := true, payload, time := s.time }

/-- The hardware queues an entry that repeats under R172 or R389: the state, and whether the entry was queued. -/
def State.denHwTold (s : State) (type src payload : Nat) : State × Bool := (s.denHw type src payload, s.denTakes type)

/-- The page ID and web line counter that DRAM_UE, SRAM_UE and TAKEOVER entries carry (R389). -/
def State.curPage (s : State) : Nat := s.rd .lst LST.CUR
def State.curWl (s : State) : Nat := s.rd .pace PACE.WL

/-- An SRAM_UE entry (R389): a word equal to that of the last such entry within 1 s is not entered again. -/
def State.denSramUe (s : State) (src array word found lane : Nat) : State :=
  let again : Bool :=
    match s.den.lastUe with
    | some (a, w, t) => a == array && w == word && decide (s.time < 1000000000 + t)
    | none => false
  if again then s
  else
    let (t, told) := s.denHwTold 3 src
      (array % 2 ^ 16 + word % 2 ^ 16 * 2 ^ 16 + 2 ^ 32 * found + lane % 256 * 2 ^ 40 + 2 ^ 64 * s.curPage
        + 2 ^ 96 * s.curWl)
    t.when told fun u => { u with den := { u.den with lastUe := some (array, word, s.time) } }

/-- Whether the writing of an entry pins a copy (R388). -/
def State.denPins (s : State) (e : DenReq) : Bool :=
  e.hw && (e.type == 4 ||
    (e.type == 1 && !(denPinned s.den.mram).any fun d => d.2.type == 1 && d.2.cause == e.payload % 256))

/-- A slot is written; `back` is what the MRAM reads back if not what was written, and the Den is then FAILED
with MRAM_FAIL (R393). -/
def State.denWrite (s : State) (slot : Nat) (raw : BitVec 512) (back : Option (BitVec 512)) : State :=
  let bad := match back with
    | some w => w != raw
    | none => false
  let d := if bad then DenSlot.torn (back.getD raw) else .entry raw
  let s := { s with den := { s.den with mram := denPut s.den.mram slot d } }
  if bad then (s.errOpen .den 0x22).setPage .den 2 else s

/-- The Den is READY. -/
def State.denReady (s : State) : Bool := s.rd .den HDR.PG_STAT_STATE == 1

/-- The first valid ring slot at or after a slot, in ring order; 0 if there is none. -/
def denOldest (m : List (Nat × DenSlot)) (fr : Nat) : Nat :=
  match (denRing m).find? fun e => decide (fr ≤ e.1) with
  | some e => e.1
  | none => match denRing m with
    | e :: _ => e.1
    | [] => 0

/-- The flags byte of an entry (R385). -/
def denFlags (pinned hw wasPinned : Bool) : Nat := pinned.toNat + 2 * hw.toNat + 4 * wasPinned.toNat

/-- The pinned copy of a FATAL entry is written while the scan runs; it has no SEQ yet (R387). -/
def State.denFatalPin (s : State) (e : DenReq) (q : List DenReq) (k : Nat) (backPin : Option (BitVec 512)) : State :=
  let (n, s) := s.draw
  let raw := denRaw e.payload (Config.freeWord n).toNat e.type e.src (denFlags true e.hw false) e.time
  ({ s with den := { s.den with queue := { e with pinned := true } :: q } }).denWrite k raw backPin

/-- The slot of the pinned copy that R388 asks for, if one is free. -/
def State.denPinSlot (s : State) (e : DenReq) : Option Nat :=
  if s.denPins e && !e.pinned then denFreePin s.den.mram else none

/-- The ring entry and the pinned copy of what the writer is working on, as the MRAM takes them. -/
def State.denRingRaw (s : State) (e : DenReq) : BitVec 512 :=
  denRaw e.payload (s.rd .den DEN.NEXT_SEQ) e.type e.src (denFlags false e.hw ((s.denPinSlot e).isSome || e.pinned)) e.time
def State.denPinRaw (s : State) (e : DenReq) : BitVec 512 :=
  denRaw e.payload (s.rd .den DEN.NEXT_SEQ) e.type e.src (denFlags true e.hw true) e.time

/-- The ring slot HEAD has been written: HEAD advances, and the oldest entry may be another. -/
def State.denAdvance (s : State) (slot : Nat) (old : Bool) : State :=
  let next := if slot = 4095 then 128 else slot + 1
  let s := ((s.wr .den DEN.HEAD next).wr .den DEN.NEXT_SEQ ((s.rd .den DEN.NEXT_SEQ + 1) % 2 ^ 32)).bump .den DEN.WR_CNT
  let s := s.when old fun t => t.bump .den DEN.OVW_CNT
  (s.wr .den DEN.OLDEST_SLOT (denOldest s.den.mram next)).wr .den DEN.OLDEST_COUNT (denRing s.den.mram).length

/-- The pinned copy, or, where R388 asks for one and no slot is free, PIN_FULL. -/
def State.denPinPut (s : State) (pin : Option Nat) (want : Bool) (raw : BitVec 512) (backPin : Option (BitVec 512)) : State :=
  match pin with
  | some k => (s.denWrite k raw backPin).bump .den DEN.STAT_PIN_USED
  | none => s.when want fun t => (t.wr .den DEN.STAT_PIN_FULL 1).raise .den 9

/-- A slot is copied into RD_DATA (R392). -/
def State.denSnap (s : State) (slot : Nat) : State :=
  let d := denAt s.den.mram slot
  let s := s.each (List.range 16) fun t i => t.wr .den DEN.RD_DATA (d.raw.toNat / 2 ^ (32 * i)) i
  (s.wr .den DEN.RD_STAT_DONE 1).flag .den DEN.RD_STAT_VALID d.valid

/-- A snapshot that waited for the writer is taken (R392). -/
def State.denWaited (s : State) : State :=
  match s.den.rdWait with
  | some k => { s with den := { s.den with rdWait := none } }.denSnap k
  | none => s

/-- The writer has finished an entry; after a word that reads back differently the Den writes nothing more (R393). -/
def State.denFinish (s : State) (e : DenReq) (back backPin : Option (BitVec 512)) : State :=
  let slot := s.rd .den DEN.HEAD
  let want := s.denPins e && !e.pinned
  let pin := s.denPinSlot e
  let copy := s.denPinRaw e
  let old := (denAt s.den.mram slot).valid
  let s := { s with den := { s.den with cur := none } }.denWrite slot (s.denRingRaw e) back
  let s := if s.denReady then (s.denAdvance slot old).denPinPut pin want copy backPin else s
  let s := s.when (s.denReady && e.type == 1) fun t => t.raise .den 8
  s.denWaited.denSettle

/-- DCLK in which an entry is written: 16 words of 30 FCLK (50 DCLK), and as many for a pinned copy (R386, R388). -/
def State.denSpan (s : State) (e : DenReq) : Nat := if (s.denPinSlot e).isSome then 1600 else 800

/-- R386. The entry that the writer is working on has been written to its ring slot, and pinned where R388 says so;
`back` and `backPin` are what the MRAM reads back if not what was written. While the scan runs only a FATAL entry
is written, to its pinned slot (R387). -/
def execDenEntryWritten (back backPin : Option (BitVec 512)) (s : State) : Host.Outcome State Fault Refusal :=
  if s.rd .den HDR.PG_STAT_STATE = 0 then
    match s.den.queue with
    | e :: q =>
      if e.type = 1 && !e.pinned && s.denPins e && decide (e.at_ + 800 ≤ s.dclk) then
        match denFreePin s.den.mram with
        | some k => .next (s.denFatalPin e q k backPin)
        | none => .next s
      else .next s
    | [] => .next s
  else
    match s.den.cur with
    | some e => if s.denReady && decide (s.den.curAt + s.denSpan e ≤ s.dclk) then .next (s.denFinish e back backPin) else .next s
    | none => .next s

/-- The words of an entry that are written when its writing stops after n DCLK, over what the slot held (R386). -/
def denPart (old new : BitVec 512) (n : Nat) : DenSlot :=
  let k := n / 50
  if k = 0 then .entry old
  else if 16 ≤ k then .entry new
  else .torn (BitVec.ofNat 512 (new.toNat % 2 ^ (32 * k) + old.toNat / 2 ^ (32 * k) * 2 ^ (32 * k)))

/-- The supply of the MRAM goes while the writer works: the write stops at the word it has reached (R386; log entry 35). -/
def State.denCut (s : State) : State :=
  match s.den.cur with
  | none => s
  | some e =>
    let put (m : List (Nat × DenSlot)) (slot : Nat) (raw : BitVec 512) (n : Nat) : List (Nat × DenSlot) :=
      if n < 50 then m else denPut m slot (denPart (denAt m slot).raw raw n)
    let n := s.dclk - s.den.curAt
    let m := put s.den.mram (s.rd .den DEN.HEAD) (s.denRingRaw e) n
    let m := match s.denPinSlot e with
      | some k => put m k (s.denPinRaw e) (n - 800)
      | none => m
    { s with den := { s.den with mram := m, cur := none } }

/-- The newest ring entry: the one whose SEQ is newer than every other's (R387). -/
def denNewest (l : List (Nat × DenSlot)) : Option (Nat × DenSlot) :=
  l.find? fun e => l.all fun d => d.1 == e.1 || seqNewer e.2.seq d.2.seq

/-- The oldest ring entry (R387). -/
def denEldest (l : List (Nat × DenSlot)) : Option (Nat × DenSlot) :=
  l.find? fun e => l.all fun d => d.1 == e.1 || seqNewer d.2.seq e.2.seq

/-- R387. The power-up scan ends: HEAD, NEXT_SEQ, OLDEST, the pinned region's use and the counts of bad and empty
slots are set. -/
def execDenScanDone (s : State) : Host.Outcome State Fault Refusal :=
  if s.devUp && s.rd .den HDR.PG_STAT_STATE == 0 then
    let m := s.den.mram
    let ring := denRing m
    let used := (denPinned m).length
    let (head, seq) := match denNewest ring with
      | some e => ((if e.1 = 4095 then 128 else e.1 + 1), (e.2.seq + 1) % 2 ^ 32)
      | none => (128, 1)
    let old := match denEldest ring with
      | some e => e.1
      | none => 0
    let listed := m.filter fun e => e.2.type != 0
    let s := (s.wr .den DEN.HEAD head).wr .den DEN.NEXT_SEQ seq
    let s := (s.wr .den DEN.OLDEST_SLOT old).wr .den DEN.OLDEST_COUNT ring.length
    let s := (s.wr .den DEN.STAT_PIN_USED used).flag .den DEN.STAT_PIN_FULL (used == 128)
    let s := (s.wr .den DEN.SCAN_BAD (listed.filter fun e => !e.2.valid).length).wr .den DEN.SCAN_EMPTY
      (4096 - listed.length)
    .next ((s.setPage .den 1).raise .den 11).denSettle
  else .next s

/-- R390. The token bucket refills by one token, up to RATE_MAX, RATE_MAX times in a second. -/
def execDenTokenRefill (s : State) : Host.Outcome State Fault Refusal :=
  if s.devUp && decide (500000000 ≤ (s.dclk - s.den.tokAt) * s.rd .den DEN.CTRL) then
    .next { s with den := { s.den with tokens := min (s.den.tokens + 1) (s.rd .den DEN.CTRL), tokAt := s.dclk } }.denSettle
  else .next s

/-- What a write of `DEN.CTRL` does (R390). -/
def State.denRateWrite (s : State) (req : Req) (data : Word) : State :=
  let v := data.toNat % 2 ^ 11
  if v != s.rd .den DEN.CTRL && !(decide (1 ≤ v ∧ v ≤ 1000)) then
    s.errAt .den Err.badValue 0x40 req.code
  else
    let s := s.wr .den DEN.CTRL v
    { s with den := { s.den with tokens := min s.den.tokens v } }.denSettle

/-- R390, R393. A write of `DEN.CTRL`: RATE_MAX changes the bucket's size and cuts its content. -/
def execDenRateWrite (req : Req) (data : Word) (s : State) : Host.Outcome State Fault Refusal :=
  .next <| s.gate req .den 0x40 fun s => s.denRateWrite req data

/-- The payload a firmware entry takes from `FW_DATA` (R391). -/
def State.fwPayload (s : State) : Nat :=
  (List.range 11).foldl (fun a i => a + s.rd .den DEN.FW_DATA i * 2 ^ (32 * i)) 0

/-- What FW_GO does (R391). -/
def State.denFwGo (s : State) (req : Req) : State :=
  let type := s.rd .den DEN.FW_TYPE
  if type < 0x8000 then s.errAt .den Err.badValue 0x7C req.code
  else if s.den.queue.any fun e => !e.hw then s.errOpen .den 0x20
  else if !s.on .den HDR.PG_CTRL_EN then s.errAt .den Err.notEnabled 0x7C req.code
  else if s.rd .den HDR.PG_STAT_STATE == 0 then s.errOpen .den 0x21
  else s.denPush { type, src := 6, hw := false, payload := s.fwPayload, time := s.time }

/-- R391. A write of `DEN.FW_GO` with GO = 1 queues a firmware entry, or is rejected with the first cause that
holds. -/
def execDenFwGo (req : Req) (s : State) : Host.Outcome State Fault Refusal :=
  .next <| s.gate req .den 0x7C fun s => s.denFwGo req

/-- What a write of RD_SLOT does (R392): a snapshot of a slot that the writer is working on waits for it. -/
def State.denRdSlot (s : State) (req : Req) (data : Word) : State :=
  if 4096 ≤ data.toNat then s.errAt .den Err.badValue 0x70 req.code
  else
    let k := data.toNat
    let busy := s.den.cur.any fun e => k == s.rd .den DEN.HEAD || s.denPinSlot e == some k
    if busy then
      ({ s with den := { s.den with rdWait := some k } }.wr .den DEN.RD_STAT_DONE 0).wr .den DEN.RD_STAT_VALID 0
    else ({ s with den := { s.den with rdWait := none } }).denSnap k

/-- R392. A write of a slot number to `DEN.RD_SLOT` copies the slot into `RD_DATA` as one snapshot. -/
def execDenRdSlot (req : Req) (data : Word) (s : State) : Host.Outcome State Fault Refusal :=
  .next <| s.gate req .den 0x70 fun s => s.denRdSlot req data

end Sys2Proof.Machine
end

