-- ==== Sys2Proof/Machine/CalRuns.lean ====
section
/-! DEFINITION. The runs of calibration items (R373 to R380) as other units meet them: which runs there are, and their
abort. Starting a run and taking its result stand in Cal. -/

namespace Sys2Proof.Machine

open Reg

/-- The page of an item's instance (R373). -/
def calPage (item inst : Nat) : Option Page :=
  if item = 1 then if h : inst < 64 then some (.seq ⟨inst, h⟩) else none
  else if item = 2 ∨ item = 3 ∨ item = 4 ∨ item = 5 then if h : inst < 64 then some (.vnl ⟨inst, h⟩) else none
  else if item = 6 then if h : inst < 8 then some (.ccal ⟨inst, h⟩) else none
  else if item = 7 then if h : inst < 4 then some (.ddrs ⟨inst, h⟩) else none
  else none

/-- An item runs on an instance. -/
def State.calRuns (s : State) (item inst : Nat) : Bool := s.cal.runs.any fun r => r.item == item && r.inst == inst

/-- The run belongs to a lane. -/
def CalRun.onLane (r : CalRun) (l : Lane) : Bool := decide (r.item ≤ 5) && r.inst == l.val

/-- A DLL run on a cluster. -/
def CalRun.onDll (r : CalRun) (c : Clu) : Bool := r.item == 6 && r.inst == c.val

/-- What the run held returns to use: STALE clears (R379, R381). -/
def State.calLet (s : State) (item inst : Nat) : State :=
  match calPage item inst with
  | some p => s.wr p HDR.PG_STAT_STALE 0
  | none => s

/-- Runs that meet `f` are aborted (R380): they count in ABORT, and the codes in force stay. An item that was walking in its
steps is due again at once. A DLL run needs more (`State.dllEnd`). -/
def State.calAbort (s : State) (f : CalRun → Bool) : State :=
  let gone := s.cal.runs.filter f
  let walked (e : Nat × Nat) : Bool := gone.any fun r => r.goal.isSome && (r.item, r.inst) == e
  let s := { s with cal := { s.cal with runs := s.cal.runs.filter fun r => !f r, ok := s.cal.ok.filter fun e => !walked e } }
  s.each gone fun t r =>
    let t := (t.bump .cal CAL.ABORT_CNT).calLet r.item r.inst
    match calPage r.item r.inst with
    | some p => t.bump p (ITEM.FAIL_ABORT r.item)
    | none => t

/-- A lane leaves the states in which its items run (R376): OFF, LINK, TEST and FAULT. -/
def State.calLeave (s : State) (l : Lane) (st : LaneState) : State :=
  match st with
  | .off => s.calAbort fun r => r.onLane l
  | .link => s.calAbort fun r => r.onLane l
  | .test => s.calAbort fun r => r.onLane l
  | .fault => s.calAbort fun r => r.onLane l
  | _ => s

end Sys2Proof.Machine
end

