-- ==== Sys2Proof/Machine/Memory.lean ====
section
/-! DEFINITION. The spool as memory: reading and writing bytes in the canonical form, and the poison marks of its
bursts (R156, R160, R169). -/

namespace Sys2Proof.Machine

/-- What a byte that nothing has written reads as (log entry 4). -/
def Memory.blank : Byte := 0

/-- The canonical form: addresses strictly rising, no entry equal to the blank byte. -/
def Memory.wf : List Host.Cell → Bool
  | [] => true
  | (_, b) :: [] => b != Memory.blank
  | (a, b) :: (a', b') :: m => decide (a < a') && b != Memory.blank && Memory.wf ((a', b') :: m)

/-- The byte at an address. -/
def Memory.read : List Host.Cell → Nat → Byte
  | [], _ => Memory.blank
  | (k, b) :: m, a => if k = a then b else Memory.read m a

/-- The memory without entries at an address. -/
def Memory.erase : List Host.Cell → Nat → List Host.Cell
  | [], _ => []
  | (k, b) :: m, a => if k = a then Memory.erase m a else (k, b) :: Memory.erase m a

/-- The memory with an entry at an address. -/
def Memory.insert : List Host.Cell → Nat → Byte → List Host.Cell
  | [], a, x => [(a, x)]
  | (k, b) :: m, a, x =>
    if a < k then (a, x) :: (k, b) :: m
    else if k = a then (a, x) :: m
    else (k, b) :: Memory.insert m a x

/-- Write one byte, keeping the canonical form. -/
def Memory.write (m : List Host.Cell) (a : Nat) (x : Byte) : List Host.Cell :=
  if x = Memory.blank then Memory.erase m a else Memory.insert m a x

/-- Write bytes at consecutive addresses. -/
def Memory.writeAll : List Host.Cell → Nat → List Byte → List Host.Cell
  | m, _, [] => m
  | m, a, b :: l => Memory.writeAll (Memory.write m a b) (a + 1) l

/-- Read n bytes from an address up. -/
def Memory.readAll (m : List Host.Cell) (a n : Nat) : List Byte := (List.range n).map fun i => Memory.read m (a + i)

/-- Read an n-byte little-endian number. -/
def Memory.readNat (m : List Host.Cell) (a : Nat) : Nat → Nat
  | 0 => 0
  | n + 1 => (Memory.read m a).toNat + 256 * Memory.readNat m (a + 1) n

/-- The bytes of a number, lowest first. -/
def natBytes (n v : Nat) : List Byte := (List.range n).map fun i => BitVec.ofNat 8 (v / 2 ^ (8 * i))

/-- A strictly rising list with a member added. -/
def risingInsert : List Nat → Nat → List Nat
  | [], x => [x]
  | y :: l, x => if x < y then x :: y :: l else if x = y then y :: l else y :: risingInsert l x

/-- Write bytes to the spool; a whole burst written clears its poison, a partial one leaves it (R169). -/
def State.spoolWrite (s : State) (a : Nat) (l : List Byte) : State :=
  { s with ddr := { s.ddr with mem := Memory.writeAll s.ddr.mem a l } }

/-- Mark a burst as holding the poison pattern (R169). -/
def State.poisonBurst (s : State) (burst : Nat) : State :=
  { s with ddr := { s.ddr with poison := risingInsert s.ddr.poison burst } }

/-- A burst no longer holds the poison pattern. -/
def State.cleanBurst (s : State) (burst : Nat) : State :=
  { s with ddr := { s.ddr with poison := s.ddr.poison.filter fun b => b != burst } }

end Sys2Proof.Machine
end

