-- ==== Sys2Proof/Machine/Spool.lean ====
section
/-! DEFINITION. The DDR5 controller (R155 to R176): the ports with their queues and arbitration, reads and writes with their
error outcomes, refresh, the doubled range, panic, self-refresh and the patrol scrub. Training stands in Boot. -/

namespace Sys2Proof.Machine

open Reg

/-- The DDR page's state codes (R175). -/
def ddrUntrained : Nat := 0
def ddrTraining : Nat := 1
def ddrActive : Nat := 2
def ddrEntry : Nat := 3
def ddrSelf : Nat := 4
def ddrExit : Nat := 5
def ddrFailed : Nat := 6

/-- The DDR page's state. -/
def State.ddrState (s : State) : Nat := s.rd .ddr HDR.PG_STAT_STATE

/-- The DDR page and its four sub-channel pages change state together (R176); a state but ACTIVE aborts a run of item 7
(R380). -/
def State.setDdr (s : State) (v : Nat) : State :=
  let s := if v = ddrActive then s else s.calAbort fun r => r.item == 7
  (s.setPage .ddr v).each (List.finRange 4) fun t k => t.setPage (.ddrs k) v

/-- Bytes of installed spool (R155). -/
def State.spoolSize (s : State) : Nat := 2 ^ 30 * s.rd .ddr DDR.CFG_SIZE_GIB

/-- The rank of a burst (R156): with two ranks, the bit above column, bank group and bank. -/
def State.rankOf (s : State) (a : Nat) : Nat :=
  if s.on .ddr DDR.CFG_RANK2 then
    a / 256 / 2 ^ (9 + (if s.rd .ddr DDR.CFG_DENSITY = 0 then 1 else 2)) % 2
  else 0

/-- The log word of `LAST_CE` and `LAST_UE` (R175). -/
def State.ddrLog (s : State) (a port : Nat) (dev : BitVec 5) (scrub poison : Bool) : Nat :=
  a / 64 * 64 % 2 ^ 36 + 2 ^ 36 * port + 2 ^ 39 * s.rankOf a + 2 ^ 40 * dev.toNat + 2 ^ 45 * scrub.toNat
    + 2 ^ 46 * poison.toNat

/-- The sub-channel of an address (R156). -/
def subOf (a : Nat) : Fin 4 := ⟨a / 64 % 4, by omega⟩

/-- The firmware carve-out ends here (R89). -/
def carveEnd : Nat := 0x4000000

/-- The bank and the row of a burst (R156): sub-channel, bank group, bank and rank name the bank. -/
def State.bankOf (s : State) (a : Nat) : Nat × Nat :=
  let banks := 8 * 2 ^ (if s.rd .ddr DDR.CFG_DENSITY = 0 then 1 else 2) * 2 ^ s.rd .ddr DDR.CFG_RANK2
  let b := a / 256 / 64
  (a / 64 % 4 + 4 * (b % banks), b / banks)

/-- Every row of a sub-channel is precharged. -/
def State.precharge (s : State) (k : Fin 4) : State :=
  { s with ddr := { s.ddr with rows := s.ddr.rows.filter fun e => e.1 % 4 != k.val } }

/-- The bursts a sub-channel has waiting for their write-back. -/
def State.writeBacks (s : State) (k : Fin 4) : List Nat := s.ddr.writeBack.filter fun b => subOf (b * 64) == k

/-- A corrected read (R170): counts, log, event, and a write-back on P4, whose queue holds 8 for each sub-channel (R160; log
entry 60). -/
def State.ddrCe (s : State) (a port : Nat) (dev : BitVec 5) (scrub : Bool) : State :=
  let s := s.bump .ddr DDR.CE_CNT
  let s := s.each (List.range 5) fun t k => t.when (dev.toNat.testBit k) fun u => u.bump (.ddrs (subOf a)) DDRS.CE_DEV 1 k
  let s := (s.wr .ddr DDR.LAST_CE (s.ddrLog a port dev scrub false)).raise .ddr 8
  s.when (decide ((s.writeBacks (subOf a)).length < 8)) fun t =>
    { t with ddr := { t.ddr with writeBack := t.ddr.writeBack ++ [a / 64] } }

/-- The last DRAM_UE Den entry was of the same burst within 1 s (R172). -/
def State.ueAgain (s : State) (a : Nat) : Bool :=
  match s.ddr.lastUe with
  | some (b, t) => b == a / 64 && decide (s.time < 1000000000 + t)
  | none => false

/-- The Den entry of an uncorrectable error (R172): the last one of its kind, if it is queued. -/
def State.ddrUeDen (s : State) (a log : Nat) : State :=
  let (t, told) := s.denHwTold 2 0x14 (log + 2 ^ 64 * s.curPage + 2 ^ 96 * s.curWl)
  t.when told fun u => { u with ddr := { u.ddr with lastUe := some (a / 64, s.time) } }

/-- An uncorrectable error (R172): counts, log, error UE, event, and a Den entry unless the last one of the kind was
of the same burst within 1 s. -/
def State.ddrUe (s : State) (a port : Nat) (dev : BitVec 5) (scrub : Bool) : State :=
  let log := s.ddrLog a port dev scrub (s.ddr.poison.contains (a / 64))
  let s := (s.bump .ddr DDR.UE_CNT).bump (.ddrs (subOf a)) DDRS.UE_CNT
  let s := ((s.wr .ddr DDR.LAST_UE log).err .ddr 0x20 (a / 64 * 64 % 2 ^ 32)).raise .ddr 9
  if s.ueAgain a then s else s.ddrUeDen a log

/-- How an error response or a refusal reaches a port's user (R171): a core takes an access-fault exception. -/
def State.portError (s : State) (user : SpoolUser) : State :=
  { s with reply := match user with
    | .core k => Reply.accessFault (Req.app k).code
    | _ => .spoolError user.port }

/-- A read of a port's user is served (R170, R171): its burst, corrected or not; a burst that holds poison is always
uncorrectable. `wait` is the MCLK a P1 request waited once serviceable (`DDR.STALL_MAX`). -/
def State.serveRead (s : State) (user : SpoolUser) (a : Nat) (kind : ReadKind) (wait : Nat) : State :=
  let s := s.when (user == .fetch && decide (s.rd .ddr DDR.STALL_MAX < wait)) fun t => t.wr .ddr DDR.STALL_MAX wait
  let data := BitVec.ofNat 512 (Memory.readNat s.ddr.mem (a / 64 * 64) 64)
  let fail (dev : BitVec 5) : State := (s.ddrUe a user.port dev false).portError user
  if s.ddr.poison.contains (a / 64) then fail 0
  else match kind with
    | .clean => { s with reply := .burst user.port data }
    | .corrected dev => { s.ddrCe a user.port dev false with reply := .burst user.port data }
    | .uncorrectable dev => fail dev

/-- The bytes of a burst after a masked write. -/
def burstMerge (old data : Nat) (mask : BitVec 64) : List Byte :=
  (List.range 64).map fun i =>
    BitVec.ofNat 8 ((if mask.toNat.testBit i then data else old) / 2 ^ (8 * i))

/-- A write of a port to a burst takes effect: its bytes are in force for every port, a waiting write-back of the burst
is discarded (R170), and the burst is poisoned by a poisoned write or by a partial write whose read found an
uncorrectable error (R169). -/
def State.burstWrite (s : State) (port a : Nat) (data : Nat) (mask : BitVec 64) (poison ue : Bool) : State :=
  let whole := mask == BitVec.allOnes 64
  let held := s.ddr.poison.contains (a / 64)
  let s := { s with ddr := { s.ddr with writeBack := s.ddr.writeBack.filter fun (b : Nat) => b != a / 64 } }
  if poison then s.poisonBurst (a / 64)
  else if !whole && (ue || held) then (s.ddrUe a port 0 false).poisonBurst (a / 64)
  else
    let old := Memory.readNat s.ddr.mem a 64
    (s.spoolWrite a (burstMerge old data mask)).cleanBurst (a / 64)

/-- The next burst of the patrol scrub is read (R173): a correctable burst is written back, an uncorrectable one logged with
SCRUB set; a completed pass is counted. -/
def State.scrubNext (s : State) (kind : ReadKind) : State :=
  let s := s.setOverdue .ddr false
  let b := s.rd .ddr DDR.SCRUB_POS
  let a := b * 64
  let s :=
    if s.ddr.poison.contains b then s.ddrUe a 4 0 true
    else match kind with
      | .clean => s
      | .corrected dev => s.ddrCe a 4 dev true
      | .uncorrectable dev => s.ddrUe a 4 dev true
  if s.spoolSize ≤ a + 64 then ((s.wr .ddr DDR.SCRUB_POS 0).bump .ddr DDR.SCRUB_PASS).raise .ddr 16
  else s.wr .ddr DDR.SCRUB_POS (b + 1)

/-! ### Queues and arbitration (R160, R161) -/

/-- Requests a port's queue holds for each sub-channel. -/
def portDepth (port : Nat) : Nat := if port = 1 then 128 else if port = 4 then 8 else 32

/-- The requests of a port that wait for a sub-channel, oldest first. -/
def State.waiting (s : State) (k : Fin 4) (port : Nat) : List SpoolReq :=
  s.ddr.queue.filter fun r => subOf r.addr == k && r.port == port

/-- A foreground request waits for a sub-channel. -/
def State.fgWaits (s : State) (k : Fin 4) : Bool := (List.range 4).any fun p => !(s.waiting k p).isEmpty

/-- The request of a port that goes first: the oldest whose row is open, else the oldest. -/
def State.portFirst (s : State) (k : Fin 4) (port : Nat) : Option SpoolReq :=
  let l := s.waiting k port
  match l.find? fun r => s.ddr.rows.contains (s.bankOf r.addr) with
  | some r => some r
  | none => l.head?

/-- W of a port, `DDR.PORT_WT`. -/
def State.portWeight (s : State) (port : Nat) : Nat := s.rd .ddr DDR.PORT_WT / 2 ^ (4 * port) % 16

/-- The port whose turn it is on a sub-channel, with the requests it has then been served in it: a port keeps its turn for up
to its weight, and a port with nothing to serve is passed over (log entry 63). -/
def State.portTurn (s : State) (k : Fin 4) : Option (Nat × Nat) :=
  let (p, n) : Nat × Nat := s.ddr.turn[k]
  let has (q : Nat) : Bool := !(s.waiting k q).isEmpty
  if has p && decide (n < s.portWeight p) then some (p, n + 1)
  else (((List.range 4).map fun i => (p + 1 + i) % 4).find? has).map fun q => (q, 1)

/-- A request is served: its row is open from then on. -/
def State.serveReq (s : State) (r : SpoolReq) : State :=
  let (bank, row) := s.bankOf r.addr
  let s := { s with ddr := { s.ddr with
    queue := s.ddr.queue.erase r, rows := (s.ddr.rows.filter fun (e : Nat × Nat) => e.1 != bank) ++ [(bank, row)] } }
  match r.op with
  | .read kind wait => s.serveRead r.user r.addr kind wait
  | .write data mask poison ue => s.burstWrite r.user.port (r.addr / 64 * 64) data.toNat mask poison ue
  | .scrub kind => s.scrubNext kind

/-- The background of a sub-channel: the oldest scrub read, else the oldest write-back issues. -/
def State.serveBack (s : State) (k : Fin 4) : State :=
  match (s.waiting k 4).head? with
  | some r => s.serveReq r
  | none =>
    match (s.writeBacks k).head? with
    | some b => { s with ddr := { s.ddr with writeBack := s.ddr.writeBack.erase b } }
    | none => s

/-- A command slot of a sub-channel (R161): under panic the oldest P1 request and none of P0, P2 and P3; else the foreground
by turns; P4 only if no foreground request waits. Refreshes that are due have gone before. -/
def State.serveSlot (s : State) (k : Fin 4) : State :=
  if !s.fgWaits k then s.serveBack k
  else if s.on .ddr DDR.STAT_PANIC then
    match (s.waiting k 1).head? with
    | some r => s.serveReq r
    | none => s
  else
    match s.portTurn k with
    | some (p, n) =>
      match s.portFirst k p with
      | some r => { s with ddr := { s.ddr with turn := s.ddr.turn.set k (p, n) } }.serveReq r
      | none => s
    | none => s

/-- The ports serve requests: the controller is ACTIVE, or drains before self-refresh (R166). -/
def State.portsRun (s : State) : Bool := s.ddrState == ddrActive || s.ddrState == ddrEntry

/-- A user reaches an address: it is installed, and intake, the Last and BAR2 are kept out of the carve-out (R89, R156). -/
def State.portReaches (s : State) (user : SpoolUser) (a : Nat) : Bool :=
  decide (a < s.spoolSize) && (!(user == .intake || user == .fetch || user == .bar2) || decide (carveEnd ≤ a))

/-- A request joins its queue and the sub-channel's next slot is given; a request that finds the queue full stays with its
user (log entry 60). -/
def State.enqueue (s : State) (r : SpoolReq) : State :=
  let k := subOf r.addr
  if (s.waiting k r.port).length < portDepth r.port then
    let s := { s with ddr := { s.ddr with queue := s.ddr.queue ++ [r] } }
    if s.portsRun then s.serveSlot k else s
  else s

/-- An auto entry is aborted before SRE (R167). -/
def State.srAbort (s : State) : State := ((s.setDdr ddrActive).bump .ddr DDR.SR_ABORT).raise .ddr 15

/-- A port presents a request: it aborts an auto entry before SRE and starts the exit after it; an entry for SETT it does not
abort (R167). -/
def State.portWake (s : State) : State :=
  let s := { s with ddr := { s.ddr with lastReq := s.dclk } }
  if s.ddr.forSett then s
  else if s.ddrState = ddrEntry then s.srAbort else if s.ddrState = ddrSelf then s.setDdr ddrExit else s

/-- A request of a port's user (R156, R160, R167): refused where the user does not reach the address; held at the gated port on
the way to SETT; else accepted. -/
def State.spoolAsk (s : State) (r : SpoolReq) : State :=
  if !s.portReaches r.user r.addr then s.portError r.user
  else if s.ddr.forSett || s.ddrState == ddrUntrained || s.ddrState == ddrTraining || s.ddrState == ddrFailed then s
  else s.portWake.enqueue r

/-- R171. A spool read of a port's user. -/
def execSpoolReadReturn (user : SpoolUser) (addr : BitVec 36) (kind : ReadKind) (wait : BitVec 16) (s : State) :
    Host.Outcome State Fault Refusal :=
  if s.devUp then .next (s.spoolAsk { user, addr := addr.toNat, op := .read kind wait.toNat }) else .next s

/-- R174. A spool write of a port's user. -/
def execSpoolWriteAck (user : SpoolUser) (addr : BitVec 36) (data : BitVec 512) (mask : BitVec 64) (poison ue : Bool) (s : State) :
    Host.Outcome State Fault Refusal :=
  if s.devUp then .next (s.spoolAsk { user, addr := addr.toNat, op := .write data mask poison ue }) else .next s

/-! ### Accesses of the device's own engines -/

/-- The bursts of an access, as addresses. -/
def burstsOf (a len : Nat) : List Nat :=
  (List.range ((a + len - 1) / 64 + 1 - a / 64)).map fun i => 64 * (a / 64 + i)

/-- The data and byte mask that a write of bytes at `a` brings to the burst at `b`. -/
def burstPart (a b : Nat) (l : List Byte) (serves : Nat → Bool) : Nat × BitVec 64 :=
  (List.range 64).foldl (fun (d, m) i =>
    if decide (a ≤ b + i) && decide (b + i < a + l.length) && serves (b + i) then
      (d + (l.getD (b + i - a) 0).toNat * 2 ^ (8 * i), m ||| BitVec.ofNat 64 (2 ^ i))
    else (d, m)) (0, 0)

/-- An engine writes bytes through a port, burst by burst (R169, R170); addresses beyond the DRAM are refused (R156). -/
def State.portWrite (s : State) (port a : Nat) (l : List Byte) : State :=
  let s := s.portWake
  s.each ((burstsOf a l.length).filter fun b => decide (b < s.spoolSize)) fun t b =>
    let (d, m) := burstPart a b l fun _ => true
    t.burstWrite port b d m false false

/-- The first burst of a range that holds poison, as its address. -/
def State.poisonIn (s : State) (a n : Nat) : Option Nat :=
  (s.ddr.poison.find? fun b => decide (0 < n ∧ a / 64 ≤ b ∧ b ≤ (a + n - 1) / 64)).map fun b => 64 * b

/-- The bytes a port's read returns: none where the range leaves the DRAM, or where a burst holds poison, which is logged as
every uncorrectable error is (R169, R171, R172). -/
def State.portGot (s : State) (port a n : Nat) : Option (List Byte) × State :=
  if s.spoolSize < a + n then (none, s)
  else match s.poisonIn a n with
    | some b => (none, s.ddrUe b port 0 false)
    | none => (some (Memory.readAll s.ddr.mem a n), s)

/-- An engine reads bytes through a port, which wakes the controller (R167). -/
def State.portRead (s : State) (port a n : Nat) : Option (List Byte) × State := s.portWake.portGot port a n

/-- The ports hold every request until self-refresh has been left (R167). -/
def State.portsHold (s : State) : Bool := s.ddrState == ddrSelf || s.ddrState == ddrExit

/-! ### Refresh, temperature and panic (R162 to R164, R192) -/

/-- Issue every owed refresh of a sub-channel, after a precharge of its rows (R163). -/
def State.refreshAll (s : State) (k : Fin 4) : State :=
  let n := s.rd (.ddrs k) DDRS.OWED_RANK0 + s.rd (.ddrs k) DDRS.OWED_RANK1
  (((s.bump (.ddrs k) DDRS.REF_CNT n).wr (.ddrs k) DDRS.OWED_RANK0 0).wr (.ddrs k) DDRS.OWED_RANK1 0).when (n != 0)
    fun t => t.precharge k

/-- The refresh count field of a rank. -/
def owedRow (rank : Fin 2) : Row := if rank = 0 then DDRS.OWED_RANK0 else DDRS.OWED_RANK1

/-- The refreshes of a rank are issued where they are due (R163): whenever some are owed without panic, under panic when they
exceed the active MAX_POSTPONE. -/
def State.refreshDue (s : State) (k : Fin 4) (rank : Fin 2) : State :=
  let n := s.rd (.ddrs k) (owedRow rank)
  if n != 0 && (!s.on .ddr DDR.STAT_PANIC || decide (s.rd .ddr DDR.REF_CTRL_MAX_POSTPONE_ACT < n)) then
    ((s.bump (.ddrs k) DDRS.REF_CNT n).wr (.ddrs k) (owedRow rank) 0).precharge k
  else s

/-- The refreshes of every rank that are due are issued. -/
def State.settleRefresh (s : State) : State :=
  s.each ((List.finRange 4).flatMap fun k => [(k, (0 : Fin 2)), (k, 1)]) fun t e => t.refreshDue e.1 e.2

/-- DCLK between two refresh ticks of a sub-channel: tREFI, or half of it in the doubled range (R163). -/
def State.tickGap (s : State) (k : Fin 4) : Nat :=
  if (s.rd .ddr DDR.STAT_HOT).testBit k.val then s.ddr.trefi / 4 else s.ddr.trefi / 2

/-- The place of a rank's tick among the ticks of all ranks. -/
def tickIx (k : Fin 4) (rank : Fin 2) : Fin 8 := ⟨k.val + 4 * rank.val, by omega⟩

/-- R163. A rank's refresh tick, tREFI after the last: OWED rises by 1, and `MAX_POSTPONE` applies from here on while no
sub-channel is hot; the refreshes that are due are issued, on every rank. -/
def execRefreshTick (k : Fin 4) (rank : Fin 2) (s : State) : Host.Outcome State Fault Refusal :=
  if s.devUp && s.portsRun && (rank == 0 || s.on .ddr DDR.CFG_RANK2) && decide (s.ddr.tickAt[tickIx k rank] ≤ s.dclk) then
    let s := { s with ddr := { s.ddr with tickAt := s.ddr.tickAt.set (tickIx k rank) (s.dclk + s.tickGap k) } }
    let s := s.when (s.rd .ddr DDR.STAT_HOT == 0) fun t =>
      t.wr .ddr DDR.REF_CTRL_MAX_POSTPONE_ACT (t.rd .ddr DDR.REF_CTRL_MAX_POSTPONE)
    .next (s.wr (.ddrs k) (owedRow rank) (s.rd (.ddrs k) (owedRow rank) + 1)).settleRefresh
  else .next s

/-- The rank that asks for more; rank 0 where both ask the same. -/
def hotter (a b : Mr4 × BitVec 8) : Mr4 × BitVec 8 :=
  match a.1, b.1 with
  | .x1, .x1 => a
  | .x1, _ => b
  | .x2, .over => b
  | _, _ => a

/-- R162, R164. A sub-channel reads MR4 of every rank, MR4_MS after the last time: it enters the doubled range when any rank
asks for 2x or more (every owed refresh is issued and the active MAX_POSTPONE becomes 0), leaves it after two polls in which
every rank reported 1x, and records DRAM_HOT above the operating range. The DQS oscillator count is read with it (R375). -/
def execMr4Poll (k : Fin 4) (rank0 rank1 : Mr4 × BitVec 8) (osc : BitVec 16) (s : State) : Host.Outcome State Fault Refusal :=
  if s.devUp && s.ddrState == ddrActive && decide (s.ddr.pollAt[k] ≤ s.dclk) then
    let s := { s with ddr := { s.ddr with
      pollAt := s.ddr.pollAt.set k (s.dclk + 500000 * s.rd .ddr DDR.REF_CTRL_MR4_MS) } }
    let m := if s.on .ddr DDR.CFG_RANK2 then hotter rank0 rank1 else rank0
    let hot := (s.rd .ddr DDR.STAT_HOT).testBit k.val
    let s := s.wr (.ddrs k) DDRS.TEMP_MR4 m.2.toNat
    let s := { s with cal := { s.cal with dqs := s.cal.dqs.set k osc.toNat } }
    if m.1 = .x1 then
      let n : Nat := s.ddr.cool[k] + 1
      let s := { s with ddr := { s.ddr with cool := s.ddr.cool.set k n } }
      if hot && decide (2 ≤ n) then
        let s := s.wr .ddr DDR.STAT_HOT (s.rd .ddr DDR.STAT_HOT - 2 ^ k.val)
        .next (((s.wr (.ddrs k) DDRS.TEMP_RANGE 0).raise .ddr 12).raise (.ddrs k) 9)
      else .next (s.wr (.ddrs k) DDRS.TEMP_RANGE hot.toNat)
    else
      let s := { s with ddr := { s.ddr with cool := s.ddr.cool.set k 0 } }
      let s := s.wr (.ddrs k) DDRS.TEMP_RANGE (if m.1 = .over then 2 else 1)
      let s :=
        if hot then s
        else
          let s := (s.wr .ddr DDR.STAT_HOT (s.rd .ddr DDR.STAT_HOT + 2 ^ k.val)).refreshAll k
          let s := (s.wr .ddr DDR.REF_CTRL_MAX_POSTPONE_ACT 0).bump .ddr DDR.HOT_CNT
          ((s.raise .ddr 11).raise (.ddrs k) 8).settleRefresh
      .next (s.when (m.1 == .over) fun t => (t.errOpen .ddr 0x23).raise .ddr 11)
  else .next s

/-! ### Self-refresh (R166 to R168) -/

/-- R166. The ports have drained: precharge-all and the self-refresh entry command. -/
def execSrDrainDone (s : State) : Host.Outcome State Fault Refusal :=
  if s.devUp && s.ddrState == ddrEntry && s.ddr.queue.isEmpty then
    let s := ((s.setDdr ddrSelf).raise .ddr 13).each (List.finRange 4) State.precharge
    .next (s.when s.ddr.forSett fun t => { t with power := { t.power with sreIssued := true } })
  else .next s

/-- R167, R168. A port request, or PWR's resume: before SRE it aborts an auto entry; at or after SRE it starts the
exit. Requests do not abort an entry for SETT. -/
def execSrExit (s : State) : Host.Outcome State Fault Refusal :=
  if s.devUp && !s.ddr.forSett then
    if s.ddrState = ddrEntry then .next s.srAbort
    else if s.ddrState = ddrSelf then .next (s.setDdr ddrExit)
    else .next s
  else .next s

/-- The ports reopen: ACTIVE, OWED 0 for every rank, and the doubled range taken from the next poll, which may come at once
(R167). -/
def State.srExited (s : State) : State :=
  let s := (s.setDdr ddrActive).raise .ddr 14
  let s := s.each (List.finRange 4) fun t k => (t.wr (.ddrs k) DDRS.OWED_RANK0 0).wr (.ddrs k) DDRS.OWED_RANK1 0
  { s with ddr := { s.ddr with cool := Vector.replicate 4 1, pollAt := Vector.replicate 4 0 } }

/-- R168. Self-refresh exit completes and the ports reopen. -/
def execSrExitDone (s : State) : Host.Outcome State Fault Refusal :=
  if s.devUp && s.ddrState == ddrExit then .next s.srExited else .next s

/-- DCLK between two scrub reads: a pass over the DRAM takes HOURS (R173). -/
def State.scrubGap (s : State) : Nat := 3600 * 500000000 * 64 * s.rd .ddr DDR.SCRUB_HOURS / s.spoolSize

/-- R173. The pacing interval of the patrol scrub has passed: its next read joins P4, which waits for every foreground
request; while one waits no other joins it. -/
def execScrubRead (kind : ReadKind) (s : State) : Host.Outcome State Fault Refusal :=
  if s.devUp && s.ddrState == ddrActive && s.on .ddr DDR.SCRUB_EN && !(s.ddr.queue.any fun r => r.port == 4) &&
      decide (s.ddr.scrubAt ≤ s.dclk) then
    let s := { s with ddr := { s.ddr with scrubAt := s.dclk + s.scrubGap } }
    .next (s.enqueue { user := .other, addr := s.rd .ddr DDR.SCRUB_POS * 64, op := .scrub kind })
  else .next s

end Sys2Proof.Machine
end

