-- ==== Sys2Proof/Machine/Lane.lean ====
section
/-! DEFINITION. What several families share about lanes: the lane state and its reports (R12, R264), readiness (R21,
R22), arming, HOLD (R262, R263), loss of a lane (R29), the device states PRINT and READY that follow the lanes (R63),
and the forming of spoil runs and records (R265 to R269). -/

namespace Sys2Proof.Machine

open Reg

/-- All lanes in rising order. -/
def allLanes : List Lane := List.finRange 64

/-- Change what a cluster holds. -/
def State.modClu (s : State) (c : Clu) (f : CluHw → CluHw) : State := { s with clusters := s.clusters.set c (f s.clusters[c]) }

/-- Every cluster in rising order. -/
def allClus : List Clu := List.finRange 8

/-! ### PMBus (R82, R83) -/

/-- A PMBus command goes out to the regulator of rail k, at its address and output PAGE; rail k is one in use. -/
def State.pmbSend (s : State) (k : Nat) (cmd : PmbCmd) (data : Nat) : State :=
  if s.on .pmb PMB.RAIL_CFG_VALID k then
    let addr := s.rd .pmb PMB.RAIL_CFG_ADDR k
    let page := s.rd .pmb PMB.RAIL_CFG_PAGE k
    (s.emit (.pmb k addr page .page page)).emit (.pmb k addr page cmd data)
  else s

/-- The rails in use that have a ROLE. -/
def State.railsOf (s : State) (role : Nat) : List Nat :=
  (List.range 16).filter fun k => s.on .pmb PMB.RAIL_CFG_VALID k && s.rd .pmb PMB.RAIL_CFG_ROLE k == role

/-- The setpoint of a rail goes to its regulator; 0 leaves the regulator's own (R83). -/
def State.railSet (s : State) (k : Nat) : State :=
  let mv := s.rd .pmb PMB.RAIL_VSET k
  if mv = 0 then s else s.pmbSend k .voutCommand mv

/-- The head logic supply is enabled or removed (R76). -/
def State.headSupply (s : State) (on : Bool) : State :=
  if s.power.headLogic == on then s
  else { s with power := { s.power with headLogic := on } }.each (s.railsOf 4) fun t k => t.pmbSend k .operation on.toNat

/-! ### Lanes -/

/-- Change what a lane holds. -/
def State.modLane (s : State) (l : Lane) (f : LaneHw → LaneHw) : State :=
  { s with lanes := s.lanes.set l (f s.lanes[l]) }

/-- The nozzle count of a lane: its head's since the cold boot, or N_EXP; 0 while unknown (R179). -/
def State.laneN (s : State) (l : Lane) : Nat :=
  if s.identN[l] = 0 then s.rd (.vnl l) VNL.N_EXP else s.identN[l]

/-- ARMED, FIRING or HOLD: the lane pages' RUN (R39). -/
def LaneState.runs : LaneState → Bool
  | .armed => true
  | .firing => true
  | .hold => true
  | _ => false

/-- RUN of a lane (R39). -/
def State.laneRun (s : State) (l : Lane) : Bool := s.lanes[l].st.runs

/-- Some lane is ARMED, FIRING or HOLD. -/
def State.anyRun (s : State) : Bool := allLanes.any fun l => s.laneRun l

/-- The link of a lane is up at its operating speed (R22, R311). -/
def State.linkUp (s : State) (l : Lane) : Bool := s.rd (.vnl l) VNL.STAT_LSTATE == 5

/-- AVAIL: IDLE, ARMED or FIRING (R22). -/
def State.avail (s : State) (l : Lane) : Bool :=
  match s.lanes[l].st with
  | .idle => true
  | .armed => true
  | .firing => true
  | _ => false

/-- `CPWR.STAT` of the lane's cluster: DLL locked, HVPG high (R22, R81). -/
def State.dllLock (s : State) (l : Lane) : Bool := s.on (.cpwr (Lane.clu l)) CPWR.STAT_DLL_LOCK
def State.hvGood (s : State) (l : Lane) : Bool := s.on (.cpwr (Lane.clu l)) CPWR.STAT_HVPG

/-- A valid dead map is in force (R22, R237). -/
def State.mapValid (s : State) (l : Lane) : Bool := s.on (.lne l) LNE.MAP_CTRL_ACT_VALID

/-- The lane has had a temperature reading since its link came up (R22). -/
def State.tempValid (s : State) (l : Lane) : Bool := s.on (.seq l) SEQ.TEMP_VALID

/-- R21: every arming precondition holds. -/
def State.armable (s : State) (l : Lane) : Bool :=
  s.linkUp l && s.tempValid l && s.mapValid l && s.dllLock l && s.hvGood l && s.avail l

/-- The pair role (R334). -/
def State.shadow (s : State) : Bool := s.pair.role == .shadow

/-! ### Device state -/

/-- The device changes state; PWR and SYS report it (R63). -/
def State.setDev (s : State) (d : DevState) : State :=
  if s.power.dev = d then s else (({ s with power := { s.power with dev := d } }).raise .pwr 6).raise .sys 6

/-- A page is active in LST. -/
def State.pageActive (s : State) : Bool := s.intake.pages.any fun p => p.phase == .active

/-- READY becomes PRINT as a lane enters ARMED, and PRINT READY once no lane is ARMED, FIRING or HOLD and no page is
active (R63). -/
def State.settlePrint (s : State) : State :=
  match s.power.dev with
  | .ready => if s.anyRun then s.setDev .print else s
  | .print => if !s.anyRun && !s.pageActive then s.setDev .ready else s
  | _ => s

/-! ### Lane state -/

/-- The four pages of a lane. -/
def lanePages (l : Lane) : List Page := [.lne l, .seq l, .wav l, .vnl l]

/-- A lane changes state: its pages report it in the same DCLK (R264), raise STATE, and FAULT on the way into FAULT
(R52); its calibration runs follow (R380). -/
def State.setLane (s : State) (l : Lane) (st : LaneState) : State :=
  if s.lanes[l].st = st then s
  else
    let s := (s.modLane l fun h => { h with st }).calLeave l st
    let s := s.each (lanePages l) fun t p => (t.raise p 6).setFault p (st == .fault)
    s.settlePrint

/-- A member put into a list in rising order of a number, before the members with the same number. -/
def insertOn {α : Type} (f : α → Nat) (a : α) : List α → List α
  | [] => [a]
  | b :: l => if f a ≤ f b then a :: b :: l else b :: insertOn f a l

/-- A list in rising order of a number; members with the same number keep their order. -/
def sortOn {α : Type} (f : α → Nat) : List α → List α
  | [] => []
  | a :: l => insertOn f a (sortOn f l)

/-- The lanes of a plane in bar order under the active plane map (R179). -/
def State.planeLanes (s : State) (p : Nat) : List Lane :=
  let ls := allLanes.filter fun l => s.on .pln PLN.LMAP_EN l.val && s.rd .pln PLN.LMAP_PLANE l.val == p
  sortOn (fun l => s.rd .pln PLN.LMAP_POS l.val) ls

/-- The lanes a page prints on, under the active plane map, in rising order. -/
def State.pageLanes (s : State) (planes : Nat) : List Lane :=
  allLanes.filter fun l => s.on .pln PLN.LMAP_EN l.val && planes.testBit (s.rd .pln PLN.LMAP_PLANE l.val)

/-- The next page: the first open page that has not started (R186). -/
def State.nextPage (s : State) : Option PageSt := s.intake.pages.find? fun p => p.phase == .waiting

/-- The active page: the one that started last. -/
def State.curPageSt (s : State) : Option PageSt := (s.intake.pages.filter fun p => p.phase == .active).getLast?

/-! ### Spoil records -/

/-- Free entries of the spoil ring, records on their way counted; none while EN is 0 (R268). -/
def State.spoilFree (s : State) : Nat :=
  if s.on .spl HDR.PG_CTRL_EN then
    let n := 2 ^ s.rd .spl SPL.SIZE
    let used := (s.rd .spl SPL.HEAD + s.spoil.flying.length + n - s.rd .spl SPL.TAIL) % n
    n - 1 - used
  else 0

/-- FLAGS bits of R266. -/
def flagElem : Nat := 1
def flagDemote : Nat := 2
def flagOverflow : Nat := 4
def flagMulti : Nat := 8
def flagAfter : Nat := 16

/-- Lines from first to last merge into the one overflow record (R269). -/
def State.overflowMerge (s : State) (r : SpoilRec) (last : Nat) : State :=
  let (o, e) := match s.spoil.overflow with
    | none => ({ r with cause := 6, flags := flagOverflow }, last)
    | some (o, e) =>
      let first := if r.firstWl < o.firstWl then r else o
      ({ o with
          page := first.page, firstWl := first.firstWl, copy := first.copy, time := first.time
          lanes := o.lanes ||| r.lanes, planes := o.planes ||| r.planes
          flags := if r.page = o.page then o.flags else o.flags ||| flagMulti }, max e last)
  let n := e - o.firstWl + 1
  let o := { o with count := n % 65536, detail := n / 65536 }
  ({ s with spoil := { s.spoil with overflow := some (o, e) } }).wr .spl SPL.STAT_OVF 1

/-- A lane that is ARMED or FIRING enters HOLD; why 1 THERMAL, 2 TEMP_LOST, 3 SPOIL_FULL (R262). In a SHADOW the
cause is counted and does not act (R336). -/
def State.enterHold (s : State) (l : Lane) (why : Nat) : State :=
  if s.lanes[l].st == .armed || s.lanes[l].st == .firing then
    if s.shadow then s.bump (.seq l) SEQ.HOLD_CNT
    else
    let s := s.modLane l fun h => { h with holdTemp := if why = 1 then s.rd (.seq l) SEQ.TEMP_READING else 0 }
    let s := (s.wr (.seq l) SEQ.STAT_HOLD_WHY why).bump (.seq l) SEQ.HOLD_CNT
    let s := (s.raise (.seq l) 8).when (why == 2) fun t => t.raise (.seq l) 14
    s.setLane l .hold
  else s

/-- A lane enters ARMED or goes back to FIRING; while the overflow record is held it stops again at once, in HOLD (R7, R262). -/
def State.laneRuns (s : State) (l : Lane) (st : LaneState) : State :=
  (s.setLane l st).when s.spoil.overflow.isSome fun t => t.enterHold l 3

/-- The named lanes enter ARMED as soon as the page is the next page and they are ARMABLE (R187, R264). -/
def State.armNext (s : State) : State :=
  match s.nextPage with
  | none => s
  | some p =>
    if p.cancel then s
    else
      s.each (s.pageLanes p.desc.planes) fun t l =>
        if t.lanes[l].st == .idle && t.armable l && t.lanes[l].page == none then
          (t.modLane l fun h => { h with page := some p.desc.id, outCause := none }).laneRuns l .armed
        else t

/-- A record that finds no free entry (R7, R269): FULL, the overflow record, and every lane in HOLD. -/
def State.spoilFull (s : State) (r : SpoilRec) (last : Nat) : State :=
  let s := if s.spoil.overflow.isNone then s.raise .spl 9 else s
  let s := s.overflowMerge r last
  s.each allLanes fun t l => t.enterHold l 3

/-- A record is presented to the ring, or there is no free entry for it (R267, R269). -/
def State.recordOut (s : State) (r : SpoilRec) : State :=
  if s.spoil.overflow.isSome then s.overflowMerge r (r.firstWl + r.count - 1)
  else if s.spoilFree = 0 then s.spoilFull r (r.firstWl + r.count - 1)
  else
    let seq := s.rd .spl SPL.SEQ
    let s := s.wr .spl SPL.SEQ ((seq + 1) % 2 ^ 32)
    { s with spoil := { s.spoil with flying := s.spoil.flying ++ [(r, seq)] } }

/-- The same page, cause, flags, first line and count: a closed run joins the record (R267). -/
def SpoilRec.joins (o : SpoilRec) (r : Run) : Bool :=
  o.page == r.page && o.cause == r.cause && o.flags == r.flags && o.firstWl == r.firstWl && o.count == r.count

/-- The DETAIL of two GUARD records joined: lowest cap, nozzle counts added, saturating (R266, R267). -/
def joinDetail (cause a b : Nat) : Nat :=
  if cause = 12 then min (a % 16) (b % 16) + 65536 * min (a / 65536 + b / 65536) 65535 else a

/-- Add a closed run of a lane to the record it joins; none if it joins none. -/
def joinRun (l : Nat) (r : Run) : List SpoilRec → Option (List SpoilRec)
  | [] => none
  | o :: os =>
    if o.joins r then
      some ({ o with lanes := o.lanes ||| 2 ^ l, planes := o.planes ||| 2 ^ r.plane,
                     detail := joinDetail o.cause o.detail r.detail } :: os)
    else (joinRun l r os).map (o :: ·)

/-- A run closes (R267): it joins an open record, or opens one, the oldest of four being written first. -/
def State.closeRun (s : State) (l : Lane) (r : Run) : State :=
  match joinRun l.val r s.spoil.opens with
  | some os => { s with spoil := { s.spoil with opens := os } }
  | none =>
    let new : SpoilRec :=
      { page := r.page, cause := r.cause, flags := r.flags, firstWl := r.firstWl, count := r.count,
        lanes := 2 ^ l.val, planes := 2 ^ r.plane, copy := r.copy, time := r.time, detail := r.detail, opened := s.dclk }
    if s.spoil.overflow.isSome then s.overflowMerge new (r.firstWl + r.count - 1)
    else
      match s.spoil.opens with
      | o :: os =>
        if 4 ≤ s.spoil.opens.length then
          let s := { s with spoil := { s.spoil with opens := os ++ [new] } }
          s.recordOut o
        else { s with spoil := { s.spoil with opens := s.spoil.opens ++ [new] } }
      | [] => { s with spoil := { s.spoil with opens := [new] } }

/-- Close the open run of a lane, if any; `after` picks the run of the lines reported after their instant. -/
def State.flushRun (s : State) (l : Lane) (after : Bool) : State :=
  let r := if after then s.lanes[l].after else s.lanes[l].run
  match r with
  | none => s
  | some r =>
    let s := s.modLane l fun h => if after then { h with after := none } else { h with run := none }
    s.closeRun l r

/-- The device time of a firing instant that has passed (R266). -/
def State.timeAt (s : State) (at_ : Nat) : Nat := s.time - 2 * (s.dclk - at_)

/-- A lane's line, its instant at DCLK `at_`, is spoiled (R265): it counts, and extends the lane's run or closes it and opens
another (R267). A SHADOW writes no record and counts none (R336). -/
def State.spoilLine (s : State) (l : Lane) (t : LineTag) (cause flags detail at_ : Nat) : State :=
  if s.shadow then s
  else
  let time := s.timeAt at_
  let after := flags.testBit 4
  let s := s.bump .spl SPL.CAUSE_CNT 1 cause
  let new : Run :=
    { page := t.page, cause, flags, firstWl := t.wl, count := 1, copy := t.copy, plane := t.plane, time, detail,
      opened := s.dclk }
  if s.spoil.overflow.isSome then
    s.overflowMerge { page := t.page, cause, flags, firstWl := t.wl, count := 1, lanes := 2 ^ l.val, planes := 2 ^ t.plane,
                      copy := t.copy, time, detail } t.wl
  else
    let put (s : State) (r : Run) : State :=
      s.modLane l fun h => if after then { h with after := some r } else { h with run := some r }
    match (if after then s.lanes[l].after else s.lanes[l].run) with
    | none => put s new
    | some r =>
      if r.page = t.page && r.cause = cause && r.flags = flags && r.firstWl + r.count = t.wl && decide (r.count < 65535) then
        put s { r with count := r.count + 1, detail := joinDetail cause r.detail detail }
      else put (s.flushRun l after) new

/-! ### Leaving HOLD, losing a lane -/

/-- The cause for which a lane is held has cleared (R263). -/
def State.holdCleared (s : State) (l : Lane) : Bool :=
  if s.rd (.seq l) SEQ.STAT_HOLD_WHY = 3 then !s.on .spl SPL.STAT_OVF
  else s.tempValid l && decide (signed 12 (s.rd (.seq l) SEQ.TEMP_READING) ≤ s.rdS (.seq l) SEQ.TEMP_RES_T_RESUME)

/-- AUTO_RESUME: a held lane whose page has passed and whose cause has cleared goes to IDLE (R263). -/
def State.autoResume (s : State) (l : Lane) : State :=
  if s.lanes[l].st == .hold && s.on (.seq l) SEQ.CTRL_AUTO_RESUME && s.lanes[l].page == none && s.holdCleared l then
    ((s.wr (.seq l) SEQ.STAT_HOLD_WHY 0).setLane l .idle).armNext
  else s

/-- Every code of a running scan arrived in an earlier DCLK: the scan can no longer be aborted (R235). -/
def State.awlFull (s : State) (l : Lane) : Bool :=
  s.rd (.lne l) LNE.AWL_STAT_STATE == 1 && (match s.lanes[l].awl.full with
    | some f => decide (f < s.dclk)
    | none => false)

/-- A running scan ends as ABORTED, the records and maps as they were (R235). -/
def State.awlAborted (s : State) (l : Lane) (link : Bool) : State :=
  if s.rd (.lne l) LNE.AWL_STAT_STATE = 1 && !s.awlFull l then
    let s := s.modLane l fun h => { h with awl := { h.awl with codes := [], start := none, full := none } }
    let s := ((s.wr (.lne l) LNE.AWL_STAT_STATE 5).bump (.lne l) LNE.AWL_ABORT).wr (.lne l) HDR.PG_STAT_BUSY 0
    (s.raise (.lne l) 13).when link fun t => t.errOpen (.lne l) 0x33
  else s

/-- A lane is lost to FAULT, from any state but OFF and TEST (R29, R264). -/
def State.laneFault (s : State) (l : Lane) : State :=
  match s.lanes[l].st with
  | .off => s
  | .test => s
  | _ =>
    if s.awlFull l then s.modLane l fun h => { h with awl := { h.awl with after := some .fault } }
    else
    let s := s.awlAborted l false
    let s := s.modLane l fun h => { h with outCause := if h.page.isSome then some (5, 0) else h.outCause }
    s.setLane l .fault

/-- Every lane of a cluster is lost to FAULT (R29). -/
def State.clusterFault (s : State) (c : Clu) : State := s.each (Clu.lanes c) fun t l => t.laneFault l

end Sys2Proof.Machine
end

