-- ==== Sys2Proof/Machine/Rate.lean ====
section
/-! DEFINITION. Plane geometry (R179, R183), the shortest line period of a lane (R252, R306), the permitted rate (R280)
and SLOWREQ (R281). -/

namespace Sys2Proof.Machine

open Reg

/-! ### Plane geometry -/

/-- A member of a list of lanes by its place. -/
def laneAt (ls : List Lane) (i : Nat) : Option Lane := (ls.drop i).head?

/-- Plane position of nozzle 0 of each lane of a plane, in bar order, with nozzle counts n (R179). -/
def State.planeBase (s : State) (n : Vector Nat 64) (x : Nat) : List Lane → List (Lane × Nat)
  | [] => []
  | l :: ls => (l, x) :: State.planeBase s n (x + n[l] - s.rd .pln PLN.LMAP_OVL l.val) ls

/-- The printed width with nozzle counts n: the OVL of the last lane is not counted (R179). -/
def State.planeWidthOf (s : State) (n : Vector Nat 64) (p : Nat) : Nat :=
  match (s.planeBase n 0 (s.planeLanes p)).getLast? with
  | none => 0
  | some (l, x) => x + n[l]

/-- The printed width W_p, with the counts the Last evaluated last (R179). -/
def State.planeWidth (s : State) (p : Nat) : Nat := s.planeWidthOf s.intake.counts p

/-- The nozzle counts as they stand. -/
def State.liveCounts (s : State) : Vector Nat 64 := Vector.ofFn fun l => s.laneN l

/-- A lane's plane in the active map. -/
def State.planeOf (s : State) (l : Lane) : Option Nat :=
  if s.on .pln PLN.LMAP_EN l.val then some (s.rd .pln PLN.LMAP_PLANE l.val) else none

/-- The neighbour after l in a list. -/
def nextIn (l : Lane) : List Lane → Option Lane
  | a :: b :: r => if a = l then some b else nextIn l (b :: r)
  | _ => none

/-- The right and left neighbours of a lane in its plane's bar order (R179). -/
def State.rightOf (s : State) (l : Lane) : Option Lane :=
  match s.planeOf l with
  | none => none
  | some p => nextIn l (s.planeLanes p)

def State.leftOf (s : State) (l : Lane) : Option Lane :=
  match s.planeOf l with
  | none => none
  | some p => nextIn l (s.planeLanes p).reverse

/-! ### The shortest line period -/

/-- The frequency of LCLK in MHz at a rate code (R306). -/
def lclkMHz (rate : Nat) : Nat := 40 * (rate + 1)

/-- Device DCLK that n LCLK take at a rate code, rounded up. -/
def lclkDclk (rate n : Nat) : Nat := (500 * n + lclkMHz rate - 1) / lclkMHz rate

/-- T_VNL: the line slot in device DCLK (R306). -/
def tVnl (n rate : Nat) : Nat := lclkDclk rate (3 * n / 16 + 52)

/-- DCLK of a line frame (R302). -/
def frameDclk (n rate : Nat) : Nat := lclkDclk rate (3 * n / 16 + 16)


/-- LONG: the lanes of the active plane map whose line frame lasts more than 7,200 ns; each rise of a bit records
FRAME_LONG (R349). -/
def State.settleLong (s : State) : State :=
  let old := s.rd .pair PAIR.LONG
  let long (l : Lane) : Bool := s.on .pln PLN.LMAP_EN l.val && s.laneN l != 0 &&
    decide (3600 < frameDclk (s.laneN l) (s.rd (.vnl l) VNL.STAT_RATE))
  let s' := s.wr .pair PAIR.LONG (allLanes.foldl (fun a (l : Lane) => if long l then a + 2 ^ l.val else a) 0)
  s'.each (allLanes.filter fun (l : Lane) => long l && !old.testBit l.val) fun u _ => (u.errOpen .pair 0x27).raise .pair 15

/-! ### SLOWREQ -/

/-- Some SLOWREQ source holds. -/
def State.slowSource (s : State) : Bool :=
  s.on .pace PACE.STAT_SRC_RATE || s.on .pace PACE.STAT_SRC_SOFT || s.on .pace PACE.STAT_SRC_FSAFE

/-- SLOWREQ rises when a source holds; the time without one starts over; a SHADOW holds it low (R281, R336). -/
def State.settleSlow (s : State) : State :=
  let hot := s.slowSource
  let s := { s with pace := { s.pace with
    quietFrom := if hot then none else some (s.pace.quietFrom.getD s.dclk) } }
  if hot && !s.on .pace PACE.STAT_SLOWREQ && !s.shadow then
    ((s.wr .pace PACE.STAT_SLOWREQ 1).bump .pace PACE.SLOW_CNT).raise .pace 8
  else s

/-- SLOWREQ falls. -/
def State.slowFall (s : State) : State :=
  if s.on .pace PACE.STAT_SLOWREQ then (s.wr .pace PACE.STAT_SLOWREQ 0).raise .pace 9 else s

/-- The SOFT source follows the lanes (R255, R281). -/
def State.settleSoft (s : State) : State :=
  (s.flag .pace PACE.STAT_SRC_SOFT (allLanes.any fun (l : Lane) => s.on (.seq l) SEQ.STAT_SOFT)).settleSlow

/-- A number divided by another, rounded up, of 20 parts in 19 (R281). -/
def over95 (n d : Nat) : Nat := ceilDiv (20 * n) (19 * d)

/-- The sources RATE and FSAFE follow the last interval, T_P and F_SAFE of the active page (R281). -/
def State.settleSources (s : State) : State :=
  let f := match s.curPageSt with
    | some q => q.fsafe
    | none => 0
  let short (limit : Nat) : Bool := match s.pace.interval with
    | some g => decide (g < limit)
    | none => false
  let slow := s.on .pace PACE.CTRL_FSAFE_SLOW && s.pageActive && decide (0 < f) && short (over95 500000000 f)
  ((s.flag .pace PACE.STAT_SRC_RATE (short (over95 (s.rd .pace PACE.PERM) 1))).flag .pace PACE.STAT_SRC_FSAFE slow).settleSlow

/-- PERM and PERM_F, and AX0's speed limit in BELT mode (R276, R280). -/
def State.settlePerm (s : State) : State :=
  let ls := match s.curPageSt with
    | some p => allLanes.filter fun (l : Lane) => p.lanes.contains l.val
    | none => allLanes.filter fun (l : Lane) => s.on .pln PLN.LMAP_EN l.val
  let t := ls.foldl (fun a (l : Lane) => max a (s.rd (.seq l) SEQ.TMIN)) 3125
  let s := (s.wr .pace PACE.PERM t).wr .pace PACE.PERM_F (50000000 / t)
  let v := s.rd (.ax 0) AX.VMAX
  let lim := 475000000 * s.rd .pace PACE.RATIO_DEN / (t * s.rd .pace PACE.RATIO_NUM)
  (s.wr (.ax 0) AX.VMAX_EFF
    (if s.rd .pace PACE.CTRL_MODE = 2 && s.on .pace PACE.CTRL_BELT_LIMIT then min v lim else v)).settleLong.settleSources

/-- TMIN of a lane, recomputed at a WAV commit and at a change of the link speed (R252). -/
def State.settleTmin (s : State) (l : Lane) : State :=
  let t := max 3125 (max (tVnl (s.laneN l) (s.rd (.vnl l) VNL.STAT_RATE))
    (5 * (s.rd (.wav l) WAV.TWAV + s.rd (.wav l) WAV.REFILL)))
  (s.wr (.seq l) SEQ.TMIN t).settlePerm

end Sys2Proof.Machine
end

