-- ==== Sys2Proof/Machine/Window.lean ====
section
/-! DEFINITION. The lane table windows (R205, R206, R228, R253): their words, the maps, masks and counts in them, the
partner refresh (R238), and waveform figures (R256). -/

namespace Sys2Proof.Machine

open Reg

/-- Word indices of the regions of a lane table window (R206, R228, R253). -/
def winRecords : Nat := 0x8000
def winActive : Nat := 0x8800
def winStaged : Nat := 0x8880
def winForce : Nat := 0x8900
def winPartnerL : Nat := 0x8980
def winPartnerR : Nat := 0x8984
def winMaskL : Nat := 0x8A00
def winMaskR : Nat := 0x8B00
def winWeights : Nat := 0x8C00
def winCounts : Nat := 0xC000

/-- The word belongs to a fire count (R253). -/
def winIsCount (w : Nat) : Bool := decide (winCounts ≤ w ∧ w < winCounts + 8192)

/-- A word of a lane's table window. -/
def State.winWord (s : State) (l : Lane) (w : Nat) : Nat := Regs.get s.lanes[l].win w 0

/-- Set a word of a lane's table window. -/
def State.setWin (s : State) (l : Lane) (w v : Nat) : State :=
  s.modLane l fun h => { h with win := Regs.put h.win w 0 (v % 2 ^ 32) }

/-- Set consecutive words. -/
def State.setWins (s : State) (l : Lane) : Nat → List Nat → State
  | _, [] => s
  | w, v :: vs => State.setWins (s.setWin l w v) l (w + 1) vs

/-- n consecutive words. -/
def State.winWords (s : State) (l : Lane) (w n : Nat) : List Nat := (List.range n).map fun i => s.winWord l (w + i)

/-- Bit j of a bitmap of the window (R228). -/
def State.mapBit (s : State) (l : Lane) (base j : Nat) : Bool := bit (s.winWord l (base + j / 32)) (j % 32)

/-- A list of truth values as 32-bit words, first value in bit 0; n words. -/
def packBits (n : Nat) (f : Nat → Bool) : List Nat :=
  (List.range n).map fun i => (List.range 32).foldl (fun a b => if f (32 * i + b) then a + 2 ^ b else a) 0

/-- The nozzles a count of a map covers: N, or all 4,096 while N is unknown (R237). -/
def State.mapN (s : State) (l : Lane) : Nat := if s.laneN l = 0 then 4096 else s.laneN l

/-- The bytes of words, lowest first. -/
def wordBytes (l : List Nat) : List Nat := l.flatMap (bytesOf 4)

/-- MAP_CRC and DEAD_ACT of the ACTIVE map (R237). -/
def State.mapFigures (s : State) (l : Lane) : State :=
  let dead := ((List.range (s.mapN l)).filter fun j => s.mapBit l winActive j).length
  (s.wr (.lne l) LNE.MAP_CRC (crc32c (wordBytes (s.winWords l winActive 128)))).wr (.lne l) LNE.MAP_CTRL_DEAD_ACT dead

/-- The partner data of a lane (R238): zeros for a side without a neighbour. -/
def State.partnerRefresh (s : State) (l : Lane) : State :=
  let s := match s.leftOf l with
    | some a =>
      let o := s.rd .pln PLN.LMAP_OVL a.val
      let n := s.laneN a
      let s := s.setWins l winMaskL (s.winWords a winMaskR 256)
      let s := s.setWins l winPartnerL
        (packBits 4 fun k => decide (k < o) && s.mapBit a winActive (n - o + k))
      s.modLane l fun h => { h with hoL := s.on (.lne a) LNE.WELT_CTRL_HANDOVER }
    | none =>
      let s := (s.setWins l winMaskL (List.replicate 256 0)).setWins l winPartnerL (List.replicate 4 0)
      s.modLane l fun h => { h with hoL := false }
  match s.rightOf l with
  | some b =>
    let o := s.rd .pln PLN.LMAP_OVL l.val
    s.setWins l winPartnerR (packBits 4 fun k => decide (k < o) && s.mapBit b winActive k)
  | none => s.setWins l winPartnerR (List.replicate 4 0)

/-- A lane and its neighbours. -/
def State.withNeighbours (s : State) (l : Lane) : List Lane :=
  l :: ((s.leftOf l).toList ++ (s.rightOf l).toList)

/-! ### Waveforms (R256) -/

/-- The pulses of a level of a set as (START, WIDTH), read by `get`. -/
def pulses (get : Row → Nat → Nat) (set lv : Nat) : List (Nat × Nat) :=
  (List.range 4).map fun i => (get (WAV.PULSE_START set lv) i, get (WAV.PULSE_WIDTH set lv) i)

/-- ENERGY of a level in units of 4 nJ. -/
def pulseEnergy (ke : Nat) (l : List (Nat × Nat)) : Nat := ceilDiv ((l.map fun e => e.2 * ke).sum) 400

/-- Used pulses are in order and do not overlap. -/
def pulsesOrdered : Nat → List (Nat × Nat) → Bool
  | _, [] => true
  | t, (a, w) :: r => if w = 0 then pulsesOrdered t r else decide (t ≤ a) && pulsesOrdered (a + w) r

/-- Sets 0 to 8 with levels 1 to 7. -/
def setLevels : List (Nat × Nat) := (List.range 9).flatMap fun s => (List.range 7).map fun L => (s, L + 1)

/-- ENERGY and TWAV of the active sets (R256). -/
def State.waveFigures (s : State) (l : Lane) : State :=
  let get r i := s.rd (.wav l) r i
  let ke := s.rd (.wav l) WAV.EMODEL
  let s' := s.each setLevels fun t e => t.wr (.wav l) (WAV.ENERGY e.1 e.2) (pulseEnergy ke (pulses get e.1 e.2))
  let tw := setLevels.foldl (fun a e => (pulses get e.1 e.2).foldl (fun a p => if p.2 = 0 then a else max a (p.1 + p.2)) a) 0
  s'.wr (.wav l) WAV.TWAV tw

/-! ### Control frames (R304, R305) -/

/-- Queue a control frame; an EPOCH frame goes ahead of every other that waits. -/
def State.queueCtrl (s : State) (l : Lane) (type payload : Nat) : State :=
  s.modLane l fun h =>
    let f : CtrlFrame := { type, payload, cseq := h.cseq }
    { h with cseq := (h.cseq + 1) % 256, ctrl := if type = 0x30 then f :: h.ctrl else h.ctrl ++ [f] }

/-- The payload of a WAVE_WR frame (R304). -/
def wavePayload (bank set lv : Nat) (ps : List (Nat × Nat)) : Nat :=
  ofBytes ([bank, set, lv, 0] ++ ps.flatMap fun p => bytesOf 2 p.1 ++ bytesOf 2 p.2)

/-- Queue the frames that write every set into a bank, from what `get` reads. -/
def State.loadBank (s : State) (l : Lane) (bank : Nat) (get : Row → Nat → Nat) : State :=
  s.each setLevels fun t e => t.queueCtrl l 0x20 (wavePayload bank e.1 e.2 (pulses get e.1 e.2))

/-- A WAV commit switches the bank and reloads the other one (R257). A SHADOW sends no such frame and its banks count
as loaded (R305). -/
def State.switchBank (s : State) (l : Lane) : State :=
  let old := s.rd (.wav l) WAV.BANK_ACTIVE
  let s := s.wr (.wav l) WAV.BANK_ACTIVE (1 - old)
  if s.shadow then s
  else (s.wr (.wav l) WAV.BANK_LOADED 0).loadBank l old fun r i => s.rd (.wav l) r i

end Sys2Proof.Machine
end

