-- ==== Sys2Proof/Machine/Commit.lean ====
section
/-! DEFINITION. A commit taking effect (R40 to R42): the staged fields of a page become active, with what each page
adds to it. -/

namespace Sys2Proof.Machine

open Reg

/-- The block registers of a page (the register tables of the chapters), the item blocks of R382 with them. -/
def pageRows : Page → List Row
  | .sys => SYS.rows | .pwr => PWR.rows | .aon => AON.rows | .pmb => PMB.rows | .clk => CLK.rows | .fab => FAB.rows
  | .core => CORE.rows | .fuse => FUSE.rows | .evt => EVT.rows | .pci => PCI.rows | .int => INT.rows
  | .cdc => CDC.rows | .ddr => DDR.rows | .ddrs _ => DDRS.rows ++ ITEM.rows 7 | .lst => LST.rows | .pln => PLN.rows
  | .pace => PACE.rows | .ax _ => AX.rows | .tim => TIM.rows | .eth _ => ETH.rows | .pair => PAIR.rows
  | .bst => BST.rows | .cal => CAL.rows | .scb => SCB.rows | .den => DEN.rows | .spl => SPL.rows | .gio => GIO.rows
  | .clu _ => CLU.rows | .scr _ => SCR.rows | .seam _ => SEAM.rows | .ccal _ => ITEM.rows 6 | .cpwr _ => CPWR.rows
  | .lne _ => LNE.rows | .seq _ => SEQ.rows ++ ITEM.rows 1 ++ [ITEM.HV_MEAS] | .wav _ => WAV.rows
  | .vnl _ => VNL.rows ++ ITEM.rows 2 ++ ITEM.rows 3 ++ ITEM.rows 4 ++ ITEM.rows 5

/-- The staged fields of a page. -/
def pageStaged (p : Page) : List Row := (pageRows p).filter fun r => r.acc == .rws

/-- Every staged field of a page is copied to the active copy (R40). -/
def State.copyStaged (s : State) (p : Page) : State :=
  s.each (pageStaged p) fun t r => t.each (List.range r.count) fun u i => u.wr p r (u.rdStaged p r i) i

/-- The staged copies of a page return to the values in force. -/
def State.dropStaged (s : State) (p : Page) : State :=
  s.each (pageStaged p) fun t r => t.each (List.range r.count) fun u i => u.wrStaged p r (u.rd p r i) i

/-- A pending commit is no longer pending. -/
def State.clearPend (s : State) (p : Page) : State :=
  let s := (s.wr p HDR.PG_STAT_COMMIT_PEND 0).wr p HDR.PG_STAT_PEND_AT 0
  { s with commits := s.commits.filter fun e => e.1 != p }

/-- Whether a commit of a page is pending. -/
def State.pend (s : State) (p : Page) : Bool := s.on p HDR.PG_STAT_COMMIT_PEND

/-- A commit becomes pending; a lane keeps the STAGED map as it stands (R232). -/
def State.commitPend (s : State) (p : Page) (at_ : Nat) : State :=
  let s := (s.wr p HDR.PG_STAT_COMMIT_PEND 1).wr p HDR.PG_STAT_PEND_AT at_
  let s := { s with commits := s.commits ++ [(p, s.dclk)] }
  match p with
  | .lne l => s.modLane l fun (h : LaneHw) => { h with mapSnap := some (s.winWords l winStaged 128) }
  | _ => s

/-- What the page adds to its commit: the head high voltage (R81: VOUT goes to the cluster's rail, and 0 keeps HVEN low), the
dead map (R237; a lane that it makes ARMABLE is armed, R187), the waveform figures and bank (R256, R257), the plane map (R184:
the bands of a page that has not started are assembled again; a tile released after its only decode keeps its content, log
entry 12). -/
def State.commitHook (s : State) (p : Page) : State :=
  match p with
  | .lne l =>
    let ws := match s.lanes[l].mapSnap with
      | some m => m
      | none => s.winWords l winStaged 128
    let s := (s.setWins l winActive ws).modLane l fun h => { h with mapSnap := none }
    let s := (s.wr (.lne l) LNE.MAP_CTRL_ACT_VALID (s.rd (.lne l) LNE.MAP_CTRL_VALID)).mapFigures l
    (s.each (s.withNeighbours l) State.partnerRefresh).armNext
  | .wav l => ((s.waveFigures l).switchBank l).settleTmin l
  | .pln =>
    let idle (t : TileKey) : Bool := s.intake.pages.any fun q => q.desc.id == t.page && q.phase == PagePhase.waiting
    let held (t : TileKey) : Bool := s.intake.tiles.any fun u => u.key == t
    let s := { s with intake := { s.intake with
        bandBuf := s.intake.bandBuf.filter fun (b : BandTile) => !(idle b.key && held b.key)
        tiles := s.intake.tiles.map fun (t : Tile) => if idle t.key then { t with decoded := none } else t
        counts := s.intake.checked } }
    s.settlePerm
  | .ax a => if a = 0 then s.settlePerm else s.wr (.ax a) AX.VMAX_EFF (s.rd (.ax a) AX.VMAX)
  | .cpwr c =>
    let v := s.rd (.cpwr c) CPWR.HV_SET
    let s := s.each (s.railsOf (8 + c.val)) fun t k => t.pmbSend k .voutCommand v
    if v == 0 && s.on (.cpwr c) CPWR.STAT_HVEN then
      ((s.wr (.cpwr c) CPWR.STAT_HVEN 0).modClu c fun (h : CluHw) =>
        { h with phase := .failed, tryAt := 500000000 + h.hvenAt, retry := true }).errOpen (.cpwr c) 0x25
    else s
  | _ => s

/-- A commit takes effect: the copy, COMMIT_PEND cleared, COMMIT_DONE raised (R40). -/
def State.applyCommit (s : State) (p : Page) : State :=
  (((s.copyStaged p).clearPend p).commitHook p).raise p 1

/-- The pages with a commit that waits for boundary b and was requested at least 2 DCLK ago (R42). -/
def State.ripe (s : State) (b : Nat) (which : Page → Bool) : List Page :=
  (s.commits.filter fun e => which e.1 && s.rd e.1 HDR.PG_STAT_PEND_AT == b && decide (e.2 + 2 ≤ s.dclk)).map (·.1)

end Sys2Proof.Machine
end

