-- ==== Sys2Proof/Machine/Accept.lean ====
section
/-! DEFINITION. The result of an Awl scan (R231, R232) and a commit as a whole: what it changes, and the held scan result
it releases. -/

namespace Sys2Proof.Machine

open Reg

/-- A scan result with its count NEW is written to the STAGED map, the entries from N on as they were (R228, R232). With
AUTO_COMMIT in the role SOLO the device commits the LNE page at page gap: at once while RUN is 0. -/
def State.awlAccept (s : State) (l : Lane) (map : List Bool) (new : Nat) : State :=
  let s := s.setWins l winStaged (packBits 128 fun j => map.getD j (s.mapBit l winStaged j))
  let s := s.wrStaged (.lne l) LNE.MAP_CTRL_VALID 1
  let s := ((s.bump (.lne l) LNE.AWL_CNT).wr (.lne l) LNE.AWL_STAT_STATE 3).wr (.lne l) LNE.AWL_TIME s.time
  let s := s.wrStaged (.lne l) LNE.MAP_VER (s.rd (.lne l) LNE.AWL_CNT)
  let s := s.modLane l fun h => { h with awl := { h.awl with held := none, since := s.power.uptime } }
  let s := (s.raise (.lne l) 11).when (decide (0 < new)) fun t => t.raise (.lne l) 14
  if s.on (.lne l) LNE.AWL_POL_AUTO_COMMIT && s.pair.role == .solo then
    if s.laneRun l then s.commitPend (.lne l) 4 else s.applyCommit (.lne l)
  else s

/-- A held scan result is written once COMMIT_PEND clears (R232). -/
def State.awlRelease (s : State) (p : Page) : State :=
  match p with
  | .lne l =>
    if s.rd (.lne l) LNE.AWL_STAT_STATE = 2 then
      match s.lanes[l].awl.held with
      | some (m, new) => s.awlAccept l m new
      | none => s
    else s
  | _ => s

/-- A commit takes effect (R40). -/
def State.commitPage (s : State) (p : Page) : State := (s.applyCommit p).awlRelease p

/-- The commits that wait for boundary b and meet `which` take effect together (R41, R42). -/
def State.commitsAt (s : State) (b : Nat) (which : Page → Bool) : State := s.each (s.ripe b which) State.commitPage

end Sys2Proof.Machine
end

