-- ==== Sys2Proof/Machine/Pages.lean ====
section
/-! DEFINITION. What intake, the Last and the lanes share about pages and tiles: completions (R120), granules and credit
(R117), the LST and INT summaries, a lane leaving a page (R264), and a page's end (R188, R189). -/

namespace Sys2Proof.Machine

open Reg

/-! ### Completions -/

/-- A completion waits to be written (R120, R122). -/
def State.pushCqe (s : State) (c : Cqe) : State := { s with intake := { s.intake with cq := s.intake.cq ++ [c] } }

/-- Bytes the heap holds of a tile. -/
def Stored.len : Stored → Nat
  | .raw n => n
  | .stream n => n

/-- WHERE of a tile entry (R120). -/
def tileLoc (k : TileKey) (cookie : Nat) : Nat := k.band + 2 ^ 16 * k.col + 2 ^ 32 * cookie

/-- WHERE of a page entry (R120). -/
def pageLoc (wl copy : Nat) : Nat := wl % 2 ^ 48 + copy % 2 ^ 16 * 2 ^ 48

/-- A tile entry: TYPE, STATUS, and what the heap holds of the tile. -/
def tileCqe (k : TileKey) (cookie type status stored info : Nat) : Cqe :=
  { type, src := k.plane, status, page := k.page, loc := tileLoc k cookie, stored, info }

/-- A tile fails with an INT code (R116, R126). -/
def State.tileFail (s : State) (k : TileKey) (cookie nn : Nat) : State :=
  (s.errOpen .int nn).pushCqe (tileCqe k cookie 2 (0x1100 + nn) 0 0)

/-- A page entry that arises from the page's progress (R120). -/
def State.pageCqe (s : State) (id type status loc : Nat) : State :=
  s.pushCqe { type, src := 0xF, status, page := id, loc, stored := 0, info := 0 }

/-! ### Granules -/

/-- Granules of n bytes (R117). -/
def granulesOf (n : Nat) : Nat := ceilDiv n 4096

/-- Granules of the heap. -/
def State.heapGranules (s : State) : Nat := 256 * s.rd .int INT.HEAP_SIZE

/-- Granules that tiles hold, of one plane or of all. -/
def State.usedGranules (s : State) (plane : Option Nat) : Nat :=
  ((s.intake.tiles.filter fun (t : Tile) => match plane with
    | none => true
    | some p => t.key.plane == p).map fun t => t.gran.length).sum

/-- n granules of the heap that no tile holds, sought from granule `i` on; `fuel` bounds the search (R117). -/
def pickGranules (size : Nat) (used : List Nat) : Nat → Nat → Nat → List Nat
  | 0, _, _ => []
  | fuel + 1, i, n =>
    if n = 0 then []
    else if used.contains (i % size) then pickGranules size used fuel (i + 1) n
    else i % size :: pickGranules size used fuel (i + 1) (n - 1)

/-- The granules a tile of n granules is given: which of the free ones is open, so the search starts at a free value (log entry
76). -/
def State.takeGranules (s : State) (n : Nat) : List Nat × State :=
  let (k, s) := s.draw
  (pickGranules s.heapGranules (s.intake.tiles.flatMap fun t => t.gran) s.heapGranules (Config.freeNat k) n, s)

/-- The spool address of a granule of the heap. -/
def State.granuleAt (s : State) (g : Nat) : Nat := 2 ^ 20 * s.rd .int INT.HEAP_BASE + 4096 * g

/-- The bytes the spool holds of a landed tile. -/
def State.tileBytes (s : State) (t : Tile) : List Nat :=
  ((t.gran.flatMap fun g => Memory.readAll s.ddr.mem (s.granuleAt g) 4096).take t.stored.len).map fun b => b.toNat

/-- The spool address of byte i of a tile. -/
def State.tileByteAt (s : State) (t : Tile) (i : Nat) : Nat := s.granuleAt (t.gran.getD (i / 4096) 0) + i % 4096

/-- Intake writes the bytes of a tile into its granules, through P0 (R117, R160). -/
def State.tileStore (s : State) : List Nat → List Byte → State
  | [], _ => s
  | g :: gs, l => (s.portWrite 0 (s.granuleAt g) (l.take 4096)).tileStore gs (l.drop 4096)

/-- CREDIT follows the granules, and CREDIT_LOW is raised when it falls below its mark (R111). -/
def State.settleCredit (s : State) : State :=
  let c := s.heapGranules - s.usedGranules none
  let low := decide (c < s.rd .int INT.CREDIT_LOW)
  let s := s.wr .int INT.CREDIT c
  let s := s.when (low && !s.intake.lowSeen) fun t => t.raise .int 10
  { s with intake := { s.intake with lowSeen := low } }

/-! ### DMA reads (R101) -/

/-- The device may issue DMA: the link is up and the device is in D0 (R102, R103). -/
def State.dmaOk (s : State) : Bool := s.devUp && s.on .pci PCI.LINK_UP && !s.intake.d3hot

/-- Bytes of the largest read request: at most 512, and at most Max_Read_Request_Size, 128 to 4,096 as the host set it. -/
def readUnit : Nat := min 512 (128 * 2 ^ (Config.readRequest % 6))

/-- The requests for n bytes at an address, cut where it is a multiple of the largest (log entry 70). -/
def readPieces : Nat → Nat → Nat → List (Nat × Nat)
  | 0, _, _ => []
  | fuel + 1, a, n =>
    if n = 0 then []
    else
      let k := min n (readUnit - a % readUnit)
      (a, k) :: readPieces fuel (a + k) (n - k)

/-- The oldest request still to issue, and the reads with it issued. -/
def nextPiece : List DmaRead → Option ((Nat × Nat) × List DmaRead)
  | [] => none
  | r :: rs =>
    match r.todo with
    | p :: ps => some (p, { r with todo := ps, flying := r.flying + 1 } :: rs)
    | [] => (nextPiece rs).map fun e => (e.1, r :: e.2)

/-- One read request issues, if `RD_OUT.MAX_READS` leaves room for it. -/
def State.dmaStep (s : State) : State :=
  if s.dmaOk && decide ((s.intake.reads.map fun r => r.flying).sum < s.rd .pci PCI.RD_OUT) then
    match nextPiece s.intake.reads with
    | some (p, rs) => ({ s with intake := { s.intake with reads := rs } } : State).emit (.read p.1 p.2)
    | none => s
  else s

/-- Read requests issue while there is room. -/
def State.dmaIssue (s : State) : State := s.each (List.range (s.rd .pci PCI.RD_OUT)) fun t _ => t.dmaStep

/-- A read of n bytes of host memory starts. -/
def State.dmaStart (s : State) (who : ReadFor) (a n : Nat) : State :=
  let new : DmaRead := { who, todo := readPieces n a n }
  ({ s with intake := { s.intake with reads := s.intake.reads ++ [new] } } : State).dmaIssue

/-- Every request of a read has been issued, so that its data can be complete. -/
def State.dmaSent (s : State) (who : ReadFor) : Bool := s.intake.reads.all fun r => r.who != who || r.todo.isEmpty

/-- A read is over, or no longer wanted. -/
def State.dmaOver (s : State) (f : ReadFor → Bool) : State :=
  { s with intake := { s.intake with reads := s.intake.reads.filter fun (r : DmaRead) => !f r.who } }

/-- The answers to some requests arrive, a free number of each read, and further requests issue. -/
def State.dmaReturn (s : State) : State :=
  if s.intake.reads.isEmpty then s
  else
    let back (e : DmaRead × Nat) : DmaRead :=
      { e.1 with flying := e.1.flying - Config.freeNat (s.free + e.2) % (e.1.flying + 1) }
    let s := s.drawMany s.intake.reads.length
    ({ s with intake := { s.intake with reads := s.intake.reads.zipIdx.map back } } : State).dmaIssue

/-- The data of a tile. -/
def forTile (k : TileKey) (r : ReadFor) : Bool := r == .dma (.tile k)

/-! ### Summaries -/

/-- Open pages and the LST summary (R111, R199). A register that names a page reads 0 while there is none (log entry
14). -/
def State.settlePages (s : State) : State :=
  let s := s.wr .int INT.OPEN s.intake.pages.length
  let (nid, nf) := match s.nextPage with
    | some p => (p.desc.id, p.fsafe / 10)
    | none => (0, 0)
  let (cid, cf) := match s.curPageSt with
    | some p => (p.desc.id, p.fsafe / 10)
    | none => (0, 0)
  let s := ((s.wr .lst LST.NEXT nid).wr .lst LST.FSAFE_NEXT nf).wr .lst LST.CUR cid
  let s := s.wr .lst LST.FSAFE_CUR cf
  s.setPage .lst (if s.pageActive then 2 else if s.intake.pages.isEmpty then 0 else 1)

/-- Tags in use (R199). -/
def State.settleTags (s : State) : State :=
  let n := (s.intake.tiles.filter fun (t : Tile) => t.tag.isSome).length
  (s.wr .lst LST.TAGS_USED n).wr .lst LST.TAGS_PEAK (max n (s.rd .lst LST.TAGS_PEAK))

/-- DEC_BUSY, ENC_OWNER and the state of the CDC page (R153). -/
def State.settleCodec (s : State) : State :=
  let dec := s.codec.decoders.toList.foldr (fun d a => d.isSome.toNat + 2 * a) 0
  let code : EncUser → Nat
    | .free => 0
    | .intake _ _ => 1
    | .job k _ => if k < 12 then 2 else 3
  let own := s.codec.encoders.toList.foldr (fun e a => code e + 4 * a) 0
  ((s.wr .cdc CDC.DEC_BUSY dec).wr .cdc CDC.ENC_OWNER own).setPage .cdc (if dec = 0 && own = 0 then 0 else 1)

/-- Every page that meets a condition, changed. -/
def State.modPage (s : State) (ord : Nat) (f : PageSt → PageSt) : State :=
  { s with intake := { s.intake with pages := s.intake.pages.map fun (p : PageSt) => if p.ord = ord then f p else p } }

/-- An open page by its ID. -/
def State.pageById (s : State) (id : Nat) : Option PageSt := s.intake.pages.find? fun p => p.desc.id == id

/-! ### Commits at page gap -/

/-- Whether no page is active on the block of a page (R41). -/
def State.inGap (s : State) (p : Page) : Bool :=
  match p.lane with
  | some l => s.lanes[l].page.isNone || !s.lanes[l].st.runs
  | none =>
    match p.cluster with
    | some c => (Clu.lanes c).all fun l => !s.lanes[l].st.runs
    | none => !s.pageActive

/-- The commits whose page gap has begun take effect (R41). -/
def State.gapCommits (s : State) : State := s.commitsAt 4 s.inGap

/-! ### Lanes and the end of a page -/

/-- A lane of a page has passed its last line, or the page ended before any line of it (R264): ARMED for the page that
follows where that page names it and it is ARMABLE, otherwise IDLE; a held lane follows R263. -/
def State.laneLeaves (s : State) (l : Lane) (id : Nat) : State :=
  if s.lanes[l].page == some id then
    let next := s.intake.pages.find? fun p => p.phase == .active && p.desc.id != id && p.lanes.contains l.val && !p.done.contains l.val
    match next with
    | some p =>
      let join (s : State) : State :=
        let s := s.modLane l fun h => { h with page := some p.desc.id, outCause := none }
        if s.armable l then s.laneRuns l .armed else s.setLane l .idle
      match s.lanes[l].st with
      | .idle => join s
      | .armed => join s
      | .firing => join s
      | _ => s.modLane l fun h => { h with page := some p.desc.id }
    | none =>
      let arm := match s.nextPage with
        | some p => !p.cancel && (s.pageLanes p.desc.planes).contains l && s.armable l
        | none => false
      let s := s.modLane l fun h => { h with page := none, outCause := none, takeover := false }
      if s.lanes[l].st == .armed || s.lanes[l].st == .firing then
        if arm then
          (s.modLane l fun h => { h with page := (s.nextPage.map fun p => p.desc.id) }).laneRuns l .armed
        else s.setLane l .idle
      else s.autoResume l
  else s

/-- An encoder or a decoder lets go of the tiles of a page. -/
def State.codecDrop (s : State) (id : Nat) : State :=
  let s := { s with codec := { s.codec with
    decoders := s.codec.decoders.map fun (d : Option DecJob) => match d with
      | some j => if j.key.page = id then none else some j
      | none => none
    encoders := s.codec.encoders.map fun (e : EncUser) => match e with
      | .intake k _ => if k.page = id then .free else e
      | _ => e } }
  s.settleCodec

/-- The head entry of a ring has been dealt with: HEAD and COUNT advance (R107). -/
def State.ringAdvance (s : State) (r : Nat) : State :=
  let n := 2 ^ s.rd .int INT.RING_SIZE r
  let s := s.wr .int INT.RING_HEAD ((s.rd .int INT.RING_HEAD r + 1) % n) r
  let s := s.bump .int INT.RING_COUNT 1 r
  { s with intake := { s.intake with
      rings := s.intake.rings.setIfInBounds r { (s.intake.rings.toList.getD r {}) with entry := none, checked := false, waited := false } } }

/-- A page closes: its queued and in-flight tiles complete with PAGE_CLOSED, its granules return, its ID joins the last
64 pages closed (R113, R116). -/
def State.closePage (s : State) (p : PageSt) : State :=
  let id := p.desc.id
  let s := s.each (s.intake.tiles.filter fun (t : Tile) => t.key.page == id && t.phase != .landed) fun t u =>
    t.tileFail u.key u.desc.cookie 0x2D
  let s := s.each (List.range 8) fun t r =>
    let q := t.intake.rings.toList.getD r {}
    match q.entry with
    | some e =>
      if q.checked && entryField e 4 4 == id then
        (t.tileFail (readKey r e) (readTile e).cookie 0x2D).ringAdvance r
      else t
    | none => t
  let s := { s with intake := { s.intake with
      tiles := s.intake.tiles.filter fun (t : Tile) => t.key.page != id
      bandBuf := s.intake.bandBuf.filter fun (b : BandTile) => b.key.page != id
      pages := s.intake.pages.filter fun (q : PageSt) => q.ord != p.ord
      closed := (id :: s.intake.closed).take 64
      planes := s.intake.planes.map fun (q : PlaneSt) => match q.cur with
        | some c => if c.ord = p.ord then { q with busy := false, frozen := [], late := [] } else q
        | none => q } }
  let s := s.dmaOver fun r => match r with
    | .dma (.tile k) => k.page == id
    | _ => false
  let s := ((s.codecDrop id).settleTags).settleCredit
  (s.settlePages).settlePerm

/-- After a page has gone: the lanes of the page that is now next are armed, the device state follows, and the gaps
that began serve their commits. -/
def State.afterPage (s : State) : State := s.armNext.settlePrint.gapCommits

/-- A page ends with PAGE_DONE (R188, R189). -/
def State.pageDone (s : State) (p : PageSt) (nn wl copy : Nat) : State :=
  let s := s.when (nn != 0) fun t => t.errOpen .lst nn
  let s := (s.pageCqe p.desc.id 7 (if nn = 0 then 0 else 0x2000 + nn) (pageLoc wl copy)).raise .lst 11
  (s.closePage p).afterPage

/-- A page is rejected at its start tick, or as its PAGE_OPEN executes (R185, R187). -/
def State.pageReject (s : State) (p : PageSt) (nn : Nat) : State :=
  let s := ((s.errOpen .lst nn).pageCqe p.desc.id 8 (0x2000 + nn) 0).raise .lst 9
  let s := s.closePage p
  (s.each allLanes fun t l => t.laneLeaves l p.desc.id).afterPage

/-- PAGE_DONE once every line has been dealt and has passed on every lane (R188). -/
def State.checkDone (s : State) (id : Nat) : State :=
  match s.pageById id with
  | some p =>
    if p.phase == .active && p.ending && p.lanes.all fun l => p.done.contains l then
      s.pageDone p 0 (p.wl0 + p.desc.span - 1) (p.desc.copies - 1)
    else s
  | none => s

/-- A lane's last line of a page has passed. -/
def State.lanePassed (s : State) (l : Lane) (id : Nat) : State :=
  let s := { s with intake := { s.intake with pages := s.intake.pages.map fun (p : PageSt) =>
    if p.desc.id = id && p.phase == PagePhase.active then { p with done := l.val :: p.done } else p } }
  ((s.laneLeaves l id).checkDone id).gapCommits

/-- The last waiting line of a page on a lane becomes the lane's last. -/
def markLast (id : Nat) (l : List Due) : List Due :=
  let rec go : List Due → List Due
    | [] => []
    | d :: ds => if d.tag.page = id then { d with tag := { d.tag with last := true } } :: ds else d :: go ds
  (go l.reverse).reverse

/-- The page that started last ended early, at a web line: a next page of mode 0 that waits follows it there (R186). -/
def State.prevEnds (s : State) (e : Nat) : State :=
  let s := { s with intake := { s.intake with prevEnd := e } }
  match s.nextPage with
  | some q =>
    if q.desc.mode = 0 ∧ q.startAt.isSome then s.modPage q.ord fun x => { x with startAt := some (e + q.desc.gap) } else s
  | none => s

/-- A page is cancelled, or ends as the device enters FAULT (R189): lines already dealt complete, and its last web line
is the last one dealt. -/
def State.pageCut (s : State) (p : PageSt) (nn : Nat) : State :=
  match p.phase with
  | .waiting =>
    let s := s.pageDone p nn 0 0
    (s.each allLanes fun t l => t.laneLeaves l p.desc.id).afterPage
  | .active =>
    let (wl, copy) := p.lastDealt.getD (0, 0)
    let newest := match s.curPageSt with
      | some q => q.ord == p.ord
      | none => false
    let s := s.when newest fun t => t.prevEnds (match p.lastDealt with
      | some e => e.1 + 1
      | none => p.wl0)
    let s := s.pageDone p nn wl copy
    let s := s.each allLanes fun t l =>
      if t.lanes[l].due.any fun d => d.tag.page == p.desc.id then
        t.modLane l fun h => { h with due := markLast p.desc.id h.due }
      else t.laneLeaves l p.desc.id
    s.afterPage

end Sys2Proof.Machine
end

