-- ==== Sys2Proof/Machine/Bands.lean ====
section
/-! DEFINITION. The order of a plane's bands over copies and pages (R190), and what the Last needs to know of a tile in
it: the copy it is wanted for, its place in deadline order, whether its deadline has passed (R191, R193). -/

namespace Sys2Proof.Machine

open Reg

/-- A band a plane deals, with its page. -/
structure BandRef where
  page : PageSt
  id : BandId
  deriving DecidableEq, Repr

/-- The first band of the first page after page number `ord` that prints the plane. -/
def State.firstBandAfter (s : State) (p : Nat) (ord : Option Nat) : Option BandRef :=
  let later (q : PageSt) : Bool := match ord with
    | some o => decide (o < q.ord)
    | none => true
  (s.intake.pages.find? fun q => later q && q.desc.planes.testBit p && !q.cancel).map fun q =>
    { page := q, id := ⟨q.ord, 0, 0⟩ }

/-- The band that follows a band of a plane (R190). -/
def State.bandAfter (s : State) (p : Nat) (b : Option BandId) : Option BandRef :=
  match b with
  | none => s.firstBandAfter p none
  | some b =>
    match s.intake.pages.find? fun q => q.ord == b.ord && !q.cancel with
    | some q =>
      if b.band + 1 < q.desc.bands p then some { page := q, id := { b with band := b.band + 1 } }
      else if b.copy + 1 < q.desc.copies then some { page := q, id := { b with copy := b.copy + 1, band := 0 } }
      else s.firstBandAfter p (some b.ord)
    | none => s.firstBandAfter p (some b.ord)

/-- What a plane of the Last holds. -/
def State.planeSt (s : State) (p : Nat) : PlaneSt := s.intake.planes.toList.getD p {}

/-- The band whose window is open, and the one whose window opens next (R190). -/
def State.openBands (s : State) (p : Nat) : List BandRef :=
  match s.bandAfter p (s.planeSt p).cur with
  | none => []
  | some a => a :: (s.bandAfter p (some a.id)).toList

/-- Whether a band's region has been freed (R190, R191): the band whose window is open may be written, and the one after
it only while no band of the plane is being dealt. -/
def State.regionFree (s : State) (p : Nat) (b : BandId) : Bool :=
  match s.openBands p with
  | [] => false
  | a :: r => a.id == b || (!(s.planeSt p).busy && r.any fun x => x.id == b)

/-- Order of bands in a plane. -/
def BandId.le (a b : BandId) : Bool :=
  decide (a.ord < b.ord ∨ (a.ord = b.ord ∧ (a.copy < b.copy ∨ (a.copy = b.copy ∧ a.band ≤ b.band))))

/-- Whether a band's deadline has passed (R190). -/
def State.deadlinePast (s : State) (p : Nat) (b : BandId) : Bool :=
  match (s.planeSt p).cur with
  | some c => b.le c
  | none => false

/-- The copy for which a tile may take a tag: its band's window is open or opens next, and it has not been decoded and
has not failed for that copy (R191). -/
def State.wantedFor (s : State) (t : Tile) : Option Nat :=
  let fits (b : BandRef) : Bool :=
    b.page.desc.id == t.key.page && b.id.band == t.key.band && !t.failed.contains b.id.copy &&
      (match t.decoded with
        | some c => decide (c < b.id.copy)
        | none => true)
  ((s.openBands t.key.plane).find? fits).map fun b => b.id.copy

/-- A tile's place in order of deadline, then plane, then column (R191). The deadline of a page whose first web line is not
known yet comes after every known one. -/
def State.tileOrder (s : State) (k : TileKey) (copy : Nat) : List Nat :=
  match s.pageById k.page with
  | some q =>
    let rel := q.desc.copyWl copy + q.desc.webLines k.plane (32 * k.band) + s.rd .pln PLN.PLANE_YOFF k.plane
    let due : List Nat :=
      if q.phase = .active then [0, q.wl0 + rel]
      else match q.startAt with
        | some x => [0, x + rel]
        | none => [q.ord + 1, rel]
    due ++ [k.plane, k.col]
  | none => []

/-- The least of a list under an order on keys. -/
def leastBy {α : Type} (key : α → List Nat) : List α → Option α
  | [] => none
  | a :: l =>
    match leastBy key l with
    | none => some a
    | some b => if key b < key a then some b else some a

/-- The landed tile of a key. -/
def State.tileAt (s : State) (k : TileKey) : Option Tile :=
  s.intake.tiles.find? fun t => t.key == k && t.phase == .landed

/-- The tile of a key whose data is being read. -/
def State.tileInFlight (s : State) (k : TileKey) : Option Tile :=
  s.intake.tiles.find? fun t => t.key == k && t.phase != .landed

/-- The landed tile of a key, changed. -/
def State.modTile (s : State) (k : TileKey) (f : Tile → Tile) : State :=
  { s with intake := { s.intake with tiles := s.intake.tiles.map fun (t : Tile) =>
    if t.key = k && t.phase == TilePhase.landed then f t else t } }

/-- The tile of a key in flight, changed. -/
def State.modInFlight (s : State) (k : TileKey) (f : Tile → Tile) : State :=
  { s with intake := { s.intake with tiles := s.intake.tiles.map fun (t : Tile) =>
    if t.key = k && t.phase != TilePhase.landed then f t else t } }

/-- A decoder changed. -/
def State.setDecoder (s : State) (d : Fin 16) (j : Option DecJob) : State :=
  ({ s with codec := { s.codec with decoders := s.codec.decoders.set d j } }).settleCodec

/-- An encoder changed. -/
def State.setEncoder (s : State) (e : Fin 12) (u : EncUser) : State :=
  ({ s with codec := { s.codec with encoders := s.codec.encoders.set e u } }).settleCodec

/-- A tile that failed at intake is gone, the copy it was to replace with it, and its granules return (R127, log entry
15). -/
def State.tileLost (s : State) (k : TileKey) (cqe : Cqe) : State :=
  let s := { s with intake := { s.intake with tiles := s.intake.tiles.filter fun (t : Tile) => t.key != k } }
  let s := { s with codec := { s.codec with encoders := s.codec.encoders.map fun (e : EncUser) => match e with
    | .intake j _ => if j = k then EncUser.free else e
    | _ => e } }
  (((s.dmaOver (forTile k)).settleCodec.settleTags).settleCredit).pushCqe cqe

/-- A tile in flight fails with an INT code. -/
def State.flightFail (s : State) (t : Tile) (nn : Nat) : State :=
  (s.errOpen .int nn).tileLost t.key (tileCqe t.key t.desc.cookie 2 (0x1100 + nn) 0 0)

end Sys2Proof.Machine
end

