-- ==== Sys2Proof/Machine/Intake.lean ====
section
/-! DEFINITION. Host intake (R101 to R128): the link, the spool window, the rings, page and tile descriptors, landing, and
completions. Presets and jobs stand in Codec. -/

namespace Sys2Proof.Machine

open Reg

/-- LOG2 of a ring's entries (R107). -/
def State.ringSize (s : State) (r : Nat) : Nat :=
  if r = 9 then s.rd .int INT.RING9_SIZE else s.rd .int INT.RING_SIZE r

/-! ### Ring 9 -/

/-- Free entries of ring 9 (R122): none while its EN is 0. One entry always stays empty, as on the other rings (R109, log
entry 16). -/
def State.cqFree (s : State) : Nat :=
  if s.on .int INT.RING_CTRL_EN 9 then
    let n := 2 ^ s.rd .int INT.RING9_SIZE
    (s.rd .int INT.RING_DB 9 + n - 1 - s.rd .int INT.RING_HEAD 9) % n
  else 0

/-- CQ_RESERVE is raised when only the reserved entries come to remain free (R111, R122). -/
def State.settleReserve (s : State) : State :=
  let low := s.on .int INT.RING_CTRL_EN 9 && decide (s.cqFree ≤ 64)
  let s := s.when (low && !s.intake.reserveSeen) fun t => t.raise .int 11
  { s with intake := { s.intake with reserveSeen := low } }

/-- Whether a waiting completion may be written now (R122). -/
def State.cqeFits (s : State) (c : Cqe) : Bool := decide ((if c.type = 1 then 64 else 0) < s.cqFree)

/-- A ring has a completion that no free entry permits (R122). -/
def State.cqBlocked (s : State) (r : Nat) : Bool := s.intake.cq.any fun c => c.src == r && !s.cqeFits c

/-- Take the first member of a list that meets a condition. -/
def takeFirst {α : Type} (f : α → Bool) : List α → Option (α × List α)
  | [] => none
  | a :: l => if f a then some (a, l) else (takeFirst f l).map fun e => (e.1, a :: e.2)

/-- The bytes of a completion entry (R120, R121). -/
def State.cqeBytes (s : State) (c : Cqe) : List Nat :=
  [c.type, c.src] ++ bytesOf 2 c.status ++ bytesOf 4 c.page ++ bytesOf 8 c.loc ++ bytesOf 4 c.stored ++
    bytesOf 2 (if c.src ≤ 8 then s.rd .int INT.RING_HEAD c.src else 0) ++ [c.info, s.intake.phase9.toNat] ++ bytesOf 8 s.time

/-- Types that raise CQ at once: TILE_FAIL, TILE_REREQ and every page entry (R123). -/
def cqUrgent (type : Nat) : Bool := type == 2 || type == 3 || (decide (5 ≤ type) && decide (type ≤ 8))

/-- R120 to R123. The first waiting completion that a free entry permits is written to ring 9. -/
def execCompletionWrite (s : State) : Host.Outcome State Fault Refusal :=
  if s.dmaOk then
    match takeFirst s.cqeFits s.intake.cq with
    | none => .next s
    | some (c, rest) =>
      let n := 2 ^ s.rd .int INT.RING9_SIZE
      let h := s.rd .int INT.RING_HEAD 9
      let s := s.emit (.completion (s.rd .int INT.RING_BASE 9 + 32 * h) (s.cqeBytes c))
      let s := (s.wr .int INT.RING_HEAD ((h + 1) % n) 9).bump .int INT.RING_COUNT 1 9
      let s := { s with intake := { s.intake with
        cq := rest, phase9 := if h + 1 = n then !s.intake.phase9 else s.intake.phase9
        unsignalled := s.intake.unsignalled + 1
        unsigAt := if s.intake.unsignalled = 0 then s.dclk else s.intake.unsigAt } }
      let s := match c.tile with
        | some k => s.modTile k fun t => { t with accepted := true }
        | none => s
      let s := if cqUrgent c.type || decide (s.rd .int INT.CQ_COAL_COUNT ≤ s.intake.unsignalled) then
          { s with intake := { s.intake with unsignalled := 0 } }.raise .int 8
        else s
      .next s.settleReserve
  else .next s

/-- R123. TIME_US after the first unsignalled completion, CQ is raised. -/
def execCqTimerExpiry (s : State) : Host.Outcome State Fault Refusal :=
  if s.devUp && s.intake.unsignalled != 0 && s.rd .int INT.CQ_COAL_TIME_US != 0 &&
      decide (s.intake.unsigAt + 500 * s.rd .int INT.CQ_COAL_TIME_US ≤ s.dclk) then
    .next ({ s with intake := { s.intake with unsignalled := 0 } }.raise .int 8)
  else .next s

/-! ### The link -/

/-- R103, R69. The link reaches DL_Active: `PCI.LINK` reports it, and WAKE_N is released. -/
def execPcieLinkUp (speed : BitVec 4) (width : BitVec 6) (rev : Bool) (s : State) : Host.Outcome State Fault Refusal :=
  if s.devUp && !s.on .pci PCI.LINK_UP then
    let s := (s.wr .pci PCI.LINK_SPEED (min speed.toNat (s.rd .pci PCI.LINK_CTRL))).wr .pci PCI.LINK_WIDTH width.toNat
    let s := (s.flag .pci PCI.LINK_REVERSED rev).wr .pci PCI.LINK_UP 1
    .next ({ s with power := { s.power with wakeN := false } }.raise .pci 8)
  else .next s

/-- The rings stop, tile reads in flight fail, and completions not yet written are lost (R103). -/
def State.linkGone (s : State) : State :=
  let flying := s.intake.tiles.filter fun t => t.phase == .reading
  let s := s.each flying fun t u => t.flightFail u 0x26
  let s := s.each (List.range 10) fun t r => (t.wr .int INT.RING_CTRL_EN 0 r).wr .int INT.RING_STAT 0 r
  { s with
    intake := { s.intake with cq := [], rings := Vector.replicate 9 {}, reads := [] }
    codec := { s.codec with loads := [] } }

/-- R103. The link leaves DL_Active. -/
def execPcieLinkDown (s : State) : Host.Outcome State Fault Refusal :=
  if s.devUp && s.on .pci PCI.LINK_UP then
    let s := s.linkGone
    let s := ((s.wr .pci PCI.LINK_UP 0).wr .pci PCI.LINK_SPEED 0).raise .pci 9
    .next { s with intake := { s.intake with d3hot := false } }
  else .next s

/-- R102. In D3hot the device issues no DMA and no MSI-X messages. -/
def execD3hotEntry (s : State) : Host.Outcome State Fault Refusal :=
  .next (if s.devUp && s.on .pci PCI.LINK_UP then { s with intake := { s.intake with d3hot := true } } else s)

/-- R102. On return to D0 the rings resume from their positions. -/
def execD0Return (s : State) : Host.Outcome State Fault Refusal :=
  .next { s with intake := { s.intake with d3hot := false } }

/-- What the configuration space shows of the device: Device ID, Revision ID and Class Code (R101). -/
def State.configId (s : State) : Nat × Nat × Nat := (s.rd .sys SYS.DEV_ID_PART, s.rd .sys SYS.DEV_ID_STEP, 0x118000)

/-! ### The spool window (R104) -/

/-- Bytes of installed spool that BAR2 reaches: none before training has passed (log entry 17). -/
def State.windowSize (s : State) : Nat :=
  if s.ddrState = ddrUntrained ∨ s.ddrState = ddrTraining ∨ s.ddrState = ddrFailed then 0 else s.spoolSize

/-- A spool address lies in the tile heap. -/
def State.inHeap (s : State) (a : Nat) : Bool :=
  let lo := 2 ^ 20 * s.rd .int INT.HEAP_BASE
  decide (lo ≤ a ∧ a < lo + 2 ^ 20 * s.rd .int INT.HEAP_SIZE)

/-- Whether BAR2 serves a byte (R104). -/
def State.windowServes (s : State) (wr : Bool) (a : Nat) : Bool :=
  decide (carveEnd ≤ a) && decide (a < s.windowSize) && !(wr && s.inHeap a)

/-- The bytes an access of len bytes reaches. -/
def spanOf (a len : Nat) : List Nat := (List.range len).map fun i => a + i

/-- A read completes with Unsupported Request status, which the AER capability logs (R106, log entry 71). -/
def State.hostUr (s : State) : State := { s with reply := .unsupported 0 }.raise .pci 10

/-- How a refused read completes (R104, R167). -/
def State.windowRefuse (s : State) (len : Nat) : State :=
  if s.on .fab FAB.CTRL_HOST_UR then s.hostUr else { s with reply := .window (List.replicate len 0) }

/-- An access of the window waits (R160, R161, R167): self-refresh is under way, panic holds P3, or requests of P3 are before
it. -/
def State.windowWaits (s : State) : Bool :=
  s.portsHold || s.on .ddr DDR.STAT_PANIC || !s.ddr.window.isEmpty ||
    (List.finRange 4).any fun k => !(s.waiting k 3).isEmpty

/-- A read of the window is served: its bytes, those of refused classes as 0; or poisoned data where a burst has an
uncorrectable error (R104, R171). -/
def State.windowRead (s : State) (w : WindowReq) : State :=
  let served := (burstsOf w.addr w.len).filter fun b => s.windowServes false b
  let hit (b : Nat) : Option (BitVec 5) := match w.ue with
    | some (u, d) => if u / 64 = b / 64 then some d else none
    | none => none
  let bad := served.filter fun b => s.ddr.poison.contains (b / 64) || (hit b).isSome
  let s := s.each bad fun t b => t.ddrUe b 3 ((hit b).getD 0) false
  if bad.isEmpty then
    { s with reply := .window ((spanOf w.addr w.len).map fun x =>
      if s.windowServes false x then (Memory.read s.ddr.mem x).toNat else 0) }
  else { s with reply := .poisoned }

/-- A write of the window takes effect: the bytes in served classes are stored (R104). -/
def State.windowStore (s : State) (w : WindowReq) (l : List Byte) : State :=
  s.each ((burstsOf w.addr w.len).filter fun b => s.windowServes true b) fun t b =>
    let (d, m) := burstPart w.addr b l (t.windowServes true)
    t.burstWrite 3 b d m w.poisoned false

/-- An access of the window is served. -/
def State.windowServe (s : State) (w : WindowReq) : State :=
  match w.data with
  | none => s.windowRead w
  | some l => s.windowStore w l

/-- The accesses that were held are served, in order, once nothing holds them (R167). -/
def State.windowDrain (s : State) : State :=
  let held := s.ddr.window
  let t := { s with ddr := { s.ddr with window := [] } }
  if held.isEmpty || t.windowWaits || !s.portsRun then s else t.each held State.windowServe

/-- An access of the window arrives (R104, R167): on the way to SETT it is refused with PORT_GATED; the first byte it may not
reach is recorded; then it is served, or held. -/
def State.windowAccess (s : State) (w : WindowReq) : State :=
  if s.ddr.forSett && s.ddrState != ddrActive then
    (s.errOpen .ddr 0x24).when w.data.isNone fun t => t.windowRefuse w.len
  else
    let refused := (spanOf w.addr w.len).find? fun x => !s.windowServes w.data.isSome x
    let s := match refused with
      | some x => s.err .int 0x2E (x % 2 ^ 32)
      | none => s
    if refused.isSome && w.data.isNone && s.on .fab FAB.CTRL_HOST_UR then s.hostUr
    else if (spanOf w.addr w.len).all fun x => !s.windowServes w.data.isSome x then
      s.when w.data.isNone fun t => t.windowRefuse w.len
    else
      let s := s.portWake
      if s.windowWaits then { s with ddr := { s.ddr with window := s.ddr.window ++ [w] } } else s.windowServe w

/-- R104. A host read of len bytes of the spool window. `ue` is a burst in which the read finds an uncorrectable error, with the
devices in error. A function in D3hot answers Unsupported Request (R102). -/
def execBar2Read (addr : BitVec 36) (len : BitVec 13) (ue : Option (BitVec 36 × BitVec 5)) (s : State) :
    Host.Outcome State Fault Refusal :=
  if !s.devUp || len.toNat = 0 then .next s
  else if s.intake.d3hot then .next s.hostUr
  else
    .next (s.windowAccess { addr := addr.toNat, len := len.toNat, data := none, poisoned := false,
                            ue := ue.map fun e => (e.1.toNat, e.2) })

/-- R104. A host write to the spool window: bytes in served classes are stored, the rest dropped. In D3hot it is dropped
(R102). A poisoned write is an error of the AER capability (R106, log entry 71). -/
def execBar2Write (addr : BitVec 36) (data : List Byte) (poisoned : Bool) (s : State) : Host.Outcome State Fault Refusal :=
  if !s.devUp || data.isEmpty || s.intake.d3hot then .next s
  else
    .next ((s.when poisoned fun t => t.raise .pci 10).windowAccess
      { addr := addr.toNat, len := data.length, data := some data, poisoned, ue := none })

/-! ### Ring registers (R107, R108) -/

/-- The stored code of `RING_STAT`: 0 DISABLED, 6 STOPPING, else enabled. -/
def State.ringState (s : State) (r : Nat) : Nat := s.rd .int INT.RING_STAT r

/-- What a doorbell write does (R108). -/
def State.ringDb (s : State) (r : Fin 10) (v : BitVec 16) : State :=
  if 2 ^ s.ringSize r.val ≤ v.toNat then s.errOpen .int 0x2B
  else
    let s := s.wr .int INT.RING_DB v.toNat r.val
    if r = 9 then s.settleReserve else s

/-- R108. A DB write: stored, or rejected with TAIL_BAD. -/
def execRingDoorbell (req : Req) (r : Fin 10) (v : BitVec 16) (s : State) : Host.Outcome State Fault Refusal :=
  .next <| s.gate req .int (0x110 + 32 * r.val) fun s => s.ringDb r v

/-- What EN written 1 does to a ring (R107). -/
def State.ringOn (s : State) (r : Fin 10) : State :=
  let s := (s.wr .int INT.RING_CTRL_EN 1 r.val).wr .int INT.RING_STAT 1 r.val
  if r = 9 then s.settleReserve else s

/-- R108. EN is written to 1. -/
def execRingEnable (req : Req) (r : Fin 10) (s : State) : Host.Outcome State Fault Refusal :=
  .next <| s.gate req .int (0x10C + 32 * r.val) fun s => s.ringOn r

/-- What EN written 0 does to a ring (R108). -/
def State.ringOff (s : State) (r : Fin 10) : State :=
  if s.on .int INT.RING_CTRL_EN r.val then
    (s.wr .int INT.RING_CTRL_EN 0 r.val).wr .int INT.RING_STAT 6 r.val
  else s

/-- R108. EN is written to 0: fetching stops at once. -/
def execRingDisable (req : Req) (r : Fin 10) (s : State) : Host.Outcome State Fault Refusal :=
  .next <| s.gate req .int (0x10C + 32 * r.val) fun s => s.ringOff r

/-- Work of a ring that was fetched and is not completed. -/
def State.ringBusy (s : State) (r : Nat) : Bool :=
  let q := s.intake.rings.toList.getD r {}
  q.fetching || q.entry.isSome || (s.intake.cq.any fun c => c.src == r) ||
    (s.intake.tiles.any fun t => t.key.plane == r && t.phase == .reading) ||
    (r == 8 && (!s.codec.loads.isEmpty || !s.codec.drops.isEmpty || (s.codec.jobs.toList.take 12).any fun j => j.isSome))

/-- R108. A stopping ring whose fetched work has completed is DISABLED. -/
def execRingStopped (r : Fin 10) (s : State) : Host.Outcome State Fault Refusal :=
  if s.devUp && s.ringState r.val == 6 && !s.ringBusy r.val then .next (s.wr .int INT.RING_STAT 0 r.val) else .next s

/-- What RESET does to a ring (R107). -/
def State.ringReset (s : State) (r : Fin 10) : State :=
  if s.ringState r.val ≠ 0 then s.errOpen .int 0x2C
  else
    let s := (s.wr .int INT.RING_HEAD 0 r.val).wr .int INT.RING_DB 0 r.val
    let s := { s with intake := { s.intake with rings := s.intake.rings.setIfInBounds r.val {} } }
    if r = 9 then { s with intake := { s.intake with phase9 := true } }.settleReserve else s

/-- R107. RESET: HEAD, DB and the phase return to 0, in state DISABLED only. -/
def execRingReset (req : Req) (r : Fin 10) (s : State) : Host.Outcome State Fault Refusal :=
  .next <| s.gate req .int (0x10C + 32 * r.val) fun s => s.ringReset r

/-- What a write of HEAP_BASE or HEAP_SIZE does (R111). -/
def State.heapWrite (s : State) (req : Req) (isSize : Bool) (mib : BitVec 16) : State :=
  let off := if isSize then 0x48 else 0x44
  if !s.intake.pages.isEmpty then s.errOpen .int 0x30
  else
    let base := if isSize then s.rd .int INT.HEAP_BASE else mib.toNat
    let size := if isSize then mib.toNat else s.rd .int INT.HEAP_SIZE
    if decide (base < 64) || (size != 0 && decide (1024 * s.rd .ddr DDR.CFG_SIZE_GIB < base + size)) then
      s.errAt .int Err.badValue off req.code
    else (if isSize then s.wr .int INT.HEAP_SIZE mib.toNat else s.wr .int INT.HEAP_BASE mib.toNat).settleCredit

/-- R111. A write of HEAP_BASE or HEAP_SIZE. -/
def execHeapConfigWrite (req : Req) (isSize : Bool) (mib : BitVec 16) (s : State) : Host.Outcome State Fault Refusal :=
  let off := if isSize then 0x48 else 0x44
  .next <| s.gate req .int off fun s => s.heapWrite req isSize mib

/-! ### Fetching and checking entries (R110, R116) -/

/-- A submission or admin ring. -/
def State.ring (s : State) (r : Nat) : RingSt := s.intake.rings.toList.getD r {}

/-- Change what a ring holds. -/
def State.modRing (s : State) (r : Nat) (f : RingSt → RingSt) : State :=
  { s with intake := { s.intake with rings := s.intake.rings.setIfInBounds r (f (s.ring r)) } }

/-- A ring may make a fetch decision: it is enabled, holds a further valid entry, holds none that it has fetched, and does not
wait for ring 9 (R122). -/
def State.canFetch (s : State) (r : Nat) : Bool :=
  s.on .int INT.RING_CTRL_EN r && s.rd .int INT.RING_HEAD r != s.rd .int INT.RING_DB r && !(s.ring r).fetching &&
    (s.ring r).entry.isNone && !s.cqBlocked r

/-- The ring that fetches next (R110): the admin ring, then the plane rings in turn. -/
def State.fetchTurn (s : State) : Option Nat :=
  if s.canFetch 8 then some 8
  else ((List.range 8).map fun i => (s.intake.turn + i) % 8).find? fun r => s.canFetch r

/-- R110, R128. A ring's fetch decision: the read request of its next entry. -/
def execDescriptorFetch (r : Fin 9) (s : State) : Host.Outcome State Fault Refusal :=
  if s.dmaOk && s.fetchTurn == some r.val then
    let s := s.modRing r.val fun q => { q with fetching := true }
    let s := s.dmaStart (.dma (.ring ⟨r.val, by omega⟩)) (s.rd .int INT.RING_BASE r.val + 64 * s.rd .int INT.RING_HEAD r.val) 64
    .next (if r.val < 8 then { s with intake := { s.intake with turn := (r.val + 1) % 8 } } else s)
  else .next s

/-- Granules a tile needs (R117). -/
def tileGranules (t : TileDesc) : Nat := granulesOf (if t.compress then t.rawLen else t.srcLen)

/-- The entry of a plane ring fails: TILE_FAIL, and the ring goes on. -/
def State.entryFail (s : State) (r : Nat) (e : BitVec 512) (nn : Nat) : State :=
  (s.tileFail (readKey r e) (readTile e).cookie nn).ringAdvance r

/-- The checks of R116 from step 3 on, and those of R117 that no wait can mend. -/
def State.tileChecks (s : State) (r : Nat) (e : BitVec 512) (p : PageSt) : State :=
  let k := readKey r e
  let t := readTile e
  let held := s.intake.tiles.find? fun (u : Tile) => u.key == k
  let late := match s.intake.order.toList.getD r none with
    | some (o, b) => decide (p.ord < o) || (p.ord == o && decide (k.band < b))
    | none => false
  if !t.resubmit && late then s.entryFail r e 0x22
  else
    let s := if t.resubmit then s
      else { s with intake := { s.intake with order := s.intake.order.setIfInBounds r (some (p.ord, k.band)) } }
    if !t.resubmit && held.isSome then s.entryFail r e 0x23
    else if t.resubmit && !(s.intake.tiles.any fun u => u.key == k && u.outstanding) then s.entryFail r e 0x29
    else
      let s := s.when t.resubmit fun u => u.modTile k fun v => { v with outstanding := false }
      let g := tileGranules t
      let q := s.rd .int INT.PQUOTA r
      if decide (s.heapGranules < g) || (q != 0 && decide (256 * q < g)) then s.entryFail r e 0x31
      else s.modRing r fun x => { x with checked := true }

/-- R116 for the entry a plane ring holds: it passes, fails, or waits, for its page or for ring 9 (R122). -/
def State.ringCheck (s : State) (r : Nat) : State :=
  match (s.ring r).entry with
  | none => s
  | some e =>
    if (s.ring r).checked || s.cqBlocked r then s
    else
      match tileBreak e with
      | some nn => s.entryFail r e nn
      | none =>
        let k := readKey r e
        match s.pageById k.page with
        | none =>
          if s.intake.closed.contains k.page then s.entryFail r e 0x2D
          else if (s.ring r).waited then s
          else (s.modRing r fun q => { q with waited := true }).raise .int 9
        | some p =>
          if tileFits p.desc (p.width.toList.getD r 0) k (readTile e) then s.tileChecks r e p
          else s.entryFail r e 0x21

/-- Entries that wait are checked again when the open pages or the free entries of ring 9 change. -/
def State.recheck (s : State) : State := s.each (List.range 8) State.ringCheck

/-- R116. The data of a tile entry is complete: it is checked in ring order. -/
def execTileDescriptor (r : Fin 8) (entry : BitVec 512) (s : State) : Host.Outcome State Fault Refusal :=
  let who : ReadFor := .dma (.ring ⟨r.val, by omega⟩)
  if s.dmaOk && (s.ring r.val).fetching && s.dmaSent who then
    .next (((s.dmaOver (· == who)).modRing r.val fun q => { q with fetching := false, entry := some entry }).ringCheck r.val)
  else .next s

/-- What a checked tile of ring r still lacks: credit, or room in its plane's quota (R117). -/
def State.creditLacks (s : State) (r : Nat) (e : BitVec 512) : Bool :=
  let g := tileGranules (readTile e)
  let q := s.rd .int INT.PQUOTA r
  decide (s.rd .int INT.CREDIT < g) || (q != 0 && decide (256 * q < s.usedGranules (some r) + g))

/-- R117. Granules for a checked tile are allocated once credit and quota allow, and its data read starts. -/
def execTileAllocate (r : Fin 8) (s : State) : Host.Outcome State Fault Refusal :=
  match (s.ring r.val).entry with
  | none => .next s
  | some e =>
    let t := readTile e
    let flying := (s.intake.tiles.filter fun u => u.phase == .reading).length
    if s.dmaOk && (s.ring r.val).checked && !s.creditLacks r.val e && decide (flying < 16) && !s.cqBlocked r.val then
      let (gran, s) := s.takeGranules (tileGranules t)
      let new : Tile := { key := readKey r.val e, desc := t, phase := .reading, gran, repl := t.resubmit }
      let s := { s with intake := { s.intake with tiles := s.intake.tiles ++ [new] } }
      .next ((s.settleCredit.ringAdvance r.val).dmaStart (.dma (.tile new.key)) t.srcAddr t.srcLen)
    else .next s

/-! ### Tile data (R115, R117, R121, R125, R131) -/

/-- R131. The 16 header bytes of a stream have arrived. -/
def execScwHeaderCheck (key : TileKey) (hdr : BitVec 128) (s : State) : Host.Outcome State Fault Refusal :=
  match s.tileInFlight key, s.pageById key.page with
  | some t, some p =>
    if s.devUp && t.desc.scw && headerBad hdr t.desc (p.desc.bitsOf key.plane) then .next (s.flightFail t 0x21)
    else .next s
  | _, _ => .next s

/-- The encoder that works on a tile. -/
def State.onEncoder (s : State) (k : TileKey) : Bool :=
  s.codec.encoders.toList.any fun e => match e with
    | .intake j _ => j == k
    | _ => false

/-- What the heap will hold of a tile whose data has arrived: the bytes, whether they are a stream, STATUS, INFO and CRC (R118,
R120, R138, R150); none while its encode is not done, or is one of other data. -/
def State.storedAs (s : State) (t : Tile) (l : List Nat) : Option (List Nat × Bool × Nat × Nat × Nat) :=
  let crc := if t.desc.crcByIntake then crc32c l else t.desc.crc
  let comp := if t.desc.crcByIntake then 4 else 0
  let lvl := 16 * t.desc.level
  if t.desc.scw then some (l, true, 0, 0, 0)
  else if !t.desc.compress then some (l, false, 0, 1 + comp, crc)
  else
    match t.enc with
    | some (.stream input out) => if input = l then some (out, true, 0, comp + lvl, crc) else none
    | some (.noGain input) => if input = l then some (l, false, 0, 3 + comp + lvl, crc) else none
    | some .missing => some (l, false, 0x1220, 1 + comp, crc)
    | none => if s.codecOn || s.onEncoder t.key then none else some (l, false, 0x1207, 1 + comp, crc)

/-- A tile has landed: its bytes are in its granules, and it replaces the copy it was sent for, or is discarded as late (R121,
R124, R125). -/
def State.tileLands (s : State) (t : Tile) (bytes : List Nat) (isStream : Bool) (status info crc : Nat) : State :=
  let st : Stored := if isStream then .stream bytes.length else .raw bytes.length
  let gran := t.gran.take (granulesOf bytes.length)
  let s := s.tileStore gran (bytes.map fun b => BitVec.ofNat 8 b)
  let old := if t.repl then s.tileAt t.key else none
  let ord := match s.pageById t.key.page with
    | some p => p.ord
    | none => 0
  let waits (c : Nat) : Bool := !s.deadlinePast t.key.plane ⟨ord, c, t.key.band⟩
  let late := t.repl && match old with
    | some o => !(o.failed.any waits)
    | none => true
  let drop (s : State) : State :=
    { s with intake := { s.intake with tiles := s.intake.tiles.filter fun (u : Tile) =>
      !(u.key == t.key && u.phase != TilePhase.landed) } }
  if late then
    let c := match old with
      | some o => tileCqe t.key t.desc.cookie 9 0 o.stored.len o.info
      | none => tileCqe t.key t.desc.cookie 9 0 0 0
    ((drop s).settleCredit).pushCqe c
  else
    let new : Tile := { t with
      phase := .landed, gran, stored := st, crc, info, repl := false, enc := none,
      accepted := t.desc.noCpl, rereqs := match old with
        | some o => o.rereqs
        | none => 0
      decoded := match old with
        | some o => o.decoded
        | none => none
      failed := match old with
        | some o => o.failed.filter fun c => !waits c
        | none => [] }
    let s := { s with intake := { s.intake with tiles :=
      (s.intake.tiles.filter fun (u : Tile) => u.key != t.key) ++ [new] } }
    let s := s.settleCredit.when (status != 0) fun u => u.errOpen .cdc (status % 256)
    if t.desc.noCpl then s
    else s.pushCqe { tileCqe t.key t.desc.cookie 1 status st.len info with tile := some t.key }

/-- What R115 and R131 find wrong in the data of a tile: a stream whose header breaks R131, or whose 16 header bytes never
arrive; raw data whose CRC is not the host's. -/
def State.dataBad (s : State) (t : Tile) (l : List Nat) : Option Nat :=
  if t.desc.scw then
    match s.pageById t.key.page with
    | some p =>
      if l.length < 16 ∨ headerBad (BitVec.ofNat 128 (ofBytes (l.take 16))) t.desc (p.desc.bitsOf t.key.plane) then some 0x21
      else none
    | none => none
  else if !t.desc.crcByIntake && crc32c l != t.desc.crc then some 0x28
  else none

/-- R121. The spool has acknowledged the last write of a tile's data. The ports hold the writes in self-refresh (R167). -/
def execTileLanded (key : TileKey) (data : List Byte) (s : State) : Host.Outcome State Fault Refusal :=
  match s.tileInFlight key with
  | none => .next s
  | some t =>
    let l := data.map fun b => b.toNat
    if s.devUp && l.length == t.desc.srcLen && s.dmaSent (.dma (.tile key)) then
      match s.dataBad t l with
      | some nn => .next (s.flightFail t nn)
      | none =>
        if s.portsHold then .next s.portWake
        else
          match s.storedAs t l with
          | none => .next s
          | some (out, isStream, status, info, crc) =>
            .next ((s.dmaOver (forTile key)).tileLands t out isStream status info crc)
    else .next s

/-- A failed DMA read may be an error that the AER capability logs: which are is outside the spec (R106, log entry 71). -/
def State.aerMaybe (s : State) : State :=
  let (n, s) := s.draw
  s.when (Config.freeNat n % 2 == 1) fun t => t.raise .pci 10

/-- R127. A DMA read fails. -/
def execDmaError (target : DmaTarget) (s : State) : Host.Outcome State Fault Refusal :=
  match target with
  | .ring r =>
    if s.devUp && (s.ring r.val).fetching then
      let s := (s.aerMaybe.dmaOver (· == .dma (.ring r))).modRing r.val fun _ => {}
      let s := ((s.wr .int INT.RING_CTRL_EN 0 r.val).wr .int INT.RING_STAT 0 r.val).errOpen .int 0x26
      .next (s.raise .int 12)
    else .next s
  | .tile k =>
    match s.tileInFlight k with
    | some t => .next (if s.devUp then s.aerMaybe.flightFail t 0x26 else s)
    | none => .next s
  | .preset id =>
    if s.devUp && s.codec.loads.any fun e => e.1 == id.toNat then
      let s := s.aerMaybe.dmaOver (· == .dma (.preset id))
      let s := { s with codec := { s.codec with loads := s.codec.loads.filter fun e => e.1 != id.toNat } }
      .next ((s.errOpen .int 0x26).pushCqe { type := 4, src := 8, status := 0x1126, page := 0, loc := 0, stored := 0, info := 0 })
    else .next s

/-! ### Admin entries (R112, R113) -/

/-- An ADMIN_DONE entry; PAGE_ID, and WHERE of an entry that has no place, are 0 (log entry 87). -/
def adminCqe (status loc stored info : Nat) : Cqe := { type := 4, src := 8, status, page := 0, loc, stored, info }

/-- The data of an admin entry is complete: an opcode the ring does not define ends with BAD_OPC, and a command acts on
its own opcode only. The ring waits while a completion of its own finds no free entry (R122). -/
def State.admin (s : State) (op : Nat) (e : BitVec 512) (act : State → State) : State :=
  if s.dmaOk && (s.ring 8).fetching && s.dmaSent (.dma (.ring 8)) && !s.cqBlocked 8 then
    let s := s.dmaOver (· == .dma (.ring 8))
    let o := entryField e 0 1
    if o = op then (act s).ringAdvance 8 |>.modRing 8 fun _ => {}
    else if o < 0x10 ∨ 0x15 < o then
      ((((s.errOpen .int 0x20).pushCqe (adminCqe 0x1120 0 0 0)).ringAdvance 8).modRing 8 fun _ => {})
    else s
  else s

/-- An admin entry fails with an INT code. -/
def State.adminFail (s : State) (nn : Nat) : State := (s.errOpen .int nn).pushCqe (adminCqe (0x1100 + nn) 0 0 0)

/-- The first check of R185 that a page fails with nozzle counts n; before them, NOT_READY while the Last is in TEST
(R360). -/
def State.lastRejects (s : State) (n : Vector Nat 64) (d : PageDesc) : Option Nat :=
  let ps := d.planeList
  let w (p : Nat) : Nat := s.rd .pln PLN.PLANE_WIDTH p
  let kib (p : Nat) : Nat := s.rd .pln PLN.PLANE_MODE_BAND_KIB p
  if s.bist.pages.contains .lst then some 0x26
  else if !s.on .lst HDR.PG_CTRL_EN then some 0x07
  else if ps.any fun p => (s.planeLanes p).isEmpty then some 0x22
  else if ps.any fun p => w p == 0 ||
      decide (s.planeWidthOf n p < s.rd .pln PLN.PLANE_ORIGIN p + w p * d.rep p) then some 0x23
  else if ps.any fun p => decide (1024 * kib p <
      32 * ((List.range (columns (w p))).map fun c => lineBytes (colWidth (w p) c) (d.bitsOf p)).sum) then some 0x25
  else if rateExceeded d (s.planeWidthOf n) then some 0x20
  else none

/-- A running Awl scan of a lane that an opening page names is aborted (R235). -/
def State.awlPageAbort (s : State) (planes : Nat) : State :=
  s.each (s.pageLanes planes) fun t l =>
    if t.rd (.lne l) LNE.AWL_STAT_STATE == 1 && !t.awlFull l then
      let t := t.awlAborted l false
      if t.lanes[l].st == .cal then (t.queueCtrl l 0x41 0).setLane l .idle else t
    else t

/-- A page is accepted (R185): F_SAFE is reported and held. -/
def State.pageAccept (s : State) (d : PageDesc) : State :=
  let width : Vector Nat 8 := Vector.ofFn fun i => s.rd .pln PLN.PLANE_WIDTH i.val
  let f := fSafe d (fun p => width.toList.getD p 0) (s.rd .lst LST.CTRL_REREQ_RES)
  let new : PageSt := { desc := d, ord := s.intake.ordN, width, fsafe := f }
  let s := { s with intake := { s.intake with pages := s.intake.pages ++ [new], ordN := s.intake.ordN + 1 } }
  let s := s.pushCqe { type := 5, src := 8, status := 0, page := d.id, loc := 0, stored := f, info := 0 }
  ((s.raise .lst 8).settlePages).armNext

/-- A PAGE_OPEN ends as PAGE_REJECTED. -/
def State.openReject (s : State) (id status : Nat) : State :=
  s.pushCqe { type := 8, src := 8, status, page := id, loc := 0, stored := 0, info := 0 }

/-- R112. PAGE_OPEN executes: scans on the lanes it names are aborted (R235), and the Last checks the page (R185). -/
def execPageOpen (entry : BitVec 512) (s : State) : Host.Outcome State Fault Refusal :=
  .next <| s.admin 0x10 entry fun s =>
    let d := readPage entry
    match pageBreak entry with
    | some off => (s.err .int 0x21 off).openReject d.id 0x1121
    | none =>
      if (s.pageById d.id).isSome then (s.errOpen .int 0x24).openReject d.id 0x1124
      else if 64 ≤ s.intake.pages.length then (s.errOpen .int 0x25).openReject d.id 0x1125
      else
        let s := s.awlPageAbort d.planes
        match s.lastRejects s.intake.counts d with
        | some nn =>
          let s := ((s.errOpen .lst nn).openReject d.id (0x2000 + nn)).raise .lst 9
          { s with intake := { s.intake with closed := (d.id :: s.intake.closed).take 64 } }.recheck
        | none => (s.pageAccept d).recheck

/-- R113. PAGE_CANCEL: closes the page at the first tick after it (R189). -/
def execPageCancel (entry : BitVec 512) (s : State) : Host.Outcome State Fault Refusal :=
  .next <| s.admin 0x11 entry fun s =>
    if entryField entry 1 3 ≠ 0 ∨ entryField entry 8 56 ≠ 0 then s.adminFail 0x21
    else
      match s.pageById (entryField entry 4 4) with
      | some p => (s.modPage p.ord fun q => { q with cancel := true }).pushCqe (adminCqe 0 0 0 0)
      | none => s.adminFail 0x2D

/-- R113. NOP: completes with status 0. -/
def execNop (entry : BitVec 512) (s : State) : Host.Outcome State Fault Refusal :=
  .next <| s.admin 0x15 entry fun s =>
    if entryField entry 1 63 ≠ 0 then s.adminFail 0x21 else s.pushCqe (adminCqe 0 0 0 0)

end Sys2Proof.Machine
end

