-- ==== Sys2Proof/Machine/Codec.lean ====
section
/-! DEFINITION. The codec beyond the token format: presets (R137, R138), encoders, jobs and output chains (R141 to R150),
the firmware job registers (R153). -/

namespace Sys2Proof.Machine

open Reg

/-! ### Presets -/

/-- Spool address of a preset and of its length in the directory (R137). -/
def State.presetAt (s : State) (id : Nat) : Nat := 2 ^ 20 * s.rd .cdc CDC.PRESET_BASE + 16384 * id
def State.presetLenAt (s : State) (id : Nat) : Nat := 0x400000 + 2 ^ 20 * s.rd .cdc CDC.PRESET_BASE + 4 * id

/-- Whether a preset is loaded (R138). -/
def State.presetValid (s : State) (id : Nat) : Bool := (s.rd .cdc CDC.PRESET_VALID (id / 32)).testBit (id % 32)

/-- A VALID bit changes: the event PRESET (R154); a decoder keeps no preset that is dropped. -/
def State.setPreset (s : State) (id : Nat) (b : Bool) : State :=
  if s.presetValid id = b then s
  else
    let w := s.rd .cdc CDC.PRESET_VALID (id / 32)
    let s := s.when (!b) fun t => { t with codec := { t.codec with
      decPreset := t.codec.decPreset.map fun (l : List Nat) => l.filter fun x => x != id } }
    (s.wr .cdc CDC.PRESET_VALID (if b then w + 2 ^ (id % 32) else w - 2 ^ (id % 32)) (id / 32)).raise .cdc 11

/-- Every VALID bit is cleared (R138: a cold boot, an arrival in IDLE from SETT). -/
def State.clearPresets (s : State) : State := s.each (List.range 256) fun t i => t.setPreset i false

/-- The length of a preset, from the directory. -/
def State.presetLen (s : State) (id : Nat) : Nat := min 16384 (Memory.readNat s.ddr.mem (s.presetLenAt id) 4)

/-- The bytes of a preset. -/
def State.presetBytes (s : State) (id : Nat) : List Nat :=
  (Memory.readAll s.ddr.mem (s.presetAt id) (s.presetLen id)).map fun b => b.toNat

/-- The 64-byte blocks of a preset that hold poison; all where its length does (R152). -/
def State.presetBad (s : State) (id : Nat) : List Nat :=
  if (s.poisonIn (s.presetLenAt id) 4).isSome then List.range 256
  else (List.range 256).filter fun b => decide (64 * b < s.presetLen id) && s.ddr.poison.contains (s.presetAt id / 64 + b)

/-- An encoder reads a preset through P2; none where the spool answers an error (R171). -/
def State.presetForEnc (s : State) (id : Nat) : Option (List Nat) × State :=
  match s.portRead 2 (s.presetLenAt id) 4 with
  | (none, t) => (none, t)
  | (some _, t) =>
    match t.portRead 2 (t.presetAt id) (t.presetLen id) with
    | (none, u) => (none, u)
    | (some l, u) => (some (l.map fun b => b.toNat), u)

/-- R113. PRESET_LOAD: the copy starts, or the entry fails with PRESET_BAD. -/
def execPresetLoad (entry : BitVec 512) (s : State) : Host.Outcome State Fault Refusal :=
  .next <| s.admin 0x12 entry fun s =>
    let id := entryField entry 4 1
    let len := entryField entry 8 4
    if entryField entry 1 3 ≠ 0 ∨ entryField entry 5 3 ≠ 0 ∨ entryField entry 0xC 4 ≠ 0 ∨ entryField entry 0x18 40 ≠ 0 then
      s.adminFail 0x21
    else if len = 0 ∨ 16384 < len ∨ s.presetValid id ∨ s.rd .cdc CDC.PRESET_BASE = 0 ∨
        s.codec.loads.any fun e => e.1 == id then s.adminFail 0x2F
    else
      ({ s with codec := { s.codec with loads := s.codec.loads ++ [(id, len)] } } : State).dmaStart
        (.dma (.preset (BitVec.ofNat 8 id))) (entryField entry 0x10 8) len

/-- R138. The copy into the spool, through P0, is complete: the VALID bit sets, then ADMIN_DONE. The port holds the copy in
self-refresh (R167). -/
def execPresetLoadDone (id : BitVec 8) (data : List Byte) (s : State) : Host.Outcome State Fault Refusal :=
  if s.devUp && s.codec.loads.contains (id.toNat, data.length) && s.dmaSent (.dma (.preset id)) then
    if s.portsHold then .next s.portWake
    else
      let s := s.dmaOver (· == .dma (.preset id))
      let s := { s with codec := { s.codec with loads := s.codec.loads.filter fun e => e.1 != id.toNat } }
      let s := (s.portWrite 0 (s.presetAt id.toNat) data).portWrite 0 (s.presetLenAt id.toNat) (natBytes 4 data.length)
      .next ((s.setPreset id.toNat true).pushCqe (adminCqe 0 0 0 0))
  else .next s

/-- R138. PRESET_DROP: the VALID bit clears as the entry executes. -/
def execPresetDrop (entry : BitVec 512) (s : State) : Host.Outcome State Fault Refusal :=
  .next <| s.admin 0x13 entry fun s =>
    let id := entryField entry 4 1
    if entryField entry 1 3 ≠ 0 ∨ entryField entry 5 59 ≠ 0 then s.adminFail 0x21
    else
      let s := s.setPreset id false
      { s with codec := { s.codec with drops := s.codec.drops ++ [id] } }

/-- Whether a decoder or an encoder is reading a preset. -/
def State.presetRead (s : State) (id : Nat) : Bool :=
  (s.codec.decoders.toList.any fun d => match d with
    | some j => j.preset == some id && !j.missing
    | none => false) ||
  s.codec.encoders.toList.any fun e => match e with
    | .intake _ p => p == some id
    | .job _ p => p == some id
    | .free => false

/-- R138. Every unit that read a dropped preset has finished: its ADMIN_DONE. -/
def execPresetDropDone (id : BitVec 8) (s : State) : Host.Outcome State Fault Refusal :=
  if s.devUp && s.codec.drops.contains id.toNat && !s.presetRead id.toNat then
    .next (({ s with codec := { s.codec with drops := s.codec.drops.erase id.toNat } }).pushCqe (adminCqe 0 0 0 0))
  else .next s

/-! ### Jobs -/

/-- The states of a job slot (R153). -/
def jsFree : Nat := 0
def jsQueued : Nat := 1
def jsRunning : Nat := 2
def jsParked : Nat := 3
def jsDone : Nat := 4

def State.slotState (s : State) (k : Nat) : Nat := s.rd .cdc CDC.JS_STAT_STATE k

/-- A slot takes a job. -/
def State.slotTake (s : State) (k : Nat) (desc : Nat) : State :=
  let s := (s.wr .cdc CDC.JS_STAT_STATE jsQueued k).wr .cdc CDC.JS_STAT_NO_GAIN 0 k
  let s := ((s.wr .cdc CDC.JS_STAT_ENC 0 k).wr .cdc CDC.JS_STAT_RESULT 0 k).wr .cdc CDC.JS_TAG (jobTag desc) k
  let s := ((s.wr .cdc CDC.JS_OUT 0 k).wr .cdc CDC.JS_IN 0 k).wr .cdc CDC.JS_CHAIN (jobCount desc) k
  { s with codec := { s.codec with
    jobs := s.codec.jobs.setIfInBounds k (some { desc, ord := s.codec.jobOrd, queuedAt := s.dclk }), jobOrd := s.codec.jobOrd + 1 } }

/-- The descriptor of the job in a slot. -/
def State.slotDesc (s : State) (k : Nat) : Nat :=
  match s.codec.jobs.toList.getD k none with
  | some j => j.desc
  | none => 0

/-- The encoder a job holds is free again. -/
def State.slotLetGo (s : State) (k : Nat) : State :=
  ({ s with codec := { s.codec with encoders := s.codec.encoders.map fun (e : EncUser) => match e with
    | .job j _ => if j = k then EncUser.free else e
    | _ => e } }).settleCodec

/-- A job ends (R150): `nn` is the error code or 0, `len` the stream length of a DONE. A host job writes ADMIN_DONE and
frees its slot; a firmware job moves to DONE. -/
def State.jobEnd (s : State) (k nn len : Nat) (noGain : Bool) : State :=
  let d := s.slotDesc k
  let code := if nn = 0 then 0 else 0x1200 + nn
  let s := ((s.slotLetGo k).dmaOver (· == .job k)).when (nn != 0) fun t => t.err .cdc nn k
  let s := (s.wr .cdc CDC.JS_STAT_RESULT code k).flag .cdc CDC.JS_STAT_NO_GAIN noGain k
  let s := s.wr .cdc CDC.JS_STAT_ENC 0 k
  let s := s.when (nn == 0 && !noGain) fun t => (t.wr .cdc CDC.JS_OUT len k).wr .cdc CDC.JS_IN (jobRaw d) k
  let s := { s with codec := { s.codec with jobs := s.codec.jobs.setIfInBounds k none } }
  if k < 12 then
    (s.wr .cdc CDC.JS_STAT_STATE jsFree k).pushCqe
      (adminCqe code (k + 2 ^ 32 * jobTag d) len (2 * noGain.toNat + 16 * (jobLevel d % 16)))
  else (s.wr .cdc CDC.JS_STAT_STATE jsDone k).raise .cdc 10

/-- The lowest free slot of a range. -/
def State.freeSlot (s : State) (lo hi : Nat) : Option Nat :=
  ((List.range hi).drop lo).find? fun k => s.slotState k == jsFree

/-- A job enters a slot, and ends there at once while the codec is not enabled or if its descriptor breaks R145. -/
def State.jobEnter (s : State) (k desc : Nat) : State :=
  let s := s.slotTake k desc
  if !s.codecOn then s.jobEnd k Err.notEnabled 0 false
  else if jobBad desc (k < 12) 0 carveEnd then s.jobEnd k 0x24 0 false
  else s

/-- R145, R150. COMPRESS: a host job enters the lowest free slot 0 to 11, or completes with QUEUE_FULL; the spec gives no
slot for WHERE of the latter: a free value (log entry 18). -/
def execCompress (entry : BitVec 512) (s : State) : Host.Outcome State Fault Refusal :=
  .next <| s.admin 0x14 entry fun s =>
    let desc := entryField entry 0x10 48
    if entryField entry 1 15 ≠ 0 then s.adminFail 0x21
    else
      match s.freeSlot 0 12 with
      | some k => s.jobEnter k desc
      | none =>
        let (n, s) := s.draw
        (s.errOpen .cdc 0x25).pushCqe
          (adminCqe 0x1225 ((Config.freeWord n).toNat % 2 ^ 16 + 2 ^ 32 * jobTag desc) 0 (16 * (jobLevel desc % 16)))

/-- What FJOB_GO does (R149). -/
def State.fjobGo (s : State) : State :=
  match s.freeSlot 12 16 with
  | none => s.errOpen .cdc 0x25
  | some k =>
    let desc := (List.range 12).foldl (fun a i => a + s.rd .cdc CDC.FJOB_DESC i * 2 ^ (32 * i)) 0
    (s.wr .cdc CDC.FJOB_SLOT k).jobEnter k desc

/-- R153. FJOB_GO: a firmware job enters the lowest free slot 12 to 15, or is rejected with QUEUE_FULL. -/
def execFjobGo (req : Req) (s : State) : Host.Outcome State Fault Refusal :=
  .next <| s.gate req .cdc 0x130 fun s => s.fjobGo

/-- The oldest queued job of the slots from lo to hi - 1. -/
def State.oldestJob (s : State) (lo hi : Nat) : Option Nat :=
  leastBy (fun k => match s.codec.jobs.toList.getD k none with
    | some j => [j.ord]
    | none => []) (((List.range hi).drop lo).filter fun k => s.slotState k == jsQueued)

/-- Encoders that jobs of the slots from lo to hi - 1 hold, and those intake holds. -/
def State.encJobs (s : State) (lo hi : Nat) : Nat :=
  (s.codec.encoders.toList.filter fun e => match e with
    | .job k _ => decide (lo ≤ k ∧ k < hi)
    | _ => false).length

def State.encIntake (s : State) : Nat :=
  (s.codec.encoders.toList.filter fun e => match e with
    | .intake _ _ => true
    | _ => false).length

/-- A COMPRESS tile that waits for an encoder. -/
def State.tileForEncoder (s : State) : Option Tile :=
  s.intake.tiles.find? fun t => t.phase == .reading && t.desc.compress && t.enc.isNone && !s.onEncoder t.key

/-- An encoder's window starts with a dictionary. -/
def State.setDict (s : State) (e : Fin 12) (l : List Nat) : State :=
  { s with codec := { s.codec with encDict := s.codec.encDict.set e l } }

/-- Job k runs on encoder e, behind a dictionary; an input in host memory is read by DMA. -/
def State.jobRuns (s : State) (e : Fin 12) (k : Nat) (dict : List Nat) : State :=
  let d := s.slotDesc k
  let s := ((s.setEncoder e (.job k (jobPreset d))).setDict e dict).wr .cdc CDC.JS_STAT_STATE jsRunning k
  (s.wr .cdc CDC.JS_STAT_ENC e.val k).when (jobSrcSpace d == 0) fun t => t.dmaStart (.job k) (jobSrc d) (jobRaw d)

/-- Job k takes encoder e; a preset that is not loaded ends it at once (R138), and one that the spool cannot read (R171). -/
def State.jobStart (s : State) (e : Fin 12) (k : Nat) : State :=
  let s := s.when (decide (12 ≤ k)) fun t => t.setOverdue .cdc false
  match jobPreset (s.slotDesc k) with
  | none => s.jobRuns e k []
  | some id =>
    if !s.presetValid id then s.jobEnd k 0x20 0 false
    else if s.portsHold then s.portWake
    else
      match s.presetForEnc id with
      | (some l, t) => t.jobRuns e k l
      | (none, t) => t.jobEnd k 0x2A 0 false

/-- A tile's encode ends with MEM_UE: it completes as TILE_FAIL (R152). -/
def State.tileMemUe (s : State) (t : Tile) : State :=
  (s.errOpen .cdc 0x2A).tileLost t.key (tileCqe t.key t.desc.cookie 2 0x122A 0 0)

/-- A tile takes encoder e, or is stored raw for want of its preset (R138). -/
def State.tileStart (s : State) (e : Fin 12) (t : Tile) : State :=
  if !t.desc.presetEn then (s.setEncoder e (.intake t.key none)).setDict e []
  else if !s.presetValid t.desc.preset then s.modInFlight t.key fun u => { u with enc := some .missing }
  else if s.portsHold then s.portWake
  else
    match s.presetForEnc t.desc.preset with
    | (some l, u) => (u.setEncoder e (.intake t.key (some t.desc.preset))).setDict e l
    | (none, u) => u.tileMemUe t

/-- The second and third choice of R149. -/
def State.jobAssign (s : State) (e : Fin 12) : State :=
  match (if s.encJobs 12 16 < s.rd .cdc CDC.CTRL_FW_ENC_MAX then s.oldestJob 12 16 else none) with
  | some k => s.jobStart e k
  | none =>
    match (if s.encJobs 0 12 < s.rd .cdc CDC.CTRL_HOST_ENC_MAX then s.oldestJob 0 12 else none) with
    | some k => s.jobStart e k
    | none => s

/-- R149. A free encoder goes to intake, the oldest firmware job, or the oldest host job. -/
def execEncoderAssign (e : Fin 12) (s : State) : Host.Outcome State Fault Refusal :=
  if s.devUp && s.codecOn && s.codec.encoders[e] == .free then
    match s.tileForEncoder with
    | some t =>
      if s.encIntake < s.rd .int INT.CTRL_ENC_MAX then .next (s.tileStart e t) else .next (s.jobAssign e)
    | none => .next (s.jobAssign e)
  else .next s

/-- The limit of R144 for an input of `raw` bytes. -/
def gainLimit (raw gain : Nat) : Nat := raw * gain / 256

/-- What slot k holds of its job. -/
def State.job (s : State) (k : Nat) : Job := (s.codec.jobs.toList.getD k none).getD { desc := 0, ord := 0 }

/-- A job changed. -/
def State.modJob (s : State) (k : Nat) (f : Job → Job) : State :=
  { s with codec := { s.codec with jobs := s.codec.jobs.setIfInBounds k (some (f (s.job k))) } }

/-- The input of a job (R145): what DMA brought, or what the spool or the Den holds; none where the spool answers an error
(R171). A job that has parked keeps the input it began with. -/
def State.jobInput (s : State) (k : Nat) (brought : List Byte) : Option (List Nat) × State :=
  let j := s.job k
  let d := j.desc
  if !j.input.isEmpty then (some j.input, s)
  else if jobSrcSpace d = 1 then
    match s.portRead 2 (jobSrc d) (jobRaw d) with
    | (some l, t) => (some (l.map fun b => b.toNat), t)
    | (none, t) => (none, t)
  else if jobSrcSpace d = 2 then
    (some ((List.range (jobRaw d)).map fun i =>
      let a := jobSrc d + i
      (denAt s.den.mram (a / 64)).raw.toNat / 2 ^ (8 * (a % 64)) % 256), s)
  else (some (brought.map fun b => b.toNat), s)

/-- What the encoder makes of a job's input. -/
def State.jobEncoding (s : State) (e : Fin 12) (k : Nat) (input : List Nat) : Encoding :=
  let d := (s.job k).desc
  encode (jobPreset d) (jobLevel d) (jobField d 0x10 2)
    (if jobGain d = 0 then none else some (gainLimit (jobRaw d) (jobGain d))) s.codec.encDict[e] input

/-- The chain entries of a job up to COUNT (R146): those read before it parked and then those of host memory, or those the spool
holds; none stands for an entry the spool cannot read. -/
def State.jobEntries (s : State) (k : Nat) (brought : List (BitVec 128)) : List (Option (BitVec 128)) :=
  let j := s.job k
  let n := s.rd .cdc CDC.JS_CHAIN k
  if jobChainSpool j.desc then
    (List.range n).map fun i =>
      let a := jobChain j.desc + 16 * i
      if s.spoolSize < a + 16 ∨ (s.poisonIn a 16).isSome then none else some (BitVec.ofNat 128 (Memory.readNat s.ddr.mem a 16))
  else ((j.chain ++ brought.drop j.chain.length).take n).map some

/-- A job's output laid over its chain (R147), and how it meets the chain. -/
def State.jobLay (s : State) (k : Nat) (brought : List (BitVec 128)) (out : List Nat) : List (Nat × List Nat) × LayEnd :=
  layOut (fun a n => !jobChainSpool (s.job k).desc || decide (a + n ≤ s.spoolSize)) (s.jobEntries k brought) out

/-- The bytes laid over a chain, without those written before, are written: through P2, or to host memory. -/
def State.jobWrite (s : State) (k : Nat) (laid : List (Nat × List Nat)) : State :=
  s.each (dropLaid (s.job k).written laid) fun t w =>
    if jobChainSpool (s.job k).desc then t.portWrite 2 w.1 (w.2.map fun b => BitVec.ofNat 8 b) else t.emit (.write w.1 w.2)

/-- Bytes laid over a chain. -/
def laidLen (laid : List (Nat × List Nat)) : Nat := (laid.map fun w => w.2.length).sum

/-- JS_OUT and JS_IN after n bytes of the output (R148, R153). -/
def State.jobProgress (s : State) (k : Nat) (e : Encoding) (n : Nat) : State :=
  (s.wr .cdc CDC.JS_OUT (e.progress n).1 k).wr .cdc CDC.JS_IN (e.progress n).2 k

/-- A chain entry that holds poison is logged as every uncorrectable error is (R172). -/
def State.chainUe (s : State) (k : Nat) : State :=
  let j := s.job k
  if jobChainSpool j.desc then
    match s.poisonIn (jobChain j.desc) (16 * s.rd .cdc CDC.JS_CHAIN k) with
    | some b => s.ddrUe b 2 0 false
    | none => s
  else s

/-- The job on encoder e has all its input: it ends as its output meets its limit and its chain (R144, R146, R147, R150); where
more entries are needed it does not end, it parks (R148). -/
def State.jobFinish (s : State) (e : Fin 12) (k : Nat) (input : List Nat) (brought : List (BitVec 128)) : State :=
  let enc := s.jobEncoding e k input
  let (laid, fin) := s.jobLay k brought enc.out
  match fin with
  | .short => s
  | .bad => ((s.jobWrite k laid).jobProgress k enc (laidLen laid)).jobEnd k 0x26 0 false
  | .dma => (((s.chainUe k).jobWrite k laid).jobProgress k enc (laidLen laid)).jobEnd k 0x27 0 false
  | .done =>
    if enc.noGain then ((s.bump .cdc CDC.ENC_NOGAIN).jobProgress k enc (laidLen laid)).jobEnd k 0 0 true
    else (s.jobWrite k laid).jobEnd k 0 enc.stream.length false

/-- A job works with the spool, so that the ports can hold it (R167). -/
def jobInSpool (d : Nat) : Bool := jobSrcSpace d == 1 || jobChainSpool d

/-- The encode of a job on encoder e ends; one that is parked does not. -/
def State.jobEncodeEnd (s : State) (e : Fin 12) (k : Nat) (res : EncodeResult) : State :=
  let d := (s.job k).desc
  if s.slotState k ≠ jsRunning then s
  else
    match res with
    | .memUe u => (s.denSramUe 0x12 u.array.toNat u.word.toNat 0 0xFF).jobEnd k 0x2A 0 false
    | .dramUe a dev =>
      if jobSrcSpace d = 1 ∧ jobSrc d / 64 ≤ a.toNat / 64 ∧ a.toNat / 64 ≤ (jobSrc d + jobRaw d - 1) / 64 then
        (s.ddrUe a.toNat 2 dev false).jobEnd k 0x2A 0 false
      else s
    | .chainDma => if jobChainSpool d then s else s.jobEnd k 0x27 0 false
    | .ended input chain =>
      if jobInSpool d && s.portsHold then s.portWake
      else if !s.dmaSent (.job k) then s
      else
        match s.jobInput k input with
        | (none, t) => t.jobEnd k 0x2A 0 false
        | (some l, t) => if l.length = jobRaw d then t.jobFinish e k l chain else s

/-- What the encoder makes of a tile's input: intake's limit holds (R144). -/
def State.tileEncoding (s : State) (e : Fin 12) (t : Tile) (input : List Nat) : Encoding :=
  encode (if t.desc.presetEn then some t.desc.preset else none) t.desc.level (t.desc.rawLen / t.desc.lines)
    (some (gainLimit t.desc.rawLen (s.rd .int INT.CTRL_GAIN_MAX))) s.codec.encDict[e] input

/-- The encode of a tile on encoder e ends (R118, R142, R144): intake has no output chain. -/
def State.tileEncodeEnd (s : State) (e : Fin 12) (t : Tile) (res : EncodeResult) : State :=
  match res with
  | .memUe u => ((s.setEncoder e .free).denSramUe 0x12 u.array.toNat u.word.toNat 0 0xFF).tileMemUe t
  | .dramUe _ _ => s
  | .chainDma => s
  | .ended input _ =>
    if input.length = t.desc.rawLen ∧ s.dmaSent (.dma (.tile t.key)) then
      let l := input.map fun b => b.toNat
      let enc := s.tileEncoding e t l
      let s := (s.setEncoder e .free).when enc.noGain fun u => u.bump .cdc CDC.ENC_NOGAIN
      s.modInFlight t.key fun u => { u with enc := some (if enc.noGain then .noGain l else .stream l enc.stream) }
    else s

/-- R150. The encode on encoder e ends. -/
def execEncodeEnd (e : Fin 12) (res : EncodeResult) (s : State) : Host.Outcome State Fault Refusal :=
  if !s.devUp then .next s
  else
    match s.codec.encoders[e] with
    | .free => .next s
    | .intake k _ =>
      match s.tileInFlight k with
      | none => .next (s.setEncoder e .free)
      | some t => .next (s.tileEncodeEnd e t res)
    | .job k _ => .next (s.jobEncodeEnd e k res)

/-- The encoder a running job holds. -/
def State.jobEncoder (s : State) (k : Nat) : Option (Fin 12) :=
  (List.finRange 12).find? fun e => match s.codec.encoders[e] with
    | .job j _ => j == k
    | _ => false

/-- What a park leaves (R148): the bytes for which the chain has room are written, and what the job needs to go on is kept. -/
def State.jobParks (s : State) (e : Fin 12) (k : Nat) (input : List Nat) (brought : List (BitVec 128)) : State :=
  let enc := s.jobEncoding e k input
  let (laid, fin) := s.jobLay k brought enc.out
  if fin = .short then
    let chain := (s.jobEntries k brought).filterMap id
    let s := ((s.jobWrite k laid).jobProgress k enc (laidLen laid)).modJob k fun j =>
      { j with input, chain, written := laidLen laid, parkAt := s.dclk }
    (s.wr .cdc CDC.JS_STAT_STATE jsParked k).raise .cdc 9
  else s

/-- R148. A job needs a chain entry beyond COUNT: it parks. `input` and `chain` are what lies in host memory of the job's input
and of its chain. -/
def execJobPark (slot : Fin 16) (input : List Byte) (chain : List (BitVec 128)) (s : State) : Host.Outcome State Fault Refusal :=
  let k := slot.val
  match s.jobEncoder k with
  | none => .next s
  | some e =>
    if s.devUp && s.slotState k == jsRunning then
      if jobInSpool (s.job k).desc && s.portsHold then .next s.portWake
      else if !jobChainSpool (s.job k).desc && decide (chain.length < s.rd .cdc CDC.JS_CHAIN k) then .next s
      else
        match s.jobInput k input with
        | (none, t) => .next (t.jobEnd k 0x2A 0 false)
        | (some l, t) => if l.length = jobRaw (s.job k).desc then .next (t.jobParks e k l chain) else .next s
    else .next s

/-- The registers of jobs that run show how far they have come: how fast they go is timing, so the values are free (R153, log
entry 75). -/
def State.codecTick (s : State) : State :=
  s.each (List.range 16) fun t k =>
    if t.slotState k == jsRunning then
      let n := t.free
      let raw := jobRaw (t.job k).desc
      let t := t.drawMany 2
      (t.wr .cdc CDC.JS_IN (max (t.rd .cdc CDC.JS_IN k) (Config.freeNat n % (raw + 1))) k).wr .cdc CDC.JS_OUT
        (max (t.rd .cdc CDC.JS_OUT k) (Config.freeNat (n + 1) % (raw + 24))) k
    else t

/-- What a write of JS_CHAIN.COUNT does (R148). -/
def State.chainWrite (s : State) (req : Req) (slot : Fin 16) (n : BitVec 13) : State :=
  let off := 0x210 + 32 * slot.val
  let st := s.slotState slot.val
  if st ≠ jsQueued ∧ st ≠ jsRunning ∧ st ≠ jsParked then s.err .cdc 0x2B slot.val
  else if n.toNat < s.rd .cdc CDC.JS_CHAIN slot.val ∨ 4096 < n.toNat then s.errAt .cdc Err.badValue off req.code
  else
    let more := decide (s.rd .cdc CDC.JS_CHAIN slot.val < n.toNat)
    (s.wr .cdc CDC.JS_CHAIN n.toNat slot.val).when (st == jsParked && more) fun t =>
      t.wr .cdc CDC.JS_STAT_STATE jsRunning slot.val

/-- R148. A write of COUNT extends the chain and resumes a parked job, or is rejected. -/
def execChainCountWrite (req : Req) (slot : Fin 16) (n : BitVec 13) (s : State) : Host.Outcome State Fault Refusal :=
  let off := 0x210 + 32 * slot.val
  .next <| s.gate req .cdc off fun s => s.chainWrite req slot n

/-- R148. A job parked longer than PARK_TMO ends with CHAIN_TMO. -/
def execParkTimeout (slot : Fin 16) (s : State) : Host.Outcome State Fault Refusal :=
  if s.devUp && s.slotState slot.val == jsParked &&
      decide ((s.job slot.val).parkAt + 500000 * s.rd .cdc CDC.CTRL_PARK_TMO ≤ s.dclk) then
    .next (s.jobEnd slot.val 0x28 0 false)
  else .next s

/-- What JS_CTRL.ABORT does. -/
def State.jobAbort (s : State) (slot : Fin 16) : State :=
  let st := s.slotState slot.val
  if st = jsQueued ∨ st = jsRunning ∨ st = jsParked then s.jobEnd slot.val 0x29 0 false
  else s.err .cdc 0x2B slot.val

/-- R153. JS_CTRL.ABORT ends the job ABORTED. -/
def execJobAbort (req : Req) (slot : Fin 16) (s : State) : Host.Outcome State Fault Refusal :=
  .next <| s.gate req .cdc (0x214 + 32 * slot.val) fun s => s.jobAbort slot

/-- What JS_CTRL.RELEASE does. -/
def State.jobRelease (s : State) (slot : Fin 16) : State :=
  if 12 ≤ slot.val ∧ s.slotState slot.val = jsDone then s.wr .cdc CDC.JS_STAT_STATE jsFree slot.val
  else s.err .cdc 0x2B slot.val

/-- R150. JS_CTRL.RELEASE frees a firmware slot in DONE. -/
def execJobRelease (req : Req) (slot : Fin 16) (s : State) : Host.Outcome State Fault Refusal :=
  .next <| s.gate req .cdc (0x214 + 32 * slot.val) fun s => s.jobRelease slot

end Sys2Proof.Machine
end

