-- ==== Sys2Proof/Machine/RegStore.lean ====
section
/-! DEFINITION. A register write as a whole word or pair (R36, R38, R39, R42, R418): the fields it names, the judgement,
and the storing of the fields. -/

namespace Sys2Proof.Machine

open Reg

/-- Every field of a page, header first. -/
def allRows (p : Page) : List Row := HDR.rows ++ pageRows p

/-- Which copy of a field stands at an offset. -/
def copyAt (r : Row) (off : Nat) : Option Nat :=
  if r.off ≤ off && (off - r.off) % r.stride == 0 && decide ((off - r.off) / r.stride < r.count) then
    some ((off - r.off) / r.stride)
  else none

/-- The fields at an offset, each with its copy. -/
def fieldsAt (p : Page) (off : Nat) : List (Row × Nat) :=
  (allRows p).filterMap fun r => (copyAt r off).map fun i => (r, i)

/-- The offset is the low word of a 64-bit pair (R50). -/
def isPair (p : Page) (off : Nat) : Bool := (fieldsAt p off).any fun e => decide (32 < e.1.lo + e.1.width ∧ e.1.width ≤ 64)

/-- The part of a written word or pair that belongs to a field. -/
def part (r : Row) (data : Nat) : Nat := data / 2 ^ r.lo % 2 ^ r.width

/-- The pages whose `PG_CTRL.EN` is 1 and read-only (R36). -/
def fixedEn (p : Page) : Bool :=
  match p with
  | .sys => true | .pwr => true | .aon => true | .clk => true | .fab => true | .core => true | .fuse => true
  | .evt => true | .tim => true | .gio => true | .cpwr _ => true
  | _ => false

/-- A DDRS page has no enable of its own. -/
def isDdrs (p : Page) : Bool :=
  match p with
  | .ddrs _ => true
  | _ => false

/-- The access type in force: EN is read-only where R36 says so. -/
def accOf (p : Page) (r : Row) : Acc := if r == HDR.PG_CTRL_EN && (fixedEn p || isDdrs p) then .ro else r.acc

/-- `PG_STAT.RUN` of a page (R39). -/
def State.run (s : State) (p : Page) : Bool :=
  match p.lane with
  | some l => s.laneRun l
  | none =>
    match p.cluster with
    | some c => (Clu.lanes c).any fun l => s.laneRun l
    | none =>
      match p with
      | .lst => s.pageActive
      | .pln => s.pageActive
      | .pace => s.pageActive
      | .spl => s.pageActive
      | .pwr => s.power.dev == .print
      | .ax a => s.rd (.ax a) HDR.PG_STAT_STATE == 2 || s.rd (.ax a) HDR.PG_STAT_STATE == 3
      | _ => false

/-- The value a write is compared with: the staged copy of an RWS field, the present value of any other. -/
def State.present (s : State) (p : Page) (e : Row × Nat) : Nat :=
  if e.1.acc == .rws then s.rdStaged p e.1 e.2 else s.rd p e.1 e.2

/-- A write would change a field. -/
def State.changes (s : State) (p : Page) (data : Nat) (e : Row × Nat) : Bool := s.present p e != part e.1 data

/-- The fields of a written word that have one of these access types and would change. -/
def State.changed (s : State) (p : Page) (off data : Nat) (which : Acc → Bool) : List (Row × Nat) :=
  (fieldsAt p off).filter fun e => which (accOf p e.1) && s.changes p data e

/-- The word holds a field of a staged register. -/
def hasStaged (p : Page) (off : Nat) : Bool := (fieldsAt p off).any fun e => accOf p e.1 == .rws

/-- The common code with which a write is refused (R38, R39, R42), the lowest code first. `COMMIT_AT` is judged at the
commit. While a commit is pending every write to staged fields is refused (R42). -/
def State.judge (s : State) (p : Page) (off data : Nat) : Option Nat :=
  let init := off == 0xC && bit data 1
  let held := (s.changed p off data fun a => a == .rw || a == .rwl).filter fun e => e.1 != HDR.PG_CTRL_COMMIT_AT
  if s.run p && (init || !held.isEmpty) then some Err.rejectRun
  else if s.on p HDR.PG_CTRL_LOCK && !(s.changed p off data fun a => a == .rwl).isEmpty then some Err.locked
  else if (s.changed p off data fun a => a != .ro).any fun e => !e.1.chk.ok (part e.1 data) then some Err.badValue
  else if s.pend p && hasStaged p off then some Err.commitBusy
  else none

/-- The fields of an accepted word are stored: RW and RWL in force, RWS staged. -/
def State.store (s : State) (p : Page) (off data : Nat) : State :=
  s.each (fieldsAt p off) fun t e =>
    match accOf p e.1 with
    | .rw => t.wr p e.1 (part e.1 data) e.2
    | .rwl => t.wr p e.1 (part e.1 data) e.2
    | .rws => t.wrStaged p e.1 (part e.1 data) e.2
    | _ => t

/-- A written word is judged, refused as a whole or stored; then its actions `act` are taken. -/
def State.wordWrite (s : State) (req : Req) (p : Page) (off data : Nat) (act : State → State) : State :=
  match s.judge p off data with
  | some nn => s.errAt p nn off req.code
  | none => act (s.store p off data)

end Sys2Proof.Machine
end

