-- ==== Sys2Proof/Machine/Pace.lean ====
section
/-! DEFINITION. The pace unit (R272 to R283): encoder and belt edges, the index check, the tick sources, top-of-form
edges, the web line counter, SLOWREQ and STOPPED. -/

namespace Sys2Proof.Machine

open Reg

/-- A start event reaches the Last (R186): it counts for the next page only. -/
def State.pageGo (s : State) (names : PageDesc → Bool) : State :=
  match s.nextPage with
  | some p => if names p.desc && !p.cancel then s.modPage p.ord fun q => { q with go := true } else s
  | none => s

/-- A trigger or an edge comes for the next page; one that comes while a page is active is ignored (R186). -/
def State.pageTrig (s : State) (names : PageDesc → Bool) : State := if s.pageActive then s else s.pageGo names

/-- The web line counter of an encoder error (R275). -/
def State.encErr (s : State) (nn : Nat) : State :=
  ((s.errOpen .pace nn).wr .pace PACE.ERR_WL (s.rd .pace PACE.WL)).raise .pace 13

/-- REVERSE follows the sign of the accumulator; each entry raises it (R274). -/
def State.settleReverse (s : State) : State :=
  let neg := decide (s.pace.acc < 0)
  (s.flag .pace PACE.STAT_REVERSE neg).when (neg && !s.on .pace PACE.STAT_REVERSE) fun t => t.raise .pace 15

/-- One edge through the ratio accumulator (R273, R276): at most one tick. -/
def State.paceEdge (s : State) (fwd : Bool) : State :=
  let num : Int := s.rd .pace PACE.RATIO_NUM
  let den : Int := s.rd .pace PACE.RATIO_DEN
  let a := if fwd then s.pace.acc + num else s.pace.acc - num
  let tick := fwd && decide (den ≤ a)
  let acc := signed 48 (unsigned 48 (if tick then a - den else a))
  ({ s with pace := { s.pace with acc, ticks := s.pace.ticks + tick.toNat } }).settleReverse

/-- R273, R275. An accepted encoder edge moves ENC_POS and, in WEB mode, the accumulator; a sample in which both change
is a phase error. -/
def execEncEdge (kind : EncKind) (s : State) : Host.Outcome State Fault Refusal :=
  let count (s : State) (f : Bool) : State :=
    let fwd := f != s.on .pace PACE.CTRL_DIR_INV
    let d : Int := if fwd then 1 else -1
    let s := s.wrS .pace PACE.ENC_POS (s.rdS .pace PACE.ENC_POS + d)
    let s := { s with pace := { s.pace with zNet := s.pace.zNet.map fun n => n + d } }
    if s.rd .pace PACE.CTRL_MODE = 1 then s.paceEdge fwd else s
  if s.devUp then
    match kind with
    | .forward => .next (count s true)
    | .reverse => .next (count s false)
    | .both => .next ((s.bump .pace PACE.PHASE_CNT).encErr 0x20)
  else .next s

/-- R275. An accepted rising edge of Z checks the net count of edges since the one before. -/
def execEncIndex (s : State) : Host.Outcome State Fault Refusal :=
  if s.devUp then
    let bad := s.on .pace PACE.CTRL_Z_EN && (match s.pace.zNet with
      | some n => n != (s.rd .pace PACE.Z_EDGES : Int)
      | none => false)
    let s := { s with pace := { s.pace with zNet := some 0 } }
    .next (if bad then (s.bump .pace PACE.Z_CNT).encErr 0x21 else s)
  else .next s

/-- R277. The timer of INTERNAL mode makes a line tick every INT_PER DCLK from the write of MODE. -/
def execInternalTick (s : State) : Host.Outcome State Fault Refusal :=
  let at_ := s.pace.intAt + s.rd .pace PACE.INT_PER
  if s.devUp && s.rd .pace PACE.CTRL_MODE == 3 && decide (at_ ≤ s.dclk) then
    .next { s with pace := { s.pace with ticks := s.pace.ticks + 1, intAt := at_ } }
  else .next s

/-- A write of `PACE.CTRL`, which holds MODE (R272). An accepted write of it writes MODE (log entry 23): ACC returns to
0 and the unit starts afresh. -/
def State.paceCtrlWrite (s : State) (req : Req) (data : Nat) : State :=
  let mode := data % 4
  let bad := (mode == 1 || mode == 2) && decide (s.rd .pace PACE.RATIO_DEN < s.rd .pace PACE.RATIO_NUM)
  match s.judge .pace 0x40 data with
  | some nn => s.errAt .pace nn 0x40 req.code
  | none =>
    if bad then s.errOpen .pace 0x23
    else
      let s := s.store .pace 0x40 data
      let s := { s with
        pace := { s.pace with
          acc := 0, last := none, gap := none, short := false, fresh := true, interval := none, intAt := s.dclk }
        intake := { s.intake with prevKnown := false } }
      (((s.settleReverse).setPage .pace mode).settlePerm).settleSlow

/-- R272. A write of `PACE.CTRL.MODE`. -/
def execPaceModeWrite (req : Req) (data : Word) (s : State) : Host.Outcome State Fault Refusal :=
  .next <| s.gate req .pace 0x40 fun s => s.paceCtrlWrite req data.toNat

/-- The web line counter is set: the web lines passed since the last top-of-form edge stay what they are (R279, R283). -/
def State.setWl (s : State) (v : Nat) : State :=
  let d : Int := (v : Int) - s.rd .pace PACE.WL
  ({ s with pace := { s.pace with tofWl := s.pace.tofWl.map fun w => w + d } }).wr .pace PACE.WL v

/-- A write of the pair `PACE.WL_LOAD` (R279). -/
def State.wlLoadWrite (s : State) (v : Nat) : State :=
  if s.pageActive then s.errOpen .pace 0x22 else s.setWl v

/-- R279. A write of WL_LOAD sets the web line counter. -/
def execWlLoad (req : Req) (wl : BitVec 48) (s : State) : Host.Outcome State Fault Refusal :=
  .next <| s.gate req .pace 0x70 fun s => s.wlLoadWrite wl.toNat

/-- R283. An accepted top-of-form edge of the source that `LST.TOF.SRC` names: ignored within MIN_WL web lines of the one
before, else counted and passed to the Last. -/
def execTofEdge (s : State) : Host.Outcome State Fault Refusal :=
  if s.devUp then
    let wl : Int := s.rd .pace PACE.WL
    let near := match s.pace.tofWl with
      | some w => decide (wl < w + s.rd .pace PACE.TOF_CTRL_MIN_WL)
      | none => false
    if near then .next (s.bump .pace PACE.TOF_IGN)
    else
      let s := ({ s with pace := { s.pace with tofWl := some wl } }).bump .pace PACE.TOF_CNT
      .next ((s.raise .pace 14).pageTrig fun d => d.mode == 2)
  else .next s

/-- R281. SLOWREQ falls once no source has held for HOLD_MS. -/
def execSlowreqRelease (s : State) : Host.Outcome State Fault Refusal :=
  let due := match s.pace.quietFrom with
    | some t => decide (t + 500000 * s.rd .pace PACE.SLOW_HOLD_MS ≤ s.dclk)
    | none => false
  if s.devUp && !s.slowSource && due then .next s.slowFall
  else .next s

/-- R282. No tick has come for STOP_MS. -/
def execPaceStopped (s : State) : Host.Outcome State Fault Refusal :=
  let due := decide (s.pace.tickAt + 500000 * s.rd .pace PACE.SLOW_STOP_MS ≤ s.dclk)
  if s.devUp && !s.on .pace PACE.STAT_STOPPED && s.pace.ticks == 0 && due then
    let s := (s.wr .pace PACE.STAT_STOPPED 1).raise .pace 11
    .next { s with pace := { s.pace with fresh := true } }
  else .next s

end Sys2Proof.Machine
end

