-- ==== Sys2Proof/Machine/Firing.lean ====
section
/-! DEFINITION. The firing sequencer (R247 to R266): preparing a line with its waveform set and the two duty guards,
sending its frame, its firing instant, HOLD and RESUME. -/

namespace Sys2Proof.Machine

open Reg

/-- An uncorrectable error in a lane's SRAM (R217, R219, R261). -/
def State.laneUe (s : State) (l : Lane) (u : SramUe) : State :=
  let s := (s.bump (.lne l) LNE.UE_CNT).errOpen (.lne l) 0x23
  (s.raise (.lne l) 10).denSramUe 0x90 u.array.toNat u.word.toNat 0 l.val

/-! ### Waveform sets and bands (R255) -/

/-- The band thresholds TB1 to TB7 of a lane. -/
def State.thresholds (s : State) (l : Lane) : List Int :=
  [WAV.TB1, WAV.TB2, WAV.TB3, WAV.TB4, WAV.TB5, WAV.TB6, WAV.TB7].map fun r => s.rdS (.wav l) r

/-- The band falls one at a time while the reading is below its threshold less HYST. -/
def bandFalls (th : List Int) (hyst t : Int) : Nat → Nat
  | 0 => 0
  | b + 1 => if t < th.getD b 0 - hyst then bandFalls th hyst t b else b + 1

/-- The band after a reading t: on the first preparation since the link came up, the number of thresholds reached;
otherwise it rises to the highest threshold reached, or falls. -/
def bandNext (th : List Int) (hyst t : Int) (fresh : Bool) (band : Nat) : Nat :=
  if fresh then (th.filter fun x => decide (x ≤ t)).length
  else
    let up := (List.range 7).foldl (fun a i => if th.getD i 0 ≤ t then max a (i + 1) else a) band
    if band < up then up else bandFalls th hyst t band

/-- Whether a lane is SOFT after a reading t. -/
def softNext (soft : Bool) (tsoft hyst t : Int) : Bool :=
  if tsoft ≤ t then true else if t < tsoft - hyst then false else soft

/-! ### The element guard (R259) -/

/-- What the element guard leaves of a nozzle: its level, its credit, whether its fire added W_E, whether its level was
dropped. -/
structure Guarded where
  level : Nat
  credit : Nat
  added : Bool
  dropped : Bool
  deriving DecidableEq, Repr

/-- One nozzle of a prepared line. -/
def guardNozzle (we ne : Nat) (acts : Bool) (level credit : Nat) : Guarded :=
  let a := credit - ne
  if level = 0 then ⟨0, a, false, false⟩
  else if a < ne then ⟨level, a + we, true, false⟩
  else if acts then ⟨0, a, false, true⟩
  else ⟨level, a, false, false⟩

/-- Every nozzle of a prepared line; credits not listed are 0. -/
def guardLine (we ne : Nat) (acts : Bool) : List Nat → List Nat → List Guarded
  | [], _ => []
  | lv :: lvs, cr => guardNozzle we ne acts lv (cr.headD 0) :: guardLine we ne acts lvs cr.tail

/-- The guards advance by a line that is not prepared (R259, R260). -/
def State.guardsPass (s : State) (l : Lane) : State :=
  let ne := s.rd (.seq l) SEQ.GUARD_E_NE
  s.modLane l fun h => { h with
    credit := h.credit.map fun a => a - ne
    energy := (0 :: h.energy).take 4096 }

/-! ### The head guard (R260) -/

/-- E(c): the energy of a line under cap c, in units of 2 uJ; `energy` gives the ENERGY of a level in units of 4 nJ. -/
def capEnergy (energy : Nat → Nat) (levels : List Nat) (c : Nat) : Nat :=
  ceilDiv ((levels.map fun lv => energy (min lv c)).sum) 500

/-- The cap from c downwards: the first with which the line fits below EH. -/
def capFrom (energy : Nat → Nat) (levels : List Nat) (rest eh : Nat) : Nat → Nat
  | 0 => 0
  | c + 1 => if rest + capEnergy energy levels (c + 1) ≤ eh then c + 1 else capFrom energy levels rest eh c

/-- ENERGY of a level of a set; level 0 has none. -/
def State.levelEnergy (s : State) (l : Lane) (set lv : Nat) : Nat :=
  if lv = 0 then 0 else s.rd (.wav l) (WAV.ENERGY set lv)

/-- Both guards on a line of a set: the state with its guard state written, and the line as it will be sent. What they take from a
spit line counts like the rest (log entry 84). -/
def State.guards (s : State) (l : Lane) (tag : LineTag) (levels : List Nat) (set bank : Nat) (taint : Bool) :
    State × PrepLine :=
  let g := guardLine (s.rd (.seq l) SEQ.GUARD_E_WE) (s.rd (.seq l) SEQ.GUARD_E_NE) (s.on (.seq l) SEQ.CTRL_GUARD_E)
    levels s.lanes[l].credit
  let lv := g.map fun x => x.level
  let energy := s.levelEnergy l set
  let rest := (s.lanes[l].energy.take (s.rd (.seq l) SEQ.GUARD_H - 1)).sum
  let c := if s.on (.seq l) SEQ.CTRL_GUARD_H then capFrom energy lv rest (s.rd (.seq l) SEQ.GUARD_EH) 7 else 7
  let drops := (g.filter fun x => x.dropped).length
  let hurt := (lv.filter fun x => decide (c < x)).length
  let credit := g.map fun x =>
    if c = 0 && x.added then x.credit - s.rd (.seq l) SEQ.GUARD_E_WE else x.credit
  let s := s.modLane l fun h => { h with credit, energy := (capEnergy energy lv c :: h.energy).take 4096 }
  let s := (s.bump (.seq l) SEQ.GUARD_E_CNT drops).when (decide (0 < hurt)) fun t => t.bump (.seq l) SEQ.DEMOTE_CNT
  (s, { tag, levels := lv.map fun x => min x c, taint, set, bank, elem := decide (0 < drops),
        cap := if hurt = 0 then 7 else c, hurt := drops + hurt, frame := none })

/-! ### Preparing and sending (R249, R302) -/

/-- Whether the lane may prepare: ARMED or FIRING, and the device not in FAULT (R68). -/
def State.prepares (s : State) (l : Lane) : Bool :=
  (s.lanes[l].st == .armed || s.lanes[l].st == .firing) && s.power.dev != .fault

/-- The line to prepare next: the oldest complete line, once it is the one that follows the prepared lines and at most
one of those awaits its FIRE marker (R249). -/
def LaneHw.nextToPrepare (h : LaneHw) : Option FifoLine :=
  match h.fifo with
  | [] => none
  | f :: _ =>
    match h.due.drop h.prep.length with
    | d :: _ => if h.prep.length ≤ 1 && d.miss.isNone && d.tag.ord == f.tag.ord then some f else none
    | [] => none

/-- Band, set and SOFT of a lane follow its last reading (R255). -/
def State.takeBand (s : State) (l : Lane) : State :=
  let t := s.rdS (.seq l) SEQ.TEMP_READING
  let hyst : Int := s.rd (.wav l) WAV.HYST
  let old := s.rd (.seq l) SEQ.STAT_BAND
  let band := bandNext (s.thresholds l) hyst t s.lanes[l].freshBand old
  let was := s.on (.seq l) SEQ.STAT_SOFT
  let soft := softNext was (s.rdS (.seq l) SEQ.TEMP_LIM_T_SOFT) hyst t
  let s := (s.wr (.seq l) SEQ.STAT_BAND band).when (band != old) fun u => u.raise (.wav l) 8
  let s := ((s.flag (.seq l) SEQ.STAT_SOFT soft).flag (.seq l) SEQ.STAT_REDUCED soft).when (soft && !was) fun u =>
    u.raise (.seq l) 10
  (s.modLane l fun h => { h with freshBand := false }).settleSoft

/-- The DCLK of the device that n cycles of a cluster's DCLK take (R79). -/
def State.cluDclk (s : State) (c : Clu) (n : Nat) : Nat := ceilDiv (500 * n) (max 1 (s.rd .clk CLK.DCLK_CL c.val))

/-- R249. The preparation of a line takes ⌈N / 8⌉ + 8 DCLK of the cluster. -/
def State.prepareDclk (s : State) (l : Lane) (n : Nat) : Nat := s.cluDclk (Lane.clu l) (ceilDiv n 8 + 8)

/-- R249. The sequencer starts preparing the next line, once the preparation of the line before has ended: band and set,
element guard, head guard. `ue` is an uncorrectable error in the line FIFO as the line is read (R265), `guardUe` one in guard
state (R261). -/
def execLinePrepare (l : Lane) (ue guardUe : Option SramUe) (s : State) : Host.Outcome State Fault Refusal :=
  if s.devUp && s.prepares l && decide (s.lanes[l].prepEnd ≤ s.dclk) then
    match s.lanes[l].nextToPrepare with
    | none => .next s
    | some f =>
      let ready := s.dclk + s.prepareDclk l f.levels.length
      let s := s.modLane l fun h => { h with prepEnd := ready }
      let s := match guardUe with
        | some u =>
          let full := s.rd (.seq l) SEQ.GUARD_E_WE + s.rd (.seq l) SEQ.GUARD_E_NE - 1
          (s.modLane l fun h => { h with
            credit := List.replicate (s.laneN l) full, energy := [s.rd (.seq l) SEQ.GUARD_EH] }).laneUe l u
        | none => s
      let s := s.takeBand l
      let set := if s.on (.seq l) SEQ.STAT_SOFT then 8 else s.rd (.seq l) SEQ.STAT_BAND
      let bank := s.rd (.wav l) WAV.BANK_ACTIVE
      let s := s.modLane l fun h => { h with fifo := h.fifo.tail }
      match ue with
      | some u =>
        let s := (s.laneUe l u).guardsPass l
        .next (s.modLane l fun h => { h with prep := h.prep ++
          [{ tag := f.tag, levels := f.levels, taint := f.taint, set, bank, ue := true, ready, elem := false,
             cap := 7, hurt := 0, frame := none }] })
      | none =>
        let (s, p) := s.guards l f.tag f.levels set bank f.taint
        .next (s.modLane l fun h => { h with prep := h.prep ++ [{ p with ready }] })
  else .next s

/-- The payload of a line frame: three bits a nozzle, most significant first, nozzle 0 first (R303). -/
def levelBytes : List Nat → List Nat
  | a :: b :: c :: d :: e :: f :: g :: h :: r =>
    let v := ((((((a * 8 + b) * 8 + c) * 8 + d) * 8 + e) * 8 + f) * 8 + g) * 8 + h
    v / 65536 % 256 :: v / 256 % 256 :: v % 256 :: levelBytes r
  | _ => []

/-- Header and payload of a line frame (R302). -/
def lineFrame (bank set epoch seq lane wl n page : Nat) (spit : Bool) (levels : List Nat) : List Nat :=
  1 :: (bank + 2 * spit.toNat) :: (bytesOf 2 epoch ++ bytesOf 2 seq ++ [set, lane] ++ bytesOf 6 wl ++ bytesOf 2 n ++
    bytesOf 4 page ++ levelBytes levels)

/-- A lane sends a line frame: SEQ and the count advance; a SHADOW counts it as sent (R302, R336). -/
def State.sendLine (s : State) (l : Lane) (bank set wl page : Nat) (spit : Bool) (levels : List Nat) : State :=
  let f := lineFrame bank set (s.rd .pair PAIR.EPOCH_EPOCH) s.lanes[l].seq l.val wl levels.length page spit levels
  let s := s.when (!s.shadow) fun t => t.emit (.line l.val f (crc32c f))
  (s.bump (.vnl l) VNL.LINES_TX).modLane l fun h => { h with seq := (h.seq + 1) % 65536 }

/-- The port is free for a line frame: the FIRE marker of the line before has left, between 7 and 8 LCLK and one DCLK after its
instant (R254), a control frame under way has ended, and no EPOCH frame waits (R249, R305). -/
def State.portFree (s : State) (l : Lane) : Bool :=
  let h := s.lanes[l]
  decide (h.ctrlEnd ≤ s.dclk) && !(h.ctrl.any fun f => f.type == 0x30) && (match h.lastFire with
    | some f => decide (f + 1 + lclkDclk (s.rd (.vnl l) VNL.STAT_RATE) 7 ≤ s.dclk)
    | none => true)

/-- R249. The frame of the oldest prepared line starts: its preparation has ended and the port is free. -/
def execLineFrameStart (l : Lane) (s : State) : Host.Outcome State Fault Refusal :=
  if s.devUp && s.prepares l && s.linkUp l && s.portFree l then
    match s.lanes[l].prep with
    | [] => .next s
    | p :: ps =>
      if p.ue || p.held.isSome || p.frame.isSome || s.dclk < p.ready then .next s
      else
        let stop := s.dclk + frameDclk p.levels.length (s.rd (.vnl l) VNL.STAT_RATE)
        let q := { p with frame := some (s.lanes[l].seq, s.dclk, stop) }
        let s := s.sendLine l p.bank p.set p.tag.wl p.tag.page false p.levels
        .next (s.modLane l fun h => { h with prep := q :: ps })
  else .next s

/-! ### The firing instant (R250 to R253, R265) -/

/-- The lifetime counts rise for every nozzle at a level above 0 (R253). -/
def State.countFires (s : State) (l : Lane) (levels : List Nat) : State :=
  s.each (levels.zip (List.range levels.length)) fun t e =>
    if e.1 = 0 then t
    else
      let w := winCounts + 2 * e.2
      let n := t.winWord l w + 2 ^ 32 * t.winWord l (w + 1)
      if n < 2 ^ 48 - 1 then (t.setWin l w ((n + 1) % 2 ^ 32)).setWin l (w + 1) ((n + 1) / 2 ^ 32) else t

/-- A FIRE marker leaves (R250, R262, R309). -/
def State.sendFire (s : State) (l : Lane) (at_ seq : Nat) (tag : Option LineTag) (levels : List Nat) : State :=
  let s := s.when (!s.shadow) fun t =>
    (t.emit (.fire l.val seq)).modLane l fun h => { h with fires := h.fires ++ [{ seq, tag, at_ }] }
  let s := { s with power := { s.power with dry := 0 } }
  (s.modLane l fun h => { h with lastFire := some at_, noTemp := h.noTemp + 1 }).countFires l levels

/-- Why a line does not fire, from the lane's own state: LINK, FAULT or HOLD (R262, R265). A line whose frame has started
completes (R29, R262; log entry 94). -/
def State.outOf (s : State) (l : Lane) (framed : Bool) : Option (Nat × Nat) :=
  if framed then none else
  match s.lanes[l].outCause with
  | some c => some c
  | none =>
    if s.power.dev == .fault then some (5, 0) else
    match s.lanes[l].st with
    | .armed => none
    | .firing => none
    | .hold =>
      if s.rd (.seq l) SEQ.STAT_HOLD_WHY = 3 then some (6, 0) else some (7, s.lanes[l].holdTemp)
    | .link => some (4, 0)
    | _ => some (5, 0)

/-- Why a prepared line is not sent: the HOLD that kept it, unless a cause of a lower code stands (R262, R263, R265). -/
def State.heldCause (s : State) (l : Lane) (q : PrepLine) : Option (Nat × Nat) :=
  let out := s.outOf l q.frame.isSome
  if q.frame.isSome then none else
  match q.held, out with
  | some h, some o => some (if o.1 < h.1 then o else h)
  | some h, none => some h
  | none, o => o

/-- The cause for which a line is not fired, with its DETAIL: the lowest code of R265 that stands before the checks of
R250. -/
def State.lineCause (s : State) (l : Lane) (d : Due) (p : Option PrepLine) : Option (Nat × Nat) :=
  match d.miss with
  | some (c, band, col) => some (c, band % 65536 + col % 65536 * 65536)
  | none =>
    match p with
    | some q => if q.ue then some (3, 0) else s.heldCause l q
    | none => s.outOf l false

/-- Check 1 of R250 fails: less than TMIN since the last FIRE marker, and not the lane's first line of the page. -/
def State.tooSoon (s : State) (l : Lane) (tag : LineTag) (at_ : Nat) : Bool :=
  match s.lanes[l].lastFire with
  | some f => !tag.first && decide (at_ - f < s.rd (.seq l) SEQ.TMIN)
  | none => false

/-- The frame of a prepared line has ended by the instant. -/
def frameEnded (at_ : Nat) (p : Option PrepLine) : Bool :=
  match p.bind fun (q : PrepLine) => q.frame with
  | some (_, _, stop) => decide (stop ≤ at_)
  | none => false

/-- Check 1 and check 2 of R250, in that order. -/
def State.fireChecks (s : State) (l : Lane) (tag : LineTag) (at_ : Nat) (p : Option PrepLine) : Option Nat :=
  if s.tooSoon l tag at_ then some 10 else if frameEnded at_ p then none else some 9

/-- A new lead has not sent a FIRE since it was promoted, and the line is one the old lead may not have fired (R352). -/
def State.takenOver (s : State) (l : Lane) (tag : LineTag) : Bool :=
  s.lanes[l].takeover && decide (s.pair.fWl < tag.tick)

/-- A line is not fired: it is spoiled with its cause, or held for promotion while the device is SHADOW; in FAULT nothing
reports it (R68). -/
def State.lineLost (s : State) (l : Lane) (tag : LineTag) (cause detail at_ : Nat) : State :=
  if s.power.dev == .fault then s
  else if s.shadow then
    let p : Passed := if cause < 8 then ⟨tag, cause, detail, at_⟩ else ⟨tag, 8, 0, at_⟩
    s.modLane l fun h => { h with past := p :: h.past }
  else s.spoilLine l tag cause 0 detail at_

/-- A line is skipped by a check of R250 (R251). -/
def State.lineSkipped (s : State) (l : Lane) (tag : LineTag) (cause at_ : Nat) : State :=
  let s := (s.bump (.seq l) (if cause = 10 then SEQ.SKIP else SEQ.LATE)).raise (.seq l) 12
  s.lineLost l tag (if s.takenOver l tag then 8 else cause) 0 at_

/-- The spoil record of a line that fired: SEAM for tainted values, else GUARD for drops or demotion; a line with
neither closes the run (R265, R267). -/
def State.lineReport (s : State) (l : Lane) (p : PrepLine) (at_ : Nat) : State :=
  let guarded := p.elem || decide (p.cap < 7)
  if s.shadow then s.modLane l fun h => { h with past := ⟨p.tag, 8, 0, at_⟩ :: h.past }
  else if p.taint then (s.modLane l fun h => { h with guarded := false }).spoilLine l p.tag 11 0 0 at_
  else if guarded then
    let flags := (if p.elem then flagElem else 0) + (if p.cap < 7 then flagDemote else 0)
    let s := s.when (!s.lanes[l].guarded) fun t => t.raise (.seq l) 11
    (s.modLane l fun h => { h with guarded := true }).spoilLine l p.tag 12 flags (p.cap + 65536 * min p.hurt 65535) at_
  else (s.modLane l fun h => { h with guarded := false }).flushRun l false

/-- A line fires (R250). -/
def State.lineFires (s : State) (l : Lane) (p : PrepLine) (at_ seq : Nat) : State :=
  let s := (s.sendFire l at_ seq (some p.tag) p.levels).bump (.seq l) SEQ.FIRED
  let s := (s.wr (.seq l) SEQ.LAST_WL p.tag.wl).modLane l fun h => { h with takeover := false }
  let s := { s with intake := { s.intake with pages := s.intake.pages.map fun (q : PageSt) =>
    if q.desc.id = p.tag.page then { q with lastFired := q.lastFired.setIfInBounds p.tag.plane (some p.tag.wl) } else q } }
  let s := if s.lanes[l].st == .armed then s.setLane l .firing else s
  s.lineReport l p at_

/-- A lane leaves HOLD: the lines prepared before and not sent stay unsent; the first line prepared afterwards is sent (R262,
R263). -/
def State.holdEnds (s : State) (l : Lane) : State :=
  let c := s.outOf l false
  s.modLane l fun h => { h with prep := h.prep.map fun (p : PrepLine) =>
    if p.frame.isSome || p.held.isSome then p else { p with held := c } }

/-- A SHADOW's lane enters or leaves HOLD at its line boundary as the lead's does (R336); HOLD_WHY is not in the
heartbeat: a free value from 1 to 3 (log entry 21). -/
def State.holdMirror (s : State) (l : Lane) : State :=
  if s.shadow && s.pair.holdChg.testBit l.val then
    let s := { s with pair := { s.pair with holdChg := s.pair.holdChg ^^^ 2 ^ l.val } }
    if s.pair.holdMask.testBit l.val then
      if s.prepares l then
        let (n, s) := s.draw
        (s.wr (.seq l) SEQ.STAT_HOLD_WHY (1 + Config.freeNat n % 3)).setLane l .hold
      else s
    else if s.lanes[l].st == .hold then
      ((s.holdEnds l).wr (.seq l) SEQ.STAT_HOLD_WHY 0).setLane l (if s.lanes[l].page.isSome then .firing else .idle)
    else s
  else s

/-- The line of a firing instant leaves the lane's queues: the prepared line, if it was prepared; a complete line that
was not is discarded, and the guards pass over it. -/
def State.takeDue (s : State) (l : Lane) (d : Due) : State × Option PrepLine :=
  let s := s.modLane l fun h => { h with due := h.due.tail }
  match s.lanes[l].prep with
  | p :: ps =>
    if p.tag.ord = d.tag.ord then (s.modLane l (fun h => { h with prep := ps }), some p) else (s.guardsPass l, none)
  | [] =>
    let s := s.modLane l fun h => { h with fifo := h.fifo.filter fun f => f.tag.ord != d.tag.ord }
    (s.guardsPass l, none)

/-- SEQ of the frame of a prepared line. -/
def frameSeq (q : PrepLine) : Nat :=
  match q.frame with
  | some (n, _, _) => n
  | none => 0

/-- R250. The firing instant of the lane's next line: it fires, or is not fired for the first cause that stands. -/
def execFiringInstant (l : Lane) (s : State) : Host.Outcome State Fault Refusal :=
  match s.lanes[l].due with
  | [] => .next s
  | d :: _ =>
    match d.instant with
    | none => .next s
    | some at_ =>
      if s.devUp && decide (at_ ≤ s.dclk) then
        let (s, p) := s.takeDue l d
        let framed : Bool := match p with
          | some q => q.frame.isSome
          | none => false
        let running := framed && !frameEnded at_ p && !s.shadow
        let s := match s.lineCause l d p with
          | some (c, detail) => (s.when running fun t => t.emit (.abort l.val)).lineLost l d.tag c detail at_
          | none =>
            match s.fireChecks l d.tag at_ p with
            | some c => (s.when running fun t => t.emit (.abort l.val)).lineSkipped l d.tag c at_
            | none =>
              match p with
              | some q => s.lineFires l q at_ (frameSeq q)
              | none => s
        let seen := s.pair.fClear
        let s := s.modLane l fun (h : LaneHw) => { h with past := h.past.filter fun e => decide (seen < e.tag.tick) }
        let s := s.holdMirror l
        .next (if d.tag.last then ((s.flushRun l false).flushRun l true).lanePassed l d.tag.page else s)
      else .next s

/-! ### Temperature and HOLD (R262, R263) -/

/-- A temperature reading reaches the sequencer (R22, R262, R309). -/
def State.takeTemp (s : State) (l : Lane) (t : BitVec 12) : State :=
  let s := ((s.wr (.seq l) SEQ.TEMP_READING t.toNat).wr (.seq l) SEQ.TEMP_VALID 1).modLane l fun h => { h with noTemp := 0 }
  let s := if s.rdS (.seq l) SEQ.TEMP_LIM_T_HARD ≤ signed 12 t.toNat then s.enterHold l 1 else s
  (s.autoResume l).armNext

/-- R262. TMO FIRE markers in a row without a reading place the lane in HOLD. -/
def execTempLost (l : Lane) (s : State) : Host.Outcome State Fault Refusal :=
  if s.devUp && decide (s.rd (.seq l) SEQ.TEMP_RES_TMO ≤ s.lanes[l].noTemp) then .next (s.enterHold l 2) else .next s

/-- What `SEQ.CMD.RESUME` does (R263). -/
def State.seqResume (s : State) (l : Lane) : State :=
  if s.lanes[l].st != .hold then s.errOpen (.seq l) 0x20
  else if !s.holdCleared l then s.errOpen (.seq l) (if s.rd (.seq l) SEQ.STAT_HOLD_WHY = 3 then 0x22 else 0x21)
  else
    let s := ((s.holdEnds l).wr (.seq l) SEQ.STAT_HOLD_WHY 0).raise (.seq l) 9
    if s.lanes[l].page.isSome then s.laneRuns l .firing else (s.setLane l .idle).armNext

/-- R263. A write of `SEQ.CMD.RESUME`. A lane whose page has passed goes to IDLE (log entry 22). -/
def execSeqResume (req : Req) (l : Lane) (s : State) : Host.Outcome State Fault Refusal :=
  .next <| s.command req (.seq l) 0x5C fun s => s.seqResume l

/-- R261. A guard empties once the lane has sent no FIRE marker for so many line times at 160 kHz: the element guard, or
the head guard. -/
def execGuardIdleExpiry (l : Lane) (head : Bool) (s : State) : Host.Outcome State Fault Refusal :=
  let lines := if head then s.rd (.seq l) SEQ.GUARD_H else s.rd (.seq l) SEQ.GUARD_E_WE
  let idle := match s.lanes[l].lastFire with
    | some f => decide (f + 3125 * lines ≤ s.dclk)
    | none => true
  if s.devUp && idle then
    .next (s.modLane l fun h => if head then { h with energy := [] } else { h with credit := [] })
  else .next s

/-! ### Spit lines (R73, R75, R302) -/

/-- The burst under way ends early: it counts as skipped, and the timer restarts (R75). -/
def State.spitAbort (s : State) : State :=
  match s.power.spit with
  | none => s
  | some _ =>
    let s := s.each allLanes fun t l => t.modLane l fun (h : LaneHw) => { h with spit := false }
    let s := { s with power := { s.power with spit := none, dry := 0 } }
    (s.bump .aon AON.SPIT_SKIP).raise .aon 16

/-- A lane can send a spit line: IDLE, linked, its high voltage good (R73, R264). -/
def State.spits (s : State) (l : Lane) : Bool := s.lanes[l].st == .idle && s.linkUp l && s.hvGood l

/-- A lane sends a spit line: every nozzle that is not marked dead has drop level LEVEL; it passes both guards, names no
page and no line, and is fired at once. A line sooner than TMIN after the last FIRE marker is not sent (R250). -/
def State.spitLine (s : State) (l : Lane) : State :=
  let tag : LineTag :=
    { page := 0, copy := 0, w := 0, wl := 0, tick := 0, plane := 0, ord := 0, first := false, last := false }
  if s.tooSoon l tag s.dclk then s
  else
    let s := s.takeBand l
    let set := if s.on (.seq l) SEQ.STAT_SOFT then 8 else s.rd (.seq l) SEQ.STAT_BAND
    let bank := s.rd (.wav l) WAV.BANK_ACTIVE
    let lv := s.rd .aon AON.SPIT_CTRL_LEVEL
    let levels := (List.range (s.laneN l)).map fun j => if s.mapValid l && s.mapBit l winActive j then 0 else lv
    let (s, p) := s.guards l tag levels set bank false
    let seq := s.lanes[l].seq
    (s.sendLine l bank set 0 0 true p.levels).sendFire l s.dclk seq none p.levels

end Sys2Proof.Machine
end

