-- ==== Sys2Proof/Machine/SpoilRing.lean ====
section
/-! DEFINITION. The spoil ring (R266 to R270): runs that close, records written to the spool, acknowledged and consumed,
and the overflow record. -/

namespace Sys2Proof.Machine

open Reg

/-- R267. A run open for FLUSH_US closes: the run of the lane's lines, or that of the lines reported after their
instant. -/
def execSpoilRunFlush (l : Lane) (after : Bool) (s : State) : Host.Outcome State Fault Refusal :=
  let due := match (if after then s.lanes[l].after else s.lanes[l].run) with
    | some r => decide (r.opened + 500 * s.rd .spl SPL.CTRL_FLUSH_US ≤ s.dclk)
    | none => false
  if s.devUp && due then .next (s.flushRun l after) else .next s

/-- R267. The oldest open record is written, 64 DCLK after its first run (a fifth record pushes it out as it opens). -/
def execSpoilRecordWrite (s : State) : Host.Outcome State Fault Refusal :=
  match s.spoil.opens with
  | [] => .next s
  | o :: os =>
    if s.devUp && decide (o.opened + 64 ≤ s.dclk) then .next (({ s with spoil := { s.spoil with opens := os } }).recordOut o) else .next s

/-- The 48 bytes of a record (R266). -/
def spoilBytes (r : SpoilRec) (seq phase : Nat) : List Nat :=
  bytesOf 4 seq ++ bytesOf 4 r.page ++ bytesOf 6 r.firstWl ++ bytesOf 2 r.count ++ bytesOf 8 r.lanes ++
    [r.planes % 256, r.flags % 128 + 128 * phase] ++ bytesOf 2 r.cause ++ bytesOf 2 r.copy ++ bytesOf 2 0 ++
    bytesOf 8 r.time ++ bytesOf 4 r.detail ++ bytesOf 4 0

/-- Free entries as `SPL.STAT` reports them (R268). -/
def State.ringFree (s : State) : Nat :=
  if s.on .spl HDR.PG_CTRL_EN then
    let n := 2 ^ s.rd .spl SPL.SIZE
    n - 1 - (s.rd .spl SPL.HEAD + n - s.rd .spl SPL.TAIL) % n
  else 0

/-- The overflow record takes the first entry that frees (R269). -/
def State.overflowOut (s : State) : State :=
  match s.spoil.overflow with
  | none => s
  | some (o, _) =>
    if s.spoilFree = 0 then s
    else ({ s with spoil := { s.spoil with overflow := none } }).recordOut o

/-- The overflow record has been written (R269): its event and Den entry, and the held lanes whose cause has cleared. -/
def State.overflowDone (s : State) (o : SpoilRec) : State :=
  let s := (s.flag .spl SPL.STAT_OVF s.spoil.overflow.isSome).raise .spl 10
  let s := s.denHw 8 0x60 (o.firstWl + 2 ^ 48 * (o.count + 65536 * o.detail) + 2 ^ 96 * o.lanes + 2 ^ 160 * o.planes +
    2 ^ 192 * o.page)
  s.each allLanes State.autoResume

/-- The oldest record on its way stands in the ring: HEAD advances, and PHASE inverts when it wraps to 0 (R268). -/
def State.spoilLanded (s : State) (r : SpoilRec) (seq : Nat) (rest : List (SpoilRec × Nat)) : State :=
  let n := 2 ^ s.rd .spl SPL.SIZE
  let head := s.rd .spl SPL.HEAD
  let phase := s.rd .spl SPL.STAT_PHASE
  let s := s.portWrite 3 (s.rd .spl SPL.BASE + 48 * head) ((spoilBytes r seq phase).map fun b => BitVec.ofNat 8 b)
  let s := { s with spoil := { s.spoil with flying := rest, unsignalled := s.spoil.unsignalled + 1 } }
  let s := (s.wr .spl SPL.HEAD ((head + 1) % n)).bump .spl SPL.REC_CNT
  if head + 1 = n then s.wr .spl SPL.STAT_PHASE (1 - phase) else s

/-- The SPOIL event after COAL records (R268). -/
def State.spoilSignal (s : State) : State :=
  if s.rd .spl SPL.CTRL_COAL ≤ s.spoil.unsignalled then
    ({ s with spoil := { s.spoil with unsignalled := 0 } }).raise .spl 8
  else s

/-- R268. The spool acknowledges the oldest record on its way: HEAD advances, and PHASE inverts when it wraps to 0; the
event LOW follows a fall of FREE below its mark. -/
def execSpoilWriteAck (s : State) : Host.Outcome State Fault Refusal :=
  match s.spoil.flying with
  | [] => .next s
  | (r, seq) :: rest =>
    if s.devUp && (s.ddrState == ddrActive || s.ddrState == ddrEntry) then
      let before := s.ringFree
      let s := (s.spoilLanded r seq rest).spoilSignal
      let mark := s.rd .spl SPL.LOW
      let s := s.when (decide (mark ≤ before) && decide (s.ringFree < mark)) fun t => t.raise .spl 11
      .next (if bit r.flags 2 then s.overflowDone r else s)
    else .next s

/-- What a write of `SPL.DB` does (R268). -/
def State.spoilDb (s : State) (v : Word) : State :=
  let n := 2 ^ s.rd .spl SPL.SIZE
  let tail := s.rd .spl SPL.TAIL
  let v := v.toNat % 2 ^ 20
  if n ≤ v || decide ((s.rd .spl SPL.HEAD + n - tail) % n < (v + n - tail) % n) then s.errOpen .spl 0x20
  else (s.wr .spl SPL.TAIL v).overflowOut

/-- R268. A write of `SPL.DB`: entries are freed, or it is rejected with TAIL_BAD. -/
def execSpoilDoorbell (req : Req) (v : Word) (s : State) : Host.Outcome State Fault Refusal :=
  .next <| s.gate req .spl 0x58 fun s => s.spoilDb v

end Sys2Proof.Machine
end

