-- ==== Sys2Proof/Machine/TimePtp.lean ====
section
/-! DEFINITION. The time counter, its servo, triggers, captures and the Ethernet ports (R319 to R333). -/

namespace Sys2Proof.Machine

open Reg

/-! ### The counter (R319, R320) -/

/-- A division rounded to the nearest whole number. -/
def roundDiv (a : Int) (b : Nat) : Int := (2 * a + b) / (2 * b : Nat)

/-- INC of a frequency word F (R319). -/
def incOf (f : Int) : Nat := (2 ^ 34 + roundDiv (2 ^ 34 * f) (256 * 10 ^ 9)).toNat

/-- The frequency word changes: clamped to FMAX x 256 (R319); FREQ reads it, and INC follows. -/
def State.setFreq (s : State) (f : Int) : State :=
  let lim : Int := (256 * s.rd .tim TIM.FMAX : Nat)
  let f := max (-lim) (min lim f)
  (s.wrS .tim TIM.FREQ f).wr .tim TIM.INC (incOf f)

/-- The step tag. -/
def State.tag (s : State) : Nat := s.rd .tim TIM.SERVO_STAT_TAG

/-- The servo's states (R332). -/
def svFree : Nat := 0
def svStep : Nat := 1
def svTrack : Nat := 2
def svLocked : Nat := 3
def svHold : Nat := 4

def State.servo (s : State) : Nat := s.rd .tim HDR.PG_STAT_STATE

/-- HOLD_MS counts from now (R325). -/
def State.holdFrom (s : State) : State := { s with tim := { s.tim with ofsAt := s.dclk } }

/-- The servo is TRACK with a run of 0. -/
def State.servoTrack (s : State) : State := (s.holdFrom.setPage .tim svTrack).wr .tim TIM.SERVO_STAT_RUN 0

/-! ### Triggers (R327 to R329) -/

/-- An open page that has not started names trigger k (R186). -/
def State.namesTrig (s : State) (k : Nat) : Bool :=
  s.intake.pages.any fun p => p.phase == .waiting && p.desc.mode == 1 && p.desc.trig == k

/-- The fire of trigger k counts for the next page: it is in mode 1 with TRIG = k, and no page is active (R186). -/
def State.keepsTrig (s : State) (k : Nat) : Bool :=
  !s.pageActive && match s.nextPage with
    | some p => p.desc.mode == 1 && p.desc.trig == k
    | none => false

/-- Trigger k fires (R327): the flag, the event, the Last, and on its ball the edge that is held for WIDTH. -/
def State.trigFires (s : State) (k : Nat) : State :=
  let s := (s.wr .tim TIM.TRIG_FIRED (s.rd .tim TIM.TRIG_FIRED ||| 2 ^ k)).raise .tim 8
  let s := if s.namesTrig k && !s.keepsTrig k then (s.bump .lst LST.TRIG_EARLY).raise .lst 15
    else s.pageTrig fun d => d.mode == 1 && d.trig == k
  s.when (decide (k < 8) && s.on .tim TIM.TRIG_CTRL_OUT_EN k && !s.shadow) fun t =>
    t.emit (.trig k (!t.on .tim TIM.TRIG_CTRL_POL k) (t.rd .tim TIM.TRIG_WIDTH k))

/-- After a fire: a periodic trigger stays armed for its next TIME, another disarms (R327). -/
def State.trigNext (s : State) (k : Nat) : State :=
  let per := s.rd .tim TIM.TRIG_PERIOD k
  if per = 0 then s.wr .tim TIM.TRIG_CTRL_EN 0 k else s.wr .tim TIM.TRIG_TIME (s.rd .tim TIM.TRIG_TIME k + per) k

/-- R327. The counter reaches the TIME of an armed trigger. -/
def execTriggerFire (k : Fin 16) (s : State) : Host.Outcome State Fault Refusal :=
  if s.devUp && s.on .tim TIM.TRIG_CTRL_EN k.val && decide (s.rd .tim TIM.TRIG_TIME k.val ≤ s.time) then
    .next ((s.trigFires k.val).trigNext k.val)
  else .next s

/-- A forward change of the counter passes armed triggers (R329); one whose TIME it reaches exactly fires as R327 states. -/
def State.trigPass (s : State) (old new : Nat) : State :=
  s.each (List.range 16) fun t k =>
    let at_ := t.rd .tim TIM.TRIG_TIME k
    if t.on .tim TIM.TRIG_CTRL_EN k && decide (old < at_ ∧ at_ < new) then
      let t := (t.wr .tim TIM.TRIG_STAT 1 k).trigFires k
      let per := t.rd .tim TIM.TRIG_PERIOD k
      if per = 0 then t.wr .tim TIM.TRIG_CTRL_EN 0 k
      else
        let n := (new - at_) / per
        (t.wr .tim TIM.TRIG_TIME (at_ + (n + 1) * per) k).bump .tim TIM.TRIG_MISSED n k
    else t

/-- The counter changes other than by counting (R320, R329). -/
def State.moveTime (s : State) (v : Nat) : State :=
  let old := s.time
  let new := v % 2 ^ 64
  let s := (s.wr .tim TIM.TIME new).wr .tim TIM.SERVO_STAT_TAG ((s.tag + 1) % 16)
  if old < new then s.trigPass old new else s

/-- A TIME_SET or TIME_ADJ moves the servo to TRACK (R325). -/
def State.timeWritten (s : State) : State := if s.servo = svFree then s else s.servoTrack

/-- A write of the pair TIME_SET (R320). -/
def State.timeSetWrite (s : State) (v : Nat) : State :=
  ({ s with tim := { s.tim with frac := 0 } }.moveTime v).timeWritten

/-- A write of the pair TIME_ADJ (R320). -/
def State.timeAdjWrite (s : State) (v : Nat) : State := (s.moveTime (s.time + v)).timeWritten

/-- R320. A write of `TIM.TIME_SET`. -/
def execTimeSet (req : Req) (ns : BitVec 64) (s : State) : Host.Outcome State Fault Refusal :=
  .next <| s.gate req .tim 0x50 fun s => s.timeSetWrite ns.toNat

/-- R320. A write of `TIM.TIME_ADJ`. -/
def execTimeAdj (req : Req) (ns : BitVec 64) (s : State) : Host.Outcome State Fault Refusal :=
  .next <| s.gate req .tim 0x58 fun s => s.timeAdjWrite ns.toNat

/-! ### The servo (R325, R326) -/

/-- The PI update with an offset. -/
def State.servoPi (s : State) (o : Int) : State :=
  let lim : Int := (256 * s.rd .tim TIM.FMAX : Nat)
  let cl (v : Int) : Int := max (-lim) (min lim v)
  let i := cl (s.rdS .tim TIM.INTEG - s.rd .tim TIM.GAIN_KI * o)
  (s.wrS .tim TIM.INTEG i).setFreq (cl (i - s.rd .tim TIM.GAIN_KP * o))

/-- An accepted offset in TRACK, LOCKED or HOLDOVER. -/
def State.servoTrackOffset (s : State) (o : Int) : State :=
  let lim := s.rd .tim TIM.STEP_LIMIT
  let locked := s.servo == svLocked
  if lim < o.natAbs then
    let c : Int := if 0 ≤ o then lim else -(lim : Int)
    ((((s.servoPi c).bump .tim TIM.BIG_CNT).raise .tim 13).servoTrack)
  else if locked && decide (s.rd .tim TIM.LOCK_WIN_UNLOCK_WINDOW < o.natAbs) then
    ((s.servoPi o).raise .tim 11).servoTrack
  else
    let s := s.servoPi o
    let base := if s.servo = svHold then 0 else s.rd .tim TIM.SERVO_STAT_RUN
    let run := if o.natAbs ≤ s.rd .tim TIM.LOCK_WIN_LOCK_WINDOW then min (base + 1) 15 else 0
    let s := s.wr .tim TIM.SERVO_STAT_RUN run
    if locked then s
    else if s.rd .tim TIM.SERVO_CTRL_LOCK_N ≤ run then
      (((s.setPage .tim svLocked).raise .tim 10).bump .tim TIM.LOCK_CNT)
    else s.setPage .tim svTrack

/-- An offset written with its tag (R325). -/
def State.offsetTake (s : State) (ns tag : Nat) : State :=
  if !s.on .tim TIM.SERVO_CTRL_EN then s
  else if tag != s.tag then s.bump .tim TIM.DISCARD_CNT
  else
    let o := signed 48 ns
    let s := (s.holdFrom.wr .tim TIM.LAST_OFS ns).bump .tim TIM.OFS_CNT
    if s.servo = svStep then
      if s.rd .tim TIM.STEP_LIMIT < o.natAbs then
        let s := s.moveTime (unsigned 64 ((s.time : Int) - o))
        (((s.bump .tim TIM.STEP_CNT).raise .tim 12).servoTrack)
      else (s.servoPi o).servoTrack
    else s.servoTrackOffset o

/-- R325. An offset written to `TIM.OFFSET`. -/
def execOffsetWrite (req : Req) (ns : BitVec 48) (tag : BitVec 4) (s : State) : Host.Outcome State Fault Refusal :=
  .next <| s.gate req .tim 0x80 fun s => s.offsetTake ns.toNat tag.toNat

/-- What a write of `SERVO_CTRL` does once it is stored: EN and REARM (R325, R326). F stays as FREQ reads it when EN falls
(log entry 26). -/
def State.servoCtrl (s : State) (was : Bool) (data : Nat) : State :=
  let now := s.on .tim TIM.SERVO_CTRL_EN
  let s := if now && !was then (s.wrS .tim TIM.INTEG (s.rdS .tim TIM.FREQ)).setPage .tim svStep
    else if was && !now then s.setPage .tim svFree else s
  if bit data 1 && s.servo != svFree then s.setPage .tim svStep else s

/-- A write of `SERVO_CTRL` as a whole word. -/
def State.servoCtrlWrite (s : State) (req : Req) (data : Nat) : State :=
  let was := s.on .tim TIM.SERVO_CTRL_EN
  s.wordWrite req .tim 0x68 data fun t => t.servoCtrl was data

/-- R325. A write of `SERVO_CTRL` that writes EN. -/
def execServoEnWrite (req : Req) (data : Word) (s : State) : Host.Outcome State Fault Refusal :=
  .next <| s.gate req .tim 0x68 fun s => s.servoCtrlWrite req data.toNat

/-- R325. A write of `SERVO_CTRL.REARM`. -/
def execServoRearm (req : Req) (data : Word) (s : State) : Host.Outcome State Fault Refusal :=
  .next <| s.gate req .tim 0x68 fun s => s.servoCtrlWrite req (data.toNat ||| 2)

/-- R325. No offset for HOLD_MS. -/
def execServoHoldover (s : State) : Host.Outcome State Fault Refusal :=
  let st := s.servo
  let due := s.tim.ofsAt + 500000 * s.rd .tim TIM.SERVO_CTRL_HOLD_MS
  if s.devUp && (st == svTrack || st == svLocked) && decide (due ≤ s.dclk) then
    let s := (s.setFreq (s.rdS .tim TIM.INTEG)).when (st == svLocked) fun t => t.raise .tim 11
    .next ((s.raise .tim 14).setPage .tim svHold)
  else .next s

/-! ### Arming and captures -/

/-- A write of `TRIG.CTRL` (R328; a periodic trigger armed late: log entry 99). -/
def State.trigCtrlWrite (s : State) (req : Req) (k : Nat) (data : Nat) : State :=
  let off := 0x210 + 32 * k
  let was := s.on .tim TIM.TRIG_CTRL_EN k
  let rest := bits data 2 1 != s.rd .tim TIM.TRIG_CTRL_OUT_EN k + 2 * s.rd .tim TIM.TRIG_CTRL_POL k
  if decide (8 ≤ k) && bit data 1 then s.errAt .tim Err.badValue off req.code
  else if was && rest then s.errAt .tim 0x20 off req.code
  else
    s.wordWrite req .tim off data fun t =>
      if bit data 0 && !was && decide (t.rd .tim TIM.TRIG_TIME k < t.time) then
        ((((t.wr .tim TIM.TRIG_STAT 1 k).errOpen .tim 0x21).raise .tim 15).trigFires k).trigNext k
      else t

/-- R328. A write of `TRIG.CTRL`. -/
def execTrigArm (req : Req) (k : Fin 16) (data : Word) (s : State) : Host.Outcome State Fault Refusal :=
  .next <| s.gate req .tim (0x210 + 32 * k.val) fun s => s.trigCtrlWrite req k.val data.toNat

/-- The time a capture records for its source (R330). -/
def State.captureTime (s : State) (k : Nat) : Nat :=
  let src := s.rd .tim TIM.CAP_CFG_SRC k
  if src < 8 then s.time - 8
  else if src = 8 then s.rd .pace PACE.TICK_TIME
  else if src = 12 then
    let j := s.rd .tim TIM.CAP_CFG_ARG k
    s.rd .tim TIM.TRIG_TIME j - (if s.on .tim TIM.TRIG_CTRL_EN j then s.rd .tim TIM.TRIG_PERIOD j else 0)
  else s.time - 12

/-- R330. A qualifying event of a capture's source. -/
def execCaptureEvent (k : Fin 16) (s : State) : Host.Outcome State Fault Refusal :=
  let k := k.val
  if s.devUp && s.on .tim TIM.CAP_CFG_EN k then
    if s.on .tim TIM.CAP_STAT k then .next (s.bump .tim TIM.CAP_LOST 1 k)
    else
      let s := (s.wr .tim TIM.CAP_TIME (s.captureTime k) k).wr .tim TIM.CAP_WL_WL (s.rd .pace PACE.WL) k
      let s := (s.wr .tim TIM.CAP_WL_TAG s.tag k).wr .tim TIM.CAP_STAT 1 k
      .next ((s.wr .tim TIM.CAP_VALID (s.rd .tim TIM.CAP_VALID ||| 2 ^ k)).raise .tim 9)
  else .next s

/-- R331. The X32 error over 2^20 X32 ticks, which must have passed while the device is up. -/
def execX32Measure (ppb : BitVec 31) (s : State) : Host.Outcome State Fault Refusal :=
  if s.devUp && decide (2 ^ 20 ≤ s.tim.x32n) then
    let s := { s with tim := { s.tim with x32n := s.tim.x32n - 2 ^ 20 } }
    .next ((s.wr .tim TIM.X32_PPB_PPB ppb.toNat).wr .tim TIM.X32_PPB_VALID 1)
  else .next s

/-! ### Ethernet (R322 to R324, R333) -/

/-- Bytes of the spool as numbers. -/
def State.spoolBytes (s : State) (a n : Nat) : List Nat := (Memory.readAll s.ddr.mem a n).map fun b => b.toNat

/-- Bytes of a ring descriptor written back in place. -/
def State.spoolPut (s : State) (a : Nat) (l : List Nat) : State := s.portWrite 3 a (l.map fun b => BitVec.ofNat 8 b)

/-- A tail written with an index that its ring does not have: R108 with RING_BUSY for the codes of INT (R333, log entry 97). -/
def State.ethTailBad (s : State) (p : Page) (off data : Nat) : Bool :=
  (off == 0x6C && decide (2 ^ s.rd p ETH.RXR_SIZE ≤ data % 4096)) ||
    (off == 0x7C && decide (2 ^ s.rd p ETH.TXR_SIZE ≤ data % 4096))

/-- R323. A write of the transmit tail. -/
def execEthTxTail (req : Req) (p : Fin 2) (v : Word) (s : State) : Host.Outcome State Fault Refusal :=
  .next <| s.gate req (.eth p) 0x7C fun s =>
    if s.ethTailBad (.eth p) 0x7C v.toNat then s.errAt (.eth p) 0x20 0x7C req.code
    else s.wordWrite req (.eth p) 0x7C v.toNat fun t => t

/-- The 16-bit one's complement sum of bytes that begin at an even (or odd) place. -/
def onesSum : Bool → List Nat → Nat
  | _, [] => 0
  | odd, b :: l => (if odd then b else 256 * b) + onesSum (!odd) l

/-- A sum folded to 16 bits. -/
def onesFold (n : Nat) : Nat :=
  let a := n % 65536 + n / 65536
  let b := a % 65536 + a / 65536
  b % 65536 + b / 65536

/-- Part of a byte string replaced. -/
def splice (l : List Nat) (at_ : Nat) (new : List Nat) : List Nat := l.take at_ ++ new ++ l.drop (at_ + new.length)

/-- A number as n bytes, most significant first. -/
def bytesBe (n v : Nat) : List Nat := (bytesOf n v).reverse

/-- A one-step Sync: the departure time at ONE_OFF and, where CSUM_OFF is not 0, the checksum corrected (R324). -/
def oneStep (frame : List Nat) (off csum t : Nat) : List Nat :=
  let new := bytesBe 6 (t / 10 ^ 9) ++ bytesBe 4 (t % 10 ^ 9)
  let old := (frame.drop off).take 10
  let f := splice frame off new
  if csum = 0 then f
  else
    let odd := (off + csum) % 2 == 1
    let c := 256 * frame.getD csum 0 + frame.getD (csum + 1) 0
    let n := onesFold ((65535 - c) + (655350 - onesSum odd old) + onesSum odd new)
    splice f csum (bytesBe 2 (65535 - n))

/-- A time in ns moved by a latency in ps. -/
def psAfter (t ps : Nat) : Nat := (1000 * t + ps) / 1000
def psBefore (t ps : Nat) : Nat := (1000 * t - ps) / 1000

/-- R324. The frame of the transmit ring's head descriptor is sent, or completes with DESC_BAD. -/
def execEthTxDone (p : Fin 2) (s : State) : Host.Outcome State Fault Refusal :=
  let e := Page.eth p
  let n := 2 ^ s.rd e ETH.TXR_SIZE
  let head := s.rd e ETH.TXR_HEAD
  if s.devUp && s.on e HDR.PG_CTRL_EN && s.rd e HDR.PG_STAT_STATE == 2 && head != s.rd e ETH.TXR_TAIL % n &&
      s.ddrState == ddrActive then
    let at_ := s.rd e ETH.TXR_BASE + 32 * head
    let d := s.spoolBytes at_ 32
    let len := ofBytes ((d.drop 8).take 2)
    let flags := d.getD 10 0
    let off := ofBytes ((d.drop 12).take 2)
    let csum := ofBytes ((d.drop 14).take 2)
    let bad := bit flags 1 && (!bit flags 0 || decide (len < off + 10) || decide (len < csum + 2 ∧ csum ≠ 0))
    let stamp := psAfter s.time (s.rd e ETH.TX_LAT)
    let frame := s.spoolBytes (ofBytes (d.take 8)) len
    let out := if bit flags 1 then oneStep frame off csum stamp else frame
    let s := if bad then s.errOpen e 0x21 else (s.emit (.ethTx p.val out)).bump e ETH.TX_FRAMES
    let back := splice d 10 [flags ||| 4, if bit flags 0 then s.tag else d.getD 11 0]
    let back := if bit flags 0 && !bad then splice back 16 (bytesOf 8 stamp) else back
    .next (((s.spoolPut at_ back).wr e ETH.TXR_HEAD ((head + 1) % n)).raise e 11)
  else .next s

/-- The PTP multicast addresses and broadcast (R322). -/
def ethGroups : List (List Nat) :=
  [[0xFF, 0xFF, 0xFF, 0xFF, 0xFF, 0xFF], [0x01, 0x1B, 0x19, 0, 0, 0], [0x01, 0x80, 0xC2, 0, 0, 0x0E],
   [0x01, 0x00, 0x5E, 0x00, 0x01, 0x81], [0x01, 0x00, 0x5E, 0x00, 0x00, 0x6B], [0x33, 0x33, 0, 0, 0x01, 0x81],
   [0x33, 0x33, 0, 0, 0, 0x6B]]

/-- R324. A frame is received: filtered, counted, and stored in the next receive descriptor, or dropped. `bytes` is the
frame without its FCS; `bad` says that the FCS did not match. -/
def execEthRxFrame (p : Fin 2) (bytes : List Byte) (bad : Bool) (s : State) : Host.Outcome State Fault Refusal :=
  let e := Page.eth p
  let l := bytes.map fun b => b.toNat
  let mac := bytesBe 6 (s.rd e ETH.MAC)
  let mine := s.on e ETH.CFG_PROMISC || l.take 6 == mac || ethGroups.contains (l.take 6)
  if s.devUp && s.on e HDR.PG_CTRL_EN && s.rd e HDR.PG_STAT_STATE == 2 && mine &&
      decide (60 ≤ l.length ∧ l.length ≤ 2044) then
    let n := 2 ^ s.rd e ETH.RXR_SIZE
    let head := s.rd e ETH.RXR_HEAD
    let s := (s.bump e ETH.RX_FRAMES).when bad fun t => t.bump e ETH.RX_FCS
    if head = s.rd e ETH.RXR_TAIL % n || s.ddrState != ddrActive then .next (s.bump e ETH.RX_DROP)
    else
      let at_ := s.rd e ETH.RXR_BASE + 32 * head
      let d := s.spoolBytes at_ 32
      let room := ofBytes ((d.drop 8).take 2)
      let kept := l.take room
      let flags := 4 + 8 * bad.toNat + 16 * (decide (room < l.length)).toNat
      let stamp := psBefore s.time (s.rd e ETH.RX_LAT)
      let back := splice (splice d 8 (bytesOf 2 kept.length ++ [flags, s.tag])) 16 (bytesOf 8 stamp)
      let s := (s.spoolPut (ofBytes (d.take 8)) kept).spoolPut at_ back
      .next ((s.wr e ETH.RXR_HEAD ((head + 1) % n)).raise e 10)
  else .next s

/-- R333. A port's link comes up. -/
def execEthLinkUp (p : Fin 2) (s : State) : Host.Outcome State Fault Refusal :=
  if s.devUp && s.on (.eth p) HDR.PG_CTRL_EN && s.rd (.eth p) HDR.PG_STAT_STATE != 2 then
    .next ((s.setPage (.eth p) 2).raise (.eth p) 8)
  else .next s

/-- R333. A port's link goes down; 1000BASE-X negotiates again. -/
def execEthLinkDown (p : Fin 2) (s : State) : Host.Outcome State Fault Refusal :=
  let e := Page.eth p
  if s.devUp && s.rd e HDR.PG_STAT_STATE == 2 then
    let an := s.on e ETH.CFG_SPEED && s.on e ETH.CFG_AN_EN && s.on e HDR.PG_CTRL_EN
    .next ((s.setPage e (if an then 1 else 0)).raise e 9)
  else .next s

end Sys2Proof.Machine
end

