-- ==== Sys2Proof/Machine/Boot.lean ====
section
/-! DEFINITION. Boot (R90 to R97, R159): the image checks, the cold and the warm boot, host push, DDR5 training. SHA-256
and ECDSA P-256 are standards the spec names: `Config.sha256` and `Config.ecdsaP256` (log entry 32). -/

namespace Sys2Proof.Machine

open Reg

/-! ### Stages and ends (R94, R97, R389) -/

/-- The stage of the boot. -/
def State.stage (s : State) : Nat := s.rd .core CORE.BOOT_STAT_STAGE

/-- The stage changes. -/
def State.setStage (s : State) (v : Nat) : State := s.wr .core CORE.BOOT_STAT_STAGE v

/-- The word of `CORE.BOOT_STAT`. -/
def State.bootStat (s : State) : Nat :=
  s.stage + s.rd .core CORE.BOOT_STAT_SRC * 16 + s.rd .fuse FUSE.SEC_SECURE * 64 + 128 * s.rd .core CORE.BOOT_STAT_WARM +
    256 * s.rd .core CORE.BOOT_STAT_KEY_SLOT + 65536 * s.rd .core CORE.BOOT_STAT_SVN

/-- The word of `PWR.WAKE_CAUSE`. -/
def State.wakeCause (s : State) : Nat :=
  s.rd .pwr PWR.WAKE_CAUSE_ALARM + s.rd .pwr PWR.WAKE_CAUSE_SPIT * 2 + s.rd .pwr PWR.WAKE_CAUSE_CMP * 4 +
    256 * s.rd .pwr PWR.WAKE_CAUSE_WAKE_REQ + 512 * s.rd .pwr PWR.WAKE_CAUSE_PERST + 1024 * s.rd .pwr PWR.WAKE_CAUSE_COLD

/-- The BOOT entry of the Den (R389). -/
def State.denBoot (s : State) (code : Nat) : State :=
  s.denHw 7 0x06 (s.bootStat + 2 ^ 32 * code + 2 ^ 48 * s.wakeCause + 2 ^ 64 * s.rd .core HDR.PG_ERR_INFO)

/-- A CORE error; where the spec gives no offset into the image, its information is a free value (log entry 11). -/
def State.coreErr (s : State) (nn : Nat) (info : Option Nat) : State :=
  match info with
  | some v => s.err .core nn v
  | none => s.errOpen .core nn

/-- Nothing has been read of an image. -/
def State.bootFresh (s : State) : State :=
  { s with cores := { s.cores with push := [], image := [], bootHdr := [], pushOvf := false } }

/-- A boot fails (R93, R94): with BOOTSEL = 2 a failure of the QSPI source moves to host push; else STAGE is FAILED. -/
def State.bootFail (s : State) (nn : Nat) (info : Option Nat) : State :=
  let s := s.coreErr nn info
  if s.cores.bootsel = 2 && s.rd .core CORE.BOOT_STAT_SRC == 0 then (s.bootFresh.wr .core CORE.BOOT_STAT_SRC 1).setStage 1
  else ((s.setStage 7).raise .core 18).denBoot (0x0600 + nn)

/-- A cold boot begins with the source BOOTSEL names (R90): every preset is gone (R138). `train` tells that DDR5 training is
part of it (R95). SRC shows 0 while QSPI is the source and 1 while host push is; with BOOTSEL = 3 it stays 0 (log entry 64).
-/
def State.bootCold (s : State) (train : Bool) : State :=
  let sel := s.cores.bootsel
  let s := { s.bootFresh with cores := { s.bootFresh.cores with needTrain := train } }.clearPresets
  let s := (s.wr .core CORE.BOOT_STAT_WARM 0).wr .core CORE.BOOT_STAT_SRC (if sel = 1 then 1 else 0)
  if sel = 3 then s.bootFail 0x28 none else s.setStage (if sel = 1 then 1 else 2)

/-! ### The header (R92, R93) -/

/-- A field of an image: n bytes from an offset, little-endian. -/
def imgField (l : List Byte) (off n : Nat) : Nat := ofBytes (((l.drop off).take n).map fun b => b.toNat)

/-- Bytes of an image. -/
def imgBytes (l : List Byte) (off n : Nat) : List Byte := (l.drop off).take n

/-- A length in its range and a multiple of 64. -/
def lenOk (v lo hi : Nat) : Bool := decide (lo ≤ v ∧ v ≤ hi) && v % 64 == 0

/-- An application core address inside the carve-out (R88, R89). -/
def inCarveOut (a : Nat) : Bool := decide (0x8000000000 ≤ a ∧ a < 0x8000000000 + 0x4000000)

/-- Step 2 of R93: the offset of the first field outside its range. -/
def headerRange (h : List Byte) : Option Nat :=
  let f := imgField h
  if 3 < f 6 1 then some 6
  else if f 7 1 ≠ 0 then some 7
  else if 64 < f 8 4 then some 8
  else if !lenOk (f 0xC 4) 64 1638400 then some 0xC
  else if !lenOk (f 0x10 4) 64 65536 || decide (f 0xC 4 ≤ f 0x10 4) then some 0x10
  else if 1572864 < f 0xC 4 - f 0x10 4 then some 0xC
  else if f 0x14 4 ≠ 0 then some 0x14
  else if !inCarveOut (f 0x18 8) then some 0x18
  else if !inCarveOut (f 0x20 8) then some 0x20
  else if !(decide (0x20000000 ≤ f 0x28 4 ∧ f 0x28 4 < 0x20010000)) then some 0x28
  else if f 0x2C 20 ≠ 0 then some 0x2C
  else if f 0xA0 96 ≠ 0 then some 0xA0
  else none

/-- Bits set in the thermometer code (R96). -/
def onesIn (n v : Nat) : Nat := ((List.range n).filter fun i => v.testBit i).length

/-- Steps 1 to 6 of R93: the code of the first check that fails, with the offset of its field (log entry 33). -/
def State.headerFails (s : State) (h : List Byte) : Option (Nat × Nat) :=
  let f := imgField h
  let slot := f 6 1
  if f 0 4 ≠ 0xA9C0B001 then some (0x20, 0)
  else if f 4 2 ≠ 1 then some (0x20, 4)
  else
    match headerRange h with
    | some off => some (0x21, off)
    | none =>
      if (s.rd .fuse FUSE.SEC_KEY_REVOKE).testBit slot then some (0x22, 6)
      else if s.on .fuse FUSE.SEC_SECURE && (Config.sha256 (imgBytes h 0x60 64)).toNat != s.rd .fuse FUSE.KEY_HASH slot then
        some (0x23, 0x60)
      else if f 8 4 < onesIn 64 (s.rd .fuse FUSE.SVN) then some (0x24, 8)
      else if !Config.ecdsaP256 (imgBytes h 0x60 64) (imgBytes h 0x1C0 64) (Config.sha256 (imgBytes h 0 0x1C0)) then
        some (0x25, 0x1C0)
      else none

/-- Step 8 of R93: the body is whole and has the hash the header gives. -/
def bodyOk (h body : List Byte) : Bool :=
  body.length == imgField h 0xC 4 && (Config.sha256 body).toNat == imgField h 0x40 32

/-- The ROM hands over (R93, R97): the safety core and application core 0 run, watchdog 4 runs, route 6 is set. -/
def State.bootOk (s : State) (h : List Byte) : State :=
  let s := (s.wr .core CORE.BOOT_STAT_KEY_SLOT (imgField h 6 1)).wr .core CORE.BOOT_STAT_SVN (imgField h 8 4)
  let s := (s.wr .core CORE.HART_CTRL_RUN 1).wr .core CORE.HART_STAT_RUNNING 1
  let s := (s.wr .core CORE.HART_STAT_WDT_HALT 0).wr .core CORE.HART_STAT_SAFE_RUN 1
  let s := s.wr .core CORE.WDT_EN 1 4
  let s := { s with cores := { s.cores with
    expired := Vector.replicate 5 false, kicked := s.cores.kicked.set 4 s.dclk } }
  let s := (s.wr .evt EVT.ROUTE_SAFE_EN 1 6).wr .evt EVT.ROUTE_CORE_EN 1 6
  ((s.setStage 6).raise .core 17).denBoot 0

/-- The safety section is placed in the local memory of the power and safety core, from its first byte up (R93, log entry
65). -/
def State.safePlace (s : State) (l : List Byte) : State :=
  { s with cores := { s.cores with safeMem := Memory.writeAll [] 0 l } }

/-- The ROM's copies (R93): in the carve-out header, main section, and the safety section after it; in the safety core's local
memory the safety section. -/
def State.bootStore (s : State) (h body : List Byte) : State :=
  let safe := imgField h 0x10 4
  let s := (s.portWrite 3 0 h).portWrite 3 0x200 (body.drop safe)
  (s.portWrite 3 (0x200 + (imgField h 0xC 4 - safe)) (body.take safe)).safePlace (body.take safe)

/-! ### DRAM_PARAM (R155, R157, R158) -/

/-- A field of DRAM_PARAM, n bytes from an offset, in a header (R92, R157). -/
def paramField (h : List Byte) (off n : Nat) : Nat := imgField h (0x100 + off) n

/-- DRAM_PARAM breaks R155 or R157. -/
def dramBad (h : List Byte) : Bool :=
  let f := paramField h
  f 0 2 != 1 || decide (1 < f 2 1) || decide (3 < f 3 1) || !(decide (1 ≤ f 4 1 ∧ f 4 1 ≤ 2)) || f 5 3 != 0 ||
    !(decide (1000 ≤ f 0x2A 2 ∧ f 0x2A 2 ≤ 3900)) || f 0x2C 4 != 0 || f 0x74 76 != 0 || decide (4 < (f 3 1 + 1) * f 4 1)

/-- The configuration that DRAM_PARAM gives (R157, R175). -/
def State.dramConfig (s : State) (h : List Byte) : State :=
  let f := paramField h
  let s := ((s.wr .ddr DDR.CFG_RATE (f 2 1)).wr .ddr DDR.CFG_DENSITY (f 3 1)).wr .ddr DDR.CFG_RANK2 (f 4 1 - 1)
  let s := { s with ddr := { s.ddr with trefi := f 0x2A 2 } }
  s.wr .ddr DDR.CFG_SIZE_GIB (16 * (f 3 1 + 1) * f 4 1)

/-- DDR5 training fails (R159): DDR enters FAILED and the boot ends at step 7. -/
def State.trainFail (s : State) (nn : Nat) : State := ((s.setDdr ddrFailed).errOpen .ddr nn).bootFail 0x26 (some 0x100)

/-- Step 7 of R93 begins: the ROM sets `CLK.MSEL.RATE` from RATE (R158), and training runs; a DRAM_PARAM that breaks R155 or
R157 fails before any step. -/
def State.trainStart (s : State) (h : List Byte) : State :=
  if dramBad h then (s.setStage 3).trainFail 0x21
  else
    let s := (s.setStage 3).setDdr ddrTraining
    s.wr .clk CLK.MSEL (1 - paramField h 2 1)

/-! ### The boot (R93, R95) -/

/-- Step 8 on the body that has been read. -/
def State.bootBody (s : State) (h body : List Byte) : State :=
  if bodyOk h body then (s.bootStore h body).bootOk h else s.bootFail 0x27 (some 0x40)

/-- The header of the image has been read: steps 1 to 6, then training where the boot has it. -/
def State.bootHead (s : State) (h : List Byte) : State :=
  match s.headerFails h with
  | some (nn, off) => s.bootFail nn (some off)
  | none =>
    let s := { s with cores := { s.cores with bootHdr := h } }
    if s.cores.needTrain then s.trainStart h else s.setStage 4

/-- The body of the image has been read, as far as the source gives it: in host push the ROM waits for the rest. -/
def State.bootRest (s : State) (l : List Byte) : State :=
  let h := s.cores.bootHdr
  let n := imgField h 0xC 4
  if s.rd .core CORE.BOOT_STAT_SRC == 1 && decide (l.length < 512 + n) then s else s.bootBody h (imgBytes l 512 n)

/-- The boot goes on with the image it has read: the header, and where nothing stands between them the body too. -/
def State.bootGo (s : State) (l : List Byte) : State :=
  if s.stage = 4 then s.bootRest l
  else if s.stage = 3 then s
  else if s.rd .core CORE.BOOT_STAT_SRC == 1 && decide (l.length < 512) then s
  else
    let t := s.bootHead (l.take 512)
    if t.stage = 4 then t.bootRest l else t

/-- A boot runs: its stage is neither RUNNING nor FAILED. -/
def State.booting (s : State) : Bool := decide (s.stage ≤ 4)

/-- R93. The boot ROM has read what the source of the image gives. From QSPI that is `img`, or nothing where the device gave no
valid read within 10 ms; in host push it is what the ROM has taken out of the push buffer (R91), whatever `img` holds. An image
whose header passes waits for DDR5 training (STAGE 3), and its body is checked once that has ended. -/
def execBootComplete (img : Option (List Byte)) (s : State) : Host.Outcome State Fault Refusal :=
  if s.devUp && s.booting then
    if s.rd .core CORE.BOOT_STAT_SRC == 1 then .next (s.bootGo s.cores.image)
    else match img with
      | none => .next (if s.stage = 3 then s else s.bootFail 0x29 none)
      | some l => .next (s.bootGo l)
  else .next s

/-- What the warm check reads in the carve-out, header and body; none where a burst is uncorrectable (R95, R171). -/
def State.warmImage (s : State) : Option (List Byte × List Byte) × State :=
  match s.portRead 3 0 512 with
  | (none, s) => (none, s)
  | (some h, s) =>
    let len := imgField h 0xC 4
    let safe := imgField h 0x10 4
    if (s.headerFails h).isSome then (some (h, []), s)
    else
      match s.portRead 3 (0x200 + (len - safe)) safe with
      | (none, s) => (none, s)
      | (some a, s) =>
        match s.portRead 3 0x200 (len - safe) with
        | (none, s) => (none, s)
        | (some b, s) => (some (h, a ++ b), s)

/-- The warm check (R95): steps 1 to 6 and 8 over the carve-out, then the safety section is reloaded from its copy. A failure
records RESUME_FAIL and falls back to a cold boot without training. -/
def State.bootWarm (s : State) : State :=
  let s := (s.wr .core CORE.BOOT_STAT_WARM 1).setStage 5
  match s.warmImage with
  | (none, s) => (s.coreErr 0x2B none).bootCold false
  | (some (h, body), s) =>
    match s.headerFails h with
    | some (_, off) => (s.coreErr 0x2B (some off)).bootCold false
    | none =>
      if bodyOk h body then
        let s := { s with
          cores := { s.cores with bootHdr := h }, ddr := { s.ddr with trefi := paramField h 0x2A 2 } }
        (s.safePlace (body.take (imgField h 0x10 4))).bootOk h
      else (s.coreErr 0x2B (some 0x40)).bootCold false

/-! ### Host push and restart (R91, R94) -/

/-- R91. A word is written to `CORE.PUSH_DATA`. Outside a host-push boot it has no effect (log entry 66). The offset of a
discarded word in the image is the information of PUSH_OVF (R97). -/
def State.pushWrite (s : State) (data : Nat) : State :=
  if s.booting && s.rd .core CORE.BOOT_STAT_SRC == 1 then
    if 4096 < s.cores.push.length + 4 then
      { s with cores := { s.cores with pushOvf := true } }.bootFail 0x2A (some (s.cores.image.length + s.cores.push.length))
    else { s with cores := { s.cores with push := s.cores.push ++ bytesOf 4 data } }
  else s

/-- R91. A write of `CORE.PUSH_DATA`. -/
def execPushData (req : Req) (data : Word) (s : State) : Host.Outcome State Fault Refusal :=
  .next <| s.gate req .core 0x48 fun s => s.pushWrite data.toNat

/-- `CORE.BOOT_CMD.RESTART` (R94). -/
def State.bootRestart (s : State) (req : Req) : State :=
  if s.stage = 7 || s.stage = 1 then s.bootCold true else s.errAt .core 0x2E 0x44 req.code

/-- R94. A write of `CORE.BOOT_CMD` with RESTART = 1. -/
def execBootRestart (req : Req) (s : State) : Host.Outcome State Fault Refusal :=
  .next <| s.gate req .core 0x44 fun s => s.bootRestart req

/-- The boot ROM takes some of the bytes that wait in the push buffer: they are the next of the image (R91). How many it takes
at a time the spec does not say (a free value). -/
def State.pushDrain (s : State) : State :=
  if s.cores.push.isEmpty || !s.booting then s
  else
    let (n, s) := s.draw
    let k := Config.freeNat n % (s.cores.push.length + 1)
    { s with cores := { s.cores with
      push := s.cores.push.drop k, image := s.cores.image ++ (s.cores.push.take k).map fun b => BitVec.ofNat 8 b } }

/-! ### DDR5 training (R159) -/

/-- The error code of a failing step of training (R176). -/
def trainCode (step : Nat) : Nat :=
  if step = 2 then 0x20 else if step = 3 then 0x21 else if step = 4 ∨ step = 5 then 0x22 else if step = 6 then 0x23 else 0x24

/-- The first byte lane whose read eye, else whose write eye, is below 300 milli-UI: the step that centres it, and the lane
(R159). -/
def eyeFails (eyes : List (BitVec 16 × BitVec 16)) : Option (Nat × Nat) :=
  match (List.range 5).find? fun b => decide ((eyes.getD b (0, 0)).1.toNat < 300) with
  | some b => some (5, b)
  | none => ((List.range 5).find? fun b => decide ((eyes.getD b (0, 0)).2.toNat < 300)).map fun b => (6, b)

/-- The failing step of a sub-channel and its byte lane: the one at which training stopped, or that of an eye that is too
small. -/
def trainFails (r : BitVec 3 × BitVec 3 × List (BitVec 16 × BitVec 16)) : Option (Nat × Nat) :=
  if r.1 = 0 then eyeFails r.2.2 else some (r.1.toNat, r.2.1.toNat)

/-- What training gives of each sub-channel: the step at which it stopped with its byte lane, and the eyes of the byte lanes. -/
def trainResults (stops : List (BitVec 3 × BitVec 3)) (eyes : List (List (BitVec 16 × BitVec 16))) :
    List (BitVec 3 × BitVec 3 × List (BitVec 16 × BitVec 16)) :=
  (stops.zip eyes).map fun e => (e.1.1, e.1.2, e.2)

/-- A sub-channel's training has ended. -/
def State.subTrained (s : State) (k : Fin 4) (r : BitVec 3 × BitVec 3 × List (BitVec 16 × BitVec 16)) : State :=
  let p : Page := .ddrs k
  let (step, lane) := (trainFails r).getD (0, 0)
  let s := ((s.wr p DDRS.TRAIN_DONE 1).flag p DDRS.TRAIN_PASS (step == 0)).wr p DDRS.TRAIN_STEP step
  let s := s.wr p DDRS.TRAIN_LANE lane
  let s := s.each (r.2.2.zip (List.range 5)) fun t e => (t.wr p DDRS.EYE_RD e.1.1.toNat e.2).wr p DDRS.EYE_WR e.1.2.toNat e.2
  if step = 0 then s else s.err p (trainCode step) lane

/-- R159. DDR5 training with the DRAM_PARAM of the header that passed steps 1 to 6 ends: for each sub-channel the step at which
it stopped (0: none) with its byte lane, and the read and write eyes of the byte lanes, each of which must be at least 300
milli-UI. On success the ROM sets `DDR.PG_CTRL.EN` and goes on to the body. -/
def execDdrTrainingDone (stops : List (BitVec 3 × BitVec 3)) (eyes : List (List (BitVec 16 × BitVec 16))) (s : State) :
    Host.Outcome State Fault Refusal :=
  let results := trainResults stops eyes
  if s.devUp && s.stage == 3 && s.ddrState == ddrTraining && results.length == 4 then
    let s := (s.dramConfig s.cores.bootHdr).each ((List.finRange 4).zip results) fun t e => t.subTrained e.1 e.2
    if results.any fun r => (trainFails r).isSome then .next (s.trainFail 0x22)
    else
      let s := { s with cores := { s.cores with needTrain := false } }.wr .ddr HDR.PG_CTRL_EN 1
      .next ((s.setDdr ddrActive).setStage 4)
  else .next s

end Sys2Proof.Machine
end

