-- ==== Sys2Proof/Machine/Axes.lean ====
section
/-! DEFINITION. The motion axes (R286 to R296): the profile generator, steps, moves, limit stops, homing, driver faults
and driver sleep. The way a profile is planned from one update to the next is log entry 24. -/

namespace Sys2Proof.Machine

open Reg

/-- One step, one step/s, an AMAX of 1 and a JMAX of 1 in the units of `AxisHw`. -/
def stepUnit : Nat := 8 * 10 ^ 18
def velUnit : Nat := 4 * 10 ^ 12
def accUnit : Nat := 32 * 10 ^ 6
def jerkUnit : Nat := 1024

/-- Axis states (R297). -/
def axDisabled : Nat := 0
def axIdle : Nat := 1
def axMoving : Nat := 2
def axHoming : Nat := 3
def axLimit : Nat := 4
def axFault : Nat := 5
def axObserving : Nat := 6

/-- The state of an axis. -/
def State.axSt (s : State) (a : Axis) : Nat := s.rd (.ax a) HDR.PG_STAT_STATE

/-- Change what an axis holds. -/
def State.modAxis (s : State) (a : Axis) (f : AxisHw → AxisHw) : State := { s with axes := s.axes.set a (f s.axes[a]) }

/-- The state of an axis changes; the time it is IDLE starts as it becomes so (R295, R297). -/
def State.setAx (s : State) (a : Axis) (v : Nat) : State :=
  (if v = axIdle && s.axSt a != axIdle then s.modAxis a fun h => { h with idleAt := s.dclk } else s).setPage (.ax a) v

/-! ### The profile -/

/-- A number with the sign of a direction. -/
def toward (neg : Bool) (n : Nat) : Int := if neg then -(n : Int) else n

/-- The highest speed from which a trapezoidal profile still stops within a distance, the update under way counted. -/
def stopSpeed (d dist : Nat) : Nat := min dist ((Nat.sqrt (d * d + 8 * d * dist) - d) / 2)

/-- The speed after an update toward a distance, trapezoidal: fastest that respects the limits and the stop. -/
def trapSpeed (v a d top dist : Nat) : Nat := max (v - d) (min (min (v + a) top) (stopSpeed d dist))

/-- The distance in which an S-curve stops from speed v with no acceleration. -/
def curveStop (v d j : Nat) : Nat :=
  if v * j ≤ d * d then v * (Nat.sqrt (v * j)) / j else v * (v * j + d * d) / (2 * d * j)

/-- The distance in which an S-curve stops from speed v and acceleration a along the motion. -/
def curveDist (v : Nat) (a : Int) (d j : Nat) : Nat :=
  if 0 ≤ a then
    let p := a.toNat
    v * p / j + p * p * p / (3 * j * j) + curveStop (v + p * p / (2 * j)) d j
  else
    let b := (-a).toNat
    let w := v + b * b / (2 * j)
    curveStop w d j - (w * b / j - b * b * b / (6 * j * j))

/-- The acceleration of the next update along the motion, limited in jerk: the largest that respects the limits and the
stop within `dist` (none: no target place). -/
def curveAcc (v : Nat) (a : Int) (amax d j top : Nat) (dist : Option Nat) : Int :=
  let fits (b : Int) : Bool :=
    let w := ((v : Int) + b).toNat
    let room := match dist with
      | some n => decide (w + curveDist w b d j ≤ n)
      | none => true
    room && decide (w + (if 0 ≤ b then b.toNat * b.toNat / (2 * j) else 0) ≤ top)
  let up := min (a + j) (amax : Int)
  if fits up then up else if fits a then a else max (a - j) (-(d : Int))

/-- Brake toward rest by n. -/
def brakeBy (v : Int) (n : Nat) : Int := if 0 ≤ v then max 0 (v - n) else min 0 (v + n)

/-- Whether a speed points against a direction. -/
def against (v : Int) (neg : Bool) : Bool := if neg then decide (0 < v) else decide (v < 0)

/-- One update toward a place `dist` away (signed): the new velocity, acceleration, and whether it has come to rest
there. -/
def profileTo (h : AxisHw) (top : Nat) (dist : Int) : Int × Int × Bool :=
  let neg := decide (dist < 0)
  let a := accUnit * h.amax
  let d := accUnit * h.dmax
  let j := jerkUnit * h.jmax
  if against h.vel neg then (brakeBy h.vel d, 0, false)
  else if h.jmax = 0 then
    let v := trapSpeed h.vel.natAbs a d top dist.natAbs
    (toward neg v, 0, v == 0 && dist == 0)
  else if dist.natAbs ≤ stepUnit / 1000 && decide (h.vel.natAbs ≤ 2 * velUnit) then (0, 0, true)
  else
    let along := if neg then -h.acc else h.acc
    let b := curveAcc h.vel.natAbs along a d j top (some dist.natAbs)
    let v := ((h.vel.natAbs : Int) + b).toNat
    (toward neg v, if v = 0 then 0 else if neg then -b else b, false)

/-- One update toward a velocity. -/
def profileAt (h : AxisHw) (top : Nat) (target : Int) : Int × Int :=
  let neg := decide (target < 0)
  let want := min target.natAbs top
  let a := accUnit * h.amax
  let d := accUnit * h.dmax
  let j := jerkUnit * h.jmax
  let v := h.vel.natAbs
  if against h.vel neg || target = 0 then (brakeBy h.vel d, 0)
  else if v = want then (h.vel, 0)
  else if h.jmax = 0 || want < v then (toward neg (if v < want then min (v + a) want else max (v - d) want), 0)
  else
    let b := max 1 (curveAcc v (if neg then -h.acc else h.acc) a d j want none)
    (toward neg (min want ((v : Int) + b).toNat), if neg then -b else b)

/-- The velocity in force as registers report it: VEL, PROF and DIR (R290, R297). -/
def State.axReport (s : State) (a : Axis) (old : Int) : State :=
  let v := s.axes[a].vel
  let prof := if v = 0 then 0 else if old.natAbs < v.natAbs then 1 else if old.natAbs = v.natAbs then 2 else 3
  let s := (s.wr (.ax a) AX.STAT_PROF prof).wrS (.ax a) AX.VEL (Int.tdiv v velUnit)
  if v = 0 then s else s.flag (.ax a) AX.STAT_DIR (decide (v < 0))

/-- The axis stops at once: no step follows (R292). -/
def State.axHalt (s : State) (a : Axis) : State :=
  (s.modAxis a fun h => { h with vel := 0, acc := 0, lead := 0, move := none, homing := .none, ramp := false }).axReport a 0

/-- DRVSLP_N may be high: not in OFF, in SETT, in a transition or in FAULT (R61). -/
def State.drvMay (s : State) : Bool :=
  match s.power.dev with
  | .idle => true
  | .ready => true
  | .print => true
  | _ => false

/-- An axis's driver sleeps: DRVSLP_N is low (R61, R295). -/
def State.asleep (s : State) (a : Axis) : Bool := s.on (.ax a) AX.STAT_ASLEEP || !s.drvMay

/-- A move begins: sleep ends and its first step is held for WAKE_US (R295); AT_TARGET falls. -/
def State.axBegin (s : State) (a : Axis) : State :=
  let s := s.wr (.ax a) AX.STAT_AT_TARGET 0
  if s.on (.ax a) AX.STAT_ASLEEP && s.drvMay then
    (s.wr (.ax a) AX.STAT_ASLEEP 0).modAxis a fun h =>
      { h with holdUntil := s.dclk + 500 * s.rd (.ax a) AX.WAKE }
  else s

/-- The limits of a move are those in force, and none is held back (R291). -/
def State.axLimits (s : State) (a : Axis) : State :=
  (s.modAxis a fun h => { h with
    amax := s.rd (.ax a) AX.AMAX, dmax := s.rd (.ax a) AX.DMAX, jmax := s.rd (.ax a) AX.JMAX }).wr (.ax a) AX.STAT_HELD 0

/-- The place a POSITION move goes to, from POS: the signed difference (R288). -/
def State.axAway (s : State) (a : Axis) (target : Int) : Int :=
  signed 32 (unsigned 32 (target - s.rdS (.ax a) AX.POS))

/-- Motion of a KIND and TARGET would head toward a recognised limit (R289). -/
def State.axToLimit (s : State) (a : Axis) (kind : Nat) (target : Int) : Bool :=
  let d := if kind = 0 then s.axAway a target else if kind = 1 then target else 0
  (decide (d < 0) && s.on (.ax a) AX.STAT_LIMN) || (decide (0 < d) && s.on (.ax a) AX.STAT_LIMP)

/-- The highest VMAX the step pulse allows (R287). -/
def State.axTop (s : State) (a : Axis) : Nat := min 2000000 (50000000 / s.rd (.ax a) AX.CFG_STEP_HI)

/-- The block code with which an AX commit is refused (R286, R287, R289, R293); the last is common code COMMIT_INVALID. -/
def State.axCommitBad (s : State) (a : Axis) : Option Nat :=
  let kind := s.rdStaged (.ax a) AX.MOVE_KIND
  let target := signed 32 (s.rdStaged (.ax a) AX.TARGET)
  let st := s.axSt a
  if s.shadow then some 0x28
  else if !s.on (.ax a) HDR.PG_CTRL_EN then some Err.notEnabled
  else if st = axFault || st = axHoming then some 0x22
  else if s.on (.ax a) AX.STAT_LOST then some 0x21
  else if s.axToLimit a kind target then some 0x20
  else if s.axTop a < s.rdStaged (.ax a) AX.VMAX then some 0x27
  else if kind == 1 && decide (s.rdStaged (.ax a) AX.VMAX < target.natAbs) then some Err.commitInvalid
  else none

/-- The generator takes a commit (R289, R291). A limit trip, a fault or a homing sequence that has come since it was accepted is
taken first, and refuses it (R292, R293; log entry 24). -/
def State.axTake (s : State) (a : Axis) : State :=
  let kind := s.rdStaged (.ax a) AX.MOVE_KIND
  let target := signed 32 (s.rdStaged (.ax a) AX.TARGET)
  if s.axSt a = axFault || s.axSt a = axHoming then (s.clearPend (.ax a)).errOpen (.ax a) 0x22
  else if s.axToLimit a kind target then (s.clearPend (.ax a)).errOpen (.ax a) 0x20
  else
    let decel := s.rd (.ax a) AX.STAT_PROF == 3
    let differs := [AX.AMAX, AX.DMAX, AX.JMAX].any fun r => s.rd (.ax a) r != s.rdStaged (.ax a) r
    let s := s.commitPage (.ax a)
    if s.axes[a].move == some (kind, target) then
      if decel && s.on (.ax a) AX.MOVE_NO_OVERSHOOT then s.when differs fun t => t.wr (.ax a) AX.STAT_HELD 1
      else s.axLimits a
    else
      let s := ((s.modAxis a fun h => { h with move := some (kind, target), ramp := false }).axLimits a).axBegin a
      if s.axSt a = axLimit then s else s.setAx a axMoving

/-- A move has ended (R290). -/
def State.axEnd (s : State) (a : Axis) : State :=
  let s := (s.wr (.ax a) AX.STAT_AT_TARGET 1).raise (.ax a) 8
  (s.modAxis a fun h => { h with move := none, lead := 0, acc := 0 }).setAx a
    (if s.axSt a = axLimit then axLimit else axIdle)

/-- The homing signal: HOME, or the limit in DIR (R293). -/
def State.homeSignal (s : State) (a : Axis) : Bool :=
  if s.on (.ax a) AX.HOME_CFG_SRC then
    if s.on (.ax a) AX.HOME_CFG_DIR then s.on (.ax a) AX.STAT_LIMP else s.on (.ax a) AX.STAT_LIMN
  else s.on (.ax a) AX.STAT_HOME

/-- Homing moves on once the axis has come to rest (R293). -/
def State.homeRest (s : State) (a : Axis) : State :=
  match s.axes[a].homing with
  | .capture =>
    s.modAxis a fun h => { h with homing := if s.homeSignal a then .backoff else .settle, homeSteps := 0, lead := 0 }
  | .settle =>
    let s := (s.modAxis a fun h => { h with homing := .none, lead := 0 }).wr (.ax a) AX.STAT_LOST 0
    (s.raise (.ax a) 10).setAx a axIdle
  | _ => s

/-- Velocity and acceleration after an update. -/
def State.axPlan (s : State) (a : Axis) : Int × Int :=
  let h := s.axes[a]
  let top := velUnit * s.rd (.ax a) AX.VMAX_EFF
  let pos := s.on (.ax a) AX.HOME_CFG_DIR
  let brake := brakeBy h.vel (accUnit * h.dmax)
  if h.ramp then (brakeBy h.vel (accUnit * s.rd (.ax a) AX.EDEC), 0)
  else
    match h.homing with
    | .seek => profileAt h top (toward (!pos) (velUnit * s.rd (.ax a) AX.HOME_V))
    | .backoff => profileAt h top (toward pos (velUnit * s.rd (.ax a) AX.BACKOFF_V))
    | .capture => (brake, 0)
    | .settle => (brake, 0)
    | .none =>
      match h.move with
      | none => (brake, 0)
      | some (kind, target) =>
        if kind = 0 then
          let (v, b, _) := profileTo h top (s.axAway a target * stepUnit - h.lead)
          (v, b)
        else if kind = 1 then profileAt h top (target * velUnit)
        else (brake, 0)

/-- Whether the move in progress has ended: at rest on the target with every step issued, at the target velocity, or at
rest. -/
def State.axDone (s : State) (a : Axis) : Bool :=
  let h := s.axes[a]
  let rest := h.vel == 0 && decide (h.lead.natAbs < stepUnit)
  match h.move with
  | none => false
  | some (kind, target) =>
    if kind = 0 then rest && s.axAway a target == 0 && decide (h.lead.natAbs ≤ stepUnit / 1000)
    else if kind = 1 then
      if target = 0 then rest
      else h.vel == toward (decide (target < 0)) (min (target.natAbs * velUnit) (velUnit * s.rd (.ax a) AX.VMAX_EFF)) &&
        !s.on (.ax a) AX.STAT_AT_TARGET
    else rest

/-- What follows an update: the end of a move, of a stop or of a homing step. -/
def State.axSettle (s : State) (a : Axis) : State :=
  let h := s.axes[a]
  let rest := h.vel == 0 && decide (h.lead.natAbs < stepUnit)
  if h.homing != .none then if rest then s.homeRest a else s
  else if s.axDone a then
    match h.move with
    | some (1, target) => if target = 0 then s.axEnd a else (s.wr (.ax a) AX.STAT_AT_TARGET 1).raise (.ax a) 8
    | _ => s.axEnd a
  else if h.ramp && rest then s.modAxis a fun h => { h with ramp := false, lead := 0 }
  else s

/-- DIR changes only while no step in the old direction is left to issue (R287). -/
def AxisHw.turn (h : AxisHw) (dclk : Nat) : AxisHw :=
  if h.vel != 0 && decide (h.vel < 0) != h.dirNeg && decide (h.lead.natAbs < stepUnit) then
    { h with dirNeg := !h.dirNeg, dirAt := dclk }
  else h

/-- R289, R290. An update of the generator, 250 DCLK after the last one: it takes a commit that is at least 2 DCLK old and
replans. -/
def execProfileUpdate (a : Axis) (s : State) : Host.Outcome State Fault Refusal :=
  if s.devUp && !s.shadow && decide (s.axes[a].updAt + 250 ≤ s.dclk) then
    let s := if s.commits.any fun e => e.1 == Page.ax a && decide (e.2 + 2 ≤ s.dclk) then s.axTake a else s
    let old := s.axes[a].vel
    let (v, b) := s.axPlan a
    let s := s.modAxis a fun h => ({ h with vel := v, acc := b, updAt := s.dclk } : AxisHw).turn s.dclk
    let s := s.modAxis a fun h => { h with lead := h.lead + v }
    .next ((s.axReport a old).axSettle a)
  else .next s

/-- A step is counted in POS and STEP_CNT, and is an edge of BELT mode on AX0 (R276, R286, R287). -/
def State.axCount (s : State) (a : Axis) (neg : Bool) : State :=
  let s := (s.wrS (.ax a) AX.POS (s.rdS (.ax a) AX.POS + toward neg 1)).bump (.ax a) AX.STEP_CNT
  if a = 0 && s.rd .pace PACE.CTRL_MODE == 2 then s.paceEdge (!neg) else s

/-- An axis faults: it stops, LOST is set, the state is FAULT (R293, R294). -/
def State.axFail (s : State) (a : Axis) (nn : Nat) : State :=
  let s := ((s.axHalt a).errOpen (.ax a) nn).when (!s.on (.ax a) AX.STAT_LOST) fun t =>
    (t.wr (.ax a) AX.STAT_LOST 1).raise (.ax a) 11
  (s.setAx a axFault).setFault (.ax a) true

/-- The pulses of STEP and DIR permit a step: DIR names its direction for DIR_SU, and the step rate stays within
1 / (2 x STEP_HI x 10 ns) and 2 MHz (R287). -/
def State.stepMay (s : State) (a : Axis) (neg : Bool) : Bool :=
  let h := s.axes[a]
  h.dirNeg == neg && decide (h.dirAt + 5 * s.rd (.ax a) AX.CFG_DIR_SU ≤ s.dclk) && (match h.stepAt with
    | some t => decide (t + max 250 (10 * s.rd (.ax a) AX.CFG_STEP_HI) ≤ s.dclk)
    | none => true)

/-- R287. The generator issues a step once its profile is a whole step ahead; homing counts it against its bound. -/
def execAxisStep (a : Axis) (s : State) : Host.Outcome State Fault Refusal :=
  let h := s.axes[a]
  let neg := decide (h.lead < 0)
  if s.devUp && !s.shadow && decide (stepUnit ≤ h.lead.natAbs) && decide (h.holdUntil ≤ s.dclk) && s.stepMay a neg then
    let s := s.modAxis a fun h => { h with
      lead := h.lead - toward neg stepUnit, homeSteps := h.homeSteps + 1, stepAt := some s.dclk }
    let s := (s.emit (.step a.val neg)).axCount a neg
    let n := s.axes[a].homeSteps
    match s.axes[a].homing with
    | .seek => .next (if s.rd (.ax a) AX.HOME_MAX ≤ n then s.axFail a 0x24 else s)
    | .backoff => .next (if s.rd (.ax a) AX.BACKOFF_MAX ≤ n then s.axFail a 0x25 else s)
    | _ => .next s
  else .next s

/-- R286. A SHADOW axis sees a step of the lead. -/
def execObservedStep (a : Axis) (neg : Bool) (s : State) : Host.Outcome State Fault Refusal :=
  if s.devUp && s.axSt a == axObserving then
    let gap := match s.axes[a].seen with
      | some (t, _, _) => some (s.dclk - t)
      | none => none
    .next ((s.modAxis a fun h => { h with seen := some (s.dclk, gap, neg) }).axCount a neg)
  else .next s

/-- A command of an axis: refused with NOT_ENABLED while EN is 0 and with ROLE in a SHADOW where R286 says so. -/
def State.axCmd (s : State) (req : Req) (a : Axis) (role : Bool) (act : State → State) : State :=
  s.gate req (.ax a) 0x90 fun s =>
    if !s.on (.ax a) HDR.PG_CTRL_EN then s.errAt (.ax a) Err.notEnabled 0x90 req.code
    else if role && s.shadow then s.errOpen (.ax a) 0x28
    else act s

/-- R293. `CMD.HOME` starts the homing sequence, at its third step when the signal is active. -/
def State.axHome (s : State) (a : Axis) : State :=
  let st := s.axSt a
  if st = axFault || st = axHoming then s.errOpen (.ax a) 0x22
  else
    let s := (s.axLimits a).axBegin a
    (s.modAxis a fun h => { h with
      move := none, ramp := false, homing := if s.homeSignal a then .backoff else .seek, homeSteps := 0 }).setAx a
      axHoming

def execAxHome (req : Req) (a : Axis) (s : State) : Host.Outcome State Fault Refusal :=
  .next (s.axCmd req a true fun s => s.axHome a)

/-- `CMD.STOP`: to rest at DMAX (R290); a homing sequence ends (R293). -/
def State.axStop (s : State) (a : Axis) : State :=
  let st := s.axSt a
  if st = axMoving || st = axHoming || (st = axLimit && s.axes[a].move.isSome) then
    (s.modAxis a fun h => { h with move := some (2, 0), homing := .none }).setAx a
      (if st = axLimit then axLimit else axMoving)
  else s

/-- R290. `CMD.STOP`. -/
def execAxStop (req : Req) (a : Axis) (s : State) : Host.Outcome State Fault Refusal :=
  .next (s.axCmd req a true fun s => s.axStop a)

/-- The axis stops as an ESTOP does (R286, R292): at once, and it is IDLE, or still in LIMIT. -/
def State.axEstop (s : State) (a : Axis) : State :=
  let st := s.axSt a
  if st = axMoving || st = axHoming then (s.axHalt a).setAx a axIdle
  else if st = axLimit then s.axHalt a
  else s

/-- R292. `CMD.ESTOP`. -/
def execAxEstop (req : Req) (a : Axis) (s : State) : Host.Outcome State Fault Refusal :=
  .next (s.axCmd req a false fun s => s.axEstop a)

/-- The comparator that watches the driver's supply shows OUT = 1 (R294). -/
def State.axSupplyLost (s : State) (a : Axis) : Bool :=
  let k := s.rd (.ax a) AX.CFG_SUPPLY_CMP
  k != 0 && (s.on .aon AON.CMP_CTRL_OUT (k - 1) || s.power.cmpRaw.toList.getD (k - 1) false)

/-- R294. `CMD.CLEAR`; `drvflt` is the level of the fault input: true while the driver asserts DRVFLT_N. -/
def State.axClear (s : State) (a : Axis) (drvflt : Bool) : State :=
  let s := s.flag (.ax a) AX.STAT_DRVFLT drvflt
  if s.axSt a = axFault then
    if drvflt || s.axSupplyLost a then s.errOpen (.ax a) 0x22
    else (s.setAx a (if s.shadow then axObserving else axIdle)).setFault (.ax a) false
  else s

def execAxClear (req : Req) (a : Axis) (drvflt : Bool) (s : State) : Host.Outcome State Fault Refusal :=
  .next (s.axCmd req a false fun s => s.axClear a drvflt)

/-- DRVSLP_N is driven low (R295). -/
def State.axSleep (s : State) (a : Axis) : State :=
  if s.on (.ax a) AX.STAT_ASLEEP then s else (s.wr (.ax a) AX.STAT_ASLEEP 1).raise (.ax a) 12

/-- DRVSLP_N is driven high, where R61 permits it. -/
def State.axAwake (s : State) (a : Axis) : State := s.when s.drvMay fun t => t.wr (.ax a) AX.STAT_ASLEEP 0

/-- R295. `CMD.SLEEP`. -/
def execAxSleep (req : Req) (a : Axis) (s : State) : Host.Outcome State Fault Refusal :=
  .next (s.axCmd req a false fun s => s.axSleep a)

/-- R295. `CMD.WAKE`. -/
def execAxWake (req : Req) (a : Axis) (s : State) : Host.Outcome State Fault Refusal :=
  .next (s.axCmd req a false fun s => s.axAwake a)

/-- A write of `AX.CMD`: its actions in the order of its bits. The level of DRVFLT_N is the one last seen. -/
def State.axCmdWrite (s : State) (req : Req) (a : Axis) (data : Nat) : State :=
  let drv := s.on (.ax a) AX.STAT_DRVFLT
  if !s.on (.ax a) HDR.PG_CTRL_EN && data % 64 != 0 then s.errAt (.ax a) Err.notEnabled 0x90 req.code
  else if s.shadow && data % 4 != 0 then s.errOpen (.ax a) 0x28
  else
    let s := (s.when (bit data 0) fun t => t.axHome a).when (bit data 1) fun t => t.axStop a
    let s := (s.when (bit data 2) fun t => t.axEstop a).when (bit data 3) fun t => t.axClear a drv
    (s.when (bit data 4) fun t => t.axSleep a).when (bit data 5) fun t => t.axAwake a

/-- R292. A limit trip is recognised; `pos` names LIMP. -/
def execLimitTrip (a : Axis) (pos : Bool) (s : State) : Host.Outcome State Fault Refusal :=
  let enabled := s.on (.ax a) (if pos then AX.CFG_LIMP_EN else AX.CFG_LIMN_EN)
  if s.devUp && enabled then
    let s := s.wr (.ax a) (if pos then AX.STAT_LIMP else AX.STAT_LIMN) 1
    let v := s.axes[a].vel
    let expected := s.on (.ax a) AX.HOME_CFG_SRC && s.on (.ax a) AX.HOME_CFG_DIR == pos
    if s.axes[a].homing != .none then .next (if expected then s else s.axFail a 0x26)
    else if (pos && decide (0 < v)) || (!pos && decide (v < 0)) then
      let s := (s.bump (.ax a) AX.LIM_CNT).raise (.ax a) 9
      let s := if s.on (.ax a) AX.CFG_LIM_ACT then s.modAxis a fun h => { h with move := none, ramp := true }
        else s.axHalt a
      .next ((s.modAxis a fun h => { h with trip := some pos }).setAx a axLimit)
    else .next s
  else .next s

/-- R292. A limit is released: an axis in LIMIT for it returns to IDLE, or to MOVING if a move runs. -/
def execLimitRelease (a : Axis) (pos : Bool) (s : State) : Host.Outcome State Fault Refusal :=
  if s.devUp then
    let s := s.wr (.ax a) (if pos then AX.STAT_LIMP else AX.STAT_LIMN) 0
    if s.axSt a = axLimit && s.axes[a].trip == some pos then
      let running := s.axes[a].move.isSome || s.axes[a].vel != 0
      .next ((s.modAxis a fun h => { h with trip := none }).setAx a (if running then axMoving else axIdle))
    else .next s
  else .next s

/-- R293. The home signal has been active for HOME_DEB; `since` steps were issued after the raw edge. -/
def execHomeEdge (a : Axis) (since : BitVec 16) (s : State) : Host.Outcome State Fault Refusal :=
  if s.devUp then
    let src := s.on (.ax a) AX.HOME_CFG_SRC
    let s := s.when (!src) fun t => t.wr (.ax a) AX.STAT_HOME 1
    if s.axes[a].homing == .seek then
      let moved := toward (!s.on (.ax a) AX.HOME_CFG_DIR) since.toNat
      let s := s.wrS (.ax a) AX.HOME_CAP (s.rdS (.ax a) AX.POS - moved)
      let s := s.wrS (.ax a) AX.POS (s.rdS (.ax a) AX.HOME_POS + moved)
      .next (s.modAxis a fun h => { h with homing := .capture })
    else .next s
  else .next s

/-- R293. The home signal has been released for HOME_DEB. -/
def execHomeRelease (a : Axis) (s : State) : Host.Outcome State Fault Refusal :=
  if s.devUp then
    let s := s.when (!s.on (.ax a) AX.HOME_CFG_SRC) fun t => t.wr (.ax a) AX.STAT_HOME 0
    .next (if s.axes[a].homing == .backoff then s.modAxis a fun h => { h with homing := .settle } else s)
  else .next s

/-- R294. DRVFLT_N is asserted, or the driver's logic supply is lost: `pin` tells the first. -/
def execDriverFault (a : Axis) (pin : Bool) (s : State) : Host.Outcome State Fault Refusal :=
  if s.devUp && (pin || s.axSupplyLost a) then
    let s := s.when pin fun t => t.wr (.ax a) AX.STAT_DRVFLT 1
    if s.on (.ax a) HDR.PG_CTRL_EN then .next (s.axFail a 0x23)
    else .next (s.when (!s.on (.ax a) AX.STAT_LOST) fun t => (t.wr (.ax a) AX.STAT_LOST 1).raise (.ax a) 11)
  else .next s

/-- R295. An axis that has been IDLE for SLEEP_MS. -/
def execAxisSleepTimeout (a : Axis) (s : State) : Host.Outcome State Fault Refusal :=
  let ms := s.rd (.ax a) AX.TIMES_SLEEP_MS
  if s.devUp && s.axSt a == axIdle && ms != 0 && decide (s.axes[a].idleAt + 500000 * ms ≤ s.dclk) then .next (s.axSleep a) else .next s

end Sys2Proof.Machine
end

