-- ==== Sys2Proof/Machine/Roles.lean ====
section
/-! DEFINITION. The pair roles (R334, R335, R345 to R348, R352, R353): entering and leaving LEAD and SHADOW, promotion,
demotion, epochs. -/

namespace Sys2Proof.Machine

open Reg

/-- Serial-number order of epochs: a is newer than b (R310). -/
def epochNewer (a b : Nat) : Bool :=
  let d := (a + 65536 - b) % 65536
  decide (1 ≤ d ∧ d ≤ 32767)

/-- The lanes whose link is UP. -/
def State.upLanes (s : State) : List Lane := allLanes.filter fun l => s.linkUp l

/-- The device's epoch changes, and an EPOCH frame goes out on every UP lane (R348). -/
def State.setEpoch (s : State) (e : Nat) : State :=
  let s := s.wr .pair PAIR.EPOCH_EPOCH (e % 65536)
  s.each s.upLanes fun t l => t.queueCtrl l 0x30 0

/-- One more than the newest of the device's epoch, the partner's and those the UP heads report (R348). -/
def State.nextEpoch (s : State) : Nat :=
  let heads := s.upLanes.map fun l => s.rd (.vnl l) VNL.STAT_HEAD_EPOCH
  let best := (s.rd .pair PAIR.EPOCH_P_EPOCH :: heads).foldl (fun a e => if epochNewer e a then e else a)
    (s.rd .pair PAIR.EPOCH_EPOCH)
  (best + 1) % 65536

/-- No page is open (R335). -/
def State.noPage (s : State) : Bool := s.intake.pages.isEmpty

/-- The role changes; the PAIR page and ROLE_O report it. -/
def State.setRole (s : State) (r : Role) : State :=
  (({ s with pair := { s.pair with role := r } }).flag .pair PAIR.STAT_ROLE_O (r == Role.lead)).setPage .pair r.code

/-- An axis goes to OBSERVE: it drives nothing (R286). -/
def State.axObserve (s : State) (a : Axis) : State :=
  let s := (s.axHalt a).modAxis a fun h => { h with seen := none }
  if s.axSt a = axDisabled || s.axSt a = axFault then s else s.setAx a axObserving

/-- An axis leaves OBSERVE at rest. -/
def State.axUnobserve (s : State) (a : Axis) : State := if s.axSt a = axObserving then s.setAx a axIdle else s

/-- At promotion an axis goes on at the velocity it observed (R353). -/
def State.axPromote (s : State) (a : Axis) : State :=
  if s.axSt a = axObserving then
    match s.axes[a].seen with
    | some (t, some gap, neg) =>
      if s.dclk ≤ 500000 + t then
        let v := min (500000000 / max 1 gap) (s.rd (.ax a) AX.VMAX_EFF)
        let s := s.modAxis a fun h => { h with
          vel := toward neg (v * velUnit), acc := 0, lead := 0, dirNeg := neg, move := some (1, toward neg v) }
        (((s.axLimits a).axBegin a).axReport a 0).setAx a axMoving
      else s.setAx a axIdle
    | _ => s.setAx a axIdle
  else s

/-- Every axis. -/
def allAxes : List Axis := List.finRange 8

/-- The device becomes LEAD from SOLO (R335, R348). -/
def State.enterLead (s : State) : State := (s.setEpoch s.nextEpoch).setRole .lead

/-- The device becomes SHADOW of the partner (R335). -/
def State.enterShadow (s : State) : State :=
  let s := (s.wr .pair PAIR.EPOCH_EPOCH (s.rd .pair PAIR.EPOCH_P_EPOCH)).setRole .shadow
  let s := s.slowFall
  s.each allAxes State.axObserve

/-- The device becomes SOLO (R335). -/
def State.enterSolo (s : State) : State := ((s.setRole .solo).each allAxes State.axUnobserve).settleSlow

/-- The lines a new lead reports (R352): those of an active page past the last line tick the partner is known to have fired
(log entry 94). -/
def State.takeover (s : State) (l : Lane) : State :=
  let live (e : Passed) : Bool := s.intake.pages.any fun p => p.phase == .active && p.desc.id == e.tag.page
  let lost := (s.lanes[l].past.filter fun e => decide (s.pair.fWl < e.tag.tick) && live e).reverse
  let s := s.modLane l fun (h : LaneHw) => { h with
    past := [], prep := h.prep.map fun (p : PrepLine) => { p with frame := none }, takeover := h.page.isSome }
  s.each lost fun t e => t.spoilLine l e.tag e.cause 0 e.detail e.at_

/-- The TAKEOVER entry of the Den (R389); a demotion leaves the epoch as it was. -/
def State.denTakeover (s : State) (cause old : Nat) : State :=
  s.denHw 5 0x48 (cause + 2 ^ 16 * old + 2 ^ 32 * s.rd .pair PAIR.EPOCH_EPOCH + 2 ^ 64 * s.pair.fWl + 2 ^ 128 * s.curPage +
    2 ^ 160 * s.curWl)

/-- R345. The SHADOW promotes: cause 1 PFAULT, 2 HEARTBEAT, 3 HANDOVER. -/
def State.promote (s : State) (cause : Nat) : State :=
  let s := { s with pair := { s.pair with fWl := s.pair.fClear, handover := false } }
  let old := s.rd .pair PAIR.EPOCH_EPOCH
  let s := (s.setRole .lead).setEpoch (s.rd .pair PAIR.EPOCH_P_EPOCH + 1)
  let s := ((s.wr .pair PAIR.TO_CAUSE cause).wr .pair PAIR.TO_TIME s.time).bump .pair PAIR.PROMOTE_CNT
  let s := (s.denTakeover cause old).raise .pair 10
  let s := s.when (s.on .pair PAIR.STAT_ROLE_I) fun t => t.errOpen .pair 0x29
  let s := s.each allLanes State.takeover
  let s := s.each allAxes State.axPromote
  let s := s.settleSlow
  if s.on .spl HDR.PG_CTRL_EN then s else s.each allLanes fun t l => t.enterHold l 3

/-- R345. A cause of promotion is recognised. -/
def State.promoteFor (s : State) (cause : Nat) : State :=
  if s.pair.role == .shadow then
    if s.power.dev == .fault then s.errOpen .pair 0x2A
    else if s.on .pair PAIR.CTRL_TAKE_EN || cause = 3 then s.promote cause
    else s
  else s

/-- R347. The LEAD demotes to SHADOW: each lane ends the line frame in progress, which R350 has it finish, and nothing more is
sent (log entry 77). After a planned handover
TAKE_EN is kept and nothing is recorded as an error (R354). -/
def State.demote (s : State) : State :=
  let planned := s.pair.handover
  let s := s.each allLanes fun t l => t.modLane l fun (h : LaneHw) => { h with ctrl := [], unacked := [], fires := [] }
  let s := s.setRole .shadow
  let s := { s with pair := { s.pair with handover := false } }
  let s := s.slowFall.each allAxes State.axObserve
  let s := ((s.bump .pair PAIR.DEMOTE_CNT).raise .pair 11).denTakeover 4 (s.rd .pair PAIR.EPOCH_EPOCH)
  if planned then s else (s.wr .pair PAIR.CTRL_TAKE_EN 0).errOpen .pair 0x2B

/-! ### WANT (R335) -/

/-- The partner's last heartbeat: FLAGS and PART. -/
def State.partnerFlags (s : State) : Nat := match s.pair.heard with
  | some (f, _) => f
  | none => 0

/-- The partner's PART is this device's (R5). -/
def State.partOk (s : State) : Bool := match s.pair.heard with
  | some (_, p) => p == s.rd .sys SYS.DEV_ID_PART
  | none => false

/-- Both devices have the same SIDE: they never pair. -/
def State.sideEqual (s : State) : Bool := bit s.partnerFlags 7 == s.on .pair PAIR.CTRL_SIDE

/-- The conditions of R335 for a SOLO device, but for a clash of sides. -/
def State.mayLead (s : State) : Bool :=
  s.rd .pair PAIR.STAT_LINK == 2 && s.partOk && s.rd .pair PAIR.STAT_P_ROLE != 1 && !s.on .pair PAIR.STAT_ROLE_I && s.noPage

def State.mayShadow (s : State) : Bool :=
  s.rd .pair PAIR.STAT_LINK == 2 && s.partOk && s.rd .pair PAIR.STAT_P_ROLE == 1 && s.noPage

/-- ROLE_WAIT shows while a WANT is held (R335). -/
def State.roleWait (s : State) : State :=
  if s.on .pair HDR.PG_ERR_CODE_VALID then s else s.errOpen .pair 0x22

/-- The device takes the role WANT names once its condition holds; `heard` tells that a heartbeat has just come. In FAULT the
role is unchanged (R335). -/
def State.settleRole (s : State) (heard : Bool) : State :=
  let want := s.rd .pair PAIR.CTRL_WANT
  if s.power.dev == .fault then s else
  match s.pair.role with
  | .solo =>
    if want = 1 then
      if s.mayLead then
        if !heard then s
        else if s.sideEqual then s.errOpen .pair 0x21
        else if bits s.partnerFlags 6 5 = 1 && s.on .pair PAIR.CTRL_SIDE then s.errOpen .pair 0x21
        else s.enterLead
      else s.roleWait
    else if want = 2 then
      if s.mayShadow then
        if !heard then s else if s.sideEqual then s.errOpen .pair 0x21 else s.enterShadow
      else s.roleWait
    else s
  | _ => if want = 0 then if s.noPage then s.enterSolo else s.roleWait else s

end Sys2Proof.Machine
end

