-- ==== Sys2Proof/Machine/Vinel.lean ====
section
/-! DEFINITION. The Vinel head link of each lane (R304 to R318): control frames, bring-up with its rate trials, upstream
frames, loss of the link, and the return of a faulted lane (R264). -/

namespace Sys2Proof.Machine

open Reg

/-! ### Link states (R311) -/

def lsDown : Nat := 0
def lsWake : Nat := 1
def lsIdent : Nat := 2
def lsStep : Nat := 3
def lsLoad : Nat := 4
def lsUp : Nat := 5
def lsFast : Nat := 6
def lsWait : Nat := 7

def State.ls (s : State) (l : Lane) : Nat := s.rd (.vnl l) VNL.STAT_LSTATE
/-- The link changes state; the items that need it UP are aborted as it leaves UP (R376, R380). -/
def State.setLs (s : State) (l : Lane) (v : Nat) : State :=
  let s := if v = lsUp then s else s.calAbort fun r => r.onLane l && r.item != 1
  (s.modLane l fun (h : LaneHw) => { h with lsAt := s.dclk }).wr (.vnl l) VNL.STAT_LSTATE v

/-- The link has been in its state for n DCLK (R311). -/
def State.lsFor (s : State) (l : Lane) (n : Nat) : Bool := decide (s.lanes[l].lsAt + n ≤ s.dclk)

/-- A bring-up begins: the registers that take effect at the next bring-up are read (R317, log entry 96). -/
def State.linkCfg (s : State) (l : Lane) : State :=
  let r (x : Row) : Nat := s.rd (.vnl l) x
  s.modLane l fun (h : LaneHw) => { h with cfg :=
    { maxRate := r VNL.CTRL_MAX_RATE, board := r VNL.CTRL_EQ_MODE == 1, ackUs := r VNL.CTRL_ACK_US
      crcLimit := r VNL.CTRL_CRC_LIMIT, statTmo := r VNL.CTRL_STAT_TMO, nExp := r VNL.N_EXP
      taps := (r VNL.EQ_MAN_C_PRE, r VNL.EQ_MAN_C_POST) } }

/-- The bring-up bound of a lane starts (R311, log entry 78). -/
def State.boundStart (s : State) (l : Lane) : State := s.modLane l fun (h : LaneHw) => { h with boundAt := s.dclk }

/-- The lane is enabled (R264, R317). -/
def State.laneEn (s : State) (l : Lane) : Bool := s.on (.vnl l) HDR.PG_CTRL_EN

/-- Taps of a preset: C_PRE and C_POST (R313). -/
def presetTaps (p : Nat) : Nat × Nat := if p = 1 then (0, 8) else if p = 2 then (3, 10) else if p = 3 then (5, 16) else (0, 0)

/-- The taps in use: a preset's, or those of EQ_MAN under BOARD (R313). -/
def State.useTaps (s : State) (l : Lane) (preset : Nat) : State :=
  let (a, b) := if s.lanes[l].cfg.board then s.lanes[l].cfg.taps else presetTaps preset
  (s.wr (.vnl l) VNL.EQ_ACT_C_PRE a).wr (.vnl l) VNL.EQ_ACT_C_POST b

/-- Frames that wait are forgotten. -/
def State.noFrames (s : State) (l : Lane) : State :=
  s.modLane l fun (h : LaneHw) => { h with ctrl := [], unacked := [], trial := none, epochOk := false }

/-- Training at 0.8 Gbaud starts: WAKE (R311). -/
def State.linkStart (s : State) (l : Lane) : State :=
  let s := (((s.linkCfg l).noFrames l).setLs l lsWake).wr (.vnl l) VNL.STAT_RATE 0
  let s := ((s.wr (.vnl l) VNL.STAT_PRESET 0).useTaps l 0).wr (.vnl l) VNL.STAT_FALLBACK 0
  (s.emit (.ts l.val 0 0)).settleTmin l

/-- The transmitter is off: DOWN (R311). -/
def State.linkStop (s : State) (l : Lane) : State :=
  (((s.noFrames l).setLs l lsDown).wr (.vnl l) VNL.STAT_UP_LOCK 0).wr (.seq l) SEQ.TEMP_VALID 0

/-! ### Losing a link (R29, R311, R314) -/

/-- A lane whose link is gone: LINK, no temperature; a running scan ends with AWL_LINK. -/
def State.laneUnlinked (s : State) (l : Lane) : State :=
  let s := s.wr (.seq l) SEQ.TEMP_VALID 0
  match s.lanes[l].st with
  | .off => s
  | .link => s
  | .test => s
  | .fault => s
  | _ =>
    if s.awlFull l then s.modLane l fun (h : LaneHw) => { h with awl := { h.awl with after := some .link } }
    else
      let s := s.awlAborted l true
      let s := s.modLane l fun (h : LaneHw) => { h with outCause := if h.page.isSome then some (4, 0) else h.outCause }
      (s.setLane l .link).boundStart l

/-- The link leaves UP for FAST: the identity is kept for the comparison. -/
def State.linkDrop (s : State) (l : Lane) : State :=
  let key := (s.rd (.vnl l) VNL.IDENT1_VENDOR, s.rd (.vnl l) VNL.IDENT1_MODEL, s.rd (.vnl l) VNL.SERIAL,
    s.rd (.vnl l) VNL.IDENT0_N)
  let s := ((s.noFrames l).modLane l fun (h : LaneHw) => { h with identity := key, crcRun := 0 }).setLs l lsFast
  (s.laneUnlinked l).boundStart l

/-- R314. The link is lost for a reason. -/
def State.linkLost (s : State) (l : Lane) (reason : Nat) : State :=
  if s.ls l = lsUp then
    (((s.err (.vnl l) 0x23 reason).raise (.vnl l) 9).bump (.vnl l) VNL.LOSS_CNT).linkDrop l
  else s

/-! ### Control frames (R304, R305) -/

/-- Payload bytes of a control frame. -/
def ctrlLen (type : Nat) : Nat := if type = 0x11 then 4 else if type = 0x20 then 20 else if type = 0x21 then 8 else 0

/-- The frames that change head state (R304). -/
def changesHead (type : Nat) : Bool := decide (0x20 ≤ type ∧ type < 0x50)

/-- Header and payload of a control frame. -/
def ctrlBytes (type cseq epoch : Nat) (payload : List Nat) : List Nat :=
  [type, cseq] ++ bytesOf 2 epoch ++ bytesOf 2 payload.length ++ [0, 0] ++ payload

/-- DCLK that n code-groups take at the rate of the port, 10 bits each (R299). -/
def State.groupsDclk (s : State) (l : Lane) (n : Nat) : Nat := ceilDiv (n * 25) (4 * (s.rd (.vnl l) VNL.STAT_RATE + 1))

/-- DCLK at which a control frame that starts now ends: SOC, header, payload, CRC and EOF (R304). -/
def State.ctrlEnds (s : State) (l : Lane) (type : Nat) : Nat := s.dclk + s.groupsDclk l (20 + ctrlLen type)

/-- A frame goes out; SCAN_START begins the time of its scan (R316). -/
def State.sendCtrl (s : State) (l : Lane) (f : CtrlFrame) : State :=
  let b := ctrlBytes f.type f.cseq (s.rd .pair PAIR.EPOCH_EPOCH) (bytesOf (ctrlLen f.type) f.payload)
  let ends := s.ctrlEnds l f.type
  (s.emit (.ctrl l.val b (crc32c b))).modLane l fun (h : LaneHw) => { h with
    ctrlEnd := ends, awl := { h.awl with start := if f.type = 0x40 && h.awl.start.isNone then some ends else h.awl.start } }

/-- A line frame of the lane is ready to start, or running (R305). -/
def State.lineReady (s : State) (l : Lane) : Bool :=
  s.prepares l && match s.lanes[l].prep with
    | p :: _ =>
      (match p.frame with
        | some (_, _, stop) => decide (s.dclk < stop)
        | none => !p.ue && decide (p.ready ≤ s.dclk))
    | [] => false

/-- R305. A waiting control frame starts while no line frame is ready, with at most 8 unacknowledged; an EPOCH frame goes
ahead of a line frame and aborts one in progress. -/
def execControlFrameSend (l : Lane) (s : State) : Host.Outcome State Fault Refusal :=
  match s.lanes[l].ctrl with
  | [] => .next s
  | f :: rest =>
    if !s.devUp || s.ls l = lsDown || s.ls l = lsWait || (s.lineReady l && f.type != 0x30) ||
        8 ≤ s.lanes[l].unacked.length || s.dclk < s.lanes[l].ctrlEnd then .next s
    else if s.shadow && changesHead f.type then .next (s.modLane l fun (h : LaneHw) => { h with ctrl := rest })
    else
      let running := s.lanes[l].prep.any fun (p : PrepLine) => match p.frame with
        | some (_, _, stop) => decide (s.dclk < stop)
        | none => false
      let s := if f.type = 0x30 && running then
          (s.when (!s.shadow) fun t => t.emit (.abort l.val)).modLane l fun (h : LaneHw) =>
            { h with prep := h.prep.map fun (p : PrepLine) => { p with frame := none } }
        else s
      let sent := { f with sends := 1, ends := s.ctrlEnds l f.type }
      let s := s.sendCtrl l f
      .next (s.modLane l fun (h : LaneHw) => { h with ctrl := rest, unacked := h.unacked ++ [sent] })

/-- Bits of the PRBS-7 sequence x^7 + x^6 + 1 (R304). -/
def prbsBits : Nat → Nat → List Nat
  | 0, _ => []
  | n + 1, r => r / 64 % 2 :: prbsBits n ((2 * r + (r / 64 + r / 32) % 2) % 128)

/-- Bits as bytes, most significant first. -/
def packBytes : List Nat → List Nat
  | a :: b :: c :: d :: e :: f :: g :: h :: r =>
    (((((((a * 2 + b) * 2 + c) * 2 + d) * 2 + e) * 2 + f) * 2 + g) * 2 + h) :: packBytes r
  | _ => []

/-- The 64 TRAIN frames of a trial (R312). -/
def State.sendTrain (s : State) (l : Lane) : State :=
  s.each (List.range 64) fun t k =>
    let b := ctrlBytes 0x12 k (t.rd .pair PAIR.EPOCH_EPOCH) (packBytes (prbsBits 2048 0x7F))
    t.emit (.ctrl l.val b (crc32c b))

/-! ### Bring-up (R311 to R313) -/

/-- A trial starts: SPEED at the current rate. -/
def State.trialStart (s : State) (l : Lane) (rate preset : Nat) (best : Option (Nat × Nat)) (fast : Bool) : State :=
  let s := s.modLane l fun (h : LaneHw) => { h with trial := some { rate, preset, step := 0, best, fast, at_ := s.dclk } }
  s.queueCtrl l 0x11 (rate + 256 * preset)

/-- The HEAD_CFG frame (R304). -/
def State.headCfg (s : State) (l : Lane) : State :=
  s.queueCtrl l 0x21 (s.rd (.vnl l) VNL.COL + 2 ^ 32 * s.rd (.vnl l) VNL.COL_TDEF)

/-- UP: both banks are loaded, and a SOLO or LEAD has its EPOCH frame acknowledged (R311). -/
def State.linkReady (s : State) (l : Lane) : State :=
  let h := s.lanes[l]
  let writing := (h.ctrl ++ h.unacked).any fun f => f.type == 0x20
  let s := if writing || s.on (.wav l) WAV.BANK_LOADED then s else (s.wr (.wav l) WAV.BANK_LOADED 1).raise (.wav l) 9
  if s.ls l = lsLoad && !writing && (s.shadow || h.epochOk) then
    let s := ((s.setLs l lsUp).wr (.vnl l) VNL.LINK_TIME s.time).raise (.vnl l) 8
    let s := s.when (s.on (.vnl l) VNL.STAT_FALLBACK) fun t => t.raise (.vnl l) 10
    let s := (s.modLane l fun (h : LaneHw) => { h with freshBand := true, crcRun := 0, noTemp := 0, heardAt := s.dclk, eyeAt := s.dclk }).settleTmin l
    if s.lanes[l].st == .link then (s.setLane l .idle).armNext else s
  else s

/-- LOAD is entered: the banks are written, the active sets in the active bank and the staged sets in the other, and the
epoch is given to the head (R257, R311, R348). -/
def State.linkLoad (s : State) (l : Lane) : State :=
  let target := min s.lanes[l].cfg.maxRate (s.rd (.vnl l) VNL.IDENT0_MAX_RATE)
  let s := ((s.setLs l lsLoad).modLane l fun (h : LaneHw) => { h with trial := none, epochOk := false }).flag (.vnl l)
    VNL.STAT_FALLBACK (decide (s.rd (.vnl l) VNL.STAT_RATE < target))
  if s.shadow then s.linkReady l
  else
    let act := s.rd (.wav l) WAV.BANK_ACTIVE
    let s := s.wr (.wav l) WAV.BANK_LOADED 0
    let s := s.loadBank l act fun r i => s.rd (.wav l) r i
    let s := s.loadBank l (1 - act) fun r i => s.rdStaged (.wav l) r i
    let head := s.rd (.vnl l) VNL.STAT_HEAD_EPOCH
    let s := if s.pair.role == .solo && s.noPage then
        let e := s.nextEpoch
        s.setEpoch (if epochNewer ((head + 1) % 65536) e then head + 1 else e)
      else s
    s.queueCtrl l 0x30 0

/-- The search at a rate ends: with a preset it goes on to the next rate or to LOAD, without one to LOAD at the rate
before (R311, R313). -/
def State.rateDone (s : State) (l : Lane) (rate : Nat) (best : Option (Nat × Nat)) : State :=
  let target := min s.lanes[l].cfg.maxRate (s.rd (.vnl l) VNL.IDENT0_MAX_RATE)
  match best with
  | some (p, _) =>
    let shown := if s.lanes[l].cfg.board then 0 else p
    let s := ((s.wr (.vnl l) VNL.STAT_RATE rate).wr (.vnl l) VNL.STAT_PRESET shown).useTaps l p
    let s := s.settleTmin l
    if rate < target then s.trialStart l (rate + 1) 0 none false else s.linkLoad l
  | none => (s.useTaps l (s.rd (.vnl l) VNL.STAT_PRESET)).linkLoad l

/-- The next preset of the search, or its end (R313). -/
def State.trialNext (s : State) (l : Lane) (t : Trial) : State :=
  if s.lanes[l].cfg.board then s.rateDone l t.rate t.best
  else if (t.best.isNone || s.on (.vnl l) VNL.IDENT0_DS_EYE) && decide (t.preset < 3) then
    s.trialStart l t.rate (t.preset + 1) t.best false
  else s.rateDone l t.rate t.best

/-- The rate the head holds during a search, and its preset: the trial's once a preset has passed at it (R312, R316). -/
def State.rateOk (s : State) (l : Lane) (t : Trial) : Nat × Nat :=
  match t.best with
  | some (p, _) => (t.rate, p)
  | none => (s.rd (.vnl l) VNL.STAT_RATE, s.rd (.vnl l) VNL.STAT_PRESET)

/-- A trial fails (R312): in FAST the link returns to WAKE; else the transmitter returns to the rate that holds and waits
for the head there. -/
def State.trialFail (s : State) (l : Lane) (t : Trial) : State :=
  let s := (s.bump (.vnl l) VNL.TRIAL_CNT).err (.vnl l) 0x22 (t.rate + 4 * t.preset)
  if t.fast then s.linkStart l
  else
    (s.useTaps l (s.rateOk l t).2).modLane l fun (h : LaneHw) =>
      { h with trial := some { t with step := 4, at_ := s.dclk }, ctrl := h.ctrl.filter fun f => f.type != 0x11,
               unacked := h.unacked.filter fun f => f.type != 0x11 }

/-- A trial passes. -/
def State.trialPass (s : State) (l : Lane) (t : Trial) (eye : Nat) : State :=
  if t.fast then (s.modLane l fun (h : LaneHw) => { h with trial := none }).queueCtrl l 0x10 0
  else
    let best := match t.best with
      | some (p, e) => if e < eye then some (t.preset, eye) else some (p, e)
      | none => some (t.preset, eye)
    s.trialNext l { t with best }

/-- R312. 2 us after the acknowledgement the transmitter switches to the trial's rate and preset. -/
def execTrialSwitch (l : Lane) (s : State) : Host.Outcome State Fault Refusal :=
  match s.lanes[l].trial with
  | some t =>
    if s.devUp && t.step == 1 && decide (1000 + t.at_ ≤ s.dclk) then
      .next ((s.useTaps l t.preset).modLane l fun (h : LaneHw) => { h with trial := some { t with step := 2, at_ := s.dclk } })
    else .next s
  | none => .next s

/-- The time a step of a trial waits has passed: 200 us for lock, 20 us for TRAIN_RES after the 64 TRAIN frames, which are
17,664 code-groups (R312). -/
def State.trialLate (s : State) (t : Trial) : Bool :=
  let wait := if t.step = 2 then 100000 else 10000 + ceilDiv 110400 (t.rate + 1)
  decide (t.at_ + wait ≤ s.dclk)

/-- R312. No lock within 200 us, or no TRAIN_RES within 20 us. -/
def execTrialTimeout (l : Lane) (s : State) : Host.Outcome State Fault Refusal :=
  match s.lanes[l].trial with
  | some t => if s.devUp && (t.step == 2 || t.step == 3) && s.trialLate t then .next (s.trialFail l t) else .next s
  | none => .next s

/-- R311. No relock within 1 ms in FAST. -/
def execFastLockTimeout (l : Lane) (s : State) : Host.Outcome State Fault Refusal :=
  let asks := (s.lanes[l].ctrl ++ s.lanes[l].unacked).any fun f => f.type == 0x10
  if s.devUp && s.ls l == lsFast && s.lanes[l].trial.isNone && !asks && s.lsFor l 500000 then .next (s.linkStart l)
  else .next s

/-- R311. 20 ms in WAKE without an HSTAT. -/
def execNoHeadTimeout (l : Lane) (s : State) : Host.Outcome State Fault Refusal :=
  if s.devUp && s.ls l == lsWake && s.lsFor l 10000000 then .next ((s.errOpen (.vnl l) 0x20).setLs l lsWait) else .next s

/-- R311, R78. 35 ms since the bring-up bound started. -/
def execBringupTmo (l : Lane) (s : State) : Host.Outcome State Fault Refusal :=
  let st := s.ls l
  let due := decide (17500000 + s.lanes[l].boundAt ≤ s.dclk)
  if s.devUp && due && (st == lsWake || st == lsIdent || st == lsStep || st == lsLoad || st == lsFast) then
    let c := Lane.clu l
    let s := ((s.errOpen (.vnl l) 0x25).noFrames l).setLs l lsWait
    .next { s with clusters := s.clusters.set c { s.clusters[c] with linkLate := true } }
  else .next s

/-- R311. 100 ms in WAIT restarts bring-up. -/
def execLinkWaitExpiry (l : Lane) (s : State) : Host.Outcome State Fault Refusal :=
  if s.devUp && s.ls l == lsWait && s.laneEn l && s.lsFor l 50000000 then .next ((s.boundStart l).linkStart l) else .next s

/-! ### Upstream frames (R307 to R309) -/

/-- What every good upstream frame does: lock, port, epoch, eye and temperature; a frame without LOCK loses the link, and
a newer epoch demotes a LEAD that is not in FAULT or stops a SOLO's lane (R314, R347, R348). `eye` tells that the type has a DS_EYE field. -/
def State.upstream (s : State) (l : Lane) (up : UpHead) (eye : Bool) : State :=
  let port := up.port.toNat
  let s := s.modLane l fun (h : LaneHw) => { h with heardAt := s.dclk }
  let s := ((s.wr (.vnl l) VNL.STAT_UP_LOCK 1).flag (.vnl l) VNL.STAT_HEAD_LOCK (bit port 3)).flag (.vnl l)
    VNL.STAT_ACTIVE_US (bit port 2 && bit port 0 == bit port 1)
  let s := s.wr (.vnl l) VNL.STAT_HEAD_EPOCH up.epoch.toNat
  let s := if eye && up.eye.toNat != 0 then s.wr (.vnl l) VNL.EYE_DS_MUI up.eye.toNat else s
  let s := if s.ls l = lsUp && bit up.temp.toNat 15 then s.takeTemp l (BitVec.ofNat 12 up.temp.toNat) else s
  if s.ls l = lsUp && !bit port 3 then s.linkLost l 3
  else if (s.ls l = lsUp || s.ls l = lsLoad) && epochNewer up.epoch.toNat (s.rd .pair PAIR.EPOCH_EPOCH) then
    match s.pair.role with
    | .lead => if s.power.dev == .fault then s else s.demote
    | .solo =>
      if s.noPage then s
      else
        let s := s.errOpen .pair 0x28
        if s.ls l = lsUp then s.linkDrop l else s
    | .shadow => s
  else s

/-- An upstream frame reaches a running device whose port is on. -/
def State.hears (s : State) (l : Lane) : Bool := s.devUp && s.ls l != lsDown

/-- R308, R309. An LSTAT gives the head's result for a FIRE. -/
def execLstatReceive (l : Lane) (up : UpHead) (seq : BitVec 16) (result : BitVec 8) (s : State) :
    Host.Outcome State Fault Refusal :=
  if s.hears l then
    let r := result.toNat
    let k := if r ≤ 5 then r else 1
    let wait := s.lanes[l].fires.find? fun f => f.seq == seq.toNat
    let s := s.modLane l fun (h : LaneHw) => { h with fires := h.fires.filter fun f => f.seq != seq.toNat }
    let s := s.when (k != 0) fun t => t.bump (.vnl l) VNL.RES_CNT 1 (k - 1)
    let s := match wait with
      | some f =>
        let s := s.modLane l fun (h : LaneHw) => { h with crcRun := if 1 ≤ k && decide (k ≤ 3) then h.crcRun + 1 else 0 }
        match f.tag with
        | some t =>
          if 1 ≤ k && decide (k ≤ 4) then
            ((s.bump (.seq l) SEQ.HEAD_CRC_CNT).raise (.seq l) 13).spoilLine l t 13 flagAfter 0 f.at_
          else s
        | none => s
      | none => s
    .next ((s.when (k == 5 && wait.isSome) fun t => t.raise (.vnl l) 11).upstream l up true)
  else .next s

/-- R309. No LSTAT within ACK_US of the last code-group of a FIRE (R254): the oldest FIRE that waits is spoiled with
HEAD_NOACK. -/
def execLstatTimeout (l : Lane) (s : State) : Host.Outcome State Fault Refusal :=
  match s.lanes[l].fires with
  | [] => .next s
  | f :: rest =>
    if s.devUp && decide (f.at_ + 1 + lclkDclk (s.rd (.vnl l) VNL.STAT_RATE) 7 + 500 * s.lanes[l].cfg.ackUs ≤ s.dclk) then
      let s := s.modLane l fun (h : LaneHw) => { h with fires := rest }
      match f.tag with
      | some t => .next ((s.bump (.seq l) SEQ.NOACK_CNT).spoilLine l t 14 flagAfter 0 f.at_)
      | none => .next s
    else .next s

/-- R311, R312. An HSTAT advances bring-up on lock. -/
def execHstatReceive (l : Lane) (up : UpHead) (rate : BitVec 8) (s : State) : Host.Outcome State Fault Refusal :=
  if s.hears l then
    let s := s.upstream l up true
    if !bit up.port.toNat 3 then .next s
    else
      match s.lanes[l].trial with
      | some t =>
        if t.step == 2 && rate.toNat == t.rate then
          .next ((s.sendTrain l).modLane l fun (h : LaneHw) => { h with trial := some { t with step := 3, at_ := s.dclk } })
        else if t.step == 4 && rate.toNat == (s.rateOk l t).1 then .next (s.trialNext l t)
        else .next s
      | none =>
        if s.ls l = lsWake && rate.toNat = 0 then .next ((s.setLs l lsIdent).queueCtrl l 0x10 0)
        else if s.ls l = lsFast && rate.toNat = s.rd (.vnl l) VNL.STAT_RATE then
          .next (s.trialStart l rate.toNat (s.rd (.vnl l) VNL.STAT_PRESET) none true)
        else .next s
  else .next s

/-- R305, R311. A CACK ends the wait for a control frame (log entry 25). -/
def execCackReceive (l : Lane) (up : UpHead) (cseq cresult : BitVec 8) (s : State) : Host.Outcome State Fault Refusal :=
  if s.hears l then
    let s := s.upstream l up true
    match s.lanes[l].unacked.find? fun f => f.cseq == cseq.toNat && f.type != 0x10 with
    | none => .next s
    | some f =>
      let ok := cresult.toNat == 0
      let s := s.modLane l fun (h : LaneHw) =>
        { h with unacked := h.unacked.filter fun g => g.cseq != f.cseq, epochOk := h.epochOk || (f.type == 0x30 && ok) }
      match s.lanes[l].trial with
      | some t =>
        if f.type = 0x11 && t.step == 0 then
          .next (if ok then s.modLane l fun (h : LaneHw) => { h with trial := some { t with step := 1, at_ := s.dclk } } else s.trialFail l t)
        else .next (s.linkReady l)
      | none => .next (s.linkReady l)
  else .next s

/-- R311. An IDENT sets the nozzle count and the target rate, or is recorded as IDENT_BAD; in FAST it must repeat the
identity. -/
def execIdentReceive (l : Lane) (up : UpHead) (proto caps : BitVec 8) (n vendor model tHead : BitVec 16) (serial : Word)
    (s : State) : Host.Outcome State Fault Refusal :=
  if s.hears l && (s.ls l == lsIdent || s.ls l == lsFast) && s.lanes[l].unacked.any fun f => f.type == 0x10 then
    let s := s.upstream l up false
    let s := s.modLane l fun (h : LaneHw) => { h with unacked := h.unacked.filter fun f => f.type != 0x10 }
    let fast := s.ls l == lsFast
    let key := (vendor.toNat, model.toNat, serial.toNat, n.toNat)
    let want := s.lanes[l].cfg.nExp
    let valid := n.toNat != 0 && Chk.nozzles.ok n.toNat && (want == 0 || want == n.toNat) && proto.toNat == 1
    if fast && key != s.lanes[l].identity then .next (s.linkStart l)
    else if !fast && !valid then
      .next ((s.err (.vnl l) 0x21 (n.toNat % 8192 + proto.toNat % 16 * 65536)).setLs l lsWait)
    else
      let c := caps.toNat
      let s := (s.wr (.vnl l) VNL.IDENT0_N n.toNat).wr (.vnl l) VNL.IDENT0_MAX_RATE (c % 4)
      let s := (s.flag (.vnl l) VNL.IDENT0_TWO_PORTS (bit c 2)).flag (.vnl l) VNL.IDENT0_DS_EYE (bit c 3)
      let s := ((s.wr (.vnl l) VNL.IDENT0_PROTO proto.toNat).wr (.vnl l) VNL.IDENT1_VENDOR vendor.toNat).wr (.vnl l)
        VNL.IDENT1_MODEL model.toNat
      let s := (s.wr (.vnl l) VNL.IDENT2 tHead.toNat).wr (.vnl l) VNL.SERIAL serial.toNat
      let s := ({ s with identN := s.identN.set l n.toNat }).settleTmin l
      if fast then .next (s.linkLoad l)
      else
        let s := s.when (!s.shadow) fun t => t.headCfg l
        let target := min s.lanes[l].cfg.maxRate (c % 4)
        .next (if target = 0 then s.linkLoad l else (s.setLs l lsStep).trialStart l 1 0 none false)
  else .next s

/-- R312. A TRAIN_RES decides whether a trial passes. -/
def execTrainResReceive (l : Lane) (up : UpHead) (rate preset good : BitVec 8) (s : State) :
    Host.Outcome State Fault Refusal :=
  if s.hears l then
    let s := s.upstream l up true
    match s.lanes[l].trial with
    | some t =>
      if t.step == 3 && rate.toNat == t.rate && preset.toNat == t.preset then
        .next (if good.toNat = 64 && !t.bad then s.trialPass l t up.eye.toNat else s.trialFail l t)
      else .next s
    | none => .next s
  else .next s

/-- R309. An upstream frame with a bad CRC is discarded whole. -/
def execUpstreamCrcError (l : Lane) (s : State) : Host.Outcome State Fault Refusal :=
  if s.hears l then .next (s.bump (.vnl l) VNL.UP_CRC) else .next s

/-- R305. A control frame has gone without its reply for 10 us: sent again, or after its third sending the link is
lost. -/
def execControlRetry (l : Lane) (s : State) : Host.Outcome State Fault Refusal :=
  match s.lanes[l].unacked with
  | [] => .next s
  | f :: rest =>
    if !s.devUp || s.dclk < 5000 + f.ends then .next s
    else if s.shadow && changesHead f.type then .next (s.modLane l fun (h : LaneHw) => { h with unacked := rest })
    else if f.sends < 3 then
      if s.dclk < s.lanes[l].ctrlEnd then .next s
      else
        let again := { f with sends := f.sends + 1, ends := s.ctrlEnds l f.type }
        let s := (s.sendCtrl l f).bump (.vnl l) VNL.RETRY
        .next (s.modLane l fun (h : LaneHw) => { h with unacked := rest ++ [again] })
    else
      let s := (s.err (.vnl l) 0x24 f.type).modLane l fun (h : LaneHw) => { h with unacked := rest }
      match s.lanes[l].trial with
      | some t => .next (if f.type = 0x11 then s.trialFail l t else s.linkLost l 4)
      | none => .next (s.linkLost l 4)

/-- R314. `n` invalid upstream code-groups, or loss of upstream lock. -/
def execUpstreamLockLoss (l : Lane) (n : BitVec 8) (s : State) : Host.Outcome State Fault Refusal :=
  if s.hears l then
    let s := (s.bump (.vnl l) VNL.SYM_ERR n.toNat).wr (.vnl l) VNL.STAT_UP_LOCK 0
    let s := s.modLane l fun (h : LaneHw) => { h with trial := h.trial.map fun (t : Trial) => { t with bad := true } }
    .next (s.linkLost l 1)
  else .next s

/-- R314. No good upstream frame for STAT_TMO. -/
def execStatusTimeout (l : Lane) (s : State) : Host.Outcome State Fault Refusal :=
  if s.devUp && decide (s.lanes[l].heardAt + 500 * s.lanes[l].cfg.statTmo ≤ s.dclk) then .next (s.linkLost l 2) else .next s

/-- R314. CRC_LIMIT consecutive results of 1 to 3. -/
def execCrcLimitReached (l : Lane) (s : State) : Host.Outcome State Fault Refusal :=
  if s.devUp && decide (s.lanes[l].cfg.crcLimit ≤ s.lanes[l].crcRun) then .next (s.linkLost l 5) else .next s

/-- The bound of the SCAN_DATA frame a scan waits for has passed: 7.5 us + 2 us x (j + 1) after SCAN_START ended, j the last
nozzle of the frame, and 0.5 us for flight and reception (R230, R316). -/
def State.scanLate (s : State) (l : Lane) : Bool :=
  let h := s.lanes[l].awl
  match h.start with
  | some t => decide (h.full = none ∧ 4000 + t + 1000 * min (h.codes.length + 64) (s.laneN l) ≤ s.dclk)
  | none => false

/-- R316. A SCAN_DATA frame is late: the scan ends with AWL_LINK and the link is lost. -/
def execScanDataLate (l : Lane) (s : State) : Host.Outcome State Fault Refusal :=
  if s.devUp && s.rd (.lne l) LNE.AWL_STAT_STATE == 1 && s.scanLate l then .next (s.linkLost l 6) else .next s

/-- `VNL.CMD.RETRAIN` (R318). -/
def State.retrain (s : State) (l : Lane) : State :=
  if s.laneRun l then s.errOpen (.vnl l) 0x26 else if s.ls l = lsUp then s.linkDrop l else s

/-- R318. A write of `VNL.CMD.RETRAIN`. -/
def execRetrain (req : Req) (l : Lane) (s : State) : Host.Outcome State Fault Refusal :=
  .next <| s.command req (.vnl l) 0x70 fun s => s.retrain l

/-- R315. Every 4 ms the measured eye opening is written to EYE; item 4 holds it while it runs (R381). -/
def execEyeMeasure (l : Lane) (mui : BitVec 16) (s : State) : Host.Outcome State Fault Refusal :=
  if s.hears l && !s.calRuns 4 l.val && decide (2000000 + s.lanes[l].eyeAt ≤ s.dclk) then
    .next ((s.wr (.vnl l) VNL.EYE_UP_MUI mui.toNat).modLane l fun (h : LaneHw) => { h with eyeAt := s.dclk })
  else .next s

/-! ### A lane comes into service (R264) -/

/-- A lane leaves OFF: its bring-up starts. -/
def State.laneOn (s : State) (l : Lane) : State :=
  if s.lanes[l].st == .off && s.domUp (Lane.clu l) && s.laneEn l then ((s.setLane l .link).boundStart l).linkStart l
  else s

/-- A lane enters OFF. What it was doing is gone; its link is lost to a scan, which ends with AWL_LINK unless its last code has
come (R230, R235, log entry 79). -/
def State.laneOff (s : State) (l : Lane) : State :=
  let s := if s.awlFull l then s.modLane l fun (h : LaneHw) => { h with awl := { h.awl with after := some .off } }
    else s.awlAborted l true
  let s := s.modLane l fun (h : LaneHw) => { h with outCause := if h.page.isSome then some (5, 0) else h.outCause }
  (if s.awlFull l then s else s.setLane l .off).linkStop l

/-- `SEQ.CMD.CLEAR` (R264). -/
def State.seqClear (s : State) (l : Lane) : State :=
  if s.lanes[l].st == .fault && s.dllLock l && s.hvGood l && s.power.dev != .fault then
    let s := s.modLane l fun (h : LaneHw) => { h with credit := [], energy := [] }
    if s.linkUp l then (s.setLane l .idle).armNext
    else
      let s := (s.setLane l .link).boundStart l
      if s.ls l = lsDown && s.laneEn l then s.linkStart l else s
  else s.errOpen (.seq l) 0x23

/-- R264. A write of `SEQ.CMD.CLEAR`. -/
def execSeqClear (req : Req) (l : Lane) (s : State) : Host.Outcome State Fault Refusal :=
  .next <| s.command req (.seq l) 0x5C fun s => s.seqClear l

end Sys2Proof.Machine
end

