-- ==== Sys2Proof/Machine/Bist.lean ====
section
/-! DEFINITION. Self-test, repair, table images, fuses and the SRAM scrub (R357 to R372). -/

namespace Sys2Proof.Machine

open Reg

/-! ### Operating points (R17, R79, R80) -/

/-- The enabled lanes of a cluster. -/
def State.enLanes (s : State) (c : Clu) : List Lane := (Clu.lanes c).filter fun l => s.laneEn l

/-- DCLK of an operating point, MHz (R79). -/
def opMHz (op : Nat) : Nat := if op = 0 then 500 else if op = 1 then 450 else if op = 2 then 420 else 250

/-- V_CL of an operating point, mV (R79). -/
def opMv (op : Nat) : Nat := if op = 0 then 750 else if op = 1 then 725 else if op = 2 then 700 else 650

/-- An operating point keeps the floor of R17: its DCLK is at least N x f_P / 1.6. -/
def State.opKeeps (s : State) (c : Clu) (op : Nat) : Bool :=
  let n := (s.enLanes c).foldl (fun a l => max a (s.laneN l)) 0
  decide (625 * n ≤ 2 * opMHz op * s.rd .pace PACE.PERM)

/-- V_CL of a cluster. -/
def State.setVcl (s : State) (c : Clu) (mv : Nat) : State := s.modClu c fun (h : CluHw) => { h with vcl := mv }

/-- A cluster's DCLK becomes that of an operating point; a change aborts the calibration runs of its lanes (R380). -/
def State.setDclk (s : State) (c : Clu) (op : Nat) : State :=
  let s := if s.rd (.cpwr c) CPWR.STAT_OP_ACT = op then s else s.calAbort fun r => (Clu.lanes c).any fun l => r.onLane l
  (s.wr (.cpwr c) CPWR.STAT_OP_ACT op).wr .clk CLK.DCLK_CL (opMHz op) c.val

/-- A cluster runs at an operating point. -/
def State.setOp (s : State) (c : Clu) (op : Nat) : State := (s.setVcl c (opMv op)).setDclk c op

/-- A test or a DLL run forces OP 0; the point it displaces is kept (R80). -/
def State.forceOp (s : State) (c : Clu) : State :=
  match s.clusters[c].opWas with
  | some _ => s
  | none =>
    let was := match s.clusters[c].opTo with
      | some v => v
      | none => s.rd (.cpwr c) CPWR.STAT_OP_ACT
    let s := s.when s.clusters[c].opTo.isSome fun t => t.wr (.cpwr c) CPWR.STAT_DLL_LOCK 1
    (s.modClu c fun (h : CluHw) => { h with opWas := some was, opTo := none }).setOp c 0

/-- The displaced operating point returns if it keeps the floor of R17; otherwise the cluster stays at OP 0. -/
def State.restoreOp (s : State) (c : Clu) : State :=
  match s.clusters[c].opWas with
  | some v =>
    let s := s.modClu c fun (h : CluHw) => { h with opWas := none }
    s.when (s.opKeeps c v) fun t => t.setOp c v
  | none => s

/-! ### Targets (R357, R358) -/

/-- The lanes of a mask. -/
def lanesOf (mask : Nat) : List Lane := allLanes.filter fun (l : Lane) => mask.testBit l.val

/-- The clusters of a mask. -/
def clusOf (mask : Nat) : List Clu := allClus.filter fun (c : Clu) => mask.testBit c.val

/-- Kinds that hold a memory test, and a logic test. -/
def testsMemory (target : Nat) : Bool := target != 1
def testsLogic (target : Nat) : Bool := target == 1 || target == 2

/-- The instances a request names: lanes, clusters, or the one instance 0. -/
def testInsts (target mask : Nat) : List Nat :=
  if target < 3 then (lanesOf mask).map fun l => l.val
  else if target = 3 then (clusOf mask).map fun c => c.val
  else [0]

/-- The result slot of an instance (R368). -/
def testSlot (target i : Nat) : Nat := if target < 3 then i else if target = 3 then 64 + i else 68 + target

/-- The lanes that enter TEST for an instance. -/
def State.testLanes (s : State) (target i : Nat) : List Lane :=
  if target < 3 then allLanes.filter fun (l : Lane) => l.val == i
  else if target = 3 then (allClus.filter fun (c : Clu) => c.val == i).flatMap s.enLanes
  else []

/-- The clusters of an instance. -/
def testClus (target i : Nat) : List Clu :=
  if target < 3 then allClus.filter fun (c : Clu) => c.val == i / 8
  else if target = 3 then allClus.filter fun (c : Clu) => c.val == i
  else []

/-- The device and cluster pages that enter TEST for an instance. -/
def testPages (target i : Nat) : List Page :=
  if target = 3 then (testClus 3 i).flatMap fun c => [.clu c, .scr c, .seam c]
  else if target = 4 then [.lst]
  else if target = 5 then [.cdc]
  else []

/-- An instance is in the state R357 requires. -/
def State.testReady (s : State) (target i : Nat) : Bool :=
  if target < 3 then (s.testLanes target i).all fun l => s.lanes[l].st == .idle
  else if target = 3 then
    (testClus 3 i).all fun c => s.domUp c &&
      (Clu.lanes c).all fun l => if s.laneEn l then s.lanes[l].st == .idle else s.lanes[l].st == .off
  else if target = 4 then s.rd .lst HDR.PG_STAT_STATE == 0
  else s.rd .cdc HDR.PG_STAT_STATE == 0 && s.noPage

/-- The arrays of an instance (R358): the first, and how many. -/
def testArrays (target i : Nat) : Nat × Nat :=
  if target < 3 then (16 * i, 16)
  else if target = 3 then (1024 + 32 * i, 32)
  else if target = 4 then (1280, 320)
  else (1600, 96)

/-- Expected cycles (R357). -/
def State.testCycles (s : State) (target : Nat) : Nat :=
  let logic := 64 + 260 * s.rd .bst BST.LB_CFG_PATTERNS
  if target = 1 then logic
  else if target = 2 then 41024 + logic
  else if target = 4 then 409664
  else if target = 5 then 122944
  else 41024

/-! ### The conditions of a test (R362) -/

/-- Cause 3: the last sample of VDD_CORE lies outside 735 to 765 mV. -/
def State.vcoreBad (s : State) : Bool :=
  decide (s.rd .bst BST.VCORE < 735) || decide (765 < s.rd .bst BST.VCORE)

/-- Cause 4: TJ_MAX below -20 or above +105 degrees C. -/
def State.tempBad (s : State) : Bool := decide (s.rdS .pwr PWR.TJ < -80) || decide (420 < s.rdS .pwr PWR.TJ)

/-- Cause 2 for a cluster. -/
def State.cluClockBad (s : State) (c : Clu) : Bool :=
  let f := s.rd .clk CLK.DCLK_CL c.val
  !s.on (.cpwr c) CPWR.STAT_DLL_LOCK || decide (f < 400) || decide (500 < f)

/-- Cause 2 for the device. -/
def State.devClockBad (s : State) : Bool := !s.on .clk CLK.LOCK_DCLK

/-- A cause of R362 that refuses a START holds. -/
def State.envBad (s : State) (target mask : Nat) : Bool :=
  s.vcoreBad || s.tempBad || s.devClockBad || (testInsts target mask).any fun i => (testClus target i).any s.cluClockBad

/-- `BST.STAT.ENV_OK`: causes 2 to 4 hold for no target (R362): the device, and every cluster whose domain is on. -/
def State.envOk (s : State) : Bool :=
  !(s.vcoreBad || s.tempBad || s.devClockBad || allClus.any fun c => s.domUp c && s.cluClockBad c)

/-! ### Table images (R360, R365) -/

/-- The table image of a lane (R365). -/
def State.imgAt (s : State) (l : Lane) : Nat := s.rd .bst BST.IMG_BASE + l.val * 0x40000

/-- The spool serves addresses from a up. -/
def State.spoolServes (s : State) (a n : Nat) : Bool := s.ddrState == ddrActive && decide (a + n ≤ s.spoolSize)

/-- Words of the spool. -/
def State.spoolWords (s : State) (a n : Nat) : List Nat := (List.range n).map fun i => Memory.readNat s.ddr.mem (a + 4 * i) 4

/-- The device writes words to the spool on port P3. -/
def State.spoolStore (s : State) (a : Nat) (ws : List Nat) : State :=
  if s.spoolServes a (4 * ws.length) then
    s.portWrite 3 a ((wordBytes ws).map fun b => BitVec.ofNat 8 b)
  else s

/-- Step 2 of R360: the lifetime counts are saved. -/
def State.saveCounts (s : State) (l : Lane) : State := s.spoolStore (0x30000 + s.imgAt l) (s.winWords l winCounts 8192)

/-- The lifetime counts return from where step 2 saved them; an uncorrectable read returns none (log entry 67). -/
def State.loadCounts (s : State) (l : Lane) : State :=
  let a := 0x30000 + s.imgAt l
  if s.spoolServes a 32768 then
    match s.poisonIn a 32768 with
    | some b => s.ddrUe b 3 0 false
    | none => s.setWins l winCounts (s.spoolWords a 8192)
  else s

/-- The first burst of what a restore reads of a lane's image that holds poison. -/
def State.imgPoison (s : State) (l : Lane) : Option Nat :=
  match s.poisonIn (s.imgAt l) 0x30000 with
  | some b => some b
  | none => s.poisonIn (0x38000 + s.imgAt l) 20

/-- The image of a lane can be restored (R365): it is served, and MAGIC and CRC match. -/
def State.imgGood (s : State) (l : Lane) : Bool :=
  let a := s.imgAt l
  s.spoolServes a 0x40000 &&
    Memory.readNat s.ddr.mem (0x38000 + a) 4 == 0xA9B70001 &&
    crc32c (wordBytes (s.spoolWords a winCounts)) == Memory.readNat s.ddr.mem (0x38010 + a) 4

/-- The image is written into the window, and its map counts as committed (R365). -/
def State.imgLoad (s : State) (l : Lane) : State :=
  let a := s.imgAt l
  let hdr (o n : Nat) : Nat := Memory.readNat s.ddr.mem (0x38000 + a + o) n
  let s := s.setWins l 0 (s.spoolWords a winCounts)
  let s := s.wr (.lne l) LNE.MAP_CTRL_ACT_VALID (if hdr 4 1 = 1 then 1 else 0)
  let s := (s.wrBoth (.lne l) LNE.MAP_VER (hdr 8 4)).wr (.lne l) LNE.TBL_VER (hdr 0xC 4)
  (s.mapFigures l).each (s.withNeighbours l) State.partnerRefresh

/-- The uncorrectable error that a restore meets, logged (R172): at a burst that holds poison, else, where `ue` says that one is
met, at a burst of the image the spec does not name (a free value). -/
def State.imgUe (s : State) (l : Lane) (ue : Bool) : State × Bool :=
  match s.imgPoison l with
  | some b => (s.ddrUe b 3 0 false, true)
  | none =>
    if ue then
      let (n, s) := s.draw
      (s.ddrUe (s.imgAt l + 64 * (Config.freeNat n % 3072)) 3 0 false, true)
    else (s, false)

/-- A restore of a lane's window (R365): whether it succeeded. A failure is recorded in the lane's LNE page. -/
def State.restoreWindow (s : State) (l : Lane) (ue : Bool) : State × Bool :=
  let (s, bad) := s.imgUe l ue
  if !bad && s.imgGood l then (s.imgLoad l, true)
  else ((s.errOpen (.lne l) 0x40).raise .bst 11, false)

/-! ### Ending a test (R360 to R364) -/

/-- The registers of a page return to their reset values. -/
def State.resetPage (s : State) (p : Page) : State :=
  let lo := p.base * 8
  let hi := lo + 0x8000
  { s with
    regs := Regs.clear s.regs lo hi
    staged := Regs.clear s.staged lo hi
    commits := s.commits.filter fun e => e.1 != p }

/-- Step 4 of R360 for a lane: its temperature readings stay, as does the age of its scan, which is no register; TMIN follows
the waveform and the link, which stays up (R252). -/
def State.resetLane (s : State) (l : Lane) : State :=
  let t := s.rd (.seq l) SEQ.TEMP_READING
  let v := s.rd (.seq l) SEQ.TEMP_VALID
  let s := ((s.resetPage (.lne l)).resetPage (.seq l)).resetPage (.wav l)
  let s := s.modLane l fun (h : LaneHw) => { h with mapSnap := none, awl := { since := h.awl.since }, tblRun := false }
  ((s.wr (.seq l) SEQ.TEMP_READING t).wr (.seq l) SEQ.TEMP_VALID v).settleTmin l

/-- Step 4 of R360 for a device or cluster page; `CDC.PRESET_BASE` and PRESET_VALID stay. -/
def State.resetTested (s : State) (p : Page) : State :=
  match p with
  | .cdc =>
    let base := s.rd .cdc CDC.PRESET_BASE
    let valid := (List.range 8).map fun i => s.rd .cdc CDC.PRESET_VALID i
    let s := (s.resetPage .cdc).wr .cdc CDC.PRESET_BASE base
    s.each (List.range 8) fun t i => t.wr .cdc CDC.PRESET_VALID (valid.getD i 0) i
  | _ => s.resetPage p

/-- The march leaves every word of the target's arrays 0 (R358). -/
def State.marchClears (s : State) (target i : Nat) : State :=
  if target = 1 then s
  else if target < 3 then
    s.each (s.testLanes target i) fun t l => t.modLane l fun (h : LaneHw) => { h with win := [], credit := [], acc := [] }
  else if target = 3 then s.each (testClus 3 i) fun t c => t.modClu c fun (h : CluHw) => { h with mat := [] }
  else if target = 4 then { s with intake := { s.intake with bandBuf := [] } }
  else { s with codec := { s.codec with decPreset := Vector.replicate 16 [] } }

/-- Fuse entries in force, as repairs (R366). -/
def State.fused (s : State) : List Repair :=
  ((List.range 512).filter fun e => s.on .fuse FUSE.REPAIR_VALID e).map fun e =>
    { array := s.rd .fuse FUSE.REPAIR_ARRAY e, row := s.rd .fuse FUSE.REPAIR_ROW e, spare := s.rd .fuse FUSE.REPAIR_SPARE e }

/-- A spare of an array that no repair uses. -/
def freeSpare (used : List Repair) (array : Nat) : Option Nat :=
  [0, 1].find? fun k => !(used.any fun r => r.array == array && r.spare == k)

/-- The repairs of failing rows, in order: each takes a free spare of its array (R364). -/
def repairsOf : List Repair → List (Nat × Nat) → List Repair
  | _, [] => []
  | used, (a, row) :: fs =>
    match freeSpare used a with
    | some k => { array := a, row, spare := k } :: repairsOf ({ array := a, row, spare := k } :: used) fs
    | none => repairsOf used fs

/-- Steps 4 to 6 of R360 for one instance: the registers reset, the windows and counts restored, the lanes IDLE. `ue` is
an uncorrectable read of the restore. -/
def State.testClose (s : State) (target i : Nat) (lanes : List Lane) (ue : Bool) : State :=
  let slot := testSlot target i
  let s := s.each (testPages target i) State.resetTested
  let s := s.each lanes State.resetLane
  let s := if target < 3 then s.each lanes fun t l =>
      let t := if t.on .bst BST.CTRL_TABLE_RESTORE then
          let (t, ok) := t.restoreWindow l ue
          t.wr .bst (if ok then BST.RES_STAT_RESTORE_OK else BST.RES_STAT_RESTORE_FAIL) 1 slot
        else t
      t.loadCounts l
    else s
  { s with bist := { s.bist with pages := s.bist.pages.filter fun p => !(testPages target i).contains p } }

/-- The lanes of a test leave TEST: IDLE, or LINK where the link was lost meanwhile. -/
def State.testLeave (s : State) (lanes : List Lane) : State :=
  let s := s.each lanes fun t l =>
    if t.lanes[l].st == .test then
      let t := t.setLane l .idle
      if t.linkUp l then t else t.setLane l .link
    else t
  s.armNext

/-- The lanes a run holds. -/
def BistRun.lanesOf (r : BistRun) : List Lane := allLanes.filter fun (l : Lane) => r.lanes.contains l.val

/-- The run is over: the operating points return and DONE is raised. -/
def State.testEnd (s : State) (r : BistRun) : State :=
  let s := { s with bist := { s.bist with run := none } }
  let s := s.testLeave (r.lanesOf)
  let s := s.each ((r.insts.flatMap (testClus r.target)).eraseDups) State.restoreOp
  ((s.setPage .bst 0).setOverdue .bst false).raise .bst 8

/-- What a memory test found on an instance is recorded, and its soft repairs made (R363, R364). REPAIRED of more than 255
repairs, which its field cannot hold, is a free value (log entry 81). -/
def State.testResult (s : State) (target i : Nat) (x : BistResult) : State :=
  let slot := testSlot target i
  let (a0, n) := testArrays target i
  let fails := if testsMemory target then
      ((x.fails.map fun f => (f.1.toNat, f.2.toNat)).eraseDups).filter fun f => decide (a0 ≤ f.1 ∧ f.1 < a0 + n)
    else []
  let soft := if s.on .bst BST.CTRL_SOFT_REPAIR then repairsOf (s.fused ++ s.bist.soft.map (·.2)) fails else []
  let s := { s with bist := { s.bist with soft := s.bist.soft ++ soft.map fun r => (slot, r) } }
  let sig := if testsLogic target then x.sig.toNat
    else match fails with
      | f :: _ => f.1 + 2 ^ 11 * f.2
      | [] => 0
  let pass := x.cycles.toNat == s.rd .bst BST.EXP_CYC && fails.length == soft.length &&
    (!testsLogic target || sig == s.rd .bst BST.LB_EXP)
  let s := ((s.wr .bst BST.RES_STAT_DONE 1 slot).wr .bst BST.RES_STAT_VALID 1 slot).flag .bst BST.RES_STAT_PASS pass slot
  let s := (s.wr .bst BST.RES_STAT_FAILS (min 255 fails.length) slot).wr .bst BST.RES_STAT_REPAIRED soft.length slot
  let s := if soft.length < 256 then s
    else
      let (n, t) := s.draw
      t.wr .bst BST.RES_STAT_REPAIRED (Config.freeNat n) slot
  let s := s.flag .bst BST.RES_STAT_UNREPAIRABLE (s.on .bst BST.CTRL_SOFT_REPAIR && decide (soft.length < fails.length)) slot
  (s.wr .bst BST.RES_CYCLES x.cycles.toNat slot).wr .bst BST.RES_SIG sig slot

/-- A running test is aborted (R362): VALID stays clear, and steps 4 to 6 of R360 follow. The spec does not state how far
the count of cycles came: a free value (log entry 28). -/
def State.testAbort (s : State) (why : Nat) : State :=
  match s.bist.run with
  | none => s
  | some r =>
    let s := s.each r.insts fun t i =>
      let slot := testSlot r.target i
      let (n, t) := t.draw
      let t := ((t.wr .bst BST.RES_STAT_DONE 1 slot).wr .bst BST.RES_STAT_ABORTED 1 slot).wr .bst BST.RES_STAT_ABORT_WHY why slot
      let t := (t.wr .bst BST.RES_CYCLES (Config.freeNat n % (t.rd .bst BST.EXP_CYC + 1)) slot).marchClears r.target i
      t.testClose r.target i (t.testLanes r.target i) false
    let s := (s.err .bst 0x23 why).raise .bst 9
    s.testEnd r

/-- The result slot of an instance is emptied. -/
def State.clearSlot (s : State) (slot : Nat) : State :=
  let lo := (Page.bst.base + 0x400 + 16 * slot) * 8
  { s with regs := Regs.clear s.regs lo (lo + 128) }

/-- The test begins (R360 steps 1 and 2). -/
def State.testBegin (s : State) (target mask : Nat) : State :=
  let insts := testInsts target mask
  let lanes := insts.flatMap (s.testLanes target)
  let s := s.each insts fun t i => t.clearSlot (testSlot target i)
  let s := s.wr .bst BST.EXP_CYC (s.testCycles target)
  let s := { s with bist := { s.bist with
    pages := s.bist.pages ++ insts.flatMap (testPages target)
    run := some { target, insts, lanes := lanes.map fun (l : Lane) => l.val, at_ := s.dclk }
    imgAt := s.dclk } }
  let s := s.each ((insts.flatMap (testClus target)).eraseDups) State.forceOp
  let s := s.each lanes fun t l => t.setLane l .test
  (s.when (decide (target < 3)) fun t => t.each lanes State.saveCounts).setPage .bst 1

/-- `BST.CMD.START` (R357, R362). -/
def State.bistStart (s : State) (req : Req) : State :=
  let target := s.rd .bst BST.REQ
  let mask := s.rd .bst BST.MASK
  if 6 ≤ target then s.errAt .bst Err.badValue 0x60 req.code
  else if s.rd .bst HDR.PG_STAT_STATE != 0 then s.errOpen .bst 0x21
  else
    match (testInsts target mask).find? fun i => !s.testReady target i with
    | some i => s.err .bst 0x20 i
    | none => if s.envBad target mask then s.errOpen .bst 0x22 else s.testBegin target mask

/-- R357. `BST.CMD.START` is written. -/
def execBistStart (req : Req) (s : State) : Host.Outcome State Fault Refusal :=
  .next <| s.command req .bst 0x60 fun s => s.bistStart req

/-- R362. `BST.CMD.ABORT` is written. -/
def execBistAbort (req : Req) (s : State) : Host.Outcome State Fault Refusal :=
  .next <| s.command req .bst 0x60 fun s => s.testAbort 1

/-- R360. The test ends; `results` holds what it found on each instance, in rising order. A count of cycles beyond the DCLK
that have passed since the test began cannot be. -/
def execBistDone (results : List BistResult) (s : State) : Host.Outcome State Fault Refusal :=
  match s.bist.run with
  | none => .next s
  | some r =>
    if s.devUp && results.length == r.insts.length && results.all fun x => decide (r.at_ + x.cycles.toNat ≤ s.dclk) then
      let s := s.each (r.insts.zip results) fun t e =>
        ((t.testResult r.target e.1 e.2).marchClears r.target e.1).testClose r.target e.1 (t.testLanes r.target e.1) e.2.ue
      .next (s.testEnd r)
    else .next s

/-- R362. The on-die monitor samples VDD_CORE, in mV, every 1 us (500 DCLK). -/
def execVcoreSample (mv : BitVec 12) (s : State) : Host.Outcome State Fault Refusal :=
  if s.devUp && decide (s.bist.sampleAt ≤ s.dclk) then
    let s := { s with bist := { s.bist with sampleAt := s.dclk + 500 } }.wr .bst BST.VCORE mv.toNat
    .next (if s.vcoreBad then s.testAbort 3 else s)
  else .next s

/-! ### Saving an image (R365) -/

/-- `BST.CMD.IMG_SAVE` with INST = l. -/
def State.imgSave (s : State) (req : Req) (inst : Nat) : State :=
  if h : inst < 64 then
    let l : Lane := ⟨inst, h⟩
    if s.lanes[l].st == .test || s.rd .bst HDR.PG_STAT_STATE != 0 then s.errOpen .bst 0x21
    else ({ s with bist := { s.bist with img := some inst, imgAt := s.dclk } }).setPage .bst 2
  else s.errAt .bst Err.badValue 0x60 req.code

/-- R365. `BST.CMD.IMG_SAVE` is written. -/
def execImgSave (req : Req) (inst : BitVec 7) (s : State) : Host.Outcome State Fault Refusal :=
  .next <| s.command req .bst 0x60 fun s => s.imgSave req inst.toNat

/-- The window and the header of a lane are written to its image. -/
def State.imgWrite (s : State) (l : Lane) : State :=
  let ws := s.winWords l 0 winCounts
  let hdr := [0xA9B70001, s.rd (.lne l) LNE.MAP_CTRL_ACT_VALID, s.rd (.lne l) LNE.MAP_VER, s.rd (.lne l) LNE.TBL_VER,
    crc32c (wordBytes ws)]
  (s.spoolStore (s.imgAt l) ws).spoolStore (0x38000 + s.imgAt l) hdr

/-- R365. The copy of the window and header ends. -/
def execImgSaveDone (s : State) : Host.Outcome State Fault Refusal :=
  match s.bist.img with
  | none => .next s
  | some i =>
    if h : i < 64 then
      if s.devUp then
        let s := ({ s with bist := { s.bist with img := none } }).imgWrite ⟨i, h⟩
        .next ((s.setPage .bst 0).setOverdue .bst false)
      else .next s
    else .next s

/-! ### Fuses (R366, R367) -/

/-- Fuse entries that can still be blown. -/
def State.freeFuses (s : State) : List Nat :=
  (List.range 512).filter fun e => !s.on .fuse FUSE.REPAIR_VALID e && !s.bist.dead.contains e

/-- The soft repairs of a slot that are not in the fuses. -/
def State.unfused (s : State) (slot : Nat) : List Repair :=
  ((s.bist.soft.filter fun e => e.1 == slot).map (·.2)).filter fun r => !s.fused.contains r

/-- `BST.CMD.BURN` with INST naming a slot; `fsrc` tells that the FSRC supply is in its range (log entry 28). -/
def State.fuseBurn (s : State) (req : Req) (slot : Nat) (fsrc : Bool) : State :=
  let s := s.flag .bst BST.STAT_FSRC_OK fsrc
  let todo := s.unfused slot
  if 74 ≤ slot then s.errAt .bst Err.badValue 0x60 req.code
  else if !fsrc then s.errOpen .bst 0x24
  else if s.power.dev != .idle || s.rd .bst HDR.PG_STAT_STATE != 0 || !s.on .bst BST.RES_STAT_DONE slot ||
      !(s.bist.soft.any fun e => e.1 == slot) || s.on .bst BST.RES_STAT_UNREPAIRABLE slot then s.errOpen .bst 0x26
  else if s.freeFuses.length < todo.length then s.errOpen .bst 0x25
  else if todo.isEmpty then s.raise .bst 10
  else ({ s with bist := { s.bist with burn := some { slot, todo } } }).setPage .bst 3

/-- R367. `BST.CMD.BURN` is written. -/
def execFuseBurn (req : Req) (slot : BitVec 7) (fsrc : Bool) (s : State) : Host.Outcome State Fault Refusal :=
  .next <| s.command req .bst 0x60 fun s => s.fuseBurn req slot.toNat fsrc

/-- The REPAIR entry of the Den (R389): RESULT 0 blown, 1 stopped. -/
def State.denRepair (s : State) (e : Nat) (r : Repair) (result slot : Nat) : State :=
  s.denHw 4 0x50 (e + 2 ^ 16 * r.array + 2 ^ 32 * r.row + 2 ^ 48 * r.spare + 2 ^ 56 * result + 2 ^ 64 * slot)

/-- R367. One fuse entry has been blown. -/
def execBurnEntryDone (s : State) : Host.Outcome State Fault Refusal :=
  match s.bist.burn with
  | none => .next s
  | some b =>
    match b.todo, s.freeFuses with
    | r :: rest, e :: _ =>
      if s.devUp then
        let s := ((s.wr .fuse FUSE.REPAIR_ARRAY r.array e).wr .fuse FUSE.REPAIR_ROW r.row e).wr .fuse FUSE.REPAIR_SPARE r.spare e
        let s := (s.wr .fuse FUSE.REPAIR_VALID 1 e).denRepair e r 0 b.slot
        if rest.isEmpty then
          .next ((({ s with bist := { s.bist with burn := none } }).setPage .bst 0).raise .bst 10)
        else .next { s with bist := { s.bist with burn := some { b with todo := rest } } }
      else .next s
    | _, _ => .next s

/-- R367. FSRC falls: a burn stops with FSRC_LOW, and the entry in progress is never used. -/
def execFsrcFall (s : State) : Host.Outcome State Fault Refusal :=
  if s.devUp then
    let s := s.wr .bst BST.STAT_FSRC_OK 0
    match s.bist.burn with
    | none => .next s
    | some b =>
      let s := ({ s with bist := { s.bist with burn := none } }).setPage .bst 0
      match b.todo, s.freeFuses with
      | r :: _, e :: _ =>
        let s := { s with bist := { s.bist with dead := s.bist.dead ++ [e] } }
        .next ((s.errOpen .bst 0x24).denRepair e r 1 b.slot)
      | _, _ => .next (s.errOpen .bst 0x24)
  else .next s

/-- The soft repairs of arrays from a up are lost with their domain (R364). -/
def State.softLost (s : State) (a n : Nat) : State :=
  { s with bist := { s.bist with soft := s.bist.soft.filter fun e => !(decide (a ≤ e.2.array ∧ e.2.array < a + n)) } }

/-! ### The SRAM scrub (R371) and MAX_DEFER (R370) -/

/-- An array is powered and not in TEST. -/
def State.arrayUp (s : State) (a : Nat) : Bool :=
  if h : a < 1024 then
    let l : Lane := ⟨a / 16, by omega⟩
    s.domUp (Lane.clu l) && s.lanes[l].st != .test
  else if h : a < 1280 then
    let c : Clu := ⟨(a - 1024) / 32, by omega⟩
    s.domUp c && !s.bist.pages.contains (.clu c)
  else if a < 1600 then !s.bist.pages.contains .lst
  else if a < 1696 then !s.bist.pages.contains .cdc
  else true

/-- Arrays to pass over from array a, at most n of them. -/
def State.arraySkips (s : State) (a : Nat) : Nat → Nat
  | 0 => 0
  | n + 1 => if s.arrayUp a then 0 else 1 + State.arraySkips s (a + 1) n

/-- What the scrub does with the word it read. `table` tells that the word lies in a lane's table store. -/
def State.scrubWord (s : State) (a w : Nat) (kind : Ecc) (table : Bool) : State :=
  match kind with
  | .clean => s
  | .corrected => (s.bump .scb SCB.CE_CNT).raise .scb 8
  | .bad =>
    let s := ((s.bump .scb SCB.UE_CNT).wr .scb SCB.LAST_UE_ARRAY a).wr .scb SCB.LAST_UE_WORD w
    let s := ((s.errOpen .scb 0x20).raise .scb 9).denSramUe 0x52 a w 1 (if a < 1024 then a / 16 else 255)
    if h : a < 1024 then
      let l : Lane := ⟨a / 16, by omega⟩
      if table then (s.wr (.lne l) LNE.TBL_CTRL_CRC_VALID 0).raise (.lne l) 10 else s
    else s

/-- DCLK between two reads of the SRAM scrub: a pass over the 1,728 x 4,096 words takes PASS_MIN minutes (R371,
log entry 95). -/
def State.sramGap (s : State) : Nat := s.rd .scb SCB.CTRL_PASS_MIN * 60 * 500000000 / (1728 * 4096)

/-- R371. The scrub passes over arrays that are off or in TEST and reads the next word, at its pace. -/
def execSramScrubRead (kind : Ecc) (table : Bool) (s : State) : Host.Outcome State Fault Refusal :=
  if s.devUp && s.on .scb SCB.CTRL_EN && decide (s.bist.scrubAt ≤ s.dclk) then
    let s := { s with bist := { s.bist with scrubAt := s.dclk + s.sramGap } }.setOverdue .scb false
    let a0 := s.rd .scb SCB.POS_ARRAY
    let k := s.arraySkips a0 1728
    let s := s.bump .scb SCB.SKIP_CNT k
    let a := a0 + k
    let w := if k = 0 then s.rd .scb SCB.POS_WORD else 0
    let s := s.scrubWord a w kind table
    if w < 4095 then .next ((s.wr .scb SCB.POS_ARRAY a).wr .scb SCB.POS_WORD (w + 1))
    else
      let s := (s.wr .scb SCB.POS_ARRAY (if a < 1727 then a + 1 else 0)).wr .scb SCB.POS_WORD 0
      .next (if a < 1727 then s else (s.bump .scb SCB.PASS_CNT).raise .scb 10)
  else .next s

/-- The page in which a background task shows OVERDUE (R370). -/
def BgTask.page : BgTask → Page
  | .dramScrub => .ddr | .sramScrub => .scb | .codecJob => .cdc | .tableImage => .bst

/-- A background task has waited longer than its MAX_DEFER (R370): since its read was due, it was queued, or it was asked for.
-/
def State.taskWaits (s : State) (t : BgTask) : Bool :=
  let late (from_ ms : Nat) : Bool := decide (from_ + 500000 * ms < s.dclk)
  let defer := s.rd .scb SCB.DEFER_MAX_DEFER_MS
  match t with
  | .dramScrub =>
    let due := if s.ddr.queue.any fun r => r.port == 4 then s.ddr.scrubAt - s.scrubGap else s.ddr.scrubAt
    s.on .ddr DDR.SCRUB_EN && late due (s.rd .ddr DDR.SCRUB_MAX_DEFER_MS)
  | .sramScrub => s.on .scb SCB.CTRL_EN && late s.bist.scrubAt defer
  | .codecJob => (List.range 4).any fun i =>
      s.rd .cdc CDC.JS_STAT_STATE (12 + i) == 1 && (s.codec.jobs.toList.getD (12 + i) none).any fun j =>
        late j.queuedAt (s.rd .scb SCB.DEFER_EXP_DEFER_MS)
  | .tableImage => (s.bist.img.isSome || s.bist.run.any fun r => decide (r.target < 3)) && late s.bist.imgAt defer

/-- R370. A background task has waited longer than its MAX_DEFER. -/
def execBackgroundOverdue (task : BgTask) (s : State) : Host.Outcome State Fault Refusal :=
  if s.devUp && s.taskWaits task then .next (s.setOverdue (BgTask.page task) true) else .next s

end Sys2Proof.Machine
end

