-- ==== Sys2Proof/Machine/Cal.lean ====
section
/-! DEFINITION. Calibration (R373 to R383): when an item is due and may run, its result, its steps, its end. -/

namespace Sys2Proof.Machine

open Reg

/-! ### Due and permitted (R375, R376) -/

/-- The item is SUSPENDED on an instance. -/
def State.calSusp (s : State) (item inst : Nat) : Bool :=
  match calPage item inst with
  | some p => s.on p (ITEM.VAL_SUSP item)
  | none => false

/-- The reference of an item (R375): TJ_MAX, or the DQS oscillator count of the sub-channel. -/
def State.calRef (s : State) (item inst : Nat) : Nat :=
  if item = 7 then s.cal.dqs.toList.getD inst 0 else unsigned 16 (s.rdS .pwr PWR.TJ)

/-- The reference has moved by DRIFT since DRIFT_REF. -/
def State.calDrifted (s : State) (item inst : Nat) (p : Page) : Bool :=
  let d := s.rd .cal (CAL.polDrift item)
  let now := s.calRef item inst
  let ref := s.rd p (ITEM.REF item)
  d != 0 && if item = 7 then decide (d * ref ≤ 1000 * (max now ref - min now ref))
    else decide (d ≤ (signed 16 now - signed 16 ref).natAbs)

/-- An instance is due (R375). -/
def State.calDue (s : State) (item inst : Nat) : Bool :=
  match calPage item inst with
  | none => false
  | some p =>
    let per := s.rd .cal (CAL.polPeriod item)
    s.on .cal (CAL.polEn item) && !s.calSusp item inst &&
      (!s.cal.ok.contains (item, inst) ||
        (per != 0 && decide (s.rd p (ITEM.TIME item) + 1000000000 * per ≤ s.time)) || s.calDrifted item inst p)

/-- The instance runs an item. -/
def State.calBusy (s : State) (item inst : Nat) : Bool :=
  s.cal.runs.any fun r => r.inst == inst && (r.item == item || (decide (r.item ≤ 5) && decide (item ≤ 5)))

/-- An open page names a lane of a cluster. -/
def State.pageNames (s : State) (c : Clu) : Bool :=
  s.intake.pages.any fun p => (s.pageLanes p.desc.planes).any fun l => Lane.clu l == c

/-- A lane is in a state in which its items run: IDLE, ARMED, FIRING, HOLD, or CAL during an Awl scan. -/
def State.calLane (s : State) (l : Lane) : Bool :=
  match s.lanes[l].st with
  | .idle => true
  | .armed => true
  | .firing => true
  | .hold => true
  | .cal => s.rd (.lne l) LNE.AWL_STAT_STATE == 1
  | _ => false

/-- The conditions of R376. -/
def State.calMay (s : State) (item inst : Nat) : Bool :=
  if item = 7 then s.ddrState == ddrActive
  else if item = 6 then
    allClus.any fun (c : Clu) => c.val == inst && s.domUp c && !s.pageNames c &&
      (Clu.lanes c).all fun l => !s.laneRun l && s.lanes[l].st != .test && !(s.cal.runs.any fun r => r.onLane l)
  else
    allLanes.any fun (l : Lane) => l.val == inst && s.calLane l && (item == 1 || s.linkUp l) &&
      !(s.cal.runs.any fun r => r.onDll (Lane.clu l))

/-! ### The start of a run -/

/-- The item no longer waits: OVERDUE clears where nothing of the page, or nothing at all, is late (R378). -/
def State.calServed (s : State) (item inst : Nat) (p : Page) : State :=
  let s := { s with cal := { s.cal with
    late := s.cal.late.filter fun e => e != (item, inst)
    waits := s.cal.waits.filter fun e => !(e.1 == item && e.2.1 == inst) } }
  let s := if s.cal.late.any fun e => calPage e.1 e.2 == some p then s else s.setOverdue p false
  if s.cal.late.isEmpty then s.setOverdue .cal false else s

/-- A DLL run takes the IDLE lanes of its cluster into CAL, forces OP 0, and DLL_LOCK reads 0 (R376, R80). -/
def State.dllBegin (s : State) (c : Clu) : State :=
  let s := (s.forceOp c).wr (.cpwr c) CPWR.STAT_DLL_LOCK 0
  let s := s.each (s.enLanes c) fun t l => if t.lanes[l].st == .idle then t.setLane l .cal else t
  s.setPage (.ccal c) 1

/-- A run begins: its page shows STALE. -/
def State.calBegin (s : State) (item inst : Nat) : State :=
  match calPage item inst with
  | none => s
  | some p =>
    let lock := allClus.any fun (c : Clu) => item == 6 && c.val == inst && s.on (.cpwr c) CPWR.STAT_DLL_LOCK
    let s := (s.calServed item inst p).bump .cal CAL.RUN_CNT
    let refs := (List.finRange 4).foldl (fun n k => if item = 7 ∧ k.val = inst then s.rd (.ddrs k) DDRS.REF_CNT else n) 0
    let s := { s with cal := { s.cal with
      runs := s.cal.runs ++ [({ item, inst, lock, at_ := s.dclk, refs } : CalRun)] } }
    let s := s.wr p HDR.PG_STAT_STALE 1
    match p with
    | .ccal c => s.dllBegin c
    | _ => s

/-- R376. The scheduler starts a due instance once its conditions hold. -/
def execCalStart (item : CalItem) (inst : BitVec 6) (s : State) : Host.Outcome State Fault Refusal :=
  let i := CalItem.id item
  if s.devUp && s.calDue i inst.toNat && s.calMay i inst.toNat && !s.calBusy i inst.toNat then
    .next (s.calBegin i inst.toNat)
  else .next s

/-- The instance of an item is absent (R2). -/
def State.calAbsent (s : State) (item inst : Nat) : Bool :=
  match calPage item inst with
  | none => true
  | some p => match p.cluster with
    | some c => !s.cluPresent c
    | none => false

/-- A write of `CAL.CMD` (R377). -/
def State.calCmdWrite (s : State) (req : Req) (data : Nat) : State :=
  let item := bits data 3 0
  let inst := bits data 13 8
  if !bit data 16 then s
  else if s.calAbsent item inst then s.errAt .cal Err.badValue 0x40 req.code
  else if s.calBusy item inst then s.errOpen .cal 0x20
  else if !s.calMay item inst then s.errOpen .cal 0x21
  else s.calBegin item inst

/-- R377. `CAL.CMD` is written with RUN = 1. -/
def execCalRun (req : Req) (item : BitVec 4) (inst : BitVec 6) (s : State) : Host.Outcome State Fault Refusal :=
  .next <| s.command req .cal 0x40 fun s => s.calCmdWrite req (65536 + item.toNat + 256 * inst.toNat)

/-! ### The end of a run (R379, R380) -/

/-- A DLL run ends: DLL_LOCK as given, the lanes it held IDLE in the same DCLK, the operating point back. -/
def State.dllEnd (s : State) (c : Clu) (lock : Bool) : State :=
  let s := (s.flag (.cpwr c) CPWR.STAT_DLL_LOCK lock).setPage (.ccal c) 0
  let s := s.each (Clu.lanes c) fun t l =>
    if t.lanes[l].st == .cal && t.rd (.lne l) LNE.AWL_STAT_STATE != 1 then t.setLane l .idle else t
  (s.restoreOp c).armNext

/-- The run leaves the list. -/
def State.calGone (s : State) (item inst : Nat) : State :=
  { s with cal := { s.cal with runs := s.cal.runs.filter fun r => !(r.item == item && r.inst == inst) } }

/-- The last step is in force (R379, R374). -/
def State.calDone (s : State) (item inst qual : Nat) (p : Page) : State :=
  let s := (s.calGone item inst).calLet item inst
  let s := (((s.bump p (ITEM.CNT item)).wr p (ITEM.QUAL item) qual).wr p (ITEM.TIME item) s.time).wr p (ITEM.REF item)
    (s.calRef item inst)
  let s := (s.wr p (ITEM.VAL_CONSEC item) 0).wr p (ITEM.VAL_SUSP item) 0
  let s := ((s.bump p HDR.PG_CALCNT).wr p HDR.PG_CALQ qual).wr p HDR.PG_CALT s.time
  ({ s with cal := { s.cal with ok := (item, inst) :: s.cal.ok.filter fun e => e != (item, inst) } }).raise p 2

/-- A result is rejected (R379). -/
def State.calReject (s : State) (item inst : Nat) (p : Page) : State :=
  let s := (s.calGone item inst).calLet item inst
  let s := ((s.bump p (ITEM.FAIL_REJECT item)).bump p (ITEM.VAL_CONSEC item)).bump .cal CAL.REJ_CNT
  let s := ((s.err .cal 0x22 (item + 256 * inst)).raise .cal 3).raise p 3
  if s.rd .cal (CAL.polFail item) ≤ s.rd p (ITEM.VAL_CONSEC item) then
    (s.wr p (ITEM.VAL_SUSP item) 1).raise .cal 8
  else s

/-- A signed code of RX_OFS. -/
def rxOfs (code : Nat) : Int := signed 6 (code % 64)

/-- Every value code lies in its accepted range (R373). -/
def calInRange (item code : Nat) : Bool :=
  if item = 1 then
    decide (-64 ≤ signed 8 (code % 256) ∧ signed 8 (code % 256) ≤ 63) && decide (64 ≤ code / 256 ∧ code / 256 ≤ 192)
  else if item = 2 then decide (8 ≤ code ∧ code ≤ 56)
  else if item = 3 then decide (4 ≤ code ∧ code ≤ 27)
  else if item = 4 then decide (code < 64) && decide (-24 ≤ rxOfs code ∧ rxOfs code ≤ 23)
  else if item = 5 then decide (4 ≤ code ∧ code ≤ 59)
  else if item = 6 then decide (64 ≤ code ∧ code ≤ 960)
  else true

/-- How far a code lies from the code in force, in steps; for item 7 the code is the largest shift itself (R379, R382). -/
def calShift (item old code : Nat) : Nat :=
  if item = 1 then
    max (signed 8 (code % 256) - signed 8 (old % 256)).natAbs (max (code / 256) (old / 256) - min (code / 256) (old / 256))
  else if item = 4 then (rxOfs code - rxOfs old).natAbs
  else if item = 7 then code
  else max code old - min code old

/-- The eyes a re-centring leaves are written to EYE[b] (R176, R381). -/
def State.calEyes (s : State) (p : Page) (eyes : List (BitVec 16 × BitVec 16)) : State :=
  s.each ((List.range 5).zip eyes) fun t e =>
    (t.wr p DDRS.EYE_RD e.2.1.toNat e.1).wr p DDRS.EYE_WR e.2.2.toNat e.1

/-- The quality of a run: for item 7 the smallest eye that the re-centring leaves (R176), else the figure the run gives. -/
def calQual (item qual : Nat) (eyes : List (BitVec 16 × BitVec 16)) : Nat :=
  if item = 7 then ((eyes.flatMap fun e => [e.1.toNat, e.2.toNat]).min?).getD qual else qual

/-- DCLK that a run of an item takes (R373): 40, 12, 16, 72, 20 and 48 us. -/
def calTime (item : Nat) : Nat :=
  if item = 1 then 20000 else if item = 2 then 6000 else if item = 3 then 8000 else if item = 4 then 36000
  else if item = 5 then 10000 else if item = 6 then 24000 else 0

/-- A run has come to its result (R373): its time has passed; for item 7 two refreshes of its sub-channel have. -/
def State.calRipe (s : State) (r : CalRun) : Bool :=
  decide (r.at_ + calTime r.item ≤ s.dclk) && (List.finRange 4).all fun k =>
    !(r.item == 7 && k.val == r.inst) || decide (min (r.refs + 2) (2 ^ 32 - 1) ≤ s.rd (.ddrs k) DDRS.REF_CNT)

/-- R379. An item's run ends with value code `code` and quality `qual`; `eyes` are the read and write eyes of the byte
lanes after a run of item 7. -/
def execCalResult (item : CalItem) (inst : BitVec 6) (code : BitVec 16) (qual : Word) (eyes : List (BitVec 16 × BitVec 16))
    (s : State) : Host.Outcome State Fault Refusal :=
  let i := CalItem.id item
  let n := inst.toNat
  match calPage i n, s.cal.runs.find? fun r => r.item == i && r.inst == n && r.goal.isNone with
  | some p, some r =>
    if s.devUp && s.calRipe r then
      let old := s.rd p (ITEM.VAL_VALUE i)
      let c := code.toNat
      let good := calInRange i c && decide (calShift i old c ≤ s.rd .cal (CAL.polDelta i))
      let s := if !good then s.calReject i n p
        else if i = 1 || i = 6 || i = 7 then ((s.wr p (ITEM.VAL_VALUE i) c).calEyes p eyes).calDone i n (calQual i qual.toNat eyes) p
        else if c = old then s.calDone i n qual.toNat p
        else { s with cal := { s.cal with runs := s.cal.runs.map fun (x : CalRun) =>
          if x.item = i && x.inst = n then { x with goal := some (c, qual.toNat), stepAt := s.dclk } else x } }
      match p with
      | .ccal k => .next (s.dllEnd k (good || r.lock))
      | _ => .next s
    else .next s
  | _, _ => .next s

/-- No line frame and no control frame of the port is on the wire. -/
def State.wireIdle (s : State) (l : Lane) : Bool :=
  let h := s.lanes[l]
  decide (h.ctrlEnd ≤ s.dclk) && !(h.prep.any fun p => p.frame.any fun f => decide (s.dclk < f.2.2))

/-- A step of a run may be applied now (R373): items 2 to 4 outside any frame, one step in each DCLK; item 5 after a FIRE, or
6.25 us (3,125 DCLK) after the step before. -/
def State.calMoves (s : State) (r : CalRun) : Bool :=
  allLanes.any fun l => l.val == r.inst && decide (r.stepAt < s.dclk) &&
    if r.item = 5 then
      decide (3125 + r.stepAt ≤ s.dclk) || s.lanes[l].lastFire.any fun f => decide (r.stepAt < f ∧ f < s.dclk)
    else s.wireIdle l

/-- R373. One step of an accepted value is applied; item 4 is applied in one step. `eye` is the DS_EYE of the first
upstream frame after it, 0 if the head reports none: the quality of items 2 and 3. -/
def execCalStep (item : CalItem) (inst : BitVec 6) (eye : BitVec 16) (s : State) : Host.Outcome State Fault Refusal :=
  let i := CalItem.id item
  let n := inst.toNat
  match calPage i n, (s.cal.runs.find? fun r => r.item == i && r.inst == n && s.calMoves r).bind fun r => r.goal with
  | some p, some (goal, qual) =>
    if s.devUp then
      let old := s.rd p (ITEM.VAL_VALUE i)
      let v := if i = 4 then goal else if old < goal then old + 1 else if goal < old then old - 1 else old
      let s := s.wr p (ITEM.VAL_VALUE i) v
      let s := { s with cal := { s.cal with runs := s.cal.runs.map fun (x : CalRun) =>
        if x.item = i && x.inst = n then { x with stepAt := s.dclk } else x } }
      if v = goal then .next (s.calDone i n (if i = 2 || i = 3 then eye.toNat else qual) p) else .next s
    else .next s
  | _, _ => .next s

/-- Every item instance there is (R373). -/
def calAll : List (Nat × Nat) :=
  ([1, 2, 3, 4, 5].flatMap fun i => (List.range 64).map fun n => (i, n)) ++ (List.range 8).map (fun n => (6, n)) ++
    (List.range 4).map fun n => (7, n)

/-- The domain of an instance is on. -/
def State.calPowered (s : State) (item inst : Nat) : Bool :=
  match (calPage item inst).map Page.cluster with
  | some (some c) => s.domUp c
  | some none => s.devUp
  | none => false

/-- At a second of the RTC the instances that are due are noted, each with the first such second (R378; log entry 82). -/
def State.calNotice (s : State) : State :=
  let due := calAll.filter fun e => s.calPowered e.1 e.2 && s.calDue e.1 e.2 && !s.calRuns e.1 e.2
  let old (e : Nat × Nat) : Nat := ((s.cal.waits.find? fun w => w.1 == e.1 && w.2.1 == e.2).map fun w => w.2.2).getD s.power.uptime
  { s with cal := { s.cal with waits := due.map fun e => (e.1, e.2, old e) } }

/-- An instance has been due for MAX_DEFER seconds (R378). -/
def State.calLate (s : State) (item inst : Nat) : Bool :=
  s.cal.waits.any fun w =>
    w.1 == item && w.2.1 == inst && decide (w.2.2 + s.rd .cal (CAL.polDefer item) ≤ s.power.uptime)

/-- R378. An instance has been due for MAX_DEFER seconds without starting. -/
def execCalOverdue (item : CalItem) (inst : BitVec 6) (s : State) : Host.Outcome State Fault Refusal :=
  let i := CalItem.id item
  let n := inst.toNat
  match calPage i n with
  | some p =>
    if s.devUp && s.calPowered i n && s.calDue i n && !s.calRuns i n && s.calLate i n then
      let s := { s with cal := { s.cal with late := (i, n) :: s.cal.late.filter fun e => e != (i, n) } }
      .next ((s.setOverdue p true).setOverdue .cal true)
    else .next s
  | none => .next s

/-- Every run is aborted, as the device enters FAULT or TO_SETT (R380). -/
def State.calAbortAll (s : State) : State :=
  let dlls := s.cal.runs.filter fun r => r.item == 6
  let s := s.calAbort fun _ => true
  s.each dlls fun t r => t.each (allClus.filter fun (c : Clu) => c.val == r.inst) fun u c => u.dllEnd c r.lock

/-- The DLL run of a cluster is aborted. -/
def State.dllAbort (s : State) (c : Clu) : State :=
  let dlls := s.cal.runs.filter fun r => r.onDll c
  (s.calAbort fun r => r.onDll c).each dlls fun t r => t.dllEnd c r.lock

/-- What calibration knew of a cluster that powers up anew (R374, R375). -/
def State.calForget (s : State) (c : Clu) : State :=
  let mine (e : Nat × Nat) : Bool :=
    (e.1 == 6 && e.2 == c.val) || (decide (e.1 ≤ 5) && (Clu.lanes c).any fun l => l.val == e.2)
  { s with cal := { s.cal with
    ok := s.cal.ok.filter fun e => !mine e
    late := s.cal.late.filter fun e => !mine e
    waits := s.cal.waits.filter fun e => !mine (e.1, e.2.1) } }

end Sys2Proof.Machine
end

