-- ==== Sys2Proof/Machine/Events.lean ====
section
/-! DEFINITION. Pending events, their roll-up to interrupts, and the MSI-X messages (R51 to R56). -/

namespace Sys2Proof.Machine

open Reg

/-! ### Pending events and interrupts (R51 to R56) -/

/-- `PG_EVT_PEND`: RAW AND EN (R51). -/
def State.evtPend (s : State) (p : Page) : Nat := s.rd p HDR.PG_EVT_RAW &&& s.rd p HDR.PG_EVT_EN

/-- A page has an event pending. -/
def State.pageEvent (s : State) (p : Page) : Bool := s.evtPend p != 0

/-- A number from its bits, lowest first. -/
def ofBits (l : List Bool) : Nat := l.foldr (fun b a => b.toNat + 2 * a) 0

/-- `CLU.EVT_SUM` (R53): the cluster's five pages in the order of their numbers, and its lanes. -/
def State.cluSumPage (s : State) (c : Clu) : Nat :=
  ofBits (([.clu c, .scr c, .seam c, .ccal c, .cpwr c] : List Page).map s.pageEvent)
def State.cluSumLane (s : State) (c : Clu) : Nat := ofBits ((Clu.lanes c).map fun l => (lanePages l).any s.pageEvent)

/-- Source s of EVT is pending (R53): a device page, or a cluster, whose CPWR page counts while its domain is off. -/
def State.source (s : State) (n : Nat) : Bool :=
  if n < 98 then
    match Page.ofSlot n with
    | some p => s.pageEvent p
    | none => false
  else if h : 128 ≤ n ∧ n < 136 then
    let c : Clu := ⟨n - 128, by omega⟩
    s.pageEvent (.cpwr c) || (s.domUp c && (s.cluSumPage c != 0 || s.cluSumLane c != 0))
  else false

/-- The pending sources, by number. -/
def State.sources (s : State) : List Nat := (List.range 136).filter s.source

/-- The sources that drive vector v (R54). -/
def State.vecOr (s : State) (v : Nat) : Bool :=
  s.sources.any fun n => s.on .evt EVT.ROUTE_HOST_EN n && s.rd .evt EVT.ROUTE_VEC n == v

/-- The vectors a pending source drives, bit v. -/
def State.vecPend (s : State) : Nat :=
  s.sources.foldl (fun a n => if s.on .evt EVT.ROUTE_HOST_EN n then a ||| 2 ^ s.rd .evt EVT.ROUTE_VEC n else a) 0

/-- The interrupt level of application core k, and of the power and safety core (R55). -/
def State.coreInt (s : State) (k : Fin 4) : Bool :=
  s.sources.any fun n => (s.rd .evt EVT.ROUTE_CORE_EN n).testBit k.val
def State.safeInt (s : State) : Bool := s.sources.any fun n => s.on .evt EVT.ROUTE_SAFE_EN n

/-- Vector v has a message that waits (the Pending Bit Array). -/
def State.pba (s : State) (v : Nat) : Bool := (s.rd .pci PCI.MSIX_PBA (v / 32)).testBit (v % 32)

/-- Set or clear a vector's pending bit. -/
def State.setPba (s : State) (v : Nat) (b : Bool) : State :=
  let w := s.rd .pci PCI.MSIX_PBA (v / 32)
  if s.pba v == b then s else s.wr .pci PCI.MSIX_PBA (w ^^^ 2 ^ (v % 32)) (v / 32)

/-- Vector v's message goes out, or is held while the vector is masked or the host cannot be reached (R56). -/
def State.msixSend (s : State) (v : Nat) : State :=
  if s.dmaOk && !s.on .pci PCI.MSIX_MASK v then (s.emit (.msix v)).setPba v false else s.setPba v true

/-- The vectors whose OR has risen send their message, a held message whose OR has fallen is no longer pending, and the
held messages whose vector is no longer held go out (R56). -/
def State.settleMsix (s : State) : State :=
  let now := s.vecPend
  let was := s.vecWas
  let held := (List.range 64).filter fun v => s.pba v
  let risen := (List.range 64).filter fun v => now.testBit v && !was.testBit v
  let fell := (List.range 64).filter fun v => !now.testBit v && was.testBit v
  let s := (s.each fell fun t v => t.setPba v false).each risen State.msixSend
  let s := s.each held fun t v => if t.pba v then t.msixSend v else t
  { s with vecWas := now }

/-- A change that can make a source fall: the rises before it have sent their messages, and the fall is seen (R56). -/
def State.settling (s : State) (f : State → State) : State := (f s.settleMsix).settleMsix

end Sys2Proof.Machine
end

