-- ==== Sys2Proof/Machine/Pair.lean ====
section
/-! DEFINITION. The Dakaun link between the two devices of a pair (R338, R342 to R347, R354, R355): the link, its
messages, the fault and role lines. -/

namespace Sys2Proof.Machine

open Reg

/-- The link is UP. -/
def State.pairUp (s : State) : Bool := s.rd .pair PAIR.STAT_LINK == 2

/-- R342. All four lanes hold lock, with the polarity, order and skew found. An order other than 0 to 3 or its reverse,
or a skew above 16 blocks, records LANE_MAP and the link stays in training (R341). -/
def execPairLinkUp (pol : BitVec 4) (reversed mapOk : Bool) (skew : BitVec 5) (s : State) :
    Host.Outcome State Fault Refusal :=
  if !s.devUp || s.pairUp then .next s
  else
    let s := (((s.wr .pair PAIR.STAT_LOCK 15).wr .pair PAIR.STAT_POL_INV pol.toNat).flag .pair PAIR.STAT_REVERSED reversed).wr
      .pair PAIR.SKEW skew.toNat
    if mapOk && decide (skew.toNat ≤ 16) then .next ((s.wr .pair PAIR.STAT_LINK 2).raise .pair 8)
    else .next ((s.wr .pair PAIR.STAT_LINK 1).errOpen .pair 0x23)

/-- R342. The link goes DOWN and training restarts at once; `lock` is the block lock that is left. -/
def execPairLinkDown (lock : BitVec 4) (s : State) : Host.Outcome State Fault Refusal :=
  if s.devUp && s.pairUp then
    .next (((s.wr .pair PAIR.STAT_LINK 1).wr .pair PAIR.STAT_LOCK lock.toNat).raise .pair 9)
  else .next s

/-! ### Messages (R343) -/

/-- A message goes out: its body, then the CRC of the body. -/
def State.pairSend (s : State) (mtype : Nat) (body : List Nat) : State :=
  s.emit (.pairMsg mtype (body ++ bytesOf 4 (crc32c body)))

/-- The body of a received message of a length, without its CRC; none if the length or the CRC is wrong. -/
def pairBody (msg : List Byte) (len : Nat) : Option (List Nat) :=
  let l := msg.map fun b => b.toNat
  let body := l.take (len - 4)
  if l.length = len && crc32c body == ofBytes (l.drop (len - 4)) then some body else none

/-- n bytes of a body from an offset, little-endian. -/
def bodyAt (body : List Nat) (off n : Nat) : Nat := ofBytes ((body.drop off).take n)

/-- A message is acted on; one whose CRC is bad is discarded and counted (R343). -/
def State.pairTake (s : State) (msg : List Byte) (len : Nat) (act : State → List Nat → State) : State :=
  if s.devUp && s.pairUp then
    match pairBody msg len with
    | some body => act s body
    | none => s.bump .pair PAIR.CRC_ERR
  else s

/-- FIRED_WL (R343): no line with a firing tick up to it still waits for its instant on any lane of the active page. -/
def State.firedWl (s : State) : Nat :=
  let wl := s.rd .pace PACE.WL
  match s.curPageSt with
  | none => wl
  | some p => (allLanes.filter fun (l : Lane) => p.lanes.contains l.val).foldl (fun a (l : Lane) =>
      match s.lanes[l].due with
      | d :: _ => min a (d.tag.tick - 1)
      | [] => a) wl

/-- A mask of lanes. -/
def maskOf (f : Lane → Bool) : Nat := allLanes.foldl (fun a (l : Lane) => if f l then a + 2 ^ l.val else a) 0

/-- The 60 bytes of a heartbeat before its CRC (R343). -/
def State.hbBody (s : State) : List Nat :=
  let flags := s.rd .pair PAIR.CTRL_TAKE_EN + 2 * (s.power.dev == .fault).toNat + 4 * (s.rd .lst HDR.PG_STAT_STATE != 0).toNat +
    8 * s.rd .pair PAIR.STAT_SYNC + 16 * s.rd .pair PAIR.STAT_PFAULT_O + 32 * s.rd .pair PAIR.CTRL_WANT +
    128 * s.rd .pair PAIR.CTRL_SIDE
  bytesOf 2 s.pair.hbSeq ++ [s.pair.role.code, flags] ++ bytesOf 2 (s.rd .pair PAIR.EPOCH_EPOCH) ++
    bytesOf 2 (s.rd .sys SYS.DEV_ID_PART) ++ bytesOf 6 (s.rd .pace PACE.WL) ++ bytesOf 2 0 ++ bytesOf 8 s.time ++
    bytesOf 8 (maskOf fun l => s.lanes[l].st == .hold) ++ bytesOf 8 (maskOf s.linkUp) ++
    bytesOf 4 (s.rd .lst LST.CUR) ++ bytesOf 2 (s.rd .lst LST.CUR_COPY) ++ bytesOf 2 0 ++ bytesOf 6 s.firedWl ++ bytesOf 6 0

/-- R344. A HEARTBEAT is queued, 500 DCLK after the last one. -/
def execHeartbeatSend (s : State) : Host.Outcome State Fault Refusal :=
  if s.devUp && s.pairUp && decide (s.pair.hbAt + 500 ≤ s.dclk) then
    .next ({ s.pairSend 1 s.hbBody with pair := { s.pair with hbSeq := (s.pair.hbSeq + 1) % 65536, hbAt := s.dclk } })
  else .next s

/-- The web line check (R338): three heartbeats in a row that differ by more than 1 clear SYNC. One that agrees sets it
(log entry 27). -/
def State.wlCheck (s : State) (wl : Nat) : State :=
  let own := s.rd .pace PACE.WL
  let set (n : Nat) : State := { s with pair := { s.pair with differ := n } }
  if wl ≤ own + 1 && own ≤ wl + 1 then (set 0).wr .pair PAIR.STAT_SYNC 1
  else if s.pair.differ = 2 then
    ((((set 3).wr .pair PAIR.STAT_SYNC 0).errOpen .pair 0x24).bump .pair PAIR.WL_MIS_CNT).raise .pair 13
  else set (min (s.pair.differ + 1) 3)

/-- The lead learns how the shadow took its ALIGN: its counter does not agree (R338, log entry 27). -/
def State.alignCheck (s : State) (wl : Nat) : State :=
  if s.pair.aligned then
    ({ s with pair := { s.pair with aligned := false } }).when (wl != s.rd .pace PACE.WL) fun t => t.errOpen .pair 0x25
  else s

/-- What a heartbeat with a good CRC does (R5, R335, R336, R338, R344). PART_MISMATCH is recorded when the partner's PART is news:
the first heard, or another than before (log entry 83). -/
def State.hbTake (s : State) (b : List Nat) : State :=
  let role := bodyAt b 2 1
  let flags := bodyAt b 3 1
  let part := bodyAt b 6 2
  let wl := bodyAt b 8 6
  let hold := bodyAt b 0x18 8
  let fired := bodyAt b 0x30 6
  let same := part == s.rd .sys SYS.DEV_ID_PART
  let news := match s.pair.heard with
    | some (_, p) => p != part
    | none => true
  let s := s.when (!same && news) fun t => t.errOpen .pair 0x20
  let s := s.when (bit flags 1 && !s.on .pair PAIR.STAT_P_FAULT) fun t => t.raise .pair 12
  let s := ((s.wr .pair PAIR.STAT_P_ROLE role).flag .pair PAIR.STAT_P_FAULT (bit flags 1)).wr .pair PAIR.EPOCH_P_EPOCH
    (bodyAt b 4 2)
  let s := ({ s with pair := { s.pair with heard := some (flags, part) } }).bump .pair PAIR.HB_RX
  if !same then s
  else
    let s := if role = 1 then
        let s := (s.wr .pair PAIR.HB_AGE 0).wr .pair PAIR.FIRED_WL fired
        { s with pair := { s.pair with
            fresh := true, missAt := s.dclk, holdMask := hold, holdChg := s.pair.holdChg ^^^ (s.pair.holdMask ^^^ hold)
            fClear := if bit flags 1 then s.pair.fClear else fired } }
      else s
    ((s.wlCheck wl).alignCheck wl).settleRole true

/-- R343. A HEARTBEAT arrives, its CRC included. -/
def execHeartbeatReceive (msg : List Byte) (s : State) : Host.Outcome State Fault Refusal :=
  .next (s.pairTake msg 64 State.hbTake)

/-- R355. An interval of 500 DCLK without a valid heartbeat: it is counted, and the first after a valid one raises
HB_MISS (R356). -/
def execHbMiss (s : State) : Host.Outcome State Fault Refusal :=
  if s.devUp && decide (s.pair.missAt + 500 ≤ s.dclk) then
    let s := (s.bump .pair PAIR.HB_MISS).when s.pair.fresh fun t => t.raise .pair 16
    .next { s with pair := { s.pair with fresh := false, missAt := s.dclk } }
  else .next s

/-- R345. HB_AGE reaches 1,600. -/
def execHeartbeatTimeout (s : State) : Host.Outcome State Fault Refusal :=
  if s.devUp && decide (1600 ≤ s.rd .pair PAIR.HB_AGE) then .next (s.promoteFor 2) else .next s

/-- R345. The recognised level of PFAULT_I changes; high is a cause of promotion. -/
def execPfaultI (level : Bool) (s : State) : Host.Outcome State Fault Refusal :=
  if s.devUp then
    let s := s.flag .pair PAIR.STAT_PFAULT_I level
    .next (if level then s.promoteFor 1 else s)
  else .next s

/-- R347. The recognised level of ROLE_I changes; as it rises a LEAD demotes. A device in FAULT stops as R68 says. -/
def execRoleIRise (level : Bool) (s : State) : Host.Outcome State Fault Refusal :=
  if s.devUp then
    let s := s.flag .pair PAIR.STAT_ROLE_I level
    .next (if level && s.pair.role == .lead && s.power.dev != .fault then s.demote else s)
  else .next s

/-! ### Alignment and handover (R338, R354) -/

/-- No page is open on either device. -/
def State.bothIdle (s : State) : Bool := s.noPage && !bit s.partnerFlags 2

/-- A write of 1 to `PAIR.CMD.ALIGN`: an ALIGN that is not accepted sends nothing (log entry 27). -/
def State.alignWrite (s : State) : State :=
  if s.pair.role == .lead && s.pairUp && s.on .pace PACE.STAT_STOPPED && s.bothIdle then
    ({ s with pair := { s.pair with aligned := true } }).pairSend 2
      (bytesOf 6 (s.rd .pace PACE.WL) ++ bytesOf 6 (unsigned 48 s.pace.acc) ++ bytesOf 4 0)
  else s

/-- R338. `PAIR.CMD.ALIGN` is written. -/
def execPairAlign (req : Req) (s : State) : Host.Outcome State Fault Refusal :=
  .next <| s.command req .pair 0x4C State.alignWrite

/-- R338. An ALIGN arrives at the shadow. -/
def execAlignReceive (msg : List Byte) (s : State) : Host.Outcome State Fault Refusal :=
  .next <| s.pairTake msg 20 fun s b =>
    if !s.shadow then s
    else if s.on .pace PACE.STAT_STOPPED && s.noPage then
      let s := s.setWl (bodyAt b 0 6)
      ({ s with pace := { s.pace with acc := signed 48 (bodyAt b 6 6) } }).settleReverse
    else s.errOpen .pair 0x25

/-- A write of 1 to `PAIR.CMD.HANDOVER`. -/
def State.handoverWrite (s : State) : State :=
  if s.pair.role == .lead && s.pairUp && s.bothIdle && s.rd .pair PAIR.STAT_P_ROLE == 2 && bit s.partnerFlags 0 then
    ({ s with pair := { s.pair with handover := true } }).pairSend 3 (bytesOf 2 (s.rd .pair PAIR.EPOCH_EPOCH) ++ bytesOf 2 0)
  else s.errOpen .pair 0x26

/-- R354. `PAIR.CMD.HANDOVER` is written. -/
def execPairHandover (req : Req) (s : State) : Host.Outcome State Fault Refusal :=
  .next <| s.command req .pair 0x4C State.handoverWrite

/-- R354. A HANDOVER arrives: the shadow promotes. -/
def execHandoverReceive (msg : List Byte) (s : State) : Host.Outcome State Fault Refusal :=
  .next <| s.pairTake msg 8 fun s _ => s.promoteFor 3

/-! ### Firmware messages (R355) -/

/-- A write of 1 to `PAIR.CMD.FW_SEND`. LEN is 0 until it is written: no message has that length, and nothing is sent. -/
def State.fwWrite (s : State) : State :=
  let len := s.rd .pair PAIR.FW_TX_CTRL_LEN
  if s.on .pair PAIR.FW_TX_CTRL_BUSY then s.errOpen .pair 0x2C
  else if len = 0 || !s.pairUp then s
  else
    let body := (List.range (len / 4)).flatMap fun i => bytesOf 4 (s.rd .pair PAIR.FW_TX i)
    let s := (s.pairSend 0x10 body).wr .pair PAIR.FW_TX_CTRL_BUSY 1
    { s with pair := { s.pair with fwUntil := s.dclk + 160 } }

/-- R355. `PAIR.CMD.FW_SEND` is written. -/
def execFwSend (req : Req) (s : State) : Host.Outcome State Fault Refusal :=
  .next <| s.command req .pair 0x4C State.fwWrite

/-- R343. An FW message arrives: it is stored in FW_RX, or dropped while FULL is set. -/
def execFwReceive (msg : List Byte) (s : State) : Host.Outcome State Fault Refusal :=
  let ok := decide (8 ≤ msg.length ∧ msg.length ≤ 260) && msg.length % 4 == 0
  .next <| s.pairTake msg (if ok then msg.length else msg.length + 4) fun s b =>
    if s.on .pair PAIR.FW_RX_CTRL_FULL then s.bump .pair PAIR.FW_DROP
    else
      let s := s.each (List.range (b.length / 4)) fun t i => t.wr .pair PAIR.FW_RX (bodyAt b (4 * i) 4) i
      (((s.wr .pair PAIR.FW_RX_CTRL_LEN b.length).wr .pair PAIR.FW_RX_CTRL_FULL 1).raise .pair 14)

end Sys2Proof.Machine
end

