-- ==== Sys2Proof/Machine/Awl.lean ====
section
/-! DEFINITION. Awl scans (R229 to R236): their start, the codes that arrive, the evaluation and its result. -/

namespace Sys2Proof.Machine

open Reg

/-- The second to fifth conditions of R233: a scan may run on the lane. -/
def State.awlMay (s : State) (l : Lane) : Bool :=
  let printed := s.intake.pages.any fun p => (s.pageLanes p.desc.planes).contains l
  !s.shadow && s.lanes[l].st == .idle && s.linkUp l && s.domUp (Lane.clu l) && !printed && !s.pend (.lne l)

/-- Minutes since the last accepted scan, on the RTC (R233). -/
def State.awlAge (s : State) (l : Lane) : Nat := (s.power.uptime - s.lanes[l].awl.since) / 60

/-- BUSY of a lane's LNE page: a scan or a CRC computation runs. -/
def State.lneBusy (s : State) (l : Lane) : State :=
  s.flag (.lne l) HDR.PG_STAT_BUSY (s.rd (.lne l) LNE.AWL_STAT_STATE == 1 || s.lanes[l].tblRun)

/-- A scan starts: the lane is in CAL and the head is told (R230). -/
def State.awlBegin (s : State) (l : Lane) : State :=
  let s := s.modLane l fun (h : LaneHw) => { h with awl := { h.awl with codes := [], after := none, start := none, full := none } }
  (((s.wr (.lne l) LNE.AWL_STAT_STATE 1).lneBusy l).setLane l .cal).queueCtrl l 0x40 0

/-- The lane of an aborted scan is IDLE again (R235). -/
def State.awlStop (s : State) (l : Lane) : State :=
  if s.rd (.lne l) LNE.AWL_STAT_STATE = 1 && !s.awlFull l then
    ((((s.awlAborted l false).lneBusy l).queueCtrl l 0x41 0).setLane l .idle).armNext
  else s

/-- A write of `LNE.AWL_CMD` (R233, R235, R245). -/
def State.awlCmdWrite (s : State) (req : Req) (l : Lane) (data : Nat) : State :=
  if bit data 0 && bit data 1 then s.errAt (.lne l) Err.badValue 0x80 req.code
  else if bit data 0 then
    if s.rd (.lne l) LNE.AWL_STAT_STATE = 1 then s.errAt (.lne l) 0x30 0x80 req.code
    else if s.awlMay l then s.awlBegin l
    else s.errOpen (.lne l) 0x31
  else if bit data 1 then s.awlStop l
  else s

/-- R233. A write of `AWL_CMD.START`. -/
def execAwlStart (req : Req) (l : Lane) (s : State) : Host.Outcome State Fault Refusal :=
  .next <| s.command req (.lne l) 0x80 fun s => s.awlCmdWrite req l 1

/-- R235. A write of `AWL_CMD.ABORT`. -/
def execAwlAbort (req : Req) (l : Lane) (s : State) : Host.Outcome State Fault Refusal :=
  .next <| s.command req (.lne l) 0x80 fun s => s.awlCmdWrite req l 2

/-- R233. The device starts a scan by itself. -/
def execAwlAutoStart (l : Lane) (s : State) : Host.Outcome State Fault Refusal :=
  let due := !s.mapValid l || decide (s.rd (.lne l) LNE.AWL_POL_PERIOD_MIN ≤ s.awlAge l)
  if s.devUp && s.on (.lne l) LNE.AWL_POL_AUTO && due && s.awlMay l && s.rd (.lne l) LNE.AWL_STAT_STATE != 1 then
    .next (s.awlBegin l)
  else .next s

/-- R230. A SCAN_DATA frame with a good CRC delivers codes, in order from nozzle 0. -/
def execScanDataReceive (l : Lane) (up : UpHead) (first : BitVec 16) (codes : List (BitVec 12)) (s : State) :
    Host.Outcome State Fault Refusal :=
  if s.hears l then
    let s := s.upstream l up false
    let got := s.lanes[l].awl.codes.length
    if s.rd (.lne l) LNE.AWL_STAT_STATE = 1 && first.toNat == got && decide (1 ≤ codes.length ∧ codes.length ≤ 64) then
      let all := (s.lanes[l].awl.codes ++ codes.map BitVec.toNat).take (s.laneN l)
      .next (s.modLane l fun (h : LaneHw) =>
        { h with awl := { h.awl with codes := all, full := if all.length = s.laneN l then some s.dclk else none } })
    else .next s
  else .next s

/-- A code is out of window (R231). -/
def State.codeOut (s : State) (l : Lane) (c : Nat) : Bool :=
  decide (c < s.rd (.lne l) LNE.AWL_WIN_LO) || decide (s.rd (.lne l) LNE.AWL_WIN_HI < c)

/-- The record of a measured nozzle (R229). -/
def awlRecord (code : Nat) (out : Bool) : Nat := 8192 + code + 4096 * out.toNat

/-- The record words of a list of records, two to a word. -/
def recordWords : List Nat → List Nat
  | a :: b :: r => (a + 65536 * b) :: recordWords r
  | [a] => [a]
  | [] => []

/-- The lane leaves CAL for IDLE, or for the state a later cause calls for (R235). -/
def State.awlLeave (s : State) (l : Lane) : State :=
  let after := s.lanes[l].awl.after
  let s := s.modLane l fun (h : LaneHw) => { h with awl := { h.awl with codes := [], after := none, start := none, full := none } }
  if s.lanes[l].st == .cal then
    match after with
    | some .off => (s.setLane l .off).laneOn l
    | some st => s.setLane l st
    | none => (s.setLane l .idle).armNext
  else s

/-- R231, R232. The codes are evaluated: the records are written, and the result is staged, held or rejected. -/
def State.awlEvaluate (s : State) (l : Lane) : State :=
  let codes := s.lanes[l].awl.codes
  let n := codes.length
  let out := codes.map (s.codeOut l)
  let valid := s.mapValid l
  let keep := valid && !s.on (.lne l) LNE.AWL_POL_REVIVE
  let map := (out.zip (List.range n)).map fun e =>
    e.1 || s.mapBit l winForce e.2 || (keep && s.mapBit l winActive e.2)
  let pairs := map.zip (List.range n)
  let new := (pairs.filter fun e => e.1 && !(valid && s.mapBit l winActive e.2)).length
  let back := (pairs.filter fun e => !e.1 && valid && s.mapBit l winActive e.2).length
  let s := s.setWins l winRecords (recordWords ((codes.zip out).map fun e => awlRecord e.1 e.2))
  let s := (s.wr (.lne l) LNE.AWL_STAT_DEAD (map.filter fun b => b).length).wr (.lne l) LNE.AWL_NEW_NEW new
  let s := (s.wr (.lne l) LNE.AWL_NEW_REVIVED back).setOverdue (.lne l) false
  if decide (s.rd (.lne l) LNE.AWL_POL_NEW_DEAD_MAX < new) || map.all fun b => b then
    (((s.wr (.lne l) LNE.AWL_STAT_STATE 4).bump (.lne l) LNE.AWL_REJ).err (.lne l) 0x32 new).raise (.lne l) 12
  else if s.pend (.lne l) then
    (s.wr (.lne l) LNE.AWL_STAT_STATE 2).modLane l fun (h : LaneHw) => { h with awl := { h.awl with held := some (map, new) } }
  else s.awlAccept l map new

/-- The evaluation of a lane's codes has had its ⌈N / 2⌉ + 16 DCLK of the cluster since the last one came (R230). -/
def State.awlReady (s : State) (l : Lane) : Bool :=
  match s.lanes[l].awl.full with
  | some f => decide (0 < s.lanes[l].awl.codes.length ∧ f + s.cluDclk (Lane.clu l) (ceilDiv s.lanes[l].awl.codes.length 2 + 16) ≤ s.dclk)
  | none => false

/-- R232. The scan of a lane is evaluated after its last code. -/
def execAwlScanComplete (l : Lane) (s : State) : Host.Outcome State Fault Refusal :=
  if s.devUp && s.awlFull l && s.awlReady l then .next (((s.awlEvaluate l).lneBusy l).awlLeave l) else .next s

/-- R234. The scan age has reached MAX_DEFER_MIN without a scan being able to start: none runs, and none may. -/
def execAwlOverdue (l : Lane) (s : State) : Host.Outcome State Fault Refusal :=
  if s.devUp && s.on (.lne l) LNE.AWL_POL_AUTO && decide (s.rd (.lne l) LNE.AWL_DEFER ≤ s.awlAge l) &&
      s.rd (.lne l) LNE.AWL_STAT_STATE != 1 && !s.awlMay l then
    .next (s.setOverdue (.lne l) true)
  else .next s

end Sys2Proof.Machine
end

