-- ==== Sys2Proof/Machine/Screen.lean ====
section
/-! DEFINITION. The lane engine and the seam ring (R200 to R222, R240 to R243): tone curve, ink limit, threshold and
error-diffusion screening, compensation of dead nozzles, the Welt, seam words and taint. -/

namespace Sys2Proof.Machine

open Reg

/-! ### Words, tone and cells -/

/-- Parts of a nozzle word (R181). -/
def wordValue (w : Nat) : Nat := w % 1024
def wordPre (w : Nat) : Bool := bit w 14
def wordBlank (w : Nat) : Bool := bit w 15

/-- An arithmetic shift right, rounding toward minus infinity. -/
def shiftDown (v : Int) (n : Nat) : Int := v / (2 ^ n : Nat)

/-- The tone curve of R204 from its points. -/
def toneCurve (p : Nat → Nat) (v : Nat) : Nat :=
  let k := v / 64
  let a : Int := p k
  let b : Int := p (k + 1)
  (a + shiftDown ((b - a) * (v % 64 : Nat) + 32) 6).toNat

/-- The straight tone of R204. -/
def toneFlat (v : Nat) : Nat := 4 * v + v / 256

/-- Point i of a nozzle's tone entry: bits 12i to 12i + 11 of its eight words (R205). -/
def State.tonePoint (s : State) (l : Lane) (j i : Nat) : Nat :=
  let b := 12 * i
  let lo := s.winWord l (8 * j + b / 32)
  let hi := s.winWord l (8 * j + b / 32 + 1)
  (lo + 2 ^ 32 * hi) / 2 ^ (b % 32) % 4096

/-- T after S4 of nozzle j's word (R204, R208). -/
def State.tone (s : State) (l : Lane) (j w : Nat) : Nat :=
  let v := wordValue w
  let t := if s.on (.lne l) LNE.CTRL_TONE_EN then toneCurve (s.tonePoint l j) v else toneFlat v
  min t (s.rd (.lne l) LNE.CTRL_INK_MAX)

/-- The cell a nozzle at plane position x reads on web line w (R209). -/
def PlSet.cellAt (q : PlSet) (x w : Nat) : Nat :=
  let mw := 2 ^ q.log2w
  q.cell + (w + q.yoff) % 2 ^ q.log2h * mw + (x + q.xoff) % mw

/-- Threshold t_i of a cell of the matrix store, i from 1 to 7 (R211). -/
def cellLevel (cell i : Nat) : Nat := cell / 2 ^ (12 * (i - 1)) % 4096

/-- A cell of a cluster's matrix store. -/
def State.matCell (s : State) (c : Clu) (n : Nat) : Nat := Regs.get s.clusters[c].mat n 0

/-- R210: the number of thresholds that T reaches. -/
def thresholdLevel (cell t : Nat) : Nat := ((List.range 7).filter fun i => decide (cellLevel cell (i + 1) ≤ t)).length

/-! ### Dead nozzles (R240) -/

/-- Overlap of the lane with its left and with its right neighbour; 0 without one (R179). -/
def State.ovlLeft (s : State) (l : Lane) : Nat := match s.leftOf l with
  | some a => s.rd .pln PLN.LMAP_OVL a.val
  | none => 0
def State.ovlRight (s : State) (l : Lane) : Nat := if (s.rightOf l).isSome then s.rd .pln PLN.LMAP_OVL l.val else 0

/-- Nozzle j is dead under the map in force. -/
def State.dead (s : State) (l : Lane) (j : Nat) : Bool := s.mapValid l && s.mapBit l winActive j

/-- A dead nozzle whose partner in the overlap is live. -/
def State.covered (s : State) (l : Lane) (n j : Nat) : Bool :=
  let a := s.ovlLeft l
  let b := s.ovlRight l
  (decide (j < a) && !s.mapBit l winPartnerL j) || (decide (n ≤ j + b) && !s.mapBit l winPartnerR (j + b - n))

/-- A dead nozzle whose ink is spread. -/
def State.uncovered (s : State) (l : Lane) (n j : Nat) : Bool := s.dead l j && !s.covered l n j

/-- Weight of a dead nozzle j for its neighbour at distance d, d as 0 to 3 for -2, -1, +1, +2 (R239). -/
def State.weight (s : State) (l : Lane) (j d : Nat) : Nat := bits (s.winWord l (winWeights + j)) (8 * d + 7) (8 * d)

/-- What one line needs: the lane's words, by nozzle. -/
structure LineIn where
  n : Nat
  word : Nat → Nat
  w : Nat
  base : Nat
  set : PlSet

/-- The line as the engine takes it, with its words. -/
def InLine.lineIn (i : InLine) (ws : List Nat) : LineIn :=
  { n := ws.length, word := fun j => ws.getD j 0, w := i.tag.w, base := i.base, set := i.set }

/-- Tone that an uncovered dead contone nozzle gives a neighbour (R241). -/
def State.share (s : State) (l : Lane) (x : LineIn) (j d : Nat) : Nat :=
  let w := x.word j
  if decide (j < x.n) && s.uncovered l x.n j && !wordPre w && !wordBlank w then
    (s.tone l j w * s.weight l j d + 64) / 128
  else 0

/-- R241: the tone added to a live nozzle from its dead neighbours at distances 2 and 1 either side. -/
def State.addTone (s : State) (l : Lane) (x : LineIn) (j : Nat) : Nat :=
  if s.on (.lne l) LNE.WELT_CTRL_DCOMP then
    s.share l x (j + 2) 0 + s.share l x (j + 1) 1 + (if 1 ≤ j then s.share l x (j - 1) 2 else 0) +
      (if 2 ≤ j then s.share l x (j - 2) 3 else 0)
  else 0

/-- The level of nozzle j after S6, in threshold mode or of a pre-screened word (R203, R210, R240, R241). -/
def State.thresholdNozzle (s : State) (l : Lane) (x : LineIn) (j : Nat) : Nat :=
  let w := x.word j
  let cap := s.rd (.lne l) LNE.CTRL_LEVEL_MAX
  if wordBlank w then 0
  else if s.uncovered l x.n j then 0
  else if wordPre w then min (w % 8) cap
  else
    let t := s.tone l j w
    let t := if s.dead l j then t else min (t + s.addTone l x j) (s.rd (.lne l) LNE.CTRL_INK_MAX)
    min (thresholdLevel (s.matCell (Lane.clu l) (x.set.cellAt (x.base + j) x.w)) t) cap

/-! ### Error diffusion (R213, R242) -/

/-- Level value Q[i] of a plane; Q[0] is 0. -/
def PlSet.level (q : PlSet) (i : Nat) : Nat := if i = 0 then 0 else q.q.getD (i - 1) 0

/-- Weight K[d] of a plane, d from -2 to 2 given as 0 to 4. -/
def PlSet.weight (q : PlSet) (d : Nat) : Int := (q.kern / 2 ^ (4 * d) % 16 : Nat)

/-- A value held between two bounds. -/
def clamp (lo hi v : Int) : Int := max lo (min hi v)

/-- L and e of a contone element with v = T + E (R213). -/
def State.diffuse (s : State) (l : Lane) (q : PlSet) (cell : Nat) (v : Int) : Nat × Int :=
  let m := shiftDown (((cellLevel cell 1 : Int) - 2048) * (q.amp : Int) + 128) 8
  let b (i : Nat) : Int := ((q.level (i - 1) + q.level i + 1) / 2 : Nat)
  let n := ((List.range 7).filter fun i => decide (b (i + 1) ≤ v + m)).length
  let k := min n (s.rd (.lne l) LNE.CTRL_LEVEL_MAX)
  (k, clamp (-4096) 4095 (v - q.level k))

/-- Level and error of element j, E given (R203, R213, R242). -/
def State.diffuseNozzle (s : State) (l : Lane) (x : LineIn) (e : Nat → Int) (j : Nat) : Nat × Int :=
  let w := x.word j
  if wordBlank w then (0, 0)
  else
    let v := (s.tone l j w : Int) + e j
    if s.uncovered l x.n j then (0, clamp (-4096) 4095 v)
    else s.diffuse l x.set (s.matCell (Lane.clu l) (x.set.cellAt (x.base + j) x.w)) v

/-- What element q of the next line gets from element q' of this one, at 16 times scale (R213, R242). -/
def State.give (s : State) (l : Lane) (x : LineIn) (e : Nat → Int) (src q : Nat) : Int :=
  let moved := s.uncovered l x.n src && !wordBlank (x.word src) && s.on (.lne l) LNE.WELT_CTRL_DCOMP
  let k (d : Nat) : Int := x.set.weight d
  let h : Int := k 2 / 2
  let left := decide (1 ≤ src)
  let right := decide (src + 1 < x.n)
  let base : Int :=
    if q + 2 = src then k 0 else if q + 1 = src then k 1 else if q = src then (if moved then 0 else k 2)
    else if q = src + 1 then k 3 else if q = src + 2 then k 4 else 0
  let side : Int :=
    if !moved then 0
    else if q + 1 = src then (if right then h else k 2)
    else if q = src + 1 then (if left then k 2 - h else k 2)
    else 0
  e src * (base + side)

/-- The sum of R213 for every element of the next line, before its + 8 and shift. -/
def State.nextAcc (s : State) (l : Lane) (x : LineIn) (e : Nat → Int) : List Int :=
  (List.range x.n).map fun q =>
    ([q - 2, q - 1, q, q + 1, q + 2].dedup.filter fun i => decide (i < x.n)).foldl (fun a i => a + s.give l x e i q) 0

/-- What the seam words of the line before add at the edges of this one (R215). -/
def seamAdd (set : PlSet) (n : Nat) (a b : Option SeamWord) (q : Nat) : Int :=
  let k (d : Nat) : Int := set.weight d
  let fromL : Int := match a with
    | some w => if q = 0 then w.ea * k 3 + w.eb * k 4 else if q = 1 then w.ea * k 4 else 0
    | none => 0
  let fromR : Int := match b with
    | some w => if q + 1 = n then w.ea * k 1 + w.eb * k 0 else if q + 2 = n then w.ea * k 0 else 0
    | none => 0
  fromL + fromR

/-! ### The Welt (R243) -/

/-- The level a nozzle fires after S7. -/
def State.welt (s : State) (l : Lane) (n w : Nat) (level : Nat → Nat) (j : Nat) : Nat :=
  let a := s.ovlLeft l
  let b := s.ovlRight l
  let v := level j
  let mine := s.dead l j
  if j < a then
    let m := bit (s.winWord l (winMaskL + 4 * (w % 64) + j / 32)) (j % 32)
    let other := s.mapBit l winPartnerL j
    if mine then 0 else if m then (if other && s.lanes[l].hoL then v else 0) else v
  else if n ≤ j + b then
    let o := j + b - n
    let m := bit (s.winWord l (winMaskR + 4 * (w % 64) + o / 32)) (o % 32)
    let other := s.mapBit l winPartnerR o
    if mine then 0
    else if m then v
    else if other && s.on (.lne l) LNE.WELT_CTRL_HANDOVER then v else 0
  else v

/-! ### Seam words (R214 to R218) -/

/-- A lane has stopped screening a page altogether (R217): its input buffer overflowed (R219), its cluster's DCLK does not run,
or the lane is off (log entry 92). -/
def State.engineOff (s : State) (l : Lane) (page : Nat) : Bool :=
  s.lanes[l].stopped == some page || s.lanes[l].st == .off || !s.on .clk CLK.LOCK_DCLK ||
    s.rd .clk CLK.DCLK_CL (Lane.clu l).val == 0

/-- The seam word on one side for a line: that of the line before; for a lane that has stopped, once its own words have come,
its ring stop sends TAINT words in its place (R217). None while it has not come. -/
def State.seamIn (s : State) (nb : Option Lane) (rx wire : List SeamWord) (tmo : Bool) (i : InLine) : Option (Option SeamWord) :=
  match nb with
  | none => some none
  | some a =>
    match rx with
    | w :: _ => some (some w)
    | [] =>
      if (wire.isEmpty && s.engineOff a i.tag.page) || tmo then
        some (some { ea := 0, eb := 0, src := a.val, taint := true, line := (i.tag.w + 255) % 256, plane := i.tag.plane,
                     wl := i.tag.wl })
      else none

/-- The word for a line came from a ring stop in place of a lane that has stopped (R217). -/
def stopWord (nb : Option Lane) (rx : List SeamWord) (tmo : Bool) : Bool := nb.isSome && rx.isEmpty && !tmo

/-- Whether a line is screened by error diffusion: its set says so and its plane is not pre-screened (R203, R222). -/
def InLine.diffuses (i : InLine) : Bool := i.set.mode == 1 && !i.pre

/-- A seam word goes on its way to a neighbour. -/
def State.seamSend (s : State) (nb : Option Lane) (toRight : Bool) (w : SeamWord) : State :=
  match nb with
  | some a => s.modLane a fun (h : LaneHw) =>
      if toRight then { h with wireL := h.wireL ++ [w] } else { h with wireR := h.wireR ++ [w] }
  | none => s

/-- A SEQ mismatch: the LINE of a word is not that of the line being received (R217, R227). -/
def State.seamSeq (s : State) (l : Lane) (w : Option SeamWord) (line : Nat) : State :=
  match w with
  | some w =>
    if w.line = (line + 255) % 256 then s
    else
      let p := Page.seam (Lane.clu l)
      (((s.bump p SEAM.SEQ_CNT).err p 0x20 (l.val + 256 * w.src)).raise p 8).modLane l fun (h : LaneHw) => { h with taintWord := true }
  | none => s

/-- The commits of a lane's pages that take effect as it starts a line (R41, R221). -/
def State.lineCommits (s : State) (l : Lane) (band first : Bool) (wl : Nat) : State :=
  let mine (p : Page) : Bool := p.lane == some l
  let sync (p : Page) : Bool := mine p && (match p with
    | .lne _ => decide (s.rdStaged p LNE.SYNC_WL_WL ≤ wl)
    | .seq _ => decide (s.rdStaged p SEQ.SYNC_WL_WL ≤ wl)
    | .wav _ => decide (s.rdStaged p WAV.SYNC_WL_WL ≤ wl)
    | _ => true)
  let s := s.commitsAt 1 mine
  let s := if band then s.commitsAt 2 sync else s
  if first then s.commitsAt 3 mine else s

/-- A line has been taken from the input buffer: DIR, counts and taint are reported; TAINT is raised as the lane becomes
tainted (R224). -/
def State.lineTaken (s : State) (l : Lane) (i : InLine) (stall : Nat) (was : Bool) (taint : Bool) : State :=
  let s := s.modLane l fun (h : LaneHw) => { h with inbuf := h.inbuf.tail, lastW := some i.tag.w, waitAt := none }
  let s := (s.wr (.lne l) LNE.STAT_DIR (i.tag.w % 2)).bump (.lne l) LNE.STALL_CNT stall
  (s.flag (.lne l) LNE.STAT_TAINT taint).when (taint && !was) fun t => t.raise (.lne l) 8

/-- The tainted state a line starts with: a reset clears it and what the line before left (R214, R217). -/
def State.lineReset (s : State) (l : Lane) (i : InLine) : State :=
  if i.reset then
    let keep (r : List SeamWord) : List SeamWord := r.filter fun w => decide (i.tag.wl ≤ w.wl)
    s.modLane l fun (h : LaneHw) => { h with
      acc := [], taintOwn := false, taintWord := false, tmoL := false, tmoR := false
      rxL := keep h.rxL, rxR := keep h.rxR, wireL := keep h.wireL, wireR := keep h.wireR }
  else s

/-- The words a line uses are consumed; a missing one, a tainted one or one of another line taints (R217). The words of ring
stops are delivered to the lane like any other (R227). -/
def State.seamTake (s : State) (l : Lane) (a b : Option SeamWord) (w : Nat) : State :=
  let h := s.lanes[l]
  let s := s.bump (.seam (Lane.clu l)) SEAM.WORDS
    ((stopWord (s.leftOf l) h.rxL h.tmoL).toNat + (stopWord (s.rightOf l) h.rxR h.tmoR).toNat)
  let bad (x : Option SeamWord) : Bool := match x with
    | some y => y.taint
    | none => false
  let s := s.modLane l fun (h : LaneHw) => { h with
    rxL := h.rxL.tail, rxR := h.rxR.tail, taintOwn := h.taintOwn || h.tmoL || h.tmoR
    taintWord := h.taintWord || bad a || bad b, tmoL := false, tmoR := false }
  (s.seamSeq l a w).seamSeq l b w

/-- The words a lane sends after a line: errors of its edge nozzles (R215, R218). -/
def State.seamOut (s : State) (l : Lane) (i : InLine) (n : Nat) (e : Nat → Int) (taint : Bool) : State :=
  let mk (a b : Int) : SeamWord :=
    { ea := a, eb := b, src := l.val, taint, line := i.tag.w % 256, plane := i.tag.plane, wl := i.tag.wl }
  let s := s.seamSend (s.leftOf l) false (mk (e 0) (e 1))
  s.seamSend (s.rightOf l) true (mk (e (n - 1)) (e (n - 2)))

/-- A tainted line of a lane counts (R218). -/
def State.countTaint (s : State) (l : Lane) (taint : Bool) : State := s.when taint fun t => t.bump (.lne l) LNE.TAINT_CNT

/-- The screened line reaches the line FIFO, unless its firing instant has passed. -/
def State.toFifo (s : State) (l : Lane) (i : InLine) (levels : List Nat) (taint : Bool) : State :=
  let s := (s.bump (.lne l) LNE.LINES).countTaint l taint
  if s.lanes[l].due.any fun d => d.tag.ord == i.tag.ord then
    s.modLane l fun (h : LaneHw) => { h with fifo := h.fifo ++ [{ tag := i.tag, levels, taint, ue := false }] }
  else s

/-- An uncorrectable error met while a line is screened: in the lane's own SRAM, or in the cluster's matrix store
(R217). -/
def State.screenUe (s : State) (l : Lane) (ue : Option (SramUe × Bool)) : State :=
  match ue with
  | none => s
  | some (u, false) => s.laneUe l u
  | some (u, true) =>
    (s.errOpen (.scr (Lane.clu l)) 0x24).denSramUe 0x81 u.array.toNat u.word.toNat 0 l.val

/-- A line of a plane in threshold mode, or of a pre-screened plane: exact but for an error of its own (R217). -/
def State.screenPlain (s : State) (l : Lane) (i : InLine) (stall : Nat) (bad : Bool) : State :=
  match i.body with
  | .missing _ _ _ => s.lineTaken l i stall false false
  | .words ws =>
    let x := i.lineIn ws
    let levels := (List.range x.n).map (s.welt l x.n x.w (s.thresholdNozzle l x))
    (s.lineTaken l i stall false bad).toFifo l i levels bad

/-- A line of a plane in error diffusion (R213 to R218). -/
def State.screenDiffuse (s : State) (l : Lane) (i : InLine) (stall : Nat) (bad : Bool) (a b : Option SeamWord) : State :=
  let was := !i.reset && (s.lanes[l].taintOwn || s.lanes[l].taintWord)
  let s := if i.reset then s.lineReset l i else s.seamTake l a b i.tag.w
  let missing := match i.body with
    | .words _ => false
    | .missing _ _ _ => true
  let s := s.modLane l fun (h : LaneHw) => { h with taintOwn := h.taintOwn || bad || missing }
  let own := s.lanes[l].taintOwn
  let taint := own || s.lanes[l].taintWord
  let out := own || (taint && i.set.edReset)
  let s := s.lineTaken l i stall was taint
  match i.body with
  | .missing _ _ _ =>
    let s := s.modLane l fun (h : LaneHw) => { h with acc := [] }
    (s.seamOut l i (s.laneN l) (fun _ => 0) true).countTaint l taint
  | .words ws =>
    let x := i.lineIn ws
    let acc := s.lanes[l].acc
    let edge := if i.reset then fun _ => 0 else seamAdd x.set x.n a b
    let eIn (q : Nat) : Int := if i.reset then 0 else shiftDown (acc.getD q 0 + edge q + 8) 4
    let r := (List.range x.n).map (s.diffuseNozzle l x eIn)
    let e (q : Nat) : Int := (r.getD q (0, 0)).2
    let levels := (List.range x.n).map (s.welt l x.n x.w fun j => (r.getD j (0, 0)).1)
    let next := s.nextAcc l x e
    let s := s.modLane l fun (h : LaneHw) => { h with acc := next }
    (s.seamOut l i x.n e out).toFifo l i levels taint

/-- R200. The lane engine starts the next line of its input buffer, once the seam words it needs have come; `stall` is how
many DCLK it was held, `ue` an uncorrectable error of the line, with whether it lay in the matrix store. -/
def execLineScreenStart (l : Lane) (stall : BitVec 16) (ue : Option (SramUe × Bool)) (s : State) :
    Host.Outcome State Fault Refusal :=
  let h := s.lanes[l]
  match h.inbuf with
  | [] => .next s
  | i :: _ =>
    if !s.devUp || s.engineOff l i.tag.page || 64 ≤ h.fifo.length then .next s
    else
      let t := s.lineCommits l i.band i.tag.first i.tag.wl
      let bad := ue.isSome
      if i.diffuses then
        if i.reset then .next ((t.screenUe l ue).screenDiffuse l i stall.toNat bad none none)
        else
          match t.seamIn (t.leftOf l) h.rxL h.wireL h.tmoL i, t.seamIn (t.rightOf l) h.rxR h.wireR h.tmoR i with
          | some a, some b => .next ((t.screenUe l ue).screenDiffuse l i stall.toNat bad a b)
          | _, _ => .next (s.modLane l fun (h : LaneHw) => { h with waitAt := some (h.waitAt.getD s.dclk) })
      else .next ((t.screenUe l ue).screenPlain l i stall.toNat bad)

/-- R216, R217. A seam word reaches lane l, from its left neighbour or from its right, with what the SECDED check found. -/
def execSeamWordArrive (l : Lane) (left : Bool) (ecc : Ecc) (s : State) : Host.Outcome State Fault Refusal :=
  match (if left then s.lanes[l].wireL else s.lanes[l].wireR) with
  | [] => .next s
  | w :: rest =>
    if s.devUp then
      let p := Page.seam (Lane.clu l)
      let s := s.bump p SEAM.WORDS
      let bad := ecc == .bad
      let s := match ecc with
        | .clean => s
        | .corrected => (s.bump p SEAM.CE_CNT).raise p 10
        | .bad => ((s.bump p SEAM.UE_CNT).err p 0x22 (l.val + 256 * w.src)).raise p 11
      let w := { w with taint := w.taint || bad }
      .next (s.modLane l fun (h : LaneHw) =>
        if left then { h with wireL := rest, rxL := h.rxL ++ [w] } else { h with wireR := rest, rxR := h.rxR ++ [w] })
    else .next s

/-- R217. A seam word that the line under way needs has not come, TMO_US after its pair first waited: the missing values
are 0. -/
def execSeamTimeout (l : Lane) (left : Bool) (s : State) : Host.Outcome State Fault Refusal :=
  let h := s.lanes[l]
  let nb := if left then s.leftOf l else s.rightOf l
  match h.inbuf, nb with
  | i :: _, some a =>
    let none_ := if left then h.rxL.isEmpty && !h.tmoL else h.rxR.isEmpty && !h.tmoR
    let due := match h.waitAt with
      | some x => decide (x + 500 * s.rd (.seam (Lane.clu l)) SEAM.CTRL ≤ s.dclk)
      | none => false
    if s.devUp && none_ && !i.reset && i.diffuses && due then
      let p := Page.seam (Lane.clu l)
      let s := ((s.bump p SEAM.TMO_CNT).err p 0x21 (l.val + 256 * a.val)).raise p 9
      .next (s.modLane l fun (h : LaneHw) => if left then { h with tmoL := true } else { h with tmoR := true })
    else .next s
  | _, _ => .next s

end Sys2Proof.Machine
end

