-- ==== Sys2Proof/Machine/Tables.lean ====
section
/-! DEFINITION. The lane table windows as the fabric writes them (R206, R207, R228), the table CRC (R223), and the cluster
matrix store (R211, R212). -/

namespace Sys2Proof.Machine

open Reg

/-- A refused window write: the code, with the window offset in `PG_ERR_INFO`. -/
def State.winRefuse (s : State) (l : Lane) (nn off : Nat) : State := s.err (.lne l) nn off

/-- A window write that the fabric has let through (R206, R207, R228, R253). -/
def State.windowWrite (s : State) (l : Lane) (off data : Nat) : State :=
  let w := off / 4
  let tone := decide (w < winRecords)
  let count := winIsCount w
  let tables := tone || count || decide (winMaskR ≤ w ∧ w < winWeights + 4096)
  if tables then
    if s.laneRun l then s.winRefuse l 0x20 off
    else (s.setWin l w (if count && w % 2 == 1 then data % 65536 else data)).when tone fun t => t.wr (.lne l) LNE.TBL_CTRL_CRC_VALID 0
  else if decide (winStaged ≤ w ∧ w < winForce) then
    let st := s.rd (.lne l) LNE.AWL_STAT_STATE
    if st = 1 || st = 2 then s.winRefuse l 0x30 off
    else if s.pend (.lne l) then s.winRefuse l Err.commitBusy off
    else s.setWin l w data
  else if decide (winForce ≤ w ∧ w < winPartnerL) then s.setWin l w data
  else if decide (w < winStaged) || decide (winPartnerL ≤ w ∧ w < winPartnerR + 4) || decide (winMaskL ≤ w ∧ w < winMaskR) then
    s.winRefuse l 0x34 off
  else s

/-- R207. A fabric write into a lane's table window. -/
def execTableWindowWrite (req : Req) (l : Lane) (off : BitVec 18) (data : Word) (s : State) :
    Host.Outcome State Fault Refusal :=
  if s.devUp && !s.hostCut req then
    let s := s.hostTouch req
    let a := off.toNat
    match s.accessError (.window l a) (a % 4 == 0) with
    | some nn => .next ((s.fabError nn req.code true (0x1000000 + 0x40000 * l.val + a)).answerError req true)
    | none => .next ({ s with reply := .posted req.code }.windowWrite l a data.toNat)
  else .next s

/-- `TBL_CTRL.CRC_GO` (R223). -/
def State.tblCrcGo (s : State) (req : Req) (l : Lane) : State :=
  if s.lanes[l].tblRun then s.errAt (.lne l) 0x24 0x58 req.code
  else (s.modLane l fun (h : LaneHw) => { h with tblRun := true }).lneBusy l

/-- R223. A write of `TBL_CTRL.CRC_GO`. -/
def execTblCrcGo (req : Req) (l : Lane) (s : State) : Host.Outcome State Fault Refusal :=
  .next <| s.command req (.lne l) 0x58 fun s => s.tblCrcGo req l

/-- R223. The CRC-32C of the tone region has been computed. -/
def execTblCrcDone (l : Lane) (s : State) : Host.Outcome State Fault Refusal :=
  if s.devUp && s.lanes[l].tblRun then
    let crc := crc32c (wordBytes (s.winWords l 0 winRecords))
    let s := ((s.modLane l fun (h : LaneHw) => { h with tblRun := false }).lneBusy l).wr (.lne l) LNE.TBL_CRC crc
    .next ((s.wr (.lne l) LNE.TBL_CTRL_CRC_VALID 1).raise (.lne l) 9)
  else .next s

/-! ### The matrix store -/

/-- A write of `SCR.MAT_CMD` (R212): the first refusal of its list, or the work starts. -/
def State.matCmdWrite (s : State) (req : Req) (c : Clu) (data : Nat) : State :=
  let base := s.rd (.scr c) SCR.MAT_CELL_BASE
  let count := s.rd (.scr c) SCR.MAT_CELL_COUNT
  let p := Page.scr c
  if data % 4 = 0 then s
  else if data % 4 = 3 then s.errAt p Err.badValue 0x4C req.code
  else if s.clusters[c].matRun.isSome then s.errAt p 0x26 0x4C req.code
  else if bit data 0 && s.run p then s.errAt p 0x20 0x4C req.code
  else if count = 0 || decide (61440 < base + count) then s.errAt p 0x21 0x4C req.code
  else
    ((s.modClu c fun (h : CluHw) =>
        { h with matRun := some (bit data 0, base, count), matSrc := s.rd p SCR.MAT_SRC }).wr p SCR.MAT_STAT_DONE 0).wr p
      HDR.PG_STAT_BUSY 1

/-- R212. A write of `MAT_CMD.LOAD`. -/
def execMatLoad (req : Req) (c : Clu) (s : State) : Host.Outcome State Fault Refusal :=
  .next <| s.command req (.scr c) 0x4C fun s => s.matCmdWrite req c 1

/-- R212. A write of `MAT_CMD.CRC`. -/
def execMatCrc (req : Req) (c : Clu) (s : State) : Host.Outcome State Fault Refusal :=
  .next <| s.command req (.scr c) 0x4C fun s => s.matCmdWrite req c 2

/-- The thresholds of a cell are in order (R211). -/
def cellOrdered (cell : Nat) : Bool :=
  (List.range 6).all fun i => decide (cellLevel cell (i + 1) ≤ cellLevel cell (i + 2))

/-- The cells of a load: those loaded, and why it stopped, if it did (R212). `ue` is the place of an uncorrectable
read. -/
def State.matCells (s : State) (src : Nat) (ue : Option Nat) : Nat → Nat → List Nat × Option Nat
  | _, 0 => ([], none)
  | i, n + 1 =>
    let a := src + 16 * i
    if ue = some i || decide (s.spoolSize < a + 16) || s.ddr.poison.contains (a / 64) then ([], some 0x23)
    else
      let cell := Memory.readNat s.ddr.mem a 16
      if cellOrdered cell then
        let (l, e) := State.matCells s src ue (i + 1) n
        (cell :: l, e)
      else ([], some 0x22)

/-- The bytes of cells, 16 each. -/
def cellBytes (l : List Nat) : List Nat := l.flatMap (bytesOf 16)

/-- A load or CRC computation has ended (R212). -/
def State.matEnd (s : State) (c : Clu) : State :=
  ((s.modClu c fun (h : CluHw) => { h with matRun := none }).wr (.scr c) SCR.MAT_STAT_DONE 1).wr (.scr c) HDR.PG_STAT_BUSY 0

/-- R212. A matrix load ends: complete, or stopped at the first cell out of order or not read; an uncorrectable read is logged
(R172). -/
def execMatLoadEnd (c : Clu) (ue : Option (BitVec 16)) (s : State) : Host.Outcome State Fault Refusal :=
  match s.clusters[c].matRun with
  | some (true, base, count) =>
    if s.devUp && (s.ddrState == ddrActive || s.ddrState == ddrEntry) then
      let (cells, why) := s.matCells s.clusters[c].matSrc (ue.map BitVec.toNat) 0 count
      let stop := s.clusters[c].matSrc + 16 * cells.length
      let s := s.portWake.when (why == some 0x23 && decide (stop + 16 ≤ s.spoolSize)) fun t => t.ddrUe stop 3 0 false
      let s := s.modClu c fun (h : CluHw) =>
        { h with mat := (cells.zip (List.range cells.length)).foldl (fun m e => Regs.put m (base + e.2) 0 e.1) h.mat }
      let s := s.matEnd c
      match why with
      | none =>
        .next (((s.wr (.scr c) SCR.MAT_CRC (crc32c (cellBytes cells))).wr (.scr c) SCR.MAT_STAT_FAIL 0).raise (.scr c) 8)
      | some nn =>
        let at_ := base + cells.length
        .next ((((s.wr (.scr c) SCR.MAT_STAT_CELL at_).wr (.scr c) SCR.MAT_STAT_FAIL 1).err (.scr c) nn at_).raise (.scr c) 8)
    else .next s
  | _ => .next s

/-- R212. A CRC computation over the matrix store ends. -/
def execMatCrcEnd (c : Clu) (s : State) : Host.Outcome State Fault Refusal :=
  match s.clusters[c].matRun with
  | some (false, base, count) =>
    if s.devUp then
      let cells := (List.range count).map fun i => s.matCell c (base + i)
      let s := s.matEnd c
      .next (((s.wr (.scr c) SCR.MAT_CRC (crc32c (cellBytes cells))).wr (.scr c) SCR.MAT_STAT_FAIL 0).raise (.scr c) 9)
    else .next s
  | _ => .next s

end Sys2Proof.Machine
end

