-- ==== Sys2Proof/Machine/Last.lean ====
section
/-! DEFINITION. The Last's tile work (R135, R138, R152, R191, R194): tags, decoders, decodes that pass and that fail. -/

namespace Sys2Proof.Machine

open Reg

/-- R191. The Last takes a tag for the tile with the least deadline that may take one, and reads its header. -/
def execTileFetch (s : State) : Host.Outcome State Fault Refusal :=
  let may := s.intake.tiles.filter fun (t : Tile) =>
    t.phase == .landed && t.accepted && t.tag.isNone && (s.wantedFor t).isSome
  let key (t : Tile) : List Nat := s.tileOrder t.key ((s.wantedFor t).getD 0)
  if s.devUp && decide (s.rd .lst LST.TAGS_USED < 512) then
    match leastBy key may with
    | none => .next s
    | some t => .next (s.modTile t.key fun u => { u with tag := s.wantedFor t }).settleTags
  else .next s

/-- The preset a landed tile names. -/
def State.presetOf (s : State) (t : Tile) : Option Nat :=
  match t.stored with
  | .raw _ => none
  | .stream _ => streamPreset (s.tileBytes t)

/-- What a free decoder takes next (R191): a replacement before every other tile, then the earliest deadline, and among
equal deadlines a tile whose preset the decoder holds. -/
def State.decodeNext (s : State) (d : Fin 16) : Option (Tile × Nat) :=
  let held (t : Tile) : Bool := s.codec.decoders.toList.any fun j => match j with
    | some j => j.key == t.key
    | none => false
  let cand := (s.intake.tiles.filter fun (t : Tile) => t.phase == TilePhase.landed && t.tag.isSome && !held t)
  let key (t : Tile) : List Nat :=
    match s.tileOrder t.key (t.tag.getD 0) with
    | [o, w, p, c] =>
      [(t.rereqs == 0).toNat, o, w, (match s.presetOf t with
        | some id => (!s.codec.decPreset[d].contains id).toNat
        | none => 1), p, c]
    | l => l
  (leastBy key cand).map fun t => (t, t.tag.getD 0)

/-- A decoder holds a preset in the slot it uses; the other slot keeps the preset used before (R191). -/
def State.slotPreset (s : State) (d : Fin 16) (id : Nat) : State :=
  let ids := id :: (s.codec.decPreset[d].filter fun x => x != id).take 1
  { s with codec := { s.codec with decPreset := s.codec.decPreset.set d ids } }

/-- The decoder loads the preset of the tile it would take next into its idle slot while the current one decodes (R191,
log entry 90). -/
def State.preloadPreset (s : State) (d : Fin 16) : State :=
  match s.decodeNext d with
  | some (t, _) =>
    match s.presetOf t with
    | some id =>
      if s.presetValid id && !s.codec.decPreset[d].contains id then
        let ids := s.codec.decPreset[d].take 1 ++ [id]
        { s with codec := { s.codec with decPreset := s.codec.decPreset.set d ids } }
      else s
    | none => s
  | none => s

/-- What the input buffer of a decoder holds as it takes a tile of n bytes (R192): read requests for queued tiles were
outstanding, so up to 16 KiB may have come, a free number (log entry 89). -/
def State.inputStart (s : State) (n : Nat) : (Nat × Nat) × State :=
  let (k, s) := s.draw
  let got := Config.freeNat k % (min 16384 n + 1)
  ((got, n - got), s)

/-- R191, R138. A free decoder takes the tagged tile with the earliest deadline and samples its preset's VALID bit. -/
def execDecodeStart (d : Fin 16) (s : State) : Host.Outcome State Fault Refusal :=
  if s.devUp && s.codecOn && s.codec.decoders[d].isNone then
    match s.decodeNext d with
    | none => .next s
    | some (t, copy) =>
      if s.portsHold then .next s.portWake
      else
        let ((level, left), s) := s.inputStart t.stored.len
        match s.presetOf t with
        | none => .next ((s.setDecoder d (some { key := t.key, copy, preset := none, missing := false, level, left })).preloadPreset d)
        | some id =>
          if s.presetValid id then
            let bad := s.presetBad id
            let s := (s.setDecoder d (some { key := t.key, copy, preset := some id, missing := false,
                                             dict := s.presetBytes id, dictBad := bad, level, left,
                                             waits := !s.codec.decPreset[d].contains id })).each bad fun u b =>
              if u.ddr.poison.contains (u.presetAt id / 64 + b) then u.ddrUe (u.presetAt id + 64 * b) 1 0 false else u
            .next ((s.slotPreset d id).preloadPreset d)
          else .next (s.setDecoder d (some { key := t.key, copy, preset := some id, missing := true, level, left }))
  else .next s

/-- What the decode of a tile gives (R134, R136, R152), read from its granules, with the preset the decoder placed in its
history. `extra` is a byte of the stream that an error outside the spool's poison affects. -/
def State.decodeOf (s : State) (t : Tile) (j : DecJob) (extra : Option Nat) : Except DecodeError (List Nat) :=
  let l := s.tileBytes t
  let hurt (i : Nat) : Bool := s.ddr.poison.contains (s.tileByteAt t i / 64) || extra == some i
  match t.stored with
  | .raw _ => rawDecode l t.crc hurt
  | .stream _ =>
    match firstHurt hurt 0 16 with
    | some o => .error ⟨0x23, 0, some (some o)⟩
    | none =>
      if j.missing then .error ⟨0x20, 5, none⟩ else scwDecode l j.dict hurt fun i => j.dictBad.contains (i / 64)

/-- A tile's decode for a copy is over: its tag is released (R191). -/
def State.tagOff (s : State) (k : TileKey) : State := (s.modTile k fun t => { t with tag := none }).settleTags

/-- FILL_PEAK takes a band's completion, in thousandths of its window (R199). -/
def State.fillPeak (s : State) (opened dead done : Nat) : State :=
  if opened < dead then
    let m := min 1023 (1000 * (done - opened) / (dead - opened))
    s.wr .lst LST.FILL_PEAK (max m (s.rd .lst LST.FILL_PEAK))
  else s

/-- A plane of the Last changed. -/
def State.modPlane (s : State) (p : Nat) (f : PlaneSt → PlaneSt) : State :=
  { s with intake := { s.intake with planes := s.intake.planes.setIfInBounds p (f (s.planeSt p)) } }

/-- A decoded tile takes its place in its band, in the half of the band buffer that the band fills, in its plane's region
(R184, R190); one that completes after the deadline is used for no line (R193). -/
def State.bandFill (s : State) (p : PageSt) (k : TileKey) (copy : Nat) (content : List Nat) : State :=
  let b : BandId := ⟨p.ord, copy, k.band⟩
  if s.deadlinePast k.plane b then
    let q := s.planeSt k.plane
    if q.cur == some b && q.late.contains k.col then
      let rest := q.late.filter fun c => c != k.col
      let s := s.modPlane k.plane fun x => { x with late := rest }
      match q.opened with
      | some o => if rest.isEmpty then s.fillPeak o q.dead s.dclk else s
      | none => s
    else s
  else
    let open_ := (s.openBands k.plane).head?.any fun x => x.id == b
    let half := if open_ then !(s.planeSt k.plane).half else (s.planeSt k.plane).half
    let region := ((List.range k.plane).map fun q => 1024 * s.rd .pln PLN.PLANE_MODE_BAND_KIB q).sum
    { s with intake := { s.intake with bandBuf := s.intake.bandBuf ++ [{ key := k, copy, content, at_ := s.dclk, half, region }] } }

/-- R134, R194. The decode of decoder d passes: the tile is marked complete in its band, and released after the last
copy. A decoder whose region is not free yet waits (R191). -/
def execDecodeDone (d : Fin 16) (s : State) : Host.Outcome State Fault Refusal :=
  match s.codec.decoders[d] with
  | none => .next s
  | some j =>
    match s.tileAt j.key, s.pageById j.key.page with
    | some t, some p =>
      let b : BandId := ⟨p.ord, j.copy, j.key.band⟩
      match s.decodeOf t j none with
      | .error _ => .next s
      | .ok l =>
        if s.devUp && !s.portsHold && j.left == 0 && !j.waits && (s.regionFree j.key.plane b || s.deadlinePast j.key.plane b) then
          let s := ((s.setDecoder d none).tagOff j.key).modTile j.key fun u => { u with decoded := some j.copy }
          let s := s.bandFill p j.key j.copy l
          if j.copy + 1 = p.desc.copies then
            .next ({ s with intake := { s.intake with tiles := s.intake.tiles.filter fun (u : Tile) =>
              !(u.key == j.key && u.phase == TilePhase.landed) } }.settleTags).settleCredit
          else .next s
        else .next s
    | _, _ => .next (s.setDecoder d none)

/-- A tile failed its decode: intake asks for it again, or ends with REREQ_LIMIT (R124). -/
def State.tileRereq (s : State) (t : Tile) (nn : Nat) : State :=
  if t.rereqs < s.rd .int INT.CTRL_REREQ_MAX then
    let s := s.modTile t.key fun u => { u with rereqs := u.rereqs + 1, outstanding := true }
    (s.pushCqe (tileCqe t.key t.desc.cookie 3 (0x1200 + nn) t.stored.len t.info)).raise .int 13
  else (s.errOpen .int 0x2A).pushCqe (tileCqe t.key t.desc.cookie 2 0x112A t.stored.len t.info)

/-- The uncorrectable error that ended a decode is logged (R152, R172): poison in the tile's bursts, or the error the command
brings. That of a preset was logged as it was read. -/
def State.decodeUe (s : State) (t : Tile) (o : Nat) (ue : Option DecodeUe) : State :=
  let poison (u : State) : State :=
    if u.ddr.poison.contains (u.tileByteAt t o / 64) then u.ddrUe (u.tileByteAt t o) 1 0 false else u
  match ue with
  | some u =>
    if u.off.toNat = o then
      match u.at_ with
      | .sram a => s.denSramUe 0x12 a.array.toNat a.word.toNat 0 0xFF
      | .dram dev => s.ddrUe (s.tileByteAt t o) 1 dev false
    else poison s
  | none => poison s

/-- R135, R154. The decode of decoder d fails: PRESET_MISSING, an uncorrectable error, poison or `ue`, or what R134 and R136
find. -/
def execDecodeFail (d : Fin 16) (ue : Option DecodeUe) (s : State) : Host.Outcome State Fault Refusal :=
  match s.codec.decoders[d] with
  | none => .next s
  | some j =>
    match s.tileAt j.key with
    | none => .next (s.setDecoder d none)
    | some t =>
      match s.decodeOf t j (ue.map fun u => u.off.toNat) with
      | .ok _ => .next s
      | .error e =>
        if !s.devUp then .next s
        else if s.portsHold then .next s.portWake
        else
          let s := (s.setDecoder d none).tagOff j.key
          let s := (s.bump .cdc CDC.DEC_FAIL).raise .cdc 8
          let s := s.err .cdc e.nn (e.off % 2 ^ 17 + 2 ^ 17 * d.val + 2 ^ 21 * e.ue.isSome.toNat)
          let s := match e.ue with
            | some (some o) => s.decodeUe t o ue
            | _ => s
          let s := (s.bump .lst LST.REREQ_CNT).modTile j.key fun u => { u with failed := j.copy :: u.failed }
          .next (s.tileRereq t e.nn)

/-! ### Input buffers and panic (R192) -/

/-- A decoder waits: for input, or for its preset. -/
def DecJob.starved (j : DecJob) : Bool := j.waits || (j.level == 0 && j.left != 0)

/-- A cause of panic stands: a decoder waits, or holds less than PANIC_LOW of an input still to be read. -/
def State.panicDue (s : State) : Bool :=
  s.codec.decoders.toList.any fun d => match d with
    | some j => j.starved || (j.left != 0 && decide (j.level < 1024 * s.rd .lst LST.CTRL_PANIC_LOW))
    | none => false

/-- Panic may be released: no decoder waits, and every one with input still to read holds at least PANIC_HIGH. -/
def State.panicOver (s : State) : Bool :=
  s.codec.decoders.toList.all fun d => match d with
    | some j => !j.starved && (j.left == 0 || decide (1024 * s.rd .lst LST.CTRL_PANIC_HIGH ≤ j.level))
    | none => true

/-- R192. The Last asserts panic: P1 takes precedence over everything but a refresh that is due. -/
def execPanicAssert (s : State) : Host.Outcome State Fault Refusal :=
  if s.devUp && !s.on .ddr DDR.STAT_PANIC && s.panicDue then
    .next (((s.wr .ddr DDR.STAT_PANIC 1).bump .ddr DDR.PANIC_CNT).raise .ddr 10)
  else .next s

/-- R192, R163. Panic is released: every owed refresh is due and is issued. -/
def execPanicRelease (s : State) : Host.Outcome State Fault Refusal :=
  if s.devUp && s.on .ddr DDR.STAT_PANIC && s.panicOver then .next (s.wr .ddr DDR.STAT_PANIC 0).settleRefresh else .next s

/-- The input of a decoder over two DCLK: bytes arrive, up to 16 KiB held, and up to 16 are consumed once the preset is there;
how many of each is timing, so free. -/
def DecJob.input (n : Nat) (j : DecJob) : DecJob :=
  let got := Config.freeNat n % (min j.left (16384 - j.level) + 1)
  let used := if j.waits then 0 else Config.freeNat (n + 1) % (min 16 (j.level + got) + 1)
  { j with left := j.left - got, level := j.level + got - used, waits := j.waits && Config.freeNat (n + 2) % 2 == 0 }

/-- Every decoder's input moves, while the ports serve. -/
def State.decodeTick (s : State) : State :=
  if s.portsRun && s.codec.decoders.toList.any fun d => d.isSome then
    let n := s.free
    let s := s.drawMany 48
    { s with codec := { s.codec with decoders := Vector.ofFn fun d => (s.codec.decoders[d]).map fun j => j.input (n + 3 * d.val) } }
  else s

end Sys2Proof.Machine
end

