-- ==== Sys2Proof/Machine/Tick.lean ====
section
/-! DEFINITION. What a line tick does (R178, R180 to R182, R185 to R193, R198, R248, R278 to R282): the pace unit's figures,
page starts, and the dealing of lines to the lanes. -/

namespace Sys2Proof.Machine

open Reg

/-! ### Words of a line (R178, R180) -/

/-- A 10-bit value of an 8-bit sample. -/
def expand8 (v : Nat) : Nat := 4 * v + v / 64

/-- What a plane of a page needs for one line: its page, its plane, its band tiles by column, and the map's figures. -/
structure DealIn where
  desc : PageDesc
  plane : Nat
  width : Nat
  x0 : Nat
  linear : Bool
  tiles : List (Nat × List Nat)

/-- A sample of a source line of the band, `n` lines after the band's first. -/
def DealIn.sample (d : DealIn) (n x : Nat) : Nat :=
  let c := x / 1024
  let b := d.desc.bitsOf d.plane
  let l := match d.tiles.find? fun e => e.1 == c with
    | some e => e.2
    | none => []
  sampleAt l (n * lineBytes (colWidth d.width c) b) b (x % 1024)

/-- S[x] for web line w of the copy: 10 bits of contone, or the drop level (R178, R180). -/
def DealIn.value (d : DealIn) (w x : Nat) : Nat :=
  let p := d.plane
  let ppi := d.desc.ppi p
  let lpi := d.desc.lpi
  let w := w % d.desc.bandWl p
  let up (v : Nat) : Nat := if d.desc.bitsOf p = 8 then expand8 v else v
  if d.desc.pre p then d.sample (w * ppi / lpi) x
  else if lpi < ppi then (up (d.sample (2 * w) x) + up (d.sample (2 * w + 1) x) + 1) / 2
  else up (d.sample (w * ppi / lpi) x)

/-- The word of a nozzle at plane position x (R180, R181). -/
def DealIn.word (d : DealIn) (w x : Nat) : Nat :=
  let r := d.desc.rep d.plane
  let u := x - d.x0
  if x < d.x0 || d.width * r ≤ u then if d.desc.pre d.plane then 0xC000 else 0x8000
  else
    let s := u / r
    let j := u % r
    if d.desc.pre d.plane then d.value w s % 8 + 0x4000
    else if d.linear then
      let next := if s + 1 < d.width then d.value w (s + 1) else d.value w s
      (d.value w s * (r - j) + next * j + r / 2) / r
    else d.value w s

/-- The columns whose samples a lane with nozzles at positions a to a + n - 1 needs (R193). -/
def DealIn.needs (d : DealIn) (a n c : Nat) : Bool :=
  let r := d.desc.rep d.plane
  let lo := max a d.x0
  let hi := min (a + n) (d.x0 + d.width * r)
  if lo < hi then
    let first := (lo - d.x0) / r
    let last := (hi - 1 - d.x0) / r
    let last := if d.linear && !d.desc.pre d.plane && decide (last + 1 < d.width) then last + 1 else last
    decide (first / 1024 ≤ c) && decide (c ≤ last / 1024)
  else false

/-! ### A band's deadline (R190, R193) -/

/-- The tiles of a band in the band buffer. -/
def State.bandTiles (s : State) (q : PageSt) (p copy band : Nat) : List BandTile :=
  s.intake.bandBuf.filter fun t => t.key.page == q.desc.id && t.key.plane == p && t.key.band == band && t.copy == copy

/-- The cause of an unfinished tile: TILE 1 when it has not landed, has failed or awaits a replacement, else FILL 2. -/
def State.lateCause (s : State) (k : TileKey) (copy : Nat) : Nat :=
  match s.tileAt k with
  | some t => if t.failed.contains copy || t.outstanding then 1 else 2
  | none => 1

/-- The parts of a deal that the plane map gives. -/
def State.dealIn (s : State) (q : PageSt) (p : Nat) (tiles : List BandTile) : DealIn :=
  { desc := q.desc, plane := p, width := q.width.toList.getD p 0, x0 := s.rd .pln PLN.PLANE_ORIGIN p
    linear := s.on .pln PLN.PLANE_MODE_LINEAR p, tiles := tiles.map fun t => (t.key.col, t.content) }

/-- The deadline of a band: lanes that need an unfinished tile are frozen for the whole band, and the completion of a
finished band is measured (R193, R199). -/
def State.bandDeadline (s : State) (q : PageSt) (p copy band : Nat) : State :=
  let old := s.planeSt p
  let have_ := s.bandTiles q p copy band
  let cols := List.range (columns (q.width.toList.getD p 0))
  let open_ := cols.filter fun c => !have_.any fun t => t.key.col == c
  let causes := open_.map fun c => (s.lateCause ⟨q.desc.id, p, band, c⟩ copy, c)
  let d := s.dealIn q p have_
  let frozen := (s.planeBase q.counts 0 (s.planeLanes p)).filterMap fun e =>
    match leastBy (fun x : Nat × Nat => [x.1, x.2]) (causes.filter fun x => d.needs e.2 q.counts[e.1] x.2) with
    | some x => some (e.1.val, x.1, x.2)
    | none => none
  let opened := match old.cur with
    | some c => if c.ord = q.ord then some old.dead else none
    | none => none
  let s := s.modPlane p fun _ =>
    { cur := some ⟨q.ord, copy, band⟩, half := !old.half, busy := true, frozen, dead := s.dclk, opened, late := open_ }
  if open_.isEmpty then
    match opened with
    | some o => s.fillPeak o s.dclk ((have_.map fun t => t.at_).foldl max 0)
    | none => s
  else (s.bump .lst LST.LATE_CNT).raise .lst 12

/-! ### Dealing (R182, R198, R247) -/

/-- The screening set of a plane on a lane, as the SCR page of its cluster gives it now (R225). -/
def State.plSet (s : State) (l : Lane) (p : Nat) : PlSet :=
  let g (r : Row) : Nat := s.rd (.scr (Lane.clu l)) r p
  { mode := g SCR.PL_CFG_MODE, edReset := g SCR.PL_CFG_ED_RESET == 1, log2w := g SCR.PL_CFG_LOG2W, log2h := g SCR.PL_CFG_LOG2H
    amp := g SCR.PL_CFG_AMP, cell := g SCR.PL_BASE, xoff := g SCR.PL_SEED_XOFF, yoff := g SCR.PL_SEED_YOFF, kern := g SCR.PL_KERN
    q := [g SCR.PL_Q12_Q1, g SCR.PL_Q12_Q2, g SCR.PL_Q34_Q3, g SCR.PL_Q34_Q4, g SCR.PL_Q56_Q5, g SCR.PL_Q56_Q6, g SCR.PL_Q7] }

/-- A line reaches a lane's input buffer, or overflows it (R219): the engine stops for the rest of the page, and the lines it
holds of the page are not screened. -/
def State.dealLane (s : State) (l : Lane) (i : InLine) : State :=
  let miss := match i.body with
    | .missing c b col => some (c, b, col)
    | .words _ => none
  let s := s.modLane l fun (h : LaneHw) => { h with ords := h.ords + 1, due := h.due ++ [{ tag := i.tag, miss }] }
  if s.lanes[l].stopped == some i.tag.page then s
  else if 16 ≤ s.lanes[l].inbuf.length then
    let s := s.modLane l fun (h : LaneHw) =>
      { h with stopped := some i.tag.page, inbuf := h.inbuf.filter fun (x : InLine) => x.tag.page != i.tag.page }
    (s.errOpen (.lne l) 0x21).laneFault l
  else s.modLane l fun (h : LaneHw) => { h with inbuf := h.inbuf ++ [i] }

/-- A copy of the page that started last begins to be dealt: CUR_COPY and START_WL (R199). -/
def State.copyDealt (s : State) (q : PageSt) (copy : Nat) : State :=
  match s.curPageSt with
  | some c =>
    if c.ord = q.ord ∧ s.rd .lst LST.CUR_COPY < copy then
      (s.wr .lst LST.CUR_COPY copy).wr .lst LST.START_WL (q.wl0 + q.desc.copyWl copy)
    else s
  | none => s

/-- Web line n of plane p of a page, counted over its copies, is dealt to the plane's lanes. -/
def State.dealLine (s : State) (q : PageSt) (p n : Nat) : State :=
  let copy := n / q.desc.length
  let w := n % q.desc.length
  let h := q.desc.bandWl p
  let band := w / h
  let start := w % h == 0
  let lowest := q.desc.planeList.head? == some p
  let shared (x : Page) : Bool := x.lane.isNone
  let s := if start && lowest then
      let wl := q.wl0 + q.desc.copyWl copy + w
      let sync (x : Page) : Bool := shared x && (match x with
        | .scr _ => decide (s.rdStaged x SCR.SYNC_WL_WL ≤ wl)
        | _ => true)
      s.commitsAt 2 sync
    else s
  let s := s.when (w == 0) fun t => t.copyDealt q copy
  let s := if start then s.bandDeadline q p copy band else s
  let st := s.planeSt p
  let d := s.dealIn q p (s.bandTiles q p copy band)
  let wl := q.wl0 + q.desc.copyWl copy + w
  let s := s.each (s.planeBase q.counts 0 (s.planeLanes p)) fun t e =>
    let l := e.1
    if q.lanes.contains l.val then
      let tag : LineTag := { page := q.desc.id, copy, w, wl
                             tick := wl + t.rd .pln PLN.PLANE_YOFF p + t.rd (.seq l) SEQ.PHASE_WL
                             plane := p, ord := t.lanes[l].ords, first := n == 0
                             last := n + 1 == q.desc.length * q.desc.copies }
      let set := t.plSet l p
      let reset := w == 0 || (start && !set.edReset)
      let body := match st.frozen.find? fun f => f.1 == l.val with
        | some f => Dealt.missing f.2.1 band f.2.2
        | none => Dealt.words ((List.range q.counts[l]).map fun j => d.word w (e.2 + j))
      t.dealLane l { tag, body, base := e.2, set, reset, band := start, pre := q.desc.pre p }
    else t
  let s := s.modPage q.ord fun x => { x with
    dealt := x.dealt.setIfInBounds p (n + 1)
    lastDealt := match x.lastDealt with
      | some (a, k) => if a ≤ wl then some (wl, copy) else some (a, k)
      | none => some (wl, copy) }
  if (w + 1) % h = 0 || w + 1 = q.desc.length then
    let s := { s with intake := { s.intake with bandBuf := s.intake.bandBuf.filter fun (t : BandTile) =>
      !(t.key.page == q.desc.id && t.key.plane == p && t.key.band == band && t.copy == copy) } }
    s.modPlane p fun x => { x with busy := false, frozen := [] }
  else s

/-- The lines of a plane whose dealing tick has come (R182); `fuel` bounds how many a tick can deal. -/
def State.dealPlane (s : State) (ord p : Nat) : Nat → State
  | 0 => s
  | fuel + 1 =>
    match s.intake.pages.find? fun q => q.ord == ord with
    | none => s
    | some q =>
      let n := q.dealt.toList.getD p 0
      let at_ := q.wl0 + q.desc.copyWl (n / q.desc.length) + n % q.desc.length + s.rd .pln PLN.PLANE_YOFF p
      if n < q.desc.length * q.desc.copies && decide (at_ ≤ s.rd .pace PACE.WL + s.rd .lst LST.CTRL_LEAD) then
        State.dealPlane (s.dealLine q p n) ord p fuel
      else s

/-- Every plane of an active page deals its lines; the page is ending once all are dealt. -/
def State.dealPage (s : State) (q : PageSt) : State :=
  let s := s.each q.desc.planeList fun t p => t.dealPlane q.ord p 16
  s.modPage q.ord fun x => { x with
    ending := x.desc.planeList.all fun p => x.dealt.toList.getD p 0 == x.desc.length * x.desc.copies }

/-- PAGE_STARTED of each copy at its first web line (R188). -/
def State.copyStarts (s : State) (ord : Nat) : State :=
  match s.intake.pages.find? fun q => q.ord == ord with
  | none => s
  | some q =>
    let wl := q.wl0 + q.desc.copyWl q.started
    if q.started < q.desc.copies && wl ≤ s.rd .pace PACE.WL then
      let s := (s.pageCqe q.desc.id 6 0 (pageLoc wl q.started)).raise .lst 10
      s.modPage ord fun x => { x with started := x.started + 1 }
    else s

/-! ### The start of a page (R24, R28, R186, R187) -/

/-- R24: the first four bands have landed and been accepted, and the first band is assembled. -/
def State.pageReady (s : State) (q : PageSt) : Bool :=
  q.desc.planeList.all fun p =>
    let cols := List.range (columns (q.width.toList.getD p 0))
    let have_ (b c : Nat) : Bool := s.intake.bandBuf.any fun t => t.key == ⟨q.desc.id, p, b, c⟩
    (List.range (min 4 (q.desc.bands p))).all fun b => cols.all fun c =>
      have_ b c || s.intake.tiles.any fun t => t.key == ⟨q.desc.id, p, b, c⟩ && t.phase == .landed && t.accepted
    && cols.all fun c => have_ 0 c

/-- The nozzle counts and overlaps that the checks of a start need: every lane's count known, every OVL below both counts
(R187). -/
def State.countsOk (s : State) (p : Nat) : Bool :=
  let ls := s.planeLanes p
  ls.all (fun l => decide (0 < s.laneN l)) &&
    (ls.zip ls.tail).all fun e => decide (s.rd .pln PLN.LMAP_OVL e.1.val < s.laneN e.1) &&
      decide (s.rd .pln PLN.LMAP_OVL e.1.val < s.laneN e.2)

/-- The code with which a page is rejected at its start tick, if any (R28, R187). -/
def State.startRejects (s : State) (q : PageSt) : Option Nat :=
  if q.desc.planeList.any fun p => !s.countsOk p then some 0x23
  else
    match s.lastRejects s.liveCounts q.desc with
    | some nn => some nn
    | none =>
      if q.desc.planeList.any fun p => s.rd .pln PLN.PLANE_WIDTH p != q.width.toList.getD p 0 then some 0x24
      else if (s.pageLanes q.desc.planes).any fun l => !s.armable l then some 0x21
      else none

/-- The page starts: its first web line is the tick's, and the nozzle counts of its lanes are evaluated (R179). The commits of
cluster and device pages that wait for its first web line take effect (R41; log entry 93). -/
def State.pageStart (s : State) (q : PageSt) : State :=
  let wl := s.rd .pace PACE.WL
  let ls := s.pageLanes q.desc.planes
  let s := s.when (ls.any fun (l : Lane) => s.lanes[l].spit) State.spitAbort
  let s := s.commitsAt 3 fun x => x.lane.isNone
  let s := s.modPage q.ord fun x =>
    { x with phase := .active, wl0 := wl, lanes := ls.map fun l => l.val, counts := s.liveCounts }
  let s := { s with intake := { s.intake with prevEnd := wl + q.desc.span, prevKnown := true, counts := s.liveCounts } }
  let s := (s.wr .lst LST.CUR_COPY 0).wr .lst LST.START_WL wl
  let s := s.each ls fun t l =>
    let t := t.modLane l fun (h : LaneHw) =>
      { h with spit := false, stopped := if h.stopped = some q.desc.id then none else h.stopped }
    match t.lanes[l].page with
    | some id =>
      if id = q.desc.id then t.modLane l fun (h : LaneHw) => { h with outCause := none } else t
    | none =>
      let t := t.modLane l fun (h : LaneHw) => { h with page := some q.desc.id, outCause := none }
      if t.lanes[l].st == .idle then t.setLane l .armed else t
  let s := s.each allLanes State.partnerRefresh
  let s := s.wr .pace PACE.PERIOD_MIN 0xFFFFF
  let s := s.settlePages.settlePerm
  s.when (decide (q.fsafe * s.rd .pace PACE.PERM < 500000000)) fun t => t.raise .lst 14

/-- The web line on which the next page is to start, fixed at the first tick at which R186 gives it. -/
def State.startLine (s : State) (q : PageSt) : Option Nat :=
  let wl := s.rd .pace PACE.WL
  match q.startAt with
  | some x => some x
  | none =>
    if q.desc.mode = 0 then
      let x := s.intake.prevEnd + q.desc.gap
      some (if s.intake.prevKnown && decide (wl ≤ x) then x else wl + q.desc.gap)
    else if !q.go then none
    else if q.desc.mode = 2 then some (wl + s.rd .lst LST.TOF_DELAY_WL)
    else some wl

/-- The next page starts, waits or is rejected at a tick (R187). -/
def State.tryStart (s : State) : State :=
  match s.nextPage with
  | none => s
  | some q =>
    let x := s.startLine q
    let s := s.modPage q.ord fun p => { p with startAt := x }
    match x with
    | none => s
    | some x =>
      if s.rd .pace PACE.WL < x then s
      else if !s.pageReady q then
        if s.on .lst LST.CTRL_LATE_REJECT then s.pageReject q 0x26
        else if q.moved then s
        else
          ((s.bump .lst LST.WAIT_CNT).raise .lst 13).modPage q.ord fun p => { p with moved := true }
      else
        match s.startRejects q with
        | some nn => s.pageReject q nn
        | none => s.pageStart q

/-! ### The tick -/

/-- The pace unit's figures at a tick (R278 to R282). -/
def State.paceTick (s : State) : State :=
  let gap := match s.pace.last with
    | some t => s.dclk - t
    | none => 0
  let counts := !s.pace.fresh && s.pace.last.isSome
  let tp := s.rd .pace PACE.PERM
  let short := counts && decide (gap < tp)
  let s := (s.wr .pace PACE.WL (s.rd .pace PACE.WL + 1)).wr .pace PACE.TICK_TIME s.time
  let s := if counts then
      let g := min gap 0xFFFFF
      (s.wr .pace PACE.PERIOD g).wr .pace PACE.PERIOD_MIN (min g (s.rd .pace PACE.PERIOD_MIN))
    else s
  let s := if short then (s.bump .pace PACE.OVS_CNT).when (!s.pace.short) fun t => t.raise .pace 10 else s
  let s := if s.on .pace PACE.STAT_STOPPED then (s.wr .pace PACE.STAT_STOPPED 0).raise .pace 12 else s
  let s := { s with pace := { s.pace with
      ticks := s.pace.ticks - 1, last := some s.dclk, short, fresh := false, tickAt := s.dclk
      interval := if counts then some gap else none
      gap := if s.pace.last.isSome then some gap else none } }
  s.settleSources

/-- Firing instants of the lines whose tick this is: 3 + D DCLK after it (R248, R254). -/
def State.setInstants (s : State) (before : Option Nat) : State :=
  let wl := s.rd .pace PACE.WL
  s.each allLanes fun t l =>
    if t.lanes[l].due.any fun d => d.tag.tick == wl then
      let prev := match before with
        | some g => min g 65535
        | none => t.rd (.seq l) SEQ.TMIN
      let at_ := t.dclk + 3 + t.rd (.seq l) SEQ.PHASE_FRAC * prev / 256
      t.modLane l fun (h : LaneHw) => { h with due := h.due.map fun (d : Due) =>
        if d.tag.tick = wl then { d with instant := some at_ } else d }
    else t

/-- R278. A line tick of the pace unit. -/
def execLineTick (s : State) : Host.Outcome State Fault Refusal :=
  if s.devUp && decide (0 < s.pace.ticks) then
    let before := s.pace.gap
    let s := s.paceTick
    let s := s.commitsAt 1 fun p => p.lane.isNone
    let s := s.each (s.intake.pages.filter fun (q : PageSt) => q.cancel) fun t q => t.pageCut q 0x27
    let s := s.tryStart
    let active := s.intake.pages.filter fun (q : PageSt) => q.phase == PagePhase.active
    let s := s.each active fun t q => (t.dealPage q).copyStarts q.ord
    .next ((s.setInstants before).armNext.settleSlow)
  else .next s

/-- R186. A write of a page's ID to `LST.START`. -/
def State.lstStartWrite (s : State) (v : Nat) : State :=
  match s.nextPage with
  | some q => if q.desc.id = v && q.desc.mode = 3 then s.pageGo fun d => d.mode == 3 else s.errOpen .lst 0x29
  | none => s.errOpen .lst 0x29

/-- R186. A write of `LST.START`. -/
def execLstStart (req : Req) (id : Word) (s : State) : Host.Outcome State Fault Refusal :=
  .next <| s.command req .lst 0x48 fun s => s.lstStartWrite id.toNat

end Sys2Proof.Machine
end

