-- ==== Sys2Proof/Machine/Power.lean ====
section
/-! DEFINITION. What the power states share (R60 to R81): wake causes, clusters up and down, entry into FAULT, into SETT and
back, keep-wet bursts. The commands stand in PowerCmd. -/

namespace Sys2Proof.Machine

open Reg

/-- Change what power holds. -/
def State.modPower (s : State) (f : Power → Power) : State := { s with power := f s.power }

/-! ### Causes (R65) -/

/-- A wake cause is recorded: the bit of `PWR.WAKE_CAUSE`. -/
def State.causeSet (s : State) (b : Nat) : State :=
  match b with
  | 0 => s.wr .pwr PWR.WAKE_CAUSE_ALARM 1
  | 1 => s.wr .pwr PWR.WAKE_CAUSE_SPIT 1
  | 8 => s.wr .pwr PWR.WAKE_CAUSE_WAKE_REQ 1
  | 9 => s.wr .pwr PWR.WAKE_CAUSE_PERST 1
  | 10 => s.wr .pwr PWR.WAKE_CAUSE_COLD 1
  | k => s.wr .pwr PWR.WAKE_CAUSE_CMP (s.rd .pwr PWR.WAKE_CAUSE_CMP ||| 2 ^ (k - 2))

/-- The field of a fatal cause. -/
def fatalRow (b : Nat) : Row :=
  match b with
  | 0 => PWR.FAULT_CAUSE_PGOOD
  | 1 => PWR.FAULT_CAUSE_TJ_SHUT
  | 2 => PWR.FAULT_CAUSE_SAFE_WDT
  | 3 => PWR.FAULT_CAUSE_CMP
  | _ => PWR.FAULT_CAUSE_PMB_CRIT

/-- `PWR.FAULT_CAUSE`[4:0]. -/
def State.fatalCauses (s : State) : Nat := (List.range 5).foldl (fun a b => a + s.rd .pwr (fatalRow b) * 2 ^ b) 0

/-- HVPG[7:0]. -/
def State.hvpgs (s : State) : Nat :=
  allClus.foldl (fun a (c : Clu) => a + s.rd (.cpwr c) CPWR.STAT_HVPG * 2 ^ c.val) 0

/-- `PWR.REQ`: an RTC tick as a number (R331). -/
def State.rtcTicks (s : State) : Nat := 32768 * s.rd .aon AON.RTC_SEC + s.rd .aon AON.RTC_SUB

/-- A written RTC_LOAD pair is loaded (R72). -/
def State.rtcLoaded (s : State) : State :=
  match s.power.rtcLoad with
  | none => s
  | some (sec, sub) =>
    ((s.modPower fun p => { p with rtcLoad := none }).wr .aon AON.RTC_SEC sec).wr .aon AON.RTC_SUB sub

/-- The device is in READY without a page (R63). -/
def State.calmNow (s : State) : Bool := s.power.dev == .ready && s.noPage

/-! ### Clusters down (R10, R76) -/

/-- The pages that lose their registers with a cluster's domain. -/
def cluPages (c : Clu) : List Page :=
  [.clu c, .scr c, .seam c, .ccal c] ++ (Clu.lanes c).flatMap lanePages

/-- A lane whose domain is off: everything it held is gone, but the age of its Awl scan (R233). -/
def State.laneLost (s : State) (l : Lane) : State :=
  let s := (s.laneOff l).setLane l .off
  s.modLane l fun (h : LaneHw) => { ({} : LaneHw) with
    page := h.page, outCause := h.outCause, due := h.due, past := h.past, takeover := h.takeover, ords := h.ords
    run := h.run, after := h.after, awl := { since := h.awl.since } }

/-- A cluster's head logic supply, links and domain go off (R76): its blocks lose their state, a test and calibration runs on
it are aborted (R362, R380), soft repairs are lost (R364). -/
def State.clusterOff (s : State) (c : Clu) : State :=
  if s.domUp c then
    let tested := match s.bist.run with
      | some r => (r.insts.flatMap (testClus r.target)).contains c
      | none => false
    let s := (s.when tested fun t => t.testAbort 5).dllAbort c
    let s := s.each (Clu.lanes c) fun t l => t.awlAborted l false
    let s := s.each (Clu.lanes c) State.laneLost
    let s := ((s.each (cluPages c) State.resetPage).settlePerm).calForget c
    let s := ((s.wr (.cpwr c) CPWR.STAT_DOM_UP 0).wr (.cpwr c) CPWR.STAT_HVEN 0).wr (.cpwr c) CPWR.STAT_DLL_LOCK 0
    let s := (s.wr (.cpwr c) CPWR.STAT_OP_ACT 0).wr .clk CLK.DCLK_CL 0 c.val
    let k := s.rd .clk CLK.LOCK
    let s := s.wr .clk CLK.LOCK (if k.testBit c.val then k - 2 ^ c.val else k)
    let s := (s.softLost (16 * (8 * c.val)) 128).softLost (1024 + 32 * c.val) 32
    s.modClu c fun _ => {}
  else s

/-- No cluster's domain is on. -/
def State.allOff (s : State) : Bool := allClus.all fun (c : Clu) => !s.domUp c

/-- A cluster's head logic supply, links and domain go off (R76); the supply of the heads goes with the last cluster, and
what its pages had pending no longer is (R56). -/
def State.clusterDown (s : State) (c : Clu) : State :=
  s.settling fun t =>
    let t := t.clusterOff c
    t.when t.allOff fun u => u.headSupply false

/-- Every axis driver sleeps (R61). -/
def State.driversSleep (s : State) : State := s.each allAxes State.axSleep

/-! ### FAULT (R63, R68, R389) -/

/-- The FATAL entry of the Den. -/
def State.denFatal (s : State) (rail : Nat) : State :=
  let wl := s.curWl
  let page := s.curPageSt
  let last (p : Nat) : Nat := match page.bind fun (q : PageSt) => q.lastFired.toList.getD p none with
    | some x => if wl - x < 0xFFFFFF then wl - x else 0xFFFFFF
    | none => 0xFFFFFF
  let planes := match page with
    | some q => q.desc.planes
    | none => 0
  let lasts := (List.range 8).foldl (fun a p => a + last p * 2 ^ (8 * (14 + 3 * p))) 0
  let detail := s.hvpgs + 256 * s.power.pgood0.toNat + 512 * s.power.pgood1.toNat + 4096 * rail
  s.denHw 1 0x01 (s.fatalCauses + 2 ^ 8 * s.pair.role.code + 2 ^ 16 * planes + 2 ^ 32 * s.curPage + 2 ^ 64 * wl + lasts +
    s.rd .pwr PWR.TJ * 2 ^ (8 * 0x26) + detail * 2 ^ (8 * 0x28))

/-- The self-refresh of an entry into SETT is undone: before SRE the controller is ACTIVE again, after it the exit starts. -/
def State.srUndo (s : State) : State :=
  if s.ddr.forSett then
    let s := { s with ddr := { s.ddr with forSett := false } }.modPower fun p => { p with sreIssued := false, wakeHeld := false }
    if s.ddrState = ddrEntry then s.setDdr ddrActive
    else if s.ddrState = ddrSelf then s.setDdr ddrExit
    else s
  else s

/-- A running Awl scan is ended as the cluster leaves READY or the device enters FAULT or TO_SETT (R235). -/
def State.scansEnd (s : State) : State := s.each allLanes State.awlStop

/-- The steps of R68, and what else follows entry into FAULT (R61, R189, R286, R335, R362, R380). -/
def State.faultActs (s : State) (pgood : Bool) : State :=
  let s := s.each allClus fun t c =>
    let t := t.wr (.cpwr c) CPWR.STAT_HVEN 0
    if t.domUp c then t.modClu c fun (h : CluHw) => { h with phase := .fall } else t
  let s := s.raise .gio 10
  let s := s.each (s.intake.pages.filter fun (q : PageSt) => q.phase == PagePhase.active) fun t q => t.pageCut q 0x28
  let s := (s.each allAxes State.axEstop).driversSleep
  let s := (s.flag .pair PAIR.STAT_PFAULT_O (s.pair.role == .lead)).wr .pair PAIR.STAT_ROLE_O 0
  let s := ((s.testAbort 5).calAbortAll).scansEnd.srUndo.spitAbort
  let s := s.modPower fun p => { p with
    wake := .none, grace := false, settNext := false, wakeHeld := false, pendFault := 0, spit := none, pmb := [] }
  let s := ((s.setDev .fault).setFault .pwr true).setFault .sys true
  s.when pgood fun t => t.each allClus State.clusterDown

/-- A fatal cause sets (R63, R68, R389): the Den entry names it, and a device that is not in FAULT enters it. A PGOOD cause
takes the cluster domains with VDD_CORE in FAULT too. -/
def State.fatalNow (s : State) (b rail : Nat) : State :=
  let isNew := !s.on .pwr (fatalRow b)
  let s := s.wr .pwr (fatalRow b) 1
  let s := s.when isNew fun t => t.denFatal rail
  if s.power.dev == .fault then s.when (b == 0) fun t => t.each allClus State.clusterDown else s.faultActs (b == 0)

/-! ### Waking (R63, R64) -/

/-- SETT to IDLE starts: PEN0 rises. -/
def State.wakeStart (s : State) (warm : Bool) : State :=
  s.modPower fun p => { p with wake := .pgood0, warm, pen0 := true, penFor := 0, wakeTick := s.rtcTicks }

/-- A wake source that may act: it wakes the device from SETT, or cancels or is held by an entry into SETT (R64). -/
def State.wakeBy (s : State) (b : Nat) : State :=
  match s.power.dev with
  | .sett =>
    match s.power.wake with
    | .none => (s.causeSet b).wakeStart true
    | _ => if s.power.wakeTick = s.rtcTicks then s.causeSet b else s
  | .toSett =>
    let s := s.causeSet b
    if s.power.sreIssued then s.modPower fun p => { p with wakeHeld := true } else s.srUndo.setDev .idle
  | _ => s

/-- A wake source is recognised: it acts if `AON.WAKE_EN` enables it. -/
def State.wakeSource (s : State) (b : Nat) : State := if (s.rd .aon AON.WAKE_EN).testBit b then s.wakeBy b else s

/-- A fatal cause: in SETT asleep the device wakes first (R71); a transition under way ends (R64). -/
def State.fatal (s : State) (b rail : Nat) : State :=
  match s.power.dev with
  | .off => s
  | .sett =>
    if s.power.wake == .none then
      (s.modPower fun p => { p with pendFault := p.pendFault ||| 2 ^ b }).wakeStart true
    else s.fatalNow b rail
  | _ => s.fatalNow b rail

/-! ### Clusters up (R76 to R78) -/

/-- Every enabled lane of a cluster has its link up. -/
def State.linksUp (s : State) (c : Clu) : Bool := (s.enLanes c).all fun l => s.linkUp l

/-- `PWR.CLU_RDY` of a cluster (R65). -/
def State.cluReady (s : State) (c : Clu) : Bool :=
  s.domUp c && s.on (.cpwr c) CPWR.STAT_DLL_LOCK && s.linksUp c && s.on (.cpwr c) CPWR.STAT_HVPG

/-- HVEN may rise (R76, R77, R78). -/
def State.hvMay (s : State) (c : Clu) : Bool :=
  s.domUp c && s.on (.cpwr c) CPWR.STAT_DLL_LOCK && s.linksUp c && s.rd (.cpwr c) CPWR.HV_SET != 0 &&
    (Clu.lanes c).all fun l => s.lanes[l].st != .test

/-- HVEN rises, and HVPG is awaited. -/
def State.hvRaise (s : State) (c : Clu) : State :=
  (s.wr (.cpwr c) CPWR.STAT_HVEN 1).modClu c fun (h : CluHw) => { h with phase := .hv, hvenAt := s.dclk }

/-- HVEN falls on a failure: the next try is at least 1 s after the last (R78). -/
def State.hvDrop (s : State) (c : Clu) : State :=
  (s.wr (.cpwr c) CPWR.STAT_HVEN 0).modClu c fun (h : CluHw) =>
    { h with phase := .failed, tryAt := 500000000 + h.hvenAt }

/-- The clusters of a bring-up. -/
def State.selClus (s : State) : List Clu := allClus.filter fun (c : Clu) => s.power.sel.testBit c.val

/-! ### Keep-wet bursts (R73 to R75) -/

/-- The lanes of a burst get their tables; a lane without a valid map scans first. -/
def State.spitRestore (s : State) : State :=
  match s.power.spit with
  | none => s
  | some r =>
    let s := s.modPower fun p => { p with spit := some { r with restored := true, sending := true } }
    s.each (allLanes.filter fun (l : Lane) => s.domUp (Lane.clu l) && s.lanes[l].st == .idle) fun t l =>
      let t := (t.modLane l fun (h : LaneHw) => { h with spit := true }).restoreWindow l false |>.1
      if !t.mapValid l && t.awlMay l then t.awlBegin l else t

/-! ### READY and IDLE (R63, R78) -/

/-- The device reports READY: an armed lane makes it PRINT, and a burst goes on. -/
def State.arriveReady (s : State) : State := ((s.setDev .ready).settlePrint).spitRestore

/-- A burst in READY still brings its clusters up (R73). -/
def State.spitWaits (s : State) : Bool :=
  s.power.dev == .ready && match s.power.spit with
    | some r => !r.restored
    | none => false

/-- READY, or the burst in READY, once every selected cluster is ready. -/
def State.settleReady (s : State) : State :=
  if s.selClus.all s.cluReady then
    if s.power.dev == .toReady then s.arriveReady else if s.spitWaits then s.spitRestore else s
  else s

/-- The clusters of `CLU_SEL` are selected, and the bound of R78 counts from here. -/
def State.selectClus (s : State) : State :=
  let sel := s.rd .pwr PWR.CLU_SEL &&& s.rd .sys SYS.DEV_ID_CL_MASK
  let tmo := (allClus.filter fun (c : Clu) => sel.testBit c.val).foldl
    (fun a (c : Clu) => max a (s.rd (.cpwr c) CPWR.HV_TIME_HV_TMO)) 0
  s.modPower fun p => { p with sel, grace := false, readyFrom := s.dclk, readyTmo := tmo }

/-- IDLE to READY begins (R76, R78). -/
def State.toReady (s : State) : State :=
  ((s.selectClus.setDev .toReady).driversSleep).settleReady

/-- Entry into SETT begins (R63, R166, R286, R331, R362, R380). -/
def State.toSett (s : State) : State :=
  let s := (((s.testAbort 5).calAbortAll).scansEnd.each allAxes State.axEstop).driversSleep
  let s := { s with tim := { s.tim with
    saved := some (s.time, s.rtcTicks, s.rd .tim TIM.X32_PPB_PPB, s.on .tim TIM.X32_PPB_VALID) } }
  let s := s.each allAxes fun t a =>
    let k := t.rd (.ax a) AX.CFG_SUPPLY_CMP
    t.modAxis a fun (h : AxisHw) => { h with
      kept := (t.rd (.ax a) AX.POS, t.on (.ax a) AX.STAT_LOST || k == 0 || t.axSupplyLost a, k) }
  let s := { s with ddr := { s.ddr with forSett := true } }.modPower fun p => { p with grace := false, settNext := false }
  let s := if s.ddrState = ddrActive || s.ddrState = ddrExit then s.setDdr ddrEntry
    else s.when (s.ddrState == ddrSelf) fun t => t.modPower fun p => { p with sreIssued := true }
  s.setDev .toSett

/-- IDLE is reached from above: a SETT request that was accepted on the way goes on (R64). -/
def State.arriveIdle (s : State) : State :=
  let s := s.setDev .idle
  if s.power.settNext then s.toSett else s

/-- READY to IDLE begins, or TO_READY stops (R63, R64, R76): every HVEN falls, and each cluster waits for its HVPG and for
HV_DIS_MS. A burst in progress stays where it is and goes on at the next READY (log entry 56). -/
def State.toIdle (s : State) : State :=
  let s := (s.scansEnd.setDev .toIdle).driversSleep
  let s := s.each allClus fun t c =>
    if t.domUp c then
      (t.wr (.cpwr c) CPWR.STAT_HVEN 0).modClu c fun (h : CluHw) =>
        { h with phase := if t.on (.cpwr c) CPWR.STAT_HVPG then .fall else .discharge, fellAt := s.dclk }
    else t
  if s.allOff then s.arriveIdle else s

/-! ### SETT (R61, R63, R64, R331) -/

/-- Fields that SETT keeps beside the AON and FUSE pages: identity, wake causes, the DRAM configuration and training (log
entry 34). -/
def settKeeps : List (Page × Row) :=
  [(.sys, SYS.DEV_ID_PART), (.sys, SYS.DEV_ID_STEP), (.sys, SYS.DEV_ID_CL_MASK),
   (.pwr, PWR.WAKE_CAUSE_ALARM), (.pwr, PWR.WAKE_CAUSE_SPIT), (.pwr, PWR.WAKE_CAUSE_CMP), (.pwr, PWR.WAKE_CAUSE_WAKE_REQ),
   (.pwr, PWR.WAKE_CAUSE_PERST), (.pwr, PWR.WAKE_CAUSE_COLD),
   (.ddr, DDR.CFG_RATE), (.ddr, DDR.CFG_DENSITY), (.ddr, DDR.CFG_RANK2), (.ddr, DDR.CFG_SIZE_GIB), (.ddr, DDR.SCRUB_POS)] ++
  (List.finRange 4).flatMap fun k => [(.ddrs k, DDRS.TRAIN_DONE), (.ddrs k, DDRS.TRAIN_PASS)]

/-- The fields of whole pages, and single fields, out of a register file. -/
def keepRegs (m : Regs) (pages : List Page) (rows : List (Page × Row)) : Regs :=
  m.filter fun e => pages.any (fun p => decide (p.base * 8 ≤ e.1 ∧ e.1 < 0x8000 + p.base * 8)) ||
    rows.any fun r => r.2.key r.1 0 == e.1

/-- DEV loses its power: what is left is what AON, the DRAM, the MRAM and the fuses hold. -/
def State.devLost (s : State) : State :=
  { State.reset with
    pending := s.pending, dclk := s.dclk, free := s.free, out := s.out, reply := s.reply
    regs := keepRegs s.regs [.aon, .fuse] settKeeps
    power := { dev := .sett, dry := s.power.dry, uptime := s.power.uptime, rtcLoad := s.power.rtcLoad, spit := s.power.spit,
               pendFault := s.power.pendFault }
    lanes := s.lanes.map fun (h : LaneHw) => { ({} : LaneHw) with awl := { since := h.awl.since } }
    axes := s.axes.map fun (h : AxisHw) => { ({} : AxisHw) with kept := h.kept }
    tim := { s.tim with frac := 0 }
    bist := { dead := s.bist.dead }
    ddr := { mem := s.ddr.mem, poison := s.ddr.poison, forSett := true }
    identN := s.identN
    den := { mram := s.den.mram } }

/-- The device is in SETT; a wake source that was held starts the wake (R64). -/
def State.arriveSett (s : State) : State :=
  let held := s.power.wakeHeld
  let s := s.denCut.devLost
  if held then s.wakeStart true else s

/-- The time counter after a wake: from T_save and the RTC (R331), or from the RTC alone (R321). -/
def State.loadTime (s : State) : State :=
  let cold (t : State) : State :=
    t.wr .tim TIM.TIME (1000000000 * t.rd .aon AON.RTC_SEC + 1000000000 * t.rd .aon AON.RTC_SUB / 32768)
  let fresh := if s.power.warm then s.tim.saved else none
  match fresh with
  | none => cold s
  | some (t0, r0, ppb, valid) =>
    if s.on .aon AON.RTC_CTRL_X32_FAIL || !valid then (cold s).wr .tim TIM.WAKE_ERR 0xFFFFFFFF
    else
      let d := s.rtcTicks - r0
      let step := roundDiv ((d : Int) * (1000000000 - signed 31 ppb)) 32768
      let e := d * s.rd .tim TIM.HOLD / 32768 / 1000
      let s := s.wr .tim TIM.TIME ((t0 : Int) + step).toNat
      s.wr .tim TIM.WAKE_ERR (min e 0xFFFFFFFF)

/-- An axis restarts from its record (R294). -/
def State.axRestart (s : State) (a : Axis) : State :=
  (s.wr (.ax a) AX.POS s.axes[a].kept.1).flag (.ax a) AX.STAT_LOST s.axes[a].kept.2.1

/-- IDLE is reported after a wake (R63, R69): the PLLs have locked, the time counter is loaded, WAKE_N calls the host. A warm
wake with DRAM never trained boots cold, with training and with no RESUME_FAIL (log entry 85). -/
def State.arriveAwake (s : State) : State :=
  let s := s.each [CLK.LOCK_CCLK, CLK.LOCK_FCLK, CLK.LOCK_MCLK, CLK.LOCK_TCLK, CLK.LOCK_DCLK] fun t r => t.wr .clk r 1
  let warm := s.power.warm
  let s := (s.loadTime.each allAxes State.axRestart).modPower fun p => { p with wake := .none, wakeN := true }
  let s := { s with ddr := { s.ddr with forSett := false } }
  let trained := s.on (.ddrs 0) DDRS.TRAIN_PASS
  let s := s.when (warm && trained) fun t => (t.wr .ddr HDR.PG_CTRL_EN 1).srExited
  let s := (s.setDev .idle).raise .pwr 10
  let s := if warm && trained then s.bootWarm else s.bootCold true
  let pend := s.power.pendFault
  let s := s.modPower fun p => { p with pendFault := 0 }
  if pend ≠ 0 then s.fatalNow 3 0
  else match s.power.spit with
    | some _ => s.toReady
    | none => s

end Sys2Proof.Machine
end

