-- ==== Sys2Proof/Machine/PowerCmd.lean ====
section
/-! DEFINITION. The commands of the power states (R60 to R84): resets, wakes, requests, clusters, sleep, temperature, RTC,
keep-wet bursts, operating points, PMBus and PLLs. -/

namespace Sys2Proof.Machine

open Reg

/-! ### Power-on and supplies (R63, R401) -/

/-- What survives a power-on reset: fuses and the identity they give, and the MRAM (R384). -/
def State.porReset (s : State) : State :=
  { State.reset with
    pending := s.pending, free := s.free, out := s.out, reply := s.reply
    regs := keepRegs s.regs [.fuse] [(.sys, SYS.DEV_ID_PART), (.sys, SYS.DEV_ID_STEP), (.sys, SYS.DEV_ID_CL_MASK)]
    bist := { dead := s.bist.dead }
    den := { mram := s.den.mram } }

/-- R63. The always-on supplies are good: OFF becomes SETT, and the cold wake starts. -/
def execPowerOnReset (s : State) : Host.Outcome State Fault Refusal :=
  match s.power.dev with
  | .off => .next (((s.modPower fun p => { p with dev := .sett }).causeSet 10).wakeStart false)
  | _ => .next s

/-- R401. An always-on supply falls below its reset level. A Den entry that was being written stops at the word it has reached
(R386). -/
def execPorAssert (s : State) : Host.Outcome State Fault Refusal := .next s.denCut.porReset

/-- R401. A deglitched PGOOD is sampled high after its PEN rose: DEV is powered and PEN1 rises, or BOOTSEL is sampled and the
PLLs start (R90). A level high in the first 20 us after the PEN is ignored. -/
def execPgoodRise (k : Fin 2) (bootsel : BitVec 2) (s : State) : Host.Outcome State Fault Refusal :=
  if s.power.penFor < 5000 then .next s
  else
    match s.power.dev, s.power.wake, k with
    | .sett, .pgood0, 0 => .next (s.modPower fun p => { p with wake := .pgood1, pgood0 := true, pen1 := true, penFor := 0 })
    | .sett, .pgood1, 1 =>
      let s := s.modPower fun p => { p with wake := .plls, pgood1 := true }
      .next { s with cores := { s.cores with bootsel := bootsel.toNat } }
    | _, _, _ => .next s

/-- R63. PGOOD k has not risen within its bound: 1,000 us after PEN0, or 500 us after PEN1. -/
def execPgoodTimeout (k : Fin 2) (s : State) : Host.Outcome State Fault Refusal :=
  match s.power.dev, s.power.wake, k with
  | .sett, .pgood0, 0 => if 250000 ≤ s.power.penFor then .next ((s.errOpen .pwr 0x21).fatal 0 0) else .next s
  | .sett, .pgood1, 1 => if 125000 ≤ s.power.penFor then .next ((s.errOpen .pwr 0x21).fatal 0 0) else .next s
  | _, _, _ => .next s

/-- R401. PGOOD k falls while its PEN is high, after it had risen. -/
def execPgoodLost (k : Fin 2) (s : State) : Host.Outcome State Fault Refusal :=
  let had := if k = 0 then s.power.pgood0 && s.power.pen0 else s.power.pgood1 && s.power.pen1
  if had && s.power.dev != .off then
    let s := s.modPower fun p => if k = 0 then { p with pgood0 := false } else { p with pgood1 := false }
    .next (s.fatal 0 0)
  else .next s

/-- R63. The PLLs have locked and, on a warm wake, DRAM has left self-refresh and the image was re-checked: IDLE is
reported. -/
def execSettWakeComplete (s : State) : Host.Outcome State Fault Refusal :=
  match s.power.dev, s.power.wake with
  | .sett, .plls => .next s.arriveAwake
  | _, _ => .next s

/-- R63. The DRAM refreshes itself, the PLLs have stopped, PEN1 and PEN0 have fallen: the device is in SETT. -/
def execSettEntryComplete (s : State) : Host.Outcome State Fault Refusal :=
  if s.power.dev == .toSett && s.ddrState != ddrEntry && s.ddrState != ddrActive then .next s.arriveSett else .next s

/-! ### Wake sources (R63, R69 to R72) -/

/-- R72. The RTC reaches ALARM_SEC with the alarm armed. -/
def execRtcAlarm (s : State) : Host.Outcome State Fault Refusal :=
  if s.power.dev != .off && s.on .aon AON.ALARM_CTRL && s.rd .aon AON.RTC_SEC == s.rd .aon AON.ALARM_SEC &&
      s.rd .aon AON.RTC_SUB == 0 then
    .next (((s.wr .aon AON.ALARM_CTRL 0).raise .aon 8).wakeSource 0)
  else .next s

/-- R71. The raw result of a comparator whose ball stands at v steps of 7.03 mV: it compares with DAC, and the hysteresis acts
on the release side (log entry 57). -/
def State.cmpRaw (s : State) (k : Fin 6) (v : Nat) : Bool :=
  let dac := s.rd .aon AON.CMP_CTRL_DAC k.val
  let h := if s.power.cmpRaw[k] then ([0, 2, 4, 8] : List Nat).getD (s.rd .aon AON.CMP_CTRL_HYST k.val) 0 else 0
  if s.on .aon AON.CMP_CTRL_POL k.val then decide (v < dac + h) else decide (dac < v + h)

/-- R71. A comparator sees its ball: the raw result is known at once, and the result that has held for DEBOUNCE ticks becomes
OUT. A rise of OUT acts by its ACTION. In SETT a rise that tells the loss of a driver's supply marks the axis's record
(R294). -/
def execCmpOutRise (k : Fin 6) (level : CmpLevel) (s : State) : Host.Outcome State Fault Refusal :=
  if s.power.dev != .off && s.on .aon AON.CMP_CTRL_EN k.val then
    let was := s.on .aon AON.CMP_CTRL_OUT k.val
    let raw := s.cmpRaw k level.v.toNat
    let now := if s.rd .aon AON.CMP_CTRL_DEBOUNCE k.val ≤ level.held.toNat then raw else was
    let s := s.modPower fun p => { p with cmpRaw := p.cmpRaw.set k raw }
    let s := s.flag .aon AON.CMP_CTRL_OUT now k.val
    if now && !was then
      let s := s.when (s.power.dev == .sett) fun t => t.each allAxes fun u a =>
        u.modAxis a fun (h : AxisHw) => { h with kept := (h.kept.1, h.kept.2.1 || h.kept.2.2 == k.val + 1, h.kept.2.2) }
      let act := s.rd .aon AON.CMP_CTRL_ACTION k.val
      let s := s.when (act == 1 || act == 2) fun t => t.raise .aon (9 + k.val)
      let s := s.when (act == 2) fun t => t.wakeSource (2 + k.val)
      .next (s.when (act == 3) fun t => t.fatal 3 0)
    else .next s
  else .next s

/-- R69. WAKE_REQ_N has been asserted for 3 X32. -/
def execWakeReqN (s : State) : Host.Outcome State Fault Refusal := .next (s.wakeSource 8)

/-- R402. PERST_N deasserts. -/
def execPerstNDeassert (s : State) : Host.Outcome State Fault Refusal := .next (s.wakeSource 9)

/-- R402. PERST_N asserted resets the endpoint and its configuration space, and nothing else: the link goes down, and the
MSI-X masks return. -/
def execPerstNAssert (s : State) : Host.Outcome State Fault Refusal :=
  if s.devUp then
    let s := s.when (s.on .pci PCI.LINK_UP) fun t => (t.linkGone.wr .pci PCI.LINK_UP 0).raise .pci 9
    let s := ((s.wr .pci PCI.LINK_SPEED 0).wr .pci PCI.LINK_WIDTH 0).wr .pci PCI.LINK_REVERSED 0
    .next (({ s with intake := { s.intake with d3hot := false } }).clearRange ((Page.pci.base + 0x800) * 8) 0x2040)
  else .next s

/-! ### Requests (R64, R65) -/

/-- A request is rejected with BAD_TRANSITION. -/
def State.badTransition (s : State) (req : Req) : State := s.errAt .pwr 0x20 0x40 req.code

/-- TARGET = SETT. -/
def State.reqSett (s : State) (req : Req) : State :=
  match s.power.dev with
  | .idle => s.toSett
  | .ready => (s.modPower fun p => { p with settNext := true }).toIdle
  | .toIdle => s.modPower fun p => { p with settNext := true }
  | .toSett => s
  | _ => s.badTransition req

/-- FAULT becomes IDLE: the cluster domains go off, FAULT_N and PFAULT_O are released, the role is SOLO (R14, R63, R335). -/
def State.faultLeave (s : State) : State :=
  let s := (s.each allClus State.clusterDown).wr .pair PAIR.STAT_PFAULT_O 0
  ((s.enterSolo.setDev .idle).setFault .pwr false).setFault .sys false

/-- TARGET = IDLE. -/
def State.reqIdle (s : State) (req : Req) : State :=
  match s.power.dev with
  | .idle => s
  | .toReady => s.toIdle
  | .ready => s.toIdle
  | .toIdle => s
  | .toSett => s.wakeBy 8
  | .fault => if s.fatalCauses = 0 && s.hvpgs = 0 then s.faultLeave else s.badTransition req
  | _ => s.badTransition req

/-- TARGET = READY. -/
def State.reqReady (s : State) (req : Req) : State :=
  match s.power.dev with
  | .idle => s.toReady
  | .toReady => s
  | .ready => s
  | .print => s
  | _ => s.badTransition req

/-- A write of `PWR.REQ` that the fabric has let through. -/
def State.reqWrite (s : State) (req : Req) (target : Nat) : State :=
  match target with
  | 0 => s
  | 1 => s.reqSett req
  | 2 => s.reqIdle req
  | 3 => s.reqReady req
  | _ => s.errAt .pwr Err.badValue 0x40 req.code

/-- A request through the fabric; during SETT to IDLE it is rejected (R64). -/
def State.request (s : State) (req : Req) (target : Nat) : State :=
  if s.power.dev == .sett && s.power.wake != .none then s.badTransition req
  else s.gate req .pwr 0x40 fun t => t.reqWrite req target

/-- R64. `PWR.REQ.TARGET` = SETT. -/
def execReqSett (req : Req) (s : State) : Host.Outcome State Fault Refusal := .next (s.request req 1)

/-- R64. `PWR.REQ.TARGET` = IDLE. -/
def execReqIdle (req : Req) (s : State) : Host.Outcome State Fault Refusal := .next (s.request req 2)

/-- R64. `PWR.REQ.TARGET` = READY. -/
def execReqReady (req : Req) (s : State) : Host.Outcome State Fault Refusal := .next (s.request req 3)

/-! ### Clusters (R76 to R78, R374) -/

/-- R76, R374. A cluster domain switches on, at least 50 us after the one before; `code` and `qual` are the result of the DLL
run that locks its DLL. -/
def execClusterPowerOn (c : Clu) (code : BitVec 16) (qual : Word) (s : State) : Host.Outcome State Fault Refusal :=
  let apart := match s.power.domOn with
    | some t => decide (25000 + t ≤ s.dclk)
    | none => true
  if (s.power.dev == .toReady || s.spitWaits) && s.power.sel.testBit c.val && !s.domUp c && apart then
    let s := ((s.wr (.cpwr c) CPWR.STAT_DOM_UP 1).modPower fun p => { p with domOn := some s.dclk }).headSupply true
    let s := s.wr .clk CLK.LOCK (s.rd .clk CLK.LOCK ||| 2 ^ c.val)
    let s := ((s.modClu c fun _ => { phase := .links }).setOp c 0).bump .cal CAL.RUN_CNT
    let good := calInRange 6 code.toNat
    let s := if good then (s.wr (.ccal c) (ITEM.VAL_VALUE 6) code.toNat).calDone 6 c.val qual.toNat (.ccal c)
      else s.calReject 6 c.val (.ccal c)
    let s := s.flag (.cpwr c) CPWR.STAT_DLL_LOCK good
    .next (s.each (Clu.lanes c) State.laneOn)
  else .next s

/-- R76. Every enabled lane of a cluster has its link up and VOUT is set: HVEN rises. -/
def execHvenSet (c : Clu) (s : State) : Host.Outcome State Fault Refusal :=
  if (s.power.dev == .toReady || s.spitWaits) && s.clusters[c].phase == .links && s.hvMay c then .next (s.hvRaise c) else .next s

/-- R78. HVPG rises: with HVEN high the cluster is ready. -/
def execHvpgRise (c : Clu) (s : State) : Host.Outcome State Fault Refusal :=
  if s.devUp && !s.on (.cpwr c) CPWR.STAT_HVPG then
    let s := s.wr (.cpwr c) CPWR.STAT_HVPG 1
    if s.clusters[c].phase == .hv then
      let s := (s.modClu c fun (h : CluHw) => { h with phase := .ready, retry := false }).raise (.cpwr c) 8
      .next s.settleReady.armNext
    else .next s
  else .next s

/-- R77, R78. HVPG has not risen within HV_TMO: HVEN falls. A cluster that goes on failing after READY raises CLU_FAIL the first
time. -/
def execHvTimeout (c : Clu) (s : State) : Host.Outcome State Fault Refusal :=
  if s.devUp && s.clusters[c].phase == .hv &&
      decide (s.clusters[c].hvenAt + 500000 * s.rd (.cpwr c) CPWR.HV_TIME_HV_TMO ≤ s.dclk) then
    let s := (s.errOpen (.cpwr c) 0x20).hvDrop c
    if (s.power.dev == .ready || s.power.dev == .print) && !s.clusters[c].retry then
      .next ((s.modClu c fun (h : CluHw) => { h with retry := true }).raise (.cpwr c) 11)
    else .next s
  else .next s

/-- R77. HVPG falls while HVEN is high: HVEN falls, and the cluster's lanes go to FAULT (R29; log entry 30). -/
def execHvpgLost (c : Clu) (s : State) : Host.Outcome State Fault Refusal :=
  if s.devUp && s.on (.cpwr c) CPWR.STAT_HVEN && s.on (.cpwr c) CPWR.STAT_HVPG then
    let s := ((s.wr (.cpwr c) CPWR.STAT_HVPG 0).raise (.cpwr c) 9).errOpen (.cpwr c) 0x21
    let s := (s.hvDrop c).modClu c fun (h : CluHw) => { h with retry := true }
    .next (s.clusterFault c)
  else .next s

/-- R76. HVPG falls after HVEN has dropped. Where the device goes on in READY or PRINT its lanes have lost the high voltage
(R29). -/
def execHvpgFall (c : Clu) (s : State) : Host.Outcome State Fault Refusal :=
  if s.devUp && s.on (.cpwr c) CPWR.STAT_HVPG && !s.on (.cpwr c) CPWR.STAT_HVEN then
    let s := (s.wr (.cpwr c) CPWR.STAT_HVPG 0).raise (.cpwr c) 9
    if s.clusters[c].phase == .fall && s.power.dev != .fault then
      .next (s.modClu c fun (h : CluHw) => { h with phase := .discharge, fellAt := s.dclk })
    else .next (s.when (s.power.dev == .ready || s.power.dev == .print) fun t => t.clusterFault c)
  else .next s

/-- R78. A failed cluster tries again. -/
def execClusterRetry (c : Clu) (s : State) : Host.Outcome State Fault Refusal :=
  if (s.power.dev == .ready || s.power.dev == .print) && s.clusters[c].phase == .failed && s.hvMay c &&
      decide (s.clusters[c].tryAt ≤ s.dclk) then
    .next (s.hvRaise c)
  else .next s

/-- R76. HV_DIS_MS has passed since HVPG fell: the head logic supply, the links and the domain go off. -/
def execHvDischargeDone (c : Clu) (s : State) : Host.Outcome State Fault Refusal :=
  if s.power.dev == .toIdle && s.clusters[c].phase == .discharge &&
      decide (s.clusters[c].fellAt + 500000 * s.rd (.cpwr c) CPWR.HV_TIME_HV_DIS_MS ≤ s.dclk) then
    let s := s.clusterDown c
    .next (if s.allOff then s.arriveIdle else s)
  else .next s

/-- A selected cluster at the end of TO_READY (R78): it goes on waiting for HVPG within its own HV_TMO, or it has failed. -/
def State.deadline (s : State) (c : Clu) : State :=
  let h := s.clusters[c]
  let waits := h.phase == .hv && decide (s.dclk < h.hvenAt + 500000 * s.rd (.cpwr c) CPWR.HV_TIME_HV_TMO)
  if waits || s.cluReady c then s
  else
    let s := if h.phase == .failed then s
      else if h.phase == .hv then (s.errOpen (.cpwr c) 0x20).hvDrop c
      else if !s.linksUp c then s.errOpen (.cpwr c) 0x24
      else if s.rd (.cpwr c) CPWR.HV_SET = 0 then s.errOpen (.cpwr c) 0x25
      else s
    (s.modClu c fun (h : CluHw) => { h with phase := .failed, retry := true }).raise (.cpwr c) 11

/-- R78. 40 ms and the largest HV_TMO after TO_READY began, the device reports READY; a burst in READY waits no longer for its
clusters. -/
def execToReadyDeadline (s : State) : Host.Outcome State Fault Refusal :=
  if decide (s.power.readyFrom + 500000 * (40 + s.power.readyTmo) ≤ s.dclk) then
    if s.power.dev == .toReady then .next ((s.each s.selClus State.deadline).arriveReady)
    else if s.spitWaits then .next ((s.each s.selClus State.deadline).spitRestore)
    else .next s
  else .next s

/-- R63. READY_IDLE_S seconds have passed in READY without a page. -/
def execReadyIdleTimeout (s : State) : Host.Outcome State Fault Refusal :=
  let n := s.rd .pwr PWR.READY_POL
  if s.calmNow && s.power.calm && n != 0 && decide (s.power.calmFrom + 500000000 * n ≤ s.dclk) then .next s.toIdle
  else .next s

/-! ### Auto-sleep (R66, R67) -/

/-- An intake ring has no entry that waits. -/
def State.ringEmpty (s : State) (r : Nat) : Bool := s.rd .int INT.RING_HEAD r == s.rd .int INT.RING_DB r

/-- A calibration item is running, or is due and could run. -/
def State.calQueued (s : State) : Bool :=
  !s.cal.runs.isEmpty || (List.range 4).any fun k => s.calDue 7 k && s.calMay 7 k

/-- The conditions of R66 beside AUTO_EN and IDLE. -/
def State.maySleep (s : State) : Bool :=
  s.pair.role == .solo && (List.range 9).all s.ringEmpty && !s.on .core CORE.MBX_H2C_CTRL_FULL &&
    !s.on .core CORE.MBX_C2H_CTRL_FULL && s.bist.run.isNone && s.rd .bst HDR.PG_STAT_STATE == 0 && !s.calQueued

/-- What the count of R66 sees: 0 where none runs, 1 while a condition fails, 2 while all hold. -/
def State.sleepSight (s : State) : Nat :=
  if s.power.dev == .idle && s.on .pwr PWR.SLEEP_POL_AUTO_EN then (if s.maySleep then 2 else 1) else 0

/-- The counts of R63 and R66 follow their conditions: a condition that changes restarts its count. -/
def State.settleIdle (s : State) : State :=
  let sees := s.sleepSight
  let s := if sees = s.power.sleepSees then s
    else s.modPower fun p => { p with sleepSees := sees, sleepFrom := s.dclk }
  if s.calmNow == s.power.calm then s else s.modPower fun p => { p with calm := s.calmNow, calmFrom := s.dclk }

/-- R66. The count of IDLE_S has run out in IDLE with AUTO_EN = 1: the grace wait starts, or the sleep is vetoed and the count
starts again. A condition that has changed since the last tick resets the count first. -/
def execAutoSleepDue (s : State) : Host.Outcome State Fault Refusal :=
  let s := s.settleIdle
  let due := decide (s.power.sleepFrom + 500000000 * s.rd .pwr PWR.SLEEP_POL_IDLE_S ≤ s.dclk)
  if s.power.sleepSees = 0 || !due || s.power.grace then .next s
  else if s.power.sleepSees = 2 then
    .next ((s.modPower fun p => { p with grace := true, graceFrom := s.dclk }).raise .pwr 8)
  else .next ((s.modPower fun p => { p with sleepFrom := s.dclk }).errOpen .pwr 0x22)

/-- R67. The grace wait of GRACE times 10 ms ends without a host write. -/
def execSleepGraceEnd (s : State) : Host.Outcome State Fault Refusal :=
  if s.power.dev == .idle && s.power.grace &&
      decide (s.power.graceFrom + 5000000 * s.rd .pwr PWR.SLEEP_POL_GRACE ≤ s.dclk) then
    .next s.toSett
  else .next s

/-! ### Temperature (R65, R362) -/

/-- R362. A die temperature sample, signed, 0.25 degrees C. -/
def execDieSensorSample (t : BitVec 12) (s : State) : Host.Outcome State Fault Refusal :=
  if s.devUp then
    let s := s.wr .pwr PWR.TJ t.toNat
    .next (if s.tempBad then s.testAbort 4 else s)
  else .next s

/-- R65. TJ_MAX has reached TJ_WARN. -/
def execTjWarn (s : State) : Host.Outcome State Fault Refusal :=
  if s.devUp && decide (s.rdS .pwr PWR.TJ_LIM_TJ_WARN ≤ s.rdS .pwr PWR.TJ) then .next (s.raise .pwr 11) else .next s

/-- R65. TJ_MAX has reached TJ_SHUT. -/
def execTjShut (s : State) : Host.Outcome State Fault Refusal :=
  if s.devUp && decide (s.rdS .pwr PWR.TJ_LIM_TJ_SHUT ≤ s.rdS .pwr PWR.TJ) then .next (s.fatal 1 0) else .next s

/-! ### RTC (R70, R72) -/

/-- R70. X32 has stopped for 4 RC periods. -/
def execX32Fail (s : State) : Host.Outcome State Fault Refusal :=
  if s.power.dev != .off then .next ((s.wr .aon AON.RTC_CTRL_X32_FAIL 1).wr .aon AON.RTC_CTRL_X32_RUN 0) else .next s

/-- R70. X32 has run for 32,768 ticks. -/
def execX32Restore (s : State) : Host.Outcome State Fault Refusal :=
  if s.power.dev != .off then .next (s.wr .aon AON.RTC_CTRL_X32_RUN 1) else .next s

/-- R72. The written RTC_LOAD pair is loaded at the next X32 tick. -/
def execRtcLoadApply (s : State) : Host.Outcome State Fault Refusal :=
  .next s.rtcLoaded

/-! ### Keep-wet bursts (R73 to R75) -/

/-- A burst that falls due is skipped (R74). -/
def State.spitSkips (s : State) : Bool :=
  let k := s.rd .aon AON.SPIT_CTRL_PERMIT
  (k != 0 && !s.on .aon AON.CMP_CTRL_OUT (k - 1)) || s.shadow || s.power.dev == .fault ||
    (!s.on .aon AON.SPIT_CTRL_AWAKE && s.power.dev != .sett)

/-- A burst begins. -/
def State.spitBegin (s : State) (origin : DevState) : State :=
  let run : SpitRun := { origin, left := s.rd .aon AON.SPIT_CTRL_DROPS }
  s.modPower fun p => { p with spit := some run }

/-- What a burst that falls due does in the present state (log entry 31). -/
def State.spitDue (s : State) : State :=
  let wakes := (s.rd .aon AON.WAKE_EN).testBit 1
  match s.power.dev with
  | .idle => (s.spitBegin .idle).toReady
  | .ready => (s.spitBegin .ready).selectClus.settleReady
  | .print => (s.spitBegin .ready).spitRestore
  | .toReady => s.spitBegin .ready
  | .sett => if wakes && s.power.wake == .none then (s.spitBegin .sett).wakeBy 1 else s
  | .toSett =>
    if wakes then
      let s := (s.spitBegin .sett).wakeBy 1
      if s.power.dev == .idle then s.toReady else s
    else s
  | _ => s

/-- R73. The spit timer has reached INTERVAL with EN = 1. -/
def execSpitTimerExpiry (s : State) : Host.Outcome State Fault Refusal :=
  if s.power.dev != .off && s.on .aon AON.SPIT_CTRL_EN && s.power.spit.isNone &&
      decide (s.rd .aon AON.SPIT_INT_INTERVAL ≤ s.power.dry) then
    if s.spitSkips then .next (((s.modPower fun p => { p with dry := 0 }).bump .aon AON.SPIT_SKIP).raise .aon 16)
    else .next s.spitDue
  else .next s

/-- The scans that a burst waits for have ended. -/
def State.spitScanned (s : State) : Bool :=
  allLanes.all fun l => !(s.lanes[l].spit && s.rd (.lne l) LNE.AWL_STAT_STATE == 1)

/-- The time of a spit line at FREQ, in 100 Hz units, since the last one has passed (R73). -/
def State.spitPaced (s : State) (r : SpitRun) : Bool :=
  match r.last with
  | some t => decide (5000000 ≤ (s.dclk - t) * s.rd .aon AON.SPIT_INT_FREQ)
  | none => true

/-- R73. The FREQ timer expires in a burst: each lane of the burst sends its next spit line. -/
def execSpitLine (s : State) : Host.Outcome State Fault Refusal :=
  match s.power.spit with
  | none => .next s
  | some r =>
    if r.sending && decide (0 < r.left) && s.spitPaced r && (s.power.dev == .ready || s.power.dev == .print) && s.spitScanned then
      let s := s.modPower fun p => { p with spit := some { r with left := r.left - 1, last := some s.dclk } }
      .next (s.each (allLanes.filter fun (l : Lane) => s.lanes[l].spit && s.spits l) State.spitLine)
    else .next s

/-- R73. The spit lines have been sent: the device returns to the state the burst began in. -/
def execSpitBurstDone (s : State) : Host.Outcome State Fault Refusal :=
  match s.power.spit with
  | none => .next s
  | some r =>
    if r.sending && r.left == 0 then
      let s := s.each allLanes fun t l => t.modLane l fun (h : LaneHw) => { h with spit := false }
      let s := ((s.modPower fun p => { p with spit := none, dry := 0 }).bump .aon AON.SPIT_CNT).raise .aon 15
      match s.power.dev, r.origin with
      | .ready, .idle => .next s.toIdle
      | .ready, .sett => .next (s.modPower fun p => { p with settNext := true }).toIdle
      | _, _ => .next s
    else .next s

/-! ### Operating points (R17, R79, R80) -/

/-- The point a cluster should run at: the lowest that keeps the floor, or `CTRL.OP` (R80). -/
def State.opTarget (s : State) (c : Clu) : Nat :=
  if s.on (.cpwr c) CPWR.CTRL_DVFS_AUTO then
    if s.opKeeps c 3 then 3 else if s.opKeeps c 2 then 2 else if s.opKeeps c 1 then 1 else 0
  else s.rd (.cpwr c) CPWR.CTRL_OP

/-- R80. A change to the point the cluster should run at starts, or is refused: below the floor before a page that names the
cluster (log entry 58). On a rise V_CL goes first; on a fall DCLK does, and the DLL relocks (log entry 55). -/
def execOpChange (c : Clu) (s : State) : Host.Outcome State Fault Refusal :=
  let op := s.opTarget c
  let h := s.clusters[c]
  if s.devUp && s.domUp c && h.opTo.isNone && h.opWas.isNone && op != s.rd (.cpwr c) CPWR.STAT_OP_ACT then
    if !s.opKeeps c op then .next (s.errOpen (.cpwr c) 0x22)
    else if s.pageNames c then .next (s.errOpen (.cpwr c) 0x23)
    else
      let s := s.modClu c fun (h : CluHw) => { h with opTo := some op }
      if op < s.rd (.cpwr c) CPWR.STAT_OP_ACT then .next (s.setVcl c (opMv op))
      else .next ((s.setDclk c op).wr (.cpwr c) CPWR.STAT_DLL_LOCK 0)
  else .next s

/-- R80. Voltage and DCLK of the new operating point are in force: after a rise of V_CL DCLK changes, if the point still keeps
the floor of R17; after a fall of DCLK V_CL follows and the DLL is locked again. -/
def execOpChangeDone (c : Clu) (s : State) : Host.Outcome State Fault Refusal :=
  match s.clusters[c].opTo with
  | none => .next s
  | some op =>
    let was := s.rd (.cpwr c) CPWR.STAT_OP_ACT
    let s' := s.modClu c fun (h : CluHw) => { h with opTo := none }
    if !s.devUp then .next s
    else if was == op then .next (((s'.setVcl c (opMv op)).wr (.cpwr c) CPWR.STAT_DLL_LOCK 1).raise (.cpwr c) 10)
    else if s.opKeeps c op then .next ((s'.setDclk c op).raise (.cpwr c) 10)
    else .next ((s'.setVcl c (opMv was)).errOpen (.cpwr c) 0x22)

/-! ### PMBus (R82, R83) -/

/-- The transfers of a poll to a rail (R82). -/
def State.pmbAsk (s : State) (k : Nat) : State :=
  s.each ([.voutMode, .statusWord, .readVout, .readIout] : List PmbCmd) fun t c => t.pmbSend k c 0

/-- R82. The poll interval expires: transfers to the configured rails begin. -/
def execPmbPoll (s : State) : Host.Outcome State Fault Refusal :=
  if s.devUp && s.on .pmb HDR.PG_CTRL_EN then
    let new := (List.range 16).filter fun k =>
      s.on .pmb PMB.RAIL_CFG_VALID k && !(s.power.pmb.any fun e => e.1 == k)
    let s := s.modPower fun p => { p with pmb := p.pmb ++ new.map fun k => (k, 0) }
    .next (s.each new State.pmbAsk)
  else .next s

/-- STATUS_WORD reports a fault: any bit but BUSY, OFF and POWER_GOOD# (log entry 59). -/
def statusFault (w : Nat) : Bool := w &&& 0xF73F != 0

/-- A rail is given up or reports a fault: RAIL_FAULT, fatal for a critical rail; its faults are cleared. -/
def State.railFault (s : State) (k : Nat) : State :=
  let s := (s.errOpen .pmb 0x22).pmbSend k .clearFaults 0
  if s.on .pmb PMB.RAIL_CFG_CRIT k then s.fatal 4 k else s

/-- The transfer of a rail leaves the list. -/
def State.pmbGone (s : State) (k : Nat) : State := s.modPower fun p => { p with pmb := p.pmb.filter fun e => e.1 != k }

/-- A transfer failed: it is tried again, or given up after the third failure. -/
def State.pmbFail (s : State) (k n nn : Nat) : State :=
  let s := (s.errOpen .pmb nn).pmbGone k
  if n < 2 then (s.modPower fun p => { p with pmb := p.pmb ++ [(k, n + 1)] }).pmbAsk k else s.railFault k

/-- R82. A PMBus transfer to a rail ends. -/
def execPmbTransferDone (rail : Fin 16) (res : PmbResult) (s : State) : Host.Outcome State Fault Refusal :=
  let k := rail.val
  match s.power.pmb.find? fun e => e.1 == k with
  | none => .next s
  | some (_, n) =>
    if s.devUp then
      match res with
      | .done status vout iout =>
        let s := (s.pmbGone k).wr .pmb PMB.RAIL_STAT status.toNat k
        let s := (s.wr .pmb PMB.RAIL_MEAS_VOUT vout.toNat k).wr .pmb PMB.RAIL_MEAS_IOUT iout.toNat k
        .next (if statusFault status.toNat && s.on .pmb PMB.RAIL_CFG_CRIT k then s.railFault k else s)
      | .nack => .next (s.pmbFail k n 0x20)
      | .pec => .next (if s.on .pmb PMB.CTRL_PEC then s.pmbFail k n 0x21 else s)
      | .badMode => .next ((s.errOpen .pmb 0x23).pmbGone k)
    else .next s

/-- R82. SMBALERT# is sensed asserted: the spec gives no effect beyond sensing it; the next poll reads the rail's status. -/
def execPmbAlert (s : State) : Host.Outcome State Fault Refusal := .next s

/-! ### Clocks (R29, R84) -/

/-- The lock bit of a PLL. -/
def Pll.lockRow : Pll → Row
  | .cclk => CLK.LOCK_CCLK | .fclk => CLK.LOCK_FCLK | .mclk => CLK.LOCK_MCLK | .tclk => CLK.LOCK_TCLK | .dclk => CLK.LOCK_DCLK

/-- R84. A PLL loses lock. Loss of FCLK or DCLK lock while printing sets the cluster lanes to FAULT; loss of DCLK aborts a
test (R362). -/
def execPllUnlock (pll : Pll) (s : State) : Host.Outcome State Fault Refusal :=
  if s.devUp && s.on .clk (Pll.lockRow pll) then
    let s := (s.wr .clk (Pll.lockRow pll) 0).raise .clk 8
    let s := if (pll == .fclk || pll == .dclk) && s.power.dev == .print then s.each allClus State.clusterFault else s
    .next (if pll == .dclk then s.testAbort 2 else s)
  else .next s

/-- A test runs on a cluster. -/
def State.cluTested (s : State) (c : Clu) : Bool :=
  match s.bist.run with
  | some r => (r.insts.flatMap (testClus r.target)).contains c
  | none => false

/-- R29. A cluster's DLL loses lock. -/
def execDllLockLoss (c : Clu) (s : State) : Host.Outcome State Fault Refusal :=
  if s.devUp && s.domUp c && s.on (.cpwr c) CPWR.STAT_DLL_LOCK then
    let s := (s.wr (.cpwr c) CPWR.STAT_DLL_LOCK 0).clusterFault c
    .next (s.when (s.cluTested c) fun t => t.testAbort 2)
  else .next s

/-- R166. No port has presented a request for AUTO_US in IDLE, and none waits. -/
def execAutoSrTimeout (s : State) : Host.Outcome State Fault Refusal :=
  if s.power.dev == .idle && s.ddrState == ddrActive && s.on .ddr DDR.SR_CTRL_AUTO_EN && s.ddr.queue.isEmpty &&
      s.ddr.window.isEmpty && decide (s.ddr.lastReq + 500 * s.rd .ddr DDR.SR_CTRL_AUTO_US ≤ s.dclk) then .next (s.setDdr ddrEntry)
  else .next s

end Sys2Proof.Machine
end

