-- ==== Sys2Proof/Machine/Cores.lean ====
section
/-! DEFINITION. The cores as the block shows them (R85, R97 to R99, R417): running and reset, watchdogs, the host mailbox and
the messages the shipped firmware answers. -/

namespace Sys2Proof.Machine

open Reg

/-! ### Timers (R87) -/

/-- `mtime` as every core reads it: the device time counter. -/
def State.mtime (s : State) : BitVec 64 := BitVec.ofNat 64 s.time

/-- The machine timer interrupt level of application core k: `mtime` has reached its `mtimecmp`. -/
def State.timerInt (s : State) (k : Fin 4) : Bool := decide (s.cores.mtimecmp[k].toNat ≤ s.mtime.toNat)

/-! ### Running (R97) -/

/-- RUNNING follows RUN, but for cores their watchdog has halted (log entry 36). -/
def State.hartSettle (s : State) : State :=
  let halt := s.rd .core CORE.HART_STAT_WDT_HALT
  s.wr .core CORE.HART_STAT_RUNNING
    ((List.range 4).foldl (fun a k => if (s.rd .core CORE.HART_CTRL_RUN).testBit k && !halt.testBit k then a + 2 ^ k else a) 0)

/-- A write of `HART_CTRL`: RST resets cores, RUN starts and stops them; only the safety core may write it (R97, R99). -/
def State.hartWrite (s : State) (req : Req) (data : Nat) : State :=
  if req ≠ .safe then s.errAt .core 0x2E 0x50 req.code
  else
    let rst := bits data 7 4
    let halt := s.rd .core CORE.HART_STAT_WDT_HALT
    let halt := (List.range 4).foldl (fun a k => if halt.testBit k && !rst.testBit k then a + 2 ^ k else a) 0
    ((s.wr .core CORE.HART_STAT_WDT_HALT halt).wr .core CORE.HART_CTRL_RUN (bits data 3 0)).hartSettle

/-- R97. A write of `HART_CTRL` that starts or stops application cores. -/
def execHartRun (req : Req) (data : Word) (s : State) : Host.Outcome State Fault Refusal :=
  .next <| s.gate req .core 0x50 fun s => s.hartWrite req data.toNat

/-- R97. A write of `HART_CTRL` that resets application cores. -/
def execHartReset (req : Req) (data : Word) (s : State) : Host.Outcome State Fault Refusal :=
  .next <| s.gate req .core 0x50 fun s => s.hartWrite req data.toNat

/-- Core k is reset and halted (R85, R99). -/
def State.hartHalt (s : State) (k : Nat) : State :=
  (s.wr .core CORE.HART_STAT_WDT_HALT (s.rd .core CORE.HART_STAT_WDT_HALT ||| 2 ^ k)).hartSettle

/-- R85. An uncorrectable error in a core's L1 cache or local memory resets that core: 0 to 3 the application cores, 4 the
power and safety core, which stops with no event and no fatal cause of its own; watchdog 4 then runs out (log entry 36). -/
def execCoreMemUe (core : Fin 5) (s : State) : Host.Outcome State Fault Refusal :=
  if s.devUp then
    .next (if core.val < 4 then s.hartHalt core.val else s.wr .core CORE.HART_STAT_SAFE_RUN 0)
  else .next s

/-! ### Watchdogs (R99) -/

/-- TIMEOUT of watchdog k in us. -/
def State.wdtTimeout (s : State) (k : Nat) : Nat :=
  if k = 4 then s.rd .core CORE.WDT4_TIMEOUT else s.rd .core CORE.WDT_TIMEOUT k

/-- The count of watchdog k restarts. -/
def State.wdtRestart (s : State) (k : Fin 5) : State :=
  { s with cores := { s.cores with kicked := s.cores.kicked.set k s.dclk, expired := s.cores.expired.set k false } }

/-- Watchdog k's count has run out and its expiry has not been taken. -/
def State.wdtDue (s : State) (k : Fin 5) : Bool :=
  s.on .core CORE.WDT_EN k.val && !s.cores.expired[k] && decide (s.cores.kicked[k] + 500 * s.wdtTimeout k.val ≤ s.dclk)

/-- The expiry of watchdog k: its event, and for watchdog 4 the fatal cause. -/
def State.wdtFire (s : State) (k : Fin 5) : State :=
  let s := { s with cores := { s.cores with expired := s.cores.expired.set k true } }.raise .core (8 + k.val)
  if k = 4 then s.fatal 2 0 else s

/-- A write of WDT_KICKk. A kick no earlier than the expiry leaves the expiry standing: one in its FCLK (3.3 ns) is too late,
and a later one starts the count anew. -/
def State.wdtKick (s : State) (req : Req) (k : Fin 5) (key : Nat) : State :=
  let off := 0x64 + 8 * k.val
  if k = 4 && req != .safe then s.errAt .core 0x2E off req.code
  else if key ≠ 0xA5 then s.errAt .core 0x2D off req.code
  else if s.wdtDue k then
    let late := decide (s.dclk < s.cores.kicked[k] + 500 * s.wdtTimeout k.val + 2)
    (s.wdtFire k).when (!late) fun t => t.wdtRestart k
  else s.wdtRestart k

/-- R99. A write of WDT_KICKk. -/
def execWdtKick (req : Req) (k : Fin 5) (key : BitVec 8) (s : State) : Host.Outcome State Fault Refusal :=
  .next <| s.gate req .core (0x64 + 8 * k.val) fun s => s.wdtKick req k key.toNat

/-- R99. The count of watchdog k expires. -/
def execWdtExpire (k : Fin 5) (s : State) : Host.Outcome State Fault Refusal :=
  if s.devUp && s.wdtDue k then .next (s.wdtFire k) else .next s

/-- R99. A further TIMEOUT / 4 without a kick: application core k is reset and halted; `mepc` is its program counter. -/
def execWdtHalt (k : Fin 4) (mepc : BitVec 64) (s : State) : Host.Outcome State Fault Refusal :=
  let n := k.castSucc
  let t := s.wdtTimeout k.val
  if s.devUp && s.on .core CORE.WDT_EN k.val && s.cores.expired[n] &&
      decide (s.cores.kicked[n] + 625 * t ≤ s.dclk) then
    .next ((s.hartHalt k.val).denHw 6 0x06 (k.val + 2 ^ 64 * mepc.toNat))
  else .next s

/-! ### The mailbox (R98) -/

/-- A requester on the host's side of the mailbox; JTAG counts as the host's (log entry 9). -/
def Req.hostSide (r : Req) : Bool :=
  match r with
  | .host => true
  | .jtag => true
  | _ => false

/-- LEN and FULL of a direction. -/
def mbxLen (h2c : Bool) : Row := if h2c then CORE.MBX_H2C_CTRL_LEN else CORE.MBX_C2H_CTRL_LEN
def mbxFull (h2c : Bool) : Row := if h2c then CORE.MBX_H2C_CTRL_FULL else CORE.MBX_C2H_CTRL_FULL
/-- The event of FULL's rise; its fall is the next one. -/
def mbxEvent (h2c : Bool) : Nat := if h2c then 13 else 15

/-- A message stands in a direction. -/
def State.mbxSend (s : State) (h2c : Bool) (len : Nat) : State :=
  ((s.wr .core (mbxLen h2c) len).wr .core (mbxFull h2c) 1).raise .core (mbxEvent h2c)

/-- A message has been received. -/
def State.mbxRelease (s : State) (h2c : Bool) : State := (s.wr .core (mbxFull h2c) 0).raise .core (mbxEvent h2c + 1)

/-- A write of a mailbox CTRL register. MBX_BUSY and BAD_VALUE record OFFSET and REQ, as the common codes do (log entry 68). -/
def State.mbxCtrlWrite (s : State) (req : Req) (h2c : Bool) (data : Nat) : State :=
  let full := s.on .core (mbxFull h2c)
  let off := if h2c then 0xA0 else 0xA4
  let len := bits data 8 0
  if Req.hostSide req == h2c then
    if full then s.errAt .core 0x2C off req.code
    else if !bit data 31 then s
    else if 256 < len then s.errAt .core Err.badValue off req.code
    else s.mbxSend h2c len
  else if full && !bit data 31 then s.mbxRelease h2c
  else s

/-- R98. A write of a mailbox CTRL register with FULL = 1. -/
def execMbxSend (req : Req) (h2c : Bool) (len : BitVec 9) (s : State) : Host.Outcome State Fault Refusal :=
  .next <| s.gate req .core (if h2c then 0xA0 else 0xA4) fun s => s.mbxCtrlWrite req h2c (len.toNat + 2 ^ 31)

/-- R98. A write of a mailbox CTRL register with FULL = 0. -/
def execMbxRelease (req : Req) (h2c : Bool) (s : State) : Host.Outcome State Fault Refusal :=
  .next <| s.gate req .core (if h2c then 0xA0 else 0xA4) fun s =>
    s.mbxCtrlWrite req h2c (s.rd .core (mbxLen h2c))

/-! ### The shipped firmware (R417) -/

/-- The firmware runs and a message waits for it, with room for a reply. -/
def State.fwReady (s : State) : Bool :=
  s.devUp && s.stage == 6 && (s.rd .core CORE.HART_STAT_RUNNING).testBit 0 && s.on .core CORE.MBX_H2C_CTRL_FULL &&
    !s.on .core CORE.MBX_C2H_CTRL_FULL

/-- TYPE of the message that waits. -/
def State.msgType (s : State) : Nat := bits (s.rd .core CORE.MBX_H2C 0) 15 0

/-- The firmware takes the message and replies: word 0 with the request's SEQ, STATUS, and the words that follow. -/
def State.fwReply (s : State) (status : Nat) (words : List Nat) : State :=
  let w0 := s.rd .core CORE.MBX_H2C 0
  let head := (bits w0 15 0 + 0x8000) % 65536 + 65536 * bits w0 31 16
  let l := head :: status :: words
  let s := (s.mbxRelease true).each (l.zip (List.range l.length)) fun t e => t.wr .core CORE.MBX_C2H e.1 e.2
  s.mbxSend false (4 * l.length)

/-- A message of a type the firmware does not know is answered with BAD_REQ. -/
def State.fwAnswer (s : State) (type : Nat) (act : State → State) : State :=
  if s.fwReady then
    let t := s.msgType
    if t = type then act s
    else if t = 0x0001 || t = 0x0020 || t = 0x0021 then s
    else s.fwReply 0x062E []
  else s

/-- R417. HELLO: firmware version, which the spec does not give (a free value), and BOOT_STAT. -/
def execHello (s : State) : Host.Outcome State Fault Refusal :=
  .next <| s.fwAnswer 0x0001 fun s => s.fwReply 0 [Config.firmwareVersion.toNat, s.bootStat]

/-- R417. PTP_START: PTP starts, or restarts with the servo re-armed. -/
def execPtpStart (s : State) : Host.Outcome State Fault Refusal :=
  .next <| s.fwAnswer 0x0020 fun s =>
    let w := s.rd .core CORE.MBX_H2C 1
    let set : PtpSet :=
      { port := bits w 0 0, profile := bits w 1 1, transport := bits w 3 2, domain := bits w 15 8
        mac := s.rd .core CORE.MBX_H2C 2 + s.rd .core CORE.MBX_H2C 3 % 65536 * 2 ^ 32 }
    let again := s.cores.ptp.isSome
    let s := { s with cores := { s.cores with ptp := some set } }
    let s := s.when again fun t => t.servoCtrl (t.on .tim TIM.SERVO_CTRL_EN) (t.rd .tim TIM.SERVO_CTRL_EN + 2)
    s.fwReply 0 []

/-- R417. PTP_STATE: the servo state and the last offset, signed, in two words. -/
def execPtpState (s : State) : Host.Outcome State Fault Refusal :=
  .next <| s.fwAnswer 0x0021 fun s =>
    let o := unsigned 64 (s.rdS .tim TIM.LAST_OFS)
    s.fwReply 0 [s.servo, o % 2 ^ 32, o / 2 ^ 32]

end Sys2Proof.Machine
end

