-- ==== Sys2Proof/Machine/Flags.lean ====
section
/-! DEFINITION. What the block computes from its state and shows: lane readiness (R22, R23), PRN_RDY (R13), and the value a
register read returns (R33 to R38). -/

namespace Sys2Proof.Machine

open Reg

/-! ### PRN_RDY (R13) -/

/-- Every lane of the active plane map is IDLE, ARMED or FIRING. -/
def State.mapAvail (s : State) : Bool := allLanes.all fun l => !s.on .pln PLN.LMAP_EN l.val || s.avail l

/-- `SPL.STAT.HOLD`: a lane is held for the spoil ring (R269). -/
def State.spoilHold (s : State) : Bool :=
  allLanes.any fun l => s.lanes[l].st == .hold && s.rd (.seq l) SEQ.STAT_HOLD_WHY == 3

/-- The condition of R13. -/
def State.prnRdy (s : State) : Bool :=
  s.on .gio GIO.CTRL && (s.power.dev == .ready || s.power.dev == .print) && !s.shadow && s.mapAvail && !s.spoilHold

/-- PRN_RDY follows its condition; a fall is counted (R13, R15). -/
def State.settlePrn (s : State) : State :=
  let was := s.on .gio GIO.STAT_PRN_RDY
  let now := s.prnRdy
  if now == was then s
  else
    let s := s.flag .gio GIO.STAT_PRN_RDY now
    if now then s.raise .gio 8 else (s.bump .gio GIO.RDY_CNT).raise .gio 9

/-! ### Lane readiness (R22) -/

/-- A field of `SYS.LANE_RDY[l]`; an absent lane's word reads 0. -/
def State.laneRdy (s : State) (l : Lane) (r : Row) : Nat :=
  if !s.cluPresent (Lane.clu l) then 0
  else if r == SYS.LANE_RDY_LINK_UP then (s.linkUp l).toNat
  else if r == SYS.LANE_RDY_TEMP_VALID then (s.tempValid l).toNat
  else if r == SYS.LANE_RDY_MAP_VALID then (s.mapValid l).toNat
  else if r == SYS.LANE_RDY_DLL_LOCK then (s.dllLock l).toNat
  else if r == SYS.LANE_RDY_HV_GOOD then (s.hvGood l).toNat
  else if r == SYS.LANE_RDY_AVAIL then (s.avail l).toNat
  else if r == SYS.LANE_RDY_ARMABLE then (s.armable l).toNat
  else if r == SYS.LANE_RDY_STATE then s.lanes[l].st.code
  else 1

/-- ARMABLE of 32 lanes from lane n on (R23). -/
def State.armableWord (s : State) (n : Nat) : Nat :=
  ofBits ((allLanes.drop n).take 32 |>.map fun l => s.cluPresent (Lane.clu l) && s.armable l)

/-! ### The header (R34 to R37, R39) -/

/-- The pages with live calibration registers (R374). -/
def hasCal (p : Page) : Bool :=
  match p with
  | .seq _ => true | .vnl _ => true | .ccal _ => true | .ddrs _ => true
  | _ => false

/-- `PG_STAT.STATE`: R12 in a lane page, the device state in PWR and SYS, 0 in GIO, otherwise what the block keeps. -/
def State.pageState (s : State) (p : Page) : Nat :=
  match p.lane with
  | some l => s.lanes[l].st.code
  | none =>
    match p with
    | .pwr => s.power.dev.code
    | .sys => s.power.dev.code
    | _ => s.rd p HDR.PG_STAT_STATE

/-- `PG_CTRL.EN` as the page shows it: fixed at 1 in the pages of R36, and that of DDR in a DDRS page. -/
def State.enShown (s : State) (p : Page) : Bool :=
  if fixedEn p then true else if isDdrs p then s.on .ddr HDR.PG_CTRL_EN else s.on p HDR.PG_CTRL_EN

/-- A header field. -/
def State.header (s : State) (p : Page) (r : Row) : Nat :=
  if r == HDR.PG_ID_LEVEL then p.level
  else if r == HDR.PG_ID_INSTANCE then p.inst
  else if r == HDR.PG_ID_TYPE then 0xA900 + p.tt
  else if r == HDR.PG_VER_MAJOR then 1
  else if r == HDR.PG_CAP_HAS_CAL then (hasCal p).toNat
  else if r == HDR.PG_CAP_HAS_RWS then (!(pageStaged p).isEmpty).toNat
  else if r == HDR.PG_CTRL_EN then (s.enShown p).toNat
  else if r == HDR.PG_STAT_STATE then s.pageState p
  else if r == HDR.PG_STAT_BUSY then
    (s.on p r || s.on p HDR.PG_STAT_STALE || (p == .bst && s.rd p HDR.PG_STAT_STATE != 0) ||
      (p == .cal && !s.cal.runs.isEmpty)).toNat
  else if r == HDR.PG_STAT_RUN then (s.run p).toNat
  else if r == HDR.PG_STAT_FAULT then
    match p.lane with
    | some l => (s.lanes[l].st == .fault).toNat
    | none => s.rd p r
  else if r == HDR.PG_EVT_PEND then s.evtPend p
  else s.rd p r

/-! ### Block fields that show other state -/

/-- `INT.RING_STAT` (R107). -/
def State.ringShown (s : State) (r : Nat) : Nat :=
  let q := s.ring r
  let st := s.ringState r
  if st = 0 ∨ st = 6 then st
  else if r = 9 then if s.rd .int INT.RING_HEAD 9 = s.rd .int INT.RING_DB 9 then 1 else 2
  else if s.cqBlocked r then 5
  else if q.waited then 3
  else if q.checked && (match q.entry with
      | some e => s.creditLacks r e
      | none => false) then 4
  else if q.checked then 2
  else if s.rd .int INT.RING_HEAD r = s.rd .int INT.RING_DB r then 1 else 2

/-- Items with a bit in a mask of items 1 to 7, as `OVD` and `SUSP` show them. -/
def State.itemMask (f : Nat → Bool) : Nat := ofBits ((List.range 7).map fun i => f (i + 1))

/-- The pages that hold an item's blocks, one for each instance (R373). -/
def itemPages (item : Nat) : List Page :=
  if item = 1 then allLanes.map .seq
  else if item = 6 then allClus.map .ccal
  else if item = 7 then (List.finRange 4).map .ddrs
  else allLanes.map .vnl

/-- `SEAM.STAT.ACTIVE`: a plane of an active page in error diffusion has lanes in the cluster (R227). -/
def State.seamActive (s : State) (c : Clu) : Bool :=
  s.intake.pages.any fun q => q.phase == .active && q.lanes.any fun n =>
    (Clu.lanes c).any fun l => l.val == n &&
      (let p := s.rd .pln PLN.LMAP_PLANE n
       !q.desc.pre p && s.rd (.scr c) SCR.PL_CFG_MODE p == 1)

/-- A block field: what the state says where the field shows state kept elsewhere, the stored value otherwise. -/
def State.field (s : State) (p : Page) (r : Row) (i : Nat) : Nat :=
  match p with
  | .sys =>
    if r == SYS.ARMABLE_LO then s.armableWord 0
    else if r == SYS.ARMABLE_HI then s.armableWord 32
    else if 0x100 ≤ r.off then
      match laneAt allLanes i with
      | some l => s.laneRdy l r
      | none => 0
    else s.rd p r i
  | .evt =>
    if r == EVT.SUM then ofBits ((List.range 32).map fun j => s.source (32 * i + j))
    else if r == EVT.VEC_PEND then s.vecPend / 2 ^ (32 * i) % 2 ^ 32
    else s.rd p r i
  | .clu c =>
    if r == CLU.EVT_SUM_PAGE then s.cluSumPage c else if r == CLU.EVT_SUM_LANE then s.cluSumLane c else s.rd p r i
  | .gio =>
    if r == GIO.STAT_FAULT_N then (s.power.dev != .fault).toNat
    else if r == GIO.STAT_SLOWREQ then s.rd .pace PACE.STAT_SLOWREQ
    else if r == GIO.STAT_ROLE_I then s.rd .pair PAIR.STAT_ROLE_I
    else if r == GIO.STAT_ROLE_O then s.rd .pair PAIR.STAT_ROLE_O
    else if r == GIO.STAT_PFAULT_I then s.rd .pair PAIR.STAT_PFAULT_I
    else if r == GIO.STAT_PFAULT_O then s.rd .pair PAIR.STAT_PFAULT_O
    else s.rd p r i
  | .pwr => if r == PWR.CLU_RDY then ofBits (allClus.map s.cluReady) else s.rd p r i
  | .aon =>
    if r == AON.SPIT_NEXT then
      if s.on .aon AON.SPIT_CTRL_EN then s.rd .aon AON.SPIT_INT_INTERVAL - s.power.dry else 0
    else s.rd p r i
  | .core =>
    if r == CORE.PUSH_ROOM then 4096 - s.cores.push.length
    else if r == CORE.BOOT_STAT_SECURE then s.rd .fuse FUSE.SEC_SECURE
    else s.rd p r i
  | .int =>
    if r == INT.RING_STAT then s.ringShown i
    else s.rd p r i
  | .pln =>
    if r == PLN.MAP_STAT_PLANES then ofBits ((List.range 8).map fun q => !(s.planeLanes q).isEmpty)
    else if r == PLN.MAP_STAT_LANES then (allLanes.filter fun l => s.on .pln PLN.LMAP_EN l.val).length
    else if r == PLN.PLANE_PSTAT_W_P then s.planeWidth i
    else if r == PLN.PLANE_PSTAT_NLANES then (s.planeLanes i).length
    else s.rd p r i
  | .lne l => if r == LNE.STAT_INBUF then s.lanes[l].inbuf.length else s.rd p r i
  | .seq l => if r == SEQ.STAT_FIFO then s.lanes[l].fifo.length else s.rd p r i
  | .spl =>
    if r == SPL.STAT_FREE then s.spoilFree else if r == SPL.STAT_HOLD then s.spoilHold.toNat else s.rd p r i
  | .den => if r == DEN.STAT_QUEUE then s.den.queue.length else s.rd p r i
  | .bst =>
    if r == BST.STAT_ENV_OK then s.envOk.toNat
    else if r == BST.FUSE_FREE then s.freeFuses.length
    else s.rd p r i
  | .cal =>
    if r == CAL.STAT then min 127 s.cal.runs.length
    else if r == CAL.OVD then State.itemMask fun k => s.cal.late.any fun e => e.1 == k
    else if r == CAL.SUSP then State.itemMask fun k => (itemPages k).any fun q => s.on q (ITEM.VAL_SUSP k)
    else s.rd p r i
  | .pci => if r == PCI.MSIX_PBA then s.settleMsix.rd .pci r i else s.rd p r i
  | .ax a => if r == AX.STAT_ASLEEP then (s.asleep a).toNat else s.rd p r i
  | .seam c => if r == SEAM.STAT_ACTIVE then (s.seamActive c).toNat else s.rd p r i
  | .tim => if r == TIM.CAP_VALID then ofBits ((List.range 16).map fun k => s.on .tim TIM.CAP_STAT k) else s.rd p r i
  | _ => s.rd p r i

/-! ### Reads -/

/-- What a read shows of a field: 0 for a WO field, the staged copy of an RWS field (R38). -/
def State.shown (s : State) (p : Page) (e : Row × Nat) : Nat :=
  match e.1.acc with
  | .wo => 0
  | .rws => s.rdStaged p e.1 e.2
  | _ => if e.1.off < 0x40 then s.header p e.1 else s.field p e.1 e.2

/-- The value of the register at an offset: a word, or a pair at its low word; an offset with no field reads 0 (R33). A key
hash of FUSE spans eight words. -/
def State.readReg (s : State) (p : Page) (off : Nat) : Nat :=
  if p == .fuse && decide (0x80 ≤ off ∧ off < 0x100) then
    s.rd .fuse FUSE.KEY_HASH ((off - 0x80) / 32) / 2 ^ (off % 32 * 8) % 2 ^ 32
  else (fieldsAt p off).foldl (fun a e => a + s.shown p e % 2 ^ e.1.width * 2 ^ e.1.lo) 0

/-- The offset is the high word of a pair (R50). -/
def isHigh (p : Page) (off : Nat) : Bool := decide (4 ≤ off) && isPair p (off - 4)

end Sys2Proof.Machine
end

