-- ==== Sys2Proof/Machine/Staged.lean ====
section
/-! DEFINITION. `PG_CTRL`: INIT (R35), EN (R36), LOCK (R38) and commits (R40 to R42), with the checks each page makes of
its staged set (R183, R184, R221, R226, R237, R258, R271, R80, R289). -/

namespace Sys2Proof.Machine

open Reg

/-- A write of a word is refused with a code: a common code names the register and the requester, a block code of no
stated layout has a free `PG_ERR_INFO` (log entry 11). -/
def State.wordRefuse (s : State) (req : Req) (p : Page) (off nn : Nat) : State :=
  if nn < 0x20 then s.errAt p nn off req.code else s.errOpen p nn

/-! ### Checks of a staged set -/

/-- Staged lanes of a plane in bar order. -/
def State.stagedPlane (s : State) (p : Nat) : List Lane :=
  let ls := allLanes.filter fun l => s.rdStaged .pln PLN.LMAP_EN l.val == 1 && s.rdStaged .pln PLN.LMAP_PLANE l.val == p
  sortOn (fun l => s.rdStaged .pln PLN.LMAP_POS l.val) ls

/-- Lanes whose OVL is not less than the count of a lane it joins (REASON 3 of R184). -/
def State.ovlBad (s : State) : List Lane → List Lane
  | a :: b :: r =>
    let ovl := s.rdStaged .pln PLN.LMAP_OVL a.val
    let short (l : Lane) : Bool := s.laneN l != 0 && decide (s.laneN l ≤ ovl)
    if short a || short b then a :: State.ovlBad s (b :: r) else State.ovlBad s (b :: r)
  | _ => []

/-- REASON and number of R184, the lowest first. -/
def State.plnBad (s : State) : Option Nat :=
  let en := allLanes.filter fun l => s.rdStaged .pln PLN.LMAP_EN l.val == 1
  let order (p : Nat) : Bool :=
    let ls := s.stagedPlane p
    ls.map (fun l => s.rdStaged .pln PLN.LMAP_POS l.val) == List.range ls.length
  match (List.range 8).find? fun p => !order p with
  | some p => some (1 + 256 * p)
  | none =>
    match en.find? fun l => !s.cluPresent (Lane.clu l) with
    | some l => some (2 + 256 * l.val)
    | none =>
      let wide := allLanes.filter fun l => decide (128 < s.rdStaged .pln PLN.LMAP_OVL l.val)
      let ovl := wide ++ (List.range 8).flatMap fun p => s.ovlBad (s.stagedPlane p)
      match allLanes.find? fun l => ovl.contains l with
      | some l => some (3 + 256 * l.val)
      | none =>
        if 5120 < ((List.range 8).map fun p => s.rdStaged .pln PLN.PLANE_MODE_BAND_KIB p).sum then some 4
        else
          match en.find? fun l => s.laneN l == 0 with
          | some l => some (5 + 256 * l.val)
          | none => none

/-- A number sequence is strictly increasing. -/
def rising : List Nat → Bool
  | a :: b :: r => decide (a < b) && rising (b :: r)
  | _ => true

/-- The first plane whose staged screening breaks R226. -/
def State.scrBad (s : State) (c : Clu) : Option Nat :=
  let q (r : Row) (p : Nat) : Nat := s.rdStaged (.scr c) r p
  (List.range 8).find? fun p =>
    let w := q SCR.PL_CFG_LOG2W p
    let h := q SCR.PL_CFG_LOG2H p
    let k := q SCR.PL_KERN p
    decide (w < 4 ∨ 8 < w ∨ h < 4 ∨ 8 < h) || decide (61440 < q SCR.PL_BASE p + 2 ^ w * 2 ^ h) ||
      k % 16 + k / 16 % 16 + k / 256 % 16 + k / 4096 % 16 + k / 65536 % 16 != 16 ||
      !rising [q SCR.PL_Q12_Q1 p, q SCR.PL_Q12_Q2 p, q SCR.PL_Q34_Q3 p, q SCR.PL_Q34_Q4 p, q SCR.PL_Q56_Q5 p,
        q SCR.PL_Q56_Q6 p, q SCR.PL_Q7 p]

/-- The conditions of R271. -/
def State.seqBad (s : State) (l : Lane) : Bool :=
  let q (r : Row) : Nat := s.rdStaged (.seq l) r
  decide (q SEQ.GUARD_E_WE < q SEQ.GUARD_E_NE) || q SEQ.GUARD_EH == 0 ||
    decide (signed 12 (q SEQ.TEMP_LIM_T_HARD) < signed 12 (q SEQ.TEMP_LIM_T_SOFT)) ||
    decide (signed 12 (q SEQ.TEMP_LIM_T_HARD) ≤ signed 12 (q SEQ.TEMP_RES_T_RESUME))

/-- The first set, level and REASON of R258 that a staged waveform breaks: overlap, then energy. -/
def State.wavBad (s : State) (l : Lane) : Option Nat :=
  let get r i := s.rdStaged (.wav l) r i
  let ke := s.rdStaged (.wav l) WAV.EMODEL
  setLevels.findSome? fun e =>
    let ps := pulses get e.1 e.2
    if !pulsesOrdered 0 ps then some (e.1 + 16 * e.2 + 256)
    else if 4095 < pulseEnergy ke ps then some (e.1 + 16 * e.2 + 512) else none

/-- TB1 to TB7 as staged. -/
def State.stagedBands (s : State) (l : Lane) : List Nat :=
  [WAV.TB1, WAV.TB2, WAV.TB3, WAV.TB4, WAV.TB5, WAV.TB6, WAV.TB7].map fun r => s.rdStaged (.wav l) r

/-- Signed values rise strictly. -/
def risingS : List Int → Bool
  | a :: b :: r => decide (a < b) && risingS (b :: r)
  | _ => true

/-- A commit of a page is refused for its staged set: the state with the error recorded (R40 step 2). The bits SET and
LEVEL of a threshold refusal are free (log entry 11). -/
def State.commitBad (s : State) (req : Req) (p : Page) (at_ : Nat) : Option State :=
  match p with
  | .pln =>
    if s.run .pln && at_ != 4 then some (s.errAt p Err.commitInvalid 0xC req.code)
    else s.plnBad.map fun info => s.err p Err.commitInvalid info
  | .scr c => (s.scrBad c).map fun k => s.err p Err.commitInvalid k
  | .seq l => if s.seqBad l then some (s.errAt p Err.commitInvalid 0xC req.code) else none
  | .wav l =>
    if !s.on p WAV.BANK_LOADED then some (s.errOpen p 0x21)
    else
      match s.wavBad l with
      | some info => some (s.err p Err.commitInvalid info)
      | none =>
        if risingS ((s.stagedBands l).map (signed 12)) then none
        else
          let (n, t) := s.draw
          some (t.err p Err.commitInvalid ((Config.freeWord n).toNat % 128 + 768))
  | .cpwr c =>
    let op := s.rdStaged p CPWR.CTRL_OP
    if op == s.rd p CPWR.CTRL_OP then none
    else if !s.opKeeps c op then some (s.errOpen p 0x22)
    else if s.pageNames c then some (s.errOpen p 0x23) else none
  | .ax a =>
    match s.axCommitBad a with
    | some nn => some (s.wordRefuse req p 0xC nn)
    | none => if at_ != 0 then some (s.errAt p Err.commitInvalid 0xC req.code) else none
  | _ => none

/-- SYNC_WL as staged, and the page's SYNC_LATE code, for the pages of R221. -/
def State.syncOf (s : State) (p : Page) : Option (Bool × Nat × Nat) :=
  match p with
  | .lne _ => some (s.rdStaged p LNE.SYNC_WL_EN == 1, s.rdStaged p LNE.SYNC_WL_WL, 0x22)
  | .scr _ => some (s.rdStaged p SCR.SYNC_WL_EN == 1, s.rdStaged p SCR.SYNC_WL_WL, 0x25)
  | .seq _ => some (s.rdStaged p SEQ.SYNC_WL_EN == 1, s.rdStaged p SEQ.SYNC_WL_WL, 0x24)
  | .wav _ => some (s.rdStaged p WAV.SYNC_WL_EN == 1, s.rdStaged p WAV.SYNC_WL_WL, 0x20)
  | _ => none

/-- A commit with VALID = 0 at band while RUN is refused (R237). -/
def State.mapDrops (s : State) (p : Page) : Bool :=
  match p with
  | .lne _ => s.rdStaged p LNE.MAP_CTRL_VALID == 0
  | _ => false

/-- The boundary rule of R221 and R237. -/
def State.boundaryBad (s : State) (p : Page) (at_ : Nat) : Option Nat :=
  if !s.run p then none
  else
    match s.syncOf p with
    | none => none
    | some (en, wl, late) =>
      if at_ = 3 ∨ at_ = 4 then none
      else if at_ = 2 then
        if !en || s.mapDrops p then some Err.commitInvalid
        else if wl ≤ s.rd .pace PACE.WL then some late else none
      else some Err.commitInvalid

/-- A commit of an axis waits for its next profile update (R289). -/
def isAx (p : Page) : Bool :=
  match p with
  | .ax _ => true
  | _ => false

/-- The Last evaluates the nozzle counts as it checks a PLN commit (R179). -/
def State.countsChecked (s : State) : State := { s with intake := { s.intake with checked := s.liveCounts } }

/-- Step 2 of R40: a commit request. -/
def State.commitReq (s : State) (req : Req) (p : Page) (at_ : Nat) : State :=
  if s.pend p then s.errAt p Err.commitBusy 0xC req.code
  else if 5 ≤ at_ then s.errAt p Err.commitAtBad 0xC req.code
  else
    match s.commitBad req p at_ with
    | some t => t
    | none =>
      match s.boundaryBad p at_ with
      | some nn => s.wordRefuse req p 0xC nn
      | none =>
        let s := s.when (p == .pln) State.countsChecked
        if isAx p || (s.run p && at_ != 0) then s.commitPend p at_ else s.commitPage p

/-- CANCEL: a pending commit is withdrawn and the staged values are kept (R42). -/
def State.cancelPend (s : State) (p : Page) : State :=
  if s.pend p then
    let s := s.clearPend p
    match p with
    | .lne l => (s.modLane l fun (h : LaneHw) => { h with mapSnap := none }).awlRelease p
    | _ => s
  else s

/-! ### INIT (R35) -/

/-- The fields that report a condition of the block rather than hold a value: INIT leaves them reporting it (log entry
37). -/
def liveRows (p : Page) : List Row :=
  match p with
  | .sys => SYS.rows
  | .pwr => [PWR.TJ]
  | .aon => [AON.RTC_SUB, AON.RTC_SEC, AON.RTC_CTRL_X32_RUN, AON.CMP_CTRL_OUT]
  | .clk => [CLK.LOCK, CLK.DCLK_CL, CLK.LOCK_CCLK, CLK.LOCK_FCLK, CLK.LOCK_MCLK, CLK.LOCK_TCLK, CLK.LOCK_DCLK]
  | .core =>
    [CORE.BOOT_STAT_STAGE, CORE.BOOT_STAT_SRC, CORE.BOOT_STAT_WARM, CORE.BOOT_STAT_KEY_SLOT, CORE.BOOT_STAT_SVN,
      CORE.HART_STAT_RUNNING, CORE.HART_STAT_WDT_HALT, CORE.HART_STAT_SAFE_RUN]
  | .fuse => FUSE.rows
  | .pci => [PCI.LINK_SPEED, PCI.LINK_WIDTH, PCI.LINK_REVERSED, PCI.LINK_UP, PCI.MSIX_PBA]
  | .int => [INT.OPEN]
  | .cdc =>
    [CDC.PRESET_VALID, CDC.DEC_BUSY, CDC.ENC_OWNER, CDC.JS_STAT_STATE, CDC.JS_STAT_NO_GAIN, CDC.JS_STAT_ENC,
      CDC.JS_STAT_RESULT]
  | .ddr => [DDR.CFG_RATE, DDR.CFG_DENSITY, DDR.CFG_RANK2, DDR.CFG_SIZE_GIB, DDR.STAT_PANIC, DDR.STAT_HOT, DDR.REF_CTRL_MAX_POSTPONE_ACT]
  | .ddrs _ =>
    [DDRS.TRAIN_DONE, DDRS.TRAIN_PASS, DDRS.TEMP_RANGE, DDRS.TEMP_MR4, DDRS.OWED_RANK0, DDRS.OWED_RANK1, ITEM.VAL_VALUE 7]
  | .lst => [LST.NEXT, LST.CUR, LST.CUR_COPY, LST.FSAFE_NEXT, LST.FSAFE_CUR, LST.TAGS_USED]
  | .pace =>
    [PACE.STAT_STOPPED, PACE.STAT_SLOWREQ, PACE.STAT_SRC_RATE, PACE.STAT_SRC_SOFT, PACE.STAT_SRC_FSAFE,
      PACE.STAT_REVERSE, PACE.WL, PACE.ENC_POS]
  | .ax _ =>
    [AX.STAT_PROF, AX.STAT_LOST, AX.STAT_ASLEEP, AX.STAT_LIMN, AX.STAT_LIMP, AX.STAT_HOME, AX.STAT_DRVFLT,
      AX.STAT_AT_TARGET, AX.STAT_DIR, AX.STAT_HELD, AX.POS, AX.VEL]
  | .tim => [TIM.TIME, TIM.INC, TIM.SERVO_STAT_TAG, TIM.SERVO_STAT_RUN]
  | .pair =>
    [PAIR.STAT_LINK, PAIR.STAT_LOCK, PAIR.STAT_POL_INV, PAIR.STAT_REVERSED, PAIR.STAT_SYNC, PAIR.STAT_ROLE_I,
      PAIR.STAT_PFAULT_I, PAIR.STAT_ROLE_O, PAIR.STAT_PFAULT_O, PAIR.STAT_P_ROLE, PAIR.STAT_P_FAULT,
      PAIR.EPOCH_EPOCH, PAIR.EPOCH_P_EPOCH, PAIR.HB_AGE, PAIR.LONG]
  | .bst => [BST.STAT_FSRC_OK, BST.VCORE]
  | .den => [DEN.STAT_PIN_USED, DEN.STAT_PIN_FULL, DEN.HEAD, DEN.NEXT_SEQ, DEN.OLDEST_SLOT, DEN.OLDEST_COUNT]
  | .gio => (GIO.rows.drop 1).filter fun r => r != GIO.RDY_CNT
  | .seam _ => [SEAM.STAT_LAT, SEAM.STAT_ACTIVE]
  | .ccal _ => [ITEM.VAL_VALUE 6]
  | .cpwr _ => [CPWR.STAT_DOM_UP, CPWR.STAT_HVEN, CPWR.STAT_HVPG, CPWR.STAT_DLL_LOCK, CPWR.STAT_OP_ACT]
  | .lne _ => [LNE.STAT_DIR, LNE.STAT_TAINT, LNE.AWL_STAT_STATE]
  | .seq _ => [SEQ.STAT_BAND, SEQ.STAT_HOLD_WHY, SEQ.TEMP_READING, SEQ.TEMP_VALID, ITEM.VAL_VALUE 1, ITEM.HV_MEAS]
  | .wav _ => [WAV.BANK_ACTIVE, WAV.BANK_LOADED]
  | .vnl _ =>
    (VNL.rows.filter fun r => decide (0x54 ≤ r.off ∧ r.off < 0x70)) ++ [VNL.LINK_TIME] ++
      [2, 3, 4, 5].flatMap fun k => [ITEM.VAL_VALUE k]
  | _ => []

/-- What a page's block derives from its registers is derived again. -/
def State.initHook (s : State) (p : Page) : State :=
  match p with
  | .int =>
    { s with intake := { s.intake with rings := Vector.replicate 9 {}, phase9 := true, reserveSeen := false } }.settleCredit
  | .pln => s.commitHook .pln
  | .pace =>
    let s := { s with pace := { s.pace with
        acc := 0, ticks := 0, last := none, gap := none, short := false, fresh := true
        interval := none, tickAt := s.dclk, intAt := s.dclk } }
    (((s.settleReverse).setPage .pace 0).settlePerm).settleSlow
  | .ax a => s.commitHook (.ax a)
  | .wav l =>
    let s := (s.waveFigures l).settleTmin l
    if s.shadow then s
    else
      let s := s.wr p WAV.BANK_LOADED 0
      (s.loadBank l 0 fun r i => s.rd p r i).loadBank l 1 fun r i => s.rd p r i
  | .vnl l => s.settleTmin l
  | .lne l => s.each (s.withNeighbours l) State.partnerRefresh
  | .tim => (s.setFreq 0).setPage .tim 0
  | .core => s.hartSettle
  | .pair => s.settleRole false
  | _ => s

/-- R35. INIT: the block registers return to their reset values, and a pending commit is withdrawn, which lets a held scan
result be written (R232). INIT of CORE by any requester returns WDT_CTRL4.EN and HART_CTRL.RUN as well (log entry 86). -/
def State.pageInit (s : State) (p : Page) : State :=
  let keep := (liveRows p).flatMap fun r => (List.range r.count).map fun i => (r, i, s.rd p r i)
  let lo := p.base * 8 + 0x200
  let hi := 0x8000 + p.base * 8
  let s := { s with regs := Regs.clear s.regs lo hi, staged := Regs.clear s.staged lo hi }
  let s := s.each keep fun t e => t.wr p e.1 e.2.2 e.2.1
  let s := if s.pend p then s.clearPend p else s
  let s := match p with
    | .lne l => s.modLane l fun (h : LaneHw) => { h with mapSnap := none }
    | _ => s
  (s.initHook p).awlRelease p

/-! ### EN -/

/-- EN of a page has changed: an axis comes into or out of service (R297), a lane's link starts or stops (R264), a spoil
ring that comes up takes the overflow record (R269), and an Ethernet port negotiates or goes down (R333; log entry 80). -/
def State.enHook (s : State) (p : Page) (en : Bool) : State :=
  match p with
  | .ax a =>
    if en then s.setAx a (if s.shadow then axObserving else axIdle)
    else (s.modAxis a fun (h : AxisHw) => { h with vel := 0, acc := 0, move := none, homing := .none }).setAx a axDisabled
  | .vnl l => if en then s.laneOn l else s.laneOff l
  | .spl => if en then s.overflowOut else s
  | .eth _ =>
    if !en then (s.when (s.rd p HDR.PG_STAT_STATE == 2) fun t => t.raise p 9).setPage p 0
    else if s.on p ETH.CFG_SPEED && s.on p ETH.CFG_AN_EN then s.setPage p 1 else s
  | _ => s

/-- A write of `PG_CTRL` as a whole word (R35, R38 to R42). Its parts act in the order INIT, EN, LOCK and COMMIT_AT, CANCEL,
COMMIT; the spec orders CANCEL and COMMIT alone (log entry 53). -/
def State.ctrlWrite (s : State) (req : Req) (p : Page) (data : Nat) : State :=
  let en := bit data 0
  let moves := !(fixedEn p || isDdrs p) && en != s.on p HDR.PG_CTRL_EN
  let locks := bit data 2 && !s.on p HDR.PG_CTRL_LOCK
  if s.run p && (bit data 1 || moves || locks) then s.errAt p Err.rejectRun 0xC req.code
  else if s.pend p && bit data 8 && !bit data 12 then s.errAt p Err.commitBusy 0xC req.code
  else if p == .ddr && moves && !en && s.ddrState == ddrActive then s.errAt p Err.badValue 0xC req.code
  else
    let s := s.when (bit data 1) fun t => t.pageInit p
    let s := s.when moves fun t => (t.flag p HDR.PG_CTRL_EN en).enHook p en
    let s := (s.when locks fun t => t.wr p HDR.PG_CTRL_LOCK 1).wr p HDR.PG_CTRL_COMMIT_AT (bits data 11 9)
    let s := s.when (bit data 12) fun t => t.cancelPend p
    s.when (bit data 8) fun t => t.commitReq req p (bits data 11 9)

/-- R35. INIT returns the block registers and staged copies to reset values and withdraws any pending commit. -/
def execPgInit (req : Req) (p : Page) (data : Word) (s : State) : Host.Outcome State Fault Refusal :=
  .next <| s.gate req p 0xC fun s => s.ctrlWrite req p (data ||| 2).toNat

/-- R35, R38. LOCK makes the page's RWL registers read-only until device reset. -/
def execPgLock (req : Req) (p : Page) (data : Word) (s : State) : Host.Outcome State Fault Refusal :=
  .next <| s.gate req p 0xC fun s => s.ctrlWrite req p (data ||| 4).toNat

/-- R40. A commit request checks the staged set and becomes pending, or takes effect on arrival while RUN is 0. -/
def execCommit (req : Req) (p : Page) (data : Word) (s : State) : Host.Outcome State Fault Refusal :=
  .next <| s.gate req p 0xC fun s => s.ctrlWrite req p (data ||| 0x100).toNat

/-- R42. CANCEL withdraws a pending commit and keeps the staged values. -/
def execCancel (req : Req) (p : Page) (data : Word) (s : State) : Host.Outcome State Fault Refusal :=
  .next <| s.gate req p 0xC fun s => s.ctrlWrite req p (data ||| 0x1000).toNat

/-- R40, R41. The boundary a page's commit waits for is here: an axis takes its set at its profile update, every other page
copies its staged set in a page gap. The boundaries line, band and page are taken by the commands at which they fall (the line
tick, the start of a line in the engine, the dealing of a line): at any other moment they are not here (log entry 54). -/
def execCommitDone (p : Page) (s : State) : Host.Outcome State Fault Refusal :=
  let ripe := s.commits.any fun e => e.1 == p && decide (e.2 + 2 ≤ s.dclk)
  if s.devUp && s.pend p && ripe then
    match p with
    | .ax a => .next (s.axTake a)
    | _ => .next (s.when (s.rd p HDR.PG_STAT_PEND_AT == 4 && s.inGap p) fun t => t.commitPage p)
  else .next s

end Sys2Proof.Machine
end

