-- ==== Sys2Proof/Machine/RegWrite.lean ====
section
/-! DEFINITION. Writes of registers as a whole (R38, R45, R50, R51, R56): what each register that is more than storage does
with a written word, the checks of a word that the field tables do not hold, register pairs, reads of a pair, access
timeouts, the clearing of events and errors, and MSI-X. -/

namespace Sys2Proof.Machine

open Reg

/-! ### Clearing events and errors (R35, R38, R51) -/

/-- A W1C write to `PG_EVT_PEND` clears the bits in RAW. -/
def State.evtClear (s : State) (p : Page) (mask : Nat) : State :=
  let raw := s.rd p HDR.PG_EVT_RAW
  s.wr p HDR.PG_EVT_RAW (raw - (raw &&& mask))

/-- A write of 1 to VALID clears PG_ERR_CODE, PG_ERR_INFO and PG_ERR_TIME. -/
def State.errClear (s : State) (p : Page) : State :=
  ((((s.wr p HDR.PG_ERR_CODE_CODE 0).wr p HDR.PG_ERR_CODE_COUNT 0).wr p HDR.PG_ERR_CODE_VALID 0).wr p HDR.PG_ERR_INFO
    0).wr p HDR.PG_ERR_TIME 0

/-- The W1C fields of a block register: each bit written 1 is cleared. -/
def State.w1c (s : State) (p : Page) (off data : Nat) : State :=
  s.each ((fieldsAt p off).filter fun e => e.1.acc == .w1c) fun t e =>
    let v := t.rd p e.1 e.2
    t.wr p e.1 (v - (v &&& part e.1 data)) e.2

/-! ### Checks of a word beside those of its fields -/

/-- A region of the spool lies in the carve-out, the heap or beyond the DRAM (R270, R368); `preset` counts the preset
region too. -/
def State.regionBad (s : State) (a n : Nat) (heap preset : Bool) : Bool :=
  let meets (lo len : Nat) : Bool := len != 0 && decide (a < lo + len ∧ lo < a + n)
  meets 0 carveEnd || decide (s.spoolSize < a + n) ||
    (heap && meets (2 ^ 20 * s.rd .int INT.HEAP_BASE) (2 ^ 20 * s.rd .int INT.HEAP_SIZE)) ||
    (preset && s.rd .cdc CDC.PRESET_BASE != 0 && meets (2 ^ 20 * s.rd .cdc CDC.PRESET_BASE) (5 * 2 ^ 20))

/-- The watchdog whose WDT_CTRL stands at an offset. -/
def wdtAt (off : Nat) : Option (Fin 5) :=
  if h : 0x60 ≤ off ∧ off < 0x88 then if off % 8 = 0 then some ⟨(off - 0x60) / 8, by omega⟩ else none else none

/-- The ring whose register at offset `k` in its block stands at an offset of INT. -/
def ringAt (off k : Nat) : Option (Fin 10) :=
  if h : 0x100 ≤ off ∧ off < 0x240 then if off % 32 = k then some ⟨(off - 0x100) / 32, by omega⟩ else none else none

/-- The trigger or capture whose register at offset `k` in its block stands at an offset of TIM. -/
def timAt (base off k : Nat) : Option (Fin 16) :=
  if h : base ≤ off ∧ off < base + 0x200 then if off % 32 = k then some ⟨(off - base) / 32, by omega⟩ else none else none

/-- The job slot whose register at offset `k` in its block stands at an offset of CDC. -/
def slotAt (off k : Nat) : Option (Fin 16) :=
  if h : 0x200 ≤ off ∧ off < 0x400 then if off % 32 = k then some ⟨(off - 0x200) / 32, by omega⟩ else none else none

/-- A mailbox buffer word is written by its sender while FULL is 1 (R98). -/
def State.mbxBusy (s : State) (req : Req) (off : Nat) : Bool :=
  (decide (0x400 ≤ off ∧ off < 0x500) && Req.hostSide req && s.on .core (mbxFull true)) ||
    (decide (0x500 ≤ off ∧ off < 0x600) && !Req.hostSide req && s.on .core (mbxFull false))

/-- A trigger register written while the trigger is armed, or a WIDTH of PERIOD or more (R328). -/
def State.trigBad (s : State) (off data : Nat) : Option Nat :=
  let armed (k : Fin 16) : Bool := s.on .tim TIM.TRIG_CTRL_EN k.val
  match timAt 0x200 off 0, timAt 0x200 off 8, timAt 0x200 off 0xC with
  | some k, _, _ => if armed k then some 0x20 else none
  | _, some k, _ =>
    if data != 0 && decide (data ≤ s.rd .tim TIM.TRIG_WIDTH k.val) then some Err.badValue
    else if armed k then some 0x20 else none
  | _, _, some k =>
    let period := s.rd .tim TIM.TRIG_PERIOD k.val
    if period != 0 && decide (period ≤ data) then some Err.badValue else if armed k then some 0x20 else none
  | _, _, _ => none

/-- The code with which the page refuses a word that its fields permit. -/
def State.wordCheck (s : State) (req : Req) (p : Page) (off data : Nat) : Option Nat :=
  match p with
  | .pwr =>
    let mask := s.rd .sys SYS.DEV_ID_CL_MASK
    if off = 0x44 && data % 256 != s.rd .pwr PWR.CLU_SEL && (data % 256 ||| mask) != mask then some Err.badValue else none
  | .pmb =>
    let role := bits data 11 8
    if 0x100 ≤ off && off < 0x200 && off % 16 = 0 && decide (5 ≤ role ∧ role ≤ 7) then some Err.badValue else none
  | .core =>
    match wdtAt off with
    | some k =>
      let t := data % 2 ^ 20
      if k = 4 && req != .safe then some 0x2E
      else if t != s.wdtTimeout k.val &&
        !(if k = 4 then decide (10 ≤ t ∧ t ≤ 100000) else decide (100 ≤ t ∧ t ≤ 1000000)) then some Err.badValue
      else none
    | none => if s.mbxBusy req off then some 0x2C else none
  | .lst => if off = 0x40 && decide (bits data 19 16 ≤ bits data 15 12) then some Err.badValue else none
  | .lne _ => if off = 0x8C && decide (bits data 27 16 ≤ bits data 11 0) then some Err.badValue else none
  | .vnl _ => if off = 0x50 && decide (24 < data % 16 + bits data 8 4) then some Err.badValue else none
  | .pace =>
    if off = 0x54 && s.on .pace PACE.CTRL_Z_EN && decide (data % 2 ^ 24 < 4) then some Err.badValue else none
  | .spl =>
    let a := data % 2 ^ 36
    let base := if off = 0x40 then a else s.rd .spl SPL.BASE
    let log := if off = 0x48 then data % 32 else s.rd .spl SPL.SIZE
    if off = 0x40 || off = 0x48 then
      if s.on .spl HDR.PG_CTRL_EN then some 0x21
      else if (base != s.rd .spl SPL.BASE || log != s.rd .spl SPL.SIZE) && s.regionBad base (48 * 2 ^ log) true true then
        some Err.badValue
      else none
    else none
  | .eth _ =>
    if s.ethTailBad p off data then some 0x20
    else if (off = 0x60 || off = 0x68 || off = 0x70 || off = 0x78) && s.on p HDR.PG_CTRL_EN then some 0x20 else none
  | .int =>
    match ringAt off 0, ringAt off 8 with
    | some r, _ => if s.ringState r.val = 0 then none else some 0x2C
    | _, some r => if s.ringState r.val = 0 then none else some 0x2C
    | _, _ => none
  | .cdc =>
    if off = 0x44 then
      let mib := data % 2 ^ 16
      if mib != 0 && mib != s.rd .cdc CDC.PRESET_BASE && s.regionBad (2 ^ 20 * mib) (5 * 2 ^ 20) true false then some Err.badValue
      else if (List.range 8).any fun i => s.rd .cdc CDC.PRESET_VALID i != 0 then some 0x2C else none
    else none
  | .bst =>
    let a := data % 2 ^ 36
    if off = 0x68 && (a % 2 ^ 18 != 0 || s.regionBad a (2 ^ 24) true true) then some 0x27 else none
  | .tim =>
    if off = 0x70 && decide (data / 2 ^ 16 % 2 ^ 16 ≤ data % 2 ^ 16) then some Err.badValue
    else if off = 0x7C && s.rd .tim HDR.PG_STAT_STATE != svFree then some 0x22
    else
      match timAt 0x400 off 0 with
      | some _ => if 13 ≤ data % 16 then some Err.badValue else none
      | none => s.trigBad off data
  | _ => none

/-! ### What follows from a stored word -/

/-- A staged waveform field has been written: the level is sent to the inactive bank (R257). -/
def State.waveSend (s : State) (l : Lane) (off : Nat) : State :=
  let set := (off - 0x100) / 0x90
  let lv := (off - 0x100) % 0x90 / 0x14 + 1
  if s.shadow || decide (9 ≤ set) || decide (8 ≤ lv) || (off - 0x100) % 0x90 % 0x14 = 0x10 then s
  else
    let s := s.wr (.wav l) WAV.BANK_LOADED 0
    if s.ls l = lsLoad || s.ls l = lsUp then
      s.queueCtrl l 0x20 (wavePayload (1 - s.rd (.wav l) WAV.BANK_ACTIVE) set lv
        (pulses (fun r i => s.rdStaged (.wav l) r i) set lv))
    else s

/-- What the block does when a word has been stored; `old` is the state before. -/
def State.wordAfter (s : State) (old : State) (p : Page) (off data : Nat) : State :=
  match p with
  | .fab => if bit data 31 && off = 0x40 then s.each (List.range 6) fun t i => t.wr .fab FAB.CNT 0 i else s
  | .pmb => if 0x100 ≤ off && off < 0x200 && off % 16 ≤ 4 then s.railSet ((off - 0x100) / 16) else s
  | .aon => if off = 0x48 then s.modPower fun q => { q with rtcLoad := some (data % 2 ^ 32, bits data 46 32) } else s
  | .core =>
    match wdtAt off with
    | some k => if s.on .core CORE.WDT_EN k.val && !old.on .core CORE.WDT_EN k.val then s.wdtRestart k else s
    | none => s
  | .int =>
    if off = 0x50 then
      { s with intake := { s.intake with lowSeen := decide (s.rd .int INT.CREDIT < s.rd .int INT.CREDIT_LOW) } }
    else s
  | .pace => if off = 0x44 || off = 0x48 then s.settlePerm else s
  | .pair => if off = 0x40 then s.settleRole false else s
  | .spl => if off = 0x40 || off = 0x48 then s.wr .spl SPL.STAT_PHASE 1 else s
  | .wav l => if 0x100 ≤ off then s.waveSend l off else s
  | .vnl l =>
    if (off = 0x48 || off = 0x4C) && s.ls l = lsUp && !s.shadow then s.headCfg l
    else if off = 0x44 then s.settleTmin l else s
  | .scb =>
    if off = 0x40 && s.on .scb SCB.CTRL_EN && !old.on .scb SCB.CTRL_EN then
      { s with bist := { s.bist with scrubAt := s.dclk } }
    else s
  | .tim => if off = 0x7C then s.setFreq (signed 32 (data % 2 ^ 32)) else s
  | .pci =>
    if 0x800 ≤ off && off < 0xC00 && off % 16 = 12 then
      let v := (off - 0x800) / 16
      if !s.on .pci PCI.MSIX_MASK v && s.pba v then s.msixSend v else s
    else s
  | _ => s

/-- The word as the block takes it: once watchdog 4 has started, EN = 0 is ignored (R99); bit 10 of `AON.WAKE_EN` is 1
(R72). -/
def State.wordIn (s : State) (p : Page) (off data : Nat) : Nat :=
  if p == .core && off = 0x80 && s.on .core CORE.WDT_EN 4 then data ||| 2 ^ 31
  else if p == .aon && off = 0x80 then data ||| 2 ^ 10 else data

/-- A write of a register with no step of its own (R38). -/
def State.plainWrite (s : State) (req : Req) (p : Page) (off data : Nat) : State :=
  let data := s.wordIn p off data
  match s.judge p off data with
  | some nn => s.errAt p nn off req.code
  | none =>
    match s.wordCheck req p off data with
    | some nn => s.wordRefuse req p off nn
    | none => ((s.store p off data).w1c p off data).wordAfter s p off data

/-! ### Registers with a step of their own -/

/-- `BST.CMD` (R357 to R367). -/
def State.bistCmd (s : State) (req : Req) (data : Nat) : State :=
  let s := s.when (bit data 0) fun t => t.bistStart req
  let s := s.when (bit data 1) fun t => t.testAbort 1
  let s := s.when (bit data 2) fun t => t.fuseBurn req (bits data 14 8) (t.on .bst BST.STAT_FSRC_OK)
  s.when (bit data 3) fun t => t.imgSave req (bits data 14 8)

/-- `INT.RING_CTRL` (R107): RESET first, then EN. -/
def State.ringCtrl (s : State) (r : Fin 10) (data : Nat) : State :=
  let s := s.when (bit data 1) fun t => t.ringReset r
  if bit data 0 == s.on .int INT.RING_CTRL_EN r.val then s else if bit data 0 then s.ringOn r else s.ringOff r

/-- `PAIR.CMD` (R338, R354, R355). -/
def State.pairCmd (s : State) (data : Nat) : State :=
  let s := (s.when (bit data 0) State.alignWrite).when (bit data 1) State.handoverWrite
  s.when (bit data 2) State.fwWrite

/-- `SEQ.CMD` (R263, R264). -/
def State.seqCmd (s : State) (l : Lane) (data : Nat) : State :=
  (s.when (bit data 0) fun t => t.seqResume l).when (bit data 1) fun t => t.seqClear l

/-- `JS_CTRL` of a job slot (R150). -/
def State.slotCtrl (s : State) (k : Fin 16) (data : Nat) : State :=
  (s.when (bit data 0) fun t => t.jobAbort k).when (bit data 1) fun t => t.jobRelease k

/-- Writes of the INT page. -/
def State.intWrite (s : State) (req : Req) (off data : Nat) : State :=
  if off = 0x44 then s.heapWrite req false (BitVec.ofNat 16 data)
  else if off = 0x48 then s.heapWrite req true (BitVec.ofNat 16 data)
  else
    match ringAt off 0xC, ringAt off 0x10 with
    | some r, _ => s.ringCtrl r data
    | _, some r => s.ringDb r (BitVec.ofNat 16 data)
    | _, _ => s.plainWrite req .int off data

/-- Writes of the CDC page. -/
def State.cdcWrite (s : State) (req : Req) (off data : Nat) : State :=
  if off = 0x130 then s.when (bit data 0) State.fjobGo
  else
    match slotAt off 0x10, slotAt off 0x14 with
    | some k, _ => s.chainWrite req k (BitVec.ofNat 13 data)
    | _, some k => s.slotCtrl k data
    | _, _ => s.plainWrite req .cdc off data

/-- Writes of the CORE page. -/
def State.coreWrite (s : State) (req : Req) (off data : Nat) : State :=
  if off = 0x44 then s.when (bit data 0) fun t => t.bootRestart req
  else if off = 0x48 then s.pushWrite data
  else if off = 0x50 then s.hartWrite req data
  else if off = 0xA0 then s.mbxCtrlWrite req true data
  else if off = 0xA4 then s.mbxCtrlWrite req false data
  else if 4 ≤ off then
    match wdtAt (off - 4) with
    | some k => s.wdtKick req k (data % 256)
    | none => s.plainWrite req .core off data
  else s.plainWrite req .core off data

/-- Writes of the TIM page. -/
def State.timWrite (s : State) (req : Req) (off data : Nat) : State :=
  if off = 0x50 then s.timeSetWrite data
  else if off = 0x58 then s.timeAdjWrite data
  else if off = 0x68 then s.servoCtrlWrite req data
  else if off = 0x80 then s.offsetTake (data % 2 ^ 48) (bits data 51 48)
  else
    match timAt 0x200 off 0x10 with
    | some k => s.trigCtrlWrite req k.val data
    | none => s.plainWrite req .tim off data

/-- A write of a register, a pair at its low word with 64 bits, that the fabric has let through. -/
def State.regWrite (s : State) (req : Req) (p : Page) (off data : Nat) : State :=
  if off = 0xC then s.ctrlWrite req p data
  else if off = 0x18 then s.settling fun t => t.plainWrite req p off data
  else if off = 0x1C then s.settling fun t => t.evtClear p data
  else if off = 0x20 then s.when (bit data 31) fun t => t.errClear p
  else
    match p with
    | .pwr => if off = 0x40 then s.reqWrite req (data % 8) else s.plainWrite req p off data
    | .core => s.coreWrite req off data
    | .evt => if off = 0xA0 then s.when (s.vecPend.testBit (data % 64)) fun t => t.msixSend (data % 64)
              else s.settling fun t => t.plainWrite req p off data
    | .pci => s.settling fun t => t.plainWrite req p off data
    | .int => s.intWrite req off data
    | .cdc => s.cdcWrite req off data
    | .lst => if off = 0x48 then s.enabled req p off fun t => t.lstStartWrite data else s.plainWrite req p off data
    | .pace =>
      if off = 0x40 then s.paceCtrlWrite req data
      else if off = 0x70 then s.wlLoadWrite (data % 2 ^ 48) else s.plainWrite req p off data
    | .ax a => if off = 0x90 then s.axCmdWrite req a data else s.plainWrite req p off data
    | .tim => s.timWrite req off data
    | .pair => if off = 0x4C then s.enabled req p off fun t => t.pairCmd data else s.plainWrite req p off data
    | .bst => if off = 0x60 then s.enabled req p off fun t => t.bistCmd req data else s.plainWrite req p off data
    | .cal => if off = 0x40 then s.enabled req p off fun t => t.calCmdWrite req data else s.plainWrite req p off data
    | .den =>
      if off = 0x40 then s.denRateWrite req (BitVec.ofNat 32 data)
      else if off = 0x70 then s.denRdSlot req (BitVec.ofNat 32 data)
      else if off = 0x7C then s.when (bit data 0) fun t => t.denFwGo req else s.plainWrite req p off data
    | .spl => if off = 0x58 then s.spoilDb (BitVec.ofNat 32 data) else s.plainWrite req p off data
    | .scr c => if off = 0x4C then s.enabled req p off fun t => t.matCmdWrite req c data else s.plainWrite req p off data
    | .lne l =>
      if off = 0x58 then s.when (bit data 0) fun t => t.enabled req p off fun u => u.tblCrcGo req l
      else if off = 0x80 then s.when (data % 4 != 0) fun t => t.enabled req p off fun u => u.awlCmdWrite req l (data % 4)
      else s.plainWrite req p off data
    | .seq l => if off = 0x5C then s.enabled req p off fun t => t.seqCmd l data else s.plainWrite req p off data
    | .vnl l =>
      if off = 0x70 then s.when (bit data 0) fun t => t.enabled req p off fun u => u.retrain l
      else s.plainWrite req p off data
    | _ => s.plainWrite req p off data

/-! ### Pairs (R50) -/

/-- Take what a requester holds under a key out of a list. -/
def heldOf (l : List (Nat × Nat × Nat)) (req key : Nat) : Option Nat :=
  (l.find? fun e => e.1 == req && e.2.1 == key).map fun e => e.2.2

/-- The list without what a requester holds under a key. -/
def heldWithout (l : List (Nat × Nat × Nat)) (req key : Nat) : List (Nat × Nat × Nat) :=
  l.filter fun e => !(e.1 == req && e.2.1 == key)

/-- A write of the low word of a pair is held, or replaces the held one. -/
def State.lowWrite (s : State) (req : Req) (p : Page) (off data : Nat) : State :=
  { s with held := heldWithout s.held req.code (p.base + off) ++ [(req.code, p.base + off, data)] }

/-- A write of the high word of the pair at `off`: with a held low word both take effect, without one it is discarded. -/
def State.highWrite (s : State) (req : Req) (p : Page) (off data : Nat) : State :=
  match heldOf s.held req.code (p.base + off) with
  | some low =>
    { s with held := heldWithout s.held req.code (p.base + off) }.regWrite req p off (low + 2 ^ 32 * data)
  | none => s

/-- A word written at an offset of a page: a word of a pair, or a register. -/
def State.pageWrite (s : State) (req : Req) (p : Page) (off data : Nat) : State :=
  if isPair p off then s.lowWrite req p off data
  else if isHigh p off then s.highWrite req p (off - 4) data
  else s.regWrite req p off data

/-- Where the fraction of the time counter stands among the captured words. -/
def fracKey : Nat := Page.tim.base + 0x48

/-- The captured words after a read of a pair: with TIME the requester captures the counter's fraction (R332). -/
def State.fracTaken (s : State) (req : Req) (p : Page) (off : Nat) : List (Nat × Nat × Nat) :=
  if p = .tim ∧ off = 0x40 then heldWithout s.captured req.code fracKey ++ [(req.code, fracKey, s.tim.frac)] else s.captured

/-- The value a read of a word returns, and the captured words after it (R50). TIME_FRAC is the fraction captured with the low
word of TIME (R332; log entry 98). -/
def State.pageRead (s : State) (req : Req) (p : Page) (off : Nat) : Nat × List (Nat × Nat × Nat) :=
  if isPair p off then
    let v := s.readReg p off
    let rest := heldWithout (s.fracTaken req p off) req.code (p.base + off)
    (v % 2 ^ 32, rest ++ [(req.code, p.base + off, v / 2 ^ 32)])
  else if isHigh p off then
    let key := p.base + off - 4
    (match heldOf s.captured req.code key with
      | some v => v
      | none => s.readReg p (off - 4) / 2 ^ 32 % 2 ^ 32, heldWithout s.captured req.code key)
  else if p = .tim ∧ off = 0x48 then ((heldOf s.captured req.code fracKey).getD 0, s.captured)
  else (s.readReg p off, s.captured)

/-- The value a read of a word of a lane's table window returns, and the captured words after it: the low word of a fire count
captures the high word, and a read of the high word returns what was captured (R253, R50). -/
def State.winRead (s : State) (req : Req) (l : Lane) (off : Nat) : Nat × List (Nat × Nat × Nat) :=
  let w := off / 4
  let key := 0x1000000 + 0x40000 * l.val + off
  if !winIsCount w then (s.winWord l w, s.captured)
  else if w % 2 = 0 then (s.winWord l w, heldWithout s.captured req.code key ++ [(req.code, key, s.winWord l (w + 1))])
  else
    (match heldOf s.captured req.code (key - 4) with
      | some v => v
      | none => s.winWord l w, heldWithout s.captured req.code (key - 4))

/-! ### The commands -/

/-- The access of 64 bits at a target is an aligned pair (R45, R50). -/
def wholePair (t : Target) (a : Nat) : Bool :=
  match t with
  | .page p off => a % 8 == 0 && isPair p off
  | _ => false

/-- A write of `PWR.REQ` on the way from SETT to IDLE, before IDLE is reported, is rejected (R64). -/
def State.wakeWrite (s : State) (req : Req) (t : Target) (data : Nat) : State :=
  if s.power.dev == .sett && s.power.wake != .none && t == .page .pwr 0x40 && data % 8 != 0 then
    if data % 8 ≤ 3 then s.badTransition req else s.errAt .pwr Err.badValue 0x40 req.code
  else s

/-- What lies at an address that a core uses (R88): the fabric below 32 MiB, then the regions of its own map. -/
inductive CoreRegion where
  | fabric | rom (off : Nat) | local (off : Nat) | qspi (off : Nat) | none
  deriving DecidableEq, Repr

/-- The region of a core's address. The spool stands above 2^32 and is reached by requests of port P3. -/
def coreRegion (req : Req) (a : Nat) : CoreRegion :=
  if a < 0x2000000 then .fabric
  else if a < 0x2010000 then .rom (a - 0x2000000)
  else match req with
    | .app _ => if 0x10000000 ≤ a ∧ a < 0x20000000 then .qspi (a - 0x10000000) else .none
    | .safe => if 0x20000000 ≤ a ∧ a < 0x20010000 then .local (a - 0x20000000) else .none
    | _ => .none

/-- The requester is a core. -/
def Req.isCore (r : Req) : Bool :=
  match r with
  | .app _ => true
  | .safe => true
  | _ => false

/-- The bytes of a write that its enables name, from the lowest up, with their places. -/
def enabledBytes (be : BitVec 4) (data : Word) : List (Nat × Byte) :=
  ((List.range 4).filter fun i => be.toNat.testBit i).map fun i => (i, BitVec.ofNat 8 (data.toNat / 2 ^ (8 * i)))

/-- A core writes outside the fabric (R88): its local memory takes the bytes; the boot ROM and the QSPI window are read-only,
and an access outside every region raises an access-fault exception (log entry 69). -/
def State.coreWriteOut (s : State) (req : Req) (a : Nat) (be : BitVec 4) (data : WriteData) : State :=
  match coreRegion req a with
  | .local off =>
    let put (m : List Host.Cell) (o : Nat) (w : Word) : List Host.Cell :=
      (enabledBytes be w).foldl (fun m e => if o + e.1 < 0x10000 then Memory.write m (o + e.1) e.2 else m) m
    let m := put s.cores.safeMem off data.low
    let m := match data.high with
      | some h => put m (off + 4) h
      | none => m
    { s with cores := { s.cores with safeMem := m }, reply := .posted req.code }
  | _ => { s with reply := .accessFault req.code }

/-- A core reads outside the fabric (R88). -/
def State.coreReadOut (s : State) (req : Req) (a : Nat) (wide : Bool) : State :=
  let get (f : Nat → Nat) (off : Nat) : State :=
    { s with reply := .data req.code (f off + if wide then 2 ^ 32 * f (off + 4) else 0) }
  match coreRegion req a with
  | .rom off => get (fun o => (Config.romWord o).toNat) off
  | .qspi off => get (fun o => (Config.qspiWord o).toNat) off
  | .local off => get (fun o => Memory.readNat s.cores.safeMem o 4) off
  | _ => { s with reply := .accessFault req.code }

/-- R38, R45. A write to a fabric address: a fabric error, a word of a table window, or a word of a page, which is judged as
a whole and stored, or refused as a whole. A write with partial byte enables is no whole word; one of 64 bits is its low word
followed by its high word, and must be an aligned pair (R50). A core's address beyond the fabric is one of its own map (R88). -/
def execRegisterWrite (req : Req) (addr : Word) (be : BitVec 4) (data : WriteData) (s : State) :
    Host.Outcome State Fault Refusal :=
  let a := addr.toNat
  let t := Target.ofAddr a
  if !s.devUp then .next (s.wakeWrite req t data.low.toNat)
  else if s.hostCut req then .next s
  else if Req.isCore req && coreRegion req a != .fabric then .next (s.coreWriteOut req a be data)
  else
    let s := s.hostTouch req
    match s.accessError t (be == 15 && if data.high.isSome then wholePair t a else a % 4 == 0) with
    | some nn => .next ((s.fabError nn req.code true a).answerError req true)
    | none =>
      let s := { s with reply := .posted req.code }
      match t, data.high with
      | .page p off, none => .next (s.pageWrite req p off data.low.toNat)
      | .page p off, some h => .next ((s.lowWrite req p off data.low.toNat).highWrite req p off h.toNat)
      | .window l off, _ => .next (s.windowWrite l off data.low.toNat)
      | .unmapped, _ => .next s

/-- R45. A target has not answered within 256 FCLK: TIMEOUT, unless the access meets another cause. -/
def execAccessTimeout (req : Req) (wr : Bool) (addr : Word) (s : State) : Host.Outcome State Fault Refusal :=
  if s.devUp && !s.hostCut req then
    let nn := (s.accessError (Target.ofAddr addr.toNat) (addr.toNat % 4 == 0)).getD 6
    .next ((s.fabError nn req.code wr addr.toNat).answerError req wr)
  else .next s

/-- R45, R50, R206, R207. A read of a fabric address: a word of a table window, at any time; the low word of a pair captures
the high word for the requester; the high word returns the captured one; any other read changes nothing (R48). A read of 64
bits is one of the low word followed by one of the high word, and must be an aligned pair. A requester that is cut off gets
Unsupported Request (R102; for JTAG log entry 61). A core's address beyond the fabric is one of its own map (R88). -/
def execPairLowRead (req : Req) (addr : Word) (wide : Bool) (s : State) : Host.Outcome State Fault Refusal :=
  let a := addr.toNat
  let t := Target.ofAddr a
  if !s.devUp then .next s
  else if s.hostCut req then .next { s with reply := .unsupported req.code }
  else if Req.isCore req && coreRegion req a != .fabric then .next (s.coreReadOut req a wide)
  else
    match s.accessError t (if wide then wholePair t a else a % 4 == 0) with
    | some nn => .next ((s.fabError nn req.code false a).answerError req false)
    | none =>
      match t with
      | .page p off =>
        if wide then
          .next { s with
            reply := .data req.code (s.readReg p off)
            captured := heldWithout (s.fracTaken req p off) req.code (p.base + off) }
        else
          let r := s.pageRead req p off
          .next { s with reply := .data req.code r.1, captured := r.2 }
      | .window l off =>
        let r := s.winRead req l off
        .next { s with reply := .data req.code r.1, captured := r.2 }
      | .unmapped => .next s

/-- R50. A write of the low word of a pair is held, or replaces the held low word. -/
def execPairLowWrite (req : Req) (p : Page) (w : BitVec 10) (data : Word) (s : State) :
    Host.Outcome State Fault Refusal :=
  .next <| s.gate req p (4 * w.toNat) fun s =>
    if isPair p (4 * w.toNat) then s.lowWrite req p (4 * w.toNat) data.toNat else s

/-- R50. A write of the high word of a pair makes the held pair take effect, or is discarded when no low word is held. -/
def execPairHighWrite (req : Req) (p : Page) (w : BitVec 10) (data : Word) (s : State) :
    Host.Outcome State Fault Refusal :=
  .next <| s.gate req p (4 * w.toNat) fun s =>
    if isHigh p (4 * w.toNat) then s.highWrite req p (4 * w.toNat - 4) data.toNat else s

/-- R51. A W1C write to `PG_EVT_PEND` clears the bits in RAW and PEND. -/
def execEvtPendClear (req : Req) (p : Page) (mask : Word) (s : State) : Host.Outcome State Fault Refusal :=
  .next <| s.gate req p 0x1C fun s => s.settling fun t => t.evtClear p mask.toNat

/-- R35. A write of 1 to VALID clears the page's error registers. -/
def execErrCodeClear (req : Req) (p : Page) (s : State) : Host.Outcome State Fault Refusal :=
  .next <| s.gate req p 0x20 fun s => s.errClear p

/-- R56. A write of a vector to `EVT.EOI` re-sends its message while a routed source is still pending. -/
def execEoi (req : Req) (vec : BitVec 6) (s : State) : Host.Outcome State Fault Refusal :=
  .next <| s.gate req .evt 0xA0 fun s => if s.vecOr vec.toNat then s.msixSend vec.toNat else s

/-- R56. The mask bit of a vector is cleared: the message it held is sent. -/
def execMsixUnmask (req : Req) (vec : BitVec 6) (s : State) : Host.Outcome State Fault Refusal :=
  .next <| s.gate req .pci (0x80C + 16 * vec.toNat) fun s =>
    let s := s.settleMsix.wr .pci PCI.MSIX_MASK 0 vec.toNat
    if s.pba vec.toNat then s.msixSend vec.toNat else s

end Sys2Proof.Machine
end

