-- ==== Sys2Proof/Machine/Clock.lean ====
section
/-! DEFINITION. What happens by itself: one TCLK of 4 ns passes while no command waits (log entry 2). -/

namespace Sys2Proof.Machine

open Reg

/-- The RTC counts one tick (R70), or loads the pair written to RTC_LOAD (R72); a second adds to the time since a lane fired
(R73), and the instances of calibration that are due are noted (R378). -/
def State.rtcTick (s : State) : State :=
  let sub := s.rd .aon AON.RTC_SUB + 1
  if s.power.rtcLoad.isSome then s.rtcLoaded
  else if sub < 32768 then s.wr .aon AON.RTC_SUB sub
  else
    let s := (s.wr .aon AON.RTC_SUB 0).wr .aon AON.RTC_SEC (s.rd .aon AON.RTC_SEC + 1)
    let s := s.modPower fun p => { p with dry := p.dry + 1, uptime := p.uptime + 1 }
    if s.devUp then s.calNotice else s

/-- What 4 ns add to the fraction of an RTC tick, in units of 1/250,000,000: X32 runs at 32,768 Hz; the internal RC, which
the RTC runs on otherwise, at 32 kHz within 10 %, free (R70, log entry 38). -/
def State.rtcStep (s : State) : Nat × State :=
  if s.on .aon AON.RTC_CTRL_X32_RUN then (32768, s)
  else
    let (n, s) := s.draw
    (28800 + Config.freeNat n % 6401, s)

/-- 4 ns of the RTC. -/
def State.rtcAdvance (s : State) : State :=
  let (k, s) := s.rtcStep
  let x := s.tim.x32 + k
  if x < 250000000 then { s with tim := { s.tim with x32 := x } }
  else { s with tim := { s.tim with x32 := x - 250000000, x32n := s.tim.x32n + 1 } }.rtcTick

/-- One TCLK of the time counter (R319): INC is added, in units of 2^-32 ns. -/
def State.timeAdvance (s : State) : State :=
  let f := s.tim.frac + s.rd .tim TIM.INC
  let s := s.wr .tim TIM.TIME (s.time + f / 2 ^ 32)
  { s with tim := { s.tim with frac := f % 2 ^ 32 } }

/-- The firmware message under way has been sent (R355). -/
def State.fwSent (s : State) : State :=
  if s.on .pair PAIR.FW_TX_CTRL_BUSY && decide (s.pair.fwUntil ≤ s.dclk) then s.wr .pair PAIR.FW_TX_CTRL_BUSY 0 else s

/-- R382. The high voltage of a head, sampled every 10 us (5,000 DCLK): a measurement, so a free value. It is held while
item 1 runs on the lane (R381), and a lane whose cluster domain is down is not sampled (log entry 40). -/
def State.hvSample (s : State) : State :=
  if s.dclk % 5000 < 2 then
    s.each allLanes fun t l =>
      if t.domUp (Lane.clu l) && !(t.cal.runs.any fun r => r.item == 1 && r.inst == l.val) then
        let (n, u) := t.draw
        u.wr (.seq l) ITEM.HV_MEAS (Config.freeNat n % 65536)
      else t
  else s

/-- The spool controller's slots: each sub-channel serves one request, and the accesses of the window that were held go on
(R161, R167). -/
def State.spoolTick (s : State) : State :=
  let busy := !s.ddr.queue.isEmpty || !s.ddr.writeBack.isEmpty
  (s.when (busy && s.portsRun) fun t => t.each (List.finRange 4) State.serveSlot).windowDrain

/-- One TCLK: two DCLK, the counters, and what follows a condition (PRN_RDY, interrupts, a role that waits). In SETT only
the RTC runs; in OFF nothing does. -/
def State.tick (s : State) : State :=
  match s.power.dev with
  | .off => s
  | .sett => s.rtcAdvance.modPower fun p => if p.pen0 then { p with penFor := p.penFor + 1 } else p
  | _ =>
    let s := { s with dclk := s.dclk + 2 }.rtcAdvance.timeAdvance.hvSample
    let s := (s.bump .pair PAIR.HB_AGE 2).fwSent.pushDrain.spoolTick.dmaReturn.codecTick.decodeTick.recheck.settleSources
    ((s.settleRole false).settlePrn.settleIdle).settleMsix

end Sys2Proof.Machine
end

