-- ==== Sys2Proof/Machine/Dispatch.lean ====
section
/-! DEFINITION. Which meaning each command has: one arm per constructor. -/

namespace Sys2Proof.Machine

def exec (i : Instr) (s : State) : Host.Outcome State Fault Refusal :=
  match i with
  | .registerWrite req addr be data => Sys2Proof.Machine.execRegisterWrite req addr be data s
  | .accessTimeout req wr addr => Sys2Proof.Machine.execAccessTimeout req wr addr s
  | .pairLowRead req addr wide => Sys2Proof.Machine.execPairLowRead req addr wide s
  | .pairLowWrite req p w data => Sys2Proof.Machine.execPairLowWrite req p w data s
  | .pairHighWrite req p w data => Sys2Proof.Machine.execPairHighWrite req p w data s
  | .pgInit req p data => Sys2Proof.Machine.execPgInit req p data s
  | .pgLock req p data => Sys2Proof.Machine.execPgLock req p data s
  | .commit req p data => Sys2Proof.Machine.execCommit req p data s
  | .cancel req p data => Sys2Proof.Machine.execCancel req p data s
  | .commitDone p => Sys2Proof.Machine.execCommitDone p s
  | .evtPendClear req p mask => Sys2Proof.Machine.execEvtPendClear req p mask s
  | .errCodeClear req p => Sys2Proof.Machine.execErrCodeClear req p s
  | .eoi req vec => Sys2Proof.Machine.execEoi req vec s
  | .msixUnmask req vec => Sys2Proof.Machine.execMsixUnmask req vec s
  | .powerOnReset => Sys2Proof.Machine.execPowerOnReset s
  | .porAssert => Sys2Proof.Machine.execPorAssert s
  | .rtcAlarm => Sys2Proof.Machine.execRtcAlarm s
  | .cmpOutRise k level => Sys2Proof.Machine.execCmpOutRise k level s
  | .wakeReqN => Sys2Proof.Machine.execWakeReqN s
  | .perstNDeassert => Sys2Proof.Machine.execPerstNDeassert s
  | .perstNAssert => Sys2Proof.Machine.execPerstNAssert s
  | .pgoodRise k bootsel => Sys2Proof.Machine.execPgoodRise k bootsel s
  | .pgoodTimeout k => Sys2Proof.Machine.execPgoodTimeout k s
  | .pgoodLost k => Sys2Proof.Machine.execPgoodLost k s
  | .settWakeComplete => Sys2Proof.Machine.execSettWakeComplete s
  | .reqSett req => Sys2Proof.Machine.execReqSett req s
  | .reqIdle req => Sys2Proof.Machine.execReqIdle req s
  | .reqReady req => Sys2Proof.Machine.execReqReady req s
  | .toReadyDeadline => Sys2Proof.Machine.execToReadyDeadline s
  | .clusterPowerOn c code qual => Sys2Proof.Machine.execClusterPowerOn c code qual s
  | .hvenSet c => Sys2Proof.Machine.execHvenSet c s
  | .hvpgRise c => Sys2Proof.Machine.execHvpgRise c s
  | .hvTimeout c => Sys2Proof.Machine.execHvTimeout c s
  | .hvpgLost c => Sys2Proof.Machine.execHvpgLost c s
  | .clusterRetry c => Sys2Proof.Machine.execClusterRetry c s
  | .hvDischargeDone c => Sys2Proof.Machine.execHvDischargeDone c s
  | .readyIdleTimeout => Sys2Proof.Machine.execReadyIdleTimeout s
  | .autoSleepDue => Sys2Proof.Machine.execAutoSleepDue s
  | .sleepGraceEnd => Sys2Proof.Machine.execSleepGraceEnd s
  | .settEntryComplete => Sys2Proof.Machine.execSettEntryComplete s
  | .tjWarn => Sys2Proof.Machine.execTjWarn s
  | .tjShut => Sys2Proof.Machine.execTjShut s
  | .x32Fail => Sys2Proof.Machine.execX32Fail s
  | .x32Restore => Sys2Proof.Machine.execX32Restore s
  | .rtcLoadApply => Sys2Proof.Machine.execRtcLoadApply s
  | .spitTimerExpiry => Sys2Proof.Machine.execSpitTimerExpiry s
  | .spitBurstDone => Sys2Proof.Machine.execSpitBurstDone s
  | .opChange c => Sys2Proof.Machine.execOpChange c s
  | .opChangeDone c => Sys2Proof.Machine.execOpChangeDone c s
  | .pmbPoll => Sys2Proof.Machine.execPmbPoll s
  | .pmbTransferDone rail res => Sys2Proof.Machine.execPmbTransferDone rail res s
  | .pmbAlert => Sys2Proof.Machine.execPmbAlert s
  | .pllUnlock pll => Sys2Proof.Machine.execPllUnlock pll s
  | .bootComplete img => Sys2Proof.Machine.execBootComplete img s
  | .pushData req data => Sys2Proof.Machine.execPushData req data s
  | .bootRestart req => Sys2Proof.Machine.execBootRestart req s
  | .hartRun req data => Sys2Proof.Machine.execHartRun req data s
  | .hartReset req data => Sys2Proof.Machine.execHartReset req data s
  | .wdtKick req k key => Sys2Proof.Machine.execWdtKick req k key s
  | .wdtExpire k => Sys2Proof.Machine.execWdtExpire k s
  | .wdtHalt k mepc => Sys2Proof.Machine.execWdtHalt k mepc s
  | .mbxSend req h2c len => Sys2Proof.Machine.execMbxSend req h2c len s
  | .mbxRelease req h2c => Sys2Proof.Machine.execMbxRelease req h2c s
  | .coreMemUe core => Sys2Proof.Machine.execCoreMemUe core s
  | .pcieLinkUp speed width rev => Sys2Proof.Machine.execPcieLinkUp speed width rev s
  | .pcieLinkDown => Sys2Proof.Machine.execPcieLinkDown s
  | .d3hotEntry => Sys2Proof.Machine.execD3hotEntry s
  | .d0Return => Sys2Proof.Machine.execD0Return s
  | .bar2Read addr len ue => Sys2Proof.Machine.execBar2Read addr len ue s
  | .bar2Write addr data poisoned => Sys2Proof.Machine.execBar2Write addr data poisoned s
  | .ringDoorbell req r v => Sys2Proof.Machine.execRingDoorbell req r v s
  | .ringEnable req r => Sys2Proof.Machine.execRingEnable req r s
  | .ringDisable req r => Sys2Proof.Machine.execRingDisable req r s
  | .ringStopped r => Sys2Proof.Machine.execRingStopped r s
  | .ringReset req r => Sys2Proof.Machine.execRingReset req r s
  | .descriptorFetch r => Sys2Proof.Machine.execDescriptorFetch r s
  | .pageOpen entry => Sys2Proof.Machine.execPageOpen entry s
  | .pageCancel entry => Sys2Proof.Machine.execPageCancel entry s
  | .presetLoad entry => Sys2Proof.Machine.execPresetLoad entry s
  | .presetLoadDone id data => Sys2Proof.Machine.execPresetLoadDone id data s
  | .presetDrop entry => Sys2Proof.Machine.execPresetDrop entry s
  | .presetDropDone id => Sys2Proof.Machine.execPresetDropDone id s
  | .compress entry => Sys2Proof.Machine.execCompress entry s
  | .nop entry => Sys2Proof.Machine.execNop entry s
  | .tileDescriptor r entry => Sys2Proof.Machine.execTileDescriptor r entry s
  | .tileAllocate r => Sys2Proof.Machine.execTileAllocate r s
  | .scwHeaderCheck key hdr => Sys2Proof.Machine.execScwHeaderCheck key hdr s
  | .tileLanded key data => Sys2Proof.Machine.execTileLanded key data s
  | .dmaError target => Sys2Proof.Machine.execDmaError target s
  | .completionWrite => Sys2Proof.Machine.execCompletionWrite s
  | .cqTimerExpiry => Sys2Proof.Machine.execCqTimerExpiry s
  | .heapConfigWrite req isSize mib => Sys2Proof.Machine.execHeapConfigWrite req isSize mib s
  | .tileFetch => Sys2Proof.Machine.execTileFetch s
  | .decodeStart d => Sys2Proof.Machine.execDecodeStart d s
  | .decodeDone d => Sys2Proof.Machine.execDecodeDone d s
  | .decodeFail d ue => Sys2Proof.Machine.execDecodeFail d ue s
  | .encoderAssign e => Sys2Proof.Machine.execEncoderAssign e s
  | .encodeEnd e res => Sys2Proof.Machine.execEncodeEnd e res s
  | .jobPark slot input chain => Sys2Proof.Machine.execJobPark slot input chain s
  | .chainCountWrite req slot n => Sys2Proof.Machine.execChainCountWrite req slot n s
  | .parkTimeout slot => Sys2Proof.Machine.execParkTimeout slot s
  | .jobAbort req slot => Sys2Proof.Machine.execJobAbort req slot s
  | .jobRelease req slot => Sys2Proof.Machine.execJobRelease req slot s
  | .fjobGo req => Sys2Proof.Machine.execFjobGo req s
  | .ddrTrainingDone stops eyes => Sys2Proof.Machine.execDdrTrainingDone stops eyes s
  | .refreshTick k rank => Sys2Proof.Machine.execRefreshTick k rank s
  | .mr4Poll k rank0 rank1 osc => Sys2Proof.Machine.execMr4Poll k rank0 rank1 osc s
  | .spoolReadReturn user addr kind wait => Sys2Proof.Machine.execSpoolReadReturn user addr kind wait s
  | .spoolWriteAck user addr data mask poison ue => Sys2Proof.Machine.execSpoolWriteAck user addr data mask poison ue s
  | .panicAssert => Sys2Proof.Machine.execPanicAssert s
  | .panicRelease => Sys2Proof.Machine.execPanicRelease s
  | .autoSrTimeout => Sys2Proof.Machine.execAutoSrTimeout s
  | .srDrainDone => Sys2Proof.Machine.execSrDrainDone s
  | .srExit => Sys2Proof.Machine.execSrExit s
  | .srExitDone => Sys2Proof.Machine.execSrExitDone s
  | .scrubRead kind => Sys2Proof.Machine.execScrubRead kind s
  | .lineTick => Sys2Proof.Machine.execLineTick s
  | .slowreqRelease => Sys2Proof.Machine.execSlowreqRelease s
  | .paceStopped => Sys2Proof.Machine.execPaceStopped s
  | .lstStart req id => Sys2Proof.Machine.execLstStart req id s
  | .lineScreenStart l stall ue => Sys2Proof.Machine.execLineScreenStart l stall ue s
  | .seamWordArrive l left ecc => Sys2Proof.Machine.execSeamWordArrive l left ecc s
  | .seamTimeout l left => Sys2Proof.Machine.execSeamTimeout l left s
  | .tableWindowWrite req l off data => Sys2Proof.Machine.execTableWindowWrite req l off data s
  | .tblCrcGo req l => Sys2Proof.Machine.execTblCrcGo req l s
  | .tblCrcDone l => Sys2Proof.Machine.execTblCrcDone l s
  | .matLoad req c => Sys2Proof.Machine.execMatLoad req c s
  | .matLoadEnd c ue => Sys2Proof.Machine.execMatLoadEnd c ue s
  | .matCrc req c => Sys2Proof.Machine.execMatCrc req c s
  | .matCrcEnd c => Sys2Proof.Machine.execMatCrcEnd c s
  | .awlStart req l => Sys2Proof.Machine.execAwlStart req l s
  | .awlAutoStart l => Sys2Proof.Machine.execAwlAutoStart l s
  | .awlAbort req l => Sys2Proof.Machine.execAwlAbort req l s
  | .scanDataReceive l up first codes => Sys2Proof.Machine.execScanDataReceive l up first codes s
  | .awlScanComplete l => Sys2Proof.Machine.execAwlScanComplete l s
  | .awlOverdue l => Sys2Proof.Machine.execAwlOverdue l s
  | .linePrepare l ue guardUe => Sys2Proof.Machine.execLinePrepare l ue guardUe s
  | .lineFrameStart l => Sys2Proof.Machine.execLineFrameStart l s
  | .firingInstant l => Sys2Proof.Machine.execFiringInstant l s
  | .tempLost l => Sys2Proof.Machine.execTempLost l s
  | .seqResume req l => Sys2Proof.Machine.execSeqResume req l s
  | .seqClear req l => Sys2Proof.Machine.execSeqClear req l s
  | .guardIdleExpiry l head => Sys2Proof.Machine.execGuardIdleExpiry l head s
  | .spoilRunFlush l after => Sys2Proof.Machine.execSpoilRunFlush l after s
  | .spoilRecordWrite => Sys2Proof.Machine.execSpoilRecordWrite s
  | .spoilWriteAck => Sys2Proof.Machine.execSpoilWriteAck s
  | .spoilDoorbell req v => Sys2Proof.Machine.execSpoilDoorbell req v s
  | .encEdge kind => Sys2Proof.Machine.execEncEdge kind s
  | .encIndex => Sys2Proof.Machine.execEncIndex s
  | .internalTick => Sys2Proof.Machine.execInternalTick s
  | .paceModeWrite req data => Sys2Proof.Machine.execPaceModeWrite req data s
  | .wlLoad req wl => Sys2Proof.Machine.execWlLoad req wl s
  | .tofEdge => Sys2Proof.Machine.execTofEdge s
  | .profileUpdate a => Sys2Proof.Machine.execProfileUpdate a s
  | .axisStep a => Sys2Proof.Machine.execAxisStep a s
  | .observedStep a neg => Sys2Proof.Machine.execObservedStep a neg s
  | .axHome req a => Sys2Proof.Machine.execAxHome req a s
  | .axStop req a => Sys2Proof.Machine.execAxStop req a s
  | .axEstop req a => Sys2Proof.Machine.execAxEstop req a s
  | .axClear req a drvflt => Sys2Proof.Machine.execAxClear req a drvflt s
  | .axSleep req a => Sys2Proof.Machine.execAxSleep req a s
  | .axWake req a => Sys2Proof.Machine.execAxWake req a s
  | .limitTrip a pos => Sys2Proof.Machine.execLimitTrip a pos s
  | .limitRelease a pos => Sys2Proof.Machine.execLimitRelease a pos s
  | .homeEdge a since => Sys2Proof.Machine.execHomeEdge a since s
  | .homeRelease a => Sys2Proof.Machine.execHomeRelease a s
  | .driverFault a pin => Sys2Proof.Machine.execDriverFault a pin s
  | .axisSleepTimeout a => Sys2Proof.Machine.execAxisSleepTimeout a s
  | .controlFrameSend l => Sys2Proof.Machine.execControlFrameSend l s
  | .controlRetry l => Sys2Proof.Machine.execControlRetry l s
  | .lstatReceive l up seq result => Sys2Proof.Machine.execLstatReceive l up seq result s
  | .hstatReceive l up rate => Sys2Proof.Machine.execHstatReceive l up rate s
  | .cackReceive l up cseq cresult => Sys2Proof.Machine.execCackReceive l up cseq cresult s
  | .identReceive l up proto caps n vendor model tHead serial => Sys2Proof.Machine.execIdentReceive l up proto caps n vendor model tHead serial s
  | .trainResReceive l up rate preset good => Sys2Proof.Machine.execTrainResReceive l up rate preset good s
  | .upstreamCrcError l => Sys2Proof.Machine.execUpstreamCrcError l s
  | .lstatTimeout l => Sys2Proof.Machine.execLstatTimeout l s
  | .noHeadTimeout l => Sys2Proof.Machine.execNoHeadTimeout l s
  | .bringupTmo l => Sys2Proof.Machine.execBringupTmo l s
  | .linkWaitExpiry l => Sys2Proof.Machine.execLinkWaitExpiry l s
  | .trialSwitch l => Sys2Proof.Machine.execTrialSwitch l s
  | .trialTimeout l => Sys2Proof.Machine.execTrialTimeout l s
  | .fastLockTimeout l => Sys2Proof.Machine.execFastLockTimeout l s
  | .upstreamLockLoss l n => Sys2Proof.Machine.execUpstreamLockLoss l n s
  | .statusTimeout l => Sys2Proof.Machine.execStatusTimeout l s
  | .crcLimitReached l => Sys2Proof.Machine.execCrcLimitReached l s
  | .scanDataLate l => Sys2Proof.Machine.execScanDataLate l s
  | .retrain req l => Sys2Proof.Machine.execRetrain req l s
  | .eyeMeasure l mui => Sys2Proof.Machine.execEyeMeasure l mui s
  | .timeSet req ns => Sys2Proof.Machine.execTimeSet req ns s
  | .timeAdj req ns => Sys2Proof.Machine.execTimeAdj req ns s
  | .offsetWrite req ns tag => Sys2Proof.Machine.execOffsetWrite req ns tag s
  | .servoEnWrite req data => Sys2Proof.Machine.execServoEnWrite req data s
  | .servoRearm req data => Sys2Proof.Machine.execServoRearm req data s
  | .servoHoldover => Sys2Proof.Machine.execServoHoldover s
  | .triggerFire k => Sys2Proof.Machine.execTriggerFire k s
  | .trigArm req k data => Sys2Proof.Machine.execTrigArm req k data s
  | .captureEvent k => Sys2Proof.Machine.execCaptureEvent k s
  | .ethTxTail req p v => Sys2Proof.Machine.execEthTxTail req p v s
  | .ethTxDone p => Sys2Proof.Machine.execEthTxDone p s
  | .ethRxFrame p bytes bad => Sys2Proof.Machine.execEthRxFrame p bytes bad s
  | .ethLinkUp p => Sys2Proof.Machine.execEthLinkUp p s
  | .ethLinkDown p => Sys2Proof.Machine.execEthLinkDown p s
  | .x32Measure ppb => Sys2Proof.Machine.execX32Measure ppb s
  | .pairLinkUp pol reversed mapOk skew => Sys2Proof.Machine.execPairLinkUp pol reversed mapOk skew s
  | .pairLinkDown lock => Sys2Proof.Machine.execPairLinkDown lock s
  | .heartbeatSend => Sys2Proof.Machine.execHeartbeatSend s
  | .heartbeatReceive msg => Sys2Proof.Machine.execHeartbeatReceive msg s
  | .hbMiss => Sys2Proof.Machine.execHbMiss s
  | .heartbeatTimeout => Sys2Proof.Machine.execHeartbeatTimeout s
  | .pfaultI level => Sys2Proof.Machine.execPfaultI level s
  | .roleIRise level => Sys2Proof.Machine.execRoleIRise level s
  | .pairAlign req => Sys2Proof.Machine.execPairAlign req s
  | .alignReceive msg => Sys2Proof.Machine.execAlignReceive msg s
  | .pairHandover req => Sys2Proof.Machine.execPairHandover req s
  | .handoverReceive msg => Sys2Proof.Machine.execHandoverReceive msg s
  | .fwSend req => Sys2Proof.Machine.execFwSend req s
  | .fwReceive msg => Sys2Proof.Machine.execFwReceive msg s
  | .bistStart req => Sys2Proof.Machine.execBistStart req s
  | .bistAbort req => Sys2Proof.Machine.execBistAbort req s
  | .bistDone results => Sys2Proof.Machine.execBistDone results s
  | .vcoreSample mv => Sys2Proof.Machine.execVcoreSample mv s
  | .imgSave req inst => Sys2Proof.Machine.execImgSave req inst s
  | .fuseBurn req slot fsrc => Sys2Proof.Machine.execFuseBurn req slot fsrc s
  | .burnEntryDone => Sys2Proof.Machine.execBurnEntryDone s
  | .fsrcFall => Sys2Proof.Machine.execFsrcFall s
  | .sramScrubRead kind table => Sys2Proof.Machine.execSramScrubRead kind table s
  | .backgroundOverdue task => Sys2Proof.Machine.execBackgroundOverdue task s
  | .calStart item inst => Sys2Proof.Machine.execCalStart item inst s
  | .calRun req item inst => Sys2Proof.Machine.execCalRun req item inst s
  | .calResult item inst code qual eyes => Sys2Proof.Machine.execCalResult item inst code qual eyes s
  | .calStep item inst eye => Sys2Proof.Machine.execCalStep item inst eye s
  | .calOverdue item inst => Sys2Proof.Machine.execCalOverdue item inst s
  | .denScanDone => Sys2Proof.Machine.execDenScanDone s
  | .denEntryWritten back backPin => Sys2Proof.Machine.execDenEntryWritten back backPin s
  | .denTokenRefill => Sys2Proof.Machine.execDenTokenRefill s
  | .denRateWrite req data => Sys2Proof.Machine.execDenRateWrite req data s
  | .denFwGo req => Sys2Proof.Machine.execDenFwGo req s
  | .denRdSlot req data => Sys2Proof.Machine.execDenRdSlot req data s
  | .hello => Sys2Proof.Machine.execHello s
  | .ptpStart => Sys2Proof.Machine.execPtpStart s
  | .ptpState => Sys2Proof.Machine.execPtpState s
  | .dllLockLoss c => Sys2Proof.Machine.execDllLockLoss c s
  | .hvpgFall c => Sys2Proof.Machine.execHvpgFall c s
  | .dieSensorSample t => Sys2Proof.Machine.execDieSensorSample t s
  | .spitLine => Sys2Proof.Machine.execSpitLine s
  | .imgSaveDone => Sys2Proof.Machine.execImgSaveDone s

end Sys2Proof.Machine
end

