-- ==== Sys2Proof/Machine/Pins.lean ====
section
/-! DEFINITION. The levels on the digital output balls (R14, R15, R61, R69, R281, R286, R287, R295, R327, R397, R404, R406), as
functions of the state. Pulses (STEP, TRIG_OUT) and the serial links are outputs in `State.out`. -/

namespace Sys2Proof.Machine

open Reg

/-- A digital output ball that holds a level (R397). -/
inductive Ball where
  | pen0 | pen1 | wakeN | faultN
  | hven (c : Clu)
  | drvSlpN (a : Axis)
  | dir (a : Axis)
  | drvEn (a : Axis)
  | slowreq | prnRdy | roleO | pfaultO
  deriving DecidableEq, Repr

/-- An open-drain output: driven low while asserted, else left to the board's pull-up (R404). -/
def openDrain (asserted : Bool) : Option Bool := if asserted then some false else none

/-- A ball of the VDDIO bank is driven only while the bank is powered (R60, R406). -/
def State.vddio (s : State) (level : Bool) : Option Bool :=
  if s.power.dev != .off && s.power.pgood1 then some level else none

/-- DRVEN of an axis is active: EN is 1 and the axis is not in FAULT (R287). -/
def State.drvActive (s : State) (a : Axis) : Bool := s.on (.ax a) HDR.PG_CTRL_EN && s.axSt a != axFault

/-- The level that the device drives on a ball; none: high impedance. -/
def State.ball (s : State) (b : Ball) : Option Bool :=
  let aon (level : Bool) : Option Bool := if s.power.dev == .off then none else some level
  match b with
  | .pen0 => aon s.power.pen0
  | .pen1 => aon s.power.pen1
  | .wakeN => openDrain s.power.wakeN
  | .faultN => openDrain (s.power.dev == .fault)
  | .hven c => aon (s.on (.cpwr c) CPWR.STAT_HVEN)
  | .drvSlpN a => if s.shadow then none else aon (!s.asleep a)
  | .dir a => if s.shadow then none else s.vddio (s.axes[a].dirNeg != s.on (.ax a) AX.CFG_DIR_INV)
  | .drvEn a => if s.shadow then none else s.vddio (s.drvActive a == s.on (.ax a) AX.CFG_EN_POL)
  | .slowreq => s.vddio (s.on .pace PACE.STAT_SLOWREQ)
  | .prnRdy => s.vddio (s.on .gio GIO.STAT_PRN_RDY)
  | .roleO => s.vddio (s.on .pair PAIR.STAT_ROLE_O)
  | .pfaultO => s.vddio (s.on .pair PAIR.STAT_PFAULT_O)

end Sys2Proof.Machine
end

