-- ==== Sys2Proof/Machine/Wire.lean ====
section
/-! DEFINITION. What a Vinel port sends as code-groups: ordered sets and frames (R299 to R304). The 8B/10B code of a code-group is
that of IEEE 802.3. -/

namespace Sys2Proof.Machine

/-- A code-group: the data code-group D(v) of a byte, or one of the six control code-groups in use (R300). -/
inductive CodeGroup where
  | d (v : Nat)
  | k28_3 | k28_5 | k23_7 | k27_7 | k29_7 | k30_7
  deriving DecidableEq, Repr

/-- A control code-group followed by D21.5 three times. -/
def plainSet (k : CodeGroup) : List CodeGroup := [k, .d 0xB5, .d 0xB5, .d 0xB5]

/-- The ordered sets of R300. D20.2 is the data code-group of byte 0x54. -/
def setIdle : List CodeGroup := plainSet .k28_5
def setSol : List CodeGroup := plainSet .k27_7
def setSoc : List CodeGroup := plainSet .k23_7
def setEof : List CodeGroup := plainSet .k29_7
def setAbort : List CodeGroup := [.k30_7, .k30_7, .k30_7, .k30_7]
def setTs (rate preset : Nat) : List CodeGroup := [.k28_5, .d 0x54, .d (rate % 256), .d (preset % 256)]

/-- FIRE: its SEQ and CHK. -/
def setFire (seq : Nat) : List CodeGroup :=
  let lo := seq % 256
  let hi := seq / 256 % 256
  [.k28_3, .d lo, .d hi, .d ((lo ^^^ hi) ^^^ 0xA5)]

/-- A frame: its first ordered set, one data code-group for each byte, the CRC with its least significant byte first, EOF (R302,
R304). -/
def frameGroups (start : List CodeGroup) (bytes : List Nat) (crc : Nat) : List CodeGroup :=
  start ++ (bytes ++ bytesOf 4 crc).map CodeGroup.d ++ setEof

/-- What an output of the block is on the downstream pair of a lane: none for the outputs that are not a lane's. -/
def Out.groups : Out → Option (Nat × List CodeGroup)
  | .line l bytes crc => some (l, frameGroups setSol bytes crc)
  | .ctrl l bytes crc => some (l, frameGroups setSoc bytes crc)
  | .fire l seq => some (l, setFire seq)
  | .abort l => some (l, setAbort)
  | .ts l rate preset => some (l, setTs rate preset)
  | _ => none

end Sys2Proof.Machine
end

