-- ==== Sys2Proof/Safety.lean ====
section
/-! DEFINITION. What counts as a sound state and as a change confined to named fields, in the terms the statements use. -/

namespace Sys2Proof.Machine

/-- The state's three ordered stores are in their canonical form: the spool's bytes, the register file and the staged
copies. -/
def State.wf (s : State) : Bool := Memory.wf s.ddr.mem && Regs.wf s.regs && Regs.wf s.staged

/-- A copy of a field of a page. -/
abbrev FieldAt := Page × Row × Nat

/-- Its place in the register file. -/
def FieldAt.key (f : FieldAt) : Nat := f.2.1.key f.1 f.2.2

/-- Every place of the register file reads in t as in s, but for the fields listed. -/
def Untouched (fs : List FieldAt) (s t : State) : Prop :=
  ∀ k d : Nat, k ∉ fs.map FieldAt.key → Regs.get t.regs k d = Regs.get s.regs k d

/-- From s to t only the fields listed change: every other field, and every other part of the state, is as before. Only the
count of free values drawn, which is the model's own, may have risen. -/
structure OnlyFields (fs : List FieldAt) (s t : State) : Prop where
  fields : Untouched fs s t
  rest : t = { s with regs := t.regs, free := t.free }

/-- Every field of a page that is not listed reads in t as in s. -/
def OtherPages (ps : List Page) (s t : State) : Prop :=
  ∀ (p : Page) (r : Row) (i : Nat), p ∉ ps → (r.off + r.stride * i) * 8 + r.lo < 0x8000 → t.rd p r i = s.rd p r i

/-- Every lane but those listed is as it was beside its registers. -/
def OtherLanes (ls : List Lane) (s t : State) : Prop := ∀ l : Lane, l ∉ ls → t.lanes[l] = s.lanes[l]

/-- The fields in which a page's events are recorded (R51). -/
def eventField (p : Page) : List FieldAt := [(p, Reg.HDR.PG_EVT_RAW, 0)]

/-- The fields in which a page's error and the event it raises are recorded (R35, R43, R52). -/
def errorFields (p : Page) : List FieldAt :=
  [(p, Reg.HDR.PG_ERR_CODE_CODE, 0), (p, Reg.HDR.PG_ERR_CODE_COUNT, 0), (p, Reg.HDR.PG_ERR_CODE_VALID, 0),
    (p, Reg.HDR.PG_ERR_INFO, 0), (p, Reg.HDR.PG_ERR_TIME, 0), (p, Reg.HDR.PG_EVT_RAW, 0)]

/-- The fields in which the spool controller and its four sub-channels show a change of state (R176). -/
def spoolStateFields : List FieldAt :=
  [(.ddr, Reg.HDR.PG_STAT_STATE, 0), (.ddr, Reg.HDR.PG_EVT_RAW, 0)] ++ (List.finRange 4).flatMap fun k =>
    [(.ddrs k, Reg.HDR.PG_STAT_STATE, 0), (.ddrs k, Reg.HDR.PG_EVT_RAW, 0), (.ddrs k, Reg.DDRS.OWED_RANK0, 0),
      (.ddrs k, Reg.DDRS.OWED_RANK1, 0)]

/-- The fields that issued refreshes may change (R163). -/
def refreshFields : List FieldAt :=
  (List.finRange 4).flatMap fun k =>
    [(.ddrs k, Reg.DDRS.OWED_RANK0, 0), (.ddrs k, Reg.DDRS.OWED_RANK1, 0), (.ddrs k, Reg.DDRS.REF_CNT, 0)]

/-- Event i of a page has been raised (R51). -/
def State.event (s : State) (p : Page) (i : Nat) : Bool := (s.rd p Reg.HDR.PG_EVT_RAW).testBit i

/-- The error a page shows: its code while VALID is 1 (R35, R43). -/
def State.errorShown (s : State) (p : Page) : Option Nat :=
  if s.on p Reg.HDR.PG_ERR_CODE_VALID then some (s.rd p Reg.HDR.PG_ERR_CODE_CODE) else none

/-- The error a page shows once error nn has occurred: the first error stays until it is cleared (R35, R43). -/
def State.errorAfter (s : State) (p : Page) (nn : Nat) : Option Nat :=
  match s.errorShown p with
  | some c => some c
  | none => some (p.tt * 256 + nn)

/-- The fabric lets a requester's access to a page through: the requester is not cut off, no fabric error applies, and a host
access is no touch that ends the grace wait of auto-sleep (R45, R67, R96, R102). -/
def State.open_ (s : State) (req : Req) (p : Page) : Bool :=
  s.devUp && !s.hostCut req && !(s.power.grace && req == .host) && (s.accessError (.page p 0) true).isNone

/-- A requester's command to a page acts: the fabric lets it through and the page's block is enabled (R43, R45). -/
def State.ready (s : State) (req : Req) (p : Page) : Bool := s.open_ req p && s.on p Reg.HDR.PG_CTRL_EN

/-- The words that hold the MSI-X pending bits (R56). -/
def pbaFields : List FieldAt := [(.pci, Reg.PCI.MSIX_PBA, 0), (.pci, Reg.PCI.MSIX_PBA, 1)]

/-- The fields in which a fabric error with code nn is recorded (R45, R47). -/
def fabFields (nn : Nat) : List FieldAt :=
  [(.fab, Reg.FAB.LAST_ADDR, 0), (.fab, Reg.FAB.LAST_INFO_CODE, 0), (.fab, Reg.FAB.LAST_INFO_REQ, 0),
    (.fab, Reg.FAB.LAST_INFO_WR, 0), (.fab, Reg.FAB.CNT, nn - 1)] ++ errorFields .fab

/-- An access has ended with a fabric error (R45, R47): FAB records the first error, the last one's address, code,
requester and direction, and counts it; the access has no other effect but its answer, and an Unsupported Request is an
error of the link (R106). -/
structure FabError (s : State) (nn req : Nat) (wr : Bool) (addr : Nat) (t : State) : Prop where
  error : t.errorShown .fab = s.errorAfter .fab nn
  info : s.errorShown .fab = none → t.rd .fab Reg.HDR.PG_ERR_INFO = req * 0x1000 + wr.toNat * 0x10000
  event : t.event .fab 0 = true
  addr : t.rd .fab Reg.FAB.LAST_ADDR = addr
  code : t.rd .fab Reg.FAB.LAST_INFO_CODE = nn
  req : t.rd .fab Reg.FAB.LAST_INFO_REQ = req
  wr : t.on .fab Reg.FAB.LAST_INFO_WR = wr
  count : t.rd .fab Reg.FAB.CNT (nn - 1) = min (s.rd .fab Reg.FAB.CNT (nn - 1) + 1) (2 ^ 32 - 1)
  aer : t.reply = .unsupported 0 → t.event .pci 10 = true
  rest : OnlyFields (fabFields nn ++ if t.reply = .unsupported 0 then eventField .pci else []) { s with reply := t.reply } t

/-- Every staged field of a page is in force in t as it was staged in s (R40). -/
def Committed (s : State) (p : Page) (t : State) : Prop :=
  ∀ r ∈ pageStaged p, ∀ i : Nat, i < r.count → t.rd p r i = s.rdStaged p r i % 2 ^ r.width

/-- The commands that may write the spool (R155): a DMA, codec, spool, Ethernet or BIST result that lands there, a request
that lets the controller serve a waiting write, a host access through a window, a boot image, a register whose write starts
one of them, and a power-on reset. -/
def storesSpool (c : Instr) : Bool :=
  match c with
  | .presetLoadDone .. => true
  | .tileLanded .. => true
  | .encodeEnd .. => true
  | .jobPark .. => true
  | .spoolReadReturn .. => true
  | .spoolWriteAck .. => true
  | .scrubRead .. => true
  | .bistStart .. => true
  | .imgSaveDone .. => true
  | .ethTxDone .. => true
  | .ethRxFrame .. => true
  | .bootComplete .. => true
  | .bar2Read .. => true
  | .bar2Write .. => true
  | .spoilWriteAck .. => true
  | .porAssert .. => true
  | .registerWrite .. => true
  | .pairHighWrite .. => true
  | _ => false

/-- The fields that every good upstream frame of a lane sets (R308, R314). -/
def upFields (l : Lane) : List FieldAt :=
  [(.vnl l, Reg.VNL.STAT_UP_LOCK, 0), (.vnl l, Reg.VNL.STAT_HEAD_LOCK, 0), (.vnl l, Reg.VNL.STAT_ACTIVE_US, 0),
    (.vnl l, Reg.VNL.STAT_HEAD_EPOCH, 0), (.vnl l, Reg.VNL.EYE_DS_MUI, 0)]

/-- The head of an upstream frame reports lock, no temperature reading and no epoch newer than the device's: it sets no more
than the fields of `upFields`. -/
def State.quiet (s : State) (up : UpHead) : Bool :=
  bit up.port.toNat 3 && !bit up.temp.toNat 15 && !epochNewer up.epoch.toNat (s.rd .pair Reg.PAIR.EPOCH_EPOCH)

/-- A lane's link has been lost for a reason (R314): the error LINK_LOST with that reason, the event and the count; the link
trains again in FAST, the last temperature no longer counts, and a lane in service is in LINK (R29). -/
structure LinkLost (s : State) (l : Lane) (reason : Nat) (t : State) : Prop where
  state : t.ls l = lsFast
  error : t.errorShown (.vnl l) = s.errorAfter (.vnl l) 0x23
  info : s.errorShown (.vnl l) = none → t.rd (.vnl l) Reg.HDR.PG_ERR_INFO = reason
  event : t.event (.vnl l) 9 = true
  count : t.rd (.vnl l) Reg.VNL.LOSS_CNT = min (s.rd (.vnl l) Reg.VNL.LOSS_CNT + 1) (2 ^ 32 - 1)
  temp : t.on (.seq l) Reg.SEQ.TEMP_VALID = false
  lane : s.lanes[l].st = .idle ∨ s.laneRun l = true → t.lanes[l].st = .link

/-- A DMA request of at most 512 bytes that lies within n bytes at an address (R101). -/
def Out.readWithin (a n : Nat) (o : Out) : Bool :=
  match o with
  | .read b k => decide (0 < k ∧ k ≤ 512 ∧ a ≤ b ∧ b + k ≤ a + n)
  | _ => false

/-- The DMA reads under way without one (R101). -/
def State.readsLess (s : State) (who : ReadFor) : List DmaRead := s.intake.reads.filter fun r => r.who != who

/-- The data of an admin entry with an opcode arrives while intake may do DMA, waits for it and has no completion that finds no
free entry (R110, R112, R113, R122). -/
def State.admitted (s : State) (op : Nat) (e : BitVec 512) : Bool :=
  s.dmaOk && (s.ring 8).fetching && s.dmaSent (.dma (.ring 8)) && !s.cqBlocked 8 && entryField e 0 1 == op

/-- The fields that move on as the admin ring has dealt with an entry (R107). -/
def adminFields : List FieldAt := [(.int, Reg.INT.RING_HEAD, 8), (.int, Reg.INT.RING_COUNT, 8)]

/-- The read of the admin ring's entry is over. -/
def State.adminReads (s : State) : List DmaRead := s.readsLess (.dma (.ring 8))

/-- The state with that read over. -/
def State.adminOver (s : State) : State := { s with intake := { s.intake with reads := s.adminReads } }

/-- Intake with nothing held of the admin ring's entry. -/
def State.adminRings (s : State) : Vector RingSt 9 := s.intake.rings.setIfInBounds 8 {}

/-- The admin ring has dealt with its entry: HEAD is at the next, COUNT counts it, and nothing of it is held (R107). -/
structure AdminPassed (s t : State) : Prop where
  head : t.rd .int Reg.INT.RING_HEAD 8 =
    (s.rd .int Reg.INT.RING_HEAD 8 + 1) % 2 ^ s.rd .int Reg.INT.RING_SIZE 8 % 2 ^ 16
  count : t.rd .int Reg.INT.RING_COUNT 8 = min (s.rd .int Reg.INT.RING_COUNT 8 + 1) (2 ^ 32 - 1)
  rings : t.intake.rings = s.adminRings

/-- The fields in which the codec shows what its decoders and encoders hold (R153). -/
def codecFields : List FieldAt :=
  [(.cdc, Reg.CDC.DEC_BUSY, 0), (.cdc, Reg.CDC.ENC_OWNER, 0), (.cdc, Reg.HDR.PG_STAT_STATE, 0), (.cdc, Reg.HDR.PG_EVT_RAW, 0)]

/-- A preset is loaded and the spool answers the read of its length and of its bytes (R137, R138, R171). -/
def State.presetReads (s : State) (id : Nat) : Bool :=
  s.presetValid id && s.ddrState == ddrActive && decide (s.presetLenAt id + 4 ≤ s.spoolSize) &&
    decide (s.presetAt id + s.presetLen id ≤ s.spoolSize) && (s.poisonIn (s.presetLenAt id) 4).isNone &&
    (s.poisonIn (s.presetAt id) (s.presetLen id)).isNone

/-- The bytes that stand before an input in an encoder's window: its preset's, if it names one (R142). -/
def State.dictOf (s : State) (preset : Option Nat) : List Nat :=
  match preset with
  | some id => s.presetBytes id
  | none => []

/-- The spool once an encoder has read its preset, if it names one: only the time of the last request may differ (R166). -/
def State.ddrRead (s : State) (preset : Option Nat) : Ddr :=
  if preset.isSome then { s.ddr with lastReq := s.dclk } else s.ddr

/-- The state once job k has started, as far as DMA goes: an input in host memory is read from there (R145). -/
def State.jobReads (s : State) (k : Nat) : State :=
  if jobSrcSpace (s.slotDesc k) = 0 then s.dmaStart (.job k) (jobSrc (s.slotDesc k)) (jobRaw (s.slotDesc k)) else s

/-- An encoder serves a job that runs, and all its input has come (R149, R150). -/
def State.jobFed (s : State) (e : Fin 12) (k : Fin 16) : Bool :=
  s.devUp && s.slotState k.val == jsRunning && s.dmaSent (.job k.val) && match s.codec.encoders[e] with
    | .job j _ => j == k.val
    | _ => false

/-- A job has its input and its chain in host memory (R145). -/
def hostJob (d : Nat) : Bool := jobSrcSpace d == 0 && !jobChainSpool d

/-- The input of such a job: what DMA brings, or what it kept as it parked (R148). -/
def State.jobTakes (s : State) (k : Nat) (brought : List Byte) : List Nat :=
  if (s.job k).input.isEmpty then brought.map fun b => b.toNat else (s.job k).input

/-- What a job in host memory has written there, of bytes laid over its chain (R147, R148). -/
def State.jobSends (s : State) (k : Nat) (laid : List (Nat × List Nat)) : List Out :=
  s.out ++ (dropLaid (s.job k).written laid).map fun w => .write w.1 w.2

/-- The fields of a job slot (R153). -/
def slotFields (k : Nat) : List FieldAt :=
  [(.cdc, Reg.CDC.JS_STAT_STATE, k), (.cdc, Reg.CDC.JS_STAT_NO_GAIN, k), (.cdc, Reg.CDC.JS_STAT_ENC, k),
    (.cdc, Reg.CDC.JS_STAT_RESULT, k), (.cdc, Reg.CDC.JS_TAG, k), (.cdc, Reg.CDC.JS_OUT, k), (.cdc, Reg.CDC.JS_IN, k),
    (.cdc, Reg.CDC.JS_CHAIN, k)]

/-- The encoder serves the job of a slot. -/
def EncUser.serves (k : Nat) (e : EncUser) : Bool :=
  match e with
  | .job j _ => j == k
  | _ => false

/-- The codec once the job of a slot has ended: the slot holds no job and its encoder is free (R150). -/
def Codec.without (c : Codec) (k : Nat) : Codec :=
  { c with jobs := c.jobs.setIfInBounds k none, encoders := c.encoders.map fun e => if e.serves k then .free else e }

/-- A slot has taken a job (R148, R153): it waits, none of its stream is made, and its chain has COUNT entries. -/
structure JobQueued (s : State) (k desc : Nat) (t : State) : Prop where
  state : t.slotState k = jsQueued
  tag : t.rd .cdc Reg.CDC.JS_TAG k = jobTag desc
  chain : t.rd .cdc Reg.CDC.JS_CHAIN k = jobCount desc % 2 ^ 13
  out : t.rd .cdc Reg.CDC.JS_OUT k = 0 ∧ t.rd .cdc Reg.CDC.JS_IN k = 0 ∧ t.rd .cdc Reg.CDC.JS_STAT_RESULT k = 0
  codec : t.codec = { s.codec with
    jobs := s.codec.jobs.setIfInBounds k (some { desc, ord := s.codec.jobOrd, queuedAt := s.dclk }), jobOrd := s.codec.jobOrd + 1 }

/-- A job has ended (R150): `nn` is its error or 0, `len` the stream's length where it is DONE. A host job's ADMIN_DONE
waits and its slot is free; a firmware job's slot is DONE with the event FJOB. -/
structure JobEnded (s : State) (k nn len : Nat) (noGain : Bool) (t : State) : Prop where
  result : t.rd .cdc Reg.CDC.JS_STAT_RESULT k = if nn = 0 then 0 else 0x1200 + nn
  gain : t.on .cdc Reg.CDC.JS_STAT_NO_GAIN k = noGain
  enc : t.rd .cdc Reg.CDC.JS_STAT_ENC k = 0
  done : nn = 0 ∧ noGain = false →
    t.rd .cdc Reg.CDC.JS_OUT k = len % 2 ^ 17 ∧ t.rd .cdc Reg.CDC.JS_IN k = jobRaw (s.slotDesc k) % 2 ^ 17
  error : nn ≠ 0 → t.errorShown .cdc = s.errorAfter .cdc nn
  host : k < 12 → t.slotState k = jsFree ∧ t.intake.cq = s.intake.cq ++
    [adminCqe (if nn = 0 then 0 else 0x1200 + nn) (k + jobTag (s.slotDesc k) * 2 ^ 32) len
      (2 * noGain.toNat + 16 * (jobLevel (s.slotDesc k) % 16))]
  firm : 12 ≤ k → t.slotState k = jsDone ∧ t.event .cdc 10 = true ∧ t.intake.cq = s.intake.cq
  codec : t.codec = s.codec.without k

/-- The fields in which the use of tags shows (R199). -/
def tagFields : List FieldAt := [(.lst, Reg.LST.TAGS_USED, 0), (.lst, Reg.LST.TAGS_PEAK, 0)]

/-- The fields in which the heap's credit shows (R111). -/
def creditFields : List FieldAt := [(.int, Reg.INT.CREDIT, 0), (.int, Reg.HDR.PG_EVT_RAW, 0)]

/-- The encoders once intake holds none for a tile. -/
def State.encodersLess (s : State) (k : TileKey) : Vector EncUser 12 :=
  s.codec.encoders.map fun e => match e with
    | .intake j _ => if j = k then .free else e
    | _ => e

/-- A tile in flight has failed (R116, R127): it is gone with the copy it was to replace, its encoder is free, its granules
count as credit again, and its TILE_FAIL waits. -/
structure TileFailed (s : State) (k : TileKey) (cookie status : Nat) (more : List FieldAt) (t : State) : Prop where
  credit : t.rd .int Reg.INT.CREDIT = (t.heapGranules - t.usedGranules none) % 2 ^ 25
  rest : OnlyFields (codecFields ++ tagFields ++ creditFields ++ errorFields .int ++ more) { s with
    codec := { s.codec with encoders := s.encodersLess k }
    intake := { s.intake with
      tiles := s.intake.tiles.filter fun (u : Tile) => u.key != k
      cq := s.intake.cq ++ [tileCqe k cookie 2 status 0 0]
      reads := s.readsLess (.dma (.tile k))
      lowSeen := t.intake.lowSeen } } t

/-- The tiles of a list with the landed tile of a key changed. -/
def withTile (k : TileKey) (f : Tile → Tile) (l : List Tile) : List Tile :=
  l.map fun u => if u.key = k && u.phase == TilePhase.landed then f u else u

/-- A decoder has taken a tile (R191): its job is `j`, with the bytes of its input that have come and those still to come, and
no other decoder's presets change. -/
structure DecodeTaken (s : State) (d : Fin 16) (u : Tile) (j : DecJob) (t : State) : Prop where
  job : (t.codec.decoders[d].map fun x => { x with level := 0, left := 0 }) = some j
  input : (t.codec.decoders[d].map fun x => x.level + x.left) = some u.stored.len
  held : (t.codec.decoders[d].all fun x => decide (x.level ≤ 16384)) = true
  slots : ∀ e : Fin 16, e ≠ d → t.codec.decPreset[e] = s.codec.decPreset[e]
  rest : OnlyFields codecFields { s with codec := { s.codec with
    decoders := s.codec.decoders.set d t.codec.decoders[d], decPreset := t.codec.decPreset } } t

/-- A decoded tile in its band region (R184, R190): the region of its plane begins behind those of the planes before it. Which
half of the buffer holds it is read from t. -/
def State.bandTile (s : State) (j : DecJob) (l : List Nat) (t : State) : BandTile :=
  { key := j.key, copy := j.copy, content := l, at_ := s.dclk
    half := (t.intake.bandBuf.getLast?.map fun b => b.half).getD false
    region := ((List.range j.key.plane).map fun q => 1024 * s.rd .pln Reg.PLN.PLANE_MODE_BAND_KIB q).sum }

/-- The error a decode gives, if it fails. -/
def decodeError (r : Except DecodeError (List Nat)) : Option DecodeError :=
  match r with
  | .error e => some e
  | .ok _ => none

/-- A band of a page does not come before the last tile checked on a plane ring (R116). -/
def State.inOrder (s : State) (r : Nat) (p : PageSt) (band : Nat) : Bool :=
  match s.intake.order.toList.getD r none with
  | some (o, b) => decide (o < p.ord ∨ (o = p.ord ∧ b ≤ band))
  | none => true

/-- The fields that move on as a ring has dealt with an entry (R107). -/
def ringFields (r : Nat) : List FieldAt := [(.int, Reg.INT.RING_HEAD, r), (.int, Reg.INT.RING_COUNT, r)]

/-- The index of a ring's entry after the one at its head. -/
def State.nextHead (s : State) (r : Nat) : Nat :=
  (s.rd .int Reg.INT.RING_HEAD r + 1) % 2 ^ s.rd .int Reg.INT.RING_SIZE r % 2 ^ 16

/-- The entry a plane ring waits for has failed (R116): the error, its TILE_FAIL, and the ring at its next entry. -/
structure EntryFailed (s : State) (r : Fin 8) (e : BitVec 512) (nn : Nat) (t : State) : Prop where
  error : t.errorShown .int = s.errorAfter .int nn
  head : t.rd .int Reg.INT.RING_HEAD r.val = s.nextHead r.val
  rest : OnlyFields (errorFields .int ++ ringFields r.val) { s with intake := { s.intake with
    rings := s.intake.rings.setIfInBounds r.val {}
    reads := s.readsLess (.dma (.ring (r.castLE (by omega))))
    cq := s.intake.cq ++ [tileCqe (readKey r.val e) (readTile e).cookie 2 (0x1100 + nn) 0 0] } } t

/-- The fields of the Last that show the open pages (R199), and `INT.OPEN`. -/
def pageFields : List FieldAt :=
  [(.int, Reg.INT.OPEN, 0), (.lst, Reg.LST.NEXT, 0), (.lst, Reg.LST.CUR, 0), (.lst, Reg.LST.FSAFE_NEXT, 0),
    (.lst, Reg.LST.FSAFE_CUR, 0), (.lst, Reg.HDR.PG_STAT_STATE, 0), (.lst, Reg.HDR.PG_EVT_RAW, 0)]

/-- A page as it is opened (R112, R185): its source widths and F_SAFE under the plane map in force. -/
def State.newPage (s : State) (d : PageDesc) : PageSt :=
  let width : Vector Nat 8 := Vector.ofFn fun i => s.rd .pln Reg.PLN.PLANE_WIDTH i.val
  { desc := d, ord := s.intake.ordN, width
    fsafe := fSafe d (fun p => width.toList.getD p 0) (s.rd .lst Reg.LST.CTRL_REREQ_RES) }

/-- The PAGE_OPENED or PAGE_REJECTED entry of a PAGE_OPEN (R120). -/
def openCqe (type status id fsafe : Nat) : Cqe := { type, src := 8, status, page := id, loc := 0, stored := fsafe, info := 0 }

/-- The integrator and the frequency word after a PI update with an offset (R325): both stay within FMAX. -/
def State.servoAfter (s : State) (o : Int) : Int × Int :=
  let lim : Int := (s.rd .tim Reg.TIM.FMAX * 256 : Nat)
  let hold (v : Int) : Int := max (-lim) (min lim v)
  let i := hold (s.rdS .tim Reg.TIM.INTEG - s.rd .tim Reg.TIM.GAIN_KI * o)
  (i, hold (i - s.rd .tim Reg.TIM.GAIN_KP * o))

/-- The fields the servo may change as it takes an offset (R325, R333). -/
def servoFields : List FieldAt :=
  [(.tim, Reg.TIM.FREQ, 0), (.tim, Reg.TIM.INC, 0), (.tim, Reg.TIM.INTEG, 0), (.tim, Reg.TIM.LAST_OFS, 0),
    (.tim, Reg.TIM.OFS_CNT, 0), (.tim, Reg.TIM.SERVO_STAT_RUN, 0), (.tim, Reg.HDR.PG_STAT_STATE, 0),
    (.tim, Reg.HDR.PG_EVT_RAW, 0)]

/-- The pace unit after a step of an axis: one of AX0 is an edge of it in BELT mode (R276). -/
def State.beltEdge (s : State) (a : Axis) (neg : Bool) : Pace :=
  if a = 0 ∧ s.rd .pace Reg.PACE.CTRL_MODE = 2 then (s.paceEdge (!neg)).pace else s.pace

/-- The fields of the pace unit that such a step may change (R274). -/
def State.beltFields (s : State) (a : Axis) : List FieldAt :=
  if a = 0 ∧ s.rd .pace Reg.PACE.CTRL_MODE = 2 then
    [(.pace, Reg.PACE.STAT_REVERSE, 0), (.pace, Reg.HDR.PG_EVT_RAW, 0)]
  else []

/-- No trigger is armed. -/
def State.disarmed (s : State) : Bool := (List.range 16).all fun k => !s.on .tim Reg.TIM.TRIG_CTRL_EN k

end Sys2Proof.Machine
end

