-- ==== Sys2Proof/Certificates/Slice0/Obligations.lean ====
section
/-! DEFINITION. The statements for the provers, one for each family of commands and each kind of state. Every premise is on the
state and the operands; `t` is the state a command answers. -/

open Sys2Proof Sys2Proof.Machine Sys2Proof.Machine.Reg

/-- R273, R275, R277, R279, R281, R282, R283. An encoder edge moves the position and, in WEB mode alone, the accumulator; both
channels at once are a phase error; an index edge checks the edges since the last one; the internal timer ticks every
INT_PER DCLK. Writes of the web line counter, the top-of-form edge, the fall of SLOWREQ once no source has held for HOLD_MS,
and the stop of the web after STOP_MS without a tick. The model's own choices among these clauses are log entry 46. -/
def Obligations.Pacing : Prop :=
  (∀ (s : State) (k : EncKind), s.devUp = true → k ≠ .both →
    ∃ t, exec (.encEdge k) s = .next t ∧
      t.rd .pace PACE.ENC_POS = (s.rd .pace PACE.ENC_POS +
        if (k == .forward) != s.on .pace PACE.CTRL_DIR_INV then 1 else 2 ^ 48 - 1) % 2 ^ 48 ∧
      (s.rd .pace PACE.CTRL_MODE ≠ 1 → t.pace.ticks = s.pace.ticks ∧ t.pace.acc = s.pace.acc) ∧
      (s.rd .pace PACE.CTRL_MODE = 1 →
        t.pace.ticks = s.pace.ticks + if ((k == .forward) != s.on .pace PACE.CTRL_DIR_INV) = true ∧
          (s.rd .pace PACE.RATIO_DEN : Int) ≤ s.pace.acc + s.rd .pace PACE.RATIO_NUM then 1 else 0) ∧
      OnlyFields [(.pace, PACE.ENC_POS, 0), (.pace, PACE.STAT_REVERSE, 0), (.pace, HDR.PG_EVT_RAW, 0)]
        { s with pace := { s.pace with acc := t.pace.acc, ticks := t.pace.ticks, zNet := t.pace.zNet } } t) ∧
  (∀ s : State, s.devUp = true →
    ∃ t, exec (.encEdge .both) s = .next t ∧ t.errorShown .pace = s.errorAfter .pace 0x20 ∧
      t.rd .pace PACE.ERR_WL = s.rd .pace PACE.WL % 2 ^ 48 ∧ t.event .pace 13 = true ∧
      OnlyFields ([(.pace, PACE.PHASE_CNT, 0), (.pace, PACE.ERR_WL, 0)] ++ errorFields .pace) s t) ∧
  (∀ (s : State) (n : Int), s.devUp = true → s.on .pace PACE.CTRL_Z_EN = true → s.pace.zNet = some n →
    n ≠ s.rd .pace PACE.Z_EDGES →
    ∃ t, exec .encIndex s = .next t ∧ t.errorShown .pace = s.errorAfter .pace 0x21 ∧ t.event .pace 13 = true ∧
      OnlyFields ([(.pace, PACE.Z_CNT, 0), (.pace, PACE.ERR_WL, 0)] ++ errorFields .pace)
        { s with pace := { s.pace with zNet := some 0 } } t) ∧
  (∀ s : State, s.devUp = true → s.on .pace PACE.CTRL_Z_EN = false ∨ s.pace.zNet = none ∨
      s.pace.zNet = some (s.rd .pace PACE.Z_EDGES : Int) →
    exec .encIndex s = .next { s with pace := { s.pace with zNet := some 0 } }) ∧
  (∀ s : State, s.devUp = true → s.rd .pace PACE.CTRL_MODE = 3 → s.pace.intAt + s.rd .pace PACE.INT_PER ≤ s.dclk →
    exec .internalTick s = .next { s with pace := { s.pace with
      ticks := s.pace.ticks + 1, intAt := s.pace.intAt + s.rd .pace PACE.INT_PER } }) ∧
  (∀ s : State, s.dclk < s.pace.intAt + s.rd .pace PACE.INT_PER → exec .internalTick s = .next s) ∧
  (∀ (s : State) (req : Req) (wl : BitVec 48), s.open_ req .pace = true → s.pageActive = false →
    ∃ t, exec (.wlLoad req wl) s = .next t ∧ t.rd .pace PACE.WL = wl.toNat ∧
      OnlyFields [(.pace, PACE.WL, 0)] { s with
        reply := .posted req.code
        pace := { s.pace with tofWl := s.pace.tofWl.map fun w => w + ((wl.toNat : Int) - s.rd .pace PACE.WL) } } t) ∧
  (∀ (s : State) (req : Req) (wl : BitVec 48), s.open_ req .pace = true → s.pageActive = true →
    ∃ t, exec (.wlLoad req wl) s = .next t ∧ t.errorShown .pace = s.errorAfter .pace 0x22 ∧
      OnlyFields (errorFields .pace) { s with reply := .posted req.code } t) ∧
  (∀ (s : State) (w : Int), s.devUp = true → s.pace.tofWl = some w →
    s.rd .pace PACE.WL < w + s.rd .pace PACE.TOF_CTRL_MIN_WL →
    ∃ t, exec .tofEdge s = .next t ∧ t.rd .pace PACE.TOF_IGN = min (s.rd .pace PACE.TOF_IGN + 1) (2 ^ 32 - 1) ∧
      OnlyFields [(.pace, PACE.TOF_IGN, 0)] s t) ∧
  (∀ s : State, s.devUp = true →
    (∀ w, s.pace.tofWl = some w → w + s.rd .pace PACE.TOF_CTRL_MIN_WL ≤ s.rd .pace PACE.WL) →
    ∃ t, exec .tofEdge s = .next t ∧ t.rd .pace PACE.TOF_CNT = min (s.rd .pace PACE.TOF_CNT + 1) (2 ^ 32 - 1) ∧
      t.event .pace 14 = true ∧
      OnlyFields [(.pace, PACE.TOF_CNT, 0), (.pace, HDR.PG_EVT_RAW, 0)]
        { s with
          pace := { s.pace with tofWl := some (s.rd .pace PACE.WL : Int) }
          intake := (s.pageTrig fun d => d.mode == 2).intake } t) ∧
  (∀ (s : State) (q : Nat), s.devUp = true → s.on .pace PACE.STAT_SLOWREQ = true → s.slowSource = false →
    s.pace.quietFrom = some q → q + 500000 * s.rd .pace PACE.SLOW_HOLD_MS ≤ s.dclk →
    ∃ t, exec .slowreqRelease s = .next t ∧ t.on .pace PACE.STAT_SLOWREQ = false ∧ t.event .pace 9 = true ∧
      OnlyFields [(.pace, PACE.STAT_SLOWREQ, 0), (.pace, HDR.PG_EVT_RAW, 0)] s t) ∧
  (∀ (s : State) (q : Nat), s.pace.quietFrom = some q → s.dclk < q + 500000 * s.rd .pace PACE.SLOW_HOLD_MS →
    exec .slowreqRelease s = .next s) ∧
  (∀ s : State, s.devUp = true → s.on .pace PACE.STAT_STOPPED = false → s.pace.ticks = 0 →
    s.pace.tickAt + 500000 * s.rd .pace PACE.SLOW_STOP_MS ≤ s.dclk →
    ∃ t, exec .paceStopped s = .next t ∧ t.on .pace PACE.STAT_STOPPED = true ∧ t.event .pace 11 = true ∧
      OnlyFields [(.pace, PACE.STAT_STOPPED, 0), (.pace, HDR.PG_EVT_RAW, 0)]
        { s with pace := { s.pace with fresh := true } } t) ∧
  (∀ s : State, s.dclk < s.pace.tickAt + 500000 * s.rd .pace PACE.SLOW_STOP_MS → exec .paceStopped s = .next s)

/-- R24, R28, R180, R181, R182, R186, R187, R188, R272, R278, R282. A line tick advances the web line counter and the pace
unit's figures; a write of MODE starts the unit afresh; LST.START starts the next page in mode 3 and is an error for any
other. The next page at its start tick: one that is not ready waits, one that fails a check is rejected; nozzle words
outside the printed area are blank, and those of a pre-screened plane have PRE set and carry a level. The model's own
choices among these clauses are log entries 14, 23, 93. -/
def Obligations.LineTicksAndPageStarts : Prop :=
  (∀ s : State, s.devUp = true → 0 < s.pace.ticks → s.commits = [] → s.intake.pages = [] →
    s.lanes.toList.all (fun h => h.due.isEmpty) = true →
    ∃ t, exec .lineTick s = .next t ∧ t.rd .pace PACE.WL = (s.rd .pace PACE.WL + 1) % 2 ^ 48 ∧
      t.rd .pace PACE.TICK_TIME = s.time % 2 ^ 64 ∧ t.on .pace PACE.STAT_STOPPED = false ∧
      (s.on .pace PACE.STAT_STOPPED = true → t.event .pace 12 = true) ∧ t.pace.ticks = s.pace.ticks - 1 ∧
      t.pace.last = some s.dclk ∧ t.pace.fresh = false ∧
      OnlyFields [(.pace, PACE.WL, 0), (.pace, PACE.TICK_TIME, 0), (.pace, PACE.PERIOD, 0), (.pace, PACE.PERIOD_MIN, 0),
        (.pace, PACE.STAT_SRC_RATE, 0), (.pace, PACE.STAT_SRC_FSAFE, 0), (.pace, PACE.OVS_CNT, 0), (.pace, PACE.STAT_STOPPED, 0),
        (.pace, PACE.STAT_SLOWREQ, 0), (.pace, PACE.SLOW_CNT, 0), (.pace, HDR.PG_EVT_RAW, 0)] { s with pace := t.pace } t) ∧
  (∀ s : State, s.devUp = false ∨ s.pace.ticks = 0 → exec .lineTick s = .next s) ∧
  (∀ (s : State) (l : Lane) (d : Due), s.devUp = true → 0 < s.pace.ticks → s.commits = [] → s.intake.pages = [] →
    s.lanes[l].due = [d] → d.tag.tick = s.rd .pace PACE.WL + 1 → s.rd .pace PACE.WL + 1 < 2 ^ 48 →
    ∃ t, exec .lineTick s = .next t ∧ t.lanes[l].due = [{ d with
      instant := some (s.dclk + 3 + s.rd (.seq l) SEQ.PHASE_FRAC * (match s.pace.gap with
        | some g => min g 65535
        | none => s.rd (.seq l) SEQ.TMIN) / 256) }]) ∧
  (∀ (s : State) (req : Req) (data : Word), s.open_ req .pace = true → s.judge .pace 0x40 data.toNat = none →
    s.rd .pace PACE.RATIO_NUM ≤ s.rd .pace PACE.RATIO_DEN →
    ∃ t, exec (.paceModeWrite req data) s = .next t ∧ t.rd .pace PACE.CTRL_MODE = data.toNat % 4 ∧
      t.pace = { s.pace with
        acc := 0, last := none, gap := none, short := false, fresh := true, interval := none
        intAt := s.dclk, quietFrom := t.pace.quietFrom } ∧
      t.rd .pace HDR.PG_STAT_STATE = data.toNat % 4 ∧ t.intake.prevKnown = false ∧ OtherPages [.pace, .ax 0, .pair] s t) ∧
  (∀ (s : State) (req : Req) (data : Word), s.open_ req .pace = true → s.judge .pace 0x40 data.toNat = none →
    s.rd .pace PACE.RATIO_DEN < s.rd .pace PACE.RATIO_NUM → data.toNat % 4 = 1 ∨ data.toNat % 4 = 2 →
    ∃ t, exec (.paceModeWrite req data) s = .next t ∧ t.errorShown .pace = s.errorAfter .pace 0x23 ∧
      OnlyFields (errorFields .pace) { s with reply := .posted req.code } t) ∧
  (∀ (s : State) (req : Req) (id : Word) (q : PageSt), s.ready req .lst = true → s.nextPage = some q →
    q.desc.id = id.toNat → q.desc.mode = 3 → q.cancel = false →
    exec (.lstStart req id) s = .next { s with
      reply := .posted req.code
      intake := { s.intake with pages := s.intake.pages.map fun p => if p.ord = q.ord then { p with go := true } else p } }) ∧
  (∀ (s : State) (req : Req) (id : Word), s.ready req .lst = true →
    (∀ q, s.nextPage = some q → q.desc.id ≠ id.toNat ∨ q.desc.mode ≠ 3) →
    ∃ t, exec (.lstStart req id) s = .next t ∧ t.errorShown .lst = s.errorAfter .lst 0x29 ∧
      OnlyFields (errorFields .lst) { s with reply := .posted req.code } t) ∧
  (∀ (s : State) (q : PageSt) (x : Nat), s.nextPage = some q → s.startLine q = some x → x ≤ s.rd .pace PACE.WL →
    s.pageReady q = false → s.on .lst LST.CTRL_LATE_REJECT = false → q.moved = false →
    (s.tryStart).rd .lst LST.WAIT_CNT = min (s.rd .lst LST.WAIT_CNT + 1) (2 ^ 32 - 1) ∧
      (s.tryStart).event .lst 13 = true ∧ (s.tryStart).pageActive = s.pageActive ∧ (s.tryStart).lanes = s.lanes) ∧
  (∀ (s : State) (q : PageSt) (x : Nat), s.nextPage = some q → s.startLine q = some x → s.rd .pace PACE.WL < x →
    (s.tryStart).regs = s.regs ∧ (s.tryStart).lanes = s.lanes) ∧
  (∀ (d : DealIn) (w x : Nat), x < d.x0 ∨ d.x0 + d.width * d.desc.rep d.plane ≤ x →
    d.word w x = if d.desc.pre d.plane then 0xC000 else 0x8000) ∧
  (∀ (d : DealIn) (w x : Nat), d.desc.pre d.plane = true → d.x0 ≤ x → x < d.x0 + d.width →
    0x4000 ≤ d.word w x ∧ d.word w x < 0x4008)

/-- R385, R386, R387, R388, R390, R391. An entry at the front of the Den's write queue takes the ring slot HEAD, HEAD and
NEXT_SEQ advance, and nothing else changes but the counts of entries. The Den's rate limit and a firmware entry. The model's
own choices among these clauses are log entries 50, 51. -/
def Obligations.DenRecord : Prop :=
  (∀ (s : State) (e : DenReq), s.rd .den HDR.PG_STAT_STATE = 1 → s.den.cur = some e → s.den.curAt + 800 ≤ s.dclk →
    e.type ≠ 1 → (s.denPins e && !e.pinned) = false → s.den.dropped = 0 → s.den.rdWait = none →
    (∀ x ∈ s.den.queue, x.type ≠ 9) → s.rd .den DEN.HEAD < 4096 → s.rd .den DEN.NEXT_SEQ < 2 ^ 32 →
    ∃ t, exec (.denEntryWritten none none) s = .next t ∧
      t.rd .den DEN.HEAD = (if s.rd .den DEN.HEAD = 4095 then 128 else s.rd .den DEN.HEAD + 1) ∧
      t.rd .den DEN.NEXT_SEQ = (s.rd .den DEN.NEXT_SEQ + 1) % 2 ^ 32 ∧
      t.rd .den DEN.WR_CNT = min (s.rd .den DEN.WR_CNT + 1) (2 ^ 32 - 1) ∧
      OnlyFields [(.den, DEN.HEAD, 0), (.den, DEN.NEXT_SEQ, 0), (.den, DEN.WR_CNT, 0), (.den, DEN.OVW_CNT, 0),
          (.den, DEN.OLDEST_SLOT, 0), (.den, DEN.OLDEST_COUNT, 0)]
        { s with den := { s.den with cur := s.den.queue.head?, queue := s.den.queue.tail, curAt := t.den.curAt
                                     mram := denPut s.den.mram (s.rd .den DEN.HEAD) (.entry (denRaw e.payload
            (s.rd .den DEN.NEXT_SEQ) e.type e.src (denFlags false e.hw e.pinned) e.time)) } } t) ∧
  (∀ (s : State) (e : DenReq), s.rd .den HDR.PG_STAT_STATE = 1 → s.den.cur = some e → s.dclk < s.den.curAt + 800 →
    exec (.denEntryWritten none none) s = .next s) ∧
  (∀ (s : State) (e : DenReq) (q : List DenReq) (k : Nat), s.rd .den HDR.PG_STAT_STATE = 0 → s.den.queue = e :: q →
    e.type = 1 → e.pinned = false → s.denPins e = true → denFreePin s.den.mram = some k →
    e.at_ + 800 ≤ s.dclk →
    ∃ t seq, exec (.denEntryWritten none none) s = .next t ∧
      OnlyFields [] { s with den := { s.den with queue := { e with pinned := true } :: q
                                                 mram := denPut s.den.mram k (.entry (denRaw e.payload seq 1 e.src
            (denFlags true e.hw false) e.time)) } } t) ∧
  (∀ s : State, s.devUp = true → s.rd .den HDR.PG_STAT_STATE = 0 →
    ∃ t, exec .denScanDone s = .next t ∧ t.rd .den HDR.PG_STAT_STATE = 1 ∧ t.event .den 11 = true ∧
      (denRing s.den.mram = [] → t.rd .den DEN.HEAD = 128 ∧ t.rd .den DEN.NEXT_SEQ = 1) ∧
      (∀ e, denNewest (denRing s.den.mram) = some e → e.1 < 4096 →
        t.rd .den DEN.HEAD = (if e.1 = 4095 then 128 else e.1 + 1) ∧
          t.rd .den DEN.NEXT_SEQ = (e.2.seq + 1) % 2 ^ 32) ∧
      OnlyFields [(.den, DEN.HEAD, 0), (.den, DEN.NEXT_SEQ, 0), (.den, DEN.OLDEST_SLOT, 0), (.den, DEN.OLDEST_COUNT, 0),
        (.den, DEN.STAT_PIN_USED, 0), (.den, DEN.STAT_PIN_FULL, 0), (.den, DEN.SCAN_BAD, 0), (.den, DEN.SCAN_EMPTY, 0),
        (.den, HDR.PG_STAT_STATE, 0), (.den, HDR.PG_EVT_RAW, 0)] { s with den := t.den } t ∧ t.den.mram = s.den.mram) ∧
  (∀ (s : State) (req : Req) (data : Word), s.open_ req .den = true → data.toNat < 4096 → s.den.cur = none →
    ∃ t, exec (.denRdSlot req data) s = .next t ∧
      (∀ i, i < 16 → t.rd .den DEN.RD_DATA i = (denAt s.den.mram data.toNat).raw.toNat / 2 ^ (32 * i) % 2 ^ 32) ∧
      t.on .den DEN.RD_STAT_DONE = true ∧ t.on .den DEN.RD_STAT_VALID = (denAt s.den.mram data.toNat).valid ∧
      OnlyFields ([(.den, DEN.RD_STAT_DONE, 0), (.den, DEN.RD_STAT_VALID, 0)] ++
          (List.range 16).map fun i => (.den, DEN.RD_DATA, i))
        { s with reply := .posted req.code, den := { s.den with rdWait := none } } t) ∧
  (∀ (s : State) (req : Req) (data : Word), s.open_ req .den = true → data.toNat < 4096 → s.den.cur.isSome = true →
    data.toNat = s.rd .den DEN.HEAD →
    ∃ t, exec (.denRdSlot req data) s = .next t ∧ t.on .den DEN.RD_STAT_DONE = false ∧
      OnlyFields [(.den, DEN.RD_STAT_DONE, 0), (.den, DEN.RD_STAT_VALID, 0)]
        { s with reply := .posted req.code, den := { s.den with rdWait := some data.toNat } } t) ∧
  (∀ s : State, s.devUp = true → 500000000 ≤ (s.dclk - s.den.tokAt) * s.rd .den DEN.CTRL →
    ∃ t, exec .denTokenRefill s = .next t ∧ t.den.tokens = min (s.den.tokens + 1) (s.rd .den DEN.CTRL) ∧
      t.den.tokAt = s.dclk ∧ t.den.mram = s.den.mram ∧ OnlyFields [] { s with den := t.den } t) ∧
  (∀ s : State, (s.dclk - s.den.tokAt) * s.rd .den DEN.CTRL < 500000000 → exec .denTokenRefill s = .next s) ∧
  (∀ (s : State) (req : Req) (data : Word), s.open_ req .den = true →
    1 ≤ data.toNat % 2 ^ 11 → data.toNat % 2 ^ 11 ≤ 1000 →
    ∃ t, exec (.denRateWrite req data) s = .next t ∧ t.rd .den DEN.CTRL = data.toNat % 2 ^ 11 ∧
      t.den.tokens = min s.den.tokens (data.toNat % 2 ^ 11) ∧ t.den.mram = s.den.mram ∧
      OnlyFields [(.den, DEN.CTRL, 0)] { s with reply := .posted req.code, den := t.den } t) ∧
  (∀ (s : State) (req : Req), s.open_ req .den = true → 0x8000 ≤ s.rd .den DEN.FW_TYPE →
    s.den.queue.all (fun e => e.hw) = true → s.on .den HDR.PG_CTRL_EN = true → s.rd .den HDR.PG_STAT_STATE ≠ 0 →
    s.den.tokens ≠ 0 → s.den.queue.length < 16 → s.den.dropped = 0 → s.den.cur.isSome = true →
    exec (.denFwGo req) s = .next { s with
      reply := .posted req.code
      den := { s.den with
        tokens := s.den.tokens - 1
        queue := denInsert s.den.queue { type := s.rd .den DEN.FW_TYPE, src := 6, hw := false, payload := s.fwPayload,
                                         time := s.time, at_ := s.dclk } } }) ∧
  (∀ (s : State) (req : Req), s.open_ req .den = true →
    ∃ t, exec (.denFwGo req) s = .next t ∧
      (s.rd .den DEN.FW_TYPE < 0x8000 → t.errorShown .den = s.errorAfter .den 0x03) ∧
      (0x8000 ≤ s.rd .den DEN.FW_TYPE → s.den.queue.any (fun e => !e.hw) = true →
        t.errorShown .den = s.errorAfter .den 0x20) ∧
      (0x8000 ≤ s.rd .den DEN.FW_TYPE → s.den.queue.any (fun e => !e.hw) = false → s.on .den HDR.PG_CTRL_EN = false →
        t.errorShown .den = s.errorAfter .den 0x07) ∧
      (0x8000 ≤ s.rd .den DEN.FW_TYPE → s.den.queue.any (fun e => !e.hw) = false → s.on .den HDR.PG_CTRL_EN = true →
        s.rd .den HDR.PG_STAT_STATE = 0 → t.errorShown .den = s.errorAfter .den 0x21))

/-- R89, R156, R161, R167, R169, R170, R171, R172, R174. A spool read answers its burst, corrected or not; a burst that holds
poison, or an uncorrectable read, gets no data: the error UE is recorded. An address that its user does not reach is
refused; under panic a port but P1 waits; a request in self-refresh starts the exit and is held. A write of a burst stores
the bytes its mask names and no other, and discards a waiting write-back of the burst; a poisoned write leaves every byte
and marks the burst; intake does not reach the carve-out. The model's own choices among these clauses are log entries 60,
63. -/
def Obligations.SpoolBursts : Prop :=
  (∀ (s : State) (user : SpoolUser) (addr : BitVec 36) (wait : BitVec 16), s.devUp = true →
    s.ddrState = ddrActive → s.ddr.forSett = false → s.ddr.queue = [] → s.on .ddr DDR.STAT_PANIC = false →
    s.portReaches user addr.toNat = true →
    s.ddr.poison.contains (addr.toNat / 64) = false →
    ∃ t, exec (.spoolReadReturn user addr .clean wait) s = .next t ∧
      OnlyFields [(.ddr, DDR.STALL_MAX, 0)] { s with
        reply := .burst user.port (BitVec.ofNat 512 (Memory.readNat s.ddr.mem (addr.toNat / 64 * 64) 64))
        ddr := { s.ddr with rows := t.ddr.rows, turn := t.ddr.turn, lastReq := s.dclk } } t) ∧
  (∀ (s : State) (user : SpoolUser) (addr : BitVec 36) (dev : BitVec 5) (wait : BitVec 16), s.devUp = true →
    s.ddrState = ddrActive → s.ddr.forSett = false → s.ddr.queue = [] → s.on .ddr DDR.STAT_PANIC = false →
    s.portReaches user addr.toNat = true →
    s.ddr.poison.contains (addr.toNat / 64) = false → (s.writeBacks (subOf addr.toNat)).length < 8 →
    ∃ t, exec (.spoolReadReturn user addr (.corrected dev) wait) s = .next t ∧
      t.rd .ddr DDR.CE_CNT = min (s.rd .ddr DDR.CE_CNT + 1) (2 ^ 32 - 1) ∧ t.event .ddr 8 = true ∧
      OnlyFields ([(.ddr, DDR.STALL_MAX, 0), (.ddr, DDR.CE_CNT, 0), (.ddr, DDR.LAST_CE, 0), (.ddr, HDR.PG_EVT_RAW, 0)] ++
          (List.range 5).map fun k => (.ddrs (subOf addr.toNat), DDRS.CE_DEV, k))
        { s with
          reply := .burst user.port (BitVec.ofNat 512 (Memory.readNat s.ddr.mem (addr.toNat / 64 * 64) 64))
          ddr := { s.ddr with
            writeBack := s.ddr.writeBack ++ [addr.toNat / 64], rows := t.ddr.rows, turn := t.ddr.turn, lastReq := s.dclk } } t) ∧
  (∀ (s : State) (user : SpoolUser) (addr : BitVec 36) (kind : ReadKind) (wait : BitVec 16), s.devUp = true →
    s.ddrState = ddrActive → s.ddr.forSett = false → s.ddr.queue = [] → s.on .ddr DDR.STAT_PANIC = false →
    s.portReaches user addr.toNat = true →
    (s.ddr.poison.contains (addr.toNat / 64) = true ∨ ∃ dev, kind = .uncorrectable dev) →
    ∃ t, exec (.spoolReadReturn user addr kind wait) s = .next t ∧ t.errorShown .ddr = s.errorAfter .ddr 0x20 ∧
      t.event .ddr 9 = true ∧ t.rd .ddr DDR.UE_CNT = min (s.rd .ddr DDR.UE_CNT + 1) (2 ^ 32 - 1) ∧
      t.reply = (match user with
        | .core k => .accessFault (Req.app k).code
        | _ => .spoolError user.port) ∧ t.ddr.mem = s.ddr.mem ∧ t.ddr.queue = []) ∧
  (∀ (s : State) (user : SpoolUser) (addr : BitVec 36) (kind : ReadKind) (wait : BitVec 16), s.devUp = true →
    s.portReaches user addr.toNat = false →
    exec (.spoolReadReturn user addr kind wait) s = .next (s.portError user)) ∧
  (∀ (s : State) (user : SpoolUser) (addr : BitVec 36) (kind : ReadKind) (wait : BitVec 16), s.devUp = true →
    s.ddrState = ddrActive → s.ddr.forSett = false → s.ddr.queue = [] → s.on .ddr DDR.STAT_PANIC = true → user.port ≠ 1 →
    s.portReaches user addr.toNat = true →
    exec (.spoolReadReturn user addr kind wait) s = .next { s with ddr := { s.ddr with
      lastReq := s.dclk, queue := [{ user, addr := addr.toNat, op := .read kind wait.toNat }] } }) ∧
  (∀ (s : State) (user : SpoolUser) (addr : BitVec 36) (kind : ReadKind) (wait : BitVec 16), s.devUp = true →
    s.ddrState = ddrSelf → s.ddr.forSett = false → s.ddr.queue = [] → s.portReaches user addr.toNat = true →
    ∃ t, exec (.spoolReadReturn user addr kind wait) s = .next t ∧ t.ddrState = ddrExit ∧
      t.ddr.queue = [{ user, addr := addr.toNat, op := .read kind wait.toNat }] ∧ t.reply = s.reply) ∧
  (∀ (s : State) (user : SpoolUser) (addr : BitVec 36) (data : BitVec 512) (mask : BitVec 64), s.devUp = true →
    s.ddrState = ddrActive → s.ddr.forSett = false → s.ddr.queue = [] → s.on .ddr DDR.STAT_PANIC = false →
    s.portReaches user addr.toNat = true →
    (mask = BitVec.allOnes 64 ∨ s.ddr.poison.contains (addr.toNat / 64) = false) →
    ∃ t, exec (.spoolWriteAck user addr data mask false false) s = .next t ∧
      (∀ i, i < 64 → Memory.read t.ddr.mem (addr.toNat / 64 * 64 + i) =
        if mask.toNat.testBit i then BitVec.ofNat 8 (data.toNat / 2 ^ (8 * i))
        else Memory.read s.ddr.mem (addr.toNat / 64 * 64 + i)) ∧
      (∀ a, a < addr.toNat / 64 * 64 ∨ addr.toNat / 64 * 64 + 64 ≤ a →
        Memory.read t.ddr.mem a = Memory.read s.ddr.mem a) ∧
      t.ddr.poison.contains (addr.toNat / 64) = false ∧ t.ddr.writeBack.contains (addr.toNat / 64) = false ∧
      OnlyFields [] { s with ddr := t.ddr } t) ∧
  (∀ (s : State) (user : SpoolUser) (addr : BitVec 36) (data : BitVec 512) (mask : BitVec 64) (ue : Bool),
    s.devUp = true →
    s.ddrState = ddrActive → s.ddr.forSett = false → s.ddr.queue = [] → s.on .ddr DDR.STAT_PANIC = false →
    s.portReaches user addr.toNat = true →
    ∃ t, exec (.spoolWriteAck user addr data mask true ue) s = .next t ∧ t.ddr.mem = s.ddr.mem ∧
      t.ddr.poison.contains (addr.toNat / 64) = true ∧ OnlyFields [] { s with ddr := t.ddr } t) ∧
  (∀ (s : State) (user : SpoolUser) (addr : BitVec 36) (data : BitVec 512) (mask : BitVec 64) (poison ue : Bool),
    s.devUp = true → s.portReaches user addr.toNat = false →
    exec (.spoolWriteAck user addr data mask poison ue) s = .next (s.portError user))

/-- R162, R163, R166, R167, R168, R173, R192. Refresh, the temperature poll and panic. Self-refresh entry and exit, and the
patrol scrub. -/
def Obligations.SpoolRefreshAndUpkeep : Prop :=
  (∀ (s : State) (k : Fin 4) (rank : Fin 2), s.devUp = true → s.ddrState = ddrActive →
    (rank = 0 ∨ s.on .ddr DDR.CFG_RANK2 = true) → s.on .ddr DDR.STAT_PANIC = false → s.ddr.tickAt[tickIx k rank] ≤ s.dclk →
    ∃ t, exec (.refreshTick k rank) s = .next t ∧
      (∀ (j : Fin 4) (r : Fin 2), t.rd (.ddrs j) (owedRow r) = 0) ∧
      t.rd (.ddrs k) DDRS.REF_CNT = min (s.rd (.ddrs k) DDRS.REF_CNT + (s.rd (.ddrs k) (owedRow rank) + 1) % 8 +
        s.rd (.ddrs k) (owedRow (1 - rank))) (2 ^ 32 - 1) ∧
      t.ddr.tickAt[tickIx k rank] = s.dclk + s.tickGap k ∧ t.ddr.mem = s.ddr.mem ∧
      OnlyFields ((.ddr, DDR.REF_CTRL_MAX_POSTPONE_ACT, 0) :: refreshFields) { s with ddr := t.ddr } t) ∧
  (∀ (s : State) (k : Fin 4) (rank : Fin 2), s.devUp = true → s.ddrState = ddrActive →
    (rank = 0 ∨ s.on .ddr DDR.CFG_RANK2 = true) → s.on .ddr DDR.STAT_PANIC = true → s.ddr.tickAt[tickIx k rank] ≤ s.dclk →
    s.rd .ddr DDR.STAT_HOT = 0 →
    (∀ (j : Fin 4) (r : Fin 2), s.rd (.ddrs j) (owedRow r) < s.rd .ddr DDR.REF_CTRL_MAX_POSTPONE) →
    ∃ t, exec (.refreshTick k rank) s = .next t ∧
      t.rd (.ddrs k) (owedRow rank) = s.rd (.ddrs k) (owedRow rank) + 1 ∧
      OnlyFields [(.ddr, DDR.REF_CTRL_MAX_POSTPONE_ACT, 0), (.ddrs k, owedRow rank, 0)] { s with ddr := t.ddr } t) ∧
  (∀ (s : State) (k : Fin 4) (rank0 rank1 : Mr4 × BitVec 8) (osc : BitVec 16), s.devUp = true → s.ddrState = ddrActive →
    s.on .ddr DDR.CFG_RANK2 = false → rank0.1 = .x2 → (s.rd .ddr DDR.STAT_HOT).testBit k.val = false →
    s.ddr.pollAt[k] ≤ s.dclk →
    ∃ t, exec (.mr4Poll k rank0 rank1 osc) s = .next t ∧ t.rd (.ddrs k) DDRS.TEMP_RANGE = 1 ∧
      t.rd (.ddrs k) DDRS.OWED_RANK0 = 0 ∧ t.rd (.ddrs k) DDRS.OWED_RANK1 = 0 ∧
      t.rd .ddr DDR.REF_CTRL_MAX_POSTPONE_ACT = 0 ∧ t.event .ddr 11 = true ∧
      OnlyFields ([(.ddr, DDR.STAT_HOT, 0), (.ddr, DDR.HOT_CNT, 0), (.ddr, DDR.REF_CTRL_MAX_POSTPONE_ACT, 0),
          (.ddr, HDR.PG_EVT_RAW, 0), (.ddrs k, DDRS.TEMP_MR4, 0), (.ddrs k, DDRS.TEMP_RANGE, 0), (.ddrs k, HDR.PG_EVT_RAW, 0)] ++
          refreshFields)
        { s with cal := t.cal, ddr := t.ddr } t) ∧
  (∀ s : State, s.devUp = true → s.on .ddr DDR.STAT_PANIC = false → s.panicDue = true →
    ∃ t, exec .panicAssert s = .next t ∧ t.on .ddr DDR.STAT_PANIC = true ∧ t.event .ddr 10 = true ∧
      t.rd .ddr DDR.PANIC_CNT = min (s.rd .ddr DDR.PANIC_CNT + 1) (2 ^ 32 - 1) ∧
      OnlyFields [(.ddr, DDR.STAT_PANIC, 0), (.ddr, DDR.PANIC_CNT, 0), (.ddr, HDR.PG_EVT_RAW, 0)] s t) ∧
  (∀ s : State, s.panicDue = false → exec .panicAssert s = .next s) ∧
  (∀ s : State, s.panicOver = false → exec .panicRelease s = .next s) ∧
  (∀ s : State, s.devUp = true → s.on .ddr DDR.STAT_PANIC = true → s.panicOver = true →
    ∃ t, exec .panicRelease s = .next t ∧ t.on .ddr DDR.STAT_PANIC = false ∧
      (∀ k : Fin 4, t.rd (.ddrs k) DDRS.OWED_RANK0 = 0 ∧ t.rd (.ddrs k) DDRS.OWED_RANK1 = 0) ∧
      t.ddr.mem = s.ddr.mem ∧ OnlyFields ((.ddr, DDR.STAT_PANIC, 0) :: refreshFields) { s with ddr := t.ddr } t) ∧
  (∀ s : State, s.devUp = true → s.ddrState = ddrEntry → s.cal.runs.all (fun r => r.item != 7) = true →
    s.ddr.queue = [] →
    ∃ t, exec .srDrainDone s = .next t ∧ t.ddrState = ddrSelf ∧ t.event .ddr 13 = true ∧
      OnlyFields spoolStateFields { s with
        power := { s.power with sreIssued := s.power.sreIssued || s.ddr.forSett }
        ddr := { s.ddr with rows := t.ddr.rows } } t) ∧
  (∀ s : State, s.ddr.queue ≠ [] → exec .srDrainDone s = .next s) ∧
  (∀ s : State, s.devUp = true → s.ddr.forSett = false → s.ddrState = ddrEntry →
    ∃ t, exec .srExit s = .next t ∧ t.ddrState = ddrActive ∧ t.event .ddr 15 = true ∧
      t.rd .ddr DDR.SR_ABORT = min (s.rd .ddr DDR.SR_ABORT + 1) (2 ^ 32 - 1) ∧
      OnlyFields ((.ddr, DDR.SR_ABORT, 0) :: spoolStateFields) s t) ∧
  (∀ s : State, s.devUp = true → s.ddr.forSett = false → s.ddrState = ddrSelf →
    s.cal.runs.all (fun r => r.item != 7) = true →
    ∃ t, exec .srExit s = .next t ∧ t.ddrState = ddrExit ∧ OnlyFields spoolStateFields s t) ∧
  (∀ s : State, s.devUp = true → s.ddrState = ddrExit →
    ∃ t, exec .srExitDone s = .next t ∧ t.ddrState = ddrActive ∧ t.event .ddr 14 = true ∧
      (∀ k : Fin 4, t.rd (.ddrs k) DDRS.OWED_RANK0 = 0 ∧ t.rd (.ddrs k) DDRS.OWED_RANK1 = 0) ∧
      OnlyFields spoolStateFields { s with ddr := t.ddr } t) ∧
  (∀ s : State, s.devUp = true → s.ddrState = ddrActive → s.on .ddr DDR.SCRUB_EN = true →
    s.ddr.poison.contains (s.rd .ddr DDR.SCRUB_POS) = false → s.rd .ddr DDR.SCRUB_POS < 2 ^ 30 - 1 →
    s.ddr.queue = [] → s.ddr.scrubAt ≤ s.dclk →
    ∃ t, exec (.scrubRead .clean) s = .next t ∧
      t.rd .ddr DDR.SCRUB_POS = (if s.spoolSize ≤ s.rd .ddr DDR.SCRUB_POS * 64 + 64 then 0
        else s.rd .ddr DDR.SCRUB_POS + 1) ∧
      OnlyFields [(.ddr, DDR.SCRUB_POS, 0), (.ddr, DDR.SCRUB_PASS, 0), (.ddr, HDR.PG_STAT_OVERDUE, 0),
        (.ddr, HDR.PG_EVT_RAW, 0)]
        { s with ddr := { s.ddr with rows := t.ddr.rows, scrubAt := s.dclk + s.scrubGap } } t)

/-- R290, R292, R293, R294, R295. The commands of an axis that its block accepts: homing, stopping, clearing a fault, sleep and
wake. The model's own choices among these clauses are log entry 24. -/
def Obligations.AxisCommands : Prop :=
  (∀ (s : State) (req : Req) (a : Axis), s.ready req (.ax a) = true → s.shadow = false → s.axSt a ≠ axFault →
    s.axSt a ≠ axHoming →
    ∃ t, exec (.axHome req a) s = .next t ∧ t.axSt a = axHoming ∧ t.axes[a].move = none ∧ t.axes[a].homeSteps = 0 ∧
      t.axes[a].homing = (if s.homeSignal a then .backoff else .seek) ∧
      t.on (.ax a) AX.STAT_ASLEEP = (s.on (.ax a) AX.STAT_ASLEEP && !s.drvMay) ∧
      OnlyFields [(.ax a, AX.STAT_AT_TARGET, 0), (.ax a, AX.STAT_HELD, 0), (.ax a, AX.STAT_ASLEEP, 0),
          (.ax a, HDR.PG_STAT_STATE, 0), (.ax a, HDR.PG_EVT_RAW, 0)]
        ({ s with reply := .posted req.code }.modAxis a fun h => { h with
          move := none, ramp := false, homing := t.axes[a].homing, homeSteps := 0
          amax := s.rd (.ax a) AX.AMAX, dmax := s.rd (.ax a) AX.DMAX, jmax := s.rd (.ax a) AX.JMAX
          holdUntil := if s.on (.ax a) AX.STAT_ASLEEP && s.drvMay then s.dclk + 500 * s.rd (.ax a) AX.WAKE
            else h.holdUntil }) t) ∧
  (∀ (s : State) (req : Req) (a : Axis), s.ready req (.ax a) = true → s.shadow = false →
    s.axSt a = axFault ∨ s.axSt a = axHoming →
    ∃ t, exec (.axHome req a) s = .next t ∧ t.errorShown (.ax a) = s.errorAfter (.ax a) 0x22 ∧
      OnlyFields (errorFields (.ax a)) { s with reply := .posted req.code } t) ∧
  (∀ (s : State) (req : Req) (a : Axis), s.ready req (.ax a) = true → s.shadow = false → s.axSt a = axMoving →
    ∃ t, exec (.axStop req a) s = .next t ∧ t.axSt a = axMoving ∧
      OnlyFields [] ({ s with reply := .posted req.code }.modAxis a fun h =>
        { h with move := some (2, 0), homing := .none }) t) ∧
  (∀ (s : State) (req : Req) (a : Axis), s.ready req (.ax a) = true → s.axSt a = axMoving ∨ s.axSt a = axHoming →
    ∃ t, exec (.axEstop req a) s = .next t ∧ t.axSt a = axIdle ∧ t.rd (.ax a) AX.VEL = 0 ∧
      OnlyFields [(.ax a, AX.STAT_PROF, 0), (.ax a, AX.VEL, 0), (.ax a, HDR.PG_STAT_STATE, 0), (.ax a, HDR.PG_EVT_RAW, 0)]
        ({ s with reply := .posted req.code }.modAxis a fun h => { h with
          vel := 0, acc := 0, lead := 0, move := none, homing := .none, ramp := false, idleAt := s.dclk }) t) ∧
  (∀ (s : State) (req : Req) (a : Axis), s.ready req (.ax a) = true → s.axSt a = axFault → s.axSupplyLost a = false →
    ∃ t, exec (.axClear req a false) s = .next t ∧ t.axSt a = (if s.shadow then axObserving else axIdle) ∧
      t.on (.ax a) HDR.PG_STAT_FAULT = false ∧ t.on (.ax a) AX.STAT_DRVFLT = false ∧
      OnlyFields [(.ax a, AX.STAT_DRVFLT, 0), (.ax a, HDR.PG_STAT_STATE, 0), (.ax a, HDR.PG_STAT_FAULT, 0),
        (.ax a, HDR.PG_EVT_RAW, 0)] ({ s with reply := .posted req.code }.modAxis a fun h => { h with
          idleAt := if s.shadow then h.idleAt else s.dclk }) t) ∧
  (∀ (s : State) (req : Req) (a : Axis) (drvflt : Bool), s.ready req (.ax a) = true → s.axSt a = axFault →
    drvflt = true ∨ s.axSupplyLost a = true →
    ∃ t, exec (.axClear req a drvflt) s = .next t ∧ t.axSt a = axFault ∧
      t.errorShown (.ax a) = s.errorAfter (.ax a) 0x22 ∧ t.on (.ax a) AX.STAT_DRVFLT = drvflt ∧
      OnlyFields ((.ax a, AX.STAT_DRVFLT, 0) :: errorFields (.ax a)) { s with reply := .posted req.code } t) ∧
  (∀ (s : State) (req : Req) (a : Axis), s.ready req (.ax a) = true → s.on (.ax a) AX.STAT_ASLEEP = false →
    ∃ t, exec (.axSleep req a) s = .next t ∧ t.on (.ax a) AX.STAT_ASLEEP = true ∧ t.event (.ax a) 12 = true ∧
      OnlyFields [(.ax a, AX.STAT_ASLEEP, 0), (.ax a, HDR.PG_EVT_RAW, 0)] { s with reply := .posted req.code } t) ∧
  (∀ (s : State) (req : Req) (a : Axis), s.ready req (.ax a) = true →
    ∃ t, exec (.axWake req a) s = .next t ∧
      t.on (.ax a) AX.STAT_ASLEEP = (s.on (.ax a) AX.STAT_ASLEEP && !s.drvMay) ∧
      OnlyFields [(.ax a, AX.STAT_ASLEEP, 0)] { s with reply := .posted req.code } t)

/-- R14, R69, R276, R281, R286, R287, R289, R290, R292, R293, R294, R295, R406. Steps and updates of an axis: a step the profile
owes goes out and is counted, unless DIR or the step rate holds it back; homing past its bound faults; a SHADOW counts the
steps it sees; in BELT mode a step of AX0 is an edge of the pace unit; an update changes the velocity to what the profile
asks for and takes a commit. What an axis meets from outside: a limit ahead of it stops it, one it moves away from is only
shown, one that homing does not expect faults; the home signal; a fault of its driver, by the pin or the supply; and an idle
time that puts the driver to sleep. The levels on the output balls: open-drain outputs pull low while asserted; DRVEN is
active, with EN_POL, while EN is 1 and the axis is not in FAULT; DRVSLP_N is low while ASLEEP reads 1; a SHADOW leaves the
axis outputs at high impedance, and a bank without supply all of its own. The model's own choices among these clauses are
log entry 24. -/
def Obligations.AxisMotionAndInputs : Prop :=
  (∀ (s : State) (a : Axis), s.devUp = true → s.shadow = false → stepUnit ≤ s.axes[a].lead.natAbs →
    s.axes[a].holdUntil ≤ s.dclk → s.stepMay a (decide (s.axes[a].lead < 0)) = true →
    s.axes[a].homing ≠ .seek → s.axes[a].homing ≠ .backoff →
    ∃ t, exec (.axisStep a) s = .next t ∧ t.out = s.out ++ [.step a.val (decide (s.axes[a].lead < 0))] ∧
      t.rd (.ax a) AX.POS = unsigned 32 (s.rdS (.ax a) AX.POS + toward (decide (s.axes[a].lead < 0)) 1) ∧
      t.rd (.ax a) AX.STEP_CNT = min (s.rd (.ax a) AX.STEP_CNT + 1) (2 ^ 32 - 1) ∧
      t.pace = s.beltEdge a (decide (s.axes[a].lead < 0)) ∧
      OnlyFields ([(.ax a, AX.POS, 0), (.ax a, AX.STEP_CNT, 0)] ++ s.beltFields a)
        ({ s with out := t.out, pace := t.pace }.modAxis a fun h => { h with
          lead := h.lead - toward (decide (h.lead < 0)) stepUnit, homeSteps := h.homeSteps + 1, stepAt := some s.dclk }) t) ∧
  (∀ (s : State) (a : Axis), s.devUp = true → s.shadow = false → stepUnit ≤ s.axes[a].lead.natAbs →
    s.axes[a].holdUntil ≤ s.dclk → s.stepMay a (decide (s.axes[a].lead < 0)) = true → s.axes[a].homing = .backoff →
    s.rd (.ax a) AX.BACKOFF_MAX ≤ s.axes[a].homeSteps + 1 →
    ∃ t, exec (.axisStep a) s = .next t ∧ t.axSt a = axFault ∧ t.errorShown (.ax a) = s.errorAfter (.ax a) 0x25 ∧
      t.on (.ax a) AX.STAT_LOST = true ∧ t.axes[a].vel = 0) ∧
  (∀ (s : State) (a : Axis), s.devUp = false ∨ s.shadow = true ∨ s.axes[a].lead.natAbs < stepUnit ∨
      s.dclk < s.axes[a].holdUntil ∨ s.stepMay a (decide (s.axes[a].lead < 0)) = false →
    exec (.axisStep a) s = .next s) ∧
  (∀ (s : State) (a : Axis), s.devUp = true → s.shadow = false → stepUnit ≤ s.axes[a].lead.natAbs →
    s.axes[a].holdUntil ≤ s.dclk → s.stepMay a (decide (s.axes[a].lead < 0)) = true → s.axes[a].homing = .seek → s.rd (.ax a) AX.HOME_MAX ≤ s.axes[a].homeSteps + 1 →
    ∃ t, exec (.axisStep a) s = .next t ∧ t.axSt a = axFault ∧ t.errorShown (.ax a) = s.errorAfter (.ax a) 0x24 ∧
      t.on (.ax a) AX.STAT_LOST = true ∧ t.axes[a].vel = 0) ∧
  (∀ (s : State) (a : Axis) (neg : Bool), s.devUp = true → s.axSt a = axObserving →
    ∃ t, exec (.observedStep a neg) s = .next t ∧ t.pace = s.beltEdge a neg ∧
      t.rd (.ax a) AX.POS = unsigned 32 (s.rdS (.ax a) AX.POS + toward neg 1) ∧
      t.rd (.ax a) AX.STEP_CNT = min (s.rd (.ax a) AX.STEP_CNT + 1) (2 ^ 32 - 1) ∧
      OnlyFields ([(.ax a, AX.POS, 0), (.ax a, AX.STEP_CNT, 0)] ++ s.beltFields a)
        ({ s with pace := t.pace }.modAxis a fun h => { h with
          seen := some (s.dclk, h.seen.map fun (e : Nat × Option Nat × Bool) => s.dclk - e.1, neg) }) t) ∧
  (∀ (s : State) (a : Axis), s.dclk < s.axes[a].updAt + 250 → exec (.profileUpdate a) s = .next s) ∧
  (∀ (s : State) (a : Axis), s.devUp = true → s.shadow = false → s.axes[a].updAt + 250 ≤ s.dclk →
    s.commits.any (fun e => e.1 == Page.ax a && decide (e.2 + 2 ≤ s.dclk)) = false →
    ∃ t, exec (.profileUpdate a) s = .next t ∧ t.axes[a].vel = (s.axPlan a).1 ∧
      (s.axes[a].ramp = false → s.axes[a].homing = .none → s.axes[a].move = none →
        t.axes[a].vel = brakeBy s.axes[a].vel (accUnit * s.axes[a].dmax)) ∧
      OnlyFields [(.ax a, AX.STAT_PROF, 0), (.ax a, AX.VEL, 0), (.ax a, AX.STAT_DIR, 0), (.ax a, AX.STAT_AT_TARGET, 0),
          (.ax a, AX.STAT_LOST, 0), (.ax a, HDR.PG_STAT_STATE, 0), (.ax a, HDR.PG_EVT_RAW, 0)]
        (s.modAxis a fun _ => t.axes[a]) t) ∧
  (∀ (s : State) (a : Axis), s.devUp = true → s.shadow = false → s.axes[a].updAt + 250 ≤ s.dclk →
    s.commits.any (fun e => e.1 == Page.ax a && decide (e.2 + 2 ≤ s.dclk)) = true →
    s.axSt a ≠ axFault → s.axSt a ≠ axHoming →
    s.axToLimit a (s.rdStaged (.ax a) AX.MOVE_KIND) (signed 32 (s.rdStaged (.ax a) AX.TARGET)) = false →
    ∃ t, exec (.profileUpdate a) s = .next t ∧ Committed s (.ax a) t ∧
      t.on (.ax a) HDR.PG_STAT_COMMIT_PEND = false ∧ t.event (.ax a) 1 = true ∧ t.axes[a].updAt = s.dclk) ∧
  (∀ (s : State) (a : Axis), s.devUp = true → s.shadow = false → s.axes[a].updAt + 250 ≤ s.dclk →
    s.commits.any (fun e => e.1 == Page.ax a && decide (e.2 + 2 ≤ s.dclk)) = true → s.axSt a = axFault ∨ s.axSt a = axHoming →
    ∃ t, exec (.profileUpdate a) s = .next t ∧ t.errorShown (.ax a) = s.errorAfter (.ax a) 0x22 ∧
      t.on (.ax a) HDR.PG_STAT_COMMIT_PEND = false ∧ t.rd (.ax a) AX.TARGET = s.rd (.ax a) AX.TARGET) ∧
  (∀ (s : State) (a : Axis) (pos : Bool), s.devUp = true →
    s.on (.ax a) (if pos then AX.CFG_LIMP_EN else AX.CFG_LIMN_EN) = true →
    s.axes[a].homing = .none → (if pos then 0 < s.axes[a].vel else s.axes[a].vel < 0) →
    ∃ t, exec (.limitTrip a pos) s = .next t ∧ t.on (.ax a) (if pos then AX.STAT_LIMP else AX.STAT_LIMN) = true ∧
      t.axSt a = axLimit ∧ t.event (.ax a) 9 = true ∧
      t.rd (.ax a) AX.LIM_CNT = min (s.rd (.ax a) AX.LIM_CNT + 1) (2 ^ 32 - 1) ∧
      OnlyFields [(.ax a, if pos then AX.STAT_LIMP else AX.STAT_LIMN, 0), (.ax a, AX.LIM_CNT, 0), (.ax a, AX.STAT_PROF, 0),
          (.ax a, AX.VEL, 0), (.ax a, HDR.PG_STAT_STATE, 0), (.ax a, HDR.PG_EVT_RAW, 0)]
        (s.modAxis a fun h =>
          if s.on (.ax a) AX.CFG_LIM_ACT then { h with move := none, ramp := true, trip := some pos }
          else { h with vel := 0, acc := 0, lead := 0, move := none, homing := .none, ramp := false, trip := some pos }) t) ∧
  (∀ (s : State) (a : Axis) (pos : Bool), s.devUp = true →
    s.on (.ax a) (if pos then AX.CFG_LIMP_EN else AX.CFG_LIMN_EN) = true →
    s.axes[a].homing = .none → (if pos then s.axes[a].vel ≤ 0 else 0 ≤ s.axes[a].vel) →
    ∃ t, exec (.limitTrip a pos) s = .next t ∧ t.on (.ax a) (if pos then AX.STAT_LIMP else AX.STAT_LIMN) = true ∧
      OnlyFields [(.ax a, if pos then AX.STAT_LIMP else AX.STAT_LIMN, 0)] s t) ∧
  (∀ (s : State) (a : Axis) (pos : Bool), s.devUp = true →
    s.on (.ax a) (if pos then AX.CFG_LIMP_EN else AX.CFG_LIMN_EN) = true →
    s.axes[a].homing ≠ .none → s.on (.ax a) AX.HOME_CFG_SRC = false ∨ s.on (.ax a) AX.HOME_CFG_DIR ≠ pos →
    ∃ t, exec (.limitTrip a pos) s = .next t ∧ t.errorShown (.ax a) = s.errorAfter (.ax a) 0x26 ∧ t.axSt a = axFault ∧
      t.on (.ax a) AX.STAT_LOST = true ∧ t.axes[a].vel = 0) ∧
  (∀ (s : State) (a : Axis) (pos : Bool), s.devUp = true → s.axSt a = axLimit → s.axes[a].trip = some pos →
    ∃ t, exec (.limitRelease a pos) s = .next t ∧ t.on (.ax a) (if pos then AX.STAT_LIMP else AX.STAT_LIMN) = false ∧
      t.axSt a = (if s.axes[a].move.isSome || s.axes[a].vel != 0 then axMoving else axIdle) ∧
      OnlyFields [(.ax a, if pos then AX.STAT_LIMP else AX.STAT_LIMN, 0), (.ax a, HDR.PG_STAT_STATE, 0),
          (.ax a, HDR.PG_EVT_RAW, 0)]
        (s.modAxis a fun h => { h with
          trip := none, idleAt := if h.move.isSome || h.vel != 0 then h.idleAt else s.dclk }) t) ∧
  (∀ (s : State) (a : Axis) (since : BitVec 16), s.devUp = true → s.axes[a].homing = .seek →
    ∃ t, exec (.homeEdge a since) s = .next t ∧
      t.rd (.ax a) AX.HOME_CAP =
        unsigned 32 (s.rdS (.ax a) AX.POS - toward (!s.on (.ax a) AX.HOME_CFG_DIR) since.toNat) ∧
      t.rd (.ax a) AX.POS =
        unsigned 32 (s.rdS (.ax a) AX.HOME_POS + toward (!s.on (.ax a) AX.HOME_CFG_DIR) since.toNat) ∧
      OnlyFields [(.ax a, AX.STAT_HOME, 0), (.ax a, AX.HOME_CAP, 0), (.ax a, AX.POS, 0)]
        (s.modAxis a fun h => { h with homing := .capture }) t) ∧
  (∀ (s : State) (a : Axis), s.devUp = true → s.axes[a].homing = .backoff →
    ∃ t, exec (.homeRelease a) s = .next t ∧
      OnlyFields [(.ax a, AX.STAT_HOME, 0)] (s.modAxis a fun h => { h with homing := .settle }) t) ∧
  (∀ (s : State) (a : Axis), s.devUp = true → s.axes[a].homing ≠ .backoff →
    ∃ t, exec (.homeRelease a) s = .next t ∧ OnlyFields [(.ax a, AX.STAT_HOME, 0)] s t) ∧
  (∀ (s : State) (a : Axis), s.axSupplyLost a = false → exec (.driverFault a false) s = .next s) ∧
  (∀ (s : State) (a : Axis) (pin : Bool), s.devUp = true → s.on (.ax a) HDR.PG_CTRL_EN = true →
    pin = true ∨ s.axSupplyLost a = true →
    ∃ t, exec (.driverFault a pin) s = .next t ∧ t.errorShown (.ax a) = s.errorAfter (.ax a) 0x23 ∧
      t.axSt a = axFault ∧ t.on (.ax a) HDR.PG_STAT_FAULT = true ∧ t.on (.ax a) AX.STAT_LOST = true ∧
      OnlyFields ([(.ax a, AX.STAT_DRVFLT, 0), (.ax a, AX.STAT_LOST, 0), (.ax a, AX.STAT_PROF, 0), (.ax a, AX.VEL, 0),
          (.ax a, HDR.PG_STAT_STATE, 0), (.ax a, HDR.PG_STAT_FAULT, 0)] ++ errorFields (.ax a))
        (s.modAxis a fun h => { h with
          vel := 0, acc := 0, lead := 0, move := none, homing := .none, ramp := false }) t) ∧
  (∀ (s : State) (a : Axis), s.devUp = true → s.axSt a = axIdle → s.rd (.ax a) AX.TIMES_SLEEP_MS ≠ 0 →
    s.on (.ax a) AX.STAT_ASLEEP = false → s.axes[a].idleAt + 500000 * s.rd (.ax a) AX.TIMES_SLEEP_MS ≤ s.dclk →
    ∃ t, exec (.axisSleepTimeout a) s = .next t ∧ t.on (.ax a) AX.STAT_ASLEEP = true ∧ t.event (.ax a) 12 = true ∧
      OnlyFields [(.ax a, AX.STAT_ASLEEP, 0), (.ax a, HDR.PG_EVT_RAW, 0)] s t) ∧
  (∀ (s : State) (a : Axis), s.dclk < s.axes[a].idleAt + 500000 * s.rd (.ax a) AX.TIMES_SLEEP_MS →
    exec (.axisSleepTimeout a) s = .next s) ∧
  (∀ s : State, (s.ball .faultN = some false ↔ s.power.dev = .fault) ∧ s.ball .faultN ≠ some true) ∧
  (∀ s : State, (s.ball .wakeN = some false ↔ s.power.wakeN = true) ∧ s.ball .wakeN ≠ some true) ∧
  (∀ (s : State) (a : Axis), s.shadow = true → s.ball (.drvEn a) = none ∧ s.ball (.dir a) = none ∧ s.ball (.drvSlpN a) = none) ∧
  (∀ (s : State) (a : Axis), s.shadow = false → s.power.dev ≠ .off → s.power.pgood1 = true →
    s.on (.ax a) HDR.PG_CTRL_EN = true → s.axSt a ≠ axFault → s.ball (.drvEn a) = some (s.on (.ax a) AX.CFG_EN_POL)) ∧
  (∀ (s : State) (a : Axis), s.shadow = false → s.power.dev ≠ .off → s.power.pgood1 = true →
    s.on (.ax a) HDR.PG_CTRL_EN = false ∨ s.axSt a = axFault → s.ball (.drvEn a) = some (!s.on (.ax a) AX.CFG_EN_POL)) ∧
  (∀ (s : State) (a : Axis), s.shadow = false → s.power.dev ≠ .off →
    s.ball (.drvSlpN a) = some (decide (s.field (.ax a) AX.STAT_ASLEEP 0 = 0))) ∧
  (∀ (s : State) (a : Axis), s.shadow = false → s.power.dev ≠ .off → s.power.dev ≠ .idle → s.power.dev ≠ .ready →
    s.power.dev ≠ .print → s.ball (.drvSlpN a) = some false) ∧
  (∀ s : State, s.power.pgood1 = false → s.ball .slowreq = none ∧ s.ball .prnRdy = none ∧ s.ball .roleO = none ∧
    s.ball .pfaultO = none) ∧
  (∀ s : State, s.power.dev ≠ .off → s.power.pgood1 = true →
    s.ball .slowreq = some (s.on .pace PACE.STAT_SLOWREQ) ∧ s.ball .prnRdy = some (s.on .gio GIO.STAT_PRN_RDY)) ∧
  (∀ (s : State) (b : Ball), s.power.dev = .off → b ≠ .wakeN → s.ball b = none)

/-- R29, R249, R250, R251, R255, R261, R262, R263, R302. The sequencer prepares the oldest complete line once the preparation of
the line before has ended, and sends its frame once it is prepared and the port is free. At its firing instant a prepared
line whose frame has ended fires, whatever the lane's state has become: one FIRE marker with its SEQ goes out. A line too
soon after the last marker, or whose frame has not ended, is not fired and counted; a frame under way is aborted. A lane
enters HOLD when its temperature is lost and leaves it on RESUME, while no spoil record waits for room; RESUME is refused
elsewhere and while the cause stands; a line the HOLD kept back stays unsent after it; a guard of an idle lane empties. The
model's own choices among these clauses are log entries 21, 22, 49, 52, 84, 94. -/
def Obligations.LaneFiring : Prop :=
  (∀ (s : State) (l : Lane) (f : FifoLine), s.devUp = true → s.prepares l = true → s.lanes[l].prepEnd ≤ s.dclk →
    s.lanes[l].nextToPrepare = some f →
    ∃ t, exec (.linePrepare l none none) s = .next t ∧ t.lanes[l].fifo = s.lanes[l].fifo.tail ∧
      t.lanes[l].prep.map (fun p => (p.tag, p.bank, p.taint, p.ue)) =
        s.lanes[l].prep.map (fun p => (p.tag, p.bank, p.taint, p.ue)) ++
          [(f.tag, s.rd (.wav l) WAV.BANK_ACTIVE, f.taint, false)] ∧
      t.lanes[l].prep.getLast?.map (fun p => p.set) =
        some (if t.on (.seq l) SEQ.STAT_SOFT then 8 else t.rd (.seq l) SEQ.STAT_BAND) ∧
      (s.on (.seq l) SEQ.CTRL_GUARD_E = false → s.on (.seq l) SEQ.CTRL_GUARD_H = false →
        t.lanes[l].prep.getLast?.map (fun p => p.levels) = some (f.levels.map fun x => min x 7)) ∧
      OtherPages [.seq l, .wav l, .pace] s t ∧ OtherLanes [l] s t ∧ t.out = s.out) ∧
  (∀ (s : State) (l : Lane) (f : FifoLine) (u : SramUe), s.devUp = true → s.prepares l = true →
    s.lanes[l].prepEnd ≤ s.dclk → s.lanes[l].nextToPrepare = some f →
    ∃ t, exec (.linePrepare l (some u) none) s = .next t ∧ t.lanes[l].fifo = s.lanes[l].fifo.tail ∧
      t.lanes[l].prep.map (fun p => (p.tag, p.ue)) =
        s.lanes[l].prep.map (fun p => (p.tag, p.ue)) ++ [(f.tag, true)] ∧
      t.errorShown (.lne l) = s.errorAfter (.lne l) 0x23 ∧
      t.rd (.lne l) LNE.UE_CNT = min (s.rd (.lne l) LNE.UE_CNT + 1) (2 ^ 32 - 1) ∧
      OtherPages [.seq l, .wav l, .pace, .lne l, .den] s t ∧ OtherLanes [l] s t ∧ t.out = s.out) ∧
  (∀ (s : State) (l : Lane) (p : PrepLine) (ps : List PrepLine), s.devUp = true → s.prepares l = true →
    s.linkUp l = true → s.portFree l = true → s.shadow = false → s.lanes[l].prep = p :: ps → p.ue = false → p.frame = none →
    p.held = none → p.ready ≤ s.dclk →
    ∃ t, exec (.lineFrameStart l) s = .next t ∧
      t.out = s.out ++ [.line l.val
        (lineFrame p.bank p.set (s.rd .pair PAIR.EPOCH_EPOCH) s.lanes[l].seq l.val p.tag.wl p.levels.length p.tag.page
          false p.levels)
        (crc32c (lineFrame p.bank p.set (s.rd .pair PAIR.EPOCH_EPOCH) s.lanes[l].seq l.val p.tag.wl p.levels.length
          p.tag.page false p.levels))] ∧
      t.rd (.vnl l) VNL.LINES_TX = min (s.rd (.vnl l) VNL.LINES_TX + 1) (2 ^ 32 - 1) ∧
      OnlyFields [(.vnl l, VNL.LINES_TX, 0)]
        ({ s with out := t.out }.modLane l fun h => { h with
          seq := (s.lanes[l].seq + 1) % 65536
          prep := { p with frame := some (s.lanes[l].seq, s.dclk,
            s.dclk + frameDclk p.levels.length (s.rd (.vnl l) VNL.STAT_RATE)) } :: ps }) t) ∧
  (∀ (s : State) (l : Lane) (d : Due) (ds : List Due) (p : PrepLine) (ps : List PrepLine) (at_ n b e : Nat),
    s.devUp = true → s.power.dev ≠ .fault → s.shadow = false → s.lanes[l].due = d :: ds → d.instant = some at_ →
    at_ ≤ s.dclk → d.miss = none → d.tag.last = false → s.lanes[l].prep = p :: ps → p.tag.ord = d.tag.ord →
    p.ue = false → p.frame = some (n, b, e) → e ≤ at_ → s.lanes[l].st ≠ .armed → s.spoil.opens.length < 4 →
    s.tooSoon l d.tag at_ = false →
    ∃ t, exec (.firingInstant l) s = .next t ∧ t.out = s.out ++ [.fire l.val n] ∧ t.lanes[l].prep = ps ∧
      t.lanes[l].due = ds ∧ t.lanes[l].lastFire = some at_ ∧ t.power.dry = 0 ∧
      t.rd (.seq l) SEQ.FIRED = min (s.rd (.seq l) SEQ.FIRED + 1) (2 ^ 32 - 1) ∧
      t.rd (.seq l) SEQ.LAST_WL = p.tag.wl % 2 ^ 48 ∧ OtherPages [.seq l, .spl] s t) ∧
  (∀ (s : State) (l : Lane) (d : Due) (ds : List Due) (p : PrepLine) (ps : List PrepLine) (at_ n b e : Nat),
    s.devUp = true → s.power.dev ≠ .fault → s.shadow = false → s.lanes[l].due = d :: ds → d.instant = some at_ →
    at_ ≤ s.dclk → d.miss = none → d.tag.last = false → s.lanes[l].prep = p :: ps → p.tag.ord = d.tag.ord →
    p.ue = false → p.frame = some (n, b, e) → e ≤ at_ → s.lanes[l].st ≠ .armed → s.spoil.opens.length < 4 →
    s.tooSoon l d.tag at_ = true →
    ∃ t, exec (.firingInstant l) s = .next t ∧ t.out = s.out ∧ t.lanes[l].prep = ps ∧ t.lanes[l].due = ds ∧
      t.lanes[l].lastFire = s.lanes[l].lastFire ∧
      t.rd (.seq l) SEQ.SKIP = min (s.rd (.seq l) SEQ.SKIP + 1) (2 ^ 32 - 1) ∧ t.event (.seq l) 12 = true ∧
      t.rd (.seq l) SEQ.FIRED = s.rd (.seq l) SEQ.FIRED) ∧
  (∀ (s : State) (l : Lane) (d : Due) (ds : List Due) (p : PrepLine) (ps : List PrepLine) (at_ : Nat),
    s.devUp = true → s.power.dev ≠ .fault → s.shadow = false → s.lanes[l].due = d :: ds → d.instant = some at_ →
    at_ ≤ s.dclk → d.miss = none → d.tag.last = false → s.lanes[l].prep = p :: ps → p.tag.ord = d.tag.ord →
    p.ue = false → p.frame = none → p.held = none → s.lanes[l].outCause = none → s.lanes[l].st = .firing → s.spoil.opens.length < 4 →
    s.tooSoon l d.tag at_ = false →
    ∃ t, exec (.firingInstant l) s = .next t ∧ t.out = s.out ∧ t.lanes[l].prep = ps ∧ t.lanes[l].due = ds ∧
      t.rd (.seq l) SEQ.LATE = min (s.rd (.seq l) SEQ.LATE + 1) (2 ^ 32 - 1) ∧ t.event (.seq l) 12 = true ∧
      t.rd (.seq l) SEQ.FIRED = s.rd (.seq l) SEQ.FIRED) ∧
  (∀ (s : State) (l : Lane) (d : Due) (ds : List Due) (p : PrepLine) (ps : List PrepLine) (at_ n b e : Nat),
    s.devUp = true → s.power.dev ≠ .fault → s.shadow = false → s.lanes[l].due = d :: ds → d.instant = some at_ →
    at_ ≤ s.dclk → d.miss = none → d.tag.last = false → s.lanes[l].prep = p :: ps → p.tag.ord = d.tag.ord →
    p.ue = false → p.frame = some (n, b, e) → at_ < e → s.lanes[l].st ≠ .armed → s.spoil.opens.length < 4 →
    s.tooSoon l d.tag at_ = false →
    ∃ t, exec (.firingInstant l) s = .next t ∧ t.out = s.out ++ [.abort l.val] ∧ t.lanes[l].prep = ps ∧ t.lanes[l].due = ds ∧
      t.rd (.seq l) SEQ.LATE = min (s.rd (.seq l) SEQ.LATE + 1) (2 ^ 32 - 1) ∧ t.event (.seq l) 12 = true ∧
      t.rd (.seq l) SEQ.FIRED = s.rd (.seq l) SEQ.FIRED) ∧
  (∀ (s : State) (l : Lane), s.devUp = true → s.shadow = false → s.rd (.seq l) SEQ.TEMP_RES_TMO ≤ s.lanes[l].noTemp →
    s.lanes[l].st = .armed ∨ s.lanes[l].st = .firing →
    ∃ t, exec (.tempLost l) s = .next t ∧ t.lanes[l].st = .hold ∧ t.rd (.seq l) SEQ.STAT_HOLD_WHY = 2 ∧
      t.rd (.seq l) SEQ.HOLD_CNT = min (s.rd (.seq l) SEQ.HOLD_CNT + 1) (2 ^ 32 - 1) ∧ t.event (.seq l) 8 = true ∧
      t.event (.seq l) 14 = true ∧ OtherLanes [l] s t) ∧
  (∀ (s : State) (req : Req) (l : Lane) (id : Nat), s.ready req (.seq l) = true → s.lanes[l].st = .hold →
    s.holdCleared l = true → s.lanes[l].page = some id → s.spoil.overflow = none →
    ∃ t, exec (.seqResume req l) s = .next t ∧ t.lanes[l].st = .firing ∧ t.rd (.seq l) SEQ.STAT_HOLD_WHY = 0 ∧
      t.event (.seq l) 9 = true ∧ OtherLanes [l] s t) ∧
  (∀ (s : State) (req : Req) (l : Lane) (id : Nat) (p : PrepLine) (ps : List PrepLine), s.ready req (.seq l) = true →
    s.lanes[l].st = .hold → s.holdCleared l = true → s.lanes[l].page = some id → s.spoil.overflow = none →
    s.lanes[l].outCause = none → s.power.dev ≠ .fault → s.lanes[l].prep = p :: ps → p.frame = none → p.held = none →
    ∃ t, exec (.seqResume req l) s = .next t ∧
      t.lanes[l].prep.head? = some { p with
        held := some (if s.rd (.seq l) SEQ.STAT_HOLD_WHY = 3 then (6, 0) else (7, s.lanes[l].holdTemp)) }) ∧
  (∀ (s : State) (l : Lane) (p : PrepLine) (ps : List PrepLine), s.lanes[l].prep = p :: ps → p.held.isSome = true →
    exec (.lineFrameStart l) s = .next s) ∧
  (∀ (s : State) (req : Req) (l : Lane), s.ready req (.seq l) = true → s.lanes[l].st ≠ .hold →
    ∃ t, exec (.seqResume req l) s = .next t ∧ t.errorShown (.seq l) = s.errorAfter (.seq l) 0x20 ∧
      OnlyFields (errorFields (.seq l)) { s with reply := .posted req.code } t) ∧
  (∀ (s : State) (req : Req) (l : Lane), s.ready req (.seq l) = true → s.lanes[l].st = .hold → s.holdCleared l = false →
    ∃ t, exec (.seqResume req l) s = .next t ∧
      t.errorShown (.seq l) = s.errorAfter (.seq l) (if s.rd (.seq l) SEQ.STAT_HOLD_WHY = 3 then 0x22 else 0x21) ∧
      OnlyFields (errorFields (.seq l)) { s with reply := .posted req.code } t) ∧
  (∀ (s : State) (l : Lane) (head : Bool), s.devUp = true →
    (∀ f, s.lanes[l].lastFire = some f →
      f + (if head then s.rd (.seq l) SEQ.GUARD_H else s.rd (.seq l) SEQ.GUARD_E_WE) * 3125 ≤ s.dclk) →
    exec (.guardIdleExpiry l head) s = .next (s.modLane l fun h =>
      if head then { h with energy := [] } else { h with credit := [] }))

/-- R267, R268, R269. Runs and records of the spoil ring: a run open for FLUSH_US closes, the oldest record is presented after
its 64 DCLK, and without a free entry it becomes the overflow record and every lane that prints is held; the consumer frees
entries with the doorbell. An acknowledged record stands in the ring: its 48 bytes at BASE + 48 HEAD and no others are
written, HEAD advances, and PHASE inverts when it wraps. -/
def Obligations.SpoilRing : Prop :=
  (∀ (s : State) (l : Lane) (r : Run), s.devUp = true → s.lanes[l].run = some r → s.spoil.opens = [] →
    s.spoil.overflow = none → r.opened + 500 * s.rd .spl SPL.CTRL_FLUSH_US ≤ s.dclk →
    exec (.spoilRunFlush l false) s = .next { s.modLane l (fun h => { h with run := none }) with
      spoil := { s.spoil with opens := [{ page := r.page, cause := r.cause, flags := r.flags, firstWl := r.firstWl
                                          count := r.count, lanes := 2 ^ l.val, planes := 2 ^ r.plane, copy := r.copy
                                          time := r.time, detail := r.detail, opened := s.dclk }] } }) ∧
  (∀ (s : State) (l : Lane) (r : Run), s.lanes[l].run = some r → s.dclk < r.opened + 500 * s.rd .spl SPL.CTRL_FLUSH_US →
    exec (.spoilRunFlush l false) s = .next s) ∧
  (∀ (s : State) (o : SpoilRec) (os : List SpoilRec), s.devUp = true → s.spoil.opens = o :: os →
    s.spoil.overflow = none → s.spoilFree ≠ 0 → o.opened + 64 ≤ s.dclk →
    ∃ t, exec .spoilRecordWrite s = .next t ∧ t.rd .spl SPL.SEQ = (s.rd .spl SPL.SEQ + 1) % 2 ^ 32 ∧
      OnlyFields [(.spl, SPL.SEQ, 0)] { s with spoil := { s.spoil with
        opens := os, flying := s.spoil.flying ++ [(o, s.rd .spl SPL.SEQ)] } } t) ∧
  (∀ (s : State) (o : SpoilRec) (os : List SpoilRec), s.devUp = true → s.spoil.opens = o :: os →
    s.spoil.overflow = none → s.spoilFree = 0 → o.opened + 64 ≤ s.dclk →
    ∃ t, exec .spoilRecordWrite s = .next t ∧ t.spoil.opens = os ∧ t.spoil.flying = s.spoil.flying ∧
      t.spoil.overflow.isSome = true ∧ t.on .spl SPL.STAT_OVF = true ∧ t.event .spl 9 = true ∧
      (∀ l : Lane, s.shadow = false → s.lanes[l].st = .armed ∨ s.lanes[l].st = .firing →
        t.lanes[l].st = .hold ∧ t.rd (.seq l) SEQ.STAT_HOLD_WHY = 3)) ∧
  (∀ (s : State) (req : Req) (v : Word), s.open_ req .spl = true → s.spoil.overflow = none →
    v.toNat % 2 ^ 20 < 2 ^ s.rd .spl SPL.SIZE →
    (v.toNat % 2 ^ 20 + 2 ^ s.rd .spl SPL.SIZE - s.rd .spl SPL.TAIL) % 2 ^ s.rd .spl SPL.SIZE ≤
      (s.rd .spl SPL.HEAD + 2 ^ s.rd .spl SPL.SIZE - s.rd .spl SPL.TAIL) % 2 ^ s.rd .spl SPL.SIZE →
    ∃ t, exec (.spoilDoorbell req v) s = .next t ∧ t.rd .spl SPL.TAIL = v.toNat % 2 ^ 20 ∧
      OnlyFields [(.spl, SPL.TAIL, 0)] { s with reply := .posted req.code } t) ∧
  (∀ (s : State) (req : Req) (v : Word), s.open_ req .spl = true →
    2 ^ s.rd .spl SPL.SIZE ≤ v.toNat % 2 ^ 20 ∨
      (s.rd .spl SPL.HEAD + 2 ^ s.rd .spl SPL.SIZE - s.rd .spl SPL.TAIL) % 2 ^ s.rd .spl SPL.SIZE <
        (v.toNat % 2 ^ 20 + 2 ^ s.rd .spl SPL.SIZE - s.rd .spl SPL.TAIL) % 2 ^ s.rd .spl SPL.SIZE →
    ∃ t, exec (.spoilDoorbell req v) s = .next t ∧ t.errorShown .spl = s.errorAfter .spl 0x20 ∧
      OnlyFields (errorFields .spl) { s with reply := .posted req.code } t) ∧
  (∀ (s : State) (r : SpoilRec) (seq : Nat) (rest : List (SpoilRec × Nat)), s.devUp = true → s.ddrState = ddrActive →
    s.spoil.flying = (r, seq) :: rest → bit r.flags 2 = false → s.ddr.poison = [] → s.rd .spl SPL.SIZE ≤ 20 →
    s.rd .spl SPL.BASE + 48 * s.rd .spl SPL.HEAD + 48 ≤ s.spoolSize →
    ∃ t, exec .spoilWriteAck s = .next t ∧ t.spoil.flying = rest ∧
      t.rd .spl SPL.HEAD = (s.rd .spl SPL.HEAD + 1) % 2 ^ s.rd .spl SPL.SIZE ∧
      t.rd .spl SPL.REC_CNT = min (s.rd .spl SPL.REC_CNT + 1) (2 ^ 32 - 1) ∧
      Memory.readAll t.ddr.mem (s.rd .spl SPL.BASE + 48 * s.rd .spl SPL.HEAD) 48 =
        (spoilBytes r seq (s.rd .spl SPL.STAT_PHASE)).map (fun b => BitVec.ofNat 8 b) ∧
      (∀ a, a < s.rd .spl SPL.BASE + 48 * s.rd .spl SPL.HEAD ∨ s.rd .spl SPL.BASE + 48 * s.rd .spl SPL.HEAD + 48 ≤ a →
        Memory.read t.ddr.mem a = Memory.read s.ddr.mem a) ∧
      OnlyFields [(.spl, SPL.HEAD, 0), (.spl, SPL.REC_CNT, 0), (.spl, SPL.STAT_PHASE, 0), (.spl, HDR.PG_EVT_RAW, 0)]
        { s with ddr := t.ddr, spoil := t.spoil } t)

/-- R311, R312, R313, R315. Bring-up of a link: the HSTAT, IDENT, TRAIN_RES and CACK frames that move it on, or end it. The
registers that take effect at the next bring-up count as they stood when it began (R317). What ends a step of bring-up that
has had no answer for its time, and the start of another; a trial's switch; and the measurement of the eye. Before its time
a timer does nothing. The model's own choices among these clauses are log entries 78, 96. -/
def Obligations.LinkBringUp : Prop :=
  (∀ (s : State) (l : Lane) (up : UpHead), s.devUp = true → s.ls l = lsWake → s.lanes[l].trial = none →
    s.quiet up = true → s.cal.runs = [] →
    ∃ t, exec (.hstatReceive l up 0) s = .next t ∧ t.ls l = lsIdent ∧
      t.lanes[l].ctrl = s.lanes[l].ctrl ++ [{ type := 0x10, payload := 0, cseq := s.lanes[l].cseq }] ∧
      OnlyFields ((.vnl l, VNL.STAT_LSTATE, 0) :: upFields l) (s.modLane l fun _ => t.lanes[l]) t) ∧
  (∀ (s : State) (l : Lane) (up : UpHead) (caps : BitVec 8) (n vendor model tHead : BitVec 16) (serial : Word),
    s.devUp = true → s.ls l = lsIdent → s.quiet up = true → s.cal.runs = [] →
    s.lanes[l].unacked.any (fun f => f.type == 0x10) = true → n.toNat ≠ 0 → Chk.nozzles.ok n.toNat = true →
    s.lanes[l].cfg.nExp = 0 ∨ s.lanes[l].cfg.nExp = n.toNat → 0 < min s.lanes[l].cfg.maxRate (caps.toNat % 4) →
    ∃ t, exec (.identReceive l up 1 caps n vendor model tHead serial) s = .next t ∧ t.ls l = lsStep ∧
      t.identN[l] = n.toNat ∧ t.rd (.vnl l) VNL.IDENT0_MAX_RATE = caps.toNat % 4 ∧
      t.rd (.vnl l) VNL.SERIAL = serial.toNat ∧ t.rd (.vnl l) VNL.IDENT1_VENDOR = vendor.toNat ∧
      t.lanes[l].trial = some { rate := 1, preset := 0, step := 0, at_ := s.dclk } ∧ OtherLanes [l] s t) ∧
  (∀ (s : State) (l : Lane) (up : UpHead) (proto caps : BitVec 8) (n vendor model tHead : BitVec 16) (serial : Word),
    s.devUp = true → s.ls l = lsIdent → s.quiet up = true → s.cal.runs = [] →
    s.lanes[l].unacked.any (fun f => f.type == 0x10) = true →
    n.toNat = 0 ∨ Chk.nozzles.ok n.toNat = false ∨ proto.toNat ≠ 1 ∨
      (s.lanes[l].cfg.nExp ≠ 0 ∧ s.lanes[l].cfg.nExp ≠ n.toNat) →
    ∃ t, exec (.identReceive l up proto caps n vendor model tHead serial) s = .next t ∧ t.ls l = lsWait ∧
      t.errorShown (.vnl l) = s.errorAfter (.vnl l) 0x21 ∧ t.identN = s.identN ∧
      OnlyFields ((.vnl l, VNL.STAT_LSTATE, 0) :: (upFields l ++ errorFields (.vnl l)))
        (s.modLane l fun _ => t.lanes[l]) t) ∧
  (∀ (s : State) (l : Lane) (up : UpHead) (t0 : Trial) (rate preset : BitVec 8), s.devUp = true → s.ls l = lsStep →
    s.quiet up = true → s.lanes[l].trial = some t0 → t0.step = 3 → t0.fast = false → t0.best = none → t0.bad = false →
    rate.toNat = t0.rate → preset.toNat = t0.preset → s.lanes[l].cfg.board = true → t0.rate ≤ 3 →
    t0.rate < min s.lanes[l].cfg.maxRate (s.rd (.vnl l) VNL.IDENT0_MAX_RATE) →
    ∃ t, exec (.trainResReceive l up rate preset 64) s = .next t ∧ t.rd (.vnl l) VNL.STAT_RATE = t0.rate ∧
      t.lanes[l].trial = some { rate := t0.rate + 1, preset := 0, step := 0, at_ := s.dclk } ∧ t.ls l = lsStep ∧ OtherLanes [l] s t) ∧
  (∀ (s : State) (l : Lane) (up : UpHead) (t0 : Trial) (rate preset good : BitVec 8), s.devUp = true → s.ls l = lsStep →
    s.quiet up = true → s.lanes[l].trial = some t0 → t0.step = 3 → t0.fast = false → rate.toNat = t0.rate →
    preset.toNat = t0.preset → good.toNat ≠ 64 ∨ t0.bad = true →
    ∃ t, exec (.trainResReceive l up rate preset good) s = .next t ∧
      t.errorShown (.vnl l) = s.errorAfter (.vnl l) 0x22 ∧
      t.rd (.vnl l) VNL.TRIAL_CNT = min (s.rd (.vnl l) VNL.TRIAL_CNT + 1) (2 ^ 32 - 1) ∧
      t.lanes[l].trial = some { t0 with step := 4, at_ := s.dclk } ∧
      OnlyFields ([(.vnl l, VNL.TRIAL_CNT, 0), (.vnl l, VNL.EQ_ACT_C_PRE, 0), (.vnl l, VNL.EQ_ACT_C_POST, 0)] ++
          upFields l ++ errorFields (.vnl l)) (s.modLane l fun _ => t.lanes[l]) t) ∧
  (∀ (s : State) (l : Lane) (up : UpHead) (f : CtrlFrame), s.devUp = true → s.ls l = lsLoad → s.quiet up = true →
    s.lanes[l].trial = none → s.lanes[l].ctrl = [] → s.lanes[l].unacked = [f] → f.type = 0x30 → f.cseq < 256 →
    s.lanes[l].st = .link → s.intake.pages = [] →
    ∃ t, exec (.cackReceive l up (BitVec.ofNat 8 f.cseq) 0) s = .next t ∧ t.ls l = lsUp ∧ t.lanes[l].unacked = [] ∧
      t.lanes[l].st = .idle ∧ t.on (.wav l) WAV.BANK_LOADED = true ∧ t.event (.vnl l) 8 = true ∧
      t.rd (.vnl l) VNL.LINK_TIME = s.time % 2 ^ 64 ∧ OtherLanes [l] s t) ∧
  (∀ (s : State) (l : Lane), s.devUp = true → s.ls l = lsWake → s.lanes[l].lsAt + 10000000 ≤ s.dclk → s.cal.runs = [] →
    ∃ t, exec (.noHeadTimeout l) s = .next t ∧ t.ls l = lsWait ∧ t.errorShown (.vnl l) = s.errorAfter (.vnl l) 0x20 ∧
      OnlyFields ((.vnl l, VNL.STAT_LSTATE, 0) :: errorFields (.vnl l)) (s.modLane l fun h => { h with lsAt := s.dclk }) t) ∧
  (∀ (s : State) (l : Lane), s.devUp = true → s.ls l ∈ [lsWake, lsIdent, lsStep, lsLoad, lsFast] →
    17500000 + s.lanes[l].boundAt ≤ s.dclk → s.cal.runs = [] →
    ∃ t, exec (.bringupTmo l) s = .next t ∧ t.ls l = lsWait ∧ t.errorShown (.vnl l) = s.errorAfter (.vnl l) 0x25 ∧
      t.clusters[Lane.clu l].linkLate = true ∧ t.lanes[l].ctrl = [] ∧ t.lanes[l].unacked = [] ∧ t.lanes[l].trial = none ∧
      OnlyFields ((.vnl l, VNL.STAT_LSTATE, 0) :: errorFields (.vnl l))
        { s.modLane l (fun _ => t.lanes[l]) with clusters := t.clusters } t) ∧
  (∀ (s : State) (l : Lane), s.devUp = true → s.ls l = lsWait → s.laneEn l = true →
    s.lanes[l].lsAt + 50000000 ≤ s.dclk →
    ∃ t, exec (.linkWaitExpiry l) s = .next t ∧ t.ls l = lsWake ∧ t.rd (.vnl l) VNL.STAT_RATE = 0 ∧
      t.out = s.out ++ [.ts l.val 0 0] ∧ OtherLanes [l] s t) ∧
  (∀ (s : State) (l : Lane), s.devUp = true → s.ls l = lsFast → s.lanes[l].trial = none →
    (s.lanes[l].ctrl ++ s.lanes[l].unacked).all (fun f => f.type != 0x10) = true → s.lanes[l].lsAt + 500000 ≤ s.dclk →
    ∃ t, exec (.fastLockTimeout l) s = .next t ∧ t.ls l = lsWake ∧ t.rd (.vnl l) VNL.STAT_RATE = 0 ∧
      t.out = s.out ++ [.ts l.val 0 0] ∧ OtherLanes [l] s t) ∧
  (∀ (s : State) (l : Lane) (t0 : Trial), s.devUp = true → s.lanes[l].trial = some t0 → t0.step = 1 →
    s.lanes[l].cfg.board = false → 1000 + t0.at_ ≤ s.dclk →
    ∃ t, exec (.trialSwitch l) s = .next t ∧ t.rd (.vnl l) VNL.EQ_ACT_C_PRE = (presetTaps t0.preset).1 ∧
      t.rd (.vnl l) VNL.EQ_ACT_C_POST = (presetTaps t0.preset).2 ∧
      OnlyFields [(.vnl l, VNL.EQ_ACT_C_PRE, 0), (.vnl l, VNL.EQ_ACT_C_POST, 0)]
        (s.modLane l fun h => { h with trial := some { t0 with step := 2, at_ := s.dclk } }) t) ∧
  (∀ (s : State) (l : Lane) (t0 : Trial), s.devUp = true → s.lanes[l].trial = some t0 → t0.step = 2 ∨ t0.step = 3 →
    t0.fast = false → s.trialLate t0 = true →
    ∃ t, exec (.trialTimeout l) s = .next t ∧ t.errorShown (.vnl l) = s.errorAfter (.vnl l) 0x22 ∧
      t.rd (.vnl l) VNL.TRIAL_CNT = min (s.rd (.vnl l) VNL.TRIAL_CNT + 1) (2 ^ 32 - 1) ∧
      t.lanes[l].trial = some { t0 with step := 4, at_ := s.dclk } ∧ OtherLanes [l] s t ∧ OtherPages [.vnl l] s t) ∧
  (∀ (s : State) (l : Lane) (mui : BitVec 16), s.hears l = true → s.calRuns 4 l.val = false →
    2000000 + s.lanes[l].eyeAt ≤ s.dclk →
    ∃ t, exec (.eyeMeasure l mui) s = .next t ∧ t.rd (.vnl l) VNL.EYE_UP_MUI = mui.toNat ∧
      OnlyFields [(.vnl l, VNL.EYE_UP_MUI, 0)] (s.modLane l fun h => { h with eyeAt := s.dclk }) t) ∧
  (∀ (s : State) (l : Lane), s.dclk < s.lanes[l].lsAt + 500000 →
    exec (.noHeadTimeout l) s = .next s ∧ exec (.linkWaitExpiry l) s = .next s ∧ exec (.fastLockTimeout l) s = .next s) ∧
  (∀ (s : State) (l : Lane), s.dclk < 17500000 + s.lanes[l].boundAt → exec (.bringupTmo l) s = .next s)

/-- R299, R300, R301, R302, R303, R304, R305, R309. Frames of a running link: a control frame is sent while no line frame is
ready, sent again when its reply is late, and the link is lost after its third sending; results of FIREs, one that does not
come in time, and upstream frames with a bad CRC. What a port sends as code-groups: a line frame of N nozzles is 3N/8 + 32
of them, a control frame 20 and its payload; a FIRE carries its SEQ and CHK; an ABORT is four K30.7. The model's own choices
among these clauses are log entry 25. -/
def Obligations.LinkFrames : Prop :=
  (∀ (s : State) (l : Lane) (f : CtrlFrame) (rest : List CtrlFrame), s.devUp = true → s.ls l ≠ lsDown →
    s.ls l ≠ lsWait → s.shadow = false → s.lanes[l].ctrlEnd ≤ s.dclk → s.lineReady l = false → s.lanes[l].unacked.length < 8 → s.lanes[l].ctrl = f :: rest → f.type ≠ 0x30 →
    exec (.controlFrameSend l) s = .next ((s.sendCtrl l f).modLane l fun h =>
      { h with ctrl := rest, unacked := h.unacked ++ [{ f with sends := 1, ends := s.ctrlEnds l f.type }] })) ∧
  (∀ (s : State) (l : Lane) (f : CtrlFrame) (rest : List CtrlFrame), s.devUp = true → s.lanes[l].unacked = f :: rest →
    f.sends < 3 → s.shadow = false → 5000 + f.ends ≤ s.dclk → s.lanes[l].ctrlEnd ≤ s.dclk →
    ∃ t, exec (.controlRetry l) s = .next t ∧
      t.lanes[l].unacked = rest ++ [{ f with sends := f.sends + 1, ends := s.ctrlEnds l f.type }] ∧
      t.out = (s.sendCtrl l f).out ∧ t.rd (.vnl l) VNL.RETRY = min (s.rd (.vnl l) VNL.RETRY + 1) (2 ^ 32 - 1) ∧
      OnlyFields [(.vnl l, VNL.RETRY, 0)] ({ s with out := t.out }.modLane l fun _ => t.lanes[l]) t) ∧
  (∀ (s : State) (l : Lane) (f : CtrlFrame) (rest : List CtrlFrame), s.devUp = true → s.lanes[l].unacked = f :: rest →
    3 ≤ f.sends → s.shadow = false → 5000 + f.ends ≤ s.dclk → s.lanes[l].trial = none → s.ls l = lsUp →
    ∃ t, exec (.controlRetry l) s = .next t ∧ t.errorShown (.vnl l) = s.errorAfter (.vnl l) 0x24 ∧ t.ls l = lsFast ∧
      t.rd (.vnl l) VNL.LOSS_CNT = min (s.rd (.vnl l) VNL.LOSS_CNT + 1) (2 ^ 32 - 1) ∧ t.event (.vnl l) 9 = true) ∧
  (∀ (s : State) (l : Lane) (up : UpHead) (seq : BitVec 16), s.hears l = true → s.quiet up = true →
    s.lanes[l].fires.any (fun f => f.seq == seq.toNat) = true →
    ∃ t, exec (.lstatReceive l up seq 0) s = .next t ∧
      OnlyFields (upFields l) (s.modLane l fun h =>
        { h with fires := h.fires.filter (fun f => f.seq != seq.toNat), crcRun := 0, heardAt := s.dclk }) t) ∧
  (∀ (s : State) (l : Lane) (up : UpHead) (seq : BitVec 16) (result : BitVec 8) (tag : LineTag) (at_ : Nat), s.hears l = true →
    s.quiet up = true → 1 ≤ result.toNat → result.toNat ≤ 4 → s.shadow = false → s.spoil.overflow = none →
    s.lanes[l].fires.find? (fun f => f.seq == seq.toNat) = some { seq := seq.toNat, tag := some tag, at_ } →
    ∃ t, exec (.lstatReceive l up seq result) s = .next t ∧
      t.rd (.vnl l) VNL.RES_CNT (result.toNat - 1) = min (s.rd (.vnl l) VNL.RES_CNT (result.toNat - 1) + 1) (2 ^ 32 - 1) ∧
      t.rd (.seq l) SEQ.HEAD_CRC_CNT = min (s.rd (.seq l) SEQ.HEAD_CRC_CNT + 1) (2 ^ 32 - 1) ∧
      t.rd .spl SPL.CAUSE_CNT 13 = min (s.rd .spl SPL.CAUSE_CNT 13 + 1) (2 ^ 32 - 1) ∧ t.event (.seq l) 13 = true ∧
      t.lanes[l].crcRun = (if result.toNat ≤ 3 then s.lanes[l].crcRun + 1 else 0)) ∧
  (∀ (s : State) (l : Lane) (f : FireWait) (rest : List FireWait) (tag : LineTag), s.devUp = true → s.shadow = false →
    s.lanes[l].fires = f :: rest → f.tag = some tag →
    f.at_ + 1 + lclkDclk (s.rd (.vnl l) VNL.STAT_RATE) 7 + 500 * s.lanes[l].cfg.ackUs ≤ s.dclk →
    ∃ t, exec (.lstatTimeout l) s = .next t ∧ t.lanes[l].fires = rest ∧
      t.rd (.seq l) SEQ.NOACK_CNT = min (s.rd (.seq l) SEQ.NOACK_CNT + 1) (2 ^ 32 - 1) ∧
      t.rd .spl SPL.CAUSE_CNT 14 = min (s.rd .spl SPL.CAUSE_CNT 14 + 1) (2 ^ 32 - 1)) ∧
  (∀ (s : State) (l : Lane), s.hears l = true →
    ∃ t, exec (.upstreamCrcError l) s = .next t ∧
      t.rd (.vnl l) VNL.UP_CRC = min (s.rd (.vnl l) VNL.UP_CRC + 1) (2 ^ 32 - 1) ∧
      OnlyFields [(.vnl l, VNL.UP_CRC, 0)] s t) ∧
  (∀ (bank set epoch seq lane wl page crc : Nat) (spit : Bool) (levels : List Nat), levels.length % 64 = 0 →
    (((Out.line lane (lineFrame bank set epoch seq lane wl levels.length page spit levels) crc).groups.map Prod.snd).getD
      []).length = 3 * levels.length / 8 + 32 ∧
    (((Out.line lane (lineFrame bank set epoch seq lane wl levels.length page spit levels) crc).groups.map Prod.snd).getD
      []).take 4 = [.k27_7, .d 0xB5, .d 0xB5, .d 0xB5]) ∧
  (∀ (type cseq epoch lane crc : Nat) (payload : List Nat), payload.length ≤ 44 →
    (((Out.ctrl lane (ctrlBytes type cseq epoch payload) crc).groups.map Prod.snd).getD []).length = 20 + payload.length ∧
    20 + payload.length ≤ 64 ∧
    (((Out.ctrl lane (ctrlBytes type cseq epoch payload) crc).groups.map Prod.snd).getD []).take 4 =
      [.k23_7, .d 0xB5, .d 0xB5, .d 0xB5]) ∧
  (∀ (lane seq : Nat), seq < 2 ^ 16 →
    (Out.fire lane seq).groups = some (lane, [.k28_3, .d (seq % 256), .d (seq / 256),
      .d ((seq % 256 ^^^ (seq / 256)) ^^^ 0xA5)])) ∧
  (∀ lane : Nat, (Out.abort lane).groups = some (lane, [.k30_7, .k30_7, .k30_7, .k30_7]))

/-- R29, R264, R314, R316, R318. A link that is UP is lost for the reasons of R314 and R316; it retrains on command while its
lane does not run; and a faulted lane is cleared once its cluster is good. The model's own choices among these clauses are
log entries 78, 79. -/
def Obligations.LinkLosses : Prop :=
  (∀ (s : State) (l : Lane) (n : BitVec 8), s.devUp = true → s.ls l = lsUp → s.awlFull l = false →
    ∃ t, exec (.upstreamLockLoss l n) s = .next t ∧ LinkLost s l 1 t ∧ t.on (.vnl l) VNL.STAT_UP_LOCK = false ∧
      t.rd (.vnl l) VNL.SYM_ERR = min (s.rd (.vnl l) VNL.SYM_ERR + n.toNat) (2 ^ 32 - 1)) ∧
  (∀ (s : State) (l : Lane), s.devUp = true → s.ls l = lsUp → s.awlFull l = false →
    s.lanes[l].heardAt + 500 * s.lanes[l].cfg.statTmo ≤ s.dclk →
    ∃ t, exec (.statusTimeout l) s = .next t ∧ LinkLost s l 2 t) ∧
  (∀ (s : State) (l : Lane), s.devUp = true → s.ls l = lsUp → s.awlFull l = false →
    s.lanes[l].cfg.crcLimit ≤ s.lanes[l].crcRun →
    ∃ t, exec (.crcLimitReached l) s = .next t ∧ LinkLost s l 5 t) ∧
  (∀ (s : State) (l : Lane), s.devUp = true → s.ls l = lsUp → s.rd (.lne l) LNE.AWL_STAT_STATE = 1 →
    s.awlFull l = false → s.scanLate l = true →
    ∃ t, exec (.scanDataLate l) s = .next t ∧ LinkLost s l 6 t) ∧
  (∀ (s : State) (req : Req) (l : Lane), s.ready req (.vnl l) = true → s.ls l = lsUp → s.laneRun l = false →
    ∃ t, exec (.retrain req l) s = .next t ∧ t.ls l = lsFast ∧ t.on (.seq l) SEQ.TEMP_VALID = false ∧
      t.rd (.vnl l) VNL.LOSS_CNT = s.rd (.vnl l) VNL.LOSS_CNT) ∧
  (∀ (s : State) (req : Req) (l : Lane), s.ready req (.vnl l) = true → s.laneRun l = true →
    ∃ t, exec (.retrain req l) s = .next t ∧ t.errorShown (.vnl l) = s.errorAfter (.vnl l) 0x26 ∧
      OnlyFields (errorFields (.vnl l)) { s with reply := .posted req.code } t) ∧
  (∀ (s : State) (req : Req) (l : Lane), s.ready req (.seq l) = true → s.lanes[l].st = .fault → s.dllLock l = true →
    s.hvGood l = true → s.power.dev ≠ .fault → s.linkUp l = true → s.intake.pages = [] →
    ∃ t, exec (.seqClear req l) s = .next t ∧ t.lanes[l].st = .idle ∧ t.lanes[l].credit = [] ∧ t.lanes[l].energy = [] ∧
      t.on (.seq l) HDR.PG_STAT_FAULT = false ∧ OtherLanes [l] s t) ∧
  (∀ (s : State) (req : Req) (l : Lane), s.ready req (.seq l) = true → s.lanes[l].st ≠ .fault →
    ∃ t, exec (.seqClear req l) s = .next t ∧ t.errorShown (.seq l) = s.errorAfter (.seq l) 0x23 ∧
      OnlyFields (errorFields (.seq l)) { s with reply := .posted req.code } t)

/-- R230, R231, R232, R233, R234, R235. A scan of a lane: it starts where R233 lets it, at a command or by itself, and a start
is refused otherwise; an abort ends it with the lane IDLE while codes are still to come; its codes arrive in order; and it
is overdue. An evaluated scan whose new dead nozzles are within NEW_DEAD_MAX is written to the STAGED map: a nozzle is dead
when its code is out of window, when it is forced, or when it was dead before and REVIVE is 0; beyond the limit it is
rejected. The model's own choices among these clauses are log entry 79. -/
def Obligations.AwlScans : Prop :=
  (∀ (s : State) (req : Req) (l : Lane), s.ready req (.lne l) = true → s.rd (.lne l) LNE.AWL_STAT_STATE ≠ 1 →
    s.awlMay l = true →
    ∃ t, exec (.awlStart req l) s = .next t ∧ t.lanes[l].st = .cal ∧ t.rd (.lne l) LNE.AWL_STAT_STATE = 1 ∧
      t.on (.lne l) HDR.PG_STAT_BUSY = true ∧ t.lanes[l].awl.codes = [] ∧
      t.lanes[l].ctrl = s.lanes[l].ctrl ++ [{ type := 0x40, payload := 0, cseq := s.lanes[l].cseq }] ∧ OtherLanes [l] s t) ∧
  (∀ (s : State) (req : Req) (l : Lane), s.ready req (.lne l) = true →
    s.rd (.lne l) LNE.AWL_STAT_STATE = 1 ∨ s.awlMay l = false →
    ∃ t, exec (.awlStart req l) s = .next t ∧ t.errorShown (.lne l) =
        s.errorAfter (.lne l) (if s.rd (.lne l) LNE.AWL_STAT_STATE = 1 then 0x30 else 0x31) ∧
      OnlyFields (errorFields (.lne l)) { s with reply := .posted req.code } t) ∧
  (∀ (s : State) (l : Lane), s.devUp = true → s.on (.lne l) LNE.AWL_POL_AUTO = true →
    s.mapValid l = false ∨ s.rd (.lne l) LNE.AWL_POL_PERIOD_MIN ≤ s.awlAge l → s.awlMay l = true → s.rd (.lne l) LNE.AWL_STAT_STATE ≠ 1 →
    ∃ t, exec (.awlAutoStart l) s = .next t ∧ t.lanes[l].st = .cal ∧ t.rd (.lne l) LNE.AWL_STAT_STATE = 1 ∧
      OtherLanes [l] s t) ∧
  (∀ (s : State) (req : Req) (l : Lane), s.ready req (.lne l) = true → s.rd (.lne l) LNE.AWL_STAT_STATE = 1 →
    s.awlFull l = false → s.intake.pages = [] →
    ∃ t, exec (.awlAbort req l) s = .next t ∧ t.rd (.lne l) LNE.AWL_STAT_STATE = 5 ∧ t.lanes[l].st = .idle ∧
      t.rd (.lne l) LNE.AWL_ABORT = min (s.rd (.lne l) LNE.AWL_ABORT + 1) (2 ^ 32 - 1) ∧ t.event (.lne l) 13 = true ∧
      t.lanes[l].awl.codes = [] ∧ t.lanes[l].win = s.lanes[l].win ∧ OtherLanes [l] s t) ∧
  (∀ (s : State) (l : Lane) (up : UpHead) (codes : List (BitVec 12)), s.hears l = true → s.quiet up = true →
    s.rd (.lne l) LNE.AWL_STAT_STATE = 1 → s.lanes[l].awl.codes.length < 65536 → 1 ≤ codes.length → codes.length ≤ 64 →
    ∃ t, exec (.scanDataReceive l up (BitVec.ofNat 16 s.lanes[l].awl.codes.length) codes) s = .next t ∧
      OnlyFields (upFields l) (s.modLane l fun h => { h with awl := { h.awl with
        codes := (h.awl.codes ++ codes.map BitVec.toNat).take (s.laneN l)
        full := if ((h.awl.codes ++ codes.map BitVec.toNat).take (s.laneN l)).length = s.laneN l then some s.dclk
          else none } }) t) ∧
  (∀ (s : State) (l : Lane), s.devUp = true → s.on (.lne l) LNE.AWL_POL_AUTO = true →
    s.rd (.lne l) LNE.AWL_DEFER ≤ s.awlAge l → s.rd (.lne l) LNE.AWL_STAT_STATE ≠ 1 → s.awlMay l = false →
    ∃ t, exec (.awlOverdue l) s = .next t ∧ t.on (.lne l) HDR.PG_STAT_OVERDUE = true ∧
      OnlyFields [(.lne l, HDR.PG_STAT_OVERDUE, 0), (.lne l, HDR.PG_EVT_RAW, 0)] s t) ∧
  (∀ (s : State) (l : Lane), s.devUp = true → s.awlFull l = true → s.awlReady l = true → 0 < s.laneN l →
    s.laneN l ≤ 4096 → s.lanes[l].awl.codes.length = s.laneN l → s.on (.lne l) LNE.AWL_POL_AUTO_COMMIT = false → s.pend (.lne l) = false →
    s.mapValid l = false →
    (List.range (s.laneN l)).countP (fun j => s.codeOut l (s.lanes[l].awl.codes.getD j 0) || s.mapBit l winForce j) ≤
      s.rd (.lne l) LNE.AWL_POL_NEW_DEAD_MAX →
    (List.range (s.laneN l)).countP (fun j => s.codeOut l (s.lanes[l].awl.codes.getD j 0) || s.mapBit l winForce j) <
      s.laneN l →
    ∃ t, exec (.awlScanComplete l) s = .next t ∧ t.rd (.lne l) LNE.AWL_STAT_STATE = 3 ∧
      t.rd (.lne l) LNE.AWL_CNT = min (s.rd (.lne l) LNE.AWL_CNT + 1) (2 ^ 32 - 1) ∧
      t.rd (.lne l) LNE.AWL_TIME = s.time % 2 ^ 64 ∧ t.event (.lne l) 11 = true ∧
      (∀ j, j < s.laneN l → t.mapBit l winStaged j =
        (s.codeOut l (s.lanes[l].awl.codes.getD j 0) || s.mapBit l winForce j)) ∧
      (∀ j, j < s.laneN l → t.mapBit l winActive j = s.mapBit l winActive j)) ∧
  (∀ (s : State) (l : Lane), s.devUp = true → s.awlFull l = true → s.awlReady l = true → 0 < s.laneN l →
    s.lanes[l].awl.codes.length = s.laneN l → s.mapValid l = false →
    s.rd (.lne l) LNE.AWL_POL_NEW_DEAD_MAX <
      (List.range (s.laneN l)).countP (fun j => s.codeOut l (s.lanes[l].awl.codes.getD j 0) || s.mapBit l winForce j) →
    s.laneN l ≤ 4096 →
    ∃ t, exec (.awlScanComplete l) s = .next t ∧ t.rd (.lne l) LNE.AWL_STAT_STATE = 4 ∧
      t.rd (.lne l) LNE.AWL_REJ = min (s.rd (.lne l) LNE.AWL_REJ + 1) (2 ^ 32 - 1) ∧
      t.errorShown (.lne l) = s.errorAfter (.lne l) 0x32 ∧ t.event (.lne l) 12 = true ∧
      (∀ j, j < s.laneN l → t.mapBit l winStaged j = s.mapBit l winStaged j))

/-- R373, R376, R377, R378, R379. An item of calibration that is due and permitted starts: its page shows STALE while it runs; a
run asked for by `CAL.CMD` is refused while the instance is busy or not permitted; an item that has been due for MAX_DEFER
seconds is OVERDUE. The end of a run, not before its time has passed: a TX_AMP result out of range or too far from the code
in force is rejected and changes no code; an accepted HV_SENSE result is applied at once, an accepted TX_AMP result in steps
of one. The model's own choices among these clauses are log entries 29, 82. -/
def Obligations.Calibration : Prop :=
  (∀ (s : State) (item : CalItem) (inst : BitVec 6) (p : Page), s.devUp = true → item ≠ .dll →
    calPage item.id inst.toNat = some p → s.calDue item.id inst.toNat = true → s.calMay item.id inst.toNat = true →
    s.calBusy item.id inst.toNat = false →
    ∃ t, exec (.calStart item inst) s = .next t ∧ t.on p HDR.PG_STAT_STALE = true ∧
      t.rd .cal CAL.RUN_CNT = min (s.rd .cal CAL.RUN_CNT + 1) (2 ^ 32 - 1) ∧
      t.cal.runs = s.cal.runs ++ [{
        item := item.id, inst := inst.toNat, at_ := s.dclk
        refs := (List.finRange 4).foldl (fun n k =>
          if item.id = 7 ∧ k.val = inst.toNat then s.rd (.ddrs k) DDRS.REF_CNT else n) 0 }] ∧
      t.cal.ok = s.cal.ok ∧ t.cal.dqs = s.cal.dqs ∧
      OnlyFields [(.cal, CAL.RUN_CNT, 0), (p, HDR.PG_STAT_STALE, 0), (p, HDR.PG_STAT_OVERDUE, 0), (p, HDR.PG_EVT_RAW, 0),
        (.cal, HDR.PG_STAT_OVERDUE, 0), (.cal, HDR.PG_EVT_RAW, 0)] { s with cal := t.cal } t) ∧
  (∀ (s : State) (inst : BitVec 6) (c : Clu), s.devUp = true → c.val = inst.toNat → s.calDue 6 inst.toNat = true →
    s.calMay 6 inst.toNat = true → s.calBusy 6 inst.toNat = false →
    ∃ t, exec (.calStart .dll inst) s = .next t ∧ t.on (.ccal c) HDR.PG_STAT_STALE = true ∧
      t.on (.cpwr c) CPWR.STAT_DLL_LOCK = false ∧ t.rd (.ccal c) HDR.PG_STAT_STATE = 1 ∧
      t.calRuns 6 inst.toNat = true) ∧
  (∀ (s : State) (req : Req) (item : BitVec 4) (inst : BitVec 6), s.ready req .cal = true →
    s.calAbsent item.toNat inst.toNat = true ∨ s.calBusy item.toNat inst.toNat = true ∨
      s.calMay item.toNat inst.toNat = false →
    ∃ t, exec (.calRun req item inst) s = .next t ∧
      t.errorShown .cal = s.errorAfter .cal (if s.calAbsent item.toNat inst.toNat then 0x03
        else if s.calBusy item.toNat inst.toNat then 0x20 else 0x21) ∧
      OnlyFields (errorFields .cal) { s with reply := .posted req.code } t) ∧
  (∀ (s : State) (req : Req) (item : BitVec 4) (inst : BitVec 6) (p : Page), s.ready req .cal = true →
    calPage item.toNat inst.toNat = some p → item.toNat ≠ 6 → s.calAbsent item.toNat inst.toNat = false →
    s.calBusy item.toNat inst.toNat = false → s.calMay item.toNat inst.toNat = true →
    ∃ t, exec (.calRun req item inst) s = .next t ∧ t.on p HDR.PG_STAT_STALE = true ∧
      t.rd .cal CAL.RUN_CNT = min (s.rd .cal CAL.RUN_CNT + 1) (2 ^ 32 - 1) ∧
      t.calRuns item.toNat inst.toNat = true ∧
      OnlyFields [(.cal, CAL.RUN_CNT, 0), (p, HDR.PG_STAT_STALE, 0), (p, HDR.PG_STAT_OVERDUE, 0), (p, HDR.PG_EVT_RAW, 0),
        (.cal, HDR.PG_STAT_OVERDUE, 0), (.cal, HDR.PG_EVT_RAW, 0)]
        { s with cal := t.cal, reply := .posted req.code } t) ∧
  (∀ (s : State) (req : Req) (inst : BitVec 6) (c : Clu), s.ready req .cal = true → c.val = inst.toNat →
    s.calAbsent 6 inst.toNat = false → s.calBusy 6 inst.toNat = false → s.calMay 6 inst.toNat = true →
    ∃ t, exec (.calRun req 6 inst) s = .next t ∧ t.on (.ccal c) HDR.PG_STAT_STALE = true ∧
      t.on (.cpwr c) CPWR.STAT_DLL_LOCK = false ∧ t.rd (.ccal c) HDR.PG_STAT_STATE = 1 ∧
      t.calRuns 6 inst.toNat = true) ∧
  (∀ (s : State) (item : CalItem) (inst : BitVec 6), s.calDue item.id inst.toNat = false ∨ s.calMay item.id inst.toNat = false ∨
      s.calBusy item.id inst.toNat = true → exec (.calStart item inst) s = .next s) ∧
  (∀ (s : State) (item : CalItem) (inst : BitVec 6), s.calLate item.id inst.toNat = false →
    exec (.calOverdue item inst) s = .next s) ∧
  (∀ (s : State) (item : CalItem) (inst : BitVec 6) (p : Page), s.devUp = true → calPage item.id inst.toNat = some p →
    s.calPowered item.id inst.toNat = true → s.calLate item.id inst.toNat = true →
    s.calDue item.id inst.toNat = true → s.calRuns item.id inst.toNat = false →
    ∃ t, exec (.calOverdue item inst) s = .next t ∧ t.on p HDR.PG_STAT_OVERDUE = true ∧
      t.on .cal HDR.PG_STAT_OVERDUE = true ∧ t.cal.late.contains (item.id, inst.toNat) = true ∧
      OnlyFields [(p, HDR.PG_STAT_OVERDUE, 0), (p, HDR.PG_EVT_RAW, 0), (.cal, HDR.PG_STAT_OVERDUE, 0),
        (.cal, HDR.PG_EVT_RAW, 0)] { s with cal := t.cal } t) ∧
  (∀ (s : State) (inst : BitVec 6) (l : Lane) (code : BitVec 16) (qual : Word) (r : CalRun), s.devUp = true → l.val = inst.toNat →
    s.cal.runs.find? (fun r => r.item == 2 && r.inst == inst.toNat && r.goal.isNone) = some r → s.calRipe r = true →
    calInRange 2 code.toNat = false ∨ s.rd .cal (CAL.polDelta 2) < calShift 2 (s.rd (.vnl l) (ITEM.VAL_VALUE 2)) code.toNat →
    ∃ t, exec (.calResult .txAmp inst code qual []) s = .next t ∧
      t.rd (.vnl l) (ITEM.VAL_VALUE 2) = s.rd (.vnl l) (ITEM.VAL_VALUE 2) ∧
      t.rd (.vnl l) (ITEM.FAIL_REJECT 2) = min (s.rd (.vnl l) (ITEM.FAIL_REJECT 2) + 1) (2 ^ 16 - 1) ∧
      t.rd .cal CAL.REJ_CNT = min (s.rd .cal CAL.REJ_CNT + 1) (2 ^ 32 - 1) ∧
      t.errorShown .cal = s.errorAfter .cal 0x22 ∧ t.event (.vnl l) 3 = true ∧ t.on (.vnl l) HDR.PG_STAT_STALE = false ∧
      t.calRuns 2 inst.toNat = false) ∧
  (∀ (s : State) (inst : BitVec 6) (l : Lane) (code : BitVec 16) (qual : Word) (r : CalRun), s.devUp = true → l.val = inst.toNat →
    s.cal.runs.find? (fun r => r.item == 1 && r.inst == inst.toNat && r.goal.isNone) = some r → s.calRipe r = true →
    calInRange 1 code.toNat = true → calShift 1 (s.rd (.seq l) (ITEM.VAL_VALUE 1)) code.toNat ≤ s.rd .cal (CAL.polDelta 1) →
    ∃ t, exec (.calResult .hvSense inst code qual []) s = .next t ∧
      t.rd (.seq l) (ITEM.VAL_VALUE 1) = code.toNat ∧ t.rd (.seq l) (ITEM.QUAL 1) = qual.toNat ∧
      t.rd (.seq l) (ITEM.CNT 1) = min (s.rd (.seq l) (ITEM.CNT 1) + 1) (2 ^ 32 - 1) ∧
      t.on (.seq l) HDR.PG_STAT_STALE = false ∧ t.event (.seq l) 2 = true ∧ t.cal.ok.contains (1, inst.toNat) = true ∧
      t.calRuns 1 inst.toNat = false ∧ OtherPages [.seq l] s t) ∧
  (∀ (s : State) (inst : BitVec 6) (l : Lane) (code : BitVec 16) (qual : Word) (r : CalRun), s.devUp = true → l.val = inst.toNat →
    s.cal.runs.find? (fun r => r.item == 2 && r.inst == inst.toNat && r.goal.isNone) = some r → s.calRipe r = true →
    calInRange 2 code.toNat = true → calShift 2 (s.rd (.vnl l) (ITEM.VAL_VALUE 2)) code.toNat ≤ s.rd .cal (CAL.polDelta 2) →
    code.toNat ≠ s.rd (.vnl l) (ITEM.VAL_VALUE 2) →
    exec (.calResult .txAmp inst code qual []) s = .next { s with cal := { s.cal with
      runs := s.cal.runs.map fun x =>
        if x.item = 2 && x.inst = inst.toNat then { x with goal := some (code.toNat, qual.toNat), stepAt := s.dclk } else x } }) ∧
  (∀ (s : State) (item : CalItem) (inst : BitVec 6) (code : BitVec 16) (qual : Word) (eyes : List (BitVec 16 × BitVec 16)),
    (∀ r, s.cal.runs.find? (fun r => r.item == item.id && r.inst == inst.toNat && r.goal.isNone) = some r →
      s.calRipe r = false) → exec (.calResult item inst code qual eyes) s = .next s) ∧
  (∀ (s : State) (inst : BitVec 6) (l : Lane) (eye : BitVec 16) (goal qual : Nat), s.devUp = true → l.val = inst.toNat →
    (s.cal.runs.find? fun r => r.item == 2 && r.inst == inst.toNat && s.calMoves r).bind (fun r => r.goal) = some (goal, qual) →
    s.rd (.vnl l) (ITEM.VAL_VALUE 2) + 1 < goal → goal < 2 ^ 16 →
    ∃ t, exec (.calStep .txAmp inst eye) s = .next t ∧
      t.rd (.vnl l) (ITEM.VAL_VALUE 2) = s.rd (.vnl l) (ITEM.VAL_VALUE 2) + 1 ∧
      OnlyFields [(.vnl l, ITEM.VAL_VALUE 2, 0)] { s with cal := { s.cal with runs := s.cal.runs.map fun x =>
        if x.item = 2 && x.inst = inst.toNat then { x with stepAt := s.dclk } else x } } t) ∧
  (∀ (s : State) (inst : BitVec 6) (l : Lane) (eye : BitVec 16) (goal qual : Nat), s.devUp = true → l.val = inst.toNat →
    (s.cal.runs.find? fun r => r.item == 2 && r.inst == inst.toNat && s.calMoves r).bind (fun r => r.goal) = some (goal, qual) →
    goal + 1 = s.rd (.vnl l) (ITEM.VAL_VALUE 2) → goal < 2 ^ 16 →
    ∃ t, exec (.calStep .txAmp inst eye) s = .next t ∧ t.rd (.vnl l) (ITEM.VAL_VALUE 2) = goal ∧
      t.rd (.vnl l) (ITEM.QUAL 2) = eye.toNat ∧ t.on (.vnl l) HDR.PG_STAT_STALE = false ∧ t.event (.vnl l) 2 = true ∧
      t.calRuns 2 inst.toNat = false)

/-- R341, R342, R343, R344, R355, R356. The pair link comes up or stays in training, goes down; a heartbeat goes out 500 DCLK
after the last one and 500 DCLK without one are counted as a miss, not before; a heartbeat with a bad CRC is discarded and
counted, and one from a LEAD is taken by its SHADOW. The model's own choices among these clauses are log entries 27, 83. -/
def Obligations.PairLink : Prop :=
  (∀ (s : State) (pol : BitVec 4) (reversed mapOk : Bool) (skew : BitVec 5), s.devUp = true → s.pairUp = false →
    ∃ t, exec (.pairLinkUp pol reversed mapOk skew) s = .next t ∧ t.rd .pair PAIR.STAT_LOCK = 15 ∧
      t.rd .pair PAIR.STAT_POL_INV = pol.toNat ∧ t.on .pair PAIR.STAT_REVERSED = reversed ∧
      t.rd .pair PAIR.SKEW = skew.toNat ∧
      (if mapOk = true ∧ skew.toNat ≤ 16 then t.pairUp = true ∧ t.event .pair 8 = true
        else t.rd .pair PAIR.STAT_LINK = 1 ∧ t.errorShown .pair = s.errorAfter .pair 0x23) ∧
      OnlyFields ([(.pair, PAIR.STAT_LOCK, 0), (.pair, PAIR.STAT_POL_INV, 0), (.pair, PAIR.STAT_REVERSED, 0),
        (.pair, PAIR.SKEW, 0), (.pair, PAIR.STAT_LINK, 0)] ++ errorFields .pair) s t) ∧
  (∀ (s : State) (lock : BitVec 4), s.devUp = true → s.pairUp = true →
    ∃ t, exec (.pairLinkDown lock) s = .next t ∧ t.rd .pair PAIR.STAT_LINK = 1 ∧
      t.rd .pair PAIR.STAT_LOCK = lock.toNat ∧ t.event .pair 9 = true ∧
      OnlyFields [(.pair, PAIR.STAT_LOCK, 0), (.pair, PAIR.STAT_LINK, 0), (.pair, HDR.PG_EVT_RAW, 0)] s t) ∧
  (∀ s : State, s.devUp = true → s.pairUp = true → s.pair.hbAt + 500 ≤ s.dclk →
    exec .heartbeatSend s = .next { s with
      out := s.out ++ [.pairMsg 1 (s.hbBody ++ bytesOf 4 (crc32c s.hbBody))]
      pair := { s.pair with hbSeq := (s.pair.hbSeq + 1) % 65536, hbAt := s.dclk } }) ∧
  (∀ s : State, s.devUp = true → s.pair.missAt + 500 ≤ s.dclk →
    ∃ t, exec .hbMiss s = .next t ∧ t.rd .pair PAIR.HB_MISS = min (s.rd .pair PAIR.HB_MISS + 1) (2 ^ 32 - 1) ∧
      (s.pair.fresh = true → t.event .pair 16 = true) ∧
      OnlyFields [(.pair, PAIR.HB_MISS, 0), (.pair, HDR.PG_EVT_RAW, 0)]
        { s with pair := { s.pair with fresh := false, missAt := s.dclk } } t) ∧
  (∀ s : State, s.dclk < s.pair.hbAt + 500 → exec .heartbeatSend s = .next s) ∧
  (∀ s : State, s.dclk < s.pair.missAt + 500 → exec .hbMiss s = .next s) ∧
  (∀ (s : State) (msg : List Byte), s.devUp = true → s.pairUp = true → pairBody msg 64 = none →
    ∃ t, exec (.heartbeatReceive msg) s = .next t ∧
      t.rd .pair PAIR.CRC_ERR = min (s.rd .pair PAIR.CRC_ERR + 1) (2 ^ 32 - 1) ∧
      OnlyFields [(.pair, PAIR.CRC_ERR, 0)] s t) ∧
  (∀ (s : State) (msg : List Byte) (b : List Nat), s.devUp = true → s.pairUp = true → pairBody msg 64 = some b →
    s.shadow = true → s.rd .pair PAIR.CTRL_WANT = 2 → bodyAt b 2 1 = 1 → bodyAt b 6 2 = s.rd .sys SYS.DEV_ID_PART →
    ∃ t, exec (.heartbeatReceive msg) s = .next t ∧ t.rd .pair PAIR.STAT_P_ROLE = 1 ∧
      t.on .pair PAIR.STAT_P_FAULT = bit (bodyAt b 3 1) 1 ∧ t.rd .pair PAIR.EPOCH_P_EPOCH = bodyAt b 4 2 % 2 ^ 16 ∧
      t.rd .pair PAIR.HB_AGE = 0 ∧ t.rd .pair PAIR.HB_RX = min (s.rd .pair PAIR.HB_RX + 1) (2 ^ 32 - 1) ∧
      t.rd .pair PAIR.FIRED_WL = bodyAt b 0x30 6 % 2 ^ 48 ∧ t.pair.holdMask = bodyAt b 0x18 8 ∧ t.pair.fresh = true ∧
      t.pair.heard = some (bodyAt b 3 1, bodyAt b 6 2) ∧ OtherPages [.pair] s t ∧ OtherLanes [] s t)

/-- R338, R354, R355. Alignment, handover and firmware messages. The model's own choices among these clauses are log entry 27. -/
def Obligations.PairMessages : Prop :=
  (∀ (s : State) (req : Req), s.ready req .pair = true → s.pair.role = .lead → s.pairUp = true →
    s.on .pace PACE.STAT_STOPPED = true → s.bothIdle = true →
    ∃ t, exec (.pairAlign req) s = .next t ∧
      t.out = s.out ++ [.pairMsg 2 ((bytesOf 6 (s.rd .pace PACE.WL) ++ bytesOf 6 (unsigned 48 s.pace.acc) ++ bytesOf 4 0) ++
        bytesOf 4 (crc32c (bytesOf 6 (s.rd .pace PACE.WL) ++ bytesOf 6 (unsigned 48 s.pace.acc) ++ bytesOf 4 0)))] ∧
      OnlyFields [] { s with
        reply := .posted req.code, out := t.out, pair := { s.pair with aligned := true } } t) ∧
  (∀ (s : State) (msg : List Byte) (b : List Nat), s.devUp = true → s.pairUp = true → pairBody msg 20 = some b →
    s.shadow = true → s.on .pace PACE.STAT_STOPPED = true → s.noPage = true →
    ∃ t, exec (.alignReceive msg) s = .next t ∧ t.rd .pace PACE.WL = bodyAt b 0 6 % 2 ^ 48 ∧
      t.pace.acc = signed 48 (bodyAt b 6 6) ∧
      OnlyFields [(.pace, PACE.WL, 0), (.pace, PACE.STAT_REVERSE, 0), (.pace, HDR.PG_EVT_RAW, 0)]
        { s with pace := { s.pace with
          acc := signed 48 (bodyAt b 6 6)
          tofWl := s.pace.tofWl.map fun w => w + ((bodyAt b 0 6 : Int) - s.rd .pace PACE.WL) } } t) ∧
  (∀ (s : State) (msg : List Byte) (b : List Nat), s.devUp = true → s.pairUp = true → pairBody msg 20 = some b →
    s.shadow = true → s.on .pace PACE.STAT_STOPPED = false ∨ s.noPage = false →
    ∃ t, exec (.alignReceive msg) s = .next t ∧ t.errorShown .pair = s.errorAfter .pair 0x25 ∧
      OnlyFields (errorFields .pair) s t) ∧
  (∀ (s : State) (req : Req), s.ready req .pair = true → s.pair.role = .lead → s.pairUp = true → s.bothIdle = true →
    s.rd .pair PAIR.STAT_P_ROLE = 2 → bit s.partnerFlags 0 = true →
    ∃ t, exec (.pairHandover req) s = .next t ∧
      t.out = s.out ++ [.pairMsg 3 ((bytesOf 2 (s.rd .pair PAIR.EPOCH_EPOCH) ++ bytesOf 2 0) ++
        bytesOf 4 (crc32c (bytesOf 2 (s.rd .pair PAIR.EPOCH_EPOCH) ++ bytesOf 2 0)))] ∧
      OnlyFields [] { s with
        reply := .posted req.code, out := t.out, pair := { s.pair with handover := true } } t) ∧
  (∀ (s : State) (req : Req), s.ready req .pair = true →
    s.pair.role ≠ .lead ∨ s.pairUp = false ∨ s.bothIdle = false ∨ s.rd .pair PAIR.STAT_P_ROLE ≠ 2 ∨
      bit s.partnerFlags 0 = false →
    ∃ t, exec (.pairHandover req) s = .next t ∧ t.errorShown .pair = s.errorAfter .pair 0x26 ∧
      OnlyFields (errorFields .pair) { s with reply := .posted req.code } t) ∧
  (∀ (s : State) (req : Req), s.ready req .pair = true → s.on .pair PAIR.FW_TX_CTRL_BUSY = false →
    s.rd .pair PAIR.FW_TX_CTRL_LEN ≠ 0 → s.pairUp = true →
    ∃ t, exec (.fwSend req) s = .next t ∧ t.on .pair PAIR.FW_TX_CTRL_BUSY = true ∧
      t.out = s.out ++ [.pairMsg 0x10
        (((List.range (s.rd .pair PAIR.FW_TX_CTRL_LEN / 4)).flatMap fun i => bytesOf 4 (s.rd .pair PAIR.FW_TX i)) ++
          bytesOf 4 (crc32c ((List.range (s.rd .pair PAIR.FW_TX_CTRL_LEN / 4)).flatMap fun i =>
            bytesOf 4 (s.rd .pair PAIR.FW_TX i))))] ∧
      OnlyFields [(.pair, PAIR.FW_TX_CTRL_BUSY, 0)]
        { s with reply := .posted req.code, out := t.out, pair := { s.pair with fwUntil := s.dclk + 160 } } t) ∧
  (∀ (s : State) (req : Req), s.ready req .pair = true → s.on .pair PAIR.FW_TX_CTRL_BUSY = true →
    ∃ t, exec (.fwSend req) s = .next t ∧ t.errorShown .pair = s.errorAfter .pair 0x2C ∧
      OnlyFields (errorFields .pair) { s with reply := .posted req.code } t) ∧
  (∀ (s : State) (msg : List Byte) (b : List Nat), s.devUp = true → s.pairUp = true → 8 ≤ msg.length →
    msg.length ≤ 260 → msg.length % 4 = 0 → pairBody msg msg.length = some b → s.on .pair PAIR.FW_RX_CTRL_FULL = false →
    ∃ t, exec (.fwReceive msg) s = .next t ∧ t.rd .pair PAIR.FW_RX_CTRL_LEN = b.length ∧
      t.on .pair PAIR.FW_RX_CTRL_FULL = true ∧ t.event .pair 14 = true ∧
      (∀ i, i < b.length / 4 → t.rd .pair PAIR.FW_RX i = bodyAt b (4 * i) 4 % 2 ^ 32) ∧
      OnlyFields ([(.pair, PAIR.FW_RX_CTRL_LEN, 0), (.pair, PAIR.FW_RX_CTRL_FULL, 0), (.pair, HDR.PG_EVT_RAW, 0)] ++
        (List.range 64).map fun i => (.pair, PAIR.FW_RX, i)) s t) ∧
  (∀ (s : State) (msg : List Byte) (b : List Nat), s.devUp = true → s.pairUp = true → 8 ≤ msg.length →
    msg.length ≤ 260 → msg.length % 4 = 0 → pairBody msg msg.length = some b → s.on .pair PAIR.FW_RX_CTRL_FULL = true →
    ∃ t, exec (.fwReceive msg) s = .next t ∧
      t.rd .pair PAIR.FW_DROP = min (s.rd .pair PAIR.FW_DROP + 1) (2 ^ 32 - 1) ∧
      OnlyFields [(.pair, PAIR.FW_DROP, 0)] s t)

/-- R68, R345, R347, R354. Changes of role: a SHADOW promotes to LEAD with an epoch one above its partner's once HB_AGE is 1,600
or PFAULT_I is high and TAKE_EN is set, and at a HANDOVER; in FAULT it records PROMOTE_FAULT instead; a LEAD whose ROLE_I
rises demotes. The model's own choices among these clauses are log entries 27, 77, 94. -/
def Obligations.PairRoles : Prop :=
  (∀ s : State, s.rd .pair PAIR.HB_AGE < 1600 → exec .heartbeatTimeout s = .next s) ∧
  (∀ s : State, s.devUp = true → 1600 ≤ s.rd .pair PAIR.HB_AGE → s.shadow = true → s.power.dev ≠ .fault → s.on .pair PAIR.CTRL_TAKE_EN = true →
    ∃ t, exec .heartbeatTimeout s = .next t ∧ t.pair.role = .lead ∧ t.rd .pair PAIR.TO_CAUSE = 2 ∧
      t.rd .pair PAIR.EPOCH_EPOCH = (s.rd .pair PAIR.EPOCH_P_EPOCH + 1) % 65536 ∧
      t.rd .pair PAIR.PROMOTE_CNT = min (s.rd .pair PAIR.PROMOTE_CNT + 1) (2 ^ 32 - 1) ∧ t.event .pair 10 = true ∧
      t.pair.fWl = s.pair.fClear ∧ t.on .pair PAIR.STAT_ROLE_O = true) ∧
  (∀ s : State, s.devUp = true → s.shadow = true → s.power.dev ≠ .fault → s.on .pair PAIR.CTRL_TAKE_EN = true →
    ∃ t, exec (.pfaultI true) s = .next t ∧ t.pair.role = .lead ∧ t.rd .pair PAIR.TO_CAUSE = 1 ∧
      t.on .pair PAIR.STAT_PFAULT_I = true ∧
      t.rd .pair PAIR.EPOCH_EPOCH = (s.rd .pair PAIR.EPOCH_P_EPOCH + 1) % 65536 ∧ t.event .pair 10 = true) ∧
  (∀ s : State, s.devUp = true → s.shadow = true → s.power.dev = .fault →
    ∃ t, exec (.pfaultI true) s = .next t ∧ t.pair.role = .shadow ∧
      t.errorShown .pair = s.errorAfter .pair 0x2A ∧ t.on .pair PAIR.STAT_PFAULT_I = true ∧
      OnlyFields ((.pair, PAIR.STAT_PFAULT_I, 0) :: errorFields .pair) s t) ∧
  (∀ (s : State) (level : Bool), s.devUp = true → level = false ∨ s.shadow = false ∨
      (s.power.dev ≠ .fault ∧ s.on .pair PAIR.CTRL_TAKE_EN = false) →
    ∃ t, exec (.pfaultI level) s = .next t ∧ t.on .pair PAIR.STAT_PFAULT_I = level ∧
      OnlyFields [(.pair, PAIR.STAT_PFAULT_I, 0)] s t) ∧
  (∀ (s : State) (msg : List Byte) (b : List Nat), s.devUp = true → s.pairUp = true → pairBody msg 8 = some b →
    s.shadow = true → s.power.dev ≠ .fault →
    ∃ t, exec (.handoverReceive msg) s = .next t ∧ t.pair.role = .lead ∧ t.rd .pair PAIR.TO_CAUSE = 3 ∧
      t.rd .pair PAIR.EPOCH_EPOCH = (s.rd .pair PAIR.EPOCH_P_EPOCH + 1) % 65536 ∧ t.event .pair 10 = true) ∧
  (∀ s : State, s.devUp = true → s.pair.role = .lead → s.power.dev ≠ .fault →
    ∃ t, exec (.roleIRise true) s = .next t ∧ t.pair.role = .shadow ∧ t.on .pair PAIR.STAT_ROLE_I = true ∧
      t.rd .pair PAIR.DEMOTE_CNT = min (s.rd .pair PAIR.DEMOTE_CNT + 1) (2 ^ 32 - 1) ∧ t.event .pair 11 = true ∧
      t.on .pair PAIR.STAT_ROLE_O = false ∧
      (∀ l : Lane, t.lanes[l].ctrl = [] ∧ t.lanes[l].unacked = [] ∧ t.lanes[l].fires = []) ∧
      (s.pair.handover = false → t.errorShown .pair = s.errorAfter .pair 0x2B ∧ t.on .pair PAIR.CTRL_TAKE_EN = false)) ∧
  (∀ (s : State) (level : Bool), s.devUp = true → level = false ∨ s.pair.role ≠ .lead ∨ s.power.dev = .fault →
    ∃ t, exec (.roleIRise level) s = .next t ∧ t.on .pair PAIR.STAT_ROLE_I = level ∧
      OnlyFields [(.pair, PAIR.STAT_ROLE_I, 0)] s t)

/-- R113, R137, R138. A preset load begins with the read of its bytes, or fails with PRESET_BAD. Once the bytes have come and
the spool serves its ports, they and their length stand in the spool and its VALID bit is set; in self-refresh the load goes
on waiting. A preset drop clears the VALID bit as it executes, and no other, and completes once nothing reads the preset.
The model's own choices among these clauses are log entry 87. -/
def Obligations.Presets : Prop :=
  (∀ (s : State) (entry : BitVec 512), s.admitted 0x12 entry = true → entryField entry 1 3 = 0 → entryField entry 5 3 = 0 →
    entryField entry 0xC 4 = 0 → entryField entry 0x18 40 = 0 → 1 ≤ entryField entry 8 4 → entryField entry 8 4 ≤ 16384 →
    s.presetValid (entryField entry 4 1) = false → s.rd .cdc CDC.PRESET_BASE ≠ 0 →
    (∀ e ∈ s.codec.loads, e.1 ≠ entryField entry 4 1) →
    ∃ t, exec (.presetLoad entry) s = .next t ∧ AdminPassed s t ∧
      OnlyFields adminFields { s with
        out := (s.adminOver.dmaStart (.dma (.preset (BitVec.ofNat 8 (entryField entry 4 1)))) (entryField entry 0x10 8)
          (entryField entry 8 4)).out
        codec := { s.codec with loads := s.codec.loads ++ [(entryField entry 4 1, entryField entry 8 4)] }
        intake := { s.intake with
          rings := s.adminRings
          reads := (s.adminOver.dmaStart (.dma (.preset (BitVec.ofNat 8 (entryField entry 4 1))))
            (entryField entry 0x10 8) (entryField entry 8 4)).intake.reads } } t) ∧
  (∀ (s : State) (entry : BitVec 512), s.admitted 0x12 entry = true → entryField entry 1 3 = 0 → entryField entry 5 3 = 0 →
    entryField entry 0xC 4 = 0 → entryField entry 0x18 40 = 0 →
    entryField entry 8 4 = 0 ∨ 16384 < entryField entry 8 4 ∨ s.presetValid (entryField entry 4 1) = true ∨
      s.rd .cdc CDC.PRESET_BASE = 0 →
    ∃ t, exec (.presetLoad entry) s = .next t ∧ AdminPassed s t ∧ t.errorShown .int = s.errorAfter .int 0x2F ∧
      OnlyFields (errorFields .int ++ adminFields)
        { s with intake := { s.intake with
          rings := s.adminRings, reads := s.adminReads, cq := s.intake.cq ++ [adminCqe 0x112F 0 0 0] } } t) ∧
  (∀ (s : State) (id : BitVec 8) (data : List Byte), s.devUp = true → s.codec.loads.contains (id.toNat, data.length) = true →
    data.length ≤ 16384 → s.dmaSent (.dma (.preset id)) = true → s.ddrState = ddrActive → s.ddr.poison = [] →
    s.presetAt id.toNat + data.length ≤ s.spoolSize → s.presetLenAt id.toNat + 4 ≤ s.spoolSize →
    ∃ t, exec (.presetLoadDone id data) s = .next t ∧ t.presetValid id.toNat = true ∧
      Memory.readAll t.ddr.mem (s.presetAt id.toNat) data.length = data ∧
      Memory.readNat t.ddr.mem (s.presetLenAt id.toNat) 4 = data.length ∧
      (s.presetValid id.toNat = false → t.event .cdc 11 = true) ∧
      (∀ a, a < s.presetAt id.toNat ∨ s.presetAt id.toNat + data.length ≤ a →
        a < s.presetLenAt id.toNat ∨ s.presetLenAt id.toNat + 4 ≤ a → Memory.read t.ddr.mem a = Memory.read s.ddr.mem a) ∧
      OnlyFields [(.cdc, CDC.PRESET_VALID, id.toNat / 32), (.cdc, HDR.PG_EVT_RAW, 0)] { s with
        ddr := { s.ddr with mem := t.ddr.mem, writeBack := t.ddr.writeBack, lastReq := s.dclk }
        codec := { s.codec with loads := s.codec.loads.filter fun e => e.1 != id.toNat }
        intake := { s.intake with
          cq := s.intake.cq ++ [adminCqe 0 0 0 0], reads := s.readsLess (.dma (.preset id)) } } t) ∧
  (∀ (s : State) (id : BitVec 8) (data : List Byte), s.devUp = true → s.codec.loads.contains (id.toNat, data.length) = true →
    s.dmaSent (.dma (.preset id)) = true → s.portsHold = true →
    ∃ t, exec (.presetLoadDone id data) s = .next t ∧ t.codec = s.codec ∧ t.ddr.mem = s.ddr.mem ∧
      t.presetValid id.toNat = s.presetValid id.toNat ∧ t.intake = s.intake) ∧
  (∀ (s : State) (entry : BitVec 512), s.admitted 0x13 entry = true → entryField entry 1 3 = 0 → entryField entry 5 59 = 0 →
    ∃ t, exec (.presetDrop entry) s = .next t ∧ AdminPassed s t ∧ t.presetValid (entryField entry 4 1) = false ∧
      (∀ i, i < 256 → i ≠ entryField entry 4 1 → t.presetValid i = s.presetValid i) ∧
      (s.presetValid (entryField entry 4 1) = true → t.event .cdc 11 = true) ∧
      OnlyFields (adminFields ++ [(.cdc, CDC.PRESET_VALID, entryField entry 4 1 / 32), (.cdc, HDR.PG_EVT_RAW, 0)]) { s with
        codec := { s.codec with drops := s.codec.drops ++ [entryField entry 4 1], decPreset := t.codec.decPreset }
        intake := { s.intake with rings := s.adminRings, reads := s.adminReads } } t) ∧
  (∀ (s : State) (id : BitVec 8), s.devUp = true → s.codec.drops.contains id.toNat = true → s.presetRead id.toNat = false →
    exec (.presetDropDone id) s = .next { s with
      codec := { s.codec with drops := s.codec.drops.erase id.toNat }
      intake := { s.intake with cq := s.intake.cq ++ [adminCqe 0 0 0 0] } }) ∧
  (∀ (s : State) (id : BitVec 8), s.presetRead id.toNat = true → exec (.presetDropDone id) s = .next s)

/-- R145, R148, R149, R150, R153. A compress job that its descriptor allows enters the lowest free slot of its kind: 0 to 11 for
the host, 12 to 15 for firmware; with none free the queue is full, and a codec that is not enabled ends a firmware job at
once. A job with its input and its chain in host memory parks when it needs an entry beyond COUNT, and keeps what it has
written; a further COUNT resumes it. PARK_TMO and ABORT end a job; RELEASE frees a firmware slot in DONE. The model's own
choices among these clauses are log entries 18, 75. -/
def Obligations.CompressJobs : Prop :=
  (∀ (s : State) (entry : BitVec 512) (k : Nat), s.admitted 0x14 entry = true → entryField entry 1 15 = 0 →
    s.freeSlot 0 12 = some k → s.codecOn = true → jobBad (entryField entry 0x10 48) true 0 carveEnd = false →
    ∃ t, exec (.compress entry) s = .next t ∧ AdminPassed s t ∧ JobQueued s k (entryField entry 0x10 48) t ∧
      OnlyFields (adminFields ++ slotFields k)
        { s with codec := t.codec, intake := { s.intake with rings := s.adminRings, reads := s.adminReads } } t) ∧
  (∀ (s : State) (entry : BitVec 512), s.admitted 0x14 entry = true → entryField entry 1 15 = 0 → s.freeSlot 0 12 = none →
    ∃ t, exec (.compress entry) s = .next t ∧ AdminPassed s t ∧ t.errorShown .cdc = s.errorAfter .cdc 0x25 ∧
      (t.intake.cq.map fun c => (c.type, c.src, c.status)) =
        (s.intake.cq.map fun c => (c.type, c.src, c.status)) ++ [(4, 8, 0x1225)] ∧
      OnlyFields (adminFields ++ errorFields .cdc)
        { s with intake := { s.intake with rings := s.adminRings, reads := s.adminReads, cq := t.intake.cq } } t) ∧
  (∀ (s : State) (req : Req) (k d : Nat), s.open_ req .cdc = true → s.freeSlot 12 16 = some k → s.codecOn = true →
    d = (List.range 12).foldl (fun a i => a + s.rd .cdc CDC.FJOB_DESC i * 2 ^ (32 * i)) 0 → jobBad d false 0 carveEnd = false →
    ∃ t, exec (.fjobGo req) s = .next t ∧ t.rd .cdc CDC.FJOB_SLOT = k ∧ JobQueued s k d t ∧
      OnlyFields ((.cdc, CDC.FJOB_SLOT, 0) :: slotFields k) { s with reply := .posted req.code, codec := t.codec } t) ∧
  (∀ (s : State) (req : Req), s.open_ req .cdc = true → s.freeSlot 12 16 = none →
    ∃ t, exec (.fjobGo req) s = .next t ∧ t.errorShown .cdc = s.errorAfter .cdc 0x25 ∧
      OnlyFields (errorFields .cdc) { s with reply := .posted req.code } t) ∧
  (∀ (s : State) (req : Req) (k : Nat), s.open_ req .cdc = true → s.freeSlot 12 16 = some k → s.codecOn = false →
    ∃ t, exec (.fjobGo req) s = .next t ∧ t.rd .cdc CDC.FJOB_SLOT = k ∧ t.rd .cdc CDC.JS_STAT_RESULT k = 0x1207 ∧
      t.slotState k = jsDone ∧ t.errorShown .cdc = s.errorAfter .cdc 0x07 ∧ t.event .cdc 10 = true) ∧
  (∀ (s : State) (k : Fin 16) (e : Fin 12) (input : List Byte) (chain : List (BitVec 128)) (enc : Encoding)
    (laid : List (Nat × List Nat)), s.devUp = true → s.slotState k.val = jsRunning → s.jobEncoder k.val = some e →
    hostJob (s.job k.val).desc = true → s.rd .cdc CDC.JS_CHAIN k.val ≤ chain.length →
    (s.jobTakes k.val input).length = jobRaw (s.job k.val).desc → enc = s.jobEncoding e k.val (s.jobTakes k.val input) →
    s.jobLay k.val chain enc.out = (laid, .short) →
    ∃ t, exec (.jobPark k input chain) s = .next t ∧ t.slotState k.val = jsParked ∧
      t.rd .cdc CDC.JS_OUT k.val = (enc.progress (laidLen laid)).1 % 2 ^ 17 ∧
      t.rd .cdc CDC.JS_IN k.val = (enc.progress (laidLen laid)).2 % 2 ^ 17 ∧ t.event .cdc 9 = true ∧
      OnlyFields [(.cdc, CDC.JS_STAT_STATE, k.val), (.cdc, CDC.JS_OUT, k.val), (.cdc, CDC.JS_IN, k.val),
        (.cdc, HDR.PG_EVT_RAW, 0)] { s with
          out := s.jobSends k.val laid
          codec := { s.codec with jobs := s.codec.jobs.setIfInBounds k.val (some { s.job k.val with
            input := s.jobTakes k.val input
            chain := (s.jobEntries k.val chain).filterMap id
            written := laidLen laid
            parkAt := s.dclk }) } } t) ∧
  (∀ (s : State) (k : Fin 16) (input : List Byte) (chain : List (BitVec 128)), s.slotState k.val ≠ jsRunning →
    exec (.jobPark k input chain) s = .next s) ∧
  (∀ (s : State) (req : Req) (k : Fin 16) (n : BitVec 13), s.open_ req .cdc = true →
    s.slotState k.val = jsQueued ∨ s.slotState k.val = jsRunning ∨ s.slotState k.val = jsParked →
    s.rd .cdc CDC.JS_CHAIN k.val ≤ n.toNat → n.toNat ≤ 4096 →
    ∃ t, exec (.chainCountWrite req k n) s = .next t ∧ t.rd .cdc CDC.JS_CHAIN k.val = n.toNat ∧
      t.slotState k.val = (if s.slotState k.val = jsParked ∧ s.rd .cdc CDC.JS_CHAIN k.val < n.toNat then jsRunning
        else s.slotState k.val) ∧
      OnlyFields [(.cdc, CDC.JS_CHAIN, k.val), (.cdc, CDC.JS_STAT_STATE, k.val)] { s with reply := .posted req.code } t) ∧
  (∀ (s : State) (req : Req) (k : Fin 16) (n : BitVec 13), s.open_ req .cdc = true →
    s.slotState k.val = jsQueued ∨ s.slotState k.val = jsRunning ∨ s.slotState k.val = jsParked →
    n.toNat < s.rd .cdc CDC.JS_CHAIN k.val ∨ 4096 < n.toNat →
    ∃ t, exec (.chainCountWrite req k n) s = .next t ∧ t.errorShown .cdc = s.errorAfter .cdc 0x03 ∧
      OnlyFields (errorFields .cdc) { s with reply := .posted req.code } t) ∧
  (∀ (s : State) (req : Req) (k : Fin 16) (n : BitVec 13), s.open_ req .cdc = true →
    s.slotState k.val = jsFree ∨ s.slotState k.val = jsDone →
    ∃ t, exec (.chainCountWrite req k n) s = .next t ∧ t.errorShown .cdc = s.errorAfter .cdc 0x2B ∧
      OnlyFields (errorFields .cdc) { s with reply := .posted req.code } t) ∧
  (∀ (s : State) (k : Fin 16), s.devUp = true → s.slotState k.val = jsParked →
    (s.job k.val).parkAt + 500000 * s.rd .cdc CDC.CTRL_PARK_TMO ≤ s.dclk →
    ∃ t, exec (.parkTimeout k) s = .next t ∧ JobEnded s k.val 0x28 0 false t ∧
      OnlyFields (slotFields k.val ++ codecFields ++ errorFields .cdc)
        { s with codec := t.codec, intake := { s.intake with cq := t.intake.cq, reads := s.readsLess (.job k.val) } } t) ∧
  (∀ (s : State) (k : Fin 16), s.dclk < (s.job k.val).parkAt + 500000 * s.rd .cdc CDC.CTRL_PARK_TMO →
    exec (.parkTimeout k) s = .next s) ∧
  (∀ (s : State) (req : Req) (k : Fin 16), s.open_ req .cdc = true →
    s.slotState k.val = jsQueued ∨ s.slotState k.val = jsRunning ∨ s.slotState k.val = jsParked →
    ∃ t, exec (.jobAbort req k) s = .next t ∧ JobEnded s k.val 0x29 0 false t ∧
      OnlyFields (slotFields k.val ++ codecFields ++ errorFields .cdc)
        { s with
          reply := .posted req.code
          codec := t.codec
          intake := { s.intake with cq := t.intake.cq, reads := s.readsLess (.job k.val) } } t) ∧
  (∀ (s : State) (req : Req) (k : Fin 16), s.open_ req .cdc = true →
    s.slotState k.val = jsFree ∨ s.slotState k.val = jsDone →
    ∃ t, exec (.jobAbort req k) s = .next t ∧ t.errorShown .cdc = s.errorAfter .cdc 0x2B ∧
      OnlyFields (errorFields .cdc) { s with reply := .posted req.code } t) ∧
  (∀ (s : State) (req : Req) (k : Fin 16), s.open_ req .cdc = true → 12 ≤ k.val → s.slotState k.val = jsDone →
    ∃ t, exec (.jobRelease req k) s = .next t ∧ t.slotState k.val = jsFree ∧
      OnlyFields [(.cdc, CDC.JS_STAT_STATE, k.val)] { s with reply := .posted req.code } t) ∧
  (∀ (s : State) (req : Req) (k : Fin 16), s.open_ req .cdc = true → k.val < 12 ∨ s.slotState k.val ≠ jsDone →
    ∃ t, exec (.jobRelease req k) s = .next t ∧ t.errorShown .cdc = s.errorAfter .cdc 0x2B ∧
      OnlyFields (errorFields .cdc) { s with reply := .posted req.code } t)

/-- R116, R138, R142, R144, R149, R150, R152. A free encoder goes to intake while intake holds fewer than its limit and a tile
waits, then to the oldest firmware job, then to the oldest host job, each within its limit. A preset it names stands in its
window, and a job whose preset is not loaded ends with PRESET_MISSING. The encode of a tile, or of a job with its input and
its chain in host memory, ends: with the stream, with NO_GAIN, or with an error. The tokens of every encoding cover its
input. The model's own choices among these clauses are log entries 20, 73. -/
def Obligations.Encoders : Prop :=
  (∀ (s : State) (e : Fin 12) (u : Tile) (p : Option Nat), s.devUp = true → s.codecOn = true → s.codec.encoders[e] = .free →
    s.tileForEncoder = some u → s.encIntake < s.rd .int INT.CTRL_ENC_MAX →
    p = (if u.desc.presetEn then some u.desc.preset else none) → p.all s.presetReads = true →
    ∃ t, exec (.encoderAssign e) s = .next t ∧
      OnlyFields codecFields { s with
        ddr := s.ddrRead p
        codec := { s.codec with
          encoders := s.codec.encoders.set e (.intake u.key p), encDict := s.codec.encDict.set e (s.dictOf p) } } t) ∧
  (∀ (s : State) (e : Fin 12) (k : Nat) (p : Option Nat), s.devUp = true → s.codecOn = true → s.codec.encoders[e] = .free →
    s.tileForEncoder = none ∨ s.rd .int INT.CTRL_ENC_MAX ≤ s.encIntake →
    s.encJobs 12 16 < s.rd .cdc CDC.CTRL_FW_ENC_MAX → s.oldestJob 12 16 = some k →
    p = jobPreset (s.slotDesc k) → p.all s.presetReads = true →
    ∃ t, exec (.encoderAssign e) s = .next t ∧ t.slotState k = jsRunning ∧ t.rd .cdc CDC.JS_STAT_ENC k = e.val ∧
      t.on .cdc HDR.PG_STAT_OVERDUE = false ∧
      OnlyFields (codecFields ++ [(.cdc, CDC.JS_STAT_STATE, k), (.cdc, CDC.JS_STAT_ENC, k), (.cdc, HDR.PG_STAT_OVERDUE, 0)])
        { s with
          out := (s.jobReads k).out
          intake := (s.jobReads k).intake
          ddr := s.ddrRead p
          codec := { s.codec with
            encoders := s.codec.encoders.set e (.job k p), encDict := s.codec.encDict.set e (s.dictOf p) } } t) ∧
  (∀ (s : State) (e : Fin 12) (k : Nat) (p : Option Nat), s.devUp = true → s.codecOn = true → s.codec.encoders[e] = .free →
    s.tileForEncoder = none ∨ s.rd .int INT.CTRL_ENC_MAX ≤ s.encIntake →
    s.oldestJob 12 16 = none ∨ s.rd .cdc CDC.CTRL_FW_ENC_MAX ≤ s.encJobs 12 16 →
    s.encJobs 0 12 < s.rd .cdc CDC.CTRL_HOST_ENC_MAX → s.oldestJob 0 12 = some k →
    p = jobPreset (s.slotDesc k) → p.all s.presetReads = true →
    ∃ t, exec (.encoderAssign e) s = .next t ∧ t.slotState k = jsRunning ∧ t.rd .cdc CDC.JS_STAT_ENC k = e.val ∧
      OnlyFields (codecFields ++ [(.cdc, CDC.JS_STAT_STATE, k), (.cdc, CDC.JS_STAT_ENC, k)])
        { s with
          out := (s.jobReads k).out
          intake := (s.jobReads k).intake
          ddr := s.ddrRead p
          codec := { s.codec with
            encoders := s.codec.encoders.set e (.job k p), encDict := s.codec.encDict.set e (s.dictOf p) } } t) ∧
  (∀ (s : State) (e : Fin 12) (k id : Nat), s.devUp = true → s.codecOn = true → s.codec.encoders[e] = .free →
    s.tileForEncoder = none → s.oldestJob 12 16 = none → s.encJobs 0 12 < s.rd .cdc CDC.CTRL_HOST_ENC_MAX →
    s.oldestJob 0 12 = some k → jobPreset (s.slotDesc k) = some id → s.presetValid id = false →
    ∃ t, exec (.encoderAssign e) s = .next t ∧ JobEnded s k 0x20 0 false t ∧
      OnlyFields (slotFields k ++ codecFields ++ errorFields .cdc)
        { s with codec := t.codec, intake := { s.intake with cq := t.intake.cq, reads := s.readsLess (.job k) } } t) ∧
  (∀ (s : State) (e : Fin 12) (u : Tile), s.devUp = true → s.codecOn = true → s.codec.encoders[e] = .free →
    s.tileForEncoder = some u → s.encIntake < s.rd .int INT.CTRL_ENC_MAX → u.desc.presetEn = true →
    s.presetValid u.desc.preset = false →
    exec (.encoderAssign e) s = .next { s with intake := { s.intake with
      tiles := s.intake.tiles.map fun (v : Tile) =>
        if v.key = u.key && v.phase != TilePhase.landed then { v with enc := some .missing } else v } }) ∧
  (∀ (s : State) (e : Fin 12) (k : TileKey) (p : Option Nat) (u : Tile) (input : List Byte) (chain : List (BitVec 128)),
    s.devUp = true → s.codec.encoders[e] = .intake k p → s.tileInFlight k = some u → input.length = u.desc.rawLen →
    s.dmaSent (.dma (.tile k)) = true → (s.tileEncoding e u (input.map fun b => b.toNat)).noGain = false →
    ∃ t, exec (.encodeEnd e (.ended input chain)) s = .next t ∧
      OnlyFields codecFields { s with
        codec := { s.codec with encoders := s.codec.encoders.set e .free }
        intake := { s.intake with tiles := s.intake.tiles.map fun (v : Tile) =>
          if v.key = k && v.phase != TilePhase.landed then { v with
            enc := some (.stream (input.map fun b => b.toNat) (s.tileEncoding e u (input.map fun b => b.toNat)).stream) }
          else v } } t) ∧
  (∀ (s : State) (e : Fin 12) (k : TileKey) (p : Option Nat) (u : Tile) (input : List Byte) (chain : List (BitVec 128)),
    s.devUp = true → s.codec.encoders[e] = .intake k p → s.tileInFlight k = some u → input.length = u.desc.rawLen →
    s.dmaSent (.dma (.tile k)) = true →
    gainLimit u.desc.rawLen (s.rd .int INT.CTRL_GAIN_MAX) < (s.tileEncoding e u (input.map fun b => b.toNat)).stream.length →
    ∃ t, exec (.encodeEnd e (.ended input chain)) s = .next t ∧
      t.rd .cdc CDC.ENC_NOGAIN = min (s.rd .cdc CDC.ENC_NOGAIN + 1) (2 ^ 32 - 1) ∧
      OnlyFields (codecFields ++ [(.cdc, CDC.ENC_NOGAIN, 0)]) { s with
        codec := { s.codec with encoders := s.codec.encoders.set e .free }
        intake := { s.intake with tiles := s.intake.tiles.map fun (v : Tile) =>
          if v.key = k && v.phase != TilePhase.landed then { v with enc := some (.noGain (input.map fun b => b.toNat)) }
          else v } } t) ∧
  (∀ (s : State) (e : Fin 12) (k : TileKey) (p : Option Nat) (u : Tile) (w : SramUe), s.devUp = true →
    s.codec.encoders[e] = .intake k p → s.tileInFlight k = some u →
    ∃ t, exec (.encodeEnd e (.memUe w)) s = .next t ∧ t.errorShown .cdc = s.errorAfter .cdc 0x2A ∧
      t.intake.tiles = s.intake.tiles.filter (fun (v : Tile) => v.key != u.key) ∧ t.codec.encoders[e] = .free ∧
      t.intake.cq = s.intake.cq ++ [tileCqe u.key u.desc.cookie 2 0x122A 0 0] ∧
      OtherPages [.cdc, .int, .lst, .den] s t ∧ OtherLanes [] s t) ∧
  (∀ (s : State) (e : Fin 12) (k : Fin 16) (input : List Byte) (chain : List (BitVec 128)) (enc : Encoding)
    (laid : List (Nat × List Nat)), s.jobFed e k = true → hostJob (s.job k.val).desc = true →
    (s.jobTakes k.val input).length = jobRaw (s.job k.val).desc → enc = s.jobEncoding e k.val (s.jobTakes k.val input) →
    s.jobLay k.val chain enc.out = (laid, .done) → enc.noGain = false →
    ∃ t, exec (.encodeEnd e (.ended input chain)) s = .next t ∧ JobEnded s k.val 0 enc.stream.length false t ∧
      OnlyFields (slotFields k.val ++ codecFields) { s with
        out := s.jobSends k.val laid
        codec := t.codec
        intake := { s.intake with cq := t.intake.cq, reads := s.readsLess (.job k.val) } } t) ∧
  (∀ (s : State) (e : Fin 12) (k : Fin 16) (input : List Byte) (chain : List (BitVec 128)) (enc : Encoding)
    (laid : List (Nat × List Nat)), s.jobFed e k = true → hostJob (s.job k.val).desc = true →
    (s.jobTakes k.val input).length = jobRaw (s.job k.val).desc → enc = s.jobEncoding e k.val (s.jobTakes k.val input) →
    s.jobLay k.val chain enc.out = (laid, .done) → jobGain (s.job k.val).desc ≠ 0 →
    gainLimit (jobRaw (s.job k.val).desc) (jobGain (s.job k.val).desc) < enc.stream.length →
    ∃ t, exec (.encodeEnd e (.ended input chain)) s = .next t ∧ JobEnded s k.val 0 0 true t ∧
      t.rd .cdc CDC.ENC_NOGAIN = min (s.rd .cdc CDC.ENC_NOGAIN + 1) (2 ^ 32 - 1) ∧
      OnlyFields ((.cdc, CDC.ENC_NOGAIN, 0) :: slotFields k.val ++ codecFields)
        { s with codec := t.codec, intake := { s.intake with cq := t.intake.cq, reads := s.readsLess (.job k.val) } } t) ∧
  (∀ (s : State) (e : Fin 12) (k : Fin 16) (input : List Byte) (chain : List (BitVec 128)) (enc : Encoding)
    (laid : List (Nat × List Nat)), s.jobFed e k = true → hostJob (s.job k.val).desc = true →
    (s.jobTakes k.val input).length = jobRaw (s.job k.val).desc → enc = s.jobEncoding e k.val (s.jobTakes k.val input) →
    s.jobLay k.val chain enc.out = (laid, .bad) →
    ∃ t, exec (.encodeEnd e (.ended input chain)) s = .next t ∧ JobEnded s k.val 0x26 0 false t ∧
      OnlyFields (slotFields k.val ++ codecFields ++ errorFields .cdc) { s with
        out := s.jobSends k.val laid
        codec := t.codec
        intake := { s.intake with cq := t.intake.cq, reads := s.readsLess (.job k.val) } } t) ∧
  (∀ (s : State) (e : Fin 12) (k : Fin 16), s.jobFed e k = true → hostJob (s.job k.val).desc = true →
    ∃ t, exec (.encodeEnd e .chainDma) s = .next t ∧ JobEnded s k.val 0x27 0 false t ∧
      OnlyFields (slotFields k.val ++ codecFields ++ errorFields .cdc)
        { s with codec := t.codec, intake := { s.intake with cq := t.intake.cq, reads := s.readsLess (.job k.val) } } t) ∧
  (∀ (s : State) (e : Fin 12) (k : Fin 16) (w : SramUe), s.jobFed e k = true →
    ∃ t, exec (.encodeEnd e (.memUe w)) s = .next t ∧ JobEnded s k.val 0x2A 0 false t ∧ t.ddr = s.ddr ∧ t.out = s.out ∧
      OtherPages [.cdc, .den] s t ∧ OtherLanes [] s t) ∧
  (∀ (s : State) (e : Fin 12) (res : EncodeResult), s.codec.encoders[e] = .free → exec (.encodeEnd e res) s = .next s) ∧
  (∀ (level line : Nat) (dict input : List Nat), ((encodeTokens level line dict input).map fun x => x.2).sum = input.length)

/-- R124, R134, R135, R138, R152, R154, R191, R193, R194. The Last takes a tag for the accepted tile with the least deadline
among those whose band may be filled, while fewer than 512 tags are held; a free decoder takes the tagged tile that comes
first, samples its preset's VALID bit, and holds the preset in one of its two slots. A decode that passes, its input all
read, puts the tile into its band while the band's deadline has not passed, and is used for nothing after it; the tile goes
with the last copy. A decode that fails is counted and recorded with its code, its offset and its decoder; intake asks for
the tile again, or the tile fails once REREQ_MAX requests have been made. A preset that was not loaded is PRESET_MISSING at
offset 5; an uncorrectable error sets UE. The model's own choices among these clauses are log entries 74, 89, 90. -/
def Obligations.Decodes : Prop :=
  (∀ (s : State) (u : Tile), s.devUp = true → s.rd .lst LST.TAGS_USED < 512 →
    leastBy (fun v => s.tileOrder v.key ((s.wantedFor v).getD 0)) (s.intake.tiles.filter fun v =>
      v.phase == .landed && v.accepted && v.tag.isNone && (s.wantedFor v).isSome) = some u →
    ∃ t, exec .tileFetch s = .next t ∧
      t.rd .lst LST.TAGS_USED = (t.intake.tiles.filter fun v => v.tag.isSome).length % 2 ^ 10 ∧
      OnlyFields tagFields { s with intake := { s.intake with
        tiles := withTile u.key (fun v => { v with tag := s.wantedFor u }) s.intake.tiles } } t) ∧
  (∀ s : State, 512 ≤ s.rd .lst LST.TAGS_USED → exec .tileFetch s = .next s) ∧
  (∀ (s : State) (d : Fin 16) (u : Tile) (copy : Nat), s.devUp = true → s.codecOn = true → s.codec.decoders[d] = none →
    s.decodeNext d = some (u, copy) → s.portsHold = false → s.presetOf u = none →
    ∃ t, exec (.decodeStart d) s = .next t ∧
      DecodeTaken s d u { key := u.key, copy, preset := none, missing := false } t) ∧
  (∀ (s : State) (d : Fin 16) (u : Tile) (copy id : Nat), s.devUp = true → s.codecOn = true → s.codec.decoders[d] = none →
    s.decodeNext d = some (u, copy) → s.portsHold = false → s.presetOf u = some id → s.presetValid id = true →
    s.presetBad id = [] →
    ∃ t, exec (.decodeStart d) s = .next t ∧ t.codec.decPreset[d].head? = some id ∧ t.codec.decPreset[d].length ≤ 2 ∧
      DecodeTaken s d u { key := u.key, copy, preset := some id, missing := false, dict := s.presetBytes id,
                          waits := !s.codec.decPreset[d].contains id } t) ∧
  (∀ (s : State) (d : Fin 16) (u : Tile) (copy id : Nat), s.devUp = true → s.codecOn = true → s.codec.decoders[d] = none →
    s.decodeNext d = some (u, copy) → s.portsHold = false → s.presetOf u = some id → s.presetValid id = false →
    ∃ t, exec (.decodeStart d) s = .next t ∧ t.codec.decPreset = s.codec.decPreset ∧
      DecodeTaken s d u { key := u.key, copy, preset := some id, missing := true } t) ∧
  (∀ (s : State) (d : Fin 16) (j : DecJob) (u : Tile) (p : PageSt) (l : List Nat), s.devUp = true →
    s.codec.decoders[d] = some j → s.tileAt j.key = some u → s.pageById j.key.page = some p →
    s.portsHold = false → j.left = 0 → j.waits = false → (s.decodeOf u j none).toOption = some l → s.regionFree j.key.plane ⟨p.ord, j.copy, j.key.band⟩ = true →
    s.deadlinePast j.key.plane ⟨p.ord, j.copy, j.key.band⟩ = false → j.copy + 1 ≠ p.desc.copies →
    ∃ t, exec (.decodeDone d) s = .next t ∧
      OnlyFields (codecFields ++ tagFields) { s with
        codec := { s.codec with decoders := s.codec.decoders.set d none }
        intake := { s.intake with
          tiles := withTile j.key (fun v => { v with tag := none, decoded := some j.copy }) s.intake.tiles
          bandBuf := s.intake.bandBuf ++ [s.bandTile j l t] } } t) ∧
  (∀ (s : State) (d : Fin 16) (j : DecJob) (u : Tile) (p : PageSt) (l : List Nat), s.devUp = true →
    s.codec.decoders[d] = some j → s.tileAt j.key = some u → s.pageById j.key.page = some p →
    s.portsHold = false → j.left = 0 → j.waits = false → (s.decodeOf u j none).toOption = some l → s.regionFree j.key.plane ⟨p.ord, j.copy, j.key.band⟩ = true →
    s.deadlinePast j.key.plane ⟨p.ord, j.copy, j.key.band⟩ = false → j.copy + 1 = p.desc.copies →
    ∃ t, exec (.decodeDone d) s = .next t ∧
      t.rd .int INT.CREDIT = (t.heapGranules - t.usedGranules none) % 2 ^ 25 ∧
      OnlyFields (codecFields ++ tagFields ++ creditFields) { s with
        codec := { s.codec with decoders := s.codec.decoders.set d none }
        intake := { s.intake with
          tiles := s.intake.tiles.filter fun (v : Tile) => !(v.key == j.key && v.phase == TilePhase.landed)
          bandBuf := s.intake.bandBuf ++ [s.bandTile j l t]
          lowSeen := t.intake.lowSeen } } t) ∧
  (∀ (s : State) (d : Fin 16) (j : DecJob) (u : Tile) (p : PageSt) (l : List Nat), s.devUp = true →
    s.codec.decoders[d] = some j → s.tileAt j.key = some u → s.pageById j.key.page = some p →
    s.portsHold = false → j.left = 0 → j.waits = false → (s.decodeOf u j none).toOption = some l → s.deadlinePast j.key.plane ⟨p.ord, j.copy, j.key.band⟩ = true →
    j.copy + 1 ≠ p.desc.copies →
    ∃ t, exec (.decodeDone d) s = .next t ∧ t.intake.bandBuf = s.intake.bandBuf ∧
      t.intake.tiles = withTile j.key (fun v => { v with tag := none, decoded := some j.copy }) s.intake.tiles ∧
      OnlyFields (codecFields ++ tagFields ++ [(.lst, LST.FILL_PEAK, 0)]) { s with
        codec := { s.codec with decoders := s.codec.decoders.set d none }
        intake := { s.intake with tiles := t.intake.tiles, planes := t.intake.planes } } t) ∧
  (∀ (s : State) (d : Fin 16) (j : DecJob) (u : Tile) (n : Nat), s.codec.decoders[d] = some j → s.tileAt j.key = some u →
    u.stored = .stream n → s.ddr.poison = [] → j.missing = true → s.decodeOf u j none = .error ⟨0x20, 5, none⟩) ∧
  (∀ (s : State) (d : Fin 16) (j : DecJob) (u : Tile) (e : DecodeError), s.devUp = true → s.portsHold = false →
    s.codec.decoders[d] = some j → s.tileAt j.key = some u → decodeError (s.decodeOf u j none) = some e → e.ue = none →
    u.rereqs < s.rd .int INT.CTRL_REREQ_MAX →
    ∃ t, exec (.decodeFail d none) s = .next t ∧ t.errorShown .cdc = s.errorAfter .cdc e.nn ∧
      (s.errorShown .cdc = none → t.rd .cdc HDR.PG_ERR_INFO = e.off % 2 ^ 17 + d.val * 2 ^ 17) ∧
      t.event .cdc 8 = true ∧ t.rd .cdc CDC.DEC_FAIL = min (s.rd .cdc CDC.DEC_FAIL + 1) (2 ^ 32 - 1) ∧
      t.rd .lst LST.REREQ_CNT = min (s.rd .lst LST.REREQ_CNT + 1) (2 ^ 32 - 1) ∧ t.event .int 13 = true ∧
      OnlyFields (codecFields ++ tagFields ++ errorFields .cdc ++ [(.cdc, CDC.DEC_FAIL, 0), (.lst, LST.REREQ_CNT, 0),
        (.int, HDR.PG_EVT_RAW, 0)]) { s with
        codec := { s.codec with decoders := s.codec.decoders.set d none }
        intake := { s.intake with
          tiles := withTile u.key (fun v => { v with rereqs := v.rereqs + 1, outstanding := true })
            (withTile j.key (fun v => { v with tag := none, failed := j.copy :: v.failed }) s.intake.tiles)
          cq := s.intake.cq ++ [tileCqe u.key u.desc.cookie 3 (0x1200 + e.nn) u.stored.len u.info] } } t) ∧
  (∀ (s : State) (d : Fin 16) (j : DecJob) (u : Tile) (e : DecodeError), s.devUp = true → s.portsHold = false →
    s.codec.decoders[d] = some j → s.tileAt j.key = some u → decodeError (s.decodeOf u j none) = some e → e.ue = none →
    s.rd .int INT.CTRL_REREQ_MAX ≤ u.rereqs →
    ∃ t, exec (.decodeFail d none) s = .next t ∧ t.errorShown .cdc = s.errorAfter .cdc e.nn ∧
      t.errorShown .int = s.errorAfter .int 0x2A ∧ t.event .cdc 8 = true ∧
      OnlyFields (codecFields ++ tagFields ++ errorFields .cdc ++ errorFields .int ++
        [(.cdc, CDC.DEC_FAIL, 0), (.lst, LST.REREQ_CNT, 0)]) { s with
        codec := { s.codec with decoders := s.codec.decoders.set d none }
        intake := { s.intake with
          tiles := withTile j.key (fun v => { v with tag := none, failed := j.copy :: v.failed }) s.intake.tiles
          cq := s.intake.cq ++ [tileCqe u.key u.desc.cookie 2 0x112A u.stored.len u.info] } } t) ∧
  (∀ (s : State) (d : Fin 16) (j : DecJob) (u : Tile) (x : DecodeUe) (e : DecodeError) (w : SramUe), s.devUp = true →
    s.portsHold = false → s.codec.decoders[d] = some j → s.tileAt j.key = some u → x.at_ = .sram w →
    decodeError (s.decodeOf u j (some x.off.toNat)) = some e → e.ue = some (some x.off.toNat) →
    u.rereqs < s.rd .int INT.CTRL_REREQ_MAX →
    ∃ t, exec (.decodeFail d (some x)) s = .next t ∧ t.errorShown .cdc = s.errorAfter .cdc e.nn ∧
      (s.errorShown .cdc = none → t.rd .cdc HDR.PG_ERR_INFO = e.off % 2 ^ 17 + d.val * 2 ^ 17 + 2 ^ 21) ∧
      t.codec = { s.codec with decoders := s.codec.decoders.set d none } ∧
      t.intake = { s.intake with
        tiles := withTile u.key (fun v => { v with rereqs := v.rereqs + 1, outstanding := true })
          (withTile j.key (fun v => { v with tag := none, failed := j.copy :: v.failed }) s.intake.tiles)
        cq := s.intake.cq ++ [tileCqe u.key u.desc.cookie 3 (0x1200 + e.nn) u.stored.len u.info] } ∧
      OtherPages [.cdc, .lst, .int, .den] s t ∧ OtherLanes [] s t ∧ t.ddr = s.ddr)

/-- R69, R102, R103. The host link comes up and goes down, with tile reads in flight or without; in D3hot no descriptor is
fetched, no tile data requested and no completion written; entry to D3hot and return to D0 change nothing else. The model's
own choices among these clauses are log entry 71. -/
def Obligations.HostLink : Prop :=
  (∀ (s : State) (speed : BitVec 4) (width : BitVec 6) (rev : Bool), s.devUp = true → s.on .pci PCI.LINK_UP = false →
    ∃ t, exec (.pcieLinkUp speed width rev) s = .next t ∧ t.on .pci PCI.LINK_UP = true ∧
      t.rd .pci PCI.LINK_SPEED = min speed.toNat (s.rd .pci PCI.LINK_CTRL) ∧ t.rd .pci PCI.LINK_WIDTH = width.toNat ∧
      t.on .pci PCI.LINK_REVERSED = rev ∧ t.event .pci 8 = true ∧
      OnlyFields [(.pci, PCI.LINK_UP, 0), (.pci, PCI.LINK_SPEED, 0), (.pci, PCI.LINK_WIDTH, 0), (.pci, PCI.LINK_REVERSED, 0),
        (.pci, HDR.PG_EVT_RAW, 0)] { s with power := { s.power with wakeN := false } } t) ∧
  (∀ s : State, s.devUp = true → s.on .pci PCI.LINK_UP = true → (∀ u ∈ s.intake.tiles, u.phase = .landed) →
    ∃ t, exec .pcieLinkDown s = .next t ∧ t.on .pci PCI.LINK_UP = false ∧ t.rd .pci PCI.LINK_SPEED = 0 ∧
      t.event .pci 9 = true ∧ (∀ r, r < 10 → t.on .int INT.RING_CTRL_EN r = false ∧ t.ringState r = 0) ∧
      OnlyFields ([(.pci, PCI.LINK_UP, 0), (.pci, PCI.LINK_SPEED, 0), (.pci, HDR.PG_EVT_RAW, 0)] ++
        (List.range 10).flatMap fun r => [(.int, INT.RING_CTRL_EN, r), (.int, INT.RING_STAT, r)]) { s with
          intake := { s.intake with cq := [], rings := Vector.replicate 9 {}, reads := [], d3hot := false }
          codec := { s.codec with loads := [] } } t) ∧
  (∀ s : State, s.devUp = true → s.on .pci PCI.LINK_UP = true → (∃ u ∈ s.intake.tiles, u.phase = .reading) →
    ∃ t, exec .pcieLinkDown s = .next t ∧ t.on .pci PCI.LINK_UP = false ∧ t.intake.cq = [] ∧
      t.errorShown .int = s.errorAfter .int 0x26 ∧ (∀ u ∈ t.intake.tiles, u.phase = .landed) ∧
      (∀ r, r < 10 → t.on .int INT.RING_CTRL_EN r = false ∧ t.ringState r = 0) ∧
      OtherPages [.pci, .int, .cdc, .lst] s t ∧ OtherLanes [] s t) ∧
  (∀ s : State, s.devUp = true → s.on .pci PCI.LINK_UP = true →
    exec .d3hotEntry s = .next { s with intake := { s.intake with d3hot := true } }) ∧
  (∀ s : State, exec .d0Return s = .next { s with intake := { s.intake with d3hot := false } }) ∧
  (∀ (s : State) (r : Fin 9) (k : Fin 8), s.intake.d3hot = true →
    exec (.descriptorFetch r) s = .next s ∧ exec (.tileAllocate k) s = .next s ∧ exec .completionWrite s = .next s)

/-- R102, R104, R106, R167, R169. A host read of the spool window: its bytes; where a byte is outside the served classes, the
error and 0 for it, or Unsupported Request; a burst in error ends the read poisoned; a read in self-refresh starts the exit
and is held; on the way to SETT it is refused with PORT_GATED, and in D3hot with Unsupported Request. A host write to the
spool window stores the bytes of served classes, drops the rest with an error, and poisons its bursts where it is poisoned;
every other byte of the spool is as it was. In self-refresh it starts the exit and is held; on the way to SETT it is refused
with PORT_GATED, and in D3hot it is dropped. The model's own choices among these clauses are log entries 17, 44, 71. -/
def Obligations.SpoolWindow : Prop :=
  (∀ (s : State) (addr : BitVec 36) (len : BitVec 13), s.devUp = true → len ≠ 0 → s.ddrState = ddrActive →
    s.intake.d3hot = false → s.windowWaits = false →
    (spanOf addr.toNat len.toNat).all (s.windowServes false) = true →
    (burstsOf addr.toNat len.toNat).all (fun b => !s.ddr.poison.contains (b / 64)) = true →
    exec (.bar2Read addr len none) s = .next { s with
      reply := .window (Memory.readAll s.ddr.mem addr.toNat len.toNat |>.map fun b => b.toNat)
      ddr := { s.ddr with lastReq := s.dclk } }) ∧
  (∀ (s : State) (addr : BitVec 36) (len : BitVec 13) (x : Nat), s.devUp = true → s.ddrState = ddrActive →
    s.intake.d3hot = false → s.windowWaits = false →
    (spanOf addr.toNat len.toNat).find? (fun y => !s.windowServes false y) = some x →
    (burstsOf addr.toNat len.toNat).all (fun b => !s.ddr.poison.contains (b / 64)) = true → s.on .fab FAB.CTRL_HOST_UR = false →
    ∃ t, exec (.bar2Read addr len none) s = .next t ∧ t.errorShown .int = s.errorAfter .int 0x2E ∧
      (s.errorShown .int = none → t.rd .int HDR.PG_ERR_INFO = x % 2 ^ 32) ∧
      OnlyFields (errorFields .int) { s with
        reply := .window ((spanOf addr.toNat len.toNat).map fun y =>
          if s.windowServes false y then (Memory.read s.ddr.mem y).toNat else 0)
        ddr := { s.ddr with lastReq := t.ddr.lastReq } } t) ∧
  (∀ (s : State) (addr : BitVec 36) (len : BitVec 13) (x : Nat), s.devUp = true → s.ddrState = ddrActive →
    s.intake.d3hot = false →
    (spanOf addr.toNat len.toNat).find? (fun y => !s.windowServes false y) = some x → s.on .fab FAB.CTRL_HOST_UR = true →
    ∃ t, exec (.bar2Read addr len none) s = .next t ∧ t.errorShown .int = s.errorAfter .int 0x2E ∧
      t.event .pci 10 = true ∧
      OnlyFields ((.pci, HDR.PG_EVT_RAW, 0) :: errorFields .int) { s with reply := .unsupported 0 } t) ∧
  (∀ (s : State) (addr : BitVec 36) (len : BitVec 13) (ue : Option (BitVec 36 × BitVec 5)) (b : Nat), s.devUp = true →
    s.ddrState = ddrActive → s.intake.d3hot = false → s.windowWaits = false →
    (spanOf addr.toNat len.toNat).all (s.windowServes false) = true →
    b ∈ burstsOf addr.toNat len.toNat → s.ddr.poison.contains (b / 64) = true →
    ∃ t, exec (.bar2Read addr len ue) s = .next t ∧ t.reply = .poisoned ∧ t.errorShown .ddr = s.errorAfter .ddr 0x20 ∧
      t.event .ddr 9 = true ∧ t.ddr.mem = s.ddr.mem ∧ OtherPages [.ddr, .ddrs 0, .ddrs 1, .ddrs 2, .ddrs 3, .den] s t ∧
      OtherLanes [] s t) ∧
  (∀ (s : State) (addr : BitVec 36) (len : BitVec 13), s.devUp = true → len ≠ 0 → s.ddr.forSett = false → s.ddrState = ddrSelf →
    s.intake.d3hot = false → (spanOf addr.toNat len.toNat).all (s.windowServes false) = true → s.cal.runs = [] →
    ∃ t, exec (.bar2Read addr len none) s = .next t ∧ t.ddrState = ddrExit ∧ OnlyFields spoolStateFields { s with
      ddr := { s.ddr with
        lastReq := s.dclk
        window := s.ddr.window ++
          [{ addr := addr.toNat, len := len.toNat, data := none, poisoned := false, ue := none }] } } t) ∧
  (∀ (s : State) (addr : BitVec 36) (len : BitVec 13) (ue : Option (BitVec 36 × BitVec 5)), s.devUp = true → len ≠ 0 →
    s.ddr.forSett = true → s.ddrState ≠ ddrActive → s.intake.d3hot = false →
    ∃ t, exec (.bar2Read addr len ue) s = .next t ∧ t.errorShown .ddr = s.errorAfter .ddr 0x24 ∧
      OnlyFields ((.pci, HDR.PG_EVT_RAW, 0) :: errorFields .ddr) { s with
        reply := if s.on .fab FAB.CTRL_HOST_UR then .unsupported 0 else .window (List.replicate len.toNat 0) } t) ∧
  (∀ (s : State) (addr : BitVec 36) (len : BitVec 13) (ue : Option (BitVec 36 × BitVec 5)), s.devUp = true → len ≠ 0 →
    s.intake.d3hot = true →
    ∃ t, exec (.bar2Read addr len ue) s = .next t ∧ t.event .pci 10 = true ∧
      OnlyFields [(.pci, HDR.PG_EVT_RAW, 0)] { s with reply := .unsupported 0 } t) ∧
  (∀ (s : State) (addr : BitVec 36) (data : List Byte), s.devUp = true → data ≠ [] → s.ddrState = ddrActive →
    s.intake.d3hot = false → s.windowWaits = false →
    (spanOf addr.toNat data.length).all (s.windowServes true) = true →
    (burstsOf addr.toNat data.length).all (fun b => !s.ddr.poison.contains (b / 64)) = true →
    ∃ t, exec (.bar2Write addr data false) s = .next t ∧ Memory.readAll t.ddr.mem addr.toNat data.length = data ∧
      (∀ a, a < addr.toNat ∨ addr.toNat + data.length ≤ a → Memory.read t.ddr.mem a = Memory.read s.ddr.mem a) ∧
      (∀ w ∈ t.ddr.writeBack, w ∈ s.ddr.writeBack) ∧
      OnlyFields [] { s with
        ddr := { s.ddr with mem := t.ddr.mem, writeBack := t.ddr.writeBack, lastReq := s.dclk } } t) ∧
  (∀ (s : State) (addr : BitVec 36) (data : List Byte) (x : Nat), s.devUp = true → s.ddrState = ddrActive →
    s.intake.d3hot = false → s.windowWaits = false →
    (spanOf addr.toNat data.length).find? (fun y => !s.windowServes true y) = some x →
    (burstsOf addr.toNat data.length).all (fun b => !s.ddr.poison.contains (b / 64)) = true →
    ∃ t, exec (.bar2Write addr data false) s = .next t ∧ t.errorShown .int = s.errorAfter .int 0x2E ∧
      (s.errorShown .int = none → t.rd .int HDR.PG_ERR_INFO = x % 2 ^ 32) ∧
      (∀ a, s.windowServes true a = false → Memory.read t.ddr.mem a = Memory.read s.ddr.mem a) ∧
      OnlyFields (errorFields .int) { s with
        ddr := { s.ddr with mem := t.ddr.mem, writeBack := t.ddr.writeBack, lastReq := t.ddr.lastReq } } t) ∧
  (∀ (s : State) (addr : BitVec 36) (data : List Byte), s.devUp = true → data ≠ [] → s.ddrState = ddrActive →
    s.intake.d3hot = false → s.windowWaits = false →
    (spanOf addr.toNat data.length).all (s.windowServes true) = true →
    ∃ t, exec (.bar2Write addr data true) s = .next t ∧ t.ddr.mem = s.ddr.mem ∧
      (burstsOf addr.toNat data.length).all (fun b => t.ddr.poison.contains (b / 64)) = true ∧
      t.event .pci 10 = true ∧
      OnlyFields [(.pci, HDR.PG_EVT_RAW, 0)] { s with
        ddr := { s.ddr with poison := t.ddr.poison, writeBack := t.ddr.writeBack, lastReq := s.dclk } } t) ∧
  (∀ (s : State) (addr : BitVec 36) (data : List Byte), s.devUp = true → data ≠ [] → s.ddr.forSett = false →
    s.ddrState = ddrSelf → s.intake.d3hot = false → (spanOf addr.toNat data.length).all (s.windowServes true) = true →
    s.cal.runs = [] →
    ∃ t, exec (.bar2Write addr data false) s = .next t ∧ t.ddrState = ddrExit ∧ OnlyFields spoolStateFields { s with
      ddr := { s.ddr with
        lastReq := s.dclk
        window := s.ddr.window ++
          [{ addr := addr.toNat, len := data.length, data := some data, poisoned := false, ue := none }] } } t) ∧
  (∀ (s : State) (addr : BitVec 36) (data : List Byte) (poisoned : Bool), s.intake.d3hot = true →
    exec (.bar2Write addr data poisoned) s = .next s) ∧
  (∀ (s : State) (addr : BitVec 36) (data : List Byte) (poisoned : Bool), s.devUp = true → data ≠ [] → s.ddr.forSett = true →
    s.ddrState ≠ ddrActive → s.intake.d3hot = false →
    ∃ t, exec (.bar2Write addr data poisoned) s = .next t ∧ t.errorShown .ddr = s.errorAfter .ddr 0x24 ∧
      OnlyFields ((.pci, HDR.PG_EVT_RAW, 0) :: errorFields .ddr) s t)

/-- R107, R108, R109, R111. The ring registers: a doorbell in range, EN written 1 and 0, the end of a stop, a reset of a
disabled ring, and the heap's place and size. The model's own choices among these clauses are log entries 16, 45. -/
def Obligations.RingRegisters : Prop :=
  (∀ (s : State) (req : Req) (r : Fin 10) (v : BitVec 16), s.open_ req .int = true → v.toNat < 2 ^ s.ringSize r.val →
    ∃ t, exec (.ringDoorbell req r v) s = .next t ∧ t.rd .int INT.RING_DB r.val = v.toNat ∧
      OnlyFields ((.int, INT.RING_DB, r.val) :: (if r = 9 then [(.int, HDR.PG_EVT_RAW, 0)] else []))
        { s with reply := .posted req.code, intake := { s.intake with reserveSeen := t.intake.reserveSeen } } t) ∧
  (∀ (s : State) (req : Req) (r : Fin 10) (v : BitVec 16), s.open_ req .int = true → 2 ^ s.ringSize r.val ≤ v.toNat →
    ∃ t, exec (.ringDoorbell req r v) s = .next t ∧ t.errorShown .int = s.errorAfter .int 0x2B ∧
      OnlyFields (errorFields .int) { s with reply := .posted req.code } t) ∧
  (∀ (s : State) (req : Req) (r : Fin 10), s.open_ req .int = true →
    ∃ t, exec (.ringEnable req r) s = .next t ∧ t.on .int INT.RING_CTRL_EN r.val = true ∧ t.ringState r.val = 1 ∧
      OnlyFields ([(.int, INT.RING_CTRL_EN, r.val), (.int, INT.RING_STAT, r.val)] ++
          (if r = 9 then [(.int, HDR.PG_EVT_RAW, 0)] else []))
        { s with reply := .posted req.code, intake := { s.intake with reserveSeen := t.intake.reserveSeen } } t) ∧
  (∀ (s : State) (req : Req) (r : Fin 10), s.open_ req .int = true → s.on .int INT.RING_CTRL_EN r.val = true →
    ∃ t, exec (.ringDisable req r) s = .next t ∧ t.on .int INT.RING_CTRL_EN r.val = false ∧ t.ringState r.val = 6 ∧
      OnlyFields [(.int, INT.RING_CTRL_EN, r.val), (.int, INT.RING_STAT, r.val)] { s with reply := .posted req.code } t) ∧
  (∀ (s : State) (r : Fin 10), s.devUp = true → s.ringState r.val = 6 → s.ringBusy r.val = false →
    ∃ t, exec (.ringStopped r) s = .next t ∧ t.ringState r.val = 0 ∧ OnlyFields [(.int, INT.RING_STAT, r.val)] s t) ∧
  (∀ (s : State) (r : Fin 10), s.ringBusy r.val = true → exec (.ringStopped r) s = .next s) ∧
  (∀ (s : State) (req : Req) (r : Fin 10), s.open_ req .int = true → s.ringState r.val = 0 →
    ∃ t, exec (.ringReset req r) s = .next t ∧ t.rd .int INT.RING_HEAD r.val = 0 ∧ t.rd .int INT.RING_DB r.val = 0 ∧
      (r = 9 → t.intake.phase9 = true) ∧
      OnlyFields ([(.int, INT.RING_HEAD, r.val), (.int, INT.RING_DB, r.val)] ++
          (if r = 9 then [(.int, HDR.PG_EVT_RAW, 0)] else [])) { s with
        reply := .posted req.code
        intake := { s.intake with
          rings := s.intake.rings.setIfInBounds r.val {}
          phase9 := t.intake.phase9
          reserveSeen := t.intake.reserveSeen } } t) ∧
  (∀ (s : State) (req : Req) (r : Fin 10), s.open_ req .int = true → s.ringState r.val ≠ 0 →
    ∃ t, exec (.ringReset req r) s = .next t ∧ t.errorShown .int = s.errorAfter .int 0x2C ∧
      OnlyFields (errorFields .int) { s with reply := .posted req.code } t) ∧
  (∀ (s : State) (req : Req) (mib : BitVec 16), s.open_ req .int = true → s.intake.pages = [] → 64 ≤ mib.toNat →
    s.rd .int INT.HEAP_SIZE = 0 ∨ mib.toNat + s.rd .int INT.HEAP_SIZE ≤ s.rd .ddr DDR.CFG_SIZE_GIB * 1024 →
    ∃ t, exec (.heapConfigWrite req false mib) s = .next t ∧ t.rd .int INT.HEAP_BASE = mib.toNat ∧
      OnlyFields ((.int, INT.HEAP_BASE, 0) :: creditFields)
        { s with reply := .posted req.code, intake := { s.intake with lowSeen := t.intake.lowSeen } } t) ∧
  (∀ (s : State) (req : Req) (mib : BitVec 16), s.open_ req .int = true → s.intake.pages = [] →
    64 ≤ s.rd .int INT.HEAP_BASE →
    mib.toNat = 0 ∨ s.rd .int INT.HEAP_BASE + mib.toNat ≤ s.rd .ddr DDR.CFG_SIZE_GIB * 1024 →
    ∃ t, exec (.heapConfigWrite req true mib) s = .next t ∧ t.rd .int INT.HEAP_SIZE = mib.toNat ∧
      t.rd .int INT.CREDIT = 256 * mib.toNat - s.usedGranules none ∧
      OnlyFields ((.int, INT.HEAP_SIZE, 0) :: creditFields)
        { s with reply := .posted req.code, intake := { s.intake with lowSeen := t.intake.lowSeen } } t) ∧
  (∀ (s : State) (req : Req) (isSize : Bool) (mib : BitVec 16), s.open_ req .int = true → s.intake.pages = [] →
    (isSize = false ∧ mib.toNat < 64) ∨ (isSize = true ∧ mib.toNat ≠ 0 ∧
      s.rd .ddr DDR.CFG_SIZE_GIB * 1024 < s.rd .int INT.HEAP_BASE + mib.toNat) →
    ∃ t, exec (.heapConfigWrite req isSize mib) s = .next t ∧ t.errorShown .int = s.errorAfter .int 0x03 ∧
      OnlyFields (errorFields .int) { s with reply := .posted req.code } t) ∧
  (∀ (s : State) (req : Req) (isSize : Bool) (mib : BitVec 16), s.open_ req .int = true → s.intake.pages ≠ [] →
    ∃ t, exec (.heapConfigWrite req isSize mib) s = .next t ∧ t.errorShown .int = s.errorAfter .int 0x30 ∧
      OnlyFields (errorFields .int) { s with reply := .posted req.code } t)

/-- R101, R110, R116, R117, R122, R128. Only the ring whose turn it is makes a fetch decision: the DMA read of its head entry
starts. The requests of a DMA read are of at most 512 bytes and lie within it, and at most RD_OUT are outstanding. A tile
entry is checked in ring order: it passes, waits for its page, or fails with the code of the check it breaks; a checked tile
is allocated free granules once credit, quota, the reads in flight and ring 9 allow, and the DMA read of its data starts.
The model's own choices among these clauses are log entries 15, 70, 76. -/
def Obligations.TileEntries : Prop :=
  (∀ (s : State) (r : Fin 9), s.dmaOk = true → s.fetchTurn = some r.val →
    exec (.descriptorFetch r) s = .next { s with
      out := (s.dmaStart (.dma (.ring (r.castLE (by omega))))
        (s.rd .int INT.RING_BASE r.val + 64 * s.rd .int INT.RING_HEAD r.val) 64).out
      intake := { s.intake with
        reads := (s.dmaStart (.dma (.ring (r.castLE (by omega))))
          (s.rd .int INT.RING_BASE r.val + 64 * s.rd .int INT.RING_HEAD r.val) 64).intake.reads
        rings := s.intake.rings.setIfInBounds r.val { s.ring r.val with fetching := true }
        turn := if r.val < 8 then (r.val + 1) % 8 else s.intake.turn } }) ∧
  (∀ (s : State) (r : Fin 9), s.dmaOk = false ∨ s.fetchTurn ≠ some r.val → exec (.descriptorFetch r) s = .next s) ∧
  (∀ (s : State) (r : Fin 9), s.canFetch 8 = true → s.fetchTurn = some r.val → r = 8) ∧
  (∀ (s : State) (who : ReadFor) (a n : Nat), s.intake.reads = [] →
    (∀ o ∈ (s.dmaStart who a n).out.drop s.out.length, o.readWithin a n = true) ∧
    ((s.dmaStart who a n).intake.reads.map fun r => r.flying).sum ≤ s.rd .pci PCI.RD_OUT) ∧
  (∀ (s : State) (who : ReadFor) (a : Nat), s.dmaOk = true → s.intake.reads = [] → s.rd .pci PCI.RD_OUT ≠ 0 → a % 64 = 0 →
    (s.dmaStart who a 64).out = s.out ++ [.read a 64]) ∧
  (∀ (s : State) (r : Fin 8) (e : BitVec 512) (p : PageSt), s.dmaOk = true → (s.ring r.val).fetching = true →
    s.dmaSent (.dma (.ring (r.castLE (by omega)))) = true → s.cqBlocked r.val = false → (s.ring r.val).checked = false → tileBreak e = none → s.pageById (readKey r.val e).page = some p →
    tileFits p.desc (p.width.toList.getD r.val 0) (readKey r.val e) (readTile e) = true → (readTile e).resubmit = false →
    s.inOrder r.val p (readKey r.val e).band = true → s.intake.tiles.all (fun u => u.key != readKey r.val e) = true →
    tileGranules (readTile e) ≤ s.heapGranules →
    s.rd .int INT.PQUOTA r.val = 0 ∨ tileGranules (readTile e) ≤ 256 * s.rd .int INT.PQUOTA r.val →
    exec (.tileDescriptor r e) s = .next { s with intake := { s.intake with
      reads := s.readsLess (.dma (.ring (r.castLE (by omega))))
      rings := s.intake.rings.setIfInBounds r.val
        { s.ring r.val with fetching := false, entry := some e, checked := true }
      order := s.intake.order.setIfInBounds r.val (some (p.ord, (readKey r.val e).band)) } }) ∧
  (∀ (s : State) (r : Fin 8) (e : BitVec 512) (nn : Nat), s.dmaOk = true → (s.ring r.val).fetching = true →
    s.dmaSent (.dma (.ring (r.castLE (by omega)))) = true → s.cqBlocked r.val = false → (s.ring r.val).checked = false → tileBreak e = some nn →
    ∃ t, exec (.tileDescriptor r e) s = .next t ∧ EntryFailed s r e nn t) ∧
  (∀ (s : State) (r : Fin 8) (e : BitVec 512), s.dmaOk = true → (s.ring r.val).fetching = true →
    s.dmaSent (.dma (.ring (r.castLE (by omega)))) = true → s.cqBlocked r.val = false → (s.ring r.val).checked = false → (s.ring r.val).waited = false → tileBreak e = none →
    s.pageById (readKey r.val e).page = none → s.intake.closed.contains (readKey r.val e).page = false →
    ∃ t, exec (.tileDescriptor r e) s = .next t ∧ t.event .int 9 = true ∧
      OnlyFields [(.int, HDR.PG_EVT_RAW, 0)] { s with intake := { s.intake with
        reads := s.readsLess (.dma (.ring (r.castLE (by omega))))
        rings := s.intake.rings.setIfInBounds r.val
          { s.ring r.val with fetching := false, entry := some e, waited := true } } } t) ∧
  (∀ (s : State) (r : Fin 8) (e : BitVec 512), s.dmaOk = true → (s.ring r.val).fetching = true →
    s.dmaSent (.dma (.ring (r.castLE (by omega)))) = true → s.cqBlocked r.val = false → (s.ring r.val).checked = false → tileBreak e = none →
    s.pageById (readKey r.val e).page = none → s.intake.closed.contains (readKey r.val e).page = true →
    ∃ t, exec (.tileDescriptor r e) s = .next t ∧ EntryFailed s r e 0x2D t) ∧
  (∀ (s : State) (r : Fin 8) (e : BitVec 512) (p : PageSt), s.dmaOk = true → (s.ring r.val).fetching = true →
    s.dmaSent (.dma (.ring (r.castLE (by omega)))) = true → s.cqBlocked r.val = false → (s.ring r.val).checked = false → tileBreak e = none → s.pageById (readKey r.val e).page = some p →
    tileFits p.desc (p.width.toList.getD r.val 0) (readKey r.val e) (readTile e) = false →
    ∃ t, exec (.tileDescriptor r e) s = .next t ∧ EntryFailed s r e 0x21 t) ∧
  (∀ (s : State) (r : Fin 8) (e : BitVec 512) (p : PageSt), s.dmaOk = true → (s.ring r.val).fetching = true →
    s.dmaSent (.dma (.ring (r.castLE (by omega)))) = true → s.cqBlocked r.val = false → (s.ring r.val).checked = false → tileBreak e = none → s.pageById (readKey r.val e).page = some p →
    tileFits p.desc (p.width.toList.getD r.val 0) (readKey r.val e) (readTile e) = true → (readTile e).resubmit = false →
    s.inOrder r.val p (readKey r.val e).band = false →
    ∃ t, exec (.tileDescriptor r e) s = .next t ∧ EntryFailed s r e 0x22 t) ∧
  (∀ (s : State) (r : Fin 8) (e : BitVec 512), s.dmaOk = true → (s.ring r.val).entry = some e →
    (s.ring r.val).checked = true → tileGranules (readTile e) ≤ s.rd .int INT.CREDIT →
    s.rd .int INT.PQUOTA r.val = 0 ∨
      s.usedGranules (some r.val) + tileGranules (readTile e) ≤ 256 * s.rd .int INT.PQUOTA r.val →
    (s.intake.tiles.filter fun u => u.phase == .reading).length < 16 → s.cqBlocked r.val = false →
    ∃ t, exec (.tileAllocate r) s = .next t ∧
      (∀ u ∈ t.intake.tiles.getLast?, u.gran.Nodup ∧ u.gran.length ≤ tileGranules (readTile e) ∧
        ∀ g ∈ u.gran, g < s.heapGranules ∧ ∀ v ∈ s.intake.tiles, g ∉ v.gran) ∧
      (s.usedGranules none + tileGranules (readTile e) ≤ s.heapGranules →
        ∀ u ∈ t.intake.tiles.getLast?, u.gran.length = tileGranules (readTile e)) ∧
      t.rd .int INT.RING_HEAD r.val = s.nextHead r.val ∧
      t.rd .int INT.CREDIT = (t.heapGranules - t.usedGranules none) % 2 ^ 25 ∧
      OnlyFields (creditFields ++ ringFields r.val) { s with
        out := (s.dmaStart (.dma (.tile (readKey r.val e))) (readTile e).srcAddr (readTile e).srcLen).out
        intake := { s.intake with
          reads := (s.dmaStart (.dma (.tile (readKey r.val e))) (readTile e).srcAddr (readTile e).srcLen).intake.reads
          tiles := s.intake.tiles ++ [{ key := readKey r.val e, desc := readTile e, phase := .reading
                                        gran := (t.intake.tiles.getLast?.map fun u => u.gran).getD []
                                        repl := (readTile e).resubmit }]
          rings := s.intake.rings.setIfInBounds r.val { fetching := (s.ring r.val).fetching }
          lowSeen := t.intake.lowSeen } } t) ∧
  (∀ (s : State) (r : Fin 8) (e : BitVec 512), (s.ring r.val).entry = some e →
    s.rd .int INT.CREDIT < tileGranules (readTile e) ∨ s.cqBlocked r.val = true →
    exec (.tileAllocate r) s = .next s)

/-- R115, R117, R121, R124, R127, R131, R167. A tile's data: a bad stream header or CRC fails it; otherwise it lands in its
granules, is counted against the heap, and its TILE_DONE waits; a replacement that comes too late is TILE_LATE; in
self-refresh the write is held. A DMA read that fails: a descriptor read stops its ring, tile data fails the tile, and
preset data fails the load. The model's own choices among these clauses are log entries 15, 71. -/
def Obligations.TileLanding : Prop :=
  (∀ (s : State) (key : TileKey) (hdr : BitVec 128) (u : Tile) (p : PageSt), s.devUp = true → s.tileInFlight key = some u →
    s.pageById key.page = some p → u.desc.scw = true → headerBad hdr u.desc (p.desc.bitsOf key.plane) = true →
    ∃ t, exec (.scwHeaderCheck key hdr) s = .next t ∧ t.errorShown .int = s.errorAfter .int 0x21 ∧
      TileFailed s key u.desc.cookie 0x1121 [] t) ∧
  (∀ (s : State) (key : TileKey) (hdr : BitVec 128) (u : Tile) (p : PageSt), s.tileInFlight key = some u →
    s.pageById key.page = some p → headerBad hdr u.desc (p.desc.bitsOf key.plane) = false →
    exec (.scwHeaderCheck key hdr) s = .next s) ∧
  (∀ (s : State) (key : TileKey) (data : List Byte) (u : Tile), s.devUp = true → s.tileInFlight key = some u →
    data.length = u.desc.srcLen → s.dmaSent (.dma (.tile key)) = true → u.desc.scw = false → u.desc.crcByIntake = false →
    crc32c (data.map fun b => b.toNat) ≠ u.desc.crc →
    ∃ t, exec (.tileLanded key data) s = .next t ∧ t.errorShown .int = s.errorAfter .int 0x28 ∧
      TileFailed s key u.desc.cookie 0x1128 [] t) ∧
  (∀ (s : State) (key : TileKey) (data : List Byte) (u : Tile) (p : PageSt), s.devUp = true → s.tileInFlight key = some u →
    data.length = u.desc.srcLen → s.dmaSent (.dma (.tile key)) = true → u.desc.scw = true → s.pageById key.page = some p →
    data.length < 16 ∨ headerBad (BitVec.ofNat 128 (ofBytes ((data.map fun b => b.toNat).take 16))) u.desc
      (p.desc.bitsOf key.plane) = true →
    ∃ t, exec (.tileLanded key data) s = .next t ∧ t.errorShown .int = s.errorAfter .int 0x21 ∧
      TileFailed s key u.desc.cookie 0x1121 [] t) ∧
  (∀ (s : State) (key : TileKey) (data : List Byte) (u : Tile) (out : List Nat) (isStream : Bool) (status info crc : Nat),
    s.devUp = true → s.tileInFlight key = some u → data.length = u.desc.srcLen → s.dmaSent (.dma (.tile key)) = true →
    s.dataBad u (data.map fun b => b.toNat) = none → u.repl = false → s.ddrState = ddrActive → s.ddr.poison = [] →
    s.storedAs u (data.map fun b => b.toNat) = some (out, isStream, status, info, crc) →
    ∃ t, exec (.tileLanded key data) s = .next t ∧
      (∀ g, u.gran = [g] → out.length ≤ 4096 → s.granuleAt g + 4096 ≤ s.spoolSize →
        ∀ i, i < out.length → Memory.read t.ddr.mem (s.granuleAt g + i) = BitVec.ofNat 8 (out.getD i 0)) ∧
      (∀ a, (∀ g ∈ u.gran, a < s.granuleAt g ∨ s.granuleAt g + 4096 ≤ a) →
        Memory.read t.ddr.mem a = Memory.read s.ddr.mem a) ∧
      t.rd .int INT.CREDIT = (t.heapGranules - t.usedGranules none) % 2 ^ 25 ∧
      (status ≠ 0 → t.errorShown .cdc = s.errorAfter .cdc (status % 256)) ∧
      OnlyFields (creditFields ++ if status = 0 then [] else errorFields .cdc) { s with
        ddr := { s.ddr with mem := t.ddr.mem, writeBack := t.ddr.writeBack, lastReq := t.ddr.lastReq }
        intake := { s.intake with
          tiles := (s.intake.tiles.filter fun (v : Tile) => v.key != key) ++ [{ u with
            phase := .landed, gran := u.gran.take (granulesOf out.length), crc, info, enc := none
            stored := if isStream then .stream out.length else .raw out.length
            accepted := u.desc.noCpl, rereqs := 0, decoded := none, failed := [] }]
          cq := if u.desc.noCpl then s.intake.cq
            else s.intake.cq ++ [{ tileCqe key u.desc.cookie 1 status out.length info with tile := some key }]
          reads := s.readsLess (.dma (.tile key))
          lowSeen := t.intake.lowSeen } } t) ∧
  (∀ (s : State) (key : TileKey) (data : List Byte) (u : Tile) (out : List Nat) (isStream : Bool) (status info crc : Nat),
    s.devUp = true → s.tileInFlight key = some u → data.length = u.desc.srcLen → s.dmaSent (.dma (.tile key)) = true →
    s.dataBad u (data.map fun b => b.toNat) = none → u.repl = true → s.ddrState = ddrActive → s.ddr.poison = [] →
    s.tileAt key = none → s.storedAs u (data.map fun b => b.toNat) = some (out, isStream, status, info, crc) →
    ∃ t, exec (.tileLanded key data) s = .next t ∧
      t.rd .int INT.CREDIT = (t.heapGranules - t.usedGranules none) % 2 ^ 25 ∧
      OnlyFields creditFields { s with
        ddr := { s.ddr with mem := t.ddr.mem, writeBack := t.ddr.writeBack, lastReq := t.ddr.lastReq }
        intake := { s.intake with
          tiles := s.intake.tiles.filter fun (v : Tile) => !(v.key == key && v.phase != TilePhase.landed)
          cq := s.intake.cq ++ [tileCqe key u.desc.cookie 9 0 0 0]
          reads := s.readsLess (.dma (.tile key))
          lowSeen := t.intake.lowSeen } } t) ∧
  (∀ (s : State) (key : TileKey) (data : List Byte) (u : Tile), s.devUp = true → s.tileInFlight key = some u →
    data.length = u.desc.srcLen → s.dmaSent (.dma (.tile key)) = true → s.dataBad u (data.map fun b => b.toNat) = none →
    s.portsHold = true → exec (.tileLanded key data) s = .next s.portWake) ∧
  (∀ (s : State) (key : TileKey) (data : List Byte) (u : Tile), s.tileInFlight key = some u → data.length ≠ u.desc.srcLen →
    exec (.tileLanded key data) s = .next s) ∧
  (∀ (s : State) (r : Fin 10), s.devUp = true → (s.ring r.val).fetching = true →
    ∃ t, exec (.dmaError (.ring r)) s = .next t ∧ t.on .int INT.RING_CTRL_EN r.val = false ∧ t.ringState r.val = 0 ∧
      t.errorShown .int = s.errorAfter .int 0x26 ∧ t.event .int 12 = true ∧
      OnlyFields ([(.int, INT.RING_CTRL_EN, r.val), (.int, INT.RING_STAT, r.val)] ++ errorFields .int ++ eventField .pci)
        { s with intake := { s.intake with
          rings := s.intake.rings.setIfInBounds r.val {}, reads := s.readsLess (.dma (.ring r)) } } t) ∧
  (∀ (s : State) (k : TileKey) (u : Tile), s.devUp = true → s.tileInFlight k = some u →
    ∃ t, exec (.dmaError (.tile k)) s = .next t ∧ t.errorShown .int = s.errorAfter .int 0x26 ∧
      TileFailed s k u.desc.cookie 0x1126 (eventField .pci) t) ∧
  (∀ (s : State) (id : BitVec 8), s.devUp = true → s.codec.loads.any (fun e => e.1 == id.toNat) = true →
    ∃ t, exec (.dmaError (.preset id)) s = .next t ∧ t.errorShown .int = s.errorAfter .int 0x26 ∧
      OnlyFields (errorFields .int ++ eventField .pci) { s with
        codec := { s.codec with loads := s.codec.loads.filter fun e => e.1 != id.toNat }
        intake := { s.intake with
          cq := s.intake.cq ++ [adminCqe 0x1126 0 0 0], reads := s.readsLess (.dma (.preset id)) } } t)

/-- R120, R121, R122, R123. The first waiting completion that a free entry of ring 9 permits is written, and CQ is raised for it
at once or when enough have been written; otherwise TIME_US raises CQ. -/
def Obligations.Completions : Prop :=
  (∀ (s : State) (c : Cqe) (rest : List Cqe), s.dmaOk = true → takeFirst s.cqeFits s.intake.cq = some (c, rest) →
    cqUrgent c.type = true ∨ s.rd .int INT.CQ_COAL_COUNT ≤ s.intake.unsignalled + 1 →
    ∃ t, exec .completionWrite s = .next t ∧ t.event .int 8 = true ∧
      t.rd .int INT.RING_HEAD 9 = (s.rd .int INT.RING_HEAD 9 + 1) % 2 ^ s.rd .int INT.RING9_SIZE % 2 ^ 16 ∧
      t.rd .int INT.RING_COUNT 9 = min (s.rd .int INT.RING_COUNT 9 + 1) (2 ^ 32 - 1) ∧
      OnlyFields ((.int, HDR.PG_EVT_RAW, 0) :: ringFields 9) { s with
        out := s.out ++ [.completion (s.rd .int INT.RING_BASE 9 + 32 * s.rd .int INT.RING_HEAD 9) (s.cqeBytes c)]
        intake := { s.intake with
          cq := rest, unsignalled := 0, unsigAt := if s.intake.unsignalled = 0 then s.dclk else s.intake.unsigAt
          phase9 := if s.rd .int INT.RING_HEAD 9 + 1 = 2 ^ s.rd .int INT.RING9_SIZE then !s.intake.phase9 else s.intake.phase9
          tiles := match c.tile with
            | some k => withTile k (fun v => { v with accepted := true }) s.intake.tiles
            | none => s.intake.tiles
          reserveSeen := t.intake.reserveSeen } } t) ∧
  (∀ (s : State) (c : Cqe) (rest : List Cqe), s.dmaOk = true → takeFirst s.cqeFits s.intake.cq = some (c, rest) →
    cqUrgent c.type = false → s.intake.unsignalled + 1 < s.rd .int INT.CQ_COAL_COUNT →
    ∃ t, exec .completionWrite s = .next t ∧ t.event .int 8 = s.event .int 8 ∧
      t.rd .int INT.RING_HEAD 9 = (s.rd .int INT.RING_HEAD 9 + 1) % 2 ^ s.rd .int INT.RING9_SIZE % 2 ^ 16 ∧
      OnlyFields ((.int, HDR.PG_EVT_RAW, 0) :: ringFields 9) { s with
        out := s.out ++ [.completion (s.rd .int INT.RING_BASE 9 + 32 * s.rd .int INT.RING_HEAD 9) (s.cqeBytes c)]
        intake := { s.intake with
          cq := rest, unsignalled := s.intake.unsignalled + 1
          unsigAt := if s.intake.unsignalled = 0 then s.dclk else s.intake.unsigAt
          phase9 := if s.rd .int INT.RING_HEAD 9 + 1 = 2 ^ s.rd .int INT.RING9_SIZE then !s.intake.phase9 else s.intake.phase9
          tiles := match c.tile with
            | some k => withTile k (fun v => { v with accepted := true }) s.intake.tiles
            | none => s.intake.tiles
          reserveSeen := t.intake.reserveSeen } } t) ∧
  (∀ s : State, s.dmaOk = false ∨ takeFirst s.cqeFits s.intake.cq = none → exec .completionWrite s = .next s) ∧
  (∀ s : State, s.devUp = true → s.intake.unsignalled ≠ 0 → s.rd .int INT.CQ_COAL_TIME_US ≠ 0 →
    s.intake.unsigAt + 500 * s.rd .int INT.CQ_COAL_TIME_US ≤ s.dclk →
    ∃ t, exec .cqTimerExpiry s = .next t ∧ t.event .int 8 = true ∧
      OnlyFields [(.int, HDR.PG_EVT_RAW, 0)] { s with intake := { s.intake with unsignalled := 0 } } t)

/-- R112, R113, R185. A page is opened, rejected with the code of the check it breaks, or cancelled; a NOP completes. The
model's own choices among these clauses are log entries 13, 72, 87, 88. -/
def Obligations.PageEntries : Prop :=
  (∀ (s : State) (e : BitVec 512), s.admitted 0x10 e = true → pageBreak e = none →
    s.pageById (readPage e).id = none → s.intake.pages.length < 64 → s.lastRejects s.intake.counts (readPage e) = none →
    (∀ l : Lane, s.armable l = false ∧ s.rd (.lne l) LNE.AWL_STAT_STATE ≠ 1) → (∀ r : Fin 8, (s.ring r.val).entry = none) →
    ∃ t, exec (.pageOpen e) s = .next t ∧ AdminPassed s t ∧ t.event .lst 8 = true ∧
      t.rd .int INT.OPEN = s.intake.pages.length + 1 ∧ (s.nextPage = none → t.rd .lst LST.NEXT = (readPage e).id) ∧
      OnlyFields (adminFields ++ pageFields) { s with intake := { s.intake with
        pages := s.intake.pages ++ [s.newPage (readPage e)]
        ordN := s.intake.ordN + 1
        cq := s.intake.cq ++ [openCqe 5 0 (readPage e).id (s.newPage (readPage e)).fsafe]
        rings := s.adminRings
        reads := s.adminReads } } t) ∧
  (∀ (s : State) (e : BitVec 512) (l : Lane), s.admitted 0x10 e = true → pageBreak e = none →
    s.pageById (readPage e).id = none → s.intake.pages.length < 64 → s.lastRejects s.intake.counts (readPage e) = none →
    s.nextPage = none → s.cal.runs = [] → (∀ k : Lane, s.rd (.lne k) LNE.AWL_STAT_STATE ≠ 1) →
    l ∈ s.pageLanes (readPage e).planes → s.lanes[l].st = .idle → s.lanes[l].page = none → s.armable l = true →
    ∃ t, exec (.pageOpen e) s = .next t ∧ t.lanes[l].st = .armed ∧ t.lanes[l].page = some (readPage e).id ∧
      t.event (.seq l) 6 = true) ∧
  (∀ (s : State) (e : BitVec 512) (off : Nat), s.admitted 0x10 e = true → pageBreak e = some off →
    ∃ t, exec (.pageOpen e) s = .next t ∧ AdminPassed s t ∧ t.errorShown .int = s.errorAfter .int 0x21 ∧
      (s.errorShown .int = none → t.rd .int HDR.PG_ERR_INFO = off % 2 ^ 32) ∧
      OnlyFields (adminFields ++ errorFields .int) { s with intake := { s.intake with
        cq := s.intake.cq ++ [openCqe 8 0x1121 (readPage e).id 0], rings := s.adminRings, reads := s.adminReads } } t) ∧
  (∀ (s : State) (e : BitVec 512), s.admitted 0x10 e = true → pageBreak e = none →
    (s.pageById (readPage e).id).isSome = true →
    ∃ t, exec (.pageOpen e) s = .next t ∧ AdminPassed s t ∧ t.errorShown .int = s.errorAfter .int 0x24 ∧
      OnlyFields (adminFields ++ errorFields .int) { s with intake := { s.intake with
        cq := s.intake.cq ++ [openCqe 8 0x1124 (readPage e).id 0], rings := s.adminRings, reads := s.adminReads } } t) ∧
  (∀ (s : State) (e : BitVec 512), s.admitted 0x10 e = true → pageBreak e = none →
    s.pageById (readPage e).id = none → 64 ≤ s.intake.pages.length →
    ∃ t, exec (.pageOpen e) s = .next t ∧ AdminPassed s t ∧ t.errorShown .int = s.errorAfter .int 0x25 ∧
      OnlyFields (adminFields ++ errorFields .int) { s with intake := { s.intake with
        cq := s.intake.cq ++ [openCqe 8 0x1125 (readPage e).id 0], rings := s.adminRings, reads := s.adminReads } } t) ∧
  (∀ (s : State) (e : BitVec 512) (nn : Nat), s.admitted 0x10 e = true → pageBreak e = none →
    s.pageById (readPage e).id = none → s.intake.pages.length < 64 → s.lastRejects s.intake.counts (readPage e) = some nn →
    (∀ l : Lane, s.rd (.lne l) LNE.AWL_STAT_STATE ≠ 1) → (∀ r : Fin 8, (s.ring r.val).entry = none) →
    ∃ t, exec (.pageOpen e) s = .next t ∧ AdminPassed s t ∧ t.errorShown .lst = s.errorAfter .lst nn ∧
      t.event .lst 9 = true ∧
      OnlyFields (adminFields ++ errorFields .lst) { s with intake := { s.intake with
        cq := s.intake.cq ++ [openCqe 8 (0x2000 + nn) (readPage e).id 0]
        closed := ((readPage e).id :: s.intake.closed).take 64
        rings := s.adminRings, reads := s.adminReads } } t) ∧
  (∀ (s : State) (e : BitVec 512) (p : PageSt), s.admitted 0x11 e = true → entryField e 1 3 = 0 → entryField e 8 56 = 0 →
    s.pageById (entryField e 4 4) = some p →
    ∃ t, exec (.pageCancel e) s = .next t ∧ AdminPassed s t ∧
      OnlyFields adminFields { s with intake := { s.intake with
        pages := s.intake.pages.map fun q => if q.ord = p.ord then { q with cancel := true } else q
        cq := s.intake.cq ++ [adminCqe 0 0 0 0], rings := s.adminRings, reads := s.adminReads } } t) ∧
  (∀ (s : State) (e : BitVec 512), s.admitted 0x11 e = true → entryField e 1 3 = 0 → entryField e 8 56 = 0 →
    s.pageById (entryField e 4 4) = none →
    ∃ t, exec (.pageCancel e) s = .next t ∧ AdminPassed s t ∧ t.errorShown .int = s.errorAfter .int 0x2D ∧
      OnlyFields (adminFields ++ errorFields .int) { s with intake := { s.intake with
        cq := s.intake.cq ++ [adminCqe 0x112D 0 0 0], rings := s.adminRings, reads := s.adminReads } } t) ∧
  (∀ (s : State) (e : BitVec 512), s.admitted 0x15 e = true → entryField e 1 63 = 0 →
    ∃ t, exec (.nop e) s = .next t ∧ AdminPassed s t ∧
      OnlyFields adminFields { s with intake := { s.intake with
        cq := s.intake.cq ++ [adminCqe 0 0 0 0], rings := s.adminRings, reads := s.adminReads } } t) ∧
  (∀ (s : State) (e : BitVec 512), s.admitted 0x15 e = true → entryField e 1 63 ≠ 0 →
    ∃ t, exec (.nop e) s = .next t ∧ AdminPassed s t ∧ t.errorShown .int = s.errorAfter .int 0x21 ∧
      OnlyFields (adminFields ++ errorFields .int) { s with intake := { s.intake with
        cq := s.intake.cq ++ [adminCqe 0x1121 0 0 0], rings := s.adminRings, reads := s.adminReads } } t)

/-- R200, R203, R210, R213, R214, R215, R216, R217, R218, R243. While no commit is pending: a line in threshold mode or of a
pre-screened plane is screened and put into the line FIFO unless its firing instant has passed; an uncorrectable error
taints it, and it counts as tainted; a line the lane gets no words for is taken from the buffer and gives no levels. An
engine that is stopped takes no line. While no commit is pending: a line in error diffusion starts exact after a reset, and
sends a seam word to its neighbour on the right; later it takes the words of both sides, and a tainted word taints it;
without a word it needs, it waits, and the time it first waited is kept. The model's own choices among these clauses are log
entries 91, 92. -/
def Obligations.Screening : Prop :=
  (∀ (s : State) (l : Lane) (stall : BitVec 16) (i : InLine) (rest : List InLine) (ws : List Nat), s.devUp = true →
    s.lanes[l].inbuf = i :: rest → s.engineOff l i.tag.page = false → s.lanes[l].fifo.length < 64 → s.commits = [] →
    i.diffuses = false → i.body = .words ws →
    ∃ t, exec (.lineScreenStart l stall none) s = .next t ∧ t.rd (.lne l) LNE.STAT_DIR = i.tag.w % 2 ∧
      t.on (.lne l) LNE.STAT_TAINT = false ∧
      t.rd (.lne l) LNE.STALL_CNT = min (s.rd (.lne l) LNE.STALL_CNT + stall.toNat) (2 ^ 32 - 1) ∧
      t.rd (.lne l) LNE.LINES = min (s.rd (.lne l) LNE.LINES + 1) (2 ^ 32 - 1) ∧
      OnlyFields [(.lne l, LNE.STAT_DIR, 0), (.lne l, LNE.STAT_TAINT, 0), (.lne l, LNE.STALL_CNT, 0), (.lne l, LNE.LINES, 0)]
        (s.modLane l fun h => { h with
          inbuf := rest, lastW := some i.tag.w, waitAt := none
          fifo := if s.lanes[l].due.any fun d => d.tag.ord == i.tag.ord then s.lanes[l].fifo ++ [{
            tag := i.tag, taint := false, ue := false
            levels := (List.range ws.length).map (s.welt l ws.length i.tag.w (s.thresholdNozzle l (i.lineIn ws))) }]
            else s.lanes[l].fifo }) t) ∧
  (∀ (s : State) (l : Lane) (stall : BitVec 16) (i : InLine) (rest : List InLine) (a b c : Nat), s.devUp = true →
    s.lanes[l].inbuf = i :: rest → s.engineOff l i.tag.page = false → s.lanes[l].fifo.length < 64 → s.commits = [] →
    i.diffuses = false → i.body = .missing a b c →
    ∃ t, exec (.lineScreenStart l stall none) s = .next t ∧ t.rd (.lne l) LNE.STAT_DIR = i.tag.w % 2 ∧
      OnlyFields [(.lne l, LNE.STAT_DIR, 0), (.lne l, LNE.STAT_TAINT, 0), (.lne l, LNE.STALL_CNT, 0)]
        (s.modLane l fun h => { h with inbuf := rest, lastW := some i.tag.w, waitAt := none }) t) ∧
  (∀ (s : State) (l : Lane) (stall : BitVec 16) (ue : SramUe × Bool) (i : InLine) (rest : List InLine) (ws : List Nat),
    s.devUp = true → s.lanes[l].inbuf = i :: rest → s.engineOff l i.tag.page = false → s.lanes[l].fifo.length < 64 →
    s.commits = [] → i.diffuses = false → i.body = .words ws →
    ∃ t, exec (.lineScreenStart l stall (some ue)) s = .next t ∧ t.lanes[l].inbuf = rest ∧ t.on (.lne l) LNE.STAT_TAINT = true ∧
      t.rd (.lne l) LNE.TAINT_CNT = min (s.rd (.lne l) LNE.TAINT_CNT + 1) (2 ^ 32 - 1) ∧
      OtherPages [.lne l, .scr (Lane.clu l), .den] s t ∧ OtherLanes [l] s t) ∧
  (∀ (s : State) (l : Lane) (stall : BitVec 16) (ue : Option (SramUe × Bool)),
    s.lanes[l].inbuf = [] ∨ 64 ≤ s.lanes[l].fifo.length → exec (.lineScreenStart l stall ue) s = .next s) ∧
  (∀ (s : State) (l : Lane) (stall : BitVec 16) (ue : Option (SramUe × Bool)) (i : InLine) (rest : List InLine),
    s.lanes[l].inbuf = i :: rest → s.engineOff l i.tag.page = true → exec (.lineScreenStart l stall ue) s = .next s) ∧
  (∀ (s : State) (l : Lane) (stall : BitVec 16) (i : InLine) (rest : List InLine) (ws : List Nat), s.devUp = true →
    s.lanes[l].inbuf = i :: rest → s.engineOff l i.tag.page = false → s.lanes[l].fifo.length < 64 → s.commits = [] →
    i.diffuses = true → i.body = .words ws → i.reset = true → s.leftOf l ≠ some l → s.rightOf l ≠ some l →
    ∃ t, exec (.lineScreenStart l stall none) s = .next t ∧ t.lanes[l].inbuf = rest ∧ t.on (.lne l) LNE.STAT_TAINT = false ∧
      t.lanes[l].taintOwn = false ∧ t.lanes[l].taintWord = false ∧ t.lanes[l].acc.length = ws.length ∧
      t.rd (.lne l) LNE.LINES = min (s.rd (.lne l) LNE.LINES + 1) (2 ^ 32 - 1) ∧
      ((s.lanes[l].due.any fun d => d.tag.ord == i.tag.ord) = true →
        t.lanes[l].fifo.length = s.lanes[l].fifo.length + 1) ∧
      OtherPages [.lne l] s t ∧ OtherLanes (l :: ((s.leftOf l).toList ++ (s.rightOf l).toList)) s t) ∧
  (∀ (s : State) (l b : Lane) (stall : BitVec 16) (i : InLine) (rest : List InLine) (ws : List Nat), s.devUp = true →
    s.lanes[l].inbuf = i :: rest → s.engineOff l i.tag.page = false → s.lanes[l].fifo.length < 64 → s.commits = [] →
    i.diffuses = true → i.body = .words ws → i.reset = true → s.rightOf l = some b → b ≠ l →
    s.leftOf l ≠ some b →
    ∃ t, exec (.lineScreenStart l stall none) s = .next t ∧ t.lanes[b].wireL.length = s.lanes[b].wireL.length + 1 ∧
      t.lanes[b].wireL.dropLast = s.lanes[b].wireL ∧
      (t.lanes[b].wireL.getLast?.map fun w => (w.src, w.taint, w.line, w.plane)) =
        some (l.val, false, i.tag.w % 256, i.tag.plane)) ∧
  (∀ (s : State) (l : Lane) (stall : BitVec 16) (i : InLine) (rest : List InLine) (ws : List Nat) (a b : Option SeamWord),
    s.devUp = true → s.lanes[l].inbuf = i :: rest → s.engineOff l i.tag.page = false → s.lanes[l].fifo.length < 64 →
    s.commits = [] → i.diffuses = true → i.body = .words ws → i.reset = false →
    s.seamIn (s.leftOf l) s.lanes[l].rxL s.lanes[l].wireL s.lanes[l].tmoL i = some a →
    s.seamIn (s.rightOf l) s.lanes[l].rxR s.lanes[l].wireR s.lanes[l].tmoR i = some b →
    s.leftOf l ≠ some l → s.rightOf l ≠ some l →
    ∃ t, exec (.lineScreenStart l stall none) s = .next t ∧ t.lanes[l].inbuf = rest ∧
      t.lanes[l].rxL = s.lanes[l].rxL.tail ∧ t.lanes[l].rxR = s.lanes[l].rxR.tail ∧
      t.lanes[l].tmoL = false ∧ t.lanes[l].tmoR = false ∧
      ((∃ w, a = some w ∧ w.taint = true) → t.on (.lne l) LNE.STAT_TAINT = true ∧
        t.rd (.lne l) LNE.TAINT_CNT = min (s.rd (.lne l) LNE.TAINT_CNT + 1) (2 ^ 32 - 1)) ∧
      t.rd (.lne l) LNE.LINES = min (s.rd (.lne l) LNE.LINES + 1) (2 ^ 32 - 1) ∧
      OtherPages [.lne l, .seam (Lane.clu l)] s t ∧
      OtherLanes (l :: ((s.leftOf l).toList ++ (s.rightOf l).toList)) s t) ∧
  (∀ (s : State) (l : Lane) (stall : BitVec 16) (ue : Option (SramUe × Bool)) (i : InLine) (rest : List InLine),
    s.devUp = true → s.lanes[l].inbuf = i :: rest → s.engineOff l i.tag.page = false → s.lanes[l].fifo.length < 64 →
    s.commits = [] → i.diffuses = true → i.reset = false →
    s.seamIn (s.leftOf l) s.lanes[l].rxL s.lanes[l].wireL s.lanes[l].tmoL i = none ∨
      s.seamIn (s.rightOf l) s.lanes[l].rxR s.lanes[l].wireR s.lanes[l].tmoR i = none →
    exec (.lineScreenStart l stall ue) s = .next (s.modLane l fun h => { h with waitAt := some (h.waitAt.getD s.dclk) }))

/-- R203, R204, R208, R209, R210, R211, R213, R216, R217. What the screening computes: tone stays within INK_MAX, a level within
LEVEL_MAX, a blank word fires nothing, a pre-screened word fires its level, a cell gives no fewer levels to a higher tone,
and an error stays in thirteen signed bits. A seam word arrives, its errors counted and an uncorrectable one tainting it;
one that has not come TMO_US after its pair first waited is given up. -/
def Obligations.ScreeningFiguresAndSeamWords : Prop :=
  (∀ (s : State) (l : Lane) (j w : Nat), s.tone l j w ≤ s.rd (.lne l) LNE.CTRL_INK_MAX) ∧
  (∀ (s : State) (l : Lane) (x : LineIn) (j : Nat), s.thresholdNozzle l x j ≤ max 0 (s.rd (.lne l) LNE.CTRL_LEVEL_MAX)) ∧
  (∀ (s : State) (l : Lane) (x : LineIn) (j : Nat), wordBlank (x.word j) = true → s.thresholdNozzle l x j = 0) ∧
  (∀ (s : State) (l : Lane) (x : LineIn) (j : Nat), wordBlank (x.word j) = false → wordPre (x.word j) = true →
    s.mapValid l = false → s.thresholdNozzle l x j = min (x.word j % 8) (s.rd (.lne l) LNE.CTRL_LEVEL_MAX)) ∧
  (∀ cell a b : Nat, a ≤ b → thresholdLevel cell a ≤ thresholdLevel cell b ∧ thresholdLevel cell b ≤ 7) ∧
  (∀ (s : State) (l : Lane) (q : PlSet) (cell : Nat) (v : Int), (s.diffuse l q cell v).1 ≤ s.rd (.lne l) LNE.CTRL_LEVEL_MAX ∧
    -4096 ≤ (s.diffuse l q cell v).2 ∧ (s.diffuse l q cell v).2 ≤ 4095) ∧
  (∀ v : Nat, v ≤ 1023 → toneFlat v ≤ 4095) ∧
  (∀ (s : State) (l : Lane) (left : Bool) (w : SeamWord) (rest : List SeamWord), s.devUp = true →
    (if left then s.lanes[l].wireL else s.lanes[l].wireR) = w :: rest →
    ∃ t, exec (.seamWordArrive l left .clean) s = .next t ∧
      t.rd (.seam (Lane.clu l)) SEAM.WORDS = min (s.rd (.seam (Lane.clu l)) SEAM.WORDS + 1) (2 ^ 32 - 1) ∧
      OnlyFields [(.seam (Lane.clu l), SEAM.WORDS, 0)] (s.modLane l fun h =>
        if left then { h with wireL := rest, rxL := h.rxL ++ [w] } else { h with wireR := rest, rxR := h.rxR ++ [w] }) t) ∧
  (∀ (s : State) (l : Lane) (left : Bool) (w : SeamWord) (rest : List SeamWord), s.devUp = true →
    (if left then s.lanes[l].wireL else s.lanes[l].wireR) = w :: rest →
    ∃ t, exec (.seamWordArrive l left .corrected) s = .next t ∧ t.event (.seam (Lane.clu l)) 10 = true ∧
      t.rd (.seam (Lane.clu l)) SEAM.CE_CNT = min (s.rd (.seam (Lane.clu l)) SEAM.CE_CNT + 1) (2 ^ 32 - 1) ∧
      OnlyFields [(.seam (Lane.clu l), SEAM.WORDS, 0), (.seam (Lane.clu l), SEAM.CE_CNT, 0),
          (.seam (Lane.clu l), HDR.PG_EVT_RAW, 0)] (s.modLane l fun h =>
        if left then { h with wireL := rest, rxL := h.rxL ++ [w] } else { h with wireR := rest, rxR := h.rxR ++ [w] }) t) ∧
  (∀ (s : State) (l : Lane) (left : Bool) (w : SeamWord) (rest : List SeamWord), s.devUp = true →
    (if left then s.lanes[l].wireL else s.lanes[l].wireR) = w :: rest →
    ∃ t, exec (.seamWordArrive l left .bad) s = .next t ∧ t.event (.seam (Lane.clu l)) 11 = true ∧
      t.errorShown (.seam (Lane.clu l)) = s.errorAfter (.seam (Lane.clu l)) 0x22 ∧
      t.rd (.seam (Lane.clu l)) SEAM.UE_CNT = min (s.rd (.seam (Lane.clu l)) SEAM.UE_CNT + 1) (2 ^ 32 - 1) ∧
      OnlyFields ([(.seam (Lane.clu l), SEAM.WORDS, 0), (.seam (Lane.clu l), SEAM.UE_CNT, 0)] ++
          errorFields (.seam (Lane.clu l))) (s.modLane l fun h =>
        if left then { h with wireL := rest, rxL := h.rxL ++ [{ w with taint := true }] }
        else { h with wireR := rest, rxR := h.rxR ++ [{ w with taint := true }] }) t) ∧
  (∀ (s : State) (l a : Lane) (left : Bool) (i : InLine) (rest : List InLine) (x : Nat), s.devUp = true →
    s.lanes[l].inbuf = i :: rest → (if left then s.leftOf l else s.rightOf l) = some a →
    s.lanes[l].waitAt = some x → x + 500 * s.rd (.seam (Lane.clu l)) SEAM.CTRL ≤ s.dclk →
    (if left then s.lanes[l].rxL else s.lanes[l].rxR) = [] →
    (if left then s.lanes[l].tmoL else s.lanes[l].tmoR) = false → i.reset = false →
    i.diffuses = true →
    ∃ t, exec (.seamTimeout l left) s = .next t ∧ t.event (.seam (Lane.clu l)) 9 = true ∧
      t.errorShown (.seam (Lane.clu l)) = s.errorAfter (.seam (Lane.clu l)) 0x21 ∧
      (s.errorShown (.seam (Lane.clu l)) = none → t.rd (.seam (Lane.clu l)) HDR.PG_ERR_INFO = l.val + 256 * a.val) ∧
      t.rd (.seam (Lane.clu l)) SEAM.TMO_CNT = min (s.rd (.seam (Lane.clu l)) SEAM.TMO_CNT + 1) (2 ^ 32 - 1) ∧
      OnlyFields ((.seam (Lane.clu l), SEAM.TMO_CNT, 0) :: errorFields (.seam (Lane.clu l))) (s.modLane l fun h =>
        if left then { h with tmoL := true } else { h with tmoR := true }) t) ∧
  (∀ (s : State) (l : Lane) (left : Bool) (x : Nat), s.lanes[l].waitAt = some x →
    s.dclk < x + 500 * s.rd (.seam (Lane.clu l)) SEAM.CTRL → exec (.seamTimeout l left) s = .next s)

/-- R205, R206, R207, R223, R228, R253. A write into a lane's table window reaches the tone table or the staged map, or is
refused by the rule of its region; a read answers the window's word; the table CRC is computed over the tone region. -/
def Obligations.TableWindows : Prop :=
  (∀ (s : State) (req : Req) (l : Lane) (off : BitVec 18) (data : Word), s.devUp = true → (s.power.grace && req == .host) = false → s.hostCut req = false →
    s.accessError (.window l off.toNat) (off.toNat % 4 == 0) = none → off.toNat < 4 * winRecords → s.laneRun l = false →
    ∃ t, exec (.tableWindowWrite req l off data) s = .next t ∧ t.winWord l (off.toNat / 4) = data.toNat ∧
      t.on (.lne l) LNE.TBL_CTRL_CRC_VALID = false ∧
      OnlyFields [(.lne l, LNE.TBL_CTRL_CRC_VALID, 0)] ({ s with reply := .posted req.code }.modLane l fun h =>
        { h with win := Regs.put h.win (off.toNat / 4) 0 data.toNat }) t) ∧
  (∀ (s : State) (req : Req) (l : Lane) (off : BitVec 18) (data : Word), s.devUp = true → (s.power.grace && req == .host) = false → s.hostCut req = false →
    s.accessError (.window l off.toNat) (off.toNat % 4 == 0) = none →
    off.toNat < 4 * winRecords ∨ (4 * winMaskR ≤ off.toNat ∧ off.toNat < 4 * winWeights + 16384) ∨
      (4 * winCounts ≤ off.toNat ∧ off.toNat < 4 * winCounts + 32768) → s.laneRun l = true →
    ∃ t, exec (.tableWindowWrite req l off data) s = .next t ∧ t.errorShown (.lne l) = s.errorAfter (.lne l) 0x20 ∧
      OnlyFields (errorFields (.lne l)) { s with reply := .posted req.code } t) ∧
  (∀ (s : State) (req : Req) (l : Lane) (off : BitVec 18) (data : Word), s.devUp = true → (s.power.grace && req == .host) = false → s.hostCut req = false →
    s.accessError (.window l off.toNat) (off.toNat % 4 == 0) = none → 4 * winStaged ≤ off.toNat → off.toNat < 4 * winForce →
    s.rd (.lne l) LNE.AWL_STAT_STATE ≠ 1 → s.rd (.lne l) LNE.AWL_STAT_STATE ≠ 2 → s.pend (.lne l) = false →
    exec (.tableWindowWrite req l off data) s = .next ({ s with reply := .posted req.code }.modLane l fun h =>
      { h with win := Regs.put h.win (off.toNat / 4) 0 data.toNat })) ∧
  (∀ (s : State) (req : Req) (l : Lane) (off : BitVec 18) (data : Word), s.devUp = true → (s.power.grace && req == .host) = false → s.hostCut req = false →
    s.accessError (.window l off.toNat) (off.toNat % 4 == 0) = none → 4 * winStaged ≤ off.toNat → off.toNat < 4 * winForce →
    s.rd (.lne l) LNE.AWL_STAT_STATE = 1 ∨ s.rd (.lne l) LNE.AWL_STAT_STATE = 2 →
    ∃ t, exec (.tableWindowWrite req l off data) s = .next t ∧ t.errorShown (.lne l) = s.errorAfter (.lne l) 0x30 ∧
      OnlyFields (errorFields (.lne l)) { s with reply := .posted req.code } t) ∧
  (∀ (s : State) (req : Req) (l : Lane) (off : BitVec 18) (data : Word), s.devUp = true → (s.power.grace && req == .host) = false → s.hostCut req = false →
    s.accessError (.window l off.toNat) (off.toNat % 4 == 0) = none → 4 * winRecords ≤ off.toNat → off.toNat < 4 * winStaged →
    ∃ t, exec (.tableWindowWrite req l off data) s = .next t ∧ t.errorShown (.lne l) = s.errorAfter (.lne l) 0x34 ∧
      OnlyFields (errorFields (.lne l)) { s with reply := .posted req.code } t) ∧
  (∀ (s : State) (req : Req) (l : Lane) (off : BitVec 18) (data : Word) (nn : Nat), s.devUp = true →
    (s.power.grace && req == .host) = false → s.hostCut req = false → s.accessError (.window l off.toNat) (off.toNat % 4 == 0) = some nn →
    ∃ t, exec (.tableWindowWrite req l off data) s = .next t ∧ t.errorShown .fab = s.errorAfter .fab nn ∧
      t.rd .fab FAB.LAST_ADDR = 0x1000000 + 0x40000 * l.val + off.toNat ∧ t.lanes = s.lanes ∧ OtherPages [.fab, .pci] s t) ∧
  (∀ (s : State) (req : Req) (a : Word) (l : Lane) (off : Nat), s.devUp = true → s.hostCut req = false → Req.isCore req = false →
    Target.ofAddr a.toNat = .window l off → s.accessError (.window l off) (a.toNat % 4 == 0) = none →
    winIsCount (off / 4) = false →
    exec (.pairLowRead req a false) s = .next { s with reply := .data req.code (s.winWord l (off / 4)) }) ∧
  (∀ (s : State) (req : Req) (l : Lane), s.ready req (.lne l) = true → s.lanes[l].tblRun = false →
    ∃ t, exec (.tblCrcGo req l) s = .next t ∧ t.on (.lne l) HDR.PG_STAT_BUSY = true ∧
      OnlyFields [(.lne l, HDR.PG_STAT_BUSY, 0)] ({ s with reply := .posted req.code }.modLane l fun h =>
        { h with tblRun := true }) t) ∧
  (∀ (s : State) (req : Req) (l : Lane), s.ready req (.lne l) = true → s.lanes[l].tblRun = true →
    ∃ t, exec (.tblCrcGo req l) s = .next t ∧ t.errorShown (.lne l) = s.errorAfter (.lne l) 0x24 ∧
      OnlyFields (errorFields (.lne l)) { s with reply := .posted req.code } t) ∧
  (∀ (s : State) (l : Lane), s.devUp = true → s.lanes[l].tblRun = true →
    ∃ t, exec (.tblCrcDone l) s = .next t ∧ t.on (.lne l) LNE.TBL_CTRL_CRC_VALID = true ∧ t.event (.lne l) 9 = true ∧
      t.rd (.lne l) LNE.TBL_CRC = crc32c (wordBytes (s.winWords l 0 winRecords)) % 2 ^ 32 ∧
      OnlyFields [(.lne l, LNE.TBL_CTRL_CRC_VALID, 0), (.lne l, LNE.TBL_CRC, 0), (.lne l, HDR.PG_STAT_BUSY, 0),
        (.lne l, HDR.PG_EVT_RAW, 0)] (s.modLane l fun h => { h with tblRun := false }) t)

/-- R211, R212. The matrix store: a load or a CRC starts, its source as written then, or is refused; a load ends complete, or at
the first cell out of order or not read, and an uncorrectable read is logged. -/
def Obligations.MatrixStore : Prop :=
  (∀ (s : State) (req : Req) (c : Clu), s.ready req (.scr c) = true → s.clusters[c].matRun = none → s.run (.scr c) = false →
    s.rd (.scr c) SCR.MAT_CELL_COUNT ≠ 0 →
    s.rd (.scr c) SCR.MAT_CELL_BASE + s.rd (.scr c) SCR.MAT_CELL_COUNT ≤ 61440 →
    ∃ t, exec (.matLoad req c) s = .next t ∧ t.on (.scr c) SCR.MAT_STAT_DONE = false ∧ t.on (.scr c) HDR.PG_STAT_BUSY = true ∧
      OnlyFields [(.scr c, SCR.MAT_STAT_DONE, 0), (.scr c, HDR.PG_STAT_BUSY, 0)]
        ({ s with reply := .posted req.code }.modClu c fun h => { h with
          matRun := some (true, s.rd (.scr c) SCR.MAT_CELL_BASE, s.rd (.scr c) SCR.MAT_CELL_COUNT)
          matSrc := s.rd (.scr c) SCR.MAT_SRC }) t) ∧
  (∀ (s : State) (req : Req) (c : Clu), s.ready req (.scr c) = true → s.clusters[c].matRun = none → s.run (.scr c) = true →
    ∃ t, exec (.matLoad req c) s = .next t ∧ t.errorShown (.scr c) = s.errorAfter (.scr c) 0x20 ∧
      OnlyFields (errorFields (.scr c)) { s with reply := .posted req.code } t) ∧
  (∀ (s : State) (req : Req) (c : Clu), s.ready req (.scr c) = true → s.clusters[c].matRun = none →
    s.rd (.scr c) SCR.MAT_CELL_COUNT ≠ 0 →
    s.rd (.scr c) SCR.MAT_CELL_BASE + s.rd (.scr c) SCR.MAT_CELL_COUNT ≤ 61440 →
    ∃ t, exec (.matCrc req c) s = .next t ∧ t.on (.scr c) SCR.MAT_STAT_DONE = false ∧ t.on (.scr c) HDR.PG_STAT_BUSY = true ∧
      OnlyFields [(.scr c, SCR.MAT_STAT_DONE, 0), (.scr c, HDR.PG_STAT_BUSY, 0)]
        ({ s with reply := .posted req.code }.modClu c fun h => { h with
          matRun := some (false, s.rd (.scr c) SCR.MAT_CELL_BASE, s.rd (.scr c) SCR.MAT_CELL_COUNT)
          matSrc := s.rd (.scr c) SCR.MAT_SRC }) t) ∧
  (∀ (s : State) (req : Req) (c : Clu), s.ready req (.scr c) = true → s.clusters[c].matRun.isSome = true →
    ∃ t, exec (.matCrc req c) s = .next t ∧ t.errorShown (.scr c) = s.errorAfter (.scr c) 0x26 ∧
      OnlyFields (errorFields (.scr c)) { s with reply := .posted req.code } t) ∧
  (∀ (s : State) (req : Req) (c : Clu), s.ready req (.scr c) = true → s.clusters[c].matRun = none →
    s.rd (.scr c) SCR.MAT_CELL_COUNT = 0 ∨
      61440 < s.rd (.scr c) SCR.MAT_CELL_BASE + s.rd (.scr c) SCR.MAT_CELL_COUNT →
    ∃ t, exec (.matCrc req c) s = .next t ∧ t.errorShown (.scr c) = s.errorAfter (.scr c) 0x21 ∧
      OnlyFields (errorFields (.scr c)) { s with reply := .posted req.code } t) ∧
  (∀ (s : State) (c : Clu) (base count : Nat) (cells : List Nat), s.devUp = true → s.ddrState = ddrActive →
    s.clusters[c].matRun = some (true, base, count) →
    s.matCells s.clusters[c].matSrc none 0 count = (cells, none) →
    ∃ t, exec (.matLoadEnd c none) s = .next t ∧ t.on (.scr c) SCR.MAT_STAT_DONE = true ∧
      t.on (.scr c) SCR.MAT_STAT_FAIL = false ∧ t.on (.scr c) HDR.PG_STAT_BUSY = false ∧ t.event (.scr c) 8 = true ∧
      t.rd (.scr c) SCR.MAT_CRC = crc32c (cellBytes cells) % 2 ^ 32 ∧
      OnlyFields [(.scr c, SCR.MAT_STAT_DONE, 0), (.scr c, SCR.MAT_STAT_FAIL, 0), (.scr c, HDR.PG_STAT_BUSY, 0),
        (.scr c, SCR.MAT_CRC, 0), (.scr c, HDR.PG_EVT_RAW, 0)]
          (({ s with ddr := { s.ddr with lastReq := s.dclk } } : State).modClu c fun (h : CluHw) => { h with
          matRun := none
          mat := (cells.zip (List.range cells.length)).foldl (fun m e => Regs.put m (base + e.2) 0 e.1) h.mat }) t) ∧
  (∀ (s : State) (c : Clu) (ue : Option (BitVec 16)) (base count nn : Nat) (cells : List Nat), s.devUp = true →
    s.ddrState = ddrActive → s.clusters[c].matRun = some (true, base, count) →
    s.matCells s.clusters[c].matSrc (ue.map BitVec.toNat) 0 count = (cells, some nn) →
    nn ≠ 0x23 ∨ s.spoolSize < s.clusters[c].matSrc + 16 * cells.length + 16 →
    ∃ t, exec (.matLoadEnd c ue) s = .next t ∧ t.on (.scr c) SCR.MAT_STAT_DONE = true ∧
      t.on (.scr c) SCR.MAT_STAT_FAIL = true ∧ t.rd (.scr c) SCR.MAT_STAT_CELL = (base + cells.length) % 2 ^ 16 ∧
      t.errorShown (.scr c) = s.errorAfter (.scr c) nn ∧ t.event (.scr c) 8 = true ∧
      OnlyFields ([(.scr c, SCR.MAT_STAT_DONE, 0), (.scr c, SCR.MAT_STAT_FAIL, 0), (.scr c, HDR.PG_STAT_BUSY, 0),
        (.scr c, SCR.MAT_STAT_CELL, 0)] ++ errorFields (.scr c))
          (({ s with ddr := { s.ddr with lastReq := s.dclk } } : State).modClu c fun (h : CluHw) => { h with
          matRun := none
          mat := (cells.zip (List.range cells.length)).foldl (fun m e => Regs.put m (base + e.2) 0 e.1) h.mat }) t) ∧
  (∀ (s : State) (c : Clu) (ue : Option (BitVec 16)) (base count : Nat) (cells : List Nat), s.devUp = true →
    s.ddrState = ddrActive → s.clusters[c].matRun = some (true, base, count) →
    s.matCells s.clusters[c].matSrc (ue.map BitVec.toNat) 0 count = (cells, some 0x23) →
    s.clusters[c].matSrc + 16 * cells.length + 16 ≤ s.spoolSize →
    ∃ t, exec (.matLoadEnd c ue) s = .next t ∧ t.on (.scr c) SCR.MAT_STAT_FAIL = true ∧
      t.rd (.scr c) SCR.MAT_STAT_CELL = (base + cells.length) % 2 ^ 16 ∧
      t.errorShown (.scr c) = s.errorAfter (.scr c) 0x23 ∧ t.errorShown .ddr = s.errorAfter .ddr 0x20 ∧ t.event .ddr 9 = true ∧
      t.ddr.mem = s.ddr.mem ∧ t.lanes = s.lanes ∧ OtherPages [.scr c, .ddr, .ddrs 0, .ddrs 1, .ddrs 2, .ddrs 3, .den] s t) ∧
  (∀ (s : State) (c : Clu) (base count : Nat), s.devUp = true → s.clusters[c].matRun = some (false, base, count) →
    ∃ t, exec (.matCrcEnd c) s = .next t ∧ t.on (.scr c) SCR.MAT_STAT_DONE = true ∧
      t.on (.scr c) SCR.MAT_STAT_FAIL = false ∧ t.event (.scr c) 9 = true ∧
      t.rd (.scr c) SCR.MAT_CRC = crc32c (cellBytes ((List.range count).map fun i => s.matCell c (base + i))) % 2 ^ 32 ∧
      OnlyFields [(.scr c, SCR.MAT_STAT_DONE, 0), (.scr c, SCR.MAT_STAT_FAIL, 0), (.scr c, HDR.PG_STAT_BUSY, 0),
        (.scr c, SCR.MAT_CRC, 0), (.scr c, HDR.PG_EVT_RAW, 0)] (s.modClu c fun h => { h with matRun := none }) t)

/-- R186, R319, R320, R327, R328, R329, R330, R331. Writes of TIME_SET and TIME_ADJ: the counter takes the value or moves by it,
the step tag advances, a running servo tracks anew, and an armed trigger that a forward change passes fires. The X32 error
is measured over 2^20 X32 ticks, not fewer. A trigger fires at its TIME and not before: the flag, the event, its ball, its
next TIME; it starts the next page that names it, or counts as early. Arming: late, on a trigger without a ball, and a
change while armed. Captures record their event or count it as lost. The model's own choices among these clauses are log
entry 99. -/
def Obligations.TimeCounterAndTriggers : Prop :=
  (∀ (s : State) (req : Req) (ns : BitVec 64), s.open_ req .tim = true → s.disarmed = true →
    ∃ t, exec (.timeSet req ns) s = .next t ∧ t.time = ns.toNat ∧ t.rd .tim TIM.SERVO_STAT_TAG = (s.tag + 1) % 16 ∧
      t.servo = (if s.servo = svFree then svFree else svTrack) ∧
      OnlyFields [(.tim, TIM.TIME, 0), (.tim, TIM.SERVO_STAT_TAG, 0), (.tim, TIM.SERVO_STAT_RUN, 0),
        (.tim, HDR.PG_STAT_STATE, 0), (.tim, HDR.PG_EVT_RAW, 0)]
        { s with
          reply := .posted req.code
          tim := { s.tim with frac := 0, ofsAt := if s.servo = svFree then s.tim.ofsAt else s.dclk } } t) ∧
  (∀ (s : State) (req : Req) (ns : BitVec 64), s.open_ req .tim = true → s.disarmed = true →
    ∃ t, exec (.timeAdj req ns) s = .next t ∧ t.time = (s.time + ns.toNat) % 2 ^ 64 ∧
      t.rd .tim TIM.SERVO_STAT_TAG = (s.tag + 1) % 16 ∧ t.servo = (if s.servo = svFree then svFree else svTrack) ∧
      OnlyFields [(.tim, TIM.TIME, 0), (.tim, TIM.SERVO_STAT_TAG, 0), (.tim, TIM.SERVO_STAT_RUN, 0),
        (.tim, HDR.PG_STAT_STATE, 0), (.tim, HDR.PG_EVT_RAW, 0)]
        { s with
          reply := .posted req.code
          tim := { s.tim with ofsAt := if s.servo = svFree then s.tim.ofsAt else s.dclk } } t) ∧
  (∀ (s : State) (req : Req) (ns : BitVec 64) (k : Fin 16), s.open_ req .tim = true → s.on .tim TIM.TRIG_CTRL_EN k.val = true →
    s.time < s.rd .tim TIM.TRIG_TIME k.val → s.rd .tim TIM.TRIG_TIME k.val < ns.toNat →
    ∃ t, exec (.timeSet req ns) s = .next t ∧ t.on .tim TIM.TRIG_STAT k.val = true ∧
      (t.rd .tim TIM.TRIG_FIRED).testBit k.val = true ∧ t.event .tim 8 = true ∧
      (if s.rd .tim TIM.TRIG_PERIOD k.val = 0 then t.on .tim TIM.TRIG_CTRL_EN k.val = false
        else t.on .tim TIM.TRIG_CTRL_EN k.val = true ∧ t.rd .tim TIM.TRIG_TIME k.val =
          (s.rd .tim TIM.TRIG_TIME k.val + ((ns.toNat - s.rd .tim TIM.TRIG_TIME k.val) / s.rd .tim TIM.TRIG_PERIOD k.val + 1) *
            s.rd .tim TIM.TRIG_PERIOD k.val) % 2 ^ 64)) ∧
  (∀ (s : State) (ppb : BitVec 31), s.tim.x32n < 2 ^ 20 → exec (.x32Measure ppb) s = .next s) ∧
  (∀ (s : State) (ppb : BitVec 31), s.devUp = true → 2 ^ 20 ≤ s.tim.x32n →
    ∃ t, exec (.x32Measure ppb) s = .next t ∧ t.rd .tim TIM.X32_PPB_PPB = ppb.toNat ∧ t.on .tim TIM.X32_PPB_VALID = true ∧
      OnlyFields [(.tim, TIM.X32_PPB_PPB, 0), (.tim, TIM.X32_PPB_VALID, 0)]
        { s with tim := { s.tim with x32n := s.tim.x32n - 2 ^ 20 } } t) ∧
  (∀ (s : State) (k : Fin 16), s.devUp = true → s.on .tim TIM.TRIG_CTRL_EN k.val = true →
    s.rd .tim TIM.TRIG_TIME k.val ≤ s.time → s.intake.pages = [] →
    ∃ t, exec (.triggerFire k) s = .next t ∧ (t.rd .tim TIM.TRIG_FIRED).testBit k.val = true ∧ t.event .tim 8 = true ∧
      t.on .tim TIM.TRIG_CTRL_EN k.val = (if s.rd .tim TIM.TRIG_PERIOD k.val = 0 then false else true) ∧
      t.rd .tim TIM.TRIG_TIME k.val = (if s.rd .tim TIM.TRIG_PERIOD k.val = 0 then s.rd .tim TIM.TRIG_TIME k.val
        else (s.rd .tim TIM.TRIG_TIME k.val + s.rd .tim TIM.TRIG_PERIOD k.val) % 2 ^ 64) ∧
      OnlyFields [(.tim, TIM.TRIG_FIRED, 0), (.tim, HDR.PG_EVT_RAW, 0), (.tim, TIM.TRIG_CTRL_EN, k.val),
        (.tim, TIM.TRIG_TIME, k.val)] { s with
          out := if k.val < 8 ∧ s.on .tim TIM.TRIG_CTRL_OUT_EN k.val = true ∧ s.shadow = false
            then s.out ++ [.trig k.val (!s.on .tim TIM.TRIG_CTRL_POL k.val) (s.rd .tim TIM.TRIG_WIDTH k.val)] else s.out } t) ∧
  (∀ (s : State) (k : Fin 16) (q : PageSt), s.devUp = true → s.on .tim TIM.TRIG_CTRL_EN k.val = true →
    s.rd .tim TIM.TRIG_TIME k.val ≤ s.time → s.pageActive = false → s.nextPage = some q → q.desc.mode = 1 →
    q.desc.trig = k.val → q.cancel = false →
    ∃ t, exec (.triggerFire k) s = .next t ∧ t.rd .lst LST.TRIG_EARLY = s.rd .lst LST.TRIG_EARLY ∧
      t.intake.pages = s.intake.pages.map fun p => if p.ord = q.ord then { p with go := true } else p) ∧
  (∀ (s : State) (k : Fin 16), s.devUp = true → s.on .tim TIM.TRIG_CTRL_EN k.val = true →
    s.rd .tim TIM.TRIG_TIME k.val ≤ s.time → s.namesTrig k.val = true → s.pageActive = true →
    ∃ t, exec (.triggerFire k) s = .next t ∧ t.intake = s.intake ∧ t.event .lst 15 = true ∧
      t.rd .lst LST.TRIG_EARLY = min (s.rd .lst LST.TRIG_EARLY + 1) (2 ^ 32 - 1)) ∧
  (∀ (s : State) (k : Fin 16), s.time < s.rd .tim TIM.TRIG_TIME k.val → exec (.triggerFire k) s = .next s) ∧
  (∀ (s : State) (req : Req) (k : Fin 16) (data : Word), s.open_ req .tim = true → s.on .tim TIM.TRIG_CTRL_EN k.val = false →
    bit data.toNat 1 = false ∨ k.val < 8 → s.judge .tim (0x210 + 32 * k.val) data.toNat = none →
    s.time ≤ s.rd .tim TIM.TRIG_TIME k.val ∨ bit data.toNat 0 = false →
    ∃ t, exec (.trigArm req k data) s = .next t ∧ t.on .tim TIM.TRIG_CTRL_EN k.val = bit data.toNat 0 ∧
      t.on .tim TIM.TRIG_CTRL_OUT_EN k.val = bit data.toNat 1 ∧ t.on .tim TIM.TRIG_CTRL_POL k.val = bit data.toNat 2 ∧
      OnlyFields [(.tim, TIM.TRIG_CTRL_EN, k.val), (.tim, TIM.TRIG_CTRL_OUT_EN, k.val), (.tim, TIM.TRIG_CTRL_POL, k.val)]
        { s with reply := .posted req.code } t) ∧
  (∀ (s : State) (req : Req) (k : Fin 16) (data : Word), s.open_ req .tim = true → s.on .tim TIM.TRIG_CTRL_EN k.val = false →
    bit data.toNat 1 = false ∨ k.val < 8 → s.judge .tim (0x210 + 32 * k.val) data.toNat = none →
    s.rd .tim TIM.TRIG_TIME k.val < s.time → bit data.toNat 0 = true →
    ∃ t, exec (.trigArm req k data) s = .next t ∧ t.on .tim TIM.TRIG_STAT k.val = true ∧
      t.errorShown .tim = s.errorAfter .tim 0x21 ∧ t.event .tim 15 = true ∧ t.event .tim 8 = true ∧
      (t.rd .tim TIM.TRIG_FIRED).testBit k.val = true ∧
      t.on .tim TIM.TRIG_CTRL_EN k.val = (s.rd .tim TIM.TRIG_PERIOD k.val != 0)) ∧
  (∀ (s : State) (req : Req) (k : Fin 16) (data : Word), s.open_ req .tim = true → s.on .tim TIM.TRIG_CTRL_EN k.val = true →
    bits data.toNat 2 1 ≠ s.rd .tim TIM.TRIG_CTRL_OUT_EN k.val + 2 * s.rd .tim TIM.TRIG_CTRL_POL k.val →
    bit data.toNat 1 = false ∨ k.val < 8 →
    ∃ t, exec (.trigArm req k data) s = .next t ∧ t.errorShown .tim = s.errorAfter .tim 0x20 ∧
      OnlyFields (errorFields .tim) { s with reply := .posted req.code } t) ∧
  (∀ (s : State) (req : Req) (k : Fin 16) (data : Word), s.open_ req .tim = true → 8 ≤ k.val → bit data.toNat 1 = true →
    ∃ t, exec (.trigArm req k data) s = .next t ∧ t.errorShown .tim = s.errorAfter .tim 0x03 ∧
      OnlyFields (errorFields .tim) { s with reply := .posted req.code } t) ∧
  (∀ (s : State) (k : Fin 16), s.devUp = true → s.on .tim TIM.CAP_CFG_EN k.val = true → s.on .tim TIM.CAP_STAT k.val = false →
    ∃ t, exec (.captureEvent k) s = .next t ∧ t.on .tim TIM.CAP_STAT k.val = true ∧ t.event .tim 9 = true ∧
      (t.rd .tim TIM.CAP_VALID).testBit k.val = true ∧
      t.rd .tim TIM.CAP_TIME k.val = s.captureTime k.val % 2 ^ 64 ∧
      t.rd .tim TIM.CAP_WL_WL k.val = s.rd .pace PACE.WL % 2 ^ 48 ∧ t.rd .tim TIM.CAP_WL_TAG k.val = s.tag % 16 ∧
      OnlyFields [(.tim, TIM.CAP_STAT, k.val), (.tim, TIM.CAP_TIME, k.val), (.tim, TIM.CAP_WL_WL, k.val),
        (.tim, TIM.CAP_WL_TAG, k.val), (.tim, TIM.CAP_VALID, 0), (.tim, HDR.PG_EVT_RAW, 0)] s t) ∧
  (∀ (s : State) (k : Fin 16), s.devUp = true → s.on .tim TIM.CAP_CFG_EN k.val = true → s.on .tim TIM.CAP_STAT k.val = true →
    ∃ t, exec (.captureEvent k) s = .next t ∧
      t.rd .tim TIM.CAP_LOST k.val = min (s.rd .tim TIM.CAP_LOST k.val + 1) (2 ^ 32 - 1) ∧
      OnlyFields [(.tim, TIM.CAP_LOST, k.val)] s t)

/-- R325, R326, R332. The servo: an offset is discarded with a stale tag, steps the counter in STEP, runs the PI update in TRACK
and LOCKED, locks after LOCK_N small offsets and leaves LOCKED on a large one; EN and REARM restart it; HOLDOVER. The
model's own choices among these clauses are log entry 26. -/
def Obligations.Servo : Prop :=
  (∀ (s : State) (req : Req) (ns : BitVec 48) (tag : BitVec 4), s.open_ req .tim = true → s.on .tim TIM.SERVO_CTRL_EN = false →
    exec (.offsetWrite req ns tag) s = .next { s with reply := .posted req.code }) ∧
  (∀ (s : State) (req : Req) (ns : BitVec 48) (tag : BitVec 4), s.open_ req .tim = true → s.on .tim TIM.SERVO_CTRL_EN = true →
    tag.toNat ≠ s.tag →
    ∃ t, exec (.offsetWrite req ns tag) s = .next t ∧
      t.rd .tim TIM.DISCARD_CNT = min (s.rd .tim TIM.DISCARD_CNT + 1) (2 ^ 32 - 1) ∧
      OnlyFields [(.tim, TIM.DISCARD_CNT, 0)] { s with reply := .posted req.code } t) ∧
  (∀ (s : State) (req : Req) (ns : BitVec 48) (tag : BitVec 4), s.open_ req .tim = true → s.on .tim TIM.SERVO_CTRL_EN = true →
    tag.toNat = s.tag → s.servo = svStep → s.rd .tim TIM.STEP_LIMIT < (signed 48 ns.toNat).natAbs → s.disarmed = true →
    ∃ t, exec (.offsetWrite req ns tag) s = .next t ∧
      t.time = unsigned 64 ((s.time : Int) - signed 48 ns.toNat) ∧ t.rd .tim TIM.SERVO_STAT_TAG = (s.tag + 1) % 16 ∧
      t.rd .tim TIM.STEP_CNT = min (s.rd .tim TIM.STEP_CNT + 1) (2 ^ 32 - 1) ∧ t.event .tim 12 = true ∧ t.servo = svTrack ∧
      OnlyFields ([(.tim, TIM.TIME, 0), (.tim, TIM.SERVO_STAT_TAG, 0), (.tim, TIM.STEP_CNT, 0)] ++ servoFields)
        { s with reply := .posted req.code, tim := { s.tim with ofsAt := s.dclk } } t) ∧
  (∀ (s : State) (req : Req) (ns : BitVec 48) (tag : BitVec 4), s.open_ req .tim = true → s.on .tim TIM.SERVO_CTRL_EN = true →
    tag.toNat = s.tag → s.servo = svStep → (signed 48 ns.toNat).natAbs ≤ s.rd .tim TIM.STEP_LIMIT →
    s.rd .tim TIM.FMAX < 2 ^ 20 →
    ∃ t, exec (.offsetWrite req ns tag) s = .next t ∧ t.servo = svTrack ∧ t.rd .tim TIM.LAST_OFS = ns.toNat ∧
      t.rdS .tim TIM.INTEG = (s.servoAfter (signed 48 ns.toNat)).1 ∧
      t.rdS .tim TIM.FREQ = (s.servoAfter (signed 48 ns.toNat)).2 ∧
      OnlyFields servoFields { s with reply := .posted req.code, tim := { s.tim with ofsAt := s.dclk } } t) ∧
  (∀ (s : State) (req : Req) (ns : BitVec 48) (tag : BitVec 4), s.open_ req .tim = true → s.on .tim TIM.SERVO_CTRL_EN = true →
    tag.toNat = s.tag → s.servo = svTrack → (signed 48 ns.toNat).natAbs ≤ s.rd .tim TIM.STEP_LIMIT →
    (signed 48 ns.toNat).natAbs ≤ s.rd .tim TIM.LOCK_WIN_LOCK_WINDOW → s.rd .tim TIM.FMAX < 2 ^ 20 →
    ∃ t, exec (.offsetWrite req ns tag) s = .next t ∧
      t.rdS .tim TIM.INTEG = (s.servoAfter (signed 48 ns.toNat)).1 ∧
      t.rdS .tim TIM.FREQ = (s.servoAfter (signed 48 ns.toNat)).2 ∧
      t.rd .tim TIM.SERVO_STAT_RUN = min (s.rd .tim TIM.SERVO_STAT_RUN + 1) 15 ∧
      (if s.rd .tim TIM.SERVO_CTRL_LOCK_N ≤ min (s.rd .tim TIM.SERVO_STAT_RUN + 1) 15
        then t.servo = svLocked ∧ t.event .tim 10 = true ∧
          t.rd .tim TIM.LOCK_CNT = min (s.rd .tim TIM.LOCK_CNT + 1) (2 ^ 32 - 1)
        else t.servo = svTrack) ∧
      OnlyFields ((.tim, TIM.LOCK_CNT, 0) :: servoFields)
        { s with reply := .posted req.code, tim := { s.tim with ofsAt := s.dclk } } t) ∧
  (∀ (s : State) (req : Req) (ns : BitVec 48) (tag : BitVec 4), s.open_ req .tim = true → s.on .tim TIM.SERVO_CTRL_EN = true →
    tag.toNat = s.tag → s.servo = svLocked → (signed 48 ns.toNat).natAbs ≤ s.rd .tim TIM.STEP_LIMIT →
    s.rd .tim TIM.LOCK_WIN_UNLOCK_WINDOW < (signed 48 ns.toNat).natAbs →
    ∃ t, exec (.offsetWrite req ns tag) s = .next t ∧ t.servo = svTrack ∧ t.event .tim 11 = true ∧
      t.rd .tim TIM.SERVO_STAT_RUN = 0 ∧
      OnlyFields servoFields { s with reply := .posted req.code, tim := { s.tim with ofsAt := s.dclk } } t) ∧
  (∀ (s : State) (req : Req) (ns : BitVec 48) (tag : BitVec 4), s.open_ req .tim = true → s.on .tim TIM.SERVO_CTRL_EN = true →
    tag.toNat = s.tag → s.servo = svTrack ∨ s.servo = svLocked ∨ s.servo = svHold →
    s.rd .tim TIM.STEP_LIMIT < (signed 48 ns.toNat).natAbs →
    ∃ t, exec (.offsetWrite req ns tag) s = .next t ∧ t.servo = svTrack ∧ t.event .tim 13 = true ∧
      t.rd .tim TIM.BIG_CNT = min (s.rd .tim TIM.BIG_CNT + 1) (2 ^ 32 - 1) ∧ t.time = s.time ∧
      OnlyFields ((.tim, TIM.BIG_CNT, 0) :: servoFields)
        { s with reply := .posted req.code, tim := { s.tim with ofsAt := s.dclk } } t) ∧
  (∀ (s : State) (req : Req) (data : Word), s.open_ req .tim = true → s.judge .tim 0x68 data.toNat = none →
    s.on .tim TIM.SERVO_CTRL_EN = false → bit data.toNat 0 = true →
    ∃ t, exec (.servoEnWrite req data) s = .next t ∧ t.on .tim TIM.SERVO_CTRL_EN = true ∧ t.servo = svStep ∧
      t.rd .tim TIM.INTEG = s.rd .tim TIM.FREQ % 2 ^ 32 ∧
      OnlyFields [(.tim, TIM.SERVO_CTRL_EN, 0), (.tim, TIM.SERVO_CTRL_LOCK_N, 0), (.tim, TIM.SERVO_CTRL_HOLD_MS, 0),
        (.tim, TIM.INTEG, 0), (.tim, HDR.PG_STAT_STATE, 0), (.tim, HDR.PG_EVT_RAW, 0)] { s with reply := .posted req.code } t) ∧
  (∀ (s : State) (req : Req) (data : Word), s.open_ req .tim = true → s.judge .tim 0x68 data.toNat = none →
    s.on .tim TIM.SERVO_CTRL_EN = true → bit data.toNat 0 = false →
    ∃ t, exec (.servoEnWrite req data) s = .next t ∧ t.on .tim TIM.SERVO_CTRL_EN = false ∧ t.servo = svFree ∧
      t.rd .tim TIM.FREQ = s.rd .tim TIM.FREQ ∧
      OnlyFields [(.tim, TIM.SERVO_CTRL_EN, 0), (.tim, TIM.SERVO_CTRL_LOCK_N, 0), (.tim, TIM.SERVO_CTRL_HOLD_MS, 0),
        (.tim, HDR.PG_STAT_STATE, 0), (.tim, HDR.PG_EVT_RAW, 0)] { s with reply := .posted req.code } t) ∧
  (∀ (s : State) (req : Req) (data : Word), s.open_ req .tim = true → s.judge .tim 0x68 (data.toNat ||| 2) = none →
    s.on .tim TIM.SERVO_CTRL_EN = true → bit data.toNat 0 = true → s.servo ≠ svFree →
    ∃ t, exec (.servoRearm req data) s = .next t ∧ t.servo = svStep ∧
      OnlyFields [(.tim, TIM.SERVO_CTRL_EN, 0), (.tim, TIM.SERVO_CTRL_LOCK_N, 0), (.tim, TIM.SERVO_CTRL_HOLD_MS, 0),
        (.tim, HDR.PG_STAT_STATE, 0), (.tim, HDR.PG_EVT_RAW, 0)] { s with reply := .posted req.code } t) ∧
  (∀ s : State, s.dclk < s.tim.ofsAt + 500000 * s.rd .tim TIM.SERVO_CTRL_HOLD_MS → exec .servoHoldover s = .next s) ∧
  (∀ s : State, s.devUp = true → s.servo = svTrack ∨ s.servo = svLocked →
    s.tim.ofsAt + 500000 * s.rd .tim TIM.SERVO_CTRL_HOLD_MS ≤ s.dclk → s.rd .tim TIM.FMAX < 2 ^ 20 →
    ∃ t, exec .servoHoldover s = .next t ∧ t.servo = svHold ∧ t.event .tim 14 = true ∧
      (s.servo = svLocked → t.event .tim 11 = true) ∧
      t.rdS .tim TIM.FREQ = max (-((256 * s.rd .tim TIM.FMAX : Nat) : Int))
        (min ((256 * s.rd .tim TIM.FMAX : Nat) : Int) (s.rdS .tim TIM.INTEG)) ∧
      OnlyFields [(.tim, TIM.FREQ, 0), (.tim, TIM.INC, 0), (.tim, HDR.PG_STAT_STATE, 0), (.tim, HDR.PG_EVT_RAW, 0)] s t)

/-- R322, R323, R324, R333. The Ethernet ports: the transmit ring's head frame goes out or completes with DESC_BAD; a received
frame is stored in the next receive descriptor, dropped without one, and ignored where it is not for the port; the link. The
model's own choices among these clauses are log entry 97. -/
def Obligations.Ethernet : Prop :=
  (∀ (s : State) (req : Req) (p : Fin 2) (v : Word), s.open_ req (.eth p) = true → s.judge (.eth p) 0x7C v.toNat = none →
    v.toNat % 4096 < 2 ^ s.rd (.eth p) ETH.TXR_SIZE →
    ∃ t, exec (.ethTxTail req p v) s = .next t ∧ t.rd (.eth p) ETH.TXR_TAIL = v.toNat % 4096 ∧
      OnlyFields [(.eth p, ETH.TXR_TAIL, 0)] { s with reply := .posted req.code } t) ∧
  (∀ (s : State) (req : Req) (p : Fin 2) (v : Word), s.open_ req (.eth p) = true → s.judge (.eth p) 0x7C v.toNat = none →
    2 ^ s.rd (.eth p) ETH.TXR_SIZE ≤ v.toNat % 4096 →
    ∃ t, exec (.ethTxTail req p v) s = .next t ∧ t.errorShown (.eth p) = s.errorAfter (.eth p) 0x20 ∧
      OnlyFields (errorFields (.eth p)) { s with reply := .posted req.code } t) ∧
  (∀ (s : State) (p : Fin 2) (x : Nat) (d : List Nat) (len off csum : Nat), s.devUp = true →
    s.on (.eth p) HDR.PG_CTRL_EN = true → s.rd (.eth p) HDR.PG_STAT_STATE = 2 →
    s.rd (.eth p) ETH.TXR_HEAD ≠ s.rd (.eth p) ETH.TXR_TAIL % 2 ^ s.rd (.eth p) ETH.TXR_SIZE →
    s.ddrState = ddrActive → s.ddr.poison = [] → x = s.rd (.eth p) ETH.TXR_BASE + 32 * s.rd (.eth p) ETH.TXR_HEAD →
    d = s.spoolBytes x 32 → len = ofBytes ((d.drop 8).take 2) → off = ofBytes ((d.drop 12).take 2) →
    csum = ofBytes ((d.drop 14).take 2) →
    bit (d.getD 10 0) 1 = false ∨ (bit (d.getD 10 0) 0 = true ∧ off + 10 ≤ len ∧ (csum = 0 ∨ csum + 2 ≤ len)) →
    ∃ t, exec (.ethTxDone p) s = .next t ∧
      t.out = s.out ++ [.ethTx p.val
        (if bit (d.getD 10 0) 1 then
          oneStep (s.spoolBytes (ofBytes (d.take 8)) len) off csum (psAfter s.time (s.rd (.eth p) ETH.TX_LAT))
        else s.spoolBytes (ofBytes (d.take 8)) len)] ∧
      (x + 32 ≤ s.spoolSize → bit ((t.spoolBytes (x + 10) 1).getD 0 0) 2 = true ∧
        (bit (d.getD 10 0) 0 = true →
          t.spoolBytes (x + 16) 8 = bytesOf 8 (psAfter s.time (s.rd (.eth p) ETH.TX_LAT)))) ∧
      t.rd (.eth p) ETH.TXR_HEAD = (s.rd (.eth p) ETH.TXR_HEAD + 1) % 2 ^ s.rd (.eth p) ETH.TXR_SIZE % 2 ^ 12 ∧
      t.rd (.eth p) ETH.TX_FRAMES = min (s.rd (.eth p) ETH.TX_FRAMES + 1) (2 ^ 32 - 1) ∧ t.event (.eth p) 11 = true ∧
      (∀ a, a < x ∨ x + 32 ≤ a → Memory.read t.ddr.mem a = Memory.read s.ddr.mem a) ∧
      OnlyFields [(.eth p, ETH.TXR_HEAD, 0), (.eth p, ETH.TX_FRAMES, 0), (.eth p, HDR.PG_EVT_RAW, 0)]
        { s with
          out := t.out
          ddr := { s.ddr with mem := t.ddr.mem, writeBack := t.ddr.writeBack, lastReq := s.dclk } } t) ∧
  (∀ (s : State) (p : Fin 2) (x : Nat) (d : List Nat) (len off csum : Nat), s.devUp = true →
    s.on (.eth p) HDR.PG_CTRL_EN = true → s.rd (.eth p) HDR.PG_STAT_STATE = 2 →
    s.rd (.eth p) ETH.TXR_HEAD ≠ s.rd (.eth p) ETH.TXR_TAIL % 2 ^ s.rd (.eth p) ETH.TXR_SIZE →
    s.ddrState = ddrActive → s.ddr.poison = [] → x = s.rd (.eth p) ETH.TXR_BASE + 32 * s.rd (.eth p) ETH.TXR_HEAD →
    d = s.spoolBytes x 32 → len = ofBytes ((d.drop 8).take 2) → off = ofBytes ((d.drop 12).take 2) →
    csum = ofBytes ((d.drop 14).take 2) → bit (d.getD 10 0) 1 = true →
    bit (d.getD 10 0) 0 = false ∨ len < off + 10 ∨ (csum ≠ 0 ∧ len < csum + 2) →
    ∃ t, exec (.ethTxDone p) s = .next t ∧ t.out = s.out ∧ t.errorShown (.eth p) = s.errorAfter (.eth p) 0x21 ∧
      t.rd (.eth p) ETH.TXR_HEAD = (s.rd (.eth p) ETH.TXR_HEAD + 1) % 2 ^ s.rd (.eth p) ETH.TXR_SIZE % 2 ^ 12 ∧
      t.event (.eth p) 11 = true ∧ (∀ a, a < x ∨ x + 32 ≤ a → Memory.read t.ddr.mem a = Memory.read s.ddr.mem a) ∧
      OnlyFields ((.eth p, ETH.TXR_HEAD, 0) :: errorFields (.eth p))
        { s with ddr := { s.ddr with mem := t.ddr.mem, writeBack := t.ddr.writeBack, lastReq := s.dclk } } t) ∧
  (∀ (s : State) (p : Fin 2), s.rd (.eth p) ETH.TXR_HEAD = s.rd (.eth p) ETH.TXR_TAIL % 2 ^ s.rd (.eth p) ETH.TXR_SIZE →
    exec (.ethTxDone p) s = .next s) ∧
  (∀ (s : State) (p : Fin 2) (bytes : List Byte) (bad : Bool) (x a : Nat), s.devUp = true →
    s.on (.eth p) HDR.PG_CTRL_EN = true → s.rd (.eth p) HDR.PG_STAT_STATE = 2 → s.on (.eth p) ETH.CFG_PROMISC = true →
    60 ≤ bytes.length → bytes.length ≤ 2044 →
    s.rd (.eth p) ETH.RXR_HEAD ≠ s.rd (.eth p) ETH.RXR_TAIL % 2 ^ s.rd (.eth p) ETH.RXR_SIZE → s.ddrState = ddrActive →
    s.ddr.poison = [] → x = s.rd (.eth p) ETH.RXR_BASE + 32 * s.rd (.eth p) ETH.RXR_HEAD → a = ofBytes (s.spoolBytes x 8) →
    bytes.length ≤ ofBytes (s.spoolBytes (x + 8) 2) → a + bytes.length ≤ s.spoolSize → x + 32 ≤ s.spoolSize →
    a + bytes.length ≤ x ∨ x + 32 ≤ a →
    ∃ t, exec (.ethRxFrame p bytes bad) s = .next t ∧ Memory.readAll t.ddr.mem a bytes.length = bytes ∧
      t.spoolBytes (x + 8) 4 = bytesOf 2 bytes.length ++ [4 + 8 * bad.toNat, s.tag] ∧
      t.spoolBytes (x + 16) 8 = bytesOf 8 (psBefore s.time (s.rd (.eth p) ETH.RX_LAT)) ∧
      (∀ y, (y < a ∨ a + bytes.length ≤ y) → (y < x ∨ x + 32 ≤ y) → Memory.read t.ddr.mem y = Memory.read s.ddr.mem y) ∧
      t.rd (.eth p) ETH.RXR_HEAD = (s.rd (.eth p) ETH.RXR_HEAD + 1) % 2 ^ s.rd (.eth p) ETH.RXR_SIZE % 2 ^ 12 ∧
      t.rd (.eth p) ETH.RX_FRAMES = min (s.rd (.eth p) ETH.RX_FRAMES + 1) (2 ^ 32 - 1) ∧
      (bad = true → t.rd (.eth p) ETH.RX_FCS = min (s.rd (.eth p) ETH.RX_FCS + 1) (2 ^ 32 - 1)) ∧
      t.event (.eth p) 10 = true ∧
      OnlyFields [(.eth p, ETH.RXR_HEAD, 0), (.eth p, ETH.RX_FRAMES, 0), (.eth p, ETH.RX_FCS, 0), (.eth p, HDR.PG_EVT_RAW, 0)]
        { s with ddr := { s.ddr with mem := t.ddr.mem, writeBack := t.ddr.writeBack, lastReq := s.dclk } } t) ∧
  (∀ (s : State) (p : Fin 2) (bytes : List Byte), s.devUp = true →
    s.on (.eth p) HDR.PG_CTRL_EN = true → s.rd (.eth p) HDR.PG_STAT_STATE = 2 →
    ethGroups.contains ((bytes.map fun b => b.toNat).take 6) = true → 60 ≤ bytes.length → bytes.length ≤ 2044 →
    s.rd (.eth p) ETH.RXR_HEAD = s.rd (.eth p) ETH.RXR_TAIL % 2 ^ s.rd (.eth p) ETH.RXR_SIZE ∨ s.ddrState ≠ ddrActive →
    ∃ t, exec (.ethRxFrame p bytes false) s = .next t ∧
      t.rd (.eth p) ETH.RX_FRAMES = min (s.rd (.eth p) ETH.RX_FRAMES + 1) (2 ^ 32 - 1) ∧
      t.rd (.eth p) ETH.RX_DROP = min (s.rd (.eth p) ETH.RX_DROP + 1) (2 ^ 32 - 1) ∧
      OnlyFields [(.eth p, ETH.RX_FRAMES, 0), (.eth p, ETH.RX_DROP, 0)] s t) ∧
  (∀ (s : State) (p : Fin 2) (bytes : List Byte) (bad : Bool), s.on (.eth p) ETH.CFG_PROMISC = false →
    (bytes.map fun b => b.toNat).take 6 ≠ bytesBe 6 (s.rd (.eth p) ETH.MAC) →
    ethGroups.contains ((bytes.map fun b => b.toNat).take 6) = false →
    exec (.ethRxFrame p bytes bad) s = .next s) ∧
  (∀ (s : State) (p : Fin 2), s.devUp = true → s.on (.eth p) HDR.PG_CTRL_EN = true → s.rd (.eth p) HDR.PG_STAT_STATE ≠ 2 →
    ∃ t, exec (.ethLinkUp p) s = .next t ∧ t.rd (.eth p) HDR.PG_STAT_STATE = 2 ∧ t.event (.eth p) 8 = true ∧
      t.event (.eth p) 6 = true ∧ OnlyFields [(.eth p, HDR.PG_STAT_STATE, 0), (.eth p, HDR.PG_EVT_RAW, 0)] s t) ∧
  (∀ (s : State) (p : Fin 2), s.rd (.eth p) HDR.PG_STAT_STATE = 2 → exec (.ethLinkUp p) s = .next s) ∧
  (∀ (s : State) (p : Fin 2), s.rd (.eth p) HDR.PG_STAT_STATE ≠ 2 → exec (.ethLinkDown p) s = .next s) ∧
  (∀ (s : State) (p : Fin 2), s.devUp = true → s.rd (.eth p) HDR.PG_STAT_STATE = 2 →
    ∃ t, exec (.ethLinkDown p) s = .next t ∧ t.event (.eth p) 9 = true ∧
      t.rd (.eth p) HDR.PG_STAT_STATE = (if s.on (.eth p) ETH.CFG_SPEED = true ∧ s.on (.eth p) ETH.CFG_AN_EN = true ∧
        s.on (.eth p) HDR.PG_CTRL_EN = true then 1 else 0) ∧
      OnlyFields [(.eth p, HDR.PG_STAT_STATE, 0), (.eth p, HDR.PG_EVT_RAW, 0)] s t)

/-- R357, R360, R362, R363, R364. A START begins the test named by REQ and MASK, or is refused by the first rule it breaks;
ABORT and a supply sample out of range abort a test that runs; a test that ends leaves its results, its failing rows counted
and, with SOFT_REPAIR, repaired as far as spares reach. The model's own choices among these clauses are log entries 28, 81. -/
def Obligations.SelfTests : Prop :=
  (∀ (s : State) (req : Req), s.ready req .bst = true → s.rd .bst BST.REQ < 6 → s.rd .bst HDR.PG_STAT_STATE = 0 →
    (testInsts (s.rd .bst BST.REQ) (s.rd .bst BST.MASK)).all (s.testReady (s.rd .bst BST.REQ)) = true →
    s.envBad (s.rd .bst BST.REQ) (s.rd .bst BST.MASK) = false → s.cal.runs = [] →
    ∃ t, exec (.bistStart req) s = .next t ∧
      ((testInsts (s.rd .bst BST.REQ) (s.rd .bst BST.MASK)).flatMap (s.testLanes (s.rd .bst BST.REQ))).all
        (fun l => t.lanes[l].st == .test) = true ∧
      t.bist.pages = s.bist.pages ++
        (testInsts (s.rd .bst BST.REQ) (s.rd .bst BST.MASK)).flatMap (testPages (s.rd .bst BST.REQ)) ∧
      t.rd .bst HDR.PG_STAT_STATE = 1 ∧
      t.rd .bst BST.EXP_CYC = s.testCycles (s.rd .bst BST.REQ) % 2 ^ 32 ∧
      (t.bist.run.map fun r => (r.target, r.insts)) =
        some (s.rd .bst BST.REQ, testInsts (s.rd .bst BST.REQ) (s.rd .bst BST.MASK))) ∧
  (∀ (s : State) (req : Req), s.ready req .bst = true → s.rd .bst BST.REQ = 4 → s.rd .bst HDR.PG_STAT_STATE = 0 →
    s.rd .lst HDR.PG_STAT_STATE = 0 → s.envBad 4 (s.rd .bst BST.MASK) = false →
    ∃ t, exec (.bistStart req) s = .next t ∧ t.rd .bst HDR.PG_STAT_STATE = 1 ∧ t.rd .bst BST.EXP_CYC = 409664 ∧
      t.inTest .lst = true ∧ t.rd .bst BST.RES_STAT_DONE 72 = 0 ∧ t.rd .bst BST.RES_STAT_VALID 72 = 0 ∧
      t.bist = { s.bist with
        pages := s.bist.pages ++ [.lst], run := some { target := 4, insts := [0], lanes := [], at_ := s.dclk }
        imgAt := s.dclk } ∧
      OtherPages [.bst] s t ∧ OtherLanes [] s t ∧ t.intake = s.intake ∧ t.ddr = s.ddr) ∧
  (∀ (s : State) (req : Req), s.ready req .bst = true → 6 ≤ s.rd .bst BST.REQ →
    ∃ t, exec (.bistStart req) s = .next t ∧ t.errorShown .bst = s.errorAfter .bst 0x03 ∧
      OnlyFields (errorFields .bst) { s with reply := .posted req.code } t) ∧
  (∀ (s : State) (req : Req) (i : Nat), s.ready req .bst = true → s.rd .bst BST.REQ < 6 → s.rd .bst HDR.PG_STAT_STATE = 0 →
    (testInsts (s.rd .bst BST.REQ) (s.rd .bst BST.MASK)).find? (fun k => !s.testReady (s.rd .bst BST.REQ) k) = some i →
    ∃ t, exec (.bistStart req) s = .next t ∧ t.errorShown .bst = s.errorAfter .bst 0x20 ∧
      (s.errorShown .bst = none → t.rd .bst HDR.PG_ERR_INFO = i % 2 ^ 32) ∧
      OnlyFields (errorFields .bst) { s with reply := .posted req.code } t) ∧
  (∀ (s : State) (req : Req), s.ready req .bst = true → s.rd .bst BST.REQ < 6 → s.rd .bst HDR.PG_STAT_STATE ≠ 0 →
    ∃ t, exec (.bistStart req) s = .next t ∧ t.errorShown .bst = s.errorAfter .bst 0x21 ∧
      OnlyFields (errorFields .bst) { s with reply := .posted req.code } t) ∧
  (∀ (s : State) (req : Req), s.ready req .bst = true → s.rd .bst BST.REQ < 6 → s.rd .bst HDR.PG_STAT_STATE = 0 →
    (testInsts (s.rd .bst BST.REQ) (s.rd .bst BST.MASK)).all (s.testReady (s.rd .bst BST.REQ)) = true →
    s.envBad (s.rd .bst BST.REQ) (s.rd .bst BST.MASK) = true →
    ∃ t, exec (.bistStart req) s = .next t ∧ t.errorShown .bst = s.errorAfter .bst 0x22 ∧
      OnlyFields (errorFields .bst) { s with reply := .posted req.code } t) ∧
  (∀ (s : State) (req : Req) (r : BistRun), s.ready req .bst = true → s.bist.run = some r → r.target = 4 → r.insts = [0] →
    ∃ t, exec (.bistAbort req) s = .next t ∧ t.bist.run = none ∧ t.rd .bst HDR.PG_STAT_STATE = 0 ∧
      t.errorShown .bst = s.errorAfter .bst 0x23 ∧ t.event .bst 9 = true ∧ t.event .bst 8 = true ∧
      t.rd .bst BST.RES_STAT_ABORTED 72 = 1 ∧ t.rd .bst BST.RES_STAT_ABORT_WHY 72 = 1 ∧ t.inTest .lst = false ∧
      t.intake.bandBuf = []) ∧
  (∀ (s : State) (req : Req), s.ready req .bst = true → s.bist.run = none →
    exec (.bistAbort req) s = .next { s with reply := .posted req.code }) ∧
  (∀ (s : State) (r : BistRun) (x : BistResult), s.devUp = true → s.bist.run = some r → r.target = 4 → r.insts = [0] →
    r.at_ + x.cycles.toNat ≤ s.dclk → x.fails = [] →
    ∃ t, exec (.bistDone [x]) s = .next t ∧ t.bist.run = none ∧ t.rd .bst HDR.PG_STAT_STATE = 0 ∧
      t.event .bst 8 = true ∧ t.rd .bst BST.RES_STAT_DONE 72 = 1 ∧ t.rd .bst BST.RES_STAT_VALID 72 = 1 ∧
      t.on .bst BST.RES_STAT_PASS 72 = (x.cycles.toNat == s.rd .bst BST.EXP_CYC) ∧
      t.rd .bst BST.RES_CYCLES 72 = x.cycles.toNat ∧ t.rd .bst BST.RES_STAT_FAILS 72 = 0 ∧ t.inTest .lst = false ∧
      t.bist.soft = s.bist.soft) ∧
  (∀ (s : State) (r : BistRun) (x : BistResult) (fs : List (Nat × Nat)) (rep : List Repair), s.devUp = true →
    s.bist.run = some r → r.target = 4 → r.insts = [0] → r.at_ + x.cycles.toNat ≤ s.dclk →
    s.on .bst BST.CTRL_SOFT_REPAIR = true →
    fs = ((x.fails.map fun f => (f.1.toNat, f.2.toNat)).eraseDups).filter (fun f => decide (1280 ≤ f.1 ∧ f.1 < 1600)) →
    rep = repairsOf (s.fused ++ s.bist.soft.map (·.2)) fs →
    ∃ t, exec (.bistDone [x]) s = .next t ∧ t.bist.soft = s.bist.soft ++ rep.map (fun r => (72, r)) ∧
      t.rd .bst BST.RES_STAT_FAILS 72 = min 255 fs.length ∧
      (rep.length < 256 → t.rd .bst BST.RES_STAT_REPAIRED 72 = rep.length) ∧
      t.on .bst BST.RES_STAT_UNREPAIRABLE 72 = decide (rep.length < fs.length) ∧
      t.on .bst BST.RES_STAT_PASS 72 = (x.cycles.toNat == s.rd .bst BST.EXP_CYC && fs.length == rep.length)) ∧
  (∀ (s : State) (r : BistRun) (x : BistResult), s.bist.run = some r → s.dclk < r.at_ + x.cycles.toNat →
    exec (.bistDone [x]) s = .next s) ∧
  (∀ (s : State) (l : Lane) (r : BistRun) (x : BistResult), s.devUp = true → s.bist.run = some r → r.target = 0 →
    r.insts = [l.val] → r.lanes = [l.val] → r.at_ + x.cycles.toNat ≤ s.dclk → s.lanes[l].st = .test → s.linkUp l = true → s.on .bst BST.CTRL_TABLE_RESTORE = false →
    s.intake.pages = [] → s.cal.runs = [] →
    ∃ t, exec (.bistDone [x]) s = .next t ∧ t.lanes[l].st = .idle ∧ t.bist.run = none ∧
      t.rd .bst BST.RES_STAT_DONE l.val = 1 ∧ t.rd .bst BST.RES_CYCLES l.val = x.cycles.toNat ∧
      t.rd (.seq l) SEQ.TEMP_READING = s.rd (.seq l) SEQ.TEMP_READING % 2 ^ SEQ.TEMP_READING.width) ∧
  (∀ (s : State) (mv : BitVec 12), s.devUp = true → s.bist.sampleAt ≤ s.dclk →
    s.bist.run = none ∨ (735 ≤ mv.toNat ∧ mv.toNat ≤ 765) →
    ∃ t, exec (.vcoreSample mv) s = .next t ∧ t.rd .bst BST.VCORE = mv.toNat ∧
      OnlyFields [(.bst, BST.VCORE, 0)] { s with bist := { s.bist with sampleAt := s.dclk + 500 } } t) ∧
  (∀ (s : State) (mv : BitVec 12), s.dclk < s.bist.sampleAt → exec (.vcoreSample mv) s = .next s) ∧
  (∀ (s : State) (mv : BitVec 12) (r : BistRun), s.devUp = true → s.bist.sampleAt ≤ s.dclk → s.bist.run = some r → r.target = 4 → r.insts = [0] →
    mv.toNat < 735 ∨ 765 < mv.toNat →
    ∃ t, exec (.vcoreSample mv) s = .next t ∧ t.bist.run = none ∧ t.rd .bst BST.RES_STAT_ABORTED 72 = 1 ∧
      t.rd .bst BST.RES_STAT_ABORT_WHY 72 = 3 ∧ t.errorShown .bst = s.errorAfter .bst 0x23)

/-- R365, R366, R367. A table image is saved; a burn blows the repairs of a slot one fuse entry at a time, is refused by the
first rule it breaks, and stops as FSRC falls. The model's own choices among these clauses are log entries 28, 67. -/
def Obligations.ImagesAndFuses : Prop :=
  (∀ (s : State) (req : Req) (l : Lane), s.ready req .bst = true → s.lanes[l].st ≠ .test → s.rd .bst HDR.PG_STAT_STATE = 0 →
    ∃ t, exec (.imgSave req (BitVec.ofNat 7 l.val)) s = .next t ∧ t.rd .bst HDR.PG_STAT_STATE = 2 ∧
      OnlyFields [(.bst, HDR.PG_STAT_STATE, 0), (.bst, HDR.PG_EVT_RAW, 0)]
        { s with reply := .posted req.code, bist := { s.bist with img := some l.val, imgAt := s.dclk } } t) ∧
  (∀ (s : State) (req : Req) (l : Lane), s.ready req .bst = true → s.lanes[l].st = .test ∨ s.rd .bst HDR.PG_STAT_STATE ≠ 0 →
    ∃ t, exec (.imgSave req (BitVec.ofNat 7 l.val)) s = .next t ∧ t.errorShown .bst = s.errorAfter .bst 0x21 ∧
      OnlyFields (errorFields .bst) { s with reply := .posted req.code } t) ∧
  (∀ (s : State) (req : Req) (inst : BitVec 7), s.ready req .bst = true → 64 ≤ inst.toNat →
    ∃ t, exec (.imgSave req inst) s = .next t ∧ t.errorShown .bst = s.errorAfter .bst 0x03 ∧
      OnlyFields (errorFields .bst) { s with reply := .posted req.code } t) ∧
  (∀ (s : State) (l : Lane), s.devUp = true → s.bist.img = some l.val → s.spoolServes (s.imgAt l) 0x40000 = true →
    s.ddr.poison = [] →
    ∃ t, exec .imgSaveDone s = .next t ∧ t.rd .bst HDR.PG_STAT_STATE = 0 ∧ t.on .bst HDR.PG_STAT_OVERDUE = false ∧
      Memory.readNat t.ddr.mem (s.imgAt l + 0x38000) 4 = 0xA9B70001 ∧ Memory.readNat t.ddr.mem (s.imgAt l) 4 = s.winWord l 0 % 2 ^ 32 ∧
      (∀ a, a < s.imgAt l ∨ s.imgAt l + 0x40000 ≤ a → Memory.read t.ddr.mem a = Memory.read s.ddr.mem a) ∧
      OnlyFields [(.bst, HDR.PG_STAT_STATE, 0), (.bst, HDR.PG_STAT_OVERDUE, 0), (.bst, HDR.PG_EVT_RAW, 0)] { s with
        bist := { s.bist with img := none }
        ddr := { s.ddr with mem := t.ddr.mem, writeBack := t.ddr.writeBack, lastReq := s.dclk } } t) ∧
  (∀ (s : State) (l : Lane), s.devUp = true → s.bist.img = some l.val → s.ddrState ≠ ddrActive →
    ∃ t, exec .imgSaveDone s = .next t ∧ t.rd .bst HDR.PG_STAT_STATE = 0 ∧ t.ddr = s.ddr) ∧
  (∀ (s : State) (req : Req) (slot : BitVec 7), s.ready req .bst = true → slot.toNat < 74 → s.power.dev = .idle →
    s.rd .bst HDR.PG_STAT_STATE = 0 → s.on .bst BST.RES_STAT_DONE slot.toNat = true →
    s.bist.soft.any (fun e => e.1 == slot.toNat) = true → s.on .bst BST.RES_STAT_UNREPAIRABLE slot.toNat = false →
    s.unfused slot.toNat ≠ [] → (s.unfused slot.toNat).length ≤ s.freeFuses.length →
    ∃ t, exec (.fuseBurn req slot true) s = .next t ∧ t.rd .bst HDR.PG_STAT_STATE = 3 ∧ t.on .bst BST.STAT_FSRC_OK = true ∧
      OnlyFields [(.bst, BST.STAT_FSRC_OK, 0), (.bst, HDR.PG_STAT_STATE, 0), (.bst, HDR.PG_EVT_RAW, 0)] { s with
        reply := .posted req.code
        bist := { s.bist with burn := some { slot := slot.toNat, todo := s.unfused slot.toNat } } } t) ∧
  (∀ (s : State) (req : Req) (slot : BitVec 7), s.ready req .bst = true → slot.toNat < 74 →
    ∃ t, exec (.fuseBurn req slot false) s = .next t ∧ t.errorShown .bst = s.errorAfter .bst 0x24 ∧
      t.on .bst BST.STAT_FSRC_OK = false ∧
      OnlyFields ((.bst, BST.STAT_FSRC_OK, 0) :: errorFields .bst) { s with reply := .posted req.code } t) ∧
  (∀ (s : State) (req : Req) (slot : BitVec 7), s.ready req .bst = true → slot.toNat < 74 →
    s.power.dev ≠ .idle ∨ s.rd .bst HDR.PG_STAT_STATE ≠ 0 ∨ s.on .bst BST.RES_STAT_DONE slot.toNat = false ∨
      s.bist.soft.any (fun e => e.1 == slot.toNat) = false ∨ s.on .bst BST.RES_STAT_UNREPAIRABLE slot.toNat = true →
    ∃ t, exec (.fuseBurn req slot true) s = .next t ∧ t.errorShown .bst = s.errorAfter .bst 0x26 ∧
      OnlyFields ((.bst, BST.STAT_FSRC_OK, 0) :: errorFields .bst) { s with reply := .posted req.code } t) ∧
  (∀ (s : State) (req : Req) (slot : BitVec 7), s.ready req .bst = true → slot.toNat < 74 → s.power.dev = .idle →
    s.rd .bst HDR.PG_STAT_STATE = 0 → s.on .bst BST.RES_STAT_DONE slot.toNat = true →
    s.bist.soft.any (fun e => e.1 == slot.toNat) = true → s.on .bst BST.RES_STAT_UNREPAIRABLE slot.toNat = false →
    s.freeFuses.length < (s.unfused slot.toNat).length →
    ∃ t, exec (.fuseBurn req slot true) s = .next t ∧ t.errorShown .bst = s.errorAfter .bst 0x25 ∧
      OnlyFields ((.bst, BST.STAT_FSRC_OK, 0) :: errorFields .bst) { s with reply := .posted req.code } t) ∧
  (∀ (s : State) (b : Burn) (r : Repair) (rest : List Repair) (e : Nat) (fs : List Nat), s.devUp = true →
    s.bist.burn = some b → b.todo = r :: rest → s.freeFuses = e :: fs →
    ∃ t, exec .burnEntryDone s = .next t ∧ t.on .fuse FUSE.REPAIR_VALID e = true ∧
      t.rd .fuse FUSE.REPAIR_ARRAY e = r.array % 2 ^ FUSE.REPAIR_ARRAY.width ∧
      t.rd .fuse FUSE.REPAIR_ROW e = r.row % 2 ^ FUSE.REPAIR_ROW.width ∧
      t.rd .fuse FUSE.REPAIR_SPARE e = r.spare % 2 ^ FUSE.REPAIR_SPARE.width ∧
      (rest = [] → t.bist.burn = none ∧ t.rd .bst HDR.PG_STAT_STATE = 0 ∧ t.event .bst 10 = true) ∧
      (rest ≠ [] → t.bist.burn = some { b with todo := rest }) ∧ OtherPages [.fuse, .bst, .den] s t) ∧
  (∀ (s : State) (b : Burn) (r : Repair) (rest : List Repair) (e : Nat) (fs : List Nat), s.devUp = true →
    s.bist.burn = some b → b.todo = r :: rest → s.freeFuses = e :: fs →
    ∃ t, exec .fsrcFall s = .next t ∧ t.on .bst BST.STAT_FSRC_OK = false ∧ t.bist.burn = none ∧
      t.bist.dead = s.bist.dead ++ [e] ∧ t.rd .bst HDR.PG_STAT_STATE = 0 ∧ t.errorShown .bst = s.errorAfter .bst 0x24 ∧
      OtherPages [.bst, .den] s t) ∧
  (∀ s : State, s.devUp = true → s.bist.burn = none →
    ∃ t, exec .fsrcFall s = .next t ∧ t.on .bst BST.STAT_FSRC_OK = false ∧ OnlyFields [(.bst, BST.STAT_FSRC_OK, 0)] s t)

/-- R370, R371. The SRAM scrub reads word after word, passing over arrays that are off or in TEST; what it finds is counted and
recorded; a background task that has waited too long shows OVERDUE. The model's own choices among these clauses are log
entry 95. -/
def Obligations.SramScrub : Prop :=
  (∀ s : State, s.devUp = true → s.on .scb SCB.CTRL_EN = true → s.bist.scrubAt ≤ s.dclk →
    s.arrayUp (s.rd .scb SCB.POS_ARRAY) = true → s.rd .scb SCB.POS_WORD < 4095 →
    ∃ t, exec (.sramScrubRead .clean false) s = .next t ∧ t.rd .scb SCB.POS_WORD = s.rd .scb SCB.POS_WORD + 1 ∧
      t.on .scb HDR.PG_STAT_OVERDUE = false ∧
      OnlyFields [(.scb, SCB.POS_WORD, 0), (.scb, SCB.POS_ARRAY, 0), (.scb, HDR.PG_STAT_OVERDUE, 0)]
        { s with bist := { s.bist with scrubAt := s.dclk + s.sramGap } } t) ∧
  (∀ (s : State) (kind : Ecc) (table : Bool), s.dclk < s.bist.scrubAt → exec (.sramScrubRead kind table) s = .next s) ∧
  (∀ s : State, s.devUp = true → s.on .scb SCB.CTRL_EN = true → s.bist.scrubAt ≤ s.dclk →
    s.arrayUp (s.rd .scb SCB.POS_ARRAY) = true → s.rd .scb SCB.POS_WORD < 4095 →
    ∃ t, exec (.sramScrubRead .corrected false) s = .next t ∧ t.rd .scb SCB.POS_WORD = s.rd .scb SCB.POS_WORD + 1 ∧
      t.rd .scb SCB.CE_CNT = min (s.rd .scb SCB.CE_CNT + 1) (2 ^ 32 - 1) ∧ t.event .scb 8 = true ∧
      OnlyFields [(.scb, SCB.POS_WORD, 0), (.scb, SCB.POS_ARRAY, 0), (.scb, HDR.PG_STAT_OVERDUE, 0), (.scb, SCB.CE_CNT, 0),
          (.scb, HDR.PG_EVT_RAW, 0)] { s with bist := { s.bist with scrubAt := s.dclk + s.sramGap } } t) ∧
  (∀ (s : State) (table : Bool), s.devUp = true → s.on .scb SCB.CTRL_EN = true → s.bist.scrubAt ≤ s.dclk →
    s.arrayUp (s.rd .scb SCB.POS_ARRAY) = true → s.rd .scb SCB.POS_WORD < 4095 →
    ∃ t, exec (.sramScrubRead .bad table) s = .next t ∧ t.errorShown .scb = s.errorAfter .scb 0x20 ∧ t.event .scb 9 = true ∧
      t.rd .scb SCB.UE_CNT = min (s.rd .scb SCB.UE_CNT + 1) (2 ^ 32 - 1) ∧
      t.rd .scb SCB.LAST_UE_ARRAY = s.rd .scb SCB.POS_ARRAY ∧ t.rd .scb SCB.LAST_UE_WORD = s.rd .scb SCB.POS_WORD ∧
      (table = true → (List.finRange 64).all (fun l => l.val != s.rd .scb SCB.POS_ARRAY / 16 ||
        (!t.on (.lne l) LNE.TBL_CTRL_CRC_VALID && t.event (.lne l) 10)) = true)) ∧
  (∀ s : State, s.devUp = true → s.on .scb SCB.CTRL_EN = true → s.bist.scrubAt ≤ s.dclk → s.rd .scb SCB.POS_ARRAY = 1727 →
    s.rd .scb SCB.POS_WORD = 4095 →
    ∃ t, exec (.sramScrubRead .clean false) s = .next t ∧ t.rd .scb SCB.POS_WORD = 0 ∧ t.rd .scb SCB.POS_ARRAY = 0 ∧
      t.rd .scb SCB.PASS_CNT = min (s.rd .scb SCB.PASS_CNT + 1) (2 ^ 32 - 1) ∧ t.event .scb 10 = true) ∧
  (∀ s : State, s.devUp = true → s.on .scb SCB.CTRL_EN = true → s.bist.scrubAt ≤ s.dclk → s.rd .scb SCB.POS_ARRAY = 15 →
    s.arrayUp 15 = false → s.arrayUp 16 = true →
    ∃ t, exec (.sramScrubRead .clean false) s = .next t ∧ t.rd .scb SCB.POS_ARRAY = 16 ∧ t.rd .scb SCB.POS_WORD = 1 ∧
      t.rd .scb SCB.SKIP_CNT = min (s.rd .scb SCB.SKIP_CNT + 1) (2 ^ 32 - 1)) ∧
  (∀ (s : State) (task : BgTask), s.devUp = true → s.taskWaits task = true →
    ∃ t, exec (.backgroundOverdue task) s = .next t ∧ t.on (BgTask.page task) HDR.PG_STAT_OVERDUE = true ∧
      (s.on (BgTask.page task) HDR.PG_STAT_OVERDUE = false → t.event (BgTask.page task) 4 = true) ∧
      OnlyFields [(BgTask.page task, HDR.PG_STAT_OVERDUE, 0), (BgTask.page task, HDR.PG_EVT_RAW, 0)] s t) ∧
  (∀ (s : State) (task : BgTask), s.taskWaits task = false → exec (.backgroundOverdue task) s = .next s)

/-- R90, R91, R92, R93, R94, R95, R96, R97, R158, R159. The boot: an image that fails a check fails the boot, one that passes
hands over; words pushed by the host; RESTART; and DDR5 training. The model's own choices among these clauses are log
entries 32, 33, 64, 65, 66. -/
def Obligations.Boot : Prop :=
  (∀ s : State, s.devUp = true → s.booting = true → s.stage ≠ 3 → s.rd .core CORE.BOOT_STAT_SRC = 0 →
    s.cores.bootsel ≠ 2 →
    ∃ t, exec (.bootComplete none) s = .next t ∧ t.stage = 7 ∧ t.errorShown .core = s.errorAfter .core 0x29 ∧
      t.event .core 18 = true ∧ OtherPages [.core, .den] s t ∧ OtherLanes [] s t) ∧
  (∀ s : State, s.devUp = true → s.booting = true → s.stage ≠ 3 → s.rd .core CORE.BOOT_STAT_SRC = 0 →
    s.cores.bootsel = 2 →
    ∃ t, exec (.bootComplete none) s = .next t ∧ t.stage = 1 ∧ t.rd .core CORE.BOOT_STAT_SRC = 1 ∧
      t.errorShown .core = s.errorAfter .core 0x29 ∧ t.cores.push = []) ∧
  (∀ (s : State) (l : List Byte) (nn off : Nat), s.devUp = true → s.stage ≤ 2 → s.rd .core CORE.BOOT_STAT_SRC = 0 →
    s.cores.bootsel ≠ 2 →
    s.headerFails (l.take 512) = some (nn, off) →
    ∃ t, exec (.bootComplete (some l)) s = .next t ∧ t.stage = 7 ∧ t.errorShown .core = s.errorAfter .core nn ∧
      (s.errorShown .core = none → t.rd .core HDR.PG_ERR_INFO = off % 2 ^ 32) ∧ t.event .core 18 = true) ∧
  (∀ (s : State) (l : List Byte), s.devUp = true → s.stage ≤ 2 → s.cores.needTrain = false → s.ddrState = ddrActive →
    s.rd .core CORE.BOOT_STAT_SRC = 0 → s.cores.bootsel ≠ 2 →
    ∃ t, exec (.bootComplete (some l)) s = .next t ∧ (s.headerFails (l.take 512) ≠ none → t.stage = 7) ∧
      (s.headerFails (l.take 512) = none → bodyOk (l.take 512) (imgBytes l 512 (imgField (l.take 512) 0xC 4)) = false →
        t.stage = 7 ∧ t.errorShown .core = s.errorAfter .core 0x27) ∧
      (s.headerFails (l.take 512) = none → bodyOk (l.take 512) (imgBytes l 512 (imgField (l.take 512) 0xC 4)) = true →
        t.stage = 6 ∧ t.event .core 17 = true ∧ t.rd .core CORE.HART_STAT_RUNNING = 1 ∧
        t.on .core CORE.HART_STAT_SAFE_RUN = true ∧ t.on .core CORE.WDT_EN 4 = true ∧ t.on .evt EVT.ROUTE_SAFE_EN 6 = true ∧
        t.cores.safeMem = Memory.writeAll [] 0 (imgBytes l 512 (imgField (l.take 512) 0x10 4)))) ∧
  (∀ (s : State) (l : List Byte), s.devUp = true → s.stage ≤ 2 → s.cores.needTrain = true →
    s.rd .core CORE.BOOT_STAT_SRC = 0 → s.cores.bootsel ≠ 2 →
    ∃ t, exec (.bootComplete (some l)) s = .next t ∧ (s.headerFails (l.take 512) ≠ none → t.stage = 7) ∧
      (s.headerFails (l.take 512) = none → dramBad (l.take 512) = true →
        t.stage = 7 ∧ t.ddrState = ddrFailed ∧ t.errorShown .core = s.errorAfter .core 0x26 ∧
        t.errorShown .ddr = s.errorAfter .ddr 0x21) ∧
      (s.headerFails (l.take 512) = none → dramBad (l.take 512) = false →
        t.stage = 3 ∧ t.ddrState = ddrTraining ∧ t.rd .clk CLK.MSEL = 1 - paramField (l.take 512) 2 1 ∧
        t.cores.bootHdr = l.take 512)) ∧
  (∀ (s : State) (l : List Byte), s.devUp = true → s.stage = 4 → s.rd .core CORE.BOOT_STAT_SRC = 0 → s.cores.bootsel ≠ 2 →
    ∃ t, exec (.bootComplete (some l)) s = .next t ∧
      (bodyOk s.cores.bootHdr (imgBytes l 512 (imgField s.cores.bootHdr 0xC 4)) = false →
        t.stage = 7 ∧ t.errorShown .core = s.errorAfter .core 0x27) ∧
      (bodyOk s.cores.bootHdr (imgBytes l 512 (imgField s.cores.bootHdr 0xC 4)) = true → t.stage = 6)) ∧
  (∀ (s : State) (img : Option (List Byte)), s.devUp = true → s.stage ≤ 2 → s.rd .core CORE.BOOT_STAT_SRC = 1 →
    s.cores.image.length < 512 → exec (.bootComplete img) s = .next s) ∧
  (∀ (s : State) (req : Req) (data : Word), s.open_ req .core = true → s.booting = true →
    s.rd .core CORE.BOOT_STAT_SRC = 1 → s.cores.push.length + 4 ≤ 4096 →
    exec (.pushData req data) s = .next { s with
      reply := .posted req.code, cores := { s.cores with push := s.cores.push ++ bytesOf 4 data.toNat } }) ∧
  (∀ (s : State) (req : Req) (data : Word), s.open_ req .core = true → s.booting = true →
    s.rd .core CORE.BOOT_STAT_SRC = 1 → 4096 < s.cores.push.length + 4 →
    ∃ t, exec (.pushData req data) s = .next t ∧ t.stage = 7 ∧ t.errorShown .core = s.errorAfter .core 0x2A ∧
      (s.errorShown .core = none →
        t.rd .core HDR.PG_ERR_INFO = (s.cores.image.length + s.cores.push.length) % 2 ^ 32)) ∧
  (∀ (s : State) (req : Req), s.open_ req .core = true → s.stage = 7 ∨ s.stage = 1 → s.cores.bootsel < 3 →
    ∃ t, exec (.bootRestart req) s = .next t ∧ t.stage = (if s.cores.bootsel = 1 then 1 else 2) ∧
      t.rd .core CORE.BOOT_STAT_SRC = (if s.cores.bootsel = 1 then 1 else 0) ∧ t.on .core CORE.BOOT_STAT_WARM = false ∧
      (∀ i, i < 8 → t.rd .cdc CDC.PRESET_VALID i = 0) ∧
      OnlyFields ([(.core, CORE.BOOT_STAT_STAGE, 0), (.core, CORE.BOOT_STAT_SRC, 0), (.core, CORE.BOOT_STAT_WARM, 0),
          (.cdc, HDR.PG_EVT_RAW, 0)] ++ (List.range 8).map fun i => (.cdc, CDC.PRESET_VALID, i)) { s with
        reply := .posted req.code
        cores := { s.cores with push := [], image := [], bootHdr := [], pushOvf := false, needTrain := true }
        codec := { s.codec with decPreset := t.codec.decPreset } } t) ∧
  (∀ (s : State) (req : Req), s.open_ req .core = true → s.stage ≠ 7 → s.stage ≠ 1 →
    ∃ t, exec (.bootRestart req) s = .next t ∧ t.errorShown .core = s.errorAfter .core 0x2E ∧
      OnlyFields (errorFields .core) { s with reply := .posted req.code } t) ∧
  (∀ (s : State) (stops : List (BitVec 3 × BitVec 3)) (eyes : List (List (BitVec 16 × BitVec 16))), s.devUp = true →
    s.stage = 3 → s.ddrState = ddrTraining → stops.length = 4 → eyes.length = 4 →
    ((trainResults stops eyes).all fun r => trainFails r == none) = true →
    ∃ t, exec (.ddrTrainingDone stops eyes) s = .next t ∧ t.stage = 4 ∧ t.ddrState = ddrActive ∧
      t.on .ddr HDR.PG_CTRL_EN = true ∧ t.cores.needTrain = false ∧
      t.rd .ddr DDR.CFG_SIZE_GIB =
        16 * (paramField s.cores.bootHdr 3 1 + 1) * paramField s.cores.bootHdr 4 1 % 256 ∧
      (∀ k : Fin 4, t.on (.ddrs k) DDRS.TRAIN_DONE = true ∧ t.on (.ddrs k) DDRS.TRAIN_PASS = true) ∧
      OtherPages [.ddr, .ddrs 0, .ddrs 1, .ddrs 2, .ddrs 3, .core] s t ∧ OtherLanes [] s t) ∧
  (∀ (s : State) (stop : BitVec 3 × BitVec 3) (stops : List (BitVec 3 × BitVec 3)) (eye : List (BitVec 16 × BitVec 16))
    (eyes : List (List (BitVec 16 × BitVec 16))) (step lane : Nat), s.devUp = true →
    s.stage = 3 → s.ddrState = ddrTraining → stops.length = 3 → eyes.length = 3 →
    trainFails (stop.1, stop.2, eye) = some (step, lane) → s.cores.bootsel ≠ 2 →
    ∃ t, exec (.ddrTrainingDone (stop :: stops) (eye :: eyes)) s = .next t ∧ t.stage = 7 ∧ t.ddrState = ddrFailed ∧
      t.errorShown .core = s.errorAfter .core 0x26 ∧ t.errorShown .ddr = s.errorAfter .ddr 0x22 ∧
      t.rd (.ddrs 0) DDRS.TRAIN_STEP = step ∧ t.rd (.ddrs 0) DDRS.TRAIN_LANE = lane ∧
      t.on (.ddrs 0) DDRS.TRAIN_PASS = false ∧ t.errorShown (.ddrs 0) = s.errorAfter (.ddrs 0) (trainCode step)) ∧
  (∀ (lane : BitVec 3) (eyes : List (BitVec 16 × BitVec 16)) (b : Fin 5), (eyes.getD b.val (0, 0)).1.toNat < 300 →
    (∀ j, j < b.val → 300 ≤ (eyes.getD j (0, 0)).1.toNat) → trainFails (0, lane, eyes) = some (5, b.val)) ∧
  (∀ (step lane : BitVec 3) (eyes : List (BitVec 16 × BitVec 16)), step ≠ 0 →
    trainFails (step, lane, eyes) = some (step.toNat, lane.toNat))

/-- R85, R97, R99. Cores run, stop and are reset at the safety core's word; a watchdog is kicked, expires, and halts its core.
The model's own choices among these clauses are log entries 36, 68. -/
def Obligations.HartsAndWatchdogs : Prop :=
  (∀ (s : State) (data : Word), s.open_ .safe .core = true → bits data.toNat 7 4 = 0 →
    s.rd .core CORE.HART_STAT_WDT_HALT = 0 →
    ∃ t, exec (.hartRun .safe data) s = .next t ∧ t.rd .core CORE.HART_CTRL_RUN = bits data.toNat 3 0 ∧
      t.rd .core CORE.HART_STAT_RUNNING = bits data.toNat 3 0 ∧
      OnlyFields [(.core, CORE.HART_CTRL_RUN, 0), (.core, CORE.HART_STAT_RUNNING, 0), (.core, CORE.HART_STAT_WDT_HALT, 0)]
        { s with reply := .posted Req.safe.code } t) ∧
  (∀ (s : State) (req : Req) (data : Word), s.open_ req .core = true → req ≠ .safe →
    ∃ t, exec (.hartRun req data) s = .next t ∧ t.errorShown .core = s.errorAfter .core 0x2E ∧
      OnlyFields (errorFields .core) { s with reply := .posted req.code } t) ∧
  (∀ (s : State) (data : Word) (k : Fin 4), s.open_ .safe .core = true → bit data.toNat (4 + k.val) = true →
    ∃ t, exec (.hartReset .safe data) s = .next t ∧ bit (t.rd .core CORE.HART_STAT_WDT_HALT) k.val = false ∧
      bit (t.rd .core CORE.HART_STAT_RUNNING) k.val = bit data.toNat k.val ∧
      OnlyFields [(.core, CORE.HART_CTRL_RUN, 0), (.core, CORE.HART_STAT_RUNNING, 0), (.core, CORE.HART_STAT_WDT_HALT, 0)]
        { s with reply := .posted Req.safe.code } t) ∧
  (∀ (s : State) (k : Fin 4), s.devUp = true →
    ∃ t, exec (.coreMemUe k.castSucc) s = .next t ∧ bit (t.rd .core CORE.HART_STAT_WDT_HALT) k.val = true ∧
      bit (t.rd .core CORE.HART_STAT_RUNNING) k.val = false ∧
      OnlyFields [(.core, CORE.HART_STAT_RUNNING, 0), (.core, CORE.HART_STAT_WDT_HALT, 0)] s t) ∧
  (∀ s : State, s.devUp = true →
    ∃ t, exec (.coreMemUe 4) s = .next t ∧ t.on .core CORE.HART_STAT_SAFE_RUN = false ∧
      OnlyFields [(.core, CORE.HART_STAT_SAFE_RUN, 0)] s t) ∧
  (∀ (s : State) (req : Req) (k : Fin 5), s.open_ req .core = true → k ≠ 4 ∨ req = .safe →
    s.wdtDue k = false →
    exec (.wdtKick req k 0xA5) s = .next { s with
      reply := .posted req.code
      cores := { s.cores with kicked := s.cores.kicked.set k s.dclk, expired := s.cores.expired.set k false } }) ∧
  (∀ (s : State) (req : Req) (k : Fin 4), s.open_ req .core = true → s.wdtDue k.castSucc = true →
    s.dclk < s.cores.kicked[k.castSucc] + 500 * s.rd .core CORE.WDT_TIMEOUT k.val + 2 →
    ∃ t, exec (.wdtKick req k.castSucc 0xA5) s = .next t ∧ t.event .core (8 + k.val) = true ∧
      OnlyFields [(.core, HDR.PG_EVT_RAW, 0)] { s with
        reply := .posted req.code, cores := { s.cores with expired := s.cores.expired.set k.castSucc true } } t) ∧
  (∀ (s : State) (req : Req) (k : Fin 5) (key : BitVec 8), s.open_ req .core = true → k ≠ 4 ∨ req = .safe → key ≠ 0xA5 →
    ∃ t, exec (.wdtKick req k key) s = .next t ∧ t.errorShown .core = s.errorAfter .core 0x2D ∧
      OnlyFields (errorFields .core) { s with reply := .posted req.code } t) ∧
  (∀ (s : State) (req : Req) (key : BitVec 8), s.open_ req .core = true → req ≠ .safe →
    ∃ t, exec (.wdtKick req 4 key) s = .next t ∧ t.errorShown .core = s.errorAfter .core 0x2E ∧
      OnlyFields (errorFields .core) { s with reply := .posted req.code } t) ∧
  (∀ (s : State) (k : Fin 4), s.devUp = true → s.on .core CORE.WDT_EN k.val = true → s.cores.expired[k.castSucc] = false →
    s.cores.kicked[k.castSucc] + s.rd .core CORE.WDT_TIMEOUT k.val * 500 ≤ s.dclk →
    ∃ t, exec (.wdtExpire k.castSucc) s = .next t ∧ t.event .core (8 + k.val) = true ∧
      OnlyFields [(.core, HDR.PG_EVT_RAW, 0)]
        { s with cores := { s.cores with expired := s.cores.expired.set k.castSucc true } } t) ∧
  (∀ s : State, s.devUp = true → s.on .core CORE.WDT_EN 4 = true → s.cores.expired[4] = false →
    s.cores.kicked[4] + s.rd .core CORE.WDT4_TIMEOUT * 500 ≤ s.dclk →
    ∃ t, exec (.wdtExpire 4) s = .next t ∧ t.event .core 12 = true ∧ t.power.dev = .fault ∧
      t.rd .pwr (fatalRow 2) = 1) ∧
  (∀ (s : State) (k : Fin 4) (mepc : BitVec 64), s.devUp = true → s.on .core CORE.WDT_EN k.val = true →
    s.cores.expired[k.castSucc] = true →
    s.cores.kicked[k.castSucc] + 625 * s.rd .core CORE.WDT_TIMEOUT k.val ≤ s.dclk → s.den.queue = [] → s.den.tokens ≠ 0 →
    s.den.dropped = 0 → s.rd .den HDR.PG_STAT_STATE ≠ 1 ∨ s.den.cur.isSome = true →
    ∃ t, exec (.wdtHalt k mepc) s = .next t ∧ bit (t.rd .core CORE.HART_STAT_WDT_HALT) k.val = true ∧
      bit (t.rd .core CORE.HART_STAT_RUNNING) k.val = false ∧
      t.den.queue = [{ type := 6, src := 0x06, hw := true, payload := k.val + mepc.toNat * 2 ^ 64, time := s.time, at_ := s.dclk }] ∧
      OnlyFields [(.core, CORE.HART_STAT_RUNNING, 0), (.core, CORE.HART_STAT_WDT_HALT, 0)] { s with den := t.den } t)

/-- R98, R417. The host mailbox: a message is put down by its sender and taken by its receiver, each direction alone; the
shipped firmware answers HELLO, PTP_START and PTP_STATE with the request's sequence number. The model's own choices among
these clauses are log entry 68. -/
def Obligations.Mailbox : Prop :=
  (∀ (s : State) (req : Req) (h2c : Bool) (len : BitVec 9), s.open_ req .core = true → Req.hostSide req = h2c →
    s.on .core (mbxFull h2c) = false → len.toNat ≤ 256 →
    ∃ t, exec (.mbxSend req h2c len) s = .next t ∧ t.on .core (mbxFull h2c) = true ∧
      t.rd .core (mbxLen h2c) = len.toNat ∧ t.event .core (mbxEvent h2c) = true ∧
      OnlyFields [(.core, mbxLen h2c, 0), (.core, mbxFull h2c, 0), (.core, HDR.PG_EVT_RAW, 0)]
        { s with reply := .posted req.code } t) ∧
  (∀ (s : State) (req : Req) (h2c : Bool) (len : BitVec 9), s.open_ req .core = true → Req.hostSide req = h2c →
    s.on .core (mbxFull h2c) = true →
    ∃ t, exec (.mbxSend req h2c len) s = .next t ∧ t.errorShown .core = s.errorAfter .core 0x2C ∧
      OnlyFields (errorFields .core) { s with reply := .posted req.code } t) ∧
  (∀ (s : State) (req : Req) (h2c : Bool) (len : BitVec 9), s.open_ req .core = true → Req.hostSide req = h2c →
    s.on .core (mbxFull h2c) = false → 256 < len.toNat →
    ∃ t, exec (.mbxSend req h2c len) s = .next t ∧ t.errorShown .core = s.errorAfter .core 0x03 ∧
      OnlyFields (errorFields .core) { s with reply := .posted req.code } t) ∧
  (∀ (s : State) (req : Req) (h2c : Bool), s.open_ req .core = true → Req.hostSide req = !h2c →
    s.on .core (mbxFull h2c) = true → s.rd .core (mbxLen h2c) ≤ 256 →
    ∃ t, exec (.mbxRelease req h2c) s = .next t ∧ t.on .core (mbxFull h2c) = false ∧
      t.event .core (mbxEvent h2c + 1) = true ∧
      OnlyFields [(.core, mbxFull h2c, 0), (.core, HDR.PG_EVT_RAW, 0)] { s with reply := .posted req.code } t) ∧
  (∀ s : State, s.fwReady = true → s.msgType = 0x0001 →
    ∃ t, exec .hello s = .next t ∧ t.on .core CORE.MBX_H2C_CTRL_FULL = false ∧ t.on .core CORE.MBX_C2H_CTRL_FULL = true ∧
      t.rd .core CORE.MBX_C2H 0 = 0x8001 + bits (s.rd .core CORE.MBX_H2C 0) 31 16 * 2 ^ 16 ∧
      t.rd .core CORE.MBX_C2H 1 = 0 ∧ t.rd .core CORE.MBX_C2H 2 = Config.firmwareVersion.toNat ∧
      t.rd .core CORE.MBX_C2H 3 = s.bootStat % 2 ^ 32 ∧ t.rd .core CORE.MBX_C2H_CTRL_LEN = 16 ∧
      t.event .core 14 = true ∧ t.event .core 15 = true ∧ OtherPages [.core] s t) ∧
  (∀ s : State, s.fwReady = true → s.msgType = 0x0020 → s.cores.ptp = none →
    ∃ t, exec .ptpStart s = .next t ∧
      t.rd .core CORE.MBX_C2H 0 = 0x8020 + bits (s.rd .core CORE.MBX_H2C 0) 31 16 * 2 ^ 16 ∧
      t.rd .core CORE.MBX_C2H 1 = 0 ∧ t.rd .core CORE.MBX_C2H_CTRL_LEN = 8 ∧
      (t.cores.ptp.map fun p => (p.port, p.domain)) =
        some (bits (s.rd .core CORE.MBX_H2C 1) 0 0, bits (s.rd .core CORE.MBX_H2C 1) 15 8) ∧ OtherPages [.core] s t) ∧
  (∀ s : State, s.fwReady = true → s.msgType = 0x0020 → s.cores.ptp.isSome = true → s.on .tim TIM.SERVO_CTRL_EN = true →
    s.servo ≠ svFree →
    ∃ t, exec .ptpStart s = .next t ∧ t.servo = svStep ∧ t.rd .core CORE.MBX_C2H 1 = 0 ∧ OtherPages [.core, .tim] s t) ∧
  (∀ s : State, s.fwReady = true → s.msgType = 0x0021 →
    ∃ t, exec .ptpState s = .next t ∧
      t.rd .core CORE.MBX_C2H 0 = 0x8021 + bits (s.rd .core CORE.MBX_H2C 0) 31 16 * 2 ^ 16 ∧
      t.rd .core CORE.MBX_C2H 1 = 0 ∧ t.rd .core CORE.MBX_C2H 2 = s.servo % 2 ^ 32 ∧
      t.rd .core CORE.MBX_C2H 3 = unsigned 64 (s.rdS .tim TIM.LAST_OFS) % 2 ^ 32 ∧
      t.rd .core CORE.MBX_C2H 4 = unsigned 64 (s.rdS .tim TIM.LAST_OFS) / 2 ^ 32 ∧ OtherPages [.core] s t) ∧
  (∀ s : State, s.fwReady = true → s.msgType ≠ 0x0001 → s.msgType ≠ 0x0020 → s.msgType ≠ 0x0021 →
    ∃ t, exec .hello s = .next t ∧ t.rd .core CORE.MBX_C2H 1 = 0x062E ∧ t.on .core CORE.MBX_C2H_CTRL_FULL = true)

/-- R10, R63, R69, R70, R71, R72, R402. Waking: the always-on supplies come up, a wake source enabled in `AON.WAKE_EN` acts in
SETT, the supplies answer in their order, and IDLE is reported; the alarm and a comparator's rise raise their events in
every state. The model's own choices among these clauses are log entries 34, 57, 85. -/
def Obligations.Wakes : Prop :=
  (∀ s : State, s.power.dev = .off →
    ∃ t, exec .powerOnReset s = .next t ∧ t.power.dev = .sett ∧ t.power.wake = .pgood0 ∧ t.power.pen0 = true ∧
      t.power.warm = false ∧ t.on .pwr PWR.WAKE_CAUSE_COLD = true ∧
      OnlyFields [(.pwr, PWR.WAKE_CAUSE_COLD, 0)] { s with power := t.power } t) ∧
  (∀ s : State, s.power.dev ≠ .off → exec .powerOnReset s = .next s) ∧
  (∀ s : State,
    ∃ t, exec .porAssert s = .next t ∧ t.power = {} ∧ t.pending = s.pending ∧ t.out = s.out ∧ t.ddr.mem = [] ∧
      t.intake.pages = [] ∧ t.rd .pace PACE.WL = 0 ∧ t.on .pwr PWR.WAKE_CAUSE_COLD = true ∧ t.bist.dead = s.bist.dead ∧
      (∀ l : Lane, t.lanes[l] = {}) ∧ t.rd .fuse FUSE.SVN = s.rd .fuse FUSE.SVN ∧
      (∀ k : Fin 512, t.rd .fuse FUSE.REPAIR_ARRAY k.val = s.rd .fuse FUSE.REPAIR_ARRAY k.val)) ∧
  (∀ (s : State) (b : BitVec 2), s.power.dev = .sett → s.power.wake = .pgood0 → 5000 ≤ s.power.penFor →
    exec (.pgoodRise 0 b) s =
      .next { s with power := { s.power with wake := .pgood1, pgood0 := true, pen1 := true, penFor := 0 } }) ∧
  (∀ (s : State) (b : BitVec 2), s.power.dev = .sett → s.power.wake = .pgood1 → 5000 ≤ s.power.penFor →
    exec (.pgoodRise 1 b) s =
      .next { s with power := { s.power with wake := .plls, pgood1 := true }, cores := { s.cores with bootsel := b.toNat } }) ∧
  (∀ (s : State) (k : Fin 2) (b : BitVec 2), s.power.penFor < 5000 → exec (.pgoodRise k b) s = .next s) ∧
  (∀ s : State, s.power.dev = .sett → s.power.wake = .plls → s.power.warm = false → s.power.pendFault = 0 →
    s.power.spit = none → s.cores.bootsel = 0 → s.ddrState ≠ ddrActive →
    ∃ t, exec .settWakeComplete s = .next t ∧ t.power.dev = .idle ∧ t.power.wake = .none ∧ t.power.wakeN = true ∧
      t.event .pwr 10 = true ∧ t.rd .core CORE.BOOT_STAT_STAGE = 2 ∧
      t.rd .tim TIM.TIME = (s.rd .aon AON.RTC_SEC * 1000000000 + s.rd .aon AON.RTC_SUB * 1000000000 / 32768) % 2 ^ 64) ∧
  (∀ s : State, s.power.dev = .sett → s.power.wake = .none → (s.rd .aon AON.WAKE_EN).testBit 8 = true →
    ∃ t, exec .wakeReqN s = .next t ∧ t.on .pwr PWR.WAKE_CAUSE_WAKE_REQ = true ∧ t.power.dev = .sett ∧
      t.power.wake = .pgood0 ∧ t.power.pen0 = true ∧ t.power.warm = true ∧
      OnlyFields [(.pwr, PWR.WAKE_CAUSE_WAKE_REQ, 0)] { s with power := t.power } t) ∧
  (∀ s : State, s.power.dev = .sett → s.power.wake = .none → (s.rd .aon AON.WAKE_EN).testBit 9 = true →
    ∃ t, exec .perstNDeassert s = .next t ∧ t.on .pwr PWR.WAKE_CAUSE_PERST = true ∧ t.power.dev = .sett ∧
      t.power.wake = .pgood0 ∧ t.power.pen0 = true ∧ t.power.warm = true ∧
      OnlyFields [(.pwr, PWR.WAKE_CAUSE_PERST, 0)] { s with power := t.power } t) ∧
  (∀ s : State, (s.rd .aon AON.WAKE_EN).testBit 8 = false → exec .wakeReqN s = .next s) ∧
  (∀ s : State, s.power.dev ≠ .off → s.on .aon AON.ALARM_CTRL = true → s.rd .aon AON.RTC_SEC = s.rd .aon AON.ALARM_SEC →
    s.rd .aon AON.RTC_SUB = 0 → (s.rd .aon AON.WAKE_EN).testBit 0 = false →
    ∃ t, exec .rtcAlarm s = .next t ∧ t.on .aon AON.ALARM_CTRL = false ∧ t.event .aon 8 = true ∧
      OnlyFields [(.aon, AON.ALARM_CTRL, 0), (.aon, HDR.PG_EVT_RAW, 0)] s t) ∧
  (∀ s : State, s.power.dev = .sett → s.power.wake = .none → s.on .aon AON.ALARM_CTRL = true →
    s.rd .aon AON.RTC_SEC = s.rd .aon AON.ALARM_SEC → s.rd .aon AON.RTC_SUB = 0 →
    (s.rd .aon AON.WAKE_EN).testBit 0 = true →
    ∃ t, exec .rtcAlarm s = .next t ∧ t.on .aon AON.ALARM_CTRL = false ∧ t.event .aon 8 = true ∧
      t.on .pwr PWR.WAKE_CAUSE_ALARM = true ∧ t.power.wake = .pgood0) ∧
  (∀ (s : State) (k : Fin 6) (v held : BitVec 8), s.power.dev = .idle → s.on .aon AON.CMP_CTRL_EN k.val = true →
    s.on .aon AON.CMP_CTRL_OUT k.val = false → s.rd .aon AON.CMP_CTRL_ACTION k.val = 1 → s.cmpRaw k v.toNat = true →
    s.rd .aon AON.CMP_CTRL_DEBOUNCE k.val ≤ held.toNat →
    ∃ t, exec (.cmpOutRise k ⟨v, held⟩) s = .next t ∧ t.on .aon AON.CMP_CTRL_OUT k.val = true ∧
      t.event .aon (9 + k.val) = true ∧ t.power.cmpRaw[k] = true ∧
      OnlyFields [(.aon, AON.CMP_CTRL_OUT, k.val), (.aon, HDR.PG_EVT_RAW, 0)]
        { s with power := { s.power with cmpRaw := t.power.cmpRaw } } t) ∧
  (∀ (s : State) (k : Fin 6) (v held : BitVec 8), s.power.dev ≠ .off → s.on .aon AON.CMP_CTRL_EN k.val = true →
    s.cmpRaw k v.toNat = false → s.rd .aon AON.CMP_CTRL_DEBOUNCE k.val ≤ held.toNat →
    ∃ t, exec (.cmpOutRise k ⟨v, held⟩) s = .next t ∧ t.on .aon AON.CMP_CTRL_OUT k.val = false ∧
      t.power.cmpRaw[k] = false ∧
      OnlyFields [(.aon, AON.CMP_CTRL_OUT, k.val)] { s with power := { s.power with cmpRaw := t.power.cmpRaw } } t) ∧
  (∀ (s : State) (k : Fin 6) (v held : BitVec 8), s.power.dev ≠ .off → s.on .aon AON.CMP_CTRL_EN k.val = true →
    held.toNat < s.rd .aon AON.CMP_CTRL_DEBOUNCE k.val →
    ∃ t, exec (.cmpOutRise k ⟨v, held⟩) s = .next t ∧ t.on .aon AON.CMP_CTRL_OUT k.val = s.on .aon AON.CMP_CTRL_OUT k.val ∧
      t.power.cmpRaw[k] = s.cmpRaw k v.toNat ∧
      OnlyFields [] { s with power := { s.power with cmpRaw := t.power.cmpRaw } } t) ∧
  (∀ s : State, s.devUp = true → s.on .pci PCI.LINK_UP = true →
    ∃ t, exec .perstNAssert s = .next t ∧ t.on .pci PCI.LINK_UP = false ∧ t.event .pci 9 = true ∧
      t.rd .pci PCI.LINK_SPEED = 0 ∧ t.rd .pci PCI.LINK_WIDTH = 0 ∧ t.intake.d3hot = false ∧ t.intake.cq = [] ∧
      (∀ v : Nat, v < 64 → t.on .pci PCI.MSIX_MASK v = true))

/-- R63, R68, R71, R389, R401. A fatal cause puts the device into FAULT: the cause and the error are recorded, FAULT_N asserts,
every HVEN falls, every axis driver sleeps, and a transition under way ends. -/
def Obligations.FatalCauses : Prop :=
  (∀ s : State, s.power.dev = .sett → s.power.wake = .pgood0 → 250000 ≤ s.power.penFor →
    ∃ t, exec (.pgoodTimeout 0) s = .next t ∧ t.power.dev = .fault ∧ t.power.wake = .none ∧
      t.on .pwr PWR.FAULT_CAUSE_PGOOD = true ∧ t.errorShown .pwr = s.errorAfter .pwr 0x21 ∧ t.event .gio 10 = true) ∧
  (∀ s : State, s.power.dev = .sett → s.power.wake = .pgood1 → 125000 ≤ s.power.penFor →
    ∃ t, exec (.pgoodTimeout 1) s = .next t ∧ t.power.dev = .fault ∧ t.power.wake = .none ∧
      t.on .pwr PWR.FAULT_CAUSE_PGOOD = true ∧ t.errorShown .pwr = s.errorAfter .pwr 0x21) ∧
  (∀ s : State, s.devUp = true → s.power.dev ≠ .fault → s.on .pwr HDR.PG_STAT_FAULT = false → s.power.pgood0 = true → s.power.pen0 = true →
    ∃ t, exec (.pgoodLost 0) s = .next t ∧ t.power.dev = .fault ∧ t.power.pgood0 = false ∧
      t.on .pwr PWR.FAULT_CAUSE_PGOOD = true ∧ t.event .gio 10 = true ∧ t.event .pwr 5 = true ∧ t.event .pwr 6 = true ∧
      (∀ c : Clu, t.on (.cpwr c) CPWR.STAT_HVEN = false ∧ t.domUp c = false)) ∧
  (∀ s : State, s.devUp = true → s.power.dev ≠ .fault → s.on .pwr PWR.FAULT_CAUSE_TJ_SHUT = false →
    s.rdS .pwr PWR.TJ_LIM_TJ_SHUT ≤ s.rdS .pwr PWR.TJ →
    ∃ t, exec .tjShut s = .next t ∧ t.power.dev = .fault ∧ t.power.settNext = false ∧ t.power.grace = false ∧
      t.on .pwr PWR.FAULT_CAUSE_TJ_SHUT = true ∧ t.event .gio 10 = true ∧
      (∀ c : Clu, t.on (.cpwr c) CPWR.STAT_HVEN = false) ∧ (∀ a : Axis, t.on (.ax a) AX.STAT_ASLEEP = true)) ∧
  (∀ (s : State) (k : Fin 6) (v held : BitVec 8), s.devUp = true → s.power.dev ≠ .fault →
    s.on .aon AON.CMP_CTRL_EN k.val = true → s.on .aon AON.CMP_CTRL_OUT k.val = false →
    s.rd .aon AON.CMP_CTRL_ACTION k.val = 3 → s.cmpRaw k v.toNat = true → s.rd .aon AON.CMP_CTRL_DEBOUNCE k.val ≤ held.toNat →
    ∃ t, exec (.cmpOutRise k ⟨v, held⟩) s = .next t ∧ t.power.dev = .fault ∧ t.on .pwr PWR.FAULT_CAUSE_CMP = true ∧
      t.event .gio 10 = true) ∧
  (∀ (s : State) (k : Fin 6) (v held : BitVec 8), s.power.dev = .sett → s.power.wake = .none →
    s.on .aon AON.CMP_CTRL_EN k.val = true → s.on .aon AON.CMP_CTRL_OUT k.val = false →
    s.rd .aon AON.CMP_CTRL_ACTION k.val = 3 → s.cmpRaw k v.toNat = true → s.rd .aon AON.CMP_CTRL_DEBOUNCE k.val ≤ held.toNat →
    ∃ t, exec (.cmpOutRise k ⟨v, held⟩) s = .next t ∧ t.power.dev = .sett ∧ t.power.wake = .pgood0 ∧
      t.power.pendFault.testBit 3 = true) ∧
  (∀ s : State, s.devUp = true → s.rdS .pwr PWR.TJ_LIM_TJ_WARN ≤ s.rdS .pwr PWR.TJ →
    ∃ t, exec .tjWarn s = .next t ∧ t.event .pwr 11 = true ∧ OnlyFields (eventField .pwr) s t) ∧
  (∀ (s : State) (v : BitVec 12), s.devUp = true → s.bist.run = none →
    ∃ t, exec (.dieSensorSample v) s = .next t ∧ t.rd .pwr PWR.TJ = v.toNat ∧ OnlyFields [(.pwr, PWR.TJ, 0)] s t)

/-- R63, R64. A request for SETT, IDLE or READY in each device state: what it starts, what it leaves as it is, and where it is
rejected with BAD_TRANSITION. -/
def Obligations.Requests : Prop :=
  (∀ (s : State) (req : Req), s.open_ req .pwr = true → s.power.dev = .idle →
    ∃ t, exec (.reqReady req) s = .next t ∧ (t.power.dev = .toReady ∨ t.power.dev = .ready ∨ t.power.dev = .print) ∧
      t.power.sel = s.rd .pwr PWR.CLU_SEL &&& s.rd .sys SYS.DEV_ID_CL_MASK) ∧
  (∀ (s : State) (req : Req), s.open_ req .pwr = true → s.power.dev = .idle → s.ddrState = ddrActive → s.bist.run = none →
    ∃ t, exec (.reqSett req) s = .next t ∧ t.power.dev = .toSett ∧ t.ddrState = ddrEntry ∧ t.event .pwr 6 = true ∧
      t.tim.saved = some (s.time, s.rtcTicks, s.rd .tim TIM.X32_PPB_PPB, s.on .tim TIM.X32_PPB_VALID) ∧
      (∀ a : Axis, t.on (.ax a) AX.STAT_ASLEEP = true)) ∧
  (∀ (s : State) (req : Req), s.open_ req .pwr = true → s.power.dev = .idle →
    exec (.reqIdle req) s = .next { s with reply := .posted req.code }) ∧
  (∀ (s : State) (req : Req), s.open_ req .pwr = true →
    (s.power.dev = .toReady ∨ s.power.dev = .ready) → s.allOff = false →
    ∃ t, exec (.reqIdle req) s = .next t ∧ t.power.dev = .toIdle ∧ t.event .pwr 6 = true ∧
      (∀ c : Clu, t.domUp c = s.domUp c) ∧ (∀ c : Clu, s.domUp c = true → t.on (.cpwr c) CPWR.STAT_HVEN = false)) ∧
  (∀ (s : State) (req : Req), s.open_ req .pwr = true → s.power.dev = .ready → s.allOff = false →
    ∃ t, exec (.reqSett req) s = .next t ∧ t.power.dev = .toIdle ∧ t.power.settNext = true ∧
      (∀ c : Clu, s.domUp c = true → t.on (.cpwr c) CPWR.STAT_HVEN = false)) ∧
  (∀ (s : State) (req : Req), s.open_ req .pwr = true →
    (s.power.dev = .toReady ∨ s.power.dev = .ready ∨ s.power.dev = .print) →
    exec (.reqReady req) s = .next { s with reply := .posted req.code }) ∧
  (∀ (s : State) (req : Req), s.open_ req .pwr = true → s.power.dev = .toIdle →
    exec (.reqSett req) s =
      .next { s with reply := .posted req.code, power := { s.power with settNext := true } } ∧
    exec (.reqIdle req) s = .next { s with reply := .posted req.code }) ∧
  (∀ (s : State) (req : Req), s.open_ req .pwr = true → s.power.dev = .toSett → s.power.sreIssued = true →
    ∃ t, exec (.reqIdle req) s = .next t ∧ t.power.dev = .toSett ∧ t.power.wakeHeld = true ∧
      t.on .pwr PWR.WAKE_CAUSE_WAKE_REQ = true) ∧
  (∀ (s : State) (req : Req), s.open_ req .pwr = true → s.power.dev = .toSett → s.power.sreIssued = false →
    ∃ t, exec (.reqIdle req) s = .next t ∧ t.power.dev = .idle ∧ t.on .pwr PWR.WAKE_CAUSE_WAKE_REQ = true) ∧
  (∀ (s : State) (req : Req), s.open_ req .pwr = true → s.power.dev = .fault → s.fatalCauses = 0 → s.hvpgs = 0 →
    ∃ t, exec (.reqIdle req) s = .next t ∧ t.power.dev = .idle ∧ t.pair.role = .solo ∧
      t.on .pwr HDR.PG_STAT_FAULT = false ∧ (∀ c : Clu, t.domUp c = false)) ∧
  (∀ (s : State) (req : Req), s.open_ req .pwr = true → s.power.dev = .fault → s.fatalCauses ≠ 0 ∨ s.hvpgs ≠ 0 →
    ∃ t, exec (.reqIdle req) s = .next t ∧ t.errorShown .pwr = s.errorAfter .pwr 0x20 ∧
      OnlyFields (errorFields .pwr) { s with reply := .posted req.code } t) ∧
  (∀ (s : State) (req : Req), s.open_ req .pwr = true → s.power.dev = .print →
    ∃ t, exec (.reqIdle req) s = .next t ∧ t.errorShown .pwr = s.errorAfter .pwr 0x20 ∧
      OnlyFields (errorFields .pwr) { s with reply := .posted req.code } t) ∧
  (∀ (s : State) (req : Req), s.open_ req .pwr = true →
    (s.power.dev = .toReady ∨ s.power.dev = .print ∨ s.power.dev = .fault) →
    ∃ t, exec (.reqSett req) s = .next t ∧ t.errorShown .pwr = s.errorAfter .pwr 0x20 ∧
      OnlyFields (errorFields .pwr) { s with reply := .posted req.code } t) ∧
  (∀ (s : State) (req : Req), s.open_ req .pwr = true →
    (s.power.dev = .toIdle ∨ s.power.dev = .toSett ∨ s.power.dev = .fault) →
    ∃ t, exec (.reqReady req) s = .next t ∧ t.errorShown .pwr = s.errorAfter .pwr 0x20 ∧
      OnlyFields (errorFields .pwr) { s with reply := .posted req.code } t) ∧
  (∀ (s : State) (req : Req), s.power.dev = .sett → s.power.wake ≠ .none →
    ∃ t, exec (.reqReady req) s = .next t ∧ t.errorShown .pwr = s.errorAfter .pwr 0x20 ∧
      OnlyFields (errorFields .pwr) s t)

/-- R29, R76, R77, R78, R84. Clusters up and down: the domain and its DLL, HVEN, HVPG, the failures and the retry, the way down,
and READY at the deadline. The model's own choices among these clauses are log entries 30, 56. -/
def Obligations.ClusterPower : Prop :=
  (∀ (s : State) (c : Clu) (code : BitVec 16) (qual : Word), s.power.dev = .toReady → s.power.sel.testBit c.val = true →
    s.domUp c = false → s.power.domOn = none → calInRange 6 code.toNat = true →
    ∃ t, exec (.clusterPowerOn c code qual) s = .next t ∧ t.domUp c = true ∧ t.on (.cpwr c) CPWR.STAT_DLL_LOCK = true ∧
      t.power.domOn = some s.dclk ∧ t.clusters[c].phase = .links ∧ t.rd .clk CLK.DCLK_CL c.val = 500) ∧
  (∀ (s : State) (c : Clu), s.power.dev = .toReady → s.clusters[c].phase = .links → s.hvMay c = true →
    ∃ t, exec (.hvenSet c) s = .next t ∧ t.on (.cpwr c) CPWR.STAT_HVEN = true ∧ t.clusters[c].phase = .hv ∧
      t.clusters[c].hvenAt = s.dclk ∧ OnlyFields [(.cpwr c, CPWR.STAT_HVEN, 0)] { s with clusters := t.clusters } t) ∧
  (∀ (s : State) (c : Clu), s.power.dev = .toReady → s.on (.cpwr c) CPWR.STAT_HVPG = false → s.clusters[c].phase = .hv →
    s.intake.pages = [] →
    ∃ t, exec (.hvpgRise c) s = .next t ∧ t.on (.cpwr c) CPWR.STAT_HVPG = true ∧ t.clusters[c].phase = .ready ∧
      t.event (.cpwr c) 8 = true) ∧
  (∀ (s : State) (c : Clu), s.devUp = true → s.power.dev ≠ .ready → s.power.dev ≠ .print → s.clusters[c].phase = .hv →
    s.clusters[c].hvenAt + s.rd (.cpwr c) CPWR.HV_TIME_HV_TMO * 500000 ≤ s.dclk →
    ∃ t, exec (.hvTimeout c) s = .next t ∧ t.on (.cpwr c) CPWR.STAT_HVEN = false ∧
      t.errorShown (.cpwr c) = s.errorAfter (.cpwr c) 0x20 ∧ t.clusters[c].phase = .failed ∧
      OnlyFields ((.cpwr c, CPWR.STAT_HVEN, 0) :: errorFields (.cpwr c)) { s with clusters := t.clusters } t) ∧
  (∀ (s : State) (c : Clu), s.power.dev = .ready ∨ s.power.dev = .print → s.clusters[c].phase = .hv →
    s.clusters[c].retry = false → s.clusters[c].hvenAt + s.rd (.cpwr c) CPWR.HV_TIME_HV_TMO * 500000 ≤ s.dclk →
    ∃ t, exec (.hvTimeout c) s = .next t ∧ t.on (.cpwr c) CPWR.STAT_HVEN = false ∧
      t.errorShown (.cpwr c) = s.errorAfter (.cpwr c) 0x20 ∧ t.event (.cpwr c) 11 = true ∧
      t.clusters[c].tryAt = s.clusters[c].hvenAt + 500000000) ∧
  (∀ (s : State) (c : Clu), s.devUp = true → s.on (.cpwr c) CPWR.STAT_HVEN = true → s.on (.cpwr c) CPWR.STAT_HVPG = true →
    (∀ l ∈ Clu.lanes c, s.lanes[l].st = .off) →
    ∃ t, exec (.hvpgLost c) s = .next t ∧ t.on (.cpwr c) CPWR.STAT_HVEN = false ∧ t.on (.cpwr c) CPWR.STAT_HVPG = false ∧
      t.event (.cpwr c) 9 = true ∧ t.errorShown (.cpwr c) = s.errorAfter (.cpwr c) 0x21 ∧ t.clusters[c].phase = .failed) ∧
  (∀ (s : State) (c : Clu), s.devUp = true → s.power.dev ≠ .fault → s.on (.cpwr c) CPWR.STAT_HVPG = true →
    s.on (.cpwr c) CPWR.STAT_HVEN = false → s.clusters[c].phase = .fall →
    ∃ t, exec (.hvpgFall c) s = .next t ∧ t.on (.cpwr c) CPWR.STAT_HVPG = false ∧ t.event (.cpwr c) 9 = true ∧
      t.clusters[c].phase = .discharge ∧
      OnlyFields [(.cpwr c, CPWR.STAT_HVPG, 0), (.cpwr c, HDR.PG_EVT_RAW, 0)] { s with clusters := t.clusters } t) ∧
  (∀ (s : State) (c : Clu), s.power.dev = .ready ∨ s.power.dev = .print → s.clusters[c].phase = .failed →
    s.hvMay c = true → s.clusters[c].tryAt ≤ s.dclk →
    ∃ t, exec (.clusterRetry c) s = .next t ∧ t.on (.cpwr c) CPWR.STAT_HVEN = true ∧ t.clusters[c].phase = .hv ∧
      OnlyFields [(.cpwr c, CPWR.STAT_HVEN, 0)] { s with clusters := t.clusters } t) ∧
  (∀ (s : State) (c : Clu), s.power.dev = .ready ∨ s.power.dev = .print → s.dclk < s.clusters[c].tryAt →
    exec (.clusterRetry c) s = .next s) ∧
  (∀ (s : State) (c : Clu), s.power.dev = .toIdle → s.clusters[c].phase = .discharge → s.domUp c = true →
    s.clusters[c].fellAt + s.rd (.cpwr c) CPWR.HV_TIME_HV_DIS_MS * 500000 ≤ s.dclk → s.bist.run = none →
    (∀ l ∈ Clu.lanes c, s.lanes[l].st = .off) →
    ∃ t, exec (.hvDischargeDone c) s = .next t ∧ t.domUp c = false ∧ t.on (.cpwr c) CPWR.STAT_DLL_LOCK = false ∧
      t.rd .clk CLK.DCLK_CL c.val = 0 ∧ t.clusters[c].phase = .off) ∧
  (∀ s : State, s.power.dev = .toReady → s.power.sel = 0 → s.power.spit = none → s.anyRun = false →
    s.power.readyFrom + (40 + s.power.readyTmo) * 500000 ≤ s.dclk →
    ∃ t, exec .toReadyDeadline s = .next t ∧ t.power.dev = .ready ∧ t.event .pwr 6 = true ∧
      OnlyFields [(.pwr, HDR.PG_EVT_RAW, 0), (.sys, HDR.PG_EVT_RAW, 0)] { s with power := { s.power with dev := .ready } } t) ∧
  (∀ s : State, s.power.dev = .toReady → s.power.sel = 1 → s.power.spit = none → s.anyRun = false →
    s.power.readyFrom + (40 + s.power.readyTmo) * 500000 ≤ s.dclk → s.clusters[(0 : Clu)].phase = .links →
    s.linksUp 0 = false →
    ∃ t, exec .toReadyDeadline s = .next t ∧ t.power.dev = .ready ∧ t.clusters[(0 : Clu)].phase = .failed ∧
      t.errorShown (.cpwr 0) = s.errorAfter (.cpwr 0) 0x24 ∧ t.event (.cpwr 0) 11 = true) ∧
  (∀ s : State, s.power.dev = .ready → s.rd .pwr PWR.READY_POL ≠ 0 → s.intake.pages = [] → s.allOff = false →
    s.power.calm = true → s.power.calmFrom + 500000000 * s.rd .pwr PWR.READY_POL ≤ s.dclk →
    ∃ t, exec .readyIdleTimeout s = .next t ∧ t.power.dev = .toIdle ∧
      (∀ c : Clu, s.domUp c = true → t.on (.cpwr c) CPWR.STAT_HVEN = false)) ∧
  (∀ (s : State) (c : Clu), s.devUp = true → s.domUp c = true → s.on (.cpwr c) CPWR.STAT_DLL_LOCK = true →
    s.bist.run = none →
    ∃ t, exec (.dllLockLoss c) s = .next t ∧ t.on (.cpwr c) CPWR.STAT_DLL_LOCK = false ∧
      (∀ l ∈ Clu.lanes c, s.lanes[l].st = .idle → s.awlFull l = false → t.lanes[l].st = .fault))

/-- R17, R63, R64, R66, R67, R70, R72, R80, R82, R84, R166. Sleep, the RTC's clock, operating points, PMBus polling and the
PLLs. The model's own choices among these clauses are log entries 34, 55, 58, 59. -/
def Obligations.SleepAndSupplies : Prop :=
  (∀ s : State, s.power.dev = .idle → s.on .pwr PWR.SLEEP_POL_AUTO_EN = true → s.power.grace = false → s.maySleep = true →
    s.power.sleepSees = 2 → s.power.sleepFrom + 500000000 * s.rd .pwr PWR.SLEEP_POL_IDLE_S ≤ s.dclk →
    ∃ t, exec .autoSleepDue s = .next t ∧ t.event .pwr 8 = true ∧ t.power.grace = true ∧ t.power.graceFrom = s.dclk ∧
      OnlyFields (eventField .pwr) { s with power := t.power } t) ∧
  (∀ s : State, s.power.dev = .idle → s.on .pwr PWR.SLEEP_POL_AUTO_EN = true → s.power.grace = false → s.maySleep = false →
    s.power.sleepSees = 1 → s.power.sleepFrom + 500000000 * s.rd .pwr PWR.SLEEP_POL_IDLE_S ≤ s.dclk →
    ∃ t, exec .autoSleepDue s = .next t ∧ t.errorShown .pwr = s.errorAfter .pwr 0x22 ∧ t.power.sleepFrom = s.dclk ∧
      t.power.grace = false ∧ OnlyFields (errorFields .pwr) { s with power := t.power } t) ∧
  (∀ s : State, s.power.sleepSees ≠ s.sleepSight → s.rd .pwr PWR.SLEEP_POL_IDLE_S ≠ 0 →
    ∃ t, exec .autoSleepDue s = .next t ∧ t.power.sleepFrom = s.dclk ∧ t.power.grace = s.power.grace ∧
      t = { s with power := t.power }) ∧
  (∀ s : State, s.power.dev = .idle → s.power.grace = true → s.ddrState = ddrActive →
    s.power.graceFrom + 5000000 * s.rd .pwr PWR.SLEEP_POL_GRACE ≤ s.dclk →
    ∃ t, exec .sleepGraceEnd s = .next t ∧ t.power.dev = .toSett ∧ t.power.grace = false ∧ t.ddrState = ddrEntry) ∧
  (∀ s : State, s.power.dev = .idle → s.power.grace = false → exec .sleepGraceEnd s = .next s) ∧
  (∀ s : State, s.power.dev = .toSett → s.ddrState = ddrSelf → s.power.wakeHeld = false →
    ∃ t, exec .settEntryComplete s = .next t ∧ t.power.dev = .sett ∧ t.power.wake = .none ∧ t.power.pen0 = false ∧
      t.power.pen1 = false ∧ t.ddr.mem = s.ddr.mem ∧ t.pending = s.pending ∧ t.out = s.out ∧ t.den.mram = s.den.mram ∧
      t.rd .aon AON.RTC_SEC = s.rd .aon AON.RTC_SEC) ∧
  (∀ s : State, s.power.dev = .toSett → s.ddrState = ddrSelf → s.power.wakeHeld = true →
    ∃ t, exec .settEntryComplete s = .next t ∧ t.power.dev = .sett ∧ t.power.wake = .pgood0 ∧ t.power.warm = true) ∧
  (∀ s : State, s.power.dev ≠ .off →
    ∃ t, exec .x32Fail s = .next t ∧ t.on .aon AON.RTC_CTRL_X32_FAIL = true ∧ t.on .aon AON.RTC_CTRL_X32_RUN = false ∧
      OnlyFields [(.aon, AON.RTC_CTRL_X32_FAIL, 0), (.aon, AON.RTC_CTRL_X32_RUN, 0)] s t) ∧
  (∀ s : State, s.power.dev ≠ .off →
    ∃ t, exec .x32Restore s = .next t ∧ t.on .aon AON.RTC_CTRL_X32_RUN = true ∧
      OnlyFields [(.aon, AON.RTC_CTRL_X32_RUN, 0)] s t) ∧
  (∀ (s : State) (sec sub : Nat), s.power.rtcLoad = some (sec, sub) →
    ∃ t, exec .rtcLoadApply s = .next t ∧ t.rd .aon AON.RTC_SEC = sec % 2 ^ 32 ∧ t.rd .aon AON.RTC_SUB = sub % 2 ^ 15 ∧
      OnlyFields [(.aon, AON.RTC_SEC, 0), (.aon, AON.RTC_SUB, 0)] { s with power := { s.power with rtcLoad := none } } t) ∧
  (∀ s : State, s.power.dev = .idle → s.ddrState = ddrActive → s.on .ddr DDR.SR_CTRL_AUTO_EN = true → s.cal.runs = [] →
    s.ddr.queue = [] → s.ddr.window = [] → s.ddr.lastReq + 500 * s.rd .ddr DDR.SR_CTRL_AUTO_US ≤ s.dclk →
    ∃ t, exec .autoSrTimeout s = .next t ∧ t.ddrState = ddrEntry ∧
      OnlyFields spoolStateFields { s with cal := t.cal } t) ∧
  (∀ (s : State) (c : Clu), s.devUp = true → s.domUp c = true → s.clusters[c].opTo = none → s.clusters[c].opWas = none →
    s.opTarget c < s.rd (.cpwr c) CPWR.STAT_OP_ACT → s.opKeeps c (s.opTarget c) = true → s.pageNames c = false →
    ∃ t, exec (.opChange c) s = .next t ∧ t.clusters[c].opTo = some (s.opTarget c) ∧
      t.clusters[c].vcl = opMv (s.opTarget c) ∧ t = { s with clusters := t.clusters }) ∧
  (∀ (s : State) (c : Clu), s.devUp = true → s.domUp c = true → s.clusters[c].opTo = none → s.clusters[c].opWas = none →
    s.rd (.cpwr c) CPWR.STAT_OP_ACT < s.opTarget c → s.opTarget c < 4 → s.opKeeps c (s.opTarget c) = true →
    s.pageNames c = false → s.cal.runs = [] →
    ∃ t, exec (.opChange c) s = .next t ∧ t.clusters[c].opTo = some (s.opTarget c) ∧
      t.clusters[c].vcl = s.clusters[c].vcl ∧ t.on (.cpwr c) CPWR.STAT_DLL_LOCK = false ∧
      t.rd (.cpwr c) CPWR.STAT_OP_ACT = s.opTarget c ∧ t.rd .clk CLK.DCLK_CL c.val = opMHz (s.opTarget c)) ∧
  (∀ (s : State) (c : Clu), s.devUp = true → s.domUp c = true → s.clusters[c].opTo = none → s.clusters[c].opWas = none →
    s.opTarget c ≠ s.rd (.cpwr c) CPWR.STAT_OP_ACT → s.opKeeps c (s.opTarget c) = false →
    ∃ t, exec (.opChange c) s = .next t ∧ t.errorShown (.cpwr c) = s.errorAfter (.cpwr c) 0x22 ∧
      OnlyFields (errorFields (.cpwr c)) s t) ∧
  (∀ (s : State) (c : Clu), s.devUp = true → s.domUp c = true → s.clusters[c].opTo = none → s.clusters[c].opWas = none →
    s.opTarget c ≠ s.rd (.cpwr c) CPWR.STAT_OP_ACT → s.opKeeps c (s.opTarget c) = true → s.pageNames c = true →
    ∃ t, exec (.opChange c) s = .next t ∧ t.errorShown (.cpwr c) = s.errorAfter (.cpwr c) 0x23 ∧
      OnlyFields (errorFields (.cpwr c)) s t) ∧
  (∀ (s : State) (c : Clu) (op : Nat), s.clusters[c].opTo = some op → s.devUp = true → s.cal.runs = [] → op < 4 →
    s.rd (.cpwr c) CPWR.STAT_OP_ACT ≠ op → s.opKeeps c op = true →
    ∃ t, exec (.opChangeDone c) s = .next t ∧ t.rd (.cpwr c) CPWR.STAT_OP_ACT = op ∧
      t.rd .clk CLK.DCLK_CL c.val = opMHz op ∧ t.event (.cpwr c) 10 = true ∧ t.clusters[c].opTo = none ∧
      t.clusters[c].vcl = s.clusters[c].vcl) ∧
  (∀ (s : State) (c : Clu) (op : Nat), s.clusters[c].opTo = some op → s.devUp = true →
    s.rd (.cpwr c) CPWR.STAT_OP_ACT = op →
    ∃ t, exec (.opChangeDone c) s = .next t ∧ t.on (.cpwr c) CPWR.STAT_DLL_LOCK = true ∧ t.event (.cpwr c) 10 = true ∧
      t.clusters[c].opTo = none ∧ t.clusters[c].vcl = opMv op ∧
      OnlyFields [(.cpwr c, CPWR.STAT_DLL_LOCK, 0), (.cpwr c, HDR.PG_EVT_RAW, 0)] { s with clusters := t.clusters } t) ∧
  (∀ (s : State) (c : Clu) (op : Nat), s.clusters[c].opTo = some op → s.devUp = true →
    s.rd (.cpwr c) CPWR.STAT_OP_ACT ≠ op → s.opKeeps c op = false →
    ∃ t, exec (.opChangeDone c) s = .next t ∧ t.errorShown (.cpwr c) = s.errorAfter (.cpwr c) 0x22 ∧
      t.clusters[c].opTo = none ∧ t.clusters[c].vcl = opMv (s.rd (.cpwr c) CPWR.STAT_OP_ACT) ∧
      OnlyFields (errorFields (.cpwr c)) { s with clusters := t.clusters } t) ∧
  (∀ s : State, s.devUp = true → s.on .pmb HDR.PG_CTRL_EN = true → s.power.pmb = [] →
    ∃ t, exec .pmbPoll s = .next t ∧
      t = { s with out := t.out, power := { s.power with
        pmb := ((List.range 16).filter fun k => s.on .pmb PMB.RAIL_CFG_VALID k).map fun k => (k, 0) } } ∧
      (∀ k : Fin 16, s.on .pmb PMB.RAIL_CFG_VALID k.val = true →
        ∀ c ∈ ([.voutMode, .statusWord, .readVout, .readIout] : List PmbCmd),
          Out.pmb k.val (s.rd .pmb PMB.RAIL_CFG_ADDR k.val) (s.rd .pmb PMB.RAIL_CFG_PAGE k.val) c 0 ∈ t.out)) ∧
  (∀ (s : State) (r : Fin 16) (n : Nat) (st v i : BitVec 16), s.power.pmb = [(r.val, n)] → s.devUp = true →
    (statusFault st.toNat = false ∨ s.on .pmb PMB.RAIL_CFG_CRIT r.val = false) →
    ∃ t, exec (.pmbTransferDone r (.done st v i)) s = .next t ∧ t.rd .pmb PMB.RAIL_STAT r.val = st.toNat ∧
      t.rd .pmb PMB.RAIL_MEAS_VOUT r.val = v.toNat ∧ t.rd .pmb PMB.RAIL_MEAS_IOUT r.val = i.toNat ∧
      OnlyFields [(.pmb, PMB.RAIL_STAT, r.val), (.pmb, PMB.RAIL_MEAS_VOUT, r.val), (.pmb, PMB.RAIL_MEAS_IOUT, r.val)]
        { s with power := { s.power with pmb := [] } } t) ∧
  (∀ (s : State) (r : Fin 16) (st v i : BitVec 16), (s.power.pmb.find? fun e => e.1 == r.val).isSome = true →
    s.devUp = true → s.power.dev ≠ .fault → s.on .pmb PMB.RAIL_CFG_CRIT r.val = true →
    statusFault st.toNat = true →
    ∃ t, exec (.pmbTransferDone r (.done st v i)) s = .next t ∧ t.power.dev = .fault ∧
      t.on .pwr PWR.FAULT_CAUSE_PMB_CRIT = true ∧ t.errorShown .pmb = s.errorAfter .pmb 0x22) ∧
  (∀ (s : State) (r : Fin 16) (n : Nat), s.power.pmb = [(r.val, n)] → n < 2 → s.devUp = true →
    ∃ t, exec (.pmbTransferDone r .nack) s = .next t ∧ t.errorShown .pmb = s.errorAfter .pmb 0x20 ∧
      OnlyFields (errorFields .pmb) { s with out := t.out, power := { s.power with pmb := [(r.val, n + 1)] } } t) ∧
  (∀ (s : State) (r : Fin 16), s.power.pmb = [(r.val, 2)] → s.devUp = true → s.errorShown .pmb = none →
    s.on .pmb PMB.CTRL_PEC = true → s.on .pmb PMB.RAIL_CFG_CRIT r.val = false →
    ∃ t, exec (.pmbTransferDone r .pec) s = .next t ∧ t.errorShown .pmb = some 0x321 ∧
      t.rd .pmb HDR.PG_ERR_CODE_COUNT = 2 ∧
      (s.on .pmb PMB.RAIL_CFG_VALID r.val = true →
        Out.pmb r.val (s.rd .pmb PMB.RAIL_CFG_ADDR r.val) (s.rd .pmb PMB.RAIL_CFG_PAGE r.val) .clearFaults 0 ∈ t.out) ∧
      OnlyFields (errorFields .pmb) { s with out := t.out, power := { s.power with pmb := [] } } t) ∧
  (∀ (s : State) (r : Fin 16) (n : Nat), s.power.pmb = [(r.val, n)] → s.devUp = true →
    ∃ t, exec (.pmbTransferDone r .badMode) s = .next t ∧ t.errorShown .pmb = s.errorAfter .pmb 0x23 ∧
      OnlyFields (errorFields .pmb) { s with power := { s.power with pmb := [] } } t) ∧
  (∀ s : State, exec .pmbAlert s = .next s) ∧
  (∀ (s : State) (p : Pll), s.devUp = true → s.on .clk (Pll.lockRow p) = true → s.power.dev ≠ .print → s.bist.run = none →
    ∃ t, exec (.pllUnlock p) s = .next t ∧ t.on .clk (Pll.lockRow p) = false ∧ t.event .clk 8 = true ∧
      OnlyFields [(.clk, Pll.lockRow p, 0), (.clk, HDR.PG_EVT_RAW, 0)] s t) ∧
  (∀ (s : State) (l : Lane), s.power.dev = .print → s.on .clk CLK.LOCK_FCLK = true → s.lanes[l].st = .firing →
    s.awlFull l = false →
    ∃ t, exec (.pllUnlock .fclk) s = .next t ∧ t.on .clk CLK.LOCK_FCLK = false ∧ t.lanes[l].st = .fault)

/-- R73, R74, R75. Keep-wet bursts: a burst that falls due is skipped and counted, or begins; its lines are sent one per expiry
of the FREQ timer, and the device returns to the state it started from. The model's own choices among these clauses are log
entries 31, 56. -/
def Obligations.KeepWet : Prop :=
  (∀ s : State, s.power.dev ≠ .off → s.on .aon AON.SPIT_CTRL_EN = true → s.power.spit = none →
    s.rd .aon AON.SPIT_INT_INTERVAL ≤ s.power.dry → s.spitSkips = true →
    ∃ t, exec .spitTimerExpiry s = .next t ∧ t.event .aon 16 = true ∧
      t.rd .aon AON.SPIT_SKIP = min (s.rd .aon AON.SPIT_SKIP + 1) (2 ^ 32 - 1) ∧
      OnlyFields [(.aon, AON.SPIT_SKIP, 0), (.aon, HDR.PG_EVT_RAW, 0)] { s with power := { s.power with dry := 0 } } t) ∧
  (∀ s : State, s.power.dev = .sett → s.on .aon AON.SPIT_CTRL_EN = true → s.power.spit = none →
    s.rd .aon AON.SPIT_INT_INTERVAL ≤ s.power.dry → s.spitSkips = false → (s.rd .aon AON.WAKE_EN).testBit 1 = true →
    s.power.wake = .none →
    ∃ t, exec .spitTimerExpiry s = .next t ∧ t.on .pwr PWR.WAKE_CAUSE_SPIT = true ∧ t.power.wake = .pgood0 ∧
      t.power.spit = some { origin := .sett, left := s.rd .aon AON.SPIT_CTRL_DROPS } ∧
      OnlyFields [(.pwr, PWR.WAKE_CAUSE_SPIT, 0)] { s with power := t.power } t) ∧
  (∀ s : State, s.power.dev = .idle → s.on .aon AON.SPIT_CTRL_EN = true → s.power.spit = none →
    s.rd .aon AON.SPIT_INT_INTERVAL ≤ s.power.dry → s.spitSkips = false →
    (s.rd .pwr PWR.CLU_SEL &&& s.rd .sys SYS.DEV_ID_CL_MASK) % 256 ≠ 0 →
    s.allOff = true →
    ∃ t, exec .spitTimerExpiry s = .next t ∧ t.power.dev = .toReady ∧
      t.power.spit = some { origin := .idle, left := s.rd .aon AON.SPIT_CTRL_DROPS } ∧
      t.power.sel = s.rd .pwr PWR.CLU_SEL &&& s.rd .sys SYS.DEV_ID_CL_MASK) ∧
  (∀ (s : State) (r : SpitRun), s.power.spit = some r → r.sending = true → 0 < r.left → s.power.dev = .ready →
    s.spitScanned = true → s.spitPaced r = true →
    ∃ t, exec .spitLine s = .next t ∧ t.power.spit = some { r with left := r.left - 1, last := some s.dclk } ∧ t.power.dev = .ready ∧
      (∀ l : Lane, s.lanes[l].spit = false → t.lanes[l] = s.lanes[l])) ∧
  (∀ s : State, s.power.dev = .ready → s.on .aon AON.SPIT_CTRL_EN = true → s.power.spit = none →
    s.rd .aon AON.SPIT_INT_INTERVAL ≤ s.power.dry → s.spitSkips = false →
    (s.rd .pwr PWR.CLU_SEL &&& s.rd .sys SYS.DEV_ID_CL_MASK) % 256 ≠ 0 → s.allOff = true →
    ∃ t, exec .spitTimerExpiry s = .next t ∧
      t.power.spit = some { origin := .ready, left := s.rd .aon AON.SPIT_CTRL_DROPS } ∧
      t.power.sel = s.rd .pwr PWR.CLU_SEL &&& s.rd .sys SYS.DEV_ID_CL_MASK ∧ t.power.readyFrom = s.dclk ∧
      t = { s with power := t.power }) ∧
  (∀ (s : State) (r : SpitRun), s.power.spit = some r → s.spitPaced r = false → exec .spitLine s = .next s) ∧
  (∀ (s : State) (r : SpitRun), s.power.spit = some r → (r.sending = false ∨ r.left = 0) → exec .spitLine s = .next s) ∧
  (∀ (s : State) (r : SpitRun), s.power.spit = some r → r.sending = true → r.left = 0 → r.origin = .ready →
    ∃ t, exec .spitBurstDone s = .next t ∧ t.power = { s.power with spit := none, dry := 0 } ∧ t.event .aon 15 = true ∧
      t.rd .aon AON.SPIT_CNT = min (s.rd .aon AON.SPIT_CNT + 1) (2 ^ 32 - 1) ∧
      (∀ l : Lane, t.lanes[l].spit = false) ∧
      OnlyFields [(.aon, AON.SPIT_CNT, 0), (.aon, HDR.PG_EVT_RAW, 0)] { s with power := t.power, lanes := t.lanes } t) ∧
  (∀ (s : State) (r : SpitRun), s.power.spit = some r → r.sending = true → r.left = 0 → r.origin = .idle →
    s.power.dev = .ready → s.power.settNext = false →
    ∃ t, exec .spitBurstDone s = .next t ∧ (t.power.dev = .toIdle ∨ t.power.dev = .idle) ∧ t.power.spit = none ∧
      t.event .aon 15 = true)

/-- R35, R38, R39, R40, R41, R42. `PG_CTRL`: INIT, LOCK, COMMIT and CANCEL, the codes each is refused with, and a commit taking
effect in a page gap and at no other moment of its own. The model's own choices among these clauses are log entries 37, 53,
54. -/
def Obligations.PageControl : Prop :=
  (∀ (s : State) (req : Req) (p : Page) (d : Word), s.open_ req p = true → s.run p = false →
    (fixedEn p || isDdrs p) = true ∨ bit d.toNat 0 = s.on p HDR.PG_CTRL_EN → bit d.toNat 2 = false → bit d.toNat 8 = false →
    ∃ t, exec (.pgInit req p d) s = .next t ∧ t.pend p = false ∧
      (∀ r ∈ pageStaged p, ∀ i : Nat, i < r.count → t.rdStaged p r i = r.reset)) ∧
  (∀ (s : State) (req : Req) (d : Word), s.open_ req .evt = true →
    bit d.toNat 2 = false → bit d.toNat 8 = false →
    ∃ t, exec (.pgInit req .evt d) s = .next t ∧
      (∀ k : Fin 136, t.on .evt EVT.ROUTE_HOST_EN k.val = false ∧ t.rd .evt EVT.ROUTE_VEC k.val = 0) ∧
      OtherPages [.evt] s t) ∧
  (∀ (s : State) (req : Req) (p : Page) (d : Word), s.open_ req p = true → s.run p = true →
    ∃ t, exec (.pgInit req p d) s = .next t ∧ t.errorShown p = s.errorAfter p 0x01 ∧
      OnlyFields (errorFields p) { s with reply := .posted req.code } t) ∧
  (∀ (s : State) (req : Req) (p : Page) (d : Word), s.open_ req p = true → s.run p = false → bit d.toNat 1 = false →
    (fixedEn p || isDdrs p) = true ∨ bit d.toNat 0 = s.on p HDR.PG_CTRL_EN → bit d.toNat 12 = false → bit d.toNat 8 = false →
    ∃ t, exec (.pgLock req p d) s = .next t ∧ t.on p HDR.PG_CTRL_LOCK = true ∧
      t.rd p HDR.PG_CTRL_COMMIT_AT = bits d.toNat 11 9 ∧
      OnlyFields [(p, HDR.PG_CTRL_LOCK, 0), (p, HDR.PG_CTRL_COMMIT_AT, 0)] { s with reply := .posted req.code } t) ∧
  (∀ (s : State) (req : Req) (p : Page) (d : Word), s.open_ req p = true → s.run p = true → s.on p HDR.PG_CTRL_LOCK = false →
    ∃ t, exec (.pgLock req p d) s = .next t ∧ t.errorShown p = s.errorAfter p 0x01 ∧
      OnlyFields (errorFields p) { s with reply := .posted req.code } t) ∧
  (∀ (s : State) (req : Req) (p : Page) (k : Fin 5), s.open_ req p = true → s.run p = false → s.pend p = false →
    isAx p = false → (fixedEn p || isDdrs p) = true ∨ s.on p HDR.PG_CTRL_EN = false → s.commitBad req p k.val = none →
    (∀ l : Lane, p = .lne l → s.rd (.lne l) LNE.AWL_STAT_STATE ≠ 2) →
    ∃ t, exec (.commit req p (BitVec.ofNat 32 (512 * k.val))) s = .next t ∧ Committed s p t ∧ t.pend p = false ∧
      t.event p 1 = true) ∧
  (∀ (s : State) (req : Req) (p : Page) (k : Fin 5), s.open_ req p = true → s.run p = true → s.pend p = false →
    isAx p = false → (fixedEn p || isDdrs p) = true ∨ s.on p HDR.PG_CTRL_EN = false → s.commitBad req p k.val = none →
    s.boundaryBad p k.val = none → k.val ≠ 0 →
    ∃ t, exec (.commit req p (BitVec.ofNat 32 (512 * k.val))) s = .next t ∧ t.pend p = true ∧
      t.rd p HDR.PG_STAT_PEND_AT = k.val ∧ t.commits = s.commits ++ [(p, s.dclk)] ∧
      OnlyFields [(p, HDR.PG_CTRL_COMMIT_AT, 0), (p, HDR.PG_STAT_COMMIT_PEND, 0), (p, HDR.PG_STAT_PEND_AT, 0)]
        { s with reply := .posted req.code, commits := t.commits, lanes := t.lanes, intake := { s.intake with
          checked := t.intake.checked } } t) ∧
  (∀ (s : State) (req : Req) (p : Page) (k : Fin 8), s.open_ req p = true → s.pend p = true →
    (fixedEn p || isDdrs p) = true ∨ s.on p HDR.PG_CTRL_EN = false →
    ∃ t, exec (.commit req p (BitVec.ofNat 32 (512 * k.val))) s = .next t ∧ t.errorShown p = s.errorAfter p 0x04 ∧
      OnlyFields (errorFields p) { s with reply := .posted req.code } t) ∧
  (∀ (s : State) (req : Req) (p : Page) (k : Fin 8), s.open_ req p = true → s.pend p = false → 5 ≤ k.val →
    (fixedEn p || isDdrs p) = true ∨ s.on p HDR.PG_CTRL_EN = false →
    ∃ t, exec (.commit req p (BitVec.ofNat 32 (512 * k.val))) s = .next t ∧ t.errorShown p = s.errorAfter p 0x06 ∧
      OnlyFields ((p, HDR.PG_CTRL_COMMIT_AT, 0) :: errorFields p) { s with reply := .posted req.code } t) ∧
  (∀ (s : State) (req : Req) (l : Lane) (k : Fin 5), s.open_ req (.seq l) = true → s.pend (.seq l) = false →
    s.on (.seq l) HDR.PG_CTRL_EN = false →
    s.rdStaged (.seq l) SEQ.GUARD_E_WE < s.rdStaged (.seq l) SEQ.GUARD_E_NE →
    ∃ t, exec (.commit req (.seq l) (BitVec.ofNat 32 (512 * k.val))) s = .next t ∧
      t.errorShown (.seq l) = s.errorAfter (.seq l) 0x05 ∧
      OnlyFields ((.seq l, HDR.PG_CTRL_COMMIT_AT, 0) :: errorFields (.seq l)) { s with reply := .posted req.code } t) ∧
  (∀ (s : State) (req : Req) (p : Page), s.open_ req p = true → s.pend p = true → p.lane = none →
    (fixedEn p || isDdrs p) = true ∨ s.on p HDR.PG_CTRL_EN = false →
    ∃ t, exec (.cancel req p 0) s = .next t ∧ t.pend p = false ∧
      OnlyFields [(p, HDR.PG_CTRL_COMMIT_AT, 0), (p, HDR.PG_STAT_COMMIT_PEND, 0), (p, HDR.PG_STAT_PEND_AT, 0)]
        { s with reply := .posted req.code, commits := s.commits.filter fun e => e.1 != p } t) ∧
  (∀ (s : State) (req : Req) (p : Page), s.open_ req p = true → s.pend p = false →
    (fixedEn p || isDdrs p) = true ∨ s.on p HDR.PG_CTRL_EN = false →
    ∃ t, exec (.cancel req p 0) s = .next t ∧
      OnlyFields [(p, HDR.PG_CTRL_COMMIT_AT, 0)] { s with reply := .posted req.code } t) ∧
  (∀ (s : State) (p : Page) (t0 : Nat), s.devUp = true → s.pend p = true → s.commits = [(p, t0)] → t0 + 2 ≤ s.dclk →
    isAx p = false → s.rd p HDR.PG_STAT_PEND_AT = 4 → s.inGap p = true →
    (∀ l : Lane, p = .lne l → s.rd (.lne l) LNE.AWL_STAT_STATE ≠ 2) →
    ∃ t, exec (.commitDone p) s = .next t ∧ Committed s p t ∧ t.pend p = false ∧ t.event p 1 = true ∧ t.commits = []) ∧
  (∀ (s : State) (p : Page), isAx p = false → s.rd p HDR.PG_STAT_PEND_AT ≠ 4 ∨ s.inGap p = false →
    exec (.commitDone p) s = .next s) ∧
  (∀ (s : State) (p : Page) (t0 : Nat), s.commits = [(p, t0)] → s.dclk < t0 + 2 → exec (.commitDone p) s = .next s)

/-- R38, R39, R45, R47, R67. Writes by address: each fabric error in its order, the page untouched; an RW register on arrival,
and not while RUN; a read-only register ignored; a value outside its encoding refused; and a host write in the grace wait of
auto-sleep. The model's own choices among these clauses are log entries 8, 69. -/
def Obligations.RegisterWrites : Prop :=
  (∀ (s : State) (req : Req) (a d : Word) (be : BitVec 4) (h : Option Word), s.devUp = true → s.hostCut req = false →
    s.power.grace = false → Req.isCore req = false ∨ a.toNat < 0x2000000 → Target.ofAddr a.toNat = .unmapped →
    ∃ t, exec (.registerWrite req a be ⟨d, h⟩) s = .next t ∧ FabError s 1 req.code true a.toNat t) ∧
  (∀ (s : State) (req : Req) (a d : Word) (be : BitVec 4) (h : Option Word) (p : Page) (off : Nat) (c : Clu), s.devUp = true →
    s.hostCut req = false → s.power.grace = false → Target.ofAddr a.toNat = .page p off → p.cluster = some c → s.cluPresent c = false →
    ∃ t, exec (.registerWrite req a be ⟨d, h⟩) s = .next t ∧ FabError s 2 req.code true a.toNat t) ∧
  (∀ (s : State) (req : Req) (a d : Word) (be : BitVec 4) (h : Option Word) (p : Page) (off : Nat) (c : Clu), s.devUp = true →
    s.hostCut req = false → s.power.grace = false → Target.ofAddr a.toNat = .page p off → p.cluster = some c → s.cluPresent c = true →
    s.domUp c = false → p ≠ .cpwr c →
    ∃ t, exec (.registerWrite req a be ⟨d, h⟩) s = .next t ∧ FabError s 3 req.code true a.toNat t) ∧
  (∀ (s : State) (req : Req) (a d : Word) (be : BitVec 4) (h : Option Word) (p : Page) (off : Nat), s.devUp = true →
    s.hostCut req = false → s.power.grace = false → Target.ofAddr a.toNat = .page p off → p.cluster = none → s.inTest p = true →
    ∃ t, exec (.registerWrite req a be ⟨d, h⟩) s = .next t ∧ FabError s 4 req.code true a.toNat t) ∧
  (∀ (s : State) (req : Req) (a d : Word) (be : BitVec 4) (h : Option Word) (p : Page) (off : Nat), s.devUp = true →
    s.hostCut req = false → s.power.grace = false → Target.ofAddr a.toNat = .page p off → s.accessError (.page p off) true = none →
    be ≠ 15 ∨ (h = none ∧ a.toNat % 4 ≠ 0) ∨ (h ≠ none ∧ wholePair (.page p off) a.toNat = false) →
    ∃ t, exec (.registerWrite req a be ⟨d, h⟩) s = .next t ∧ FabError s 5 req.code true a.toNat t) ∧
  (∀ (s : State) (req : Req) (wr : Bool) (a : Word), s.devUp = true → s.hostCut req = false →
    s.accessError (Target.ofAddr a.toNat) (a.toNat % 4 == 0) = none →
    ∃ t, exec (.accessTimeout req wr a) s = .next t ∧ FabError s 6 req.code wr a.toNat t) ∧
  (∀ (s : State) (req : Req) (wr : Bool) (a : Word) (nn : Nat), s.devUp = true → s.hostCut req = false →
    s.accessError (Target.ofAddr a.toNat) (a.toNat % 4 == 0) = some nn →
    ∃ t, exec (.accessTimeout req wr a) s = .next t ∧ FabError s nn req.code wr a.toNat t) ∧
  (∀ (s : State) (req : Req) (p : Page) (a d : Word), s.open_ req p = true → a.toNat = p.base + 0x18 → s.run p = false →
    ∃ t, exec (.registerWrite req a 15 ⟨d, none⟩) s = .next t ∧ t.rd p HDR.PG_EVT_EN = d.toNat ∧
      OnlyFields ((p, HDR.PG_EVT_EN, 0) :: pbaFields) { s with reply := .posted req.code, out := t.out, vecWas := t.vecWas } t) ∧
  (∀ (s : State) (req : Req) (p : Page) (a d : Word), s.open_ req p = true → a.toNat = p.base + 0x18 → s.run p = true →
    s.rd p HDR.PG_EVT_EN ≠ d.toNat →
    ∃ t, exec (.registerWrite req a 15 ⟨d, none⟩) s = .next t ∧ t.errorShown p = s.errorAfter p 0x01 ∧
      (s.errorShown p = none → t.rd p HDR.PG_ERR_INFO = 0x18 + req.code * 0x1000) ∧
      OnlyFields (errorFields p ++ pbaFields) { s with reply := .posted req.code, out := t.out, vecWas := t.vecWas } t) ∧
  (∀ (s : State) (req : Req) (p : Page) (a d : Word), s.open_ req p = true → a.toNat = p.base →
    ∃ t, exec (.registerWrite req a 15 ⟨d, none⟩) s = .next t ∧
      OnlyFields pbaFields { s with reply := .posted req.code, out := t.out, vecWas := t.vecWas } t ∧
      (p ≠ .evt → p ≠ .pci → OnlyFields [] { s with reply := .posted req.code } t)) ∧
  (∀ (s : State) (req : Req) (d : Word), s.open_ req .pmb = true → d.toNat % 4 = 3 → s.rd .pmb PMB.CTRL_SPEED ≠ 3 →
    ∃ t, exec (.registerWrite req 0x3040 15 ⟨d, none⟩) s = .next t ∧ t.errorShown .pmb = s.errorAfter .pmb 0x03 ∧
      OnlyFields (errorFields .pmb) { s with reply := .posted req.code } t) ∧
  (∀ (s : State) (d : Word), s.power.dev = .idle → s.power.grace = true → s.intake.d3hot = false →
    s.bist.pages = [] →
    ∃ t, exec (.registerWrite .host 0x61040 15 ⟨d, none⟩) s = .next t ∧ t.power.grace = false ∧ t.event .pwr 9 = true ∧
      t.rd .gio GIO.CTRL = d.toNat % 2)

/-- R45, R48, R50, R206, R207, R253, R332. Reads and 64-bit pairs: a read changes no register; a word of a table window and a
pair read whole return what stands there, and TIME_FRAC the fraction captured with TIME; the low word of a pair or of a fire
count captures, or is held; the high word returns what was captured, or makes the pair take effect, and a high word alone
does neither; an access the fabric refuses ends with its fabric error. The model's own choices among these clauses are log
entries 7, 98. -/
def Obligations.RegisterPairs : Prop :=
  (∀ (s : State) (req : Req) (a : Word) (p : Page) (off : Nat), s.devUp = true → s.hostCut req = false →
    Target.ofAddr a.toNat = .page p off → s.accessError (.page p off) true = none → a.toNat % 4 = 0 → isPair p off = true →
    ∃ t, exec (.pairLowRead req a false) s = .next t ∧ t.reply = .data req.code (s.readReg p off % 2 ^ 32) ∧
      heldOf t.captured req.code (p.base + off) = some (s.readReg p off / 2 ^ 32) ∧
      t = { s with reply := t.reply, captured := t.captured }) ∧
  (∀ (s : State) (req : Req) (a : Word) (p : Page) (off v : Nat), s.devUp = true → s.hostCut req = false →
    Target.ofAddr a.toNat = .page p off → s.accessError (.page p off) true = none → a.toNat % 4 = 0 →
    isPair p off = false → isHigh p off = true → heldOf s.captured req.code (p.base + off - 4) = some v →
    ∃ t, exec (.pairLowRead req a false) s = .next t ∧ t.reply = .data req.code v ∧
      heldOf t.captured req.code (p.base + off - 4) = none ∧ t = { s with reply := t.reply, captured := t.captured }) ∧
  (∀ (s : State) (req : Req) (a : Word) (p : Page) (off : Nat), s.devUp = true → s.hostCut req = false →
    Target.ofAddr a.toNat = .page p off → s.accessError (.page p off) true = none → a.toNat % 4 = 0 →
    isPair p off = false → isHigh p off = true → heldOf s.captured req.code (p.base + off - 4) = none →
    ∃ t, exec (.pairLowRead req a false) s = .next t ∧
      t.reply = .data req.code (s.readReg p (off - 4) / 2 ^ 32 % 2 ^ 32) ∧
      t = { s with reply := t.reply, captured := t.captured }) ∧
  (∀ (s : State) (req : Req) (a : Word) (p : Page) (off : Nat), s.devUp = true → s.hostCut req = false →
    Target.ofAddr a.toNat = .page p off → s.accessError (.page p off) true = none → a.toNat % 4 = 0 →
    isPair p off = false → isHigh p off = false → p ≠ .tim ∨ off ≠ 0x48 →
    exec (.pairLowRead req a false) s = .next { s with reply := .data req.code (s.readReg p off) }) ∧
  (∀ (s : State) (req : Req) (a : Word), s.devUp = true → s.hostCut req = false → a.toNat = 0x40048 →
    s.accessError (.page .tim 0x48) true = none →
    exec (.pairLowRead req a false) s = .next { s with
      reply := .data req.code ((heldOf s.captured req.code fracKey).getD 0) }) ∧
  (∀ (s : State) (req : Req) (a : Word) (wide : Bool), s.devUp = true → s.hostCut req = false → a.toNat = 0x40040 →
    s.accessError (.page .tim 0x40) true = none →
    ∃ t, exec (.pairLowRead req a wide) s = .next t ∧ heldOf t.captured req.code fracKey = some s.tim.frac) ∧
  (∀ (s : State) (req : Req) (a : Word) (p : Page) (off : Nat), s.devUp = true → s.hostCut req = false →
    Target.ofAddr a.toNat = .page p off → s.accessError (.page p off) true = none → wholePair (.page p off) a.toNat = true →
    ∃ t, exec (.pairLowRead req a true) s = .next t ∧ t.reply = .data req.code (s.readReg p off) ∧
      heldOf t.captured req.code (p.base + off) = none ∧ t = { s with reply := t.reply, captured := t.captured }) ∧
  (∀ (s : State) (req : Req) (a : Word) (l : Lane) (off : Nat), s.devUp = true → s.hostCut req = false →
    Target.ofAddr a.toNat = .window l off → s.accessError (.window l off) true = none → a.toNat % 4 = 0 →
    winIsCount (off / 4) = false →
    exec (.pairLowRead req a false) s = .next { s with reply := .data req.code (s.winWord l (off / 4)) }) ∧
  (∀ (s : State) (req : Req) (a : Word) (l : Lane) (off : Nat), s.devUp = true → s.hostCut req = false →
    Target.ofAddr a.toNat = .window l off → s.accessError (.window l off) true = none → a.toNat % 4 = 0 →
    winIsCount (off / 4) = true → off / 4 % 2 = 0 →
    ∃ t, exec (.pairLowRead req a false) s = .next t ∧ t.reply = .data req.code (s.winWord l (off / 4)) ∧
      heldOf t.captured req.code (0x1000000 + 0x40000 * l.val + off) = some (s.winWord l (off / 4 + 1)) ∧
      t = { s with reply := t.reply, captured := t.captured }) ∧
  (∀ (s : State) (req : Req) (a : Word) (l : Lane) (off : Nat), s.devUp = true → s.hostCut req = false →
    Target.ofAddr a.toNat = .window l off → s.accessError (.window l off) true = none → a.toNat % 4 = 0 →
    winIsCount (off / 4) = true → off / 4 % 2 = 1 →
    ∃ t, exec (.pairLowRead req a false) s = .next t ∧
      t.reply = .data req.code ((heldOf s.captured req.code (0x1000000 + 0x40000 * l.val + off - 4)).getD
        (s.winWord l (off / 4))) ∧
      heldOf t.captured req.code (0x1000000 + 0x40000 * l.val + off - 4) = none ∧
      t = { s with reply := t.reply, captured := t.captured }) ∧
  (∀ (s : State) (req : Req) (a : Word) (wide : Bool) (nn : Nat), s.devUp = true → s.hostCut req = false →
    Req.isCore req = false ∨ a.toNat < 0x2000000 → s.accessError (Target.ofAddr a.toNat)
      (if wide then wholePair (Target.ofAddr a.toNat) a.toNat else a.toNat % 4 == 0) = some nn →
    ∃ t, exec (.pairLowRead req a wide) s = .next t ∧ FabError s nn req.code false a.toNat t) ∧
  (∀ (s : State) (req : Req) (p : Page) (w : BitVec 10) (d : Word), s.open_ req p = true → isPair p (4 * w.toNat) = true →
    ∃ t, exec (.pairLowWrite req p w d) s = .next t ∧ heldOf t.held req.code (p.base + 4 * w.toNat) = some d.toNat ∧
      t = { s with reply := .posted req.code, held := t.held }) ∧
  (∀ (s : State) (req other : Req) (p : Page) (w : BitVec 10) (d : Word) (key : Nat), s.open_ req p = true →
    isPair p (4 * w.toNat) = true → other.code ≠ req.code →
    ∃ t, exec (.pairLowWrite req p w d) s = .next t ∧ heldOf t.held other.code key = heldOf s.held other.code key) ∧
  (∀ (s : State) (req : Req) (p : Page) (w : BitVec 10) (d : Word), s.open_ req p = true → isHigh p (4 * w.toNat) = true →
    heldOf s.held req.code (p.base + (4 * w.toNat - 4)) = none →
    exec (.pairHighWrite req p w d) s = .next { s with reply := .posted req.code }) ∧
  (∀ (s : State) (req : Req) (d : Word) (low : Nat), s.open_ req .aon = true →
    heldOf s.held req.code (Page.aon.base + 0x48) = some low → low < 2 ^ 32 →
    ∃ t, exec (.pairHighWrite req .aon 0x13 d) s = .next t ∧ t.power.rtcLoad = some (low, d.toNat % 2 ^ 15) ∧
      heldOf t.held req.code (Page.aon.base + 0x48) = none ∧ OnlyFields [] { s with
        reply := .posted req.code, held := t.held, power := { s.power with rtcLoad := t.power.rtcLoad } } t)

/-- R35, R51, R56. Clearing events and errors, and the MSI-X messages that `EVT.EOI` and an unmask send. -/
def Obligations.EventRegisters : Prop :=
  (∀ (s : State) (req : Req) (p : Page) (m : Word), s.open_ req p = true →
    ∃ t, exec (.evtPendClear req p m) s = .next t ∧
      (∀ i : Fin 32, t.event p i.val = (s.event p i.val && !bit m.toNat i.val)) ∧
      OnlyFields (eventField p ++ pbaFields) { s with reply := .posted req.code, out := t.out, vecWas := t.vecWas } t) ∧
  (∀ (s : State) (req : Req) (p : Page), s.open_ req p = true →
    ∃ t, exec (.errCodeClear req p) s = .next t ∧ t.errorShown p = none ∧ t.rd p HDR.PG_ERR_CODE_CODE = 0 ∧
      t.rd p HDR.PG_ERR_CODE_COUNT = 0 ∧ t.rd p HDR.PG_ERR_INFO = 0 ∧ t.rd p HDR.PG_ERR_TIME = 0 ∧
      OnlyFields (errorFields p) { s with reply := .posted req.code } t ∧ t.rd p HDR.PG_EVT_RAW = s.rd p HDR.PG_EVT_RAW) ∧
  (∀ (s : State) (req : Req) (v : BitVec 6), s.open_ req .evt = true → s.vecOr v.toNat = true → s.dmaOk = true →
    s.on .pci PCI.MSIX_MASK v.toNat = false →
    ∃ t, exec (.eoi req v) s = .next t ∧ t.out = s.out ++ [.msix v.toNat] ∧ t.pba v.toNat = false ∧
      OnlyFields [(.pci, PCI.MSIX_PBA, v.toNat / 32)] { s with reply := .posted req.code, out := t.out } t) ∧
  (∀ (s : State) (req : Req) (v : BitVec 6), s.open_ req .evt = true → s.vecOr v.toNat = true →
    s.on .pci PCI.MSIX_MASK v.toNat = true →
    ∃ t, exec (.eoi req v) s = .next t ∧ t.out = s.out ∧ t.pba v.toNat = true ∧
      OnlyFields [(.pci, PCI.MSIX_PBA, v.toNat / 32)] { s with reply := .posted req.code } t) ∧
  (∀ (s : State) (req : Req) (v : BitVec 6), s.open_ req .evt = true → s.vecOr v.toNat = false →
    exec (.eoi req v) s = .next { s with reply := .posted req.code }) ∧
  (∀ (s : State) (req : Req) (v : BitVec 6), s.open_ req .pci = true → s.settleMsix = s → s.pba v.toNat = true →
    s.dmaOk = true →
    ∃ t, exec (.msixUnmask req v) s = .next t ∧ t.on .pci PCI.MSIX_MASK v.toNat = false ∧
      t.out = s.out ++ [.msix v.toNat] ∧ t.pba v.toNat = false ∧
      OnlyFields [(.pci, PCI.MSIX_MASK, v.toNat), (.pci, PCI.MSIX_PBA, v.toNat / 32)]
        { s with reply := .posted req.code, out := t.out } t) ∧
  (∀ (s : State) (req : Req) (v : BitVec 6), s.open_ req .pci = true → s.settleMsix = s → s.pba v.toNat = false →
    ∃ t, exec (.msixUnmask req v) s = .next t ∧ t.on .pci PCI.MSIX_MASK v.toNat = false ∧
      OnlyFields [(.pci, PCI.MSIX_MASK, v.toNat)] { s with reply := .posted req.code } t) ∧
  (∀ (s : State) (req : Req) (v : BitVec 6), s.open_ req .pci = true →
    ∃ t, exec (.msixUnmask req v) s = .next t ∧ t.on .pci PCI.MSIX_MASK v.toNat = false ∧
      OnlyFields ((.pci, PCI.MSIX_MASK, v.toNat) :: pbaFields)
        { s with reply := .posted req.code, out := t.out, vecWas := t.vecWas } t)

/-- R44. An error that meets a clear of VALID: the clear is applied first, and the error is then the first error, with COUNT 1. -/
def Obligations.ErrorMeetsClear : Prop :=
  ∀ (s : State) (p : Page) (nn info : Nat), nn < 256 → info < 2 ^ 32 →
    ((s.errClear p).err p nn info).errorShown p = some (p.tt * 256 + nn) ∧
    ((s.errClear p).err p nn info).rd p HDR.PG_ERR_CODE_COUNT = 1 ∧
    ((s.errClear p).err p nn info).rd p HDR.PG_ERR_INFO = info ∧
    ((s.errClear p).err p nn info).rd p HDR.PG_ERR_TIME = s.time % 2 ^ 64

/-- R51. An occurrence sets RAW, enabled or not; PEND is RAW AND EN, at once when EN is set; an occurrence wins over a W1C. -/
def Obligations.EventBits : Prop :=
  (∀ (s : State) (p : Page) (i : Fin 32), (s.raise p i.val).event p i.val = true) ∧
  (∀ (s : State) (p : Page) (i j : Fin 32), i ≠ j → (s.raise p i.val).event p j.val = s.event p j.val) ∧
  (∀ (s : State) (p : Page) (i : Fin 32), (s.evtPend p).testBit i.val = (s.event p i.val && (s.rd p HDR.PG_EVT_EN).testBit i.val)) ∧
  (∀ (s : State) (p : Page) (i : Fin 32) (en : Nat), en < 2 ^ 32 → s.event p i.val = true → en.testBit i.val = true →
    ((s.wr p HDR.PG_EVT_EN en).evtPend p).testBit i.val = true) ∧
  (∀ (s : State) (p : Page) (i : Fin 32) (m : Nat), ((s.evtClear p m).raise p i.val).event p i.val = true)

/-- R48. A read changes no register: nothing but what is captured for the requester, and the answer. A read that ends with a
fabric error changes no page but FAB, which records the error (R45), and the link's event of an Unsupported Request (R106). -/
def Obligations.ReadsChangeNothing : Prop :=
  (∀ (s : State) (req : Req) (a : Word) (wide : Bool), s.devUp = true → s.hostCut req = false →
    (Req.isCore req = true ∧ coreRegion req a.toNat ≠ .fabric) ∨ s.accessError (Target.ofAddr a.toNat)
      (if wide then wholePair (Target.ofAddr a.toNat) a.toNat else a.toNat % 4 == 0) = none →
    ∃ t, exec (.pairLowRead req a wide) s = .next t ∧ t = { s with reply := t.reply, captured := t.captured }) ∧
  (∀ (s : State) (req : Req) (a : Word) (p : Page) (off : Nat), s.devUp = true → s.hostCut req = false →
    Target.ofAddr a.toNat = .page p off → s.accessError (.page p off) (a.toNat % 4 == 0) = none →
    isPair p off = false → isHigh p off = false →
    exec (.pairLowRead req a false) s = .next { s with reply := .data req.code (s.readReg p off) }) ∧
  (∀ (s : State) (req : Req) (a : Word) (wide : Bool), s.devUp = true → s.hostCut req = true →
    exec (.pairLowRead req a wide) s = .next { s with reply := .unsupported req.code }) ∧
  (∀ (s : State) (req : Req) (a : Word) (wide : Bool) (nn : Nat), s.devUp = true → s.hostCut req = false →
    Req.isCore req = false ∨ a.toNat < 0x2000000 → s.accessError (Target.ofAddr a.toNat)
      (if wide then wholePair (Target.ofAddr a.toNat) a.toNat else a.toNat % 4 == 0) = some nn →
    ∃ t, exec (.pairLowRead req a wide) s = .next t ∧ FabError s nn req.code false a.toNat t)

/-- R46. How a fabric error reaches its requester: the host's read by HOST_UR, its write posted; a core's access as a fault, or
a load of 0 and a dropped store, by CORE_FAULT. The model's own choices among these clauses are log entries 9, 61. -/
def Obligations.FabricAnswers : Prop :=
  (∀ (s : State) (a : Word), s.devUp = true → s.hostCut .host = false → s.on .fab FAB.CTRL_HOST_UR = false →
    ∃ t, exec (.accessTimeout .host false a) s = .next t ∧ t.reply = .data 0 0) ∧
  (∀ (s : State) (a : Word), s.devUp = true → s.hostCut .host = false → s.on .fab FAB.CTRL_HOST_UR = true →
    ∃ t, exec (.accessTimeout .host false a) s = .next t ∧ t.reply = .unsupported 0) ∧
  (∀ (s : State) (a d : Word) (be : BitVec 4) (h : Option Word) (nn : Nat), s.devUp = true → s.hostCut .host = false →
    s.accessError (Target.ofAddr a.toNat) (be == 15 && if h.isSome then wholePair (Target.ofAddr a.toNat) a.toNat else a.toNat % 4 == 0) = some nn →
    ∃ t, exec (.registerWrite .host a be ⟨d, h⟩) s = .next t ∧ t.reply = .posted 0) ∧
  (∀ (s : State) (req : Req) (a : Word) (wide : Bool) (nn : Nat), s.devUp = true → Req.isCore req = true →
    a.toNat < 0x2000000 → s.on .fab FAB.CTRL_CORE_FAULT = true → s.accessError (Target.ofAddr a.toNat)
      (if wide then wholePair (Target.ofAddr a.toNat) a.toNat else a.toNat % 4 == 0) = some nn →
    ∃ t, exec (.pairLowRead req a wide) s = .next t ∧ t.reply = .accessFault req.code) ∧
  (∀ (s : State) (req : Req) (a : Word) (wide : Bool) (nn : Nat), s.devUp = true → Req.isCore req = true →
    a.toNat < 0x2000000 → s.on .fab FAB.CTRL_CORE_FAULT = false → s.accessError (Target.ofAddr a.toNat)
      (if wide then wholePair (Target.ofAddr a.toNat) a.toNat else a.toNat % 4 == 0) = some nn →
    ∃ t, exec (.pairLowRead req a wide) s = .next t ∧ t.reply = .data req.code 0) ∧
  (∀ (s : State) (req : Req) (a d : Word) (be : BitVec 4) (h : Option Word) (nn : Nat), s.devUp = true →
    Req.isCore req = true → a.toNat < 0x2000000 → s.on .fab FAB.CTRL_CORE_FAULT = true →
    s.accessError (Target.ofAddr a.toNat) (be == 15 && if h.isSome then wholePair (Target.ofAddr a.toNat) a.toNat else a.toNat % 4 == 0) = some nn →
    ∃ t, exec (.registerWrite req a be ⟨d, h⟩) s = .next t ∧ t.reply = .accessFault req.code) ∧
  (∀ (s : State) (req : Req) (a d : Word) (be : BitVec 4) (h : Option Word) (nn : Nat), s.devUp = true →
    Req.isCore req = true → a.toNat < 0x2000000 → s.on .fab FAB.CTRL_CORE_FAULT = false →
    s.accessError (Target.ofAddr a.toNat) (be == 15 && if h.isSome then wholePair (Target.ofAddr a.toNat) a.toNat else a.toNat % 4 == 0) = some nn →
    ∃ t, exec (.registerWrite req a be ⟨d, h⟩) s = .next t ∧ t.reply = .posted req.code ∧
      OnlyFields (fabFields nn) { s with reply := t.reply } t)

/-- A step takes the command at the front of the queue and runs it on the queue's rest; on an empty queue one tick passes, the
model's own choice (log entry 2). -/
def Obligations.StepTakesCommand : Prop :=
  (∀ (s : State) (c : Instr) (rest : List Instr), s.pending = c :: rest → step s = exec c { s with pending := rest }) ∧
  (∀ s : State, s.pending = [] → step s = .next s.tick)

/-- Reset leaves the stores in their canonical form, no command waiting, nothing sent, and the values the spec gives:
`AON.WAKE_EN` 0x0700 (R72), `PWR.SLEEP_POL.GRACE` 0x64 (R65), `FAB.CTRL.CORE_FAULT` 1 (R47). The device state OFF is log
entry 1. -/
def Obligations.ResetState : Prop :=
  State.reset.wf = true ∧ State.reset.pending = [] ∧ State.reset.out = [] ∧ State.reset.ddr.mem = [] ∧
  State.reset.power.dev = .off ∧ State.reset.rd .aon AON.WAKE_EN = 0x0700 ∧ State.reset.rd .pwr PWR.SLEEP_POL_GRACE = 0x64 ∧
  State.reset.on .fab FAB.CTRL_CORE_FAULT = true

/-- Every step from a state whose stores are in their canonical form leads to such a state. -/
def Obligations.StepKeepsForm : Prop :=
  ∀ s t : State, s.wf = true → step s = .next t → t.wf = true

/-- No command ends in a fault or a refusal, in any state: each answers a next state, in which the queue is as it was, what was
sent stays sent, and no free value is drawn twice. -/
def Obligations.CommandsAnswer : Prop :=
  ∀ (c : Instr) (s : State), ∃ t, exec c s = .next t ∧ t.pending = s.pending ∧ s.out <+: t.out ∧ s.free ≤ t.free ∧
    (s.wf = true → t.wf = true)

/-- A command that is none of those that may write the spool leaves every byte of it as it was. -/
def Obligations.SpoolUntouched : Prop :=
  ∀ (c : Instr) (s : State), storesSpool c = false →
    ∃ t, exec c s = .next t ∧ ∀ a : Nat, Memory.read t.ddr.mem a = Memory.read s.ddr.mem a
end

