-- ==== Sys2Proof/Laws/Encoder.lean ====
section
/-! SUPPORT. What the encoder's search finds (R142). -/

namespace Sys2Proof.Machine

/-- A candidate lies before the position searched, and within the window. -/
theorem candidates_dist {same : Nat → Nat → Bool} {depth line i : Nat} {c : Nat × Nat}
    (hc : c ∈ candidates same depth line i) : 1 ≤ c.2 ∧ c.2 ≤ i := by
  rw [candidates, List.mem_append] at hc
  rcases hc with hc | hc
  · by_cases hl : line = 0
    · simp [hl] at hc
    · rw [if_neg hl, List.mem_map] at hc
      obtain ⟨r, hr, rfl⟩ := hc
      rw [List.mem_filter] at hr
      have h1 : 1 ≤ r := by
        rcases List.mem_cons.1 hr.1 with h | h
        · omega
        · simp at h; omega
      exact ⟨Nat.mul_pos h1 (Nat.pos_of_ne_zero hl), by simpa using hr.2⟩
  · rw [List.mem_map] at hc
    obtain ⟨j, hj, rfl⟩ := hc
    have := (List.mem_filter.1 (List.mem_of_mem_take hj)).1
    simp only [List.mem_map, List.mem_range] at this
    obtain ⟨k, hk, rfl⟩ := this
    simp only
    omega

/-- Where no position before i matches 4 bytes, there is no match. -/
theorem bestHit_none {same : Nat → Nat → Bool} {buf : List Nat} {depth line i : Nat}
    (h : ∀ j, j < i → matchLen buf j i < 4) : bestHit same buf depth line i = none := by
  rw [bestHit]
  have key : ∀ l : List (Nat × Nat), (∀ c ∈ l, matchLen buf (i - c.2) i < 4) →
      l.foldl (fun best c =>
        let n := matchLen buf (i - c.2) i
        if 4 ≤ n ∧ (match best with
          | some h => h.len
          | none => 0) < n then some ⟨c.1, c.2, n⟩ else best) (none : Option Hit) = none := by
    intro l
    induction l with
    | nil => exact fun _ => rfl
    | cons c l ih =>
      intro hl
      rw [List.foldl_cons]
      simp only
      rw [if_neg (fun hn => absurd hn.1 (Nat.not_le.2 (hl c List.mem_cons_self)))]
      exact ih fun d hd => hl d (List.mem_cons_of_mem _ hd)
  exact key _ fun c hc => h _ (by have := candidates_dist hc; omega)

/-- The first candidate wins where it matches 4 bytes and no position before i matches more. -/
theorem bestHit_first {same : Nat → Nat → Bool} {buf : List Nat} {depth line i : Nat} {c : Nat × Nat} {l : List (Nat × Nat)}
    {n : Nat} (hc : candidates same depth line i = c :: l) (hn : matchLen buf (i - c.2) i = n) (h4 : 4 ≤ n)
    (h : ∀ j, j < i → matchLen buf j i ≤ n) : bestHit same buf depth line i = some ⟨c.1, c.2, n⟩ := by
  have hl : ∀ d ∈ l, matchLen buf (i - d.2) i ≤ n := fun d hd => h _ (by
    have := candidates_dist (hc ▸ List.mem_cons_of_mem _ hd : d ∈ candidates same depth line i); omega)
  rw [bestHit, hc, List.foldl_cons]
  simp only [hn]
  rw [if_pos ⟨h4, by omega⟩]
  clear hc hn
  induction l with
  | nil => rfl
  | cons d l ih =>
    rw [List.foldl_cons]
    simp only
    rw [if_neg fun hd => absurd hd.2 (Nat.not_lt.2 (hl d List.mem_cons_self))]
    exact ih fun e he => hl e (List.mem_cons_of_mem _ he)

/-- The rows come first among the candidates. -/
theorem candidates_row {same : Nat → Nat → Bool} {depth line i : Nat} (hl : line ≠ 0) (hi : line ≤ i) :
    ∃ l, candidates same depth line i = (1, line) :: l := by
  rw [candidates, if_neg hl, List.filter_cons_of_pos (by simpa using hi)]
  rw [List.map_cons, Nat.one_mul, List.cons_append]
  exact ⟨_, rfl⟩

end Sys2Proof.Machine
end

