-- ==== Sys2Proof/Laws/Regs.lean ====
section
/-! SUPPORT. The register file: read after write, and every operation keeps the keys rising. -/

namespace Sys2Proof.Machine

theorem Regs.get_erase (m : Regs) (a b d : Nat) :
    Regs.get (Regs.erase m a) b d = if a = b then d else Regs.get m b d := by
  induction m with
  | nil => simp [Regs.erase, Regs.get]
  | cons e m ih =>
    simp only [Regs.erase, Regs.get]
    split
    · rename_i h
      rw [ih]
      split <;> simp_all
    · simp only [Regs.get]
      rw [ih]
      split <;> split <;> simp_all

theorem Regs.get_insert (m : Regs) (a b x d : Nat) :
    Regs.get (Regs.insert m a x) b d = if a = b then x else Regs.get m b d := by
  induction m with
  | nil => simp [Regs.insert, Regs.get]
  | cons e m ih =>
    simp only [Regs.insert]
    split
    · simp [Regs.get]
    · split
      · rename_i h
        simp only [Regs.get, h]
        split <;> simp_all
      · simp only [Regs.get]
        rw [ih]
        split <;> split <;> simp_all

/-- Reading after a field has been put: its value under its key, with its reset value as the default; what was there before
under every other key. -/
theorem Regs.get_put (m : Regs) (a b r x d : Nat) :
    Regs.get (Regs.put m a r x) b d = if a = b then (if x = r then d else x) else Regs.get m b d := by
  unfold Regs.put
  split
  · rw [Regs.get_erase]
  · rw [Regs.get_insert]

/-- Every key of a map is above a bound. -/
def Regs.above (a : Nat) (m : Regs) : Prop := ∀ e ∈ m, a < e.1

theorem Regs.wf_tail {e : Nat × Nat} {m : Regs} (h : Regs.wf (e :: m) = true) : Regs.wf m = true := by
  cases m with
  | nil => rfl
  | cons f m => simp only [Regs.wf, Bool.and_eq_true] at h; exact h.2

theorem Regs.wf_above {e : Nat × Nat} {m : Regs} (h : Regs.wf (e :: m) = true) : Regs.above e.1 m := by
  induction m generalizing e with
  | nil => intro f hf; cases hf
  | cons f m ih =>
    simp only [Regs.wf, Bool.and_eq_true, decide_eq_true_eq] at h
    intro g hg
    rcases List.mem_cons.1 hg with rfl | hg
    · exact h.1
    · exact Nat.lt_trans h.1 (ih h.2 g hg)

theorem Regs.wf_cons {e : Nat × Nat} {m : Regs} (ha : Regs.above e.1 m) (h : Regs.wf m = true) :
    Regs.wf (e :: m) = true := by
  cases m with
  | nil => rfl
  | cons f m =>
    simp only [Regs.wf, Bool.and_eq_true, decide_eq_true_eq]
    exact ⟨ha f (List.mem_cons_self ..), h⟩

theorem Regs.erase_above {a : Nat} {m : Regs} (k : Nat) (h : Regs.above a m) : Regs.above a (Regs.erase m k) := by
  induction m with
  | nil => exact h
  | cons e m ih =>
    have hm : Regs.above a m := fun f hf => h f (List.mem_cons_of_mem _ hf)
    simp only [Regs.erase]
    split
    · exact ih hm
    · intro f hf
      rcases List.mem_cons.1 hf with rfl | hf
      · exact h _ (List.mem_cons_self ..)
      · exact ih hm f hf

theorem Regs.insert_above {a k x : Nat} {m : Regs} (ha : a < k) (h : Regs.above a m) :
    Regs.above a (Regs.insert m k x) := by
  induction m with
  | nil => intro f hf; simp only [Regs.insert, List.mem_singleton] at hf; subst hf; exact ha
  | cons e m ih =>
    have hm : Regs.above a m := fun f hf => h f (List.mem_cons_of_mem _ hf)
    simp only [Regs.insert]
    split
    · intro f hf
      rcases List.mem_cons.1 hf with rfl | hf
      · exact ha
      · exact h f hf
    · split
      · intro f hf
        rcases List.mem_cons.1 hf with rfl | hf
        · exact ha
        · exact hm f hf
      · intro f hf
        rcases List.mem_cons.1 hf with rfl | hf
        · exact h _ (List.mem_cons_self ..)
        · exact ih hm f hf

theorem Regs.erase_wf {m : Regs} (k : Nat) (h : Regs.wf m = true) : Regs.wf (Regs.erase m k) = true := by
  induction m with
  | nil => rfl
  | cons e m ih =>
    simp only [Regs.erase]
    split
    · exact ih (Regs.wf_tail h)
    · exact Regs.wf_cons (Regs.erase_above k (Regs.wf_above h)) (ih (Regs.wf_tail h))

theorem Regs.insert_wf {m : Regs} {k x : Nat} (h : Regs.wf m = true) : Regs.wf (Regs.insert m k x) = true := by
  induction m with
  | nil => rfl
  | cons e m ih =>
    simp only [Regs.insert]
    split
    · rename_i hk
      refine Regs.wf_cons ?_ h
      intro f hf
      rcases List.mem_cons.1 hf with rfl | hf
      · exact hk
      · exact Nat.lt_trans hk (Regs.wf_above h f hf)
    · split
      · rename_i _ hk
        subst hk
        exact Regs.wf_cons (fun f hf => Regs.wf_above h f hf) (Regs.wf_tail h)
      · rename_i h1 h2
        exact Regs.wf_cons (Regs.insert_above (by omega) (Regs.wf_above h)) (ih (Regs.wf_tail h))

/-- Putting a field keeps the keys rising. -/
theorem Regs.put_wf {m : Regs} (k r x : Nat) (h : Regs.wf m = true) : Regs.wf (Regs.put m k r x) = true := by
  unfold Regs.put
  split
  · exact Regs.erase_wf k h
  · exact Regs.insert_wf h

theorem Regs.filter_above {a : Nat} {m : Regs} (f : Nat × Nat → Bool) (h : Regs.above a m) :
    Regs.above a (m.filter f) := fun e he => h e (List.mem_filter.1 he).1

/-- A part of a map keeps the keys rising. -/
theorem Regs.filter_wf {m : Regs} (f : Nat × Nat → Bool) (h : Regs.wf m = true) : Regs.wf (m.filter f) = true := by
  induction m with
  | nil => rfl
  | cons e m ih =>
    rw [List.filter_cons]
    split
    · exact Regs.wf_cons (Regs.filter_above f (Regs.wf_above h)) (ih (Regs.wf_tail h))
    · exact ih (Regs.wf_tail h)

/-- Reading a field after a field has been written: the written value cut to its width, or what was there before. -/
theorem State.rd_wr_same (s : State) (p : Page) (r : Row) (v i : Nat) : (s.wr p r v i).rd p r i = v % 2 ^ r.width := by
  simp only [State.rd, State.wr, Regs.get_put, if_true]
  split <;> simp_all

theorem State.rd_wr_ne (s : State) {p q : Page} {r t : Row} {v i j : Nat} (h : r.key p i ≠ t.key q j) :
    (s.wr p r v i).rd q t j = s.rd q t j := by
  simp only [State.rd, State.wr, Regs.get_put, if_neg h]

end Sys2Proof.Machine
end

