-- ==== Sys2Proof/Laws/State.lean ====
section
/-! SUPPORT. Reading one part of the state after a small operation on another part: one lemma for each part and operation. -/

namespace Sys2Proof.Machine

/-! ### wr -/

@[simp] theorem State.wr_pending (s : State) (p : Page) (r : Row) (v i : Nat) : (s.wr p r v i).pending = s.pending := rfl
@[simp] theorem State.wr_staged (s : State) (p : Page) (r : Row) (v i : Nat) : (s.wr p r v i).staged = s.staged := rfl
@[simp] theorem State.wr_dclk (s : State) (p : Page) (r : Row) (v i : Nat) : (s.wr p r v i).dclk = s.dclk := rfl
@[simp] theorem State.wr_free (s : State) (p : Page) (r : Row) (v i : Nat) : (s.wr p r v i).free = s.free := rfl
@[simp] theorem State.wr_held (s : State) (p : Page) (r : Row) (v i : Nat) : (s.wr p r v i).held = s.held := rfl
@[simp] theorem State.wr_captured (s : State) (p : Page) (r : Row) (v i : Nat) : (s.wr p r v i).captured = s.captured := rfl
@[simp] theorem State.wr_reply (s : State) (p : Page) (r : Row) (v i : Nat) : (s.wr p r v i).reply = s.reply := rfl
@[simp] theorem State.wr_out (s : State) (p : Page) (r : Row) (v i : Nat) : (s.wr p r v i).out = s.out := rfl
@[simp] theorem State.wr_vecWas (s : State) (p : Page) (r : Row) (v i : Nat) : (s.wr p r v i).vecWas = s.vecWas := rfl
@[simp] theorem State.wr_power (s : State) (p : Page) (r : Row) (v i : Nat) : (s.wr p r v i).power = s.power := rfl
@[simp] theorem State.wr_lanes (s : State) (p : Page) (r : Row) (v i : Nat) : (s.wr p r v i).lanes = s.lanes := rfl
@[simp] theorem State.wr_pair (s : State) (p : Page) (r : Row) (v i : Nat) : (s.wr p r v i).pair = s.pair := rfl
@[simp] theorem State.wr_pace (s : State) (p : Page) (r : Row) (v i : Nat) : (s.wr p r v i).pace = s.pace := rfl
@[simp] theorem State.wr_axes (s : State) (p : Page) (r : Row) (v i : Nat) : (s.wr p r v i).axes = s.axes := rfl
@[simp] theorem State.wr_tim (s : State) (p : Page) (r : Row) (v i : Nat) : (s.wr p r v i).tim = s.tim := rfl
@[simp] theorem State.wr_clusters (s : State) (p : Page) (r : Row) (v i : Nat) : (s.wr p r v i).clusters = s.clusters := rfl
@[simp] theorem State.wr_cal (s : State) (p : Page) (r : Row) (v i : Nat) : (s.wr p r v i).cal = s.cal := rfl
@[simp] theorem State.wr_cores (s : State) (p : Page) (r : Row) (v i : Nat) : (s.wr p r v i).cores = s.cores := rfl
@[simp] theorem State.wr_codec (s : State) (p : Page) (r : Row) (v i : Nat) : (s.wr p r v i).codec = s.codec := rfl
@[simp] theorem State.wr_commits (s : State) (p : Page) (r : Row) (v i : Nat) : (s.wr p r v i).commits = s.commits := rfl
@[simp] theorem State.wr_bist (s : State) (p : Page) (r : Row) (v i : Nat) : (s.wr p r v i).bist = s.bist := rfl
@[simp] theorem State.wr_ddr (s : State) (p : Page) (r : Row) (v i : Nat) : (s.wr p r v i).ddr = s.ddr := rfl
@[simp] theorem State.wr_intake (s : State) (p : Page) (r : Row) (v i : Nat) : (s.wr p r v i).intake = s.intake := rfl
@[simp] theorem State.wr_spoil (s : State) (p : Page) (r : Row) (v i : Nat) : (s.wr p r v i).spoil = s.spoil := rfl
@[simp] theorem State.wr_identN (s : State) (p : Page) (r : Row) (v i : Nat) : (s.wr p r v i).identN = s.identN := rfl
@[simp] theorem State.wr_den (s : State) (p : Page) (r : Row) (v i : Nat) : (s.wr p r v i).den = s.den := rfl

/-! ### wrStaged -/

@[simp] theorem State.wrStaged_pending (s : State) (p : Page) (r : Row) (v i : Nat) : (s.wrStaged p r v i).pending = s.pending := rfl
@[simp] theorem State.wrStaged_regs (s : State) (p : Page) (r : Row) (v i : Nat) : (s.wrStaged p r v i).regs = s.regs := rfl
@[simp] theorem State.wrStaged_dclk (s : State) (p : Page) (r : Row) (v i : Nat) : (s.wrStaged p r v i).dclk = s.dclk := rfl
@[simp] theorem State.wrStaged_free (s : State) (p : Page) (r : Row) (v i : Nat) : (s.wrStaged p r v i).free = s.free := rfl
@[simp] theorem State.wrStaged_held (s : State) (p : Page) (r : Row) (v i : Nat) : (s.wrStaged p r v i).held = s.held := rfl
@[simp] theorem State.wrStaged_captured (s : State) (p : Page) (r : Row) (v i : Nat) : (s.wrStaged p r v i).captured = s.captured := rfl
@[simp] theorem State.wrStaged_reply (s : State) (p : Page) (r : Row) (v i : Nat) : (s.wrStaged p r v i).reply = s.reply := rfl
@[simp] theorem State.wrStaged_out (s : State) (p : Page) (r : Row) (v i : Nat) : (s.wrStaged p r v i).out = s.out := rfl
@[simp] theorem State.wrStaged_vecWas (s : State) (p : Page) (r : Row) (v i : Nat) : (s.wrStaged p r v i).vecWas = s.vecWas := rfl
@[simp] theorem State.wrStaged_power (s : State) (p : Page) (r : Row) (v i : Nat) : (s.wrStaged p r v i).power = s.power := rfl
@[simp] theorem State.wrStaged_lanes (s : State) (p : Page) (r : Row) (v i : Nat) : (s.wrStaged p r v i).lanes = s.lanes := rfl
@[simp] theorem State.wrStaged_pair (s : State) (p : Page) (r : Row) (v i : Nat) : (s.wrStaged p r v i).pair = s.pair := rfl
@[simp] theorem State.wrStaged_pace (s : State) (p : Page) (r : Row) (v i : Nat) : (s.wrStaged p r v i).pace = s.pace := rfl
@[simp] theorem State.wrStaged_axes (s : State) (p : Page) (r : Row) (v i : Nat) : (s.wrStaged p r v i).axes = s.axes := rfl
@[simp] theorem State.wrStaged_tim (s : State) (p : Page) (r : Row) (v i : Nat) : (s.wrStaged p r v i).tim = s.tim := rfl
@[simp] theorem State.wrStaged_clusters (s : State) (p : Page) (r : Row) (v i : Nat) : (s.wrStaged p r v i).clusters = s.clusters := rfl
@[simp] theorem State.wrStaged_cal (s : State) (p : Page) (r : Row) (v i : Nat) : (s.wrStaged p r v i).cal = s.cal := rfl
@[simp] theorem State.wrStaged_cores (s : State) (p : Page) (r : Row) (v i : Nat) : (s.wrStaged p r v i).cores = s.cores := rfl
@[simp] theorem State.wrStaged_codec (s : State) (p : Page) (r : Row) (v i : Nat) : (s.wrStaged p r v i).codec = s.codec := rfl
@[simp] theorem State.wrStaged_commits (s : State) (p : Page) (r : Row) (v i : Nat) : (s.wrStaged p r v i).commits = s.commits := rfl
@[simp] theorem State.wrStaged_bist (s : State) (p : Page) (r : Row) (v i : Nat) : (s.wrStaged p r v i).bist = s.bist := rfl
@[simp] theorem State.wrStaged_ddr (s : State) (p : Page) (r : Row) (v i : Nat) : (s.wrStaged p r v i).ddr = s.ddr := rfl
@[simp] theorem State.wrStaged_intake (s : State) (p : Page) (r : Row) (v i : Nat) : (s.wrStaged p r v i).intake = s.intake := rfl
@[simp] theorem State.wrStaged_spoil (s : State) (p : Page) (r : Row) (v i : Nat) : (s.wrStaged p r v i).spoil = s.spoil := rfl
@[simp] theorem State.wrStaged_identN (s : State) (p : Page) (r : Row) (v i : Nat) : (s.wrStaged p r v i).identN = s.identN := rfl
@[simp] theorem State.wrStaged_den (s : State) (p : Page) (r : Row) (v i : Nat) : (s.wrStaged p r v i).den = s.den := rfl

/-! ### wrBoth -/

@[simp] theorem State.wrBoth_pending (s : State) (p : Page) (r : Row) (v i : Nat) : (s.wrBoth p r v i).pending = s.pending := rfl
@[simp] theorem State.wrBoth_dclk (s : State) (p : Page) (r : Row) (v i : Nat) : (s.wrBoth p r v i).dclk = s.dclk := rfl
@[simp] theorem State.wrBoth_free (s : State) (p : Page) (r : Row) (v i : Nat) : (s.wrBoth p r v i).free = s.free := rfl
@[simp] theorem State.wrBoth_held (s : State) (p : Page) (r : Row) (v i : Nat) : (s.wrBoth p r v i).held = s.held := rfl
@[simp] theorem State.wrBoth_captured (s : State) (p : Page) (r : Row) (v i : Nat) : (s.wrBoth p r v i).captured = s.captured := rfl
@[simp] theorem State.wrBoth_reply (s : State) (p : Page) (r : Row) (v i : Nat) : (s.wrBoth p r v i).reply = s.reply := rfl
@[simp] theorem State.wrBoth_out (s : State) (p : Page) (r : Row) (v i : Nat) : (s.wrBoth p r v i).out = s.out := rfl
@[simp] theorem State.wrBoth_vecWas (s : State) (p : Page) (r : Row) (v i : Nat) : (s.wrBoth p r v i).vecWas = s.vecWas := rfl
@[simp] theorem State.wrBoth_power (s : State) (p : Page) (r : Row) (v i : Nat) : (s.wrBoth p r v i).power = s.power := rfl
@[simp] theorem State.wrBoth_lanes (s : State) (p : Page) (r : Row) (v i : Nat) : (s.wrBoth p r v i).lanes = s.lanes := rfl
@[simp] theorem State.wrBoth_pair (s : State) (p : Page) (r : Row) (v i : Nat) : (s.wrBoth p r v i).pair = s.pair := rfl
@[simp] theorem State.wrBoth_pace (s : State) (p : Page) (r : Row) (v i : Nat) : (s.wrBoth p r v i).pace = s.pace := rfl
@[simp] theorem State.wrBoth_axes (s : State) (p : Page) (r : Row) (v i : Nat) : (s.wrBoth p r v i).axes = s.axes := rfl
@[simp] theorem State.wrBoth_tim (s : State) (p : Page) (r : Row) (v i : Nat) : (s.wrBoth p r v i).tim = s.tim := rfl
@[simp] theorem State.wrBoth_clusters (s : State) (p : Page) (r : Row) (v i : Nat) : (s.wrBoth p r v i).clusters = s.clusters := rfl
@[simp] theorem State.wrBoth_cal (s : State) (p : Page) (r : Row) (v i : Nat) : (s.wrBoth p r v i).cal = s.cal := rfl
@[simp] theorem State.wrBoth_cores (s : State) (p : Page) (r : Row) (v i : Nat) : (s.wrBoth p r v i).cores = s.cores := rfl
@[simp] theorem State.wrBoth_codec (s : State) (p : Page) (r : Row) (v i : Nat) : (s.wrBoth p r v i).codec = s.codec := rfl
@[simp] theorem State.wrBoth_commits (s : State) (p : Page) (r : Row) (v i : Nat) : (s.wrBoth p r v i).commits = s.commits := rfl
@[simp] theorem State.wrBoth_bist (s : State) (p : Page) (r : Row) (v i : Nat) : (s.wrBoth p r v i).bist = s.bist := rfl
@[simp] theorem State.wrBoth_ddr (s : State) (p : Page) (r : Row) (v i : Nat) : (s.wrBoth p r v i).ddr = s.ddr := rfl
@[simp] theorem State.wrBoth_intake (s : State) (p : Page) (r : Row) (v i : Nat) : (s.wrBoth p r v i).intake = s.intake := rfl
@[simp] theorem State.wrBoth_spoil (s : State) (p : Page) (r : Row) (v i : Nat) : (s.wrBoth p r v i).spoil = s.spoil := rfl
@[simp] theorem State.wrBoth_identN (s : State) (p : Page) (r : Row) (v i : Nat) : (s.wrBoth p r v i).identN = s.identN := rfl
@[simp] theorem State.wrBoth_den (s : State) (p : Page) (r : Row) (v i : Nat) : (s.wrBoth p r v i).den = s.den := rfl

/-! ### flag -/

@[simp] theorem State.flag_pending (s : State) (p : Page) (r : Row) (b : Bool) (i : Nat) : (s.flag p r b i).pending = s.pending := rfl
@[simp] theorem State.flag_staged (s : State) (p : Page) (r : Row) (b : Bool) (i : Nat) : (s.flag p r b i).staged = s.staged := rfl
@[simp] theorem State.flag_dclk (s : State) (p : Page) (r : Row) (b : Bool) (i : Nat) : (s.flag p r b i).dclk = s.dclk := rfl
@[simp] theorem State.flag_free (s : State) (p : Page) (r : Row) (b : Bool) (i : Nat) : (s.flag p r b i).free = s.free := rfl
@[simp] theorem State.flag_held (s : State) (p : Page) (r : Row) (b : Bool) (i : Nat) : (s.flag p r b i).held = s.held := rfl
@[simp] theorem State.flag_captured (s : State) (p : Page) (r : Row) (b : Bool) (i : Nat) : (s.flag p r b i).captured = s.captured := rfl
@[simp] theorem State.flag_reply (s : State) (p : Page) (r : Row) (b : Bool) (i : Nat) : (s.flag p r b i).reply = s.reply := rfl
@[simp] theorem State.flag_out (s : State) (p : Page) (r : Row) (b : Bool) (i : Nat) : (s.flag p r b i).out = s.out := rfl
@[simp] theorem State.flag_vecWas (s : State) (p : Page) (r : Row) (b : Bool) (i : Nat) : (s.flag p r b i).vecWas = s.vecWas := rfl
@[simp] theorem State.flag_power (s : State) (p : Page) (r : Row) (b : Bool) (i : Nat) : (s.flag p r b i).power = s.power := rfl
@[simp] theorem State.flag_lanes (s : State) (p : Page) (r : Row) (b : Bool) (i : Nat) : (s.flag p r b i).lanes = s.lanes := rfl
@[simp] theorem State.flag_pair (s : State) (p : Page) (r : Row) (b : Bool) (i : Nat) : (s.flag p r b i).pair = s.pair := rfl
@[simp] theorem State.flag_pace (s : State) (p : Page) (r : Row) (b : Bool) (i : Nat) : (s.flag p r b i).pace = s.pace := rfl
@[simp] theorem State.flag_axes (s : State) (p : Page) (r : Row) (b : Bool) (i : Nat) : (s.flag p r b i).axes = s.axes := rfl
@[simp] theorem State.flag_tim (s : State) (p : Page) (r : Row) (b : Bool) (i : Nat) : (s.flag p r b i).tim = s.tim := rfl
@[simp] theorem State.flag_clusters (s : State) (p : Page) (r : Row) (b : Bool) (i : Nat) : (s.flag p r b i).clusters = s.clusters := rfl
@[simp] theorem State.flag_cal (s : State) (p : Page) (r : Row) (b : Bool) (i : Nat) : (s.flag p r b i).cal = s.cal := rfl
@[simp] theorem State.flag_cores (s : State) (p : Page) (r : Row) (b : Bool) (i : Nat) : (s.flag p r b i).cores = s.cores := rfl
@[simp] theorem State.flag_codec (s : State) (p : Page) (r : Row) (b : Bool) (i : Nat) : (s.flag p r b i).codec = s.codec := rfl
@[simp] theorem State.flag_commits (s : State) (p : Page) (r : Row) (b : Bool) (i : Nat) : (s.flag p r b i).commits = s.commits := rfl
@[simp] theorem State.flag_bist (s : State) (p : Page) (r : Row) (b : Bool) (i : Nat) : (s.flag p r b i).bist = s.bist := rfl
@[simp] theorem State.flag_ddr (s : State) (p : Page) (r : Row) (b : Bool) (i : Nat) : (s.flag p r b i).ddr = s.ddr := rfl
@[simp] theorem State.flag_intake (s : State) (p : Page) (r : Row) (b : Bool) (i : Nat) : (s.flag p r b i).intake = s.intake := rfl
@[simp] theorem State.flag_spoil (s : State) (p : Page) (r : Row) (b : Bool) (i : Nat) : (s.flag p r b i).spoil = s.spoil := rfl
@[simp] theorem State.flag_identN (s : State) (p : Page) (r : Row) (b : Bool) (i : Nat) : (s.flag p r b i).identN = s.identN := rfl
@[simp] theorem State.flag_den (s : State) (p : Page) (r : Row) (b : Bool) (i : Nat) : (s.flag p r b i).den = s.den := rfl

/-! ### wrS -/

@[simp] theorem State.wrS_pending (s : State) (p : Page) (r : Row) (v : Int) (i : Nat) : (s.wrS p r v i).pending = s.pending := rfl
@[simp] theorem State.wrS_staged (s : State) (p : Page) (r : Row) (v : Int) (i : Nat) : (s.wrS p r v i).staged = s.staged := rfl
@[simp] theorem State.wrS_dclk (s : State) (p : Page) (r : Row) (v : Int) (i : Nat) : (s.wrS p r v i).dclk = s.dclk := rfl
@[simp] theorem State.wrS_free (s : State) (p : Page) (r : Row) (v : Int) (i : Nat) : (s.wrS p r v i).free = s.free := rfl
@[simp] theorem State.wrS_held (s : State) (p : Page) (r : Row) (v : Int) (i : Nat) : (s.wrS p r v i).held = s.held := rfl
@[simp] theorem State.wrS_captured (s : State) (p : Page) (r : Row) (v : Int) (i : Nat) : (s.wrS p r v i).captured = s.captured := rfl
@[simp] theorem State.wrS_reply (s : State) (p : Page) (r : Row) (v : Int) (i : Nat) : (s.wrS p r v i).reply = s.reply := rfl
@[simp] theorem State.wrS_out (s : State) (p : Page) (r : Row) (v : Int) (i : Nat) : (s.wrS p r v i).out = s.out := rfl
@[simp] theorem State.wrS_vecWas (s : State) (p : Page) (r : Row) (v : Int) (i : Nat) : (s.wrS p r v i).vecWas = s.vecWas := rfl
@[simp] theorem State.wrS_power (s : State) (p : Page) (r : Row) (v : Int) (i : Nat) : (s.wrS p r v i).power = s.power := rfl
@[simp] theorem State.wrS_lanes (s : State) (p : Page) (r : Row) (v : Int) (i : Nat) : (s.wrS p r v i).lanes = s.lanes := rfl
@[simp] theorem State.wrS_pair (s : State) (p : Page) (r : Row) (v : Int) (i : Nat) : (s.wrS p r v i).pair = s.pair := rfl
@[simp] theorem State.wrS_pace (s : State) (p : Page) (r : Row) (v : Int) (i : Nat) : (s.wrS p r v i).pace = s.pace := rfl
@[simp] theorem State.wrS_axes (s : State) (p : Page) (r : Row) (v : Int) (i : Nat) : (s.wrS p r v i).axes = s.axes := rfl
@[simp] theorem State.wrS_tim (s : State) (p : Page) (r : Row) (v : Int) (i : Nat) : (s.wrS p r v i).tim = s.tim := rfl
@[simp] theorem State.wrS_clusters (s : State) (p : Page) (r : Row) (v : Int) (i : Nat) : (s.wrS p r v i).clusters = s.clusters := rfl
@[simp] theorem State.wrS_cal (s : State) (p : Page) (r : Row) (v : Int) (i : Nat) : (s.wrS p r v i).cal = s.cal := rfl
@[simp] theorem State.wrS_cores (s : State) (p : Page) (r : Row) (v : Int) (i : Nat) : (s.wrS p r v i).cores = s.cores := rfl
@[simp] theorem State.wrS_codec (s : State) (p : Page) (r : Row) (v : Int) (i : Nat) : (s.wrS p r v i).codec = s.codec := rfl
@[simp] theorem State.wrS_commits (s : State) (p : Page) (r : Row) (v : Int) (i : Nat) : (s.wrS p r v i).commits = s.commits := rfl
@[simp] theorem State.wrS_bist (s : State) (p : Page) (r : Row) (v : Int) (i : Nat) : (s.wrS p r v i).bist = s.bist := rfl
@[simp] theorem State.wrS_ddr (s : State) (p : Page) (r : Row) (v : Int) (i : Nat) : (s.wrS p r v i).ddr = s.ddr := rfl
@[simp] theorem State.wrS_intake (s : State) (p : Page) (r : Row) (v : Int) (i : Nat) : (s.wrS p r v i).intake = s.intake := rfl
@[simp] theorem State.wrS_spoil (s : State) (p : Page) (r : Row) (v : Int) (i : Nat) : (s.wrS p r v i).spoil = s.spoil := rfl
@[simp] theorem State.wrS_identN (s : State) (p : Page) (r : Row) (v : Int) (i : Nat) : (s.wrS p r v i).identN = s.identN := rfl
@[simp] theorem State.wrS_den (s : State) (p : Page) (r : Row) (v : Int) (i : Nat) : (s.wrS p r v i).den = s.den := rfl

/-! ### bump -/

@[simp] theorem State.bump_pending (s : State) (p : Page) (r : Row) (n i : Nat) : (s.bump p r n i).pending = s.pending := rfl
@[simp] theorem State.bump_staged (s : State) (p : Page) (r : Row) (n i : Nat) : (s.bump p r n i).staged = s.staged := rfl
@[simp] theorem State.bump_dclk (s : State) (p : Page) (r : Row) (n i : Nat) : (s.bump p r n i).dclk = s.dclk := rfl
@[simp] theorem State.bump_free (s : State) (p : Page) (r : Row) (n i : Nat) : (s.bump p r n i).free = s.free := rfl
@[simp] theorem State.bump_held (s : State) (p : Page) (r : Row) (n i : Nat) : (s.bump p r n i).held = s.held := rfl
@[simp] theorem State.bump_captured (s : State) (p : Page) (r : Row) (n i : Nat) : (s.bump p r n i).captured = s.captured := rfl
@[simp] theorem State.bump_reply (s : State) (p : Page) (r : Row) (n i : Nat) : (s.bump p r n i).reply = s.reply := rfl
@[simp] theorem State.bump_out (s : State) (p : Page) (r : Row) (n i : Nat) : (s.bump p r n i).out = s.out := rfl
@[simp] theorem State.bump_vecWas (s : State) (p : Page) (r : Row) (n i : Nat) : (s.bump p r n i).vecWas = s.vecWas := rfl
@[simp] theorem State.bump_power (s : State) (p : Page) (r : Row) (n i : Nat) : (s.bump p r n i).power = s.power := rfl
@[simp] theorem State.bump_lanes (s : State) (p : Page) (r : Row) (n i : Nat) : (s.bump p r n i).lanes = s.lanes := rfl
@[simp] theorem State.bump_pair (s : State) (p : Page) (r : Row) (n i : Nat) : (s.bump p r n i).pair = s.pair := rfl
@[simp] theorem State.bump_pace (s : State) (p : Page) (r : Row) (n i : Nat) : (s.bump p r n i).pace = s.pace := rfl
@[simp] theorem State.bump_axes (s : State) (p : Page) (r : Row) (n i : Nat) : (s.bump p r n i).axes = s.axes := rfl
@[simp] theorem State.bump_tim (s : State) (p : Page) (r : Row) (n i : Nat) : (s.bump p r n i).tim = s.tim := rfl
@[simp] theorem State.bump_clusters (s : State) (p : Page) (r : Row) (n i : Nat) : (s.bump p r n i).clusters = s.clusters := rfl
@[simp] theorem State.bump_cal (s : State) (p : Page) (r : Row) (n i : Nat) : (s.bump p r n i).cal = s.cal := rfl
@[simp] theorem State.bump_cores (s : State) (p : Page) (r : Row) (n i : Nat) : (s.bump p r n i).cores = s.cores := rfl
@[simp] theorem State.bump_codec (s : State) (p : Page) (r : Row) (n i : Nat) : (s.bump p r n i).codec = s.codec := rfl
@[simp] theorem State.bump_commits (s : State) (p : Page) (r : Row) (n i : Nat) : (s.bump p r n i).commits = s.commits := rfl
@[simp] theorem State.bump_bist (s : State) (p : Page) (r : Row) (n i : Nat) : (s.bump p r n i).bist = s.bist := rfl
@[simp] theorem State.bump_ddr (s : State) (p : Page) (r : Row) (n i : Nat) : (s.bump p r n i).ddr = s.ddr := rfl
@[simp] theorem State.bump_intake (s : State) (p : Page) (r : Row) (n i : Nat) : (s.bump p r n i).intake = s.intake := rfl
@[simp] theorem State.bump_spoil (s : State) (p : Page) (r : Row) (n i : Nat) : (s.bump p r n i).spoil = s.spoil := rfl
@[simp] theorem State.bump_identN (s : State) (p : Page) (r : Row) (n i : Nat) : (s.bump p r n i).identN = s.identN := rfl
@[simp] theorem State.bump_den (s : State) (p : Page) (r : Row) (n i : Nat) : (s.bump p r n i).den = s.den := rfl

/-! ### raise -/

@[simp] theorem State.raise_pending (s : State) (p : Page) (i : Nat) : (s.raise p i).pending = s.pending := rfl
@[simp] theorem State.raise_staged (s : State) (p : Page) (i : Nat) : (s.raise p i).staged = s.staged := rfl
@[simp] theorem State.raise_dclk (s : State) (p : Page) (i : Nat) : (s.raise p i).dclk = s.dclk := rfl
@[simp] theorem State.raise_free (s : State) (p : Page) (i : Nat) : (s.raise p i).free = s.free := rfl
@[simp] theorem State.raise_held (s : State) (p : Page) (i : Nat) : (s.raise p i).held = s.held := rfl
@[simp] theorem State.raise_captured (s : State) (p : Page) (i : Nat) : (s.raise p i).captured = s.captured := rfl
@[simp] theorem State.raise_reply (s : State) (p : Page) (i : Nat) : (s.raise p i).reply = s.reply := rfl
@[simp] theorem State.raise_out (s : State) (p : Page) (i : Nat) : (s.raise p i).out = s.out := rfl
@[simp] theorem State.raise_vecWas (s : State) (p : Page) (i : Nat) : (s.raise p i).vecWas = s.vecWas := rfl
@[simp] theorem State.raise_power (s : State) (p : Page) (i : Nat) : (s.raise p i).power = s.power := rfl
@[simp] theorem State.raise_lanes (s : State) (p : Page) (i : Nat) : (s.raise p i).lanes = s.lanes := rfl
@[simp] theorem State.raise_pair (s : State) (p : Page) (i : Nat) : (s.raise p i).pair = s.pair := rfl
@[simp] theorem State.raise_pace (s : State) (p : Page) (i : Nat) : (s.raise p i).pace = s.pace := rfl
@[simp] theorem State.raise_axes (s : State) (p : Page) (i : Nat) : (s.raise p i).axes = s.axes := rfl
@[simp] theorem State.raise_tim (s : State) (p : Page) (i : Nat) : (s.raise p i).tim = s.tim := rfl
@[simp] theorem State.raise_clusters (s : State) (p : Page) (i : Nat) : (s.raise p i).clusters = s.clusters := rfl
@[simp] theorem State.raise_cal (s : State) (p : Page) (i : Nat) : (s.raise p i).cal = s.cal := rfl
@[simp] theorem State.raise_cores (s : State) (p : Page) (i : Nat) : (s.raise p i).cores = s.cores := rfl
@[simp] theorem State.raise_codec (s : State) (p : Page) (i : Nat) : (s.raise p i).codec = s.codec := rfl
@[simp] theorem State.raise_commits (s : State) (p : Page) (i : Nat) : (s.raise p i).commits = s.commits := rfl
@[simp] theorem State.raise_bist (s : State) (p : Page) (i : Nat) : (s.raise p i).bist = s.bist := rfl
@[simp] theorem State.raise_ddr (s : State) (p : Page) (i : Nat) : (s.raise p i).ddr = s.ddr := rfl
@[simp] theorem State.raise_intake (s : State) (p : Page) (i : Nat) : (s.raise p i).intake = s.intake := rfl
@[simp] theorem State.raise_spoil (s : State) (p : Page) (i : Nat) : (s.raise p i).spoil = s.spoil := rfl
@[simp] theorem State.raise_identN (s : State) (p : Page) (i : Nat) : (s.raise p i).identN = s.identN := rfl
@[simp] theorem State.raise_den (s : State) (p : Page) (i : Nat) : (s.raise p i).den = s.den := rfl

/-! ### emit -/

@[simp] theorem State.emit_pending (s : State) (o : Out) : (s.emit o).pending = s.pending := rfl
@[simp] theorem State.emit_regs (s : State) (o : Out) : (s.emit o).regs = s.regs := rfl
@[simp] theorem State.emit_staged (s : State) (o : Out) : (s.emit o).staged = s.staged := rfl
@[simp] theorem State.emit_dclk (s : State) (o : Out) : (s.emit o).dclk = s.dclk := rfl
@[simp] theorem State.emit_free (s : State) (o : Out) : (s.emit o).free = s.free := rfl
@[simp] theorem State.emit_held (s : State) (o : Out) : (s.emit o).held = s.held := rfl
@[simp] theorem State.emit_captured (s : State) (o : Out) : (s.emit o).captured = s.captured := rfl
@[simp] theorem State.emit_reply (s : State) (o : Out) : (s.emit o).reply = s.reply := rfl
@[simp] theorem State.emit_vecWas (s : State) (o : Out) : (s.emit o).vecWas = s.vecWas := rfl
@[simp] theorem State.emit_power (s : State) (o : Out) : (s.emit o).power = s.power := rfl
@[simp] theorem State.emit_lanes (s : State) (o : Out) : (s.emit o).lanes = s.lanes := rfl
@[simp] theorem State.emit_pair (s : State) (o : Out) : (s.emit o).pair = s.pair := rfl
@[simp] theorem State.emit_pace (s : State) (o : Out) : (s.emit o).pace = s.pace := rfl
@[simp] theorem State.emit_axes (s : State) (o : Out) : (s.emit o).axes = s.axes := rfl
@[simp] theorem State.emit_tim (s : State) (o : Out) : (s.emit o).tim = s.tim := rfl
@[simp] theorem State.emit_clusters (s : State) (o : Out) : (s.emit o).clusters = s.clusters := rfl
@[simp] theorem State.emit_cal (s : State) (o : Out) : (s.emit o).cal = s.cal := rfl
@[simp] theorem State.emit_cores (s : State) (o : Out) : (s.emit o).cores = s.cores := rfl
@[simp] theorem State.emit_codec (s : State) (o : Out) : (s.emit o).codec = s.codec := rfl
@[simp] theorem State.emit_commits (s : State) (o : Out) : (s.emit o).commits = s.commits := rfl
@[simp] theorem State.emit_bist (s : State) (o : Out) : (s.emit o).bist = s.bist := rfl
@[simp] theorem State.emit_ddr (s : State) (o : Out) : (s.emit o).ddr = s.ddr := rfl
@[simp] theorem State.emit_intake (s : State) (o : Out) : (s.emit o).intake = s.intake := rfl
@[simp] theorem State.emit_spoil (s : State) (o : Out) : (s.emit o).spoil = s.spoil := rfl
@[simp] theorem State.emit_identN (s : State) (o : Out) : (s.emit o).identN = s.identN := rfl
@[simp] theorem State.emit_den (s : State) (o : Out) : (s.emit o).den = s.den := rfl

/-! ### drawMany -/

@[simp] theorem State.drawMany_pending (s : State) (n : Nat) : (s.drawMany n).pending = s.pending := rfl
@[simp] theorem State.drawMany_regs (s : State) (n : Nat) : (s.drawMany n).regs = s.regs := rfl
@[simp] theorem State.drawMany_staged (s : State) (n : Nat) : (s.drawMany n).staged = s.staged := rfl
@[simp] theorem State.drawMany_dclk (s : State) (n : Nat) : (s.drawMany n).dclk = s.dclk := rfl
@[simp] theorem State.drawMany_held (s : State) (n : Nat) : (s.drawMany n).held = s.held := rfl
@[simp] theorem State.drawMany_captured (s : State) (n : Nat) : (s.drawMany n).captured = s.captured := rfl
@[simp] theorem State.drawMany_reply (s : State) (n : Nat) : (s.drawMany n).reply = s.reply := rfl
@[simp] theorem State.drawMany_out (s : State) (n : Nat) : (s.drawMany n).out = s.out := rfl
@[simp] theorem State.drawMany_vecWas (s : State) (n : Nat) : (s.drawMany n).vecWas = s.vecWas := rfl
@[simp] theorem State.drawMany_power (s : State) (n : Nat) : (s.drawMany n).power = s.power := rfl
@[simp] theorem State.drawMany_lanes (s : State) (n : Nat) : (s.drawMany n).lanes = s.lanes := rfl
@[simp] theorem State.drawMany_pair (s : State) (n : Nat) : (s.drawMany n).pair = s.pair := rfl
@[simp] theorem State.drawMany_pace (s : State) (n : Nat) : (s.drawMany n).pace = s.pace := rfl
@[simp] theorem State.drawMany_axes (s : State) (n : Nat) : (s.drawMany n).axes = s.axes := rfl
@[simp] theorem State.drawMany_tim (s : State) (n : Nat) : (s.drawMany n).tim = s.tim := rfl
@[simp] theorem State.drawMany_clusters (s : State) (n : Nat) : (s.drawMany n).clusters = s.clusters := rfl
@[simp] theorem State.drawMany_cal (s : State) (n : Nat) : (s.drawMany n).cal = s.cal := rfl
@[simp] theorem State.drawMany_cores (s : State) (n : Nat) : (s.drawMany n).cores = s.cores := rfl
@[simp] theorem State.drawMany_codec (s : State) (n : Nat) : (s.drawMany n).codec = s.codec := rfl
@[simp] theorem State.drawMany_commits (s : State) (n : Nat) : (s.drawMany n).commits = s.commits := rfl
@[simp] theorem State.drawMany_bist (s : State) (n : Nat) : (s.drawMany n).bist = s.bist := rfl
@[simp] theorem State.drawMany_ddr (s : State) (n : Nat) : (s.drawMany n).ddr = s.ddr := rfl
@[simp] theorem State.drawMany_intake (s : State) (n : Nat) : (s.drawMany n).intake = s.intake := rfl
@[simp] theorem State.drawMany_spoil (s : State) (n : Nat) : (s.drawMany n).spoil = s.spoil := rfl
@[simp] theorem State.drawMany_identN (s : State) (n : Nat) : (s.drawMany n).identN = s.identN := rfl
@[simp] theorem State.drawMany_den (s : State) (n : Nat) : (s.drawMany n).den = s.den := rfl

/-! ### clearRange -/

@[simp] theorem State.clearRange_pending (s : State) (lo n : Nat) : (s.clearRange lo n).pending = s.pending := rfl
@[simp] theorem State.clearRange_staged (s : State) (lo n : Nat) : (s.clearRange lo n).staged = s.staged := rfl
@[simp] theorem State.clearRange_dclk (s : State) (lo n : Nat) : (s.clearRange lo n).dclk = s.dclk := rfl
@[simp] theorem State.clearRange_free (s : State) (lo n : Nat) : (s.clearRange lo n).free = s.free := rfl
@[simp] theorem State.clearRange_held (s : State) (lo n : Nat) : (s.clearRange lo n).held = s.held := rfl
@[simp] theorem State.clearRange_captured (s : State) (lo n : Nat) : (s.clearRange lo n).captured = s.captured := rfl
@[simp] theorem State.clearRange_reply (s : State) (lo n : Nat) : (s.clearRange lo n).reply = s.reply := rfl
@[simp] theorem State.clearRange_out (s : State) (lo n : Nat) : (s.clearRange lo n).out = s.out := rfl
@[simp] theorem State.clearRange_vecWas (s : State) (lo n : Nat) : (s.clearRange lo n).vecWas = s.vecWas := rfl
@[simp] theorem State.clearRange_power (s : State) (lo n : Nat) : (s.clearRange lo n).power = s.power := rfl
@[simp] theorem State.clearRange_lanes (s : State) (lo n : Nat) : (s.clearRange lo n).lanes = s.lanes := rfl
@[simp] theorem State.clearRange_pair (s : State) (lo n : Nat) : (s.clearRange lo n).pair = s.pair := rfl
@[simp] theorem State.clearRange_pace (s : State) (lo n : Nat) : (s.clearRange lo n).pace = s.pace := rfl
@[simp] theorem State.clearRange_axes (s : State) (lo n : Nat) : (s.clearRange lo n).axes = s.axes := rfl
@[simp] theorem State.clearRange_tim (s : State) (lo n : Nat) : (s.clearRange lo n).tim = s.tim := rfl
@[simp] theorem State.clearRange_clusters (s : State) (lo n : Nat) : (s.clearRange lo n).clusters = s.clusters := rfl
@[simp] theorem State.clearRange_cal (s : State) (lo n : Nat) : (s.clearRange lo n).cal = s.cal := rfl
@[simp] theorem State.clearRange_cores (s : State) (lo n : Nat) : (s.clearRange lo n).cores = s.cores := rfl
@[simp] theorem State.clearRange_codec (s : State) (lo n : Nat) : (s.clearRange lo n).codec = s.codec := rfl
@[simp] theorem State.clearRange_commits (s : State) (lo n : Nat) : (s.clearRange lo n).commits = s.commits := rfl
@[simp] theorem State.clearRange_bist (s : State) (lo n : Nat) : (s.clearRange lo n).bist = s.bist := rfl
@[simp] theorem State.clearRange_ddr (s : State) (lo n : Nat) : (s.clearRange lo n).ddr = s.ddr := rfl
@[simp] theorem State.clearRange_intake (s : State) (lo n : Nat) : (s.clearRange lo n).intake = s.intake := rfl
@[simp] theorem State.clearRange_spoil (s : State) (lo n : Nat) : (s.clearRange lo n).spoil = s.spoil := rfl
@[simp] theorem State.clearRange_identN (s : State) (lo n : Nat) : (s.clearRange lo n).identN = s.identN := rfl
@[simp] theorem State.clearRange_den (s : State) (lo n : Nat) : (s.clearRange lo n).den = s.den := rfl

/-! ### err -/

@[simp] theorem State.err_pending (s : State) (p : Page) (nn info : Nat) : (s.err p nn info).pending = s.pending := by unfold State.err; dsimp only; split <;> rfl
@[simp] theorem State.err_staged (s : State) (p : Page) (nn info : Nat) : (s.err p nn info).staged = s.staged := by unfold State.err; dsimp only; split <;> rfl
@[simp] theorem State.err_dclk (s : State) (p : Page) (nn info : Nat) : (s.err p nn info).dclk = s.dclk := by unfold State.err; dsimp only; split <;> rfl
@[simp] theorem State.err_free (s : State) (p : Page) (nn info : Nat) : (s.err p nn info).free = s.free := by unfold State.err; dsimp only; split <;> rfl
@[simp] theorem State.err_held (s : State) (p : Page) (nn info : Nat) : (s.err p nn info).held = s.held := by unfold State.err; dsimp only; split <;> rfl
@[simp] theorem State.err_captured (s : State) (p : Page) (nn info : Nat) : (s.err p nn info).captured = s.captured := by unfold State.err; dsimp only; split <;> rfl
@[simp] theorem State.err_reply (s : State) (p : Page) (nn info : Nat) : (s.err p nn info).reply = s.reply := by unfold State.err; dsimp only; split <;> rfl
@[simp] theorem State.err_out (s : State) (p : Page) (nn info : Nat) : (s.err p nn info).out = s.out := by unfold State.err; dsimp only; split <;> rfl
@[simp] theorem State.err_vecWas (s : State) (p : Page) (nn info : Nat) : (s.err p nn info).vecWas = s.vecWas := by unfold State.err; dsimp only; split <;> rfl
@[simp] theorem State.err_power (s : State) (p : Page) (nn info : Nat) : (s.err p nn info).power = s.power := by unfold State.err; dsimp only; split <;> rfl
@[simp] theorem State.err_lanes (s : State) (p : Page) (nn info : Nat) : (s.err p nn info).lanes = s.lanes := by unfold State.err; dsimp only; split <;> rfl
@[simp] theorem State.err_pair (s : State) (p : Page) (nn info : Nat) : (s.err p nn info).pair = s.pair := by unfold State.err; dsimp only; split <;> rfl
@[simp] theorem State.err_pace (s : State) (p : Page) (nn info : Nat) : (s.err p nn info).pace = s.pace := by unfold State.err; dsimp only; split <;> rfl
@[simp] theorem State.err_axes (s : State) (p : Page) (nn info : Nat) : (s.err p nn info).axes = s.axes := by unfold State.err; dsimp only; split <;> rfl
@[simp] theorem State.err_tim (s : State) (p : Page) (nn info : Nat) : (s.err p nn info).tim = s.tim := by unfold State.err; dsimp only; split <;> rfl
@[simp] theorem State.err_clusters (s : State) (p : Page) (nn info : Nat) : (s.err p nn info).clusters = s.clusters := by unfold State.err; dsimp only; split <;> rfl
@[simp] theorem State.err_cal (s : State) (p : Page) (nn info : Nat) : (s.err p nn info).cal = s.cal := by unfold State.err; dsimp only; split <;> rfl
@[simp] theorem State.err_cores (s : State) (p : Page) (nn info : Nat) : (s.err p nn info).cores = s.cores := by unfold State.err; dsimp only; split <;> rfl
@[simp] theorem State.err_codec (s : State) (p : Page) (nn info : Nat) : (s.err p nn info).codec = s.codec := by unfold State.err; dsimp only; split <;> rfl
@[simp] theorem State.err_commits (s : State) (p : Page) (nn info : Nat) : (s.err p nn info).commits = s.commits := by unfold State.err; dsimp only; split <;> rfl
@[simp] theorem State.err_bist (s : State) (p : Page) (nn info : Nat) : (s.err p nn info).bist = s.bist := by unfold State.err; dsimp only; split <;> rfl
@[simp] theorem State.err_ddr (s : State) (p : Page) (nn info : Nat) : (s.err p nn info).ddr = s.ddr := by unfold State.err; dsimp only; split <;> rfl
@[simp] theorem State.err_intake (s : State) (p : Page) (nn info : Nat) : (s.err p nn info).intake = s.intake := by unfold State.err; dsimp only; split <;> rfl
@[simp] theorem State.err_spoil (s : State) (p : Page) (nn info : Nat) : (s.err p nn info).spoil = s.spoil := by unfold State.err; dsimp only; split <;> rfl
@[simp] theorem State.err_identN (s : State) (p : Page) (nn info : Nat) : (s.err p nn info).identN = s.identN := by unfold State.err; dsimp only; split <;> rfl
@[simp] theorem State.err_den (s : State) (p : Page) (nn info : Nat) : (s.err p nn info).den = s.den := by unfold State.err; dsimp only; split <;> rfl

/-! ### errAt -/

@[simp] theorem State.errAt_pending (s : State) (p : Page) (nn off req : Nat) : (s.errAt p nn off req).pending = s.pending := by simp [State.errAt]
@[simp] theorem State.errAt_staged (s : State) (p : Page) (nn off req : Nat) : (s.errAt p nn off req).staged = s.staged := by simp [State.errAt]
@[simp] theorem State.errAt_dclk (s : State) (p : Page) (nn off req : Nat) : (s.errAt p nn off req).dclk = s.dclk := by simp [State.errAt]
@[simp] theorem State.errAt_free (s : State) (p : Page) (nn off req : Nat) : (s.errAt p nn off req).free = s.free := by simp [State.errAt]
@[simp] theorem State.errAt_held (s : State) (p : Page) (nn off req : Nat) : (s.errAt p nn off req).held = s.held := by simp [State.errAt]
@[simp] theorem State.errAt_captured (s : State) (p : Page) (nn off req : Nat) : (s.errAt p nn off req).captured = s.captured := by simp [State.errAt]
@[simp] theorem State.errAt_reply (s : State) (p : Page) (nn off req : Nat) : (s.errAt p nn off req).reply = s.reply := by simp [State.errAt]
@[simp] theorem State.errAt_out (s : State) (p : Page) (nn off req : Nat) : (s.errAt p nn off req).out = s.out := by simp [State.errAt]
@[simp] theorem State.errAt_vecWas (s : State) (p : Page) (nn off req : Nat) : (s.errAt p nn off req).vecWas = s.vecWas := by simp [State.errAt]
@[simp] theorem State.errAt_power (s : State) (p : Page) (nn off req : Nat) : (s.errAt p nn off req).power = s.power := by simp [State.errAt]
@[simp] theorem State.errAt_lanes (s : State) (p : Page) (nn off req : Nat) : (s.errAt p nn off req).lanes = s.lanes := by simp [State.errAt]
@[simp] theorem State.errAt_pair (s : State) (p : Page) (nn off req : Nat) : (s.errAt p nn off req).pair = s.pair := by simp [State.errAt]
@[simp] theorem State.errAt_pace (s : State) (p : Page) (nn off req : Nat) : (s.errAt p nn off req).pace = s.pace := by simp [State.errAt]
@[simp] theorem State.errAt_axes (s : State) (p : Page) (nn off req : Nat) : (s.errAt p nn off req).axes = s.axes := by simp [State.errAt]
@[simp] theorem State.errAt_tim (s : State) (p : Page) (nn off req : Nat) : (s.errAt p nn off req).tim = s.tim := by simp [State.errAt]
@[simp] theorem State.errAt_clusters (s : State) (p : Page) (nn off req : Nat) : (s.errAt p nn off req).clusters = s.clusters := by simp [State.errAt]
@[simp] theorem State.errAt_cal (s : State) (p : Page) (nn off req : Nat) : (s.errAt p nn off req).cal = s.cal := by simp [State.errAt]
@[simp] theorem State.errAt_cores (s : State) (p : Page) (nn off req : Nat) : (s.errAt p nn off req).cores = s.cores := by simp [State.errAt]
@[simp] theorem State.errAt_codec (s : State) (p : Page) (nn off req : Nat) : (s.errAt p nn off req).codec = s.codec := by simp [State.errAt]
@[simp] theorem State.errAt_commits (s : State) (p : Page) (nn off req : Nat) : (s.errAt p nn off req).commits = s.commits := by simp [State.errAt]
@[simp] theorem State.errAt_bist (s : State) (p : Page) (nn off req : Nat) : (s.errAt p nn off req).bist = s.bist := by simp [State.errAt]
@[simp] theorem State.errAt_ddr (s : State) (p : Page) (nn off req : Nat) : (s.errAt p nn off req).ddr = s.ddr := by simp [State.errAt]
@[simp] theorem State.errAt_intake (s : State) (p : Page) (nn off req : Nat) : (s.errAt p nn off req).intake = s.intake := by simp [State.errAt]
@[simp] theorem State.errAt_spoil (s : State) (p : Page) (nn off req : Nat) : (s.errAt p nn off req).spoil = s.spoil := by simp [State.errAt]
@[simp] theorem State.errAt_identN (s : State) (p : Page) (nn off req : Nat) : (s.errAt p nn off req).identN = s.identN := by simp [State.errAt]
@[simp] theorem State.errAt_den (s : State) (p : Page) (nn off req : Nat) : (s.errAt p nn off req).den = s.den := by simp [State.errAt]

/-! ### setPage -/

@[simp] theorem State.setPage_pending (s : State) (p : Page) (v : Nat) : (s.setPage p v).pending = s.pending := by unfold State.setPage; split <;> rfl
@[simp] theorem State.setPage_staged (s : State) (p : Page) (v : Nat) : (s.setPage p v).staged = s.staged := by unfold State.setPage; split <;> rfl
@[simp] theorem State.setPage_dclk (s : State) (p : Page) (v : Nat) : (s.setPage p v).dclk = s.dclk := by unfold State.setPage; split <;> rfl
@[simp] theorem State.setPage_free (s : State) (p : Page) (v : Nat) : (s.setPage p v).free = s.free := by unfold State.setPage; split <;> rfl
@[simp] theorem State.setPage_held (s : State) (p : Page) (v : Nat) : (s.setPage p v).held = s.held := by unfold State.setPage; split <;> rfl
@[simp] theorem State.setPage_captured (s : State) (p : Page) (v : Nat) : (s.setPage p v).captured = s.captured := by unfold State.setPage; split <;> rfl
@[simp] theorem State.setPage_reply (s : State) (p : Page) (v : Nat) : (s.setPage p v).reply = s.reply := by unfold State.setPage; split <;> rfl
@[simp] theorem State.setPage_out (s : State) (p : Page) (v : Nat) : (s.setPage p v).out = s.out := by unfold State.setPage; split <;> rfl
@[simp] theorem State.setPage_vecWas (s : State) (p : Page) (v : Nat) : (s.setPage p v).vecWas = s.vecWas := by unfold State.setPage; split <;> rfl
@[simp] theorem State.setPage_power (s : State) (p : Page) (v : Nat) : (s.setPage p v).power = s.power := by unfold State.setPage; split <;> rfl
@[simp] theorem State.setPage_lanes (s : State) (p : Page) (v : Nat) : (s.setPage p v).lanes = s.lanes := by unfold State.setPage; split <;> rfl
@[simp] theorem State.setPage_pair (s : State) (p : Page) (v : Nat) : (s.setPage p v).pair = s.pair := by unfold State.setPage; split <;> rfl
@[simp] theorem State.setPage_pace (s : State) (p : Page) (v : Nat) : (s.setPage p v).pace = s.pace := by unfold State.setPage; split <;> rfl
@[simp] theorem State.setPage_axes (s : State) (p : Page) (v : Nat) : (s.setPage p v).axes = s.axes := by unfold State.setPage; split <;> rfl
@[simp] theorem State.setPage_tim (s : State) (p : Page) (v : Nat) : (s.setPage p v).tim = s.tim := by unfold State.setPage; split <;> rfl
@[simp] theorem State.setPage_clusters (s : State) (p : Page) (v : Nat) : (s.setPage p v).clusters = s.clusters := by unfold State.setPage; split <;> rfl
@[simp] theorem State.setPage_cal (s : State) (p : Page) (v : Nat) : (s.setPage p v).cal = s.cal := by unfold State.setPage; split <;> rfl
@[simp] theorem State.setPage_cores (s : State) (p : Page) (v : Nat) : (s.setPage p v).cores = s.cores := by unfold State.setPage; split <;> rfl
@[simp] theorem State.setPage_codec (s : State) (p : Page) (v : Nat) : (s.setPage p v).codec = s.codec := by unfold State.setPage; split <;> rfl
@[simp] theorem State.setPage_commits (s : State) (p : Page) (v : Nat) : (s.setPage p v).commits = s.commits := by unfold State.setPage; split <;> rfl
@[simp] theorem State.setPage_bist (s : State) (p : Page) (v : Nat) : (s.setPage p v).bist = s.bist := by unfold State.setPage; split <;> rfl
@[simp] theorem State.setPage_ddr (s : State) (p : Page) (v : Nat) : (s.setPage p v).ddr = s.ddr := by unfold State.setPage; split <;> rfl
@[simp] theorem State.setPage_intake (s : State) (p : Page) (v : Nat) : (s.setPage p v).intake = s.intake := by unfold State.setPage; split <;> rfl
@[simp] theorem State.setPage_spoil (s : State) (p : Page) (v : Nat) : (s.setPage p v).spoil = s.spoil := by unfold State.setPage; split <;> rfl
@[simp] theorem State.setPage_identN (s : State) (p : Page) (v : Nat) : (s.setPage p v).identN = s.identN := by unfold State.setPage; split <;> rfl
@[simp] theorem State.setPage_den (s : State) (p : Page) (v : Nat) : (s.setPage p v).den = s.den := by unfold State.setPage; split <;> rfl

/-! ### setFault -/

@[simp] theorem State.setFault_pending (s : State) (p : Page) (b : Bool) : (s.setFault p b).pending = s.pending := by unfold State.setFault State.when; split <;> rfl
@[simp] theorem State.setFault_staged (s : State) (p : Page) (b : Bool) : (s.setFault p b).staged = s.staged := by unfold State.setFault State.when; split <;> rfl
@[simp] theorem State.setFault_dclk (s : State) (p : Page) (b : Bool) : (s.setFault p b).dclk = s.dclk := by unfold State.setFault State.when; split <;> rfl
@[simp] theorem State.setFault_free (s : State) (p : Page) (b : Bool) : (s.setFault p b).free = s.free := by unfold State.setFault State.when; split <;> rfl
@[simp] theorem State.setFault_held (s : State) (p : Page) (b : Bool) : (s.setFault p b).held = s.held := by unfold State.setFault State.when; split <;> rfl
@[simp] theorem State.setFault_captured (s : State) (p : Page) (b : Bool) : (s.setFault p b).captured = s.captured := by unfold State.setFault State.when; split <;> rfl
@[simp] theorem State.setFault_reply (s : State) (p : Page) (b : Bool) : (s.setFault p b).reply = s.reply := by unfold State.setFault State.when; split <;> rfl
@[simp] theorem State.setFault_out (s : State) (p : Page) (b : Bool) : (s.setFault p b).out = s.out := by unfold State.setFault State.when; split <;> rfl
@[simp] theorem State.setFault_vecWas (s : State) (p : Page) (b : Bool) : (s.setFault p b).vecWas = s.vecWas := by unfold State.setFault State.when; split <;> rfl
@[simp] theorem State.setFault_power (s : State) (p : Page) (b : Bool) : (s.setFault p b).power = s.power := by unfold State.setFault State.when; split <;> rfl
@[simp] theorem State.setFault_lanes (s : State) (p : Page) (b : Bool) : (s.setFault p b).lanes = s.lanes := by unfold State.setFault State.when; split <;> rfl
@[simp] theorem State.setFault_pair (s : State) (p : Page) (b : Bool) : (s.setFault p b).pair = s.pair := by unfold State.setFault State.when; split <;> rfl
@[simp] theorem State.setFault_pace (s : State) (p : Page) (b : Bool) : (s.setFault p b).pace = s.pace := by unfold State.setFault State.when; split <;> rfl
@[simp] theorem State.setFault_axes (s : State) (p : Page) (b : Bool) : (s.setFault p b).axes = s.axes := by unfold State.setFault State.when; split <;> rfl
@[simp] theorem State.setFault_tim (s : State) (p : Page) (b : Bool) : (s.setFault p b).tim = s.tim := by unfold State.setFault State.when; split <;> rfl
@[simp] theorem State.setFault_clusters (s : State) (p : Page) (b : Bool) : (s.setFault p b).clusters = s.clusters := by unfold State.setFault State.when; split <;> rfl
@[simp] theorem State.setFault_cal (s : State) (p : Page) (b : Bool) : (s.setFault p b).cal = s.cal := by unfold State.setFault State.when; split <;> rfl
@[simp] theorem State.setFault_cores (s : State) (p : Page) (b : Bool) : (s.setFault p b).cores = s.cores := by unfold State.setFault State.when; split <;> rfl
@[simp] theorem State.setFault_codec (s : State) (p : Page) (b : Bool) : (s.setFault p b).codec = s.codec := by unfold State.setFault State.when; split <;> rfl
@[simp] theorem State.setFault_commits (s : State) (p : Page) (b : Bool) : (s.setFault p b).commits = s.commits := by unfold State.setFault State.when; split <;> rfl
@[simp] theorem State.setFault_bist (s : State) (p : Page) (b : Bool) : (s.setFault p b).bist = s.bist := by unfold State.setFault State.when; split <;> rfl
@[simp] theorem State.setFault_ddr (s : State) (p : Page) (b : Bool) : (s.setFault p b).ddr = s.ddr := by unfold State.setFault State.when; split <;> rfl
@[simp] theorem State.setFault_intake (s : State) (p : Page) (b : Bool) : (s.setFault p b).intake = s.intake := by unfold State.setFault State.when; split <;> rfl
@[simp] theorem State.setFault_spoil (s : State) (p : Page) (b : Bool) : (s.setFault p b).spoil = s.spoil := by unfold State.setFault State.when; split <;> rfl
@[simp] theorem State.setFault_identN (s : State) (p : Page) (b : Bool) : (s.setFault p b).identN = s.identN := by unfold State.setFault State.when; split <;> rfl
@[simp] theorem State.setFault_den (s : State) (p : Page) (b : Bool) : (s.setFault p b).den = s.den := by unfold State.setFault State.when; split <;> rfl

/-! ### setOverdue -/

@[simp] theorem State.setOverdue_pending (s : State) (p : Page) (b : Bool) : (s.setOverdue p b).pending = s.pending := by unfold State.setOverdue State.when; split <;> rfl
@[simp] theorem State.setOverdue_staged (s : State) (p : Page) (b : Bool) : (s.setOverdue p b).staged = s.staged := by unfold State.setOverdue State.when; split <;> rfl
@[simp] theorem State.setOverdue_dclk (s : State) (p : Page) (b : Bool) : (s.setOverdue p b).dclk = s.dclk := by unfold State.setOverdue State.when; split <;> rfl
@[simp] theorem State.setOverdue_free (s : State) (p : Page) (b : Bool) : (s.setOverdue p b).free = s.free := by unfold State.setOverdue State.when; split <;> rfl
@[simp] theorem State.setOverdue_held (s : State) (p : Page) (b : Bool) : (s.setOverdue p b).held = s.held := by unfold State.setOverdue State.when; split <;> rfl
@[simp] theorem State.setOverdue_captured (s : State) (p : Page) (b : Bool) : (s.setOverdue p b).captured = s.captured := by unfold State.setOverdue State.when; split <;> rfl
@[simp] theorem State.setOverdue_reply (s : State) (p : Page) (b : Bool) : (s.setOverdue p b).reply = s.reply := by unfold State.setOverdue State.when; split <;> rfl
@[simp] theorem State.setOverdue_out (s : State) (p : Page) (b : Bool) : (s.setOverdue p b).out = s.out := by unfold State.setOverdue State.when; split <;> rfl
@[simp] theorem State.setOverdue_vecWas (s : State) (p : Page) (b : Bool) : (s.setOverdue p b).vecWas = s.vecWas := by unfold State.setOverdue State.when; split <;> rfl
@[simp] theorem State.setOverdue_power (s : State) (p : Page) (b : Bool) : (s.setOverdue p b).power = s.power := by unfold State.setOverdue State.when; split <;> rfl
@[simp] theorem State.setOverdue_lanes (s : State) (p : Page) (b : Bool) : (s.setOverdue p b).lanes = s.lanes := by unfold State.setOverdue State.when; split <;> rfl
@[simp] theorem State.setOverdue_pair (s : State) (p : Page) (b : Bool) : (s.setOverdue p b).pair = s.pair := by unfold State.setOverdue State.when; split <;> rfl
@[simp] theorem State.setOverdue_pace (s : State) (p : Page) (b : Bool) : (s.setOverdue p b).pace = s.pace := by unfold State.setOverdue State.when; split <;> rfl
@[simp] theorem State.setOverdue_axes (s : State) (p : Page) (b : Bool) : (s.setOverdue p b).axes = s.axes := by unfold State.setOverdue State.when; split <;> rfl
@[simp] theorem State.setOverdue_tim (s : State) (p : Page) (b : Bool) : (s.setOverdue p b).tim = s.tim := by unfold State.setOverdue State.when; split <;> rfl
@[simp] theorem State.setOverdue_clusters (s : State) (p : Page) (b : Bool) : (s.setOverdue p b).clusters = s.clusters := by unfold State.setOverdue State.when; split <;> rfl
@[simp] theorem State.setOverdue_cal (s : State) (p : Page) (b : Bool) : (s.setOverdue p b).cal = s.cal := by unfold State.setOverdue State.when; split <;> rfl
@[simp] theorem State.setOverdue_cores (s : State) (p : Page) (b : Bool) : (s.setOverdue p b).cores = s.cores := by unfold State.setOverdue State.when; split <;> rfl
@[simp] theorem State.setOverdue_codec (s : State) (p : Page) (b : Bool) : (s.setOverdue p b).codec = s.codec := by unfold State.setOverdue State.when; split <;> rfl
@[simp] theorem State.setOverdue_commits (s : State) (p : Page) (b : Bool) : (s.setOverdue p b).commits = s.commits := by unfold State.setOverdue State.when; split <;> rfl
@[simp] theorem State.setOverdue_bist (s : State) (p : Page) (b : Bool) : (s.setOverdue p b).bist = s.bist := by unfold State.setOverdue State.when; split <;> rfl
@[simp] theorem State.setOverdue_ddr (s : State) (p : Page) (b : Bool) : (s.setOverdue p b).ddr = s.ddr := by unfold State.setOverdue State.when; split <;> rfl
@[simp] theorem State.setOverdue_intake (s : State) (p : Page) (b : Bool) : (s.setOverdue p b).intake = s.intake := by unfold State.setOverdue State.when; split <;> rfl
@[simp] theorem State.setOverdue_spoil (s : State) (p : Page) (b : Bool) : (s.setOverdue p b).spoil = s.spoil := by unfold State.setOverdue State.when; split <;> rfl
@[simp] theorem State.setOverdue_identN (s : State) (p : Page) (b : Bool) : (s.setOverdue p b).identN = s.identN := by unfold State.setOverdue State.when; split <;> rfl
@[simp] theorem State.setOverdue_den (s : State) (p : Page) (b : Bool) : (s.setOverdue p b).den = s.den := by unfold State.setOverdue State.when; split <;> rfl

/-! ### spoolWrite -/

@[simp] theorem State.spoolWrite_pending (s : State) (a : Nat) (l : List Byte) : (s.spoolWrite a l).pending = s.pending := rfl
@[simp] theorem State.spoolWrite_regs (s : State) (a : Nat) (l : List Byte) : (s.spoolWrite a l).regs = s.regs := rfl
@[simp] theorem State.spoolWrite_staged (s : State) (a : Nat) (l : List Byte) : (s.spoolWrite a l).staged = s.staged := rfl
@[simp] theorem State.spoolWrite_dclk (s : State) (a : Nat) (l : List Byte) : (s.spoolWrite a l).dclk = s.dclk := rfl
@[simp] theorem State.spoolWrite_free (s : State) (a : Nat) (l : List Byte) : (s.spoolWrite a l).free = s.free := rfl
@[simp] theorem State.spoolWrite_held (s : State) (a : Nat) (l : List Byte) : (s.spoolWrite a l).held = s.held := rfl
@[simp] theorem State.spoolWrite_captured (s : State) (a : Nat) (l : List Byte) : (s.spoolWrite a l).captured = s.captured := rfl
@[simp] theorem State.spoolWrite_reply (s : State) (a : Nat) (l : List Byte) : (s.spoolWrite a l).reply = s.reply := rfl
@[simp] theorem State.spoolWrite_out (s : State) (a : Nat) (l : List Byte) : (s.spoolWrite a l).out = s.out := rfl
@[simp] theorem State.spoolWrite_vecWas (s : State) (a : Nat) (l : List Byte) : (s.spoolWrite a l).vecWas = s.vecWas := rfl
@[simp] theorem State.spoolWrite_power (s : State) (a : Nat) (l : List Byte) : (s.spoolWrite a l).power = s.power := rfl
@[simp] theorem State.spoolWrite_lanes (s : State) (a : Nat) (l : List Byte) : (s.spoolWrite a l).lanes = s.lanes := rfl
@[simp] theorem State.spoolWrite_pair (s : State) (a : Nat) (l : List Byte) : (s.spoolWrite a l).pair = s.pair := rfl
@[simp] theorem State.spoolWrite_pace (s : State) (a : Nat) (l : List Byte) : (s.spoolWrite a l).pace = s.pace := rfl
@[simp] theorem State.spoolWrite_axes (s : State) (a : Nat) (l : List Byte) : (s.spoolWrite a l).axes = s.axes := rfl
@[simp] theorem State.spoolWrite_tim (s : State) (a : Nat) (l : List Byte) : (s.spoolWrite a l).tim = s.tim := rfl
@[simp] theorem State.spoolWrite_clusters (s : State) (a : Nat) (l : List Byte) : (s.spoolWrite a l).clusters = s.clusters := rfl
@[simp] theorem State.spoolWrite_cal (s : State) (a : Nat) (l : List Byte) : (s.spoolWrite a l).cal = s.cal := rfl
@[simp] theorem State.spoolWrite_cores (s : State) (a : Nat) (l : List Byte) : (s.spoolWrite a l).cores = s.cores := rfl
@[simp] theorem State.spoolWrite_codec (s : State) (a : Nat) (l : List Byte) : (s.spoolWrite a l).codec = s.codec := rfl
@[simp] theorem State.spoolWrite_commits (s : State) (a : Nat) (l : List Byte) : (s.spoolWrite a l).commits = s.commits := rfl
@[simp] theorem State.spoolWrite_bist (s : State) (a : Nat) (l : List Byte) : (s.spoolWrite a l).bist = s.bist := rfl
@[simp] theorem State.spoolWrite_intake (s : State) (a : Nat) (l : List Byte) : (s.spoolWrite a l).intake = s.intake := rfl
@[simp] theorem State.spoolWrite_spoil (s : State) (a : Nat) (l : List Byte) : (s.spoolWrite a l).spoil = s.spoil := rfl
@[simp] theorem State.spoolWrite_identN (s : State) (a : Nat) (l : List Byte) : (s.spoolWrite a l).identN = s.identN := rfl
@[simp] theorem State.spoolWrite_den (s : State) (a : Nat) (l : List Byte) : (s.spoolWrite a l).den = s.den := rfl

/-! ### modLane -/

@[simp] theorem State.modLane_pending (s : State) (l : Lane) (f : LaneHw → LaneHw) : (s.modLane l f).pending = s.pending := rfl
@[simp] theorem State.modLane_regs (s : State) (l : Lane) (f : LaneHw → LaneHw) : (s.modLane l f).regs = s.regs := rfl
@[simp] theorem State.modLane_staged (s : State) (l : Lane) (f : LaneHw → LaneHw) : (s.modLane l f).staged = s.staged := rfl
@[simp] theorem State.modLane_dclk (s : State) (l : Lane) (f : LaneHw → LaneHw) : (s.modLane l f).dclk = s.dclk := rfl
@[simp] theorem State.modLane_free (s : State) (l : Lane) (f : LaneHw → LaneHw) : (s.modLane l f).free = s.free := rfl
@[simp] theorem State.modLane_held (s : State) (l : Lane) (f : LaneHw → LaneHw) : (s.modLane l f).held = s.held := rfl
@[simp] theorem State.modLane_captured (s : State) (l : Lane) (f : LaneHw → LaneHw) : (s.modLane l f).captured = s.captured := rfl
@[simp] theorem State.modLane_reply (s : State) (l : Lane) (f : LaneHw → LaneHw) : (s.modLane l f).reply = s.reply := rfl
@[simp] theorem State.modLane_out (s : State) (l : Lane) (f : LaneHw → LaneHw) : (s.modLane l f).out = s.out := rfl
@[simp] theorem State.modLane_vecWas (s : State) (l : Lane) (f : LaneHw → LaneHw) : (s.modLane l f).vecWas = s.vecWas := rfl
@[simp] theorem State.modLane_power (s : State) (l : Lane) (f : LaneHw → LaneHw) : (s.modLane l f).power = s.power := rfl
@[simp] theorem State.modLane_pair (s : State) (l : Lane) (f : LaneHw → LaneHw) : (s.modLane l f).pair = s.pair := rfl
@[simp] theorem State.modLane_pace (s : State) (l : Lane) (f : LaneHw → LaneHw) : (s.modLane l f).pace = s.pace := rfl
@[simp] theorem State.modLane_axes (s : State) (l : Lane) (f : LaneHw → LaneHw) : (s.modLane l f).axes = s.axes := rfl
@[simp] theorem State.modLane_tim (s : State) (l : Lane) (f : LaneHw → LaneHw) : (s.modLane l f).tim = s.tim := rfl
@[simp] theorem State.modLane_clusters (s : State) (l : Lane) (f : LaneHw → LaneHw) : (s.modLane l f).clusters = s.clusters := rfl
@[simp] theorem State.modLane_cal (s : State) (l : Lane) (f : LaneHw → LaneHw) : (s.modLane l f).cal = s.cal := rfl
@[simp] theorem State.modLane_cores (s : State) (l : Lane) (f : LaneHw → LaneHw) : (s.modLane l f).cores = s.cores := rfl
@[simp] theorem State.modLane_codec (s : State) (l : Lane) (f : LaneHw → LaneHw) : (s.modLane l f).codec = s.codec := rfl
@[simp] theorem State.modLane_commits (s : State) (l : Lane) (f : LaneHw → LaneHw) : (s.modLane l f).commits = s.commits := rfl
@[simp] theorem State.modLane_bist (s : State) (l : Lane) (f : LaneHw → LaneHw) : (s.modLane l f).bist = s.bist := rfl
@[simp] theorem State.modLane_ddr (s : State) (l : Lane) (f : LaneHw → LaneHw) : (s.modLane l f).ddr = s.ddr := rfl
@[simp] theorem State.modLane_intake (s : State) (l : Lane) (f : LaneHw → LaneHw) : (s.modLane l f).intake = s.intake := rfl
@[simp] theorem State.modLane_spoil (s : State) (l : Lane) (f : LaneHw → LaneHw) : (s.modLane l f).spoil = s.spoil := rfl
@[simp] theorem State.modLane_identN (s : State) (l : Lane) (f : LaneHw → LaneHw) : (s.modLane l f).identN = s.identN := rfl
@[simp] theorem State.modLane_den (s : State) (l : Lane) (f : LaneHw → LaneHw) : (s.modLane l f).den = s.den := rfl

/-! ### modPower -/

@[simp] theorem State.modPower_pending (s : State) (f : Power → Power) : (s.modPower f).pending = s.pending := rfl
@[simp] theorem State.modPower_regs (s : State) (f : Power → Power) : (s.modPower f).regs = s.regs := rfl
@[simp] theorem State.modPower_staged (s : State) (f : Power → Power) : (s.modPower f).staged = s.staged := rfl
@[simp] theorem State.modPower_dclk (s : State) (f : Power → Power) : (s.modPower f).dclk = s.dclk := rfl
@[simp] theorem State.modPower_free (s : State) (f : Power → Power) : (s.modPower f).free = s.free := rfl
@[simp] theorem State.modPower_held (s : State) (f : Power → Power) : (s.modPower f).held = s.held := rfl
@[simp] theorem State.modPower_captured (s : State) (f : Power → Power) : (s.modPower f).captured = s.captured := rfl
@[simp] theorem State.modPower_reply (s : State) (f : Power → Power) : (s.modPower f).reply = s.reply := rfl
@[simp] theorem State.modPower_out (s : State) (f : Power → Power) : (s.modPower f).out = s.out := rfl
@[simp] theorem State.modPower_vecWas (s : State) (f : Power → Power) : (s.modPower f).vecWas = s.vecWas := rfl
@[simp] theorem State.modPower_lanes (s : State) (f : Power → Power) : (s.modPower f).lanes = s.lanes := rfl
@[simp] theorem State.modPower_pair (s : State) (f : Power → Power) : (s.modPower f).pair = s.pair := rfl
@[simp] theorem State.modPower_pace (s : State) (f : Power → Power) : (s.modPower f).pace = s.pace := rfl
@[simp] theorem State.modPower_axes (s : State) (f : Power → Power) : (s.modPower f).axes = s.axes := rfl
@[simp] theorem State.modPower_tim (s : State) (f : Power → Power) : (s.modPower f).tim = s.tim := rfl
@[simp] theorem State.modPower_clusters (s : State) (f : Power → Power) : (s.modPower f).clusters = s.clusters := rfl
@[simp] theorem State.modPower_cal (s : State) (f : Power → Power) : (s.modPower f).cal = s.cal := rfl
@[simp] theorem State.modPower_cores (s : State) (f : Power → Power) : (s.modPower f).cores = s.cores := rfl
@[simp] theorem State.modPower_codec (s : State) (f : Power → Power) : (s.modPower f).codec = s.codec := rfl
@[simp] theorem State.modPower_commits (s : State) (f : Power → Power) : (s.modPower f).commits = s.commits := rfl
@[simp] theorem State.modPower_bist (s : State) (f : Power → Power) : (s.modPower f).bist = s.bist := rfl
@[simp] theorem State.modPower_ddr (s : State) (f : Power → Power) : (s.modPower f).ddr = s.ddr := rfl
@[simp] theorem State.modPower_intake (s : State) (f : Power → Power) : (s.modPower f).intake = s.intake := rfl
@[simp] theorem State.modPower_spoil (s : State) (f : Power → Power) : (s.modPower f).spoil = s.spoil := rfl
@[simp] theorem State.modPower_identN (s : State) (f : Power → Power) : (s.modPower f).identN = s.identN := rfl
@[simp] theorem State.modPower_den (s : State) (f : Power → Power) : (s.modPower f).den = s.den := rfl

/-! ### modAxis -/

@[simp] theorem State.modAxis_pending (s : State) (a : Axis) (f : AxisHw → AxisHw) : (s.modAxis a f).pending = s.pending := rfl
@[simp] theorem State.modAxis_regs (s : State) (a : Axis) (f : AxisHw → AxisHw) : (s.modAxis a f).regs = s.regs := rfl
@[simp] theorem State.modAxis_staged (s : State) (a : Axis) (f : AxisHw → AxisHw) : (s.modAxis a f).staged = s.staged := rfl
@[simp] theorem State.modAxis_dclk (s : State) (a : Axis) (f : AxisHw → AxisHw) : (s.modAxis a f).dclk = s.dclk := rfl
@[simp] theorem State.modAxis_free (s : State) (a : Axis) (f : AxisHw → AxisHw) : (s.modAxis a f).free = s.free := rfl
@[simp] theorem State.modAxis_held (s : State) (a : Axis) (f : AxisHw → AxisHw) : (s.modAxis a f).held = s.held := rfl
@[simp] theorem State.modAxis_captured (s : State) (a : Axis) (f : AxisHw → AxisHw) : (s.modAxis a f).captured = s.captured := rfl
@[simp] theorem State.modAxis_reply (s : State) (a : Axis) (f : AxisHw → AxisHw) : (s.modAxis a f).reply = s.reply := rfl
@[simp] theorem State.modAxis_out (s : State) (a : Axis) (f : AxisHw → AxisHw) : (s.modAxis a f).out = s.out := rfl
@[simp] theorem State.modAxis_vecWas (s : State) (a : Axis) (f : AxisHw → AxisHw) : (s.modAxis a f).vecWas = s.vecWas := rfl
@[simp] theorem State.modAxis_power (s : State) (a : Axis) (f : AxisHw → AxisHw) : (s.modAxis a f).power = s.power := rfl
@[simp] theorem State.modAxis_lanes (s : State) (a : Axis) (f : AxisHw → AxisHw) : (s.modAxis a f).lanes = s.lanes := rfl
@[simp] theorem State.modAxis_pair (s : State) (a : Axis) (f : AxisHw → AxisHw) : (s.modAxis a f).pair = s.pair := rfl
@[simp] theorem State.modAxis_pace (s : State) (a : Axis) (f : AxisHw → AxisHw) : (s.modAxis a f).pace = s.pace := rfl
@[simp] theorem State.modAxis_tim (s : State) (a : Axis) (f : AxisHw → AxisHw) : (s.modAxis a f).tim = s.tim := rfl
@[simp] theorem State.modAxis_clusters (s : State) (a : Axis) (f : AxisHw → AxisHw) : (s.modAxis a f).clusters = s.clusters := rfl
@[simp] theorem State.modAxis_cal (s : State) (a : Axis) (f : AxisHw → AxisHw) : (s.modAxis a f).cal = s.cal := rfl
@[simp] theorem State.modAxis_cores (s : State) (a : Axis) (f : AxisHw → AxisHw) : (s.modAxis a f).cores = s.cores := rfl
@[simp] theorem State.modAxis_codec (s : State) (a : Axis) (f : AxisHw → AxisHw) : (s.modAxis a f).codec = s.codec := rfl
@[simp] theorem State.modAxis_commits (s : State) (a : Axis) (f : AxisHw → AxisHw) : (s.modAxis a f).commits = s.commits := rfl
@[simp] theorem State.modAxis_bist (s : State) (a : Axis) (f : AxisHw → AxisHw) : (s.modAxis a f).bist = s.bist := rfl
@[simp] theorem State.modAxis_ddr (s : State) (a : Axis) (f : AxisHw → AxisHw) : (s.modAxis a f).ddr = s.ddr := rfl
@[simp] theorem State.modAxis_intake (s : State) (a : Axis) (f : AxisHw → AxisHw) : (s.modAxis a f).intake = s.intake := rfl
@[simp] theorem State.modAxis_spoil (s : State) (a : Axis) (f : AxisHw → AxisHw) : (s.modAxis a f).spoil = s.spoil := rfl
@[simp] theorem State.modAxis_identN (s : State) (a : Axis) (f : AxisHw → AxisHw) : (s.modAxis a f).identN = s.identN := rfl
@[simp] theorem State.modAxis_den (s : State) (a : Axis) (f : AxisHw → AxisHw) : (s.modAxis a f).den = s.den := rfl

/-! ### modClu -/

@[simp] theorem State.modClu_pending (s : State) (c : Clu) (f : CluHw → CluHw) : (s.modClu c f).pending = s.pending := rfl
@[simp] theorem State.modClu_regs (s : State) (c : Clu) (f : CluHw → CluHw) : (s.modClu c f).regs = s.regs := rfl
@[simp] theorem State.modClu_staged (s : State) (c : Clu) (f : CluHw → CluHw) : (s.modClu c f).staged = s.staged := rfl
@[simp] theorem State.modClu_dclk (s : State) (c : Clu) (f : CluHw → CluHw) : (s.modClu c f).dclk = s.dclk := rfl
@[simp] theorem State.modClu_free (s : State) (c : Clu) (f : CluHw → CluHw) : (s.modClu c f).free = s.free := rfl
@[simp] theorem State.modClu_held (s : State) (c : Clu) (f : CluHw → CluHw) : (s.modClu c f).held = s.held := rfl
@[simp] theorem State.modClu_captured (s : State) (c : Clu) (f : CluHw → CluHw) : (s.modClu c f).captured = s.captured := rfl
@[simp] theorem State.modClu_reply (s : State) (c : Clu) (f : CluHw → CluHw) : (s.modClu c f).reply = s.reply := rfl
@[simp] theorem State.modClu_out (s : State) (c : Clu) (f : CluHw → CluHw) : (s.modClu c f).out = s.out := rfl
@[simp] theorem State.modClu_vecWas (s : State) (c : Clu) (f : CluHw → CluHw) : (s.modClu c f).vecWas = s.vecWas := rfl
@[simp] theorem State.modClu_power (s : State) (c : Clu) (f : CluHw → CluHw) : (s.modClu c f).power = s.power := rfl
@[simp] theorem State.modClu_lanes (s : State) (c : Clu) (f : CluHw → CluHw) : (s.modClu c f).lanes = s.lanes := rfl
@[simp] theorem State.modClu_pair (s : State) (c : Clu) (f : CluHw → CluHw) : (s.modClu c f).pair = s.pair := rfl
@[simp] theorem State.modClu_pace (s : State) (c : Clu) (f : CluHw → CluHw) : (s.modClu c f).pace = s.pace := rfl
@[simp] theorem State.modClu_axes (s : State) (c : Clu) (f : CluHw → CluHw) : (s.modClu c f).axes = s.axes := rfl
@[simp] theorem State.modClu_tim (s : State) (c : Clu) (f : CluHw → CluHw) : (s.modClu c f).tim = s.tim := rfl
@[simp] theorem State.modClu_cal (s : State) (c : Clu) (f : CluHw → CluHw) : (s.modClu c f).cal = s.cal := rfl
@[simp] theorem State.modClu_cores (s : State) (c : Clu) (f : CluHw → CluHw) : (s.modClu c f).cores = s.cores := rfl
@[simp] theorem State.modClu_codec (s : State) (c : Clu) (f : CluHw → CluHw) : (s.modClu c f).codec = s.codec := rfl
@[simp] theorem State.modClu_commits (s : State) (c : Clu) (f : CluHw → CluHw) : (s.modClu c f).commits = s.commits := rfl
@[simp] theorem State.modClu_bist (s : State) (c : Clu) (f : CluHw → CluHw) : (s.modClu c f).bist = s.bist := rfl
@[simp] theorem State.modClu_ddr (s : State) (c : Clu) (f : CluHw → CluHw) : (s.modClu c f).ddr = s.ddr := rfl
@[simp] theorem State.modClu_intake (s : State) (c : Clu) (f : CluHw → CluHw) : (s.modClu c f).intake = s.intake := rfl
@[simp] theorem State.modClu_spoil (s : State) (c : Clu) (f : CluHw → CluHw) : (s.modClu c f).spoil = s.spoil := rfl
@[simp] theorem State.modClu_identN (s : State) (c : Clu) (f : CluHw → CluHw) : (s.modClu c f).identN = s.identN := rfl
@[simp] theorem State.modClu_den (s : State) (c : Clu) (f : CluHw → CluHw) : (s.modClu c f).den = s.den := rfl

/-! ### The parts that change -/

@[simp] theorem State.wr_regs (s : State) (p : Page) (r : Row) (v i : Nat) :
    (s.wr p r v i).regs = Regs.put s.regs (r.key p i) r.reset (v % 2 ^ r.width) := rfl
@[simp] theorem State.wr_staged_eq (s : State) (p : Page) (r : Row) (v i : Nat) :
    (s.wrStaged p r v i).staged = Regs.put s.staged (r.key p i) r.reset (v % 2 ^ r.width) := rfl
@[simp] theorem State.emit_out (s : State) (o : Out) : (s.emit o).out = s.out ++ [o] := rfl
@[simp] theorem State.modPower_power (s : State) (f : Power → Power) : (s.modPower f).power = f s.power := rfl

theorem State.rd_congr {s t : State} (h : t.regs = s.regs) (p : Page) (r : Row) (i : Nat) : t.rd p r i = s.rd p r i := by
  unfold State.rd; rw [h]

end Sys2Proof.Machine
end

