-- ==== Sys2Proof/Laws/Fields.lean ====
section
/-! SUPPORT. Which fields the shared operations touch, what a read finds after them, and the gate of a register write. -/

namespace Sys2Proof.Machine

open Reg

/-! ### Places of fields -/

theorem Page.ofSlot_slot (p : Page) (h : p.level = 0) : Page.ofSlot p.slot = some p ∧ p.slot < 98 := by
  cases p
  case ddrs k => revert k; decide
  case ax a => revert a; decide
  case eth a => revert a; decide
  all_goals first | (revert h; decide) | exact Nat.noConfusion h

/-- The fabric address of an offset of a page names that page and offset (R31, R32). -/
theorem Target.ofAddr_base (p : Page) (o : Nat) (h : o < 0x1000) : Target.ofAddr (p.base + o) = .page p o := by
  by_cases hl : p.level = 0
  · obtain ⟨h1, h2⟩ := Page.ofSlot_slot p hl
    have hb : p.base = 0x1000 * p.slot := by simp [Page.base, hl]
    have hd : (p.base + o) / 0x1000 = p.slot := by omega
    have hm : (p.base + o) % 0x1000 = o := by omega
    unfold Target.ofAddr
    rw [if_pos (by omega), hd, h1, hm]
  · cases p
    case clu c | scr c | seam c | ccal c | cpwr c =>
      have hc := c.isLt
      simp only [Page.base, Page.level, Page.inst, Page.slot, one_ne_zero, reduceIte, Nat.mul_zero, Nat.mul_one]
      unfold Target.ofAddr
      rw [if_neg (by omega), dif_pos (by omega)]
      first
        | rw [if_pos (by omega)]
        | rw [if_neg (by omega), if_pos (by omega)]
        | rw [if_neg (by omega), if_neg (by omega), if_pos (by omega)]
        | rw [if_neg (by omega), if_neg (by omega), if_neg (by omega), if_pos (by omega)]
        | rw [if_neg (by omega), if_neg (by omega), if_neg (by omega), if_neg (by omega), if_pos (by omega)]
      congr 1
      · congr 1
        exact Fin.ext (by dsimp only; omega)
      · omega
    case lne c | seq c | wav c | vnl c =>
      have hc := c.isLt
      simp only [Page.base, Page.level, Page.inst, Page.slot, OfNat.ofNat_ne_zero, OfNat.ofNat_ne_one, reduceIte,
        Nat.mul_zero, Nat.mul_one]
      unfold Target.ofAddr
      rw [if_neg (by omega), dif_neg (by omega), dif_pos (by omega)]
      first
        | rw [if_pos (by omega)]
        | rw [if_neg (by omega), if_pos (by omega)]
        | rw [if_neg (by omega), if_neg (by omega), if_pos (by omega)]
        | rw [if_neg (by omega), if_neg (by omega), if_neg (by omega)]
      congr 1
      · congr 1
        exact Fin.ext (by dsimp only; omega)
      · omega
    all_goals exact absurd rfl hl
/-! ### Fields left alone -/

theorem Untouched.refl (fs : List FieldAt) (s : State) : Untouched fs s s := fun _ _ _ => rfl

theorem Untouched.trans {fs : List FieldAt} {s t u : State} (h : Untouched fs s t) (k : Untouched fs t u) :
    Untouched fs s u := fun a d ha => (k a d ha).trans (h a d ha)

theorem Untouched.of_regs {fs : List FieldAt} {s t u : State} (h : Untouched fs s t) (he : u.regs = t.regs) :
    Untouched fs s u := fun a d ha => by rw [he, h a d ha]

/-- A change of other parts of the state, whatever they become. -/
theorem Untouched.upd {fs : List FieldAt} {s t : State} {pending : List Instr} {staged : Regs} {dclk : Nat} {free :
    Nat} {held : List (Nat × Nat × Nat)} {captured : List (Nat × Nat × Nat)} {reply : Reply} {out : List Out} {vecWas
    : Nat} {power : Power} {lanes : Vector LaneHw 64} {pair : Pair} {pace : Pace} {axes : Vector AxisHw 8} {tim :
    Time} {clusters : Vector CluHw 8} {cal : Cal} {cores : Cores} {codec : Codec} {commits : List (Page × Nat)} {bist
    : Bist} {ddr : Ddr} {intake : Intake} {spoil : Spoil} {identN : Vector Nat 64} {den : Den} (h : Untouched fs s t)
    : Untouched fs s ⟨pending, t.regs, staged, dclk, free, held, captured, reply, out, vecWas, power, lanes, pair,
    pace, axes, tim, clusters, cal, cores, codec, commits, bist, ddr, intake, spoil, identN, den⟩ := h

theorem Untouched.mono {fs gs : List FieldAt} {s t : State} (h : Untouched fs s t) (hs : ∀ f ∈ fs, f ∈ gs) :
    Untouched gs s t := fun a d ha => h a d fun hm => by
  obtain ⟨f, hf, rfl⟩ := List.mem_map.1 hm
  exact ha (List.mem_map.2 ⟨f, hs f hf, rfl⟩)

/-- A field that is not listed reads as before. -/
theorem Untouched.rd {fs : List FieldAt} {s t : State} (h : Untouched fs s t) (p : Page) (r : Row) (i : Nat)
    (hk : FieldAt.key (p, r, i) ∉ fs.map FieldAt.key) : t.rd p r i = s.rd p r i := h _ _ hk

theorem Untouched.wr {fs : List FieldAt} {s t : State} (p : Page) (r : Row) (v i : Nat) (h : Untouched fs s t)
    (hf : (p, r, i) ∈ fs) : Untouched fs s (t.wr p r v i) := fun a d ha => by
  rw [← h a d ha, State.wr_regs, Regs.get_put, if_neg]
  rintro rfl
  exact ha (List.mem_map.2 ⟨_, hf, rfl⟩)

theorem Untouched.flag {fs : List FieldAt} {s t : State} (p : Page) (r : Row) (b : Bool) (i : Nat) (h : Untouched fs s t)
    (hf : (p, r, i) ∈ fs) : Untouched fs s (t.flag p r b i) := h.wr _ _ _ _ hf

theorem Untouched.wrS {fs : List FieldAt} {s t : State} (p : Page) (r : Row) (v : Int) (i : Nat) (h : Untouched fs s t)
    (hf : (p, r, i) ∈ fs) : Untouched fs s (t.wrS p r v i) := h.wr _ _ _ _ hf

theorem Untouched.bump {fs : List FieldAt} {s t : State} (p : Page) (r : Row) (n i : Nat) (h : Untouched fs s t)
    (hf : (p, r, i) ∈ fs) : Untouched fs s (t.bump p r n i) := h.wr _ _ _ _ hf

theorem Untouched.raise {fs : List FieldAt} {s t : State} (p : Page) (i : Nat) (h : Untouched fs s t)
    (hf : (p, HDR.PG_EVT_RAW, 0) ∈ fs) : Untouched fs s (t.raise p i) := h.wr _ _ _ _ hf

theorem Untouched.ite {fs : List FieldAt} {s t u : State} {c : Prop} [Decidable c] (ht : Untouched fs s t)
    (hu : Untouched fs s u) : Untouched fs s (if c then t else u) := by
  split
  · exact ht
  · exact hu

theorem Untouched.when {fs : List FieldAt} {s t : State} (c : Bool) (f : State → State) (h : Untouched fs s t)
    (hf : ∀ u, Untouched fs s u → Untouched fs s (f u)) : Untouched fs s (t.when c f) := by
  unfold State.when
  exact Untouched.ite (hf _ h) h

theorem Untouched.each {fs : List FieldAt} {α : Type} {s : State} (f : State → α → State)
    (hf : ∀ u x, Untouched fs s u → Untouched fs s (f u x)) (l : List α) {t : State} (h : Untouched fs s t) :
    Untouched fs s (t.each l f) := by
  unfold State.each
  induction l generalizing t with
  | nil => exact h
  | cons x l ih => exact ih (hf _ _ h)

/-- Recording an error touches the page's error fields and its event register (R43, R52). -/
theorem Untouched.err {fs : List FieldAt} {s t : State} (p : Page) (nn info : Nat) (h : Untouched fs s t)
    (hf : ∀ f ∈ errorFields p, f ∈ fs) : Untouched fs s (t.err p nn info) := by
  simp only [errorFields, List.mem_cons, List.not_mem_nil, or_false, forall_eq_or_imp, forall_eq] at hf
  obtain ⟨h1, h2, h3, h4, h5, h6⟩ := hf
  unfold State.err
  refine Untouched.raise _ _ (Untouched.ite (Untouched.wr _ _ _ _ h h2) ?_) h6
  refine Untouched.wr _ _ _ _ ?_ h5
  refine Untouched.wr _ _ _ _ ?_ h4
  refine Untouched.wr _ _ _ _ ?_ h3
  exact Untouched.wr _ _ _ _ (Untouched.wr _ _ _ _ h h1) h2

theorem Untouched.errAt {fs : List FieldAt} {s t : State} (p : Page) (nn off req : Nat) (h : Untouched fs s t)
    (hf : ∀ f ∈ errorFields p, f ∈ fs) : Untouched fs s (t.errAt p nn off req) := by
  unfold State.errAt
  exact Untouched.err _ _ _ h hf

theorem Untouched.errOpen {fs : List FieldAt} {s t : State} (p : Page) (nn : Nat) (h : Untouched fs s t)
    (hf : ∀ f ∈ errorFields p, f ∈ fs) : Untouched fs s (t.errOpen p nn) := by
  unfold State.errOpen
  dsimp only [State.draw]
  exact Untouched.err _ _ _ (Untouched.of_regs h rfl) hf

theorem Untouched.setPage {fs : List FieldAt} {s t : State} (p : Page) (v : Nat) (h : Untouched fs s t)
    (h1 : (p, HDR.PG_STAT_STATE, 0) ∈ fs) (h2 : (p, HDR.PG_EVT_RAW, 0) ∈ fs) : Untouched fs s (t.setPage p v) := by
  unfold State.setPage
  exact Untouched.ite h (Untouched.raise _ _ (Untouched.wr _ _ _ _ h h1) h2)

/-! ### Only these fields -/

theorem OnlyFields.refl (fs : List FieldAt) (s : State) : OnlyFields fs s s := ⟨Untouched.refl fs s, rfl⟩

theorem OnlyFields.trans {fs : List FieldAt} {s t u : State} (h : OnlyFields fs s t) (k : OnlyFields fs t u) :
    OnlyFields fs s u := ⟨h.fields.trans k.fields, by rw [k.rest, h.rest]⟩

theorem OnlyFields.mono {fs gs : List FieldAt} {s t : State} (h : OnlyFields fs s t) (hs : ∀ f ∈ fs, f ∈ gs) :
    OnlyFields gs s t := ⟨h.fields.mono hs, h.rest⟩

/-- A field that is not listed reads as before. -/
theorem OnlyFields.rd {fs : List FieldAt} {s t : State} (h : OnlyFields fs s t) (p : Page) (r : Row) (i : Nat)
    (hk : FieldAt.key (p, r, i) ∉ fs.map FieldAt.key) : t.rd p r i = s.rd p r i := h.fields.rd p r i hk

theorem OnlyFields.wr {fs : List FieldAt} {s t : State} (p : Page) (r : Row) (v i : Nat) (h : OnlyFields fs s t)
    (hf : (p, r, i) ∈ fs) : OnlyFields fs s (t.wr p r v i) :=
  ⟨h.fields.wr _ _ _ _ hf, by rw [State.wr, h.rest]⟩

theorem OnlyFields.flag {fs : List FieldAt} {s t : State} (p : Page) (r : Row) (b : Bool) (i : Nat)
    (h : OnlyFields fs s t) (hf : (p, r, i) ∈ fs) : OnlyFields fs s (t.flag p r b i) := h.wr _ _ _ _ hf

theorem OnlyFields.wrS {fs : List FieldAt} {s t : State} (p : Page) (r : Row) (v : Int) (i : Nat)
    (h : OnlyFields fs s t) (hf : (p, r, i) ∈ fs) : OnlyFields fs s (t.wrS p r v i) := h.wr _ _ _ _ hf

theorem OnlyFields.bump {fs : List FieldAt} {s t : State} (p : Page) (r : Row) (n i : Nat) (h : OnlyFields fs s t)
    (hf : (p, r, i) ∈ fs) : OnlyFields fs s (t.bump p r n i) := h.wr _ _ _ _ hf

theorem OnlyFields.raise {fs : List FieldAt} {s t : State} (p : Page) (i : Nat) (h : OnlyFields fs s t)
    (hf : (p, HDR.PG_EVT_RAW, 0) ∈ fs) : OnlyFields fs s (t.raise p i) := h.wr _ _ _ _ hf

theorem OnlyFields.ite {fs : List FieldAt} {s t u : State} {c : Prop} [Decidable c] (ht : OnlyFields fs s t)
    (hu : OnlyFields fs s u) : OnlyFields fs s (if c then t else u) := by
  split
  · exact ht
  · exact hu

theorem OnlyFields.when {fs : List FieldAt} {s t : State} (c : Bool) (f : State → State) (h : OnlyFields fs s t)
    (hf : ∀ u, OnlyFields fs s u → OnlyFields fs s (f u)) : OnlyFields fs s (t.when c f) := by
  unfold State.when
  exact OnlyFields.ite (hf _ h) h

theorem OnlyFields.each {fs : List FieldAt} {α : Type} {s : State} (f : State → α → State)
    (hf : ∀ u x, OnlyFields fs s u → OnlyFields fs s (f u x)) (l : List α) {t : State} (h : OnlyFields fs s t) :
    OnlyFields fs s (t.each l f) := by
  unfold State.each
  induction l generalizing t with
  | nil => exact h
  | cons x l ih => exact ih (hf _ _ h)

/-- Recording an error touches the page's error fields and its event register (R43, R52). -/
theorem OnlyFields.err {fs : List FieldAt} {s t : State} (p : Page) (nn info : Nat) (h : OnlyFields fs s t)
    (hf : ∀ f ∈ errorFields p, f ∈ fs) : OnlyFields fs s (t.err p nn info) :=
  ⟨Untouched.err _ _ _ h.fields hf, by
    rw [State.mk.injEq]
    simp only [State.err_pending, State.err_staged, State.err_dclk, State.err_held, State.err_captured, State.err_reply,
      State.err_out, State.err_vecWas, State.err_power, State.err_lanes, State.err_pair, State.err_pace, State.err_axes,
      State.err_tim, State.err_clusters, State.err_cal, State.err_cores, State.err_codec, State.err_commits,
      State.err_bist, State.err_ddr, State.err_intake, State.err_spoil, State.err_identN, State.err_den, true_and]
    rw [h.rest]
    simp⟩

theorem OnlyFields.drawn {fs : List FieldAt} {s t : State} (h : OnlyFields fs s t) :
    OnlyFields fs s t.draw.2 := ⟨h.fields, by rw [State.draw, h.rest]⟩

theorem OnlyFields.errAt {fs : List FieldAt} {s t : State} (p : Page) (nn off req : Nat) (h : OnlyFields fs s t)
    (hf : ∀ f ∈ errorFields p, f ∈ fs) : OnlyFields fs s (t.errAt p nn off req) := by
  unfold State.errAt
  exact OnlyFields.err _ _ _ h hf

theorem OnlyFields.errOpen {fs : List FieldAt} {s t : State} (p : Page) (nn : Nat) (h : OnlyFields fs s t)
    (hf : ∀ f ∈ errorFields p, f ∈ fs) : OnlyFields fs s (t.errOpen p nn) := by
  unfold State.errOpen
  exact OnlyFields.err _ _ _ h.drawn hf

theorem OnlyFields.setPage {fs : List FieldAt} {s t : State} (p : Page) (v : Nat) (h : OnlyFields fs s t)
    (h1 : (p, HDR.PG_STAT_STATE, 0) ∈ fs) (h2 : (p, HDR.PG_EVT_RAW, 0) ∈ fs) : OnlyFields fs s (t.setPage p v) := by
  unfold State.setPage
  exact OnlyFields.ite h (OnlyFields.raise _ _ (OnlyFields.wr _ _ _ _ h h1) h2)

/-! ### Events and errors -/

theorem State.wr_rd (s : State) (p q : Page) (r t : Row) (v i j : Nat) :
    (s.wr p r v i).rd q t j =
      if r.key p i = t.key q j then (if v % 2 ^ r.width = r.reset then t.reset else v % 2 ^ r.width) else s.rd q t j := by
  unfold State.rd
  rw [State.wr_regs, Regs.get_put]

theorem Row.key_eq (p : Page) (r t : Row) (i j : Nat) :
    (r.key p i = t.key p j) = ((r.off + r.stride * i) * 8 + r.lo = (t.off + t.stride * j) * 8 + t.lo) := by
  unfold Row.key
  exact propext ⟨fun h => by omega, fun h => by omega⟩

theorem Page.base_inj {p q : Page} (h : p.base = q.base) : p = q := by
  have hp := Target.ofAddr_base p 0 (by decide)
  rw [h, Target.ofAddr_base q 0 (by decide)] at hp
  exact (Target.page.inj hp).1.symm

/-- Two copies of fields stand at one place only if they are of one page and at one place of it. -/
theorem Row.key_iff (p q : Page) (r t : Row) (i j : Nat) (hr : (r.off + r.stride * i) * 8 + r.lo < 0x8000)
    (ht : (t.off + t.stride * j) * 8 + t.lo < 0x8000) :
    r.key p i = t.key q j ↔ p = q ∧ (r.off + r.stride * i) * 8 + r.lo = (t.off + t.stride * j) * 8 + t.lo := by
  have hb (x : Page) : ∃ n, x.base = 0x1000 * n := by
    unfold Page.base
    split
    · exact ⟨_, rfl⟩
    · split
      · exact ⟨0x100 + 0x10 * x.inst + x.slot, by omega⟩
      · exact ⟨0x200 + 0x4 * x.inst + x.slot, by omega⟩
  obtain ⟨m, hm⟩ := hb p
  obtain ⟨n, hn⟩ := hb q
  unfold Row.key
  constructor
  · intro h
    have : p.base = q.base := by omega
    exact ⟨Page.base_inj this, by omega⟩
  · rintro ⟨rfl, h⟩
    omega

/-- A raised event stays beside those raised before (R51). -/
theorem State.raise_event (s : State) (p : Page) (i j : Nat) (hj : j < 32) :
    (s.raise p i).event p j = (decide (i = j) || s.event p j) := by
  unfold State.event State.raise
  rw [State.rd_wr_same]
  simp only [HDR.PG_EVT_RAW, Nat.testBit_mod_two_pow, Nat.testBit_or, hj, decide_true, Bool.true_and,
    Nat.testBit_two_pow]
  rw [Bool.or_comm]

/-- A block register's write leaves the page's events and errors alone. -/
theorem State.wr_event (s : State) (p q : Page) (r : Row) (v i j : Nat) (h : 0x40 ≤ r.off)
    (hr : (r.off + r.stride * i) * 8 + r.lo < 0x8000) : (s.wr p r v i).event q j = s.event q j := by
  unfold State.event
  rw [State.wr_rd, if_neg]
  rw [Row.key_iff _ _ _ _ _ _ hr (by decide)]
  simp only [HDR.PG_EVT_RAW]
  omega

theorem State.wr_errorShown (s : State) (p q : Page) (r : Row) (v i : Nat) (h : 0x40 ≤ r.off)
    (hr : (r.off + r.stride * i) * 8 + r.lo < 0x8000) : (s.wr p r v i).errorShown q = s.errorShown q := by
  have hk (t : Row) (ht : t.off = 0x20 ∧ t.stride = 4 ∧ t.lo < 32) : r.key p i ≠ t.key q 0 := by
    rw [Ne, Row.key_iff _ _ _ _ _ _ hr (by omega)]
    omega
  unfold State.errorShown State.on
  rw [State.wr_rd, State.wr_rd, if_neg (hk _ (by decide)), if_neg (hk _ (by decide))]

@[simp] theorem State.raise_errorShown (s : State) (p q : Page) (i : Nat) :
    (s.raise p i).errorShown q = s.errorShown q := by
  have hk (t : Row) (ht : t.off = 0x20 ∧ t.stride = 4 ∧ t.lo < 32) : HDR.PG_EVT_RAW.key p 0 ≠ t.key q 0 := by
    rw [Ne, Row.key_iff _ _ _ _ _ _ (by decide) (by omega)]
    simp only [HDR.PG_EVT_RAW]
    omega
  unfold State.errorShown State.on State.raise
  rw [State.rd_wr_ne _ (hk _ (by decide)), State.rd_wr_ne _ (hk _ (by decide))]

/-- Raising an event of a page shows in that page alone. -/
theorem State.raise_event' (s : State) (p q : Page) (i j : Nat) (hj : j < 32) :
    (s.raise p i).event q j = (decide (p = q ∧ i = j) || s.event q j) := by
  by_cases h : p = q
  · subst h
    rw [State.raise_event _ _ _ _ hj]
    simp
  · unfold State.event State.raise
    rw [State.wr_rd, if_neg]
    · simp [h]
    · rw [Row.key_iff _ _ _ _ _ _ (by decide) (by decide)]
      exact fun hh => h hh.1

/-- The first error is kept; a later one is only counted (R35, R43). -/
theorem State.err_errorShown (s : State) (p : Page) (nn info : Nat) (hn : nn < 256) :
    (s.err p nn info).errorShown p = s.errorAfter p nn := by
  have ht : p.tt < 256 := by cases p <;> simp [Page.tt]
  have hm : (p.tt * 256 + nn) % 65536 = p.tt * 256 + nn := by omega
  unfold State.err
  dsimp only
  rw [State.raise_errorShown]
  unfold State.errorAfter State.errorShown
  by_cases h : s.on p HDR.PG_ERR_CODE_VALID = true
  · rw [if_pos h, if_pos h]
    simp only [State.on, beq_iff_eq] at h
    simp +decide [State.on, State.wr_rd, Row.key_eq, h]
  · rw [if_neg h, if_neg h]
    simp +decide [State.on, State.wr_rd, Row.key_eq]
    have hw : (p.tt * 256 + nn) % 2 ^ HDR.PG_ERR_CODE_CODE.width = p.tt * 256 + nn := hm
    have h0 : HDR.PG_ERR_CODE_CODE.reset = 0 := rfl
    simp only [hw, h0]
    split <;> omega

theorem State.errAt_errorShown (s : State) (p : Page) (nn off req : Nat) (hn : nn < 256) :
    (s.errAt p nn off req).errorShown p = s.errorAfter p nn := State.err_errorShown _ _ _ _ hn

theorem State.errOpen_errorShown (s : State) (p : Page) (nn : Nat) (hn : nn < 256) :
    (s.errOpen p nn).errorShown p = s.errorAfter p nn := by
  unfold State.errOpen
  dsimp only [State.draw]
  rw [State.err_errorShown _ _ _ _ hn]
  rfl

/-- An error raises the page's ERR event and no other (R52). -/
theorem State.err_event (s : State) (p q : Page) (nn info j : Nat) (hj : j < 32) :
    (s.err p nn info).event q j = (decide (p = q ∧ 0 = j) || s.event q j) := by
  unfold State.err
  dsimp only
  rw [State.raise_event' _ _ _ _ _ hj]
  congr 1
  have hk (u : State) (r : Row) (v : Nat) (hr : r.off * 8 + r.lo ≠ 160 ∧ r.off * 8 + r.lo < 0x200) :
      (u.wr p r v 0).event q j = u.event q j := by
    unfold State.event
    rw [State.wr_rd, if_neg]
    rw [Row.key_iff _ _ _ _ _ _ (by omega) (by decide)]
    simp only [HDR.PG_EVT_RAW]
    omega
  split
  · exact hk _ _ _ (by decide)
  · rw [hk _ _ _ (by decide), hk _ _ _ (by decide), hk _ _ _ (by decide), hk _ _ _ (by decide), hk _ _ _ (by decide)]

theorem State.errAt_event (s : State) (p q : Page) (nn off req j : Nat) (hj : j < 32) :
    (s.errAt p nn off req).event q j = (decide (p = q ∧ 0 = j) || s.event q j) := State.err_event _ _ _ _ _ _ hj

theorem State.errOpen_event (s : State) (p q : Page) (nn j : Nat) (hj : j < 32) :
    (s.errOpen p nn).event q j = (decide (p = q ∧ 0 = j) || s.event q j) := by
  unfold State.errOpen
  dsimp only [State.draw]
  rw [State.err_event _ _ _ _ _ _ hj]
  rfl

/-- An error leaves every block register alone. -/
theorem State.err_rd (s : State) (p q : Page) (nn info : Nat) (t : Row) (j : Nat) (h : 0x40 ≤ t.off)
    (ht : (t.off + t.stride * j) * 8 + t.lo < 0x8000) : (s.err p nn info).rd q t j = s.rd q t j := by
  have hk (u : State) (r : Row) (v : Nat) (hr : r.off * 8 + r.lo < 0x200) :
      (u.wr p r v 0).rd q t j = u.rd q t j := by
    rw [State.wr_rd, if_neg]
    rw [Row.key_iff _ _ _ _ _ _ (by omega) ht]
    omega
  unfold State.err
  dsimp only
  unfold State.raise
  rw [hk _ _ _ (by decide)]
  split
  · exact hk _ _ _ (by decide)
  · rw [hk _ _ _ (by decide), hk _ _ _ (by decide), hk _ _ _ (by decide), hk _ _ _ (by decide), hk _ _ _ (by decide)]

theorem State.errAt_rd (s : State) (p q : Page) (nn off req : Nat) (t : Row) (j : Nat) (h : 0x40 ≤ t.off)
    (ht : (t.off + t.stride * j) * 8 + t.lo < 0x8000) : (s.errAt p nn off req).rd q t j = s.rd q t j :=
  State.err_rd _ _ _ _ _ _ _ h ht

theorem State.errOpen_rd (s : State) (p q : Page) (nn : Nat) (t : Row) (j : Nat) (h : 0x40 ≤ t.off)
    (ht : (t.off + t.stride * j) * 8 + t.lo < 0x8000) : (s.errOpen p nn).rd q t j = s.rd q t j := by
  unfold State.errOpen
  dsimp only [State.draw]
  rw [State.err_rd _ _ _ _ _ _ _ h ht]
  rfl

theorem State.raise_rd (s : State) (p q : Page) (i : Nat) (t : Row) (j : Nat) (h : 0x40 ≤ t.off)
    (ht : (t.off + t.stride * j) * 8 + t.lo < 0x8000) : (s.raise p i).rd q t j = s.rd q t j := by
  unfold State.raise
  rw [State.wr_rd, if_neg]
  rw [Row.key_iff _ _ _ _ _ _ (by decide) ht]
  simp only [HDR.PG_EVT_RAW]
  omega

/-! ### Reads of fields do not see the other parts of the state -/

@[simp] theorem State.upd_rd {t : State} {pending : List Instr} {staged : Regs} {dclk : Nat} {free : Nat} {held : List
    (Nat × Nat × Nat)} {captured : List (Nat × Nat × Nat)} {reply : Reply} {out : List Out} {vecWas : Nat} {power :
    Power} {lanes : Vector LaneHw 64} {pair : Pair} {pace : Pace} {axes : Vector AxisHw 8} {tim : Time} {clusters :
    Vector CluHw 8} {cal : Cal} {cores : Cores} {codec : Codec} {commits : List (Page × Nat)} {bist : Bist} {ddr :
    Ddr} {intake : Intake} {spoil : Spoil} {identN : Vector Nat 64} {den : Den} (p : Page) (r : Row) (i : Nat) :
    State.rd ⟨pending, t.regs, staged, dclk, free, held, captured, reply, out, vecWas, power, lanes, pair, pace, axes,
    tim, clusters, cal, cores, codec, commits, bist, ddr, intake, spoil, identN, den⟩ p r i = t.rd p r i := rfl

@[simp] theorem State.upd_event {t : State} {pending : List Instr} {staged : Regs} {dclk : Nat} {free : Nat} {held :
    List (Nat × Nat × Nat)} {captured : List (Nat × Nat × Nat)} {reply : Reply} {out : List Out} {vecWas : Nat} {power
    : Power} {lanes : Vector LaneHw 64} {pair : Pair} {pace : Pace} {axes : Vector AxisHw 8} {tim : Time} {clusters :
    Vector CluHw 8} {cal : Cal} {cores : Cores} {codec : Codec} {commits : List (Page × Nat)} {bist : Bist} {ddr :
    Ddr} {intake : Intake} {spoil : Spoil} {identN : Vector Nat 64} {den : Den} (p : Page) (i : Nat) : State.event
    ⟨pending, t.regs, staged, dclk, free, held, captured, reply, out, vecWas, power, lanes, pair, pace, axes, tim,
    clusters, cal, cores, codec, commits, bist, ddr, intake, spoil, identN, den⟩ p i = t.event p i := rfl

@[simp] theorem State.upd_errorShown {t : State} {pending : List Instr} {staged : Regs} {dclk : Nat} {free : Nat}
    {held : List (Nat × Nat × Nat)} {captured : List (Nat × Nat × Nat)} {reply : Reply} {out : List Out} {vecWas :
    Nat} {power : Power} {lanes : Vector LaneHw 64} {pair : Pair} {pace : Pace} {axes : Vector AxisHw 8} {tim : Time}
    {clusters : Vector CluHw 8} {cal : Cal} {cores : Cores} {codec : Codec} {commits : List (Page × Nat)} {bist :
    Bist} {ddr : Ddr} {intake : Intake} {spoil : Spoil} {identN : Vector Nat 64} {den : Den} (p : Page) :
    State.errorShown ⟨pending, t.regs, staged, dclk, free, held, captured, reply, out, vecWas, power, lanes, pair,
    pace, axes, tim, clusters, cal, cores, codec, commits, bist, ddr, intake, spoil, identN, den⟩ p = t.errorShown p
    := rfl

/-! ### The gate -/

theorem State.open_devUp {s : State} {req : Req} {p : Page} (h : s.open_ req p = true) : s.devUp = true := by
  simp only [State.open_, Bool.and_eq_true] at h
  exact h.1.1.1

/-- An access the fabric lets through acts on a state that differs in its reply alone (R45). -/
theorem State.gate_open {s : State} {req : Req} {p : Page} (h : s.open_ req p = true) (off : Nat)
    (act : State → State) : s.gate req p off act = act { s with reply := .posted req.code } := by
  simp only [State.open_, Bool.and_eq_true, Bool.not_eq_true', Option.isNone_iff_eq_none] at h
  obtain ⟨⟨⟨h1, h0⟩, h2⟩, h3⟩ := h
  have h4 : s.accessError (.page p off) true = none := by
    rw [← h3]; rfl
  have h5 : s.hostTouch req = s := by unfold State.hostTouch; rw [h2]; rfl
  unfold State.gate
  rw [h5, h1, h0]
  rw [if_neg (by decide)]
  simp only [h4]

theorem State.command_ready {s : State} {req : Req} {p : Page} (h : s.ready req p = true) (off : Nat)
    (act : State → State) : s.command req p off act = act { s with reply := .posted req.code } := by
  simp only [State.ready, Bool.and_eq_true] at h
  unfold State.command
  rw [State.gate_open h.1]
  unfold State.enabled
  exact if_pos h.2

end Sys2Proof.Machine
end

