-- ==== Sys2Proof/Laws/Memory.lean ====
section
/-! SUPPORT. The spool as memory: read after write, and every operation keeps the canonical form. -/

namespace Sys2Proof.Machine

/-- Every address of a memory is above a bound. -/
def Memory.above (a : Nat) (m : List Host.Cell) : Prop := ∀ e ∈ m, a < e.1

theorem Memory.wf_tail {e : Host.Cell} {m : List Host.Cell} (h : Memory.wf (e :: m) = true) : Memory.wf m = true := by
  cases m with
  | nil => rfl
  | cons f m => simp only [Memory.wf, Bool.and_eq_true] at h; exact h.2

theorem Memory.wf_above {e : Host.Cell} {m : List Host.Cell} (h : Memory.wf (e :: m) = true) : Memory.above e.1 m := by
  induction m generalizing e with
  | nil => intro f hf; cases hf
  | cons f m ih =>
    simp only [Memory.wf, Bool.and_eq_true, decide_eq_true_eq] at h
    intro g hg
    rcases List.mem_cons.1 hg with rfl | hg
    · exact h.1.1
    · exact Nat.lt_trans h.1.1 (ih h.2 g hg)

theorem Memory.wf_head {e : Host.Cell} {m : List Host.Cell} (h : Memory.wf (e :: m) = true) : e.2 ≠ Memory.blank := by
  cases m with
  | nil => simpa [Memory.wf] using h
  | cons f m => simp only [Memory.wf, Bool.and_eq_true, bne_iff_ne] at h; exact h.1.2

theorem Memory.wf_cons {e : Host.Cell} {m : List Host.Cell} (hb : e.2 ≠ Memory.blank) (ha : Memory.above e.1 m)
    (h : Memory.wf m = true) : Memory.wf (e :: m) = true := by
  cases m with
  | nil => simpa [Memory.wf] using hb
  | cons f m =>
    simp only [Memory.wf, Bool.and_eq_true, decide_eq_true_eq, bne_iff_ne]
    exact ⟨⟨ha f (List.mem_cons_self ..), hb⟩, h⟩

theorem Memory.erase_above {a : Nat} {m : List Host.Cell} (k : Nat) (h : Memory.above a m) :
    Memory.above a (Memory.erase m k) := by
  induction m with
  | nil => exact h
  | cons e m ih =>
    have hm : Memory.above a m := fun f hf => h f (List.mem_cons_of_mem _ hf)
    simp only [Memory.erase]
    split
    · exact ih hm
    · intro f hf
      rcases List.mem_cons.1 hf with rfl | hf
      · exact h _ (List.mem_cons_self ..)
      · exact ih hm f hf

theorem Memory.erase_wf {m : List Host.Cell} (k : Nat) (h : Memory.wf m = true) :
    Memory.wf (Memory.erase m k) = true := by
  induction m with
  | nil => rfl
  | cons e m ih =>
    simp only [Memory.erase]
    split
    · exact ih (Memory.wf_tail h)
    · exact Memory.wf_cons (Memory.wf_head h) (Memory.erase_above k (Memory.wf_above h)) (ih (Memory.wf_tail h))

theorem Memory.insert_above {a k : Nat} {x : Byte} {m : List Host.Cell} (ha : a < k) (h : Memory.above a m) :
    Memory.above a (Memory.insert m k x) := by
  induction m with
  | nil => intro f hf; simp only [Memory.insert, List.mem_singleton] at hf; subst hf; exact ha
  | cons e m ih =>
    have hm : Memory.above a m := fun f hf => h f (List.mem_cons_of_mem _ hf)
    simp only [Memory.insert]
    split
    · intro f hf
      rcases List.mem_cons.1 hf with rfl | hf
      · exact ha
      · exact h f hf
    · split
      · intro f hf
        rcases List.mem_cons.1 hf with rfl | hf
        · exact ha
        · exact hm f hf
      · intro f hf
        rcases List.mem_cons.1 hf with rfl | hf
        · exact h _ (List.mem_cons_self ..)
        · exact ih hm f hf

theorem Memory.insert_wf {m : List Host.Cell} {k : Nat} {x : Byte} (hx : x ≠ Memory.blank) (h : Memory.wf m = true) :
    Memory.wf (Memory.insert m k x) = true := by
  induction m with
  | nil => simpa [Memory.insert, Memory.wf] using hx
  | cons e m ih =>
    simp only [Memory.insert]
    split
    · rename_i hk
      refine Memory.wf_cons hx ?_ h
      intro f hf
      rcases List.mem_cons.1 hf with rfl | hf
      · exact hk
      · exact Nat.lt_trans hk (Memory.wf_above h f hf)
    · split
      · rename_i _ hk
        subst hk
        exact Memory.wf_cons hx (fun f hf => Memory.wf_above h f hf) (Memory.wf_tail h)
      · rename_i h1 h2
        exact Memory.wf_cons (Memory.wf_head h) (Memory.insert_above (by omega) (Memory.wf_above h))
          (ih (Memory.wf_tail h))

/-- A write of one byte keeps the canonical form. -/
theorem Memory.write_wf {m : List Host.Cell} (a : Nat) (x : Byte) (h : Memory.wf m = true) :
    Memory.wf (Memory.write m a x) = true := by
  unfold Memory.write
  split
  · exact Memory.erase_wf a h
  · exact Memory.insert_wf ‹_› h

/-- A write of several bytes keeps the canonical form. -/
theorem Memory.writeAll_wf {m : List Host.Cell} (a : Nat) (l : List Byte) (h : Memory.wf m = true) :
    Memory.wf (Memory.writeAll m a l) = true := by
  induction l generalizing m a with
  | nil => exact h
  | cons b l ih => exact ih (a + 1) (Memory.write_wf a b h)

theorem Memory.read_erase (m : List Host.Cell) (a b : Nat) :
    Memory.read (Memory.erase m a) b = if a = b then Memory.blank else Memory.read m b := by
  induction m with
  | nil => simp [Memory.erase, Memory.read]
  | cons e m ih =>
    simp only [Memory.erase, Memory.read]
    split
    · rename_i h
      rw [ih]
      split <;> simp_all
    · simp only [Memory.read]
      rw [ih]
      split <;> split <;> simp_all

theorem Memory.read_insert (m : List Host.Cell) (a b : Nat) (x : Byte) :
    Memory.read (Memory.insert m a x) b = if a = b then x else Memory.read m b := by
  induction m with
  | nil => simp [Memory.insert, Memory.read]
  | cons e m ih =>
    simp only [Memory.insert]
    split
    · simp [Memory.read]
    · split
      · rename_i h
        simp only [Memory.read, h]
        split <;> simp_all
      · simp only [Memory.read]
        rw [ih]
        split <;> split <;> simp_all

/-- Reading after a write: the written byte at its address, what was there before at every other. -/
theorem Memory.read_write (m : List Host.Cell) (a b : Nat) (x : Byte) :
    Memory.read (Memory.write m a x) b = if a = b then x else Memory.read m b := by
  unfold Memory.write
  split
  · rw [Memory.read_erase]; simp_all
  · rw [Memory.read_insert]

/-- A write of several bytes leaves every other address alone. -/
theorem Memory.read_writeAll_outside (m : List Host.Cell) (a b : Nat) (l : List Byte) (h : b < a ∨ a + l.length ≤ b) :
    Memory.read (Memory.writeAll m a l) b = Memory.read m b := by
  induction l generalizing m a with
  | nil => rfl
  | cons x l ih =>
    simp only [List.length_cons] at h
    simp only [Memory.writeAll]
    rw [ih, Memory.read_write]
    · split
      · omega
      · rfl
    · omega

end Sys2Proof.Machine
end

