-- ==== Sys2Proof/Laws/Keeps.lean ====
section
/-! SUPPORT. What every operation keeps: the queue, the canonical forms of the spool and of the register file, that no free
value is drawn twice, and that what has been sent stays sent. One lemma for each operation says it of that operation. -/

namespace Sys2Proof.Machine

/-- From s to t the queue is untouched, the canonical forms are kept, no free value is drawn again, what was sent stays
the beginning of what has been sent, and unless M the spool's bytes are untouched. -/
structure Keeps (M : Prop) (s t : State) : Prop where
  pending : t.pending = s.pending
  mem : Memory.wf s.ddr.mem = true → Memory.wf t.ddr.mem = true
  regs : Regs.wf s.regs = true → Regs.wf t.regs = true
  staged : Regs.wf s.staged = true → Regs.wf t.staged = true
  free : s.free ≤ t.free
  out : s.out <+: t.out
  spool : ¬ M → t.ddr.mem = s.ddr.mem

theorem Keeps.refl {M : Prop} (s : State) : Keeps M s s :=
  ⟨rfl, id, id, id, Nat.le_refl _, List.prefix_rfl, fun _ => rfl⟩

theorem Keeps.trans {M : Prop} {s t u : State} (h : Keeps M s t) (k : Keeps M t u) : Keeps M s u :=
  ⟨k.pending.trans h.pending, fun x => k.mem (h.mem x), fun x => k.regs (h.regs x), fun x => k.staged (h.staged x),
    Nat.le_trans h.free k.free, h.out.trans k.out, fun x => (k.spool x).trans (h.spool x)⟩

/-- A change of other parts of the state, whatever they become. -/
theorem Keeps.upd {M : Prop} {s0 s : State} {dclk : Nat} {held : List (Nat × Nat × Nat)} {captured : List (Nat × Nat ×
    Nat)} {reply : Reply} {vecWas : Nat} {power : Power} {lanes : Vector LaneHw 64} {pair : Pair} {pace : Pace} {axes
    : Vector AxisHw 8} {tim : Time} {clusters : Vector CluHw 8} {cal : Cal} {cores : Cores} {codec : Codec} {commits :
    List (Page × Nat)} {bist : Bist} {ddr : Ddr} {intake : Intake} {spoil : Spoil} {identN : Vector Nat 64} {den :
    Den} (hm : ddr.mem = s.ddr.mem) (h : Keeps M s0 s) : Keeps M s0 ⟨s.pending, s.regs, s.staged, dclk, s.free, held,
    captured, reply, s.out, vecWas, power, lanes, pair, pace, axes, tim, clusters, cal, cores, codec, commits, bist,
    ddr, intake, spoil, identN, den⟩ := h.trans ⟨rfl, fun x => hm ▸ x, id, id, Nat.le_refl _, List.prefix_rfl, fun _
    => hm⟩

/-- A free value is drawn. -/
theorem State.draw_keeps {M : Prop} {s0 s : State} (h : Keeps M s0 s) : Keeps M s0 s.draw.2 :=
  h.trans ⟨rfl, id, id, id, Nat.le_succ _, List.prefix_rfl, fun _ => rfl⟩

theorem State.drawn_keeps {M : Prop} {s0 s t : State} {n : Nat} (hd : s.draw = (n, t)) (h : Keeps M s0 s) :
    Keeps M s0 t := by
  cases hd
  exact State.draw_keeps h

theorem Keeps.ite {M : Prop} {s0 t u : State} {c : Prop} [Decidable c] (ht : Keeps M s0 t) (hu : Keeps M s0 u) :
    Keeps M s0 (if c then t else u) := by
  split
  · exact ht
  · exact hu

theorem State.wr_keeps {M : Prop} {s0 s : State} (p : Page) (r : Row) (v i : Nat) (h : Keeps M s0 s) :
    Keeps M s0 (s.wr p r v i) :=
  h.trans ⟨rfl, id, fun x => Regs.put_wf _ _ _ x, id, Nat.le_refl _, List.prefix_rfl, fun _ => rfl⟩

theorem State.wrStaged_keeps {M : Prop} {s0 s : State} (p : Page) (r : Row) (v i : Nat) (h : Keeps M s0 s) :
    Keeps M s0 (s.wrStaged p r v i) :=
  h.trans ⟨rfl, id, id, fun x => Regs.put_wf _ _ _ x, Nat.le_refl _, List.prefix_rfl, fun _ => rfl⟩

theorem State.emit_keeps {M : Prop} {s0 s : State} (o : Out) (h : Keeps M s0 s) : Keeps M s0 (s.emit o) :=
  h.trans ⟨rfl, id, id, id, Nat.le_refl _, List.prefix_append _ _, fun _ => rfl⟩

theorem State.spoolWrite_keeps {M : Prop} {s0 s : State} (a : Nat) (l : List Byte) (hM : M) (h : Keeps M s0 s) :
    Keeps M s0 (s.spoolWrite a l) :=
  h.trans ⟨rfl, fun x => Memory.writeAll_wf _ _ x, id, id, Nat.le_refl _, List.prefix_rfl, fun x => absurd hM x⟩

/-- The register file loses some of its keys, the staged copies with it. -/
theorem Keeps.filtered {M : Prop} {s0 s t : State} (f g : Nat × Nat → Bool) (hp : t.pending = s.pending)
    (hm : t.ddr.mem = s.ddr.mem) (hr : t.regs = s.regs.filter f) (hs : t.staged = s.staged.filter g)
    (hf : t.free = s.free) (ho : t.out = s.out) (h : Keeps M s0 s) : Keeps M s0 t :=
  h.trans ⟨hp, fun x => hm ▸ x, fun x => hr ▸ Regs.filter_wf _ x, fun x => hs ▸ Regs.filter_wf _ x,
    Nat.le_of_eq hf.symm, ho ▸ List.prefix_rfl, fun _ => hm⟩

theorem Keeps.cleared {M : Prop} {s0 s : State} (a b : Nat) (c : List (Page × Nat)) (h : Keeps M s0 s) :
    Keeps M s0 { s with regs := Regs.clear s.regs a b, staged := Regs.clear s.staged a b, commits := c } :=
  Keeps.filtered (s := s) _ _ rfl rfl rfl rfl rfl rfl h

theorem State.when_keeps {M : Prop} {s0 s : State} (c : Bool) (f : State → State) (h : Keeps M s0 s)
    (hf : ∀ t, Keeps M s0 t → Keeps M s0 (f t)) : Keeps M s0 (s.when c f) := by
  unfold State.when
  split
  · exact hf _ h
  · exact h

theorem State.each_keeps {M : Prop} {α : Type} {s0 : State} (f : State → α → State)
    (hf : ∀ t x, Keeps M s0 t → Keeps M s0 (f t x)) (l : List α) {s : State} (h : Keeps M s0 s) :
    Keeps M s0 (s.each l f) := by
  unfold State.each
  induction l generalizing s with
  | nil => exact h
  | cons x l ih => exact ih (hf _ _ h)

/-- A meaning answers a next state, and keeps these things. -/
def NextKeeps (M : Prop) (s0 : State) (o : Host.Outcome State Fault Refusal) : Prop :=
  ∃ t, o = .next t ∧ Keeps M s0 t

theorem NextKeeps.next {M : Prop} {s0 t : State} (h : Keeps M s0 t) : NextKeeps M s0 (.next t) := ⟨t, rfl, h⟩

theorem NextKeeps.ite {M : Prop} {s0 : State} {o q : Host.Outcome State Fault Refusal} {c : Prop} [Decidable c]
    (ho : NextKeeps M s0 o) (hq : NextKeeps M s0 q) : NextKeeps M s0 (if c then o else q) := by
  split
  · exact ho
  · exact hq

end Sys2Proof.Machine
end

