-- ==== Sys2Proof/Laws/KeepsFabric.lean ====
section
/-! SUPPORT. What `Keeps` says, for each operation and each meaning of the fabric, the Den, the spool, lanes, rates and
commits. -/

namespace Sys2Proof.Machine

/-! ### Ops -/

theorem State.wrBoth_keeps {M : Prop} {s0 s : State} (p : Page) (r : Row) (v : Nat) (i : optParam Nat 0)
    (hk : Keeps M s0 s) : Keeps M s0 (State.wrBoth s p r v i) := by
  unfold State.wrBoth
  repeat' with_reducible first
    | assumption | apply State.wrStaged_keeps | apply State.wr_keeps

theorem State.bump_keeps {M : Prop} {s0 s : State} (p : Page) (r : Row) (n : optParam Nat 1) (i : optParam Nat 0)
    (hk : Keeps M s0 s) : Keeps M s0 (State.bump s p r n i) := by
  unfold State.bump
  repeat' with_reducible first
    | assumption | apply State.wr_keeps

theorem State.flag_keeps {M : Prop} {s0 s : State} (p : Page) (r : Row) (b : Bool) (i : optParam Nat 0)
    (hk : Keeps M s0 s) : Keeps M s0 (State.flag s p r b i) := by
  unfold State.flag
  repeat' with_reducible first
    | assumption | apply State.wr_keeps

theorem State.wrS_keeps {M : Prop} {s0 s : State} (p : Page) (r : Row) (v : Int) (i : optParam Nat 0)
    (hk : Keeps M s0 s) : Keeps M s0 (State.wrS s p r v i) := by
  unfold State.wrS
  repeat' with_reducible first
    | assumption | apply State.wr_keeps

theorem State.clearRange_keeps {M : Prop} {s0 s : State} (lo n : Nat) (hk : Keeps M s0 s) :
    Keeps M s0 (State.clearRange s lo n) :=
  hk.trans ⟨rfl, id, fun x => Regs.filter_wf _ x, id, Nat.le_refl _, List.prefix_rfl, fun _ => rfl⟩

theorem State.drawMany_keeps {M : Prop} {s0 s : State} (n : Nat) (hk : Keeps M s0 s) :
    Keeps M s0 (State.drawMany s n) :=
  hk.trans ⟨rfl, id, id, id, Nat.le_add_right _ _, List.prefix_rfl, fun _ => rfl⟩

theorem State.raise_keeps {M : Prop} {s0 s : State} (p : Page) (i : Nat)
    (hk : Keeps M s0 s) : Keeps M s0 (State.raise s p i) := by
  unfold State.raise
  repeat' with_reducible first
    | assumption | apply State.wr_keeps

theorem State.err_keeps {M : Prop} {s0 s : State} (p : Page) (nn : Nat) (info : Nat)
    (hk : Keeps M s0 s) : Keeps M s0 (State.err s p nn info) := by
  unfold State.err
  repeat' with_reducible first
    | assumption | apply State.wr_keeps | apply State.raise_keeps | apply Keeps.ite

theorem State.errOpen_keeps {M : Prop} {s0 s : State} (p : Page) (nn : Nat)
    (hk : Keeps M s0 s) : Keeps M s0 (State.errOpen s p nn) := by
  unfold State.errOpen
  repeat' with_reducible first
    | assumption | apply State.err_keeps | apply Keeps.ite | apply State.draw_keeps

theorem State.errAt_keeps {M : Prop} {s0 s : State} (p : Page) (nn : Nat) (off : Nat) (req : Nat)
    (hk : Keeps M s0 s) : Keeps M s0 (State.errAt s p nn off req) := by
  unfold State.errAt
  repeat' with_reducible first
    | assumption | apply State.err_keeps

theorem State.setPage_keeps {M : Prop} {s0 s : State} (p : Page) (v : Nat)
    (hk : Keeps M s0 s) : Keeps M s0 (State.setPage s p v) := by
  unfold State.setPage
  repeat' with_reducible first
    | assumption | apply State.raise_keeps | apply State.wr_keeps | apply Keeps.ite

theorem State.setFault_keeps {M : Prop} {s0 s : State} (p : Page) (b : Bool)
    (hk : Keeps M s0 s) : Keeps M s0 (State.setFault s p b) := by
  unfold State.setFault
  repeat' with_reducible first
    | assumption | intro _ | lift_lets | apply State.when_keeps | apply State.flag_keeps | apply State.raise_keeps

theorem State.setOverdue_keeps {M : Prop} {s0 s : State} (p : Page) (b : Bool)
    (hk : Keeps M s0 s) : Keeps M s0 (State.setOverdue s p b) := by
  unfold State.setOverdue
  repeat' with_reducible first
    | assumption | intro _ | lift_lets | apply State.when_keeps | apply State.flag_keeps | apply State.raise_keeps

/-! ### Fabric -/

theorem State.fabError_keeps {M : Prop} {s0 s : State} (nn : Nat) (req : Nat) (wr : Bool) (addr : Nat)
    (hk : Keeps M s0 s) : Keeps M s0 (State.fabError s nn req wr addr) := by
  unfold State.fabError
  repeat' with_reducible first
    | assumption | apply State.err_keeps | apply State.wr_keeps | apply State.bump_keeps

theorem State.answerError_keeps {M : Prop} {s0 s : State} (req : Req) (wr : Bool)
    (hk : Keeps M s0 s) : Keeps M s0 (State.answerError s req wr) := by
  unfold State.answerError
  repeat' with_reducible first
    | assumption | intro _ | lift_lets | apply State.when_keeps | apply State.raise_keeps | apply Keeps.ite
      | fail_if_no_progress refine Keeps.upd rfl ?_

theorem State.hostTouch_keeps {M : Prop} {s0 s : State} (req : Req)
    (hk : Keeps M s0 s) : Keeps M s0 (State.hostTouch s req) := by
  unfold State.hostTouch
  repeat' with_reducible first
    | assumption | apply State.raise_keeps | apply Keeps.ite | fail_if_no_progress refine Keeps.upd rfl ?_

theorem State.gate_keeps {M : Prop} {s0 s : State} (req : Req) (p : Page) (off : Nat) (act : State → State) (hact : ∀ x0, Keeps M s0 x0 → Keeps M s0 (act x0))
    (hk : Keeps M s0 s) : Keeps M s0 (State.gate s req p off act) := by
  unfold State.gate
  repeat' with_reducible first
    | assumption | intro _ | lift_lets | apply hact | apply State.hostTouch_keeps | apply State.answerError_keeps
      | apply State.fabError_keeps | apply Keeps.ite | fail_if_no_progress refine Keeps.upd rfl ?_ | split

theorem State.enabled_keeps {M : Prop} {s0 s : State} (req : Req) (p : Page) (off : Nat) (act : State → State) (hact : ∀ x0, Keeps M s0 x0 → Keeps M s0 (act x0))
    (hk : Keeps M s0 s) : Keeps M s0 (State.enabled s req p off act) := by
  unfold State.enabled
  repeat' with_reducible first
    | assumption | apply hact | apply State.errAt_keeps | apply Keeps.ite

theorem State.command_keeps {M : Prop} {s0 s : State} (req : Req) (p : Page) (off : Nat) (act : State → State) (hact : ∀ x0, Keeps M s0 x0 → Keeps M s0 (act x0))
    (hk : Keeps M s0 s) : Keeps M s0 (State.command s req p off act) := by
  unfold State.command
  repeat' with_reducible first
    | assumption | intro _ | lift_lets | apply hact | apply State.gate_keeps | apply State.enabled_keeps

/-! ### Den -/

theorem State.denRoom_keeps {M : Prop} {s0 s : State} (hk : Keeps M s0 s) : Keeps M s0 (State.denRoom s) := by
  unfold State.denRoom
  repeat' with_reducible first
    | assumption | apply Keeps.ite | fail_if_no_progress refine Keeps.upd rfl ?_

theorem State.denPump_keeps {M : Prop} {s0 s : State} (hk : Keeps M s0 s) : Keeps M s0 (State.denPump s) := by
  unfold State.denPump
  repeat' with_reducible first
    | assumption | apply Keeps.ite | fail_if_no_progress refine Keeps.upd rfl ?_ | split

theorem State.denSettle_keeps {M : Prop} {s0 s : State} (hk : Keeps M s0 s) : Keeps M s0 (State.denSettle s) := by
  unfold State.denSettle
  repeat' with_reducible first
    | assumption | apply State.denRoom_keeps | apply State.denPump_keeps

theorem State.denDrop_keeps {M : Prop} {s0 s : State} (type : Nat) (time : Nat)
    (hk : Keeps M s0 s) : Keeps M s0 (State.denDrop s type time) := by
  unfold State.denDrop
  repeat' with_reducible first
    | assumption | apply State.bump_keeps | apply State.raise_keeps | apply Keeps.ite
      | fail_if_no_progress refine Keeps.upd rfl ?_

theorem State.denPushFatal_keeps {M : Prop} {s0 s : State} (e : DenReq)
    (hk : Keeps M s0 s) : Keeps M s0 (State.denPushFatal s e) := by
  unfold State.denPushFatal
  repeat' with_reducible first
    | assumption | apply State.denDrop_keeps | apply Keeps.ite | fail_if_no_progress refine Keeps.upd rfl ?_ | split

theorem State.denPush_keeps {M : Prop} {s0 s : State} (e : DenReq)
    (hk : Keeps M s0 s) : Keeps M s0 (State.denPush s e) := by
  unfold State.denPush
  repeat' with_reducible first
    | assumption | apply State.denPushFatal_keeps | apply State.denDrop_keeps | apply State.denSettle_keeps
      | apply Keeps.ite | fail_if_no_progress refine Keeps.upd rfl ?_

theorem State.denHw_keeps {M : Prop} {s0 s : State} (type : Nat) (src : Nat) (payload : Nat)
    (hk : Keeps M s0 s) : Keeps M s0 (State.denHw s type src payload) := by
  unfold State.denHw
  repeat' with_reducible first
    | assumption | apply State.denPush_keeps

theorem State.denHwTold_keeps {M : Prop} {s0 s : State} (type src payload : Nat) (hk : Keeps M s0 s) :
    Keeps M s0 (State.denHwTold s type src payload).1 := State.denHw_keeps _ _ _ hk

theorem State.denHwTold_kept {M : Prop} {s0 s t : State} {x : Bool} {type src payload : Nat}
    (he : State.denHwTold s type src payload = (t, x)) (hk : Keeps M s0 s) : Keeps M s0 t := by
  have h := State.denHwTold_keeps type src payload hk
  rw [he] at h
  exact h

theorem State.denSramUe_keeps {M : Prop} {s0 s : State} (src : Nat) (array : Nat) (word : Nat) (found : Nat) (lane : Nat)
    (hk : Keeps M s0 s) : Keeps M s0 (State.denSramUe s src array word found lane) := by
  unfold State.denSramUe
  repeat' with_reducible first
    | assumption | intro _ | lift_lets | apply State.when_keeps | apply Keeps.ite
      | refine State.denHwTold_kept (by assumption) ?_ | apply State.denHwTold_keeps
      | fail_if_no_progress refine Keeps.upd rfl ?_

theorem State.denWrite_keeps {M : Prop} {s0 s : State} (slot : Nat) (raw : BitVec 512) (back : Option (BitVec 512))
    (hk : Keeps M s0 s) : Keeps M s0 (State.denWrite s slot raw back) := by
  unfold State.denWrite
  repeat' with_reducible first
    | assumption | apply State.setPage_keeps | apply State.errOpen_keeps | apply Keeps.ite
      | fail_if_no_progress refine Keeps.upd rfl ?_

theorem State.denFatalPin_keeps {M : Prop} {s0 s : State} (e : DenReq) (q : List DenReq) (k : Nat) (backPin : Option (BitVec 512))
    (hk : Keeps M s0 s) : Keeps M s0 (State.denFatalPin s e q k backPin) := by
  unfold State.denFatalPin
  repeat' with_reducible first
    | assumption | apply State.denWrite_keeps | apply Keeps.ite | apply State.draw_keeps
      | refine State.drawn_keeps (by assumption) ?_ | fail_if_no_progress refine Keeps.upd rfl ?_

theorem State.denAdvance_keeps {M : Prop} {s0 s : State} (slot : Nat) (old : Bool)
    (hk : Keeps M s0 s) : Keeps M s0 (State.denAdvance s slot old) := by
  unfold State.denAdvance
  repeat' with_reducible first
    | assumption | intro _ | lift_lets | apply State.bump_keeps | apply State.wr_keeps | apply State.when_keeps

theorem State.denPinPut_keeps {M : Prop} {s0 s : State} (pin : Option Nat) (want : Bool) (raw : BitVec 512) (backPin : Option (BitVec 512))
    (hk : Keeps M s0 s) : Keeps M s0 (State.denPinPut s pin want raw backPin) := by
  unfold State.denPinPut
  repeat' with_reducible first
    | assumption | intro _ | lift_lets | apply State.bump_keeps | apply State.denWrite_keeps | apply State.when_keeps
      | apply State.raise_keeps | apply State.wr_keeps | apply Keeps.ite | fail_if_no_progress refine Keeps.upd rfl ?_
      | split

theorem State.denSnap_keeps {M : Prop} {s0 s : State} (slot : Nat)
    (hk : Keeps M s0 s) : Keeps M s0 (State.denSnap s slot) := by
  unfold State.denSnap
  repeat' with_reducible first
    | assumption | intro _ | lift_lets | apply State.each_keeps | apply State.wr_keeps | apply State.flag_keeps

theorem State.denWaited_keeps {M : Prop} {s0 s : State} (hk : Keeps M s0 s) : Keeps M s0 (State.denWaited s) := by
  unfold State.denWaited
  repeat' with_reducible first
    | assumption | apply State.denSnap_keeps | apply Keeps.ite | fail_if_no_progress refine Keeps.upd rfl ?_ | split

theorem State.denFinish_keeps {M : Prop} {s0 s : State} (e : DenReq) (back : Option (BitVec 512)) (backPin : Option (BitVec 512))
    (hk : Keeps M s0 s) : Keeps M s0 (State.denFinish s e back backPin) := by
  unfold State.denFinish
  repeat' with_reducible first
    | assumption | intro _ | lift_lets | apply State.denWrite_keeps | apply State.denPinPut_keeps
      | apply State.denAdvance_keeps | apply State.when_keeps | apply State.raise_keeps | apply State.denSettle_keeps
      | apply State.denWaited_keeps | apply Keeps.ite | fail_if_no_progress refine Keeps.upd rfl ?_

theorem execDenEntryWritten_keeps {M : Prop} {s0 s : State} (back : Option (BitVec 512)) (backPin : Option (BitVec 512))
    (hk : Keeps M s0 s) : NextKeeps M s0 (execDenEntryWritten back backPin s) := by
  unfold execDenEntryWritten
  repeat' with_reducible first
    | assumption | intro _ | apply State.denFatalPin_keeps | apply State.denFinish_keeps | apply Keeps.ite
      | apply NextKeeps.ite | apply NextKeeps.next | fail_if_no_progress refine Keeps.upd rfl ?_ | split

theorem State.denCut_keeps {M : Prop} {s0 s : State} (hk : Keeps M s0 s) : Keeps M s0 (State.denCut s) := by
  unfold State.denCut
  repeat' with_reducible first
    | assumption | apply Keeps.ite | fail_if_no_progress refine Keeps.upd rfl ?_ | split

theorem execDenScanDone_keeps {M : Prop} {s0 s : State} (hk : Keeps M s0 s) : NextKeeps M s0 (execDenScanDone s) := by
  unfold execDenScanDone
  repeat' with_reducible first
    | assumption | apply State.wr_keeps | apply State.flag_keeps | apply State.denSettle_keeps
      | apply State.raise_keeps | apply State.setPage_keeps | apply Keeps.ite | apply NextKeeps.ite
      | apply NextKeeps.next

theorem execDenTokenRefill_keeps {M : Prop} {s0 s : State} (hk : Keeps M s0 s) : NextKeeps M s0 (execDenTokenRefill s) := by
  unfold execDenTokenRefill
  repeat' with_reducible first
    | assumption | apply State.denSettle_keeps | apply Keeps.ite | apply NextKeeps.ite | apply NextKeeps.next
      | fail_if_no_progress refine Keeps.upd rfl ?_

theorem State.denRateWrite_keeps {M : Prop} {s0 s : State} (req : Req) (data : Word)
    (hk : Keeps M s0 s) : Keeps M s0 (State.denRateWrite s req data) := by
  unfold State.denRateWrite
  repeat' with_reducible first
    | assumption | apply State.errAt_keeps | apply State.wr_keeps | apply State.denSettle_keeps | apply Keeps.ite
      | fail_if_no_progress refine Keeps.upd rfl ?_

theorem execDenRateWrite_keeps {M : Prop} {s0 s : State} (req : Req) (data : Word)
    (hk : Keeps M s0 s) : NextKeeps M s0 (execDenRateWrite req data s) := by
  unfold execDenRateWrite
  repeat' with_reducible first
    | assumption | intro _ | lift_lets | apply State.gate_keeps | apply State.denRateWrite_keeps | apply Keeps.ite
      | apply NextKeeps.ite | apply NextKeeps.next

theorem State.denFwGo_keeps {M : Prop} {s0 s : State} (req : Req)
    (hk : Keeps M s0 s) : Keeps M s0 (State.denFwGo s req) := by
  unfold State.denFwGo
  repeat' with_reducible first
    | assumption | apply State.errAt_keeps | apply State.errOpen_keeps | apply State.denPush_keeps | apply Keeps.ite

theorem execDenFwGo_keeps {M : Prop} {s0 s : State} (req : Req)
    (hk : Keeps M s0 s) : NextKeeps M s0 (execDenFwGo req s) := by
  unfold execDenFwGo
  repeat' with_reducible first
    | assumption | intro _ | lift_lets | apply State.gate_keeps | apply State.denFwGo_keeps | apply Keeps.ite
      | apply NextKeeps.ite | apply NextKeeps.next

theorem State.denRdSlot_keeps {M : Prop} {s0 s : State} (req : Req) (data : Word)
    (hk : Keeps M s0 s) : Keeps M s0 (State.denRdSlot s req data) := by
  unfold State.denRdSlot
  repeat' with_reducible first
    | assumption | apply State.errAt_keeps | apply State.wr_keeps | apply State.denSnap_keeps | apply Keeps.ite
      | fail_if_no_progress refine Keeps.upd rfl ?_

theorem execDenRdSlot_keeps {M : Prop} {s0 s : State} (req : Req) (data : Word)
    (hk : Keeps M s0 s) : NextKeeps M s0 (execDenRdSlot req data s) := by
  unfold execDenRdSlot
  repeat' with_reducible first
    | assumption | intro _ | lift_lets | apply State.gate_keeps | apply State.denRdSlot_keeps | apply Keeps.ite
      | apply NextKeeps.ite | apply NextKeeps.next

/-! ### CalRuns -/

theorem State.calLet_keeps {M : Prop} {s0 s : State} (item : Nat) (inst : Nat)
    (hk : Keeps M s0 s) : Keeps M s0 (State.calLet s item inst) := by
  unfold State.calLet
  repeat' with_reducible first
    | assumption | apply State.wr_keeps | apply Keeps.ite | fail_if_no_progress refine Keeps.upd rfl ?_ | split

theorem State.calAbort_keeps {M : Prop} {s0 s : State} (f : CalRun → Bool)
    (hk : Keeps M s0 s) : Keeps M s0 (State.calAbort s f) := by
  unfold State.calAbort
  repeat' with_reducible first
    | assumption | intro _ | lift_lets | apply State.each_keeps | apply State.calLet_keeps | apply State.bump_keeps
      | apply Keeps.ite | fail_if_no_progress refine Keeps.upd rfl ?_ | split

theorem State.calLeave_keeps {M : Prop} {s0 s : State} (l : Lane) (st : LaneState)
    (hk : Keeps M s0 s) : Keeps M s0 (State.calLeave s l st) := by
  unfold State.calLeave
  repeat' with_reducible first
    | assumption | apply State.calAbort_keeps | apply Keeps.ite | fail_if_no_progress refine Keeps.upd rfl ?_ | split

/-! ### Memory -/

theorem State.poisonBurst_keeps {M : Prop} {s0 s : State} (burst : Nat)
    (hk : Keeps M s0 s) : Keeps M s0 (State.poisonBurst s burst) := by
  unfold State.poisonBurst
  repeat' with_reducible first
    | assumption | apply Keeps.ite | fail_if_no_progress refine Keeps.upd rfl ?_

theorem State.cleanBurst_keeps {M : Prop} {s0 s : State} (burst : Nat)
    (hk : Keeps M s0 s) : Keeps M s0 (State.cleanBurst s burst) := by
  unfold State.cleanBurst
  repeat' with_reducible first
    | assumption | apply Keeps.ite | fail_if_no_progress refine Keeps.upd rfl ?_

/-! ### Spool -/

theorem State.setDdr_keeps {M : Prop} {s0 s : State} (v : Nat) (hk : Keeps M s0 s) : Keeps M s0 (State.setDdr s v) := by
  unfold State.setDdr
  repeat' with_reducible first
    | assumption | intro _ | lift_lets | apply State.calAbort_keeps | apply State.each_keeps
      | apply State.setPage_keeps | apply Keeps.ite

theorem State.precharge_keeps {M : Prop} {s0 s : State} (k : Fin 4)
    (hk : Keeps M s0 s) : Keeps M s0 (State.precharge s k) := by
  unfold State.precharge
  repeat' with_reducible first
    | assumption | apply Keeps.ite | fail_if_no_progress refine Keeps.upd rfl ?_

theorem State.ddrCe_keeps {M : Prop} {s0 s : State} (a : Nat) (port : Nat) (dev : BitVec 5) (scrub : Bool)
    (hk : Keeps M s0 s) : Keeps M s0 (State.ddrCe s a port dev scrub) := by
  unfold State.ddrCe
  repeat' with_reducible first
    | assumption | intro _ | lift_lets | apply State.bump_keeps | apply State.each_keeps | apply State.when_keeps
      | apply State.raise_keeps | apply State.wr_keeps | apply Keeps.ite | fail_if_no_progress refine Keeps.upd rfl ?_

theorem State.ddrUeDen_keeps {M : Prop} {s0 s : State} (a : Nat) (log : Nat)
    (hk : Keeps M s0 s) : Keeps M s0 (State.ddrUeDen s a log) := by
  unfold State.ddrUeDen
  repeat' with_reducible first
    | assumption | intro _ | lift_lets | apply State.when_keeps | apply Keeps.ite
      | refine State.denHwTold_kept (by assumption) ?_ | apply State.denHwTold_keeps
      | fail_if_no_progress refine Keeps.upd rfl ?_

theorem State.ddrUe_keeps {M : Prop} {s0 s : State} (a : Nat) (port : Nat) (dev : BitVec 5) (scrub : Bool)
    (hk : Keeps M s0 s) : Keeps M s0 (State.ddrUe s a port dev scrub) := by
  unfold State.ddrUe
  repeat' with_reducible first
    | assumption | apply State.bump_keeps | apply State.raise_keeps | apply State.err_keeps | apply State.wr_keeps
      | apply State.ddrUeDen_keeps | apply Keeps.ite

theorem State.portError_keeps {M : Prop} {s0 s : State} (user : SpoolUser)
    (hk : Keeps M s0 s) : Keeps M s0 (State.portError s user) := by
  unfold State.portError
  repeat' with_reducible first
    | assumption | apply Keeps.ite | fail_if_no_progress refine Keeps.upd rfl ?_

theorem State.serveRead_keeps {M : Prop} {s0 s : State} (user : SpoolUser) (a : Nat) (kind : ReadKind) (wait : Nat)
    (hk : Keeps M s0 s) : Keeps M s0 (State.serveRead s user a kind wait) := by
  unfold State.serveRead
  repeat' with_reducible first
    | assumption | intro _ | lift_lets | apply State.when_keeps | apply State.wr_keeps | apply State.portError_keeps
      | apply State.ddrUe_keeps | apply State.ddrCe_keeps | apply Keeps.ite
      | fail_if_no_progress refine Keeps.upd rfl ?_ | split

theorem State.burstWrite_keeps {M : Prop} {s0 s : State} (port : Nat) (a : Nat) (data : Nat) (mask : BitVec 64) (poison : Bool) (ue : Bool) (hM : M)
    (hk : Keeps M s0 s) : Keeps M s0 (State.burstWrite s port a data mask poison ue) := by
  unfold State.burstWrite
  repeat' with_reducible first
    | assumption | apply State.poisonBurst_keeps | apply State.ddrUe_keeps | apply State.cleanBurst_keeps
      | apply State.spoolWrite_keeps | apply Keeps.ite | fail_if_no_progress refine Keeps.upd rfl ?_

theorem State.scrubNext_keeps {M : Prop} {s0 s : State} (kind : ReadKind)
    (hk : Keeps M s0 s) : Keeps M s0 (State.scrubNext s kind) := by
  unfold State.scrubNext
  repeat' with_reducible first
    | assumption | apply State.setOverdue_keeps | apply State.ddrUe_keeps | apply State.ddrCe_keeps
      | apply State.raise_keeps | apply State.bump_keeps | apply State.wr_keeps | apply Keeps.ite
      | fail_if_no_progress refine Keeps.upd rfl ?_ | split

theorem State.serveReq_keeps {M : Prop} {s0 s : State} (r : SpoolReq) (hM : M)
    (hk : Keeps M s0 s) : Keeps M s0 (State.serveReq s r) := by
  unfold State.serveReq
  repeat' with_reducible first
    | assumption | apply State.serveRead_keeps | apply State.burstWrite_keeps | apply State.scrubNext_keeps
      | apply Keeps.ite | fail_if_no_progress refine Keeps.upd rfl ?_ | split

theorem State.serveBack_keeps {M : Prop} {s0 s : State} (k : Fin 4) (hM : M)
    (hk : Keeps M s0 s) : Keeps M s0 (State.serveBack s k) := by
  unfold State.serveBack
  repeat' with_reducible first
    | assumption | apply State.serveReq_keeps | apply Keeps.ite | fail_if_no_progress refine Keeps.upd rfl ?_ | split

theorem State.serveSlot_keeps {M : Prop} {s0 s : State} (k : Fin 4) (hM : M)
    (hk : Keeps M s0 s) : Keeps M s0 (State.serveSlot s k) := by
  unfold State.serveSlot
  repeat' with_reducible first
    | assumption | apply State.serveBack_keeps | apply State.serveReq_keeps | apply Keeps.ite
      | fail_if_no_progress refine Keeps.upd rfl ?_ | split

theorem State.enqueue_keeps {M : Prop} {s0 s : State} (r : SpoolReq) (hM : M)
    (hk : Keeps M s0 s) : Keeps M s0 (State.enqueue s r) := by
  unfold State.enqueue
  repeat' with_reducible first
    | assumption | apply State.serveSlot_keeps | apply Keeps.ite | fail_if_no_progress refine Keeps.upd rfl ?_

theorem State.srAbort_keeps {M : Prop} {s0 s : State} (hk : Keeps M s0 s) : Keeps M s0 (State.srAbort s) := by
  unfold State.srAbort
  repeat' with_reducible first
    | assumption | apply State.raise_keeps | apply State.bump_keeps | apply State.setDdr_keeps

theorem State.portWake_keeps {M : Prop} {s0 s : State} (hk : Keeps M s0 s) : Keeps M s0 (State.portWake s) := by
  unfold State.portWake
  repeat' with_reducible first
    | assumption | apply State.srAbort_keeps | apply State.setDdr_keeps | apply Keeps.ite
      | fail_if_no_progress refine Keeps.upd rfl ?_

theorem State.spoolAsk_keeps {M : Prop} {s0 s : State} (r : SpoolReq) (hM : M)
    (hk : Keeps M s0 s) : Keeps M s0 (State.spoolAsk s r) := by
  unfold State.spoolAsk
  repeat' with_reducible first
    | assumption | apply State.portError_keeps | apply State.enqueue_keeps | apply State.portWake_keeps
      | apply Keeps.ite

theorem execSpoolReadReturn_keeps {M : Prop} {s0 s : State} (user : SpoolUser) (addr : BitVec 36) (kind : ReadKind) (wait : BitVec 16) (hM : M)
    (hk : Keeps M s0 s) : NextKeeps M s0 (execSpoolReadReturn user addr kind wait s) := by
  unfold execSpoolReadReturn
  repeat' with_reducible first
    | assumption | apply State.spoolAsk_keeps | apply Keeps.ite | apply NextKeeps.ite | apply NextKeeps.next

theorem execSpoolWriteAck_keeps {M : Prop} {s0 s : State} (user : SpoolUser) (addr : BitVec 36) (data : BitVec 512) (mask : BitVec 64) (poison : Bool) (ue : Bool) (hM : M)
    (hk : Keeps M s0 s) : NextKeeps M s0 (execSpoolWriteAck user addr data mask poison ue s) := by
  unfold execSpoolWriteAck
  repeat' with_reducible first
    | assumption | apply State.spoolAsk_keeps | apply Keeps.ite | apply NextKeeps.ite | apply NextKeeps.next

theorem State.portWrite_keeps {M : Prop} {s0 s : State} (port : Nat) (a : Nat) (l : List Byte) (hM : M)
    (hk : Keeps M s0 s) : Keeps M s0 (State.portWrite s port a l) := by
  unfold State.portWrite
  repeat' with_reducible first
    | assumption | intro _ | lift_lets | apply State.portWake_keeps | apply State.each_keeps
      | apply State.burstWrite_keeps

theorem State.refreshAll_keeps {M : Prop} {s0 s : State} (k : Fin 4)
    (hk : Keeps M s0 s) : Keeps M s0 (State.refreshAll s k) := by
  unfold State.refreshAll
  repeat' with_reducible first
    | assumption | intro _ | lift_lets | apply State.when_keeps | apply State.wr_keeps | apply State.bump_keeps
      | apply State.precharge_keeps

theorem State.refreshDue_keeps {M : Prop} {s0 s : State} (k : Fin 4) (rank : Fin 2)
    (hk : Keeps M s0 s) : Keeps M s0 (State.refreshDue s k rank) := by
  unfold State.refreshDue
  repeat' with_reducible first
    | assumption | apply State.precharge_keeps | apply State.wr_keeps | apply State.bump_keeps | apply Keeps.ite

theorem State.settleRefresh_keeps {M : Prop} {s0 s : State} (hk : Keeps M s0 s) : Keeps M s0 (State.settleRefresh s) := by
  unfold State.settleRefresh
  repeat' with_reducible first
    | assumption | intro _ | lift_lets | apply State.each_keeps | apply State.refreshDue_keeps

theorem execRefreshTick_keeps {M : Prop} {s0 s : State} (k : Fin 4) (rank : Fin 2)
    (hk : Keeps M s0 s) : NextKeeps M s0 (execRefreshTick k rank s) := by
  unfold execRefreshTick
  repeat' with_reducible first
    | assumption | intro _ | lift_lets | apply State.when_keeps | apply State.wr_keeps
      | apply State.settleRefresh_keeps | apply Keeps.ite | apply NextKeeps.ite | apply NextKeeps.next
      | fail_if_no_progress refine Keeps.upd rfl ?_

theorem execMr4Poll_keeps {M : Prop} {s0 s : State} (k : Fin 4) (rank0 : Mr4 × BitVec 8) (rank1 : Mr4 × BitVec 8) (osc : BitVec 16)
    (hk : Keeps M s0 s) : NextKeeps M s0 (execMr4Poll k rank0 rank1 osc s) := by
  unfold execMr4Poll
  repeat' with_reducible first
    | assumption | intro _ | lift_lets | apply State.wr_keeps | apply State.raise_keeps | apply State.refreshAll_keeps
      | apply State.bump_keeps | apply State.settleRefresh_keeps | apply State.when_keeps | apply State.errOpen_keeps
      | apply Keeps.ite | apply NextKeeps.ite | apply NextKeeps.next | fail_if_no_progress refine Keeps.upd rfl ?_

theorem execSrDrainDone_keeps {M : Prop} {s0 s : State} (hk : Keeps M s0 s) : NextKeeps M s0 (execSrDrainDone s) := by
  unfold execSrDrainDone
  repeat' with_reducible first
    | assumption | intro _ | lift_lets | apply State.each_keeps | apply State.raise_keeps | apply State.setDdr_keeps
      | apply State.precharge_keeps | apply State.when_keeps | apply Keeps.ite | apply NextKeeps.ite
      | apply NextKeeps.next | fail_if_no_progress refine Keeps.upd rfl ?_

theorem execSrExit_keeps {M : Prop} {s0 s : State} (hk : Keeps M s0 s) : NextKeeps M s0 (execSrExit s) := by
  unfold execSrExit
  repeat' with_reducible first
    | assumption | apply State.srAbort_keeps | apply State.setDdr_keeps | apply Keeps.ite | apply NextKeeps.ite
      | apply NextKeeps.next

theorem State.srExited_keeps {M : Prop} {s0 s : State} (hk : Keeps M s0 s) : Keeps M s0 (State.srExited s) := by
  unfold State.srExited
  repeat' with_reducible first
    | assumption | intro _ | lift_lets | apply State.raise_keeps | apply State.setDdr_keeps | apply State.each_keeps
      | apply State.wr_keeps | apply Keeps.ite | fail_if_no_progress refine Keeps.upd rfl ?_

theorem execSrExitDone_keeps {M : Prop} {s0 s : State} (hk : Keeps M s0 s) : NextKeeps M s0 (execSrExitDone s) := by
  unfold execSrExitDone
  repeat' with_reducible first
    | assumption | apply State.srExited_keeps | apply Keeps.ite | apply NextKeeps.ite | apply NextKeeps.next

theorem execScrubRead_keeps {M : Prop} {s0 s : State} (kind : ReadKind) (hM : M)
    (hk : Keeps M s0 s) : NextKeeps M s0 (execScrubRead kind s) := by
  unfold execScrubRead
  repeat' with_reducible first
    | assumption | apply State.enqueue_keeps | apply Keeps.ite | apply NextKeeps.ite | apply NextKeeps.next
      | fail_if_no_progress refine Keeps.upd rfl ?_

theorem State.portGot_kept {M : Prop} {s0 s t : State} {x : Option (List Byte)} {port a n : Nat}
    (he : State.portGot s port a n = (x, t)) (hk : Keeps M s0 s) : Keeps M s0 t := by
  unfold State.portGot at he
  repeat' split at he
  all_goals cases he
  · exact hk
  · exact State.ddrUe_keeps _ _ _ _ hk
  · exact hk

theorem State.portRead_kept {M : Prop} {s0 s t : State} {x : Option (List Byte)} {port a n : Nat}
    (he : State.portRead s port a n = (x, t)) (hk : Keeps M s0 s) : Keeps M s0 t := by
  unfold State.portRead at he
  exact State.portGot_kept he (State.portWake_keeps hk)

/-! ### Lane -/

theorem State.modClu_keeps {M : Prop} {s0 s : State} (c : Clu) (f : CluHw → CluHw)
    (hk : Keeps M s0 s) : Keeps M s0 (State.modClu s c f) := by
  unfold State.modClu
  repeat' with_reducible first
    | assumption | apply Keeps.ite | fail_if_no_progress refine Keeps.upd rfl ?_

theorem State.pmbSend_keeps {M : Prop} {s0 s : State} (k : Nat) (cmd : PmbCmd) (data : Nat)
    (hk : Keeps M s0 s) : Keeps M s0 (State.pmbSend s k cmd data) := by
  unfold State.pmbSend
  repeat' with_reducible first
    | assumption | apply State.emit_keeps | apply Keeps.ite

theorem State.railSet_keeps {M : Prop} {s0 s : State} (k : Nat) (hk : Keeps M s0 s) : Keeps M s0 (State.railSet s k) := by
  unfold State.railSet
  repeat' with_reducible first
    | assumption | apply State.pmbSend_keeps | apply Keeps.ite

theorem State.headSupply_keeps {M : Prop} {s0 s : State} (on : Bool)
    (hk : Keeps M s0 s) : Keeps M s0 (State.headSupply s on) := by
  unfold State.headSupply
  repeat' with_reducible first
    | assumption | intro _ | lift_lets | apply State.each_keeps | apply State.pmbSend_keeps | apply Keeps.ite
      | fail_if_no_progress refine Keeps.upd rfl ?_

theorem State.modLane_keeps {M : Prop} {s0 s : State} (l : Lane) (f : LaneHw → LaneHw)
    (hk : Keeps M s0 s) : Keeps M s0 (State.modLane s l f) := by
  unfold State.modLane
  repeat' with_reducible first
    | assumption | apply Keeps.ite | fail_if_no_progress refine Keeps.upd rfl ?_

theorem State.setDev_keeps {M : Prop} {s0 s : State} (d : DevState)
    (hk : Keeps M s0 s) : Keeps M s0 (State.setDev s d) := by
  unfold State.setDev
  repeat' with_reducible first
    | assumption | apply State.raise_keeps | apply Keeps.ite | fail_if_no_progress refine Keeps.upd rfl ?_

theorem State.settlePrint_keeps {M : Prop} {s0 s : State} (hk : Keeps M s0 s) : Keeps M s0 (State.settlePrint s) := by
  unfold State.settlePrint
  repeat' with_reducible first
    | assumption | apply State.setDev_keeps | apply Keeps.ite | fail_if_no_progress refine Keeps.upd rfl ?_ | split

theorem State.setLane_keeps {M : Prop} {s0 s : State} (l : Lane) (st : LaneState)
    (hk : Keeps M s0 s) : Keeps M s0 (State.setLane s l st) := by
  unfold State.setLane
  repeat' with_reducible first
    | assumption | intro _ | lift_lets | apply State.calLeave_keeps | apply State.modLane_keeps
      | apply State.each_keeps | apply State.setFault_keeps | apply State.raise_keeps | apply State.settlePrint_keeps
      | apply Keeps.ite

theorem State.overflowMerge_keeps {M : Prop} {s0 s : State} (r : SpoilRec) (last : Nat)
    (hk : Keeps M s0 s) : Keeps M s0 (State.overflowMerge s r last) := by
  unfold State.overflowMerge
  repeat' with_reducible first
    | assumption | apply State.wr_keeps | apply Keeps.ite | fail_if_no_progress refine Keeps.upd rfl ?_

theorem State.enterHold_keeps {M : Prop} {s0 s : State} (l : Lane) (why : Nat)
    (hk : Keeps M s0 s) : Keeps M s0 (State.enterHold s l why) := by
  unfold State.enterHold
  repeat' with_reducible first
    | assumption | intro _ | lift_lets | apply State.bump_keeps | apply State.modLane_keeps | apply State.wr_keeps
      | apply State.when_keeps | apply State.raise_keeps | apply State.setLane_keeps | apply Keeps.ite

theorem State.laneRuns_keeps {M : Prop} {s0 s : State} (l : Lane) (st : LaneState)
    (hk : Keeps M s0 s) : Keeps M s0 (State.laneRuns s l st) := by
  unfold State.laneRuns
  repeat' with_reducible first
    | assumption | intro _ | lift_lets | apply State.when_keeps | apply State.setLane_keeps
      | apply State.enterHold_keeps

theorem State.armNext_keeps {M : Prop} {s0 s : State} (hk : Keeps M s0 s) : Keeps M s0 (State.armNext s) := by
  unfold State.armNext
  repeat' with_reducible first
    | assumption | intro _ | lift_lets | apply State.each_keeps | apply State.laneRuns_keeps
      | apply State.modLane_keeps | apply Keeps.ite | fail_if_no_progress refine Keeps.upd rfl ?_ | split

theorem State.spoilFull_keeps {M : Prop} {s0 s : State} (r : SpoilRec) (last : Nat)
    (hk : Keeps M s0 s) : Keeps M s0 (State.spoilFull s r last) := by
  unfold State.spoilFull
  repeat' with_reducible first
    | assumption | intro _ | lift_lets | apply State.raise_keeps | apply State.overflowMerge_keeps
      | apply State.each_keeps | apply State.enterHold_keeps | apply Keeps.ite

theorem State.recordOut_keeps {M : Prop} {s0 s : State} (r : SpoilRec)
    (hk : Keeps M s0 s) : Keeps M s0 (State.recordOut s r) := by
  unfold State.recordOut
  repeat' with_reducible first
    | assumption | apply State.overflowMerge_keeps | apply State.spoilFull_keeps | apply State.wr_keeps
      | apply Keeps.ite | fail_if_no_progress refine Keeps.upd rfl ?_

theorem State.closeRun_keeps {M : Prop} {s0 s : State} (l : Lane) (r : Run)
    (hk : Keeps M s0 s) : Keeps M s0 (State.closeRun s l r) := by
  unfold State.closeRun
  repeat' with_reducible first
    | assumption | apply State.overflowMerge_keeps | apply State.recordOut_keeps | apply Keeps.ite
      | fail_if_no_progress refine Keeps.upd rfl ?_ | split

theorem State.flushRun_keeps {M : Prop} {s0 s : State} (l : Lane) (after : Bool)
    (hk : Keeps M s0 s) : Keeps M s0 (State.flushRun s l after) := by
  unfold State.flushRun
  repeat' with_reducible first
    | assumption | (intro x; subst x) | lift_lets | apply State.modLane_keeps | apply State.closeRun_keeps
      | apply Keeps.ite | fail_if_no_progress refine Keeps.upd rfl ?_ | split

theorem State.spoilLine_keeps {M : Prop} {s0 s : State} (l : Lane) (t : LineTag) (cause : Nat) (flags : Nat) (detail : Nat) (at_ : Nat)
    (hk : Keeps M s0 s) : Keeps M s0 (State.spoilLine s l t cause flags detail at_) := by
  unfold State.spoilLine
  repeat' with_reducible first
    | assumption | apply State.bump_keeps | apply State.overflowMerge_keeps | apply State.modLane_keeps
      | apply State.flushRun_keeps | apply Keeps.ite | fail_if_no_progress refine Keeps.upd rfl ?_ | split

theorem State.autoResume_keeps {M : Prop} {s0 s : State} (l : Lane)
    (hk : Keeps M s0 s) : Keeps M s0 (State.autoResume s l) := by
  unfold State.autoResume
  repeat' with_reducible first
    | assumption | apply State.armNext_keeps | apply State.setLane_keeps | apply State.wr_keeps | apply Keeps.ite

theorem State.awlAborted_keeps {M : Prop} {s0 s : State} (l : Lane) (link : Bool)
    (hk : Keeps M s0 s) : Keeps M s0 (State.awlAborted s l link) := by
  unfold State.awlAborted
  repeat' with_reducible first
    | assumption | intro _ | lift_lets | apply State.modLane_keeps | apply State.wr_keeps | apply State.bump_keeps
      | apply State.when_keeps | apply State.raise_keeps | apply State.errOpen_keeps | apply Keeps.ite

theorem State.laneFault_keeps {M : Prop} {s0 s : State} (l : Lane)
    (hk : Keeps M s0 s) : Keeps M s0 (State.laneFault s l) := by
  unfold State.laneFault
  repeat' with_reducible first
    | assumption | apply State.modLane_keeps | apply State.awlAborted_keeps | apply State.setLane_keeps
      | apply Keeps.ite | fail_if_no_progress refine Keeps.upd rfl ?_ | split

theorem State.clusterFault_keeps {M : Prop} {s0 s : State} (c : Clu)
    (hk : Keeps M s0 s) : Keeps M s0 (State.clusterFault s c) := by
  unfold State.clusterFault
  repeat' with_reducible first
    | assumption | apply State.each_keeps | apply State.laneFault_keeps

/-! ### Rate -/

theorem State.settleLong_keeps {M : Prop} {s0 s : State} (hk : Keeps M s0 s) : Keeps M s0 (State.settleLong s) := by
  unfold State.settleLong
  repeat' with_reducible first
    | assumption | intro _ | lift_lets | apply State.wr_keeps | apply State.each_keeps | apply State.raise_keeps
      | apply State.errOpen_keeps

theorem State.settleSlow_keeps {M : Prop} {s0 s : State} (hk : Keeps M s0 s) : Keeps M s0 (State.settleSlow s) := by
  unfold State.settleSlow
  repeat' with_reducible first
    | assumption | apply State.raise_keeps | apply State.bump_keeps | apply State.wr_keeps | apply Keeps.ite
      | fail_if_no_progress refine Keeps.upd rfl ?_

theorem State.slowFall_keeps {M : Prop} {s0 s : State} (hk : Keeps M s0 s) : Keeps M s0 (State.slowFall s) := by
  unfold State.slowFall
  repeat' with_reducible first
    | assumption | apply State.raise_keeps | apply State.wr_keeps | apply Keeps.ite

theorem State.settleSoft_keeps {M : Prop} {s0 s : State} (hk : Keeps M s0 s) : Keeps M s0 (State.settleSoft s) := by
  unfold State.settleSoft
  repeat' with_reducible first
    | assumption | apply State.settleSlow_keeps | apply State.flag_keeps

theorem State.settleSources_keeps {M : Prop} {s0 s : State} (hk : Keeps M s0 s) : Keeps M s0 (State.settleSources s) := by
  unfold State.settleSources
  repeat' with_reducible first
    | assumption | apply State.settleSlow_keeps | apply State.flag_keeps

theorem State.settlePerm_keeps {M : Prop} {s0 s : State} (hk : Keeps M s0 s) : Keeps M s0 (State.settlePerm s) := by
  unfold State.settlePerm
  repeat' with_reducible first
    | assumption | apply State.wr_keeps | apply State.settleSources_keeps | apply State.settleLong_keeps

theorem State.settleTmin_keeps {M : Prop} {s0 s : State} (l : Lane)
    (hk : Keeps M s0 s) : Keeps M s0 (State.settleTmin s l) := by
  unfold State.settleTmin
  repeat' with_reducible first
    | assumption | apply State.settlePerm_keeps | apply State.wr_keeps

/-! ### Window -/

theorem State.setWin_keeps {M : Prop} {s0 s : State} (l : Lane) (w : Nat) (v : Nat)
    (hk : Keeps M s0 s) : Keeps M s0 (State.setWin s l w v) := by
  unfold State.setWin
  repeat' with_reducible first
    | assumption | apply State.modLane_keeps

theorem State.setWins_keeps {M : Prop} {s0 : State} (l : Lane) (w : Nat) (vs : List Nat) {s : State}
    (hk : Keeps M s0 s) : Keeps M s0 (State.setWins s l w vs) := by
  induction vs generalizing s w with
  | nil => exact hk
  | cons v vs ih => exact ih _ (State.setWin_keeps _ _ _ hk)

theorem State.mapFigures_keeps {M : Prop} {s0 s : State} (l : Lane)
    (hk : Keeps M s0 s) : Keeps M s0 (State.mapFigures s l) := by
  unfold State.mapFigures
  repeat' with_reducible first
    | assumption | apply State.wr_keeps

theorem State.partnerRefresh_keeps {M : Prop} {s0 s : State} (l : Lane)
    (hk : Keeps M s0 s) : Keeps M s0 (State.partnerRefresh s l) := by
  unfold State.partnerRefresh
  repeat' with_reducible first
    | assumption | (intro x; subst x) | lift_lets | apply State.setWins_keeps | apply State.modLane_keeps
      | apply Keeps.ite | fail_if_no_progress refine Keeps.upd rfl ?_ | split

theorem State.waveFigures_keeps {M : Prop} {s0 s : State} (l : Lane)
    (hk : Keeps M s0 s) : Keeps M s0 (State.waveFigures s l) := by
  unfold State.waveFigures
  repeat' with_reducible first
    | assumption | intro _ | lift_lets | apply State.each_keeps | apply State.wr_keeps

theorem State.queueCtrl_keeps {M : Prop} {s0 s : State} (l : Lane) (type : Nat) (payload : Nat)
    (hk : Keeps M s0 s) : Keeps M s0 (State.queueCtrl s l type payload) := by
  unfold State.queueCtrl
  repeat' with_reducible first
    | assumption | apply State.modLane_keeps

theorem State.loadBank_keeps {M : Prop} {s0 s : State} (l : Lane) (bank : Nat) (get : Row → Nat → Nat)
    (hk : Keeps M s0 s) : Keeps M s0 (State.loadBank s l bank get) := by
  unfold State.loadBank
  repeat' with_reducible first
    | assumption | intro _ | lift_lets | apply State.each_keeps | apply State.queueCtrl_keeps

theorem State.switchBank_keeps {M : Prop} {s0 s : State} (l : Lane)
    (hk : Keeps M s0 s) : Keeps M s0 (State.switchBank s l) := by
  unfold State.switchBank
  repeat' with_reducible first
    | assumption | apply State.wr_keeps | apply State.loadBank_keeps | apply Keeps.ite

/-! ### Commit -/

theorem State.copyStaged_keeps {M : Prop} {s0 s : State} (p : Page)
    (hk : Keeps M s0 s) : Keeps M s0 (State.copyStaged s p) := by
  unfold State.copyStaged
  repeat' with_reducible first
    | assumption | intro _ | lift_lets | apply State.each_keeps | apply State.wr_keeps

theorem State.dropStaged_keeps {M : Prop} {s0 s : State} (p : Page)
    (hk : Keeps M s0 s) : Keeps M s0 (State.dropStaged s p) := by
  unfold State.dropStaged
  repeat' with_reducible first
    | assumption | intro _ | lift_lets | apply State.each_keeps | apply State.wrStaged_keeps

theorem State.clearPend_keeps {M : Prop} {s0 s : State} (p : Page)
    (hk : Keeps M s0 s) : Keeps M s0 (State.clearPend s p) := by
  unfold State.clearPend
  repeat' with_reducible first
    | assumption | apply State.wr_keeps | apply Keeps.ite | fail_if_no_progress refine Keeps.upd rfl ?_

theorem State.commitPend_keeps {M : Prop} {s0 s : State} (p : Page) (at_ : Nat)
    (hk : Keeps M s0 s) : Keeps M s0 (State.commitPend s p at_) := by
  unfold State.commitPend
  repeat' with_reducible first
    | assumption | apply State.wr_keeps | apply State.modLane_keeps | apply Keeps.ite
      | fail_if_no_progress refine Keeps.upd rfl ?_ | split

theorem State.commitHook_keeps {M : Prop} {s0 s : State} (p : Page)
    (hk : Keeps M s0 s) : Keeps M s0 (State.commitHook s p) := by
  unfold State.commitHook
  repeat' with_reducible first
    | assumption | intro _ | lift_lets | apply State.modLane_keeps | apply State.setWins_keeps
      | apply State.mapFigures_keeps | apply State.wr_keeps | apply State.armNext_keeps | apply State.each_keeps
      | apply State.partnerRefresh_keeps | apply State.settleTmin_keeps | apply State.switchBank_keeps
      | apply State.waveFigures_keeps | apply State.settlePerm_keeps | apply State.pmbSend_keeps
      | apply State.errOpen_keeps | apply State.modClu_keeps | apply Keeps.ite
      | fail_if_no_progress refine Keeps.upd rfl ?_ | split

theorem State.applyCommit_keeps {M : Prop} {s0 s : State} (p : Page)
    (hk : Keeps M s0 s) : Keeps M s0 (State.applyCommit s p) := by
  unfold State.applyCommit
  repeat' with_reducible first
    | assumption | apply State.raise_keeps | apply State.commitHook_keeps | apply State.clearPend_keeps
      | apply State.copyStaged_keeps

/-! ### Accept -/

theorem State.awlAccept_keeps {M : Prop} {s0 s : State} (l : Lane) (map : List Bool) (new : Nat)
    (hk : Keeps M s0 s) : Keeps M s0 (State.awlAccept s l map new) := by
  unfold State.awlAccept
  repeat' with_reducible first
    | assumption | intro _ | lift_lets | apply State.setWins_keeps | apply State.wrStaged_keeps | apply State.wr_keeps
      | apply State.bump_keeps | apply State.modLane_keeps | apply State.when_keeps | apply State.raise_keeps
      | apply State.commitPend_keeps | apply State.applyCommit_keeps | apply Keeps.ite

theorem State.awlRelease_keeps {M : Prop} {s0 s : State} (p : Page)
    (hk : Keeps M s0 s) : Keeps M s0 (State.awlRelease s p) := by
  unfold State.awlRelease
  repeat' with_reducible first
    | assumption | apply State.awlAccept_keeps | apply Keeps.ite | fail_if_no_progress refine Keeps.upd rfl ?_ | split

theorem State.commitPage_keeps {M : Prop} {s0 s : State} (p : Page)
    (hk : Keeps M s0 s) : Keeps M s0 (State.commitPage s p) := by
  unfold State.commitPage
  repeat' with_reducible first
    | assumption | apply State.awlRelease_keeps | apply State.applyCommit_keeps

theorem State.commitsAt_keeps {M : Prop} {s0 s : State} (b : Nat) (which : Page → Bool)
    (hk : Keeps M s0 s) : Keeps M s0 (State.commitsAt s b which) := by
  unfold State.commitsAt
  repeat' with_reducible first
    | assumption | apply State.each_keeps | apply State.commitPage_keeps

end Sys2Proof.Machine
end

