-- ==== Sys2Proof/Laws/KeepsPages.lean ====
section
/-! SUPPORT. What `Keeps` says, for each operation and each meaning of pages, pace, axes, firing, bands, intake and the spoil
ring. -/

namespace Sys2Proof.Machine

/-! ### Pages -/

theorem State.pushCqe_keeps {M : Prop} {s0 s : State} (c : Cqe) (hk : Keeps M s0 s) : Keeps M s0 (State.pushCqe s c) := by
  unfold State.pushCqe
  repeat' with_reducible first
    | assumption | apply Keeps.ite | fail_if_no_progress refine Keeps.upd rfl ?_

theorem State.tileFail_keeps {M : Prop} {s0 s : State} (k : TileKey) (cookie : Nat) (nn : Nat)
    (hk : Keeps M s0 s) : Keeps M s0 (State.tileFail s k cookie nn) := by
  unfold State.tileFail
  repeat' with_reducible first
    | assumption | apply State.pushCqe_keeps | apply State.errOpen_keeps

theorem State.pageCqe_keeps {M : Prop} {s0 s : State} (id : Nat) (type : Nat) (status : Nat) (loc : Nat)
    (hk : Keeps M s0 s) : Keeps M s0 (State.pageCqe s id type status loc) := by
  unfold State.pageCqe
  repeat' with_reducible first
    | assumption | apply State.pushCqe_keeps

theorem State.tileStore_keeps {M : Prop} {s0 : State} (gs : List Nat) (l : List Byte) {s : State} (hM : M)
    (hk : Keeps M s0 s) : Keeps M s0 (State.tileStore s gs l) := by
  induction gs generalizing s l with
  | nil => exact hk
  | cons g gs ih => exact ih _ (State.portWrite_keeps _ _ _ hM hk)

theorem State.settleCredit_keeps {M : Prop} {s0 s : State} (hk : Keeps M s0 s) : Keeps M s0 (State.settleCredit s) := by
  unfold State.settleCredit
  repeat' with_reducible first
    | assumption | intro _ | lift_lets | apply State.wr_keeps | apply State.when_keeps | apply State.raise_keeps
      | apply Keeps.ite | fail_if_no_progress refine Keeps.upd rfl ?_

theorem State.dmaStep_keeps {M : Prop} {s0 s : State} (hk : Keeps M s0 s) : Keeps M s0 (State.dmaStep s) := by
  unfold State.dmaStep
  repeat' with_reducible first
    | assumption | apply State.emit_keeps | apply Keeps.ite | fail_if_no_progress refine Keeps.upd rfl ?_ | split

theorem State.dmaIssue_keeps {M : Prop} {s0 s : State} (hk : Keeps M s0 s) : Keeps M s0 (State.dmaIssue s) := by
  unfold State.dmaIssue
  repeat' with_reducible first
    | assumption | intro _ | lift_lets | apply State.each_keeps | apply State.dmaStep_keeps

theorem State.dmaStart_keeps {M : Prop} {s0 s : State} (who : ReadFor) (a : Nat) (n : Nat)
    (hk : Keeps M s0 s) : Keeps M s0 (State.dmaStart s who a n) := by
  unfold State.dmaStart
  repeat' with_reducible first
    | assumption | apply State.dmaIssue_keeps | apply Keeps.ite | fail_if_no_progress refine Keeps.upd rfl ?_

theorem State.dmaOver_keeps {M : Prop} {s0 s : State} (f : ReadFor → Bool)
    (hk : Keeps M s0 s) : Keeps M s0 (State.dmaOver s f) := by
  unfold State.dmaOver
  repeat' with_reducible first
    | assumption | apply Keeps.ite | fail_if_no_progress refine Keeps.upd rfl ?_

theorem State.dmaReturn_keeps {M : Prop} {s0 s : State} (hk : Keeps M s0 s) : Keeps M s0 (State.dmaReturn s) := by
  unfold State.dmaReturn
  repeat' with_reducible first
    | assumption | apply State.drawMany_keeps | apply State.dmaIssue_keeps | apply Keeps.ite
      | fail_if_no_progress refine Keeps.upd rfl ?_

theorem State.settlePages_keeps {M : Prop} {s0 s : State} (hk : Keeps M s0 s) : Keeps M s0 (State.settlePages s) := by
  unfold State.settlePages
  repeat' with_reducible first
    | assumption | apply State.wr_keeps | apply State.setPage_keeps

theorem State.settleTags_keeps {M : Prop} {s0 s : State} (hk : Keeps M s0 s) : Keeps M s0 (State.settleTags s) := by
  unfold State.settleTags
  repeat' with_reducible first
    | assumption | apply State.wr_keeps

theorem State.settleCodec_keeps {M : Prop} {s0 s : State} (hk : Keeps M s0 s) : Keeps M s0 (State.settleCodec s) := by
  unfold State.settleCodec
  repeat' with_reducible first
    | assumption | apply State.setPage_keeps | apply State.wr_keeps

theorem State.modPage_keeps {M : Prop} {s0 s : State} (ord : Nat) (f : PageSt → PageSt)
    (hk : Keeps M s0 s) : Keeps M s0 (State.modPage s ord f) := by
  unfold State.modPage
  repeat' with_reducible first
    | assumption | apply Keeps.ite | fail_if_no_progress refine Keeps.upd rfl ?_

theorem State.gapCommits_keeps {M : Prop} {s0 s : State} (hk : Keeps M s0 s) : Keeps M s0 (State.gapCommits s) := by
  unfold State.gapCommits
  repeat' with_reducible first
    | assumption | apply State.commitsAt_keeps

theorem State.laneLeaves_keeps {M : Prop} {s0 s : State} (l : Lane) (id : Nat)
    (hk : Keeps M s0 s) : Keeps M s0 (State.laneLeaves s l id) := by
  unfold State.laneLeaves
  repeat' with_reducible first
    | assumption | (intro x; subst x) | lift_lets | apply State.modLane_keeps | apply State.laneRuns_keeps
      | apply State.setLane_keeps | apply State.autoResume_keeps | apply Keeps.ite
      | fail_if_no_progress refine Keeps.upd rfl ?_ | split

theorem State.codecDrop_keeps {M : Prop} {s0 s : State} (id : Nat)
    (hk : Keeps M s0 s) : Keeps M s0 (State.codecDrop s id) := by
  unfold State.codecDrop
  repeat' with_reducible first
    | assumption | apply State.settleCodec_keeps | apply Keeps.ite | fail_if_no_progress refine Keeps.upd rfl ?_

theorem State.ringAdvance_keeps {M : Prop} {s0 s : State} (r : Nat)
    (hk : Keeps M s0 s) : Keeps M s0 (State.ringAdvance s r) := by
  unfold State.ringAdvance
  repeat' with_reducible first
    | assumption | apply State.wr_keeps | apply State.bump_keeps | apply Keeps.ite
      | fail_if_no_progress refine Keeps.upd rfl ?_

theorem State.closePage_keeps {M : Prop} {s0 s : State} (p : PageSt)
    (hk : Keeps M s0 s) : Keeps M s0 (State.closePage s p) := by
  unfold State.closePage
  repeat' with_reducible first
    | assumption | intro _ | lift_lets | apply State.each_keeps | apply State.tileFail_keeps
      | apply State.ringAdvance_keeps | apply State.dmaOver_keeps | apply State.settleCredit_keeps
      | apply State.settleTags_keeps | apply State.codecDrop_keeps | apply State.settlePerm_keeps
      | apply State.settlePages_keeps | apply Keeps.ite | fail_if_no_progress refine Keeps.upd rfl ?_ | split

theorem State.afterPage_keeps {M : Prop} {s0 s : State} (hk : Keeps M s0 s) : Keeps M s0 (State.afterPage s) := by
  unfold State.afterPage
  repeat' with_reducible first
    | assumption | apply State.gapCommits_keeps | apply State.settlePrint_keeps | apply State.armNext_keeps

theorem State.pageDone_keeps {M : Prop} {s0 s : State} (p : PageSt) (nn : Nat) (wl : Nat) (copy : Nat)
    (hk : Keeps M s0 s) : Keeps M s0 (State.pageDone s p nn wl copy) := by
  unfold State.pageDone
  repeat' with_reducible first
    | assumption | intro _ | lift_lets | apply State.when_keeps | apply State.errOpen_keeps | apply State.raise_keeps
      | apply State.pageCqe_keeps | apply State.afterPage_keeps | apply State.closePage_keeps

theorem State.pageReject_keeps {M : Prop} {s0 s : State} (p : PageSt) (nn : Nat)
    (hk : Keeps M s0 s) : Keeps M s0 (State.pageReject s p nn) := by
  unfold State.pageReject
  repeat' with_reducible first
    | assumption | intro _ | lift_lets | apply State.raise_keeps | apply State.pageCqe_keeps
      | apply State.errOpen_keeps | apply State.closePage_keeps | apply State.afterPage_keeps | apply State.each_keeps
      | apply State.laneLeaves_keeps

theorem State.checkDone_keeps {M : Prop} {s0 s : State} (id : Nat)
    (hk : Keeps M s0 s) : Keeps M s0 (State.checkDone s id) := by
  unfold State.checkDone
  repeat' with_reducible first
    | assumption | apply State.pageDone_keeps | apply Keeps.ite | fail_if_no_progress refine Keeps.upd rfl ?_ | split

theorem State.lanePassed_keeps {M : Prop} {s0 s : State} (l : Lane) (id : Nat)
    (hk : Keeps M s0 s) : Keeps M s0 (State.lanePassed s l id) := by
  unfold State.lanePassed
  repeat' with_reducible first
    | assumption | apply State.gapCommits_keeps | apply State.checkDone_keeps | apply State.laneLeaves_keeps
      | apply Keeps.ite | fail_if_no_progress refine Keeps.upd rfl ?_

theorem State.prevEnds_keeps {M : Prop} {s0 s : State} (e : Nat) (hk : Keeps M s0 s) : Keeps M s0 (State.prevEnds s e) := by
  unfold State.prevEnds
  repeat' with_reducible first
    | assumption | intro _ | lift_lets | apply State.modPage_keeps | apply Keeps.ite
      | fail_if_no_progress refine Keeps.upd rfl ?_ | split

theorem State.pageCut_keeps {M : Prop} {s0 s : State} (p : PageSt) (nn : Nat)
    (hk : Keeps M s0 s) : Keeps M s0 (State.pageCut s p nn) := by
  unfold State.pageCut
  repeat' with_reducible first
    | assumption | intro _ | lift_lets | apply State.pageDone_keeps | apply State.afterPage_keeps
      | apply State.each_keeps | apply State.laneLeaves_keeps | apply State.when_keeps | apply State.prevEnds_keeps
      | apply State.modLane_keeps | apply Keeps.ite | fail_if_no_progress refine Keeps.upd rfl ?_ | split

/-! ### RegStore -/

theorem State.store_keeps {M : Prop} {s0 s : State} (p : Page) (off : Nat) (data : Nat)
    (hk : Keeps M s0 s) : Keeps M s0 (State.store s p off data) := by
  unfold State.store
  repeat' with_reducible first
    | assumption | intro _ | lift_lets | apply State.each_keeps | apply State.wr_keeps | apply State.wrStaged_keeps
      | apply Keeps.ite | fail_if_no_progress refine Keeps.upd rfl ?_ | split

theorem State.wordWrite_keeps {M : Prop} {s0 s : State} (req : Req) (p : Page) (off : Nat) (data : Nat) (act : State → State) (hact : ∀ x0, Keeps M s0 x0 → Keeps M s0 (act x0))
    (hk : Keeps M s0 s) : Keeps M s0 (State.wordWrite s req p off data act) := by
  unfold State.wordWrite
  repeat' with_reducible first
    | assumption | apply hact | apply State.errAt_keeps | apply State.store_keeps | apply Keeps.ite
      | fail_if_no_progress refine Keeps.upd rfl ?_ | split

/-! ### Pace -/

theorem State.pageGo_keeps {M : Prop} {s0 s : State} (names : PageDesc → Bool)
    (hk : Keeps M s0 s) : Keeps M s0 (State.pageGo s names) := by
  unfold State.pageGo
  repeat' with_reducible first
    | assumption | apply State.modPage_keeps | apply Keeps.ite | fail_if_no_progress refine Keeps.upd rfl ?_ | split

theorem State.pageTrig_keeps {M : Prop} {s0 s : State} (names : PageDesc → Bool)
    (hk : Keeps M s0 s) : Keeps M s0 (State.pageTrig s names) := by
  unfold State.pageTrig
  repeat' with_reducible first
    | assumption | apply State.pageGo_keeps | apply Keeps.ite

theorem State.encErr_keeps {M : Prop} {s0 s : State} (nn : Nat) (hk : Keeps M s0 s) : Keeps M s0 (State.encErr s nn) := by
  unfold State.encErr
  repeat' with_reducible first
    | assumption | apply State.raise_keeps | apply State.wr_keeps | apply State.errOpen_keeps

theorem State.settleReverse_keeps {M : Prop} {s0 s : State} (hk : Keeps M s0 s) : Keeps M s0 (State.settleReverse s) := by
  unfold State.settleReverse
  repeat' with_reducible first
    | assumption | intro _ | lift_lets | apply State.when_keeps | apply State.flag_keeps | apply State.raise_keeps

theorem State.paceEdge_keeps {M : Prop} {s0 s : State} (fwd : Bool)
    (hk : Keeps M s0 s) : Keeps M s0 (State.paceEdge s fwd) := by
  unfold State.paceEdge
  repeat' with_reducible first
    | assumption | apply State.settleReverse_keeps | apply Keeps.ite | fail_if_no_progress refine Keeps.upd rfl ?_

theorem execEncEdge_keeps {M : Prop} {s0 s : State} (kind : EncKind)
    (hk : Keeps M s0 s) : NextKeeps M s0 (execEncEdge kind s) := by
  unfold execEncEdge
  repeat' with_reducible first
    | assumption | apply State.wrS_keeps | apply State.paceEdge_keeps | apply State.encErr_keeps
      | apply State.bump_keeps | apply Keeps.ite | apply NextKeeps.ite | apply NextKeeps.next
      | fail_if_no_progress refine Keeps.upd rfl ?_ | split

theorem execEncIndex_keeps {M : Prop} {s0 s : State} (hk : Keeps M s0 s) : NextKeeps M s0 (execEncIndex s) := by
  unfold execEncIndex
  repeat' with_reducible first
    | assumption | apply State.encErr_keeps | apply State.bump_keeps | apply Keeps.ite | apply NextKeeps.ite
      | apply NextKeeps.next | fail_if_no_progress refine Keeps.upd rfl ?_

theorem execInternalTick_keeps {M : Prop} {s0 s : State} (hk : Keeps M s0 s) : NextKeeps M s0 (execInternalTick s) := by
  unfold execInternalTick
  repeat' with_reducible first
    | assumption | apply Keeps.ite | apply NextKeeps.ite | apply NextKeeps.next
      | fail_if_no_progress refine Keeps.upd rfl ?_

theorem State.paceCtrlWrite_keeps {M : Prop} {s0 s : State} (req : Req) (data : Nat)
    (hk : Keeps M s0 s) : Keeps M s0 (State.paceCtrlWrite s req data) := by
  unfold State.paceCtrlWrite
  repeat' with_reducible first
    | assumption | apply State.errAt_keeps | apply State.errOpen_keeps | apply State.store_keeps
      | apply State.settleSlow_keeps | apply State.settlePerm_keeps | apply State.setPage_keeps
      | apply State.settleReverse_keeps | apply Keeps.ite | fail_if_no_progress refine Keeps.upd rfl ?_ | split

theorem execPaceModeWrite_keeps {M : Prop} {s0 s : State} (req : Req) (data : Word)
    (hk : Keeps M s0 s) : NextKeeps M s0 (execPaceModeWrite req data s) := by
  unfold execPaceModeWrite
  repeat' with_reducible first
    | assumption | intro _ | lift_lets | apply State.gate_keeps | apply State.paceCtrlWrite_keeps | apply Keeps.ite
      | apply NextKeeps.ite | apply NextKeeps.next

theorem State.setWl_keeps {M : Prop} {s0 s : State} (v : Nat) (hk : Keeps M s0 s) : Keeps M s0 (State.setWl s v) := by
  unfold State.setWl
  repeat' with_reducible first
    | assumption | intro _ | lift_lets | apply State.wr_keeps | fail_if_no_progress refine Keeps.upd rfl ?_

theorem State.wlLoadWrite_keeps {M : Prop} {s0 s : State} (v : Nat)
    (hk : Keeps M s0 s) : Keeps M s0 (State.wlLoadWrite s v) := by
  unfold State.wlLoadWrite
  repeat' with_reducible first
    | assumption | apply State.errOpen_keeps | apply State.setWl_keeps | apply Keeps.ite

theorem execWlLoad_keeps {M : Prop} {s0 s : State} (req : Req) (wl : BitVec 48)
    (hk : Keeps M s0 s) : NextKeeps M s0 (execWlLoad req wl s) := by
  unfold execWlLoad
  repeat' with_reducible first
    | assumption | intro _ | lift_lets | apply State.gate_keeps | apply State.wlLoadWrite_keeps | apply Keeps.ite
      | apply NextKeeps.ite | apply NextKeeps.next

theorem execTofEdge_keeps {M : Prop} {s0 s : State} (hk : Keeps M s0 s) : NextKeeps M s0 (execTofEdge s) := by
  unfold execTofEdge
  repeat' with_reducible first
    | assumption | apply State.bump_keeps | apply State.pageTrig_keeps | apply State.raise_keeps | apply Keeps.ite
      | apply NextKeeps.ite | apply NextKeeps.next | fail_if_no_progress refine Keeps.upd rfl ?_

theorem execSlowreqRelease_keeps {M : Prop} {s0 s : State} (hk : Keeps M s0 s) : NextKeeps M s0 (execSlowreqRelease s) := by
  unfold execSlowreqRelease
  repeat' with_reducible first
    | assumption | apply State.slowFall_keeps | apply Keeps.ite | apply NextKeeps.ite | apply NextKeeps.next

theorem execPaceStopped_keeps {M : Prop} {s0 s : State} (hk : Keeps M s0 s) : NextKeeps M s0 (execPaceStopped s) := by
  unfold execPaceStopped
  repeat' with_reducible first
    | assumption | apply State.raise_keeps | apply State.wr_keeps | apply Keeps.ite | apply NextKeeps.ite
      | apply NextKeeps.next | fail_if_no_progress refine Keeps.upd rfl ?_

/-! ### Axes -/

theorem State.modAxis_keeps {M : Prop} {s0 s : State} (a : Axis) (f : AxisHw → AxisHw)
    (hk : Keeps M s0 s) : Keeps M s0 (State.modAxis s a f) := by
  unfold State.modAxis
  repeat' with_reducible first
    | assumption | apply Keeps.ite | fail_if_no_progress refine Keeps.upd rfl ?_

theorem State.setAx_keeps {M : Prop} {s0 s : State} (a : Axis) (v : Nat)
    (hk : Keeps M s0 s) : Keeps M s0 (State.setAx s a v) := by
  unfold State.setAx
  repeat' with_reducible first
    | assumption | apply State.setPage_keeps | apply State.modAxis_keeps | apply Keeps.ite

theorem State.axReport_keeps {M : Prop} {s0 s : State} (a : Axis) (old : Int)
    (hk : Keeps M s0 s) : Keeps M s0 (State.axReport s a old) := by
  unfold State.axReport
  repeat' with_reducible first
    | assumption | apply State.wrS_keeps | apply State.wr_keeps | apply State.flag_keeps | apply Keeps.ite

theorem State.axHalt_keeps {M : Prop} {s0 s : State} (a : Axis) (hk : Keeps M s0 s) : Keeps M s0 (State.axHalt s a) := by
  unfold State.axHalt
  repeat' with_reducible first
    | assumption | apply State.axReport_keeps | apply State.modAxis_keeps

theorem State.axBegin_keeps {M : Prop} {s0 s : State} (a : Axis) (hk : Keeps M s0 s) : Keeps M s0 (State.axBegin s a) := by
  unfold State.axBegin
  repeat' with_reducible first
    | assumption | apply State.wr_keeps | apply State.modAxis_keeps | apply Keeps.ite

theorem State.axLimits_keeps {M : Prop} {s0 s : State} (a : Axis)
    (hk : Keeps M s0 s) : Keeps M s0 (State.axLimits s a) := by
  unfold State.axLimits
  repeat' with_reducible first
    | assumption | apply State.wr_keeps | apply State.modAxis_keeps

theorem State.axTake_keeps {M : Prop} {s0 s : State} (a : Axis) (hk : Keeps M s0 s) : Keeps M s0 (State.axTake s a) := by
  unfold State.axTake
  repeat' with_reducible first
    | assumption | intro _ | lift_lets | apply State.errOpen_keeps | apply State.clearPend_keeps
      | apply State.commitPage_keeps | apply State.when_keeps | apply State.wr_keeps | apply State.axLimits_keeps
      | apply State.axBegin_keeps | apply State.modAxis_keeps | apply State.setAx_keeps | apply Keeps.ite

theorem State.axEnd_keeps {M : Prop} {s0 s : State} (a : Axis) (hk : Keeps M s0 s) : Keeps M s0 (State.axEnd s a) := by
  unfold State.axEnd
  repeat' with_reducible first
    | assumption | apply State.raise_keeps | apply State.wr_keeps | apply State.setAx_keeps
      | apply State.modAxis_keeps

theorem State.homeRest_keeps {M : Prop} {s0 s : State} (a : Axis)
    (hk : Keeps M s0 s) : Keeps M s0 (State.homeRest s a) := by
  unfold State.homeRest
  repeat' with_reducible first
    | assumption | apply State.modAxis_keeps | apply State.wr_keeps | apply State.setAx_keeps
      | apply State.raise_keeps | apply Keeps.ite | fail_if_no_progress refine Keeps.upd rfl ?_ | split

theorem State.axSettle_keeps {M : Prop} {s0 s : State} (a : Axis)
    (hk : Keeps M s0 s) : Keeps M s0 (State.axSettle s a) := by
  unfold State.axSettle
  repeat' with_reducible first
    | assumption | apply State.homeRest_keeps | apply State.axEnd_keeps | apply State.raise_keeps
      | apply State.wr_keeps | apply State.modAxis_keeps | apply Keeps.ite
      | fail_if_no_progress refine Keeps.upd rfl ?_ | split

theorem execProfileUpdate_keeps {M : Prop} {s0 s : State} (a : Axis)
    (hk : Keeps M s0 s) : NextKeeps M s0 (execProfileUpdate a s) := by
  unfold execProfileUpdate
  repeat' with_reducible first
    | assumption | apply State.axTake_keeps | apply State.modAxis_keeps | apply State.axSettle_keeps
      | apply State.axReport_keeps | apply Keeps.ite | apply NextKeeps.ite | apply NextKeeps.next

theorem State.axCount_keeps {M : Prop} {s0 s : State} (a : Axis) (neg : Bool)
    (hk : Keeps M s0 s) : Keeps M s0 (State.axCount s a neg) := by
  unfold State.axCount
  repeat' with_reducible first
    | assumption | apply State.bump_keeps | apply State.wrS_keeps | apply State.paceEdge_keeps | apply Keeps.ite

theorem State.axFail_keeps {M : Prop} {s0 s : State} (a : Axis) (nn : Nat)
    (hk : Keeps M s0 s) : Keeps M s0 (State.axFail s a nn) := by
  unfold State.axFail
  repeat' with_reducible first
    | assumption | intro _ | lift_lets | apply State.when_keeps | apply State.errOpen_keeps | apply State.axHalt_keeps
      | apply State.raise_keeps | apply State.wr_keeps | apply State.setFault_keeps | apply State.setAx_keeps

theorem execAxisStep_keeps {M : Prop} {s0 s : State} (a : Axis)
    (hk : Keeps M s0 s) : NextKeeps M s0 (execAxisStep a s) := by
  unfold execAxisStep
  repeat' with_reducible first
    | assumption | intro _ | lift_lets | apply State.modAxis_keeps | apply State.axCount_keeps
      | apply State.emit_keeps | apply State.axFail_keeps | apply Keeps.ite | apply NextKeeps.ite
      | apply NextKeeps.next | fail_if_no_progress refine Keeps.upd rfl ?_ | split

theorem execObservedStep_keeps {M : Prop} {s0 s : State} (a : Axis) (neg : Bool)
    (hk : Keeps M s0 s) : NextKeeps M s0 (execObservedStep a neg s) := by
  unfold execObservedStep
  repeat' with_reducible first
    | assumption | apply State.axCount_keeps | apply State.modAxis_keeps | apply Keeps.ite | apply NextKeeps.ite
      | apply NextKeeps.next

theorem State.axCmd_keeps {M : Prop} {s0 s : State} (req : Req) (a : Axis) (role : Bool) (act : State → State) (hact : ∀ x0, Keeps M s0 x0 → Keeps M s0 (act x0))
    (hk : Keeps M s0 s) : Keeps M s0 (State.axCmd s req a role act) := by
  unfold State.axCmd
  repeat' with_reducible first
    | assumption | intro _ | lift_lets | apply hact | apply State.gate_keeps | apply State.errAt_keeps
      | apply State.errOpen_keeps | apply Keeps.ite

theorem State.axHome_keeps {M : Prop} {s0 s : State} (a : Axis) (hk : Keeps M s0 s) : Keeps M s0 (State.axHome s a) := by
  unfold State.axHome
  repeat' with_reducible first
    | assumption | apply State.errOpen_keeps | apply State.axBegin_keeps | apply State.axLimits_keeps
      | apply State.setAx_keeps | apply State.modAxis_keeps | apply Keeps.ite

theorem execAxHome_keeps {M : Prop} {s0 s : State} (req : Req) (a : Axis)
    (hk : Keeps M s0 s) : NextKeeps M s0 (execAxHome req a s) := by
  unfold execAxHome
  repeat' with_reducible first
    | assumption | intro _ | lift_lets | apply State.axCmd_keeps | apply State.axHome_keeps | apply Keeps.ite
      | apply NextKeeps.ite | apply NextKeeps.next

theorem State.axStop_keeps {M : Prop} {s0 s : State} (a : Axis) (hk : Keeps M s0 s) : Keeps M s0 (State.axStop s a) := by
  unfold State.axStop
  repeat' with_reducible first
    | assumption | apply State.setAx_keeps | apply State.modAxis_keeps | apply Keeps.ite

theorem execAxStop_keeps {M : Prop} {s0 s : State} (req : Req) (a : Axis)
    (hk : Keeps M s0 s) : NextKeeps M s0 (execAxStop req a s) := by
  unfold execAxStop
  repeat' with_reducible first
    | assumption | intro _ | lift_lets | apply State.axCmd_keeps | apply State.axStop_keeps | apply Keeps.ite
      | apply NextKeeps.ite | apply NextKeeps.next

theorem State.axEstop_keeps {M : Prop} {s0 s : State} (a : Axis) (hk : Keeps M s0 s) : Keeps M s0 (State.axEstop s a) := by
  unfold State.axEstop
  repeat' with_reducible first
    | assumption | apply State.setAx_keeps | apply State.axHalt_keeps | apply Keeps.ite

theorem execAxEstop_keeps {M : Prop} {s0 s : State} (req : Req) (a : Axis)
    (hk : Keeps M s0 s) : NextKeeps M s0 (execAxEstop req a s) := by
  unfold execAxEstop
  repeat' with_reducible first
    | assumption | intro _ | lift_lets | apply State.axCmd_keeps | apply State.axEstop_keeps | apply Keeps.ite
      | apply NextKeeps.ite | apply NextKeeps.next

theorem State.axClear_keeps {M : Prop} {s0 s : State} (a : Axis) (drvflt : Bool)
    (hk : Keeps M s0 s) : Keeps M s0 (State.axClear s a drvflt) := by
  unfold State.axClear
  repeat' with_reducible first
    | assumption | apply State.flag_keeps | apply State.errOpen_keeps | apply State.setFault_keeps
      | apply State.setAx_keeps | apply Keeps.ite

theorem execAxClear_keeps {M : Prop} {s0 s : State} (req : Req) (a : Axis) (drvflt : Bool)
    (hk : Keeps M s0 s) : NextKeeps M s0 (execAxClear req a drvflt s) := by
  unfold execAxClear
  repeat' with_reducible first
    | assumption | intro _ | lift_lets | apply State.axCmd_keeps | apply State.axClear_keeps | apply Keeps.ite
      | apply NextKeeps.ite | apply NextKeeps.next

theorem State.axSleep_keeps {M : Prop} {s0 s : State} (a : Axis) (hk : Keeps M s0 s) : Keeps M s0 (State.axSleep s a) := by
  unfold State.axSleep
  repeat' with_reducible first
    | assumption | apply State.raise_keeps | apply State.wr_keeps | apply Keeps.ite

theorem State.axAwake_keeps {M : Prop} {s0 s : State} (a : Axis) (hk : Keeps M s0 s) : Keeps M s0 (State.axAwake s a) := by
  unfold State.axAwake
  repeat' with_reducible first
    | assumption | intro _ | lift_lets | apply State.when_keeps | apply State.wr_keeps

theorem execAxSleep_keeps {M : Prop} {s0 s : State} (req : Req) (a : Axis)
    (hk : Keeps M s0 s) : NextKeeps M s0 (execAxSleep req a s) := by
  unfold execAxSleep
  repeat' with_reducible first
    | assumption | intro _ | lift_lets | apply State.axCmd_keeps | apply State.axSleep_keeps | apply Keeps.ite
      | apply NextKeeps.ite | apply NextKeeps.next

theorem execAxWake_keeps {M : Prop} {s0 s : State} (req : Req) (a : Axis)
    (hk : Keeps M s0 s) : NextKeeps M s0 (execAxWake req a s) := by
  unfold execAxWake
  repeat' with_reducible first
    | assumption | intro _ | lift_lets | apply State.axCmd_keeps | apply State.axAwake_keeps | apply Keeps.ite
      | apply NextKeeps.ite | apply NextKeeps.next

theorem State.axCmdWrite_keeps {M : Prop} {s0 s : State} (req : Req) (a : Axis) (data : Nat)
    (hk : Keeps M s0 s) : Keeps M s0 (State.axCmdWrite s req a data) := by
  unfold State.axCmdWrite
  repeat' with_reducible first
    | assumption | intro _ | lift_lets | apply State.errAt_keeps | apply State.errOpen_keeps | apply State.when_keeps
      | apply State.axHome_keeps | apply State.axStop_keeps | apply State.axEstop_keeps | apply State.axClear_keeps
      | apply State.axSleep_keeps | apply State.axAwake_keeps | apply Keeps.ite

theorem execLimitTrip_keeps {M : Prop} {s0 s : State} (a : Axis) (pos : Bool)
    (hk : Keeps M s0 s) : NextKeeps M s0 (execLimitTrip a pos s) := by
  unfold execLimitTrip
  repeat' with_reducible first
    | assumption | apply State.wr_keeps | apply State.axFail_keeps | apply State.raise_keeps | apply State.bump_keeps
      | apply State.modAxis_keeps | apply State.axHalt_keeps | apply State.setAx_keeps | apply Keeps.ite
      | apply NextKeeps.ite | apply NextKeeps.next

theorem execLimitRelease_keeps {M : Prop} {s0 s : State} (a : Axis) (pos : Bool)
    (hk : Keeps M s0 s) : NextKeeps M s0 (execLimitRelease a pos s) := by
  unfold execLimitRelease
  repeat' with_reducible first
    | assumption | apply State.wr_keeps | apply State.setAx_keeps | apply State.modAxis_keeps | apply Keeps.ite
      | apply NextKeeps.ite | apply NextKeeps.next

theorem execHomeEdge_keeps {M : Prop} {s0 s : State} (a : Axis) (since : BitVec 16)
    (hk : Keeps M s0 s) : NextKeeps M s0 (execHomeEdge a since s) := by
  unfold execHomeEdge
  repeat' with_reducible first
    | assumption | intro _ | lift_lets | apply State.when_keeps | apply State.wr_keeps | apply State.wrS_keeps
      | apply State.modAxis_keeps | apply Keeps.ite | apply NextKeeps.ite | apply NextKeeps.next

theorem execHomeRelease_keeps {M : Prop} {s0 s : State} (a : Axis)
    (hk : Keeps M s0 s) : NextKeeps M s0 (execHomeRelease a s) := by
  unfold execHomeRelease
  repeat' with_reducible first
    | assumption | intro _ | lift_lets | apply State.when_keeps | apply State.wr_keeps | apply State.modAxis_keeps
      | apply Keeps.ite | apply NextKeeps.ite | apply NextKeeps.next

theorem execDriverFault_keeps {M : Prop} {s0 s : State} (a : Axis) (pin : Bool)
    (hk : Keeps M s0 s) : NextKeeps M s0 (execDriverFault a pin s) := by
  unfold execDriverFault
  repeat' with_reducible first
    | assumption | intro _ | lift_lets | apply State.when_keeps | apply State.wr_keeps | apply State.axFail_keeps
      | apply State.raise_keeps | apply Keeps.ite | apply NextKeeps.ite | apply NextKeeps.next

theorem execAxisSleepTimeout_keeps {M : Prop} {s0 s : State} (a : Axis)
    (hk : Keeps M s0 s) : NextKeeps M s0 (execAxisSleepTimeout a s) := by
  unfold execAxisSleepTimeout
  repeat' with_reducible first
    | assumption | apply State.axSleep_keeps | apply Keeps.ite | apply NextKeeps.ite | apply NextKeeps.next

/-! ### Firing -/

theorem State.laneUe_keeps {M : Prop} {s0 s : State} (l : Lane) (u : SramUe)
    (hk : Keeps M s0 s) : Keeps M s0 (State.laneUe s l u) := by
  unfold State.laneUe
  repeat' with_reducible first
    | assumption | apply State.errOpen_keeps | apply State.bump_keeps | apply State.denSramUe_keeps
      | apply State.raise_keeps

theorem State.guards_keeps {M : Prop} {s0 s : State} (l : Lane) (tag : LineTag) (levels : List Nat) (set bank : Nat)
    (taint : Bool) (hk : Keeps M s0 s) : Keeps M s0 (State.guards s l tag levels set bank taint).1 :=
  State.when_keeps _ _ (State.bump_keeps _ _ _ _ (State.modLane_keeps _ _ hk)) fun _ h => State.bump_keeps _ _ _ _ h

theorem State.guards_kept {M : Prop} {s0 s t : State} {x : PrepLine} {l : Lane} {tag : LineTag} {levels : List Nat} {set bank : Nat} {taint : Bool}
    (he : State.guards s l tag levels set bank taint = (t, x)) (hk : Keeps M s0 s) : Keeps M s0 t := by
  have h := State.guards_keeps l tag levels set bank taint hk
  rw [he] at h
  exact h

theorem State.guardsPass_keeps {M : Prop} {s0 s : State} (l : Lane)
    (hk : Keeps M s0 s) : Keeps M s0 (State.guardsPass s l) := by
  unfold State.guardsPass
  repeat' with_reducible first
    | assumption | apply State.modLane_keeps

theorem State.takeBand_keeps {M : Prop} {s0 s : State} (l : Lane)
    (hk : Keeps M s0 s) : Keeps M s0 (State.takeBand s l) := by
  unfold State.takeBand
  repeat' with_reducible first
    | assumption | intro _ | lift_lets | apply State.when_keeps | apply State.wr_keeps | apply State.raise_keeps
      | apply State.flag_keeps | apply State.settleSoft_keeps | apply State.modLane_keeps

theorem execLinePrepare_keeps {M : Prop} {s0 s : State} (l : Lane) (ue : Option SramUe) (guardUe : Option SramUe)
    (hk : Keeps M s0 s) : NextKeeps M s0 (execLinePrepare l ue guardUe s) := by
  unfold execLinePrepare
  repeat' with_reducible first
    | assumption | apply State.modLane_keeps | apply State.laneUe_keeps | apply State.takeBand_keeps
      | apply State.guardsPass_keeps | apply Keeps.ite | apply NextKeeps.ite | apply NextKeeps.next
      | refine State.guards_kept (by assumption) ?_ | apply State.guards_keeps
      | fail_if_no_progress refine Keeps.upd rfl ?_ | split

theorem State.sendLine_keeps {M : Prop} {s0 s : State} (l : Lane) (bank : Nat) (set : Nat) (wl : Nat) (page : Nat) (spit : Bool) (levels : List Nat)
    (hk : Keeps M s0 s) : Keeps M s0 (State.sendLine s l bank set wl page spit levels) := by
  unfold State.sendLine
  repeat' with_reducible first
    | assumption | intro _ | lift_lets | apply State.when_keeps | apply State.emit_keeps | apply State.modLane_keeps
      | apply State.bump_keeps

theorem execLineFrameStart_keeps {M : Prop} {s0 s : State} (l : Lane)
    (hk : Keeps M s0 s) : NextKeeps M s0 (execLineFrameStart l s) := by
  unfold execLineFrameStart
  dsimp only [State.draw, id]
  repeat' with_reducible first
    | assumption | intro _ | apply State.sendLine_keeps | apply State.modLane_keeps | apply Keeps.ite
      | apply NextKeeps.ite | apply NextKeeps.next | fail_if_no_progress refine Keeps.upd rfl ?_ | split

theorem State.countFires_keeps {M : Prop} {s0 s : State} (l : Lane) (levels : List Nat)
    (hk : Keeps M s0 s) : Keeps M s0 (State.countFires s l levels) := by
  unfold State.countFires
  repeat' with_reducible first
    | assumption | intro _ | lift_lets | apply State.each_keeps | apply State.setWin_keeps | apply Keeps.ite

theorem State.sendFire_keeps {M : Prop} {s0 s : State} (l : Lane) (at_ : Nat) (seq : Nat) (tag : Option LineTag) (levels : List Nat)
    (hk : Keeps M s0 s) : Keeps M s0 (State.sendFire s l at_ seq tag levels) := by
  unfold State.sendFire
  repeat' with_reducible first
    | assumption | intro _ | lift_lets | apply State.when_keeps | apply State.modLane_keeps | apply State.emit_keeps
      | apply State.countFires_keeps | apply Keeps.ite | fail_if_no_progress refine Keeps.upd rfl ?_

theorem State.lineLost_keeps {M : Prop} {s0 s : State} (l : Lane) (tag : LineTag) (cause : Nat) (detail : Nat) (at_ : Nat)
    (hk : Keeps M s0 s) : Keeps M s0 (State.lineLost s l tag cause detail at_) := by
  unfold State.lineLost
  repeat' with_reducible first
    | assumption | apply State.modLane_keeps | apply State.spoilLine_keeps | apply Keeps.ite

theorem State.lineSkipped_keeps {M : Prop} {s0 s : State} (l : Lane) (tag : LineTag) (cause : Nat) (at_ : Nat)
    (hk : Keeps M s0 s) : Keeps M s0 (State.lineSkipped s l tag cause at_) := by
  unfold State.lineSkipped
  repeat' with_reducible first
    | assumption | apply State.raise_keeps | apply State.bump_keeps | apply State.lineLost_keeps

theorem State.lineReport_keeps {M : Prop} {s0 s : State} (l : Lane) (p : PrepLine) (at_ : Nat)
    (hk : Keeps M s0 s) : Keeps M s0 (State.lineReport s l p at_) := by
  unfold State.lineReport
  repeat' with_reducible first
    | assumption | intro _ | lift_lets | apply State.modLane_keeps | apply State.spoilLine_keeps
      | apply State.when_keeps | apply State.raise_keeps | apply State.flushRun_keeps | apply Keeps.ite

theorem State.lineFires_keeps {M : Prop} {s0 s : State} (l : Lane) (p : PrepLine) (at_ : Nat) (seq : Nat)
    (hk : Keeps M s0 s) : Keeps M s0 (State.lineFires s l p at_ seq) := by
  unfold State.lineFires
  repeat' with_reducible first
    | assumption | apply State.bump_keeps | apply State.sendFire_keeps | apply State.modLane_keeps
      | apply State.wr_keeps | apply State.setLane_keeps | apply State.lineReport_keeps | apply Keeps.ite
      | fail_if_no_progress refine Keeps.upd rfl ?_

theorem State.holdEnds_keeps {M : Prop} {s0 s : State} (l : Lane) (hk : Keeps M s0 s) : Keeps M s0 (State.holdEnds s l) := by
  unfold State.holdEnds
  exact State.modLane_keeps _ _ hk

theorem State.holdMirror_keeps {M : Prop} {s0 s : State} (l : Lane)
    (hk : Keeps M s0 s) : Keeps M s0 (State.holdMirror s l) := by
  unfold State.holdMirror
  repeat' with_reducible first
    | assumption | apply State.setLane_keeps | apply State.wr_keeps | apply State.holdEnds_keeps | apply Keeps.ite
      | apply State.draw_keeps | refine State.drawn_keeps (by assumption) ?_ | fail_if_no_progress refine Keeps.upd rfl ?_

theorem State.takeDue_keeps {M : Prop} {s0 s : State} (l : Lane) (d : Due) (hk : Keeps M s0 s) :
    Keeps M s0 (State.takeDue s l d).1 := by
  unfold State.takeDue
  dsimp only
  split
  · split
    · dsimp only
      exact State.modLane_keeps _ _ (State.modLane_keeps _ _ hk)
    · exact State.guardsPass_keeps _ (State.modLane_keeps _ _ hk)
  · exact State.guardsPass_keeps _ (State.modLane_keeps _ _ (State.modLane_keeps _ _ hk))

theorem State.takeDue_kept {M : Prop} {s0 s t : State} {x : Option PrepLine} {l : Lane} {d : Due}
    (he : State.takeDue s l d = (t, x)) (hk : Keeps M s0 s) : Keeps M s0 t := by
  have h := State.takeDue_keeps l d hk
  rw [he] at h
  exact h

theorem execFiringInstant_keeps {M : Prop} {s0 s : State} (l : Lane)
    (hk : Keeps M s0 s) : NextKeeps M s0 (execFiringInstant l s) := by
  unfold execFiringInstant
  dsimp only [State.draw, id]
  repeat' with_reducible first
    | assumption | intro _ | apply State.lineLost_keeps | apply State.when_keeps | apply State.emit_keeps
      | apply State.lineSkipped_keeps | apply State.lineFires_keeps | apply State.modLane_keeps
      | apply State.holdMirror_keeps | apply State.lanePassed_keeps | apply State.flushRun_keeps | apply Keeps.ite
      | apply NextKeeps.ite | apply NextKeeps.next | refine State.takeDue_kept (by assumption) ?_
      | apply State.takeDue_keeps | fail_if_no_progress refine Keeps.upd rfl ?_ | split

theorem State.takeTemp_keeps {M : Prop} {s0 s : State} (l : Lane) (t : BitVec 12)
    (hk : Keeps M s0 s) : Keeps M s0 (State.takeTemp s l t) := by
  unfold State.takeTemp
  repeat' with_reducible first
    | assumption | apply State.modLane_keeps | apply State.wr_keeps | apply State.enterHold_keeps
      | apply State.armNext_keeps | apply State.autoResume_keeps | apply Keeps.ite

theorem execTempLost_keeps {M : Prop} {s0 s : State} (l : Lane)
    (hk : Keeps M s0 s) : NextKeeps M s0 (execTempLost l s) := by
  unfold execTempLost
  repeat' with_reducible first
    | assumption | apply State.enterHold_keeps | apply Keeps.ite | apply NextKeeps.ite | apply NextKeeps.next

theorem State.seqResume_keeps {M : Prop} {s0 s : State} (l : Lane)
    (hk : Keeps M s0 s) : Keeps M s0 (State.seqResume s l) := by
  unfold State.seqResume
  repeat' with_reducible first
    | assumption | apply State.errOpen_keeps | apply State.raise_keeps | apply State.wr_keeps | apply State.holdEnds_keeps
      | apply State.laneRuns_keeps | apply State.armNext_keeps | apply State.setLane_keeps | apply Keeps.ite

theorem execSeqResume_keeps {M : Prop} {s0 s : State} (req : Req) (l : Lane)
    (hk : Keeps M s0 s) : NextKeeps M s0 (execSeqResume req l s) := by
  unfold execSeqResume
  repeat' with_reducible first
    | assumption | intro _ | lift_lets | apply State.command_keeps | apply State.seqResume_keeps | apply Keeps.ite
      | apply NextKeeps.ite | apply NextKeeps.next

theorem execGuardIdleExpiry_keeps {M : Prop} {s0 s : State} (l : Lane) (head : Bool)
    (hk : Keeps M s0 s) : NextKeeps M s0 (execGuardIdleExpiry l head s) := by
  unfold execGuardIdleExpiry
  repeat' with_reducible first
    | assumption | apply State.modLane_keeps | apply Keeps.ite | apply NextKeeps.ite | apply NextKeeps.next

theorem State.spitAbort_keeps {M : Prop} {s0 s : State} (hk : Keeps M s0 s) : Keeps M s0 (State.spitAbort s) := by
  unfold State.spitAbort
  repeat' with_reducible first
    | assumption | intro _ | lift_lets | apply State.each_keeps | apply State.modLane_keeps | apply State.raise_keeps
      | apply State.bump_keeps | apply Keeps.ite | fail_if_no_progress refine Keeps.upd rfl ?_ | split

theorem State.spitLine_keeps {M : Prop} {s0 s : State} (l : Lane)
    (hk : Keeps M s0 s) : Keeps M s0 (State.spitLine s l) := by
  unfold State.spitLine
  repeat' with_reducible first
    | assumption | apply State.takeBand_keeps | apply State.sendFire_keeps | apply State.sendLine_keeps
      | apply Keeps.ite | refine State.guards_kept (by assumption) ?_ | apply State.guards_keeps

/-! ### Bands -/

theorem State.modTile_keeps {M : Prop} {s0 s : State} (k : TileKey) (f : Tile → Tile)
    (hk : Keeps M s0 s) : Keeps M s0 (State.modTile s k f) := by
  unfold State.modTile
  repeat' with_reducible first
    | assumption | apply Keeps.ite | fail_if_no_progress refine Keeps.upd rfl ?_

theorem State.modInFlight_keeps {M : Prop} {s0 s : State} (k : TileKey) (f : Tile → Tile)
    (hk : Keeps M s0 s) : Keeps M s0 (State.modInFlight s k f) := by
  unfold State.modInFlight
  repeat' with_reducible first
    | assumption | apply Keeps.ite | fail_if_no_progress refine Keeps.upd rfl ?_

theorem State.setDecoder_keeps {M : Prop} {s0 s : State} (d : Fin 16) (j : Option DecJob)
    (hk : Keeps M s0 s) : Keeps M s0 (State.setDecoder s d j) := by
  unfold State.setDecoder
  repeat' with_reducible first
    | assumption | apply State.settleCodec_keeps | apply Keeps.ite | fail_if_no_progress refine Keeps.upd rfl ?_

theorem State.setEncoder_keeps {M : Prop} {s0 s : State} (e : Fin 12) (u : EncUser)
    (hk : Keeps M s0 s) : Keeps M s0 (State.setEncoder s e u) := by
  unfold State.setEncoder
  repeat' with_reducible first
    | assumption | apply State.settleCodec_keeps | apply Keeps.ite | fail_if_no_progress refine Keeps.upd rfl ?_

theorem State.tileLost_keeps {M : Prop} {s0 s : State} (k : TileKey) (cqe : Cqe)
    (hk : Keeps M s0 s) : Keeps M s0 (State.tileLost s k cqe) := by
  unfold State.tileLost
  repeat' with_reducible first
    | assumption | apply State.pushCqe_keeps | apply State.settleCredit_keeps | apply State.settleTags_keeps
      | apply State.settleCodec_keeps | apply State.dmaOver_keeps | apply Keeps.ite
      | fail_if_no_progress refine Keeps.upd rfl ?_

theorem State.flightFail_keeps {M : Prop} {s0 s : State} (t : Tile) (nn : Nat)
    (hk : Keeps M s0 s) : Keeps M s0 (State.flightFail s t nn) := by
  unfold State.flightFail
  repeat' with_reducible first
    | assumption | apply State.tileLost_keeps | apply State.errOpen_keeps

/-! ### Intake -/

theorem State.settleReserve_keeps {M : Prop} {s0 s : State} (hk : Keeps M s0 s) : Keeps M s0 (State.settleReserve s) := by
  unfold State.settleReserve
  repeat' with_reducible first
    | assumption | intro _ | lift_lets | apply State.when_keeps | apply State.raise_keeps | apply Keeps.ite
      | fail_if_no_progress refine Keeps.upd rfl ?_

theorem execCompletionWrite_keeps {M : Prop} {s0 s : State}
    (hk : Keeps M s0 s) : NextKeeps M s0 (execCompletionWrite s) := by
  unfold execCompletionWrite
  dsimp only [State.draw, id]
  repeat' with_reducible first
    | assumption | intro _ | apply State.emit_keeps | apply State.bump_keeps | apply State.wr_keeps
      | apply State.modTile_keeps | apply State.raise_keeps | apply State.settleReserve_keeps | apply Keeps.ite
      | apply NextKeeps.ite | apply NextKeeps.next | fail_if_no_progress refine Keeps.upd rfl ?_ | split

theorem execCqTimerExpiry_keeps {M : Prop} {s0 s : State} (hk : Keeps M s0 s) : NextKeeps M s0 (execCqTimerExpiry s) := by
  unfold execCqTimerExpiry
  repeat' with_reducible first
    | assumption | apply State.raise_keeps | apply Keeps.ite | apply NextKeeps.ite | apply NextKeeps.next
      | fail_if_no_progress refine Keeps.upd rfl ?_

theorem execPcieLinkUp_keeps {M : Prop} {s0 s : State} (speed : BitVec 4) (width : BitVec 6) (rev : Bool)
    (hk : Keeps M s0 s) : NextKeeps M s0 (execPcieLinkUp speed width rev s) := by
  unfold execPcieLinkUp
  repeat' with_reducible first
    | assumption | apply State.wr_keeps | apply State.flag_keeps | apply State.raise_keeps | apply Keeps.ite
      | apply NextKeeps.ite | apply NextKeeps.next | fail_if_no_progress refine Keeps.upd rfl ?_

theorem State.linkGone_keeps {M : Prop} {s0 s : State} (hk : Keeps M s0 s) : Keeps M s0 (State.linkGone s) := by
  unfold State.linkGone
  repeat' with_reducible first
    | assumption | intro _ | lift_lets | apply State.each_keeps | apply State.flightFail_keeps | apply State.wr_keeps
      | apply Keeps.ite | fail_if_no_progress refine Keeps.upd rfl ?_

theorem execPcieLinkDown_keeps {M : Prop} {s0 s : State} (hk : Keeps M s0 s) : NextKeeps M s0 (execPcieLinkDown s) := by
  unfold execPcieLinkDown
  repeat' with_reducible first
    | assumption | apply State.linkGone_keeps | apply State.raise_keeps | apply State.wr_keeps | apply Keeps.ite
      | apply NextKeeps.ite | apply NextKeeps.next | fail_if_no_progress refine Keeps.upd rfl ?_

theorem execD3hotEntry_keeps {M : Prop} {s0 s : State} (hk : Keeps M s0 s) : NextKeeps M s0 (execD3hotEntry s) := by
  unfold execD3hotEntry
  repeat' with_reducible first
    | assumption | apply Keeps.ite | apply NextKeeps.ite | apply NextKeeps.next
      | fail_if_no_progress refine Keeps.upd rfl ?_

theorem execD0Return_keeps {M : Prop} {s0 s : State} (hk : Keeps M s0 s) : NextKeeps M s0 (execD0Return s) := by
  unfold execD0Return
  repeat' with_reducible first
    | assumption | apply Keeps.ite | apply NextKeeps.ite | apply NextKeeps.next
      | fail_if_no_progress refine Keeps.upd rfl ?_

theorem State.hostUr_keeps {M : Prop} {s0 s : State} (hk : Keeps M s0 s) : Keeps M s0 (State.hostUr s) := by
  unfold State.hostUr
  repeat' with_reducible first
    | assumption | apply State.raise_keeps | apply Keeps.ite | fail_if_no_progress refine Keeps.upd rfl ?_

theorem State.windowRefuse_keeps {M : Prop} {s0 s : State} (len : Nat)
    (hk : Keeps M s0 s) : Keeps M s0 (State.windowRefuse s len) := by
  unfold State.windowRefuse
  repeat' with_reducible first
    | assumption | apply State.hostUr_keeps | apply Keeps.ite | fail_if_no_progress refine Keeps.upd rfl ?_

theorem State.windowRead_keeps {M : Prop} {s0 s : State} (w : WindowReq)
    (hk : Keeps M s0 s) : Keeps M s0 (State.windowRead s w) := by
  unfold State.windowRead
  repeat' with_reducible first
    | assumption | intro _ | lift_lets | apply State.each_keeps | apply State.ddrUe_keeps | apply Keeps.ite
      | fail_if_no_progress refine Keeps.upd rfl ?_

theorem State.windowStore_keeps {M : Prop} {s0 s : State} (w : WindowReq) (l : List Byte) (hM : M)
    (hk : Keeps M s0 s) : Keeps M s0 (State.windowStore s w l) := by
  unfold State.windowStore
  repeat' with_reducible first
    | assumption | intro _ | lift_lets | apply State.each_keeps | apply State.burstWrite_keeps

theorem State.windowServe_keeps {M : Prop} {s0 s : State} (w : WindowReq) (hM : M)
    (hk : Keeps M s0 s) : Keeps M s0 (State.windowServe s w) := by
  unfold State.windowServe
  repeat' with_reducible first
    | assumption | apply State.windowRead_keeps | apply State.windowStore_keeps | apply Keeps.ite
      | fail_if_no_progress refine Keeps.upd rfl ?_ | split

theorem State.windowDrain_keeps {M : Prop} {s0 s : State} (hM : M)
    (hk : Keeps M s0 s) : Keeps M s0 (State.windowDrain s) := by
  unfold State.windowDrain
  repeat' with_reducible first
    | assumption | intro _ | lift_lets | apply State.each_keeps | apply State.windowServe_keeps | apply Keeps.ite
      | fail_if_no_progress refine Keeps.upd rfl ?_

theorem State.windowAccess_keeps {M : Prop} {s0 s : State} (w : WindowReq) (hM : M)
    (hk : Keeps M s0 s) : Keeps M s0 (State.windowAccess s w) := by
  unfold State.windowAccess
  repeat' with_reducible first
    | assumption | (intro x; first | subst x | skip) | lift_lets | apply State.when_keeps | apply State.errOpen_keeps
      | apply State.windowRefuse_keeps | apply State.err_keeps | apply State.hostUr_keeps | apply State.portWake_keeps
      | apply State.windowServe_keeps | apply Keeps.ite | fail_if_no_progress refine Keeps.upd rfl ?_ | split

theorem execBar2Read_keeps {M : Prop} {s0 s : State} (addr : BitVec 36) (len : BitVec 13) (ue : Option (BitVec 36 × BitVec 5)) (hM : M)
    (hk : Keeps M s0 s) : NextKeeps M s0 (execBar2Read addr len ue s) := by
  unfold execBar2Read
  repeat' with_reducible first
    | assumption | apply State.hostUr_keeps | apply State.windowAccess_keeps | apply Keeps.ite | apply NextKeeps.ite
      | apply NextKeeps.next

theorem execBar2Write_keeps {M : Prop} {s0 s : State} (addr : BitVec 36) (data : List Byte) (poisoned : Bool) (hM : M)
    (hk : Keeps M s0 s) : NextKeeps M s0 (execBar2Write addr data poisoned s) := by
  unfold execBar2Write
  repeat' with_reducible first
    | assumption | intro _ | lift_lets | apply State.windowAccess_keeps | apply State.when_keeps
      | apply State.raise_keeps | apply Keeps.ite | apply NextKeeps.ite | apply NextKeeps.next

theorem State.ringDb_keeps {M : Prop} {s0 s : State} (r : Fin 10) (v : BitVec 16)
    (hk : Keeps M s0 s) : Keeps M s0 (State.ringDb s r v) := by
  unfold State.ringDb
  repeat' with_reducible first
    | assumption | apply State.errOpen_keeps | apply State.wr_keeps | apply State.settleReserve_keeps
      | apply Keeps.ite

theorem execRingDoorbell_keeps {M : Prop} {s0 s : State} (req : Req) (r : Fin 10) (v : BitVec 16)
    (hk : Keeps M s0 s) : NextKeeps M s0 (execRingDoorbell req r v s) := by
  unfold execRingDoorbell
  repeat' with_reducible first
    | assumption | intro _ | lift_lets | apply State.gate_keeps | apply State.ringDb_keeps | apply Keeps.ite
      | apply NextKeeps.ite | apply NextKeeps.next

theorem State.ringOn_keeps {M : Prop} {s0 s : State} (r : Fin 10) (hk : Keeps M s0 s) : Keeps M s0 (State.ringOn s r) := by
  unfold State.ringOn
  repeat' with_reducible first
    | assumption | apply State.wr_keeps | apply State.settleReserve_keeps | apply Keeps.ite

theorem execRingEnable_keeps {M : Prop} {s0 s : State} (req : Req) (r : Fin 10)
    (hk : Keeps M s0 s) : NextKeeps M s0 (execRingEnable req r s) := by
  unfold execRingEnable
  repeat' with_reducible first
    | assumption | intro _ | lift_lets | apply State.gate_keeps | apply State.ringOn_keeps | apply Keeps.ite
      | apply NextKeeps.ite | apply NextKeeps.next

theorem State.ringOff_keeps {M : Prop} {s0 s : State} (r : Fin 10)
    (hk : Keeps M s0 s) : Keeps M s0 (State.ringOff s r) := by
  unfold State.ringOff
  repeat' with_reducible first
    | assumption | apply State.wr_keeps | apply Keeps.ite

theorem execRingDisable_keeps {M : Prop} {s0 s : State} (req : Req) (r : Fin 10)
    (hk : Keeps M s0 s) : NextKeeps M s0 (execRingDisable req r s) := by
  unfold execRingDisable
  repeat' with_reducible first
    | assumption | intro _ | lift_lets | apply State.gate_keeps | apply State.ringOff_keeps | apply Keeps.ite
      | apply NextKeeps.ite | apply NextKeeps.next

theorem execRingStopped_keeps {M : Prop} {s0 s : State} (r : Fin 10)
    (hk : Keeps M s0 s) : NextKeeps M s0 (execRingStopped r s) := by
  unfold execRingStopped
  repeat' with_reducible first
    | assumption | apply State.wr_keeps | apply Keeps.ite | apply NextKeeps.ite | apply NextKeeps.next

theorem State.ringReset_keeps {M : Prop} {s0 s : State} (r : Fin 10)
    (hk : Keeps M s0 s) : Keeps M s0 (State.ringReset s r) := by
  unfold State.ringReset
  repeat' with_reducible first
    | assumption | apply State.errOpen_keeps | apply State.wr_keeps | apply State.settleReserve_keeps
      | apply Keeps.ite | fail_if_no_progress refine Keeps.upd rfl ?_

theorem execRingReset_keeps {M : Prop} {s0 s : State} (req : Req) (r : Fin 10)
    (hk : Keeps M s0 s) : NextKeeps M s0 (execRingReset req r s) := by
  unfold execRingReset
  repeat' with_reducible first
    | assumption | intro _ | lift_lets | apply State.gate_keeps | apply State.ringReset_keeps | apply Keeps.ite
      | apply NextKeeps.ite | apply NextKeeps.next

theorem State.heapWrite_keeps {M : Prop} {s0 s : State} (req : Req) (isSize : Bool) (mib : BitVec 16)
    (hk : Keeps M s0 s) : Keeps M s0 (State.heapWrite s req isSize mib) := by
  unfold State.heapWrite
  repeat' with_reducible first
    | assumption | apply State.errOpen_keeps | apply State.errAt_keeps | apply State.settleCredit_keeps
      | apply State.wr_keeps | apply Keeps.ite

theorem execHeapConfigWrite_keeps {M : Prop} {s0 s : State} (req : Req) (isSize : Bool) (mib : BitVec 16)
    (hk : Keeps M s0 s) : NextKeeps M s0 (execHeapConfigWrite req isSize mib s) := by
  unfold execHeapConfigWrite
  repeat' with_reducible first
    | assumption | intro _ | lift_lets | apply State.gate_keeps | apply State.heapWrite_keeps | apply Keeps.ite
      | apply NextKeeps.ite | apply NextKeeps.next

theorem State.modRing_keeps {M : Prop} {s0 s : State} (r : Nat) (f : RingSt → RingSt)
    (hk : Keeps M s0 s) : Keeps M s0 (State.modRing s r f) := by
  unfold State.modRing
  repeat' with_reducible first
    | assumption | apply Keeps.ite | fail_if_no_progress refine Keeps.upd rfl ?_

theorem execDescriptorFetch_keeps {M : Prop} {s0 s : State} (r : Fin 9)
    (hk : Keeps M s0 s) : NextKeeps M s0 (execDescriptorFetch r s) := by
  unfold execDescriptorFetch
  repeat' with_reducible first
    | assumption | apply State.modRing_keeps | apply State.dmaStart_keeps | apply Keeps.ite | apply NextKeeps.ite
      | apply NextKeeps.next | fail_if_no_progress refine Keeps.upd rfl ?_

theorem State.entryFail_keeps {M : Prop} {s0 s : State} (r : Nat) (e : BitVec 512) (nn : Nat)
    (hk : Keeps M s0 s) : Keeps M s0 (State.entryFail s r e nn) := by
  unfold State.entryFail
  repeat' with_reducible first
    | assumption | apply State.ringAdvance_keeps | apply State.tileFail_keeps

theorem State.tileChecks_keeps {M : Prop} {s0 s : State} (r : Nat) (e : BitVec 512) (p : PageSt)
    (hk : Keeps M s0 s) : Keeps M s0 (State.tileChecks s r e p) := by
  unfold State.tileChecks
  repeat' with_reducible first
    | assumption | intro _ | lift_lets | apply State.entryFail_keeps | apply State.when_keeps
      | apply State.modTile_keeps | apply State.modRing_keeps | apply Keeps.ite
      | fail_if_no_progress refine Keeps.upd rfl ?_

theorem State.ringCheck_keeps {M : Prop} {s0 s : State} (r : Nat)
    (hk : Keeps M s0 s) : Keeps M s0 (State.ringCheck s r) := by
  unfold State.ringCheck
  repeat' with_reducible first
    | assumption | intro _ | lift_lets | apply State.entryFail_keeps | apply State.raise_keeps
      | apply State.modRing_keeps | apply State.tileChecks_keeps | apply Keeps.ite
      | fail_if_no_progress refine Keeps.upd rfl ?_ | split

theorem State.recheck_keeps {M : Prop} {s0 s : State} (hk : Keeps M s0 s) : Keeps M s0 (State.recheck s) := by
  unfold State.recheck
  repeat' with_reducible first
    | assumption | apply State.each_keeps | apply State.ringCheck_keeps

theorem execTileDescriptor_keeps {M : Prop} {s0 s : State} (r : Fin 8) (entry : BitVec 512)
    (hk : Keeps M s0 s) : NextKeeps M s0 (execTileDescriptor r entry s) := by
  unfold execTileDescriptor
  repeat' with_reducible first
    | assumption | apply State.ringCheck_keeps | apply State.modRing_keeps | apply State.dmaOver_keeps
      | apply Keeps.ite | apply NextKeeps.ite | apply NextKeeps.next

theorem State.takeGranules_keeps {M : Prop} {s0 s : State} (n : Nat) (hk : Keeps M s0 s) :
    Keeps M s0 (State.takeGranules s n).2 := State.draw_keeps hk

theorem State.takeGranules_kept {M : Prop} {s0 s t : State} {x : List Nat} {n : Nat}
    (he : State.takeGranules s n = (x, t)) (hk : Keeps M s0 s) : Keeps M s0 t := by
  have h := State.takeGranules_keeps n hk
  rw [he] at h
  exact h

theorem execTileAllocate_keeps {M : Prop} {s0 s : State} (r : Fin 8)
    (hk : Keeps M s0 s) : NextKeeps M s0 (execTileAllocate r s) := by
  unfold execTileAllocate
  repeat' with_reducible first
    | assumption | apply State.dmaStart_keeps | apply State.ringAdvance_keeps | apply State.settleCredit_keeps
      | apply Keeps.ite | apply NextKeeps.ite | apply NextKeeps.next
      | refine State.takeGranules_kept (by assumption) ?_ | apply State.takeGranules_keeps
      | fail_if_no_progress refine Keeps.upd rfl ?_ | split

theorem execScwHeaderCheck_keeps {M : Prop} {s0 s : State} (key : TileKey) (hdr : BitVec 128)
    (hk : Keeps M s0 s) : NextKeeps M s0 (execScwHeaderCheck key hdr s) := by
  unfold execScwHeaderCheck
  repeat' with_reducible first
    | assumption | apply State.flightFail_keeps | apply Keeps.ite | apply NextKeeps.ite | apply NextKeeps.next
      | fail_if_no_progress refine Keeps.upd rfl ?_ | split

theorem State.tileLands_keeps {M : Prop} {s0 s : State} (t : Tile) (bytes : List Nat) (isStream : Bool) (status : Nat) (info : Nat) (crc : Nat) (hM : M)
    (hk : Keeps M s0 s) : Keeps M s0 (State.tileLands s t bytes isStream status info crc) := by
  unfold State.tileLands
  repeat' with_reducible first
    | assumption | intro _ | lift_lets | apply State.tileStore_keeps | apply State.pushCqe_keeps
      | apply State.settleCredit_keeps | apply State.when_keeps | apply State.errOpen_keeps | apply Keeps.ite
      | fail_if_no_progress refine Keeps.upd rfl ?_

theorem execTileLanded_keeps {M : Prop} {s0 s : State} (key : TileKey) (data : List Byte) (hM : M)
    (hk : Keeps M s0 s) : NextKeeps M s0 (execTileLanded key data s) := by
  unfold execTileLanded
  repeat' with_reducible first
    | assumption | apply State.flightFail_keeps | apply State.portWake_keeps | apply State.tileLands_keeps
      | apply State.dmaOver_keeps | apply Keeps.ite | apply NextKeeps.ite | apply NextKeeps.next
      | fail_if_no_progress refine Keeps.upd rfl ?_ | split

theorem State.aerMaybe_keeps {M : Prop} {s0 s : State} (hk : Keeps M s0 s) : Keeps M s0 (State.aerMaybe s) := by
  unfold State.aerMaybe
  repeat' with_reducible first
    | assumption | intro _ | lift_lets | apply State.when_keeps | apply State.raise_keeps | apply Keeps.ite
      | apply State.draw_keeps

theorem execDmaError_keeps {M : Prop} {s0 s : State} (target : DmaTarget)
    (hk : Keeps M s0 s) : NextKeeps M s0 (execDmaError target s) := by
  unfold execDmaError
  repeat' with_reducible first
    | assumption | apply State.modRing_keeps | apply State.dmaOver_keeps | apply State.aerMaybe_keeps
      | apply State.errOpen_keeps | apply State.wr_keeps | apply State.raise_keeps | apply State.flightFail_keeps
      | apply State.pushCqe_keeps | apply Keeps.ite | apply NextKeeps.ite | apply NextKeeps.next
      | fail_if_no_progress refine Keeps.upd rfl ?_ | split

theorem State.admin_keeps {M : Prop} {s0 s : State} (op : Nat) (e : BitVec 512) (act : State → State) (hact : ∀ x0, Keeps M s0 x0 → Keeps M s0 (act x0))
    (hk : Keeps M s0 s) : Keeps M s0 (State.admin s op e act) := by
  unfold State.admin
  repeat' with_reducible first
    | assumption | apply hact | apply State.dmaOver_keeps | apply State.modRing_keeps | apply State.ringAdvance_keeps
      | apply State.pushCqe_keeps | apply State.errOpen_keeps | apply Keeps.ite

theorem State.adminFail_keeps {M : Prop} {s0 s : State} (nn : Nat)
    (hk : Keeps M s0 s) : Keeps M s0 (State.adminFail s nn) := by
  unfold State.adminFail
  repeat' with_reducible first
    | assumption | apply State.pushCqe_keeps | apply State.errOpen_keeps

theorem State.awlPageAbort_keeps {M : Prop} {s0 s : State} (planes : Nat)
    (hk : Keeps M s0 s) : Keeps M s0 (State.awlPageAbort s planes) := by
  unfold State.awlPageAbort
  repeat' with_reducible first
    | assumption | intro _ | lift_lets | apply State.each_keeps | apply State.awlAborted_keeps
      | apply State.setLane_keeps | apply State.queueCtrl_keeps | apply Keeps.ite

theorem State.pageAccept_keeps {M : Prop} {s0 s : State} (d : PageDesc)
    (hk : Keeps M s0 s) : Keeps M s0 (State.pageAccept s d) := by
  unfold State.pageAccept
  repeat' with_reducible first
    | assumption | apply State.pushCqe_keeps | apply State.armNext_keeps | apply State.settlePages_keeps
      | apply State.raise_keeps | apply Keeps.ite | fail_if_no_progress refine Keeps.upd rfl ?_

theorem State.openReject_keeps {M : Prop} {s0 s : State} (id : Nat) (status : Nat)
    (hk : Keeps M s0 s) : Keeps M s0 (State.openReject s id status) := by
  unfold State.openReject
  repeat' with_reducible first
    | assumption | apply State.pushCqe_keeps

theorem execPageOpen_keeps {M : Prop} {s0 s : State} (entry : BitVec 512)
    (hk : Keeps M s0 s) : NextKeeps M s0 (execPageOpen entry s) := by
  unfold execPageOpen
  repeat' with_reducible first
    | assumption | intro _ | lift_lets | apply State.admin_keeps | apply State.openReject_keeps
      | apply State.err_keeps | apply State.errOpen_keeps | apply State.awlPageAbort_keeps | apply State.raise_keeps
      | apply State.recheck_keeps | apply State.pageAccept_keeps | apply Keeps.ite | apply NextKeeps.ite
      | apply NextKeeps.next | fail_if_no_progress refine Keeps.upd rfl ?_ | split

theorem execPageCancel_keeps {M : Prop} {s0 s : State} (entry : BitVec 512)
    (hk : Keeps M s0 s) : NextKeeps M s0 (execPageCancel entry s) := by
  unfold execPageCancel
  repeat' with_reducible first
    | assumption | intro _ | lift_lets | apply State.admin_keeps | apply State.adminFail_keeps
      | apply State.pushCqe_keeps | apply State.modPage_keeps | apply Keeps.ite | apply NextKeeps.ite
      | apply NextKeeps.next | fail_if_no_progress refine Keeps.upd rfl ?_ | split

theorem execNop_keeps {M : Prop} {s0 s : State} (entry : BitVec 512)
    (hk : Keeps M s0 s) : NextKeeps M s0 (execNop entry s) := by
  unfold execNop
  repeat' with_reducible first
    | assumption | intro _ | lift_lets | apply State.admin_keeps | apply State.adminFail_keeps
      | apply State.pushCqe_keeps | apply Keeps.ite | apply NextKeeps.ite | apply NextKeeps.next

/-! ### SpoilRing -/

theorem execSpoilRunFlush_keeps {M : Prop} {s0 s : State} (l : Lane) (after : Bool)
    (hk : Keeps M s0 s) : NextKeeps M s0 (execSpoilRunFlush l after s) := by
  unfold execSpoilRunFlush
  repeat' with_reducible first
    | assumption | apply State.flushRun_keeps | apply Keeps.ite | apply NextKeeps.ite | apply NextKeeps.next

theorem execSpoilRecordWrite_keeps {M : Prop} {s0 s : State}
    (hk : Keeps M s0 s) : NextKeeps M s0 (execSpoilRecordWrite s) := by
  unfold execSpoilRecordWrite
  repeat' with_reducible first
    | assumption | apply State.recordOut_keeps | apply Keeps.ite | apply NextKeeps.ite | apply NextKeeps.next
      | fail_if_no_progress refine Keeps.upd rfl ?_ | split

theorem State.overflowOut_keeps {M : Prop} {s0 s : State} (hk : Keeps M s0 s) : Keeps M s0 (State.overflowOut s) := by
  unfold State.overflowOut
  repeat' with_reducible first
    | assumption | apply State.recordOut_keeps | apply Keeps.ite | fail_if_no_progress refine Keeps.upd rfl ?_ | split

theorem State.overflowDone_keeps {M : Prop} {s0 s : State} (o : SpoilRec)
    (hk : Keeps M s0 s) : Keeps M s0 (State.overflowDone s o) := by
  unfold State.overflowDone
  repeat' with_reducible first
    | assumption | apply State.raise_keeps | apply State.flag_keeps | apply State.denHw_keeps | apply State.each_keeps
      | apply State.autoResume_keeps

theorem State.spoilLanded_keeps {M : Prop} {s0 s : State} (r : SpoilRec) (seq : Nat) (rest : List (SpoilRec × Nat)) (hM : M)
    (hk : Keeps M s0 s) : Keeps M s0 (State.spoilLanded s r seq rest) := by
  unfold State.spoilLanded
  repeat' with_reducible first
    | assumption | apply State.portWrite_keeps | apply State.bump_keeps | apply State.wr_keeps | apply Keeps.ite
      | fail_if_no_progress refine Keeps.upd rfl ?_

theorem State.spoilSignal_keeps {M : Prop} {s0 s : State} (hk : Keeps M s0 s) : Keeps M s0 (State.spoilSignal s) := by
  unfold State.spoilSignal
  repeat' with_reducible first
    | assumption | apply State.raise_keeps | apply Keeps.ite | fail_if_no_progress refine Keeps.upd rfl ?_

theorem execSpoilWriteAck_keeps {M : Prop} {s0 s : State} (hM : M)
    (hk : Keeps M s0 s) : NextKeeps M s0 (execSpoilWriteAck s) := by
  unfold execSpoilWriteAck
  repeat' with_reducible first
    | assumption | intro _ | lift_lets | apply State.spoilSignal_keeps | apply State.spoilLanded_keeps
      | apply State.when_keeps | apply State.raise_keeps | apply State.overflowDone_keeps | apply Keeps.ite
      | apply NextKeeps.ite | apply NextKeeps.next | fail_if_no_progress refine Keeps.upd rfl ?_ | split

theorem State.spoilDb_keeps {M : Prop} {s0 s : State} (v : Word) (hk : Keeps M s0 s) : Keeps M s0 (State.spoilDb s v) := by
  unfold State.spoilDb
  repeat' with_reducible first
    | assumption | apply State.errOpen_keeps | apply State.overflowOut_keeps | apply State.wr_keeps | apply Keeps.ite

theorem execSpoilDoorbell_keeps {M : Prop} {s0 s : State} (req : Req) (v : Word)
    (hk : Keeps M s0 s) : NextKeeps M s0 (execSpoilDoorbell req v s) := by
  unfold execSpoilDoorbell
  repeat' with_reducible first
    | assumption | intro _ | lift_lets | apply State.gate_keeps | apply State.spoilDb_keeps | apply Keeps.ite
      | apply NextKeeps.ite | apply NextKeeps.next

end Sys2Proof.Machine
end

