-- ==== Sys2Proof/Laws/KeepsLinks.lean ====
section
/-! SUPPORT. What `Keeps` says, for each operation and each meaning of pair roles, head links, self-test, Awl, time,
calibration and the pair link. -/

namespace Sys2Proof.Machine

/-! ### Roles -/

theorem State.setEpoch_keeps {M : Prop} {s0 s : State} (e : Nat) (hk : Keeps M s0 s) : Keeps M s0 (State.setEpoch s e) := by
  unfold State.setEpoch
  repeat' with_reducible first
    | assumption | intro _ | lift_lets | apply State.wr_keeps | apply State.each_keeps | apply State.queueCtrl_keeps

theorem State.setRole_keeps {M : Prop} {s0 s : State} (r : Role) (hk : Keeps M s0 s) : Keeps M s0 (State.setRole s r) := by
  unfold State.setRole
  repeat' with_reducible first
    | assumption | apply State.setPage_keeps | apply State.flag_keeps | apply Keeps.ite
      | fail_if_no_progress refine Keeps.upd rfl ?_

theorem State.axObserve_keeps {M : Prop} {s0 s : State} (a : Axis)
    (hk : Keeps M s0 s) : Keeps M s0 (State.axObserve s a) := by
  unfold State.axObserve
  repeat' with_reducible first
    | assumption | apply State.modAxis_keeps | apply State.axHalt_keeps | apply State.setAx_keeps | apply Keeps.ite

theorem State.axUnobserve_keeps {M : Prop} {s0 s : State} (a : Axis)
    (hk : Keeps M s0 s) : Keeps M s0 (State.axUnobserve s a) := by
  unfold State.axUnobserve
  repeat' with_reducible first
    | assumption | apply State.setAx_keeps | apply Keeps.ite

theorem State.axPromote_keeps {M : Prop} {s0 s : State} (a : Axis) (hk : Keeps M s0 s) :
    Keeps M s0 (State.axPromote s a) := by
  unfold State.axPromote
  rcases s.axes[a].seen with _ | ⟨t, _ | gap, neg⟩ <;> dsimp only
  · exact Keeps.ite (State.setAx_keeps _ _ hk) hk
  · exact Keeps.ite (State.setAx_keeps _ _ hk) hk
  · exact Keeps.ite (Keeps.ite (State.setAx_keeps _ _ (State.axReport_keeps _ _ (State.axBegin_keeps _
      (State.axLimits_keeps _ (State.modAxis_keeps _ _ hk))))) (State.setAx_keeps _ _ hk)) hk

theorem State.enterLead_keeps {M : Prop} {s0 s : State} (hk : Keeps M s0 s) : Keeps M s0 (State.enterLead s) := by
  unfold State.enterLead
  repeat' with_reducible first
    | assumption | apply State.setRole_keeps | apply State.setEpoch_keeps

theorem State.enterShadow_keeps {M : Prop} {s0 s : State} (hk : Keeps M s0 s) : Keeps M s0 (State.enterShadow s) := by
  unfold State.enterShadow
  repeat' with_reducible first
    | assumption | apply State.setRole_keeps | apply State.wr_keeps | apply State.slowFall_keeps
      | apply State.each_keeps | apply State.axObserve_keeps

theorem State.enterSolo_keeps {M : Prop} {s0 s : State} (hk : Keeps M s0 s) : Keeps M s0 (State.enterSolo s) := by
  unfold State.enterSolo
  repeat' with_reducible first
    | assumption | apply State.settleSlow_keeps | apply State.each_keeps | apply State.setRole_keeps
      | apply State.axUnobserve_keeps

theorem State.takeover_keeps {M : Prop} {s0 s : State} (l : Lane)
    (hk : Keeps M s0 s) : Keeps M s0 (State.takeover s l) := by
  unfold State.takeover
  repeat' with_reducible first
    | assumption | intro _ | lift_lets | apply State.modLane_keeps | apply State.each_keeps
      | apply State.spoilLine_keeps

theorem State.denTakeover_keeps {M : Prop} {s0 s : State} (cause : Nat) (old : Nat)
    (hk : Keeps M s0 s) : Keeps M s0 (State.denTakeover s cause old) := by
  unfold State.denTakeover
  repeat' with_reducible first
    | assumption | apply State.denHw_keeps

theorem State.promote_keeps {M : Prop} {s0 s : State} (cause : Nat)
    (hk : Keeps M s0 s) : Keeps M s0 (State.promote s cause) := by
  unfold State.promote
  repeat' with_reducible first
    | assumption | intro _ | lift_lets | apply State.setEpoch_keeps | apply State.setRole_keeps
      | apply State.bump_keeps | apply State.wr_keeps | apply State.raise_keeps | apply State.denTakeover_keeps
      | apply State.when_keeps | apply State.errOpen_keeps | apply State.each_keeps | apply State.takeover_keeps
      | apply State.axPromote_keeps | apply State.settleSlow_keeps | apply State.enterHold_keeps | apply Keeps.ite
      | fail_if_no_progress refine Keeps.upd rfl ?_

theorem State.promoteFor_keeps {M : Prop} {s0 s : State} (cause : Nat)
    (hk : Keeps M s0 s) : Keeps M s0 (State.promoteFor s cause) := by
  unfold State.promoteFor
  repeat' with_reducible first
    | assumption | apply State.errOpen_keeps | apply State.promote_keeps | apply Keeps.ite

theorem State.demote_keeps {M : Prop} {s0 s : State} (hk : Keeps M s0 s) : Keeps M s0 (State.demote s) := by
  unfold State.demote
  repeat' with_reducible first
    | assumption | intro _ | lift_lets | apply State.each_keeps | apply State.modLane_keeps
      | apply State.setRole_keeps | apply State.slowFall_keeps | apply State.axObserve_keeps
      | apply State.denTakeover_keeps | apply State.raise_keeps | apply State.bump_keeps | apply State.errOpen_keeps
      | apply State.wr_keeps | apply Keeps.ite | fail_if_no_progress refine Keeps.upd rfl ?_

theorem State.roleWait_keeps {M : Prop} {s0 s : State} (hk : Keeps M s0 s) : Keeps M s0 (State.roleWait s) := by
  unfold State.roleWait
  repeat' with_reducible first
    | assumption | apply State.errOpen_keeps | apply Keeps.ite

theorem State.settleRole_keeps {M : Prop} {s0 s : State} (heard : Bool)
    (hk : Keeps M s0 s) : Keeps M s0 (State.settleRole s heard) := by
  unfold State.settleRole
  repeat' with_reducible first
    | assumption | apply State.errOpen_keeps | apply State.enterLead_keeps | apply State.roleWait_keeps
      | apply State.enterShadow_keeps | apply State.enterSolo_keeps | apply Keeps.ite
      | fail_if_no_progress refine Keeps.upd rfl ?_ | split

/-! ### Vinel -/

theorem State.setLs_keeps {M : Prop} {s0 s : State} (l : Lane) (v : Nat)
    (hk : Keeps M s0 s) : Keeps M s0 (State.setLs s l v) := by
  unfold State.setLs
  repeat' with_reducible first
    | assumption | apply State.calAbort_keeps | apply State.wr_keeps | apply State.modLane_keeps | apply Keeps.ite

theorem State.linkCfg_keeps {M : Prop} {s0 s : State} (l : Lane) (hk : Keeps M s0 s) : Keeps M s0 (State.linkCfg s l) := by
  unfold State.linkCfg
  repeat' with_reducible first
    | assumption | apply State.modLane_keeps

theorem State.boundStart_keeps {M : Prop} {s0 s : State} (l : Lane)
    (hk : Keeps M s0 s) : Keeps M s0 (State.boundStart s l) := by
  unfold State.boundStart
  repeat' with_reducible first
    | assumption | apply State.modLane_keeps

theorem State.useTaps_keeps {M : Prop} {s0 s : State} (l : Lane) (preset : Nat)
    (hk : Keeps M s0 s) : Keeps M s0 (State.useTaps s l preset) := by
  unfold State.useTaps
  repeat' with_reducible first
    | assumption | apply State.wr_keeps

theorem State.noFrames_keeps {M : Prop} {s0 s : State} (l : Lane)
    (hk : Keeps M s0 s) : Keeps M s0 (State.noFrames s l) := by
  unfold State.noFrames
  repeat' with_reducible first
    | assumption | apply State.modLane_keeps

theorem State.linkStart_keeps {M : Prop} {s0 s : State} (l : Lane)
    (hk : Keeps M s0 s) : Keeps M s0 (State.linkStart s l) := by
  unfold State.linkStart
  repeat' with_reducible first
    | assumption | apply State.wr_keeps | apply State.setLs_keeps | apply State.noFrames_keeps
      | apply State.linkCfg_keeps | apply State.useTaps_keeps | apply State.settleTmin_keeps | apply State.emit_keeps

theorem State.linkStop_keeps {M : Prop} {s0 s : State} (l : Lane)
    (hk : Keeps M s0 s) : Keeps M s0 (State.linkStop s l) := by
  unfold State.linkStop
  repeat' with_reducible first
    | assumption | apply State.wr_keeps | apply State.setLs_keeps | apply State.noFrames_keeps

theorem State.laneUnlinked_keeps {M : Prop} {s0 s : State} (l : Lane)
    (hk : Keeps M s0 s) : Keeps M s0 (State.laneUnlinked s l) := by
  unfold State.laneUnlinked
  repeat' with_reducible first
    | assumption | intro _ | lift_lets | apply State.wr_keeps | apply State.modLane_keeps
      | apply State.awlAborted_keeps | apply State.boundStart_keeps | apply State.setLane_keeps | apply Keeps.ite
      | fail_if_no_progress refine Keeps.upd rfl ?_ | split

theorem State.linkDrop_keeps {M : Prop} {s0 s : State} (l : Lane)
    (hk : Keeps M s0 s) : Keeps M s0 (State.linkDrop s l) := by
  unfold State.linkDrop
  repeat' with_reducible first
    | assumption | intro _ | lift_lets | apply State.boundStart_keeps | apply State.setLs_keeps | apply State.modLane_keeps | apply State.noFrames_keeps
      | apply State.laneUnlinked_keeps

theorem State.linkLost_keeps {M : Prop} {s0 s : State} (l : Lane) (reason : Nat)
    (hk : Keeps M s0 s) : Keeps M s0 (State.linkLost s l reason) := by
  unfold State.linkLost
  repeat' with_reducible first
    | assumption | apply State.linkDrop_keeps | apply State.bump_keeps | apply State.raise_keeps
      | apply State.err_keeps | apply Keeps.ite

theorem State.sendCtrl_keeps {M : Prop} {s0 s : State} (l : Lane) (f : CtrlFrame)
    (hk : Keeps M s0 s) : Keeps M s0 (State.sendCtrl s l f) := by
  unfold State.sendCtrl
  repeat' with_reducible first
    | assumption | apply State.modLane_keeps | apply State.emit_keeps

theorem execControlFrameSend_keeps {M : Prop} {s0 s : State} (l : Lane)
    (hk : Keeps M s0 s) : NextKeeps M s0 (execControlFrameSend l s) := by
  unfold execControlFrameSend
  dsimp only [State.draw, id]
  repeat' with_reducible first
    | assumption | intro _ | apply State.modLane_keeps | apply State.when_keeps | apply State.emit_keeps
      | apply State.sendCtrl_keeps | apply Keeps.ite | apply NextKeeps.ite | apply NextKeeps.next
      | fail_if_no_progress refine Keeps.upd rfl ?_ | split

theorem State.sendTrain_keeps {M : Prop} {s0 s : State} (l : Lane)
    (hk : Keeps M s0 s) : Keeps M s0 (State.sendTrain s l) := by
  unfold State.sendTrain
  repeat' with_reducible first
    | assumption | intro _ | lift_lets | apply State.each_keeps | apply State.emit_keeps

theorem State.trialStart_keeps {M : Prop} {s0 s : State} (l : Lane) (rate : Nat) (preset : Nat) (best : Option (Nat × Nat)) (fast : Bool)
    (hk : Keeps M s0 s) : Keeps M s0 (State.trialStart s l rate preset best fast) := by
  unfold State.trialStart
  repeat' with_reducible first
    | assumption | apply State.modLane_keeps | apply State.queueCtrl_keeps

theorem State.headCfg_keeps {M : Prop} {s0 s : State} (l : Lane) (hk : Keeps M s0 s) : Keeps M s0 (State.headCfg s l) := by
  unfold State.headCfg
  repeat' with_reducible first
    | assumption | apply State.queueCtrl_keeps

theorem State.linkReady_keeps {M : Prop} {s0 s : State} (l : Lane)
    (hk : Keeps M s0 s) : Keeps M s0 (State.linkReady s l) := by
  unfold State.linkReady
  repeat' with_reducible first
    | assumption | intro _ | lift_lets | apply State.raise_keeps | apply State.wr_keeps | apply State.setLs_keeps
      | apply State.when_keeps | apply State.settleTmin_keeps | apply State.modLane_keeps | apply State.armNext_keeps
      | apply State.setLane_keeps | apply Keeps.ite

theorem State.linkLoad_keeps {M : Prop} {s0 s : State} (l : Lane)
    (hk : Keeps M s0 s) : Keeps M s0 (State.linkLoad s l) := by
  unfold State.linkLoad
  repeat' with_reducible first
    | assumption | apply State.flag_keeps | apply State.modLane_keeps | apply State.setLs_keeps
      | apply State.linkReady_keeps | apply State.wr_keeps | apply State.loadBank_keeps | apply State.setEpoch_keeps
      | apply State.queueCtrl_keeps | apply Keeps.ite

theorem State.rateDone_keeps {M : Prop} {s0 s : State} (l : Lane) (rate : Nat) (best : Option (Nat × Nat))
    (hk : Keeps M s0 s) : Keeps M s0 (State.rateDone s l rate best) := by
  unfold State.rateDone
  repeat' with_reducible first
    | assumption | apply State.useTaps_keeps | apply State.wr_keeps | apply State.settleTmin_keeps
      | apply State.trialStart_keeps | apply State.linkLoad_keeps | apply Keeps.ite
      | fail_if_no_progress refine Keeps.upd rfl ?_ | split

theorem State.trialNext_keeps {M : Prop} {s0 s : State} (l : Lane) (t : Trial)
    (hk : Keeps M s0 s) : Keeps M s0 (State.trialNext s l t) := by
  unfold State.trialNext
  repeat' with_reducible first
    | assumption | apply State.rateDone_keeps | apply State.trialStart_keeps | apply Keeps.ite

theorem State.trialFail_keeps {M : Prop} {s0 s : State} (l : Lane) (t : Trial)
    (hk : Keeps M s0 s) : Keeps M s0 (State.trialFail s l t) := by
  unfold State.trialFail
  repeat' with_reducible first
    | assumption | apply State.err_keeps | apply State.bump_keeps | apply State.linkStart_keeps
      | apply State.modLane_keeps | apply State.useTaps_keeps | apply Keeps.ite

theorem State.trialPass_keeps {M : Prop} {s0 s : State} (l : Lane) (t : Trial) (eye : Nat)
    (hk : Keeps M s0 s) : Keeps M s0 (State.trialPass s l t eye) := by
  unfold State.trialPass
  repeat' with_reducible first
    | assumption | apply State.queueCtrl_keeps | apply State.modLane_keeps | apply State.trialNext_keeps
      | apply Keeps.ite

theorem execTrialSwitch_keeps {M : Prop} {s0 s : State} (l : Lane)
    (hk : Keeps M s0 s) : NextKeeps M s0 (execTrialSwitch l s) := by
  unfold execTrialSwitch
  repeat' with_reducible first
    | assumption | apply State.modLane_keeps | apply State.useTaps_keeps | apply Keeps.ite | apply NextKeeps.ite
      | apply NextKeeps.next | fail_if_no_progress refine Keeps.upd rfl ?_ | split

theorem execTrialTimeout_keeps {M : Prop} {s0 s : State} (l : Lane)
    (hk : Keeps M s0 s) : NextKeeps M s0 (execTrialTimeout l s) := by
  unfold execTrialTimeout
  repeat' with_reducible first
    | assumption | apply State.trialFail_keeps | apply Keeps.ite | apply NextKeeps.ite | apply NextKeeps.next
      | fail_if_no_progress refine Keeps.upd rfl ?_ | split

theorem execFastLockTimeout_keeps {M : Prop} {s0 s : State} (l : Lane)
    (hk : Keeps M s0 s) : NextKeeps M s0 (execFastLockTimeout l s) := by
  unfold execFastLockTimeout
  repeat' with_reducible first
    | assumption | apply State.linkStart_keeps | apply Keeps.ite | apply NextKeeps.ite | apply NextKeeps.next

theorem execNoHeadTimeout_keeps {M : Prop} {s0 s : State} (l : Lane)
    (hk : Keeps M s0 s) : NextKeeps M s0 (execNoHeadTimeout l s) := by
  unfold execNoHeadTimeout
  repeat' with_reducible first
    | assumption | apply State.setLs_keeps | apply State.errOpen_keeps | apply Keeps.ite | apply NextKeeps.ite
      | apply NextKeeps.next

theorem execBringupTmo_keeps {M : Prop} {s0 s : State} (l : Lane)
    (hk : Keeps M s0 s) : NextKeeps M s0 (execBringupTmo l s) := by
  unfold execBringupTmo
  repeat' with_reducible first
    | assumption | apply State.setLs_keeps | apply State.noFrames_keeps | apply State.errOpen_keeps | apply Keeps.ite
      | apply NextKeeps.ite | apply NextKeeps.next | fail_if_no_progress refine Keeps.upd rfl ?_

theorem execLinkWaitExpiry_keeps {M : Prop} {s0 s : State} (l : Lane)
    (hk : Keeps M s0 s) : NextKeeps M s0 (execLinkWaitExpiry l s) := by
  unfold execLinkWaitExpiry
  repeat' with_reducible first
    | assumption | apply State.linkStart_keeps | apply State.boundStart_keeps | apply Keeps.ite | apply NextKeeps.ite
      | apply NextKeeps.next

theorem State.upstream_keeps {M : Prop} {s0 s : State} (l : Lane) (up : UpHead) (eye : Bool)
    (hk : Keeps M s0 s) : Keeps M s0 (State.upstream s l up eye) := by
  unfold State.upstream
  repeat' with_reducible first
    | assumption | apply State.modLane_keeps | apply State.flag_keeps | apply State.wr_keeps
      | apply State.takeTemp_keeps | apply State.linkLost_keeps | apply State.demote_keeps | apply State.errOpen_keeps
      | apply State.linkDrop_keeps | apply Keeps.ite | fail_if_no_progress refine Keeps.upd rfl ?_ | split

theorem execLstatReceive_keeps {M : Prop} {s0 s : State} (l : Lane) (up : UpHead) (seq : BitVec 16) (result : BitVec 8)
    (hk : Keeps M s0 s) : NextKeeps M s0 (execLstatReceive l up seq result s) := by
  unfold execLstatReceive
  repeat' with_reducible first
    | assumption | (intro x; first | subst x | skip) | lift_lets | apply State.modLane_keeps | apply State.when_keeps
      | apply State.bump_keeps | apply State.spoilLine_keeps | apply State.raise_keeps | apply State.upstream_keeps
      | apply Keeps.ite | apply NextKeeps.ite | apply NextKeeps.next | fail_if_no_progress refine Keeps.upd rfl ?_
      | split

theorem execLstatTimeout_keeps {M : Prop} {s0 s : State} (l : Lane)
    (hk : Keeps M s0 s) : NextKeeps M s0 (execLstatTimeout l s) := by
  unfold execLstatTimeout
  repeat' with_reducible first
    | assumption | apply State.modLane_keeps | apply State.spoilLine_keeps | apply State.bump_keeps | apply Keeps.ite
      | apply NextKeeps.ite | apply NextKeeps.next | fail_if_no_progress refine Keeps.upd rfl ?_ | split

theorem execHstatReceive_keeps {M : Prop} {s0 s : State} (l : Lane) (up : UpHead) (rate : BitVec 8)
    (hk : Keeps M s0 s) : NextKeeps M s0 (execHstatReceive l up rate s) := by
  unfold execHstatReceive
  repeat' with_reducible first
    | assumption | apply State.upstream_keeps | apply State.modLane_keeps | apply State.sendTrain_keeps
      | apply State.trialNext_keeps | apply State.queueCtrl_keeps | apply State.setLs_keeps
      | apply State.trialStart_keeps | apply Keeps.ite | apply NextKeeps.ite | apply NextKeeps.next
      | fail_if_no_progress refine Keeps.upd rfl ?_ | split

theorem execCackReceive_keeps {M : Prop} {s0 s : State} (l : Lane) (up : UpHead) (cseq : BitVec 8) (cresult : BitVec 8)
    (hk : Keeps M s0 s) : NextKeeps M s0 (execCackReceive l up cseq cresult s) := by
  unfold execCackReceive
  repeat' with_reducible first
    | assumption | intro _ | lift_lets | apply State.upstream_keeps | apply State.modLane_keeps
      | apply State.trialFail_keeps | apply State.linkReady_keeps | apply Keeps.ite | apply NextKeeps.ite
      | apply NextKeeps.next | fail_if_no_progress refine Keeps.upd rfl ?_ | split

theorem execIdentReceive_keeps {M : Prop} {s0 s : State} (l : Lane) (up : UpHead) (proto : BitVec 8) (caps : BitVec 8) (n : BitVec 16) (vendor : BitVec 16) (model : BitVec 16) (tHead : BitVec 16) (serial : Word)
    (hk : Keeps M s0 s) : NextKeeps M s0 (execIdentReceive l up proto caps n vendor model tHead serial s) := by
  unfold execIdentReceive
  repeat' with_reducible first
    | assumption | intro _ | lift_lets | apply State.upstream_keeps | apply State.modLane_keeps
      | apply State.linkStart_keeps | apply State.setLs_keeps | apply State.err_keeps | apply State.wr_keeps
      | apply State.flag_keeps | apply State.settleTmin_keeps | apply State.linkLoad_keeps | apply State.when_keeps
      | apply State.headCfg_keeps | apply State.trialStart_keeps | apply Keeps.ite | apply NextKeeps.ite
      | apply NextKeeps.next | fail_if_no_progress refine Keeps.upd rfl ?_

theorem execTrainResReceive_keeps {M : Prop} {s0 s : State} (l : Lane) (up : UpHead) (rate : BitVec 8) (preset : BitVec 8) (good : BitVec 8)
    (hk : Keeps M s0 s) : NextKeeps M s0 (execTrainResReceive l up rate preset good s) := by
  unfold execTrainResReceive
  repeat' with_reducible first
    | assumption | intro _ | lift_lets | apply State.upstream_keeps | apply State.trialPass_keeps
      | apply State.trialFail_keeps | apply Keeps.ite | apply NextKeeps.ite | apply NextKeeps.next
      | fail_if_no_progress refine Keeps.upd rfl ?_ | split

theorem execUpstreamCrcError_keeps {M : Prop} {s0 s : State} (l : Lane)
    (hk : Keeps M s0 s) : NextKeeps M s0 (execUpstreamCrcError l s) := by
  unfold execUpstreamCrcError
  repeat' with_reducible first
    | assumption | apply State.bump_keeps | apply Keeps.ite | apply NextKeeps.ite | apply NextKeeps.next

theorem execControlRetry_keeps {M : Prop} {s0 s : State} (l : Lane)
    (hk : Keeps M s0 s) : NextKeeps M s0 (execControlRetry l s) := by
  unfold execControlRetry
  dsimp only [State.draw, id]
  repeat' with_reducible first
    | assumption | intro _ | apply State.modLane_keeps | apply State.bump_keeps | apply State.sendCtrl_keeps
      | apply State.err_keeps | apply State.trialFail_keeps | apply State.linkLost_keeps | apply Keeps.ite
      | apply NextKeeps.ite | apply NextKeeps.next | fail_if_no_progress refine Keeps.upd rfl ?_ | split

theorem execUpstreamLockLoss_keeps {M : Prop} {s0 s : State} (l : Lane) (n : BitVec 8)
    (hk : Keeps M s0 s) : NextKeeps M s0 (execUpstreamLockLoss l n s) := by
  unfold execUpstreamLockLoss
  repeat' with_reducible first
    | assumption | apply State.wr_keeps | apply State.bump_keeps | apply State.modLane_keeps
      | apply State.linkLost_keeps | apply Keeps.ite | apply NextKeeps.ite | apply NextKeeps.next

theorem execStatusTimeout_keeps {M : Prop} {s0 s : State} (l : Lane)
    (hk : Keeps M s0 s) : NextKeeps M s0 (execStatusTimeout l s) := by
  unfold execStatusTimeout
  repeat' with_reducible first
    | assumption | apply State.linkLost_keeps | apply Keeps.ite | apply NextKeeps.ite | apply NextKeeps.next

theorem execCrcLimitReached_keeps {M : Prop} {s0 s : State} (l : Lane)
    (hk : Keeps M s0 s) : NextKeeps M s0 (execCrcLimitReached l s) := by
  unfold execCrcLimitReached
  repeat' with_reducible first
    | assumption | apply State.linkLost_keeps | apply Keeps.ite | apply NextKeeps.ite | apply NextKeeps.next

theorem execScanDataLate_keeps {M : Prop} {s0 s : State} (l : Lane)
    (hk : Keeps M s0 s) : NextKeeps M s0 (execScanDataLate l s) := by
  unfold execScanDataLate
  repeat' with_reducible first
    | assumption | apply State.linkLost_keeps | apply Keeps.ite | apply NextKeeps.ite | apply NextKeeps.next

theorem State.retrain_keeps {M : Prop} {s0 s : State} (l : Lane) (hk : Keeps M s0 s) : Keeps M s0 (State.retrain s l) := by
  unfold State.retrain
  repeat' with_reducible first
    | assumption | apply State.errOpen_keeps | apply State.linkDrop_keeps | apply Keeps.ite

theorem execRetrain_keeps {M : Prop} {s0 s : State} (req : Req) (l : Lane)
    (hk : Keeps M s0 s) : NextKeeps M s0 (execRetrain req l s) := by
  unfold execRetrain
  repeat' with_reducible first
    | assumption | intro _ | lift_lets | apply State.command_keeps | apply State.retrain_keeps | apply Keeps.ite
      | apply NextKeeps.ite | apply NextKeeps.next

theorem execEyeMeasure_keeps {M : Prop} {s0 s : State} (l : Lane) (mui : BitVec 16)
    (hk : Keeps M s0 s) : NextKeeps M s0 (execEyeMeasure l mui s) := by
  unfold execEyeMeasure
  repeat' with_reducible first
    | assumption | apply State.modLane_keeps | apply State.wr_keeps | apply Keeps.ite | apply NextKeeps.ite
      | apply NextKeeps.next

theorem State.laneOn_keeps {M : Prop} {s0 s : State} (l : Lane) (hk : Keeps M s0 s) : Keeps M s0 (State.laneOn s l) := by
  unfold State.laneOn
  repeat' with_reducible first
    | assumption | apply State.linkStart_keeps | apply State.boundStart_keeps | apply State.setLane_keeps
      | apply Keeps.ite

theorem State.laneOff_keeps {M : Prop} {s0 s : State} (l : Lane) (hk : Keeps M s0 s) : Keeps M s0 (State.laneOff s l) := by
  unfold State.laneOff
  repeat' with_reducible first
    | assumption | apply State.modLane_keeps | apply State.awlAborted_keeps | apply State.linkStop_keeps
      | apply State.setLane_keeps | apply Keeps.ite

theorem State.seqClear_keeps {M : Prop} {s0 s : State} (l : Lane)
    (hk : Keeps M s0 s) : Keeps M s0 (State.seqClear s l) := by
  unfold State.seqClear
  repeat' with_reducible first
    | assumption | apply State.modLane_keeps | apply State.armNext_keeps | apply State.setLane_keeps
      | apply State.boundStart_keeps | apply State.linkStart_keeps | apply State.errOpen_keeps | apply Keeps.ite

theorem execSeqClear_keeps {M : Prop} {s0 s : State} (req : Req) (l : Lane)
    (hk : Keeps M s0 s) : NextKeeps M s0 (execSeqClear req l s) := by
  unfold execSeqClear
  repeat' with_reducible first
    | assumption | intro _ | lift_lets | apply State.command_keeps | apply State.seqClear_keeps | apply Keeps.ite
      | apply NextKeeps.ite | apply NextKeeps.next

/-! ### Bist -/

theorem State.setVcl_keeps {M : Prop} {s0 s : State} (c : Clu) (mv : Nat)
    (hk : Keeps M s0 s) : Keeps M s0 (State.setVcl s c mv) := by
  unfold State.setVcl
  repeat' with_reducible first
    | assumption | apply State.modClu_keeps

theorem State.setDclk_keeps {M : Prop} {s0 s : State} (c : Clu) (op : Nat)
    (hk : Keeps M s0 s) : Keeps M s0 (State.setDclk s c op) := by
  unfold State.setDclk
  repeat' with_reducible first
    | assumption | apply State.calAbort_keeps | apply State.wr_keeps | apply Keeps.ite

theorem State.setOp_keeps {M : Prop} {s0 s : State} (c : Clu) (op : Nat)
    (hk : Keeps M s0 s) : Keeps M s0 (State.setOp s c op) := by
  unfold State.setOp
  repeat' with_reducible first
    | assumption | apply State.setDclk_keeps | apply State.setVcl_keeps

theorem State.forceOp_keeps {M : Prop} {s0 s : State} (c : Clu) (hk : Keeps M s0 s) : Keeps M s0 (State.forceOp s c) := by
  unfold State.forceOp
  repeat' with_reducible first
    | assumption | intro _ | lift_lets | apply State.when_keeps | apply State.wr_keeps | apply State.setOp_keeps
      | apply State.modClu_keeps | apply Keeps.ite | fail_if_no_progress refine Keeps.upd rfl ?_ | split

theorem State.restoreOp_keeps {M : Prop} {s0 s : State} (c : Clu)
    (hk : Keeps M s0 s) : Keeps M s0 (State.restoreOp s c) := by
  unfold State.restoreOp
  repeat' with_reducible first
    | assumption | intro _ | lift_lets | apply State.modClu_keeps | apply State.when_keeps | apply State.setOp_keeps
      | apply Keeps.ite | fail_if_no_progress refine Keeps.upd rfl ?_ | split

theorem State.spoolStore_keeps {M : Prop} {s0 s : State} (a : Nat) (ws : List Nat) (hM : M)
    (hk : Keeps M s0 s) : Keeps M s0 (State.spoolStore s a ws) := by
  unfold State.spoolStore
  repeat' with_reducible first
    | assumption | apply State.portWrite_keeps | apply Keeps.ite

theorem State.saveCounts_keeps {M : Prop} {s0 s : State} (l : Lane) (hM : M)
    (hk : Keeps M s0 s) : Keeps M s0 (State.saveCounts s l) := by
  unfold State.saveCounts
  repeat' with_reducible first
    | assumption | apply State.spoolStore_keeps

theorem State.loadCounts_keeps {M : Prop} {s0 s : State} (l : Lane)
    (hk : Keeps M s0 s) : Keeps M s0 (State.loadCounts s l) := by
  unfold State.loadCounts
  repeat' with_reducible first
    | assumption | apply State.ddrUe_keeps | apply State.setWins_keeps | apply Keeps.ite
      | fail_if_no_progress refine Keeps.upd rfl ?_ | split

theorem State.imgLoad_keeps {M : Prop} {s0 s : State} (l : Lane) (hk : Keeps M s0 s) : Keeps M s0 (State.imgLoad s l) := by
  unfold State.imgLoad
  repeat' with_reducible first
    | assumption | apply State.setWins_keeps | apply State.wr_keeps | apply State.wrBoth_keeps
      | apply State.each_keeps | apply State.mapFigures_keeps | apply State.partnerRefresh_keeps

theorem State.imgUe_kept {M : Prop} {s0 s t : State} {x : Bool} {l : Lane} {ue : Bool}
    (he : State.imgUe s l ue = (t, x)) (hk : Keeps M s0 s) : Keeps M s0 t := by
  unfold State.imgUe at he
  dsimp only [State.draw] at he
  repeat' split at he
  all_goals cases he
  · exact State.ddrUe_keeps _ _ _ _ hk
  · exact State.ddrUe_keeps _ _ _ _ (State.draw_keeps hk)
  · exact hk

theorem State.restoreWindow_kept {M : Prop} {s0 s t : State} {x : Bool} {l : Lane} {ue : Bool}
    (he : State.restoreWindow s l ue = (t, x)) (hk : Keeps M s0 s) : Keeps M s0 t := by
  unfold State.restoreWindow at he
  split at he
  have h := State.imgUe_kept (by assumption) hk
  split at he
  all_goals cases he
  · exact State.imgLoad_keeps _ h
  · exact State.raise_keeps _ _ (State.errOpen_keeps _ _ h)

theorem State.restoreWindow_keeps {M : Prop} {s0 s : State} (l : Lane) (ue : Bool) (hk : Keeps M s0 s) :
    Keeps M s0 (State.restoreWindow s l ue).1 := State.restoreWindow_kept Prod.mk.eta.symm hk

theorem State.resetPage_keeps {M : Prop} {s0 s : State} (p : Page) (hk : Keeps M s0 s) :
    Keeps M s0 (State.resetPage s p) := by
  unfold State.resetPage
  exact Keeps.cleared _ _ _ hk

theorem State.resetLane_keeps {M : Prop} {s0 s : State} (l : Lane)
    (hk : Keeps M s0 s) : Keeps M s0 (State.resetLane s l) := by
  unfold State.resetLane
  repeat' with_reducible first
    | assumption | apply State.resetPage_keeps | apply State.modLane_keeps | apply State.settleTmin_keeps
      | apply State.wr_keeps

theorem State.resetTested_keeps {M : Prop} {s0 s : State} (p : Page)
    (hk : Keeps M s0 s) : Keeps M s0 (State.resetTested s p) := by
  unfold State.resetTested
  repeat' with_reducible first
    | assumption | intro _ | lift_lets | apply State.wr_keeps | apply State.resetPage_keeps | apply State.each_keeps
      | apply Keeps.ite | fail_if_no_progress refine Keeps.upd rfl ?_ | split

theorem State.marchClears_keeps {M : Prop} {s0 s : State} (target : Nat) (i : Nat)
    (hk : Keeps M s0 s) : Keeps M s0 (State.marchClears s target i) := by
  unfold State.marchClears
  repeat' with_reducible first
    | assumption | intro _ | lift_lets | apply State.each_keeps | apply State.modLane_keeps | apply State.modClu_keeps
      | apply Keeps.ite | fail_if_no_progress refine Keeps.upd rfl ?_

theorem State.testClose_keeps {M : Prop} {s0 s : State} (target : Nat) (i : Nat) (lanes : List Lane) (ue : Bool)
    (hk : Keeps M s0 s) : Keeps M s0 (State.testClose s target i lanes ue) := by
  unfold State.testClose
  repeat' with_reducible first
    | assumption | intro _ | lift_lets | apply State.each_keeps | apply State.resetTested_keeps
      | apply State.resetLane_keeps | apply State.wr_keeps | apply State.loadCounts_keeps | apply Keeps.ite
      | refine State.restoreWindow_kept (by assumption) ?_ | apply State.restoreWindow_keeps
      | fail_if_no_progress refine Keeps.upd rfl ?_

theorem State.testLeave_keeps {M : Prop} {s0 s : State} (lanes : List Lane)
    (hk : Keeps M s0 s) : Keeps M s0 (State.testLeave s lanes) := by
  unfold State.testLeave
  repeat' with_reducible first
    | assumption | intro _ | lift_lets | apply State.each_keeps | apply State.setLane_keeps
      | apply State.armNext_keeps | apply Keeps.ite

theorem State.testEnd_keeps {M : Prop} {s0 s : State} (r : BistRun)
    (hk : Keeps M s0 s) : Keeps M s0 (State.testEnd s r) := by
  unfold State.testEnd
  repeat' with_reducible first
    | assumption | apply State.testLeave_keeps | apply State.each_keeps | apply State.restoreOp_keeps
      | apply State.raise_keeps | apply State.setOverdue_keeps | apply State.setPage_keeps | apply Keeps.ite
      | fail_if_no_progress refine Keeps.upd rfl ?_

theorem State.testResult_keeps {M : Prop} {s0 s : State} (target : Nat) (i : Nat) (x : BistResult)
    (hk : Keeps M s0 s) : Keeps M s0 (State.testResult s target i x) := by
  unfold State.testResult
  repeat' with_reducible first
    | assumption | apply State.flag_keeps | apply State.wr_keeps | apply Keeps.ite | apply State.draw_keeps
      | refine State.drawn_keeps (by assumption) ?_ | fail_if_no_progress refine Keeps.upd rfl ?_

theorem State.testAbort_keeps {M : Prop} {s0 s : State} (why : Nat)
    (hk : Keeps M s0 s) : Keeps M s0 (State.testAbort s why) := by
  unfold State.testAbort
  repeat' with_reducible first
    | assumption | intro _ | lift_lets | apply State.each_keeps | apply State.wr_keeps | apply State.marchClears_keeps
      | apply State.testClose_keeps | apply State.raise_keeps | apply State.err_keeps | apply State.testEnd_keeps
      | apply Keeps.ite | apply State.draw_keeps | refine State.drawn_keeps (by assumption) ?_
      | fail_if_no_progress refine Keeps.upd rfl ?_ | split

theorem State.clearSlot_keeps {M : Prop} {s0 s : State} (slot : Nat) (hk : Keeps M s0 s) :
    Keeps M s0 (State.clearSlot s slot) :=
  hk.trans ⟨rfl, id, fun x => Regs.filter_wf _ x, id, Nat.le_refl _, List.prefix_rfl, fun _ => rfl⟩

theorem State.testBegin_keeps {M : Prop} {s0 s : State} (target : Nat) (mask : Nat) (hM : M)
    (hk : Keeps M s0 s) : Keeps M s0 (State.testBegin s target mask) := by
  unfold State.testBegin
  repeat' with_reducible first
    | assumption | intro _ | lift_lets | apply State.each_keeps | apply State.clearSlot_keeps | apply State.wr_keeps
      | apply State.forceOp_keeps | apply State.setLane_keeps | apply State.setPage_keeps | apply State.when_keeps
      | apply State.saveCounts_keeps | apply Keeps.ite | fail_if_no_progress refine Keeps.upd rfl ?_

theorem State.bistStart_keeps {M : Prop} {s0 s : State} (req : Req) (hM : M)
    (hk : Keeps M s0 s) : Keeps M s0 (State.bistStart s req) := by
  unfold State.bistStart
  repeat' with_reducible first
    | assumption | apply State.errAt_keeps | apply State.errOpen_keeps | apply State.err_keeps
      | apply State.testBegin_keeps | apply Keeps.ite | fail_if_no_progress refine Keeps.upd rfl ?_ | split

theorem execBistStart_keeps {M : Prop} {s0 s : State} (req : Req) (hM : M)
    (hk : Keeps M s0 s) : NextKeeps M s0 (execBistStart req s) := by
  unfold execBistStart
  repeat' with_reducible first
    | assumption | intro _ | lift_lets | apply State.command_keeps | apply State.bistStart_keeps | apply Keeps.ite
      | apply NextKeeps.ite | apply NextKeeps.next

theorem execBistAbort_keeps {M : Prop} {s0 s : State} (req : Req)
    (hk : Keeps M s0 s) : NextKeeps M s0 (execBistAbort req s) := by
  unfold execBistAbort
  repeat' with_reducible first
    | assumption | intro _ | lift_lets | apply State.command_keeps | apply State.testAbort_keeps | apply Keeps.ite
      | apply NextKeeps.ite | apply NextKeeps.next

theorem execBistDone_keeps {M : Prop} {s0 s : State} (results : List BistResult)
    (hk : Keeps M s0 s) : NextKeeps M s0 (execBistDone results s) := by
  unfold execBistDone
  repeat' with_reducible first
    | assumption | intro _ | lift_lets | apply State.each_keeps | apply State.testClose_keeps
      | apply State.marchClears_keeps | apply State.testResult_keeps | apply State.testEnd_keeps | apply Keeps.ite
      | apply NextKeeps.ite | apply NextKeeps.next | fail_if_no_progress refine Keeps.upd rfl ?_ | split

theorem execVcoreSample_keeps {M : Prop} {s0 s : State} (mv : BitVec 12)
    (hk : Keeps M s0 s) : NextKeeps M s0 (execVcoreSample mv s) := by
  unfold execVcoreSample
  repeat' with_reducible first
    | assumption | apply State.wr_keeps | apply State.testAbort_keeps | apply Keeps.ite | apply NextKeeps.ite
      | apply NextKeeps.next | fail_if_no_progress refine Keeps.upd rfl ?_

theorem State.imgSave_keeps {M : Prop} {s0 s : State} (req : Req) (inst : Nat)
    (hk : Keeps M s0 s) : Keeps M s0 (State.imgSave s req inst) := by
  unfold State.imgSave
  repeat' with_reducible first
    | assumption | apply State.errOpen_keeps | apply State.setPage_keeps | apply State.errAt_keeps | apply Keeps.ite
      | fail_if_no_progress refine Keeps.upd rfl ?_ | split

theorem execImgSave_keeps {M : Prop} {s0 s : State} (req : Req) (inst : BitVec 7)
    (hk : Keeps M s0 s) : NextKeeps M s0 (execImgSave req inst s) := by
  unfold execImgSave
  repeat' with_reducible first
    | assumption | intro _ | lift_lets | apply State.command_keeps | apply State.imgSave_keeps | apply Keeps.ite
      | apply NextKeeps.ite | apply NextKeeps.next

theorem State.imgWrite_keeps {M : Prop} {s0 s : State} (l : Lane) (hM : M)
    (hk : Keeps M s0 s) : Keeps M s0 (State.imgWrite s l) := by
  unfold State.imgWrite
  repeat' with_reducible first
    | assumption | apply State.spoolStore_keeps

theorem execImgSaveDone_keeps {M : Prop} {s0 s : State} (hM : M)
    (hk : Keeps M s0 s) : NextKeeps M s0 (execImgSaveDone s) := by
  unfold execImgSaveDone
  repeat' with_reducible first
    | assumption | apply State.imgWrite_keeps | apply State.setOverdue_keeps | apply State.setPage_keeps
      | apply Keeps.ite | apply NextKeeps.ite | apply NextKeeps.next | fail_if_no_progress refine Keeps.upd rfl ?_
      | split

theorem State.fuseBurn_keeps {M : Prop} {s0 s : State} (req : Req) (slot : Nat) (fsrc : Bool)
    (hk : Keeps M s0 s) : Keeps M s0 (State.fuseBurn s req slot fsrc) := by
  unfold State.fuseBurn
  repeat' with_reducible first
    | assumption | apply State.flag_keeps | apply State.errAt_keeps | apply State.errOpen_keeps
      | apply State.raise_keeps | apply State.setPage_keeps | apply Keeps.ite
      | fail_if_no_progress refine Keeps.upd rfl ?_

theorem execFuseBurn_keeps {M : Prop} {s0 s : State} (req : Req) (slot : BitVec 7) (fsrc : Bool)
    (hk : Keeps M s0 s) : NextKeeps M s0 (execFuseBurn req slot fsrc s) := by
  unfold execFuseBurn
  repeat' with_reducible first
    | assumption | intro _ | lift_lets | apply State.command_keeps | apply State.fuseBurn_keeps | apply Keeps.ite
      | apply NextKeeps.ite | apply NextKeeps.next

theorem State.denRepair_keeps {M : Prop} {s0 s : State} (e : Nat) (r : Repair) (result : Nat) (slot : Nat)
    (hk : Keeps M s0 s) : Keeps M s0 (State.denRepair s e r result slot) := by
  unfold State.denRepair
  repeat' with_reducible first
    | assumption | apply State.denHw_keeps

theorem execBurnEntryDone_keeps {M : Prop} {s0 s : State} (hk : Keeps M s0 s) : NextKeeps M s0 (execBurnEntryDone s) := by
  unfold execBurnEntryDone
  dsimp only [State.draw, id]
  repeat' with_reducible first
    | assumption | intro _ | apply State.wr_keeps | apply State.denRepair_keeps | apply State.raise_keeps
      | apply State.setPage_keeps | apply Keeps.ite | apply NextKeeps.ite | apply NextKeeps.next
      | fail_if_no_progress refine Keeps.upd rfl ?_ | split

theorem execFsrcFall_keeps {M : Prop} {s0 s : State} (hk : Keeps M s0 s) : NextKeeps M s0 (execFsrcFall s) := by
  unfold execFsrcFall
  dsimp only [State.draw, id]
  repeat' with_reducible first
    | assumption | intro _ | apply State.wr_keeps | apply State.setPage_keeps | apply State.denRepair_keeps
      | apply State.errOpen_keeps | apply Keeps.ite | apply NextKeeps.ite | apply NextKeeps.next
      | fail_if_no_progress refine Keeps.upd rfl ?_ | split

theorem State.softLost_keeps {M : Prop} {s0 s : State} (a : Nat) (n : Nat)
    (hk : Keeps M s0 s) : Keeps M s0 (State.softLost s a n) := by
  unfold State.softLost
  repeat' with_reducible first
    | assumption | apply Keeps.ite | fail_if_no_progress refine Keeps.upd rfl ?_

theorem State.scrubWord_keeps {M : Prop} {s0 s : State} (a : Nat) (w : Nat) (kind : Ecc) (table : Bool)
    (hk : Keeps M s0 s) : Keeps M s0 (State.scrubWord s a w kind table) := by
  unfold State.scrubWord
  repeat' with_reducible first
    | assumption | apply State.raise_keeps | apply State.bump_keeps | apply State.wr_keeps
      | apply State.denSramUe_keeps | apply State.errOpen_keeps | apply Keeps.ite
      | fail_if_no_progress refine Keeps.upd rfl ?_ | split

theorem execSramScrubRead_keeps {M : Prop} {s0 s : State} (kind : Ecc) (table : Bool)
    (hk : Keeps M s0 s) : NextKeeps M s0 (execSramScrubRead kind table s) := by
  unfold execSramScrubRead
  repeat' with_reducible first
    | assumption | apply State.setOverdue_keeps | apply State.bump_keeps | apply State.scrubWord_keeps
      | apply State.wr_keeps | apply State.raise_keeps | apply Keeps.ite | apply NextKeeps.ite | apply NextKeeps.next
      | fail_if_no_progress refine Keeps.upd rfl ?_

theorem execBackgroundOverdue_keeps {M : Prop} {s0 s : State} (task : BgTask)
    (hk : Keeps M s0 s) : NextKeeps M s0 (execBackgroundOverdue task s) := by
  unfold execBackgroundOverdue
  repeat' with_reducible first
    | assumption | apply State.setOverdue_keeps | apply Keeps.ite | apply NextKeeps.ite | apply NextKeeps.next

/-! ### Awl -/

theorem State.lneBusy_keeps {M : Prop} {s0 s : State} (l : Lane) (hk : Keeps M s0 s) : Keeps M s0 (State.lneBusy s l) := by
  unfold State.lneBusy
  repeat' with_reducible first
    | assumption | apply State.flag_keeps

theorem State.awlBegin_keeps {M : Prop} {s0 s : State} (l : Lane)
    (hk : Keeps M s0 s) : Keeps M s0 (State.awlBegin s l) := by
  unfold State.awlBegin
  repeat' with_reducible first
    | assumption | apply State.modLane_keeps | apply State.queueCtrl_keeps | apply State.setLane_keeps
      | apply State.lneBusy_keeps | apply State.wr_keeps

theorem State.awlStop_keeps {M : Prop} {s0 s : State} (l : Lane) (hk : Keeps M s0 s) : Keeps M s0 (State.awlStop s l) := by
  unfold State.awlStop
  repeat' with_reducible first
    | assumption | apply State.armNext_keeps | apply State.setLane_keeps | apply State.queueCtrl_keeps
      | apply State.lneBusy_keeps | apply State.awlAborted_keeps | apply Keeps.ite

theorem State.awlCmdWrite_keeps {M : Prop} {s0 s : State} (req : Req) (l : Lane) (data : Nat)
    (hk : Keeps M s0 s) : Keeps M s0 (State.awlCmdWrite s req l data) := by
  unfold State.awlCmdWrite
  repeat' with_reducible first
    | assumption | apply State.errAt_keeps | apply State.awlBegin_keeps | apply State.errOpen_keeps
      | apply State.awlStop_keeps | apply Keeps.ite

theorem execAwlStart_keeps {M : Prop} {s0 s : State} (req : Req) (l : Lane)
    (hk : Keeps M s0 s) : NextKeeps M s0 (execAwlStart req l s) := by
  unfold execAwlStart
  repeat' with_reducible first
    | assumption | intro _ | lift_lets | apply State.command_keeps | apply State.awlCmdWrite_keeps | apply Keeps.ite
      | apply NextKeeps.ite | apply NextKeeps.next

theorem execAwlAbort_keeps {M : Prop} {s0 s : State} (req : Req) (l : Lane)
    (hk : Keeps M s0 s) : NextKeeps M s0 (execAwlAbort req l s) := by
  unfold execAwlAbort
  repeat' with_reducible first
    | assumption | intro _ | lift_lets | apply State.command_keeps | apply State.awlCmdWrite_keeps | apply Keeps.ite
      | apply NextKeeps.ite | apply NextKeeps.next

theorem execAwlAutoStart_keeps {M : Prop} {s0 s : State} (l : Lane)
    (hk : Keeps M s0 s) : NextKeeps M s0 (execAwlAutoStart l s) := by
  unfold execAwlAutoStart
  repeat' with_reducible first
    | assumption | apply State.awlBegin_keeps | apply Keeps.ite | apply NextKeeps.ite | apply NextKeeps.next

theorem execScanDataReceive_keeps {M : Prop} {s0 s : State} (l : Lane) (up : UpHead) (first : BitVec 16) (codes : List (BitVec 12))
    (hk : Keeps M s0 s) : NextKeeps M s0 (execScanDataReceive l up first codes s) := by
  unfold execScanDataReceive
  repeat' with_reducible first
    | assumption | apply State.upstream_keeps | apply State.modLane_keeps | apply Keeps.ite | apply NextKeeps.ite
      | apply NextKeeps.next

theorem State.awlLeave_keeps {M : Prop} {s0 s : State} (l : Lane)
    (hk : Keeps M s0 s) : Keeps M s0 (State.awlLeave s l) := by
  unfold State.awlLeave
  repeat' with_reducible first
    | assumption | apply State.modLane_keeps | apply State.laneOn_keeps | apply State.setLane_keeps
      | apply State.armNext_keeps | apply Keeps.ite | fail_if_no_progress refine Keeps.upd rfl ?_ | split

theorem State.awlEvaluate_keeps {M : Prop} {s0 s : State} (l : Lane)
    (hk : Keeps M s0 s) : Keeps M s0 (State.awlEvaluate s l) := by
  unfold State.awlEvaluate
  repeat' with_reducible first
    | assumption | apply State.setWins_keeps | apply State.wr_keeps | apply State.setOverdue_keeps
      | apply State.raise_keeps | apply State.err_keeps | apply State.bump_keeps | apply State.modLane_keeps
      | apply State.awlAccept_keeps | apply Keeps.ite

theorem execAwlScanComplete_keeps {M : Prop} {s0 s : State} (l : Lane)
    (hk : Keeps M s0 s) : NextKeeps M s0 (execAwlScanComplete l s) := by
  unfold execAwlScanComplete
  repeat' with_reducible first
    | assumption | apply State.awlLeave_keeps | apply State.lneBusy_keeps | apply State.awlEvaluate_keeps
      | apply Keeps.ite | apply NextKeeps.ite | apply NextKeeps.next

theorem execAwlOverdue_keeps {M : Prop} {s0 s : State} (l : Lane)
    (hk : Keeps M s0 s) : NextKeeps M s0 (execAwlOverdue l s) := by
  unfold execAwlOverdue
  repeat' with_reducible first
    | assumption | apply State.setOverdue_keeps | apply Keeps.ite | apply NextKeeps.ite | apply NextKeeps.next

/-! ### TimePtp -/

theorem State.setFreq_keeps {M : Prop} {s0 s : State} (f : Int) (hk : Keeps M s0 s) : Keeps M s0 (State.setFreq s f) := by
  unfold State.setFreq
  repeat' with_reducible first
    | assumption | apply State.wr_keeps | apply State.wrS_keeps

theorem State.holdFrom_keeps {M : Prop} {s0 s : State} (hk : Keeps M s0 s) : Keeps M s0 (State.holdFrom s) := by
  unfold State.holdFrom
  repeat' with_reducible first
    | assumption | apply Keeps.ite | fail_if_no_progress refine Keeps.upd rfl ?_

theorem State.servoTrack_keeps {M : Prop} {s0 s : State} (hk : Keeps M s0 s) : Keeps M s0 (State.servoTrack s) := by
  unfold State.servoTrack
  repeat' with_reducible first
    | assumption | apply State.wr_keeps | apply State.setPage_keeps | apply State.holdFrom_keeps

theorem State.trigFires_keeps {M : Prop} {s0 s : State} (k : Nat)
    (hk : Keeps M s0 s) : Keeps M s0 (State.trigFires s k) := by
  unfold State.trigFires
  repeat' with_reducible first
    | assumption | intro _ | lift_lets | apply State.raise_keeps | apply State.wr_keeps | apply State.bump_keeps
      | apply State.pageTrig_keeps | apply State.when_keeps | apply State.emit_keeps | apply Keeps.ite

theorem State.trigNext_keeps {M : Prop} {s0 s : State} (k : Nat) (hk : Keeps M s0 s) : Keeps M s0 (State.trigNext s k) := by
  unfold State.trigNext
  repeat' with_reducible first
    | assumption | apply State.wr_keeps | apply Keeps.ite

theorem execTriggerFire_keeps {M : Prop} {s0 s : State} (k : Fin 16)
    (hk : Keeps M s0 s) : NextKeeps M s0 (execTriggerFire k s) := by
  unfold execTriggerFire
  repeat' with_reducible first
    | assumption | apply State.trigNext_keeps | apply State.trigFires_keeps | apply Keeps.ite | apply NextKeeps.ite
      | apply NextKeeps.next

theorem State.trigPass_keeps {M : Prop} {s0 s : State} (old : Nat) (new : Nat)
    (hk : Keeps M s0 s) : Keeps M s0 (State.trigPass s old new) := by
  unfold State.trigPass
  repeat' with_reducible first
    | assumption | intro _ | lift_lets | apply State.each_keeps | apply State.trigFires_keeps | apply State.wr_keeps
      | apply State.bump_keeps | apply Keeps.ite

theorem State.moveTime_keeps {M : Prop} {s0 s : State} (v : Nat) (hk : Keeps M s0 s) : Keeps M s0 (State.moveTime s v) := by
  unfold State.moveTime
  repeat' with_reducible first
    | assumption | apply State.wr_keeps | apply State.trigPass_keeps | apply Keeps.ite

theorem State.timeWritten_keeps {M : Prop} {s0 s : State} (hk : Keeps M s0 s) : Keeps M s0 (State.timeWritten s) := by
  unfold State.timeWritten
  repeat' with_reducible first
    | assumption | apply State.servoTrack_keeps | apply Keeps.ite

theorem State.timeSetWrite_keeps {M : Prop} {s0 s : State} (v : Nat)
    (hk : Keeps M s0 s) : Keeps M s0 (State.timeSetWrite s v) := by
  unfold State.timeSetWrite
  repeat' with_reducible first
    | assumption | apply State.timeWritten_keeps | apply State.moveTime_keeps | apply Keeps.ite
      | fail_if_no_progress refine Keeps.upd rfl ?_

theorem State.timeAdjWrite_keeps {M : Prop} {s0 s : State} (v : Nat)
    (hk : Keeps M s0 s) : Keeps M s0 (State.timeAdjWrite s v) := by
  unfold State.timeAdjWrite
  repeat' with_reducible first
    | assumption | apply State.timeWritten_keeps | apply State.moveTime_keeps

theorem execTimeSet_keeps {M : Prop} {s0 s : State} (req : Req) (ns : BitVec 64)
    (hk : Keeps M s0 s) : NextKeeps M s0 (execTimeSet req ns s) := by
  unfold execTimeSet
  repeat' with_reducible first
    | assumption | intro _ | lift_lets | apply State.gate_keeps | apply State.timeSetWrite_keeps | apply Keeps.ite
      | apply NextKeeps.ite | apply NextKeeps.next

theorem execTimeAdj_keeps {M : Prop} {s0 s : State} (req : Req) (ns : BitVec 64)
    (hk : Keeps M s0 s) : NextKeeps M s0 (execTimeAdj req ns s) := by
  unfold execTimeAdj
  repeat' with_reducible first
    | assumption | intro _ | lift_lets | apply State.gate_keeps | apply State.timeAdjWrite_keeps | apply Keeps.ite
      | apply NextKeeps.ite | apply NextKeeps.next

theorem State.servoPi_keeps {M : Prop} {s0 s : State} (o : Int) (hk : Keeps M s0 s) : Keeps M s0 (State.servoPi s o) := by
  unfold State.servoPi
  repeat' with_reducible first
    | assumption | apply State.setFreq_keeps | apply State.wrS_keeps

theorem State.servoTrackOffset_keeps {M : Prop} {s0 s : State} (o : Int)
    (hk : Keeps M s0 s) : Keeps M s0 (State.servoTrackOffset s o) := by
  unfold State.servoTrackOffset
  repeat' with_reducible first
    | assumption | apply State.servoTrack_keeps | apply State.raise_keeps | apply State.bump_keeps
      | apply State.servoPi_keeps | apply State.wr_keeps | apply State.setPage_keeps | apply Keeps.ite

theorem State.offsetTake_keeps {M : Prop} {s0 s : State} (ns : Nat) (tag : Nat)
    (hk : Keeps M s0 s) : Keeps M s0 (State.offsetTake s ns tag) := by
  unfold State.offsetTake
  repeat' with_reducible first
    | assumption | apply State.bump_keeps | apply State.wr_keeps | apply State.holdFrom_keeps
      | apply State.moveTime_keeps | apply State.servoTrack_keeps | apply State.raise_keeps
      | apply State.servoPi_keeps | apply State.servoTrackOffset_keeps | apply Keeps.ite

theorem execOffsetWrite_keeps {M : Prop} {s0 s : State} (req : Req) (ns : BitVec 48) (tag : BitVec 4)
    (hk : Keeps M s0 s) : NextKeeps M s0 (execOffsetWrite req ns tag s) := by
  unfold execOffsetWrite
  repeat' with_reducible first
    | assumption | intro _ | lift_lets | apply State.gate_keeps | apply State.offsetTake_keeps | apply Keeps.ite
      | apply NextKeeps.ite | apply NextKeeps.next

theorem State.servoCtrl_keeps {M : Prop} {s0 s : State} (was : Bool) (data : Nat)
    (hk : Keeps M s0 s) : Keeps M s0 (State.servoCtrl s was data) := by
  unfold State.servoCtrl
  repeat' with_reducible first
    | assumption | apply State.setPage_keeps | apply State.wrS_keeps | apply Keeps.ite

theorem State.servoCtrlWrite_keeps {M : Prop} {s0 s : State} (req : Req) (data : Nat)
    (hk : Keeps M s0 s) : Keeps M s0 (State.servoCtrlWrite s req data) := by
  unfold State.servoCtrlWrite
  repeat' with_reducible first
    | assumption | intro _ | lift_lets | apply State.wordWrite_keeps | apply State.servoCtrl_keeps

theorem execServoEnWrite_keeps {M : Prop} {s0 s : State} (req : Req) (data : Word)
    (hk : Keeps M s0 s) : NextKeeps M s0 (execServoEnWrite req data s) := by
  unfold execServoEnWrite
  repeat' with_reducible first
    | assumption | intro _ | lift_lets | apply State.gate_keeps | apply State.servoCtrlWrite_keeps | apply Keeps.ite
      | apply NextKeeps.ite | apply NextKeeps.next

theorem execServoRearm_keeps {M : Prop} {s0 s : State} (req : Req) (data : Word)
    (hk : Keeps M s0 s) : NextKeeps M s0 (execServoRearm req data s) := by
  unfold execServoRearm
  repeat' with_reducible first
    | assumption | intro _ | lift_lets | apply State.gate_keeps | apply State.servoCtrlWrite_keeps | apply Keeps.ite
      | apply NextKeeps.ite | apply NextKeeps.next

theorem execServoHoldover_keeps {M : Prop} {s0 s : State} (hk : Keeps M s0 s) : NextKeeps M s0 (execServoHoldover s) := by
  unfold execServoHoldover
  repeat' with_reducible first
    | assumption | intro _ | lift_lets | apply State.when_keeps | apply State.setFreq_keeps | apply State.raise_keeps
      | apply State.setPage_keeps | apply Keeps.ite | apply NextKeeps.ite | apply NextKeeps.next

theorem State.trigCtrlWrite_keeps {M : Prop} {s0 s : State} (req : Req) (k : Nat) (data : Nat)
    (hk : Keeps M s0 s) : Keeps M s0 (State.trigCtrlWrite s req k data) := by
  unfold State.trigCtrlWrite
  repeat' with_reducible first
    | assumption | intro _ | lift_lets | apply State.errAt_keeps | apply State.wordWrite_keeps
      | apply State.trigNext_keeps | apply State.trigFires_keeps | apply State.raise_keeps | apply State.errOpen_keeps
      | apply State.wr_keeps | apply Keeps.ite

theorem execTrigArm_keeps {M : Prop} {s0 s : State} (req : Req) (k : Fin 16) (data : Word)
    (hk : Keeps M s0 s) : NextKeeps M s0 (execTrigArm req k data s) := by
  unfold execTrigArm
  repeat' with_reducible first
    | assumption | intro _ | lift_lets | apply State.gate_keeps | apply State.trigCtrlWrite_keeps | apply Keeps.ite
      | apply NextKeeps.ite | apply NextKeeps.next

theorem execCaptureEvent_keeps {M : Prop} {s0 s : State} (k : Fin 16)
    (hk : Keeps M s0 s) : NextKeeps M s0 (execCaptureEvent k s) := by
  unfold execCaptureEvent
  repeat' with_reducible first
    | assumption | apply State.bump_keeps | apply State.wr_keeps | apply State.raise_keeps | apply Keeps.ite
      | apply NextKeeps.ite | apply NextKeeps.next

theorem execX32Measure_keeps {M : Prop} {s0 s : State} (ppb : BitVec 31)
    (hk : Keeps M s0 s) : NextKeeps M s0 (execX32Measure ppb s) := by
  unfold execX32Measure
  repeat' with_reducible first
    | assumption | apply State.wr_keeps | apply Keeps.ite | apply NextKeeps.ite | apply NextKeeps.next
      | fail_if_no_progress refine Keeps.upd rfl ?_

theorem State.spoolPut_keeps {M : Prop} {s0 s : State} (a : Nat) (l : List Nat) (hM : M)
    (hk : Keeps M s0 s) : Keeps M s0 (State.spoolPut s a l) := by
  unfold State.spoolPut
  repeat' with_reducible first
    | assumption | apply State.portWrite_keeps

theorem execEthTxTail_keeps {M : Prop} {s0 s : State} (req : Req) (p : Fin 2) (v : Word)
    (hk : Keeps M s0 s) : NextKeeps M s0 (execEthTxTail req p v s) := by
  unfold execEthTxTail
  repeat' with_reducible first
    | assumption | apply State.errAt_keeps | intro _ | lift_lets | apply State.gate_keeps | apply State.wordWrite_keeps | apply Keeps.ite
      | apply NextKeeps.ite | apply NextKeeps.next

theorem execEthTxDone_keeps {M : Prop} {s0 s : State} (p : Fin 2) (hM : M)
    (hk : Keeps M s0 s) : NextKeeps M s0 (execEthTxDone p s) := by
  unfold execEthTxDone
  repeat' with_reducible first
    | assumption | apply State.errOpen_keeps | apply State.bump_keeps | apply State.emit_keeps
      | apply State.raise_keeps | apply State.wr_keeps | apply State.spoolPut_keeps | apply Keeps.ite
      | apply NextKeeps.ite | apply NextKeeps.next

theorem execEthRxFrame_keeps {M : Prop} {s0 s : State} (p : Fin 2) (bytes : List Byte) (bad : Bool) (hM : M)
    (hk : Keeps M s0 s) : NextKeeps M s0 (execEthRxFrame p bytes bad s) := by
  unfold execEthRxFrame
  repeat' with_reducible first
    | assumption | intro _ | lift_lets | apply State.when_keeps | apply State.bump_keeps | apply State.spoolPut_keeps
      | apply State.raise_keeps | apply State.wr_keeps | apply Keeps.ite | apply NextKeeps.ite | apply NextKeeps.next

theorem execEthLinkUp_keeps {M : Prop} {s0 s : State} (p : Fin 2)
    (hk : Keeps M s0 s) : NextKeeps M s0 (execEthLinkUp p s) := by
  unfold execEthLinkUp
  repeat' with_reducible first
    | assumption | apply State.raise_keeps | apply State.setPage_keeps | apply Keeps.ite | apply NextKeeps.ite
      | apply NextKeeps.next

theorem execEthLinkDown_keeps {M : Prop} {s0 s : State} (p : Fin 2)
    (hk : Keeps M s0 s) : NextKeeps M s0 (execEthLinkDown p s) := by
  unfold execEthLinkDown
  repeat' with_reducible first
    | assumption | apply State.raise_keeps | apply State.setPage_keeps | apply Keeps.ite | apply NextKeeps.ite
      | apply NextKeeps.next

/-! ### Cal -/

theorem State.calServed_keeps {M : Prop} {s0 s : State} (item : Nat) (inst : Nat) (p : Page)
    (hk : Keeps M s0 s) : Keeps M s0 (State.calServed s item inst p) := by
  unfold State.calServed
  repeat' with_reducible first
    | assumption | apply State.setOverdue_keeps | apply Keeps.ite | fail_if_no_progress refine Keeps.upd rfl ?_

theorem State.dllBegin_keeps {M : Prop} {s0 s : State} (c : Clu) (hk : Keeps M s0 s) : Keeps M s0 (State.dllBegin s c) := by
  unfold State.dllBegin
  repeat' with_reducible first
    | assumption | intro _ | lift_lets | apply State.wr_keeps | apply State.forceOp_keeps | apply State.each_keeps
      | apply State.setLane_keeps | apply State.setPage_keeps | apply Keeps.ite

theorem State.calBegin_keeps {M : Prop} {s0 s : State} (item : Nat) (inst : Nat)
    (hk : Keeps M s0 s) : Keeps M s0 (State.calBegin s item inst) := by
  unfold State.calBegin
  repeat' with_reducible first
    | assumption | apply State.bump_keeps | apply State.calServed_keeps | apply State.wr_keeps
      | apply State.dllBegin_keeps | apply Keeps.ite | fail_if_no_progress refine Keeps.upd rfl ?_ | split

theorem execCalStart_keeps {M : Prop} {s0 s : State} (item : CalItem) (inst : BitVec 6)
    (hk : Keeps M s0 s) : NextKeeps M s0 (execCalStart item inst s) := by
  unfold execCalStart
  repeat' with_reducible first
    | assumption | apply State.calBegin_keeps | apply Keeps.ite | apply NextKeeps.ite | apply NextKeeps.next

theorem State.calCmdWrite_keeps {M : Prop} {s0 s : State} (req : Req) (data : Nat)
    (hk : Keeps M s0 s) : Keeps M s0 (State.calCmdWrite s req data) := by
  unfold State.calCmdWrite
  repeat' with_reducible first
    | assumption | apply State.errAt_keeps | apply State.errOpen_keeps | apply State.calBegin_keeps | apply Keeps.ite

theorem execCalRun_keeps {M : Prop} {s0 s : State} (req : Req) (item : BitVec 4) (inst : BitVec 6)
    (hk : Keeps M s0 s) : NextKeeps M s0 (execCalRun req item inst s) := by
  unfold execCalRun
  repeat' with_reducible first
    | assumption | intro _ | lift_lets | apply State.command_keeps | apply State.calCmdWrite_keeps | apply Keeps.ite
      | apply NextKeeps.ite | apply NextKeeps.next

theorem State.dllEnd_keeps {M : Prop} {s0 s : State} (c : Clu) (lock : Bool)
    (hk : Keeps M s0 s) : Keeps M s0 (State.dllEnd s c lock) := by
  unfold State.dllEnd
  repeat' with_reducible first
    | assumption | intro _ | lift_lets | apply State.setPage_keeps | apply State.flag_keeps | apply State.each_keeps
      | apply State.setLane_keeps | apply State.armNext_keeps | apply State.restoreOp_keeps | apply Keeps.ite

theorem State.calGone_keeps {M : Prop} {s0 s : State} (item : Nat) (inst : Nat)
    (hk : Keeps M s0 s) : Keeps M s0 (State.calGone s item inst) := by
  unfold State.calGone
  repeat' with_reducible first
    | assumption | apply Keeps.ite | fail_if_no_progress refine Keeps.upd rfl ?_

theorem State.calDone_keeps {M : Prop} {s0 s : State} (item : Nat) (inst : Nat) (qual : Nat) (p : Page)
    (hk : Keeps M s0 s) : Keeps M s0 (State.calDone s item inst qual p) := by
  unfold State.calDone
  repeat' with_reducible first
    | assumption | apply State.calLet_keeps | apply State.calGone_keeps | apply State.wr_keeps
      | apply State.bump_keeps | apply State.raise_keeps | apply Keeps.ite
      | fail_if_no_progress refine Keeps.upd rfl ?_

theorem State.calReject_keeps {M : Prop} {s0 s : State} (item : Nat) (inst : Nat) (p : Page)
    (hk : Keeps M s0 s) : Keeps M s0 (State.calReject s item inst p) := by
  unfold State.calReject
  repeat' with_reducible first
    | assumption | apply State.calLet_keeps | apply State.calGone_keeps | apply State.bump_keeps
      | apply State.raise_keeps | apply State.err_keeps | apply State.wr_keeps | apply Keeps.ite

theorem State.calEyes_keeps {M : Prop} {s0 s : State} (p : Page) (eyes : List (BitVec 16 × BitVec 16))
    (hk : Keeps M s0 s) : Keeps M s0 (State.calEyes s p eyes) := by
  unfold State.calEyes
  repeat' with_reducible first
    | assumption | intro _ | lift_lets | apply State.each_keeps | apply State.wr_keeps

theorem execCalResult_keeps {M : Prop} {s0 s : State} (item : CalItem) (inst : BitVec 6) (code : BitVec 16) (qual : Word) (eyes : List (BitVec 16 × BitVec 16))
    (hk : Keeps M s0 s) : NextKeeps M s0 (execCalResult item inst code qual eyes s) := by
  unfold execCalResult
  dsimp only [State.draw, id]
  repeat' with_reducible first
    | assumption | intro _ | apply State.calReject_keeps | apply State.calDone_keeps | apply State.calEyes_keeps
      | apply State.wr_keeps | apply State.dllEnd_keeps | apply Keeps.ite | apply NextKeeps.ite | apply NextKeeps.next
      | fail_if_no_progress refine Keeps.upd rfl ?_ | split

theorem execCalStep_keeps {M : Prop} {s0 s : State} (item : CalItem) (inst : BitVec 6) (eye : BitVec 16)
    (hk : Keeps M s0 s) : NextKeeps M s0 (execCalStep item inst eye s) := by
  unfold execCalStep
  dsimp only [State.draw, id]
  repeat' with_reducible first
    | assumption | intro _ | apply State.wr_keeps | apply State.calDone_keeps | apply Keeps.ite | apply NextKeeps.ite
      | apply NextKeeps.next | fail_if_no_progress refine Keeps.upd rfl ?_ | split

theorem State.calNotice_keeps {M : Prop} {s0 s : State} (hk : Keeps M s0 s) : Keeps M s0 (State.calNotice s) := by
  unfold State.calNotice
  repeat' with_reducible first
    | assumption | apply Keeps.ite | fail_if_no_progress refine Keeps.upd rfl ?_

theorem execCalOverdue_keeps {M : Prop} {s0 s : State} (item : CalItem) (inst : BitVec 6)
    (hk : Keeps M s0 s) : NextKeeps M s0 (execCalOverdue item inst s) := by
  unfold execCalOverdue
  repeat' with_reducible first
    | assumption | intro _ | lift_lets | apply State.setOverdue_keeps | apply Keeps.ite | apply NextKeeps.ite
      | apply NextKeeps.next | fail_if_no_progress refine Keeps.upd rfl ?_ | split

theorem State.calAbortAll_keeps {M : Prop} {s0 s : State} (hk : Keeps M s0 s) : Keeps M s0 (State.calAbortAll s) := by
  unfold State.calAbortAll
  repeat' with_reducible first
    | assumption | intro _ | lift_lets | apply State.calAbort_keeps | apply State.each_keeps
      | apply State.dllEnd_keeps

theorem State.dllAbort_keeps {M : Prop} {s0 s : State} (c : Clu) (hk : Keeps M s0 s) : Keeps M s0 (State.dllAbort s c) := by
  unfold State.dllAbort
  repeat' with_reducible first
    | assumption | intro _ | lift_lets | apply State.each_keeps | apply State.calAbort_keeps
      | apply State.dllEnd_keeps

theorem State.calForget_keeps {M : Prop} {s0 s : State} (c : Clu)
    (hk : Keeps M s0 s) : Keeps M s0 (State.calForget s c) := by
  unfold State.calForget
  repeat' with_reducible first
    | assumption | apply Keeps.ite | fail_if_no_progress refine Keeps.upd rfl ?_

/-! ### Pair -/

theorem execPairLinkUp_keeps {M : Prop} {s0 s : State} (pol : BitVec 4) (reversed : Bool) (mapOk : Bool) (skew : BitVec 5)
    (hk : Keeps M s0 s) : NextKeeps M s0 (execPairLinkUp pol reversed mapOk skew s) := by
  unfold execPairLinkUp
  repeat' with_reducible first
    | assumption | apply State.wr_keeps | apply State.flag_keeps | apply State.raise_keeps | apply State.errOpen_keeps
      | apply Keeps.ite | apply NextKeeps.ite | apply NextKeeps.next

theorem execPairLinkDown_keeps {M : Prop} {s0 s : State} (lock : BitVec 4)
    (hk : Keeps M s0 s) : NextKeeps M s0 (execPairLinkDown lock s) := by
  unfold execPairLinkDown
  repeat' with_reducible first
    | assumption | apply State.raise_keeps | apply State.wr_keeps | apply Keeps.ite | apply NextKeeps.ite
      | apply NextKeeps.next

theorem State.pairSend_keeps {M : Prop} {s0 s : State} (mtype : Nat) (body : List Nat)
    (hk : Keeps M s0 s) : Keeps M s0 (State.pairSend s mtype body) := by
  unfold State.pairSend
  repeat' with_reducible first
    | assumption | apply State.emit_keeps

theorem State.pairTake_keeps {M : Prop} {s0 s : State} (msg : List Byte) (len : Nat) (act : State → List Nat → State) (hact : ∀ x0 x1, Keeps M s0 x0 → Keeps M s0 (act x0 x1))
    (hk : Keeps M s0 s) : Keeps M s0 (State.pairTake s msg len act) := by
  unfold State.pairTake
  repeat' with_reducible first
    | assumption | apply hact | apply State.bump_keeps | apply Keeps.ite | fail_if_no_progress refine Keeps.upd rfl ?_
      | split

theorem execHeartbeatSend_keeps {M : Prop} {s0 s : State} (hk : Keeps M s0 s) : NextKeeps M s0 (execHeartbeatSend s) := by
  unfold execHeartbeatSend
  repeat' with_reducible first
    | assumption | apply State.pairSend_keeps | apply Keeps.ite | apply NextKeeps.ite | apply NextKeeps.next
      | fail_if_no_progress refine Keeps.upd rfl ?_

theorem State.wlCheck_keeps {M : Prop} {s0 s : State} (wl : Nat) (hk : Keeps M s0 s) : Keeps M s0 (State.wlCheck s wl) := by
  unfold State.wlCheck
  repeat' with_reducible first
    | assumption | apply State.wr_keeps | apply State.raise_keeps | apply State.bump_keeps | apply State.errOpen_keeps
      | apply Keeps.ite | fail_if_no_progress refine Keeps.upd rfl ?_

theorem State.alignCheck_keeps {M : Prop} {s0 s : State} (wl : Nat)
    (hk : Keeps M s0 s) : Keeps M s0 (State.alignCheck s wl) := by
  unfold State.alignCheck
  repeat' with_reducible first
    | assumption | intro _ | lift_lets | apply State.when_keeps | apply State.errOpen_keeps | apply Keeps.ite
      | fail_if_no_progress refine Keeps.upd rfl ?_

theorem State.hbTake_keeps {M : Prop} {s0 s : State} (b : List Nat)
    (hk : Keeps M s0 s) : Keeps M s0 (State.hbTake s b) := by
  unfold State.hbTake
  repeat' with_reducible first
    | assumption | intro _ | lift_lets | apply State.when_keeps | apply State.errOpen_keeps | apply State.raise_keeps
      | apply State.wr_keeps | apply State.flag_keeps | apply State.bump_keeps | apply State.settleRole_keeps
      | apply State.alignCheck_keeps | apply State.wlCheck_keeps | apply Keeps.ite
      | fail_if_no_progress refine Keeps.upd rfl ?_

theorem execHeartbeatReceive_keeps {M : Prop} {s0 s : State} (msg : List Byte)
    (hk : Keeps M s0 s) : NextKeeps M s0 (execHeartbeatReceive msg s) := by
  unfold execHeartbeatReceive
  repeat' with_reducible first
    | assumption | apply State.pairTake_keeps | apply State.hbTake_keeps | apply Keeps.ite | apply NextKeeps.ite
      | apply NextKeeps.next

theorem execHbMiss_keeps {M : Prop} {s0 s : State} (hk : Keeps M s0 s) : NextKeeps M s0 (execHbMiss s) := by
  unfold execHbMiss
  repeat' with_reducible first
    | assumption | intro _ | lift_lets | apply State.when_keeps | apply State.bump_keeps | apply State.raise_keeps
      | apply Keeps.ite | apply NextKeeps.ite | apply NextKeeps.next | fail_if_no_progress refine Keeps.upd rfl ?_

theorem execHeartbeatTimeout_keeps {M : Prop} {s0 s : State}
    (hk : Keeps M s0 s) : NextKeeps M s0 (execHeartbeatTimeout s) := by
  unfold execHeartbeatTimeout
  repeat' with_reducible first
    | assumption | apply State.promoteFor_keeps | apply Keeps.ite | apply NextKeeps.ite | apply NextKeeps.next

theorem execPfaultI_keeps {M : Prop} {s0 s : State} (level : Bool)
    (hk : Keeps M s0 s) : NextKeeps M s0 (execPfaultI level s) := by
  unfold execPfaultI
  repeat' with_reducible first
    | assumption | apply State.flag_keeps | apply State.promoteFor_keeps | apply Keeps.ite | apply NextKeeps.ite
      | apply NextKeeps.next

theorem execRoleIRise_keeps {M : Prop} {s0 s : State} (level : Bool)
    (hk : Keeps M s0 s) : NextKeeps M s0 (execRoleIRise level s) := by
  unfold execRoleIRise
  repeat' with_reducible first
    | assumption | apply State.flag_keeps | apply State.demote_keeps | apply Keeps.ite | apply NextKeeps.ite
      | apply NextKeeps.next

theorem State.alignWrite_keeps {M : Prop} {s0 s : State} (hk : Keeps M s0 s) : Keeps M s0 (State.alignWrite s) := by
  unfold State.alignWrite
  repeat' with_reducible first
    | assumption | apply State.pairSend_keeps | apply Keeps.ite | fail_if_no_progress refine Keeps.upd rfl ?_

theorem execPairAlign_keeps {M : Prop} {s0 s : State} (req : Req)
    (hk : Keeps M s0 s) : NextKeeps M s0 (execPairAlign req s) := by
  unfold execPairAlign
  repeat' with_reducible first
    | assumption | apply State.command_keeps | apply State.alignWrite_keeps | apply Keeps.ite | apply NextKeeps.ite
      | apply NextKeeps.next

theorem execAlignReceive_keeps {M : Prop} {s0 s : State} (msg : List Byte)
    (hk : Keeps M s0 s) : NextKeeps M s0 (execAlignReceive msg s) := by
  unfold execAlignReceive
  repeat' with_reducible first
    | assumption | intro _ | lift_lets | apply State.pairTake_keeps | apply State.setWl_keeps
      | apply State.settleReverse_keeps | apply State.errOpen_keeps | apply Keeps.ite | apply NextKeeps.ite
      | apply NextKeeps.next | fail_if_no_progress refine Keeps.upd rfl ?_

theorem State.handoverWrite_keeps {M : Prop} {s0 s : State} (hk : Keeps M s0 s) : Keeps M s0 (State.handoverWrite s) := by
  unfold State.handoverWrite
  repeat' with_reducible first
    | assumption | apply State.pairSend_keeps | apply State.errOpen_keeps | apply Keeps.ite
      | fail_if_no_progress refine Keeps.upd rfl ?_

theorem execPairHandover_keeps {M : Prop} {s0 s : State} (req : Req)
    (hk : Keeps M s0 s) : NextKeeps M s0 (execPairHandover req s) := by
  unfold execPairHandover
  repeat' with_reducible first
    | assumption | apply State.command_keeps | apply State.handoverWrite_keeps | apply Keeps.ite | apply NextKeeps.ite
      | apply NextKeeps.next

theorem execHandoverReceive_keeps {M : Prop} {s0 s : State} (msg : List Byte)
    (hk : Keeps M s0 s) : NextKeeps M s0 (execHandoverReceive msg s) := by
  unfold execHandoverReceive
  repeat' with_reducible first
    | assumption | intro _ | lift_lets | apply State.pairTake_keeps | apply State.promoteFor_keeps | apply Keeps.ite
      | apply NextKeeps.ite | apply NextKeeps.next

theorem State.fwWrite_keeps {M : Prop} {s0 s : State} (hk : Keeps M s0 s) : Keeps M s0 (State.fwWrite s) := by
  unfold State.fwWrite
  repeat' with_reducible first
    | assumption | apply State.errOpen_keeps | apply State.wr_keeps | apply State.pairSend_keeps | apply Keeps.ite
      | fail_if_no_progress refine Keeps.upd rfl ?_

theorem execFwSend_keeps {M : Prop} {s0 s : State} (req : Req) (hk : Keeps M s0 s) : NextKeeps M s0 (execFwSend req s) := by
  unfold execFwSend
  repeat' with_reducible first
    | assumption | apply State.command_keeps | apply State.fwWrite_keeps | apply Keeps.ite | apply NextKeeps.ite
      | apply NextKeeps.next

theorem execFwReceive_keeps {M : Prop} {s0 s : State} (msg : List Byte)
    (hk : Keeps M s0 s) : NextKeeps M s0 (execFwReceive msg s) := by
  unfold execFwReceive
  repeat' with_reducible first
    | assumption | intro _ | lift_lets | apply State.pairTake_keeps | apply State.bump_keeps | apply State.each_keeps
      | apply State.wr_keeps | apply State.raise_keeps | apply Keeps.ite | apply NextKeeps.ite | apply NextKeeps.next

end Sys2Proof.Machine
end

