-- ==== Sys2Proof/Laws/KeepsBands.lean ====
section
/-! SUPPORT. What `Keeps` says, for each operation and each meaning of screening, tables, codec, the Last, the line tick, boot
and events. -/

namespace Sys2Proof.Machine

/-! ### Screen -/

theorem State.seamSend_keeps {M : Prop} {s0 s : State} (nb : Option Lane) (toRight : Bool) (w : SeamWord)
    (hk : Keeps M s0 s) : Keeps M s0 (State.seamSend s nb toRight w) := by
  unfold State.seamSend
  repeat' with_reducible first
    | assumption | apply State.modLane_keeps | apply Keeps.ite | fail_if_no_progress refine Keeps.upd rfl ?_ | split

theorem State.seamSeq_keeps {M : Prop} {s0 s : State} (l : Lane) (w : Option SeamWord) (line : Nat)
    (hk : Keeps M s0 s) : Keeps M s0 (State.seamSeq s l w line) := by
  unfold State.seamSeq
  repeat' with_reducible first
    | assumption | apply State.modLane_keeps | apply State.raise_keeps | apply State.err_keeps
      | apply State.bump_keeps | apply Keeps.ite | fail_if_no_progress refine Keeps.upd rfl ?_ | split

theorem State.lineCommits_keeps {M : Prop} {s0 s : State} (l : Lane) (band : Bool) (first : Bool) (wl : Nat)
    (hk : Keeps M s0 s) : Keeps M s0 (State.lineCommits s l band first wl) := by
  unfold State.lineCommits
  repeat' with_reducible first
    | assumption | apply State.commitsAt_keeps | apply Keeps.ite

theorem State.lineTaken_keeps {M : Prop} {s0 s : State} (l : Lane) (i : InLine) (stall : Nat) (was : Bool) (taint : Bool)
    (hk : Keeps M s0 s) : Keeps M s0 (State.lineTaken s l i stall was taint) := by
  unfold State.lineTaken
  repeat' with_reducible first
    | assumption | intro _ | lift_lets | apply State.modLane_keeps | apply State.bump_keeps | apply State.wr_keeps
      | apply State.when_keeps | apply State.flag_keeps | apply State.raise_keeps

theorem State.lineReset_keeps {M : Prop} {s0 s : State} (l : Lane) (i : InLine)
    (hk : Keeps M s0 s) : Keeps M s0 (State.lineReset s l i) := by
  unfold State.lineReset
  repeat' with_reducible first
    | assumption | apply State.modLane_keeps | apply Keeps.ite

theorem State.seamTake_keeps {M : Prop} {s0 s : State} (l : Lane) (a : Option SeamWord) (b : Option SeamWord) (w : Nat)
    (hk : Keeps M s0 s) : Keeps M s0 (State.seamTake s l a b w) := by
  unfold State.seamTake
  repeat' with_reducible first
    | assumption | apply State.bump_keeps | apply State.modLane_keeps | apply State.seamSeq_keeps

theorem State.seamOut_keeps {M : Prop} {s0 s : State} (l : Lane) (i : InLine) (n : Nat) (e : Nat → Int) (taint : Bool)
    (hk : Keeps M s0 s) : Keeps M s0 (State.seamOut s l i n e taint) := by
  unfold State.seamOut
  repeat' with_reducible first
    | assumption | apply State.seamSend_keeps

theorem State.countTaint_keeps {M : Prop} {s0 s : State} (l : Lane) (taint : Bool)
    (hk : Keeps M s0 s) : Keeps M s0 (State.countTaint s l taint) := by
  unfold State.countTaint
  repeat' with_reducible first
    | assumption | intro _ | lift_lets | apply State.when_keeps | apply State.bump_keeps

theorem State.toFifo_keeps {M : Prop} {s0 s : State} (l : Lane) (i : InLine) (levels : List Nat) (taint : Bool)
    (hk : Keeps M s0 s) : Keeps M s0 (State.toFifo s l i levels taint) := by
  unfold State.toFifo
  repeat' with_reducible first
    | assumption | apply State.countTaint_keeps | apply State.bump_keeps | apply State.modLane_keeps | apply Keeps.ite

theorem State.screenUe_keeps {M : Prop} {s0 s : State} (l : Lane) (ue : Option (SramUe × Bool))
    (hk : Keeps M s0 s) : Keeps M s0 (State.screenUe s l ue) := by
  unfold State.screenUe
  repeat' with_reducible first
    | assumption | apply State.laneUe_keeps | apply State.denSramUe_keeps | apply State.errOpen_keeps
      | apply Keeps.ite | fail_if_no_progress refine Keeps.upd rfl ?_ | split

theorem State.screenPlain_keeps {M : Prop} {s0 s : State} (l : Lane) (i : InLine) (stall : Nat) (bad : Bool)
    (hk : Keeps M s0 s) : Keeps M s0 (State.screenPlain s l i stall bad) := by
  unfold State.screenPlain
  repeat' with_reducible first
    | assumption | apply State.lineTaken_keeps | apply State.toFifo_keeps | apply Keeps.ite
      | fail_if_no_progress refine Keeps.upd rfl ?_ | split

theorem State.screenDiffuse_keeps {M : Prop} {s0 s : State} (l : Lane) (i : InLine) (stall : Nat) (bad : Bool) (a : Option SeamWord) (b : Option SeamWord)
    (hk : Keeps M s0 s) : Keeps M s0 (State.screenDiffuse s l i stall bad a b) := by
  unfold State.screenDiffuse
  repeat' with_reducible first
    | assumption | apply State.lineReset_keeps | apply State.seamTake_keeps | apply State.modLane_keeps
      | apply State.lineTaken_keeps | apply State.countTaint_keeps | apply State.seamOut_keeps
      | apply State.toFifo_keeps | apply Keeps.ite | fail_if_no_progress refine Keeps.upd rfl ?_ | split

theorem execLineScreenStart_keeps {M : Prop} {s0 s : State} (l : Lane) (stall : BitVec 16) (ue : Option (SramUe × Bool))
    (hk : Keeps M s0 s) : NextKeeps M s0 (execLineScreenStart l stall ue s) := by
  unfold execLineScreenStart
  dsimp only [State.draw, id]
  repeat' with_reducible first
    | assumption | intro _ | apply State.lineCommits_keeps | apply State.screenDiffuse_keeps
      | apply State.screenUe_keeps | apply State.modLane_keeps | apply State.screenPlain_keeps | apply Keeps.ite
      | apply NextKeeps.ite | apply NextKeeps.next | fail_if_no_progress refine Keeps.upd rfl ?_ | split

theorem execSeamWordArrive_keeps {M : Prop} {s0 s : State} (l : Lane) (left : Bool) (ecc : Ecc)
    (hk : Keeps M s0 s) : NextKeeps M s0 (execSeamWordArrive l left ecc s) := by
  unfold execSeamWordArrive
  dsimp only [State.draw, id]
  repeat' with_reducible first
    | assumption | intro _ | apply State.bump_keeps | apply State.raise_keeps | apply State.err_keeps
      | apply State.modLane_keeps | apply Keeps.ite | apply NextKeeps.ite | apply NextKeeps.next
      | fail_if_no_progress refine Keeps.upd rfl ?_ | split

theorem execSeamTimeout_keeps {M : Prop} {s0 s : State} (l : Lane) (left : Bool)
    (hk : Keeps M s0 s) : NextKeeps M s0 (execSeamTimeout l left s) := by
  unfold execSeamTimeout
  repeat' with_reducible first
    | assumption | intro _ | lift_lets | apply State.raise_keeps | apply State.err_keeps | apply State.bump_keeps
      | apply State.modLane_keeps | apply Keeps.ite | apply NextKeeps.ite | apply NextKeeps.next
      | fail_if_no_progress refine Keeps.upd rfl ?_ | split

/-! ### Tables -/

theorem State.winRefuse_keeps {M : Prop} {s0 s : State} (l : Lane) (nn : Nat) (off : Nat)
    (hk : Keeps M s0 s) : Keeps M s0 (State.winRefuse s l nn off) := by
  unfold State.winRefuse
  repeat' with_reducible first
    | assumption | apply State.err_keeps

theorem State.windowWrite_keeps {M : Prop} {s0 s : State} (l : Lane) (off : Nat) (data : Nat)
    (hk : Keeps M s0 s) : Keeps M s0 (State.windowWrite s l off data) := by
  unfold State.windowWrite
  repeat' with_reducible first
    | assumption | intro _ | lift_lets | apply State.winRefuse_keeps | apply State.when_keeps
      | apply State.setWin_keeps | apply State.wr_keeps | apply Keeps.ite

theorem execTableWindowWrite_keeps {M : Prop} {s0 s : State} (req : Req) (l : Lane) (off : BitVec 18) (data : Word)
    (hk : Keeps M s0 s) : NextKeeps M s0 (execTableWindowWrite req l off data s) := by
  unfold execTableWindowWrite
  repeat' with_reducible first
    | assumption | intro _ | lift_lets | apply State.hostTouch_keeps | apply State.answerError_keeps
      | apply State.fabError_keeps | apply State.windowWrite_keeps | apply Keeps.ite | apply NextKeeps.ite
      | apply NextKeeps.next | fail_if_no_progress refine Keeps.upd rfl ?_ | split

theorem State.tblCrcGo_keeps {M : Prop} {s0 s : State} (req : Req) (l : Lane)
    (hk : Keeps M s0 s) : Keeps M s0 (State.tblCrcGo s req l) := by
  unfold State.tblCrcGo
  repeat' with_reducible first
    | assumption | apply State.errAt_keeps | apply State.lneBusy_keeps | apply State.modLane_keeps | apply Keeps.ite

theorem execTblCrcGo_keeps {M : Prop} {s0 s : State} (req : Req) (l : Lane)
    (hk : Keeps M s0 s) : NextKeeps M s0 (execTblCrcGo req l s) := by
  unfold execTblCrcGo
  repeat' with_reducible first
    | assumption | intro _ | lift_lets | apply State.command_keeps | apply State.tblCrcGo_keeps | apply Keeps.ite
      | apply NextKeeps.ite | apply NextKeeps.next

theorem execTblCrcDone_keeps {M : Prop} {s0 s : State} (l : Lane)
    (hk : Keeps M s0 s) : NextKeeps M s0 (execTblCrcDone l s) := by
  unfold execTblCrcDone
  repeat' with_reducible first
    | assumption | apply State.wr_keeps | apply State.lneBusy_keeps | apply State.modLane_keeps
      | apply State.raise_keeps | apply Keeps.ite | apply NextKeeps.ite | apply NextKeeps.next

theorem State.matCmdWrite_keeps {M : Prop} {s0 s : State} (req : Req) (c : Clu) (data : Nat)
    (hk : Keeps M s0 s) : Keeps M s0 (State.matCmdWrite s req c data) := by
  unfold State.matCmdWrite
  repeat' with_reducible first
    | assumption | apply State.errAt_keeps | apply State.wr_keeps | apply State.modClu_keeps | apply Keeps.ite

theorem execMatLoad_keeps {M : Prop} {s0 s : State} (req : Req) (c : Clu)
    (hk : Keeps M s0 s) : NextKeeps M s0 (execMatLoad req c s) := by
  unfold execMatLoad
  repeat' with_reducible first
    | assumption | intro _ | lift_lets | apply State.command_keeps | apply State.matCmdWrite_keeps | apply Keeps.ite
      | apply NextKeeps.ite | apply NextKeeps.next

theorem execMatCrc_keeps {M : Prop} {s0 s : State} (req : Req) (c : Clu)
    (hk : Keeps M s0 s) : NextKeeps M s0 (execMatCrc req c s) := by
  unfold execMatCrc
  repeat' with_reducible first
    | assumption | intro _ | lift_lets | apply State.command_keeps | apply State.matCmdWrite_keeps | apply Keeps.ite
      | apply NextKeeps.ite | apply NextKeeps.next

theorem State.matEnd_keeps {M : Prop} {s0 s : State} (c : Clu) (hk : Keeps M s0 s) : Keeps M s0 (State.matEnd s c) := by
  unfold State.matEnd
  repeat' with_reducible first
    | assumption | apply State.wr_keeps | apply State.modClu_keeps

theorem execMatLoadEnd_keeps {M : Prop} {s0 s : State} (c : Clu) (ue : Option (BitVec 16))
    (hk : Keeps M s0 s) : NextKeeps M s0 (execMatLoadEnd c ue s) := by
  unfold execMatLoadEnd
  dsimp only [State.draw, id]
  repeat' with_reducible first
    | assumption | intro _ | apply State.when_keeps | apply State.portWake_keeps | apply State.ddrUe_keeps
      | apply State.modClu_keeps | apply State.matEnd_keeps | apply State.raise_keeps | apply State.wr_keeps
      | apply State.err_keeps | apply Keeps.ite | apply NextKeeps.ite | apply NextKeeps.next
      | fail_if_no_progress refine Keeps.upd rfl ?_ | split

theorem execMatCrcEnd_keeps {M : Prop} {s0 s : State} (c : Clu)
    (hk : Keeps M s0 s) : NextKeeps M s0 (execMatCrcEnd c s) := by
  unfold execMatCrcEnd
  repeat' with_reducible first
    | assumption | apply State.matEnd_keeps | apply State.raise_keeps | apply State.wr_keeps | apply Keeps.ite
      | apply NextKeeps.ite | apply NextKeeps.next | fail_if_no_progress refine Keeps.upd rfl ?_ | split

/-! ### Codec -/

theorem State.setPreset_keeps {M : Prop} {s0 s : State} (id : Nat) (b : Bool)
    (hk : Keeps M s0 s) : Keeps M s0 (State.setPreset s id b) := by
  unfold State.setPreset
  repeat' with_reducible first
    | assumption | intro _ | lift_lets | apply State.when_keeps | apply State.raise_keeps | apply State.wr_keeps
      | apply Keeps.ite | fail_if_no_progress refine Keeps.upd rfl ?_

theorem State.clearPresets_keeps {M : Prop} {s0 s : State} (hk : Keeps M s0 s) : Keeps M s0 (State.clearPresets s) := by
  unfold State.clearPresets
  repeat' with_reducible first
    | assumption | intro _ | lift_lets | apply State.each_keeps | apply State.setPreset_keeps

theorem execPresetLoad_keeps {M : Prop} {s0 s : State} (entry : BitVec 512)
    (hk : Keeps M s0 s) : NextKeeps M s0 (execPresetLoad entry s) := by
  unfold execPresetLoad
  repeat' with_reducible first
    | assumption | intro _ | lift_lets | apply State.admin_keeps | apply State.adminFail_keeps
      | apply State.dmaStart_keeps | apply Keeps.ite | apply NextKeeps.ite | apply NextKeeps.next
      | fail_if_no_progress refine Keeps.upd rfl ?_

theorem execPresetLoadDone_keeps {M : Prop} {s0 s : State} (id : BitVec 8) (data : List Byte) (hM : M)
    (hk : Keeps M s0 s) : NextKeeps M s0 (execPresetLoadDone id data s) := by
  unfold execPresetLoadDone
  repeat' with_reducible first
    | assumption | apply State.portWake_keeps | apply State.dmaOver_keeps | apply State.portWrite_keeps
      | apply State.pushCqe_keeps | apply State.setPreset_keeps | apply Keeps.ite | apply NextKeeps.ite
      | apply NextKeeps.next | fail_if_no_progress refine Keeps.upd rfl ?_

theorem execPresetDrop_keeps {M : Prop} {s0 s : State} (entry : BitVec 512)
    (hk : Keeps M s0 s) : NextKeeps M s0 (execPresetDrop entry s) := by
  unfold execPresetDrop
  repeat' with_reducible first
    | assumption | intro _ | lift_lets | apply State.admin_keeps | apply State.adminFail_keeps
      | apply State.setPreset_keeps | apply Keeps.ite | apply NextKeeps.ite | apply NextKeeps.next
      | fail_if_no_progress refine Keeps.upd rfl ?_

theorem execPresetDropDone_keeps {M : Prop} {s0 s : State} (id : BitVec 8)
    (hk : Keeps M s0 s) : NextKeeps M s0 (execPresetDropDone id s) := by
  unfold execPresetDropDone
  repeat' with_reducible first
    | assumption | apply State.pushCqe_keeps | apply Keeps.ite | apply NextKeeps.ite | apply NextKeeps.next
      | fail_if_no_progress refine Keeps.upd rfl ?_

theorem State.slotTake_keeps {M : Prop} {s0 s : State} (k : Nat) (desc : Nat)
    (hk : Keeps M s0 s) : Keeps M s0 (State.slotTake s k desc) := by
  unfold State.slotTake
  repeat' with_reducible first
    | assumption | apply State.wr_keeps | apply Keeps.ite | fail_if_no_progress refine Keeps.upd rfl ?_

theorem State.slotLetGo_keeps {M : Prop} {s0 s : State} (k : Nat)
    (hk : Keeps M s0 s) : Keeps M s0 (State.slotLetGo s k) := by
  unfold State.slotLetGo
  repeat' with_reducible first
    | assumption | apply State.settleCodec_keeps | apply Keeps.ite | fail_if_no_progress refine Keeps.upd rfl ?_

theorem State.jobEnd_keeps {M : Prop} {s0 s : State} (k : Nat) (nn : Nat) (len : Nat) (noGain : Bool)
    (hk : Keeps M s0 s) : Keeps M s0 (State.jobEnd s k nn len noGain) := by
  unfold State.jobEnd
  repeat' with_reducible first
    | assumption | intro _ | lift_lets | apply State.when_keeps | apply State.dmaOver_keeps
      | apply State.slotLetGo_keeps | apply State.err_keeps | apply State.flag_keeps | apply State.wr_keeps
      | apply State.pushCqe_keeps | apply State.raise_keeps | apply Keeps.ite
      | fail_if_no_progress refine Keeps.upd rfl ?_

theorem State.jobEnter_keeps {M : Prop} {s0 s : State} (k : Nat) (desc : Nat)
    (hk : Keeps M s0 s) : Keeps M s0 (State.jobEnter s k desc) := by
  unfold State.jobEnter
  repeat' with_reducible first
    | assumption | apply State.slotTake_keeps | apply State.jobEnd_keeps | apply Keeps.ite

theorem execCompress_keeps {M : Prop} {s0 s : State} (entry : BitVec 512)
    (hk : Keeps M s0 s) : NextKeeps M s0 (execCompress entry s) := by
  unfold execCompress
  repeat' with_reducible first
    | assumption | intro _ | lift_lets | apply State.admin_keeps | apply State.adminFail_keeps
      | apply State.jobEnter_keeps | apply State.pushCqe_keeps | apply State.errOpen_keeps | apply Keeps.ite
      | apply NextKeeps.ite | apply NextKeeps.next | apply State.draw_keeps
      | refine State.drawn_keeps (by assumption) ?_ | fail_if_no_progress refine Keeps.upd rfl ?_ | split

theorem State.fjobGo_keeps {M : Prop} {s0 s : State} (hk : Keeps M s0 s) : Keeps M s0 (State.fjobGo s) := by
  unfold State.fjobGo
  repeat' with_reducible first
    | assumption | apply State.errOpen_keeps | apply State.jobEnter_keeps | apply State.wr_keeps | apply Keeps.ite
      | fail_if_no_progress refine Keeps.upd rfl ?_ | split

theorem execFjobGo_keeps {M : Prop} {s0 s : State} (req : Req) (hk : Keeps M s0 s) : NextKeeps M s0 (execFjobGo req s) := by
  unfold execFjobGo
  repeat' with_reducible first
    | assumption | apply State.gate_keeps | apply State.fjobGo_keeps | apply Keeps.ite | apply NextKeeps.ite
      | apply NextKeeps.next

theorem State.setDict_keeps {M : Prop} {s0 s : State} (e : Fin 12) (l : List Nat)
    (hk : Keeps M s0 s) : Keeps M s0 (State.setDict s e l) := by
  unfold State.setDict
  repeat' with_reducible first
    | assumption | apply Keeps.ite | fail_if_no_progress refine Keeps.upd rfl ?_

theorem State.jobRuns_keeps {M : Prop} {s0 s : State} (e : Fin 12) (k : Nat) (dict : List Nat)
    (hk : Keeps M s0 s) : Keeps M s0 (State.jobRuns s e k dict) := by
  unfold State.jobRuns
  repeat' with_reducible first
    | assumption | intro _ | lift_lets | apply State.wr_keeps | apply State.setDict_keeps
      | apply State.setEncoder_keeps | apply State.when_keeps | apply State.dmaStart_keeps

theorem State.presetForEnc_kept {M : Prop} {s0 s t : State} {x : Option (List Nat)} {id : Nat}
    (he : State.presetForEnc s id = (x, t)) (hk : Keeps M s0 s) : Keeps M s0 t := by
  unfold State.presetForEnc at he
  split at he
  · cases he
    with_reducible exact State.portRead_kept (by assumption) hk
  · split at he
    all_goals
      cases he
      with_reducible exact State.portRead_kept (by assumption) (State.portRead_kept (by assumption) hk)

theorem State.jobStart_keeps {M : Prop} {s0 s : State} (e : Fin 12) (k : Nat)
    (hk : Keeps M s0 s) : Keeps M s0 (State.jobStart s e k) := by
  unfold State.jobStart
  repeat' with_reducible first
    | assumption | intro _ | lift_lets | apply State.when_keeps | apply State.setOverdue_keeps
      | apply State.jobRuns_keeps | apply State.jobEnd_keeps | apply State.portWake_keeps | apply Keeps.ite
      | refine State.presetForEnc_kept (by assumption) ?_ | fail_if_no_progress refine Keeps.upd rfl ?_ | split

theorem State.tileMemUe_keeps {M : Prop} {s0 s : State} (t : Tile)
    (hk : Keeps M s0 s) : Keeps M s0 (State.tileMemUe s t) := by
  unfold State.tileMemUe
  repeat' with_reducible first
    | assumption | apply State.tileLost_keeps | apply State.errOpen_keeps

theorem State.tileStart_keeps {M : Prop} {s0 s : State} (e : Fin 12) (t : Tile)
    (hk : Keeps M s0 s) : Keeps M s0 (State.tileStart s e t) := by
  unfold State.tileStart
  repeat' with_reducible first
    | assumption | apply State.setDict_keeps | apply State.setEncoder_keeps | apply State.modInFlight_keeps
      | apply State.portWake_keeps | apply State.tileMemUe_keeps | apply Keeps.ite
      | refine State.presetForEnc_kept (by assumption) ?_ | fail_if_no_progress refine Keeps.upd rfl ?_ | split

theorem State.jobAssign_keeps {M : Prop} {s0 s : State} (e : Fin 12)
    (hk : Keeps M s0 s) : Keeps M s0 (State.jobAssign s e) := by
  unfold State.jobAssign
  repeat' with_reducible first
    | assumption | apply State.jobStart_keeps | apply Keeps.ite | fail_if_no_progress refine Keeps.upd rfl ?_ | split

theorem execEncoderAssign_keeps {M : Prop} {s0 s : State} (e : Fin 12)
    (hk : Keeps M s0 s) : NextKeeps M s0 (execEncoderAssign e s) := by
  unfold execEncoderAssign
  repeat' with_reducible first
    | assumption | apply State.tileStart_keeps | apply State.jobAssign_keeps | apply Keeps.ite | apply NextKeeps.ite
      | apply NextKeeps.next | fail_if_no_progress refine Keeps.upd rfl ?_ | split

theorem State.modJob_keeps {M : Prop} {s0 s : State} (k : Nat) (f : Job → Job)
    (hk : Keeps M s0 s) : Keeps M s0 (State.modJob s k f) := by
  unfold State.modJob
  repeat' with_reducible first
    | assumption | apply Keeps.ite | fail_if_no_progress refine Keeps.upd rfl ?_

theorem State.jobWrite_keeps {M : Prop} {s0 s : State} (k : Nat) (laid : List (Nat × List Nat)) (hM : M)
    (hk : Keeps M s0 s) : Keeps M s0 (State.jobWrite s k laid) := by
  unfold State.jobWrite
  repeat' with_reducible first
    | assumption | intro _ | lift_lets | apply State.each_keeps | apply State.portWrite_keeps | apply State.emit_keeps
      | apply Keeps.ite

theorem State.jobProgress_keeps {M : Prop} {s0 s : State} (k : Nat) (e : Encoding) (n : Nat)
    (hk : Keeps M s0 s) : Keeps M s0 (State.jobProgress s k e n) := by
  unfold State.jobProgress
  repeat' with_reducible first
    | assumption | apply State.wr_keeps

theorem State.chainUe_keeps {M : Prop} {s0 s : State} (k : Nat) (hk : Keeps M s0 s) : Keeps M s0 (State.chainUe s k) := by
  unfold State.chainUe
  repeat' with_reducible first
    | assumption | apply State.ddrUe_keeps | apply Keeps.ite | fail_if_no_progress refine Keeps.upd rfl ?_ | split

theorem State.jobFinish_keeps {M : Prop} {s0 s : State} (e : Fin 12) (k : Nat) (input : List Nat) (brought : List (BitVec 128)) (hM : M)
    (hk : Keeps M s0 s) : Keeps M s0 (State.jobFinish s e k input brought) := by
  unfold State.jobFinish
  repeat' with_reducible first
    | assumption | intro _ | lift_lets | apply State.jobEnd_keeps | apply State.jobProgress_keeps
      | apply State.jobWrite_keeps | apply State.chainUe_keeps | apply State.bump_keeps | apply Keeps.ite
      | fail_if_no_progress refine Keeps.upd rfl ?_ | split

theorem State.jobInput_kept {M : Prop} {s0 s t : State} {x : Option (List Nat)} {k : Nat} {brought : List Byte}
    (he : State.jobInput s k brought = (x, t)) (hk : Keeps M s0 s) : Keeps M s0 t := by
  unfold State.jobInput at he
  dsimp only at he
  repeat' split at he
  all_goals cases he
  all_goals first | exact hk | with_reducible exact State.portRead_kept (by assumption) hk

theorem State.jobEncodeEnd_keeps {M : Prop} {s0 s : State} (e : Fin 12) (k : Nat) (res : EncodeResult) (hM : M)
    (hk : Keeps M s0 s) : Keeps M s0 (State.jobEncodeEnd s e k res) := by
  unfold State.jobEncodeEnd
  repeat' with_reducible first
    | assumption | apply State.jobEnd_keeps | apply State.denSramUe_keeps | apply State.ddrUe_keeps
      | apply State.portWake_keeps | apply State.jobFinish_keeps | apply Keeps.ite
      | refine State.jobInput_kept (by assumption) ?_ | fail_if_no_progress refine Keeps.upd rfl ?_ | split

theorem State.tileEncodeEnd_keeps {M : Prop} {s0 s : State} (e : Fin 12) (t : Tile) (res : EncodeResult)
    (hk : Keeps M s0 s) : Keeps M s0 (State.tileEncodeEnd s e t res) := by
  unfold State.tileEncodeEnd
  repeat' with_reducible first
    | assumption | intro _ | lift_lets | apply State.tileMemUe_keeps | apply State.denSramUe_keeps
      | apply State.setEncoder_keeps | apply State.when_keeps | apply State.bump_keeps | apply State.modInFlight_keeps
      | apply Keeps.ite | fail_if_no_progress refine Keeps.upd rfl ?_ | split

theorem execEncodeEnd_keeps {M : Prop} {s0 s : State} (e : Fin 12) (res : EncodeResult) (hM : M)
    (hk : Keeps M s0 s) : NextKeeps M s0 (execEncodeEnd e res s) := by
  unfold execEncodeEnd
  repeat' with_reducible first
    | assumption | intro _ | apply State.setEncoder_keeps | apply State.tileEncodeEnd_keeps
      | apply State.jobEncodeEnd_keeps | apply Keeps.ite | apply NextKeeps.ite | apply NextKeeps.next
      | fail_if_no_progress refine Keeps.upd rfl ?_ | split

theorem State.jobParks_keeps {M : Prop} {s0 s : State} (e : Fin 12) (k : Nat) (input : List Nat) (brought : List (BitVec 128)) (hM : M)
    (hk : Keeps M s0 s) : Keeps M s0 (State.jobParks s e k input brought) := by
  unfold State.jobParks
  repeat' with_reducible first
    | assumption | apply State.modJob_keeps | apply State.jobProgress_keeps | apply State.jobWrite_keeps
      | apply State.raise_keeps | apply State.wr_keeps | apply Keeps.ite

theorem execJobPark_keeps {M : Prop} {s0 s : State} (slot : Fin 16) (input : List Byte) (chain : List (BitVec 128)) (hM : M)
    (hk : Keeps M s0 s) : NextKeeps M s0 (execJobPark slot input chain s) := by
  unfold execJobPark
  repeat' with_reducible first
    | assumption | intro _ | lift_lets | apply State.portWake_keeps | apply State.jobEnd_keeps
      | apply State.jobParks_keeps | apply Keeps.ite | apply NextKeeps.ite | apply NextKeeps.next
      | refine State.jobInput_kept (by assumption) ?_ | fail_if_no_progress refine Keeps.upd rfl ?_ | split

theorem State.codecTick_keeps {M : Prop} {s0 s : State} (hk : Keeps M s0 s) : Keeps M s0 (State.codecTick s) := by
  unfold State.codecTick
  repeat' with_reducible first
    | assumption | intro _ | lift_lets | apply State.each_keeps | apply State.drawMany_keeps | apply State.wr_keeps
      | apply Keeps.ite

theorem State.chainWrite_keeps {M : Prop} {s0 s : State} (req : Req) (slot : Fin 16) (n : BitVec 13)
    (hk : Keeps M s0 s) : Keeps M s0 (State.chainWrite s req slot n) := by
  unfold State.chainWrite
  repeat' with_reducible first
    | assumption | intro _ | lift_lets | apply State.err_keeps | apply State.errAt_keeps | apply State.when_keeps
      | apply State.wr_keeps | apply Keeps.ite

theorem execChainCountWrite_keeps {M : Prop} {s0 s : State} (req : Req) (slot : Fin 16) (n : BitVec 13)
    (hk : Keeps M s0 s) : NextKeeps M s0 (execChainCountWrite req slot n s) := by
  unfold execChainCountWrite
  repeat' with_reducible first
    | assumption | intro _ | lift_lets | apply State.gate_keeps | apply State.chainWrite_keeps | apply Keeps.ite
      | apply NextKeeps.ite | apply NextKeeps.next

theorem execParkTimeout_keeps {M : Prop} {s0 s : State} (slot : Fin 16)
    (hk : Keeps M s0 s) : NextKeeps M s0 (execParkTimeout slot s) := by
  unfold execParkTimeout
  repeat' with_reducible first
    | assumption | apply State.jobEnd_keeps | apply Keeps.ite | apply NextKeeps.ite | apply NextKeeps.next

theorem State.jobAbort_keeps {M : Prop} {s0 s : State} (slot : Fin 16)
    (hk : Keeps M s0 s) : Keeps M s0 (State.jobAbort s slot) := by
  unfold State.jobAbort
  repeat' with_reducible first
    | assumption | apply State.jobEnd_keeps | apply State.err_keeps | apply Keeps.ite

theorem execJobAbort_keeps {M : Prop} {s0 s : State} (req : Req) (slot : Fin 16)
    (hk : Keeps M s0 s) : NextKeeps M s0 (execJobAbort req slot s) := by
  unfold execJobAbort
  repeat' with_reducible first
    | assumption | intro _ | lift_lets | apply State.gate_keeps | apply State.jobAbort_keeps | apply Keeps.ite
      | apply NextKeeps.ite | apply NextKeeps.next

theorem State.jobRelease_keeps {M : Prop} {s0 s : State} (slot : Fin 16)
    (hk : Keeps M s0 s) : Keeps M s0 (State.jobRelease s slot) := by
  unfold State.jobRelease
  repeat' with_reducible first
    | assumption | apply State.wr_keeps | apply State.err_keeps | apply Keeps.ite

theorem execJobRelease_keeps {M : Prop} {s0 s : State} (req : Req) (slot : Fin 16)
    (hk : Keeps M s0 s) : NextKeeps M s0 (execJobRelease req slot s) := by
  unfold execJobRelease
  repeat' with_reducible first
    | assumption | intro _ | lift_lets | apply State.gate_keeps | apply State.jobRelease_keeps | apply Keeps.ite
      | apply NextKeeps.ite | apply NextKeeps.next

/-! ### Last -/

theorem execTileFetch_keeps {M : Prop} {s0 s : State} (hk : Keeps M s0 s) : NextKeeps M s0 (execTileFetch s) := by
  unfold execTileFetch
  repeat' with_reducible first
    | assumption | apply State.settleTags_keeps | apply State.modTile_keeps | apply Keeps.ite | apply NextKeeps.ite
      | apply NextKeeps.next | fail_if_no_progress refine Keeps.upd rfl ?_ | split

theorem State.slotPreset_keeps {M : Prop} {s0 s : State} (d : Fin 16) (id : Nat)
    (hk : Keeps M s0 s) : Keeps M s0 (State.slotPreset s d id) := by
  unfold State.slotPreset
  repeat' with_reducible first
    | assumption | apply Keeps.ite | fail_if_no_progress refine Keeps.upd rfl ?_

theorem State.preloadPreset_keeps {M : Prop} {s0 s : State} (d : Fin 16)
    (hk : Keeps M s0 s) : Keeps M s0 (State.preloadPreset s d) := by
  unfold State.preloadPreset
  repeat' with_reducible first
    | assumption | apply Keeps.ite | fail_if_no_progress refine Keeps.upd rfl ?_ | split

theorem State.inputStart_keeps {M : Prop} {s0 s : State} (n : Nat) (hk : Keeps M s0 s) :
    Keeps M s0 (State.inputStart s n).2 := State.draw_keeps hk

theorem State.inputStart_kept {M : Prop} {s0 s t : State} {x : Nat × Nat} {n : Nat}
    (he : State.inputStart s n = (x, t)) (hk : Keeps M s0 s) : Keeps M s0 t := by
  have h := State.inputStart_keeps n hk
  rw [he] at h
  exact h

theorem execDecodeStart_keeps {M : Prop} {s0 s : State} (d : Fin 16)
    (hk : Keeps M s0 s) : NextKeeps M s0 (execDecodeStart d s) := by
  unfold execDecodeStart
  dsimp only [State.draw, id]
  repeat' with_reducible first
    | assumption | intro _ | apply State.portWake_keeps | apply State.preloadPreset_keeps
      | apply State.setDecoder_keeps | apply State.each_keeps | apply State.ddrUe_keeps | apply State.slotPreset_keeps
      | apply Keeps.ite | apply NextKeeps.ite | apply NextKeeps.next | refine State.inputStart_kept (by assumption) ?_
      | apply State.inputStart_keeps | fail_if_no_progress refine Keeps.upd rfl ?_ | split

theorem State.tagOff_keeps {M : Prop} {s0 s : State} (k : TileKey) (hk : Keeps M s0 s) : Keeps M s0 (State.tagOff s k) := by
  unfold State.tagOff
  repeat' with_reducible first
    | assumption | apply State.settleTags_keeps | apply State.modTile_keeps

theorem State.fillPeak_keeps {M : Prop} {s0 s : State} (opened : Nat) (dead : Nat) (done : Nat)
    (hk : Keeps M s0 s) : Keeps M s0 (State.fillPeak s opened dead done) := by
  unfold State.fillPeak
  repeat' with_reducible first
    | assumption | apply State.wr_keeps | apply Keeps.ite

theorem State.modPlane_keeps {M : Prop} {s0 s : State} (p : Nat) (f : PlaneSt → PlaneSt)
    (hk : Keeps M s0 s) : Keeps M s0 (State.modPlane s p f) := by
  unfold State.modPlane
  repeat' with_reducible first
    | assumption | apply Keeps.ite | fail_if_no_progress refine Keeps.upd rfl ?_

theorem State.bandFill_keeps {M : Prop} {s0 s : State} (p : PageSt) (k : TileKey) (copy : Nat) (content : List Nat)
    (hk : Keeps M s0 s) : Keeps M s0 (State.bandFill s p k copy content) := by
  unfold State.bandFill
  repeat' with_reducible first
    | assumption | apply State.modPlane_keeps | apply State.fillPeak_keeps | apply Keeps.ite
      | fail_if_no_progress refine Keeps.upd rfl ?_ | split

theorem execDecodeDone_keeps {M : Prop} {s0 s : State} (d : Fin 16)
    (hk : Keeps M s0 s) : NextKeeps M s0 (execDecodeDone d s) := by
  unfold execDecodeDone
  repeat' with_reducible first
    | assumption | apply State.modTile_keeps | apply State.tagOff_keeps | apply State.setDecoder_keeps
      | apply State.bandFill_keeps | apply State.settleCredit_keeps | apply State.settleTags_keeps | apply Keeps.ite
      | apply NextKeeps.ite | apply NextKeeps.next | fail_if_no_progress refine Keeps.upd rfl ?_ | split

theorem State.tileRereq_keeps {M : Prop} {s0 s : State} (t : Tile) (nn : Nat)
    (hk : Keeps M s0 s) : Keeps M s0 (State.tileRereq s t nn) := by
  unfold State.tileRereq
  repeat' with_reducible first
    | assumption | apply State.modTile_keeps | apply State.raise_keeps | apply State.pushCqe_keeps
      | apply State.errOpen_keeps | apply Keeps.ite

theorem State.decodeUe_keeps {M : Prop} {s0 s : State} (t : Tile) (o : Nat) (ue : Option DecodeUe)
    (hk : Keeps M s0 s) : Keeps M s0 (State.decodeUe s t o ue) := by
  unfold State.decodeUe
  repeat' with_reducible first
    | assumption | apply State.ddrUe_keeps | apply State.denSramUe_keeps | apply Keeps.ite
      | fail_if_no_progress refine Keeps.upd rfl ?_ | split

theorem execDecodeFail_keeps {M : Prop} {s0 s : State} (d : Fin 16) (ue : Option DecodeUe)
    (hk : Keeps M s0 s) : NextKeeps M s0 (execDecodeFail d ue s) := by
  unfold execDecodeFail
  repeat' with_reducible first
    | assumption | apply State.setDecoder_keeps | apply State.portWake_keeps | apply State.tagOff_keeps
      | apply State.raise_keeps | apply State.bump_keeps | apply State.err_keeps | apply State.decodeUe_keeps
      | apply State.modTile_keeps | apply State.tileRereq_keeps | apply Keeps.ite | apply NextKeeps.ite
      | apply NextKeeps.next | fail_if_no_progress refine Keeps.upd rfl ?_ | split

theorem execPanicAssert_keeps {M : Prop} {s0 s : State} (hk : Keeps M s0 s) : NextKeeps M s0 (execPanicAssert s) := by
  unfold execPanicAssert
  repeat' with_reducible first
    | assumption | apply State.raise_keeps | apply State.bump_keeps | apply State.wr_keeps | apply Keeps.ite
      | apply NextKeeps.ite | apply NextKeeps.next

theorem execPanicRelease_keeps {M : Prop} {s0 s : State} (hk : Keeps M s0 s) : NextKeeps M s0 (execPanicRelease s) := by
  unfold execPanicRelease
  repeat' with_reducible first
    | assumption | apply State.settleRefresh_keeps | apply State.wr_keeps | apply Keeps.ite | apply NextKeeps.ite
      | apply NextKeeps.next

theorem State.decodeTick_keeps {M : Prop} {s0 s : State} (hk : Keeps M s0 s) : Keeps M s0 (State.decodeTick s) := by
  unfold State.decodeTick
  repeat' with_reducible first
    | assumption | apply State.drawMany_keeps | apply Keeps.ite | fail_if_no_progress refine Keeps.upd rfl ?_

/-! ### Tick -/

theorem State.bandDeadline_keeps {M : Prop} {s0 s : State} (q : PageSt) (p : Nat) (copy : Nat) (band : Nat)
    (hk : Keeps M s0 s) : Keeps M s0 (State.bandDeadline s q p copy band) := by
  unfold State.bandDeadline
  repeat' with_reducible first
    | assumption | apply State.modPlane_keeps | apply State.fillPeak_keeps | apply State.raise_keeps
      | apply State.bump_keeps | apply Keeps.ite | fail_if_no_progress refine Keeps.upd rfl ?_ | split

theorem State.dealLane_keeps {M : Prop} {s0 s : State} (l : Lane) (i : InLine)
    (hk : Keeps M s0 s) : Keeps M s0 (State.dealLane s l i) := by
  unfold State.dealLane
  repeat' with_reducible first
    | assumption | apply State.modLane_keeps | apply State.laneFault_keeps | apply State.errOpen_keeps
      | apply Keeps.ite

theorem State.copyDealt_keeps {M : Prop} {s0 s : State} (q : PageSt) (copy : Nat)
    (hk : Keeps M s0 s) : Keeps M s0 (State.copyDealt s q copy) := by
  unfold State.copyDealt
  repeat' with_reducible first
    | assumption | apply State.wr_keeps | apply Keeps.ite | fail_if_no_progress refine Keeps.upd rfl ?_ | split

theorem State.dealLine_keeps {M : Prop} {s0 s : State} (q : PageSt) (p : Nat) (n : Nat)
    (hk : Keeps M s0 s) : Keeps M s0 (State.dealLine s q p n) := by
  unfold State.dealLine
  repeat' with_reducible first
    | assumption | intro _ | lift_lets | apply State.commitsAt_keeps | apply State.when_keeps
      | apply State.copyDealt_keeps | apply State.bandDeadline_keeps | apply State.each_keeps
      | apply State.dealLane_keeps | apply State.modPage_keeps | apply State.modPlane_keeps | apply Keeps.ite
      | fail_if_no_progress refine Keeps.upd rfl ?_

theorem State.dealPlane_keeps {M : Prop} {s0 : State} (ord p fuel : Nat) {s : State} (hk : Keeps M s0 s) :
    Keeps M s0 (State.dealPlane s ord p fuel) := by
  induction fuel generalizing s with
  | zero => exact hk
  | succ fuel ih =>
    unfold State.dealPlane
    split
    · exact hk
    · dsimp only
      split
      · exact ih (State.dealLine_keeps _ _ _ hk)
      · exact hk

theorem State.dealPage_keeps {M : Prop} {s0 s : State} (q : PageSt)
    (hk : Keeps M s0 s) : Keeps M s0 (State.dealPage s q) := by
  unfold State.dealPage
  repeat' with_reducible first
    | assumption | intro _ | lift_lets | apply State.each_keeps | apply State.dealPlane_keeps
      | apply State.modPage_keeps

theorem State.copyStarts_keeps {M : Prop} {s0 s : State} (ord : Nat)
    (hk : Keeps M s0 s) : Keeps M s0 (State.copyStarts s ord) := by
  unfold State.copyStarts
  repeat' with_reducible first
    | assumption | apply State.raise_keeps | apply State.pageCqe_keeps | apply State.modPage_keeps | apply Keeps.ite
      | fail_if_no_progress refine Keeps.upd rfl ?_ | split

theorem State.pageStart_keeps {M : Prop} {s0 s : State} (q : PageSt)
    (hk : Keeps M s0 s) : Keeps M s0 (State.pageStart s q) := by
  unfold State.pageStart
  repeat' with_reducible first
    | assumption | intro _ | lift_lets | apply State.when_keeps | apply State.spitAbort_keeps
      | apply State.commitsAt_keeps | apply State.modPage_keeps | apply State.wr_keeps | apply State.each_keeps
      | apply State.modLane_keeps | apply State.setLane_keeps | apply State.partnerRefresh_keeps
      | apply State.settlePerm_keeps | apply State.settlePages_keeps | apply State.raise_keeps | apply Keeps.ite
      | fail_if_no_progress refine Keeps.upd rfl ?_ | split

theorem State.tryStart_keeps {M : Prop} {s0 s : State} (hk : Keeps M s0 s) : Keeps M s0 (State.tryStart s) := by
  unfold State.tryStart
  repeat' with_reducible first
    | assumption | (intro x; subst x) | lift_lets | apply State.modPage_keeps | apply State.pageReject_keeps
      | apply State.raise_keeps | apply State.bump_keeps | apply State.pageStart_keeps | apply Keeps.ite
      | fail_if_no_progress refine Keeps.upd rfl ?_ | split

theorem State.paceTick_keeps {M : Prop} {s0 s : State} (hk : Keeps M s0 s) : Keeps M s0 (State.paceTick s) := by
  unfold State.paceTick
  repeat' with_reducible first
    | assumption | intro _ | lift_lets | apply State.wr_keeps | apply State.when_keeps | apply State.bump_keeps
      | apply State.raise_keeps | apply State.settleSources_keeps | apply Keeps.ite
      | fail_if_no_progress refine Keeps.upd rfl ?_

theorem State.setInstants_keeps {M : Prop} {s0 s : State} (before : Option Nat)
    (hk : Keeps M s0 s) : Keeps M s0 (State.setInstants s before) := by
  unfold State.setInstants
  repeat' with_reducible first
    | assumption | intro _ | lift_lets | apply State.each_keeps | apply State.modLane_keeps | apply Keeps.ite

theorem execLineTick_keeps {M : Prop} {s0 s : State} (hk : Keeps M s0 s) : NextKeeps M s0 (execLineTick s) := by
  unfold execLineTick
  repeat' with_reducible first
    | assumption | intro _ | lift_lets | apply State.paceTick_keeps | apply State.commitsAt_keeps
      | apply State.each_keeps | apply State.pageCut_keeps | apply State.tryStart_keeps | apply State.copyStarts_keeps
      | apply State.dealPage_keeps | apply State.settleSlow_keeps | apply State.armNext_keeps
      | apply State.setInstants_keeps | apply Keeps.ite | apply NextKeeps.ite | apply NextKeeps.next

theorem State.lstStartWrite_keeps {M : Prop} {s0 s : State} (v : Nat)
    (hk : Keeps M s0 s) : Keeps M s0 (State.lstStartWrite s v) := by
  unfold State.lstStartWrite
  repeat' with_reducible first
    | assumption | apply State.pageGo_keeps | apply State.errOpen_keeps | apply Keeps.ite
      | fail_if_no_progress refine Keeps.upd rfl ?_ | split

theorem execLstStart_keeps {M : Prop} {s0 s : State} (req : Req) (id : Word)
    (hk : Keeps M s0 s) : NextKeeps M s0 (execLstStart req id s) := by
  unfold execLstStart
  repeat' with_reducible first
    | assumption | intro _ | lift_lets | apply State.command_keeps | apply State.lstStartWrite_keeps | apply Keeps.ite
      | apply NextKeeps.ite | apply NextKeeps.next

/-! ### Boot -/

theorem State.setStage_keeps {M : Prop} {s0 s : State} (v : Nat) (hk : Keeps M s0 s) : Keeps M s0 (State.setStage s v) := by
  unfold State.setStage
  repeat' with_reducible first
    | assumption | apply State.wr_keeps

theorem State.denBoot_keeps {M : Prop} {s0 s : State} (code : Nat)
    (hk : Keeps M s0 s) : Keeps M s0 (State.denBoot s code) := by
  unfold State.denBoot
  repeat' with_reducible first
    | assumption | apply State.denHw_keeps

theorem State.coreErr_keeps {M : Prop} {s0 s : State} (nn : Nat) (info : Option Nat)
    (hk : Keeps M s0 s) : Keeps M s0 (State.coreErr s nn info) := by
  unfold State.coreErr
  repeat' with_reducible first
    | assumption | apply State.err_keeps | apply State.errOpen_keeps | apply Keeps.ite
      | fail_if_no_progress refine Keeps.upd rfl ?_ | split

theorem State.bootFresh_keeps {M : Prop} {s0 s : State} (hk : Keeps M s0 s) : Keeps M s0 (State.bootFresh s) := by
  unfold State.bootFresh
  repeat' with_reducible first
    | assumption | apply Keeps.ite | fail_if_no_progress refine Keeps.upd rfl ?_

theorem State.bootFail_keeps {M : Prop} {s0 s : State} (nn : Nat) (info : Option Nat)
    (hk : Keeps M s0 s) : Keeps M s0 (State.bootFail s nn info) := by
  unfold State.bootFail
  repeat' with_reducible first
    | assumption | apply State.coreErr_keeps | apply State.setStage_keeps | apply State.wr_keeps
      | apply State.bootFresh_keeps | apply State.denBoot_keeps | apply State.raise_keeps | apply Keeps.ite

theorem State.bootCold_keeps {M : Prop} {s0 s : State} (train : Bool)
    (hk : Keeps M s0 s) : Keeps M s0 (State.bootCold s train) := by
  unfold State.bootCold
  repeat' with_reducible first
    | assumption | apply State.clearPresets_keeps | apply State.bootFresh_keeps | apply State.wr_keeps
      | apply State.bootFail_keeps | apply State.setStage_keeps | apply Keeps.ite
      | fail_if_no_progress refine Keeps.upd rfl ?_

theorem State.bootOk_keeps {M : Prop} {s0 s : State} (h : List Byte)
    (hk : Keeps M s0 s) : Keeps M s0 (State.bootOk s h) := by
  unfold State.bootOk
  repeat' with_reducible first
    | assumption | apply State.wr_keeps | apply State.denBoot_keeps | apply State.raise_keeps
      | apply State.setStage_keeps | apply Keeps.ite | fail_if_no_progress refine Keeps.upd rfl ?_

theorem State.safePlace_keeps {M : Prop} {s0 s : State} (l : List Byte)
    (hk : Keeps M s0 s) : Keeps M s0 (State.safePlace s l) := by
  unfold State.safePlace
  repeat' with_reducible first
    | assumption | apply Keeps.ite | fail_if_no_progress refine Keeps.upd rfl ?_

theorem State.bootStore_keeps {M : Prop} {s0 s : State} (h : List Byte) (body : List Byte) (hM : M)
    (hk : Keeps M s0 s) : Keeps M s0 (State.bootStore s h body) := by
  unfold State.bootStore
  repeat' with_reducible first
    | assumption | apply State.portWrite_keeps | apply State.safePlace_keeps

theorem State.dramConfig_keeps {M : Prop} {s0 s : State} (h : List Byte)
    (hk : Keeps M s0 s) : Keeps M s0 (State.dramConfig s h) := by
  unfold State.dramConfig
  repeat' with_reducible first
    | assumption | apply State.wr_keeps | apply Keeps.ite | fail_if_no_progress refine Keeps.upd rfl ?_

theorem State.trainFail_keeps {M : Prop} {s0 s : State} (nn : Nat)
    (hk : Keeps M s0 s) : Keeps M s0 (State.trainFail s nn) := by
  unfold State.trainFail
  repeat' with_reducible first
    | assumption | apply State.bootFail_keeps | apply State.errOpen_keeps | apply State.setDdr_keeps

theorem State.trainStart_keeps {M : Prop} {s0 s : State} (h : List Byte)
    (hk : Keeps M s0 s) : Keeps M s0 (State.trainStart s h) := by
  unfold State.trainStart
  repeat' with_reducible first
    | assumption | apply State.trainFail_keeps | apply State.setStage_keeps | apply State.setDdr_keeps
      | apply State.wr_keeps | apply Keeps.ite

theorem State.bootBody_keeps {M : Prop} {s0 s : State} (h : List Byte) (body : List Byte) (hM : M)
    (hk : Keeps M s0 s) : Keeps M s0 (State.bootBody s h body) := by
  unfold State.bootBody
  repeat' with_reducible first
    | assumption | apply State.bootOk_keeps | apply State.bootStore_keeps | apply State.bootFail_keeps
      | apply Keeps.ite

theorem State.bootHead_keeps {M : Prop} {s0 s : State} (h : List Byte)
    (hk : Keeps M s0 s) : Keeps M s0 (State.bootHead s h) := by
  unfold State.bootHead
  repeat' with_reducible first
    | assumption | apply State.bootFail_keeps | apply State.trainStart_keeps | apply State.setStage_keeps
      | apply Keeps.ite | fail_if_no_progress refine Keeps.upd rfl ?_ | split

theorem State.bootRest_keeps {M : Prop} {s0 s : State} (l : List Byte) (hM : M)
    (hk : Keeps M s0 s) : Keeps M s0 (State.bootRest s l) := by
  unfold State.bootRest
  repeat' with_reducible first
    | assumption | apply State.bootBody_keeps | apply Keeps.ite

theorem State.bootGo_keeps {M : Prop} {s0 s : State} (l : List Byte) (hM : M)
    (hk : Keeps M s0 s) : Keeps M s0 (State.bootGo s l) := by
  unfold State.bootGo
  repeat' with_reducible first
    | assumption | apply State.bootRest_keeps | apply State.bootHead_keeps | apply Keeps.ite

theorem execBootComplete_keeps {M : Prop} {s0 s : State} (img : Option (List Byte)) (hM : M)
    (hk : Keeps M s0 s) : NextKeeps M s0 (execBootComplete img s) := by
  unfold execBootComplete
  repeat' with_reducible first
    | assumption | apply State.bootGo_keeps | apply State.bootFail_keeps | apply Keeps.ite | apply NextKeeps.ite
      | apply NextKeeps.next | fail_if_no_progress refine Keeps.upd rfl ?_ | split

theorem State.warmImage_kept {M : Prop} {s0 s t : State} {x : Option (List Byte × List Byte)}
    (he : State.warmImage s = (x, t)) (hk : Keeps M s0 s) : Keeps M s0 t := by
  unfold State.warmImage at he
  split at he
  · cases he
    with_reducible exact State.portRead_kept (by assumption) hk
  · rename_i hr
    have h := State.portRead_kept hr hk
    dsimp only at he
    split at he
    · cases he
      exact h
    · split at he
      · cases he
        with_reducible exact State.portRead_kept (by assumption) h
      · split at he
        all_goals
          cases he
          with_reducible exact State.portRead_kept (by assumption) (State.portRead_kept (by assumption) h)

theorem State.bootWarm_keeps {M : Prop} {s0 s : State} (hk : Keeps M s0 s) : Keeps M s0 (State.bootWarm s) := by
  unfold State.bootWarm
  repeat' with_reducible first
    | assumption | intro _ | lift_lets | apply State.setStage_keeps | apply State.wr_keeps
      | apply State.bootCold_keeps | apply State.coreErr_keeps | apply State.bootOk_keeps
      | apply State.safePlace_keeps | apply Keeps.ite | refine State.warmImage_kept (by assumption) ?_
      | fail_if_no_progress refine Keeps.upd rfl ?_ | split

theorem State.pushWrite_keeps {M : Prop} {s0 s : State} (data : Nat)
    (hk : Keeps M s0 s) : Keeps M s0 (State.pushWrite s data) := by
  unfold State.pushWrite
  repeat' with_reducible first
    | assumption | apply State.bootFail_keeps | apply Keeps.ite | fail_if_no_progress refine Keeps.upd rfl ?_

theorem execPushData_keeps {M : Prop} {s0 s : State} (req : Req) (data : Word)
    (hk : Keeps M s0 s) : NextKeeps M s0 (execPushData req data s) := by
  unfold execPushData
  repeat' with_reducible first
    | assumption | intro _ | lift_lets | apply State.gate_keeps | apply State.pushWrite_keeps | apply Keeps.ite
      | apply NextKeeps.ite | apply NextKeeps.next

theorem State.bootRestart_keeps {M : Prop} {s0 s : State} (req : Req)
    (hk : Keeps M s0 s) : Keeps M s0 (State.bootRestart s req) := by
  unfold State.bootRestart
  repeat' with_reducible first
    | assumption | apply State.bootCold_keeps | apply State.errAt_keeps | apply Keeps.ite

theorem execBootRestart_keeps {M : Prop} {s0 s : State} (req : Req)
    (hk : Keeps M s0 s) : NextKeeps M s0 (execBootRestart req s) := by
  unfold execBootRestart
  repeat' with_reducible first
    | assumption | intro _ | lift_lets | apply State.gate_keeps | apply State.bootRestart_keeps | apply Keeps.ite
      | apply NextKeeps.ite | apply NextKeeps.next

theorem State.pushDrain_keeps {M : Prop} {s0 s : State} (hk : Keeps M s0 s) : Keeps M s0 (State.pushDrain s) := by
  unfold State.pushDrain
  repeat' with_reducible first
    | assumption | apply Keeps.ite | apply State.draw_keeps | refine State.drawn_keeps (by assumption) ?_
      | fail_if_no_progress refine Keeps.upd rfl ?_

theorem State.subTrained_keeps {M : Prop} {s0 s : State} (k : Fin 4) (r : BitVec 3 × BitVec 3 × List (BitVec 16 × BitVec 16))
    (hk : Keeps M s0 s) : Keeps M s0 (State.subTrained s k r) := by
  unfold State.subTrained
  repeat' with_reducible first
    | assumption | intro _ | lift_lets | apply State.wr_keeps | apply State.flag_keeps | apply State.each_keeps
      | apply State.err_keeps | apply Keeps.ite

theorem execDdrTrainingDone_keeps {M : Prop} {s0 s : State} (stops : List (BitVec 3 × BitVec 3))
    (eyes : List (List (BitVec 16 × BitVec 16))) (hk : Keeps M s0 s) : NextKeeps M s0 (execDdrTrainingDone stops eyes s) := by
  unfold execDdrTrainingDone
  repeat' with_reducible first
    | assumption | intro _ | lift_lets | apply State.each_keeps | apply State.dramConfig_keeps
      | apply State.subTrained_keeps | apply State.trainFail_keeps | apply State.wr_keeps | apply State.setStage_keeps
      | apply State.setDdr_keeps | apply Keeps.ite | apply NextKeeps.ite | apply NextKeeps.next
      | fail_if_no_progress refine Keeps.upd rfl ?_

/-! ### Events -/

theorem State.setPba_keeps {M : Prop} {s0 s : State} (v : Nat) (b : Bool)
    (hk : Keeps M s0 s) : Keeps M s0 (State.setPba s v b) := by
  unfold State.setPba
  repeat' with_reducible first
    | assumption | apply State.wr_keeps | apply Keeps.ite

theorem State.msixSend_keeps {M : Prop} {s0 s : State} (v : Nat) (hk : Keeps M s0 s) : Keeps M s0 (State.msixSend s v) := by
  unfold State.msixSend
  repeat' with_reducible first
    | assumption | apply State.setPba_keeps | apply State.emit_keeps | apply Keeps.ite

theorem State.settleMsix_keeps {M : Prop} {s0 s : State} (hk : Keeps M s0 s) : Keeps M s0 (State.settleMsix s) := by
  unfold State.settleMsix
  repeat' with_reducible first
    | assumption | intro _ | lift_lets | apply State.each_keeps | apply State.setPba_keeps
      | apply State.msixSend_keeps | apply Keeps.ite | fail_if_no_progress refine Keeps.upd rfl ?_

theorem State.settling_keeps {M : Prop} {s0 s : State} (f : State → State) (hf : ∀ x0, Keeps M s0 x0 → Keeps M s0 (f x0))
    (hk : Keeps M s0 s) : Keeps M s0 (State.settling s f) := by
  unfold State.settling
  repeat' with_reducible first
    | assumption | apply hf | apply State.settleMsix_keeps

end Sys2Proof.Machine
end

