-- ==== Sys2Proof/Laws/KeepsPower.lean ====
section
/-! SUPPORT. What `Keeps` says, for each operation and each meaning of power and the cores. -/

namespace Sys2Proof.Machine

/-! ### Power -/

theorem State.modPower_keeps {M : Prop} {s0 s : State} (f : Power → Power)
    (hk : Keeps M s0 s) : Keeps M s0 (State.modPower s f) := by
  unfold State.modPower
  repeat' with_reducible first
    | assumption | apply Keeps.ite | fail_if_no_progress refine Keeps.upd rfl ?_

theorem State.causeSet_keeps {M : Prop} {s0 s : State} (b : Nat) (hk : Keeps M s0 s) : Keeps M s0 (State.causeSet s b) := by
  unfold State.causeSet
  repeat' with_reducible first
    | assumption | apply State.wr_keeps | apply Keeps.ite | fail_if_no_progress refine Keeps.upd rfl ?_ | split

theorem State.rtcLoaded_keeps {M : Prop} {s0 s : State} (hk : Keeps M s0 s) : Keeps M s0 (State.rtcLoaded s) := by
  unfold State.rtcLoaded
  repeat' with_reducible first
    | assumption | apply State.wr_keeps | apply State.modPower_keeps | apply Keeps.ite
      | fail_if_no_progress refine Keeps.upd rfl ?_ | split

theorem State.laneLost_keeps {M : Prop} {s0 s : State} (l : Lane)
    (hk : Keeps M s0 s) : Keeps M s0 (State.laneLost s l) := by
  unfold State.laneLost
  repeat' with_reducible first
    | assumption | apply State.setLane_keeps | apply State.laneOff_keeps | apply State.modLane_keeps

theorem State.clusterOff_keeps {M : Prop} {s0 s : State} (c : Clu)
    (hk : Keeps M s0 s) : Keeps M s0 (State.clusterOff s c) := by
  unfold State.clusterOff
  repeat' with_reducible first
    | assumption | intro _ | lift_lets | apply State.dllAbort_keeps | apply State.when_keeps
      | apply State.testAbort_keeps | apply State.each_keeps | apply State.awlAborted_keeps
      | apply State.laneLost_keeps | apply State.calForget_keeps | apply State.settlePerm_keeps
      | apply State.resetPage_keeps | apply State.wr_keeps | apply State.softLost_keeps | apply State.modClu_keeps
      | apply Keeps.ite

theorem State.clusterDown_keeps {M : Prop} {s0 s : State} (c : Clu)
    (hk : Keeps M s0 s) : Keeps M s0 (State.clusterDown s c) := by
  unfold State.clusterDown
  repeat' with_reducible first
    | assumption | intro _ | lift_lets | apply State.settling_keeps | apply State.clusterOff_keeps
      | apply State.when_keeps | apply State.headSupply_keeps

theorem State.driversSleep_keeps {M : Prop} {s0 s : State} (hk : Keeps M s0 s) : Keeps M s0 (State.driversSleep s) := by
  unfold State.driversSleep
  repeat' with_reducible first
    | assumption | apply State.each_keeps | apply State.axSleep_keeps

theorem State.denFatal_keeps {M : Prop} {s0 s : State} (rail : Nat)
    (hk : Keeps M s0 s) : Keeps M s0 (State.denFatal s rail) := by
  unfold State.denFatal
  repeat' with_reducible first
    | assumption | apply State.denHw_keeps

theorem State.srUndo_keeps {M : Prop} {s0 s : State} (hk : Keeps M s0 s) : Keeps M s0 (State.srUndo s) := by
  unfold State.srUndo
  repeat' with_reducible first
    | assumption | apply State.modPower_keeps | apply State.setDdr_keeps | apply Keeps.ite
      | fail_if_no_progress refine Keeps.upd rfl ?_

theorem State.scansEnd_keeps {M : Prop} {s0 s : State} (hk : Keeps M s0 s) : Keeps M s0 (State.scansEnd s) := by
  unfold State.scansEnd
  repeat' with_reducible first
    | assumption | apply State.each_keeps | apply State.awlStop_keeps

theorem State.faultActs_keeps {M : Prop} {s0 s : State} (pgood : Bool)
    (hk : Keeps M s0 s) : Keeps M s0 (State.faultActs s pgood) := by
  unfold State.faultActs
  repeat' with_reducible first
    | assumption | intro _ | lift_lets | apply State.each_keeps | apply State.wr_keeps | apply State.modClu_keeps
      | apply State.raise_keeps | apply State.pageCut_keeps | apply State.driversSleep_keeps
      | apply State.axEstop_keeps | apply State.flag_keeps | apply State.spitAbort_keeps | apply State.srUndo_keeps
      | apply State.scansEnd_keeps | apply State.calAbortAll_keeps | apply State.testAbort_keeps
      | apply State.modPower_keeps | apply State.setFault_keeps | apply State.setDev_keeps | apply State.when_keeps
      | apply State.clusterDown_keeps | apply Keeps.ite

theorem State.fatalNow_keeps {M : Prop} {s0 s : State} (b : Nat) (rail : Nat)
    (hk : Keeps M s0 s) : Keeps M s0 (State.fatalNow s b rail) := by
  unfold State.fatalNow
  repeat' with_reducible first
    | assumption | intro _ | lift_lets | apply State.wr_keeps | apply State.when_keeps | apply State.denFatal_keeps
      | apply State.each_keeps | apply State.clusterDown_keeps | apply State.faultActs_keeps | apply Keeps.ite

theorem State.wakeStart_keeps {M : Prop} {s0 s : State} (warm : Bool)
    (hk : Keeps M s0 s) : Keeps M s0 (State.wakeStart s warm) := by
  unfold State.wakeStart
  repeat' with_reducible first
    | assumption | apply State.modPower_keeps

theorem State.wakeBy_keeps {M : Prop} {s0 s : State} (b : Nat) (hk : Keeps M s0 s) : Keeps M s0 (State.wakeBy s b) := by
  unfold State.wakeBy
  repeat' with_reducible first
    | assumption | apply State.wakeStart_keeps | apply State.causeSet_keeps | apply State.modPower_keeps
      | apply State.setDev_keeps | apply State.srUndo_keeps | apply Keeps.ite
      | fail_if_no_progress refine Keeps.upd rfl ?_ | split

theorem State.wakeSource_keeps {M : Prop} {s0 s : State} (b : Nat)
    (hk : Keeps M s0 s) : Keeps M s0 (State.wakeSource s b) := by
  unfold State.wakeSource
  repeat' with_reducible first
    | assumption | apply State.wakeBy_keeps | apply Keeps.ite

theorem State.fatal_keeps {M : Prop} {s0 s : State} (b : Nat) (rail : Nat)
    (hk : Keeps M s0 s) : Keeps M s0 (State.fatal s b rail) := by
  unfold State.fatal
  repeat' with_reducible first
    | assumption | apply State.wakeStart_keeps | apply State.modPower_keeps | apply State.fatalNow_keeps
      | apply Keeps.ite | fail_if_no_progress refine Keeps.upd rfl ?_ | split

theorem State.hvRaise_keeps {M : Prop} {s0 s : State} (c : Clu) (hk : Keeps M s0 s) : Keeps M s0 (State.hvRaise s c) := by
  unfold State.hvRaise
  repeat' with_reducible first
    | assumption | apply State.modClu_keeps | apply State.wr_keeps

theorem State.hvDrop_keeps {M : Prop} {s0 s : State} (c : Clu) (hk : Keeps M s0 s) : Keeps M s0 (State.hvDrop s c) := by
  unfold State.hvDrop
  repeat' with_reducible first
    | assumption | apply State.modClu_keeps | apply State.wr_keeps

theorem State.spitRestore_keeps {M : Prop} {s0 s : State} (hk : Keeps M s0 s) : Keeps M s0 (State.spitRestore s) := by
  unfold State.spitRestore
  repeat' with_reducible first
    | assumption | intro _ | lift_lets | apply State.modPower_keeps | apply State.each_keeps
      | apply State.modLane_keeps | apply State.awlBegin_keeps | apply Keeps.ite
      | refine State.restoreWindow_kept (by assumption) ?_ | apply State.restoreWindow_keeps
      | fail_if_no_progress refine Keeps.upd rfl ?_ | split

theorem State.arriveReady_keeps {M : Prop} {s0 s : State} (hk : Keeps M s0 s) : Keeps M s0 (State.arriveReady s) := by
  unfold State.arriveReady
  repeat' with_reducible first
    | assumption | apply State.spitRestore_keeps | apply State.settlePrint_keeps | apply State.setDev_keeps

theorem State.settleReady_keeps {M : Prop} {s0 s : State} (hk : Keeps M s0 s) : Keeps M s0 (State.settleReady s) := by
  unfold State.settleReady
  repeat' with_reducible first
    | assumption | apply State.arriveReady_keeps | apply State.spitRestore_keeps | apply Keeps.ite

theorem State.selectClus_keeps {M : Prop} {s0 s : State} (hk : Keeps M s0 s) : Keeps M s0 (State.selectClus s) := by
  unfold State.selectClus
  repeat' with_reducible first
    | assumption | apply State.modPower_keeps

theorem State.toReady_keeps {M : Prop} {s0 s : State} (hk : Keeps M s0 s) : Keeps M s0 (State.toReady s) := by
  unfold State.toReady
  repeat' with_reducible first
    | assumption | apply State.settleReady_keeps | apply State.driversSleep_keeps | apply State.setDev_keeps
      | apply State.selectClus_keeps

theorem State.toSett_keeps {M : Prop} {s0 s : State} (hk : Keeps M s0 s) : Keeps M s0 (State.toSett s) := by
  unfold State.toSett
  repeat' with_reducible first
    | assumption | intro _ | lift_lets | apply State.driversSleep_keeps | apply State.each_keeps
      | apply State.scansEnd_keeps | apply State.calAbortAll_keeps | apply State.testAbort_keeps
      | apply State.axEstop_keeps | apply State.modAxis_keeps | apply State.modPower_keeps | apply State.setDdr_keeps
      | apply State.when_keeps | apply State.setDev_keeps | apply Keeps.ite
      | fail_if_no_progress refine Keeps.upd rfl ?_

theorem State.arriveIdle_keeps {M : Prop} {s0 s : State} (hk : Keeps M s0 s) : Keeps M s0 (State.arriveIdle s) := by
  unfold State.arriveIdle
  repeat' with_reducible first
    | assumption | apply State.setDev_keeps | apply State.toSett_keeps | apply Keeps.ite

theorem State.toIdle_keeps {M : Prop} {s0 s : State} (hk : Keeps M s0 s) : Keeps M s0 (State.toIdle s) := by
  unfold State.toIdle
  repeat' with_reducible first
    | assumption | intro _ | lift_lets | apply State.driversSleep_keeps | apply State.setDev_keeps
      | apply State.scansEnd_keeps | apply State.each_keeps | apply State.modClu_keeps | apply State.wr_keeps
      | apply State.arriveIdle_keeps | apply Keeps.ite

theorem keepRegs_wf {m : Regs} (pages : List Page) (rows : List (Page × Row)) (h : Regs.wf m = true) :
    Regs.wf (keepRegs m pages rows) = true := Regs.filter_wf _ h

theorem State.devLost_keeps {M : Prop} {s0 s : State} (hk : Keeps M s0 s) : Keeps M s0 (State.devLost s) :=
  hk.trans ⟨rfl, id, fun x => keepRegs_wf _ _ x, fun _ => rfl, Nat.le_refl _, List.prefix_rfl, fun _ => rfl⟩

theorem State.arriveSett_keeps {M : Prop} {s0 s : State} (hk : Keeps M s0 s) : Keeps M s0 (State.arriveSett s) := by
  unfold State.arriveSett
  repeat' with_reducible first
    | assumption | apply State.devLost_keeps | apply State.denCut_keeps | apply State.wakeStart_keeps
      | apply Keeps.ite

theorem State.loadTime_keeps {M : Prop} {s0 s : State} (hk : Keeps M s0 s) : Keeps M s0 (State.loadTime s) := by
  unfold State.loadTime
  rcases (if s.power.warm then s.tim.saved else none) with _ | ⟨t0, r0, ppb, valid⟩ <;> dsimp only
  · exact State.wr_keeps _ _ _ _ hk
  · exact Keeps.ite (State.wr_keeps _ _ _ _ (State.wr_keeps _ _ _ _ hk))
      (State.wr_keeps _ _ _ _ (State.wr_keeps _ _ _ _ hk))

theorem State.axRestart_keeps {M : Prop} {s0 s : State} (a : Axis)
    (hk : Keeps M s0 s) : Keeps M s0 (State.axRestart s a) := by
  unfold State.axRestart
  repeat' with_reducible first
    | assumption | apply State.flag_keeps | apply State.wr_keeps

theorem State.arriveAwake_keeps {M : Prop} {s0 s : State} (hk : Keeps M s0 s) : Keeps M s0 (State.arriveAwake s) := by
  unfold State.arriveAwake
  repeat' with_reducible first
    | assumption | intro _ | lift_lets | apply State.each_keeps | apply State.wr_keeps | apply State.modPower_keeps
      | apply State.loadTime_keeps | apply State.axRestart_keeps | apply State.when_keeps | apply State.srExited_keeps
      | apply State.raise_keeps | apply State.setDev_keeps | apply State.bootWarm_keeps | apply State.bootCold_keeps
      | apply State.fatalNow_keeps | apply State.toReady_keeps | apply Keeps.ite
      | fail_if_no_progress refine Keeps.upd rfl ?_ | split

/-! ### PowerCmd -/

theorem State.porReset_keeps {M : Prop} {s0 s : State} (hM : M) (hk : Keeps M s0 s) :
    Keeps M s0 (State.porReset s) :=
  hk.trans ⟨rfl, fun _ => rfl, fun x => keepRegs_wf _ _ x, fun _ => rfl, Nat.le_refl _, List.prefix_rfl,
    fun x => absurd hM x⟩

theorem execPowerOnReset_keeps {M : Prop} {s0 s : State} (hk : Keeps M s0 s) : NextKeeps M s0 (execPowerOnReset s) := by
  unfold execPowerOnReset
  repeat' with_reducible first
    | assumption | apply State.wakeStart_keeps | apply State.causeSet_keeps | apply State.modPower_keeps
      | apply Keeps.ite | apply NextKeeps.ite | apply NextKeeps.next | fail_if_no_progress refine Keeps.upd rfl ?_
      | split

theorem execPorAssert_keeps {M : Prop} {s0 s : State} (hM : M) (hk : Keeps M s0 s) : NextKeeps M s0 (execPorAssert s) := by
  unfold execPorAssert
  repeat' with_reducible first
    | assumption | apply State.porReset_keeps | apply State.denCut_keeps | apply Keeps.ite | apply NextKeeps.ite
      | apply NextKeeps.next

theorem execPgoodRise_keeps {M : Prop} {s0 s : State} (k : Fin 2) (bootsel : BitVec 2)
    (hk : Keeps M s0 s) : NextKeeps M s0 (execPgoodRise k bootsel s) := by
  unfold execPgoodRise
  repeat' with_reducible first
    | assumption | apply State.modPower_keeps | apply Keeps.ite | apply NextKeeps.ite | apply NextKeeps.next
      | fail_if_no_progress refine Keeps.upd rfl ?_ | split

theorem execPgoodTimeout_keeps {M : Prop} {s0 s : State} (k : Fin 2)
    (hk : Keeps M s0 s) : NextKeeps M s0 (execPgoodTimeout k s) := by
  unfold execPgoodTimeout
  repeat' with_reducible first
    | assumption | apply State.fatal_keeps | apply State.errOpen_keeps | apply Keeps.ite | apply NextKeeps.ite
      | apply NextKeeps.next | fail_if_no_progress refine Keeps.upd rfl ?_ | split

theorem execPgoodLost_keeps {M : Prop} {s0 s : State} (k : Fin 2)
    (hk : Keeps M s0 s) : NextKeeps M s0 (execPgoodLost k s) := by
  unfold execPgoodLost
  repeat' with_reducible first
    | assumption | apply State.modPower_keeps | apply State.fatal_keeps | apply Keeps.ite | apply NextKeeps.ite
      | apply NextKeeps.next

theorem execSettWakeComplete_keeps {M : Prop} {s0 s : State}
    (hk : Keeps M s0 s) : NextKeeps M s0 (execSettWakeComplete s) := by
  unfold execSettWakeComplete
  repeat' with_reducible first
    | assumption | apply State.arriveAwake_keeps | apply Keeps.ite | apply NextKeeps.ite | apply NextKeeps.next
      | fail_if_no_progress refine Keeps.upd rfl ?_ | split

theorem execSettEntryComplete_keeps {M : Prop} {s0 s : State}
    (hk : Keeps M s0 s) : NextKeeps M s0 (execSettEntryComplete s) := by
  unfold execSettEntryComplete
  repeat' with_reducible first
    | assumption | apply State.arriveSett_keeps | apply Keeps.ite | apply NextKeeps.ite | apply NextKeeps.next

theorem execRtcAlarm_keeps {M : Prop} {s0 s : State} (hk : Keeps M s0 s) : NextKeeps M s0 (execRtcAlarm s) := by
  unfold execRtcAlarm
  repeat' with_reducible first
    | assumption | apply State.wakeSource_keeps | apply State.raise_keeps | apply State.wr_keeps | apply Keeps.ite
      | apply NextKeeps.ite | apply NextKeeps.next

theorem execCmpOutRise_keeps {M : Prop} {s0 s : State} (k : Fin 6) (level : CmpLevel)
    (hk : Keeps M s0 s) : NextKeeps M s0 (execCmpOutRise k level s) := by
  unfold execCmpOutRise
  repeat' with_reducible first
    | assumption | intro _ | lift_lets | apply State.modPower_keeps | apply State.flag_keeps | apply State.when_keeps
      | apply State.each_keeps | apply State.modAxis_keeps | apply State.raise_keeps | apply State.wakeSource_keeps
      | apply State.fatal_keeps | apply Keeps.ite | apply NextKeeps.ite | apply NextKeeps.next

theorem execWakeReqN_keeps {M : Prop} {s0 s : State} (hk : Keeps M s0 s) : NextKeeps M s0 (execWakeReqN s) := by
  unfold execWakeReqN
  repeat' with_reducible first
    | assumption | apply State.wakeSource_keeps | apply Keeps.ite | apply NextKeeps.ite | apply NextKeeps.next

theorem execPerstNDeassert_keeps {M : Prop} {s0 s : State} (hk : Keeps M s0 s) : NextKeeps M s0 (execPerstNDeassert s) := by
  unfold execPerstNDeassert
  repeat' with_reducible first
    | assumption | apply State.wakeSource_keeps | apply Keeps.ite | apply NextKeeps.ite | apply NextKeeps.next

theorem execPerstNAssert_keeps {M : Prop} {s0 s : State} (hk : Keeps M s0 s) : NextKeeps M s0 (execPerstNAssert s) := by
  unfold execPerstNAssert
  repeat' with_reducible first
    | assumption | intro _ | lift_lets | apply State.when_keeps | apply State.raise_keeps | apply State.wr_keeps
      | apply State.linkGone_keeps | apply State.clearRange_keeps | apply Keeps.ite | apply NextKeeps.ite
      | apply NextKeeps.next | fail_if_no_progress refine Keeps.upd rfl ?_

theorem State.badTransition_keeps {M : Prop} {s0 s : State} (req : Req)
    (hk : Keeps M s0 s) : Keeps M s0 (State.badTransition s req) := by
  unfold State.badTransition
  repeat' with_reducible first
    | assumption | apply State.errAt_keeps

theorem State.reqSett_keeps {M : Prop} {s0 s : State} (req : Req)
    (hk : Keeps M s0 s) : Keeps M s0 (State.reqSett s req) := by
  unfold State.reqSett
  repeat' with_reducible first
    | assumption | apply State.toSett_keeps | apply State.toIdle_keeps | apply State.modPower_keeps
      | apply State.badTransition_keeps | apply Keeps.ite | fail_if_no_progress refine Keeps.upd rfl ?_ | split

theorem State.faultLeave_keeps {M : Prop} {s0 s : State} (hk : Keeps M s0 s) : Keeps M s0 (State.faultLeave s) := by
  unfold State.faultLeave
  repeat' with_reducible first
    | assumption | apply State.wr_keeps | apply State.each_keeps | apply State.clusterDown_keeps
      | apply State.setFault_keeps | apply State.setDev_keeps | apply State.enterSolo_keeps

theorem State.reqIdle_keeps {M : Prop} {s0 s : State} (req : Req)
    (hk : Keeps M s0 s) : Keeps M s0 (State.reqIdle s req) := by
  unfold State.reqIdle
  repeat' with_reducible first
    | assumption | apply State.toIdle_keeps | apply State.wakeBy_keeps | apply State.faultLeave_keeps
      | apply State.badTransition_keeps | apply Keeps.ite | fail_if_no_progress refine Keeps.upd rfl ?_ | split

theorem State.reqReady_keeps {M : Prop} {s0 s : State} (req : Req)
    (hk : Keeps M s0 s) : Keeps M s0 (State.reqReady s req) := by
  unfold State.reqReady
  repeat' with_reducible first
    | assumption | apply State.toReady_keeps | apply State.badTransition_keeps | apply Keeps.ite
      | fail_if_no_progress refine Keeps.upd rfl ?_ | split

theorem State.reqWrite_keeps {M : Prop} {s0 s : State} (req : Req) (target : Nat)
    (hk : Keeps M s0 s) : Keeps M s0 (State.reqWrite s req target) := by
  unfold State.reqWrite
  repeat' with_reducible first
    | assumption | apply State.reqSett_keeps | apply State.reqIdle_keeps | apply State.reqReady_keeps
      | apply State.errAt_keeps | apply Keeps.ite | fail_if_no_progress refine Keeps.upd rfl ?_ | split

theorem State.request_keeps {M : Prop} {s0 s : State} (req : Req) (target : Nat)
    (hk : Keeps M s0 s) : Keeps M s0 (State.request s req target) := by
  unfold State.request
  repeat' with_reducible first
    | assumption | intro _ | lift_lets | apply State.badTransition_keeps | apply State.gate_keeps
      | apply State.reqWrite_keeps | apply Keeps.ite

theorem execReqSett_keeps {M : Prop} {s0 s : State} (req : Req)
    (hk : Keeps M s0 s) : NextKeeps M s0 (execReqSett req s) := by
  unfold execReqSett
  repeat' with_reducible first
    | assumption | apply State.request_keeps | apply Keeps.ite | apply NextKeeps.ite | apply NextKeeps.next

theorem execReqIdle_keeps {M : Prop} {s0 s : State} (req : Req)
    (hk : Keeps M s0 s) : NextKeeps M s0 (execReqIdle req s) := by
  unfold execReqIdle
  repeat' with_reducible first
    | assumption | apply State.request_keeps | apply Keeps.ite | apply NextKeeps.ite | apply NextKeeps.next

theorem execReqReady_keeps {M : Prop} {s0 s : State} (req : Req)
    (hk : Keeps M s0 s) : NextKeeps M s0 (execReqReady req s) := by
  unfold execReqReady
  repeat' with_reducible first
    | assumption | apply State.request_keeps | apply Keeps.ite | apply NextKeeps.ite | apply NextKeeps.next

theorem execClusterPowerOn_keeps {M : Prop} {s0 s : State} (c : Clu) (code : BitVec 16) (qual : Word)
    (hk : Keeps M s0 s) : NextKeeps M s0 (execClusterPowerOn c code qual s) := by
  unfold execClusterPowerOn
  dsimp only [State.draw, id]
  repeat' with_reducible first
    | assumption | intro _ | apply State.headSupply_keeps | apply State.modPower_keeps | apply State.wr_keeps
      | apply State.bump_keeps | apply State.setOp_keeps | apply State.modClu_keeps | apply State.calDone_keeps
      | apply State.calReject_keeps | apply State.flag_keeps | apply State.each_keeps | apply State.laneOn_keeps
      | apply Keeps.ite | apply NextKeeps.ite | apply NextKeeps.next

theorem execHvenSet_keeps {M : Prop} {s0 s : State} (c : Clu) (hk : Keeps M s0 s) : NextKeeps M s0 (execHvenSet c s) := by
  unfold execHvenSet
  repeat' with_reducible first
    | assumption | apply State.hvRaise_keeps | apply Keeps.ite | apply NextKeeps.ite | apply NextKeeps.next

theorem execHvpgRise_keeps {M : Prop} {s0 s : State} (c : Clu) (hk : Keeps M s0 s) : NextKeeps M s0 (execHvpgRise c s) := by
  unfold execHvpgRise
  repeat' with_reducible first
    | assumption | apply State.wr_keeps | apply State.raise_keeps | apply State.modClu_keeps
      | apply State.armNext_keeps | apply State.settleReady_keeps | apply Keeps.ite | apply NextKeeps.ite
      | apply NextKeeps.next

theorem execHvTimeout_keeps {M : Prop} {s0 s : State} (c : Clu)
    (hk : Keeps M s0 s) : NextKeeps M s0 (execHvTimeout c s) := by
  unfold execHvTimeout
  repeat' with_reducible first
    | assumption | apply State.hvDrop_keeps | apply State.errOpen_keeps | apply State.raise_keeps
      | apply State.modClu_keeps | apply Keeps.ite | apply NextKeeps.ite | apply NextKeeps.next

theorem execHvpgLost_keeps {M : Prop} {s0 s : State} (c : Clu) (hk : Keeps M s0 s) : NextKeeps M s0 (execHvpgLost c s) := by
  unfold execHvpgLost
  repeat' with_reducible first
    | assumption | apply State.errOpen_keeps | apply State.raise_keeps | apply State.wr_keeps
      | apply State.modClu_keeps | apply State.hvDrop_keeps | apply State.clusterFault_keeps | apply Keeps.ite
      | apply NextKeeps.ite | apply NextKeeps.next

theorem execHvpgFall_keeps {M : Prop} {s0 s : State} (c : Clu) (hk : Keeps M s0 s) : NextKeeps M s0 (execHvpgFall c s) := by
  unfold execHvpgFall
  repeat' with_reducible first
    | assumption | intro _ | lift_lets | apply State.raise_keeps | apply State.wr_keeps | apply State.modClu_keeps
      | apply State.when_keeps | apply State.clusterFault_keeps | apply Keeps.ite | apply NextKeeps.ite
      | apply NextKeeps.next

theorem execClusterRetry_keeps {M : Prop} {s0 s : State} (c : Clu)
    (hk : Keeps M s0 s) : NextKeeps M s0 (execClusterRetry c s) := by
  unfold execClusterRetry
  repeat' with_reducible first
    | assumption | apply State.hvRaise_keeps | apply Keeps.ite | apply NextKeeps.ite | apply NextKeeps.next

theorem execHvDischargeDone_keeps {M : Prop} {s0 s : State} (c : Clu)
    (hk : Keeps M s0 s) : NextKeeps M s0 (execHvDischargeDone c s) := by
  unfold execHvDischargeDone
  repeat' with_reducible first
    | assumption | apply State.clusterDown_keeps | apply State.arriveIdle_keeps | apply Keeps.ite
      | apply NextKeeps.ite | apply NextKeeps.next

theorem State.deadline_keeps {M : Prop} {s0 s : State} (c : Clu) (hk : Keeps M s0 s) : Keeps M s0 (State.deadline s c) := by
  unfold State.deadline
  repeat' with_reducible first
    | assumption | apply State.hvDrop_keeps | apply State.errOpen_keeps | apply State.raise_keeps
      | apply State.modClu_keeps | apply Keeps.ite

theorem execToReadyDeadline_keeps {M : Prop} {s0 s : State}
    (hk : Keeps M s0 s) : NextKeeps M s0 (execToReadyDeadline s) := by
  unfold execToReadyDeadline
  repeat' with_reducible first
    | assumption | apply State.arriveReady_keeps | apply State.each_keeps | apply State.deadline_keeps
      | apply State.spitRestore_keeps | apply Keeps.ite | apply NextKeeps.ite | apply NextKeeps.next

theorem execReadyIdleTimeout_keeps {M : Prop} {s0 s : State}
    (hk : Keeps M s0 s) : NextKeeps M s0 (execReadyIdleTimeout s) := by
  unfold execReadyIdleTimeout
  repeat' with_reducible first
    | assumption | apply State.toIdle_keeps | apply Keeps.ite | apply NextKeeps.ite | apply NextKeeps.next

theorem State.settleIdle_keeps {M : Prop} {s0 s : State} (hk : Keeps M s0 s) : Keeps M s0 (State.settleIdle s) := by
  unfold State.settleIdle
  repeat' with_reducible first
    | assumption | apply State.modPower_keeps | apply Keeps.ite

theorem execAutoSleepDue_keeps {M : Prop} {s0 s : State} (hk : Keeps M s0 s) : NextKeeps M s0 (execAutoSleepDue s) := by
  unfold execAutoSleepDue
  repeat' with_reducible first
    | assumption | apply State.settleIdle_keeps | apply State.raise_keeps | apply State.modPower_keeps
      | apply State.errOpen_keeps | apply Keeps.ite | apply NextKeeps.ite | apply NextKeeps.next

theorem execSleepGraceEnd_keeps {M : Prop} {s0 s : State} (hk : Keeps M s0 s) : NextKeeps M s0 (execSleepGraceEnd s) := by
  unfold execSleepGraceEnd
  repeat' with_reducible first
    | assumption | apply State.toSett_keeps | apply Keeps.ite | apply NextKeeps.ite | apply NextKeeps.next

theorem execDieSensorSample_keeps {M : Prop} {s0 s : State} (t : BitVec 12)
    (hk : Keeps M s0 s) : NextKeeps M s0 (execDieSensorSample t s) := by
  unfold execDieSensorSample
  repeat' with_reducible first
    | assumption | apply State.wr_keeps | apply State.testAbort_keeps | apply Keeps.ite | apply NextKeeps.ite
      | apply NextKeeps.next

theorem execTjWarn_keeps {M : Prop} {s0 s : State} (hk : Keeps M s0 s) : NextKeeps M s0 (execTjWarn s) := by
  unfold execTjWarn
  repeat' with_reducible first
    | assumption | apply State.raise_keeps | apply Keeps.ite | apply NextKeeps.ite | apply NextKeeps.next

theorem execTjShut_keeps {M : Prop} {s0 s : State} (hk : Keeps M s0 s) : NextKeeps M s0 (execTjShut s) := by
  unfold execTjShut
  repeat' with_reducible first
    | assumption | apply State.fatal_keeps | apply Keeps.ite | apply NextKeeps.ite | apply NextKeeps.next

theorem execX32Fail_keeps {M : Prop} {s0 s : State} (hk : Keeps M s0 s) : NextKeeps M s0 (execX32Fail s) := by
  unfold execX32Fail
  repeat' with_reducible first
    | assumption | apply State.wr_keeps | apply Keeps.ite | apply NextKeeps.ite | apply NextKeeps.next

theorem execX32Restore_keeps {M : Prop} {s0 s : State} (hk : Keeps M s0 s) : NextKeeps M s0 (execX32Restore s) := by
  unfold execX32Restore
  repeat' with_reducible first
    | assumption | apply State.wr_keeps | apply Keeps.ite | apply NextKeeps.ite | apply NextKeeps.next

theorem execRtcLoadApply_keeps {M : Prop} {s0 s : State} (hk : Keeps M s0 s) : NextKeeps M s0 (execRtcLoadApply s) := by
  unfold execRtcLoadApply
  repeat' with_reducible first
    | assumption | apply State.rtcLoaded_keeps | apply Keeps.ite | apply NextKeeps.ite | apply NextKeeps.next

theorem State.spitBegin_keeps {M : Prop} {s0 s : State} (origin : DevState)
    (hk : Keeps M s0 s) : Keeps M s0 (State.spitBegin s origin) := by
  unfold State.spitBegin
  repeat' with_reducible first
    | assumption | apply State.modPower_keeps

theorem State.spitDue_keeps {M : Prop} {s0 s : State} (hk : Keeps M s0 s) : Keeps M s0 (State.spitDue s) := by
  unfold State.spitDue
  repeat' with_reducible first
    | assumption | apply State.toReady_keeps | apply State.spitBegin_keeps | apply State.settleReady_keeps
      | apply State.selectClus_keeps | apply State.spitRestore_keeps | apply State.wakeBy_keeps | apply Keeps.ite
      | fail_if_no_progress refine Keeps.upd rfl ?_ | split

theorem execSpitTimerExpiry_keeps {M : Prop} {s0 s : State}
    (hk : Keeps M s0 s) : NextKeeps M s0 (execSpitTimerExpiry s) := by
  unfold execSpitTimerExpiry
  repeat' with_reducible first
    | assumption | apply State.raise_keeps | apply State.bump_keeps | apply State.modPower_keeps
      | apply State.spitDue_keeps | apply Keeps.ite | apply NextKeeps.ite | apply NextKeeps.next

theorem execSpitLine_keeps {M : Prop} {s0 s : State} (hk : Keeps M s0 s) : NextKeeps M s0 (execSpitLine s) := by
  unfold execSpitLine
  dsimp only [State.draw, id]
  repeat' with_reducible first
    | assumption | intro _ | apply State.modPower_keeps | apply State.each_keeps | apply State.spitLine_keeps
      | apply Keeps.ite | apply NextKeeps.ite | apply NextKeeps.next | fail_if_no_progress refine Keeps.upd rfl ?_
      | split

theorem execSpitBurstDone_keeps {M : Prop} {s0 s : State} (hk : Keeps M s0 s) : NextKeeps M s0 (execSpitBurstDone s) := by
  unfold execSpitBurstDone
  repeat' with_reducible first
    | assumption | intro _ | lift_lets | apply State.each_keeps | apply State.modLane_keeps | apply State.raise_keeps
      | apply State.bump_keeps | apply State.modPower_keeps | apply State.toIdle_keeps | apply Keeps.ite
      | apply NextKeeps.ite | apply NextKeeps.next | fail_if_no_progress refine Keeps.upd rfl ?_ | split

theorem execOpChange_keeps {M : Prop} {s0 s : State} (c : Clu) (hk : Keeps M s0 s) : NextKeeps M s0 (execOpChange c s) := by
  unfold execOpChange
  repeat' with_reducible first
    | assumption | apply State.errOpen_keeps | apply State.modClu_keeps | apply State.setVcl_keeps
      | apply State.wr_keeps | apply State.setDclk_keeps | apply Keeps.ite | apply NextKeeps.ite
      | apply NextKeeps.next

theorem execOpChangeDone_keeps {M : Prop} {s0 s : State} (c : Clu)
    (hk : Keeps M s0 s) : NextKeeps M s0 (execOpChangeDone c s) := by
  unfold execOpChangeDone
  repeat' with_reducible first
    | assumption | apply State.modClu_keeps | apply State.raise_keeps | apply State.wr_keeps
      | apply State.setVcl_keeps | apply State.setDclk_keeps | apply State.errOpen_keeps | apply Keeps.ite
      | apply NextKeeps.ite | apply NextKeeps.next | fail_if_no_progress refine Keeps.upd rfl ?_ | split

theorem State.pmbAsk_keeps {M : Prop} {s0 s : State} (k : Nat) (hk : Keeps M s0 s) : Keeps M s0 (State.pmbAsk s k) := by
  unfold State.pmbAsk
  repeat' with_reducible first
    | assumption | intro _ | lift_lets | apply State.each_keeps | apply State.pmbSend_keeps

theorem execPmbPoll_keeps {M : Prop} {s0 s : State} (hk : Keeps M s0 s) : NextKeeps M s0 (execPmbPoll s) := by
  unfold execPmbPoll
  repeat' with_reducible first
    | assumption | apply State.modPower_keeps | apply State.each_keeps | apply State.pmbAsk_keeps | apply Keeps.ite
      | apply NextKeeps.ite | apply NextKeeps.next

theorem State.railFault_keeps {M : Prop} {s0 s : State} (k : Nat)
    (hk : Keeps M s0 s) : Keeps M s0 (State.railFault s k) := by
  unfold State.railFault
  repeat' with_reducible first
    | assumption | apply State.pmbSend_keeps | apply State.errOpen_keeps | apply State.fatal_keeps | apply Keeps.ite

theorem State.pmbGone_keeps {M : Prop} {s0 s : State} (k : Nat) (hk : Keeps M s0 s) : Keeps M s0 (State.pmbGone s k) := by
  unfold State.pmbGone
  repeat' with_reducible first
    | assumption | apply State.modPower_keeps

theorem State.pmbFail_keeps {M : Prop} {s0 s : State} (k : Nat) (n : Nat) (nn : Nat)
    (hk : Keeps M s0 s) : Keeps M s0 (State.pmbFail s k n nn) := by
  unfold State.pmbFail
  repeat' with_reducible first
    | assumption | apply State.pmbGone_keeps | apply State.errOpen_keeps | apply State.pmbAsk_keeps
      | apply State.modPower_keeps | apply State.railFault_keeps | apply Keeps.ite

theorem execPmbTransferDone_keeps {M : Prop} {s0 s : State} (rail : Fin 16) (res : PmbResult)
    (hk : Keeps M s0 s) : NextKeeps M s0 (execPmbTransferDone rail res s) := by
  unfold execPmbTransferDone
  repeat' with_reducible first
    | assumption | intro _ | lift_lets | apply State.wr_keeps | apply State.pmbGone_keeps
      | apply State.railFault_keeps | apply State.pmbFail_keeps | apply State.errOpen_keeps | apply Keeps.ite
      | apply NextKeeps.ite | apply NextKeeps.next | fail_if_no_progress refine Keeps.upd rfl ?_ | split

theorem execPmbAlert_keeps {M : Prop} {s0 s : State} (hk : Keeps M s0 s) : NextKeeps M s0 (execPmbAlert s) := by
  unfold execPmbAlert
  repeat' with_reducible first
    | assumption | apply Keeps.ite | apply NextKeeps.ite | apply NextKeeps.next

theorem execPllUnlock_keeps {M : Prop} {s0 s : State} (pll : Pll)
    (hk : Keeps M s0 s) : NextKeeps M s0 (execPllUnlock pll s) := by
  unfold execPllUnlock
  repeat' with_reducible first
    | assumption | apply State.raise_keeps | apply State.wr_keeps | apply State.each_keeps
      | apply State.clusterFault_keeps | apply State.testAbort_keeps | apply Keeps.ite | apply NextKeeps.ite
      | apply NextKeeps.next

theorem execDllLockLoss_keeps {M : Prop} {s0 s : State} (c : Clu)
    (hk : Keeps M s0 s) : NextKeeps M s0 (execDllLockLoss c s) := by
  unfold execDllLockLoss
  repeat' with_reducible first
    | assumption | intro _ | lift_lets | apply State.clusterFault_keeps | apply State.wr_keeps
      | apply State.when_keeps | apply State.testAbort_keeps | apply Keeps.ite | apply NextKeeps.ite
      | apply NextKeeps.next

theorem execAutoSrTimeout_keeps {M : Prop} {s0 s : State} (hk : Keeps M s0 s) : NextKeeps M s0 (execAutoSrTimeout s) := by
  unfold execAutoSrTimeout
  repeat' with_reducible first
    | assumption | apply State.setDdr_keeps | apply Keeps.ite | apply NextKeeps.ite | apply NextKeeps.next

/-! ### Cores -/

theorem State.hartSettle_keeps {M : Prop} {s0 s : State} (hk : Keeps M s0 s) : Keeps M s0 (State.hartSettle s) := by
  unfold State.hartSettle
  repeat' with_reducible first
    | assumption | apply State.wr_keeps

theorem State.hartWrite_keeps {M : Prop} {s0 s : State} (req : Req) (data : Nat)
    (hk : Keeps M s0 s) : Keeps M s0 (State.hartWrite s req data) := by
  unfold State.hartWrite
  repeat' with_reducible first
    | assumption | apply State.errAt_keeps | apply State.hartSettle_keeps | apply State.wr_keeps | apply Keeps.ite

theorem execHartRun_keeps {M : Prop} {s0 s : State} (req : Req) (data : Word)
    (hk : Keeps M s0 s) : NextKeeps M s0 (execHartRun req data s) := by
  unfold execHartRun
  repeat' with_reducible first
    | assumption | intro _ | lift_lets | apply State.gate_keeps | apply State.hartWrite_keeps | apply Keeps.ite
      | apply NextKeeps.ite | apply NextKeeps.next

theorem execHartReset_keeps {M : Prop} {s0 s : State} (req : Req) (data : Word)
    (hk : Keeps M s0 s) : NextKeeps M s0 (execHartReset req data s) := by
  unfold execHartReset
  repeat' with_reducible first
    | assumption | intro _ | lift_lets | apply State.gate_keeps | apply State.hartWrite_keeps | apply Keeps.ite
      | apply NextKeeps.ite | apply NextKeeps.next

theorem State.hartHalt_keeps {M : Prop} {s0 s : State} (k : Nat) (hk : Keeps M s0 s) : Keeps M s0 (State.hartHalt s k) := by
  unfold State.hartHalt
  repeat' with_reducible first
    | assumption | apply State.hartSettle_keeps | apply State.wr_keeps

theorem execCoreMemUe_keeps {M : Prop} {s0 s : State} (core : Fin 5)
    (hk : Keeps M s0 s) : NextKeeps M s0 (execCoreMemUe core s) := by
  unfold execCoreMemUe
  repeat' with_reducible first
    | assumption | apply State.hartHalt_keeps | apply State.wr_keeps | apply Keeps.ite | apply NextKeeps.ite
      | apply NextKeeps.next

theorem State.wdtRestart_keeps {M : Prop} {s0 s : State} (k : Fin 5)
    (hk : Keeps M s0 s) : Keeps M s0 (State.wdtRestart s k) := by
  unfold State.wdtRestart
  repeat' with_reducible first
    | assumption | apply Keeps.ite | fail_if_no_progress refine Keeps.upd rfl ?_

theorem State.wdtFire_keeps {M : Prop} {s0 s : State} (k : Fin 5) (hk : Keeps M s0 s) : Keeps M s0 (State.wdtFire s k) := by
  unfold State.wdtFire
  repeat' with_reducible first
    | assumption | apply State.raise_keeps | apply State.fatal_keeps | apply Keeps.ite
      | fail_if_no_progress refine Keeps.upd rfl ?_

theorem State.wdtKick_keeps {M : Prop} {s0 s : State} (req : Req) (k : Fin 5) (key : Nat)
    (hk : Keeps M s0 s) : Keeps M s0 (State.wdtKick s req k key) := by
  unfold State.wdtKick
  repeat' with_reducible first
    | assumption | intro _ | lift_lets | apply State.errAt_keeps | apply State.when_keeps | apply State.wdtFire_keeps
      | apply State.wdtRestart_keeps | apply Keeps.ite

theorem execWdtKick_keeps {M : Prop} {s0 s : State} (req : Req) (k : Fin 5) (key : BitVec 8)
    (hk : Keeps M s0 s) : NextKeeps M s0 (execWdtKick req k key s) := by
  unfold execWdtKick
  repeat' with_reducible first
    | assumption | intro _ | lift_lets | apply State.gate_keeps | apply State.wdtKick_keeps | apply Keeps.ite
      | apply NextKeeps.ite | apply NextKeeps.next

theorem execWdtExpire_keeps {M : Prop} {s0 s : State} (k : Fin 5)
    (hk : Keeps M s0 s) : NextKeeps M s0 (execWdtExpire k s) := by
  unfold execWdtExpire
  repeat' with_reducible first
    | assumption | apply State.wdtFire_keeps | apply Keeps.ite | apply NextKeeps.ite | apply NextKeeps.next

theorem execWdtHalt_keeps {M : Prop} {s0 s : State} (k : Fin 4) (mepc : BitVec 64)
    (hk : Keeps M s0 s) : NextKeeps M s0 (execWdtHalt k mepc s) := by
  unfold execWdtHalt
  repeat' with_reducible first
    | assumption | apply State.denHw_keeps | apply State.hartHalt_keeps | apply Keeps.ite | apply NextKeeps.ite
      | apply NextKeeps.next

theorem State.mbxSend_keeps {M : Prop} {s0 s : State} (h2c : Bool) (len : Nat)
    (hk : Keeps M s0 s) : Keeps M s0 (State.mbxSend s h2c len) := by
  unfold State.mbxSend
  repeat' with_reducible first
    | assumption | apply State.raise_keeps | apply State.wr_keeps

theorem State.mbxRelease_keeps {M : Prop} {s0 s : State} (h2c : Bool)
    (hk : Keeps M s0 s) : Keeps M s0 (State.mbxRelease s h2c) := by
  unfold State.mbxRelease
  repeat' with_reducible first
    | assumption | apply State.raise_keeps | apply State.wr_keeps

theorem State.mbxCtrlWrite_keeps {M : Prop} {s0 s : State} (req : Req) (h2c : Bool) (data : Nat)
    (hk : Keeps M s0 s) : Keeps M s0 (State.mbxCtrlWrite s req h2c data) := by
  unfold State.mbxCtrlWrite
  repeat' with_reducible first
    | assumption | apply State.errAt_keeps | apply State.mbxSend_keeps | apply State.mbxRelease_keeps
      | apply Keeps.ite

theorem execMbxSend_keeps {M : Prop} {s0 s : State} (req : Req) (h2c : Bool) (len : BitVec 9)
    (hk : Keeps M s0 s) : NextKeeps M s0 (execMbxSend req h2c len s) := by
  unfold execMbxSend
  repeat' with_reducible first
    | assumption | intro _ | lift_lets | apply State.gate_keeps | apply State.mbxCtrlWrite_keeps | apply Keeps.ite
      | apply NextKeeps.ite | apply NextKeeps.next

theorem execMbxRelease_keeps {M : Prop} {s0 s : State} (req : Req) (h2c : Bool)
    (hk : Keeps M s0 s) : NextKeeps M s0 (execMbxRelease req h2c s) := by
  unfold execMbxRelease
  repeat' with_reducible first
    | assumption | intro _ | lift_lets | apply State.gate_keeps | apply State.mbxCtrlWrite_keeps | apply Keeps.ite
      | apply NextKeeps.ite | apply NextKeeps.next

theorem State.fwReply_keeps {M : Prop} {s0 s : State} (status : Nat) (words : List Nat)
    (hk : Keeps M s0 s) : Keeps M s0 (State.fwReply s status words) := by
  unfold State.fwReply
  repeat' with_reducible first
    | assumption | intro _ | lift_lets | apply State.each_keeps | apply State.mbxRelease_keeps | apply State.wr_keeps
      | apply State.mbxSend_keeps

theorem State.fwAnswer_keeps {M : Prop} {s0 s : State} (type : Nat) (act : State → State) (hact : ∀ x0, Keeps M s0 x0 → Keeps M s0 (act x0))
    (hk : Keeps M s0 s) : Keeps M s0 (State.fwAnswer s type act) := by
  unfold State.fwAnswer
  repeat' with_reducible first
    | assumption | apply hact | apply State.fwReply_keeps | apply Keeps.ite

theorem execHello_keeps {M : Prop} {s0 s : State} (hk : Keeps M s0 s) : NextKeeps M s0 (execHello s) := by
  unfold execHello
  repeat' with_reducible first
    | assumption | intro _ | lift_lets | apply State.fwAnswer_keeps | apply State.fwReply_keeps | apply Keeps.ite
      | apply NextKeeps.ite | apply NextKeeps.next

theorem execPtpStart_keeps {M : Prop} {s0 s : State} (hk : Keeps M s0 s) : NextKeeps M s0 (execPtpStart s) := by
  unfold execPtpStart
  repeat' with_reducible first
    | assumption | intro _ | lift_lets | apply State.fwAnswer_keeps | apply State.when_keeps
      | apply State.servoCtrl_keeps | apply State.fwReply_keeps | apply Keeps.ite | apply NextKeeps.ite
      | apply NextKeeps.next | fail_if_no_progress refine Keeps.upd rfl ?_

theorem execPtpState_keeps {M : Prop} {s0 s : State} (hk : Keeps M s0 s) : NextKeeps M s0 (execPtpState s) := by
  unfold execPtpState
  repeat' with_reducible first
    | assumption | intro _ | lift_lets | apply State.fwAnswer_keeps | apply State.fwReply_keeps | apply Keeps.ite
      | apply NextKeeps.ite | apply NextKeeps.next

end Sys2Proof.Machine
end

