-- ==== Sys2Proof/Laws/KeepsRegs.lean ====
section
/-! SUPPORT. What `Keeps` says, for each operation and each meaning of event flags, commits, register writes and the clock. -/

namespace Sys2Proof.Machine

/-! ### Flags -/

theorem State.settlePrn_keeps {M : Prop} {s0 s : State} (hk : Keeps M s0 s) : Keeps M s0 (State.settlePrn s) := by
  unfold State.settlePrn
  repeat' with_reducible first
    | assumption | apply State.flag_keeps | apply State.raise_keeps | apply State.bump_keeps | apply Keeps.ite

/-! ### Staged -/

theorem State.wordRefuse_keeps {M : Prop} {s0 s : State} (req : Req) (p : Page) (off : Nat) (nn : Nat)
    (hk : Keeps M s0 s) : Keeps M s0 (State.wordRefuse s req p off nn) := by
  unfold State.wordRefuse
  repeat' with_reducible first
    | assumption | apply State.errAt_keeps | apply State.errOpen_keeps | apply Keeps.ite

theorem State.countsChecked_keeps {M : Prop} {s0 s : State} (hk : Keeps M s0 s) : Keeps M s0 (State.countsChecked s) := by
  unfold State.countsChecked
  repeat' with_reducible first
    | assumption | apply Keeps.ite | fail_if_no_progress refine Keeps.upd rfl ?_

theorem State.commitBad_keeps {M : Prop} {s0 s t : State} (req : Req) (p : Page) (at_ : Nat)
    (hb : State.commitBad s req p at_ = some t) (hk : Keeps M s0 s) : Keeps M s0 t := by
  have he (nn info : Nat) : Keeps M s0 (s.err p nn info) := State.err_keeps _ _ _ hk
  have ho (nn : Nat) : Keeps M s0 (s.errOpen p nn) := State.errOpen_keeps _ _ hk
  have ha (nn off req : Nat) : Keeps M s0 (s.errAt p nn off req) := State.errAt_keeps _ _ _ _ hk
  have hd (nn info : Nat) : Keeps M s0 (({ s with free := s.free + 1 } : State).err p nn info) :=
    State.err_keeps _ _ _ (State.draw_keeps hk)
  have hw (off nn : Nat) : Keeps M s0 (s.wordRefuse req p off nn) := State.wordRefuse_keeps _ _ _ _ hk
  unfold State.commitBad at hb
  dsimp only [State.draw] at hb
  repeat' split at hb
  all_goals first
    | (cases hb; done)
    | (cases hb; with_reducible first | apply he | apply ho | apply ha | apply hd | apply hw)
    | (obtain ⟨_, _, rfl⟩ := Option.map_eq_some_iff.1 hb; exact he _ _)

theorem State.commitReq_keeps {M : Prop} {s0 s : State} (req : Req) (p : Page) (at_ : Nat) (hk : Keeps M s0 s) :
    Keeps M s0 (State.commitReq s req p at_) := by
  unfold State.commitReq
  refine Keeps.ite (State.errAt_keeps _ _ _ _ hk) (Keeps.ite (State.errAt_keeps _ _ _ _ hk) ?_)
  split
  · exact State.commitBad_keeps _ _ _ (by assumption) hk
  · split
    · exact State.wordRefuse_keeps _ _ _ _ hk
    · have h := State.when_keeps (M := M) (s0 := s0) (p == .pln) State.countsChecked hk fun _ h =>
        State.countsChecked_keeps h
      exact Keeps.ite (State.commitPend_keeps _ _ h) (State.commitPage_keeps _ h)

theorem State.cancelPend_keeps {M : Prop} {s0 s : State} (p : Page)
    (hk : Keeps M s0 s) : Keeps M s0 (State.cancelPend s p) := by
  unfold State.cancelPend
  repeat' with_reducible first
    | assumption | apply State.clearPend_keeps | apply State.awlRelease_keeps | apply State.modLane_keeps
      | apply Keeps.ite | fail_if_no_progress refine Keeps.upd rfl ?_ | split

theorem State.initHook_keeps {M : Prop} {s0 s : State} (p : Page)
    (hk : Keeps M s0 s) : Keeps M s0 (State.initHook s p) := by
  unfold State.initHook
  repeat' with_reducible first
    | assumption | apply State.settleCredit_keeps | apply State.commitHook_keeps | apply State.settleSlow_keeps
      | apply State.settlePerm_keeps | apply State.setPage_keeps | apply State.settleReverse_keeps
      | apply State.settleTmin_keeps | apply State.waveFigures_keeps | apply State.wr_keeps
      | apply State.loadBank_keeps | apply State.each_keeps | apply State.partnerRefresh_keeps
      | apply State.setFreq_keeps | apply State.hartSettle_keeps | apply State.settleRole_keeps | apply Keeps.ite
      | fail_if_no_progress refine Keeps.upd rfl ?_ | split

theorem State.pageInit_keeps {M : Prop} {s0 s : State} (p : Page) (hk : Keeps M s0 s) :
    Keeps M s0 (State.pageInit s p) := by
  have h1 := Keeps.cleared (p.base * 8 + 0x200) (0x8000 + p.base * 8) s.commits hk
  unfold State.pageInit
  dsimp only
  have h2 := State.each_keeps (s0 := s0) (M := M) (fun (t : State) (e : Row × Nat × Nat) => t.wr p e.1 e.2.2 e.2.1)
    (fun _ _ h => State.wr_keeps _ _ _ _ h)
    ((liveRows p).flatMap fun r => (List.range r.count).map fun i => (r, i, s.rd p r i)) h1
  refine State.awlRelease_keeps _ (State.initHook_keeps _ ?_)
  split
  · exact State.modLane_keeps _ _ (Keeps.ite (State.clearPend_keeps _ h2) h2)
  · exact Keeps.ite (State.clearPend_keeps _ h2) h2

theorem State.enHook_keeps {M : Prop} {s0 s : State} (p : Page) (en : Bool)
    (hk : Keeps M s0 s) : Keeps M s0 (State.enHook s p en) := by
  unfold State.enHook
  repeat' with_reducible first
    | assumption | intro _ | lift_lets | apply State.setAx_keeps | apply State.modAxis_keeps
      | apply State.laneOn_keeps | apply State.laneOff_keeps | apply State.overflowOut_keeps
      | apply State.setPage_keeps | apply State.when_keeps | apply State.raise_keeps | apply Keeps.ite
      | fail_if_no_progress refine Keeps.upd rfl ?_ | split

theorem State.ctrlWrite_keeps {M : Prop} {s0 s : State} (req : Req) (p : Page) (data : Nat)
    (hk : Keeps M s0 s) : Keeps M s0 (State.ctrlWrite s req p data) := by
  unfold State.ctrlWrite
  repeat' with_reducible first
    | assumption | intro _ | lift_lets | apply State.errAt_keeps | apply State.when_keeps | apply State.pageInit_keeps
      | apply State.enHook_keeps | apply State.flag_keeps | apply State.wr_keeps | apply State.cancelPend_keeps
      | apply State.commitReq_keeps | apply Keeps.ite

theorem execPgInit_keeps {M : Prop} {s0 s : State} (req : Req) (p : Page) (data : Word)
    (hk : Keeps M s0 s) : NextKeeps M s0 (execPgInit req p data s) := by
  unfold execPgInit
  repeat' with_reducible first
    | assumption | intro _ | lift_lets | apply State.gate_keeps | apply State.ctrlWrite_keeps | apply Keeps.ite
      | apply NextKeeps.ite | apply NextKeeps.next

theorem execPgLock_keeps {M : Prop} {s0 s : State} (req : Req) (p : Page) (data : Word)
    (hk : Keeps M s0 s) : NextKeeps M s0 (execPgLock req p data s) := by
  unfold execPgLock
  repeat' with_reducible first
    | assumption | intro _ | lift_lets | apply State.gate_keeps | apply State.ctrlWrite_keeps | apply Keeps.ite
      | apply NextKeeps.ite | apply NextKeeps.next

theorem execCommit_keeps {M : Prop} {s0 s : State} (req : Req) (p : Page) (data : Word)
    (hk : Keeps M s0 s) : NextKeeps M s0 (execCommit req p data s) := by
  unfold execCommit
  repeat' with_reducible first
    | assumption | intro _ | lift_lets | apply State.gate_keeps | apply State.ctrlWrite_keeps | apply Keeps.ite
      | apply NextKeeps.ite | apply NextKeeps.next

theorem execCancel_keeps {M : Prop} {s0 s : State} (req : Req) (p : Page) (data : Word)
    (hk : Keeps M s0 s) : NextKeeps M s0 (execCancel req p data s) := by
  unfold execCancel
  repeat' with_reducible first
    | assumption | intro _ | lift_lets | apply State.gate_keeps | apply State.ctrlWrite_keeps | apply Keeps.ite
      | apply NextKeeps.ite | apply NextKeeps.next

theorem execCommitDone_keeps {M : Prop} {s0 s : State} (p : Page)
    (hk : Keeps M s0 s) : NextKeeps M s0 (execCommitDone p s) := by
  unfold execCommitDone
  repeat' with_reducible first
    | assumption | intro _ | lift_lets | apply State.axTake_keeps | apply State.when_keeps
      | apply State.commitPage_keeps | apply Keeps.ite | apply NextKeeps.ite | apply NextKeeps.next
      | fail_if_no_progress refine Keeps.upd rfl ?_ | split

/-! ### RegWrite -/

theorem State.evtClear_keeps {M : Prop} {s0 s : State} (p : Page) (mask : Nat)
    (hk : Keeps M s0 s) : Keeps M s0 (State.evtClear s p mask) := by
  unfold State.evtClear
  repeat' with_reducible first
    | assumption | apply State.wr_keeps

theorem State.errClear_keeps {M : Prop} {s0 s : State} (p : Page)
    (hk : Keeps M s0 s) : Keeps M s0 (State.errClear s p) := by
  unfold State.errClear
  repeat' with_reducible first
    | assumption | apply State.wr_keeps

theorem State.w1c_keeps {M : Prop} {s0 s : State} (p : Page) (off : Nat) (data : Nat)
    (hk : Keeps M s0 s) : Keeps M s0 (State.w1c s p off data) := by
  unfold State.w1c
  repeat' with_reducible first
    | assumption | intro _ | lift_lets | apply State.each_keeps | apply State.wr_keeps

theorem State.waveSend_keeps {M : Prop} {s0 s : State} (l : Lane) (off : Nat)
    (hk : Keeps M s0 s) : Keeps M s0 (State.waveSend s l off) := by
  unfold State.waveSend
  repeat' with_reducible first
    | assumption | apply State.wr_keeps | apply State.queueCtrl_keeps | apply Keeps.ite

theorem State.wordAfter_keeps {M : Prop} {s0 s : State} (old : State) (p : Page) (off : Nat) (data : Nat)
    (hk : Keeps M s0 s) : Keeps M s0 (State.wordAfter s old p off data) := by
  unfold State.wordAfter
  repeat' with_reducible first
    | assumption | intro _ | lift_lets | apply State.each_keeps | apply State.wr_keeps | apply State.railSet_keeps
      | apply State.modPower_keeps | apply State.wdtRestart_keeps | apply State.settlePerm_keeps
      | apply State.settleRole_keeps | apply State.waveSend_keeps | apply State.headCfg_keeps
      | apply State.settleTmin_keeps | apply State.setFreq_keeps | apply State.msixSend_keeps | apply Keeps.ite
      | fail_if_no_progress refine Keeps.upd rfl ?_ | split

theorem State.plainWrite_keeps {M : Prop} {s0 s : State} (req : Req) (p : Page) (off : Nat) (data : Nat)
    (hk : Keeps M s0 s) : Keeps M s0 (State.plainWrite s req p off data) := by
  unfold State.plainWrite
  repeat' with_reducible first
    | assumption | intro _ | lift_lets | apply State.errAt_keeps | apply State.wordRefuse_keeps
      | apply State.wordAfter_keeps | apply State.w1c_keeps | apply State.store_keeps | apply Keeps.ite
      | fail_if_no_progress refine Keeps.upd rfl ?_ | split

theorem State.bistCmd_keeps {M : Prop} {s0 s : State} (req : Req) (data : Nat) (hM : M)
    (hk : Keeps M s0 s) : Keeps M s0 (State.bistCmd s req data) := by
  unfold State.bistCmd
  repeat' with_reducible first
    | assumption | intro _ | lift_lets | apply State.when_keeps | apply State.bistStart_keeps
      | apply State.testAbort_keeps | apply State.fuseBurn_keeps | apply State.imgSave_keeps

theorem State.ringCtrl_keeps {M : Prop} {s0 s : State} (r : Fin 10) (data : Nat)
    (hk : Keeps M s0 s) : Keeps M s0 (State.ringCtrl s r data) := by
  unfold State.ringCtrl
  repeat' with_reducible first
    | assumption | intro _ | lift_lets | apply State.when_keeps | apply State.ringReset_keeps
      | apply State.ringOn_keeps | apply State.ringOff_keeps | apply Keeps.ite

theorem State.pairCmd_keeps {M : Prop} {s0 s : State} (data : Nat)
    (hk : Keeps M s0 s) : Keeps M s0 (State.pairCmd s data) := by
  unfold State.pairCmd
  repeat' with_reducible first
    | assumption | apply State.when_keeps | apply State.alignWrite_keeps | apply State.handoverWrite_keeps
      | apply State.fwWrite_keeps

theorem State.seqCmd_keeps {M : Prop} {s0 s : State} (l : Lane) (data : Nat)
    (hk : Keeps M s0 s) : Keeps M s0 (State.seqCmd s l data) := by
  unfold State.seqCmd
  repeat' with_reducible first
    | assumption | intro _ | lift_lets | apply State.when_keeps | apply State.seqResume_keeps
      | apply State.seqClear_keeps

theorem State.slotCtrl_keeps {M : Prop} {s0 s : State} (k : Fin 16) (data : Nat)
    (hk : Keeps M s0 s) : Keeps M s0 (State.slotCtrl s k data) := by
  unfold State.slotCtrl
  repeat' with_reducible first
    | assumption | intro _ | lift_lets | apply State.when_keeps | apply State.jobAbort_keeps
      | apply State.jobRelease_keeps

theorem State.intWrite_keeps {M : Prop} {s0 s : State} (req : Req) (off : Nat) (data : Nat)
    (hk : Keeps M s0 s) : Keeps M s0 (State.intWrite s req off data) := by
  unfold State.intWrite
  repeat' with_reducible first
    | assumption | apply State.heapWrite_keeps | apply State.ringCtrl_keeps | apply State.ringDb_keeps
      | apply State.plainWrite_keeps | apply Keeps.ite | fail_if_no_progress refine Keeps.upd rfl ?_ | split

theorem State.cdcWrite_keeps {M : Prop} {s0 s : State} (req : Req) (off : Nat) (data : Nat)
    (hk : Keeps M s0 s) : Keeps M s0 (State.cdcWrite s req off data) := by
  unfold State.cdcWrite
  repeat' with_reducible first
    | assumption | apply State.when_keeps | apply State.fjobGo_keeps | apply State.chainWrite_keeps
      | apply State.slotCtrl_keeps | apply State.plainWrite_keeps | apply Keeps.ite
      | fail_if_no_progress refine Keeps.upd rfl ?_ | split

theorem State.coreWrite_keeps {M : Prop} {s0 s : State} (req : Req) (off : Nat) (data : Nat)
    (hk : Keeps M s0 s) : Keeps M s0 (State.coreWrite s req off data) := by
  unfold State.coreWrite
  repeat' with_reducible first
    | assumption | intro _ | lift_lets | apply State.when_keeps | apply State.bootRestart_keeps
      | apply State.pushWrite_keeps | apply State.hartWrite_keeps | apply State.mbxCtrlWrite_keeps
      | apply State.wdtKick_keeps | apply State.plainWrite_keeps | apply Keeps.ite
      | fail_if_no_progress refine Keeps.upd rfl ?_ | split

theorem State.timWrite_keeps {M : Prop} {s0 s : State} (req : Req) (off : Nat) (data : Nat)
    (hk : Keeps M s0 s) : Keeps M s0 (State.timWrite s req off data) := by
  unfold State.timWrite
  repeat' with_reducible first
    | assumption | apply State.timeSetWrite_keeps | apply State.timeAdjWrite_keeps | apply State.servoCtrlWrite_keeps
      | apply State.offsetTake_keeps | apply State.trigCtrlWrite_keeps | apply State.plainWrite_keeps
      | apply Keeps.ite | fail_if_no_progress refine Keeps.upd rfl ?_ | split

theorem State.regWrite_keeps {M : Prop} {s0 s : State} (req : Req) (p : Page) (off : Nat) (data : Nat) (hM : M)
    (hk : Keeps M s0 s) : Keeps M s0 (State.regWrite s req p off data) := by
  unfold State.regWrite
  repeat' with_reducible first
    | assumption | intro _ | lift_lets | apply State.ctrlWrite_keeps | apply State.settling_keeps
      | apply State.plainWrite_keeps | apply State.evtClear_keeps | apply State.when_keeps
      | apply State.errClear_keeps | apply State.reqWrite_keeps | apply State.coreWrite_keeps
      | apply State.msixSend_keeps | apply State.intWrite_keeps | apply State.cdcWrite_keeps
      | apply State.enabled_keeps | apply State.lstStartWrite_keeps | apply State.paceCtrlWrite_keeps
      | apply State.wlLoadWrite_keeps | apply State.axCmdWrite_keeps | apply State.timWrite_keeps
      | apply State.pairCmd_keeps | apply State.bistCmd_keeps | apply State.calCmdWrite_keeps
      | apply State.denRateWrite_keeps | apply State.denRdSlot_keeps | apply State.denFwGo_keeps
      | apply State.spoilDb_keeps | apply State.matCmdWrite_keeps | apply State.tblCrcGo_keeps
      | apply State.awlCmdWrite_keeps | apply State.seqCmd_keeps | apply State.retrain_keeps | apply Keeps.ite
      | fail_if_no_progress refine Keeps.upd rfl ?_ | split

theorem State.lowWrite_keeps {M : Prop} {s0 s : State} (req : Req) (p : Page) (off : Nat) (data : Nat)
    (hk : Keeps M s0 s) : Keeps M s0 (State.lowWrite s req p off data) := by
  unfold State.lowWrite
  repeat' with_reducible first
    | assumption | apply Keeps.ite | fail_if_no_progress refine Keeps.upd rfl ?_

theorem State.highWrite_keeps {M : Prop} {s0 s : State} (req : Req) (p : Page) (off : Nat) (data : Nat) (hM : M)
    (hk : Keeps M s0 s) : Keeps M s0 (State.highWrite s req p off data) := by
  unfold State.highWrite
  repeat' with_reducible first
    | assumption | apply State.regWrite_keeps | apply Keeps.ite | fail_if_no_progress refine Keeps.upd rfl ?_ | split

theorem State.pageWrite_keeps {M : Prop} {s0 s : State} (req : Req) (p : Page) (off : Nat) (data : Nat) (hM : M)
    (hk : Keeps M s0 s) : Keeps M s0 (State.pageWrite s req p off data) := by
  unfold State.pageWrite
  repeat' with_reducible first
    | assumption | apply State.lowWrite_keeps | apply State.highWrite_keeps | apply State.regWrite_keeps
      | apply Keeps.ite

theorem State.wakeWrite_keeps {M : Prop} {s0 s : State} (req : Req) (t : Target) (data : Nat)
    (hk : Keeps M s0 s) : Keeps M s0 (State.wakeWrite s req t data) := by
  unfold State.wakeWrite
  repeat' with_reducible first
    | assumption | apply State.badTransition_keeps | apply State.errAt_keeps | apply Keeps.ite

theorem State.coreWriteOut_keeps {M : Prop} {s0 s : State} (req : Req) (a : Nat) (be : BitVec 4) (data : WriteData)
    (hk : Keeps M s0 s) : Keeps M s0 (State.coreWriteOut s req a be data) := by
  unfold State.coreWriteOut
  repeat' with_reducible first
    | assumption | apply Keeps.ite | fail_if_no_progress refine Keeps.upd rfl ?_ | split

theorem State.coreReadOut_keeps {M : Prop} {s0 s : State} (req : Req) (a : Nat) (wide : Bool)
    (hk : Keeps M s0 s) : Keeps M s0 (State.coreReadOut s req a wide) := by
  unfold State.coreReadOut
  repeat' with_reducible first
    | assumption | apply Keeps.ite | fail_if_no_progress refine Keeps.upd rfl ?_ | split

theorem execRegisterWrite_keeps {M : Prop} {s0 s : State} (req : Req) (addr : Word) (be : BitVec 4) (data : WriteData) (hM : M)
    (hk : Keeps M s0 s) : NextKeeps M s0 (execRegisterWrite req addr be data s) := by
  unfold execRegisterWrite
  repeat' with_reducible first
    | assumption | (intro x; subst x) | lift_lets | apply State.wakeWrite_keeps | apply State.coreWriteOut_keeps
      | apply State.hostTouch_keeps | apply State.answerError_keeps | apply State.fabError_keeps
      | apply State.pageWrite_keeps | apply State.highWrite_keeps | apply State.lowWrite_keeps
      | apply State.windowWrite_keeps | apply Keeps.ite | apply NextKeeps.ite | apply NextKeeps.next
      | fail_if_no_progress refine Keeps.upd rfl ?_ | split

theorem execAccessTimeout_keeps {M : Prop} {s0 s : State} (req : Req) (wr : Bool) (addr : Word)
    (hk : Keeps M s0 s) : NextKeeps M s0 (execAccessTimeout req wr addr s) := by
  unfold execAccessTimeout
  repeat' with_reducible first
    | assumption | apply State.answerError_keeps | apply State.fabError_keeps | apply Keeps.ite | apply NextKeeps.ite
      | apply NextKeeps.next

theorem execPairLowRead_keeps {M : Prop} {s0 s : State} (req : Req) (addr : Word) (wide : Bool)
    (hk : Keeps M s0 s) : NextKeeps M s0 (execPairLowRead req addr wide s) := by
  unfold execPairLowRead
  repeat' with_reducible first
    | assumption | apply State.coreReadOut_keeps | apply State.answerError_keeps | apply State.fabError_keeps
      | apply Keeps.ite | apply NextKeeps.ite | apply NextKeeps.next | fail_if_no_progress refine Keeps.upd rfl ?_
      | split

theorem execPairLowWrite_keeps {M : Prop} {s0 s : State} (req : Req) (p : Page) (w : BitVec 10) (data : Word)
    (hk : Keeps M s0 s) : NextKeeps M s0 (execPairLowWrite req p w data s) := by
  unfold execPairLowWrite
  repeat' with_reducible first
    | assumption | intro _ | lift_lets | apply State.gate_keeps | apply State.lowWrite_keeps | apply Keeps.ite
      | apply NextKeeps.ite | apply NextKeeps.next

theorem execPairHighWrite_keeps {M : Prop} {s0 s : State} (req : Req) (p : Page) (w : BitVec 10) (data : Word) (hM : M)
    (hk : Keeps M s0 s) : NextKeeps M s0 (execPairHighWrite req p w data s) := by
  unfold execPairHighWrite
  repeat' with_reducible first
    | assumption | intro _ | lift_lets | apply State.gate_keeps | apply State.highWrite_keeps | apply Keeps.ite
      | apply NextKeeps.ite | apply NextKeeps.next

theorem execEvtPendClear_keeps {M : Prop} {s0 s : State} (req : Req) (p : Page) (mask : Word)
    (hk : Keeps M s0 s) : NextKeeps M s0 (execEvtPendClear req p mask s) := by
  unfold execEvtPendClear
  repeat' with_reducible first
    | assumption | intro _ | lift_lets | apply State.gate_keeps | apply State.settling_keeps
      | apply State.evtClear_keeps | apply Keeps.ite | apply NextKeeps.ite | apply NextKeeps.next

theorem execErrCodeClear_keeps {M : Prop} {s0 s : State} (req : Req) (p : Page)
    (hk : Keeps M s0 s) : NextKeeps M s0 (execErrCodeClear req p s) := by
  unfold execErrCodeClear
  repeat' with_reducible first
    | assumption | intro _ | lift_lets | apply State.gate_keeps | apply State.errClear_keeps | apply Keeps.ite
      | apply NextKeeps.ite | apply NextKeeps.next

theorem execEoi_keeps {M : Prop} {s0 s : State} (req : Req) (vec : BitVec 6)
    (hk : Keeps M s0 s) : NextKeeps M s0 (execEoi req vec s) := by
  unfold execEoi
  repeat' with_reducible first
    | assumption | intro _ | lift_lets | apply State.gate_keeps | apply State.msixSend_keeps | apply Keeps.ite
      | apply NextKeeps.ite | apply NextKeeps.next

theorem execMsixUnmask_keeps {M : Prop} {s0 s : State} (req : Req) (vec : BitVec 6)
    (hk : Keeps M s0 s) : NextKeeps M s0 (execMsixUnmask req vec s) := by
  unfold execMsixUnmask
  repeat' with_reducible first
    | assumption | intro _ | lift_lets | apply State.gate_keeps | apply State.wr_keeps | apply State.settleMsix_keeps
      | apply State.msixSend_keeps | apply Keeps.ite | apply NextKeeps.ite | apply NextKeeps.next

/-! ### Clock -/

theorem State.rtcTick_keeps {M : Prop} {s0 s : State} (hk : Keeps M s0 s) : Keeps M s0 (State.rtcTick s) := by
  unfold State.rtcTick
  repeat' with_reducible first
    | assumption | apply State.rtcLoaded_keeps | apply State.wr_keeps | apply State.modPower_keeps
      | apply State.calNotice_keeps | apply Keeps.ite

theorem State.rtcStep_keeps {M : Prop} {s0 s : State} (hk : Keeps M s0 s) : Keeps M s0 (State.rtcStep s).2 := by
  unfold State.rtcStep
  split
  · exact hk
  · exact State.draw_keeps hk

theorem State.rtcStep_kept {M : Prop} {s0 s t : State} {x : Nat}
    (he : State.rtcStep s = (x, t)) (hk : Keeps M s0 s) : Keeps M s0 t := by
  have h := State.rtcStep_keeps hk
  rw [he] at h
  exact h

theorem State.rtcAdvance_keeps {M : Prop} {s0 s : State} (hk : Keeps M s0 s) : Keeps M s0 (State.rtcAdvance s) := by
  unfold State.rtcAdvance
  repeat' with_reducible first
    | assumption | apply State.rtcTick_keeps | apply Keeps.ite | refine State.rtcStep_kept (by assumption) ?_
      | apply State.rtcStep_keeps | fail_if_no_progress refine Keeps.upd rfl ?_

theorem State.timeAdvance_keeps {M : Prop} {s0 s : State} (hk : Keeps M s0 s) : Keeps M s0 (State.timeAdvance s) := by
  unfold State.timeAdvance
  repeat' with_reducible first
    | assumption | apply State.wr_keeps | apply Keeps.ite | fail_if_no_progress refine Keeps.upd rfl ?_

theorem State.fwSent_keeps {M : Prop} {s0 s : State} (hk : Keeps M s0 s) : Keeps M s0 (State.fwSent s) := by
  unfold State.fwSent
  repeat' with_reducible first
    | assumption | apply State.wr_keeps | apply Keeps.ite

theorem State.hvSample_keeps {M : Prop} {s0 s : State} (hk : Keeps M s0 s) : Keeps M s0 (State.hvSample s) := by
  unfold State.hvSample
  repeat' with_reducible first
    | assumption | intro _ | lift_lets | apply State.each_keeps | apply State.wr_keeps | apply Keeps.ite
      | apply State.draw_keeps

theorem State.spoolTick_keeps {M : Prop} {s0 s : State} (hM : M) (hk : Keeps M s0 s) : Keeps M s0 (State.spoolTick s) := by
  unfold State.spoolTick
  repeat' with_reducible first
    | assumption | intro _ | lift_lets | apply State.windowDrain_keeps | apply State.when_keeps
      | apply State.each_keeps | apply State.serveSlot_keeps

theorem State.tick_keeps {M : Prop} {s0 s : State} (hM : M) (hk : Keeps M s0 s) : Keeps M s0 (State.tick s) := by
  unfold State.tick
  repeat' with_reducible first
    | assumption | apply State.modPower_keeps | apply State.rtcAdvance_keeps | apply State.hvSample_keeps
      | apply State.timeAdvance_keeps | apply State.settleSources_keeps | apply State.recheck_keeps
      | apply State.decodeTick_keeps | apply State.codecTick_keeps | apply State.dmaReturn_keeps
      | apply State.spoolTick_keeps | apply State.pushDrain_keeps | apply State.fwSent_keeps | apply State.bump_keeps
      | apply State.settleMsix_keeps | apply State.settleIdle_keeps | apply State.settlePrn_keeps
      | apply State.settleRole_keeps | apply Keeps.ite | fail_if_no_progress refine Keeps.upd rfl ?_ | split

end Sys2Proof.Machine
end

