-- ==== Sys2Proof/WellFormed.lean ====
section
/-! DEFINITION. Well-formed commands: what the rules say of the length and alignment of what a command carries. A sender
gives no other; a meaning is defined on every command all the same. -/

namespace Sys2Proof

/-- What the rules say of a command's operands: a BAR2 access lies in the 64 GiB window and moves a byte or more (R101); a
preset has at most 16 KiB (R137); training reports four sub-channels of five byte lanes (R159); a burst is 64-byte aligned
(R169); a SCAN_DATA frame has 1 to 64 codes (R307); a test names 1 to 64 instances (R357); DQ tracking measures five
byte lanes (R381) and no other item measures one; an Ethernet frame has a header and fits a buffer (R322). -/
def Instr.wf (i : Instr) : Bool :=
  match i with
  | .registerWrite _ _ _ _ => true
  | .accessTimeout _ _ _ => true
  | .pairLowRead _ _ _ => true
  | .pairLowWrite _ _ _ _ => true
  | .pairHighWrite _ _ _ _ => true
  | .pgInit _ _ _ => true
  | .pgLock _ _ _ => true
  | .commit _ _ _ => true
  | .cancel _ _ _ => true
  | .commitDone _ => true
  | .evtPendClear _ _ _ => true
  | .errCodeClear _ _ => true
  | .eoi _ _ => true
  | .msixUnmask _ _ => true
  | .powerOnReset => true
  | .porAssert => true
  | .rtcAlarm => true
  | .cmpOutRise _ _ => true
  | .wakeReqN => true
  | .perstNDeassert => true
  | .perstNAssert => true
  | .pgoodRise _ _ => true
  | .pgoodTimeout _ => true
  | .pgoodLost _ => true
  | .settWakeComplete => true
  | .reqSett _ => true
  | .reqIdle _ => true
  | .reqReady _ => true
  | .toReadyDeadline => true
  | .clusterPowerOn _ _ _ => true
  | .hvenSet _ => true
  | .hvpgRise _ => true
  | .hvTimeout _ => true
  | .hvpgLost _ => true
  | .clusterRetry _ => true
  | .hvDischargeDone _ => true
  | .readyIdleTimeout => true
  | .autoSleepDue => true
  | .sleepGraceEnd => true
  | .settEntryComplete => true
  | .tjWarn => true
  | .tjShut => true
  | .x32Fail => true
  | .x32Restore => true
  | .rtcLoadApply => true
  | .spitTimerExpiry => true
  | .spitBurstDone => true
  | .opChange _ => true
  | .opChangeDone _ => true
  | .pmbPoll => true
  | .pmbTransferDone _ _ => true
  | .pmbAlert => true
  | .pllUnlock _ => true
  | .bootComplete _ => true
  | .pushData _ _ => true
  | .bootRestart _ => true
  | .hartRun _ _ => true
  | .hartReset _ _ => true
  | .wdtKick _ _ _ => true
  | .wdtExpire _ => true
  | .wdtHalt _ _ => true
  | .mbxSend _ _ _ => true
  | .mbxRelease _ _ => true
  | .coreMemUe _ => true
  | .pcieLinkUp _ _ _ => true
  | .pcieLinkDown => true
  | .d3hotEntry => true
  | .d0Return => true
  | .bar2Read addr len _ => decide (1 ≤ len.toNat ∧ addr.toNat + len.toNat ≤ 2 ^ 36)
  | .bar2Write addr data _ => decide (1 ≤ data.length ∧ addr.toNat + data.length ≤ 2 ^ 36)
  | .ringDoorbell _ _ _ => true
  | .ringEnable _ _ => true
  | .ringDisable _ _ => true
  | .ringStopped _ => true
  | .ringReset _ _ => true
  | .descriptorFetch _ => true
  | .pageOpen _ => true
  | .pageCancel _ => true
  | .presetLoad _ => true
  | .presetLoadDone _ data => decide (data.length ≤ 16384)
  | .presetDrop _ => true
  | .presetDropDone _ => true
  | .compress _ => true
  | .nop _ => true
  | .tileDescriptor _ _ => true
  | .tileAllocate _ => true
  | .scwHeaderCheck _ _ => true
  | .tileLanded _ _ => true
  | .dmaError _ => true
  | .completionWrite => true
  | .cqTimerExpiry => true
  | .heapConfigWrite _ _ _ => true
  | .tileFetch => true
  | .decodeStart _ => true
  | .decodeDone _ => true
  | .decodeFail _ _ => true
  | .encoderAssign _ => true
  | .encodeEnd _ _ => true
  | .jobPark _ _ _ => true
  | .chainCountWrite _ _ _ => true
  | .parkTimeout _ => true
  | .jobAbort _ _ => true
  | .jobRelease _ _ => true
  | .fjobGo _ => true
  | .ddrTrainingDone stops eyes => stops.length == 4 && eyes.length == 4 && eyes.all fun r => r.length == 5
  | .refreshTick _ _ => true
  | .mr4Poll _ _ _ _ => true
  | .spoolReadReturn _ addr _ _ => addr.toNat % 64 == 0
  | .spoolWriteAck _ addr _ _ _ _ => addr.toNat % 64 == 0
  | .panicAssert => true
  | .panicRelease => true
  | .autoSrTimeout => true
  | .srDrainDone => true
  | .srExit => true
  | .srExitDone => true
  | .scrubRead _ => true
  | .lineTick => true
  | .slowreqRelease => true
  | .paceStopped => true
  | .lstStart _ _ => true
  | .lineScreenStart _ _ _ => true
  | .seamWordArrive _ _ _ => true
  | .seamTimeout _ _ => true
  | .tableWindowWrite _ _ _ _ => true
  | .tblCrcGo _ _ => true
  | .tblCrcDone _ => true
  | .matLoad _ _ => true
  | .matLoadEnd _ _ => true
  | .matCrc _ _ => true
  | .matCrcEnd _ => true
  | .awlStart _ _ => true
  | .awlAutoStart _ => true
  | .awlAbort _ _ => true
  | .scanDataReceive _ _ _ codes => decide (1 ≤ codes.length ∧ codes.length ≤ 64)
  | .awlScanComplete _ => true
  | .awlOverdue _ => true
  | .linePrepare _ _ _ => true
  | .lineFrameStart _ => true
  | .firingInstant _ => true
  | .tempLost _ => true
  | .seqResume _ _ => true
  | .seqClear _ _ => true
  | .guardIdleExpiry _ _ => true
  | .spoilRunFlush _ _ => true
  | .spoilRecordWrite => true
  | .spoilWriteAck => true
  | .spoilDoorbell _ _ => true
  | .encEdge _ => true
  | .encIndex => true
  | .internalTick => true
  | .paceModeWrite _ _ => true
  | .wlLoad _ _ => true
  | .tofEdge => true
  | .profileUpdate _ => true
  | .axisStep _ => true
  | .observedStep _ _ => true
  | .axHome _ _ => true
  | .axStop _ _ => true
  | .axEstop _ _ => true
  | .axClear _ _ _ => true
  | .axSleep _ _ => true
  | .axWake _ _ => true
  | .limitTrip _ _ => true
  | .limitRelease _ _ => true
  | .homeEdge _ _ => true
  | .homeRelease _ => true
  | .driverFault _ _ => true
  | .axisSleepTimeout _ => true
  | .controlFrameSend _ => true
  | .controlRetry _ => true
  | .lstatReceive _ _ _ _ => true
  | .hstatReceive _ _ _ => true
  | .cackReceive _ _ _ _ => true
  | .identReceive _ _ _ _ _ _ _ _ _ => true
  | .trainResReceive _ _ _ _ _ => true
  | .upstreamCrcError _ => true
  | .lstatTimeout _ => true
  | .noHeadTimeout _ => true
  | .bringupTmo _ => true
  | .linkWaitExpiry _ => true
  | .trialSwitch _ => true
  | .trialTimeout _ => true
  | .fastLockTimeout _ => true
  | .upstreamLockLoss _ _ => true
  | .statusTimeout _ => true
  | .crcLimitReached _ => true
  | .scanDataLate _ => true
  | .retrain _ _ => true
  | .eyeMeasure _ _ => true
  | .timeSet _ _ => true
  | .timeAdj _ _ => true
  | .offsetWrite _ _ _ => true
  | .servoEnWrite _ _ => true
  | .servoRearm _ _ => true
  | .servoHoldover => true
  | .triggerFire _ => true
  | .trigArm _ _ _ => true
  | .captureEvent _ => true
  | .ethTxTail _ _ _ => true
  | .ethTxDone _ => true
  | .ethRxFrame _ bytes _ => decide (14 ≤ bytes.length ∧ bytes.length ≤ 2048)
  | .ethLinkUp _ => true
  | .ethLinkDown _ => true
  | .x32Measure _ => true
  | .pairLinkUp _ _ _ _ => true
  | .pairLinkDown _ => true
  | .heartbeatSend => true
  | .heartbeatReceive _ => true
  | .hbMiss => true
  | .heartbeatTimeout => true
  | .pfaultI _ => true
  | .roleIRise _ => true
  | .pairAlign _ => true
  | .alignReceive _ => true
  | .pairHandover _ => true
  | .handoverReceive _ => true
  | .fwSend _ => true
  | .fwReceive _ => true
  | .bistStart _ => true
  | .bistAbort _ => true
  | .bistDone results => decide (1 ≤ results.length ∧ results.length ≤ 64)
  | .vcoreSample _ => true
  | .imgSave _ _ => true
  | .fuseBurn _ _ _ => true
  | .burnEntryDone => true
  | .fsrcFall => true
  | .sramScrubRead _ _ => true
  | .backgroundOverdue _ => true
  | .calStart _ _ => true
  | .calRun _ _ _ => true
  | .calResult item _ _ _ eyes => eyes.length == if item = .dqTrack then 5 else 0
  | .calStep _ _ _ => true
  | .calOverdue _ _ => true
  | .denScanDone => true
  | .denEntryWritten _ _ => true
  | .denTokenRefill => true
  | .denRateWrite _ _ => true
  | .denFwGo _ => true
  | .denRdSlot _ _ => true
  | .hello => true
  | .ptpStart => true
  | .ptpState => true
  | .dllLockLoss _ => true
  | .hvpgFall _ => true
  | .dieSensorSample _ => true
  | .spitLine => true
  | .imgSaveDone => true

end Sys2Proof
end

