-- ==== Sys2Proof/Tests/Slice0.lean ====
section
/-! SUPPORT. Tests of the model: well-formedness, the spec's worked figures, single steps, and for each statement a state and
operands that meet the hypotheses of each of its clauses. -/

namespace Sys2Proof.Tests

set_option Elab.async false

open Sys2Proof Sys2Proof.Machine Sys2Proof.Machine.Reg

/-! Small states. -/

/-- The block powered and idle, with some fields set. -/
def upWith (l : List (Page × Row × Nat)) : State :=
  l.foldl (fun t e => t.wr e.1 e.2.1 e.2.2) { State.reset with power := { dev := .idle } }
/-- The block powered and idle. -/
def up : State := upWith []
/-- A page of one plane, and where it stands. -/
def aDesc : PageDesc :=
  { lpi600 := false, planes := 1, mode := 0, trig := 0, id := 7, length := 64, copies := 1, gap := 10
    fmt := Vector.replicate 8 0, cookie := 5 }
def aPage : PageSt := { desc := aDesc, ord := 0, width := Vector.replicate 8 64, fsafe := 0 }
/-- A tile of that page. -/
def aTileDesc : TileDesc :=
  { scw := false, compress := false, crcByIntake := false, resubmit := false, noCpl := false, presetEn := false, level := 0
    preset := 0, width := 64, lines := 64, srcAddr := 0x1000, srcLen := 64, rawLen := 4096, crc := 0, cookie := 9 }
def aTile : Tile := { key := ⟨7, 0, 0, 0⟩, desc := aTileDesc, phase := .landed }
/-- Further fields set. -/
def setF (s : State) (l : List (Page × Row × Nat)) : State := l.foldl (fun t e => t.wr e.1 e.2.1 e.2.2) s
/-- Cluster 0 present and powered, its sequencer page of lane 3 enabled. -/
def clu0 : List (Page × Row × Nat) :=
  [(.sys, SYS.DEV_ID_CL_MASK, 255), (.cpwr 0, CPWR.STAT_DOM_UP, 1), (.seq 3, HDR.PG_CTRL_EN, 1), (.lne 3, HDR.PG_CTRL_EN, 1),
    (.vnl 3, HDR.PG_CTRL_EN, 1), (.wav 3, HDR.PG_CTRL_EN, 1), (.clu 0, HDR.PG_CTRL_EN, 1), (.scr 0, HDR.PG_CTRL_EN, 1),
    (.clk, CLK.LOCK_DCLK, 1), (.clk, CLK.DCLK_CL, 500)]
def aTag : LineTag :=
  { page := 7, copy := 0, w := 0, wl := 100, tick := 100, plane := 0, ord := 0, first := false, last := false }
def aDue : Due := { tag := aTag, miss := none, instant := some 90 }
def fLine : FifoLine := { tag := aTag, levels := [1, 2, 3, 4, 5, 6, 7, 0], taint := false, ue := false }
def pLine : PrepLine :=
  { tag := aTag, levels := [1, 2, 3, 4, 5, 6, 7, 0], taint := false, set := 0, bank := 0, elem := false, cap := 7, hurt := 0
    frame := none }
def pDone : PrepLine := { pLine with frame := some (5, 10, 20) }
/-- Lane 3 printing with lines in its queues. -/
def Wfire (f : Option FifoLine) (ps : List PrepLine) (st : LaneState) : State :=
  (upWith [(.vnl 3, VNL.STAT_LSTATE, 5)]).modLane 3 fun h => { h with
    st, fifo := f.toList, prep := ps, due := [{ aDue with instant := none }] }
def Wdue (p : PrepLine) (last : Option Nat) : State :=
  { (up.modLane 3 fun h => { h with st := .firing, prep := [p], due := [aDue], lastFire := last }) with dclk := 100 }
def aRec : SpoilRec :=
  { page := 7, cause := 3, flags := 0, firstWl := 5, count := 1, lanes := 8, planes := 1, copy := 0, time := 9, detail := 0 }
/-- The head of an upstream frame that reports lock and nothing else. -/
def qUp : UpHead := { port := 8, epoch := 0, temp := 0, eye := 5 }
/-- A message of the pair link with its CRC. -/
def msgOf (b : List Nat) : List Byte := (b ++ bytesOf 4 (crc32c b)).map fun x => BitVec.ofNat 8 x
def hbBytes : List Nat := [5, 0, 1, 3, 9, 0, 0, 0] ++ List.replicate 52 0
def alBytes : List Nat := [5, 1, 0, 0, 0, 0, 255, 255, 255, 255, 255, 255, 0, 0, 0, 0]
/-- An entry or descriptor from bytes at offsets. -/
def anEntry (l : List (Nat × Nat)) : BitVec 512 := BitVec.ofNat 512 (l.foldl (fun a e => a + e.2 * 2 ^ (8 * e.1)) 0)
/-- The link up, the codec enabled, and the admin ring waiting for the data of its entry. -/
def admUp (l : List (Page × Row × Nat)) : State :=
  (upWith ([(.pci, PCI.LINK_UP, 1), (.cdc, HDR.PG_CTRL_EN, 1), (.cdc, CDC.PRESET_BASE, 80)] ++ l)).modRing 8 fun q =>
    { q with fetching := true }
/-- A job's 48 descriptor bytes: 4,096 bytes at level 3. -/
def aJobDesc : Nat := 0x1000 + 4096 * 2 ^ 64 + 3 * 2 ^ 96 + 7 * 2 ^ 160 + 2 * 2 ^ 144 + 0x20 * 2 ^ 192
/-- The codec enabled, with that job in slot k in state st. -/
def jobIn (k st : Nat) : State :=
  let s := upWith [(.cdc, HDR.PG_CTRL_EN, 1)]
  { s.wr .cdc CDC.JS_STAT_STATE st k with codec := { jobs := (Vector.replicate 16 none).setIfInBounds k (some { desc := aJobDesc, ord := 0 }) } }
/-- That job on encoder 2. -/
def jobOn (k : Nat) : State :=
  { jobIn k 2 with codec := { (jobIn k 2).codec with encoders := (Vector.replicate 12 EncUser.free).set 2 (.job k none) } }
/-- A job of 3 bytes at level 3, in slot k on encoder 2, its chain of n entries in force. -/
def aShort : Nat := 0x1000 + 3 * 2 ^ 64 + 3 * 2 ^ 96 + 2 * 2 ^ 144 + 7 * 2 ^ 160 + 0x20 * 2 ^ 192
def jobAt (k n d : Nat) : State :=
  let s := (jobIn k 2).wr .cdc CDC.JS_CHAIN n k
  { s with codec := { s.codec with
    jobs := (Vector.replicate 16 none).setIfInBounds k (some { desc := d, ord := 0 })
    encoders := (Vector.replicate 12 EncUser.free).set 2 (.job k none) } }
/-- A chain entry of n bytes at an address. -/
def chainEntry (a n : Nat) : BitVec 128 := BitVec.ofNat 128 (a + n * 2 ^ 64)
/-- A word of an array. -/
def aUe : SramUe := ⟨5, 6⟩
/-- A tile whose encode runs on encoder 2. -/
def encT : Tile := { aTile with phase := .reading, desc := { aTileDesc with compress := true, level := 2 } }
def encTile : State :=
  { upWith [(.cdc, HDR.PG_CTRL_EN, 1)] with
    codec := { encoders := (Vector.replicate 12 EncUser.free).set 2 (.intake ⟨7, 0, 0, 0⟩ none) }
    intake := { tiles := [encT] } }
/-- The same with a tile of two bytes under a limit, and a tile that names preset 5 where that is loaded. -/
def encST : Tile := { encT with desc := { encT.desc with rawLen := 2, lines := 1 } }
def encShort (gain : Nat) : State :=
  { encTile.wr .int INT.CTRL_GAIN_MAX gain with intake := { tiles := [encST] } }
def encRT : Tile := { encT with desc := { encT.desc with rawLen := 32, lines := 1 } }
def encRun : State := { encTile.wr .int INT.CTRL_GAIN_MAX 255 with intake := { tiles := [encRT] } }
def encPT : Tile := { encT with desc := { encT.desc with presetEn := true, preset := 5 } }
def presUp : State :=
  upWith [(.cdc, HDR.PG_CTRL_EN, 1), (.cdc, CDC.PRESET_BASE, 80), (.cdc, CDC.PRESET_VALID, 32), (.ddr, DDR.CFG_SIZE_GIB, 1),
    (.ddr, HDR.PG_STAT_STATE, 2)]
/-- A landed tile whose bytes are none, accepted, with a tag for copy 0 where given. -/
def rawT (tag : Option Nat) : Tile := { aTile with accepted := true, tag }
/-- One page open with that tile, and decoder 2 at work on it. -/
def lastUp (copies : Nat) (tag : Option Nat) (dec : Option DecJob) : State :=
  { upWith [(.cdc, HDR.PG_CTRL_EN, 1)] with
    intake := { pages := [{ aPage with desc := { aDesc with copies } }], tiles := [rawT tag] }
    codec := { decoders := (Vector.replicate 16 none).set 2 dec } }
def aDec : DecJob := { key := ⟨7, 0, 0, 0⟩, copy := 0, preset := none, missing := false }
/-- A landed SCW tile that names preset 9, the preset loaded or not. -/
def scwT : Tile := { rawT (some 0) with gran := [0], stored := .stream 20 }
def scwUp (tag : Option Nat) (dec : Option DecJob) (loaded : Bool) : State :=
  let s := upWith [(.cdc, HDR.PG_CTRL_EN, 1), (.cdc, CDC.PRESET_VALID, if loaded then 512 else 0), (.ddr, DDR.CFG_SIZE_GIB, 1),
    (.ddr, HDR.PG_STAT_STATE, 2), (.int, INT.HEAP_SIZE, 16)]
  { s.spoolWrite (s.granuleAt 0) [0x53, 0x43, 0x57, 1, 1, 9, 2, 0] with
    intake := { pages := [aPage], tiles := [{ scwT with tag }] }
    codec := { decoders := (Vector.replicate 16 none).set 2 dec } }
/-- The spool trained, 16 GiB of it, with a few bytes written. -/
def winUp : State :=
  { upWith [(.ddr, DDR.CFG_SIZE_GIB, 16), (.ddr, HDR.PG_STAT_STATE, 2)] with
    ddr := { mem := [(0x4000001, 7), (0x4000002, 8), (0x4000050, 9)] } }
/-- The link up, ring 0 waiting for the data of its entry, page 7 open, and a heap of 16 MiB. -/
def ringUp (pages : List PageSt) : State :=
  { (admUp [(.int, INT.HEAP_SIZE, 16), (.int, INT.CREDIT, 4096)]).modRing 0 fun q => { q with fetching := true } with
    intake := { ((admUp []).modRing 0 fun q => { q with fetching := true }).intake with pages } }
/-- A tile entry for page 7: one raw tile of 64 samples by 16 lines, its length n. -/
def tileEntry (n : Nat) : BitVec 512 :=
  anEntry [(0, 1), (4, 7), (0xC, 64), (0xE, 16), (0x10, 0x1000), (0x18, n), (0x1C, n), (0x24, 9)]
/-- Ring 0 with that entry checked. -/
def allocUp : State :=
  (ringUp [aPage]).modRing 0 fun _ => { entry := some (tileEntry 1024), checked := true }
def aCqe (type : Nat) (tile : Option TileKey) : Cqe :=
  { type, src := 0, status := 0, page := 7, loc := 0, stored := 0, info := 0, tile }
/-- Ring 9 enabled with room, completions waiting. -/
def cqUp (l : List Cqe) : State :=
  let s := ((admUp [(.int, INT.CQ_COAL_COUNT, 2), (.int, INT.CQ_COAL_TIME_US, 3)]).wr .int INT.RING_CTRL_EN 1 9).wr .int INT.RING_DB 200 9
  { s with intake := { s.intake with cq := l, tiles := [aTile] } }
/-- A tile of no bytes in flight. -/
def flyT : Tile := { aTile with phase := .reading, gran := [3], desc := { aTileDesc with srcLen := 2, crc := crc32c [1, 2] } }
def flyUp (u : Tile) : State :=
  { upWith [(.int, INT.HEAP_SIZE, 16), (.cdc, HDR.PG_CTRL_EN, 1), (.ddr, HDR.PG_STAT_STATE, 2), (.ddr, DDR.CFG_SIZE_GIB, 1)] with
    intake := { pages := [aPage], tiles := [u] } }
/-- The Last enabled with lane 3 on plane 0. -/
def openUp : State :=
  let s := ((((admUp [(.lst, HDR.PG_CTRL_EN, 1), (.vnl 3, VNL.N_EXP, 512)]).wr .pln PLN.LMAP_EN 1 3).wr .pln PLN.PLANE_WIDTH 64 0).wr
    .pln PLN.PLANE_MODE_BAND_KIB 8 0)
  { s with intake := { s.intake with counts := (Vector.replicate 64 0).setIfInBounds 3 512 } }
/-- The PAGE_OPEN entry of that page. -/
def openEntry : BitVec 512 :=
  anEntry [(0, 0x10), (2, 1), (4, 7), (8, 64), (0xC, 1), (0xE, 10), (0x18, 5)]
/-- A line of three nozzles waiting in lane 3's input buffer. -/
def inLine (body : Dealt) (reset : Bool) : InLine := { tag := aTag, body, reset }
/-- The same with words in error diffusion. -/
def edLine (ws : List Nat) (reset : Bool) : InLine := { inLine (.words ws) reset with set := { mode := 1 } }
/-- Cluster 0 up, lane 3 with that line, its firing instant still to come. -/
def engUp (l : List (Page × Row × Nat)) (h : LaneHw → LaneHw) (i : InLine) : State :=
  (upWith (clu0 ++ l)).modLane 3 fun x => h { x with inbuf := [i], due := [{ tag := aTag, miss := none }], st := .armed }
/-- Lanes 2, 3 and 4 side by side on plane 0. -/
def three (s : State) : State :=
  [2, 3, 4].foldl (fun t l => ((t.wr .pln PLN.LMAP_EN 1 l).wr .pln PLN.LMAP_POS l l).wr .pln PLN.LMAP_OVL 0 l) s
def aWord (taint : Bool) : SeamWord := { ea := 3, eb := 1, src := 2, taint, line := 6, plane := 0, wl := 99 }
/-- A matrix load or CRC over one cell runs in cluster 0. -/
def matUp (load : Bool) (mem : List Host.Cell) : State :=
  { (upWith (clu0 ++ [(.ddr, DDR.CFG_SIZE_GIB, 16), (.ddr, HDR.PG_STAT_STATE, 2)])).modClu 0 fun h =>
      { h with matRun := some (load, 5, 2), mat := [(5, 7)] } with ddr := { mem } }
/-- A line of one nozzle with a word, and a deal of the small page. -/
def aLine (w : Nat) : LineIn := { n := 1, word := fun _ => w, w := 0, base := 0, set := {} }
def aDeal (fmt : Nat) : DealIn :=
  { desc := { aDesc with fmt := Vector.replicate 8 fmt }, plane := 0, width := 64, x0 := 10, linear := false, tiles := [] }
/-- Ethernet port 1 up with the spool trained: one descriptor in each ring, at 0x5000000 and 0x5001000, its buffer at
0x5002000. -/
def ethUp (flags : Nat) : State :=
  let s := upWith [(.ddr, DDR.CFG_SIZE_GIB, 16), (.ddr, HDR.PG_STAT_STATE, 2), (.eth 1, HDR.PG_CTRL_EN, 1),
    (.eth 1, HDR.PG_STAT_STATE, 2), (.eth 1, ETH.TXR_BASE, 0x5000000), (.eth 1, ETH.RXR_BASE, 0x5001000),
    (.eth 1, ETH.TXR_TAIL, 1), (.eth 1, ETH.RXR_TAIL, 1), (.tim, TIM.TIME, 1000)]
  let d (n f : Nat) : List Byte := [0, 0x20, 0, 5, 0, 0, 0, 0, BitVec.ofNat 8 n, 0, BitVec.ofNat 8 f, 0]
  (s.spoolWrite 0x5000000 (d 60 flags)).spoolWrite 0x5001000 (d 64 0)
/-- A broadcast frame. -/
def aFrame : List Byte := List.replicate 6 255 ++ List.replicate 54 7
/-- The conditions of a test hold, BST enabled with REQ set. -/
def bstUp (req mask : Nat) : State :=
  upWith ([(.bst, HDR.PG_CTRL_EN, 1), (.bst, BST.VCORE, 750), (.clk, CLK.LOCK_DCLK, 1), (.bst, BST.REQ, req), (.bst, BST.MASK, mask),
    (.cpwr 0, CPWR.STAT_DLL_LOCK, 1), (.clk, CLK.DCLK_CL, 500)] ++ clu0)
/-- A test of the Last runs. -/
def lstTest : State :=
  { bstUp 4 0 with bist := { pages := [.lst], run := some { target := 4, insts := [0], lanes := [] } } } |>.wr .bst HDR.PG_STAT_STATE 1
def aRepair : Repair := { array := 1280, row := 7, spare := 0 }
/-- A soft repair of the Last waits to be burnt. -/
def burnUp : State :=
  { (bstUp 4 0).wr .bst BST.RES_STAT_DONE 1 72 with bist := { soft := [(72, aRepair)] } }
/-- A header with the DRAM_PARAM of 16 GiB of spool. -/
def aHdr : List Byte := List.replicate 0x100 0 ++ [1, 0, 0, 0, 1] ++ List.replicate 0x25 0 ++ [0x3C, 0x0F]
/-- Eyes of a sub-channel that passes. -/
def goodEyes : List (BitVec 16 × BitVec 16) := List.replicate 5 (300, 301)
/-- An image whose header is no header. -/
def badImg : List Byte := List.replicate 512 0
/-- The firmware runs with a message of a type and sequence number before it. -/
def fwUp (w0 : Nat) : State :=
  upWith [(.core, CORE.BOOT_STAT_STAGE, 6), (.core, CORE.HART_STAT_RUNNING, 1), (.core, CORE.MBX_H2C_CTRL_FULL, 1), (.core, CORE.MBX_H2C, w0)]
/-- Watchdog k enabled with a short time, at DCLK t. -/
def wdtUp (k t : Nat) (expired : Bool) : State :=
  { (((up.wr .core CORE.WDT_EN 1 k).wr .core CORE.WDT_TIMEOUT 100 k).wr .core CORE.WDT4_TIMEOUT 100 0) with
    dclk := t, cores := { expired := Vector.replicate 5 expired } }
/-- The device in a state, with some fields set. -/
def inDev (d : DevState) (l : List (Page × Row × Nat)) : State := { upWith l with power := { dev := d } }
/-- A PEN has been high for a long time. -/
def penned (s : State) : State := { s with power := { s.power with penFor := 1000000 } }
/-- The same at a step of a wake. -/
def waking (w : WakeStep) (l : List (Page × Row × Nat)) : State := { upWith l with power := { dev := .sett, wake := w } }
/-- Cluster 0 selected and on, at a phase of its bring-up, all its lanes disabled. -/
def cluAt (d : DevState) (ph : CluPhase) (t : Nat) (l : List (Page × Row × Nat)) : State :=
  let s := upWith ([(.sys, SYS.DEV_ID_CL_MASK, 1), (.cpwr 0, CPWR.STAT_DOM_UP, 1), (.cpwr 0, CPWR.STAT_DLL_LOCK, 1),
    (.cpwr 0, CPWR.HV_SET, 30)] ++ l)
  { s.modClu 0 (fun h => { h with phase := ph }) with dclk := t, power := { dev := d, sel := 1 } }
/-- A page with a commit pending since DCLK 3, at a boundary. -/
def pendUp (p : Page) (at_ : Nat) : State :=
  { upWith (clu0 ++ [(p, HDR.PG_STAT_COMMIT_PEND, 1), (p, HDR.PG_STAT_PEND_AT, at_)]) with commits := [(p, 3)], dclk := 9 }
/-- Lane 3 fires: its pages are RUN. -/
def runUp (l : List (Page × Row × Nat)) : State := (upWith (clu0 ++ l)).modLane 3 fun h => { h with st := .firing }
/-- Event 8 of DEN is pending and routed to vector 5, whose message may go out. -/
def irqUp (l : List (Page × Row × Nat)) : State :=
  (((upWith ([(.pci, PCI.LINK_UP, 1), (.den, HDR.PG_EVT_RAW, 256), (.den, HDR.PG_EVT_EN, 256)] ++ l)).wr .pci PCI.MSIX_MASK 0 5).wr .evt
    EVT.ROUTE_HOST_EN 1 88).wr .evt EVT.ROUTE_VEC 5 88
/-- Vector 5 masked. -/
def setMask (s : State) : State := s.wr .pci PCI.MSIX_MASK 1 5
/-- An entry of the Den. -/
def aReq : DenReq := { type := 3, src := 2, hw := true, payload := 77, time := 5 }
/-- A tile of two bytes whose encode ended for want of its preset. -/
def missT : Tile := { flyT with desc := { flyT.desc with compress := true }, enc := some .missing }
/-- Long after what began in it. -/
def late (s : State) : State := { s with dclk := 100000000 }
/-- An axis with a commit of its TARGET that waits for the generator. -/
def axPend : State :=
  { upWith [(.ax 2, HDR.PG_CTRL_EN, 1), (.ax 2, HDR.PG_STAT_STATE, 1), (.ax 2, HDR.PG_STAT_COMMIT_PEND, 1)] with
    commits := [(.ax 2, 10)], dclk := 250 }

/-- The state a command answers; reset where it answers none. -/
def after (c : Instr) (s : State) : State :=
  match exec c s with
  | .next t => t
  | _ => State.reset

/-! An ill-formed command for each check, and a well-formed one. -/

theorem test_wf_bar2Read : (Instr.bar2Read 0 0 none).wf = false := by decide
theorem test_wf_bar2Write : (Instr.bar2Write 0xFFFFFFFFF [1, 2] false).wf = false := by decide
theorem test_wf_presetLoadDone : (Instr.presetLoadDone 0 (List.replicate 16385 0)).wf = false := by decide +kernel
theorem test_wf_ddrTrainingDone : (Instr.ddrTrainingDone [(0, 0)] [[]]).wf = false := by decide
theorem test_wf_spoolReadReturn : (Instr.spoolReadReturn (.core 0) 0x20 .clean 0).wf = false := by decide
theorem test_wf_spoolWriteAck : (Instr.spoolWriteAck (.core 0) 0x3F 0 0 false false).wf = false := by decide
theorem test_wf_scanDataReceive : (Instr.scanDataReceive 0 qUp 0 []).wf = false := by decide
theorem test_wf_bistDone : (Instr.bistDone []).wf = false := by decide
theorem test_wf_calResult : (Instr.calResult .dqTrack 0 0 0 []).wf = false := by decide
theorem test_wf_ethRxFrame : (Instr.ethRxFrame 0 [1, 2, 3] false).wf = false := by decide
theorem test_wf_good : (Instr.bar2Read 0xFFFFFFFFF 1 none).wf = true := by decide

/-! The spec's worked figures. -/

/-- R115: the nine ASCII bytes "123456789". -/
theorem test_crc32c_check_value :
    crc32c [0x31, 0x32, 0x33, 0x34, 0x35, 0x36, 0x37, 0x38, 0x39] = 0xE3069283 := by decide +kernel

/-- The example of R34: LN17.SEQ lies at 0x245000 and its PG_ID reads 0xA9911102. -/
theorem test_page_address : Page.base (.seq 17) = 0x245000 ∧ Target.ofAddr 0x24501C = .page (.seq 17) 0x1C ∧
    up.readReg (.seq 17) 0 = 0xA9911102 := by decide +kernel

/-- The example of R53: LN17's event shows in CLU.EVT_SUM bit 9 and in source 130. -/
theorem test_event_source :
    (upWith [(.cpwr 2, CPWR.STAT_DOM_UP, 1), (.seq 17, HDR.PG_EVT_RAW, 256), (.seq 17, HDR.PG_EVT_EN, 256)]).sources = [130] ∧
    (upWith [(.seq 17, HDR.PG_EVT_RAW, 256), (.seq 17, HDR.PG_EVT_EN, 256)]).cluSumLane 2 = 2 := by decide +kernel

/-- The admin entry of the first page (chapter "From cold power-up to the first page"). -/
def firstPage : BitVec 512 :=
  anEntry [(0, 0x10), (2, 0xFF), (3, 1), (4, 1), (8, 0xE0), (9, 0x2E), (0xC, 1), (0x10, 0x24), (0x11, 0x24), (0x12, 0x24),
    (0x13, 0x24), (0x14, 0x24), (0x15, 0x24), (0x16, 0x24), (0x17, 0x24), (0x19, 1)]
theorem test_first_page_fields :
    (readPage firstPage).planes = 0xFF ∧ (readPage firstPage).mode = 1 ∧ (readPage firstPage).trig = 0 ∧
      (readPage firstPage).id = 1 ∧ (readPage firstPage).length = 12000 ∧ (readPage firstPage).copies = 1 ∧
      (readPage firstPage).gap = 0 ∧ (readPage firstPage).cookie = 0x100 := by decide +kernel
theorem test_first_page_rate :
    fSafe (readPage firstPage) (fun _ => 32320) 1 = 160000 ∧ rateExceeded (readPage firstPage) (fun _ => 32320) = false := by
  decide +kernel

/-- R196: the costs of the tiles of the first page and of the 4-plane bar, and the granules of its last tile. -/
theorem test_tile_figures : tileCost 12288 = 5434 ∧ tileCost 6912 = 3283 ∧ tileCost 40960 = 16903 ∧ tileCost 21760 = 9223 ∧
    granulesOf 6912 = 2 ∧ granulesOf 21760 = 6 := by decide

/-- The example of R131: four 10-bit samples and three 3-bit ones. -/
theorem test_samples : (List.range 4).map (sampleAt [0xFF, 0xC0, 0x18, 0x00, 0xFF] 0 10) = [0x3FF, 1, 0x200, 0xFF] ∧
    (List.range 3).map (sampleAt [0xE2, 0x80] 0 3) = [7, 0, 5] := by decide

/-- The example of the head guard: with 640 left the line fits at cap 4. -/
theorem test_head_guard : 1360000 / 2 = 680000 ∧
    ([7, 6, 5, 4].map fun c => (ceilDiv (([(300, 1), (400, 2), (500, 3), (600, 4), (500, 5), (400, 6), (300, 7)].map
      fun e : Nat × Nat => e.1 * (40 + 20 * min e.2 c)).sum) 500)) = [720, 708, 680, 632] := by decide

/-- The servo's example: two PI updates from the reset gains; I in units of 1/256 ppb. -/
theorem test_servo_example :
    (upWith [(.tim, TIM.GAIN_KP, 1434), (.tim, TIM.GAIN_KI, 179)]).servoAfter 820 = (-146780, -1322660) := by decide +kernel

/-! A step of each family on a small state. -/

theorem test_power_on : (after .powerOnReset State.reset).power.dev = .sett ∧
    (after .powerOnReset State.reset).on .pwr PWR.WAKE_CAUSE_COLD = true := by decide +kernel
theorem test_wake_rejects_request :
    (after (.reqReady .host) (waking .plls [])).errorShown .pwr = some 0x120 := by decide +kernel
theorem test_tj_shut : (after .tjShut (inDev .ready [(.pwr, PWR.TJ, 460)])).power.dev = .fault := by decide +kernel
theorem test_read_page_id : (after (.pairLowRead .host 0x20D000 false) (upWith clu0)).reply = .data 0 0xA9910302 := by decide +kernel
theorem test_unmapped_write :
    (after (.registerWrite (.app 0) 0x70000 15 ⟨1, none⟩) up).rd .fab FAB.LAST_INFO_REQ = 1 ∧
    (after (.registerWrite (.app 0) 0x70000 15 ⟨1, none⟩) up).errorShown .fab = some 0x501 := by decide +kernel
theorem test_mailbox : (after (.mbxSend .host true 256) up).on .core CORE.MBX_H2C_CTRL_FULL = true ∧
    (after (.mbxSend .host true 257) up).errorShown .core = some 0x603 := by decide +kernel
/-- The example of R273: 15 / 254, the 17th edge from ACC = 0 makes a tick and leaves ACC at 1. -/
theorem test_encoder_ratio :
    let s := { upWith [(.pace, PACE.CTRL_MODE, 1), (.pace, PACE.RATIO_NUM, 15), (.pace, PACE.RATIO_DEN, 254)] with pace := { acc := 240 } }
    (after (.encEdge .forward) s).pace.ticks = 1 ∧ (after (.encEdge .forward) s).pace.acc = 1 := by decide +kernel
theorem test_web_line :
    (after .lineTick { upWith [(.pace, PACE.WL, 41)] with pace := { ticks := 1 } }).rd .pace PACE.WL = 42 := by decide +kernel
theorem test_time_set : (after (.timeSet .host 0x123456789) (upWith [(.tim, TIM.TIME, 5)])).rd .tim TIM.TIME = 0x123456789 := by
  decide +kernel
theorem test_commit_bad_boundary :
    (after (.commit .host (.cpwr 0) 0xA00) (upWith clu0)).errorShown (.cpwr 0) = some 0x8406 := by decide +kernel
theorem test_event_clear :
    (after (.evtPendClear .host .den 0xFF) (upWith [(.den, HDR.PG_EVT_RAW, 0xF0F)])).rd .den HDR.PG_EVT_RAW = 0xF00 := by
  decide +kernel
theorem test_front_of_queue : step { up with pending := [.wakeReqN, .pmbAlert] } =
    exec .wakeReqN { up with pending := [.pmbAlert] } := rfl

/-- An input of 32 equal bytes: one literal and a near match of 31 bytes (R132, R133, R142). -/
theorem test_encode_run : encodeTokens 2 32 [] (List.replicate 32 7) = [([0x2F, 7, 0, 20, 0], 32)] := by
  have h : sameChain (List.replicate 32 7) 0 1 = true := by simp [sameChain]
  unfold encodeTokens
  show encodeFrom (sameChain (List.replicate 32 7)) (List.replicate 32 7) 2 32 33 0 [] = _
  generalize sameChain (List.replicate 32 7) = same at h ⊢
  have b0 := bestHit_none (same := same) (buf := List.replicate 32 7) (depth := 2) (line := 32) (i := 0) (by decide)
  have c1 : candidates same 2 32 1 = [(0, 1)] := by simp [candidates, List.range_succ, h]
  have b1 := bestHit_first (buf := List.replicate 32 7) c1 (n := 31) (by decide) (by decide) (by decide)
  have e0 : encodeFrom same (List.replicate 32 7) 2 32 33 0 [] = encodeFrom same (List.replicate 32 7) 2 32 32 1 [7] := by
    rw [encodeFrom, b0]; rfl
  rw [e0, encodeFrom, b1]
  rfl

/-- That input is encoded with gain: 25 of its 32 bytes. -/
theorem test_encode_gain :
    (encRun.tileEncoding 2 encRT ((List.replicate 32 (7 : Byte)).map fun b => b.toNat)).noGain = false := by
  have h : (List.replicate 32 (7 : Byte)).map (fun b => b.toNat) = List.replicate 32 7 := by decide
  have e : encRun.tileEncoding 2 encRT (List.replicate 32 7) =
      { (encRun.tileEncoding 2 encRT (List.replicate 32 7)) with tokens := encodeTokens 2 32 [] (List.replicate 32 7) } := rfl
  rw [h, e, test_encode_run]
  decide +kernel

def exampleTile : List Nat := [16, 16, 16, 16, 16, 16, 32, 48, 16, 16, 16, 16, 16, 16, 32, 49, 16, 16, 16, 16, 16, 16, 32, 49]
/-- The three lines of the example after R140 and its three tokens. -/
theorem test_encode_example : encodeTokens 2 8 [] exampleTile =
    [([0x29, 0x10, 0], 6), ([0x5B, 0x20, 0x30, 0], 9), ([0x3C, 0x31, 0], 9)] := by
  have h : sameChain exampleTile 0 1 = true := by simp [sameChain, exampleTile]
  unfold encodeTokens
  show encodeFrom (sameChain exampleTile) exampleTile 2 8 25 0 [] = _
  generalize sameChain exampleTile = same at h ⊢
  have b0 := bestHit_none (same := same) (buf := exampleTile) (depth := 2) (line := 8) (i := 0) (by decide)
  have c1 : candidates same 2 8 1 = [(0, 1)] := by simp [candidates, List.range_succ, h]
  have b1 := bestHit_first (buf := exampleTile) c1 (n := 5) (by decide) (by decide) (by decide)
  have b6 := bestHit_none (same := same) (buf := exampleTile) (depth := 2) (line := 8) (i := 6) (by decide)
  have b7 := bestHit_none (same := same) (buf := exampleTile) (depth := 2) (line := 8) (i := 7) (by decide)
  obtain ⟨l8, c8⟩ := candidates_row (same := same) (depth := 2) (line := 8) (i := 8) (by decide) (by decide)
  have b8 := bestHit_first (buf := exampleTile) c8 (n := 7) (by decide) (by decide) (by decide)
  have b15 := bestHit_none (same := same) (buf := exampleTile) (depth := 2) (line := 8) (i := 15) (by decide)
  obtain ⟨l16, c16⟩ := candidates_row (same := same) (depth := 2) (line := 8) (i := 16) (by decide) (by decide)
  have b16 := bestHit_first (buf := exampleTile) c16 (n := 8) (by decide) (by decide) (by decide)
  have lit {f i : Nat} {l : List Nat} {b : Nat} (hb : exampleTile[i]? = some b) (hh : bestHit same exampleTile 2 8 i = none) :
      encodeFrom same exampleTile 2 8 (f + 1) i l = encodeFrom same exampleTile 2 8 f (i + 1) (b :: l) := by rw [encodeFrom, hb, hh]
  have hit {f i j : Nat} {l : List Nat} {b : Nat} {x : Hit} (hb : exampleTile[i]? = some b) (hh : bestHit same exampleTile 2 8 i = some x)
      (hj : i + x.len = j) : encodeFrom same exampleTile 2 8 (f + 1) i l =
        (tokenBytes l.reverse (some x), l.length + x.len) :: encodeFrom same exampleTile 2 8 f j [] := by rw [encodeFrom, hb, hh, ← hj]
  rw [lit rfl b0, hit (j := 6) rfl b1 rfl, lit rfl b6, lit rfl b7, hit (j := 15) rfl b8 rfl, lit rfl b15,
    hit (j := 24) rfl b16 rfl]
  rfl

/-! The hypotheses of every clause are met. -/

theorem wit_Pacing :
    (∃ (s : State) (k : EncKind), (s.devUp = true) ∧ (k ≠ .both)) ∧
    (∃ (s : State), (s.devUp = true)) ∧
    (∃ (s : State) (n : Int), (s.devUp = true) ∧ (s.on .pace PACE.CTRL_Z_EN = true) ∧ (s.pace.zNet = some n) ∧ (n ≠ s.rd .pace PACE.Z_EDGES)) ∧
    (∃ (s : State), (s.devUp = true) ∧ (s.on .pace PACE.CTRL_Z_EN = false ∨ s.pace.zNet = none ∨ s.pace.zNet = some (s.rd .pace PACE.Z_EDGES : Int))) ∧
    (∃ (s : State), (s.devUp = true) ∧ (s.rd .pace PACE.CTRL_MODE = 3) ∧ (s.pace.intAt + s.rd .pace PACE.INT_PER ≤ s.dclk)) ∧
    (∃ (s : State), (s.dclk < s.pace.intAt + s.rd .pace PACE.INT_PER)) ∧
    (∃ (s : State) (req : Req), (s.open_ req .pace = true) ∧ (s.pageActive = false)) ∧
    (∃ (s : State) (req : Req), (s.open_ req .pace = true) ∧ (s.pageActive = true)) ∧
    (∃ (s : State) (w : Int), (s.devUp = true) ∧ (s.pace.tofWl = some w) ∧ (s.rd .pace PACE.WL < w + s.rd .pace PACE.TOF_CTRL_MIN_WL)) ∧
    (∃ (s : State), (s.devUp = true) ∧ ((∀ w, s.pace.tofWl = some w → w + s.rd .pace PACE.TOF_CTRL_MIN_WL ≤ s.rd .pace PACE.WL))) ∧
    (∃ (s : State) (q : Nat), (s.devUp = true) ∧ (s.on .pace PACE.STAT_SLOWREQ = true) ∧ (s.slowSource = false) ∧ (s.pace.quietFrom = some q) ∧ (q + 500000 * s.rd .pace PACE.SLOW_HOLD_MS ≤ s.dclk)) ∧
    (∃ (s : State) (q : Nat), (s.pace.quietFrom = some q) ∧ (s.dclk < q + 500000 * s.rd .pace PACE.SLOW_HOLD_MS)) ∧
    (∃ (s : State), (s.devUp = true) ∧ (s.on .pace PACE.STAT_STOPPED = false) ∧ (s.pace.ticks = 0) ∧ (s.pace.tickAt + 500000 * s.rd .pace PACE.SLOW_STOP_MS ≤ s.dclk)) ∧
    (∃ (s : State), (s.dclk < s.pace.tickAt + 500000 * s.rd .pace PACE.SLOW_STOP_MS)) :=
  ⟨⟨(upWith [(.pace, PACE.CTRL_MODE, 1)]), .forward, by decide +kernel⟩,
    ⟨(upWith [(.pace, PACE.WL, 7)]), by decide +kernel⟩,
    ⟨{ upWith [(.pace, PACE.CTRL_Z_EN, 1), (.pace, PACE.Z_EDGES, 400)] with pace := { zNet := some 399 } }, 399, by decide +kernel⟩,
    ⟨up, by decide +kernel⟩,
    ⟨{ upWith [(.pace, PACE.CTRL_MODE, 3), (.pace, PACE.INT_PER, 700)] with dclk := 700 }, by decide +kernel⟩,
    ⟨{ upWith [(.pace, PACE.CTRL_MODE, 3), (.pace, PACE.INT_PER, 700)] with dclk := 699 }, by decide +kernel⟩,
    ⟨up, .host, by decide +kernel⟩,
    ⟨{ up with intake := { up.intake with pages := [{ aPage with phase := .active }] } }, .host, by decide +kernel⟩,
    ⟨{ up with pace := { tofWl := some 3 } }, 3, by decide +kernel⟩,
    ⟨up, by decide +kernel⟩,
    ⟨{ upWith [(.pace, PACE.STAT_SLOWREQ, 1), (.pace, PACE.SLOW_HOLD_MS, 2)] with pace := { quietFrom := some 7 }, dclk := 1000007 }, 7, by decide +kernel⟩,
    ⟨{ upWith [(.pace, PACE.STAT_SLOWREQ, 1), (.pace, PACE.SLOW_HOLD_MS, 2)] with pace := { quietFrom := some 7 }, dclk := 1000006 }, 7, by decide +kernel⟩,
    ⟨{ upWith [(.pace, PACE.STAT_STOPPED, 0), (.pace, PACE.SLOW_STOP_MS, 1)] with dclk := 500000 }, by decide +kernel⟩,
    ⟨{ upWith [(.pace, PACE.STAT_STOPPED, 0), (.pace, PACE.SLOW_STOP_MS, 1)] with dclk := 499999 }, by decide +kernel⟩⟩

theorem wit_LineTicksAndPageStarts :
    (∃ (s : State), (s.devUp = true) ∧ (0 < s.pace.ticks) ∧ (s.commits = []) ∧ (s.intake.pages = []) ∧ (s.lanes.toList.all (fun h => h.due.isEmpty) = true)) ∧
    (∃ (s : State), (s.devUp = false ∨ s.pace.ticks = 0)) ∧
    (∃ (s : State) (l : Lane) (d : Due), (s.devUp = true) ∧ (0 < s.pace.ticks) ∧ (s.commits = []) ∧ (s.intake.pages = []) ∧ (s.lanes[l].due = [d]) ∧ (d.tag.tick = s.rd .pace PACE.WL + 1) ∧ (s.rd .pace PACE.WL + 1 < 2 ^ 48)) ∧
    (∃ (s : State) (req : Req) (data : Word), (s.open_ req .pace = true) ∧ (s.judge .pace 0x40 data.toNat = none) ∧ (s.rd .pace PACE.RATIO_NUM ≤ s.rd .pace PACE.RATIO_DEN)) ∧
    (∃ (s : State) (req : Req) (data : Word), (s.open_ req .pace = true) ∧ (s.judge .pace 0x40 data.toNat = none) ∧ (s.rd .pace PACE.RATIO_DEN < s.rd .pace PACE.RATIO_NUM) ∧ (data.toNat % 4 = 1 ∨ data.toNat % 4 = 2)) ∧
    (∃ (s : State) (req : Req) (id : Word) (q : PageSt), (s.ready req .lst = true) ∧ (s.nextPage = some q) ∧ (q.desc.id = id.toNat) ∧ (q.desc.mode = 3) ∧ (q.cancel = false)) ∧
    (∃ (s : State) (req : Req) (id : Word), (s.ready req .lst = true) ∧ ((∀ q, s.nextPage = some q → q.desc.id ≠ id.toNat ∨ q.desc.mode ≠ 3))) ∧
    (∃ (s : State) (q : PageSt) (x : Nat), (s.nextPage = some q) ∧ (s.startLine q = some x) ∧ (x ≤ s.rd .pace PACE.WL) ∧ (s.pageReady q = false) ∧ (s.on .lst LST.CTRL_LATE_REJECT = false) ∧ (q.moved = false)) ∧
    (∃ (s : State) (q : PageSt) (x : Nat), (s.nextPage = some q) ∧ (s.startLine q = some x) ∧ (s.rd .pace PACE.WL < x)) ∧
    (∃ (d : DealIn) (x : Nat), (x < d.x0 ∨ d.x0 + d.width * d.desc.rep d.plane ≤ x)) ∧
    (∃ (d : DealIn) (x : Nat), (d.desc.pre d.plane = true) ∧ (d.x0 ≤ x) ∧ (x < d.x0 + d.width)) :=
  ⟨⟨{ upWith [(.pace, PACE.WL, 41)] with pace := { ticks := 2, last := some 5, fresh := false }, dclk := 100 }, by decide +kernel⟩,
    ⟨up, by decide +kernel⟩,
    ⟨(({ upWith [(.pace, PACE.WL, 99), (.seq 3, SEQ.PHASE_FRAC, 0)] with pace := { ticks := 1 }, dclk := 1000 }).modLane 3 (fun h => { h with due := [{ tag := aTag, miss := none }] })), 3, { tag := aTag, miss := none }, by decide +kernel⟩,
    ⟨{ upWith [(.pace, PACE.CTRL_MODE, 1)] with pace := { ticks := 2, last := some 5, fresh := false, acc := 9 } }, .host, 0x406, by decide +kernel⟩,
    ⟨(upWith [(.pace, PACE.RATIO_NUM, 5), (.pace, PACE.RATIO_DEN, 4)]), .host, 0x426, by decide +kernel⟩,
    ⟨{ upWith [(.lst, HDR.PG_CTRL_EN, 1)] with intake := { pages := [{ aPage with desc := { aDesc with mode := 3 } }] } }, .host, 7, { aPage with desc := { aDesc with mode := 3 } }, by decide +kernel⟩,
    ⟨{ upWith [(.lst, HDR.PG_CTRL_EN, 1)] with intake := { pages := [aPage] } }, .host, 7, by decide +kernel⟩,
    ⟨{ up with intake := { pages := [{ aPage with startAt := some 0 }] } }, { aPage with startAt := some 0 }, 0, by decide +kernel⟩,
    ⟨{ up with intake := { pages := [{ aPage with startAt := some 5 }] } }, { aPage with startAt := some 5 }, 5, by decide +kernel⟩,
    ⟨(aDeal 0), 9, by decide +kernel⟩,
    ⟨(aDeal 2), 10, by decide +kernel⟩⟩

theorem wit_DenRecord :
    (∃ (s : State) (e : DenReq), (s.rd .den HDR.PG_STAT_STATE = 1) ∧ (s.den.cur = some e) ∧ (s.den.curAt + 800 ≤ s.dclk) ∧ (e.type ≠ 1) ∧ ((s.denPins e && !e.pinned) = false) ∧ (s.den.dropped = 0) ∧ (s.den.rdWait = none) ∧ ((∀ x ∈ s.den.queue, x.type ≠ 9)) ∧ (s.rd .den DEN.HEAD < 4096) ∧ (s.rd .den DEN.NEXT_SEQ < 2 ^ 32)) ∧
    (∃ (s : State) (e : DenReq), (s.rd .den HDR.PG_STAT_STATE = 1) ∧ (s.den.cur = some e) ∧ (s.dclk < s.den.curAt + 800)) ∧
    (∃ (s : State) (e : DenReq) (q : List DenReq) (k : Nat), (s.rd .den HDR.PG_STAT_STATE = 0) ∧ (s.den.queue = e :: q) ∧ (e.type = 1) ∧ (e.pinned = false) ∧ (s.denPins e = true) ∧ (denFreePin s.den.mram = some k) ∧ (e.at_ + 800 ≤ s.dclk)) ∧
    (∃ (s : State), (s.devUp = true) ∧ (s.rd .den HDR.PG_STAT_STATE = 0)) ∧
    (∃ (s : State) (req : Req) (data : Word), (s.open_ req .den = true) ∧ (data.toNat < 4096) ∧ (s.den.cur = none)) ∧
    (∃ (s : State) (req : Req) (data : Word), (s.open_ req .den = true) ∧ (data.toNat < 4096) ∧ (s.den.cur.isSome = true) ∧ (data.toNat = s.rd .den DEN.HEAD)) ∧
    (∃ (s : State), (s.devUp = true) ∧ (500000000 ≤ (s.dclk - s.den.tokAt) * s.rd .den DEN.CTRL)) ∧
    (∃ (s : State), ((s.dclk - s.den.tokAt) * s.rd .den DEN.CTRL < 500000000)) ∧
    (∃ (s : State) (req : Req) (data : Word), (s.open_ req .den = true) ∧ (1 ≤ data.toNat % 2 ^ 11) ∧ (data.toNat % 2 ^ 11 ≤ 1000)) ∧
    (∃ (s : State) (req : Req), (s.open_ req .den = true) ∧ (0x8000 ≤ s.rd .den DEN.FW_TYPE) ∧ (s.den.queue.all (fun e => e.hw) = true) ∧ (s.on .den HDR.PG_CTRL_EN = true) ∧ (s.rd .den HDR.PG_STAT_STATE ≠ 0) ∧ (s.den.tokens ≠ 0) ∧ (s.den.queue.length < 16) ∧ (s.den.dropped = 0) ∧ (s.den.cur.isSome = true)) ∧
    (∃ (s : State) (req : Req), (s.open_ req .den = true)) :=
  ⟨⟨{ upWith [(.den, HDR.PG_STAT_STATE, 1), (.den, DEN.HEAD, 4095), (.den, DEN.NEXT_SEQ, 9)] with den := { cur := some aReq, curAt := 9, queue := [aReq] }, dclk := 809 }, aReq, by decide +kernel⟩,
    ⟨{ upWith [(.den, HDR.PG_STAT_STATE, 1)] with den := { cur := some aReq, curAt := 9 }, dclk := 808 }, aReq, by decide +kernel⟩,
    ⟨{ up with den := { queue := [{ type := 1, src := 2, hw := true, payload := 77, time := 5 }] }, dclk := 800 }, { type := 1, src := 2, hw := true, payload := 77, time := 5 }, [], 0, by decide +kernel⟩,
    ⟨up, by decide +kernel⟩,
    ⟨up, .host, 130, by decide +kernel⟩,
    ⟨{ upWith [(.den, HDR.PG_STAT_STATE, 1), (.den, DEN.HEAD, 130), (.den, DEN.RD_STAT_DONE, 1)] with den := { cur := some aReq } }, .host, 130, by decide +kernel⟩,
    ⟨{ upWith [(.den, DEN.CTRL, 100)] with dclk := 5000000 }, by decide +kernel⟩,
    ⟨{ upWith [(.den, DEN.CTRL, 100)] with dclk := 4999999 }, by decide +kernel⟩,
    ⟨up, .host, 100, by decide +kernel⟩,
    ⟨{ upWith [(.den, HDR.PG_CTRL_EN, 1), (.den, HDR.PG_STAT_STATE, 1)] with den := { cur := some aReq } }, .host, by decide +kernel⟩,
    ⟨up, .host, by decide +kernel⟩⟩

theorem wit_SpoolBursts :
    (∃ (s : State) (user : SpoolUser) (addr : BitVec 36), (s.devUp = true) ∧ (s.ddrState = ddrActive) ∧ (s.ddr.forSett = false) ∧ (s.ddr.queue = []) ∧ (s.on .ddr DDR.STAT_PANIC = false) ∧ (s.portReaches user addr.toNat = true) ∧ (s.ddr.poison.contains (addr.toNat / 64) = false)) ∧
    (∃ (s : State) (user : SpoolUser) (addr : BitVec 36), (s.devUp = true) ∧ (s.ddrState = ddrActive) ∧ (s.ddr.forSett = false) ∧ (s.ddr.queue = []) ∧ (s.on .ddr DDR.STAT_PANIC = false) ∧ (s.portReaches user addr.toNat = true) ∧ (s.ddr.poison.contains (addr.toNat / 64) = false) ∧ ((s.writeBacks (subOf addr.toNat)).length < 8)) ∧
    (∃ (s : State) (user : SpoolUser) (addr : BitVec 36) (kind : ReadKind), (s.devUp = true) ∧ (s.ddrState = ddrActive) ∧ (s.ddr.forSett = false) ∧ (s.ddr.queue = []) ∧ (s.on .ddr DDR.STAT_PANIC = false) ∧ (s.portReaches user addr.toNat = true) ∧ ((s.ddr.poison.contains (addr.toNat / 64) = true ∨ ∃ dev, kind = .uncorrectable dev))) ∧
    (∃ (s : State) (user : SpoolUser) (addr : BitVec 36), (s.devUp = true) ∧ (s.portReaches user addr.toNat = false)) ∧
    (∃ (s : State) (user : SpoolUser) (addr : BitVec 36), (s.devUp = true) ∧ (s.ddrState = ddrActive) ∧ (s.ddr.forSett = false) ∧ (s.ddr.queue = []) ∧ (s.on .ddr DDR.STAT_PANIC = true) ∧ (user.port ≠ 1) ∧ (s.portReaches user addr.toNat = true)) ∧
    (∃ (s : State) (user : SpoolUser) (addr : BitVec 36), (s.devUp = true) ∧ (s.ddrState = ddrSelf) ∧ (s.ddr.forSett = false) ∧ (s.ddr.queue = []) ∧ (s.portReaches user addr.toNat = true)) ∧
    (∃ (s : State) (user : SpoolUser) (addr : BitVec 36) (mask : BitVec 64), (s.devUp = true) ∧ (s.ddrState = ddrActive) ∧ (s.ddr.forSett = false) ∧ (s.ddr.queue = []) ∧ (s.on .ddr DDR.STAT_PANIC = false) ∧ (s.portReaches user addr.toNat = true) ∧ ((mask = BitVec.allOnes 64 ∨ s.ddr.poison.contains (addr.toNat / 64) = false))) ∧
    (∃ (s : State) (user : SpoolUser) (addr : BitVec 36), (s.devUp = true) ∧ (s.ddrState = ddrActive) ∧ (s.ddr.forSett = false) ∧ (s.ddr.queue = []) ∧ (s.on .ddr DDR.STAT_PANIC = false) ∧ (s.portReaches user addr.toNat = true)) ∧
    (∃ (s : State) (user : SpoolUser) (addr : BitVec 36), (s.devUp = true) ∧ (s.portReaches user addr.toNat = false)) :=
  ⟨⟨(upWith [(.ddr, HDR.PG_STAT_STATE, 2), (.ddr, DDR.CFG_SIZE_GIB, 16)]), .fetch, 0x4000082, by decide +kernel⟩,
    ⟨(upWith [(.ddr, HDR.PG_STAT_STATE, 2), (.ddr, DDR.CFG_SIZE_GIB, 16)]), .fetch, 0x4000082, by decide +kernel⟩,
    ⟨{ upWith [(.ddr, HDR.PG_STAT_STATE, 2), (.ddr, DDR.CFG_SIZE_GIB, 16)] with ddr := { poison := [2] } }, (.core 3), 130, .clean, by decide +kernel⟩,
    ⟨(upWith [(.ddr, HDR.PG_STAT_STATE, 2), (.ddr, DDR.CFG_SIZE_GIB, 16)]), .fetch, 0x3FFFFFF, by decide +kernel⟩,
    ⟨(upWith [(.ddr, HDR.PG_STAT_STATE, 2), (.ddr, DDR.CFG_SIZE_GIB, 16), (.ddr, DDR.STAT_PANIC, 1)]), .encoder, 130, by decide +kernel⟩,
    ⟨(upWith [(.ddr, HDR.PG_STAT_STATE, 4), (.ddr, DDR.CFG_SIZE_GIB, 16)]), .encoder, 130, by decide +kernel⟩,
    ⟨(upWith [(.ddr, HDR.PG_STAT_STATE, 2), (.ddr, DDR.CFG_SIZE_GIB, 16)]), .intake, 0x4000082, 3, by decide +kernel⟩,
    ⟨{ upWith [(.ddr, HDR.PG_STAT_STATE, 2), (.ddr, DDR.CFG_SIZE_GIB, 16)] with ddr := { poison := [2] } }, .encoder, 130, by decide +kernel⟩,
    ⟨(upWith [(.ddr, HDR.PG_STAT_STATE, 2), (.ddr, DDR.CFG_SIZE_GIB, 16)]), .intake, 130, by decide +kernel⟩⟩

theorem wit_SpoolRefreshAndUpkeep :
    (∃ (s : State) (k : Fin 4) (rank : Fin 2), (s.devUp = true) ∧ (s.ddrState = ddrActive) ∧ ((rank = 0 ∨ s.on .ddr DDR.CFG_RANK2 = true)) ∧ (s.on .ddr DDR.STAT_PANIC = false) ∧ (s.ddr.tickAt[tickIx k rank] ≤ s.dclk)) ∧
    (∃ (s : State) (k : Fin 4) (rank : Fin 2), (s.devUp = true) ∧ (s.ddrState = ddrActive) ∧ ((rank = 0 ∨ s.on .ddr DDR.CFG_RANK2 = true)) ∧ (s.on .ddr DDR.STAT_PANIC = true) ∧ (s.ddr.tickAt[tickIx k rank] ≤ s.dclk) ∧ (s.rd .ddr DDR.STAT_HOT = 0) ∧ ((∀ (j : Fin 4) (r : Fin 2), s.rd (.ddrs j) (owedRow r) < s.rd .ddr DDR.REF_CTRL_MAX_POSTPONE))) ∧
    (∃ (s : State) (k : Fin 4) (rank0 : Mr4 × BitVec 8), (s.devUp = true) ∧ (s.ddrState = ddrActive) ∧ (s.on .ddr DDR.CFG_RANK2 = false) ∧ (rank0.1 = .x2) ∧ ((s.rd .ddr DDR.STAT_HOT).testBit k.val = false) ∧ (s.ddr.pollAt[k] ≤ s.dclk)) ∧
    (∃ (s : State), (s.devUp = true) ∧ (s.on .ddr DDR.STAT_PANIC = false) ∧ (s.panicDue = true)) ∧
    (∃ (s : State), (s.panicDue = false)) ∧
    (∃ (s : State), (s.panicOver = false)) ∧
    (∃ (s : State), (s.devUp = true) ∧ (s.on .ddr DDR.STAT_PANIC = true) ∧ (s.panicOver = true)) ∧
    (∃ (s : State), (s.devUp = true) ∧ (s.ddrState = ddrEntry) ∧ (s.cal.runs.all (fun r => r.item != 7) = true) ∧ (s.ddr.queue = [])) ∧
    (∃ (s : State), (s.ddr.queue ≠ [])) ∧
    (∃ (s : State), (s.devUp = true) ∧ (s.ddr.forSett = false) ∧ (s.ddrState = ddrEntry)) ∧
    (∃ (s : State), (s.devUp = true) ∧ (s.ddr.forSett = false) ∧ (s.ddrState = ddrSelf) ∧ (s.cal.runs.all (fun r => r.item != 7) = true)) ∧
    (∃ (s : State), (s.devUp = true) ∧ (s.ddrState = ddrExit)) ∧
    (∃ (s : State), (s.devUp = true) ∧ (s.ddrState = ddrActive) ∧ (s.on .ddr DDR.SCRUB_EN = true) ∧ (s.ddr.poison.contains (s.rd .ddr DDR.SCRUB_POS) = false) ∧ (s.rd .ddr DDR.SCRUB_POS < 2 ^ 30 - 1) ∧ (s.ddr.queue = []) ∧ (s.ddr.scrubAt ≤ s.dclk)) :=
  ⟨⟨(upWith [(.ddr, HDR.PG_STAT_STATE, 2), (.ddr, DDR.CFG_SIZE_GIB, 16), (.ddrs 3, DDRS.OWED_RANK1, 2)]), 1, 0, by decide +kernel⟩,
    ⟨(upWith [(.ddr, HDR.PG_STAT_STATE, 2), (.ddr, DDR.STAT_PANIC, 1), (.ddr, DDR.REF_CTRL_MAX_POSTPONE, 3), (.ddrs 1, DDRS.OWED_RANK0, 2)]), 1, 0, by decide +kernel⟩,
    ⟨(upWith [(.ddr, HDR.PG_STAT_STATE, 2), (.ddr, DDR.CFG_SIZE_GIB, 16), (.ddrs 2, DDRS.OWED_RANK0, 3)]), 2, (.x2, 5), by decide +kernel⟩,
    ⟨(lastUp 1 (some 0) (some { aDec with left := 9 })), by decide +kernel⟩,
    ⟨(lastUp 1 (some 0) (some { aDec with left := 9, level := 16384 })), by decide +kernel⟩,
    ⟨(lastUp 1 (some 0) (some { aDec with waits := true })), by decide +kernel⟩,
    ⟨(upWith [(.ddr, HDR.PG_STAT_STATE, 2), (.ddr, DDR.CFG_SIZE_GIB, 16), (.ddr, DDR.STAT_PANIC, 1), (.ddrs 2, DDRS.OWED_RANK0, 3)]), by decide +kernel⟩,
    ⟨(upWith [(.ddr, HDR.PG_STAT_STATE, 3)]), by decide +kernel⟩,
    ⟨{ upWith [(.ddr, HDR.PG_STAT_STATE, 3)] with ddr := { queue := [{ user := .fetch, addr := 0x5000000, op := .read .clean 0 }] } }, by decide +kernel⟩,
    ⟨(upWith [(.ddr, HDR.PG_STAT_STATE, 3)]), by decide +kernel⟩,
    ⟨(upWith [(.ddr, HDR.PG_STAT_STATE, 4)]), by decide +kernel⟩,
    ⟨(upWith [(.ddr, HDR.PG_STAT_STATE, 5)]), by decide +kernel⟩,
    ⟨(upWith [(.ddr, HDR.PG_STAT_STATE, 2), (.ddr, DDR.CFG_SIZE_GIB, 16)]), by decide +kernel⟩⟩

theorem wit_AxisCommands :
    (∃ (s : State) (req : Req) (a : Axis), (s.ready req (.ax a) = true) ∧ (s.shadow = false) ∧ (s.axSt a ≠ axFault) ∧ (s.axSt a ≠ axHoming)) ∧
    (∃ (s : State) (req : Req) (a : Axis), (s.ready req (.ax a) = true) ∧ (s.shadow = false) ∧ (s.axSt a = axFault ∨ s.axSt a = axHoming)) ∧
    (∃ (s : State) (req : Req) (a : Axis), (s.ready req (.ax a) = true) ∧ (s.shadow = false) ∧ (s.axSt a = axMoving)) ∧
    (∃ (s : State) (req : Req) (a : Axis), (s.ready req (.ax a) = true) ∧ (s.axSt a = axMoving ∨ s.axSt a = axHoming)) ∧
    (∃ (s : State) (req : Req) (a : Axis), (s.ready req (.ax a) = true) ∧ (s.axSt a = axFault) ∧ (s.axSupplyLost a = false)) ∧
    (∃ (s : State) (req : Req) (a : Axis) (drvflt : Bool), (s.ready req (.ax a) = true) ∧ (s.axSt a = axFault) ∧ (drvflt = true ∨ s.axSupplyLost a = true)) ∧
    (∃ (s : State) (req : Req) (a : Axis), (s.ready req (.ax a) = true) ∧ (s.on (.ax a) AX.STAT_ASLEEP = false)) ∧
    (∃ (s : State) (req : Req) (a : Axis), (s.ready req (.ax a) = true)) :=
  ⟨⟨{ upWith [(.ax 2, HDR.PG_CTRL_EN, 1), (.ax 2, HDR.PG_STAT_STATE, 1), (.ax 2, AX.STAT_ASLEEP, 1)] with dclk := 7 }, .host, 2, by decide +kernel⟩,
    ⟨(upWith [(.ax 2, HDR.PG_CTRL_EN, 1), (.ax 2, HDR.PG_STAT_STATE, 5)]), .host, 2, by decide +kernel⟩,
    ⟨(upWith [(.ax 2, HDR.PG_CTRL_EN, 1), (.ax 2, HDR.PG_STAT_STATE, 2)]), .host, 2, by decide +kernel⟩,
    ⟨{ upWith [(.ax 2, HDR.PG_CTRL_EN, 1), (.ax 2, HDR.PG_STAT_STATE, 3), (.ax 2, AX.VEL, 3)] with dclk := 7 }, .host, 2, by decide +kernel⟩,
    ⟨{ upWith [(.ax 2, HDR.PG_CTRL_EN, 1), (.ax 2, HDR.PG_STAT_STATE, 5), (.ax 2, HDR.PG_STAT_FAULT, 1), (.ax 2, AX.STAT_DRVFLT, 1)] with dclk := 7 }, .host, 2, by decide +kernel⟩,
    ⟨(upWith [(.ax 2, HDR.PG_CTRL_EN, 1), (.ax 2, HDR.PG_STAT_STATE, 5)]), .host, 2, true, by decide +kernel⟩,
    ⟨(upWith [(.ax 2, HDR.PG_CTRL_EN, 1)]), .host, 2, by decide +kernel⟩,
    ⟨(upWith [(.ax 2, HDR.PG_CTRL_EN, 1), (.ax 2, AX.STAT_ASLEEP, 1)]), .host, 2, by decide +kernel⟩⟩

theorem wit_AxisMotionAndInputs :
    (∃ (s : State) (a : Axis), (s.devUp = true) ∧ (s.shadow = false) ∧ (stepUnit ≤ s.axes[a].lead.natAbs) ∧ (s.axes[a].holdUntil ≤ s.dclk) ∧ (s.stepMay a (decide (s.axes[a].lead < 0)) = true) ∧ (s.axes[a].homing ≠ .seek) ∧ (s.axes[a].homing ≠ .backoff)) ∧
    (∃ (s : State) (a : Axis), (s.devUp = true) ∧ (s.shadow = false) ∧ (stepUnit ≤ s.axes[a].lead.natAbs) ∧ (s.axes[a].holdUntil ≤ s.dclk) ∧ (s.stepMay a (decide (s.axes[a].lead < 0)) = true) ∧ (s.axes[a].homing = .backoff) ∧ (s.rd (.ax a) AX.BACKOFF_MAX ≤ s.axes[a].homeSteps + 1)) ∧
    (∃ (s : State) (a : Axis), (s.devUp = false ∨ s.shadow = true ∨ s.axes[a].lead.natAbs < stepUnit ∨ s.dclk < s.axes[a].holdUntil ∨ s.stepMay a (decide (s.axes[a].lead < 0)) = false)) ∧
    (∃ (s : State) (a : Axis), (s.devUp = true) ∧ (s.shadow = false) ∧ (stepUnit ≤ s.axes[a].lead.natAbs) ∧ (s.axes[a].holdUntil ≤ s.dclk) ∧ (s.stepMay a (decide (s.axes[a].lead < 0)) = true) ∧ (s.axes[a].homing = .seek) ∧ (s.rd (.ax a) AX.HOME_MAX ≤ s.axes[a].homeSteps + 1)) ∧
    (∃ (s : State) (a : Axis), (s.devUp = true) ∧ (s.axSt a = axObserving)) ∧
    (∃ (s : State) (a : Axis), (s.dclk < s.axes[a].updAt + 250)) ∧
    (∃ (s : State) (a : Axis), (s.devUp = true) ∧ (s.shadow = false) ∧ (s.axes[a].updAt + 250 ≤ s.dclk) ∧ (s.commits.any (fun e => e.1 == Page.ax a && decide (e.2 + 2 ≤ s.dclk)) = false)) ∧
    (∃ (s : State) (a : Axis), (s.devUp = true) ∧ (s.shadow = false) ∧ (s.axes[a].updAt + 250 ≤ s.dclk) ∧ (s.commits.any (fun e => e.1 == Page.ax a && decide (e.2 + 2 ≤ s.dclk)) = true) ∧ (s.axSt a ≠ axFault) ∧ (s.axSt a ≠ axHoming) ∧ (s.axToLimit a (s.rdStaged (.ax a) AX.MOVE_KIND) (signed 32 (s.rdStaged (.ax a) AX.TARGET)) = false)) ∧
    (∃ (s : State) (a : Axis), (s.devUp = true) ∧ (s.shadow = false) ∧ (s.axes[a].updAt + 250 ≤ s.dclk) ∧ (s.commits.any (fun e => e.1 == Page.ax a && decide (e.2 + 2 ≤ s.dclk)) = true) ∧ (s.axSt a = axFault ∨ s.axSt a = axHoming)) ∧
    (∃ (s : State) (a : Axis) (pos : Bool), (s.devUp = true) ∧ (s.on (.ax a) (if pos then AX.CFG_LIMP_EN else AX.CFG_LIMN_EN) = true) ∧ (s.axes[a].homing = .none) ∧ ((if pos then 0 < s.axes[a].vel else s.axes[a].vel < 0))) ∧
    (∃ (s : State) (a : Axis) (pos : Bool), (s.devUp = true) ∧ (s.on (.ax a) (if pos then AX.CFG_LIMP_EN else AX.CFG_LIMN_EN) = true) ∧ (s.axes[a].homing = .none) ∧ ((if pos then s.axes[a].vel ≤ 0 else 0 ≤ s.axes[a].vel))) ∧
    (∃ (s : State) (a : Axis) (pos : Bool), (s.devUp = true) ∧ (s.on (.ax a) (if pos then AX.CFG_LIMP_EN else AX.CFG_LIMN_EN) = true) ∧ (s.axes[a].homing ≠ .none) ∧ (s.on (.ax a) AX.HOME_CFG_SRC = false ∨ s.on (.ax a) AX.HOME_CFG_DIR ≠ pos)) ∧
    (∃ (s : State) (a : Axis) (pos : Bool), (s.devUp = true) ∧ (s.axSt a = axLimit) ∧ (s.axes[a].trip = some pos)) ∧
    (∃ (s : State) (a : Axis), (s.devUp = true) ∧ (s.axes[a].homing = .seek)) ∧
    (∃ (s : State) (a : Axis), (s.devUp = true) ∧ (s.axes[a].homing = .backoff)) ∧
    (∃ (s : State) (a : Axis), (s.devUp = true) ∧ (s.axes[a].homing ≠ .backoff)) ∧
    (∃ (s : State) (a : Axis), (s.axSupplyLost a = false)) ∧
    (∃ (s : State) (a : Axis) (pin : Bool), (s.devUp = true) ∧ (s.on (.ax a) HDR.PG_CTRL_EN = true) ∧ (pin = true ∨ s.axSupplyLost a = true)) ∧
    (∃ (s : State) (a : Axis), (s.devUp = true) ∧ (s.axSt a = axIdle) ∧ (s.rd (.ax a) AX.TIMES_SLEEP_MS ≠ 0) ∧ (s.on (.ax a) AX.STAT_ASLEEP = false) ∧ (s.axes[a].idleAt + 500000 * s.rd (.ax a) AX.TIMES_SLEEP_MS ≤ s.dclk)) ∧
    (∃ (s : State) (a : Axis), (s.dclk < s.axes[a].idleAt + 500000 * s.rd (.ax a) AX.TIMES_SLEEP_MS)) ∧
    (∃ (s : State), (s.shadow = true)) ∧
    (∃ (s : State) (a : Axis), (s.shadow = false) ∧ (s.power.dev ≠ .off) ∧ (s.power.pgood1 = true) ∧ (s.on (.ax a) HDR.PG_CTRL_EN = true) ∧ (s.axSt a ≠ axFault)) ∧
    (∃ (s : State) (a : Axis), (s.shadow = false) ∧ (s.power.dev ≠ .off) ∧ (s.power.pgood1 = true) ∧ (s.on (.ax a) HDR.PG_CTRL_EN = false ∨ s.axSt a = axFault)) ∧
    (∃ (s : State), (s.shadow = false) ∧ (s.power.dev ≠ .off)) ∧
    (∃ (s : State), (s.shadow = false) ∧ (s.power.dev ≠ .off) ∧ (s.power.dev ≠ .idle) ∧ (s.power.dev ≠ .ready) ∧ (s.power.dev ≠ .print)) ∧
    (∃ (s : State), (s.power.pgood1 = false)) ∧
    (∃ (s : State), (s.power.dev ≠ .off) ∧ (s.power.pgood1 = true)) ∧
    (∃ (s : State) (b : Ball), (s.power.dev = .off) ∧ (b ≠ .wakeN)) :=
  ⟨⟨{ (upWith [(.ax 2, AX.POS, 5)]).modAxis 2 fun h => { h with lead := -(stepUnit : Int) - 5, dirNeg := true } with dclk := 5000 }, 2, by decide +kernel⟩,
    ⟨{ (upWith [(.ax 2, AX.BACKOFF_MAX, 5)]).modAxis 2 fun h => { h with lead := stepUnit, homing := .backoff, homeSteps := 4 } with dclk := 5000 }, 2, by decide +kernel⟩,
    ⟨up, 2, by decide +kernel⟩,
    ⟨{ (upWith [(.ax 2, AX.HOME_MAX, 5)]).modAxis 2 fun h => { h with lead := stepUnit, homing := .seek, homeSteps := 4 } with dclk := 5000 }, 2, by decide +kernel⟩,
    ⟨{ upWith [(.ax 2, HDR.PG_STAT_STATE, 6)] with dclk := 9 }, 2, by decide +kernel⟩,
    ⟨{ up with dclk := 249 }, 2, by decide +kernel⟩,
    ⟨{ (upWith [(.ax 2, HDR.PG_STAT_STATE, 2)]).modAxis 2 fun h => { h with vel := 5 } with dclk := 250 }, 2, by decide +kernel⟩,
    ⟨axPend, 2, by decide +kernel⟩,
    ⟨(setF axPend [(.ax 2, HDR.PG_STAT_STATE, 5)]), 2, by decide +kernel⟩,
    ⟨((upWith [(.ax 2, HDR.PG_STAT_STATE, 2), (.ax 2, HDR.PG_CTRL_EN, 1)]).modAxis 2 fun h => { h with vel := 5 }), 2, true, by decide +kernel⟩,
    ⟨((upWith [(.ax 2, HDR.PG_STAT_STATE, 2), (.ax 2, HDR.PG_CTRL_EN, 1)]).modAxis 2 fun h => { h with vel := -5 }), 2, true, by decide +kernel⟩,
    ⟨((upWith [(.ax 2, HDR.PG_STAT_STATE, 3), (.ax 2, HDR.PG_CTRL_EN, 1), (.ax 2, AX.HOME_CFG_SRC, 1)]).modAxis 2 fun h => { h with homing := .seek }), 2, true, by decide +kernel⟩,
    ⟨{ (upWith [(.ax 2, HDR.PG_STAT_STATE, 4), (.ax 2, AX.STAT_LIMN, 1)]).modAxis 2 fun h => { h with vel := 5, trip := some false } with dclk := 7 }, 2, false, by decide +kernel⟩,
    ⟨((upWith [(.ax 2, AX.POS, 100)]).modAxis 2 fun h => { h with homing := .seek }), 2, by decide +kernel⟩,
    ⟨((upWith [(.ax 2, AX.STAT_HOME, 1)]).modAxis 2 fun h => { h with homing := .backoff }), 2, by decide +kernel⟩,
    ⟨(upWith [(.ax 2, AX.STAT_HOME, 1)]), 2, by decide +kernel⟩,
    ⟨up, 2, by decide +kernel⟩,
    ⟨{ (upWith [(.ax 2, HDR.PG_STAT_STATE, 2), (.ax 2, HDR.PG_CTRL_EN, 1), (.ax 2, AX.STAT_LOST, 0)]).modAxis 2 fun h => { h with vel := 5 } with dclk := 7 }, 2, true, by decide +kernel⟩,
    ⟨{ upWith [(.ax 2, HDR.PG_STAT_STATE, 1), (.ax 2, AX.TIMES_SLEEP_MS, 100)] with dclk := 50000000 }, 2, by decide +kernel⟩,
    ⟨{ upWith [(.ax 2, HDR.PG_STAT_STATE, 1), (.ax 2, AX.TIMES_SLEEP_MS, 100)] with dclk := 49999999 }, 2, by decide +kernel⟩,
    ⟨{ up with pair := { role := .shadow } }, by decide +kernel⟩,
    ⟨{ upWith [(.ax 2, HDR.PG_CTRL_EN, 1), (.ax 2, AX.CFG_EN_POL, 1)] with power := { dev := .idle, pgood1 := true } }, 2, by decide +kernel⟩,
    ⟨{ upWith [(.ax 2, HDR.PG_CTRL_EN, 1), (.ax 2, HDR.PG_STAT_STATE, 5)] with power := { dev := .idle, pgood1 := true } }, 2, by decide +kernel⟩,
    ⟨(upWith [(.ax 2, AX.STAT_ASLEEP, 1)]), by decide +kernel⟩,
    ⟨{ up with power := { dev := .sett } }, by decide +kernel⟩,
    ⟨{ up with power := { dev := .sett } }, by decide +kernel⟩,
    ⟨{ upWith [(.pace, PACE.STAT_SLOWREQ, 1)] with power := { dev := .idle, pgood1 := true } }, by decide +kernel⟩,
    ⟨{ up with power := { dev := .off } }, .pen0, by decide +kernel⟩⟩

theorem wit_LaneFiring :
    (∃ (s : State) (l : Lane) (f : FifoLine), (s.devUp = true) ∧ (s.prepares l = true) ∧ (s.lanes[l].prepEnd ≤ s.dclk) ∧ (s.lanes[l].nextToPrepare = some f)) ∧
    (∃ (s : State) (l : Lane) (f : FifoLine), (s.devUp = true) ∧ (s.prepares l = true) ∧ (s.lanes[l].prepEnd ≤ s.dclk) ∧ (s.lanes[l].nextToPrepare = some f)) ∧
    (∃ (s : State) (l : Lane) (p : PrepLine) (ps : List PrepLine), (s.devUp = true) ∧ (s.prepares l = true) ∧ (s.linkUp l = true) ∧ (s.portFree l = true) ∧ (s.shadow = false) ∧ (s.lanes[l].prep = p :: ps) ∧ (p.ue = false) ∧ (p.frame = none) ∧ (p.held = none) ∧ (p.ready ≤ s.dclk)) ∧
    (∃ (s : State) (l : Lane) (d : Due) (ds : List Due) (p : PrepLine) (ps : List PrepLine) (at_ n b e : Nat), (s.devUp = true) ∧ (s.power.dev ≠ .fault) ∧ (s.shadow = false) ∧ (s.lanes[l].due = d :: ds) ∧ (d.instant = some at_) ∧ (at_ ≤ s.dclk) ∧ (d.miss = none) ∧ (d.tag.last = false) ∧ (s.lanes[l].prep = p :: ps) ∧ (p.tag.ord = d.tag.ord) ∧ (p.ue = false) ∧ (p.frame = some (n, b, e)) ∧ (e ≤ at_) ∧ (s.lanes[l].st ≠ .armed) ∧ (s.spoil.opens.length < 4) ∧ (s.tooSoon l d.tag at_ = false)) ∧
    (∃ (s : State) (l : Lane) (d : Due) (ds : List Due) (p : PrepLine) (ps : List PrepLine) (at_ n b e : Nat), (s.devUp = true) ∧ (s.power.dev ≠ .fault) ∧ (s.shadow = false) ∧ (s.lanes[l].due = d :: ds) ∧ (d.instant = some at_) ∧ (at_ ≤ s.dclk) ∧ (d.miss = none) ∧ (d.tag.last = false) ∧ (s.lanes[l].prep = p :: ps) ∧ (p.tag.ord = d.tag.ord) ∧ (p.ue = false) ∧ (p.frame = some (n, b, e)) ∧ (e ≤ at_) ∧ (s.lanes[l].st ≠ .armed) ∧ (s.spoil.opens.length < 4) ∧ (s.tooSoon l d.tag at_ = true)) ∧
    (∃ (s : State) (l : Lane) (d : Due) (ds : List Due) (p : PrepLine) (ps : List PrepLine) (at_ : Nat), (s.devUp = true) ∧ (s.power.dev ≠ .fault) ∧ (s.shadow = false) ∧ (s.lanes[l].due = d :: ds) ∧ (d.instant = some at_) ∧ (at_ ≤ s.dclk) ∧ (d.miss = none) ∧ (d.tag.last = false) ∧ (s.lanes[l].prep = p :: ps) ∧ (p.tag.ord = d.tag.ord) ∧ (p.ue = false) ∧ (p.frame = none) ∧ (p.held = none) ∧ (s.lanes[l].outCause = none) ∧ (s.lanes[l].st = .firing) ∧ (s.spoil.opens.length < 4) ∧ (s.tooSoon l d.tag at_ = false)) ∧
    (∃ (s : State) (l : Lane) (d : Due) (ds : List Due) (p : PrepLine) (ps : List PrepLine) (at_ n b e : Nat), (s.devUp = true) ∧ (s.power.dev ≠ .fault) ∧ (s.shadow = false) ∧ (s.lanes[l].due = d :: ds) ∧ (d.instant = some at_) ∧ (at_ ≤ s.dclk) ∧ (d.miss = none) ∧ (d.tag.last = false) ∧ (s.lanes[l].prep = p :: ps) ∧ (p.tag.ord = d.tag.ord) ∧ (p.ue = false) ∧ (p.frame = some (n, b, e)) ∧ (at_ < e) ∧ (s.lanes[l].st ≠ .armed) ∧ (s.spoil.opens.length < 4) ∧ (s.tooSoon l d.tag at_ = false)) ∧
    (∃ (s : State) (l : Lane), (s.devUp = true) ∧ (s.shadow = false) ∧ (s.rd (.seq l) SEQ.TEMP_RES_TMO ≤ s.lanes[l].noTemp) ∧ (s.lanes[l].st = .armed ∨ s.lanes[l].st = .firing)) ∧
    (∃ (s : State) (req : Req) (l : Lane) (id : Nat), (s.ready req (.seq l) = true) ∧ (s.lanes[l].st = .hold) ∧ (s.holdCleared l = true) ∧ (s.lanes[l].page = some id) ∧ (s.spoil.overflow = none)) ∧
    (∃ (s : State) (req : Req) (l : Lane) (id : Nat) (p : PrepLine) (ps : List PrepLine), (s.ready req (.seq l) = true) ∧ (s.lanes[l].st = .hold) ∧ (s.holdCleared l = true) ∧ (s.lanes[l].page = some id) ∧ (s.spoil.overflow = none) ∧ (s.lanes[l].outCause = none) ∧ (s.power.dev ≠ .fault) ∧ (s.lanes[l].prep = p :: ps) ∧ (p.frame = none) ∧ (p.held = none)) ∧
    (∃ (s : State) (l : Lane) (p : PrepLine) (ps : List PrepLine), (s.lanes[l].prep = p :: ps) ∧ (p.held.isSome = true)) ∧
    (∃ (s : State) (req : Req) (l : Lane), (s.ready req (.seq l) = true) ∧ (s.lanes[l].st ≠ .hold)) ∧
    (∃ (s : State) (req : Req) (l : Lane), (s.ready req (.seq l) = true) ∧ (s.lanes[l].st = .hold) ∧ (s.holdCleared l = false)) ∧
    (∃ (s : State) (l : Lane) (head : Bool), (s.devUp = true) ∧ ((∀ f, s.lanes[l].lastFire = some f → f + (if head then s.rd (.seq l) SEQ.GUARD_H else s.rd (.seq l) SEQ.GUARD_E_WE) * 3125 ≤ s.dclk))) :=
  ⟨⟨(Wfire (some fLine) [] .firing), 3, fLine, by decide +kernel⟩,
    ⟨(Wfire (some fLine) [] .firing), 3, fLine, by decide +kernel⟩,
    ⟨(Wfire none [pLine] .firing), 3, pLine, [], by decide +kernel⟩,
    ⟨(Wdue pDone none), 3, aDue, [], pDone, [], 90, 5, 10, 20, by decide +kernel⟩,
    ⟨(Wdue pDone (some 60)), 3, aDue, [], pDone, [], 90, 5, 10, 20, by decide +kernel⟩,
    ⟨(Wdue pLine none), 3, aDue, [], pLine, [], 90, by decide +kernel⟩,
    ⟨(Wdue { pLine with frame := some (5, 10, 91) } none), 3, aDue, [], { pLine with frame := some (5, 10, 91) }, [], 90, 5, 10, 91, by decide +kernel⟩,
    ⟨((upWith []).modLane 3 fun h => { h with st := .firing, noTemp := 9 }), 3, by decide +kernel⟩,
    ⟨((upWith (clu0 ++ [(.seq 3, SEQ.TEMP_VALID, 1)])).modLane 3 fun h => { h with st := .hold, page := some 7 }), .host, 3, 7, by decide +kernel⟩,
    ⟨((upWith (clu0 ++ [(.seq 3, SEQ.TEMP_VALID, 1)])).modLane 3 fun h => { h with st := .hold, page := some 7, prep := [pLine] }), .host, 3, 7, pLine, [], by decide +kernel⟩,
    ⟨(Wfire none [{ pLine with held := some (7, 5) }] .firing), 3, { pLine with held := some (7, 5) }, [], by decide +kernel⟩,
    ⟨(upWith clu0), .host, 3, by decide +kernel⟩,
    ⟨((upWith (clu0 ++ [(.seq 3, SEQ.STAT_HOLD_WHY, 1), (.seq 3, SEQ.TEMP_VALID, 0)])).modLane 3 fun h => { h with st := .hold, page := some 7 }), .host, 3, by decide +kernel⟩,
    ⟨((upWith []).modLane 3 fun h => { h with lastFire := none, energy := [3] }), 3, true, by decide +kernel⟩⟩

theorem wit_SpoilRing :
    (∃ (s : State) (l : Lane) (r : Run), (s.devUp = true) ∧ (s.lanes[l].run = some r) ∧ (s.spoil.opens = []) ∧ (s.spoil.overflow = none) ∧ (r.opened + 500 * s.rd .spl SPL.CTRL_FLUSH_US ≤ s.dclk)) ∧
    (∃ (s : State) (l : Lane) (r : Run), (s.lanes[l].run = some r) ∧ (s.dclk < r.opened + 500 * s.rd .spl SPL.CTRL_FLUSH_US)) ∧
    (∃ (s : State) (o : SpoilRec) (os : List SpoilRec), (s.devUp = true) ∧ (s.spoil.opens = o :: os) ∧ (s.spoil.overflow = none) ∧ (s.spoilFree ≠ 0) ∧ (o.opened + 64 ≤ s.dclk)) ∧
    (∃ (s : State) (o : SpoilRec) (os : List SpoilRec), (s.devUp = true) ∧ (s.spoil.opens = o :: os) ∧ (s.spoil.overflow = none) ∧ (s.spoilFree = 0) ∧ (o.opened + 64 ≤ s.dclk)) ∧
    (∃ (s : State) (req : Req) (v : Word), (s.open_ req .spl = true) ∧ (s.spoil.overflow = none) ∧ (v.toNat % 2 ^ 20 < 2 ^ s.rd .spl SPL.SIZE) ∧ ((v.toNat % 2 ^ 20 + 2 ^ s.rd .spl SPL.SIZE - s.rd .spl SPL.TAIL) % 2 ^ s.rd .spl SPL.SIZE ≤ (s.rd .spl SPL.HEAD + 2 ^ s.rd .spl SPL.SIZE - s.rd .spl SPL.TAIL) % 2 ^ s.rd .spl SPL.SIZE)) ∧
    (∃ (s : State) (req : Req) (v : Word), (s.open_ req .spl = true) ∧ (2 ^ s.rd .spl SPL.SIZE ≤ v.toNat % 2 ^ 20 ∨ (s.rd .spl SPL.HEAD + 2 ^ s.rd .spl SPL.SIZE - s.rd .spl SPL.TAIL) % 2 ^ s.rd .spl SPL.SIZE < (v.toNat % 2 ^ 20 + 2 ^ s.rd .spl SPL.SIZE - s.rd .spl SPL.TAIL) % 2 ^ s.rd .spl SPL.SIZE)) ∧
    (∃ (s : State) (r : SpoilRec) (seq : Nat) (rest : List (SpoilRec × Nat)), (s.devUp = true) ∧ (s.ddrState = ddrActive) ∧ (s.spoil.flying = (r, seq) :: rest) ∧ (bit r.flags 2 = false) ∧ (s.ddr.poison = []) ∧ (s.rd .spl SPL.SIZE ≤ 20) ∧ (s.rd .spl SPL.BASE + 48 * s.rd .spl SPL.HEAD + 48 ≤ s.spoolSize)) :=
  ⟨⟨{ ((upWith []).modLane 3 fun h => { h with run := some { page := 7, cause := 3, flags := 0, firstWl := 5, count := 1, copy := 0, plane := 0, time := 9, detail := 0 } }) with dclk := 10000000 }, 3, { page := 7, cause := 3, flags := 0, firstWl := 5, count := 1, copy := 0, plane := 0, time := 9, detail := 0 }, by decide +kernel⟩,
    ⟨(up.modLane 3 fun h => { h with run := some { page := 7, cause := 3, flags := 0, firstWl := 5, count := 1, copy := 0, plane := 0, time := 9, detail := 0 } }), 3, { page := 7, cause := 3, flags := 0, firstWl := 5, count := 1, copy := 0, plane := 0, time := 9, detail := 0 }, by decide +kernel⟩,
    ⟨{ upWith [(.spl, HDR.PG_CTRL_EN, 1)] with spoil := { opens := [aRec] }, dclk := 64 }, aRec, [], by decide +kernel⟩,
    ⟨{ (up.modLane 3 fun h => { h with st := .firing }) with spoil := { opens := [aRec] }, dclk := 64 }, aRec, [], by decide +kernel⟩,
    ⟨(upWith [(.spl, SPL.HEAD, 4)]), .host, 3, by decide +kernel⟩,
    ⟨(upWith [(.spl, SPL.HEAD, 4)]), .host, 5, by decide +kernel⟩,
    ⟨{ upWith [(.ddr, HDR.PG_STAT_STATE, 2), (.ddr, DDR.CFG_SIZE_GIB, 1), (.spl, SPL.BASE, 64), (.spl, SPL.HEAD, 1)] with spoil := { flying := [(aRec, 5)] } }, aRec, 5, [], by decide +kernel⟩⟩

theorem wit_LinkBringUp :
    (∃ (s : State) (l : Lane) (up : UpHead), (s.devUp = true) ∧ (s.ls l = lsWake) ∧ (s.lanes[l].trial = none) ∧ (s.quiet up = true) ∧ (s.cal.runs = [])) ∧
    (∃ (s : State) (l : Lane) (up : UpHead) (caps : BitVec 8) (n : BitVec 16), (s.devUp = true) ∧ (s.ls l = lsIdent) ∧ (s.quiet up = true) ∧ (s.cal.runs = []) ∧ (s.lanes[l].unacked.any (fun f => f.type == 0x10) = true) ∧ (n.toNat ≠ 0) ∧ (Chk.nozzles.ok n.toNat = true) ∧ (s.lanes[l].cfg.nExp = 0 ∨ s.lanes[l].cfg.nExp = n.toNat) ∧ (0 < min s.lanes[l].cfg.maxRate (caps.toNat % 4))) ∧
    (∃ (s : State) (l : Lane) (up : UpHead) (proto : BitVec 8) (n : BitVec 16), (s.devUp = true) ∧ (s.ls l = lsIdent) ∧ (s.quiet up = true) ∧ (s.cal.runs = []) ∧ (s.lanes[l].unacked.any (fun f => f.type == 0x10) = true) ∧ (n.toNat = 0 ∨ Chk.nozzles.ok n.toNat = false ∨ proto.toNat ≠ 1 ∨ (s.lanes[l].cfg.nExp ≠ 0 ∧ s.lanes[l].cfg.nExp ≠ n.toNat))) ∧
    (∃ (s : State) (l : Lane) (up : UpHead) (t0 : Trial) (rate preset : BitVec 8), (s.devUp = true) ∧ (s.ls l = lsStep) ∧ (s.quiet up = true) ∧ (s.lanes[l].trial = some t0) ∧ (t0.step = 3) ∧ (t0.fast = false) ∧ (t0.best = none) ∧ (t0.bad = false) ∧ (rate.toNat = t0.rate) ∧ (preset.toNat = t0.preset) ∧ (s.lanes[l].cfg.board = true) ∧ (t0.rate ≤ 3) ∧ (t0.rate < min s.lanes[l].cfg.maxRate (s.rd (.vnl l) VNL.IDENT0_MAX_RATE))) ∧
    (∃ (s : State) (l : Lane) (up : UpHead) (t0 : Trial) (rate preset good : BitVec 8), (s.devUp = true) ∧ (s.ls l = lsStep) ∧ (s.quiet up = true) ∧ (s.lanes[l].trial = some t0) ∧ (t0.step = 3) ∧ (t0.fast = false) ∧ (rate.toNat = t0.rate) ∧ (preset.toNat = t0.preset) ∧ (good.toNat ≠ 64 ∨ t0.bad = true)) ∧
    (∃ (s : State) (l : Lane) (up : UpHead) (f : CtrlFrame), (s.devUp = true) ∧ (s.ls l = lsLoad) ∧ (s.quiet up = true) ∧ (s.lanes[l].trial = none) ∧ (s.lanes[l].ctrl = []) ∧ (s.lanes[l].unacked = [f]) ∧ (f.type = 0x30) ∧ (f.cseq < 256) ∧ (s.lanes[l].st = .link) ∧ (s.intake.pages = [])) ∧
    (∃ (s : State) (l : Lane), (s.devUp = true) ∧ (s.ls l = lsWake) ∧ (s.lanes[l].lsAt + 10000000 ≤ s.dclk) ∧ (s.cal.runs = [])) ∧
    (∃ (s : State) (l : Lane), (s.devUp = true) ∧ (s.ls l ∈ [lsWake, lsIdent, lsStep, lsLoad, lsFast]) ∧ (17500000 + s.lanes[l].boundAt ≤ s.dclk) ∧ (s.cal.runs = [])) ∧
    (∃ (s : State) (l : Lane), (s.devUp = true) ∧ (s.ls l = lsWait) ∧ (s.laneEn l = true) ∧ (s.lanes[l].lsAt + 50000000 ≤ s.dclk)) ∧
    (∃ (s : State) (l : Lane), (s.devUp = true) ∧ (s.ls l = lsFast) ∧ (s.lanes[l].trial = none) ∧ ((s.lanes[l].ctrl ++ s.lanes[l].unacked).all (fun f => f.type != 0x10) = true) ∧ (s.lanes[l].lsAt + 500000 ≤ s.dclk)) ∧
    (∃ (s : State) (l : Lane) (t0 : Trial), (s.devUp = true) ∧ (s.lanes[l].trial = some t0) ∧ (t0.step = 1) ∧ (s.lanes[l].cfg.board = false) ∧ (1000 + t0.at_ ≤ s.dclk)) ∧
    (∃ (s : State) (l : Lane) (t0 : Trial), (s.devUp = true) ∧ (s.lanes[l].trial = some t0) ∧ (t0.step = 2 ∨ t0.step = 3) ∧ (t0.fast = false) ∧ (s.trialLate t0 = true)) ∧
    (∃ (s : State) (l : Lane), (s.hears l = true) ∧ (s.calRuns 4 l.val = false) ∧ (2000000 + s.lanes[l].eyeAt ≤ s.dclk)) ∧
    (∃ (s : State) (l : Lane), (s.dclk < s.lanes[l].lsAt + 500000)) ∧
    (∃ (s : State) (l : Lane), (s.dclk < 17500000 + s.lanes[l].boundAt)) :=
  ⟨⟨((upWith [(.vnl 3, VNL.STAT_LSTATE, 1)])), 3, qUp, by decide +kernel⟩,
    ⟨((upWith [(.vnl 3, VNL.STAT_LSTATE, 2)]).modLane 3 fun h => { h with unacked := [{ type := 0x10, payload := 0 }] }), 3, qUp, 2, 2048, by decide +kernel⟩,
    ⟨((upWith [(.vnl 3, VNL.STAT_LSTATE, 2)]).modLane 3 fun h => { h with unacked := [{ type := 0x10, payload := 0 }] }), 3, qUp, 2, 2048, by decide +kernel⟩,
    ⟨((upWith [(.vnl 3, VNL.STAT_LSTATE, 3), (.vnl 3, VNL.IDENT0_MAX_RATE, 3)]).modLane 3 fun h => { h with cfg := { board := true }, trial := some { rate := 1, preset := 0, step := 3 } }), 3, qUp, { rate := 1, preset := 0, step := 3 }, 1, 0, by decide +kernel⟩,
    ⟨((upWith [(.vnl 3, VNL.STAT_LSTATE, 3)]).modLane 3 fun h => { h with trial := some { rate := 1, preset := 0, step := 3 } }), 3, qUp, { rate := 1, preset := 0, step := 3 }, 1, 0, 63, by decide +kernel⟩,
    ⟨((upWith [(.vnl 3, VNL.STAT_LSTATE, 4)]).modLane 3 fun h => { h with st := .link, unacked := [{ type := 0x30, payload := 0, cseq := 6 }] }), 3, qUp, { type := 0x30, payload := 0, cseq := 6 }, by decide +kernel⟩,
    ⟨(late (upWith [(.vnl 3, VNL.STAT_LSTATE, 1)])), 3, by decide +kernel⟩,
    ⟨(late (upWith [(.vnl 3, VNL.STAT_LSTATE, 3)])), 3, by decide +kernel⟩,
    ⟨(late (upWith [(.vnl 3, VNL.STAT_LSTATE, 7), (.vnl 3, HDR.PG_CTRL_EN, 1)])), 3, by decide +kernel⟩,
    ⟨(late (upWith [(.vnl 3, VNL.STAT_LSTATE, 6)])), 3, by decide +kernel⟩,
    ⟨(late (up.modLane 3 fun h => { h with trial := some { rate := 1, preset := 2, step := 1 } })), 3, { rate := 1, preset := 2, step := 1 }, by decide +kernel⟩,
    ⟨(late (up.modLane 3 fun h => { h with trial := some { rate := 1, preset := 2, step := 2 } })), 3, { rate := 1, preset := 2, step := 2 }, by decide +kernel⟩,
    ⟨(late (upWith [(.vnl 3, VNL.STAT_LSTATE, 5)])), 3, by decide +kernel⟩,
    ⟨(upWith [(.vnl 3, VNL.STAT_LSTATE, 7), (.vnl 3, HDR.PG_CTRL_EN, 1)]), 3, by decide +kernel⟩,
    ⟨(upWith [(.vnl 3, VNL.STAT_LSTATE, 3)]), 3, by decide +kernel⟩⟩

theorem wit_LinkFrames :
    (∃ (s : State) (l : Lane) (f : CtrlFrame) (rest : List CtrlFrame), (s.devUp = true) ∧ (s.ls l ≠ lsDown) ∧ (s.ls l ≠ lsWait) ∧ (s.shadow = false) ∧ (s.lanes[l].ctrlEnd ≤ s.dclk) ∧ (s.lineReady l = false) ∧ (s.lanes[l].unacked.length < 8) ∧ (s.lanes[l].ctrl = f :: rest) ∧ (f.type ≠ 0x30)) ∧
    (∃ (s : State) (l : Lane) (f : CtrlFrame) (rest : List CtrlFrame), (s.devUp = true) ∧ (s.lanes[l].unacked = f :: rest) ∧ (f.sends < 3) ∧ (s.shadow = false) ∧ (5000 + f.ends ≤ s.dclk) ∧ (s.lanes[l].ctrlEnd ≤ s.dclk)) ∧
    (∃ (s : State) (l : Lane) (f : CtrlFrame) (rest : List CtrlFrame), (s.devUp = true) ∧ (s.lanes[l].unacked = f :: rest) ∧ (3 ≤ f.sends) ∧ (s.shadow = false) ∧ (5000 + f.ends ≤ s.dclk) ∧ (s.lanes[l].trial = none) ∧ (s.ls l = lsUp)) ∧
    (∃ (s : State) (l : Lane) (up : UpHead) (seq : BitVec 16), (s.hears l = true) ∧ (s.quiet up = true) ∧ (s.lanes[l].fires.any (fun f => f.seq == seq.toNat) = true)) ∧
    (∃ (s : State) (l : Lane) (up : UpHead) (seq : BitVec 16) (result : BitVec 8) (tag : LineTag) (at_ : Nat), (s.hears l = true) ∧ (s.quiet up = true) ∧ (1 ≤ result.toNat) ∧ (result.toNat ≤ 4) ∧ (s.shadow = false) ∧ (s.spoil.overflow = none) ∧ (s.lanes[l].fires.find? (fun f => f.seq == seq.toNat) = some { seq := seq.toNat, tag := some tag, at_ })) ∧
    (∃ (s : State) (l : Lane) (f : FireWait) (rest : List FireWait) (tag : LineTag), (s.devUp = true) ∧ (s.shadow = false) ∧ (s.lanes[l].fires = f :: rest) ∧ (f.tag = some tag) ∧ (f.at_ + 1 + lclkDclk (s.rd (.vnl l) VNL.STAT_RATE) 7 + 500 * s.lanes[l].cfg.ackUs ≤ s.dclk)) ∧
    (∃ (s : State) (l : Lane), (s.hears l = true)) ∧
    (∃ (levels : List Nat), (levels.length % 64 = 0)) ∧
    (∃ (payload : List Nat), (payload.length ≤ 44)) ∧
    (∃ (seq : Nat), (seq < 2 ^ 16)) :=
  ⟨⟨((upWith [(.vnl 3, VNL.STAT_LSTATE, 5)]).modLane 3 fun h => { h with ctrl := [{ type := 0x20, payload := 9 }] }), 3, { type := 0x20, payload := 9 }, [], by decide +kernel⟩,
    ⟨(late (up.modLane 3 fun h => { h with unacked := [{ type := 0x20, payload := 9, sends := 1 }] })), 3, { type := 0x20, payload := 9, sends := 1 }, [], by decide +kernel⟩,
    ⟨(late ((upWith [(.vnl 3, VNL.STAT_LSTATE, 5)]).modLane 3 fun h => { h with unacked := [{ type := 0x20, payload := 9, sends := 3 }] })), 3, { type := 0x20, payload := 9, sends := 3 }, [], by decide +kernel⟩,
    ⟨((upWith [(.vnl 3, VNL.STAT_LSTATE, 5)]).modLane 3 fun h => { h with crcRun := 3, fires := [{ seq := 4, tag := none }] }), 3, qUp, 4, by decide +kernel⟩,
    ⟨((upWith [(.vnl 3, VNL.STAT_LSTATE, 5)]).modLane 3 fun h => { h with crcRun := 3, fires := [{ seq := 4, tag := some aTag }] }), 3, qUp, 4, 2, aTag, 0, by decide +kernel⟩,
    ⟨(late (up.modLane 3 fun h => { h with fires := [{ seq := 4, tag := some aTag }] })), 3, { seq := 4, tag := some aTag }, [], aTag, by decide +kernel⟩,
    ⟨(upWith [(.vnl 3, VNL.STAT_LSTATE, 5)]), 3, by decide +kernel⟩,
    ⟨(List.replicate 64 5), by decide +kernel⟩,
    ⟨[1, 2, 3, 4], by decide +kernel⟩,
    ⟨0xFFFE, by decide +kernel⟩⟩

theorem wit_LinkLosses :
    (∃ (s : State) (l : Lane), (s.devUp = true) ∧ (s.ls l = lsUp) ∧ (s.awlFull l = false)) ∧
    (∃ (s : State) (l : Lane), (s.devUp = true) ∧ (s.ls l = lsUp) ∧ (s.awlFull l = false) ∧ (s.lanes[l].heardAt + 500 * s.lanes[l].cfg.statTmo ≤ s.dclk)) ∧
    (∃ (s : State) (l : Lane), (s.devUp = true) ∧ (s.ls l = lsUp) ∧ (s.awlFull l = false) ∧ (s.lanes[l].cfg.crcLimit ≤ s.lanes[l].crcRun)) ∧
    (∃ (s : State) (l : Lane), (s.devUp = true) ∧ (s.ls l = lsUp) ∧ (s.rd (.lne l) LNE.AWL_STAT_STATE = 1) ∧ (s.awlFull l = false) ∧ (s.scanLate l = true)) ∧
    (∃ (s : State) (req : Req) (l : Lane), (s.ready req (.vnl l) = true) ∧ (s.ls l = lsUp) ∧ (s.laneRun l = false)) ∧
    (∃ (s : State) (req : Req) (l : Lane), (s.ready req (.vnl l) = true) ∧ (s.laneRun l = true)) ∧
    (∃ (s : State) (req : Req) (l : Lane), (s.ready req (.seq l) = true) ∧ (s.lanes[l].st = .fault) ∧ (s.dllLock l = true) ∧ (s.hvGood l = true) ∧ (s.power.dev ≠ .fault) ∧ (s.linkUp l = true) ∧ (s.intake.pages = [])) ∧
    (∃ (s : State) (req : Req) (l : Lane), (s.ready req (.seq l) = true) ∧ (s.lanes[l].st ≠ .fault)) :=
  ⟨⟨((upWith [(.vnl 3, VNL.STAT_LSTATE, 5)]).modLane 3 fun h => { h with st := .idle }), 3, by decide +kernel⟩,
    ⟨(late ((upWith [(.vnl 3, VNL.STAT_LSTATE, 5)]).modLane 3 fun h => { h with st := .firing, page := some 7 })), 3, by decide +kernel⟩,
    ⟨((upWith [(.vnl 3, VNL.STAT_LSTATE, 5)]).modLane 3 fun h => { h with st := .hold, crcRun := 9 }), 3, by decide +kernel⟩,
    ⟨({ (upWith [(.vnl 3, VNL.STAT_LSTATE, 5), (.lne 3, LNE.AWL_STAT_STATE, 1), (.vnl 3, VNL.N_EXP, 1024)]).modLane 3 (fun h => { h with st := .cal, awl := { start := some 5 } }) with dclk := 100000000 }), 3, by decide +kernel⟩,
    ⟨((upWith ((.vnl 3, VNL.STAT_LSTATE, 5) :: clu0)).modLane 3 fun h => { h with st := .idle }), .host, 3, by decide +kernel⟩,
    ⟨((upWith ((.vnl 3, VNL.STAT_LSTATE, 5) :: clu0)).modLane 3 fun h => { h with st := .firing }), .host, 3, by decide +kernel⟩,
    ⟨((upWith ([(.vnl 3, VNL.STAT_LSTATE, 5), (.cpwr 0, CPWR.STAT_DLL_LOCK, 1), (.cpwr 0, CPWR.STAT_HVPG, 1), (.seq 3, HDR.PG_STAT_FAULT, 1)] ++ clu0)).modLane 3 fun h => { h with st := .fault }), .host, 3, by decide +kernel⟩,
    ⟨(upWith clu0), .host, 3, by decide +kernel⟩⟩

theorem wit_AwlScans :
    (∃ (s : State) (req : Req) (l : Lane), (s.ready req (.lne l) = true) ∧ (s.rd (.lne l) LNE.AWL_STAT_STATE ≠ 1) ∧ (s.awlMay l = true)) ∧
    (∃ (s : State) (req : Req) (l : Lane), (s.ready req (.lne l) = true) ∧ (s.rd (.lne l) LNE.AWL_STAT_STATE = 1 ∨ s.awlMay l = false)) ∧
    (∃ (s : State) (l : Lane), (s.devUp = true) ∧ (s.on (.lne l) LNE.AWL_POL_AUTO = true) ∧ (s.mapValid l = false ∨ s.rd (.lne l) LNE.AWL_POL_PERIOD_MIN ≤ s.awlAge l) ∧ (s.awlMay l = true) ∧ (s.rd (.lne l) LNE.AWL_STAT_STATE ≠ 1)) ∧
    (∃ (s : State) (req : Req) (l : Lane), (s.ready req (.lne l) = true) ∧ (s.rd (.lne l) LNE.AWL_STAT_STATE = 1) ∧ (s.awlFull l = false) ∧ (s.intake.pages = [])) ∧
    (∃ (s : State) (l : Lane) (up : UpHead) (codes : List (BitVec 12)), (s.hears l = true) ∧ (s.quiet up = true) ∧ (s.rd (.lne l) LNE.AWL_STAT_STATE = 1) ∧ (s.lanes[l].awl.codes.length < 65536) ∧ (1 ≤ codes.length) ∧ (codes.length ≤ 64)) ∧
    (∃ (s : State) (l : Lane), (s.devUp = true) ∧ (s.on (.lne l) LNE.AWL_POL_AUTO = true) ∧ (s.rd (.lne l) LNE.AWL_DEFER ≤ s.awlAge l) ∧ (s.rd (.lne l) LNE.AWL_STAT_STATE ≠ 1) ∧ (s.awlMay l = false)) ∧
    (∃ (s : State) (l : Lane), (s.devUp = true) ∧ (s.awlFull l = true) ∧ (s.awlReady l = true) ∧ (0 < s.laneN l) ∧ (s.laneN l ≤ 4096) ∧ (s.lanes[l].awl.codes.length = s.laneN l) ∧ (s.on (.lne l) LNE.AWL_POL_AUTO_COMMIT = false) ∧ (s.pend (.lne l) = false) ∧ (s.mapValid l = false) ∧ ((List.range (s.laneN l)).countP (fun j => s.codeOut l (s.lanes[l].awl.codes.getD j 0) || s.mapBit l winForce j) ≤ s.rd (.lne l) LNE.AWL_POL_NEW_DEAD_MAX) ∧ ((List.range (s.laneN l)).countP (fun j => s.codeOut l (s.lanes[l].awl.codes.getD j 0) || s.mapBit l winForce j) < s.laneN l)) ∧
    (∃ (s : State) (l : Lane), (s.devUp = true) ∧ (s.awlFull l = true) ∧ (s.awlReady l = true) ∧ (0 < s.laneN l) ∧ (s.lanes[l].awl.codes.length = s.laneN l) ∧ (s.mapValid l = false) ∧ (s.rd (.lne l) LNE.AWL_POL_NEW_DEAD_MAX < (List.range (s.laneN l)).countP (fun j => s.codeOut l (s.lanes[l].awl.codes.getD j 0) || s.mapBit l winForce j)) ∧ (s.laneN l ≤ 4096)) :=
  ⟨⟨((upWith ((.vnl 3, VNL.STAT_LSTATE, 5) :: clu0)).modLane 3 fun h => { h with st := .idle }), .host, 3, by decide +kernel⟩,
    ⟨(upWith ((.lne 3, LNE.AWL_STAT_STATE, 1) :: clu0)), .host, 3, by decide +kernel⟩,
    ⟨((upWith ((.vnl 3, VNL.STAT_LSTATE, 5) :: clu0)).modLane 3 fun h => { h with st := .idle }), 3, by decide +kernel⟩,
    ⟨((upWith ([(.vnl 3, VNL.STAT_LSTATE, 5), (.lne 3, LNE.AWL_STAT_STATE, 1), (.vnl 3, VNL.N_EXP, 1024)] ++ clu0)).modLane 3 fun h => { h with st := .cal, awl := { codes := [1, 2] } }), .host, 3, by decide +kernel⟩,
    ⟨((upWith ([(.vnl 3, VNL.STAT_LSTATE, 5), (.lne 3, LNE.AWL_STAT_STATE, 1), (.vnl 3, VNL.N_EXP, 1024)] ++ clu0)).modLane 3 fun h => { h with st := .cal, awl := { codes := [1, 2] } }), 3, qUp, [3, 4], by decide +kernel⟩,
    ⟨{ up with power := { up.power with uptime := 6000000 } }, 3, by decide +kernel⟩,
    ⟨{ ((upWith ([(.vnl 3, VNL.STAT_LSTATE, 5), (.lne 3, LNE.AWL_STAT_STATE, 1), (.lne 3, LNE.AWL_POL_AUTO_COMMIT, 0), (.vnl 3, VNL.N_EXP, 3)] ++ clu0)).modLane 3 fun h => { h with st := .cal, win := [(winForce, 2)], awl := { codes := [2000, 2001, 4000], full := some 1 } }) with dclk := 1000 }, 3, by decide +kernel⟩,
    ⟨{ ((upWith ([(.vnl 3, VNL.STAT_LSTATE, 5), (.lne 3, LNE.AWL_STAT_STATE, 1), (.lne 3, LNE.AWL_POL_NEW_DEAD_MAX, 1), (.vnl 3, VNL.N_EXP, 3)] ++ clu0)).modLane 3 fun h => { h with st := .cal, win := [(winForce, 2)], awl := { codes := [2000, 2001, 4000], full := some 1 } }) with dclk := 1000 }, 3, by decide +kernel⟩⟩

theorem wit_Calibration :
    (∃ (s : State) (item : CalItem) (inst : BitVec 6) (p : Page), (s.devUp = true) ∧ (item ≠ .dll) ∧ (calPage item.id inst.toNat = some p) ∧ (s.calDue item.id inst.toNat = true) ∧ (s.calMay item.id inst.toNat = true) ∧ (s.calBusy item.id inst.toNat = false)) ∧
    (∃ (s : State) (inst : BitVec 6) (c : Clu), (s.devUp = true) ∧ (c.val = inst.toNat) ∧ (s.calDue 6 inst.toNat = true) ∧ (s.calMay 6 inst.toNat = true) ∧ (s.calBusy 6 inst.toNat = false)) ∧
    (∃ (s : State) (req : Req) (item : BitVec 4) (inst : BitVec 6), (s.ready req .cal = true) ∧ (s.calAbsent item.toNat inst.toNat = true ∨ s.calBusy item.toNat inst.toNat = true ∨ s.calMay item.toNat inst.toNat = false)) ∧
    (∃ (s : State) (req : Req) (item : BitVec 4) (inst : BitVec 6) (p : Page), (s.ready req .cal = true) ∧ (calPage item.toNat inst.toNat = some p) ∧ (item.toNat ≠ 6) ∧ (s.calAbsent item.toNat inst.toNat = false) ∧ (s.calBusy item.toNat inst.toNat = false) ∧ (s.calMay item.toNat inst.toNat = true)) ∧
    (∃ (s : State) (req : Req) (inst : BitVec 6) (c : Clu), (s.ready req .cal = true) ∧ (c.val = inst.toNat) ∧ (s.calAbsent 6 inst.toNat = false) ∧ (s.calBusy 6 inst.toNat = false) ∧ (s.calMay 6 inst.toNat = true)) ∧
    (∃ (s : State) (item : CalItem) (inst : BitVec 6), (s.calDue item.id inst.toNat = false ∨ s.calMay item.id inst.toNat = false ∨ s.calBusy item.id inst.toNat = true)) ∧
    (∃ (s : State) (item : CalItem) (inst : BitVec 6), (s.calLate item.id inst.toNat = false)) ∧
    (∃ (s : State) (item : CalItem) (inst : BitVec 6) (p : Page), (s.devUp = true) ∧ (calPage item.id inst.toNat = some p) ∧ (s.calPowered item.id inst.toNat = true) ∧ (s.calLate item.id inst.toNat = true) ∧ (s.calDue item.id inst.toNat = true) ∧ (s.calRuns item.id inst.toNat = false)) ∧
    (∃ (s : State) (inst : BitVec 6) (l : Lane) (code : BitVec 16) (r : CalRun), (s.devUp = true) ∧ (l.val = inst.toNat) ∧ (s.cal.runs.find? (fun r => r.item == 2 && r.inst == inst.toNat && r.goal.isNone) = some r) ∧ (s.calRipe r = true) ∧ (calInRange 2 code.toNat = false ∨ s.rd .cal (CAL.polDelta 2) < calShift 2 (s.rd (.vnl l) (ITEM.VAL_VALUE 2)) code.toNat)) ∧
    (∃ (s : State) (inst : BitVec 6) (l : Lane) (code : BitVec 16) (r : CalRun), (s.devUp = true) ∧ (l.val = inst.toNat) ∧ (s.cal.runs.find? (fun r => r.item == 1 && r.inst == inst.toNat && r.goal.isNone) = some r) ∧ (s.calRipe r = true) ∧ (calInRange 1 code.toNat = true) ∧ (calShift 1 (s.rd (.seq l) (ITEM.VAL_VALUE 1)) code.toNat ≤ s.rd .cal (CAL.polDelta 1))) ∧
    (∃ (s : State) (inst : BitVec 6) (l : Lane) (code : BitVec 16) (r : CalRun), (s.devUp = true) ∧ (l.val = inst.toNat) ∧ (s.cal.runs.find? (fun r => r.item == 2 && r.inst == inst.toNat && r.goal.isNone) = some r) ∧ (s.calRipe r = true) ∧ (calInRange 2 code.toNat = true) ∧ (calShift 2 (s.rd (.vnl l) (ITEM.VAL_VALUE 2)) code.toNat ≤ s.rd .cal (CAL.polDelta 2)) ∧ (code.toNat ≠ s.rd (.vnl l) (ITEM.VAL_VALUE 2))) ∧
    (∃ (s : State) (item : CalItem) (inst : BitVec 6), ((∀ r, s.cal.runs.find? (fun r => r.item == item.id && r.inst == inst.toNat && r.goal.isNone) = some r → s.calRipe r = false))) ∧
    (∃ (s : State) (inst : BitVec 6) (l : Lane) (goal qual : Nat), (s.devUp = true) ∧ (l.val = inst.toNat) ∧ ((s.cal.runs.find? fun r => r.item == 2 && r.inst == inst.toNat && s.calMoves r).bind (fun r => r.goal) = some (goal, qual)) ∧ (s.rd (.vnl l) (ITEM.VAL_VALUE 2) + 1 < goal) ∧ (goal < 2 ^ 16)) ∧
    (∃ (s : State) (inst : BitVec 6) (l : Lane) (goal qual : Nat), (s.devUp = true) ∧ (l.val = inst.toNat) ∧ ((s.cal.runs.find? fun r => r.item == 2 && r.inst == inst.toNat && s.calMoves r).bind (fun r => r.goal) = some (goal, qual)) ∧ (goal + 1 = s.rd (.vnl l) (ITEM.VAL_VALUE 2)) ∧ (goal < 2 ^ 16)) :=
  ⟨⟨{ (upWith [(.cal, CAL.polEn 1, 1), (.sys, SYS.DEV_ID_CL_MASK, 255)]).modLane 3 fun h => { h with st := .idle } with dclk := 9 }, .hvSense, 3, (.seq 3), by decide +kernel⟩,
    ⟨(upWith ((.cpwr 0, CPWR.STAT_DLL_LOCK, 1) :: (.cal, CAL.polEn 6, 1) :: clu0)), 0, 0, by decide +kernel⟩,
    ⟨(upWith ((.cal, HDR.PG_CTRL_EN, 1) :: clu0)), .host, 1, 3, by decide +kernel⟩,
    ⟨((upWith ((.cal, HDR.PG_CTRL_EN, 1) :: clu0)).modLane 3 fun h => { h with st := .idle }), .host, 1, 3, (.seq 3), by decide +kernel⟩,
    ⟨(upWith ((.cal, HDR.PG_CTRL_EN, 1) :: clu0)), .host, 0, 0, by decide +kernel⟩,
    ⟨up, .hvSense, 3, by decide +kernel⟩,
    ⟨up, .hvSense, 3, by decide +kernel⟩,
    ⟨{ upWith ((.cal, CAL.polEn 1, 1) :: clu0) with cal := { waits := [(1, 3, 0)] }, power := { dev := .idle, uptime := 100000 } }, .hvSense, 3, (.seq 3), by decide +kernel⟩,
    ⟨{ up with cal := { runs := [{ item := 2, inst := 3 }] }, dclk := 6000 }, 3, 3, 60, { item := 2, inst := 3 }, by decide +kernel⟩,
    ⟨{ up with cal := { runs := [{ item := 1, inst := 3 }] }, dclk := 20000 }, 3, 3, 0x8000, { item := 1, inst := 3 }, by decide +kernel⟩,
    ⟨{ up with cal := { runs := [{ item := 2, inst := 3 }] }, dclk := 6000 }, 3, 3, 33, { item := 2, inst := 3 }, by decide +kernel⟩,
    ⟨{ up with cal := { runs := [{ item := 2, inst := 3 }] }, dclk := 5999 }, .txAmp, 3, by decide +kernel⟩,
    ⟨{ up with cal := { runs := [{ item := 2, inst := 3, goal := some (35, 2) }] }, dclk := 6001 }, 3, 3, 35, 2, by decide +kernel⟩,
    ⟨{ up with cal := { runs := [{ item := 2, inst := 3, goal := some (31, 2) }] }, dclk := 6001 }, 3, 3, 31, 2, by decide +kernel⟩⟩

theorem wit_PairLink :
    (∃ (s : State), (s.devUp = true) ∧ (s.pairUp = false)) ∧
    (∃ (s : State), (s.devUp = true) ∧ (s.pairUp = true)) ∧
    (∃ (s : State), (s.devUp = true) ∧ (s.pairUp = true) ∧ (s.pair.hbAt + 500 ≤ s.dclk)) ∧
    (∃ (s : State), (s.devUp = true) ∧ (s.pair.missAt + 500 ≤ s.dclk)) ∧
    (∃ (s : State), (s.dclk < s.pair.hbAt + 500)) ∧
    (∃ (s : State), (s.dclk < s.pair.missAt + 500)) ∧
    (∃ (s : State) (msg : List Byte), (s.devUp = true) ∧ (s.pairUp = true) ∧ (pairBody msg 64 = none)) ∧
    (∃ (s : State) (msg : List Byte) (b : List Nat), (s.devUp = true) ∧ (s.pairUp = true) ∧ (pairBody msg 64 = some b) ∧ (s.shadow = true) ∧ (s.rd .pair PAIR.CTRL_WANT = 2) ∧ (bodyAt b 2 1 = 1) ∧ (bodyAt b 6 2 = s.rd .sys SYS.DEV_ID_PART)) :=
  ⟨⟨up, by decide +kernel⟩,
    ⟨(upWith [(.pair, PAIR.STAT_LINK, 2)]), by decide +kernel⟩,
    ⟨{ upWith [(.pair, PAIR.STAT_LINK, 2)] with dclk := 500 }, by decide +kernel⟩,
    ⟨{ up with dclk := 500 }, by decide +kernel⟩,
    ⟨{ upWith [(.pair, PAIR.STAT_LINK, 2)] with dclk := 499 }, by decide +kernel⟩,
    ⟨{ up with dclk := 499 }, by decide +kernel⟩,
    ⟨(upWith [(.pair, PAIR.STAT_LINK, 2)]), [], by decide +kernel⟩,
    ⟨{ upWith [(.sys, SYS.DEV_ID_PART, 0), (.pair, PAIR.STAT_LINK, 2), (.pair, PAIR.CTRL_WANT, 2)] with pair := { role := .shadow } }, (msgOf hbBytes), hbBytes, by decide +kernel⟩⟩

theorem wit_PairMessages :
    (∃ (s : State) (req : Req), (s.ready req .pair = true) ∧ (s.pair.role = .lead) ∧ (s.pairUp = true) ∧ (s.on .pace PACE.STAT_STOPPED = true) ∧ (s.bothIdle = true)) ∧
    (∃ (s : State) (msg : List Byte) (b : List Nat), (s.devUp = true) ∧ (s.pairUp = true) ∧ (pairBody msg 20 = some b) ∧ (s.shadow = true) ∧ (s.on .pace PACE.STAT_STOPPED = true) ∧ (s.noPage = true)) ∧
    (∃ (s : State) (msg : List Byte) (b : List Nat), (s.devUp = true) ∧ (s.pairUp = true) ∧ (pairBody msg 20 = some b) ∧ (s.shadow = true) ∧ (s.on .pace PACE.STAT_STOPPED = false ∨ s.noPage = false)) ∧
    (∃ (s : State) (req : Req), (s.ready req .pair = true) ∧ (s.pair.role = .lead) ∧ (s.pairUp = true) ∧ (s.bothIdle = true) ∧ (s.rd .pair PAIR.STAT_P_ROLE = 2) ∧ (bit s.partnerFlags 0 = true)) ∧
    (∃ (s : State) (req : Req), (s.ready req .pair = true) ∧ (s.pair.role ≠ .lead ∨ s.pairUp = false ∨ s.bothIdle = false ∨ s.rd .pair PAIR.STAT_P_ROLE ≠ 2 ∨ bit s.partnerFlags 0 = false)) ∧
    (∃ (s : State) (req : Req), (s.ready req .pair = true) ∧ (s.on .pair PAIR.FW_TX_CTRL_BUSY = false) ∧ (s.rd .pair PAIR.FW_TX_CTRL_LEN ≠ 0) ∧ (s.pairUp = true)) ∧
    (∃ (s : State) (req : Req), (s.ready req .pair = true) ∧ (s.on .pair PAIR.FW_TX_CTRL_BUSY = true)) ∧
    (∃ (s : State) (msg : List Byte) (b : List Nat), (s.devUp = true) ∧ (s.pairUp = true) ∧ (8 ≤ msg.length) ∧ (msg.length ≤ 260) ∧ (msg.length % 4 = 0) ∧ (pairBody msg msg.length = some b) ∧ (s.on .pair PAIR.FW_RX_CTRL_FULL = false)) ∧
    (∃ (s : State) (msg : List Byte) (b : List Nat), (s.devUp = true) ∧ (s.pairUp = true) ∧ (8 ≤ msg.length) ∧ (msg.length ≤ 260) ∧ (msg.length % 4 = 0) ∧ (pairBody msg msg.length = some b) ∧ (s.on .pair PAIR.FW_RX_CTRL_FULL = true)) :=
  ⟨⟨{ upWith [(.pair, HDR.PG_CTRL_EN, 1), (.pair, PAIR.STAT_LINK, 2)] with pair := { role := .lead } }, .host, by decide +kernel⟩,
    ⟨{ upWith [(.pair, PAIR.STAT_LINK, 2)] with pair := { role := .shadow } }, (msgOf alBytes), alBytes, by decide +kernel⟩,
    ⟨{ upWith [(.pair, PAIR.STAT_LINK, 2), (.pace, PACE.STAT_STOPPED, 0)] with pair := { role := .shadow } }, (msgOf alBytes), alBytes, by decide +kernel⟩,
    ⟨{ upWith [(.pair, HDR.PG_CTRL_EN, 1), (.pair, PAIR.STAT_LINK, 2), (.pair, PAIR.STAT_P_ROLE, 2)] with pair := { role := .lead, heard := some (1, 0) } }, .host, by decide +kernel⟩,
    ⟨(upWith [(.pair, HDR.PG_CTRL_EN, 1)]), .host, by decide +kernel⟩,
    ⟨(upWith [(.pair, HDR.PG_CTRL_EN, 1), (.pair, PAIR.STAT_LINK, 2), (.pair, PAIR.FW_TX_CTRL_LEN, 8)]), .host, by decide +kernel⟩,
    ⟨(upWith [(.pair, HDR.PG_CTRL_EN, 1), (.pair, PAIR.FW_TX_CTRL_BUSY, 1)]), .host, by decide +kernel⟩,
    ⟨(upWith [(.pair, PAIR.STAT_LINK, 2)]), (msgOf alBytes), alBytes, by decide +kernel⟩,
    ⟨(upWith [(.pair, PAIR.STAT_LINK, 2), (.pair, PAIR.FW_RX_CTRL_FULL, 1)]), (msgOf alBytes), alBytes, by decide +kernel⟩⟩

theorem wit_PairRoles :
    (∃ (s : State), (s.rd .pair PAIR.HB_AGE < 1600)) ∧
    (∃ (s : State), (s.devUp = true) ∧ (1600 ≤ s.rd .pair PAIR.HB_AGE) ∧ (s.shadow = true) ∧ (s.power.dev ≠ .fault) ∧ (s.on .pair PAIR.CTRL_TAKE_EN = true)) ∧
    (∃ (s : State), (s.devUp = true) ∧ (s.shadow = true) ∧ (s.power.dev ≠ .fault) ∧ (s.on .pair PAIR.CTRL_TAKE_EN = true)) ∧
    (∃ (s : State), (s.devUp = true) ∧ (s.shadow = true) ∧ (s.power.dev = .fault)) ∧
    (∃ (s : State) (level : Bool), (s.devUp = true) ∧ (level = false ∨ s.shadow = false ∨ (s.power.dev ≠ .fault ∧ s.on .pair PAIR.CTRL_TAKE_EN = false))) ∧
    (∃ (s : State) (msg : List Byte) (b : List Nat), (s.devUp = true) ∧ (s.pairUp = true) ∧ (pairBody msg 8 = some b) ∧ (s.shadow = true) ∧ (s.power.dev ≠ .fault)) ∧
    (∃ (s : State), (s.devUp = true) ∧ (s.pair.role = .lead) ∧ (s.power.dev ≠ .fault)) ∧
    (∃ (s : State) (level : Bool), (s.devUp = true) ∧ (level = false ∨ s.pair.role ≠ .lead ∨ s.power.dev = .fault)) :=
  ⟨⟨(upWith [(.pair, PAIR.HB_AGE, 1599)]), by decide +kernel⟩,
    ⟨{ upWith [(.pair, PAIR.EPOCH_P_EPOCH, 9), (.pair, PAIR.HB_AGE, 1600)] with pair := { role := .shadow, fClear := 8 } }, by decide +kernel⟩,
    ⟨{ upWith [(.pair, PAIR.EPOCH_P_EPOCH, 9)] with pair := { role := .shadow, fClear := 8 } }, by decide +kernel⟩,
    ⟨{ up with pair := { role := .shadow }, power := { dev := .fault } }, by decide +kernel⟩,
    ⟨up, true, by decide +kernel⟩,
    ⟨{ upWith [(.pair, PAIR.STAT_LINK, 2), (.pair, PAIR.EPOCH_P_EPOCH, 65535)] with pair := { role := .shadow, fClear := 8 } }, (msgOf [1, 0, 0, 0]), [1, 0, 0, 0], by decide +kernel⟩,
    ⟨{ up with pair := { role := .lead } }, by decide +kernel⟩,
    ⟨up, true, by decide +kernel⟩⟩

theorem wit_Presets :
    (∃ (s : State) (entry : BitVec 512), (s.admitted 0x12 entry = true) ∧ (entryField entry 1 3 = 0) ∧ (entryField entry 5 3 = 0) ∧ (entryField entry 0xC 4 = 0) ∧ (entryField entry 0x18 40 = 0) ∧ (1 ≤ entryField entry 8 4) ∧ (entryField entry 8 4 ≤ 16384) ∧ (s.presetValid (entryField entry 4 1) = false) ∧ (s.rd .cdc CDC.PRESET_BASE ≠ 0) ∧ ((∀ e ∈ s.codec.loads, e.1 ≠ entryField entry 4 1))) ∧
    (∃ (s : State) (entry : BitVec 512), (s.admitted 0x12 entry = true) ∧ (entryField entry 1 3 = 0) ∧ (entryField entry 5 3 = 0) ∧ (entryField entry 0xC 4 = 0) ∧ (entryField entry 0x18 40 = 0) ∧ (entryField entry 8 4 = 0 ∨ 16384 < entryField entry 8 4 ∨ s.presetValid (entryField entry 4 1) = true ∨ s.rd .cdc CDC.PRESET_BASE = 0)) ∧
    (∃ (s : State) (id : BitVec 8) (data : List Byte), (s.devUp = true) ∧ (s.codec.loads.contains (id.toNat, data.length) = true) ∧ (data.length ≤ 16384) ∧ (s.dmaSent (.dma (.preset id)) = true) ∧ (s.ddrState = ddrActive) ∧ (s.ddr.poison = []) ∧ (s.presetAt id.toNat + data.length ≤ s.spoolSize) ∧ (s.presetLenAt id.toNat + 4 ≤ s.spoolSize)) ∧
    (∃ (s : State) (id : BitVec 8) (data : List Byte), (s.devUp = true) ∧ (s.codec.loads.contains (id.toNat, data.length) = true) ∧ (s.dmaSent (.dma (.preset id)) = true) ∧ (s.portsHold = true)) ∧
    (∃ (s : State) (entry : BitVec 512), (s.admitted 0x13 entry = true) ∧ (entryField entry 1 3 = 0) ∧ (entryField entry 5 59 = 0)) ∧
    (∃ (s : State) (id : BitVec 8), (s.devUp = true) ∧ (s.codec.drops.contains id.toNat = true) ∧ (s.presetRead id.toNat = false)) ∧
    (∃ (s : State) (id : BitVec 8), (s.presetRead id.toNat = true)) :=
  ⟨⟨(admUp []), (anEntry [(0, 0x12), (4, 40), (8, 100), (0x10, 0x8000)]), by decide +kernel⟩,
    ⟨(admUp []), (anEntry [(0, 0x12), (4, 40), (8, 16385), (0x10, 0x8000)]), by decide +kernel⟩,
    ⟨{ admUp [(.ddr, DDR.CFG_SIZE_GIB, 1), (.ddr, HDR.PG_STAT_STATE, 2)] with codec := { loads := [(40, 3)] } }, 40, [1, 2, 3], by decide +kernel⟩,
    ⟨{ admUp [(.ddr, HDR.PG_STAT_STATE, 4)] with codec := { loads := [(40, 3)] } }, 40, [1, 2, 3], by decide +kernel⟩,
    ⟨(admUp [(.cdc, CDC.PRESET_VALID, 2)]), (anEntry [(0, 0x13), (4, 1)]), by decide +kernel⟩,
    ⟨{ admUp [] with codec := { drops := [3, 4, 3] } }, 3, by decide +kernel⟩,
    ⟨{ admUp [] with codec := { drops := [4], decoders := (Vector.replicate 16 none).set 1 (some { key := ⟨7, 0, 0, 0⟩, copy := 0, preset := some 4, missing := false }) } }, 4, by decide +kernel⟩⟩

theorem wit_CompressJobs :
    (∃ (s : State) (entry : BitVec 512) (k : Nat), (s.admitted 0x14 entry = true) ∧ (entryField entry 1 15 = 0) ∧ (s.freeSlot 0 12 = some k) ∧ (s.codecOn = true) ∧ (jobBad (entryField entry 0x10 48) true 0 carveEnd = false)) ∧
    (∃ (s : State) (entry : BitVec 512), (s.admitted 0x14 entry = true) ∧ (entryField entry 1 15 = 0) ∧ (s.freeSlot 0 12 = none)) ∧
    (∃ (s : State) (req : Req) (k d : Nat), (s.open_ req .cdc = true) ∧ (s.freeSlot 12 16 = some k) ∧ (s.codecOn = true) ∧ (d = (List.range 12).foldl (fun a i => a + s.rd .cdc CDC.FJOB_DESC i * 2 ^ (32 * i)) 0) ∧ (jobBad d false 0 carveEnd = false)) ∧
    (∃ (s : State) (req : Req), (s.open_ req .cdc = true) ∧ (s.freeSlot 12 16 = none)) ∧
    (∃ (s : State) (req : Req) (k : Nat), (s.open_ req .cdc = true) ∧ (s.freeSlot 12 16 = some k) ∧ (s.codecOn = false)) ∧
    (∃ (s : State) (k : Fin 16) (e : Fin 12) (input : List Byte) (chain : List (BitVec 128)) (enc : Encoding) (laid : List (Nat × List Nat)), (s.devUp = true) ∧ (s.slotState k.val = jsRunning) ∧ (s.jobEncoder k.val = some e) ∧ (hostJob (s.job k.val).desc = true) ∧ (s.rd .cdc CDC.JS_CHAIN k.val ≤ chain.length) ∧ ((s.jobTakes k.val input).length = jobRaw (s.job k.val).desc) ∧ (enc = s.jobEncoding e k.val (s.jobTakes k.val input)) ∧ (s.jobLay k.val chain enc.out = (laid, .short))) ∧
    (∃ (s : State) (k : Fin 16), (s.slotState k.val ≠ jsRunning)) ∧
    (∃ (s : State) (req : Req) (k : Fin 16) (n : BitVec 13), (s.open_ req .cdc = true) ∧ (s.slotState k.val = jsQueued ∨ s.slotState k.val = jsRunning ∨ s.slotState k.val = jsParked) ∧ (s.rd .cdc CDC.JS_CHAIN k.val ≤ n.toNat) ∧ (n.toNat ≤ 4096)) ∧
    (∃ (s : State) (req : Req) (k : Fin 16) (n : BitVec 13), (s.open_ req .cdc = true) ∧ (s.slotState k.val = jsQueued ∨ s.slotState k.val = jsRunning ∨ s.slotState k.val = jsParked) ∧ (n.toNat < s.rd .cdc CDC.JS_CHAIN k.val ∨ 4096 < n.toNat)) ∧
    (∃ (s : State) (req : Req) (k : Fin 16), (s.open_ req .cdc = true) ∧ (s.slotState k.val = jsFree ∨ s.slotState k.val = jsDone)) ∧
    (∃ (s : State) (k : Fin 16), (s.devUp = true) ∧ (s.slotState k.val = jsParked) ∧ ((s.job k.val).parkAt + 500000 * s.rd .cdc CDC.CTRL_PARK_TMO ≤ s.dclk)) ∧
    (∃ (s : State) (k : Fin 16), (s.dclk < (s.job k.val).parkAt + 500000 * s.rd .cdc CDC.CTRL_PARK_TMO)) ∧
    (∃ (s : State) (req : Req) (k : Fin 16), (s.open_ req .cdc = true) ∧ (s.slotState k.val = jsQueued ∨ s.slotState k.val = jsRunning ∨ s.slotState k.val = jsParked)) ∧
    (∃ (s : State) (req : Req) (k : Fin 16), (s.open_ req .cdc = true) ∧ (s.slotState k.val = jsFree ∨ s.slotState k.val = jsDone)) ∧
    (∃ (s : State) (req : Req) (k : Fin 16), (s.open_ req .cdc = true) ∧ (12 ≤ k.val) ∧ (s.slotState k.val = jsDone)) ∧
    (∃ (s : State) (req : Req) (k : Fin 16), (s.open_ req .cdc = true) ∧ (k.val < 12 ∨ s.slotState k.val ≠ jsDone)) :=
  ⟨⟨(admUp []), (anEntry [(0, 0x14), (0x10, aJobDesc)]), 0, by decide +kernel⟩,
    ⟨((List.range 12).foldl (fun t k => t.wr .cdc CDC.JS_STAT_STATE 1 k) (admUp [])), (anEntry [(0, 0x14), (0x10, aJobDesc)]), by decide +kernel⟩,
    ⟨((List.range 12).foldl (fun t i => t.wr .cdc CDC.FJOB_DESC (aJobDesc / 2 ^ (32 * i) % 2 ^ 32) i) (upWith [(.cdc, HDR.PG_CTRL_EN, 1)])), (.app 1), 12, aJobDesc, by decide +kernel⟩,
    ⟨((List.range 16).foldl (fun t k => t.wr .cdc CDC.JS_STAT_STATE 1 k) up), (.app 1), by decide +kernel⟩,
    ⟨((jobIn 12 1).wr .cdc HDR.PG_CTRL_EN 0), (.app 1), 13, by decide +kernel⟩,
    ⟨(jobAt 3 1 aShort), 3, 2, [4, 5, 6], [chainEntry 0x700 18], ((jobAt 3 1 aShort).jobEncoding 2 3 [4, 5, 6]), [(0x700, ((jobAt 3 1 aShort).jobEncoding 2 3 [4, 5, 6]).stream.take 18)], by decide +kernel⟩,
    ⟨(jobIn 3 3), 3, by decide +kernel⟩,
    ⟨(jobIn 3 3), .host, 3, 4096, by decide +kernel⟩,
    ⟨(jobIn 3 3), .host, 3, 4097, by decide +kernel⟩,
    ⟨(jobIn 13 4), .host, 13, by decide +kernel⟩,
    ⟨{ jobIn 3 3 with dclk := 600000000 }, 3, by decide +kernel⟩,
    ⟨(jobIn 3 3), 3, by decide +kernel⟩,
    ⟨(jobOn 12), .host, 12, by decide +kernel⟩,
    ⟨(jobIn 13 4), .host, 13, by decide +kernel⟩,
    ⟨(jobIn 13 4), .host, 13, by decide +kernel⟩,
    ⟨(jobIn 13 4), .host, 11, by decide +kernel⟩⟩

theorem wit_Encoders :
    (∃ (s : State) (e : Fin 12) (u : Tile) (p : Option Nat), (s.devUp = true) ∧ (s.codecOn = true) ∧ (s.codec.encoders[e] = .free) ∧ (s.tileForEncoder = some u) ∧ (s.encIntake < s.rd .int INT.CTRL_ENC_MAX) ∧ (p = (if u.desc.presetEn then some u.desc.preset else none)) ∧ (p.all s.presetReads = true)) ∧
    (∃ (s : State) (e : Fin 12) (k : Nat) (p : Option Nat), (s.devUp = true) ∧ (s.codecOn = true) ∧ (s.codec.encoders[e] = .free) ∧ (s.tileForEncoder = none ∨ s.rd .int INT.CTRL_ENC_MAX ≤ s.encIntake) ∧ (s.encJobs 12 16 < s.rd .cdc CDC.CTRL_FW_ENC_MAX) ∧ (s.oldestJob 12 16 = some k) ∧ (p = jobPreset (s.slotDesc k)) ∧ (p.all s.presetReads = true)) ∧
    (∃ (s : State) (e : Fin 12) (k : Nat) (p : Option Nat), (s.devUp = true) ∧ (s.codecOn = true) ∧ (s.codec.encoders[e] = .free) ∧ (s.tileForEncoder = none ∨ s.rd .int INT.CTRL_ENC_MAX ≤ s.encIntake) ∧ (s.oldestJob 12 16 = none ∨ s.rd .cdc CDC.CTRL_FW_ENC_MAX ≤ s.encJobs 12 16) ∧ (s.encJobs 0 12 < s.rd .cdc CDC.CTRL_HOST_ENC_MAX) ∧ (s.oldestJob 0 12 = some k) ∧ (p = jobPreset (s.slotDesc k)) ∧ (p.all s.presetReads = true)) ∧
    (∃ (s : State) (e : Fin 12) (k id : Nat), (s.devUp = true) ∧ (s.codecOn = true) ∧ (s.codec.encoders[e] = .free) ∧ (s.tileForEncoder = none) ∧ (s.oldestJob 12 16 = none) ∧ (s.encJobs 0 12 < s.rd .cdc CDC.CTRL_HOST_ENC_MAX) ∧ (s.oldestJob 0 12 = some k) ∧ (jobPreset (s.slotDesc k) = some id) ∧ (s.presetValid id = false)) ∧
    (∃ (s : State) (e : Fin 12) (u : Tile), (s.devUp = true) ∧ (s.codecOn = true) ∧ (s.codec.encoders[e] = .free) ∧ (s.tileForEncoder = some u) ∧ (s.encIntake < s.rd .int INT.CTRL_ENC_MAX) ∧ (u.desc.presetEn = true) ∧ (s.presetValid u.desc.preset = false)) ∧
    (∃ (s : State) (e : Fin 12) (k : TileKey) (p : Option Nat) (u : Tile) (input : List Byte), (s.devUp = true) ∧ (s.codec.encoders[e] = .intake k p) ∧ (s.tileInFlight k = some u) ∧ (input.length = u.desc.rawLen) ∧ (s.dmaSent (.dma (.tile k)) = true) ∧ ((s.tileEncoding e u (input.map fun b => b.toNat)).noGain = false)) ∧
    (∃ (s : State) (e : Fin 12) (k : TileKey) (p : Option Nat) (u : Tile) (input : List Byte), (s.devUp = true) ∧ (s.codec.encoders[e] = .intake k p) ∧ (s.tileInFlight k = some u) ∧ (input.length = u.desc.rawLen) ∧ (s.dmaSent (.dma (.tile k)) = true) ∧ (gainLimit u.desc.rawLen (s.rd .int INT.CTRL_GAIN_MAX) < (s.tileEncoding e u (input.map fun b => b.toNat)).stream.length)) ∧
    (∃ (s : State) (e : Fin 12) (k : TileKey) (p : Option Nat) (u : Tile), (s.devUp = true) ∧ (s.codec.encoders[e] = .intake k p) ∧ (s.tileInFlight k = some u)) ∧
    (∃ (s : State) (e : Fin 12) (k : Fin 16) (input : List Byte) (chain : List (BitVec 128)) (enc : Encoding) (laid : List (Nat × List Nat)), (s.jobFed e k = true) ∧ (hostJob (s.job k.val).desc = true) ∧ ((s.jobTakes k.val input).length = jobRaw (s.job k.val).desc) ∧ (enc = s.jobEncoding e k.val (s.jobTakes k.val input)) ∧ (s.jobLay k.val chain enc.out = (laid, .done)) ∧ (enc.noGain = false)) ∧
    (∃ (s : State) (e : Fin 12) (k : Fin 16) (input : List Byte) (chain : List (BitVec 128)) (enc : Encoding) (laid : List (Nat × List Nat)), (s.jobFed e k = true) ∧ (hostJob (s.job k.val).desc = true) ∧ ((s.jobTakes k.val input).length = jobRaw (s.job k.val).desc) ∧ (enc = s.jobEncoding e k.val (s.jobTakes k.val input)) ∧ (s.jobLay k.val chain enc.out = (laid, .done)) ∧ (jobGain (s.job k.val).desc ≠ 0) ∧ (gainLimit (jobRaw (s.job k.val).desc) (jobGain (s.job k.val).desc) < enc.stream.length)) ∧
    (∃ (s : State) (e : Fin 12) (k : Fin 16) (input : List Byte) (chain : List (BitVec 128)) (enc : Encoding) (laid : List (Nat × List Nat)), (s.jobFed e k = true) ∧ (hostJob (s.job k.val).desc = true) ∧ ((s.jobTakes k.val input).length = jobRaw (s.job k.val).desc) ∧ (enc = s.jobEncoding e k.val (s.jobTakes k.val input)) ∧ (s.jobLay k.val chain enc.out = (laid, .bad))) ∧
    (∃ (s : State) (e : Fin 12) (k : Fin 16), (s.jobFed e k = true) ∧ (hostJob (s.job k.val).desc = true)) ∧
    (∃ (s : State) (e : Fin 12) (k : Fin 16), (s.jobFed e k = true)) ∧
    (∃ (s : State) (e : Fin 12), (s.codec.encoders[e] = .free)) :=
  ⟨⟨{ jobIn 12 1 with intake := { tiles := [encT] } }, 0, encT, none, by decide +kernel⟩,
    ⟨((jobIn 12 1).wr .cdc HDR.PG_STAT_OVERDUE 1), 2, 12, none, by decide +kernel⟩,
    ⟨(jobIn 3 1), 2, 3, none, by decide +kernel⟩,
    ⟨{ jobIn 3 1 with codec := { jobs := (Vector.replicate 16 none).setIfInBounds 3 (some { desc := aJobDesc + 2 ^ 112 + 5 * 2 ^ 104, ord := 0 }) } }, 2, 3, 5, by decide +kernel⟩,
    ⟨{ upWith [(.cdc, HDR.PG_CTRL_EN, 1)] with intake := { tiles := [encPT] } }, 0, encPT, by decide +kernel⟩,
    ⟨encRun, 2, ⟨7, 0, 0, 0⟩, none, encRT, (List.replicate 32 7), by decide, by decide +kernel, by decide +kernel, by decide +kernel, by decide +kernel, test_encode_gain⟩,
    ⟨(encShort 1), 2, ⟨7, 0, 0, 0⟩, none, encST, [1, 2], by decide +kernel⟩,
    ⟨(encShort 1), 2, ⟨7, 0, 0, 0⟩, none, encST, by decide +kernel⟩,
    ⟨(jobAt 3 1 aShort), 2, 3, [4, 5, 6], [chainEntry 0x700 30], ((jobAt 3 1 aShort).jobEncoding 2 3 [4, 5, 6]), [(0x700, ((jobAt 3 1 aShort).jobEncoding 2 3 [4, 5, 6]).stream)], by decide +kernel⟩,
    ⟨(jobAt 13 1 (aShort + 128 * 2 ^ 120)), 2, 13, [4, 5, 6], [chainEntry 0x700 30], ((jobAt 13 1 (aShort + 128 * 2 ^ 120)).jobEncoding 2 13 [4, 5, 6]), [], by decide +kernel⟩,
    ⟨(jobAt 3 2 aShort), 2, 3, [4, 5, 6], [chainEntry 0x700 20, chainEntry 0x900 0], ((jobAt 3 2 aShort).jobEncoding 2 3 [4, 5, 6]), [(0x700, ((jobAt 3 1 aShort).jobEncoding 2 3 [4, 5, 6]).stream.take 20)], by decide +kernel⟩,
    ⟨(jobAt 11 1 aShort), 2, 11, by decide +kernel⟩,
    ⟨(jobAt 3 1 aShort), 2, 3, by decide +kernel⟩,
    ⟨up, 2, by decide +kernel⟩⟩

theorem wit_Decodes :
    (∃ (s : State) (u : Tile), (s.devUp = true) ∧ (s.rd .lst LST.TAGS_USED < 512) ∧ (leastBy (fun v => s.tileOrder v.key ((s.wantedFor v).getD 0)) (s.intake.tiles.filter fun v => v.phase == .landed && v.accepted && v.tag.isNone && (s.wantedFor v).isSome) = some u)) ∧
    (∃ (s : State), (512 ≤ s.rd .lst LST.TAGS_USED)) ∧
    (∃ (s : State) (d : Fin 16) (u : Tile) (copy : Nat), (s.devUp = true) ∧ (s.codecOn = true) ∧ (s.codec.decoders[d] = none) ∧ (s.decodeNext d = some (u, copy)) ∧ (s.portsHold = false) ∧ (s.presetOf u = none)) ∧
    (∃ (s : State) (d : Fin 16) (u : Tile) (copy id : Nat), (s.devUp = true) ∧ (s.codecOn = true) ∧ (s.codec.decoders[d] = none) ∧ (s.decodeNext d = some (u, copy)) ∧ (s.portsHold = false) ∧ (s.presetOf u = some id) ∧ (s.presetValid id = true) ∧ (s.presetBad id = [])) ∧
    (∃ (s : State) (d : Fin 16) (u : Tile) (copy id : Nat), (s.devUp = true) ∧ (s.codecOn = true) ∧ (s.codec.decoders[d] = none) ∧ (s.decodeNext d = some (u, copy)) ∧ (s.portsHold = false) ∧ (s.presetOf u = some id) ∧ (s.presetValid id = false)) ∧
    (∃ (s : State) (d : Fin 16) (j : DecJob) (u : Tile) (p : PageSt) (l : List Nat), (s.devUp = true) ∧ (s.codec.decoders[d] = some j) ∧ (s.tileAt j.key = some u) ∧ (s.pageById j.key.page = some p) ∧ (s.portsHold = false) ∧ (j.left = 0) ∧ (j.waits = false) ∧ ((s.decodeOf u j none).toOption = some l) ∧ (s.regionFree j.key.plane ⟨p.ord, j.copy, j.key.band⟩ = true) ∧ (s.deadlinePast j.key.plane ⟨p.ord, j.copy, j.key.band⟩ = false) ∧ (j.copy + 1 ≠ p.desc.copies)) ∧
    (∃ (s : State) (d : Fin 16) (j : DecJob) (u : Tile) (p : PageSt) (l : List Nat), (s.devUp = true) ∧ (s.codec.decoders[d] = some j) ∧ (s.tileAt j.key = some u) ∧ (s.pageById j.key.page = some p) ∧ (s.portsHold = false) ∧ (j.left = 0) ∧ (j.waits = false) ∧ ((s.decodeOf u j none).toOption = some l) ∧ (s.regionFree j.key.plane ⟨p.ord, j.copy, j.key.band⟩ = true) ∧ (s.deadlinePast j.key.plane ⟨p.ord, j.copy, j.key.band⟩ = false) ∧ (j.copy + 1 = p.desc.copies)) ∧
    (∃ (s : State) (d : Fin 16) (j : DecJob) (u : Tile) (p : PageSt) (l : List Nat), (s.devUp = true) ∧ (s.codec.decoders[d] = some j) ∧ (s.tileAt j.key = some u) ∧ (s.pageById j.key.page = some p) ∧ (s.portsHold = false) ∧ (j.left = 0) ∧ (j.waits = false) ∧ ((s.decodeOf u j none).toOption = some l) ∧ (s.deadlinePast j.key.plane ⟨p.ord, j.copy, j.key.band⟩ = true) ∧ (j.copy + 1 ≠ p.desc.copies)) ∧
    (∃ (s : State) (d : Fin 16) (j : DecJob) (u : Tile) (n : Nat), (s.codec.decoders[d] = some j) ∧ (s.tileAt j.key = some u) ∧ (u.stored = .stream n) ∧ (s.ddr.poison = []) ∧ (j.missing = true)) ∧
    (∃ (s : State) (d : Fin 16) (j : DecJob) (u : Tile) (e : DecodeError), (s.devUp = true) ∧ (s.portsHold = false) ∧ (s.codec.decoders[d] = some j) ∧ (s.tileAt j.key = some u) ∧ (decodeError (s.decodeOf u j none) = some e) ∧ (e.ue = none) ∧ (u.rereqs < s.rd .int INT.CTRL_REREQ_MAX)) ∧
    (∃ (s : State) (d : Fin 16) (j : DecJob) (u : Tile) (e : DecodeError), (s.devUp = true) ∧ (s.portsHold = false) ∧ (s.codec.decoders[d] = some j) ∧ (s.tileAt j.key = some u) ∧ (decodeError (s.decodeOf u j none) = some e) ∧ (e.ue = none) ∧ (s.rd .int INT.CTRL_REREQ_MAX ≤ u.rereqs)) ∧
    (∃ (s : State) (d : Fin 16) (j : DecJob) (u : Tile) (x : DecodeUe) (e : DecodeError) (w : SramUe), (s.devUp = true) ∧ (s.portsHold = false) ∧ (s.codec.decoders[d] = some j) ∧ (s.tileAt j.key = some u) ∧ (x.at_ = .sram w) ∧ (decodeError (s.decodeOf u j (some x.off.toNat)) = some e) ∧ (e.ue = some (some x.off.toNat)) ∧ (u.rereqs < s.rd .int INT.CTRL_REREQ_MAX)) :=
  ⟨⟨(lastUp 1 none none), (rawT none), by decide +kernel⟩,
    ⟨(upWith [(.lst, LST.TAGS_USED, 512)]), by decide +kernel⟩,
    ⟨(lastUp 2 (some 1) none), 0, (rawT (some 1)), 1, by decide +kernel⟩,
    ⟨(scwUp (some 0) none true), 0, scwT, 0, 9, by decide +kernel⟩,
    ⟨(scwUp (some 0) none false), 0, scwT, 0, 9, by decide +kernel⟩,
    ⟨(lastUp 2 (some 0) (some aDec)), 2, aDec, (rawT (some 0)), { aPage with desc := { aDesc with copies := 2 } }, [], by decide +kernel⟩,
    ⟨(lastUp 1 (some 0) (some aDec)), 2, aDec, (rawT (some 0)), { aPage with desc := { aDesc with copies := 1 } }, [], by decide +kernel⟩,
    ⟨{ lastUp 2 (some 0) (some aDec) with intake := { (lastUp 2 (some 0) (some aDec)).intake with planes := Vector.replicate 8 { cur := some ⟨0, 0, 0⟩, late := [0], opened := some 0, dead := 10 } } }, 2, aDec, (rawT (some 0)), { aPage with desc := { aDesc with copies := 2 } }, [], by decide +kernel⟩,
    ⟨(scwUp (some 0) (some { aDec with preset := some 9, missing := true }) false), 2, { aDec with preset := some 9, missing := true }, scwT, 20, by decide +kernel⟩,
    ⟨{ lastUp 1 (some 0) (some aDec) with intake := { pages := [aPage], tiles := [{ rawT (some 0) with crc := 1 }] } }, 2, aDec, { rawT (some 0) with crc := 1 }, ⟨0x23, 0, none⟩, by decide +kernel⟩,
    ⟨{ lastUp 1 (some 0) (some aDec) with intake := { pages := [aPage], tiles := [{ rawT (some 0) with crc := 1, rereqs := 2 }] } }, 2, aDec, { rawT (some 0) with crc := 1, rereqs := 2 }, ⟨0x23, 0, none⟩, by decide +kernel⟩,
    ⟨(scwUp (some 0) (some aDec) false), 2, aDec, scwT, { off := 7, at_ := .sram aUe }, ⟨0x23, 0, some (some 7)⟩, aUe, by decide +kernel⟩⟩

theorem wit_HostLink :
    (∃ (s : State), (s.devUp = true) ∧ (s.on .pci PCI.LINK_UP = false)) ∧
    (∃ (s : State), (s.devUp = true) ∧ (s.on .pci PCI.LINK_UP = true) ∧ ((∀ u ∈ s.intake.tiles, u.phase = .landed))) ∧
    (∃ (s : State), (s.devUp = true) ∧ (s.on .pci PCI.LINK_UP = true) ∧ ((∃ u ∈ s.intake.tiles, u.phase = .reading))) ∧
    (∃ (s : State), (s.devUp = true) ∧ (s.on .pci PCI.LINK_UP = true)) ∧
    (∃ (s : State), (s.intake.d3hot = true)) :=
  ⟨⟨up, by decide +kernel⟩,
    ⟨{ admUp [(.int, INT.RING_CTRL_EN, 1)] with intake := { tiles := [aTile] } }, by decide +kernel⟩,
    ⟨{ admUp [(.int, INT.RING_CTRL_EN, 1)] with intake := { tiles := [aTile, encT] } }, by decide +kernel⟩,
    ⟨(admUp []), by decide +kernel⟩,
    ⟨{ allocUp with intake := { allocUp.intake with d3hot := true } }, by decide +kernel⟩⟩

theorem wit_SpoolWindow :
    (∃ (s : State) (addr : BitVec 36) (len : BitVec 13), (s.devUp = true) ∧ (len ≠ 0) ∧ (s.ddrState = ddrActive) ∧ (s.intake.d3hot = false) ∧ (s.windowWaits = false) ∧ ((spanOf addr.toNat len.toNat).all (s.windowServes false) = true) ∧ ((burstsOf addr.toNat len.toNat).all (fun b => !s.ddr.poison.contains (b / 64)) = true)) ∧
    (∃ (s : State) (addr : BitVec 36) (len : BitVec 13) (x : Nat), (s.devUp = true) ∧ (s.ddrState = ddrActive) ∧ (s.intake.d3hot = false) ∧ (s.windowWaits = false) ∧ ((spanOf addr.toNat len.toNat).find? (fun y => !s.windowServes false y) = some x) ∧ ((burstsOf addr.toNat len.toNat).all (fun b => !s.ddr.poison.contains (b / 64)) = true) ∧ (s.on .fab FAB.CTRL_HOST_UR = false)) ∧
    (∃ (s : State) (addr : BitVec 36) (len : BitVec 13) (x : Nat), (s.devUp = true) ∧ (s.ddrState = ddrActive) ∧ (s.intake.d3hot = false) ∧ ((spanOf addr.toNat len.toNat).find? (fun y => !s.windowServes false y) = some x) ∧ (s.on .fab FAB.CTRL_HOST_UR = true)) ∧
    (∃ (s : State) (addr : BitVec 36) (len : BitVec 13) (b : Nat), (s.devUp = true) ∧ (s.ddrState = ddrActive) ∧ (s.intake.d3hot = false) ∧ (s.windowWaits = false) ∧ ((spanOf addr.toNat len.toNat).all (s.windowServes false) = true) ∧ (b ∈ burstsOf addr.toNat len.toNat) ∧ (s.ddr.poison.contains (b / 64) = true)) ∧
    (∃ (s : State) (addr : BitVec 36) (len : BitVec 13), (s.devUp = true) ∧ (len ≠ 0) ∧ (s.ddr.forSett = false) ∧ (s.ddrState = ddrSelf) ∧ (s.intake.d3hot = false) ∧ ((spanOf addr.toNat len.toNat).all (s.windowServes false) = true) ∧ (s.cal.runs = [])) ∧
    (∃ (s : State) (len : BitVec 13), (s.devUp = true) ∧ (len ≠ 0) ∧ (s.ddr.forSett = true) ∧ (s.ddrState ≠ ddrActive) ∧ (s.intake.d3hot = false)) ∧
    (∃ (s : State) (len : BitVec 13), (s.devUp = true) ∧ (len ≠ 0) ∧ (s.intake.d3hot = true)) ∧
    (∃ (s : State) (addr : BitVec 36) (data : List Byte), (s.devUp = true) ∧ (data ≠ []) ∧ (s.ddrState = ddrActive) ∧ (s.intake.d3hot = false) ∧ (s.windowWaits = false) ∧ ((spanOf addr.toNat data.length).all (s.windowServes true) = true) ∧ ((burstsOf addr.toNat data.length).all (fun b => !s.ddr.poison.contains (b / 64)) = true)) ∧
    (∃ (s : State) (addr : BitVec 36) (data : List Byte) (x : Nat), (s.devUp = true) ∧ (s.ddrState = ddrActive) ∧ (s.intake.d3hot = false) ∧ (s.windowWaits = false) ∧ ((spanOf addr.toNat data.length).find? (fun y => !s.windowServes true y) = some x) ∧ ((burstsOf addr.toNat data.length).all (fun b => !s.ddr.poison.contains (b / 64)) = true)) ∧
    (∃ (s : State) (addr : BitVec 36) (data : List Byte), (s.devUp = true) ∧ (data ≠ []) ∧ (s.ddrState = ddrActive) ∧ (s.intake.d3hot = false) ∧ (s.windowWaits = false) ∧ ((spanOf addr.toNat data.length).all (s.windowServes true) = true)) ∧
    (∃ (s : State) (addr : BitVec 36) (data : List Byte), (s.devUp = true) ∧ (data ≠ []) ∧ (s.ddr.forSett = false) ∧ (s.ddrState = ddrSelf) ∧ (s.intake.d3hot = false) ∧ ((spanOf addr.toNat data.length).all (s.windowServes true) = true) ∧ (s.cal.runs = [])) ∧
    (∃ (s : State), (s.intake.d3hot = true)) ∧
    (∃ (s : State) (data : List Byte), (s.devUp = true) ∧ (data ≠ []) ∧ (s.ddr.forSett = true) ∧ (s.ddrState ≠ ddrActive) ∧ (s.intake.d3hot = false)) :=
  ⟨⟨winUp, 0x4000001, 70, by decide +kernel⟩,
    ⟨winUp, 0x3FFFFFE, 4, 0x3FFFFFE, by decide +kernel⟩,
    ⟨(winUp.wr .fab FAB.CTRL_HOST_UR 1), 0x3FFFFFE, 4, 0x3FFFFFE, by decide +kernel⟩,
    ⟨{ winUp with ddr := { winUp.ddr with poison := [0x100000] } }, 0x4000001, 4, 0x4000000, by decide +kernel⟩,
    ⟨(winUp.wr .ddr HDR.PG_STAT_STATE 4), 0x4000001, 4, by decide +kernel⟩,
    ⟨{ winUp.wr .ddr HDR.PG_STAT_STATE 4 with ddr := { winUp.ddr with forSett := true } }, 4, by decide +kernel⟩,
    ⟨{ winUp with intake := { d3hot := true } }, 4, by decide +kernel⟩,
    ⟨{ winUp with ddr := { winUp.ddr with writeBack := [0x100000, 5] } }, 0x400003E, [1, 2, 0, 4, 5], by decide +kernel⟩,
    ⟨winUp, 0x3FFFFFE, [1, 2, 3, 4], 0x3FFFFFE, by decide +kernel⟩,
    ⟨winUp, 0x400003E, [1, 2, 0, 4, 5], by decide +kernel⟩,
    ⟨(winUp.wr .ddr HDR.PG_STAT_STATE 4), 0x4000001, [4], by decide +kernel⟩,
    ⟨{ winUp with intake := { d3hot := true } }, by decide +kernel⟩,
    ⟨{ winUp.wr .ddr HDR.PG_STAT_STATE 4 with ddr := { winUp.ddr with forSett := true } }, [1], by decide +kernel⟩⟩

theorem wit_RingRegisters :
    (∃ (s : State) (req : Req) (r : Fin 10) (v : BitVec 16), (s.open_ req .int = true) ∧ (v.toNat < 2 ^ s.ringSize r.val)) ∧
    (∃ (s : State) (req : Req) (r : Fin 10) (v : BitVec 16), (s.open_ req .int = true) ∧ (2 ^ s.ringSize r.val ≤ v.toNat)) ∧
    (∃ (s : State) (req : Req), (s.open_ req .int = true)) ∧
    (∃ (s : State) (req : Req) (r : Fin 10), (s.open_ req .int = true) ∧ (s.on .int INT.RING_CTRL_EN r.val = true)) ∧
    (∃ (s : State) (r : Fin 10), (s.devUp = true) ∧ (s.ringState r.val = 6) ∧ (s.ringBusy r.val = false)) ∧
    (∃ (s : State) (r : Fin 10), (s.ringBusy r.val = true)) ∧
    (∃ (s : State) (req : Req) (r : Fin 10), (s.open_ req .int = true) ∧ (s.ringState r.val = 0)) ∧
    (∃ (s : State) (req : Req) (r : Fin 10), (s.open_ req .int = true) ∧ (s.ringState r.val ≠ 0)) ∧
    (∃ (s : State) (req : Req) (mib : BitVec 16), (s.open_ req .int = true) ∧ (s.intake.pages = []) ∧ (64 ≤ mib.toNat) ∧ (s.rd .int INT.HEAP_SIZE = 0 ∨ mib.toNat + s.rd .int INT.HEAP_SIZE ≤ s.rd .ddr DDR.CFG_SIZE_GIB * 1024)) ∧
    (∃ (s : State) (req : Req) (mib : BitVec 16), (s.open_ req .int = true) ∧ (s.intake.pages = []) ∧ (64 ≤ s.rd .int INT.HEAP_BASE) ∧ (mib.toNat = 0 ∨ s.rd .int INT.HEAP_BASE + mib.toNat ≤ s.rd .ddr DDR.CFG_SIZE_GIB * 1024)) ∧
    (∃ (s : State) (req : Req) (isSize : Bool) (mib : BitVec 16), (s.open_ req .int = true) ∧ (s.intake.pages = []) ∧ ((isSize = false ∧ mib.toNat < 64) ∨ (isSize = true ∧ mib.toNat ≠ 0 ∧ s.rd .ddr DDR.CFG_SIZE_GIB * 1024 < s.rd .int INT.HEAP_BASE + mib.toNat))) ∧
    (∃ (s : State) (req : Req), (s.open_ req .int = true) ∧ (s.intake.pages ≠ [])) :=
  ⟨⟨up, .host, 9, 255, by decide +kernel⟩,
    ⟨up, .host, 9, 256, by decide +kernel⟩,
    ⟨up, .host, by decide +kernel⟩,
    ⟨(up.wr .int INT.RING_CTRL_EN 1 4), .host, 4, by decide +kernel⟩,
    ⟨(up.wr .int INT.RING_STAT 6 4), 4, by decide +kernel⟩,
    ⟨{ up with intake := { cq := [{ type := 1, src := 4, status := 0, page := 0, loc := 0, stored := 0, info := 0 }] } }, 4, by decide +kernel⟩,
    ⟨((up.wr .int INT.RING_HEAD 6 9).wr .int INT.RING_DB 7 9), .host, 9, by decide +kernel⟩,
    ⟨(up.wr .int INT.RING_STAT 1 4), .host, 4, by decide +kernel⟩,
    ⟨(upWith [(.int, INT.HEAP_SIZE, 10), (.ddr, DDR.CFG_SIZE_GIB, 16)]), .host, 16374, by decide +kernel⟩,
    ⟨(upWith [(.ddr, DDR.CFG_SIZE_GIB, 16)]), .host, 16320, by decide +kernel⟩,
    ⟨up, .host, false, 63, by decide +kernel⟩,
    ⟨{ up with intake := { pages := [aPage] } }, .host, by decide +kernel⟩⟩

theorem wit_TileEntries :
    (∃ (s : State) (r : Fin 9), (s.dmaOk = true) ∧ (s.fetchTurn = some r.val)) ∧
    (∃ (s : State) (r : Fin 9), (s.dmaOk = false ∨ s.fetchTurn ≠ some r.val)) ∧
    (∃ (s : State) (r : Fin 9), (s.canFetch 8 = true) ∧ (s.fetchTurn = some r.val)) ∧
    (∃ (s : State), (s.intake.reads = [])) ∧
    (∃ (s : State) (a : Nat), (s.dmaOk = true) ∧ (s.intake.reads = []) ∧ (s.rd .pci PCI.RD_OUT ≠ 0) ∧ (a % 64 = 0)) ∧
    (∃ (s : State) (r : Fin 8) (e : BitVec 512) (p : PageSt), (s.dmaOk = true) ∧ ((s.ring r.val).fetching = true) ∧ (s.dmaSent (.dma (.ring (r.castLE (by omega)))) = true) ∧ (s.cqBlocked r.val = false) ∧ ((s.ring r.val).checked = false) ∧ (tileBreak e = none) ∧ (s.pageById (readKey r.val e).page = some p) ∧ (tileFits p.desc (p.width.toList.getD r.val 0) (readKey r.val e) (readTile e) = true) ∧ ((readTile e).resubmit = false) ∧ (s.inOrder r.val p (readKey r.val e).band = true) ∧ (s.intake.tiles.all (fun u => u.key != readKey r.val e) = true) ∧ (tileGranules (readTile e) ≤ s.heapGranules) ∧ (s.rd .int INT.PQUOTA r.val = 0 ∨ tileGranules (readTile e) ≤ 256 * s.rd .int INT.PQUOTA r.val)) ∧
    (∃ (s : State) (r : Fin 8) (e : BitVec 512) (nn : Nat), (s.dmaOk = true) ∧ ((s.ring r.val).fetching = true) ∧ (s.dmaSent (.dma (.ring (r.castLE (by omega)))) = true) ∧ (s.cqBlocked r.val = false) ∧ ((s.ring r.val).checked = false) ∧ (tileBreak e = some nn)) ∧
    (∃ (s : State) (r : Fin 8) (e : BitVec 512), (s.dmaOk = true) ∧ ((s.ring r.val).fetching = true) ∧ (s.dmaSent (.dma (.ring (r.castLE (by omega)))) = true) ∧ (s.cqBlocked r.val = false) ∧ ((s.ring r.val).checked = false) ∧ ((s.ring r.val).waited = false) ∧ (tileBreak e = none) ∧ (s.pageById (readKey r.val e).page = none) ∧ (s.intake.closed.contains (readKey r.val e).page = false)) ∧
    (∃ (s : State) (r : Fin 8) (e : BitVec 512), (s.dmaOk = true) ∧ ((s.ring r.val).fetching = true) ∧ (s.dmaSent (.dma (.ring (r.castLE (by omega)))) = true) ∧ (s.cqBlocked r.val = false) ∧ ((s.ring r.val).checked = false) ∧ (tileBreak e = none) ∧ (s.pageById (readKey r.val e).page = none) ∧ (s.intake.closed.contains (readKey r.val e).page = true)) ∧
    (∃ (s : State) (r : Fin 8) (e : BitVec 512) (p : PageSt), (s.dmaOk = true) ∧ ((s.ring r.val).fetching = true) ∧ (s.dmaSent (.dma (.ring (r.castLE (by omega)))) = true) ∧ (s.cqBlocked r.val = false) ∧ ((s.ring r.val).checked = false) ∧ (tileBreak e = none) ∧ (s.pageById (readKey r.val e).page = some p) ∧ (tileFits p.desc (p.width.toList.getD r.val 0) (readKey r.val e) (readTile e) = false)) ∧
    (∃ (s : State) (r : Fin 8) (e : BitVec 512) (p : PageSt), (s.dmaOk = true) ∧ ((s.ring r.val).fetching = true) ∧ (s.dmaSent (.dma (.ring (r.castLE (by omega)))) = true) ∧ (s.cqBlocked r.val = false) ∧ ((s.ring r.val).checked = false) ∧ (tileBreak e = none) ∧ (s.pageById (readKey r.val e).page = some p) ∧ (tileFits p.desc (p.width.toList.getD r.val 0) (readKey r.val e) (readTile e) = true) ∧ ((readTile e).resubmit = false) ∧ (s.inOrder r.val p (readKey r.val e).band = false)) ∧
    (∃ (s : State) (r : Fin 8) (e : BitVec 512), (s.dmaOk = true) ∧ ((s.ring r.val).entry = some e) ∧ ((s.ring r.val).checked = true) ∧ (tileGranules (readTile e) ≤ s.rd .int INT.CREDIT) ∧ (s.rd .int INT.PQUOTA r.val = 0 ∨ s.usedGranules (some r.val) + tileGranules (readTile e) ≤ 256 * s.rd .int INT.PQUOTA r.val) ∧ ((s.intake.tiles.filter fun u => u.phase == .reading).length < 16) ∧ (s.cqBlocked r.val = false)) ∧
    (∃ (s : State) (r : Fin 8) (e : BitVec 512), ((s.ring r.val).entry = some e) ∧ (s.rd .int INT.CREDIT < tileGranules (readTile e) ∨ s.cqBlocked r.val = true)) :=
  ⟨⟨(((admUp []).wr .int INT.RING_CTRL_EN 1 2).wr .int INT.RING_DB 1 2), 2, by decide +kernel⟩,
    ⟨(((admUp []).wr .int INT.RING_CTRL_EN 1 2).wr .int INT.RING_DB 1 2), 3, by decide +kernel⟩,
    ⟨((((admUp []).modRing 8 fun _ => {}).wr .int INT.RING_CTRL_EN 1 8).wr .int INT.RING_DB 1 8), 8, by decide +kernel⟩,
    ⟨(admUp []), by decide +kernel⟩,
    ⟨(admUp []), 128, by decide +kernel⟩,
    ⟨(ringUp [aPage]), 0, (tileEntry 1024), aPage, by decide +kernel⟩,
    ⟨(ringUp [aPage]), 0, (anEntry [(0, 2)]), 0x20, by decide +kernel⟩,
    ⟨(ringUp []), 0, (tileEntry 1024), by decide +kernel⟩,
    ⟨{ ringUp [] with intake := { (ringUp []).intake with closed := [7] } }, 0, (tileEntry 1024), by decide +kernel⟩,
    ⟨(ringUp [aPage]), 0, (tileEntry 1023), aPage, by decide +kernel⟩,
    ⟨{ ringUp [aPage] with intake := { (ringUp [aPage]).intake with order := Vector.replicate 8 (some (1, 0)) } }, 0, (tileEntry 1024), aPage, by decide +kernel⟩,
    ⟨allocUp, 0, (tileEntry 1024), by decide +kernel⟩,
    ⟨(allocUp.wr .int INT.CREDIT 0), 0, (tileEntry 1024), by decide +kernel⟩⟩

theorem wit_TileLanding :
    (∃ (s : State) (key : TileKey) (hdr : BitVec 128) (u : Tile) (p : PageSt), (s.devUp = true) ∧ (s.tileInFlight key = some u) ∧ (s.pageById key.page = some p) ∧ (u.desc.scw = true) ∧ (headerBad hdr u.desc (p.desc.bitsOf key.plane) = true)) ∧
    (∃ (s : State) (key : TileKey) (hdr : BitVec 128) (u : Tile) (p : PageSt), (s.tileInFlight key = some u) ∧ (s.pageById key.page = some p) ∧ (headerBad hdr u.desc (p.desc.bitsOf key.plane) = false)) ∧
    (∃ (s : State) (key : TileKey) (data : List Byte) (u : Tile), (s.devUp = true) ∧ (s.tileInFlight key = some u) ∧ (data.length = u.desc.srcLen) ∧ (s.dmaSent (.dma (.tile key)) = true) ∧ (u.desc.scw = false) ∧ (u.desc.crcByIntake = false) ∧ (crc32c (data.map fun b => b.toNat) ≠ u.desc.crc)) ∧
    (∃ (s : State) (key : TileKey) (data : List Byte) (u : Tile) (p : PageSt), (s.devUp = true) ∧ (s.tileInFlight key = some u) ∧ (data.length = u.desc.srcLen) ∧ (s.dmaSent (.dma (.tile key)) = true) ∧ (u.desc.scw = true) ∧ (s.pageById key.page = some p) ∧ (data.length < 16 ∨ headerBad (BitVec.ofNat 128 (ofBytes ((data.map fun b => b.toNat).take 16))) u.desc (p.desc.bitsOf key.plane) = true)) ∧
    (∃ (s : State) (key : TileKey) (data : List Byte) (u : Tile) (out : List Nat) (isStream : Bool) (status info crc : Nat), (s.devUp = true) ∧ (s.tileInFlight key = some u) ∧ (data.length = u.desc.srcLen) ∧ (s.dmaSent (.dma (.tile key)) = true) ∧ (s.dataBad u (data.map fun b => b.toNat) = none) ∧ (u.repl = false) ∧ (s.ddrState = ddrActive) ∧ (s.ddr.poison = []) ∧ (s.storedAs u (data.map fun b => b.toNat) = some (out, isStream, status, info, crc))) ∧
    (∃ (s : State) (key : TileKey) (data : List Byte) (u : Tile) (out : List Nat) (isStream : Bool) (status info crc : Nat), (s.devUp = true) ∧ (s.tileInFlight key = some u) ∧ (data.length = u.desc.srcLen) ∧ (s.dmaSent (.dma (.tile key)) = true) ∧ (s.dataBad u (data.map fun b => b.toNat) = none) ∧ (u.repl = true) ∧ (s.ddrState = ddrActive) ∧ (s.ddr.poison = []) ∧ (s.tileAt key = none) ∧ (s.storedAs u (data.map fun b => b.toNat) = some (out, isStream, status, info, crc))) ∧
    (∃ (s : State) (key : TileKey) (data : List Byte) (u : Tile), (s.devUp = true) ∧ (s.tileInFlight key = some u) ∧ (data.length = u.desc.srcLen) ∧ (s.dmaSent (.dma (.tile key)) = true) ∧ (s.dataBad u (data.map fun b => b.toNat) = none) ∧ (s.portsHold = true)) ∧
    (∃ (s : State) (key : TileKey) (data : List Byte) (u : Tile), (s.tileInFlight key = some u) ∧ (data.length ≠ u.desc.srcLen)) ∧
    (∃ (s : State) (r : Fin 10), (s.devUp = true) ∧ ((s.ring r.val).fetching = true)) ∧
    (∃ (s : State) (k : TileKey) (u : Tile), (s.devUp = true) ∧ (s.tileInFlight k = some u)) ∧
    (∃ (s : State) (id : BitVec 8), (s.devUp = true) ∧ (s.codec.loads.any (fun e => e.1 == id.toNat) = true)) :=
  ⟨⟨(flyUp { flyT with desc := { aTileDesc with scw := true } }), ⟨7, 0, 0, 0⟩, 0, { flyT with desc := { aTileDesc with scw := true } }, aPage, by decide +kernel⟩,
    ⟨(flyUp { flyT with desc := { aTileDesc with scw := true, srcLen := 30, rawLen := 1024 } }), ⟨7, 0, 0, 0⟩, (BitVec.ofNat 128 (0x01574353 + 1024 * 2 ^ 64 + 64 * 2 ^ 96)), { flyT with desc := { aTileDesc with scw := true, srcLen := 30, rawLen := 1024 } }, aPage, by decide +kernel⟩,
    ⟨(flyUp { flyT with desc := { flyT.desc with crc := 5 } }), ⟨7, 0, 0, 0⟩, [1, 2], { flyT with desc := { flyT.desc with crc := 5 } }, by decide +kernel⟩,
    ⟨(flyUp { flyT with desc := { flyT.desc with scw := true } }), ⟨7, 0, 0, 0⟩, [1, 2], { flyT with desc := { flyT.desc with scw := true } }, aPage, by decide +kernel⟩,
    ⟨(flyUp flyT), ⟨7, 0, 0, 0⟩, [1, 2], flyT, [1, 2], false, 0, 1, (crc32c [1, 2]), by decide +kernel⟩,
    ⟨(flyUp { flyT with repl := true }), ⟨7, 0, 0, 0⟩, [1, 2], { flyT with repl := true }, [1, 2], false, 0, 1, (crc32c [1, 2]), by decide +kernel⟩,
    ⟨((flyUp flyT).wr .ddr HDR.PG_STAT_STATE 4), ⟨7, 0, 0, 0⟩, [1, 2], flyT, by decide +kernel⟩,
    ⟨(flyUp flyT), ⟨7, 0, 0, 0⟩, [1], flyT, by decide +kernel⟩,
    ⟨(admUp []), 8, by decide +kernel⟩,
    ⟨encTile, ⟨7, 0, 0, 0⟩, encT, by decide +kernel⟩,
    ⟨{ up with codec := { loads := [(3, 9), (4, 9)] } }, 3, by decide +kernel⟩⟩

theorem wit_Completions :
    (∃ (s : State) (c : Cqe) (rest : List Cqe), (s.dmaOk = true) ∧ (takeFirst s.cqeFits s.intake.cq = some (c, rest)) ∧ (cqUrgent c.type = true ∨ s.rd .int INT.CQ_COAL_COUNT ≤ s.intake.unsignalled + 1)) ∧
    (∃ (s : State) (c : Cqe) (rest : List Cqe), (s.dmaOk = true) ∧ (takeFirst s.cqeFits s.intake.cq = some (c, rest)) ∧ (cqUrgent c.type = false) ∧ (s.intake.unsignalled + 1 < s.rd .int INT.CQ_COAL_COUNT)) ∧
    (∃ (s : State), (s.dmaOk = false ∨ takeFirst s.cqeFits s.intake.cq = none)) ∧
    (∃ (s : State), (s.devUp = true) ∧ (s.intake.unsignalled ≠ 0) ∧ (s.rd .int INT.CQ_COAL_TIME_US ≠ 0) ∧ (s.intake.unsigAt + 500 * s.rd .int INT.CQ_COAL_TIME_US ≤ s.dclk)) :=
  ⟨⟨(cqUp [aCqe 2 none, aCqe 1 none]), (aCqe 2 none), [aCqe 1 none], by decide +kernel⟩,
    ⟨(cqUp [aCqe 1 (some ⟨7, 0, 0, 0⟩)]), (aCqe 1 (some ⟨7, 0, 0, 0⟩)), [], by decide +kernel⟩,
    ⟨(cqUp []), by decide +kernel⟩,
    ⟨{ cqUp [] with intake := { unsignalled := 1 }, dclk := 1500 }, by decide +kernel⟩⟩

theorem wit_PageEntries :
    (∃ (s : State) (e : BitVec 512), (s.admitted 0x10 e = true) ∧ (pageBreak e = none) ∧ (s.pageById (readPage e).id = none) ∧ (s.intake.pages.length < 64) ∧ (s.lastRejects s.intake.counts (readPage e) = none) ∧ ((∀ l : Lane, s.armable l = false ∧ s.rd (.lne l) LNE.AWL_STAT_STATE ≠ 1)) ∧ ((∀ r : Fin 8, (s.ring r.val).entry = none))) ∧
    (∃ (s : State) (e : BitVec 512) (l : Lane), (s.admitted 0x10 e = true) ∧ (pageBreak e = none) ∧ (s.pageById (readPage e).id = none) ∧ (s.intake.pages.length < 64) ∧ (s.lastRejects s.intake.counts (readPage e) = none) ∧ (s.nextPage = none) ∧ (s.cal.runs = []) ∧ ((∀ k : Lane, s.rd (.lne k) LNE.AWL_STAT_STATE ≠ 1)) ∧ (l ∈ s.pageLanes (readPage e).planes) ∧ (s.lanes[l].st = .idle) ∧ (s.lanes[l].page = none) ∧ (s.armable l = true)) ∧
    (∃ (s : State) (e : BitVec 512) (off : Nat), (s.admitted 0x10 e = true) ∧ (pageBreak e = some off)) ∧
    (∃ (s : State) (e : BitVec 512), (s.admitted 0x10 e = true) ∧ (pageBreak e = none) ∧ ((s.pageById (readPage e).id).isSome = true)) ∧
    (∃ (s : State) (e : BitVec 512), (s.admitted 0x10 e = true) ∧ (pageBreak e = none) ∧ (s.pageById (readPage e).id = none) ∧ (64 ≤ s.intake.pages.length)) ∧
    (∃ (s : State) (e : BitVec 512) (nn : Nat), (s.admitted 0x10 e = true) ∧ (pageBreak e = none) ∧ (s.pageById (readPage e).id = none) ∧ (s.intake.pages.length < 64) ∧ (s.lastRejects s.intake.counts (readPage e) = some nn) ∧ ((∀ l : Lane, s.rd (.lne l) LNE.AWL_STAT_STATE ≠ 1)) ∧ ((∀ r : Fin 8, (s.ring r.val).entry = none))) ∧
    (∃ (s : State) (e : BitVec 512) (p : PageSt), (s.admitted 0x11 e = true) ∧ (entryField e 1 3 = 0) ∧ (entryField e 8 56 = 0) ∧ (s.pageById (entryField e 4 4) = some p)) ∧
    (∃ (s : State) (e : BitVec 512), (s.admitted 0x11 e = true) ∧ (entryField e 1 3 = 0) ∧ (entryField e 8 56 = 0) ∧ (s.pageById (entryField e 4 4) = none)) ∧
    (∃ (s : State) (e : BitVec 512), (s.admitted 0x15 e = true) ∧ (entryField e 1 63 = 0)) ∧
    (∃ (s : State) (e : BitVec 512), (s.admitted 0x15 e = true) ∧ (entryField e 1 63 ≠ 0)) :=
  ⟨⟨openUp, openEntry, by decide +kernel⟩,
    ⟨(setF openUp [(.vnl 3, VNL.STAT_LSTATE, 5), (.seq 3, SEQ.TEMP_VALID, 1), (.lne 3, LNE.MAP_CTRL_ACT_VALID, 1), (.cpwr 0, CPWR.STAT_DLL_LOCK, 1), (.cpwr 0, CPWR.STAT_HVPG, 1)] |>.modLane 3 fun h => { h with st := .idle }), openEntry, 3, by decide +kernel⟩,
    ⟨openUp, (anEntry [(0, 0x10), (1, 1), (2, 0)]), 2, by decide +kernel⟩,
    ⟨{ openUp with intake := { openUp.intake with pages := [aPage] } }, openEntry, by decide +kernel⟩,
    ⟨{ openUp with intake := { openUp.intake with pages := (List.range 64).map fun i => { aPage with desc := { aDesc with id := 100 + i } } } }, openEntry, by decide +kernel⟩,
    ⟨(openUp.wr .lst HDR.PG_CTRL_EN 0), openEntry, 7, by decide +kernel⟩,
    ⟨{ openUp with intake := { openUp.intake with pages := [aPage] } }, (anEntry [(0, 0x11), (4, 7)]), aPage, by decide +kernel⟩,
    ⟨openUp, (anEntry [(0, 0x11), (4, 7)]), by decide +kernel⟩,
    ⟨openUp, (anEntry [(0, 0x15)]), by decide +kernel⟩,
    ⟨openUp, (anEntry [(0, 0x15), (60, 7)]), by decide +kernel⟩⟩

theorem wit_Screening :
    (∃ (s : State) (l : Lane) (i : InLine) (rest : List InLine) (ws : List Nat), (s.devUp = true) ∧ (s.lanes[l].inbuf = i :: rest) ∧ (s.engineOff l i.tag.page = false) ∧ (s.lanes[l].fifo.length < 64) ∧ (s.commits = []) ∧ (i.diffuses = false) ∧ (i.body = .words ws)) ∧
    (∃ (s : State) (l : Lane) (i : InLine) (rest : List InLine) (a b c : Nat), (s.devUp = true) ∧ (s.lanes[l].inbuf = i :: rest) ∧ (s.engineOff l i.tag.page = false) ∧ (s.lanes[l].fifo.length < 64) ∧ (s.commits = []) ∧ (i.diffuses = false) ∧ (i.body = .missing a b c)) ∧
    (∃ (s : State) (l : Lane) (i : InLine) (rest : List InLine) (ws : List Nat), (s.devUp = true) ∧ (s.lanes[l].inbuf = i :: rest) ∧ (s.engineOff l i.tag.page = false) ∧ (s.lanes[l].fifo.length < 64) ∧ (s.commits = []) ∧ (i.diffuses = false) ∧ (i.body = .words ws)) ∧
    (∃ (s : State) (l : Lane), (s.lanes[l].inbuf = [] ∨ 64 ≤ s.lanes[l].fifo.length)) ∧
    (∃ (s : State) (l : Lane) (i : InLine) (rest : List InLine), (s.lanes[l].inbuf = i :: rest) ∧ (s.engineOff l i.tag.page = true)) ∧
    (∃ (s : State) (l : Lane) (i : InLine) (rest : List InLine) (ws : List Nat), (s.devUp = true) ∧ (s.lanes[l].inbuf = i :: rest) ∧ (s.engineOff l i.tag.page = false) ∧ (s.lanes[l].fifo.length < 64) ∧ (s.commits = []) ∧ (i.diffuses = true) ∧ (i.body = .words ws) ∧ (i.reset = true) ∧ (s.leftOf l ≠ some l) ∧ (s.rightOf l ≠ some l)) ∧
    (∃ (s : State) (l b : Lane) (i : InLine) (rest : List InLine) (ws : List Nat), (s.devUp = true) ∧ (s.lanes[l].inbuf = i :: rest) ∧ (s.engineOff l i.tag.page = false) ∧ (s.lanes[l].fifo.length < 64) ∧ (s.commits = []) ∧ (i.diffuses = true) ∧ (i.body = .words ws) ∧ (i.reset = true) ∧ (s.rightOf l = some b) ∧ (b ≠ l) ∧ (s.leftOf l ≠ some b)) ∧
    (∃ (s : State) (l : Lane) (i : InLine) (rest : List InLine) (ws : List Nat) (a b : Option SeamWord), (s.devUp = true) ∧ (s.lanes[l].inbuf = i :: rest) ∧ (s.engineOff l i.tag.page = false) ∧ (s.lanes[l].fifo.length < 64) ∧ (s.commits = []) ∧ (i.diffuses = true) ∧ (i.body = .words ws) ∧ (i.reset = false) ∧ (s.seamIn (s.leftOf l) s.lanes[l].rxL s.lanes[l].wireL s.lanes[l].tmoL i = some a) ∧ (s.seamIn (s.rightOf l) s.lanes[l].rxR s.lanes[l].wireR s.lanes[l].tmoR i = some b) ∧ (s.leftOf l ≠ some l) ∧ (s.rightOf l ≠ some l)) ∧
    (∃ (s : State) (l : Lane) (i : InLine) (rest : List InLine), (s.devUp = true) ∧ (s.lanes[l].inbuf = i :: rest) ∧ (s.engineOff l i.tag.page = false) ∧ (s.lanes[l].fifo.length < 64) ∧ (s.commits = []) ∧ (i.diffuses = true) ∧ (i.reset = false) ∧ (s.seamIn (s.leftOf l) s.lanes[l].rxL s.lanes[l].wireL s.lanes[l].tmoL i = none ∨ s.seamIn (s.rightOf l) s.lanes[l].rxR s.lanes[l].wireR s.lanes[l].tmoR i = none)) :=
  ⟨⟨(engUp [] id (inLine (.words [1023, 0x4005, 0x8000]) true)), 3, (inLine (.words [1023, 0x4005, 0x8000]) true), [], [1023, 0x4005, 0x8000], by decide +kernel⟩,
    ⟨(engUp [] id (inLine (.missing 0x10 2 3) true)), 3, (inLine (.missing 0x10 2 3) true), [], 0x10, 2, 3, by decide +kernel⟩,
    ⟨(engUp [] id (inLine (.words [1023, 0x4005]) true)), 3, (inLine (.words [1023, 0x4005]) true), [], [1023, 0x4005], by decide +kernel⟩,
    ⟨up, 3, by decide +kernel⟩,
    ⟨(engUp [] (fun h => { h with stopped := some 7 }) (inLine (.words []) true)), 3, (inLine (.words []) true), [], by decide +kernel⟩,
    ⟨(three (engUp [] id (edLine [1023, 0x4005, 0x8000] true))), 3, (edLine [1023, 0x4005, 0x8000] true), [], [1023, 0x4005, 0x8000], by decide +kernel⟩,
    ⟨(three (engUp [] id (edLine [1023, 0x4005, 0x8000] true))), 3, 4, (edLine [1023, 0x4005, 0x8000] true), [], [1023, 0x4005, 0x8000], by decide +kernel⟩,
    ⟨(three (engUp [] (fun h => { h with rxL := [aWord true], rxR := [aWord false, aWord false] }) (edLine [1023, 5, 0x8000] false))), 3, (edLine [1023, 5, 0x8000] false), [], [1023, 5, 0x8000], (some (aWord true)), (some (aWord false)), by decide +kernel⟩,
    ⟨((three (engUp [] id (edLine [1023, 5, 0x8000] false))).modLane 2 (fun h => { h with st := .armed })), 3, (edLine [1023, 5, 0x8000] false), [], by decide +kernel⟩⟩

theorem wit_ScreeningFiguresAndSeamWords :
    (∃ (x : LineIn) (j : Nat), (wordBlank (x.word j) = true)) ∧
    (∃ (s : State) (l : Lane) (x : LineIn) (j : Nat), (wordBlank (x.word j) = false) ∧ (wordPre (x.word j) = true) ∧ (s.mapValid l = false)) ∧
    (∃ (a b : Nat), (a ≤ b)) ∧
    (∃ (v : Nat), (v ≤ 1023)) ∧
    (∃ (s : State) (l : Lane) (left : Bool) (w : SeamWord) (rest : List SeamWord), (s.devUp = true) ∧ ((if left then s.lanes[l].wireL else s.lanes[l].wireR) = w :: rest)) ∧
    (∃ (s : State) (l : Lane) (left : Bool) (w : SeamWord) (rest : List SeamWord), (s.devUp = true) ∧ ((if left then s.lanes[l].wireL else s.lanes[l].wireR) = w :: rest)) ∧
    (∃ (s : State) (l : Lane) (left : Bool) (w : SeamWord) (rest : List SeamWord), (s.devUp = true) ∧ ((if left then s.lanes[l].wireL else s.lanes[l].wireR) = w :: rest)) ∧
    (∃ (s : State) (l a : Lane) (left : Bool) (i : InLine) (rest : List InLine) (x : Nat), (s.devUp = true) ∧ (s.lanes[l].inbuf = i :: rest) ∧ ((if left then s.leftOf l else s.rightOf l) = some a) ∧ (s.lanes[l].waitAt = some x) ∧ (x + 500 * s.rd (.seam (Lane.clu l)) SEAM.CTRL ≤ s.dclk) ∧ ((if left then s.lanes[l].rxL else s.lanes[l].rxR) = []) ∧ ((if left then s.lanes[l].tmoL else s.lanes[l].tmoR) = false) ∧ (i.reset = false) ∧ (i.diffuses = true)) ∧
    (∃ (s : State) (l : Lane) (x : Nat), (s.lanes[l].waitAt = some x) ∧ (s.dclk < x + 500 * s.rd (.seam (Lane.clu l)) SEAM.CTRL)) :=
  ⟨⟨(aLine 0x8000), 0, by decide +kernel⟩,
    ⟨up, 3, (aLine 0x4006), 0, by decide +kernel⟩,
    ⟨3, 5, by decide +kernel⟩,
    ⟨1023, by decide +kernel⟩,
    ⟨((upWith clu0).modLane 3 fun h => { h with wireL := [aWord false] }), 3, true, (aWord false), [], by decide +kernel⟩,
    ⟨((upWith clu0).modLane 3 fun h => { h with wireR := [aWord false, aWord true] }), 3, false, (aWord false), [aWord true], by decide +kernel⟩,
    ⟨((upWith clu0).modLane 3 fun h => { h with wireR := [aWord false, aWord true] }), 3, false, (aWord false), [aWord true], by decide +kernel⟩,
    ⟨{ three (engUp [] (fun h => { h with waitAt := some 5 }) (edLine [1023, 5, 0x8000] false)) with dclk := 100000 }, 3, 2, true, (edLine [1023, 5, 0x8000] false), [], 5, by decide +kernel⟩,
    ⟨(engUp [(.seam 0, SEAM.CTRL, 4)] (fun h => { h with waitAt := some 5 }) (edLine [1023] false)), 3, 5, by decide +kernel⟩⟩

theorem wit_TableWindows :
    (∃ (s : State) (req : Req) (l : Lane) (off : BitVec 18), (s.devUp = true) ∧ ((s.power.grace && req == .host) = false) ∧ (s.hostCut req = false) ∧ (s.accessError (.window l off.toNat) (off.toNat % 4 == 0) = none) ∧ (off.toNat < 4 * winRecords) ∧ (s.laneRun l = false)) ∧
    (∃ (s : State) (req : Req) (l : Lane) (off : BitVec 18), (s.devUp = true) ∧ ((s.power.grace && req == .host) = false) ∧ (s.hostCut req = false) ∧ (s.accessError (.window l off.toNat) (off.toNat % 4 == 0) = none) ∧ (off.toNat < 4 * winRecords ∨ (4 * winMaskR ≤ off.toNat ∧ off.toNat < 4 * winWeights + 16384) ∨ (4 * winCounts ≤ off.toNat ∧ off.toNat < 4 * winCounts + 32768)) ∧ (s.laneRun l = true)) ∧
    (∃ (s : State) (req : Req) (l : Lane) (off : BitVec 18), (s.devUp = true) ∧ ((s.power.grace && req == .host) = false) ∧ (s.hostCut req = false) ∧ (s.accessError (.window l off.toNat) (off.toNat % 4 == 0) = none) ∧ (4 * winStaged ≤ off.toNat) ∧ (off.toNat < 4 * winForce) ∧ (s.rd (.lne l) LNE.AWL_STAT_STATE ≠ 1) ∧ (s.rd (.lne l) LNE.AWL_STAT_STATE ≠ 2) ∧ (s.pend (.lne l) = false)) ∧
    (∃ (s : State) (req : Req) (l : Lane) (off : BitVec 18), (s.devUp = true) ∧ ((s.power.grace && req == .host) = false) ∧ (s.hostCut req = false) ∧ (s.accessError (.window l off.toNat) (off.toNat % 4 == 0) = none) ∧ (4 * winStaged ≤ off.toNat) ∧ (off.toNat < 4 * winForce) ∧ (s.rd (.lne l) LNE.AWL_STAT_STATE = 1 ∨ s.rd (.lne l) LNE.AWL_STAT_STATE = 2)) ∧
    (∃ (s : State) (req : Req) (l : Lane) (off : BitVec 18), (s.devUp = true) ∧ ((s.power.grace && req == .host) = false) ∧ (s.hostCut req = false) ∧ (s.accessError (.window l off.toNat) (off.toNat % 4 == 0) = none) ∧ (4 * winRecords ≤ off.toNat) ∧ (off.toNat < 4 * winStaged)) ∧
    (∃ (s : State) (req : Req) (l : Lane) (off : BitVec 18) (nn : Nat), (s.devUp = true) ∧ ((s.power.grace && req == .host) = false) ∧ (s.hostCut req = false) ∧ (s.accessError (.window l off.toNat) (off.toNat % 4 == 0) = some nn)) ∧
    (∃ (s : State) (req : Req) (a : Word) (l : Lane) (off : Nat), (s.devUp = true) ∧ (s.hostCut req = false) ∧ (Req.isCore req = false) ∧ (Target.ofAddr a.toNat = .window l off) ∧ (s.accessError (.window l off) (a.toNat % 4 == 0) = none) ∧ (winIsCount (off / 4) = false)) ∧
    (∃ (s : State) (req : Req) (l : Lane), (s.ready req (.lne l) = true) ∧ (s.lanes[l].tblRun = false)) ∧
    (∃ (s : State) (req : Req) (l : Lane), (s.ready req (.lne l) = true) ∧ (s.lanes[l].tblRun = true)) ∧
    (∃ (s : State) (l : Lane), (s.devUp = true) ∧ (s.lanes[l].tblRun = true)) :=
  ⟨⟨(upWith (clu0 ++ [(.lne 3, LNE.TBL_CTRL_CRC_VALID, 1)])), .host, 3, 0x1FFFC, by decide +kernel⟩,
    ⟨((upWith clu0).modLane 3 fun h => { h with st := .firing }), .host, 3, 0x1FFFC, by decide +kernel⟩,
    ⟨(upWith clu0), .host, 3, 0x22200, by decide +kernel⟩,
    ⟨(upWith (clu0 ++ [(.lne 3, LNE.AWL_STAT_STATE, 2)])), .host, 3, 0x22200, by decide +kernel⟩,
    ⟨(upWith clu0), .host, 3, 0x20000, by decide +kernel⟩,
    ⟨(upWith clu0), .host, 3, 2, 0x05, by decide +kernel⟩,
    ⟨((upWith clu0).modLane 3 fun h => { h with win := [(0x8001, 9)] }), .host, 0x10E0004, 3, 0x20004, by decide +kernel⟩,
    ⟨(upWith clu0), .host, 3, by decide +kernel⟩,
    ⟨((upWith clu0).modLane 3 fun h => { h with tblRun := true }), .host, 3, by decide +kernel⟩,
    ⟨((upWith clu0).modLane 3 fun h => { h with tblRun := true, win := [(0, 5)] }), 3, by decide +kernel⟩⟩

theorem wit_MatrixStore :
    (∃ (s : State) (req : Req) (c : Clu), (s.ready req (.scr c) = true) ∧ (s.clusters[c].matRun = none) ∧ (s.run (.scr c) = false) ∧ (s.rd (.scr c) SCR.MAT_CELL_COUNT ≠ 0) ∧ (s.rd (.scr c) SCR.MAT_CELL_BASE + s.rd (.scr c) SCR.MAT_CELL_COUNT ≤ 61440)) ∧
    (∃ (s : State) (req : Req) (c : Clu), (s.ready req (.scr c) = true) ∧ (s.clusters[c].matRun = none) ∧ (s.run (.scr c) = true)) ∧
    (∃ (s : State) (req : Req) (c : Clu), (s.ready req (.scr c) = true) ∧ (s.clusters[c].matRun = none) ∧ (s.rd (.scr c) SCR.MAT_CELL_COUNT ≠ 0) ∧ (s.rd (.scr c) SCR.MAT_CELL_BASE + s.rd (.scr c) SCR.MAT_CELL_COUNT ≤ 61440)) ∧
    (∃ (s : State) (req : Req) (c : Clu), (s.ready req (.scr c) = true) ∧ (s.clusters[c].matRun.isSome = true)) ∧
    (∃ (s : State) (req : Req) (c : Clu), (s.ready req (.scr c) = true) ∧ (s.clusters[c].matRun = none) ∧ (s.rd (.scr c) SCR.MAT_CELL_COUNT = 0 ∨ 61440 < s.rd (.scr c) SCR.MAT_CELL_BASE + s.rd (.scr c) SCR.MAT_CELL_COUNT)) ∧
    (∃ (s : State) (c : Clu) (base count : Nat) (cells : List Nat), (s.devUp = true) ∧ (s.ddrState = ddrActive) ∧ (s.clusters[c].matRun = some (true, base, count)) ∧ (s.matCells s.clusters[c].matSrc none 0 count = (cells, none))) ∧
    (∃ (s : State) (c : Clu) (ue : Option (BitVec 16)) (base count nn : Nat) (cells : List Nat), (s.devUp = true) ∧ (s.ddrState = ddrActive) ∧ (s.clusters[c].matRun = some (true, base, count)) ∧ (s.matCells s.clusters[c].matSrc (ue.map BitVec.toNat) 0 count = (cells, some nn)) ∧ (nn ≠ 0x23 ∨ s.spoolSize < s.clusters[c].matSrc + 16 * cells.length + 16)) ∧
    (∃ (s : State) (c : Clu) (ue : Option (BitVec 16)) (base count : Nat) (cells : List Nat), (s.devUp = true) ∧ (s.ddrState = ddrActive) ∧ (s.clusters[c].matRun = some (true, base, count)) ∧ (s.matCells s.clusters[c].matSrc (ue.map BitVec.toNat) 0 count = (cells, some 0x23)) ∧ (s.clusters[c].matSrc + 16 * cells.length + 16 ≤ s.spoolSize)) ∧
    (∃ (s : State) (c : Clu) (base count : Nat), (s.devUp = true) ∧ (s.clusters[c].matRun = some (false, base, count))) :=
  ⟨⟨(upWith (clu0 ++ [(.scr 0, SCR.MAT_CELL_BASE, 61439), (.scr 0, SCR.MAT_CELL_COUNT, 1)])), .host, 0, by decide +kernel⟩,
    ⟨((upWith clu0).modLane 3 fun h => { h with st := .hold }), .host, 0, by decide +kernel⟩,
    ⟨(upWith (clu0 ++ [(.scr 0, SCR.MAT_CELL_BASE, 61439), (.scr 0, SCR.MAT_CELL_COUNT, 1)])), .host, 0, by decide +kernel⟩,
    ⟨(matUp true []), .host, 0, by decide +kernel⟩,
    ⟨(upWith (clu0 ++ [(.scr 0, SCR.MAT_CELL_BASE, 61440), (.scr 0, SCR.MAT_CELL_COUNT, 1)])), .host, 0, by decide +kernel⟩,
    ⟨(matUp true []), 0, 5, 2, [0, 0], by decide +kernel⟩,
    ⟨(matUp true [(0, 9)]), 0, none, 5, 2, 0x22, [], by decide +kernel⟩,
    ⟨(matUp true []), 0, (some 1), 5, 2, [0], by decide +kernel⟩,
    ⟨(matUp false []), 0, 5, 2, by decide +kernel⟩⟩

theorem wit_TimeCounterAndTriggers :
    (∃ (s : State) (req : Req), (s.open_ req .tim = true) ∧ (s.disarmed = true)) ∧
    (∃ (s : State) (req : Req), (s.open_ req .tim = true) ∧ (s.disarmed = true)) ∧
    (∃ (s : State) (req : Req) (ns : BitVec 64) (k : Fin 16), (s.open_ req .tim = true) ∧ (s.on .tim TIM.TRIG_CTRL_EN k.val = true) ∧ (s.time < s.rd .tim TIM.TRIG_TIME k.val) ∧ (s.rd .tim TIM.TRIG_TIME k.val < ns.toNat)) ∧
    (∃ (s : State), (s.tim.x32n < 2 ^ 20)) ∧
    (∃ (s : State), (s.devUp = true) ∧ (2 ^ 20 ≤ s.tim.x32n)) ∧
    (∃ (s : State) (k : Fin 16), (s.devUp = true) ∧ (s.on .tim TIM.TRIG_CTRL_EN k.val = true) ∧ (s.rd .tim TIM.TRIG_TIME k.val ≤ s.time) ∧ (s.intake.pages = [])) ∧
    (∃ (s : State) (k : Fin 16) (q : PageSt), (s.devUp = true) ∧ (s.on .tim TIM.TRIG_CTRL_EN k.val = true) ∧ (s.rd .tim TIM.TRIG_TIME k.val ≤ s.time) ∧ (s.pageActive = false) ∧ (s.nextPage = some q) ∧ (q.desc.mode = 1) ∧ (q.desc.trig = k.val) ∧ (q.cancel = false)) ∧
    (∃ (s : State) (k : Fin 16), (s.devUp = true) ∧ (s.on .tim TIM.TRIG_CTRL_EN k.val = true) ∧ (s.rd .tim TIM.TRIG_TIME k.val ≤ s.time) ∧ (s.namesTrig k.val = true) ∧ (s.pageActive = true)) ∧
    (∃ (s : State) (k : Fin 16), (s.time < s.rd .tim TIM.TRIG_TIME k.val)) ∧
    (∃ (s : State) (req : Req) (k : Fin 16) (data : Word), (s.open_ req .tim = true) ∧ (s.on .tim TIM.TRIG_CTRL_EN k.val = false) ∧ (bit data.toNat 1 = false ∨ k.val < 8) ∧ (s.judge .tim (0x210 + 32 * k.val) data.toNat = none) ∧ (s.time ≤ s.rd .tim TIM.TRIG_TIME k.val ∨ bit data.toNat 0 = false)) ∧
    (∃ (s : State) (req : Req) (k : Fin 16) (data : Word), (s.open_ req .tim = true) ∧ (s.on .tim TIM.TRIG_CTRL_EN k.val = false) ∧ (bit data.toNat 1 = false ∨ k.val < 8) ∧ (s.judge .tim (0x210 + 32 * k.val) data.toNat = none) ∧ (s.rd .tim TIM.TRIG_TIME k.val < s.time) ∧ (bit data.toNat 0 = true)) ∧
    (∃ (s : State) (req : Req) (k : Fin 16) (data : Word), (s.open_ req .tim = true) ∧ (s.on .tim TIM.TRIG_CTRL_EN k.val = true) ∧ (bits data.toNat 2 1 ≠ s.rd .tim TIM.TRIG_CTRL_OUT_EN k.val + 2 * s.rd .tim TIM.TRIG_CTRL_POL k.val) ∧ (bit data.toNat 1 = false ∨ k.val < 8)) ∧
    (∃ (s : State) (req : Req) (k : Fin 16) (data : Word), (s.open_ req .tim = true) ∧ (8 ≤ k.val) ∧ (bit data.toNat 1 = true)) ∧
    (∃ (s : State) (k : Fin 16), (s.devUp = true) ∧ (s.on .tim TIM.CAP_CFG_EN k.val = true) ∧ (s.on .tim TIM.CAP_STAT k.val = false)) ∧
    (∃ (s : State) (k : Fin 16), (s.devUp = true) ∧ (s.on .tim TIM.CAP_CFG_EN k.val = true) ∧ (s.on .tim TIM.CAP_STAT k.val = true)) :=
  ⟨⟨{ upWith [(.tim, TIM.TIME, 5), (.tim, HDR.PG_STAT_STATE, 3), (.tim, TIM.SERVO_STAT_TAG, 15)] with dclk := 9 }, .host, by decide +kernel⟩,
    ⟨{ upWith [(.tim, TIM.TIME, 5), (.tim, HDR.PG_STAT_STATE, 3), (.tim, TIM.SERVO_STAT_TAG, 15)] with dclk := 9 }, .host, by decide +kernel⟩,
    ⟨((up.wr .tim TIM.TRIG_CTRL_EN 1 3).wr .tim TIM.TRIG_TIME 9 3), .host, 10, 3, by decide +kernel⟩,
    ⟨{ up with tim := { x32n := 1048575 } }, by decide +kernel⟩,
    ⟨{ up with tim := { x32n := 1048576 } }, by decide +kernel⟩,
    ⟨((up.wr .tim TIM.TRIG_CTRL_EN 1 7).wr .tim TIM.TRIG_CTRL_OUT_EN 1 7), 7, by decide +kernel⟩,
    ⟨{ up.wr .tim TIM.TRIG_CTRL_EN 1 3 with intake := { pages := [{ aPage with desc := { aDesc with mode := 1, trig := 3 } }] } }, 3, { aPage with desc := { aDesc with mode := 1, trig := 3 } }, by decide +kernel⟩,
    ⟨{ up.wr .tim TIM.TRIG_CTRL_EN 1 3 with intake := { pages := [{ aPage with phase := .active }, { aPage with ord := 1, desc := { aDesc with mode := 1, trig := 3 } }] } }, 3, by decide +kernel⟩,
    ⟨(up.wr .tim TIM.TRIG_TIME 1 3), 3, by decide +kernel⟩,
    ⟨up, .host, 7, 7, by decide +kernel⟩,
    ⟨(upWith [(.tim, TIM.TIME, 9)]), .host, 15, 1, by decide +kernel⟩,
    ⟨(up.wr .tim TIM.TRIG_CTRL_EN 1 15), .host, 15, 5, by decide +kernel⟩,
    ⟨up, .host, 8, 2, by decide +kernel⟩,
    ⟨((upWith [(.tim, TIM.TIME, 100), (.pace, PACE.WL, 5)]).wr .tim TIM.CAP_CFG_EN 1 15), 15, by decide +kernel⟩,
    ⟨((up.wr .tim TIM.CAP_CFG_EN 1 15).wr .tim TIM.CAP_STAT 1 15), 15, by decide +kernel⟩⟩

theorem wit_Servo :
    (∃ (s : State) (req : Req), (s.open_ req .tim = true) ∧ (s.on .tim TIM.SERVO_CTRL_EN = false)) ∧
    (∃ (s : State) (req : Req) (tag : BitVec 4), (s.open_ req .tim = true) ∧ (s.on .tim TIM.SERVO_CTRL_EN = true) ∧ (tag.toNat ≠ s.tag)) ∧
    (∃ (s : State) (req : Req) (ns : BitVec 48) (tag : BitVec 4), (s.open_ req .tim = true) ∧ (s.on .tim TIM.SERVO_CTRL_EN = true) ∧ (tag.toNat = s.tag) ∧ (s.servo = svStep) ∧ (s.rd .tim TIM.STEP_LIMIT < (signed 48 ns.toNat).natAbs) ∧ (s.disarmed = true)) ∧
    (∃ (s : State) (req : Req) (ns : BitVec 48) (tag : BitVec 4), (s.open_ req .tim = true) ∧ (s.on .tim TIM.SERVO_CTRL_EN = true) ∧ (tag.toNat = s.tag) ∧ (s.servo = svStep) ∧ ((signed 48 ns.toNat).natAbs ≤ s.rd .tim TIM.STEP_LIMIT) ∧ (s.rd .tim TIM.FMAX < 2 ^ 20)) ∧
    (∃ (s : State) (req : Req) (ns : BitVec 48) (tag : BitVec 4), (s.open_ req .tim = true) ∧ (s.on .tim TIM.SERVO_CTRL_EN = true) ∧ (tag.toNat = s.tag) ∧ (s.servo = svTrack) ∧ ((signed 48 ns.toNat).natAbs ≤ s.rd .tim TIM.STEP_LIMIT) ∧ ((signed 48 ns.toNat).natAbs ≤ s.rd .tim TIM.LOCK_WIN_LOCK_WINDOW) ∧ (s.rd .tim TIM.FMAX < 2 ^ 20)) ∧
    (∃ (s : State) (req : Req) (ns : BitVec 48) (tag : BitVec 4), (s.open_ req .tim = true) ∧ (s.on .tim TIM.SERVO_CTRL_EN = true) ∧ (tag.toNat = s.tag) ∧ (s.servo = svLocked) ∧ ((signed 48 ns.toNat).natAbs ≤ s.rd .tim TIM.STEP_LIMIT) ∧ (s.rd .tim TIM.LOCK_WIN_UNLOCK_WINDOW < (signed 48 ns.toNat).natAbs)) ∧
    (∃ (s : State) (req : Req) (ns : BitVec 48) (tag : BitVec 4), (s.open_ req .tim = true) ∧ (s.on .tim TIM.SERVO_CTRL_EN = true) ∧ (tag.toNat = s.tag) ∧ (s.servo = svTrack ∨ s.servo = svLocked ∨ s.servo = svHold) ∧ (s.rd .tim TIM.STEP_LIMIT < (signed 48 ns.toNat).natAbs)) ∧
    (∃ (s : State) (req : Req) (data : Word), (s.open_ req .tim = true) ∧ (s.judge .tim 0x68 data.toNat = none) ∧ (s.on .tim TIM.SERVO_CTRL_EN = false) ∧ (bit data.toNat 0 = true)) ∧
    (∃ (s : State) (req : Req) (data : Word), (s.open_ req .tim = true) ∧ (s.judge .tim 0x68 data.toNat = none) ∧ (s.on .tim TIM.SERVO_CTRL_EN = true) ∧ (bit data.toNat 0 = false)) ∧
    (∃ (s : State) (req : Req) (data : Word), (s.open_ req .tim = true) ∧ (s.judge .tim 0x68 (data.toNat ||| 2) = none) ∧ (s.on .tim TIM.SERVO_CTRL_EN = true) ∧ (bit data.toNat 0 = true) ∧ (s.servo ≠ svFree)) ∧
    (∃ (s : State), (s.dclk < s.tim.ofsAt + 500000 * s.rd .tim TIM.SERVO_CTRL_HOLD_MS)) ∧
    (∃ (s : State), (s.devUp = true) ∧ (s.servo = svTrack ∨ s.servo = svLocked) ∧ (s.tim.ofsAt + 500000 * s.rd .tim TIM.SERVO_CTRL_HOLD_MS ≤ s.dclk) ∧ (s.rd .tim TIM.FMAX < 2 ^ 20)) :=
  ⟨⟨up, .host, by decide +kernel⟩,
    ⟨(upWith [(.tim, TIM.SERVO_CTRL_EN, 1)]), .host, 1, by decide +kernel⟩,
    ⟨(upWith [(.tim, TIM.SERVO_CTRL_EN, 1), (.tim, HDR.PG_STAT_STATE, 1), (.tim, TIM.TIME, 100000)]), .host, 20000, 0, by decide +kernel⟩,
    ⟨{ upWith [(.tim, TIM.SERVO_CTRL_EN, 1), (.tim, HDR.PG_STAT_STATE, 1), (.tim, TIM.INTEG, 77)] with dclk := 9 }, .host, 0xFFFFFFFFFFFF, 0, by decide +kernel⟩,
    ⟨(upWith [(.tim, TIM.SERVO_CTRL_EN, 1), (.tim, HDR.PG_STAT_STATE, 2), (.tim, TIM.SERVO_STAT_RUN, 3)]), .host, 100, 0, by decide +kernel⟩,
    ⟨(upWith [(.tim, TIM.SERVO_CTRL_EN, 1), (.tim, HDR.PG_STAT_STATE, 3), (.tim, TIM.SERVO_STAT_RUN, 3)]), .host, 401, 0, by decide +kernel⟩,
    ⟨(upWith [(.tim, TIM.SERVO_CTRL_EN, 1), (.tim, HDR.PG_STAT_STATE, 4), (.tim, TIM.SERVO_STAT_RUN, 3)]), .host, 10001, 0, by decide +kernel⟩,
    ⟨(upWith [(.tim, TIM.FREQ, 0xFFFFFFFF)]), .host, 0x0BB80041, by decide +kernel⟩,
    ⟨(upWith [(.tim, TIM.SERVO_CTRL_EN, 1), (.tim, HDR.PG_STAT_STATE, 3), (.tim, TIM.FREQ, 9)]), .host, 0x0BB80040, by decide +kernel⟩,
    ⟨(upWith [(.tim, TIM.SERVO_CTRL_EN, 1), (.tim, HDR.PG_STAT_STATE, 3)]), .host, 0x0BB80041, by decide +kernel⟩,
    ⟨(upWith [(.tim, TIM.SERVO_CTRL_HOLD_MS, 1)]), by decide +kernel⟩,
    ⟨{ upWith [(.tim, TIM.INTEG, 0x80000001), (.tim, HDR.PG_STAT_STATE, 3), (.tim, TIM.SERVO_CTRL_HOLD_MS, 1)] with dclk := 500000 }, by decide +kernel⟩⟩

theorem wit_Ethernet :
    (∃ (s : State) (req : Req) (p : Fin 2) (v : Word), (s.open_ req (.eth p) = true) ∧ (s.judge (.eth p) 0x7C v.toNat = none) ∧ (v.toNat % 4096 < 2 ^ s.rd (.eth p) ETH.TXR_SIZE)) ∧
    (∃ (s : State) (req : Req) (p : Fin 2) (v : Word), (s.open_ req (.eth p) = true) ∧ (s.judge (.eth p) 0x7C v.toNat = none) ∧ (2 ^ s.rd (.eth p) ETH.TXR_SIZE ≤ v.toNat % 4096)) ∧
    (∃ (s : State) (p : Fin 2) (x : Nat) (d : List Nat) (len off csum : Nat), (s.devUp = true) ∧ (s.on (.eth p) HDR.PG_CTRL_EN = true) ∧ (s.rd (.eth p) HDR.PG_STAT_STATE = 2) ∧ (s.rd (.eth p) ETH.TXR_HEAD ≠ s.rd (.eth p) ETH.TXR_TAIL % 2 ^ s.rd (.eth p) ETH.TXR_SIZE) ∧ (s.ddrState = ddrActive) ∧ (s.ddr.poison = []) ∧ (x = s.rd (.eth p) ETH.TXR_BASE + 32 * s.rd (.eth p) ETH.TXR_HEAD) ∧ (d = s.spoolBytes x 32) ∧ (len = ofBytes ((d.drop 8).take 2)) ∧ (off = ofBytes ((d.drop 12).take 2)) ∧ (csum = ofBytes ((d.drop 14).take 2)) ∧ (bit (d.getD 10 0) 1 = false ∨ (bit (d.getD 10 0) 0 = true ∧ off + 10 ≤ len ∧ (csum = 0 ∨ csum + 2 ≤ len)))) ∧
    (∃ (s : State) (p : Fin 2) (x : Nat) (d : List Nat) (len off csum : Nat), (s.devUp = true) ∧ (s.on (.eth p) HDR.PG_CTRL_EN = true) ∧ (s.rd (.eth p) HDR.PG_STAT_STATE = 2) ∧ (s.rd (.eth p) ETH.TXR_HEAD ≠ s.rd (.eth p) ETH.TXR_TAIL % 2 ^ s.rd (.eth p) ETH.TXR_SIZE) ∧ (s.ddrState = ddrActive) ∧ (s.ddr.poison = []) ∧ (x = s.rd (.eth p) ETH.TXR_BASE + 32 * s.rd (.eth p) ETH.TXR_HEAD) ∧ (d = s.spoolBytes x 32) ∧ (len = ofBytes ((d.drop 8).take 2)) ∧ (off = ofBytes ((d.drop 12).take 2)) ∧ (csum = ofBytes ((d.drop 14).take 2)) ∧ (bit (d.getD 10 0) 1 = true) ∧ (bit (d.getD 10 0) 0 = false ∨ len < off + 10 ∨ (csum ≠ 0 ∧ len < csum + 2))) ∧
    (∃ (s : State) (p : Fin 2), (s.rd (.eth p) ETH.TXR_HEAD = s.rd (.eth p) ETH.TXR_TAIL % 2 ^ s.rd (.eth p) ETH.TXR_SIZE)) ∧
    (∃ (s : State) (p : Fin 2) (bytes : List Byte) (x a : Nat), (s.devUp = true) ∧ (s.on (.eth p) HDR.PG_CTRL_EN = true) ∧ (s.rd (.eth p) HDR.PG_STAT_STATE = 2) ∧ (s.on (.eth p) ETH.CFG_PROMISC = true) ∧ (60 ≤ bytes.length) ∧ (bytes.length ≤ 2044) ∧ (s.rd (.eth p) ETH.RXR_HEAD ≠ s.rd (.eth p) ETH.RXR_TAIL % 2 ^ s.rd (.eth p) ETH.RXR_SIZE) ∧ (s.ddrState = ddrActive) ∧ (s.ddr.poison = []) ∧ (x = s.rd (.eth p) ETH.RXR_BASE + 32 * s.rd (.eth p) ETH.RXR_HEAD) ∧ (a = ofBytes (s.spoolBytes x 8)) ∧ (bytes.length ≤ ofBytes (s.spoolBytes (x + 8) 2)) ∧ (a + bytes.length ≤ s.spoolSize) ∧ (x + 32 ≤ s.spoolSize) ∧ (a + bytes.length ≤ x ∨ x + 32 ≤ a)) ∧
    (∃ (s : State) (p : Fin 2) (bytes : List Byte), (s.devUp = true) ∧ (s.on (.eth p) HDR.PG_CTRL_EN = true) ∧ (s.rd (.eth p) HDR.PG_STAT_STATE = 2) ∧ (ethGroups.contains ((bytes.map fun b => b.toNat).take 6) = true) ∧ (60 ≤ bytes.length) ∧ (bytes.length ≤ 2044) ∧ (s.rd (.eth p) ETH.RXR_HEAD = s.rd (.eth p) ETH.RXR_TAIL % 2 ^ s.rd (.eth p) ETH.RXR_SIZE ∨ s.ddrState ≠ ddrActive)) ∧
    (∃ (s : State) (p : Fin 2) (bytes : List Byte), (s.on (.eth p) ETH.CFG_PROMISC = false) ∧ ((bytes.map fun b => b.toNat).take 6 ≠ bytesBe 6 (s.rd (.eth p) ETH.MAC)) ∧ (ethGroups.contains ((bytes.map fun b => b.toNat).take 6) = false)) ∧
    (∃ (s : State) (p : Fin 2), (s.devUp = true) ∧ (s.on (.eth p) HDR.PG_CTRL_EN = true) ∧ (s.rd (.eth p) HDR.PG_STAT_STATE ≠ 2)) ∧
    (∃ (s : State) (p : Fin 2), (s.rd (.eth p) HDR.PG_STAT_STATE = 2)) ∧
    (∃ (s : State) (p : Fin 2), (s.rd (.eth p) HDR.PG_STAT_STATE ≠ 2)) ∧
    (∃ (s : State) (p : Fin 2), (s.devUp = true) ∧ (s.rd (.eth p) HDR.PG_STAT_STATE = 2)) :=
  ⟨⟨up, .host, 1, 0x1003, by decide +kernel⟩,
    ⟨up, .host, 1, 64, by decide +kernel⟩,
    ⟨{ ethUp 0 with dclk := 9 }, 1, 0x5000000, ((ethUp 0).spoolBytes 0x5000000 32), 60, 0, 0, by decide +kernel⟩,
    ⟨{ ethUp 2 with dclk := 9 }, 1, 0x5000000, ((ethUp 2).spoolBytes 0x5000000 32), 60, 0, 0, by decide +kernel⟩,
    ⟨up, 0, by decide +kernel⟩,
    ⟨{ (ethUp 0).wr (.eth 1) ETH.CFG_PROMISC 1 with dclk := 9 }, 1, aFrame, 0x5001000, 0x5002000, by decide +kernel⟩,
    ⟨((ethUp 0).wr (.eth 1) ETH.RXR_TAIL 0), 1, aFrame, by decide +kernel⟩,
    ⟨(ethUp 0), 1, (List.replicate 60 9), by decide +kernel⟩,
    ⟨(upWith [(.eth 1, HDR.PG_CTRL_EN, 1)]), 1, by decide +kernel⟩,
    ⟨(ethUp 0), 1, by decide +kernel⟩,
    ⟨up, 1, by decide +kernel⟩,
    ⟨(ethUp 0), 1, by decide +kernel⟩⟩

theorem wit_SelfTests :
    (∃ (s : State) (req : Req), (s.ready req .bst = true) ∧ (s.rd .bst BST.REQ < 6) ∧ (s.rd .bst HDR.PG_STAT_STATE = 0) ∧ ((testInsts (s.rd .bst BST.REQ) (s.rd .bst BST.MASK)).all (s.testReady (s.rd .bst BST.REQ)) = true) ∧ (s.envBad (s.rd .bst BST.REQ) (s.rd .bst BST.MASK) = false) ∧ (s.cal.runs = [])) ∧
    (∃ (s : State) (req : Req), (s.ready req .bst = true) ∧ (s.rd .bst BST.REQ = 4) ∧ (s.rd .bst HDR.PG_STAT_STATE = 0) ∧ (s.rd .lst HDR.PG_STAT_STATE = 0) ∧ (s.envBad 4 (s.rd .bst BST.MASK) = false)) ∧
    (∃ (s : State) (req : Req), (s.ready req .bst = true) ∧ (6 ≤ s.rd .bst BST.REQ)) ∧
    (∃ (s : State) (req : Req) (i : Nat), (s.ready req .bst = true) ∧ (s.rd .bst BST.REQ < 6) ∧ (s.rd .bst HDR.PG_STAT_STATE = 0) ∧ ((testInsts (s.rd .bst BST.REQ) (s.rd .bst BST.MASK)).find? (fun k => !s.testReady (s.rd .bst BST.REQ) k) = some i)) ∧
    (∃ (s : State) (req : Req), (s.ready req .bst = true) ∧ (s.rd .bst BST.REQ < 6) ∧ (s.rd .bst HDR.PG_STAT_STATE ≠ 0)) ∧
    (∃ (s : State) (req : Req), (s.ready req .bst = true) ∧ (s.rd .bst BST.REQ < 6) ∧ (s.rd .bst HDR.PG_STAT_STATE = 0) ∧ ((testInsts (s.rd .bst BST.REQ) (s.rd .bst BST.MASK)).all (s.testReady (s.rd .bst BST.REQ)) = true) ∧ (s.envBad (s.rd .bst BST.REQ) (s.rd .bst BST.MASK) = true)) ∧
    (∃ (s : State) (req : Req) (r : BistRun), (s.ready req .bst = true) ∧ (s.bist.run = some r) ∧ (r.target = 4) ∧ (r.insts = [0])) ∧
    (∃ (s : State) (req : Req), (s.ready req .bst = true) ∧ (s.bist.run = none)) ∧
    (∃ (s : State) (r : BistRun) (x : BistResult), (s.devUp = true) ∧ (s.bist.run = some r) ∧ (r.target = 4) ∧ (r.insts = [0]) ∧ (r.at_ + x.cycles.toNat ≤ s.dclk) ∧ (x.fails = [])) ∧
    (∃ (s : State) (r : BistRun) (x : BistResult) (fs : List (Nat × Nat)) (rep : List Repair), (s.devUp = true) ∧ (s.bist.run = some r) ∧ (r.target = 4) ∧ (r.insts = [0]) ∧ (r.at_ + x.cycles.toNat ≤ s.dclk) ∧ (s.on .bst BST.CTRL_SOFT_REPAIR = true) ∧ (fs = ((x.fails.map fun f => (f.1.toNat, f.2.toNat)).eraseDups).filter (fun f => decide (1280 ≤ f.1 ∧ f.1 < 1600))) ∧ (rep = repairsOf (s.fused ++ s.bist.soft.map (·.2)) fs)) ∧
    (∃ (s : State) (r : BistRun) (x : BistResult), (s.bist.run = some r) ∧ (s.dclk < r.at_ + x.cycles.toNat)) ∧
    (∃ (s : State) (l : Lane) (r : BistRun) (x : BistResult), (s.devUp = true) ∧ (s.bist.run = some r) ∧ (r.target = 0) ∧ (r.insts = [l.val]) ∧ (r.lanes = [l.val]) ∧ (r.at_ + x.cycles.toNat ≤ s.dclk) ∧ (s.lanes[l].st = .test) ∧ (s.linkUp l = true) ∧ (s.on .bst BST.CTRL_TABLE_RESTORE = false) ∧ (s.intake.pages = []) ∧ (s.cal.runs = [])) ∧
    (∃ (s : State) (mv : BitVec 12), (s.devUp = true) ∧ (s.bist.sampleAt ≤ s.dclk) ∧ (s.bist.run = none ∨ (735 ≤ mv.toNat ∧ mv.toNat ≤ 765))) ∧
    (∃ (s : State), (s.dclk < s.bist.sampleAt)) ∧
    (∃ (s : State) (mv : BitVec 12) (r : BistRun), (s.devUp = true) ∧ (s.bist.sampleAt ≤ s.dclk) ∧ (s.bist.run = some r) ∧ (r.target = 4) ∧ (r.insts = [0]) ∧ (mv.toNat < 735 ∨ 765 < mv.toNat)) :=
  ⟨⟨((bstUp 0 8).modLane 3 fun h => { h with st := .idle }), .host, by decide +kernel⟩,
    ⟨{ bstUp 4 0 with dclk := 9 }, .host, by decide +kernel⟩,
    ⟨(bstUp 6 0), .host, by decide +kernel⟩,
    ⟨(bstUp 0 8), .host, 3, by decide +kernel⟩,
    ⟨((bstUp 4 0).wr .bst HDR.PG_STAT_STATE 2), .host, by decide +kernel⟩,
    ⟨((bstUp 4 0).wr .bst BST.VCORE 734), .host, by decide +kernel⟩,
    ⟨lstTest, .host, { target := 4, insts := [0], lanes := [] }, by decide +kernel⟩,
    ⟨(bstUp 4 0), .host, by decide +kernel⟩,
    ⟨{ lstTest.wr .bst BST.EXP_CYC 409664 with dclk := 409664 }, { target := 4, insts := [0], lanes := [] }, { cycles := 409664, fails := [], sig := 0, ue := false }, by decide +kernel⟩,
    ⟨{ (lstTest.wr .bst BST.EXP_CYC 409664).wr .bst BST.CTRL_SOFT_REPAIR 1 with dclk := 409664 }, { target := 4, insts := [0], lanes := [] }, { cycles := 409664, fails := [(1280, 3), (1280, 4), (1280, 5), (5, 5)], sig := 0, ue := false }, [(1280, 3), (1280, 4), (1280, 5)], [⟨1280, 3, 0⟩, ⟨1280, 4, 1⟩], by decide +kernel⟩,
    ⟨lstTest, { target := 4, insts := [0], lanes := [] }, { cycles := 1, fails := [], sig := 0, ue := false }, by decide +kernel⟩,
    ⟨({ setF (bstUp 0 8) [(.vnl 3, VNL.STAT_LSTATE, 5), (.bst, BST.CTRL_TABLE_RESTORE, 0), (.seq 3, SEQ.TEMP_READING, 44)] with dclk := 41024, bist := { run := some { target := 0, insts := [3], lanes := [3] } } }.modLane 3 fun h => { h with st := .test }), 3, { target := 0, insts := [3], lanes := [3] }, { cycles := 41024, fails := [], sig := 0, ue := false }, by decide +kernel⟩,
    ⟨(bstUp 4 0), 100, by decide +kernel⟩,
    ⟨{ up with bist := { sampleAt := 5 } }, by decide +kernel⟩,
    ⟨lstTest, 734, { target := 4, insts := [0], lanes := [] }, by decide +kernel⟩⟩

theorem wit_ImagesAndFuses :
    (∃ (s : State) (req : Req) (l : Lane), (s.ready req .bst = true) ∧ (s.lanes[l].st ≠ .test) ∧ (s.rd .bst HDR.PG_STAT_STATE = 0)) ∧
    (∃ (s : State) (req : Req) (l : Lane), (s.ready req .bst = true) ∧ (s.lanes[l].st = .test ∨ s.rd .bst HDR.PG_STAT_STATE ≠ 0)) ∧
    (∃ (s : State) (req : Req) (inst : BitVec 7), (s.ready req .bst = true) ∧ (64 ≤ inst.toNat)) ∧
    (∃ (s : State) (l : Lane), (s.devUp = true) ∧ (s.bist.img = some l.val) ∧ (s.spoolServes (s.imgAt l) 0x40000 = true) ∧ (s.ddr.poison = [])) ∧
    (∃ (s : State) (l : Lane), (s.devUp = true) ∧ (s.bist.img = some l.val) ∧ (s.ddrState ≠ ddrActive)) ∧
    (∃ (s : State) (req : Req) (slot : BitVec 7), (s.ready req .bst = true) ∧ (slot.toNat < 74) ∧ (s.power.dev = .idle) ∧ (s.rd .bst HDR.PG_STAT_STATE = 0) ∧ (s.on .bst BST.RES_STAT_DONE slot.toNat = true) ∧ (s.bist.soft.any (fun e => e.1 == slot.toNat) = true) ∧ (s.on .bst BST.RES_STAT_UNREPAIRABLE slot.toNat = false) ∧ (s.unfused slot.toNat ≠ []) ∧ ((s.unfused slot.toNat).length ≤ s.freeFuses.length)) ∧
    (∃ (s : State) (req : Req) (slot : BitVec 7), (s.ready req .bst = true) ∧ (slot.toNat < 74)) ∧
    (∃ (s : State) (req : Req) (slot : BitVec 7), (s.ready req .bst = true) ∧ (slot.toNat < 74) ∧ (s.power.dev ≠ .idle ∨ s.rd .bst HDR.PG_STAT_STATE ≠ 0 ∨ s.on .bst BST.RES_STAT_DONE slot.toNat = false ∨ s.bist.soft.any (fun e => e.1 == slot.toNat) = false ∨ s.on .bst BST.RES_STAT_UNREPAIRABLE slot.toNat = true)) ∧
    (∃ (s : State) (req : Req) (slot : BitVec 7), (s.ready req .bst = true) ∧ (slot.toNat < 74) ∧ (s.power.dev = .idle) ∧ (s.rd .bst HDR.PG_STAT_STATE = 0) ∧ (s.on .bst BST.RES_STAT_DONE slot.toNat = true) ∧ (s.bist.soft.any (fun e => e.1 == slot.toNat) = true) ∧ (s.on .bst BST.RES_STAT_UNREPAIRABLE slot.toNat = false) ∧ (s.freeFuses.length < (s.unfused slot.toNat).length)) ∧
    (∃ (s : State) (b : Burn) (r : Repair) (rest : List Repair) (e : Nat) (fs : List Nat), (s.devUp = true) ∧ (s.bist.burn = some b) ∧ (b.todo = r :: rest) ∧ (s.freeFuses = e :: fs)) ∧
    (∃ (s : State) (b : Burn) (r : Repair) (rest : List Repair) (e : Nat) (fs : List Nat), (s.devUp = true) ∧ (s.bist.burn = some b) ∧ (b.todo = r :: rest) ∧ (s.freeFuses = e :: fs)) ∧
    (∃ (s : State), (s.devUp = true) ∧ (s.bist.burn = none)) :=
  ⟨⟨{ bstUp 4 0 with dclk := 9 }, .host, 63, by decide +kernel⟩,
    ⟨((bstUp 4 0).wr .bst HDR.PG_STAT_STATE 2), .host, 63, by decide +kernel⟩,
    ⟨(bstUp 4 0), .host, 64, by decide +kernel⟩,
    ⟨{ setF (bstUp 4 0) [(.ddr, HDR.PG_STAT_STATE, 2), (.ddr, DDR.CFG_SIZE_GIB, 16), (.bst, HDR.PG_STAT_STATE, 2)] with bist := { img := some 3 } }, 3, by decide +kernel⟩,
    ⟨{ (bstUp 4 0).wr .bst HDR.PG_STAT_STATE 2 with bist := { img := some 3 } }, 3, by decide +kernel⟩,
    ⟨burnUp, .host, 72, by decide +kernel⟩,
    ⟨burnUp, .host, 73, by decide +kernel⟩,
    ⟨burnUp, .host, 71, by decide +kernel⟩,
    ⟨{ burnUp with bist := { soft := [(72, aRepair)], dead := List.range 512 } }, .host, 72, by decide +kernel⟩,
    ⟨{ burnUp with bist := { burn := some { slot := 72, todo := [aRepair] } } }, { slot := 72, todo := [aRepair] }, aRepair, [], 0, ((List.range 512).tail), by decide +kernel⟩,
    ⟨{ burnUp with bist := { burn := some { slot := 72, todo := [aRepair] } } }, { slot := 72, todo := [aRepair] }, aRepair, [], 0, ((List.range 512).tail), by decide +kernel⟩,
    ⟨burnUp, by decide +kernel⟩⟩

theorem wit_SramScrub :
    (∃ (s : State), (s.devUp = true) ∧ (s.on .scb SCB.CTRL_EN = true) ∧ (s.bist.scrubAt ≤ s.dclk) ∧ (s.arrayUp (s.rd .scb SCB.POS_ARRAY) = true) ∧ (s.rd .scb SCB.POS_WORD < 4095)) ∧
    (∃ (s : State), (s.dclk < s.bist.scrubAt)) ∧
    (∃ (s : State), (s.devUp = true) ∧ (s.on .scb SCB.CTRL_EN = true) ∧ (s.bist.scrubAt ≤ s.dclk) ∧ (s.arrayUp (s.rd .scb SCB.POS_ARRAY) = true) ∧ (s.rd .scb SCB.POS_WORD < 4095)) ∧
    (∃ (s : State), (s.devUp = true) ∧ (s.on .scb SCB.CTRL_EN = true) ∧ (s.bist.scrubAt ≤ s.dclk) ∧ (s.arrayUp (s.rd .scb SCB.POS_ARRAY) = true) ∧ (s.rd .scb SCB.POS_WORD < 4095)) ∧
    (∃ (s : State), (s.devUp = true) ∧ (s.on .scb SCB.CTRL_EN = true) ∧ (s.bist.scrubAt ≤ s.dclk) ∧ (s.rd .scb SCB.POS_ARRAY = 1727) ∧ (s.rd .scb SCB.POS_WORD = 4095)) ∧
    (∃ (s : State), (s.devUp = true) ∧ (s.on .scb SCB.CTRL_EN = true) ∧ (s.bist.scrubAt ≤ s.dclk) ∧ (s.rd .scb SCB.POS_ARRAY = 15) ∧ (s.arrayUp 15 = false) ∧ (s.arrayUp 16 = true)) ∧
    (∃ (s : State) (task : BgTask), (s.devUp = true) ∧ (s.taskWaits task = true)) ∧
    (∃ (s : State) (task : BgTask), (s.taskWaits task = false)) :=
  ⟨⟨{ upWith ([(.scb, SCB.CTRL_EN, 1), (.scb, SCB.POS_ARRAY, 1727), (.scb, SCB.POS_WORD, 4094)]) with dclk := 9 }, by decide +kernel⟩,
    ⟨{ up with bist := { scrubAt := 10 }, dclk := 9 }, by decide +kernel⟩,
    ⟨(upWith ([(.scb, SCB.CTRL_EN, 1), (.scb, SCB.POS_ARRAY, 1696), (.scb, SCB.POS_WORD, 0)])), by decide +kernel⟩,
    ⟨(upWith (clu0 ++ [(.scb, SCB.CTRL_EN, 1), (.scb, SCB.POS_ARRAY, 50), (.lne 3, LNE.TBL_CTRL_CRC_VALID, 1)])), by decide +kernel⟩,
    ⟨(upWith ([(.scb, SCB.CTRL_EN, 1), (.scb, SCB.POS_ARRAY, 1727), (.scb, SCB.POS_WORD, 4095)])), by decide +kernel⟩,
    ⟨((upWith (clu0 ++ [(.scb, SCB.CTRL_EN, 1), (.scb, SCB.POS_ARRAY, 15)])).modLane 0 fun h => { h with st := .test }), by decide +kernel⟩,
    ⟨{ upWith [(.scb, SCB.CTRL_EN, 1)] with dclk := 10000000000000 }, .sramScrub, by decide +kernel⟩,
    ⟨up, .codecJob, by decide +kernel⟩⟩

theorem wit_Boot :
    (∃ (s : State), (s.devUp = true) ∧ (s.booting = true) ∧ (s.stage ≠ 3) ∧ (s.rd .core CORE.BOOT_STAT_SRC = 0) ∧ (s.cores.bootsel ≠ 2)) ∧
    (∃ (s : State), (s.devUp = true) ∧ (s.booting = true) ∧ (s.stage ≠ 3) ∧ (s.rd .core CORE.BOOT_STAT_SRC = 0) ∧ (s.cores.bootsel = 2)) ∧
    (∃ (s : State) (l : List Byte) (nn off : Nat), (s.devUp = true) ∧ (s.stage ≤ 2) ∧ (s.rd .core CORE.BOOT_STAT_SRC = 0) ∧ (s.cores.bootsel ≠ 2) ∧ (s.headerFails (l.take 512) = some (nn, off))) ∧
    (∃ (s : State), (s.devUp = true) ∧ (s.stage ≤ 2) ∧ (s.cores.needTrain = false) ∧ (s.ddrState = ddrActive) ∧ (s.rd .core CORE.BOOT_STAT_SRC = 0) ∧ (s.cores.bootsel ≠ 2)) ∧
    (∃ (s : State), (s.devUp = true) ∧ (s.stage ≤ 2) ∧ (s.cores.needTrain = true) ∧ (s.rd .core CORE.BOOT_STAT_SRC = 0) ∧ (s.cores.bootsel ≠ 2)) ∧
    (∃ (s : State), (s.devUp = true) ∧ (s.stage = 4) ∧ (s.rd .core CORE.BOOT_STAT_SRC = 0) ∧ (s.cores.bootsel ≠ 2)) ∧
    (∃ (s : State), (s.devUp = true) ∧ (s.stage ≤ 2) ∧ (s.rd .core CORE.BOOT_STAT_SRC = 1) ∧ (s.cores.image.length < 512)) ∧
    (∃ (s : State) (req : Req), (s.open_ req .core = true) ∧ (s.booting = true) ∧ (s.rd .core CORE.BOOT_STAT_SRC = 1) ∧ (s.cores.push.length + 4 ≤ 4096)) ∧
    (∃ (s : State) (req : Req), (s.open_ req .core = true) ∧ (s.booting = true) ∧ (s.rd .core CORE.BOOT_STAT_SRC = 1) ∧ (4096 < s.cores.push.length + 4)) ∧
    (∃ (s : State) (req : Req), (s.open_ req .core = true) ∧ (s.stage = 7 ∨ s.stage = 1) ∧ (s.cores.bootsel < 3)) ∧
    (∃ (s : State) (req : Req), (s.open_ req .core = true) ∧ (s.stage ≠ 7) ∧ (s.stage ≠ 1)) ∧
    (∃ (s : State) (stops : List (BitVec 3 × BitVec 3)) (eyes : List (List (BitVec 16 × BitVec 16))), (s.devUp = true) ∧ (s.stage = 3) ∧ (s.ddrState = ddrTraining) ∧ (stops.length = 4) ∧ (eyes.length = 4) ∧ (((trainResults stops eyes).all fun r => trainFails r == none) = true)) ∧
    (∃ (s : State) (stop : BitVec 3 × BitVec 3) (stops : List (BitVec 3 × BitVec 3)) (eye : List (BitVec 16 × BitVec 16)) (eyes : List (List (BitVec 16 × BitVec 16))) (step lane : Nat), (s.devUp = true) ∧ (s.stage = 3) ∧ (s.ddrState = ddrTraining) ∧ (stops.length = 3) ∧ (eyes.length = 3) ∧ (trainFails (stop.1, stop.2, eye) = some (step, lane)) ∧ (s.cores.bootsel ≠ 2)) ∧
    (∃ (eyes : List (BitVec 16 × BitVec 16)) (b : Fin 5), ((eyes.getD b.val (0, 0)).1.toNat < 300) ∧ ((∀ j, j < b.val → 300 ≤ (eyes.getD j (0, 0)).1.toNat))) ∧
    (∃ (step : BitVec 3), (step ≠ 0)) :=
  ⟨⟨(upWith [(.core, CORE.BOOT_STAT_STAGE, 2)]), by decide +kernel⟩,
    ⟨{ upWith [(.core, CORE.BOOT_STAT_STAGE, 2)] with cores := { bootsel := 2 } }, by decide +kernel⟩,
    ⟨(upWith [(.core, CORE.BOOT_STAT_STAGE, 2)]), badImg, 0x20, 0, by decide +kernel⟩,
    ⟨{ upWith [(.core, CORE.BOOT_STAT_STAGE, 2), (.ddr, HDR.PG_STAT_STATE, 2)] with cores := { needTrain := false } }, by decide +kernel⟩,
    ⟨(upWith [(.core, CORE.BOOT_STAT_STAGE, 2)]), by decide +kernel⟩,
    ⟨{ upWith [(.core, CORE.BOOT_STAT_STAGE, 4)] with cores := { bootHdr := [0, 0, 0, 0, 0, 0, 0, 0, 0, 0, 0, 0, 64] } }, by decide +kernel⟩,
    ⟨{ upWith [(.core, CORE.BOOT_STAT_STAGE, 1), (.core, CORE.BOOT_STAT_SRC, 1)] with cores := { image := badImg.drop 1 } }, by decide +kernel⟩,
    ⟨(upWith [(.core, CORE.BOOT_STAT_STAGE, 1), (.core, CORE.BOOT_STAT_SRC, 1)]), .host, by decide +kernel⟩,
    ⟨{ upWith [(.core, CORE.BOOT_STAT_STAGE, 1), (.core, CORE.BOOT_STAT_SRC, 1)] with cores := { push := List.replicate 4096 0 } }, .host, by decide +kernel⟩,
    ⟨(upWith [(.core, CORE.BOOT_STAT_STAGE, 7), (.cdc, CDC.PRESET_VALID, 6)]), .host, by decide +kernel⟩,
    ⟨(upWith [(.core, CORE.BOOT_STAT_STAGE, 6)]), .host, by decide +kernel⟩,
    ⟨{ upWith [(.core, CORE.BOOT_STAT_STAGE, 3), (.ddr, HDR.PG_STAT_STATE, 1)] with cores := { bootHdr := aHdr } }, (List.replicate 4 (0, 0)), (List.replicate 4 goodEyes), by decide +kernel⟩,
    ⟨{ upWith [(.core, CORE.BOOT_STAT_STAGE, 3), (.ddr, HDR.PG_STAT_STATE, 1)] with cores := { bootHdr := aHdr } }, (3, 4), (List.replicate 3 (0, 0)), [], (List.replicate 3 goodEyes), 3, 4, by decide +kernel⟩,
    ⟨[(300, 0), (299, 400)], 1, by decide +kernel⟩,
    ⟨3, by decide +kernel⟩⟩

theorem wit_HartsAndWatchdogs :
    (∃ (s : State) (data : Word), (s.open_ .safe .core = true) ∧ (bits data.toNat 7 4 = 0) ∧ (s.rd .core CORE.HART_STAT_WDT_HALT = 0)) ∧
    (∃ (s : State) (req : Req), (s.open_ req .core = true) ∧ (req ≠ .safe)) ∧
    (∃ (s : State) (data : Word) (k : Fin 4), (s.open_ .safe .core = true) ∧ (bit data.toNat (4 + k.val) = true)) ∧
    (∃ (s : State), (s.devUp = true)) ∧
    (∃ (s : State), (s.devUp = true)) ∧
    (∃ (s : State) (req : Req) (k : Fin 5), (s.open_ req .core = true) ∧ (k ≠ 4 ∨ req = .safe) ∧ (s.wdtDue k = false)) ∧
    (∃ (s : State) (req : Req) (k : Fin 4), (s.open_ req .core = true) ∧ (s.wdtDue k.castSucc = true) ∧ (s.dclk < s.cores.kicked[k.castSucc] + 500 * s.rd .core CORE.WDT_TIMEOUT k.val + 2)) ∧
    (∃ (s : State) (req : Req) (k : Fin 5) (key : BitVec 8), (s.open_ req .core = true) ∧ (k ≠ 4 ∨ req = .safe) ∧ (key ≠ 0xA5)) ∧
    (∃ (s : State) (req : Req), (s.open_ req .core = true) ∧ (req ≠ .safe)) ∧
    (∃ (s : State) (k : Fin 4), (s.devUp = true) ∧ (s.on .core CORE.WDT_EN k.val = true) ∧ (s.cores.expired[k.castSucc] = false) ∧ (s.cores.kicked[k.castSucc] + s.rd .core CORE.WDT_TIMEOUT k.val * 500 ≤ s.dclk)) ∧
    (∃ (s : State), (s.devUp = true) ∧ (s.on .core CORE.WDT_EN 4 = true) ∧ (s.cores.expired[4] = false) ∧ (s.cores.kicked[4] + s.rd .core CORE.WDT4_TIMEOUT * 500 ≤ s.dclk)) ∧
    (∃ (s : State) (k : Fin 4), (s.devUp = true) ∧ (s.on .core CORE.WDT_EN k.val = true) ∧ (s.cores.expired[k.castSucc] = true) ∧ (s.cores.kicked[k.castSucc] + 625 * s.rd .core CORE.WDT_TIMEOUT k.val ≤ s.dclk) ∧ (s.den.queue = []) ∧ (s.den.tokens ≠ 0) ∧ (s.den.dropped = 0) ∧ (s.rd .den HDR.PG_STAT_STATE ≠ 1 ∨ s.den.cur.isSome = true)) :=
  ⟨⟨up, 0x0000000B, by decide +kernel⟩,
    ⟨up, .host, by decide +kernel⟩,
    ⟨(upWith [(.core, CORE.HART_STAT_WDT_HALT, 2)]), 0x22, 1, by decide +kernel⟩,
    ⟨(upWith [(.core, CORE.HART_CTRL_RUN, 15), (.core, CORE.HART_STAT_RUNNING, 15)]), by decide +kernel⟩,
    ⟨(upWith [(.core, CORE.HART_STAT_SAFE_RUN, 1)]), by decide +kernel⟩,
    ⟨up, .host, 3, by decide +kernel⟩,
    ⟨(wdtUp 3 50001 false), .host, 3, by decide +kernel⟩,
    ⟨up, .host, 3, 0xA4, by decide +kernel⟩,
    ⟨up, .host, by decide +kernel⟩,
    ⟨(wdtUp 3 50000 false), 3, by decide +kernel⟩,
    ⟨(wdtUp 4 50000 false), by decide +kernel⟩,
    ⟨(wdtUp 3 62500 true), 3, by decide +kernel⟩⟩

theorem wit_Mailbox :
    (∃ (s : State) (req : Req) (h2c : Bool) (len : BitVec 9), (s.open_ req .core = true) ∧ (Req.hostSide req = h2c) ∧ (s.on .core (mbxFull h2c) = false) ∧ (len.toNat ≤ 256)) ∧
    (∃ (s : State) (req : Req) (h2c : Bool), (s.open_ req .core = true) ∧ (Req.hostSide req = h2c) ∧ (s.on .core (mbxFull h2c) = true)) ∧
    (∃ (s : State) (req : Req) (h2c : Bool) (len : BitVec 9), (s.open_ req .core = true) ∧ (Req.hostSide req = h2c) ∧ (s.on .core (mbxFull h2c) = false) ∧ (256 < len.toNat)) ∧
    (∃ (s : State) (req : Req) (h2c : Bool), (s.open_ req .core = true) ∧ (Req.hostSide req = !h2c) ∧ (s.on .core (mbxFull h2c) = true) ∧ (s.rd .core (mbxLen h2c) ≤ 256)) ∧
    (∃ (s : State), (s.fwReady = true) ∧ (s.msgType = 0x0001)) ∧
    (∃ (s : State), (s.fwReady = true) ∧ (s.msgType = 0x0020) ∧ (s.cores.ptp = none)) ∧
    (∃ (s : State), (s.fwReady = true) ∧ (s.msgType = 0x0020) ∧ (s.cores.ptp.isSome = true) ∧ (s.on .tim TIM.SERVO_CTRL_EN = true) ∧ (s.servo ≠ svFree)) ∧
    (∃ (s : State), (s.fwReady = true) ∧ (s.msgType = 0x0021)) ∧
    (∃ (s : State), (s.fwReady = true) ∧ (s.msgType ≠ 0x0001) ∧ (s.msgType ≠ 0x0020) ∧ (s.msgType ≠ 0x0021)) :=
  ⟨⟨up, .host, true, 256, by decide +kernel⟩,
    ⟨(upWith [(.core, CORE.MBX_H2C_CTRL_FULL, 1)]), .host, true, by decide +kernel⟩,
    ⟨up, .host, true, 257, by decide +kernel⟩,
    ⟨(upWith [(.core, CORE.MBX_H2C_CTRL_FULL, 1), (.core, CORE.MBX_H2C_CTRL_LEN, 256)]), (.app 2), true, by decide +kernel⟩,
    ⟨(fwUp 0x12340001), by decide +kernel⟩,
    ⟨(fwUp 0x12340020), by decide +kernel⟩,
    ⟨{ setF (fwUp 0x12340020) [(.tim, TIM.SERVO_CTRL_EN, 1), (.tim, HDR.PG_STAT_STATE, 3)] with cores := { ptp := some { port := 0, profile := 0, transport := 0, domain := 0, mac := 0 } } }, by decide +kernel⟩,
    ⟨(setF (fwUp 0xFFFF0021) [(.tim, TIM.LAST_OFS, 0xFFFFFFFFFFFE)]), by decide +kernel⟩,
    ⟨(fwUp 0x12340099), by decide +kernel⟩⟩

theorem wit_Wakes :
    (∃ (s : State), (s.power.dev = .off)) ∧
    (∃ (s : State), (s.power.dev ≠ .off)) ∧
    (∃ (s : State), (s.power.dev = .sett) ∧ (s.power.wake = .pgood0) ∧ (5000 ≤ s.power.penFor)) ∧
    (∃ (s : State), (s.power.dev = .sett) ∧ (s.power.wake = .pgood1) ∧ (5000 ≤ s.power.penFor)) ∧
    (∃ (s : State), (s.power.penFor < 5000)) ∧
    (∃ (s : State), (s.power.dev = .sett) ∧ (s.power.wake = .plls) ∧ (s.power.warm = false) ∧ (s.power.pendFault = 0) ∧ (s.power.spit = none) ∧ (s.cores.bootsel = 0) ∧ (s.ddrState ≠ ddrActive)) ∧
    (∃ (s : State), (s.power.dev = .sett) ∧ (s.power.wake = .none) ∧ ((s.rd .aon AON.WAKE_EN).testBit 8 = true)) ∧
    (∃ (s : State), (s.power.dev = .sett) ∧ (s.power.wake = .none) ∧ ((s.rd .aon AON.WAKE_EN).testBit 9 = true)) ∧
    (∃ (s : State), ((s.rd .aon AON.WAKE_EN).testBit 8 = false)) ∧
    (∃ (s : State), (s.power.dev ≠ .off) ∧ (s.on .aon AON.ALARM_CTRL = true) ∧ (s.rd .aon AON.RTC_SEC = s.rd .aon AON.ALARM_SEC) ∧ (s.rd .aon AON.RTC_SUB = 0) ∧ ((s.rd .aon AON.WAKE_EN).testBit 0 = false)) ∧
    (∃ (s : State), (s.power.dev = .sett) ∧ (s.power.wake = .none) ∧ (s.on .aon AON.ALARM_CTRL = true) ∧ (s.rd .aon AON.RTC_SEC = s.rd .aon AON.ALARM_SEC) ∧ (s.rd .aon AON.RTC_SUB = 0) ∧ ((s.rd .aon AON.WAKE_EN).testBit 0 = true)) ∧
    (∃ (s : State) (k : Fin 6) (v held : BitVec 8), (s.power.dev = .idle) ∧ (s.on .aon AON.CMP_CTRL_EN k.val = true) ∧ (s.on .aon AON.CMP_CTRL_OUT k.val = false) ∧ (s.rd .aon AON.CMP_CTRL_ACTION k.val = 1) ∧ (s.cmpRaw k v.toNat = true) ∧ (s.rd .aon AON.CMP_CTRL_DEBOUNCE k.val ≤ held.toNat)) ∧
    (∃ (s : State) (k : Fin 6) (v held : BitVec 8), (s.power.dev ≠ .off) ∧ (s.on .aon AON.CMP_CTRL_EN k.val = true) ∧ (s.cmpRaw k v.toNat = false) ∧ (s.rd .aon AON.CMP_CTRL_DEBOUNCE k.val ≤ held.toNat)) ∧
    (∃ (s : State) (k : Fin 6) (held : BitVec 8), (s.power.dev ≠ .off) ∧ (s.on .aon AON.CMP_CTRL_EN k.val = true) ∧ (held.toNat < s.rd .aon AON.CMP_CTRL_DEBOUNCE k.val)) ∧
    (∃ (s : State), (s.devUp = true) ∧ (s.on .pci PCI.LINK_UP = true)) :=
  ⟨⟨State.reset, by decide +kernel⟩,
    ⟨(inDev .ready []), by decide +kernel⟩,
    ⟨(penned (waking .pgood0 [])), by decide +kernel⟩,
    ⟨(penned (waking .pgood1 [])), by decide +kernel⟩,
    ⟨(waking .pgood1 []), by decide +kernel⟩,
    ⟨(waking .plls [(.aon, AON.RTC_SEC, 7), (.aon, AON.RTC_SUB, 16384)]), by decide +kernel⟩,
    ⟨(inDev .sett []), by decide +kernel⟩,
    ⟨(inDev .sett []), by decide +kernel⟩,
    ⟨(inDev .sett [(.aon, AON.WAKE_EN, 0x400)]), by decide +kernel⟩,
    ⟨(inDev .print [(.aon, AON.ALARM_CTRL, 1), (.aon, AON.RTC_SEC, 9), (.aon, AON.ALARM_SEC, 9)]), by decide +kernel⟩,
    ⟨(inDev .sett [(.aon, AON.ALARM_CTRL, 1), (.aon, AON.WAKE_EN, 0x401)]), by decide +kernel⟩,
    ⟨(inDev .idle [(.aon, AON.CMP_CTRL_EN, 1), (.aon, AON.CMP_CTRL_ACTION, 1), (.aon, AON.CMP_CTRL_DAC, 9)]), 0, 10, 7, by decide +kernel⟩,
    ⟨(inDev .idle [(.aon, AON.CMP_CTRL_EN, 1), (.aon, AON.CMP_CTRL_OUT, 1), (.aon, AON.CMP_CTRL_DAC, 9)]), 0, 9, 7, by decide +kernel⟩,
    ⟨(inDev .idle [(.aon, AON.CMP_CTRL_EN, 1), (.aon, AON.CMP_CTRL_DEBOUNCE, 3)]), 0, 2, by decide +kernel⟩,
    ⟨(inDev .idle [(.pci, PCI.LINK_UP, 1), (.pci, PCI.LINK_SPEED, 4)]), by decide +kernel⟩⟩

theorem wit_FatalCauses :
    (∃ (s : State), (s.power.dev = .sett) ∧ (s.power.wake = .pgood0) ∧ (250000 ≤ s.power.penFor)) ∧
    (∃ (s : State), (s.power.dev = .sett) ∧ (s.power.wake = .pgood1) ∧ (125000 ≤ s.power.penFor)) ∧
    (∃ (s : State), (s.devUp = true) ∧ (s.power.dev ≠ .fault) ∧ (s.on .pwr HDR.PG_STAT_FAULT = false) ∧ (s.power.pgood0 = true) ∧ (s.power.pen0 = true)) ∧
    (∃ (s : State), (s.devUp = true) ∧ (s.power.dev ≠ .fault) ∧ (s.on .pwr PWR.FAULT_CAUSE_TJ_SHUT = false) ∧ (s.rdS .pwr PWR.TJ_LIM_TJ_SHUT ≤ s.rdS .pwr PWR.TJ)) ∧
    (∃ (s : State) (k : Fin 6) (v held : BitVec 8), (s.devUp = true) ∧ (s.power.dev ≠ .fault) ∧ (s.on .aon AON.CMP_CTRL_EN k.val = true) ∧ (s.on .aon AON.CMP_CTRL_OUT k.val = false) ∧ (s.rd .aon AON.CMP_CTRL_ACTION k.val = 3) ∧ (s.cmpRaw k v.toNat = true) ∧ (s.rd .aon AON.CMP_CTRL_DEBOUNCE k.val ≤ held.toNat)) ∧
    (∃ (s : State) (k : Fin 6) (v held : BitVec 8), (s.power.dev = .sett) ∧ (s.power.wake = .none) ∧ (s.on .aon AON.CMP_CTRL_EN k.val = true) ∧ (s.on .aon AON.CMP_CTRL_OUT k.val = false) ∧ (s.rd .aon AON.CMP_CTRL_ACTION k.val = 3) ∧ (s.cmpRaw k v.toNat = true) ∧ (s.rd .aon AON.CMP_CTRL_DEBOUNCE k.val ≤ held.toNat)) ∧
    (∃ (s : State), (s.devUp = true) ∧ (s.rdS .pwr PWR.TJ_LIM_TJ_WARN ≤ s.rdS .pwr PWR.TJ)) ∧
    (∃ (s : State), (s.devUp = true) ∧ (s.bist.run = none)) :=
  ⟨⟨(penned (waking .pgood0 [])), by decide +kernel⟩,
    ⟨(penned (waking .pgood1 [])), by decide +kernel⟩,
    ⟨{ inDev .print clu0 with power := { dev := .print, pgood0 := true, pen0 := true } }, by decide +kernel⟩,
    ⟨(inDev .toIdle [(.pwr, PWR.TJ, 0x1CC), (.cpwr 0, CPWR.STAT_HVEN, 1), (.cpwr 0, CPWR.STAT_DOM_UP, 1)]), by decide +kernel⟩,
    ⟨(inDev .idle [(.aon, AON.CMP_CTRL_EN, 1), (.aon, AON.CMP_CTRL_ACTION, 3)]), 0, 255, 255, by decide +kernel⟩,
    ⟨(inDev .sett [(.aon, AON.CMP_CTRL_EN, 1), (.aon, AON.CMP_CTRL_ACTION, 3), (.aon, AON.CMP_CTRL_POL, 1), (.aon, AON.CMP_CTRL_DAC, 9)]), 0, 8, 255, by decide +kernel⟩,
    ⟨(inDev .idle [(.pwr, PWR.TJ, 0x1A4)]), by decide +kernel⟩,
    ⟨(inDev .idle []), by decide +kernel⟩⟩

theorem wit_Requests :
    (∃ (s : State) (req : Req), (s.open_ req .pwr = true) ∧ (s.power.dev = .idle)) ∧
    (∃ (s : State) (req : Req), (s.open_ req .pwr = true) ∧ (s.power.dev = .idle) ∧ (s.ddrState = ddrActive) ∧ (s.bist.run = none)) ∧
    (∃ (s : State) (req : Req), (s.open_ req .pwr = true) ∧ (s.power.dev = .idle)) ∧
    (∃ (s : State) (req : Req), (s.open_ req .pwr = true) ∧ ((s.power.dev = .toReady ∨ s.power.dev = .ready)) ∧ (s.allOff = false)) ∧
    (∃ (s : State) (req : Req), (s.open_ req .pwr = true) ∧ (s.power.dev = .ready) ∧ (s.allOff = false)) ∧
    (∃ (s : State) (req : Req), (s.open_ req .pwr = true) ∧ ((s.power.dev = .toReady ∨ s.power.dev = .ready ∨ s.power.dev = .print))) ∧
    (∃ (s : State) (req : Req), (s.open_ req .pwr = true) ∧ (s.power.dev = .toIdle)) ∧
    (∃ (s : State) (req : Req), (s.open_ req .pwr = true) ∧ (s.power.dev = .toSett) ∧ (s.power.sreIssued = true)) ∧
    (∃ (s : State) (req : Req), (s.open_ req .pwr = true) ∧ (s.power.dev = .toSett) ∧ (s.power.sreIssued = false)) ∧
    (∃ (s : State) (req : Req), (s.open_ req .pwr = true) ∧ (s.power.dev = .fault) ∧ (s.fatalCauses = 0) ∧ (s.hvpgs = 0)) ∧
    (∃ (s : State) (req : Req), (s.open_ req .pwr = true) ∧ (s.power.dev = .fault) ∧ (s.fatalCauses ≠ 0 ∨ s.hvpgs ≠ 0)) ∧
    (∃ (s : State) (req : Req), (s.open_ req .pwr = true) ∧ (s.power.dev = .print)) ∧
    (∃ (s : State) (req : Req), (s.open_ req .pwr = true) ∧ ((s.power.dev = .toReady ∨ s.power.dev = .print ∨ s.power.dev = .fault))) ∧
    (∃ (s : State) (req : Req), (s.open_ req .pwr = true) ∧ ((s.power.dev = .toIdle ∨ s.power.dev = .toSett ∨ s.power.dev = .fault))) ∧
    (∃ (s : State), (s.power.dev = .sett) ∧ (s.power.wake ≠ .none)) :=
  ⟨⟨(inDev .idle [(.sys, SYS.DEV_ID_CL_MASK, 255), (.pwr, PWR.CLU_SEL, 0xF1)]), (.app 1), by decide +kernel⟩,
    ⟨(inDev .idle [(.ddr, HDR.PG_STAT_STATE, 2)]), .host, by decide +kernel⟩,
    ⟨(inDev .idle []), .host, by decide +kernel⟩,
    ⟨(inDev .ready clu0), .host, by decide +kernel⟩,
    ⟨(inDev .ready (clu0 ++ [(.cpwr 0, CPWR.STAT_HVEN, 1)])), .host, by decide +kernel⟩,
    ⟨(inDev .print []), .host, by decide +kernel⟩,
    ⟨(inDev .toIdle []), .host, by decide +kernel⟩,
    ⟨{ up with power := { dev := .toSett, sreIssued := true } }, .host, by decide +kernel⟩,
    ⟨{ up with power := { dev := .toSett }, ddr := { forSett := true } }, .host, by decide +kernel⟩,
    ⟨(inDev .fault clu0), .host, by decide +kernel⟩,
    ⟨(inDev .fault [(.pwr, PWR.FAULT_CAUSE_CMP, 1)]), .host, by decide +kernel⟩,
    ⟨(inDev .print []), .host, by decide +kernel⟩,
    ⟨(inDev .fault []), .host, by decide +kernel⟩,
    ⟨(inDev .fault []), .host, by decide +kernel⟩,
    ⟨(waking .plls []), by decide +kernel⟩⟩

theorem wit_ClusterPower :
    (∃ (s : State) (c : Clu) (code : BitVec 16), (s.power.dev = .toReady) ∧ (s.power.sel.testBit c.val = true) ∧ (s.domUp c = false) ∧ (s.power.domOn = none) ∧ (calInRange 6 code.toNat = true)) ∧
    (∃ (s : State) (c : Clu), (s.power.dev = .toReady) ∧ (s.clusters[c].phase = .links) ∧ (s.hvMay c = true)) ∧
    (∃ (s : State) (c : Clu), (s.power.dev = .toReady) ∧ (s.on (.cpwr c) CPWR.STAT_HVPG = false) ∧ (s.clusters[c].phase = .hv) ∧ (s.intake.pages = [])) ∧
    (∃ (s : State) (c : Clu), (s.devUp = true) ∧ (s.power.dev ≠ .ready) ∧ (s.power.dev ≠ .print) ∧ (s.clusters[c].phase = .hv) ∧ (s.clusters[c].hvenAt + s.rd (.cpwr c) CPWR.HV_TIME_HV_TMO * 500000 ≤ s.dclk)) ∧
    (∃ (s : State) (c : Clu), (s.power.dev = .ready ∨ s.power.dev = .print) ∧ (s.clusters[c].phase = .hv) ∧ (s.clusters[c].retry = false) ∧ (s.clusters[c].hvenAt + s.rd (.cpwr c) CPWR.HV_TIME_HV_TMO * 500000 ≤ s.dclk)) ∧
    (∃ (s : State) (c : Clu), (s.devUp = true) ∧ (s.on (.cpwr c) CPWR.STAT_HVEN = true) ∧ (s.on (.cpwr c) CPWR.STAT_HVPG = true) ∧ ((∀ l ∈ Clu.lanes c, s.lanes[l].st = .off))) ∧
    (∃ (s : State) (c : Clu), (s.devUp = true) ∧ (s.power.dev ≠ .fault) ∧ (s.on (.cpwr c) CPWR.STAT_HVPG = true) ∧ (s.on (.cpwr c) CPWR.STAT_HVEN = false) ∧ (s.clusters[c].phase = .fall)) ∧
    (∃ (s : State) (c : Clu), (s.power.dev = .ready ∨ s.power.dev = .print) ∧ (s.clusters[c].phase = .failed) ∧ (s.hvMay c = true) ∧ (s.clusters[c].tryAt ≤ s.dclk)) ∧
    (∃ (s : State) (c : Clu), (s.power.dev = .ready ∨ s.power.dev = .print) ∧ (s.dclk < s.clusters[c].tryAt)) ∧
    (∃ (s : State) (c : Clu), (s.power.dev = .toIdle) ∧ (s.clusters[c].phase = .discharge) ∧ (s.domUp c = true) ∧ (s.clusters[c].fellAt + s.rd (.cpwr c) CPWR.HV_TIME_HV_DIS_MS * 500000 ≤ s.dclk) ∧ (s.bist.run = none) ∧ ((∀ l ∈ Clu.lanes c, s.lanes[l].st = .off))) ∧
    (∃ (s : State), (s.power.dev = .toReady) ∧ (s.power.sel = 0) ∧ (s.power.spit = none) ∧ (s.anyRun = false) ∧ (s.power.readyFrom + (40 + s.power.readyTmo) * 500000 ≤ s.dclk)) ∧
    (∃ (s : State), (s.power.dev = .toReady) ∧ (s.power.sel = 1) ∧ (s.power.spit = none) ∧ (s.anyRun = false) ∧ (s.power.readyFrom + (40 + s.power.readyTmo) * 500000 ≤ s.dclk) ∧ (s.clusters[(0 : Clu)].phase = .links) ∧ (s.linksUp 0 = false)) ∧
    (∃ (s : State), (s.power.dev = .ready) ∧ (s.rd .pwr PWR.READY_POL ≠ 0) ∧ (s.intake.pages = []) ∧ (s.allOff = false) ∧ (s.power.calm = true) ∧ (s.power.calmFrom + 500000000 * s.rd .pwr PWR.READY_POL ≤ s.dclk)) ∧
    (∃ (s : State) (c : Clu), (s.devUp = true) ∧ (s.domUp c = true) ∧ (s.on (.cpwr c) CPWR.STAT_DLL_LOCK = true) ∧ (s.bist.run = none)) :=
  ⟨⟨{ inDev .toReady [] with power := { dev := .toReady, sel := 1 }, dclk := 5 }, 0, 100, by decide +kernel⟩,
    ⟨(cluAt .toReady .links 9 []), 0, by decide +kernel⟩,
    ⟨(cluAt .toReady .hv 9 []), 0, by decide +kernel⟩,
    ⟨(cluAt .toReady .hv 900000000 []), 0, by decide +kernel⟩,
    ⟨(cluAt .ready .hv 900000000 []), 0, by decide +kernel⟩,
    ⟨(cluAt .ready .ready 9 [(.cpwr 0, CPWR.STAT_HVEN, 1), (.cpwr 0, CPWR.STAT_HVPG, 1)]), 0, by decide +kernel⟩,
    ⟨(cluAt .toIdle .fall 9 [(.cpwr 0, CPWR.STAT_HVPG, 1)]), 0, by decide +kernel⟩,
    ⟨(cluAt .print .failed 9 []), 0, by decide +kernel⟩,
    ⟨{ (cluAt .ready .failed 9 []).modClu 0 (fun h => { h with tryAt := 10 }) with dclk := 9 }, 0, by decide +kernel⟩,
    ⟨(cluAt .toIdle .discharge 90000000000 []), 0, by decide +kernel⟩,
    ⟨{ inDev .toReady [] with dclk := 900000000 }, by decide +kernel⟩,
    ⟨(cluAt .toReady .links 900000000 [(.vnl 3, HDR.PG_CTRL_EN, 1)]), by decide +kernel⟩,
    ⟨{ inDev .ready (clu0 ++ [(.pwr, PWR.READY_POL, 1)]) with power := { dev := .ready, calm := true }, dclk := 500000000 }, by decide +kernel⟩,
    ⟨((cluAt .ready .ready 9 []).modLane 3 fun h => { h with st := .idle }), 0, by decide +kernel⟩⟩

theorem wit_SleepAndSupplies :
    (∃ (s : State), (s.power.dev = .idle) ∧ (s.on .pwr PWR.SLEEP_POL_AUTO_EN = true) ∧ (s.power.grace = false) ∧ (s.maySleep = true) ∧ (s.power.sleepSees = 2) ∧ (s.power.sleepFrom + 500000000 * s.rd .pwr PWR.SLEEP_POL_IDLE_S ≤ s.dclk)) ∧
    (∃ (s : State), (s.power.dev = .idle) ∧ (s.on .pwr PWR.SLEEP_POL_AUTO_EN = true) ∧ (s.power.grace = false) ∧ (s.maySleep = false) ∧ (s.power.sleepSees = 1) ∧ (s.power.sleepFrom + 500000000 * s.rd .pwr PWR.SLEEP_POL_IDLE_S ≤ s.dclk)) ∧
    (∃ (s : State), (s.power.sleepSees ≠ s.sleepSight) ∧ (s.rd .pwr PWR.SLEEP_POL_IDLE_S ≠ 0)) ∧
    (∃ (s : State), (s.power.dev = .idle) ∧ (s.power.grace = true) ∧ (s.ddrState = ddrActive) ∧ (s.power.graceFrom + 5000000 * s.rd .pwr PWR.SLEEP_POL_GRACE ≤ s.dclk)) ∧
    (∃ (s : State), (s.power.dev = .idle) ∧ (s.power.grace = false)) ∧
    (∃ (s : State), (s.power.dev = .toSett) ∧ (s.ddrState = ddrSelf) ∧ (s.power.wakeHeld = false)) ∧
    (∃ (s : State), (s.power.dev = .toSett) ∧ (s.ddrState = ddrSelf) ∧ (s.power.wakeHeld = true)) ∧
    (∃ (s : State), (s.power.dev ≠ .off)) ∧
    (∃ (s : State), (s.power.dev ≠ .off)) ∧
    (∃ (s : State) (sec sub : Nat), (s.power.rtcLoad = some (sec, sub))) ∧
    (∃ (s : State), (s.power.dev = .idle) ∧ (s.ddrState = ddrActive) ∧ (s.on .ddr DDR.SR_CTRL_AUTO_EN = true) ∧ (s.cal.runs = []) ∧ (s.ddr.queue = []) ∧ (s.ddr.window = []) ∧ (s.ddr.lastReq + 500 * s.rd .ddr DDR.SR_CTRL_AUTO_US ≤ s.dclk)) ∧
    (∃ (s : State) (c : Clu), (s.devUp = true) ∧ (s.domUp c = true) ∧ (s.clusters[c].opTo = none) ∧ (s.clusters[c].opWas = none) ∧ (s.opTarget c < s.rd (.cpwr c) CPWR.STAT_OP_ACT) ∧ (s.opKeeps c (s.opTarget c) = true) ∧ (s.pageNames c = false)) ∧
    (∃ (s : State) (c : Clu), (s.devUp = true) ∧ (s.domUp c = true) ∧ (s.clusters[c].opTo = none) ∧ (s.clusters[c].opWas = none) ∧ (s.rd (.cpwr c) CPWR.STAT_OP_ACT < s.opTarget c) ∧ (s.opTarget c < 4) ∧ (s.opKeeps c (s.opTarget c) = true) ∧ (s.pageNames c = false) ∧ (s.cal.runs = [])) ∧
    (∃ (s : State) (c : Clu), (s.devUp = true) ∧ (s.domUp c = true) ∧ (s.clusters[c].opTo = none) ∧ (s.clusters[c].opWas = none) ∧ (s.opTarget c ≠ s.rd (.cpwr c) CPWR.STAT_OP_ACT) ∧ (s.opKeeps c (s.opTarget c) = false)) ∧
    (∃ (s : State) (c : Clu), (s.devUp = true) ∧ (s.domUp c = true) ∧ (s.clusters[c].opTo = none) ∧ (s.clusters[c].opWas = none) ∧ (s.opTarget c ≠ s.rd (.cpwr c) CPWR.STAT_OP_ACT) ∧ (s.opKeeps c (s.opTarget c) = true) ∧ (s.pageNames c = true)) ∧
    (∃ (s : State) (c : Clu) (op : Nat), (s.clusters[c].opTo = some op) ∧ (s.devUp = true) ∧ (s.cal.runs = []) ∧ (op < 4) ∧ (s.rd (.cpwr c) CPWR.STAT_OP_ACT ≠ op) ∧ (s.opKeeps c op = true)) ∧
    (∃ (s : State) (c : Clu) (op : Nat), (s.clusters[c].opTo = some op) ∧ (s.devUp = true) ∧ (s.rd (.cpwr c) CPWR.STAT_OP_ACT = op)) ∧
    (∃ (s : State) (c : Clu) (op : Nat), (s.clusters[c].opTo = some op) ∧ (s.devUp = true) ∧ (s.rd (.cpwr c) CPWR.STAT_OP_ACT ≠ op) ∧ (s.opKeeps c op = false)) ∧
    (∃ (s : State), (s.devUp = true) ∧ (s.on .pmb HDR.PG_CTRL_EN = true) ∧ (s.power.pmb = [])) ∧
    (∃ (s : State) (r : Fin 16) (n : Nat) (st : BitVec 16), (s.power.pmb = [(r.val, n)]) ∧ (s.devUp = true) ∧ ((statusFault st.toNat = false ∨ s.on .pmb PMB.RAIL_CFG_CRIT r.val = false))) ∧
    (∃ (s : State) (r : Fin 16) (st : BitVec 16), ((s.power.pmb.find? fun e => e.1 == r.val).isSome = true) ∧ (s.devUp = true) ∧ (s.power.dev ≠ .fault) ∧ (s.on .pmb PMB.RAIL_CFG_CRIT r.val = true) ∧ (statusFault st.toNat = true)) ∧
    (∃ (s : State) (r : Fin 16) (n : Nat), (s.power.pmb = [(r.val, n)]) ∧ (n < 2) ∧ (s.devUp = true)) ∧
    (∃ (s : State) (r : Fin 16), (s.power.pmb = [(r.val, 2)]) ∧ (s.devUp = true) ∧ (s.errorShown .pmb = none) ∧ (s.on .pmb PMB.CTRL_PEC = true) ∧ (s.on .pmb PMB.RAIL_CFG_CRIT r.val = false)) ∧
    (∃ (s : State) (r : Fin 16) (n : Nat), (s.power.pmb = [(r.val, n)]) ∧ (s.devUp = true)) ∧
    (∃ (s : State) (p : Pll), (s.devUp = true) ∧ (s.on .clk (Pll.lockRow p) = true) ∧ (s.power.dev ≠ .print) ∧ (s.bist.run = none)) ∧
    (∃ (s : State) (l : Lane), (s.power.dev = .print) ∧ (s.on .clk CLK.LOCK_FCLK = true) ∧ (s.lanes[l].st = .firing) ∧ (s.awlFull l = false)) :=
  ⟨⟨{ inDev .idle [(.pwr, PWR.SLEEP_POL_AUTO_EN, 1), (.pwr, PWR.SLEEP_POL_IDLE_S, 2)] with power := { dev := .idle, sleepSees := 2 }, dclk := 1000000000 }, by decide +kernel⟩,
    ⟨{ inDev .idle [(.pwr, PWR.SLEEP_POL_AUTO_EN, 1), (.pwr, PWR.SLEEP_POL_IDLE_S, 2), (.core, CORE.MBX_H2C_CTRL_FULL, 1)] with power := { dev := .idle, sleepSees := 1 }, dclk := 1000000000 }, by decide +kernel⟩,
    ⟨{ inDev .idle [(.pwr, PWR.SLEEP_POL_AUTO_EN, 1), (.pwr, PWR.SLEEP_POL_IDLE_S, 2)] with dclk := 1000000000 }, by decide +kernel⟩,
    ⟨{ inDev .idle [(.ddr, HDR.PG_STAT_STATE, 2)] with power := { dev := .idle, grace := true }, dclk := 100000000000 }, by decide +kernel⟩,
    ⟨up, by decide +kernel⟩,
    ⟨{ inDev .toSett [(.ddr, HDR.PG_STAT_STATE, 4), (.aon, AON.RTC_SEC, 77)] with ddr := { mem := [(5, 7)] } }, by decide +kernel⟩,
    ⟨{ inDev .toSett [(.ddr, HDR.PG_STAT_STATE, 4)] with power := { dev := .toSett, wakeHeld := true } }, by decide +kernel⟩,
    ⟨(inDev .sett []), by decide +kernel⟩,
    ⟨(inDev .sett []), by decide +kernel⟩,
    ⟨{ up with power := { dev := .idle, rtcLoad := some (7, 9) } }, 7, 9, by decide +kernel⟩,
    ⟨{ inDev .idle [(.ddr, HDR.PG_STAT_STATE, 2), (.ddr, DDR.SR_CTRL_AUTO_EN, 1)] with dclk := 100000000000 }, by decide +kernel⟩,
    ⟨(cluAt .ready .ready 9 [(.cpwr 0, CPWR.CTRL_OP, 1), (.cpwr 0, CPWR.CTRL_DVFS_AUTO, 0), (.cpwr 0, CPWR.STAT_OP_ACT, 2), (.pace, PACE.PERM, 1000)]), 0, by decide +kernel⟩,
    ⟨(cluAt .ready .ready 9 [(.cpwr 0, CPWR.CTRL_OP, 2), (.pace, PACE.PERM, 1000)]), 0, by decide +kernel⟩,
    ⟨(cluAt .ready .ready 9 [(.cpwr 0, CPWR.CTRL_OP, 2), (.vnl 3, HDR.PG_CTRL_EN, 1), (.vnl 3, VNL.N_EXP, 512), (.pace, PACE.PERM, 1), (.cpwr 0, CPWR.CTRL_DVFS_AUTO, 0)]), 0, by decide +kernel⟩,
    ⟨{ (cluAt .ready .ready 9 [(.cpwr 0, CPWR.CTRL_OP, 2), (.pace, PACE.PERM, 1000), (.pln, PLN.LMAP_EN, 1)]) with intake := { pages := [aPage] } }, 0, by decide +kernel⟩,
    ⟨((cluAt .ready .ready 9 [(.cpwr 0, CPWR.STAT_OP_ACT, 1)]).modClu 0 fun h => { h with opTo := some 0 }), 0, 0, by decide +kernel⟩,
    ⟨((cluAt .ready .ready 9 [(.cpwr 0, CPWR.STAT_OP_ACT, 3)]).modClu 0 fun h => { h with opTo := some 3 }), 0, 3, by decide +kernel⟩,
    ⟨((cluAt .ready .ready 9 [(.vnl 3, HDR.PG_CTRL_EN, 1), (.vnl 3, VNL.N_EXP, 512), (.pace, PACE.PERM, 1), (.cpwr 0, CPWR.STAT_OP_ACT, 1)]).modClu 0 fun h => { h with opTo := some 0 }), 0, 0, by decide +kernel⟩,
    ⟨(inDev .idle [(.pmb, HDR.PG_CTRL_EN, 1), (.pmb, PMB.RAIL_CFG_VALID, 1)]), by decide +kernel⟩,
    ⟨{ up with power := { dev := .idle, pmb := [(4, 1)] } }, 4, 1, 0x40, by decide +kernel⟩,
    ⟨({ inDev .ready [] with power := { dev := .ready, pmb := [(4, 1)] } }.wr .pmb PMB.RAIL_CFG_CRIT 1 4), 4, 0x8000, by decide +kernel⟩,
    ⟨{ up with power := { dev := .idle, pmb := [(4, 1)] } }, 4, 1, by decide +kernel⟩,
    ⟨{ up with power := { dev := .idle, pmb := [(4, 2)] } }, 4, by decide +kernel⟩,
    ⟨{ up with power := { dev := .idle, pmb := [(4, 2)] } }, 4, 2, by decide +kernel⟩,
    ⟨(inDev .idle [(.clk, CLK.LOCK_MCLK, 1)]), .mclk, by decide +kernel⟩,
    ⟨((inDev .print [(.clk, CLK.LOCK_FCLK, 1)]).modLane 3 fun h => { h with st := .firing }), 3, by decide +kernel⟩⟩

theorem wit_KeepWet :
    (∃ (s : State), (s.power.dev ≠ .off) ∧ (s.on .aon AON.SPIT_CTRL_EN = true) ∧ (s.power.spit = none) ∧ (s.rd .aon AON.SPIT_INT_INTERVAL ≤ s.power.dry) ∧ (s.spitSkips = true)) ∧
    (∃ (s : State), (s.power.dev = .sett) ∧ (s.on .aon AON.SPIT_CTRL_EN = true) ∧ (s.power.spit = none) ∧ (s.rd .aon AON.SPIT_INT_INTERVAL ≤ s.power.dry) ∧ (s.spitSkips = false) ∧ ((s.rd .aon AON.WAKE_EN).testBit 1 = true) ∧ (s.power.wake = .none)) ∧
    (∃ (s : State), (s.power.dev = .idle) ∧ (s.on .aon AON.SPIT_CTRL_EN = true) ∧ (s.power.spit = none) ∧ (s.rd .aon AON.SPIT_INT_INTERVAL ≤ s.power.dry) ∧ (s.spitSkips = false) ∧ ((s.rd .pwr PWR.CLU_SEL &&& s.rd .sys SYS.DEV_ID_CL_MASK) % 256 ≠ 0) ∧ (s.allOff = true)) ∧
    (∃ (s : State) (r : SpitRun), (s.power.spit = some r) ∧ (r.sending = true) ∧ (0 < r.left) ∧ (s.power.dev = .ready) ∧ (s.spitScanned = true) ∧ (s.spitPaced r = true)) ∧
    (∃ (s : State), (s.power.dev = .ready) ∧ (s.on .aon AON.SPIT_CTRL_EN = true) ∧ (s.power.spit = none) ∧ (s.rd .aon AON.SPIT_INT_INTERVAL ≤ s.power.dry) ∧ (s.spitSkips = false) ∧ ((s.rd .pwr PWR.CLU_SEL &&& s.rd .sys SYS.DEV_ID_CL_MASK) % 256 ≠ 0) ∧ (s.allOff = true)) ∧
    (∃ (s : State) (r : SpitRun), (s.power.spit = some r) ∧ (s.spitPaced r = false)) ∧
    (∃ (s : State) (r : SpitRun), (s.power.spit = some r) ∧ ((r.sending = false ∨ r.left = 0))) ∧
    (∃ (s : State) (r : SpitRun), (s.power.spit = some r) ∧ (r.sending = true) ∧ (r.left = 0) ∧ (r.origin = .ready)) ∧
    (∃ (s : State) (r : SpitRun), (s.power.spit = some r) ∧ (r.sending = true) ∧ (r.left = 0) ∧ (r.origin = .idle) ∧ (s.power.dev = .ready) ∧ (s.power.settNext = false)) :=
  ⟨⟨{ inDev .fault [(.aon, AON.SPIT_CTRL_EN, 1)] with power := { dev := .fault, dry := 1000 } }, by decide +kernel⟩,
    ⟨{ inDev .sett [(.aon, AON.SPIT_CTRL_EN, 1), (.aon, AON.WAKE_EN, 0x402)] with power := { dev := .sett, dry := 1000 } }, by decide +kernel⟩,
    ⟨{ inDev .idle [(.aon, AON.SPIT_CTRL_EN, 1), (.sys, SYS.DEV_ID_CL_MASK, 3), (.pwr, PWR.CLU_SEL, 2)] with power := { dev := .idle, dry := 1000 } }, by decide +kernel⟩,
    ⟨{ inDev .ready [] with power := { dev := .ready, spit := some { origin := .idle, left := 2, sending := true } } }, { origin := .idle, left := 2, sending := true }, by decide +kernel⟩,
    ⟨{ inDev .ready [(.aon, AON.SPIT_CTRL_EN, 1), (.aon, AON.SPIT_CTRL_AWAKE, 1), (.sys, SYS.DEV_ID_CL_MASK, 3), (.pwr, PWR.CLU_SEL, 2)] with power := { dev := .ready, dry := 1000 } }, by decide +kernel⟩,
    ⟨{ inDev .ready [(.aon, AON.SPIT_INT_FREQ, 1000)] with power := { dev := .ready, spit := some { origin := .idle, left := 2, sending := true, last := some 5 } }, dclk := 6 }, { origin := .idle, left := 2, sending := true, last := some 5 }, by decide +kernel⟩,
    ⟨{ inDev .ready [] with power := { dev := .ready, spit := some { origin := .idle, left := 0, sending := true } } }, { origin := .idle, left := 0, sending := true }, by decide +kernel⟩,
    ⟨{ inDev .ready [] with power := { dev := .ready, spit := some { origin := .ready, left := 0, sending := true } } }, { origin := .ready, left := 0, sending := true }, by decide +kernel⟩,
    ⟨{ inDev .ready clu0 with power := { dev := .ready, spit := some { origin := .idle, left := 0, sending := true } } }, { origin := .idle, left := 0, sending := true }, by decide +kernel⟩⟩

theorem wit_PageControl :
    (∃ (s : State) (req : Req) (p : Page) (d : Word), (s.open_ req p = true) ∧ (s.run p = false) ∧ ((fixedEn p || isDdrs p) = true ∨ bit d.toNat 0 = s.on p HDR.PG_CTRL_EN) ∧ (bit d.toNat 2 = false) ∧ (bit d.toNat 8 = false)) ∧
    (∃ (s : State) (req : Req) (d : Word), (s.open_ req .evt = true) ∧ (bit d.toNat 2 = false) ∧ (bit d.toNat 8 = false)) ∧
    (∃ (s : State) (req : Req) (p : Page), (s.open_ req p = true) ∧ (s.run p = true)) ∧
    (∃ (s : State) (req : Req) (p : Page) (d : Word), (s.open_ req p = true) ∧ (s.run p = false) ∧ (bit d.toNat 1 = false) ∧ ((fixedEn p || isDdrs p) = true ∨ bit d.toNat 0 = s.on p HDR.PG_CTRL_EN) ∧ (bit d.toNat 12 = false) ∧ (bit d.toNat 8 = false)) ∧
    (∃ (s : State) (req : Req) (p : Page), (s.open_ req p = true) ∧ (s.run p = true) ∧ (s.on p HDR.PG_CTRL_LOCK = false)) ∧
    (∃ (s : State) (req : Req) (p : Page) (k : Fin 5), (s.open_ req p = true) ∧ (s.run p = false) ∧ (s.pend p = false) ∧ (isAx p = false) ∧ ((fixedEn p || isDdrs p) = true ∨ s.on p HDR.PG_CTRL_EN = false) ∧ (s.commitBad req p k.val = none) ∧ ((∀ l : Lane, p = .lne l → s.rd (.lne l) LNE.AWL_STAT_STATE ≠ 2))) ∧
    (∃ (s : State) (req : Req) (p : Page) (k : Fin 5), (s.open_ req p = true) ∧ (s.run p = true) ∧ (s.pend p = false) ∧ (isAx p = false) ∧ ((fixedEn p || isDdrs p) = true ∨ s.on p HDR.PG_CTRL_EN = false) ∧ (s.commitBad req p k.val = none) ∧ (s.boundaryBad p k.val = none) ∧ (k.val ≠ 0)) ∧
    (∃ (s : State) (req : Req) (p : Page), (s.open_ req p = true) ∧ (s.pend p = true) ∧ ((fixedEn p || isDdrs p) = true ∨ s.on p HDR.PG_CTRL_EN = false)) ∧
    (∃ (s : State) (req : Req) (p : Page) (k : Fin 8), (s.open_ req p = true) ∧ (s.pend p = false) ∧ (5 ≤ k.val) ∧ ((fixedEn p || isDdrs p) = true ∨ s.on p HDR.PG_CTRL_EN = false)) ∧
    (∃ (s : State) (req : Req) (l : Lane), (s.open_ req (.seq l) = true) ∧ (s.pend (.seq l) = false) ∧ (s.on (.seq l) HDR.PG_CTRL_EN = false) ∧ (s.rdStaged (.seq l) SEQ.GUARD_E_WE < s.rdStaged (.seq l) SEQ.GUARD_E_NE)) ∧
    (∃ (s : State) (req : Req) (p : Page), (s.open_ req p = true) ∧ (s.pend p = true) ∧ (p.lane = none) ∧ ((fixedEn p || isDdrs p) = true ∨ s.on p HDR.PG_CTRL_EN = false)) ∧
    (∃ (s : State) (req : Req) (p : Page), (s.open_ req p = true) ∧ (s.pend p = false) ∧ ((fixedEn p || isDdrs p) = true ∨ s.on p HDR.PG_CTRL_EN = false)) ∧
    (∃ (s : State) (p : Page) (t0 : Nat), (s.devUp = true) ∧ (s.pend p = true) ∧ (s.commits = [(p, t0)]) ∧ (t0 + 2 ≤ s.dclk) ∧ (isAx p = false) ∧ (s.rd p HDR.PG_STAT_PEND_AT = 4) ∧ (s.inGap p = true) ∧ ((∀ l : Lane, p = .lne l → s.rd (.lne l) LNE.AWL_STAT_STATE ≠ 2))) ∧
    (∃ (s : State) (p : Page), (isAx p = false) ∧ (s.rd p HDR.PG_STAT_PEND_AT ≠ 4 ∨ s.inGap p = false)) ∧
    (∃ (s : State) (p : Page) (t0 : Nat), (s.commits = [(p, t0)]) ∧ (s.dclk < t0 + 2)) :=
  ⟨⟨(pendUp (.cpwr 0) 2), .host, (.cpwr 0), 1, by decide +kernel⟩,
    ⟨(upWith [(.evt, EVT.ROUTE_VEC, 5), (.evt, EVT.ROUTE_HOST_EN, 1)]), .host, 1, by decide +kernel⟩,
    ⟨(runUp []), .host, (.seq 3), by decide +kernel⟩,
    ⟨up, .host, .pwr, 0x405, by decide +kernel⟩,
    ⟨(runUp []), .host, (.seq 3), by decide +kernel⟩,
    ⟨(upWith clu0), .host, (.cpwr 0), 3, by decide +kernel⟩,
    ⟨(setF (runUp []) [(.cpwr 0, CPWR.STAT_OP_ACT, 0)]), .host, (.cpwr 0), 1, by decide +kernel⟩,
    ⟨(pendUp (.cpwr 0) 2), .host, (.cpwr 0), by decide +kernel⟩,
    ⟨(upWith clu0), .host, (.cpwr 0), 7, by decide +kernel⟩,
    ⟨(((setF (upWith clu0) [(.seq 3, HDR.PG_CTRL_EN, 0)]).wrStaged (.seq 3) SEQ.GUARD_E_WE 5 0).wrStaged (.seq 3) SEQ.GUARD_E_NE 6 0), .host, 3, by decide +kernel⟩,
    ⟨(pendUp (.cpwr 0) 2), .host, (.cpwr 0), by decide +kernel⟩,
    ⟨(upWith clu0), .host, (.cpwr 0), by decide +kernel⟩,
    ⟨(pendUp (.cpwr 0) 4), (.cpwr 0), 3, by decide +kernel⟩,
    ⟨(pendUp (.cpwr 0) 2), (.cpwr 0), by decide +kernel⟩,
    ⟨{ pendUp (.cpwr 0) 2 with dclk := 4 }, (.cpwr 0), 3, by decide +kernel⟩⟩

theorem wit_RegisterWrites :
    (∃ (s : State) (req : Req) (a : Word), (s.devUp = true) ∧ (s.hostCut req = false) ∧ (s.power.grace = false) ∧ (Req.isCore req = false ∨ a.toNat < 0x2000000) ∧ (Target.ofAddr a.toNat = .unmapped)) ∧
    (∃ (s : State) (req : Req) (a : Word) (p : Page) (off : Nat) (c : Clu), (s.devUp = true) ∧ (s.hostCut req = false) ∧ (s.power.grace = false) ∧ (Target.ofAddr a.toNat = .page p off) ∧ (p.cluster = some c) ∧ (s.cluPresent c = false)) ∧
    (∃ (s : State) (req : Req) (a : Word) (p : Page) (off : Nat) (c : Clu), (s.devUp = true) ∧ (s.hostCut req = false) ∧ (s.power.grace = false) ∧ (Target.ofAddr a.toNat = .page p off) ∧ (p.cluster = some c) ∧ (s.cluPresent c = true) ∧ (s.domUp c = false) ∧ (p ≠ .cpwr c)) ∧
    (∃ (s : State) (req : Req) (a : Word) (p : Page) (off : Nat), (s.devUp = true) ∧ (s.hostCut req = false) ∧ (s.power.grace = false) ∧ (Target.ofAddr a.toNat = .page p off) ∧ (p.cluster = none) ∧ (s.inTest p = true)) ∧
    (∃ (s : State) (req : Req) (a : Word) (be : BitVec 4) (h : Option Word) (p : Page) (off : Nat), (s.devUp = true) ∧ (s.hostCut req = false) ∧ (s.power.grace = false) ∧ (Target.ofAddr a.toNat = .page p off) ∧ (s.accessError (.page p off) true = none) ∧ (be ≠ 15 ∨ (h = none ∧ a.toNat % 4 ≠ 0) ∨ (h ≠ none ∧ wholePair (.page p off) a.toNat = false))) ∧
    (∃ (s : State) (req : Req) (a : Word), (s.devUp = true) ∧ (s.hostCut req = false) ∧ (s.accessError (Target.ofAddr a.toNat) (a.toNat % 4 == 0) = none)) ∧
    (∃ (s : State) (req : Req) (a : Word) (nn : Nat), (s.devUp = true) ∧ (s.hostCut req = false) ∧ (s.accessError (Target.ofAddr a.toNat) (a.toNat % 4 == 0) = some nn)) ∧
    (∃ (s : State) (req : Req) (p : Page) (a : Word), (s.open_ req p = true) ∧ (a.toNat = p.base + 0x18) ∧ (s.run p = false)) ∧
    (∃ (s : State) (req : Req) (p : Page) (a d : Word), (s.open_ req p = true) ∧ (a.toNat = p.base + 0x18) ∧ (s.run p = true) ∧ (s.rd p HDR.PG_EVT_EN ≠ d.toNat)) ∧
    (∃ (s : State) (req : Req) (p : Page) (a : Word), (s.open_ req p = true) ∧ (a.toNat = p.base)) ∧
    (∃ (s : State) (req : Req) (d : Word), (s.open_ req .pmb = true) ∧ (d.toNat % 4 = 3) ∧ (s.rd .pmb PMB.CTRL_SPEED ≠ 3)) ∧
    (∃ (s : State), (s.power.dev = .idle) ∧ (s.power.grace = true) ∧ (s.intake.d3hot = false) ∧ (s.bist.pages = [])) :=
  ⟨⟨up, .host, 0x70000, by decide +kernel⟩,
    ⟨(upWith [(.sys, SYS.DEV_ID_CL_MASK, 1)]), (.app 2), 0x110004, (.clu 1), 4, 1, by decide +kernel⟩,
    ⟨(upWith [(.sys, SYS.DEV_ID_CL_MASK, 255)]), .safe, 0x200000, (.lne 0), 0, 0, by decide +kernel⟩,
    ⟨{ upWith clu0 with bist := { pages := [.lst] } }, .jtag, 0x20042, .lst, 0x42, by decide +kernel⟩,
    ⟨up, .host, 0x61040, 3, none, .gio, 0x40, by decide +kernel⟩,
    ⟨up, .host, 0x61040, by decide +kernel⟩,
    ⟨up, .host, 0x70000, 1, by decide +kernel⟩,
    ⟨(upWith clu0), .host, (.seq 3), 0x20D018, by decide +kernel⟩,
    ⟨(runUp []), .host, (.seq 3), 0x20D018, 0xF0F, by decide +kernel⟩,
    ⟨(runUp []), .host, (.seq 3), 0x20D000, by decide +kernel⟩,
    ⟨up, .host, 7, by decide +kernel⟩,
    ⟨{ up with power := { dev := .idle, grace := true } }, by decide +kernel⟩⟩

theorem wit_RegisterPairs :
    (∃ (s : State) (req : Req) (a : Word) (p : Page) (off : Nat), (s.devUp = true) ∧ (s.hostCut req = false) ∧ (Target.ofAddr a.toNat = .page p off) ∧ (s.accessError (.page p off) true = none) ∧ (a.toNat % 4 = 0) ∧ (isPair p off = true)) ∧
    (∃ (s : State) (req : Req) (a : Word) (p : Page) (off v : Nat), (s.devUp = true) ∧ (s.hostCut req = false) ∧ (Target.ofAddr a.toNat = .page p off) ∧ (s.accessError (.page p off) true = none) ∧ (a.toNat % 4 = 0) ∧ (isPair p off = false) ∧ (isHigh p off = true) ∧ (heldOf s.captured req.code (p.base + off - 4) = some v)) ∧
    (∃ (s : State) (req : Req) (a : Word) (p : Page) (off : Nat), (s.devUp = true) ∧ (s.hostCut req = false) ∧ (Target.ofAddr a.toNat = .page p off) ∧ (s.accessError (.page p off) true = none) ∧ (a.toNat % 4 = 0) ∧ (isPair p off = false) ∧ (isHigh p off = true) ∧ (heldOf s.captured req.code (p.base + off - 4) = none)) ∧
    (∃ (s : State) (req : Req) (a : Word) (p : Page) (off : Nat), (s.devUp = true) ∧ (s.hostCut req = false) ∧ (Target.ofAddr a.toNat = .page p off) ∧ (s.accessError (.page p off) true = none) ∧ (a.toNat % 4 = 0) ∧ (isPair p off = false) ∧ (isHigh p off = false) ∧ (p ≠ .tim ∨ off ≠ 0x48)) ∧
    (∃ (s : State) (req : Req) (a : Word), (s.devUp = true) ∧ (s.hostCut req = false) ∧ (a.toNat = 0x40048) ∧ (s.accessError (.page .tim 0x48) true = none)) ∧
    (∃ (s : State) (req : Req) (a : Word), (s.devUp = true) ∧ (s.hostCut req = false) ∧ (a.toNat = 0x40040) ∧ (s.accessError (.page .tim 0x40) true = none)) ∧
    (∃ (s : State) (req : Req) (a : Word) (p : Page) (off : Nat), (s.devUp = true) ∧ (s.hostCut req = false) ∧ (Target.ofAddr a.toNat = .page p off) ∧ (s.accessError (.page p off) true = none) ∧ (wholePair (.page p off) a.toNat = true)) ∧
    (∃ (s : State) (req : Req) (a : Word) (l : Lane) (off : Nat), (s.devUp = true) ∧ (s.hostCut req = false) ∧ (Target.ofAddr a.toNat = .window l off) ∧ (s.accessError (.window l off) true = none) ∧ (a.toNat % 4 = 0) ∧ (winIsCount (off / 4) = false)) ∧
    (∃ (s : State) (req : Req) (a : Word) (l : Lane) (off : Nat), (s.devUp = true) ∧ (s.hostCut req = false) ∧ (Target.ofAddr a.toNat = .window l off) ∧ (s.accessError (.window l off) true = none) ∧ (a.toNat % 4 = 0) ∧ (winIsCount (off / 4) = true) ∧ (off / 4 % 2 = 0)) ∧
    (∃ (s : State) (req : Req) (a : Word) (l : Lane) (off : Nat), (s.devUp = true) ∧ (s.hostCut req = false) ∧ (Target.ofAddr a.toNat = .window l off) ∧ (s.accessError (.window l off) true = none) ∧ (a.toNat % 4 = 0) ∧ (winIsCount (off / 4) = true) ∧ (off / 4 % 2 = 1)) ∧
    (∃ (s : State) (req : Req) (a : Word) (wide : Bool) (nn : Nat), (s.devUp = true) ∧ (s.hostCut req = false) ∧ (Req.isCore req = false ∨ a.toNat < 0x2000000) ∧ (s.accessError (Target.ofAddr a.toNat) (if wide then wholePair (Target.ofAddr a.toNat) a.toNat else a.toNat % 4 == 0) = some nn)) ∧
    (∃ (s : State) (req : Req) (p : Page) (w : BitVec 10), (s.open_ req p = true) ∧ (isPair p (4 * w.toNat) = true)) ∧
    (∃ (s : State) (req other : Req) (p : Page) (w : BitVec 10), (s.open_ req p = true) ∧ (isPair p (4 * w.toNat) = true) ∧ (other.code ≠ req.code)) ∧
    (∃ (s : State) (req : Req) (p : Page) (w : BitVec 10), (s.open_ req p = true) ∧ (isHigh p (4 * w.toNat) = true) ∧ (heldOf s.held req.code (p.base + (4 * w.toNat - 4)) = none)) ∧
    (∃ (s : State) (req : Req) (low : Nat), (s.open_ req .aon = true) ∧ (heldOf s.held req.code (Page.aon.base + 0x48) = some low) ∧ (low < 2 ^ 32)) :=
  ⟨⟨(upWith [(.tim, TIM.TIME, 0x123456789A)]), .host, 0x40040, .tim, 0x40, by decide +kernel⟩,
    ⟨{ up with captured := [(0, 0x40040, 0x12)] }, .host, 0x40044, .tim, 0x44, 0x12, by decide +kernel⟩,
    ⟨(upWith [(.tim, TIM.TIME, 0x123456789A)]), .host, 0x40044, .tim, 0x44, by decide +kernel⟩,
    ⟨up, .host, 0x61040, .gio, 0x40, by decide +kernel⟩,
    ⟨{ up with captured := [(0, fracKey, 0x12)] }, .host, 0x40048, by decide +kernel⟩,
    ⟨{ up with tim := { up.tim with frac := 0x77 } }, .host, 0x40040, by decide +kernel⟩,
    ⟨{ upWith [(.tim, TIM.TIME, 0x123456789A)] with captured := [(0, 0x40040, 0x12)] }, .host, 0x40040, .tim, 0x40, by decide +kernel⟩,
    ⟨((upWith clu0).setWin 3 5 77), .host, 0x10C0014, 3, 0x14, by decide +kernel⟩,
    ⟨((upWith clu0).setWin 3 0xC001 77), .host, 0x10F0000, 3, 0x30000, by decide +kernel⟩,
    ⟨{ (upWith clu0) with captured := [(0, 0x10F0000, 0x12)] }, .host, 0x10F0004, 3, 0x30004, by decide +kernel⟩,
    ⟨up, .host, 0x70000, false, 1, by decide +kernel⟩,
    ⟨up, .host, .tim, 20, by decide +kernel⟩,
    ⟨{ up with held := [(5, 0x40050, 0x12)] }, .host, .safe, .tim, 20, by decide +kernel⟩,
    ⟨{ up with held := [(5, 0x40050, 0x12)] }, .host, .tim, 21, by decide +kernel⟩,
    ⟨{ up with held := [(5, 0x2048, 0x12)] }, .safe, 0x12, by decide +kernel⟩⟩

theorem wit_EventRegisters :
    (∃ (s : State) (req : Req) (p : Page), (s.open_ req p = true)) ∧
    (∃ (s : State) (req : Req) (p : Page), (s.open_ req p = true)) ∧
    (∃ (s : State) (req : Req) (v : BitVec 6), (s.open_ req .evt = true) ∧ (s.vecOr v.toNat = true) ∧ (s.dmaOk = true) ∧ (s.on .pci PCI.MSIX_MASK v.toNat = false)) ∧
    (∃ (s : State) (req : Req) (v : BitVec 6), (s.open_ req .evt = true) ∧ (s.vecOr v.toNat = true) ∧ (s.on .pci PCI.MSIX_MASK v.toNat = true)) ∧
    (∃ (s : State) (req : Req) (v : BitVec 6), (s.open_ req .evt = true) ∧ (s.vecOr v.toNat = false)) ∧
    (∃ (s : State) (req : Req) (v : BitVec 6), (s.open_ req .pci = true) ∧ (s.settleMsix = s) ∧ (s.pba v.toNat = true) ∧ (s.dmaOk = true)) ∧
    (∃ (s : State) (req : Req) (v : BitVec 6), (s.open_ req .pci = true) ∧ (s.settleMsix = s) ∧ (s.pba v.toNat = false)) ∧
    (∃ (s : State) (req : Req), (s.open_ req .pci = true)) :=
  ⟨⟨(upWith [(.den, HDR.PG_EVT_RAW, 0xF0F)]), .host, .den, by decide +kernel⟩,
    ⟨(upWith [(.den, HDR.PG_ERR_CODE_VALID, 1), (.den, HDR.PG_ERR_CODE_CODE, 0x5801)]), .host, .den, by decide +kernel⟩,
    ⟨(irqUp []), .host, 5, by decide +kernel⟩,
    ⟨(setMask (irqUp [])), .host, 5, by decide +kernel⟩,
    ⟨(irqUp []), .host, 9, by decide +kernel⟩,
    ⟨{ setMask (setF (irqUp []) [(.pci, PCI.MSIX_PBA, 32)]) with vecWas := 32 }, .host, 5, by decide +kernel⟩,
    ⟨{ irqUp [] with vecWas := 32 }, .host, 9, by decide +kernel⟩,
    ⟨(irqUp []), .host, by decide +kernel⟩⟩

theorem wit_ErrorMeetsClear : ∃ (nn info : Nat), (nn < 256) ∧ (info < 2 ^ 32) := ⟨3, 7, by decide +kernel⟩

theorem wit_EventBits :
    (∃ (i j : Fin 32), (i ≠ j)) ∧
    (∃ (s : State) (p : Page) (i : Fin 32) (en : Nat), (en < 2 ^ 32) ∧ (s.event p i.val = true) ∧ (en.testBit i.val = true)) :=
  ⟨⟨9, 10, by decide +kernel⟩,
    ⟨(upWith [(.den, HDR.PG_EVT_RAW, 512)]), .den, 9, 0x200, by decide +kernel⟩⟩

theorem wit_ReadsChangeNothing :
    (∃ (s : State) (req : Req) (a : Word) (wide : Bool), (s.devUp = true) ∧ (s.hostCut req = false) ∧ ((Req.isCore req = true ∧ coreRegion req a.toNat ≠ .fabric) ∨ s.accessError (Target.ofAddr a.toNat) (if wide then wholePair (Target.ofAddr a.toNat) a.toNat else a.toNat % 4 == 0) = none)) ∧
    (∃ (s : State) (req : Req) (a : Word) (p : Page) (off : Nat), (s.devUp = true) ∧ (s.hostCut req = false) ∧ (Target.ofAddr a.toNat = .page p off) ∧ (s.accessError (.page p off) (a.toNat % 4 == 0) = none) ∧ (isPair p off = false) ∧ (isHigh p off = false)) ∧
    (∃ (s : State) (req : Req), (s.devUp = true) ∧ (s.hostCut req = true)) ∧
    (∃ (s : State) (req : Req) (a : Word) (wide : Bool) (nn : Nat), (s.devUp = true) ∧ (s.hostCut req = false) ∧ (Req.isCore req = false ∨ a.toNat < 0x2000000) ∧ (s.accessError (Target.ofAddr a.toNat) (if wide then wholePair (Target.ofAddr a.toNat) a.toNat else a.toNat % 4 == 0) = some nn)) :=
  ⟨⟨(upWith [(.gio, GIO.CTRL, 1)]), .host, 0x61040, false, by decide +kernel⟩,
    ⟨(upWith [(.gio, GIO.CTRL, 1)]), .host, 0x61040, .gio, 0x40, by decide +kernel⟩,
    ⟨{ up with intake := { d3hot := true } }, .host, by decide +kernel⟩,
    ⟨(upWith [(.sys, SYS.DEV_ID_CL_MASK, 1)]), .safe, 0x224040, false, 2, by decide +kernel⟩⟩

theorem wit_FabricAnswers :
    (∃ (s : State), (s.devUp = true) ∧ (s.hostCut .host = false) ∧ (s.on .fab FAB.CTRL_HOST_UR = false)) ∧
    (∃ (s : State), (s.devUp = true) ∧ (s.hostCut .host = false) ∧ (s.on .fab FAB.CTRL_HOST_UR = true)) ∧
    (∃ (s : State) (a : Word) (be : BitVec 4) (h : Option Word) (nn : Nat), (s.devUp = true) ∧ (s.hostCut .host = false) ∧ (s.accessError (Target.ofAddr a.toNat) (be == 15 && if h.isSome then wholePair (Target.ofAddr a.toNat) a.toNat else a.toNat % 4 == 0) = some nn)) ∧
    (∃ (s : State) (req : Req) (a : Word) (wide : Bool) (nn : Nat), (s.devUp = true) ∧ (Req.isCore req = true) ∧ (a.toNat < 0x2000000) ∧ (s.on .fab FAB.CTRL_CORE_FAULT = true) ∧ (s.accessError (Target.ofAddr a.toNat) (if wide then wholePair (Target.ofAddr a.toNat) a.toNat else a.toNat % 4 == 0) = some nn)) ∧
    (∃ (s : State) (req : Req) (a : Word) (wide : Bool) (nn : Nat), (s.devUp = true) ∧ (Req.isCore req = true) ∧ (a.toNat < 0x2000000) ∧ (s.on .fab FAB.CTRL_CORE_FAULT = false) ∧ (s.accessError (Target.ofAddr a.toNat) (if wide then wholePair (Target.ofAddr a.toNat) a.toNat else a.toNat % 4 == 0) = some nn)) ∧
    (∃ (s : State) (req : Req) (a : Word) (be : BitVec 4) (h : Option Word) (nn : Nat), (s.devUp = true) ∧ (Req.isCore req = true) ∧ (a.toNat < 0x2000000) ∧ (s.on .fab FAB.CTRL_CORE_FAULT = true) ∧ (s.accessError (Target.ofAddr a.toNat) (be == 15 && if h.isSome then wholePair (Target.ofAddr a.toNat) a.toNat else a.toNat % 4 == 0) = some nn)) ∧
    (∃ (s : State) (req : Req) (a : Word) (be : BitVec 4) (h : Option Word) (nn : Nat), (s.devUp = true) ∧ (Req.isCore req = true) ∧ (a.toNat < 0x2000000) ∧ (s.on .fab FAB.CTRL_CORE_FAULT = false) ∧ (s.accessError (Target.ofAddr a.toNat) (be == 15 && if h.isSome then wholePair (Target.ofAddr a.toNat) a.toNat else a.toNat % 4 == 0) = some nn)) :=
  ⟨⟨up, by decide +kernel⟩,
    ⟨(upWith [(.fab, FAB.CTRL_HOST_UR, 1)]), by decide +kernel⟩,
    ⟨up, 0x70000, 15, none, 1, by decide +kernel⟩,
    ⟨(upWith [(.sys, SYS.DEV_ID_CL_MASK, 1)]), .safe, 0x224040, false, 2, by decide +kernel⟩,
    ⟨(upWith [(.sys, SYS.DEV_ID_CL_MASK, 1), (.fab, FAB.CTRL_CORE_FAULT, 0)]), (.app 3), 0x224040, false, 2, by decide +kernel⟩,
    ⟨up, .safe, 0x61041, 15, none, 5, by decide +kernel⟩,
    ⟨(upWith [(.fab, FAB.CTRL_CORE_FAULT, 0)]), .safe, 0x61041, 15, (some 3), 5, by decide +kernel⟩⟩

theorem wit_StepTakesCommand :
    (∃ (s : State) (c : Instr) (rest : List Instr), (s.pending = c :: rest)) ∧
    (∃ (s : State), (s.pending = [])) :=
  ⟨⟨{ up with pending := [.hello] }, .hello, [], by decide +kernel⟩,
    ⟨up, by decide +kernel⟩⟩

theorem wit_StepKeepsForm : ∃ (s t : State), (s.wf = true) ∧ (step s = .next t) := ⟨up, up.tick, by decide +kernel, rfl⟩

theorem wit_SpoolUntouched : ∃ (c : Instr), (storesSpool c = false) := ⟨.hello, by decide +kernel⟩

end Sys2Proof.Tests
end

section
/-! PROOFS. Reading a field after the shared operations: what a write, a count, an event or an error of one field leaves of
another. -/

namespace Sys2Proof.Machine

open Reg

/-! ### Places in a page -/

/-- The bit of a page at which a copy of a field begins. -/
def Row.place (r : Row) (i : Nat) : Nat := (r.off + r.stride * i) * 8 + r.lo

/-- A copy of a field lies within the 4 KiB of a page. -/
def Row.inPage (r : Row) (i : Nat) : Bool := Nat.ble (Row.place r i) 0x7FFF

/-- Two copies of fields lie within their pages, at different bits of them. -/
def Row.apart (r : Row) (i : Nat) (t : Row) (j : Nat) : Bool :=
  Row.inPage r i && Row.inPage t j && !Nat.beq (Row.place r i) (Row.place t j)

theorem Row.key_ne_of_apart {r t : Row} {i j : Nat} (h : Row.apart r i t j = true) (p q : Page) : r.key p i ≠ t.key q j := by
  simp only [Row.apart, Row.inPage, Bool.and_eq_true, Nat.ble_eq, Bool.not_eq_true', ← Bool.not_eq_true] at h
  obtain ⟨⟨hr, ht⟩, hn⟩ := h
  exact fun hk => hn (Nat.beq_eq.mpr ((Row.key_iff p q r t i j (Nat.lt_succ_of_le hr) (Nat.lt_succ_of_le ht)).1 hk).2)

theorem Row.key_ne_of_page {p q : Page} (h : p ≠ q) {r t : Row} {i j : Nat} (hr : Row.inPage r i = true)
    (ht : Row.inPage t j = true) : r.key p i ≠ t.key q j := by
  simp only [Row.inPage, Nat.ble_eq] at hr ht
  exact fun hk => h ((Row.key_iff p q r t i j (Nat.lt_succ_of_le hr) (Nat.lt_succ_of_le ht)).1 hk).1

/-! ### Reads after a write -/

@[simp] theorem State.wr_rd_same (s : State) (p : Page) (r : Row) (v i : Nat) : (s.wr p r v i).rd p r i = v % 2 ^ r.width :=
  State.rd_wr_same s p r v i

@[simp] theorem State.wr_rd_apart (s : State) (p q : Page) {r t : Row} (v : Nat) {i j : Nat}
    (h : Row.apart r i t j = true) : (s.wr p r v i).rd q t j = s.rd q t j := State.rd_wr_ne s (Row.key_ne_of_apart h p q)

@[simp] theorem State.wr_rd_page (s : State) {p q : Page} {r t : Row} (v : Nat) {i j : Nat} (h : p ≠ q)
    (hr : Row.inPage r i = true) (ht : Row.inPage t j = true) : (s.wr p r v i).rd q t j = s.rd q t j :=
  State.rd_wr_ne s (Row.key_ne_of_page h hr ht)

@[simp] theorem State.flag_rd_same (s : State) (p : Page) (r : Row) (b : Bool) (i : Nat) :
    (s.flag p r b i).rd p r i = b.toNat % 2 ^ r.width := State.wr_rd_same ..

@[simp] theorem State.flag_rd_apart (s : State) (p q : Page) {r t : Row} (b : Bool) {i j : Nat}
    (h : Row.apart r i t j = true) : (s.flag p r b i).rd q t j = s.rd q t j := State.wr_rd_apart s p q _ h

@[simp] theorem State.flag_rd_page (s : State) {p q : Page} {r t : Row} (b : Bool) {i j : Nat} (h : p ≠ q)
    (hr : Row.inPage r i = true) (ht : Row.inPage t j = true) : (s.flag p r b i).rd q t j = s.rd q t j :=
  State.wr_rd_page s _ h hr ht

@[simp] theorem State.wrS_rd_same (s : State) (p : Page) (r : Row) (v : Int) (i : Nat) :
    (s.wrS p r v i).rd p r i = unsigned r.width v := by
  have h : unsigned r.width v < 2 ^ r.width := by
    have hp : (0 : Int) < ((2 ^ r.width : Nat) : Int) := by exact_mod_cast Nat.two_pow_pos _
    unfold unsigned
    have h0 := Int.emod_nonneg v (ne_of_gt hp)
    have h1 := Int.emod_lt_of_pos v hp
    omega
  rw [State.wrS, State.wr_rd_same, Nat.mod_eq_of_lt h]

@[simp] theorem State.wrS_rd_apart (s : State) (p q : Page) {r t : Row} (v : Int) {i j : Nat}
    (h : Row.apart r i t j = true) : (s.wrS p r v i).rd q t j = s.rd q t j := State.wr_rd_apart s p q _ h

@[simp] theorem State.wrS_rd_page (s : State) {p q : Page} {r t : Row} (v : Int) {i j : Nat} (h : p ≠ q)
    (hr : Row.inPage r i = true) (ht : Row.inPage t j = true) : (s.wrS p r v i).rd q t j = s.rd q t j :=
  State.wr_rd_page s _ h hr ht

/-- A saturating count (R395). -/
@[simp] theorem State.bump_rd_same (s : State) (p : Page) (r : Row) (n i : Nat) :
    (s.bump p r n i).rd p r i = min (s.rd p r i + n) (2 ^ r.width - 1) := by
  have h : min (s.rd p r i + n) (2 ^ r.width - 1) < 2 ^ r.width :=
    Nat.lt_of_le_of_lt (Nat.min_le_right ..) (Nat.sub_lt (Nat.two_pow_pos _) Nat.one_pos)
  rw [State.bump, State.wr_rd_same, Nat.mod_eq_of_lt h]

@[simp] theorem State.bump_rd_apart (s : State) (p q : Page) {r t : Row} (n : Nat) {i j : Nat}
    (h : Row.apart r i t j = true) : (s.bump p r n i).rd q t j = s.rd q t j := State.wr_rd_apart s p q _ h

@[simp] theorem State.bump_rd_page (s : State) {p q : Page} {r t : Row} (n : Nat) {i j : Nat} (h : p ≠ q)
    (hr : Row.inPage r i = true) (ht : Row.inPage t j = true) : (s.bump p r n i).rd q t j = s.rd q t j :=
  State.wr_rd_page s _ h hr ht

/-! ### Reads after an event or an error -/

@[simp] theorem State.raise_rd_apart (s : State) (p q : Page) (n : Nat) {t : Row} {j : Nat}
    (h : Row.apart HDR.PG_EVT_RAW 0 t j = true) : (s.raise p n).rd q t j = s.rd q t j := State.wr_rd_apart s p q _ h

@[simp] theorem State.raise_rd_page (s : State) {p q : Page} (n : Nat) {t : Row} {j : Nat} (h : p ≠ q)
    (ht : Row.inPage t j = true) : (s.raise p n).rd q t j = s.rd q t j := State.wr_rd_page s _ h rfl ht

/-- The fields of the header that an error changes. -/
def Row.errRows : List Row :=
  [HDR.PG_ERR_CODE_CODE, HDR.PG_ERR_CODE_COUNT, HDR.PG_ERR_CODE_VALID, HDR.PG_ERR_INFO, HDR.PG_ERR_TIME, HDR.PG_EVT_RAW]

/-- A field is none of those. -/
def Row.offErr (t : Row) (j : Nat) : Bool := Row.errRows.all fun r => Row.apart r 0 t j

theorem State.err_rd_of_ne (s : State) {p q : Page} (nn info : Nat) {t : Row} {j : Nat}
    (h : ∀ r ∈ Row.errRows, r.key p 0 ≠ t.key q j) : (s.err p nn info).rd q t j = s.rd q t j := by
  have hu : Untouched (errorFields p) s (s.err p nn info) := Untouched.err p nn info (Untouched.refl _ s) fun _ => id
  refine hu.rd q t j fun hm => ?_
  obtain ⟨f, hf, hk⟩ := List.mem_map.1 hm
  simp only [errorFields, List.mem_cons, List.not_mem_nil, or_false] at hf
  obtain rfl | rfl | rfl | rfl | rfl | rfl := hf <;> exact h _ (by simp [Row.errRows]) hk

@[simp] theorem State.err_rd_apart (s : State) (p q : Page) (nn info : Nat) {t : Row} {j : Nat}
    (h : Row.offErr t j = true) : (s.err p nn info).rd q t j = s.rd q t j :=
  State.err_rd_of_ne s nn info fun r hr => Row.key_ne_of_apart (List.all_eq_true.1 h r hr) p q

@[simp] theorem State.err_rd_page (s : State) {p q : Page} (nn info : Nat) {t : Row} {j : Nat} (h : p ≠ q)
    (ht : Row.inPage t j = true) : (s.err p nn info).rd q t j = s.rd q t j :=
  State.err_rd_of_ne s nn info fun r hr => Row.key_ne_of_page h (by
    simp only [Row.errRows, List.mem_cons, List.not_mem_nil, or_false] at hr
    obtain rfl | rfl | rfl | rfl | rfl | rfl := hr <;> rfl) ht

@[simp] theorem State.errAt_rd_apart (s : State) (p q : Page) (nn off req : Nat) {t : Row} {j : Nat}
    (h : Row.offErr t j = true) : (s.errAt p nn off req).rd q t j = s.rd q t j := State.err_rd_apart s p q nn _ h

@[simp] theorem State.errAt_rd_page (s : State) {p q : Page} (nn off req : Nat) {t : Row} {j : Nat} (h : p ≠ q)
    (ht : Row.inPage t j = true) : (s.errAt p nn off req).rd q t j = s.rd q t j := State.err_rd_page s nn _ h ht

@[simp] theorem State.errOpen_rd_apart (s : State) (p q : Page) (nn : Nat) {t : Row} {j : Nat}
    (h : Row.offErr t j = true) : (s.errOpen p nn).rd q t j = s.rd q t j := State.err_rd_apart _ p q nn _ h

@[simp] theorem State.errOpen_rd_page (s : State) {p q : Page} (nn : Nat) {t : Row} {j : Nat} (h : p ≠ q)
    (ht : Row.inPage t j = true) : (s.errOpen p nn).rd q t j = s.rd q t j := State.err_rd_page _ nn _ h ht

/-! ### Reads after a change of a page's state, FAULT or OVERDUE -/

@[simp] theorem State.setPage_rd_state (s : State) (p : Page) (v : Nat) (hv : v < 16) :
    (s.setPage p v).rd p HDR.PG_STAT_STATE = v := by
  unfold State.setPage
  split
  · assumption
  · rw [State.raise_rd_apart _ _ _ _ rfl, State.wr_rd_same]
    exact Nat.mod_eq_of_lt hv

@[simp] theorem State.setPage_rd_apart (s : State) (p q : Page) (v : Nat) {t : Row} {j : Nat}
    (h : Row.apart HDR.PG_EVT_RAW 0 t j = true) (hs : Row.apart HDR.PG_STAT_STATE 0 t j = true) :
    (s.setPage p v).rd q t j = s.rd q t j := by
  unfold State.setPage
  split
  · rfl
  · rw [State.raise_rd_apart _ _ _ _ h, State.wr_rd_apart _ _ _ _ hs]

@[simp] theorem State.setPage_rd_page (s : State) {p q : Page} (v : Nat) {t : Row} {j : Nat} (h : p ≠ q)
    (ht : Row.inPage t j = true) : (s.setPage p v).rd q t j = s.rd q t j := by
  unfold State.setPage
  split
  · rfl
  · rw [State.raise_rd_page _ _ h ht, State.wr_rd_page _ _ h rfl ht]

theorem State.setFault_rd_of (s : State) {p q : Page} (b : Bool) {t : Row} {j : Nat}
    (h : HDR.PG_EVT_RAW.key p 0 ≠ t.key q j) (hs : HDR.PG_STAT_FAULT.key p 0 ≠ t.key q j) :
    (s.setFault p b).rd q t j = s.rd q t j := by
  unfold State.setFault State.when State.raise State.flag
  split
  · rw [State.rd_wr_ne _ h, State.rd_wr_ne _ hs]
  · rw [State.rd_wr_ne _ hs]

@[simp] theorem State.setFault_rd_apart (s : State) (p q : Page) (b : Bool) {t : Row} {j : Nat}
    (h : Row.apart HDR.PG_EVT_RAW 0 t j = true) (hs : Row.apart HDR.PG_STAT_FAULT 0 t j = true) :
    (s.setFault p b).rd q t j = s.rd q t j :=
  State.setFault_rd_of s b (Row.key_ne_of_apart h p q) (Row.key_ne_of_apart hs p q)

@[simp] theorem State.setFault_rd_page (s : State) {p q : Page} (b : Bool) {t : Row} {j : Nat} (h : p ≠ q)
    (ht : Row.inPage t j = true) : (s.setFault p b).rd q t j = s.rd q t j :=
  State.setFault_rd_of s b (Row.key_ne_of_page h rfl ht) (Row.key_ne_of_page h rfl ht)

@[simp] theorem State.setFault_rd_fault (s : State) (p : Page) (b : Bool) :
    (s.setFault p b).rd p HDR.PG_STAT_FAULT = b.toNat := by
  have hm : b.toNat % 2 ^ HDR.PG_STAT_FAULT.width = b.toNat := Nat.mod_eq_of_lt (by cases b <;> decide)
  unfold State.setFault State.when
  split
  · rw [State.raise_rd_apart _ _ _ _ rfl, State.flag_rd_same, hm]
  · rw [State.flag_rd_same, hm]

end Sys2Proof.Machine
end

section
/-! PROOFS. Events and errors after the shared operations, and the parts of the state beside the register file. -/

namespace Sys2Proof.Machine

open Reg

/-! ### Reads do not see the other parts of the state -/

@[simp] theorem State.modLane_rd (s : State) (l : Lane) (f : LaneHw → LaneHw) (p : Page) (r : Row) (i : Nat) :
    (s.modLane l f).rd p r i = s.rd p r i := rfl
@[simp] theorem State.modAxis_rd (s : State) (a : Axis) (f : AxisHw → AxisHw) (p : Page) (r : Row) (i : Nat) :
    (s.modAxis a f).rd p r i = s.rd p r i := rfl
@[simp] theorem State.modClu_rd (s : State) (c : Clu) (f : CluHw → CluHw) (p : Page) (r : Row) (i : Nat) :
    (s.modClu c f).rd p r i = s.rd p r i := rfl
@[simp] theorem State.modPower_rd (s : State) (f : Power → Power) (p : Page) (r : Row) (i : Nat) :
    (s.modPower f).rd p r i = s.rd p r i := rfl
@[simp] theorem State.emit_rd (s : State) (o : Out) (p : Page) (r : Row) (i : Nat) : (s.emit o).rd p r i = s.rd p r i := rfl

@[simp] theorem State.modLane_event (s : State) (l : Lane) (f : LaneHw → LaneHw) (p : Page) (i : Nat) :
    (s.modLane l f).event p i = s.event p i := rfl
@[simp] theorem State.modAxis_event (s : State) (a : Axis) (f : AxisHw → AxisHw) (p : Page) (i : Nat) :
    (s.modAxis a f).event p i = s.event p i := rfl
@[simp] theorem State.modClu_event (s : State) (c : Clu) (f : CluHw → CluHw) (p : Page) (i : Nat) :
    (s.modClu c f).event p i = s.event p i := rfl
@[simp] theorem State.emit_event (s : State) (o : Out) (p : Page) (i : Nat) : (s.emit o).event p i = s.event p i := rfl

@[simp] theorem State.modLane_errorShown (s : State) (l : Lane) (f : LaneHw → LaneHw) (p : Page) :
    (s.modLane l f).errorShown p = s.errorShown p := rfl
@[simp] theorem State.modAxis_errorShown (s : State) (a : Axis) (f : AxisHw → AxisHw) (p : Page) :
    (s.modAxis a f).errorShown p = s.errorShown p := rfl
@[simp] theorem State.modClu_errorShown (s : State) (c : Clu) (f : CluHw → CluHw) (p : Page) :
    (s.modClu c f).errorShown p = s.errorShown p := rfl
@[simp] theorem State.emit_errorShown (s : State) (o : Out) (p : Page) : (s.emit o).errorShown p = s.errorShown p := rfl

/-! ### Parts of vectors -/

theorem State.modLane_same (s : State) (l : Lane) (f : LaneHw → LaneHw) : (s.modLane l f).lanes[l] = f s.lanes[l] := by
  simp [State.modLane]
@[simp] theorem State.modLane_at (s : State) (l : Lane) (f : LaneHw → LaneHw) :
    (s.modLane l f).lanes[l.val] = f s.lanes[l.val] := State.modLane_same s l f
theorem State.modLane_ne (s : State) {l k : Lane} (f : LaneHw → LaneHw) (h : l ≠ k) :
    (s.modLane l f).lanes[k] = s.lanes[k] := by
  have : l.val ≠ k.val := fun e => h (Fin.ext e)
  simp [State.modLane, this]
theorem State.modAxis_same (s : State) (a : Axis) (f : AxisHw → AxisHw) : (s.modAxis a f).axes[a] = f s.axes[a] := by
  simp [State.modAxis]
@[simp] theorem State.modAxis_at (s : State) (a : Axis) (f : AxisHw → AxisHw) :
    (s.modAxis a f).axes[a.val] = f s.axes[a.val] := State.modAxis_same s a f
theorem State.modClu_same (s : State) (c : Clu) (f : CluHw → CluHw) :
    (s.modClu c f).clusters[c] = f s.clusters[c] := by
  simp [State.modClu]
@[simp] theorem State.modClu_at (s : State) (c : Clu) (f : CluHw → CluHw) :
    (s.modClu c f).clusters[c.val] = f s.clusters[c.val] := State.modClu_same s c f
theorem State.modClu_ne (s : State) {c d : Clu} (f : CluHw → CluHw) (h : c ≠ d) :
    (s.modClu c f).clusters[d] = s.clusters[d] := by
  have : c.val ≠ d.val := fun e => h (Fin.ext e)
  simp [State.modClu, this]

/-! ### Events -/

@[simp] theorem State.raise_event_same (s : State) (p : Page) (i : Nat) (h : i < 32) : (s.raise p i).event p i = true := by
  simp [State.raise_event s p i i h]

/-- An event stays raised (R51). -/
theorem State.raise_event_of (s : State) (p q : Page) (i j : Nat) (h : s.event q j = true) (hj : j < 32) :
    (s.raise p i).event q j = true := by
  simp [State.raise_event' s p q i j hj, h]

@[simp] theorem State.wr_event_apart (s : State) (p q : Page) {r : Row} (v : Nat) {i : Nat} (j : Nat)
    (h : Row.apart r i HDR.PG_EVT_RAW 0 = true) : (s.wr p r v i).event q j = s.event q j := by
  unfold State.event
  rw [State.wr_rd_apart _ _ _ _ h]

@[simp] theorem State.flag_event_apart (s : State) (p q : Page) {r : Row} (b : Bool) {i : Nat} (j : Nat)
    (h : Row.apart r i HDR.PG_EVT_RAW 0 = true) : (s.flag p r b i).event q j = s.event q j :=
  State.wr_event_apart s p q _ j h

@[simp] theorem State.wrS_event_apart (s : State) (p q : Page) {r : Row} (v : Int) {i : Nat} (j : Nat)
    (h : Row.apart r i HDR.PG_EVT_RAW 0 = true) : (s.wrS p r v i).event q j = s.event q j :=
  State.wr_event_apart s p q _ j h

@[simp] theorem State.bump_event_apart (s : State) (p q : Page) {r : Row} (n : Nat) {i : Nat} (j : Nat)
    (h : Row.apart r i HDR.PG_EVT_RAW 0 = true) : (s.bump p r n i).event q j = s.event q j :=
  State.wr_event_apart s p q _ j h

/-- A change of a page's state loses no event. -/
theorem State.setPage_event_of (s : State) (p q : Page) (v j : Nat) (h : s.event q j = true) (hj : j < 32) :
    (s.setPage p v).event q j = true := by
  unfold State.setPage
  split
  · exact h
  · exact State.raise_event_of _ _ _ _ _ (by rw [State.wr_event_apart _ _ _ _ _ rfl, h]) hj

theorem State.err_event_of (s : State) (p q : Page) (nn info j : Nat) (h : s.event q j = true) (hj : j < 32) :
    (s.err p nn info).event q j = true := by
  simp [State.err_event s p q nn info j hj, h]

/-! ### Errors -/

/-- A field is none of those that show a page's error. -/
def Row.offShown (r : Row) (i : Nat) : Bool :=
  Row.apart r i HDR.PG_ERR_CODE_CODE 0 && Row.apart r i HDR.PG_ERR_CODE_VALID 0

@[simp] theorem State.wr_errorShown_apart (s : State) (p q : Page) {r : Row} (v : Nat) {i : Nat}
    (h : Row.offShown r i = true) : (s.wr p r v i).errorShown q = s.errorShown q := by
  simp only [Row.offShown, Bool.and_eq_true] at h
  unfold State.errorShown State.on
  rw [State.wr_rd_apart _ _ _ _ h.1, State.wr_rd_apart _ _ _ _ h.2]

@[simp] theorem State.flag_errorShown_apart (s : State) (p q : Page) {r : Row} (b : Bool) {i : Nat}
    (h : Row.offShown r i = true) : (s.flag p r b i).errorShown q = s.errorShown q := State.wr_errorShown_apart s p q _ h

@[simp] theorem State.wrS_errorShown_apart (s : State) (p q : Page) {r : Row} (v : Int) {i : Nat}
    (h : Row.offShown r i = true) : (s.wrS p r v i).errorShown q = s.errorShown q := State.wr_errorShown_apart s p q _ h

@[simp] theorem State.bump_errorShown_apart (s : State) (p q : Page) {r : Row} (n : Nat) {i : Nat}
    (h : Row.offShown r i = true) : (s.bump p r n i).errorShown q = s.errorShown q := State.wr_errorShown_apart s p q _ h

@[simp] theorem State.setPage_errorShown (s : State) (p q : Page) (v : Nat) :
    (s.setPage p v).errorShown q = s.errorShown q := by
  unfold State.setPage
  split
  · rfl
  · rw [State.raise_errorShown, State.wr_errorShown_apart _ _ _ _ rfl]

@[simp] theorem State.setFault_errorShown (s : State) (p q : Page) (b : Bool) :
    (s.setFault p b).errorShown q = s.errorShown q := by
  unfold State.setFault State.when
  split
  · rw [State.raise_errorShown, State.flag_errorShown_apart _ _ _ _ rfl]
  · rw [State.flag_errorShown_apart _ _ _ _ rfl]

@[simp] theorem State.err_errorShown_page (s : State) {p q : Page} (nn info : Nat) (h : p ≠ q) :
    (s.err p nn info).errorShown q = s.errorShown q := by
  unfold State.errorShown State.on
  rw [State.err_rd_page _ _ _ h rfl, State.err_rd_page _ _ _ h rfl]

@[simp] theorem State.errOpen_errorShown_page (s : State) {p q : Page} (nn : Nat) (h : p ≠ q) :
    (s.errOpen p nn).errorShown q = s.errorShown q := State.err_errorShown_page _ nn _ h

/-- The error a page shows after an error depends on what it showed before. -/
theorem State.errorAfter_congr {s t : State} {p : Page} (h : t.errorShown p = s.errorShown p) (nn : Nat) :
    t.errorAfter p nn = s.errorAfter p nn := by
  unfold State.errorAfter
  rw [h]

/-! ### The parts beside the register file -/

/-- Every part of the state but the register file and the count of free values is the same. -/
def SameParts (s t : State) : Prop :=
  (t.pending = s.pending ∧ t.staged = s.staged ∧ t.dclk = s.dclk ∧ t.held = s.held ∧ t.captured = s.captured ∧
    t.reply = s.reply ∧ t.out = s.out ∧ t.vecWas = s.vecWas) ∧
  (t.power = s.power ∧ t.lanes = s.lanes ∧ t.pair = s.pair ∧ t.pace = s.pace ∧ t.axes = s.axes ∧ t.tim = s.tim ∧
    t.clusters = s.clusters ∧ t.cal = s.cal) ∧
  (t.cores = s.cores ∧ t.codec = s.codec ∧ t.commits = s.commits ∧ t.bist = s.bist ∧ t.ddr = s.ddr ∧
    t.intake = s.intake ∧ t.spoil = s.spoil ∧ t.identN = s.identN ∧ t.den = s.den)

theorem SameParts.rest {s t : State} (h : SameParts s t) : t = { s with regs := t.regs, free := t.free } := by
  obtain ⟨⟨h1, h2, h3, h4, h5, h6, h7, h8⟩, ⟨h9, h10, h11, h12, h13, h14, h15, h16⟩,
    ⟨h17, h18, h19, h20, h21, h22, h23, h24, h25⟩⟩ := h
  rw [State.mk.injEq]
  exact ⟨h1, rfl, h2, h3, rfl, h4, h5, h6, h7, h8, h9, h10, h11, h12, h13, h14, h15, h16, h17, h18, h19, h20, h21, h22,
    h23, h24, h25⟩

theorem OnlyFields.sameParts {fs : List FieldAt} {s t : State} (h : OnlyFields fs s t) : SameParts s t := by
  rw [h.rest]
  simp [SameParts]

theorem SameParts.refl (s : State) : SameParts s s := by simp [SameParts]

theorem SameParts.trans {s t u : State} (h : SameParts s t) (k : SameParts t u) : SameParts s u := by
  rw [k.rest, h.rest]
  simp [SameParts]

theorem OnlyFields.of_parts {fs : List FieldAt} {s t u : State} (hf : Untouched fs u t) (hu : s.regs = u.regs)
    (hp : SameParts s t) : OnlyFields fs s t := ⟨fun k d hk => by rw [hu]; exact hf k d hk, hp.rest⟩

/-- None of the fields of a list stands where a copy of a field does. -/
def FieldAt.off (fs : List FieldAt) (r : Row) (i : Nat) : Bool := fs.all fun f => Row.apart f.2.1 f.2.2 r i

@[simp] theorem FieldAt.off_nil (r : Row) (i : Nat) : FieldAt.off [] r i = true := rfl
@[simp] theorem FieldAt.off_cons (f : FieldAt) (fs : List FieldAt) (r : Row) (i : Nat) :
    FieldAt.off (f :: fs) r i = (Row.apart f.2.1 f.2.2 r i && FieldAt.off fs r i) := rfl
@[simp] theorem FieldAt.off_append (fs gs : List FieldAt) (r : Row) (i : Nat) :
    FieldAt.off (fs ++ gs) r i = (FieldAt.off fs r i && FieldAt.off gs r i) := List.all_append

/-- The fields of an error: a field that is none of those of the header that an error changes. -/
@[simp] theorem FieldAt.off_errorFields (p : Page) (r : Row) (i : Nat) :
    FieldAt.off (errorFields p) r i = Row.offErr r i := rfl

theorem Untouched.rd_off {fs : List FieldAt} {s t : State} (h : Untouched fs s t) (p : Page) (r : Row) (i : Nat)
    (hk : FieldAt.off fs r i = true) : t.rd p r i = s.rd p r i := by
  refine h.rd p r i fun hm => ?_
  obtain ⟨f, hf, he⟩ := List.mem_map.1 hm
  exact Row.key_ne_of_apart (List.all_eq_true.1 hk f hf) f.1 p he

theorem Untouched.event_off {fs : List FieldAt} {s t : State} (h : Untouched fs s t) (p : Page) (i : Nat)
    (hk : FieldAt.off fs HDR.PG_EVT_RAW 0 = true) : t.event p i = s.event p i := by
  unfold State.event
  rw [h.rd_off p _ _ hk]

theorem Untouched.errorShown_off {fs : List FieldAt} {s t : State} (h : Untouched fs s t) (p : Page)
    (hc : FieldAt.off fs HDR.PG_ERR_CODE_CODE 0 = true) (hv : FieldAt.off fs HDR.PG_ERR_CODE_VALID 0 = true) :
    t.errorShown p = s.errorShown p := by
  unfold State.errorShown State.on
  rw [h.rd_off p _ _ hc, h.rd_off p _ _ hv]

theorem Untouched.setFault {fs : List FieldAt} {s t : State} (p : Page) (b : Bool) (h : Untouched fs s t)
    (h1 : (p, HDR.PG_STAT_FAULT, 0) ∈ fs) (h2 : (p, HDR.PG_EVT_RAW, 0) ∈ fs) : Untouched fs s (t.setFault p b) := by
  unfold State.setFault
  exact Untouched.when _ _ (Untouched.flag _ _ _ _ h h1) fun u hu => Untouched.raise _ _ hu h2

/-! ### No event is lost -/

/-- Every event raised in s is raised in t (R51). -/
def KeepsEvents (s t : State) : Prop := ∀ (p : Page) (j : Nat), j < 32 → s.event p j = true → t.event p j = true

theorem KeepsEvents.refl (s : State) : KeepsEvents s s := fun _ _ _ h => h

theorem KeepsEvents.trans {s t u : State} (h : KeepsEvents s t) (k : KeepsEvents t u) : KeepsEvents s u :=
  fun p j hj he => k p j hj (h p j hj he)

theorem KeepsEvents.of_regs {s t u : State} (h : KeepsEvents s t) (hr : u.regs = t.regs) : KeepsEvents s u :=
  fun p j hj he => by
    have := h p j hj he
    unfold State.event at this ⊢
    rwa [State.rd_congr hr]

theorem KeepsEvents.wr {s t : State} (p : Page) (r : Row) (v i : Nat) (h : KeepsEvents s t)
    (hr : Row.apart r i HDR.PG_EVT_RAW 0 = true) : KeepsEvents s (t.wr p r v i) :=
  fun q j hj he => by rw [State.wr_event_apart _ _ _ _ _ hr]; exact h q j hj he

theorem KeepsEvents.flag {s t : State} (p : Page) (r : Row) (b : Bool) (i : Nat) (h : KeepsEvents s t)
    (hr : Row.apart r i HDR.PG_EVT_RAW 0 = true) : KeepsEvents s (t.flag p r b i) := h.wr p r _ i hr

theorem KeepsEvents.wrS {s t : State} (p : Page) (r : Row) (v : Int) (i : Nat) (h : KeepsEvents s t)
    (hr : Row.apart r i HDR.PG_EVT_RAW 0 = true) : KeepsEvents s (t.wrS p r v i) := h.wr p r _ i hr

theorem KeepsEvents.bump {s t : State} (p : Page) (r : Row) (n i : Nat) (h : KeepsEvents s t)
    (hr : Row.apart r i HDR.PG_EVT_RAW 0 = true) : KeepsEvents s (t.bump p r n i) := h.wr p r _ i hr

theorem KeepsEvents.raise {s t : State} (p : Page) (n : Nat) (h : KeepsEvents s t) : KeepsEvents s (t.raise p n) :=
  fun q j hj he => State.raise_event_of t p q n j (h q j hj he) hj

theorem KeepsEvents.err {s t : State} (p : Page) (nn info : Nat) (h : KeepsEvents s t) : KeepsEvents s (t.err p nn info) :=
  fun q j hj he => State.err_event_of t p q nn info j (h q j hj he) hj

theorem KeepsEvents.errOpen {s t : State} (p : Page) (nn : Nat) (h : KeepsEvents s t) : KeepsEvents s (t.errOpen p nn) :=
  KeepsEvents.err p nn _ (h.of_regs rfl)

theorem KeepsEvents.errAt {s t : State} (p : Page) (nn off req : Nat) (h : KeepsEvents s t) :
    KeepsEvents s (t.errAt p nn off req) := h.err p nn _

theorem KeepsEvents.setPage {s t : State} (p : Page) (v : Nat) (h : KeepsEvents s t) : KeepsEvents s (t.setPage p v) :=
  fun q j hj he => State.setPage_event_of t p q v j (h q j hj he) hj

theorem KeepsEvents.ite {s t u : State} {c : Prop} [Decidable c] (ht : KeepsEvents s t) (hu : KeepsEvents s u) :
    KeepsEvents s (if c then t else u) := by
  split
  · exact ht
  · exact hu

theorem KeepsEvents.when {s t : State} (c : Bool) (f : State → State) (h : KeepsEvents s t)
    (hf : ∀ u, KeepsEvents s u → KeepsEvents s (f u)) : KeepsEvents s (t.when c f) := KeepsEvents.ite (hf t h) h

theorem KeepsEvents.each {α : Type} {s t : State} (l : List α) (f : State → α → State) (h : KeepsEvents s t)
    (hf : ∀ u x, KeepsEvents s u → KeepsEvents s (f u x)) : KeepsEvents s (t.each l f) := by
  unfold State.each
  induction l generalizing t with
  | nil => exact h
  | cons x l ih => exact ih (hf t x h)

theorem KeepsEvents.setFault {s t : State} (p : Page) (b : Bool) (h : KeepsEvents s t) : KeepsEvents s (t.setFault p b) :=
  (h.flag p HDR.PG_STAT_FAULT b 0 rfl).when _ _ fun _ hu => hu.raise p 5

end Sys2Proof.Machine
end

section
/-! PROOFS. The permitted rate and SLOWREQ (R280, R281): which fields their figures stand in, and that of the rest only the
time without a source of SLOWREQ may change. -/

namespace Sys2Proof.Machine

open Reg

/-- Only the fields listed change, and the time since which no source of SLOWREQ holds. -/
def QuietOnly (fs : List FieldAt) (s t : State) : Prop :=
  OnlyFields fs { s with pace := { s.pace with quietFrom := t.pace.quietFrom } } t

theorem QuietOnly.of_only {fs : List FieldAt} {s t : State} (h : OnlyFields fs s t) : QuietOnly fs s t := by
  have hp : t.pace = s.pace := by rw [h.rest]
  unfold QuietOnly
  rw [hp]
  exact h

theorem QuietOnly.untouched {fs : List FieldAt} {s t : State} (h : QuietOnly fs s t) : Untouched fs s t :=
  fun k d hk => OnlyFields.fields h k d hk

theorem QuietOnly.trans {fs : List FieldAt} {s t u : State} (h : QuietOnly fs s t) (k : QuietOnly fs t u) :
    QuietOnly fs s u := by
  refine OnlyFields.of_parts (u := s) (h.untouched.trans k.untouched) rfl ?_
  refine SameParts.trans ?_ (OnlyFields.sameParts k)
  rw [OnlyFields.rest h]
  simp [SameParts]

theorem QuietOnly.mono {fs gs : List FieldAt} {s t : State} (h : QuietOnly fs s t) (hs : ∀ f ∈ fs, f ∈ gs) :
    QuietOnly gs s t := OnlyFields.mono h hs

/-- The fields in which SLOWREQ and its sources show (R281). -/
def slowFields : List FieldAt :=
  [(.pace, PACE.STAT_SRC_RATE, 0), (.pace, PACE.STAT_SRC_FSAFE, 0), (.pace, PACE.STAT_SLOWREQ, 0), (.pace, PACE.SLOW_CNT, 0),
    (.pace, HDR.PG_EVT_RAW, 0)]

/-- The state in which the time without a source of SLOWREQ counts. -/
def State.quieted (s : State) : State :=
  { s with pace := { s.pace with quietFrom := if s.slowSource then none else some (s.pace.quietFrom.getD s.dclk) } }

theorem State.settleSlow_only (s : State) : OnlyFields slowFields s.quieted s.settleSlow := by
  have h : OnlyFields slowFields s.quieted
      (((s.quieted.wr .pace PACE.STAT_SLOWREQ 1).bump .pace PACE.SLOW_CNT).raise .pace 8) :=
    OnlyFields.raise _ _ (OnlyFields.bump _ _ _ _ (OnlyFields.wr _ _ _ _ (OnlyFields.refl _ _)
      (by simp [slowFields])) (by simp [slowFields])) (by simp [slowFields])
  exact OnlyFields.ite h (OnlyFields.refl _ _)

theorem State.settleSlow_quiet (s : State) : QuietOnly slowFields s s.settleSlow := by
  have h := State.settleSlow_only s
  have hp : s.settleSlow.pace = s.quieted.pace := by rw [h.rest]
  unfold QuietOnly
  rw [hp]
  exact h

theorem State.settleSlow_events (s : State) : KeepsEvents s s.settleSlow :=
  KeepsEvents.ite ((((KeepsEvents.refl s).of_regs (u := s.quieted) rfl).wr .pace PACE.STAT_SLOWREQ 1 0 rfl).bump .pace
    PACE.SLOW_CNT 1 0 rfl |>.raise .pace 8) ((KeepsEvents.refl s).of_regs rfl)

theorem State.settleSources_quiet (s : State) : QuietOnly slowFields s s.settleSources := by
  unfold State.settleSources
  refine (QuietOnly.of_only ?_).trans (State.settleSlow_quiet _)
  exact OnlyFields.flag _ _ _ _ (OnlyFields.flag _ _ _ _ (OnlyFields.refl _ _) (by simp [slowFields]))
    (by simp [slowFields])

theorem State.settleSources_events (s : State) : KeepsEvents s s.settleSources := by
  unfold State.settleSources
  exact (((KeepsEvents.refl s).flag _ _ _ _ rfl).flag _ _ _ _ rfl).trans (State.settleSlow_events _)

/-- The fields in which the lanes with long frames show (R349). -/
def longFields : List FieldAt := (.pair, PAIR.LONG, 0) :: errorFields .pair

theorem State.settleLong_only (s : State) : OnlyFields longFields s s.settleLong := by
  unfold State.settleLong
  refine OnlyFields.each _ (fun u _ hu => OnlyFields.raise _ _ (OnlyFields.errOpen _ _ hu ?_) ?_) _
    (OnlyFields.wr _ _ _ _ (OnlyFields.refl _ _) ?_)
  · exact fun f hf => List.mem_cons_of_mem _ hf
  · simp [longFields, errorFields]
  · simp [longFields]

/-- The fields that a change of the permitted rate may change (R276, R280, R281, R349). -/
def permFields : List FieldAt :=
  [(.pace, PACE.PERM, 0), (.pace, PACE.PERM_F, 0), (.ax 0, AX.VMAX_EFF, 0)] ++ longFields ++ slowFields

theorem State.settlePerm_quiet (s : State) : QuietOnly permFields s s.settlePerm := by
  unfold State.settlePerm
  refine (QuietOnly.of_only (OnlyFields.wr _ _ _ _ (OnlyFields.wr _ _ _ _ (OnlyFields.wr _ _ _ _ (OnlyFields.refl _ _) ?_) ?_)
    ?_)).trans ((QuietOnly.of_only ((State.settleLong_only _).mono ?_)).trans
      ((State.settleSources_quiet _).mono ?_))
  · simp [permFields]
  · simp [permFields]
  · simp [permFields]
  · simp +contextual [permFields]
  · simp +contextual [permFields]

end Sys2Proof.Machine
end

section
/-! PROOFS. A commit of staged fields: once it has taken effect each reads as it was staged (R40). -/

namespace Sys2Proof.Machine

open Reg

theorem State.each_cons {α : Type} (s : State) (x : α) (l : List α) (f : State → α → State) :
    s.each (x :: l) f = (f s x).each l f := rfl

/-- Fields of a page written one after the other, at different places of it: each reads as it was written. -/
theorem State.each_wr_rd (p : Page) (v : Row × Nat → Nat) (l : List (Row × Nat))
    (hl : l.Pairwise fun x y => Row.key p x.1 x.2 ≠ Row.key p y.1 y.2) (s : State) :
    (∀ (q : Page) (r : Row) (i : Nat), (∀ y ∈ l, Row.key p y.1 y.2 ≠ r.key q i) →
      (s.each l fun u e => u.wr p e.1 (v e) e.2).rd q r i = s.rd q r i) ∧
    ∀ x ∈ l, (s.each l fun u e => u.wr p e.1 (v e) e.2).rd p x.1 x.2 = v x % 2 ^ x.1.width := by
  induction l generalizing s with
  | nil => exact ⟨fun _ _ _ _ => rfl, fun x hx => by cases hx⟩
  | cons e l ih =>
    rw [List.pairwise_cons] at hl
    obtain ⟨hf, hv⟩ := ih hl.2 (s.wr p e.1 (v e) e.2)
    constructor
    · intro q r i hq
      rw [State.each_cons, hf q r i fun y hy => hq y (List.mem_cons_of_mem _ hy), State.rd_wr_ne]
      exact hq e List.mem_cons_self
    · intro x hx
      rw [State.each_cons]
      rcases List.mem_cons.1 hx with rfl | hx
      · rw [hf p _ _ fun y hy he => hl.1 y hy he.symm, State.wr_rd_same]
      · exact hv x hx

/-- The copies of the staged fields of a page. -/
def stagedCopies (p : Page) : List (Row × Nat) := (pageStaged p).flatMap fun r => (List.range r.count).map fun i => (r, i)

theorem State.copyStaged_eq (s : State) (p : Page) :
    s.copyStaged p = s.each (stagedCopies p) fun u e => u.wr p e.1 (s.rdStaged p e.1 e.2) e.2 := by
  have h (l : List (Row × Nat)) (u : State) (hu : u.staged = s.staged) :
      u.each l (fun u e => u.wr p e.1 (u.rdStaged p e.1 e.2) e.2) =
        u.each l fun u e => u.wr p e.1 (s.rdStaged p e.1 e.2) e.2 := by
    induction l generalizing u with
    | nil => rfl
    | cons e l ih =>
      have he : u.rdStaged p e.1 e.2 = s.rdStaged p e.1 e.2 := by unfold State.rdStaged; rw [hu]
      rw [State.each_cons, State.each_cons, he]
      exact ih _ hu
  rw [← h _ s rfl]
  simp only [State.copyStaged, State.each, stagedCopies, List.foldl_flatMap, List.foldl_map]

/-- The copies of staged fields of a page stand at different places. -/
def stagedApart (p : Page) : Prop := (stagedCopies p).Pairwise fun x y => Row.apart x.1 x.2 y.1 y.2 = true

theorem State.copyStaged_committed (s : State) {p : Page} (h : stagedApart p) : Committed s p (s.copyStaged p) := by
  intro r hr i hi
  rw [State.copyStaged_eq]
  refine (State.each_wr_rd p (fun e => s.rdStaged p e.1 e.2) (stagedCopies p)
    (h.imp fun hxy => Row.key_ne_of_apart hxy p p) s).2 (r, i) ?_
  exact List.mem_flatMap.2 ⟨r, hr, List.mem_map.2 ⟨i, List.mem_range.2 hi, rfl⟩⟩

/-- What leaves the staged fields of a page alone leaves a commit of them in force. -/
theorem Committed.untouched {s t u : State} {p : Page} {fs : List FieldAt} (h : Committed s p t) (k : Untouched fs t u)
    (ho : ∀ r ∈ pageStaged p, ∀ i, i < r.count → FieldAt.off fs r i = true) : Committed s p u :=
  fun r hr i hi => by rw [k.rd_off p r i (ho r hr i hi), h r hr i hi]

end Sys2Proof.Machine
end

section
/-! PROOFS. The operations of the motion axes: which fields each changes, and what it leaves of the rest. -/

namespace Sys2Proof.Machine

open Reg

/-! ### A step is counted -/

/-- The fields in which the sign of the accumulator shows (R274). -/
def reverseFields : List FieldAt := [(.pace, PACE.STAT_REVERSE, 0), (.pace, HDR.PG_EVT_RAW, 0)]

theorem State.settleReverse_only (s : State) : OnlyFields reverseFields s s.settleReverse := by
  unfold State.settleReverse
  refine OnlyFields.when _ _ (OnlyFields.flag _ _ _ _ (OnlyFields.refl _ _) ?_) fun u hu => OnlyFields.raise _ _ hu ?_ <;>
    simp [reverseFields]

/-- The pace unit after an edge (R273, R276). -/
def State.edgePace (s : State) (fwd : Bool) : Pace :=
  let a := if fwd then s.pace.acc + s.rd .pace PACE.RATIO_NUM else s.pace.acc - s.rd .pace PACE.RATIO_NUM
  let tick := fwd && decide ((s.rd .pace PACE.RATIO_DEN : Int) ≤ a)
  { s.pace with
    acc := signed 48 (unsigned 48 (if tick then a - s.rd .pace PACE.RATIO_DEN else a)), ticks := s.pace.ticks + tick.toNat }

theorem State.paceEdge_only (s : State) (f : Bool) :
    OnlyFields reverseFields { s with pace := s.edgePace f } (s.paceEdge f) := State.settleReverse_only _

@[simp] theorem State.paceEdge_pace (s : State) (f : Bool) : (s.paceEdge f).pace = s.edgePace f := by
  rw [(State.paceEdge_only s f).rest]

/-- A step is an edge of BELT mode: it is one of AX0 and that mode is in force (R276). -/
theorem State.axCount_eq (s : State) (a : Axis) (neg : Bool) :
    s.axCount a neg =
      let u := (s.wrS (.ax a) AX.POS (s.rdS (.ax a) AX.POS + toward neg 1)).bump (.ax a) AX.STEP_CNT
      if a = 0 ∧ s.rd .pace PACE.CTRL_MODE = 2 then u.paceEdge (!neg) else u := by
  unfold State.axCount
  simp +decide

theorem State.axCount_pace (s : State) (a : Axis) (neg : Bool) : (s.axCount a neg).pace = s.beltEdge a neg := by
  rw [State.axCount_eq, State.beltEdge]
  split
  · simp +decide [State.edgePace]
  · simp

theorem State.axCount_untouched (s : State) (a : Axis) (neg : Bool) :
    Untouched ([(.ax a, AX.POS, 0), (.ax a, AX.STEP_CNT, 0)] ++ s.beltFields a) s (s.axCount a neg) := by
  have h : Untouched [(.ax a, AX.POS, 0), (.ax a, AX.STEP_CNT, 0)] s
      ((s.wrS (.ax a) AX.POS (s.rdS (.ax a) AX.POS + toward neg 1)).bump (.ax a) AX.STEP_CNT) :=
    Untouched.bump _ _ _ _ (Untouched.wrS _ _ _ _ (Untouched.refl _ _) (by simp)) (by simp)
  rw [State.axCount_eq, State.beltFields]
  split
  · exact (h.mono (by simp +contextual)).trans
      ((State.paceEdge_only _ _).fields.mono (by simp +contextual [reverseFields]))
  · exact h.mono (by simp)

theorem State.axCount_only (s : State) (a : Axis) (neg : Bool) :
    OnlyFields ([(.ax a, AX.POS, 0), (.ax a, AX.STEP_CNT, 0)] ++ s.beltFields a) { s with pace := s.beltEdge a neg }
      (s.axCount a neg) := by
  refine OnlyFields.of_parts (State.axCount_untouched s a neg) rfl ?_
  rw [State.axCount_eq, State.beltEdge]
  split
  · refine SameParts.trans ?_ (State.paceEdge_only _ _).sameParts
    simp +decide [SameParts, State.edgePace]
  · simp [SameParts]

/-- Every field but the count of steps, the position and those of an edge reads as before. -/
theorem State.axCount_rd (s : State) (a : Axis) (neg : Bool) (p : Page) (r : Row) (i : Nat)
    (h : FieldAt.off ([(.ax a, AX.POS, 0), (.ax a, AX.STEP_CNT, 0)] ++ reverseFields) r i = true) :
    (s.axCount a neg).rd p r i = s.rd p r i := by
  refine ((State.axCount_untouched s a neg).mono fun f hf => ?_).rd_off p r i h
  unfold State.beltFields at hf
  split at hf
  · exact hf
  · exact List.mem_append_left _ (by simpa using hf)

theorem State.axCount_pos (s : State) (a : Axis) (neg : Bool) :
    (s.axCount a neg).rd (.ax a) AX.POS = unsigned 32 (s.rdS (.ax a) AX.POS + toward neg 1) := by
  rw [State.axCount_eq]
  split
  · rw [(State.paceEdge_only _ _).fields.rd_off _ _ _ rfl]
    simp +decide
    rfl
  · simp +decide
    rfl

theorem State.axCount_stepCnt (s : State) (a : Axis) (neg : Bool) :
    (s.axCount a neg).rd (.ax a) AX.STEP_CNT = min (s.rd (.ax a) AX.STEP_CNT + 1) (2 ^ 32 - 1) := by
  rw [State.axCount_eq]
  split
  · rw [(State.paceEdge_only _ _).fields.rd_off _ _ _ rfl]
    simp +decide
    rfl
  · simp +decide
    rfl

@[simp] theorem State.axCount_axes (s : State) (a b : Axis) (neg : Bool) : (s.axCount b neg).axes[a] = s.axes[a] := by
  rw [(State.axCount_only s b neg).rest]

/-- An edge of BELT mode depends on the pace unit and its registers alone. -/
theorem State.beltEdge_congr {s t : State} (hp : t.pace = s.pace) (hr : t.regs = s.regs) (a : Axis) (neg : Bool) :
    t.beltEdge a neg = s.beltEdge a neg := by
  simp only [State.beltEdge, State.paceEdge_pace, State.edgePace, State.rd_congr hr, hp]

theorem State.beltFields_congr {s t : State} (hr : t.regs = s.regs) (a : Axis) : t.beltFields a = s.beltFields a := by
  simp only [State.beltFields, State.rd_congr hr]

@[simp] theorem State.modAxis_beltEdge (s : State) (b : Axis) (f : AxisHw → AxisHw) (a : Axis) (neg : Bool) :
    (s.modAxis b f).beltEdge a neg = s.beltEdge a neg :=
  State.beltEdge_congr (s := s) (t := s.modAxis b f) rfl rfl a neg
@[simp] theorem State.emit_beltEdge (s : State) (o : Out) (a : Axis) (neg : Bool) :
    (s.emit o).beltEdge a neg = s.beltEdge a neg := State.beltEdge_congr (s := s) (t := s.emit o) rfl rfl a neg
@[simp] theorem State.modAxis_beltFields (s : State) (b : Axis) (f : AxisHw → AxisHw) (a : Axis) :
    (s.modAxis b f).beltFields a = s.beltFields a := State.beltFields_congr (s := s) (t := s.modAxis b f) rfl a
@[simp] theorem State.emit_beltFields (s : State) (o : Out) (a : Axis) : (s.emit o).beltFields a = s.beltFields a :=
  State.beltFields_congr (s := s) (t := s.emit o) rfl a

/-! ### States, stops and faults of an axis -/

/-- A frame stays a frame when both states have an axis changed alike. -/
theorem OnlyFields.modAxis {fs : List FieldAt} {s t : State} (a : Axis) (f : AxisHw → AxisHw) (h : OnlyFields fs s t) :
    OnlyFields fs (s.modAxis a f) (t.modAxis a f) :=
  ⟨h.fields, by rw [h.rest]; rfl⟩

theorem State.setAx_of_ne (s : State) (a : Axis) {v : Nat} (h : v ≠ axIdle) : s.setAx a v = s.setPage (.ax a) v := by
  unfold State.setAx
  simp [h]

/-- The fields in which the state of an axis shows (R52, R297). -/
def axStateFields (a : Axis) : List FieldAt := [(.ax a, HDR.PG_STAT_STATE, 0), (.ax a, HDR.PG_EVT_RAW, 0)]

/-- An axis that becomes IDLE notes when (R295). -/
def State.idled (s : State) (a : Axis) (v : Nat) (h : AxisHw) : AxisHw :=
  if v = axIdle && s.axSt a != axIdle then { h with idleAt := s.dclk } else h

theorem State.modAxis_id (s : State) (a : Axis) : s.modAxis a (fun h => h) = s := by
  have : s.axes.set a s.axes[a] = s.axes := by
    ext i hi
    rw [Vector.getElem_set]
    split
    · rename_i he; subst he; rfl
    · rfl
  unfold State.modAxis
  rw [this]

theorem State.setAx_only (s : State) (a : Axis) (v : Nat) :
    OnlyFields (axStateFields a) (s.modAxis a (s.idled a v)) (s.setAx a v) := by
  have h : (if v = axIdle && s.axSt a != axIdle then s.modAxis a fun h => { h with idleAt := s.dclk } else s) =
      s.modAxis a (s.idled a v) := by
    unfold State.idled
    split
    · rfl
    · exact (State.modAxis_id s a).symm
  unfold State.setAx
  rw [h]
  exact OnlyFields.setPage _ _ (OnlyFields.refl _ _) (by simp [axStateFields]) (by simp [axStateFields])

theorem State.setAx_state (s : State) (a : Axis) {v : Nat} (h : v < 16) : (s.setAx a v).axSt a = v := by
  unfold State.setAx State.axSt
  rw [State.setPage_rd_state _ _ _ h]

/-- What an axis holds once it has been stopped at once (R292). -/
def AxisHw.halted (h : AxisHw) : AxisHw :=
  { h with vel := 0, acc := 0, lead := 0, move := none, homing := .none, ramp := false }

/-- An axis at rest reports it (R290, R297). -/
theorem State.axReport_rest (s : State) (a : Axis) (old : Int) (h : s.axes[a].vel = 0) :
    s.axReport a old = (s.wr (.ax a) AX.STAT_PROF 0).wrS (.ax a) AX.VEL 0 := by
  simp only [State.axReport, h, if_true, Int.zero_tdiv]

theorem State.axHalt_eq (s : State) (a : Axis) :
    s.axHalt a = ((s.modAxis a AxisHw.halted).wr (.ax a) AX.STAT_PROF 0).wrS (.ax a) AX.VEL 0 := by
  unfold State.axHalt
  rw [State.axReport_rest _ _ _ (by rw [State.modAxis_same])]
  rfl

/-- The fields in which the motion of an axis at rest shows (R297). -/
def haltFields (a : Axis) : List FieldAt := [(.ax a, AX.STAT_PROF, 0), (.ax a, AX.VEL, 0)]

theorem State.axHalt_only (s : State) (a : Axis) : OnlyFields (haltFields a) (s.modAxis a AxisHw.halted) (s.axHalt a) := by
  rw [State.axHalt_eq]
  exact OnlyFields.wrS _ _ _ _ (OnlyFields.wr _ _ _ _ (OnlyFields.refl _ _) (by simp [haltFields])) (by simp [haltFields])

/-- The fields of an axis that has faulted (R293, R294). -/
def failFields (a : Axis) : List FieldAt :=
  [(.ax a, AX.STAT_LOST, 0), (.ax a, AX.STAT_PROF, 0), (.ax a, AX.VEL, 0), (.ax a, HDR.PG_STAT_STATE, 0),
    (.ax a, HDR.PG_STAT_FAULT, 0)] ++ errorFields (.ax a)

/-- The axis has stopped, its error is recorded and LOST is set: all of a fault but the state (R293, R294). -/
def State.axLost (s : State) (a : Axis) (nn : Nat) : State :=
  ((s.axHalt a).errOpen (.ax a) nn).when (!s.on (.ax a) AX.STAT_LOST) fun t =>
    (t.wr (.ax a) AX.STAT_LOST 1).raise (.ax a) 11

theorem State.axFail_eq (s : State) (a : Axis) (nn : Nat) :
    s.axFail a nn = ((s.axLost a nn).setPage (.ax a) axFault).setFault (.ax a) true := by
  rw [← State.setAx_of_ne _ _ (by decide)]
  rfl

theorem State.axLost_only (s : State) (a : Axis) (nn : Nat) :
    OnlyFields (failFields a) (s.modAxis a AxisHw.halted) (s.axLost a nn) := by
  have h : OnlyFields (failFields a) (s.modAxis a AxisHw.halted) ((s.axHalt a).errOpen (.ax a) nn) :=
    OnlyFields.errOpen _ _ ((State.axHalt_only s a).mono (by simp [haltFields, failFields])) (by simp +contextual [failFields])
  exact OnlyFields.when _ _ h fun u hu => OnlyFields.raise _ _
    (OnlyFields.wr _ _ _ _ hu (by simp [failFields])) (by simp [failFields, errorFields])

theorem State.axFail_only (s : State) (a : Axis) (nn : Nat) :
    OnlyFields (failFields a) (s.modAxis a AxisHw.halted) (s.axFail a nn) := by
  have h := OnlyFields.setPage (.ax a) axFault (State.axLost_only s a nn) (by simp [failFields])
    (by simp [failFields, errorFields])
  rw [State.axFail_eq]
  refine OnlyFields.of_parts (u := s.modAxis a AxisHw.halted)
    (h.fields.setFault _ _ (by simp [failFields]) (by simp [failFields, errorFields])) rfl ?_
  exact h.sameParts.trans (by simp [SameParts])

/-- A fault of an axis (R293, R294): it is in FAULT and at rest, its position is lost, and the error is recorded. -/
structure AxFailed (s : State) (a : Axis) (nn : Nat) (t : State) : Prop where
  state : t.axSt a = axFault
  fault : t.on (.ax a) HDR.PG_STAT_FAULT = true
  error : t.errorShown (.ax a) = s.errorAfter (.ax a) nn
  lost : t.on (.ax a) AX.STAT_LOST = true
  rest : t.axes[a].vel = 0

theorem State.axFail_failed (s : State) (a : Axis) (nn : Nat) (hn : nn < 256) : AxFailed s a nn (s.axFail a nn) where
  state := by
    rw [State.axFail_eq, State.axSt, State.setFault_rd_apart _ _ _ _ rfl rfl, State.setPage_rd_state _ _ _ (by decide)]
  fault := by
    rw [State.axFail_eq, State.on, State.setFault_rd_fault]
    rfl
  error := by
    have h : ((s.axHalt a).errOpen (.ax a) nn).errorShown (.ax a) = s.errorAfter (.ax a) nn := by
      rw [State.errOpen_errorShown _ _ _ hn]
      exact State.errorAfter_congr ((State.axHalt_only s a).fields.errorShown_off _ (by simp +decide [haltFields])
        (by simp +decide [haltFields])) nn
    rw [State.axFail_eq, State.setFault_errorShown, State.setPage_errorShown, ← h, State.axLost, State.when]
    split
    · rw [State.raise_errorShown, State.wr_errorShown_apart _ _ _ _ rfl]
    · rfl
  lost := by
    rw [State.axFail_eq, State.on, State.setFault_rd_apart _ _ _ _ rfl rfl, State.setPage_rd_apart _ _ _ _ rfl rfl,
      State.axLost, State.when]
    split
    · simp +decide
    · rename_i h
      rw [State.errOpen_rd_apart _ _ _ _ rfl, (State.axHalt_only s a).fields.rd_off _ _ _ (by simp +decide [haltFields])]
      simpa [State.on] using h
  rest := by
    rw [(State.axFail_only s a nn).rest]
    exact congrArg AxisHw.vel (State.modAxis_same s a AxisHw.halted)

/-- A fault that follows operations which touch neither error nor LOST of the axis is a fault of the state before them. -/
theorem AxFailed.congr {s u t : State} {a : Axis} {nn : Nat} (h : AxFailed u a nn t)
    (he : u.errorShown (.ax a) = s.errorShown (.ax a)) : AxFailed s a nn t :=
  { h with error := h.error.trans (State.errorAfter_congr he nn) }

/-! ### Steps (R286, R287) -/

/-- The state once the generator has issued a step that is due (R287). -/
def State.axStepped (s : State) (a : Axis) : State :=
  let neg := decide (s.axes[a].lead < 0)
  ((s.modAxis a fun h => { h with
    lead := h.lead - toward neg stepUnit, homeSteps := h.homeSteps + 1, stepAt := some s.dclk }).emit
      (.step a.val neg)).axCount a neg

/-- A step is due: the profile is a whole step ahead, and no wake, DIR or step rate holds it back (R287, R295). -/
def State.stepDue (s : State) (a : Axis) : Bool :=
  s.devUp && !s.shadow && decide (stepUnit ≤ s.axes[a].lead.natAbs) && decide (s.axes[a].holdUntil ≤ s.dclk) &&
    s.stepMay a (decide (s.axes[a].lead < 0))

theorem State.axStepped_axes (s : State) (a : Axis) :
    (s.axStepped a).axes[a].homing = s.axes[a].homing ∧ (s.axStepped a).axes[a].homeSteps = s.axes[a].homeSteps + 1 := by
  have h : (s.axStepped a).axes[a] = ({ s.axes[a] with
      lead := s.axes[a].lead - toward (decide (s.axes[a].lead < 0)) stepUnit, homeSteps := s.axes[a].homeSteps + 1
      stepAt := some s.dclk } : AxisHw) :=
    (State.axCount_axes _ a a _).trans (State.modAxis_same s a fun h => { h with
      lead := h.lead - toward (decide (s.axes[a].lead < 0)) stepUnit, homeSteps := h.homeSteps + 1
      stepAt := some s.dclk })
  rw [h]
  exact ⟨rfl, rfl⟩

theorem State.axStepped_rd (s : State) (a : Axis) (p : Page) (r : Row) (i : Nat)
    (h : FieldAt.off ([(.ax a, AX.POS, 0), (.ax a, AX.STEP_CNT, 0)] ++ reverseFields) r i = true) :
    (s.axStepped a).rd p r i = s.rd p r i := by
  unfold State.axStepped
  dsimp only
  rw [State.axCount_rd _ _ _ _ _ _ h]
  rfl

/-- What a step does on a homing axis: its bound counts (R293); on any other it is all. -/
theorem exec_axisStep_due {s : State} {a : Axis} (h : s.stepDue a = true) :
    exec (.axisStep a) s = .next (match s.axes[a].homing with
      | .seek => if s.rd (.ax a) AX.HOME_MAX ≤ s.axes[a].homeSteps + 1 then (s.axStepped a).axFail a 0x24 else s.axStepped a
      | .backoff =>
        if s.rd (.ax a) AX.BACKOFF_MAX ≤ s.axes[a].homeSteps + 1 then (s.axStepped a).axFail a 0x25 else s.axStepped a
      | _ => s.axStepped a) := by
  obtain ⟨hh, hn⟩ := State.axStepped_axes s a
  have hs : exec (.axisStep a) s = if s.stepDue a = true then (match (s.axStepped a).axes[a].homing with
      | .seek => .next (if (s.axStepped a).rd (.ax a) AX.HOME_MAX ≤ (s.axStepped a).axes[a].homeSteps then
          (s.axStepped a).axFail a 0x24 else s.axStepped a)
      | .backoff => .next (if (s.axStepped a).rd (.ax a) AX.BACKOFF_MAX ≤ (s.axStepped a).axes[a].homeSteps then
          (s.axStepped a).axFail a 0x25 else s.axStepped a)
      | _ => .next (s.axStepped a)) else .next s := rfl
  rw [hs, if_pos h, hh, hn, State.axStepped_rd s a (.ax a) AX.HOME_MAX 0 (by simp +decide [reverseFields]),
    State.axStepped_rd s a (.ax a) AX.BACKOFF_MAX 0 (by simp +decide [reverseFields])]
  cases s.axes[a].homing <;> rfl

theorem exec_axisStep_held {s : State} {a : Axis} (h : s.stepDue a = false) : exec (.axisStep a) s = .next s := by
  simp only [State.stepDue] at h
  show execAxisStep a s = _
  simp only [execAxisStep, h]
  rfl

end Sys2Proof.Machine
end

section
namespace Sys2Proof.Machine

open Reg

/-! ### What a step answers -/

theorem State.stepDue_of {s : State} {a : Axis} (hu : s.devUp = true) (hs : s.shadow = false)
    (hl : stepUnit ≤ s.axes[a].lead.natAbs) (hh : s.axes[a].holdUntil ≤ s.dclk)
    (hm : s.stepMay a (decide (s.axes[a].lead < 0)) = true) : s.stepDue a = true := by
  simp only [State.stepDue, hu, hs, hl, hh, hm, decide_true, Bool.not_false, Bool.and_self]

theorem axStepped_pace (s : State) (a : Axis) :
    (s.axStepped a).pace = s.beltEdge a (decide (s.axes[a].lead < 0)) := by
  unfold State.axStepped
  dsimp only
  rw [State.axCount_pace, State.emit_beltEdge, State.modAxis_beltEdge]

theorem axStepped_out (s : State) (a : Axis) :
    (s.axStepped a).out = s.out ++ [.step a.val (decide (s.axes[a].lead < 0))] := by
  unfold State.axStepped
  dsimp only
  rw [(State.axCount_only _ _ _).rest]
  rfl

theorem axStepped_only (s : State) (a : Axis) :
    OnlyFields ([(.ax a, AX.POS, 0), (.ax a, AX.STEP_CNT, 0)] ++ s.beltFields a)
      ({ s with out := (s.axStepped a).out, pace := (s.axStepped a).pace }.modAxis a fun h => { h with
        lead := h.lead - toward (decide (h.lead < 0)) stepUnit, homeSteps := h.homeSteps + 1, stepAt := some s.dclk })
      (s.axStepped a) := by
  rw [axStepped_pace, axStepped_out]
  have h := State.axCount_only ((s.modAxis a fun h => { h with
    lead := h.lead - toward (decide (s.axes[a].lead < 0)) stepUnit, homeSteps := h.homeSteps + 1
    stepAt := some s.dclk }).emit (.step a.val (decide (s.axes[a].lead < 0)))) a (decide (s.axes[a].lead < 0))
  rw [State.emit_beltFields, State.modAxis_beltFields, State.emit_beltEdge, State.modAxis_beltEdge] at h
  exact h

theorem axisStep_issues (s : State) (a : Axis) (h : s.stepDue a = true) (hs : s.axes[a].homing ≠ .seek)
    (hb : s.axes[a].homing ≠ .backoff) : exec (.axisStep a) s = .next (s.axStepped a) := by
  rw [exec_axisStep_due h]
  split
  · contradiction
  · contradiction
  · rfl

theorem axStepped_fails (s : State) (a : Axis) (nn : Nat) (hn : nn < 256) :
    AxFailed s a nn ((s.axStepped a).axFail a nn) := by
  refine (State.axFail_failed (s.axStepped a) a nn hn).congr ?_
  unfold State.errorShown State.on
  rw [State.axStepped_rd _ _ _ _ _ (by simp +decide [reverseFields]),
    State.axStepped_rd _ _ _ _ _ (by simp +decide [reverseFields])]

/-- Homing past its bound faults (R293). -/
theorem axisStep_seek_faults {s : State} {a : Axis} (h : s.stepDue a = true) (hs : s.axes[a].homing = .seek)
    (hb : s.rd (.ax a) AX.HOME_MAX ≤ s.axes[a].homeSteps + 1) : ∃ t, exec (.axisStep a) s = .next t ∧ AxFailed s a 0x24 t :=
  ⟨_, by rw [exec_axisStep_due h, hs]; exact congrArg _ (if_pos hb), axStepped_fails s a 0x24 (by decide)⟩

theorem axisStep_backoff_faults {s : State} {a : Axis} (h : s.stepDue a = true) (hs : s.axes[a].homing = .backoff)
    (hb : s.rd (.ax a) AX.BACKOFF_MAX ≤ s.axes[a].homeSteps + 1) :
    ∃ t, exec (.axisStep a) s = .next t ∧ AxFailed s a 0x25 t :=
  ⟨_, by rw [exec_axisStep_due h, hs]; exact congrArg _ (if_pos hb), axStepped_fails s a 0x25 (by decide)⟩

theorem axisStep_held {s : State} {a : Axis} (h : s.devUp = false ∨ s.shadow = true ∨ s.axes[a].lead.natAbs < stepUnit ∨
    s.dclk < s.axes[a].holdUntil ∨ s.stepMay a (decide (s.axes[a].lead < 0)) = false) : exec (.axisStep a) s = .next s := by
  refine exec_axisStep_held ?_
  rcases h with h | h | h | h | h
  · simp [State.stepDue, h]
  · simp [State.stepDue, h]
  · simp only [State.stepDue, Nat.not_le.2 h, decide_false, Bool.and_false, Bool.false_and]
  · simp only [State.stepDue, Nat.not_le.2 h, decide_false, Bool.and_false, Bool.false_and]
  · simp only [State.stepDue, h, Bool.and_false]

/-- The state once a SHADOW has seen a step (R286, R353). -/
def State.axSeen (s : State) (a : Axis) (neg : Bool) : State :=
  (s.modAxis a fun h => { h with
    seen := some (s.dclk, h.seen.map fun (e : Nat × Option Nat × Bool) => s.dclk - e.1, neg) }).axCount a neg

theorem exec_observedStep {s : State} {a : Axis} (neg : Bool) (hu : s.devUp = true) (ho : s.axSt a = axObserving) :
    exec (.observedStep a neg) s = .next (s.axSeen a neg) := by
  show execObservedStep a neg s = _
  unfold execObservedStep State.axSeen State.modAxis
  rw [if_pos (by simp [hu, ho])]
  dsimp only
  cases s.axes[a].seen <;> rfl

theorem observedStep_counts {s : State} {a : Axis} (neg : Bool) (hu : s.devUp = true) (ho : s.axSt a = axObserving) :
    ∃ t, exec (.observedStep a neg) s = .next t ∧ t.pace = s.beltEdge a neg ∧
      t.rd (.ax a) AX.POS = unsigned 32 (s.rdS (.ax a) AX.POS + toward neg 1) ∧
      t.rd (.ax a) AX.STEP_CNT = min (s.rd (.ax a) AX.STEP_CNT + 1) (2 ^ 32 - 1) ∧
      OnlyFields ([(.ax a, AX.POS, 0), (.ax a, AX.STEP_CNT, 0)] ++ s.beltFields a)
        ({ s with pace := t.pace }.modAxis a fun h => { h with
          seen := some (s.dclk, h.seen.map fun (e : Nat × Option Nat × Bool) => s.dclk - e.1, neg) }) t := by
  have hp : (s.axSeen a neg).pace = s.beltEdge a neg :=
    (State.axCount_pace _ a neg).trans (State.modAxis_beltEdge ..)
  refine ⟨_, exec_observedStep neg hu ho, hp, State.axCount_pos _ a neg, State.axCount_stepCnt _ a neg, ?_⟩
  have h := State.axCount_only (s.modAxis a fun h => { h with
    seen := some (s.dclk, h.seen.map fun (e : Nat × Option Nat × Bool) => s.dclk - e.1, neg) }) a neg
  rw [State.modAxis_beltFields, State.modAxis_beltEdge, ← hp] at h
  exact h

end Sys2Proof.Machine
end

section
namespace Sys2Proof.Machine

open Reg

/-! ### Updates of the generator (R289, R290) -/

/-- Only the fields listed change, and what the axis holds. -/
def AxisOnly (a : Axis) (fs : List FieldAt) (s t : State) : Prop := OnlyFields fs (s.modAxis a fun _ => t.axes[a]) t

theorem State.modAxis_twice (s : State) (a : Axis) (f g : AxisHw → AxisHw) :
    (s.modAxis a f).modAxis a g = s.modAxis a fun h => g (f h) := by
  simp [State.modAxis]

theorem AxisOnly.of_only {a : Axis} {fs : List FieldAt} {s t : State} {f : AxisHw → AxisHw}
    (h : OnlyFields fs (s.modAxis a f) t) : AxisOnly a fs s t := by
  have ht : t.axes[a] = f s.axes[a] := by
    rw [h.rest]
    exact State.modAxis_same s a f
  unfold AxisOnly
  rw [ht]
  exact h

theorem AxisOnly.of_same {a : Axis} {fs : List FieldAt} {s t : State} (h : OnlyFields fs s t) : AxisOnly a fs s t :=
  AxisOnly.of_only (f := fun x => x) (by rw [State.modAxis_id]; exact h)

theorem AxisOnly.refl (a : Axis) (fs : List FieldAt) (s : State) : AxisOnly a fs s s := .of_same (OnlyFields.refl fs s)

theorem AxisOnly.untouched {a : Axis} {fs : List FieldAt} {s t : State} (h : AxisOnly a fs s t) : Untouched fs s t :=
  fun k d hk => OnlyFields.fields h k d hk

theorem AxisOnly.trans {a : Axis} {fs : List FieldAt} {s t u : State} (h : AxisOnly a fs s t) (k : AxisOnly a fs t u) :
    AxisOnly a fs s u := by
  refine OnlyFields.of_parts (u := s) (h.untouched.trans k.untouched) rfl ?_
  refine SameParts.trans ?_ (OnlyFields.sameParts k)
  have h2 := (OnlyFields.modAxis a (fun _ => u.axes[a]) h).sameParts
  rw [State.modAxis_twice] at h2
  exact h2

theorem AxisOnly.mono {a : Axis} {fs gs : List FieldAt} {s t : State} (h : AxisOnly a fs s t) (hs : ∀ f ∈ fs, f ∈ gs) :
    AxisOnly a gs s t := OnlyFields.mono h hs

/-- The fields that an update of the generator may change (R297). -/
def updateFields (a : Axis) : List FieldAt :=
  [(.ax a, AX.STAT_PROF, 0), (.ax a, AX.VEL, 0), (.ax a, AX.STAT_DIR, 0), (.ax a, AX.STAT_AT_TARGET, 0),
    (.ax a, AX.STAT_LOST, 0), (.ax a, HDR.PG_STAT_STATE, 0), (.ax a, HDR.PG_EVT_RAW, 0)]

theorem State.setAx_axes (s : State) (a : Axis) (v : Nat) : (s.setAx a v).axes[a] = s.idled a v s.axes[a] := by
  rw [(State.setAx_only s a v).rest]
  exact State.modAxis_same s a _

@[simp] theorem State.idled_vel (s : State) (a : Axis) (v : Nat) (h : AxisHw) : (s.idled a v h).vel = h.vel := by
  unfold State.idled
  split <;> rfl

@[simp] theorem State.idled_updAt (s : State) (a : Axis) (v : Nat) (h : AxisHw) : (s.idled a v h).updAt = h.updAt := by
  unfold State.idled
  split <;> rfl

theorem State.setAx_axisOnly (s : State) (a : Axis) (v : Nat) : AxisOnly a (axStateFields a) s (s.setAx a v) :=
  AxisOnly.of_only (State.setAx_only s a v)

/-- What a command leaves of an axis: the fields `updateFields`, its velocity and the time of its last update. -/
structure Settled (a : Axis) (s t : State) : Prop where
  only : AxisOnly a (updateFields a) s t
  vel : t.axes[a].vel = s.axes[a].vel
  updAt : t.axes[a].updAt = s.axes[a].updAt
  events : KeepsEvents s t

theorem Settled.refl (a : Axis) (s : State) : Settled a s s := ⟨AxisOnly.refl a _ s, rfl, rfl, KeepsEvents.refl s⟩

theorem Settled.trans {a : Axis} {s t u : State} (h : Settled a s t) (k : Settled a t u) : Settled a s u :=
  ⟨h.only.trans k.only, k.vel.trans h.vel, k.updAt.trans h.updAt, h.events.trans k.events⟩

theorem Settled.of_only {a : Axis} {s t : State} (h : OnlyFields (updateFields a) s t) (he : KeepsEvents s t) :
    Settled a s t :=
  ⟨AxisOnly.of_same h, by rw [h.rest], by rw [h.rest], he⟩

theorem Settled.modAxis (a : Axis) (s : State) (f : AxisHw → AxisHw) (hv : (f s.axes[a]).vel = s.axes[a].vel)
    (hu : (f s.axes[a]).updAt = s.axes[a].updAt) : Settled a s (s.modAxis a f) :=
  ⟨AxisOnly.of_only (OnlyFields.refl _ _), by rw [State.modAxis_same, hv], by rw [State.modAxis_same, hu],
    (KeepsEvents.refl s).of_regs rfl⟩

theorem Settled.setAx (a : Axis) (s : State) (v : Nat) : Settled a s (s.setAx a v) where
  only := (State.setAx_axisOnly s a v).mono (by simp [axStateFields, updateFields])
  vel := by rw [State.setAx_axes, State.idled_vel]
  updAt := by rw [State.setAx_axes, State.idled_updAt]
  events := by
    unfold State.setAx
    exact KeepsEvents.setPage _ _ (KeepsEvents.ite ((KeepsEvents.refl s).of_regs rfl) (KeepsEvents.refl s))

/-- A status bit of the axis and an event of its page. -/
theorem Settled.report (a : Axis) (s : State) (r : Row) (v n : Nat) (hm : (.ax a, r, 0) ∈ updateFields a)
    (hr : Row.apart r 0 HDR.PG_EVT_RAW 0 = true) : Settled a s ((s.wr (.ax a) r v).raise (.ax a) n) :=
  Settled.of_only (OnlyFields.raise _ _ (OnlyFields.wr _ _ _ _ (OnlyFields.refl _ _) hm) (by simp [updateFields]))
    (((KeepsEvents.refl s).wr _ _ _ _ hr).raise _ _)

theorem State.axEnd_settled (s : State) (a : Axis) : Settled a s (s.axEnd a) := by
  unfold State.axEnd
  exact (Settled.report a s AX.STAT_AT_TARGET 1 8 (by simp [updateFields]) rfl).trans
    ((Settled.modAxis a _ _ rfl rfl).trans (Settled.setAx a _ _))

theorem State.homeRest_settled (s : State) (a : Axis) : Settled a s (s.homeRest a) := by
  unfold State.homeRest
  split
  · exact Settled.modAxis a s _ rfl rfl
  · exact (Settled.modAxis a s _ rfl rfl).trans ((Settled.report a _ AX.STAT_LOST 0 10 (by simp [updateFields]) rfl).trans
      (Settled.setAx a _ _))
  · exact Settled.refl a s

theorem State.axSettle_settled (s : State) (a : Axis) : Settled a s (s.axSettle a) := by
  unfold State.axSettle
  dsimp only
  split
  · split
    · exact State.homeRest_settled s a
    · exact Settled.refl a s
  · split
    · split
      · split
        · exact State.axEnd_settled s a
        · exact Settled.report a s AX.STAT_AT_TARGET 1 8 (by simp [updateFields]) rfl
      · exact State.axEnd_settled s a
    · split
      · exact Settled.modAxis a s _ rfl rfl
      · exact Settled.refl a s

theorem State.axReport_settled (s : State) (a : Axis) (old : Int) : Settled a s (s.axReport a old) := by
  have h (n : Nat) (v : Int) : OnlyFields (updateFields a) s ((s.wr (.ax a) AX.STAT_PROF n).wrS (.ax a) AX.VEL v) :=
    OnlyFields.wrS _ _ _ _ (OnlyFields.wr _ _ _ _ (OnlyFields.refl _ _) (by simp [updateFields])) (by simp [updateFields])
  have he (n : Nat) (v : Int) : KeepsEvents s ((s.wr (.ax a) AX.STAT_PROF n).wrS (.ax a) AX.VEL v) :=
    ((KeepsEvents.refl s).wr _ _ _ _ rfl).wrS _ _ _ _ rfl
  exact Settled.of_only (OnlyFields.ite (h _ _) (OnlyFields.flag _ _ _ _ (h _ _) (by simp [updateFields])))
    (KeepsEvents.ite (he _ _) ((he _ _).flag _ _ _ _ rfl))

/-- What the axis holds as an update has planned its next velocity and its profile has moved on by it (R289). -/
def State.planned (s : State) (a : Axis) : AxisHw :=
  let h := ({ s.axes[a] with vel := (s.axPlan a).1, acc := (s.axPlan a).2, updAt := s.dclk } : AxisHw).turn s.dclk
  { h with lead := h.lead + (s.axPlan a).1 }

theorem AxisHw.turn_vel (h : AxisHw) (n : Nat) : (h.turn n).vel = h.vel := by
  unfold AxisHw.turn
  split <;> rfl

theorem AxisHw.turn_updAt (h : AxisHw) (n : Nat) : (h.turn n).updAt = h.updAt := by
  unfold AxisHw.turn
  split <;> rfl

theorem State.planned_vel (s : State) (a : Axis) : (s.planned a).vel = (s.axPlan a).1 := AxisHw.turn_vel ..
theorem State.planned_updAt (s : State) (a : Axis) : (s.planned a).updAt = s.dclk := AxisHw.turn_updAt ..

/-- An axis after an update that takes no commit. -/
def State.axUpdated (s : State) (a : Axis) : State :=
  ((s.modAxis a fun _ => s.planned a).axReport a s.axes[a].vel).axSettle a

theorem State.axUpdated_settled (s : State) (a : Axis) :
    Settled a (s.modAxis a fun _ => s.planned a) (s.axUpdated a) :=
  (State.axReport_settled _ a _).trans (State.axSettle_settled _ a)

theorem State.axUpdated_vel (s : State) (a : Axis) : (s.axUpdated a).axes[a].vel = (s.axPlan a).1 := by
  rw [(State.axUpdated_settled s a).vel, State.modAxis_same, State.planned_vel]

theorem State.axUpdated_updAt (s : State) (a : Axis) : (s.axUpdated a).axes[a].updAt = s.dclk := by
  rw [(State.axUpdated_settled s a).updAt, State.modAxis_same, State.planned_updAt]

theorem State.axUpdated_only (s : State) (a : Axis) : AxisOnly a (updateFields a) s (s.axUpdated a) :=
  (AxisOnly.of_only (OnlyFields.refl _ _)).trans (State.axUpdated_settled s a).only

theorem State.axUpdated_events (s : State) (a : Axis) : KeepsEvents s (s.axUpdated a) :=
  ((KeepsEvents.refl s).of_regs rfl).trans (State.axUpdated_settled s a).events

/-- A commit of the axis that is at least 2 DCLK old waits (R289). -/
def State.axRipe (s : State) (a : Axis) : Bool := s.commits.any fun e => e.1 == Page.ax a && decide (e.2 + 2 ≤ s.dclk)

theorem exec_profileUpdate {s : State} {a : Axis} (hu : s.devUp = true) (hs : s.shadow = false)
    (h : s.axes[a].updAt + 250 ≤ s.dclk) :
    exec (.profileUpdate a) s = .next ((if s.axRipe a then s.axTake a else s).axUpdated a) := by
  show execProfileUpdate a s = _
  have hc : (s.devUp && !s.shadow && decide (s.axes[a].updAt + 250 ≤ s.dclk)) = true := by
    simp only [hu, hs, h, decide_true, Bool.not_false, Bool.and_self]
  unfold execProfileUpdate
  rw [if_pos hc]
  dsimp only
  rw [State.modAxis_twice]
  unfold State.axUpdated State.planned State.axRipe
  rfl

theorem profileUpdate_early {s : State} {a : Axis} (h : s.dclk < s.axes[a].updAt + 250) :
    exec (.profileUpdate a) s = .next s := by
  show execProfileUpdate a s = _
  simp only [execProfileUpdate, Nat.not_le.2 h, decide_false, Bool.and_false]
  rfl

theorem axPlan_brakes {s : State} {a : Axis} (hr : s.axes[a].ramp = false) (hh : s.axes[a].homing = .none)
    (hm : s.axes[a].move = none) : (s.axPlan a).1 = brakeBy s.axes[a].vel (accUnit * s.axes[a].dmax) := by
  unfold State.axPlan
  simp only [hr, hh, hm]
  rfl

end Sys2Proof.Machine
end

section
namespace Sys2Proof.Machine

open Reg

/-! ### The generator takes a commit (R289, R291) -/

theorem pageStaged_ax (a : Axis) : pageStaged (.ax a) =
    [AX.MOVE_KIND, AX.MOVE_NO_OVERSHOOT, AX.TARGET, AX.VMAX, AX.AMAX, AX.DMAX, AX.JMAX] := rfl

theorem axStaged_apart (a : Axis) : stagedApart (.ax a) := by
  unfold stagedApart stagedCopies
  rw [pageStaged_ax]
  decide

/-- Every staged field of an axis has one copy and stands at none of these fields. -/
theorem axStaged_off (a : Axis) (fs : List FieldAt)
    (h : ∀ r ∈ [AX.MOVE_KIND, AX.MOVE_NO_OVERSHOOT, AX.TARGET, AX.VMAX, AX.AMAX, AX.DMAX, AX.JMAX], FieldAt.off fs r 0 = true) :
    ∀ r ∈ pageStaged (.ax a), ∀ i, i < r.count → FieldAt.off fs r i = true := by
  have hc : ∀ r ∈ [AX.MOVE_KIND, AX.MOVE_NO_OVERSHOOT, AX.TARGET, AX.VMAX, AX.AMAX, AX.DMAX, AX.JMAX], r.count = 1 := by
    decide
  intro r hr i hi
  rw [pageStaged_ax] at hr
  have hi0 : i = 0 := by
    have := hc r hr
    omega
  subst hi0
  exact h r hr

/-- The fields that a commit of an axis changes beside the staged ones: those of the permitted rate for AX0 (R276, R280). -/
def hookFields (a : Axis) : List FieldAt :=
  [(.ax a, HDR.PG_STAT_COMMIT_PEND, 0), (.ax a, HDR.PG_STAT_PEND_AT, 0), (.ax a, AX.VMAX_EFF, 0),
    (.ax a, HDR.PG_EVT_RAW, 0)] ++ permFields

theorem State.commitHook_ax (s : State) (a : Axis) : s.commitHook (.ax a) =
    if a = 0 then s.settlePerm else s.wr (.ax a) AX.VMAX_EFF (s.rd (.ax a) AX.VMAX) := rfl

theorem State.axHook_untouched (s : State) (a : Axis) : Untouched (hookFields a) s (s.commitHook (.ax a)) := by
  rw [State.commitHook_ax]
  split
  · exact (State.settlePerm_quiet s).untouched.mono fun f hf => List.mem_append_right _ hf
  · exact Untouched.wr _ _ _ _ (Untouched.refl _ _) (by simp [hookFields])

theorem State.clearPend_untouched (s : State) (a : Axis) : Untouched (hookFields a) s (s.clearPend (.ax a)) := by
  unfold State.clearPend
  have h : Untouched (hookFields a) s ((s.wr (.ax a) HDR.PG_STAT_COMMIT_PEND 0).wr (.ax a) HDR.PG_STAT_PEND_AT 0) :=
    Untouched.wr _ _ _ _ (Untouched.wr _ _ _ _ (Untouched.refl _ _) (by simp [hookFields])) (by simp [hookFields])
  exact h.of_regs rfl

theorem State.clearPend_dclk (s : State) (p : Page) : (s.clearPend p).dclk = s.dclk := rfl

theorem State.clearPend_pend (s : State) (p : Page) : (s.clearPend p).rd p HDR.PG_STAT_COMMIT_PEND = 0 := by
  unfold State.clearPend
  show ((s.wr p HDR.PG_STAT_COMMIT_PEND 0).wr p HDR.PG_STAT_PEND_AT 0).rd p HDR.PG_STAT_COMMIT_PEND = 0
  rw [State.wr_rd_apart _ _ _ _ rfl, State.wr_rd_same]
  rfl

theorem State.commitPage_ax (s : State) (a : Axis) : s.commitPage (.ax a) =
    (((s.copyStaged (.ax a)).clearPend (.ax a)).commitHook (.ax a)).raise (.ax a) 1 := rfl

theorem State.settlePerm_dclk (s : State) : s.settlePerm.dclk = s.dclk := by
  rw [OnlyFields.rest (State.settlePerm_quiet s)]

theorem State.commitHook_dclk_ax (s : State) (a : Axis) : (s.commitHook (.ax a)).dclk = s.dclk := by
  rw [State.commitHook_ax]
  split
  · exact State.settlePerm_dclk s
  · rfl

/-- A commit of an axis has taken effect (R40): its staged fields are in force, none is pending, and COMMIT_DONE is raised. -/
structure AxCommitted (s : State) (a : Axis) (t : State) : Prop where
  staged : Committed s (.ax a) t
  pend : t.on (.ax a) HDR.PG_STAT_COMMIT_PEND = false
  done : t.event (.ax a) 1 = true
  dclk : t.dclk = s.dclk

theorem State.copyStaged_dclk (s : State) (p : Page) : (s.copyStaged p).dclk = s.dclk := by
  rw [State.copyStaged_eq]
  generalize hl : stagedCopies p = l
  clear hl
  suffices h : ∀ u : State, (u.each l fun u e => u.wr p e.1 (s.rdStaged p e.1 e.2) e.2).dclk = u.dclk from h s
  induction l with
  | nil => exact fun _ => rfl
  | cons e l ih => exact fun u => ih _

theorem State.commitPage_axis (s : State) (a : Axis) : AxCommitted s a (s.commitPage (.ax a)) := by
  have hh := State.axHook_untouched ((s.copyStaged (.ax a)).clearPend (.ax a)) a
  have hc := State.clearPend_untouched (s.copyStaged (.ax a)) a
  have hr : Untouched (hookFields a) (s.copyStaged (.ax a)) (s.commitPage (.ax a)) := by
    rw [State.commitPage_ax]
    exact Untouched.raise _ _ (hc.trans hh) (by simp [hookFields])
  refine ⟨?_, ?_, ?_, ?_⟩
  · refine (State.copyStaged_committed s (axStaged_apart a)).untouched hr (axStaged_off a _ ?_)
    simp +decide [hookFields]
  · have hk : (((s.copyStaged (.ax a)).clearPend (.ax a)).commitHook (.ax a)).rd (.ax a) HDR.PG_STAT_COMMIT_PEND =
        ((s.copyStaged (.ax a)).clearPend (.ax a)).rd (.ax a) HDR.PG_STAT_COMMIT_PEND := by
      rw [State.commitHook_ax]
      split
      · exact (State.settlePerm_quiet _).untouched.rd_off _ _ _
          (by decide)
      · exact State.wr_rd_apart _ _ _ _ rfl
    rw [State.on, State.commitPage_ax, State.raise_rd_apart _ _ _ _ (t := HDR.PG_STAT_COMMIT_PEND) rfl, hk,
      State.clearPend_pend]
    rfl
  · rw [State.commitPage_ax]
    exact State.raise_event_same _ _ _ (by decide)
  · rw [State.commitPage_ax, State.raise_dclk, State.commitHook_dclk_ax, State.clearPend_dclk, State.copyStaged_dclk]

/-- The fields that the generator may change as it takes a move (R289, R291, R295). -/
def takeFields (a : Axis) : List FieldAt :=
  [(.ax a, AX.STAT_HELD, 0), (.ax a, AX.STAT_ASLEEP, 0)] ++ updateFields a

/-- What leaves a commit of an axis in force: none of its staged fields changes, no commit becomes pending and no event is
lost. -/
structure TakeKeeps (a : Axis) (s t : State) : Prop where
  fields : Untouched (takeFields a) s t
  events : KeepsEvents s t
  dclk : t.dclk = s.dclk

theorem TakeKeeps.refl (a : Axis) (s : State) : TakeKeeps a s s := ⟨Untouched.refl _ s, KeepsEvents.refl s, rfl⟩

theorem TakeKeeps.trans {a : Axis} {s t u : State} (h : TakeKeeps a s t) (k : TakeKeeps a t u) : TakeKeeps a s u :=
  ⟨h.fields.trans k.fields, h.events.trans k.events, k.dclk.trans h.dclk⟩

theorem TakeKeeps.modAxis (a : Axis) (s : State) (f : AxisHw → AxisHw) : TakeKeeps a s (s.modAxis a f) :=
  ⟨(Untouched.refl _ s).of_regs rfl, (KeepsEvents.refl s).of_regs rfl, rfl⟩

theorem TakeKeeps.wr (a : Axis) (s : State) (r : Row) (v : Nat) (hm : (.ax a, r, 0) ∈ takeFields a)
    (hr : Row.apart r 0 HDR.PG_EVT_RAW 0 = true) : TakeKeeps a s (s.wr (.ax a) r v) :=
  ⟨(Untouched.refl _ s).wr _ _ _ _ hm, (KeepsEvents.refl s).wr _ _ _ _ hr, rfl⟩

theorem TakeKeeps.settled {a : Axis} {s t : State} (h : Settled a s t) : TakeKeeps a s t :=
  ⟨h.only.untouched.mono fun _ hf => List.mem_append_right _ hf, h.events, by rw [OnlyFields.rest h.only]; rfl⟩

theorem TakeKeeps.setAx (a : Axis) (s : State) (v : Nat) : TakeKeeps a s (s.setAx a v) := .settled (Settled.setAx a s v)

theorem State.axLimits_takeKeeps (s : State) (a : Axis) : TakeKeeps a s (s.axLimits a) := by
  unfold State.axLimits
  exact (TakeKeeps.modAxis a s _).trans (TakeKeeps.wr a _ _ _ (by simp [takeFields]) rfl)

theorem State.axBegin_takeKeeps (s : State) (a : Axis) : TakeKeeps a s (s.axBegin a) := by
  have h := TakeKeeps.wr a s AX.STAT_AT_TARGET 0 (by simp [takeFields, updateFields]) rfl
  unfold State.axBegin
  dsimp only
  split
  · exact h.trans ((TakeKeeps.wr a _ AX.STAT_ASLEEP 0 (by simp [takeFields]) rfl).trans (TakeKeeps.modAxis a _ _))
  · exact h

theorem AxCommitted.keeps {s t u : State} {a : Axis} (h : AxCommitted s a t) (k : TakeKeeps a t u) : AxCommitted s a u where
  staged := h.staged.untouched k.fields (axStaged_off a _ (by simp +decide [takeFields, updateFields]))
  pend := by
    unfold State.on
    rw [k.fields.rd_off _ _ _ (by simp +decide [takeFields, updateFields])]
    exact h.pend
  done := k.events _ _ (by decide) h.done
  dclk := k.dclk.trans h.dclk

/-- The generator takes a commit that neither a fault, a homing sequence nor a limit refuses. -/
theorem State.axTake_commits {s : State} {a : Axis} (hf : s.axSt a ≠ axFault) (hh : s.axSt a ≠ axHoming)
    (hl : s.axToLimit a (s.rdStaged (.ax a) AX.MOVE_KIND) (signed 32 (s.rdStaged (.ax a) AX.TARGET)) = false) :
    AxCommitted s a (s.axTake a) := by
  have hc := State.commitPage_axis s a
  unfold State.axTake
  rw [if_neg (by simp [hf, hh])]
  dsimp only
  rw [if_neg (by simp [hl])]
  split
  · split
    · unfold State.when
      split
      · exact hc.keeps (TakeKeeps.wr a _ _ _ (by simp [takeFields]) rfl)
      · exact hc
    · exact hc.keeps (State.axLimits_takeKeeps _ a)
  · have hb := (TakeKeeps.modAxis a (s.commitPage (.ax a)) fun h => { h with
      move := some (s.rdStaged (.ax a) AX.MOVE_KIND, signed 32 (s.rdStaged (.ax a) AX.TARGET)), ramp := false }).trans
        ((State.axLimits_takeKeeps _ a).trans (State.axBegin_takeKeeps _ a))
    split
    · exact hc.keeps hb
    · exact hc.keeps (hb.trans (TakeKeeps.setAx a _ _))

theorem State.axTake_refuses {s : State} {a : Axis} (h : s.axSt a = axFault ∨ s.axSt a = axHoming) :
    s.axTake a = (s.clearPend (.ax a)).errOpen (.ax a) 0x22 := by
  unfold State.axTake
  rw [if_pos (by simpa using h)]

/-- An update that takes a commit (R289). -/
theorem profileUpdate_commits {s : State} {a : Axis} (hu : s.devUp = true) (hs : s.shadow = false)
    (h : s.axes[a].updAt + 250 ≤ s.dclk) (hr : s.axRipe a = true) (hf : s.axSt a ≠ axFault) (hh : s.axSt a ≠ axHoming)
    (hl : s.axToLimit a (s.rdStaged (.ax a) AX.MOVE_KIND) (signed 32 (s.rdStaged (.ax a) AX.TARGET)) = false) :
    ∃ t, exec (.profileUpdate a) s = .next t ∧ Committed s (.ax a) t ∧
      t.on (.ax a) HDR.PG_STAT_COMMIT_PEND = false ∧ t.event (.ax a) 1 = true ∧ t.axes[a].updAt = s.dclk := by
  have hc := State.axTake_commits hf hh hl
  have ht := hc.keeps (u := (s.axTake a).axUpdated a)
    ⟨(State.axUpdated_only _ a).untouched.mono fun _ hf => List.mem_append_right _ hf, State.axUpdated_events _ a,
      by rw [OnlyFields.rest (State.axUpdated_only (s.axTake a) a)]; rfl⟩
  refine ⟨_, by rw [exec_profileUpdate hu hs h, if_pos hr], ht.staged, ht.pend, ht.done, ?_⟩
  rw [State.axUpdated_updAt, hc.dclk]

/-- A commit that comes to an axis in FAULT or HOMING is refused (R286, R293). -/
theorem profileUpdate_refuses {s : State} {a : Axis} (hu : s.devUp = true) (hs : s.shadow = false)
    (h : s.axes[a].updAt + 250 ≤ s.dclk) (hr : s.axRipe a = true) (hf : s.axSt a = axFault ∨ s.axSt a = axHoming) :
    ∃ t, exec (.profileUpdate a) s = .next t ∧ t.errorShown (.ax a) = s.errorAfter (.ax a) 0x22 ∧
      t.on (.ax a) HDR.PG_STAT_COMMIT_PEND = false ∧ t.rd (.ax a) AX.TARGET = s.rd (.ax a) AX.TARGET := by
  have hk := (State.axUpdated_only (s.axTake a) a).untouched
  have hc := State.clearPend_untouched s a
  refine ⟨_, by rw [exec_profileUpdate hu hs h, if_pos hr], ?_, ?_, ?_⟩
  · rw [hk.errorShown_off _ (by simp +decide [updateFields]) (by simp +decide [updateFields]), State.axTake_refuses hf,
      State.errOpen_errorShown _ _ _ (by decide)]
    refine State.errorAfter_congr ?_ _
    show ((s.wr (.ax a) HDR.PG_STAT_COMMIT_PEND 0).wr (.ax a) HDR.PG_STAT_PEND_AT 0).errorShown (.ax a) = _
    rw [State.wr_errorShown_apart _ _ _ _ rfl, State.wr_errorShown_apart _ _ _ _ rfl]
  · unfold State.on
    rw [hk.rd_off _ _ _ (by simp +decide [updateFields]), State.axTake_refuses hf, State.errOpen_rd_apart _ _ _ _ rfl,
      State.clearPend_pend]
    rfl
  · rw [hk.rd_off _ _ _ (by simp +decide [updateFields]), State.axTake_refuses hf, State.errOpen_rd_apart _ _ _ _ rfl,
      hc.rd_off _ _ _ (by simp +decide [hookFields])]

/-- An update that takes no commit (R289, R290). -/
theorem profileUpdate_plans {s : State} {a : Axis} (hu : s.devUp = true) (hs : s.shadow = false)
    (h : s.axes[a].updAt + 250 ≤ s.dclk) (hr : s.axRipe a = false) :
    ∃ t, exec (.profileUpdate a) s = .next t ∧ t.axes[a].vel = (s.axPlan a).1 ∧
      (s.axes[a].ramp = false → s.axes[a].homing = .none → s.axes[a].move = none →
        t.axes[a].vel = brakeBy s.axes[a].vel (accUnit * s.axes[a].dmax)) ∧
      OnlyFields (updateFields a) (s.modAxis a fun _ => t.axes[a]) t := by
  refine ⟨s.axUpdated a, by rw [exec_profileUpdate hu hs h, hr]; rfl, State.axUpdated_vel s a, fun h1 h2 h3 => ?_,
    State.axUpdated_only s a⟩
  rw [State.axUpdated_vel, axPlan_brakes h1 h2 h3]

end Sys2Proof.Machine
end

section
namespace Sys2Proof.Machine

open Reg

theorem State.modAxis_congr (s : State) (a : Axis) {f g : AxisHw → AxisHw} (h : f s.axes[a] = g s.axes[a]) :
    s.modAxis a f = s.modAxis a g := by
  unfold State.modAxis
  rw [h]

/-! ### Limits (R292) -/

/-- The status bit of a limit. -/
def limBit (pos : Bool) : Row := if pos then AX.STAT_LIMP else AX.STAT_LIMN

theorem limBit_apart (pos : Bool) {t : Row} {j : Nat} (h : Row.apart AX.STAT_LIMP 0 t j = true)
    (k : Row.apart AX.STAT_LIMN 0 t j = true) : Row.apart (limBit pos) 0 t j = true := by
  cases pos <;> assumption

theorem limBit_offShown (pos : Bool) : Row.offShown (limBit pos) 0 = true := by cases pos <;> rfl

/-- The state once a limit's status bit is set or cleared. -/
def State.limSeen (s : State) (a : Axis) (pos : Bool) (v : Nat) : State := s.wr (.ax a) (limBit pos) v

theorem State.limSeen_rd (s : State) (a : Axis) (pos : Bool) (v : Nat) (p : Page) {t : Row} {j : Nat}
    (h : Row.apart AX.STAT_LIMP 0 t j = true) (k : Row.apart AX.STAT_LIMN 0 t j = true) :
    (s.limSeen a pos v).rd p t j = s.rd p t j := State.wr_rd_apart _ _ _ _ (limBit_apart pos h k)

theorem State.limSeen_bit (s : State) (a : Axis) (pos : Bool) (v : Nat) :
    (s.limSeen a pos v).rd (.ax a) (limBit pos) = v % 2 := by
  unfold State.limSeen
  rw [State.wr_rd_same]
  cases pos <;> rfl

theorem State.limSeen_only (s : State) (a : Axis) (pos : Bool) (v : Nat) :
    OnlyFields [(.ax a, limBit pos, 0)] s (s.limSeen a pos v) :=
  OnlyFields.wr _ _ _ _ (OnlyFields.refl _ _) (by simp)

/-- The axis takes a limit ahead of it: it brakes at EDEC or stops at once, as LIM_ACT says (R292). -/
def State.limStop (s : State) (a : Axis) : State :=
  if s.on (.ax a) AX.CFG_LIM_ACT then s.modAxis a fun h => { h with move := none, ramp := true } else s.axHalt a

/-- What the axis holds once it has taken a limit. -/
def AxisHw.limited (act : Bool) (h : AxisHw) : AxisHw := if act then { h with move := none, ramp := true } else h.halted

theorem State.limStop_only (s : State) (a : Axis) :
    OnlyFields (haltFields a) (s.modAxis a (AxisHw.limited (s.on (.ax a) AX.CFG_LIM_ACT))) (s.limStop a) := by
  unfold State.limStop AxisHw.limited
  split
  · exact OnlyFields.refl _ _
  · exact State.axHalt_only s a

/-- The state once a limit ahead of the axis has been counted. -/
def State.limCounted (s : State) (a : Axis) (pos : Bool) : State :=
  ((s.limSeen a pos 1).bump (.ax a) AX.LIM_CNT).raise (.ax a) 9

/-- The state once a limit ahead of the axis has stopped it. -/
def State.limTaken (s : State) (a : Axis) (pos : Bool) : State :=
  (((s.limCounted a pos).limStop a).modAxis a fun h => { h with trip := some pos }).setPage (.ax a) axLimit

theorem exec_limitTrip {s : State} {a : Axis} {pos : Bool} (hu : s.devUp = true)
    (he : s.on (.ax a) (if pos then AX.CFG_LIMP_EN else AX.CFG_LIMN_EN) = true) :
    exec (.limitTrip a pos) s =
      if s.axes[a].homing != .none then
        .next (if s.on (.ax a) AX.HOME_CFG_SRC && s.on (.ax a) AX.HOME_CFG_DIR == pos then s.limSeen a pos 1
          else (s.limSeen a pos 1).axFail a 0x26)
      else if (pos && decide (0 < s.axes[a].vel)) || (!pos && decide (s.axes[a].vel < 0)) then .next (s.limTaken a pos)
      else .next (s.limSeen a pos 1) := by
  have hs : (s.limSeen a pos 1).on (.ax a) AX.HOME_CFG_SRC = s.on (.ax a) AX.HOME_CFG_SRC := by
    rw [State.on, State.limSeen_rd _ _ _ _ _ rfl rfl, State.on]
  have hd : (s.limSeen a pos 1).on (.ax a) AX.HOME_CFG_DIR = s.on (.ax a) AX.HOME_CFG_DIR := by
    rw [State.on, State.limSeen_rd _ _ _ _ _ rfl rfl, State.on]
  have ht : s.limTaken a pos = (((s.limCounted a pos).limStop a).modAxis a fun h => { h with trip := some pos }).setAx a
      axLimit := (State.setAx_of_ne _ _ (by decide)).symm
  show execLimitTrip a pos s = _
  unfold execLimitTrip
  dsimp only
  rw [hu, he, ht, ← hs, ← hd]
  unfold State.limCounted State.limStop
  rw [Bool.and_self, if_pos rfl]
  rfl

/-- A limit ahead of the axis stops it. -/
theorem limitTrip_stops {s : State} {a : Axis} {pos : Bool} (hu : s.devUp = true)
    (he : s.on (.ax a) (if pos then AX.CFG_LIMP_EN else AX.CFG_LIMN_EN) = true) (hh : s.axes[a].homing = .none)
    (hv : if pos then 0 < s.axes[a].vel else s.axes[a].vel < 0) :
    ∃ t, exec (.limitTrip a pos) s = .next t ∧ t.on (.ax a) (limBit pos) = true ∧
      t.axSt a = axLimit ∧ t.event (.ax a) 9 = true ∧
      t.rd (.ax a) AX.LIM_CNT = min (s.rd (.ax a) AX.LIM_CNT + 1) (2 ^ 32 - 1) ∧
      OnlyFields [(.ax a, limBit pos, 0), (.ax a, AX.LIM_CNT, 0), (.ax a, AX.STAT_PROF, 0),
          (.ax a, AX.VEL, 0), (.ax a, HDR.PG_STAT_STATE, 0), (.ax a, HDR.PG_EVT_RAW, 0)]
        (s.modAxis a fun h => { h.limited (s.on (.ax a) AX.CFG_LIM_ACT) with trip := some pos }) t := by
  have hm : ((pos && decide (0 < s.axes[a].vel)) || (!pos && decide (s.axes[a].vel < 0))) = true := by
    cases pos
    · simpa using hv
    · simpa using hv
  have hk := (State.limStop_only (s.limCounted a pos) a).fields
  have hact : (s.limCounted a pos).on (.ax a) AX.CFG_LIM_ACT = s.on (.ax a) AX.CFG_LIM_ACT := by
    unfold State.limCounted
    rw [State.on, State.raise_rd_apart _ _ _ _ rfl, State.bump_rd_apart _ _ _ _ rfl, State.limSeen_rd _ _ _ _ _ rfl rfl,
      State.on]
  have hbit : (s.limCounted a pos).rd (.ax a) (limBit pos) = 1 := by
    unfold State.limCounted
    cases pos
    · rw [State.raise_rd_apart _ _ _ _ rfl, State.bump_rd_apart _ _ _ _ rfl, State.limSeen_bit]
    · rw [State.raise_rd_apart _ _ _ _ rfl, State.bump_rd_apart _ _ _ _ rfl, State.limSeen_bit]
  have hcnt : (s.limCounted a pos).rd (.ax a) AX.LIM_CNT = min (s.rd (.ax a) AX.LIM_CNT + 1) (2 ^ 32 - 1) := by
    unfold State.limCounted
    rw [State.raise_rd_apart _ _ _ _ rfl, State.bump_rd_same, State.limSeen_rd _ _ _ _ _ rfl rfl]
    rfl
  refine ⟨s.limTaken a pos, ?_, ?_, ?_, ?_, ?_, ?_⟩
  · rw [exec_limitTrip hu he, if_neg (by rw [hh]; decide), if_pos hm]
  · unfold State.limTaken State.on
    rw [State.setPage_rd_apart, State.modAxis_rd, hk.rd_off, State.modAxis_rd, hbit]
    · rfl
    · cases pos <;> simp +decide [haltFields, limBit]
    · cases pos <;> rfl
    · cases pos <;> rfl
  · exact State.setPage_rd_state _ _ _ (by decide)
  · refine KeepsEvents.setPage _ _ ((KeepsEvents.refl _).of_regs rfl) _ _ (by decide) ?_
    have := hk.event_off (.ax a) 9 (by simp +decide [haltFields])
    exact this.trans (State.raise_event_same _ _ _ (by decide))
  · unfold State.limTaken
    rw [State.setPage_rd_apart _ _ _ _ rfl rfl, State.modAxis_rd, hk.rd_off _ _ _ (by simp +decide [haltFields]), State.modAxis_rd, hcnt]
  · unfold State.limTaken
    have h1 : OnlyFields [(.ax a, limBit pos, 0), (.ax a, AX.LIM_CNT, 0), (.ax a, AX.STAT_PROF, 0), (.ax a, AX.VEL, 0),
        (.ax a, HDR.PG_STAT_STATE, 0), (.ax a, HDR.PG_EVT_RAW, 0)] s (s.limCounted a pos) :=
      OnlyFields.raise _ _ (OnlyFields.bump _ _ _ _ ((State.limSeen_only s a pos 1).mono (by simp)) (by simp)) (by simp)
    have h2 := (State.limStop_only (s.limCounted a pos) a).mono (gs := [(.ax a, limBit pos, 0), (.ax a, AX.LIM_CNT, 0),
      (.ax a, AX.STAT_PROF, 0), (.ax a, AX.VEL, 0), (.ax a, HDR.PG_STAT_STATE, 0), (.ax a, HDR.PG_EVT_RAW, 0)])
        (by simp [haltFields])
    have h3 := ((h1.modAxis a (AxisHw.limited ((s.limCounted a pos).on (.ax a) AX.CFG_LIM_ACT))).trans h2).modAxis a
      fun h => { h with trip := some pos }
    rw [State.modAxis_twice, hact] at h3
    exact OnlyFields.setPage _ _ h3 (by simp) (by simp)

/-- A limit the axis moves away from, or rests at, is only shown. -/
theorem limitTrip_shows {s : State} {a : Axis} {pos : Bool} (hu : s.devUp = true)
    (he : s.on (.ax a) (if pos then AX.CFG_LIMP_EN else AX.CFG_LIMN_EN) = true) (hh : s.axes[a].homing = .none)
    (hv : if pos then s.axes[a].vel ≤ 0 else 0 ≤ s.axes[a].vel) :
    ∃ t, exec (.limitTrip a pos) s = .next t ∧ t.on (.ax a) (limBit pos) = true ∧
      OnlyFields [(.ax a, limBit pos, 0)] s t := by
  have hm : ¬ ((pos && decide (0 < s.axes[a].vel)) || (!pos && decide (s.axes[a].vel < 0))) = true := by
    cases pos
    · simpa using hv
    · simpa using hv
  refine ⟨_, by rw [exec_limitTrip hu he, if_neg (by rw [hh]; decide), if_neg hm], ?_, State.limSeen_only s a pos 1⟩
  rw [State.on, State.limSeen_bit]
  rfl

/-- A limit that homing does not expect faults. -/
theorem limitTrip_faults {s : State} {a : Axis} {pos : Bool} (hu : s.devUp = true)
    (he : s.on (.ax a) (if pos then AX.CFG_LIMP_EN else AX.CFG_LIMN_EN) = true) (hh : s.axes[a].homing ≠ .none)
    (hx : s.on (.ax a) AX.HOME_CFG_SRC = false ∨ s.on (.ax a) AX.HOME_CFG_DIR ≠ pos) :
    ∃ t, exec (.limitTrip a pos) s = .next t ∧ AxFailed s a 0x26 t := by
  have hn : ¬ (s.on (.ax a) AX.HOME_CFG_SRC && s.on (.ax a) AX.HOME_CFG_DIR == pos) = true := by
    rcases hx with h | h <;> simp [h]
  refine ⟨_, by rw [exec_limitTrip hu he, if_pos (by simpa using hh), if_neg hn], ?_⟩
  exact (State.axFail_failed _ a 0x26 (by decide)).congr (State.wr_errorShown_apart _ _ _ _ (limBit_offShown pos))

/-- An axis whose limit is released is IDLE, or MOVING if a move runs. -/
theorem limitRelease_leaves {s : State} {a : Axis} {pos : Bool} (hu : s.devUp = true) (hl : s.axSt a = axLimit)
    (ht : s.axes[a].trip = some pos) :
    ∃ t, exec (.limitRelease a pos) s = .next t ∧ t.on (.ax a) (limBit pos) = false ∧
      t.axSt a = (if s.axes[a].move.isSome || s.axes[a].vel != 0 then axMoving else axIdle) ∧
      OnlyFields [(.ax a, limBit pos, 0), (.ax a, HDR.PG_STAT_STATE, 0), (.ax a, HDR.PG_EVT_RAW, 0)]
        (s.modAxis a fun h => { h with
          trip := none, idleAt := if h.move.isSome || h.vel != 0 then h.idleAt else s.dclk }) t := by
  let u := (s.limSeen a pos 0).modAxis a fun h => { h with trip := none }
  let v := if s.axes[a].move.isSome || s.axes[a].vel != 0 then axMoving else axIdle
  have hv : v < 16 := by
    simp only [v]
    split <;> decide
  have hst : u.axSt a = axLimit := (State.limSeen_rd s a pos 0 _ rfl rfl).trans hl
  have hx : exec (.limitRelease a pos) s = .next (u.setAx a v) := by
    show execLimitRelease a pos s = _
    unfold execLimitRelease
    rw [if_pos hu]
    dsimp only
    rw [if_pos]
    · rfl
    · have h1 : (s.limSeen a pos 0).axSt a = axLimit := hst
      have h2 : (s.limSeen a pos 0).axes[a].trip = some pos := ht
      unfold State.limSeen limBit at h1 h2
      rw [h1, h2]
      simp
  refine ⟨_, hx, ?_, State.setAx_state u a hv, ?_⟩
  · have h := (State.setAx_only u a v).fields.rd_off (.ax a) (limBit pos) 0
      (by cases pos <;> simp +decide [axStateFields, limBit])
    rw [State.on, h, State.modAxis_rd, State.modAxis_rd, State.limSeen_bit]
    rfl
  · have hb : (decide (v = axIdle) && u.axSt a != axIdle) = !(s.axes[a].move.isSome || s.axes[a].vel != 0) := by
      rw [hst]
      simp only [v]
      split
      · rename_i h; rw [h]; rfl
      · rename_i h; rw [Bool.not_eq_true] at h; rw [h]; rfl
    have h1 := ((State.limSeen_only s a pos 0).modAxis a fun h => { h with trip := none }).modAxis a (u.idled a v)
    have h2 := (h1.mono (gs := [(.ax a, limBit pos, 0), (.ax a, HDR.PG_STAT_STATE, 0), (.ax a, HDR.PG_EVT_RAW, 0)])
      (by simp)).trans ((State.setAx_only u a v).mono (by simp [axStateFields]))
    rw [State.modAxis_twice] at h2
    refine (State.modAxis_congr s a ?_) ▸ h2
    unfold State.idled
    rw [hb]
    cases s.axes[a].move.isSome || s.axes[a].vel != 0 <;> rfl

end Sys2Proof.Machine
end

section
namespace Sys2Proof.Machine

open Reg

/-! ### The home signal (R293) -/

theorem homeEdge_captures {s : State} {a : Axis} (since : BitVec 16) (hu : s.devUp = true) (hh : s.axes[a].homing = .seek) :
    ∃ t, exec (.homeEdge a since) s = .next t ∧
      t.rd (.ax a) AX.HOME_CAP =
        unsigned 32 (s.rdS (.ax a) AX.POS - toward (!s.on (.ax a) AX.HOME_CFG_DIR) since.toNat) ∧
      t.rd (.ax a) AX.POS =
        unsigned 32 (s.rdS (.ax a) AX.HOME_POS + toward (!s.on (.ax a) AX.HOME_CFG_DIR) since.toNat) ∧
      OnlyFields [(.ax a, AX.STAT_HOME, 0), (.ax a, AX.HOME_CAP, 0), (.ax a, AX.POS, 0)]
        (s.modAxis a fun h => { h with homing := .capture }) t := by
  let u := s.when (!s.on (.ax a) AX.HOME_CFG_SRC) fun t => t.wr (.ax a) AX.STAT_HOME 1
  have hu0 : OnlyFields [(.ax a, AX.STAT_HOME, 0)] s u :=
    OnlyFields.when _ _ (OnlyFields.refl _ _) fun v hv => OnlyFields.wr _ _ _ _ hv (by simp)
  have hax : u.axes[a].homing = .seek := by rw [hu0.rest]; exact hh
  have hpos : u.rdS (.ax a) AX.POS = s.rdS (.ax a) AX.POS := by
    rw [State.rdS, hu0.fields.rd_off _ _ _ (by simp +decide), State.rdS]
  have hhp : u.rdS (.ax a) AX.HOME_POS = s.rdS (.ax a) AX.HOME_POS := by
    rw [State.rdS, hu0.fields.rd_off _ _ _ (by simp +decide), State.rdS]
  have hdir : u.on (.ax a) AX.HOME_CFG_DIR = s.on (.ax a) AX.HOME_CFG_DIR := by
    rw [State.on, hu0.fields.rd_off _ _ _ (by simp +decide), State.on]
  let m := toward (!s.on (.ax a) AX.HOME_CFG_DIR) since.toNat
  let v := (u.wrS (.ax a) AX.HOME_CAP (s.rdS (.ax a) AX.POS - m)).wrS (.ax a) AX.POS (s.rdS (.ax a) AX.HOME_POS + m)
  have hx : exec (.homeEdge a since) s = .next (v.modAxis a fun h => { h with homing := .capture }) := by
    show execHomeEdge a since s = _
    unfold execHomeEdge
    rw [if_pos hu]
    dsimp only
    rw [if_pos (show (u.axes[a].homing == .seek) = true by rw [hax]; rfl)]
    have hw : (u.wrS (.ax a) AX.HOME_CAP (s.rdS (.ax a) AX.POS - m)).rdS (.ax a) AX.HOME_POS = s.rdS (.ax a) AX.HOME_POS := by
      rw [← hhp, State.rdS, State.wrS_rd_apart _ _ _ _ rfl, State.rdS]
    have hv : v = (u.wrS (.ax a) AX.HOME_CAP (u.rdS (.ax a) AX.POS - toward (!u.on (.ax a) AX.HOME_CFG_DIR) since.toNat)).wrS
        (.ax a) AX.POS ((u.wrS (.ax a) AX.HOME_CAP (u.rdS (.ax a) AX.POS -
          toward (!u.on (.ax a) AX.HOME_CFG_DIR) since.toNat)).rdS (.ax a) AX.HOME_POS +
          toward (!u.on (.ax a) AX.HOME_CFG_DIR) since.toNat) := by
      rw [hpos, hdir, hw]
    rw [hv]
  refine ⟨_, hx, ?_, ?_, ?_⟩
  · rw [State.modAxis_rd, State.wrS_rd_apart _ _ _ _ rfl, State.wrS_rd_same]
    rfl
  · rw [State.modAxis_rd, State.wrS_rd_same]
    rfl
  · refine OnlyFields.modAxis a _ (OnlyFields.wrS _ _ _ _ (OnlyFields.wrS _ _ _ _ (hu0.mono (by simp)) ?_) ?_)
    · simp
    · simp

theorem exec_homeRelease {s : State} {a : Axis} (hu : s.devUp = true) :
    ∃ u, OnlyFields [(.ax a, AX.STAT_HOME, 0)] s u ∧ exec (.homeRelease a) s = .next
      (if s.axes[a].homing == .backoff then u.modAxis a fun h => { h with homing := .settle } else u) := by
  have h0 : OnlyFields [(.ax a, AX.STAT_HOME, 0)] s
      (s.when (!s.on (.ax a) AX.HOME_CFG_SRC) fun t => t.wr (.ax a) AX.STAT_HOME 0) :=
    OnlyFields.when _ _ (OnlyFields.refl _ _) fun v hv => OnlyFields.wr _ _ _ _ hv (by simp)
  refine ⟨_, h0, ?_⟩
  have hax : (s.when (!s.on (.ax a) AX.HOME_CFG_SRC) fun t => t.wr (.ax a) AX.STAT_HOME 0).axes = s.axes := by rw [h0.rest]
  show execHomeRelease a s = _
  unfold execHomeRelease
  rw [if_pos hu]
  dsimp only
  rw [hax]

theorem homeRelease_settles {s : State} {a : Axis} (hu : s.devUp = true) (hh : s.axes[a].homing = .backoff) :
    ∃ t, exec (.homeRelease a) s = .next t ∧
      OnlyFields [(.ax a, AX.STAT_HOME, 0)] (s.modAxis a fun h => { h with homing := .settle }) t := by
  obtain ⟨u, h0, hx⟩ := exec_homeRelease (a := a) hu
  exact ⟨_, by rw [hx, hh]; rfl, h0.modAxis a _⟩

theorem homeRelease_shows {s : State} {a : Axis} (hu : s.devUp = true) (hh : s.axes[a].homing ≠ .backoff) :
    ∃ t, exec (.homeRelease a) s = .next t ∧ OnlyFields [(.ax a, AX.STAT_HOME, 0)] s t := by
  obtain ⟨u, h0, hx⟩ := exec_homeRelease (a := a) hu
  exact ⟨_, by rw [hx, if_neg (by simpa using hh)], h0⟩

/-! ### The driver (R294, R295) -/

theorem driverFault_none {s : State} {a : Axis} (h : s.axSupplyLost a = false) :
    exec (.driverFault a false) s = .next s := by
  show execDriverFault a false s = _
  unfold execDriverFault
  rw [h, if_neg (by simp)]

theorem driverFault_faults {s : State} {a : Axis} {pin : Bool} (hu : s.devUp = true)
    (he : s.on (.ax a) HDR.PG_CTRL_EN = true) (hp : pin = true ∨ s.axSupplyLost a = true) :
    ∃ t, exec (.driverFault a pin) s = .next t ∧ AxFailed s a 0x23 t ∧
      OnlyFields ([(.ax a, AX.STAT_DRVFLT, 0), (.ax a, AX.STAT_LOST, 0), (.ax a, AX.STAT_PROF, 0), (.ax a, AX.VEL, 0),
          (.ax a, HDR.PG_STAT_STATE, 0), (.ax a, HDR.PG_STAT_FAULT, 0)] ++ errorFields (.ax a))
        (s.modAxis a AxisHw.halted) t := by
  let u := s.when pin fun t => t.wr (.ax a) AX.STAT_DRVFLT 1
  have hu0 : OnlyFields [(.ax a, AX.STAT_DRVFLT, 0)] s u :=
    OnlyFields.when _ _ (OnlyFields.refl _ _) fun v hv => OnlyFields.wr _ _ _ _ hv (by simp)
  have hen : u.on (.ax a) HDR.PG_CTRL_EN = true := by
    rw [State.on, hu0.fields.rd_off _ _ _ (by simp +decide)]
    exact he
  have hc : (s.devUp && (pin || s.axSupplyLost a)) = true := by
    rcases hp with h | h <;> simp [hu, h]
  have hx : exec (.driverFault a pin) s = .next (u.axFail a 0x23) := by
    show execDriverFault a pin s = _
    unfold execDriverFault
    rw [if_pos hc]
    dsimp only
    rw [if_pos hen]
  refine ⟨_, hx, ?_, ?_⟩
  · exact (State.axFail_failed u a 0x23 (by decide)).congr
      (hu0.fields.errorShown_off _ (by simp +decide) (by simp +decide))
  · exact ((hu0.modAxis a AxisHw.halted).mono (by simp)).trans
      ((State.axFail_only u a 0x23).mono fun f hf => List.mem_cons_of_mem _ hf)

theorem axisSleepTimeout_sleeps {s : State} {a : Axis} (hu : s.devUp = true) (hi : s.axSt a = axIdle)
    (hm : s.rd (.ax a) AX.TIMES_SLEEP_MS ≠ 0) (hs : s.on (.ax a) AX.STAT_ASLEEP = false)
    (ht : s.axes[a].idleAt + 500000 * s.rd (.ax a) AX.TIMES_SLEEP_MS ≤ s.dclk) :
    ∃ t, exec (.axisSleepTimeout a) s = .next t ∧ t.on (.ax a) AX.STAT_ASLEEP = true ∧ t.event (.ax a) 12 = true ∧
      OnlyFields [(.ax a, AX.STAT_ASLEEP, 0), (.ax a, HDR.PG_EVT_RAW, 0)] s t := by
  have hc : (s.devUp && s.axSt a == axIdle && s.rd (.ax a) AX.TIMES_SLEEP_MS != 0 &&
      decide (s.axes[a].idleAt + 500000 * s.rd (.ax a) AX.TIMES_SLEEP_MS ≤ s.dclk)) = true := by
    simp only [hu, hi, beq_self_eq_true, bne_iff_ne.2 hm, decide_eq_true ht, Bool.and_self]
  refine ⟨(s.wr (.ax a) AX.STAT_ASLEEP 1).raise (.ax a) 12, ?_, ?_, State.raise_event_same _ _ _ (by decide),
    OnlyFields.raise _ _ (OnlyFields.wr _ _ _ _ (OnlyFields.refl _ _) (by simp)) (by simp)⟩
  · show execAxisSleepTimeout a s = _
    unfold execAxisSleepTimeout State.axSleep
    dsimp only
    rw [if_pos hc, if_neg (by simp [hs])]
  · rw [State.on, State.raise_rd_apart _ _ _ _ rfl, State.wr_rd_same]
    rfl

theorem axisSleepTimeout_early {s : State} {a : Axis}
    (h : s.dclk < s.axes[a].idleAt + 500000 * s.rd (.ax a) AX.TIMES_SLEEP_MS) :
    exec (.axisSleepTimeout a) s = .next s := by
  show execAxisSleepTimeout a s = _
  unfold execAxisSleepTimeout
  dsimp only
  rw [if_neg]
  simp only [decide_eq_false (Nat.not_le.2 h), Bool.and_false, Bool.false_eq_true, not_false_eq_true]

/-! ### The output balls (R14, R15, R69, R286, R287, R295, R406) -/

theorem openDrain_low (b : Bool) : (openDrain b = some false ↔ b = true) ∧ openDrain b ≠ some true := by
  cases b <;> decide

theorem vddio_on {s : State} (hd : s.power.dev ≠ .off) (hp : s.power.pgood1 = true) (b : Bool) : s.vddio b = some b := by
  simp [State.vddio, hd, hp]

theorem vddio_off {s : State} (h : s.power.dev = .off ∨ s.power.pgood1 = false) (b : Bool) : s.vddio b = none := by
  rcases h with h | h <;> simp [State.vddio, h]

theorem ball_drvEn {s : State} {a : Axis} (hs : s.shadow = false) (hd : s.power.dev ≠ .off) (hp : s.power.pgood1 = true) :
    s.ball (.drvEn a) = some (s.drvActive a == s.on (.ax a) AX.CFG_EN_POL) := by
  unfold State.ball
  dsimp only
  rw [hs, if_neg (by decide), vddio_on hd hp]

theorem ball_drvSlpN {s : State} {a : Axis} (hs : s.shadow = false) (hd : s.power.dev ≠ .off) :
    s.ball (.drvSlpN a) = some (!s.asleep a) := by
  unfold State.ball
  dsimp only
  rw [hs, if_neg (by decide), if_neg (by simpa using hd)]

theorem ball_drvSlpN_field {s : State} {a : Axis} (hs : s.shadow = false) (hd : s.power.dev ≠ .off) :
    s.ball (.drvSlpN a) = some (decide (s.field (.ax a) AX.STAT_ASLEEP 0 = 0)) := by
  have hf : s.field (.ax a) AX.STAT_ASLEEP 0 = (s.asleep a).toNat := rfl
  rw [ball_drvSlpN hs hd, hf]
  cases s.asleep a <;> rfl

theorem drvMay_false {s : State} (hi : s.power.dev ≠ .idle) (hr : s.power.dev ≠ .ready) (hp : s.power.dev ≠ .print) :
    s.drvMay = false := by
  unfold State.drvMay
  split
  · contradiction
  · contradiction
  · contradiction
  · rfl

theorem ball_off {s : State} {b : Ball} (h : s.power.dev = .off) (hb : b ≠ .wakeN) : s.ball b = none := by
  cases b with
  | wakeN => exact absurd rfl hb
  | pen0 => simp [State.ball, h]
  | pen1 => simp [State.ball, h]
  | faultN => simp [State.ball, h, openDrain]
  | hven c => simp [State.ball, h]
  | drvSlpN a => simp [State.ball, h]
  | dir a => simp [State.ball, vddio_off (.inl h)]
  | drvEn a => simp [State.ball, vddio_off (.inl h)]
  | slowreq => exact vddio_off (.inl h) _
  | prnRdy => exact vddio_off (.inl h) _
  | roleO => exact vddio_off (.inl h) _
  | pfaultO => exact vddio_off (.inl h) _

end Sys2Proof.Machine

namespace Sys2Proof

open Machine Reg

/-- Settles O7: each clause is the law of its command or of its ball. -/
theorem axisMotionAndInputs : Obligations.AxisMotionAndInputs := by
  unfold Obligations.AxisMotionAndInputs
  refine ⟨?_, ?_, fun s a h => axisStep_held h, ?_, fun s a neg hu ho => observedStep_counts neg hu ho,
    fun s a h => profileUpdate_early h, fun s a hu hs h hr => profileUpdate_plans hu hs h hr,
    fun s a hu hs h hr hf hh hl => profileUpdate_commits hu hs h hr hf hh hl,
    fun s a hu hs h hr hf => profileUpdate_refuses hu hs h hr hf, ?_,
    fun s a pos hu he hh hv => limitTrip_shows hu he hh hv, ?_,
    fun s a pos hu hl ht => limitRelease_leaves hu hl ht, fun s a since hu hh => homeEdge_captures since hu hh,
    fun s a hu hh => homeRelease_settles hu hh, fun s a hu hh => homeRelease_shows hu hh,
    fun s a h => driverFault_none h, ?_, fun s a hu hi hm hs ht => axisSleepTimeout_sleeps hu hi hm hs ht,
    fun s a h => axisSleepTimeout_early h, ?_, ?_, ?_, ?_, ?_, fun s a hs hd => ball_drvSlpN_field hs hd, ?_, ?_, ?_,
    fun s b h hb => ball_off h hb⟩
  · intro s a hu hs hl hh hm h1 h2
    exact ⟨_, axisStep_issues s a (State.stepDue_of hu hs hl hh hm) h1 h2, axStepped_out s a, State.axCount_pos _ a _,
      State.axCount_stepCnt _ a _, axStepped_pace s a, axStepped_only s a⟩
  · intro s a hu hs hl hh hm hb hn
    obtain ⟨t, hx, hf⟩ := axisStep_backoff_faults (State.stepDue_of hu hs hl hh hm) hb hn
    exact ⟨t, hx, hf.state, hf.error, hf.lost, hf.rest⟩
  · intro s a hu hs hl hh hm hb hn
    obtain ⟨t, hx, hf⟩ := axisStep_seek_faults (State.stepDue_of hu hs hl hh hm) hb hn
    exact ⟨t, hx, hf.state, hf.error, hf.lost, hf.rest⟩
  · intro s a pos hu he hh hv
    obtain ⟨t, hx, hb, hst, hev, hcnt, ho⟩ := limitTrip_stops hu he hh hv
    refine ⟨t, hx, hb, hst, hev, hcnt, ?_⟩
    rw [State.modAxis_congr s a (g := fun h => { h.limited (s.on (.ax a) AX.CFG_LIM_ACT) with trip := some pos })]
    · exact ho
    · unfold AxisHw.limited AxisHw.halted
      cases s.on (.ax a) AX.CFG_LIM_ACT <;> rfl
  · intro s a pos hu he hh hx
    obtain ⟨t, hx, hf⟩ := limitTrip_faults hu he hh hx
    exact ⟨t, hx, hf.error, hf.state, hf.lost, hf.rest⟩
  · intro s a pin hu he hp
    obtain ⟨t, hx, hf, ho⟩ := driverFault_faults hu he hp
    exact ⟨t, hx, hf.error, hf.state, hf.fault, hf.lost, ho⟩
  · intro s
    exact ⟨(openDrain_low _).1.trans (by simp), (openDrain_low _).2⟩
  · intro s
    exact openDrain_low s.power.wakeN
  · intro s a hs
    refine ⟨?_, ?_, ?_⟩ <;> simp [State.ball, hs]
  · intro s a hs hd hp he hf
    have hf' : (s.axSt a != axFault) = true := by simpa using hf
    rw [ball_drvEn hs hd hp, State.drvActive, he, hf']
    cases s.on (.ax a) AX.CFG_EN_POL <;> rfl
  · intro s a hs hd hp he
    have hn : s.drvActive a = false := by
      rcases he with h | h <;> simp [State.drvActive, h]
    rw [ball_drvEn hs hd hp, hn]
    cases s.on (.ax a) AX.CFG_EN_POL <;> rfl
  · intro s a hs hd hi hr hp
    rw [ball_drvSlpN hs hd, State.asleep, drvMay_false hi hr hp]
    simp
  · intro s hp
    exact ⟨vddio_off (.inr hp) _, vddio_off (.inr hp) _, vddio_off (.inr hp) _, vddio_off (.inr hp) _⟩
  · intro s hd hp
    exact ⟨vddio_on hd hp _, vddio_on hd hp _⟩

end Sys2Proof
end

section
/-! PROOFS. What a change of listed fields leaves of other pages, what a pass over the lanes leaves of each, and the
commits of a state that has none. -/

namespace Sys2Proof.Machine

open Reg

/-! ### Other pages -/

/-- The fields of a list are of one of these pages, and within it. -/
def FieldAt.within (ps : List Page) (fs : List FieldAt) : Prop := ∀ f ∈ fs, f.1 ∈ ps ∧ Row.inPage f.2.1 f.2.2 = true

@[simp] theorem FieldAt.within_nil (ps : List Page) : FieldAt.within ps [] := fun _ hf => nomatch hf

@[simp] theorem FieldAt.within_cons (ps : List Page) (f : FieldAt) (fs : List FieldAt) :
    FieldAt.within ps (f :: fs) ↔ (f.1 ∈ ps ∧ Row.inPage f.2.1 f.2.2 = true) ∧ FieldAt.within ps fs :=
  List.forall_mem_cons

theorem Untouched.rd_within {ps : List Page} {fs : List FieldAt} {s t : State} (h : Untouched fs s t)
    (hw : FieldAt.within ps fs) {p : Page} (hp : p ∉ ps) (r : Row) (i : Nat) (hr : Row.inPage r i = true) :
    t.rd p r i = s.rd p r i := by
  refine h.rd p r i fun hm => ?_
  obtain ⟨f, hf, he⟩ := List.mem_map.1 hm
  obtain ⟨hps, hin⟩ := hw f hf
  exact Row.key_ne_of_page (fun (hpq : f.1 = p) => hp (hpq ▸ hps)) hin hr he

theorem OtherPages.of_untouched {ps : List Page} {fs : List FieldAt} {s t : State} (h : Untouched fs s t)
    (hw : FieldAt.within ps fs) : OtherPages ps s t :=
  fun _ r i hp hr => h.rd_within hw hp r i (by
    simp only [Row.inPage, Row.place, Nat.ble_eq]
    omega)

/-- No field of a list stands where a copy of a field of this page does: it is of another page, or elsewhere in it. -/
def FieldAt.clear (fs : List FieldAt) (p : Page) (r : Row) (i : Nat) : Prop :=
  ∀ f ∈ fs, Row.apart f.2.1 f.2.2 r i = true ∨ (f.1 ≠ p ∧ Row.inPage f.2.1 f.2.2 = true ∧ Row.inPage r i = true)

@[simp] theorem FieldAt.clear_nil (p : Page) (r : Row) (i : Nat) : FieldAt.clear [] p r i := fun _ hf => nomatch hf

@[simp] theorem FieldAt.clear_cons (f : FieldAt) (fs : List FieldAt) (p : Page) (r : Row) (i : Nat) :
    FieldAt.clear (f :: fs) p r i ↔
      (Row.apart f.2.1 f.2.2 r i = true ∨ (f.1 ≠ p ∧ Row.inPage f.2.1 f.2.2 = true ∧ Row.inPage r i = true)) ∧
        FieldAt.clear fs p r i := List.forall_mem_cons

@[simp] theorem FieldAt.clear_append (fs gs : List FieldAt) (p : Page) (r : Row) (i : Nat) :
    FieldAt.clear (fs ++ gs) p r i ↔ FieldAt.clear fs p r i ∧ FieldAt.clear gs p r i := List.forall_mem_append

theorem Untouched.rd_clear {fs : List FieldAt} {s t : State} (h : Untouched fs s t) {p : Page} {r : Row} {i : Nat}
    (hc : FieldAt.clear fs p r i) : t.rd p r i = s.rd p r i := by
  refine h.rd p r i fun hm => ?_
  obtain ⟨f, hf, he⟩ := List.mem_map.1 hm
  rcases hc f hf with ha | ⟨hp, hi, hr⟩
  · exact Row.key_ne_of_apart ha f.1 p he
  · exact Row.key_ne_of_page hp hi hr he

/-! ### A pass over the lanes -/

theorem State.each_id {α : Type} (s : State) (l : List α) (f : State → α → State) (h : ∀ x ∈ l, f s x = s) :
    s.each l f = s := by
  induction l with
  | nil => rfl
  | cons x l ih => rw [State.each_cons, h x (List.mem_cons_self ..), ih fun y hy => h y (List.mem_cons_of_mem _ hy)]

/-- A pass whose steps each change their own lane alone leaves a lane it does not visit. -/
theorem State.each_lane_other (f : State → Lane → State) (hf : ∀ u k l, k ≠ l → (f u k).lanes[l] = u.lanes[l]) (l : Lane)
    (ls : List Lane) (hl : l ∉ ls) (s : State) : (s.each ls f).lanes[l] = s.lanes[l] := by
  induction ls generalizing s with
  | nil => rfl
  | cons k ls ih =>
    rw [State.each_cons, ih (fun h => hl (List.mem_cons_of_mem _ h)), hf _ _ _ fun (h : k = l) => hl (h ▸ List.mem_cons_self ..)]

/-- A pass over all lanes whose steps each change their own lane alone: a lane is as its own step leaves it, taken from a
state in which it is as before. -/
theorem State.each_lane_own (f : State → Lane → State) (hf : ∀ u k l, k ≠ l → (f u k).lanes[l] = u.lanes[l])
    (P : State → Prop) (hP : ∀ u k, P u → P (f u k)) (s : State) (hs : P s) (l : Lane) :
    ∃ u, P u ∧ u.lanes[l] = s.lanes[l] ∧ (s.each allLanes f).lanes[l] = (f u l).lanes[l] := by
  obtain ⟨as, bs, hab⟩ := List.append_of_mem (show l ∈ allLanes from List.mem_finRange l)
  have hn : (as ++ l :: bs).Nodup := hab ▸ List.nodup_finRange 64
  have hall (ks : List Lane) (u : State) (hu : P u) : P (u.each ks f) := by
    induction ks generalizing u with
    | nil => exact hu
    | cons k ks ih => exact ih _ (hP u k hu)
  obtain ⟨_, hlb, hdis⟩ := List.nodup_append.1 hn
  refine ⟨s.each as f, hall as s hs, State.each_lane_other f hf l as (fun h => hdis l h l (List.mem_cons_self ..) rfl) s, ?_⟩
  have he : s.each allLanes f = (f (s.each as f) l).each bs f := by
    unfold State.each
    rw [hab, List.foldl_append, List.foldl_cons]
  rw [he, State.each_lane_other f hf l bs (List.nodup_cons.1 hlb).1]

/-! ### Nothing to commit, no page to start -/

theorem State.commitsAt_none {s : State} (h : s.commits = []) (b : Nat) (which : Page → Bool) : s.commitsAt b which = s := by
  unfold State.commitsAt State.ripe
  rw [h]
  rfl

theorem State.nextPage_none {s : State} (h : s.intake.pages = []) : s.nextPage = none := by
  unfold State.nextPage
  rw [h]
  rfl

theorem State.armNext_none {s : State} (h : s.nextPage = none) : s.armNext = s := by
  unfold State.armNext
  rw [h]

theorem State.tryStart_none {s : State} (h : s.nextPage = none) : s.tryStart = s := by
  unfold State.tryStart
  rw [h]

end Sys2Proof.Machine
end

section
/-! PROOFS. A line tick with no page open: the pace unit's figures and the firing instants (R248, R278 to R282). -/

namespace Sys2Proof.Machine

open Reg

/-! ### The pace unit's figures -/

/-- DCLK since the tick before; whether it counts as an interval, and as one too short (R280, R281). -/
def State.lineGap (s : State) : Nat :=
  match s.pace.last with
  | some t => s.dclk - t
  | none => 0

def State.tickCounts (s : State) : Bool := !s.pace.fresh && s.pace.last.isSome

def State.tickShort (s : State) : Bool := s.tickCounts && decide (s.lineGap < s.rd .pace PACE.PERM)

/-- What the pace unit holds after a tick, but for the time without a source of SLOWREQ. -/
def State.tickPace (s : State) : Pace :=
  { s.pace with
    ticks := s.pace.ticks - 1, last := some s.dclk, short := s.tickShort, fresh := false, tickAt := s.dclk
    interval := if s.tickCounts then some s.lineGap else none
    gap := if s.pace.last.isSome then some s.lineGap else none }

/-- The web line counter and the tick's time. -/
def State.tickLine (s : State) : State := (s.wr .pace PACE.WL (s.rd .pace PACE.WL + 1)).wr .pace PACE.TICK_TIME s.time

/-- The interval, where it counts, and an interval too short. -/
def State.tickPeriod (s : State) (counts short : Bool) (gap : Nat) : State :=
  let s := if counts then
      (s.wr .pace PACE.PERIOD (min gap 0xFFFFF)).wr .pace PACE.PERIOD_MIN (min (min gap 0xFFFFF) (s.rd .pace PACE.PERIOD_MIN))
    else s
  if short then (s.bump .pace PACE.OVS_CNT).when (!s.pace.short) fun t => t.raise .pace 10 else s

/-- A tick ends STOPPED. -/
def State.tickStarted (s : State) : State :=
  if s.on .pace PACE.STAT_STOPPED then (s.wr .pace PACE.STAT_STOPPED 0).raise .pace 12 else s

/-- The registers after a tick, SLOWREQ and its sources aside. -/
def State.tickRegs (s : State) : State :=
  (s.tickLine.tickPeriod s.tickCounts s.tickShort s.lineGap).tickStarted

/-- The fields of the pace unit's figures (R278 to R282). -/
def tickFields : List FieldAt :=
  [(.pace, PACE.WL, 0), (.pace, PACE.TICK_TIME, 0), (.pace, PACE.PERIOD, 0), (.pace, PACE.PERIOD_MIN, 0),
    (.pace, PACE.STAT_SRC_RATE, 0), (.pace, PACE.STAT_SRC_FSAFE, 0), (.pace, PACE.OVS_CNT, 0), (.pace, PACE.STAT_STOPPED, 0),
    (.pace, PACE.STAT_SLOWREQ, 0), (.pace, PACE.SLOW_CNT, 0), (.pace, HDR.PG_EVT_RAW, 0)]

theorem slowFields_tick : ∀ f ∈ slowFields, f ∈ tickFields := by simp +contextual [slowFields, tickFields]

theorem tickFields_within : FieldAt.within [.pace] tickFields := by simp +decide [tickFields]

theorem State.tickLine_only (s : State) : OnlyFields tickFields s s.tickLine :=
  OnlyFields.wr _ _ _ _ (OnlyFields.wr _ _ _ _ (OnlyFields.refl _ _) (by simp [tickFields])) (by simp [tickFields])

/-- The fields of the interval between ticks. -/
def periodFields : List FieldAt :=
  [(.pace, PACE.PERIOD, 0), (.pace, PACE.PERIOD_MIN, 0), (.pace, PACE.OVS_CNT, 0), (.pace, HDR.PG_EVT_RAW, 0)]

theorem State.tickPeriod_only (s : State) (counts short : Bool) (gap : Nat) :
    OnlyFields periodFields s (s.tickPeriod counts short gap) := by
  have h : OnlyFields periodFields s (if counts then
      (s.wr .pace PACE.PERIOD (min gap 0xFFFFF)).wr .pace PACE.PERIOD_MIN (min (min gap 0xFFFFF) (s.rd .pace PACE.PERIOD_MIN))
    else s) :=
    OnlyFields.ite (OnlyFields.wr _ _ _ _ (OnlyFields.wr _ _ _ _ (OnlyFields.refl _ _) (by simp [periodFields]))
      (by simp [periodFields])) (OnlyFields.refl _ _)
  exact OnlyFields.ite (OnlyFields.when _ _ (OnlyFields.bump _ _ _ _ h (by simp [periodFields]))
    fun _ hu => OnlyFields.raise _ _ hu (by simp [periodFields])) h

theorem State.tickStarted_only (s : State) : OnlyFields [(.pace, PACE.STAT_STOPPED, 0), (.pace, HDR.PG_EVT_RAW, 0)] s s.tickStarted :=
  OnlyFields.ite (OnlyFields.raise _ _ (OnlyFields.wr _ _ _ _ (OnlyFields.refl _ _) (by simp)) (by simp)) (OnlyFields.refl _ _)

theorem State.tickRegs_only (s : State) : OnlyFields tickFields s s.tickRegs :=
  (s.tickLine_only.trans ((State.tickPeriod_only _ _ _ _).mono (by simp +contextual [periodFields, tickFields]))).trans
    ((State.tickStarted_only _).mono (by simp +contextual [tickFields]))

theorem State.tickRegs_wl (s : State) : s.tickRegs.rd .pace PACE.WL = (s.rd .pace PACE.WL + 1) % 2 ^ 48 := by
  unfold State.tickRegs
  rw [(State.tickStarted_only _).fields.rd_off _ _ _ (by simp +decide), (State.tickPeriod_only _ _ _ _).fields.rd_off _ _ _
    (by simp +decide), State.tickLine, State.wr_rd_apart _ _ _ _ rfl, State.wr_rd_same]
  rfl

theorem State.tickRegs_time (s : State) : s.tickRegs.rd .pace PACE.TICK_TIME = s.time % 2 ^ 64 := by
  unfold State.tickRegs
  rw [(State.tickStarted_only _).fields.rd_off _ _ _ (by simp +decide), (State.tickPeriod_only _ _ _ _).fields.rd_off _ _ _
    (by simp +decide), State.tickLine, State.wr_rd_same]
  rfl

theorem State.tickStarted_stopped (s : State) : s.tickStarted.on .pace PACE.STAT_STOPPED = false := by
  unfold State.tickStarted
  split
  · simp +decide [State.on]
  · exact Bool.not_eq_true _ ▸ ‹¬ s.on .pace PACE.STAT_STOPPED = true›

theorem State.tickStarted_event {s : State} (h : s.on .pace PACE.STAT_STOPPED = true) :
    s.tickStarted.event .pace 12 = true := by
  unfold State.tickStarted
  rw [if_pos h]
  exact State.raise_event_same _ _ _ (by decide)

theorem State.tickRegs_event {s : State} (h : s.on .pace PACE.STAT_STOPPED = true) : s.tickRegs.event .pace 12 = true := by
  refine State.tickStarted_event ?_
  rw [State.on, (State.tickPeriod_only _ _ _ _).fields.rd_off _ _ _ (by simp +decide), State.tickLine,
    State.wr_rd_apart _ _ _ _ rfl, State.wr_rd_apart _ _ _ _ rfl]
  exact h

theorem State.paceTick_eq (s : State) :
    s.paceTick = ({ s.tickRegs with pace := s.tickPace } : State).settleSources := by
  have hp : s.tickRegs.pace = s.pace := by rw [s.tickRegs_only.rest]
  have hd : s.tickRegs.dclk = s.dclk := by rw [s.tickRegs_only.rest]
  have h : s.paceTick = ({ s.tickRegs with pace := { s.tickRegs.pace with
      ticks := s.tickRegs.pace.ticks - 1, last := some s.tickRegs.dclk, short := s.tickShort, fresh := false
      tickAt := s.tickRegs.dclk
      interval := if s.tickCounts then some s.lineGap else none
      gap := if s.tickRegs.pace.last.isSome then some s.lineGap else none } } : State).settleSources := rfl
  rw [h, hp, hd]
  rfl

theorem State.paceTick_quiet (s : State) : QuietOnly tickFields { s with pace := s.tickPace } s.paceTick := by
  rw [State.paceTick_eq]
  refine (QuietOnly.of_only ?_).trans ((State.settleSources_quiet _).mono slowFields_tick)
  refine OnlyFields.of_parts (u := s) (fun k d hk => s.tickRegs_only.fields k d hk) rfl ?_
  rw [s.tickRegs_only.rest]
  simp [SameParts]

/-! ### A tick with nothing to commit and no page -/

theorem State.paceTick_commits (s : State) : s.paceTick.commits = s.commits := by rw [s.paceTick_quiet.rest]
theorem State.paceTick_intake (s : State) : s.paceTick.intake = s.intake := by rw [s.paceTick_quiet.rest]

/-- The DCLK at which a lane's lines of this tick fire (R248, R254). -/
def State.instantAt (s : State) (before : Option Nat) (l : Lane) : Nat :=
  let prev := match before with
    | some g => min g 65535
    | none => s.rd (.seq l) SEQ.TMIN
  s.dclk + 3 + s.rd (.seq l) SEQ.PHASE_FRAC * prev / 256

/-- A lane's lines of web line tick `wl` get their firing instants. -/
def State.laneInstant (before : Option Nat) (wl : Nat) (s : State) (l : Lane) : State :=
  if s.lanes[l].due.any fun d => d.tag.tick == wl then
    s.modLane l fun (h : LaneHw) => { h with due := h.due.map fun (d : Due) =>
      if d.tag.tick = wl then { d with instant := some (s.instantAt before l) } else d }
  else s

theorem State.setInstants_eq (s : State) (before : Option Nat) :
    s.setInstants before = s.each allLanes (State.laneInstant before (s.rd .pace PACE.WL)) := rfl

theorem State.laneInstant_parts (before : Option Nat) (wl : Nat) (s : State) (l : Lane) :
    ∃ ls, State.laneInstant before wl s l = { s with lanes := ls } := by
  unfold State.laneInstant
  split
  · exact ⟨_, rfl⟩
  · exact ⟨s.lanes, rfl⟩

theorem State.laneInstant_other (before : Option Nat) (wl : Nat) (s : State) {k l : Lane} (h : k ≠ l) :
    (State.laneInstant before wl s k).lanes[l] = s.lanes[l] := by
  unfold State.laneInstant
  split
  · exact State.modLane_ne _ _ h
  · rfl

theorem State.laneInstant_idle (before : Option Nat) (wl : Nat) {s : State} {l : Lane} (h : s.lanes[l].due = []) :
    State.laneInstant before wl s l = s := by
  unfold State.laneInstant
  rw [h]
  rfl

theorem State.laneInstant_due (before : Option Nat) {s : State} {l : Lane} {d : Due} (h : s.lanes[l].due = [d]) :
    (State.laneInstant before d.tag.tick s l).lanes[l].due = [{ d with instant := some (s.instantAt before l) }] := by
  unfold State.laneInstant
  rw [if_pos (by rw [h]; simp), State.modLane_same]
  dsimp only
  rw [h]
  simp

theorem State.setInstants_parts (s : State) (before : Option Nat) : ∃ ls, s.setInstants before = { s with lanes := ls } := by
  have h (l : List Lane) (u : State) (hu : ∃ ls, u = { s with lanes := ls }) :
      ∃ ls, u.each l (State.laneInstant before (s.rd .pace PACE.WL)) = { s with lanes := ls } := by
    induction l generalizing u with
    | nil => exact hu
    | cons x l ih =>
      obtain ⟨ls, rfl⟩ := hu
      exact ih _ (State.laneInstant_parts before _ _ x)
  rw [State.setInstants_eq]
  exact h allLanes s ⟨s.lanes, rfl⟩

theorem State.setInstants_idle {s : State} (h : ∀ l : Lane, s.lanes[l].due = []) (before : Option Nat) :
    s.setInstants before = s := by
  rw [State.setInstants_eq]
  exact State.each_id _ _ _ fun l _ => State.laneInstant_idle _ _ (h l)

theorem State.setInstants_due {s : State} {l : Lane} {d : Due} (h : s.lanes[l].due = [d])
    (ht : d.tag.tick = s.rd .pace PACE.WL) (before : Option Nat) :
    (s.setInstants before).lanes[l].due = [{ d with instant := some (s.instantAt before l) }] := by
  rw [State.setInstants_eq, ← ht]
  obtain ⟨u, ⟨ls, hu⟩, hul, he⟩ := State.each_lane_own (State.laneInstant before d.tag.tick)
    (fun u _ _ hk => State.laneInstant_other _ _ u hk) (fun u => ∃ ls, u = { s with lanes := ls })
    (fun u k ⟨ls, hu⟩ => by subst hu; exact State.laneInstant_parts _ _ _ k) s ⟨s.lanes, rfl⟩ l
  rw [he, State.laneInstant_due before (by rw [hul, h]), hu]
  rfl

theorem exec_lineTick {s : State} (hu : s.devUp = true) (ht : 0 < s.pace.ticks) (hc : s.commits = [])
    (hp : s.intake.pages = []) :
    exec .lineTick s = .next (s.paceTick.setInstants s.pace.gap).settleSlow := by
  have hp1 : s.paceTick.intake.pages = [] := by rw [s.paceTick_intake, hp]
  have hn : (s.paceTick.setInstants s.pace.gap).nextPage = none := by
    obtain ⟨ls, hls⟩ := State.setInstants_parts s.paceTick s.pace.gap
    rw [hls]
    exact State.nextPage_none hp1
  show execLineTick s = _
  unfold execLineTick
  dsimp only
  rw [if_pos (by simp [hu, ht]), State.commitsAt_none (by rw [s.paceTick_commits, hc]), hp1]
  dsimp only [List.filter, State.each, List.foldl]
  rw [State.tryStart_none (State.nextPage_none hp1), hp1]
  dsimp only [List.filter, List.foldl]
  rw [State.armNext_none hn]

theorem lineTick_idle {s : State} (h : s.devUp = false ∨ s.pace.ticks = 0) : exec .lineTick s = .next s := by
  show execLineTick s = _
  unfold execLineTick
  rw [if_neg]
  simp only [Bool.and_eq_true, decide_eq_true_eq]
  rintro ⟨h1, h2⟩
  rcases h with h | h
  · rw [h] at h1
    cases h1
  · omega

/-! ### O2: the line tick -/

theorem State.paceTick_slow (s : State) :
    OnlyFields tickFields { s with pace := s.paceTick.settleSlow.pace } s.paceTick.settleSlow := by
  have h : QuietOnly tickFields { s with pace := s.tickPace } s.paceTick.settleSlow :=
    s.paceTick_quiet.trans ((State.settleSlow_quiet _).mono slowFields_tick)
  refine OnlyFields.of_parts (u := s) (fun k d hk => h.untouched k d hk) rfl ?_
  rw [h.rest]
  simp [SameParts]

theorem lineTick_idleLanes {s : State} (hu : s.devUp = true) (ht : 0 < s.pace.ticks) (hc : s.commits = [])
    (hp : s.intake.pages = []) (hd : s.lanes.toList.all (fun h => h.due.isEmpty) = true) :
    ∃ t, exec .lineTick s = .next t ∧ t.rd .pace PACE.WL = (s.rd .pace PACE.WL + 1) % 2 ^ 48 ∧
      t.rd .pace PACE.TICK_TIME = s.time % 2 ^ 64 ∧ t.on .pace PACE.STAT_STOPPED = false ∧
      (s.on .pace PACE.STAT_STOPPED = true → t.event .pace 12 = true) ∧ t.pace.ticks = s.pace.ticks - 1 ∧
      t.pace.last = some s.dclk ∧ t.pace.fresh = false ∧ OnlyFields tickFields { s with pace := t.pace } t := by
  have hdue (l : Lane) : s.lanes[l].due = [] :=
    List.isEmpty_iff.1 (List.all_eq_true.1 hd _ (by simp))
  have hidle : s.paceTick.setInstants s.pace.gap = s.paceTick := by
    refine State.setInstants_idle (fun l => ?_) _
    have : s.paceTick.lanes = s.lanes := by rw [s.paceTick_quiet.rest]
    rw [this, hdue]
  have hq : QuietOnly slowFields ({ s.tickRegs with pace := s.tickPace } : State) s.paceTick.settleSlow := by
    rw [State.paceTick_eq]
    exact (State.settleSources_quiet _).trans (State.settleSlow_quiet _)
  have hpace : s.paceTick.settleSlow.pace = { s.tickPace with quietFrom := s.paceTick.settleSlow.pace.quietFrom } := by
    conv_lhs => rw [hq.rest]
  have hrd (r : Row) (h : FieldAt.off slowFields r 0 = true) : s.paceTick.settleSlow.rd .pace r = s.tickRegs.rd .pace r :=
    hq.untouched.rd_off .pace r 0 h
  refine ⟨_, (exec_lineTick hu ht hc hp).trans (by rw [hidle]), ?_, ?_, ?_, fun h => ?_, ?_, ?_, ?_, s.paceTick_slow⟩
  · rw [hrd _ (by simp +decide), s.tickRegs_wl]
  · rw [hrd _ (by simp +decide), s.tickRegs_time]
  · rw [State.on, hrd _ (by simp +decide)]
    exact State.tickStarted_stopped _
  · have he : KeepsEvents ({ s.tickRegs with pace := s.tickPace } : State) s.paceTick.settleSlow := by
      rw [State.paceTick_eq]
      exact (State.settleSources_events _).trans (State.settleSlow_events _)
    exact he _ _ (by decide) (State.tickRegs_event h)
  · rw [hpace]; rfl
  · rw [hpace]; rfl
  · rw [hpace]; rfl

theorem lineTick_firingInstant {s : State} {l : Lane} {d : Due} (hu : s.devUp = true) (ht : 0 < s.pace.ticks)
    (hc : s.commits = []) (hp : s.intake.pages = []) (hd : s.lanes[l].due = [d]) (hw : d.tag.tick = s.rd .pace PACE.WL + 1)
    (hm : s.rd .pace PACE.WL + 1 < 2 ^ 48) :
    ∃ t, exec .lineTick s = .next t ∧
      t.lanes[l].due = [{ d with instant := some (s.instantAt s.pace.gap l) }] := by
  have hwl : s.paceTick.rd .pace PACE.WL = s.rd .pace PACE.WL + 1 := by
    rw [State.paceTick_eq, (State.settleSources_quiet _).untouched.rd_off _ _ _ (by simp +decide)]
    exact s.tickRegs_wl.trans (Nat.mod_eq_of_lt hm)
  have hl : s.paceTick.lanes = s.lanes := by rw [s.paceTick_quiet.rest]
  have hk : s.paceTick.dclk = s.dclk := by rw [s.paceTick_quiet.rest]
  have hr (r : Row) (h : Row.inPage r 0 = true) : s.paceTick.rd (.seq l) r = s.rd (.seq l) r :=
    s.paceTick_quiet.untouched.rd_within tickFields_within (by simp) r 0 h
  have hi : s.paceTick.instantAt s.pace.gap l = s.instantAt s.pace.gap l := by
    unfold State.instantAt
    rw [hk, hr _ rfl, hr _ rfl]
  have hs (u : State) : u.settleSlow.lanes = u.lanes := by rw [(State.settleSlow_quiet u).rest]
  refine ⟨_, exec_lineTick hu ht hc hp, ?_⟩
  rw [hs, State.setInstants_due (d := d) (by rw [hl, hd]) (by rw [hwl, hw]), hi]

end Sys2Proof.Machine
end

section
/-! PROOFS. A write of `PACE.CTRL` (R272), `LST.START` (R186), and the start of the next page (R186, R187, R180). -/

namespace Sys2Proof.Machine

open Reg

/-! ### A write of `PACE.CTRL` -/

/-- The fields of `PACE.CTRL`. -/
def paceCtrlFields : List FieldAt :=
  [(.pace, PACE.CTRL_MODE, 0), (.pace, PACE.CTRL_DIR_INV, 0), (.pace, PACE.CTRL_Z_EN, 0), (.pace, PACE.CTRL_FSAFE_SLOW, 0),
    (.pace, PACE.CTRL_BELT_LIMIT, 0), (.pace, PACE.CTRL_FILT, 0)]

theorem fieldsAt_paceCtrl : fieldsAt .pace 0x40 = [(PACE.CTRL_MODE, 0), (PACE.CTRL_DIR_INV, 0), (PACE.CTRL_Z_EN, 0),
    (PACE.CTRL_FSAFE_SLOW, 0), (PACE.CTRL_BELT_LIMIT, 0), (PACE.CTRL_FILT, 0)] := by decide

/-- The fields of `PACE.CTRL` beside MODE are stored. -/
def State.storeRest (s : State) (data : Nat) : State :=
  ((((s.wr .pace PACE.CTRL_DIR_INV (part PACE.CTRL_DIR_INV data)).wr .pace PACE.CTRL_Z_EN (part PACE.CTRL_Z_EN data)).wr
    .pace PACE.CTRL_FSAFE_SLOW (part PACE.CTRL_FSAFE_SLOW data)).wr .pace PACE.CTRL_BELT_LIMIT
      (part PACE.CTRL_BELT_LIMIT data)).wr .pace PACE.CTRL_FILT (part PACE.CTRL_FILT data)

theorem State.store_paceCtrl (s : State) (data : Nat) :
    s.store .pace 0x40 data = (s.wr .pace PACE.CTRL_MODE (part PACE.CTRL_MODE data)).storeRest data := by
  unfold State.store
  rw [fieldsAt_paceCtrl]
  rfl

theorem State.storeRest_only (s : State) (data : Nat) : OnlyFields paceCtrlFields.tail s (s.storeRest data) :=
  OnlyFields.wr _ _ _ _ (OnlyFields.wr _ _ _ _ (OnlyFields.wr _ _ _ _ (OnlyFields.wr _ _ _ _ (OnlyFields.wr _ _ _ _
    (OnlyFields.refl _ _) (by simp [paceCtrlFields])) (by simp [paceCtrlFields])) (by simp [paceCtrlFields]))
    (by simp [paceCtrlFields])) (by simp [paceCtrlFields])

theorem State.store_paceCtrl_only (s : State) (data : Nat) : OnlyFields paceCtrlFields s (s.store .pace 0x40 data) := by
  rw [State.store_paceCtrl]
  exact (OnlyFields.wr _ _ _ _ (OnlyFields.refl _ _) (by simp [paceCtrlFields])).trans
    ((State.storeRest_only _ _).mono fun _ hf => List.mem_of_mem_tail hf)

theorem State.store_paceCtrl_mode (s : State) (data : Nat) : (s.store .pace 0x40 data).rd .pace PACE.CTRL_MODE = data % 4 := by
  rw [State.store_paceCtrl, (State.storeRest_only _ _).fields.rd_off _ _ _ (by simp +decide),
    State.wr_rd_same]
  simp [part, PACE.CTRL_MODE]

/-- A write of MODE: the unit starts afresh (R272). -/
def State.modeFresh (s : State) : State :=
  { s with
    pace := { s.pace with
      acc := 0, last := none, gap := none, short := false, fresh := true, interval := none, intAt := s.dclk }
    intake := { s.intake with prevKnown := false } }

theorem State.paceCtrlWrite_stores {s : State} (req : Req) {data : Nat} (hj : s.judge .pace 0x40 data = none)
    (hr : s.rd .pace PACE.RATIO_NUM ≤ s.rd .pace PACE.RATIO_DEN) :
    s.paceCtrlWrite req data =
      ((((s.store .pace 0x40 data).modeFresh.settleReverse).setPage .pace (data % 4)).settlePerm).settleSlow := by
  unfold State.paceCtrlWrite
  rw [hj]
  dsimp only
  rw [if_neg]
  · rfl
  · simp only [Bool.and_eq_true, decide_eq_true_eq, not_and, Nat.not_lt]
    exact fun _ => hr

theorem State.paceCtrlWrite_refuses {s : State} (req : Req) {data : Nat} (hj : s.judge .pace 0x40 data = none)
    (hr : s.rd .pace PACE.RATIO_DEN < s.rd .pace PACE.RATIO_NUM) (hm : data % 4 = 1 ∨ data % 4 = 2) :
    s.paceCtrlWrite req data = s.errOpen .pace 0x23 := by
  unfold State.paceCtrlWrite
  rw [hj]
  dsimp only
  rw [if_pos]
  rcases hm with h | h <;> simp [h, hr]

/-- The fields that a write of MODE may change. -/
def modeFields : List FieldAt :=
  paceCtrlFields ++ reverseFields ++ [(.pace, HDR.PG_STAT_STATE, 0), (.pace, HDR.PG_EVT_RAW, 0)] ++ permFields ++ slowFields

theorem modeFields_within : FieldAt.within [.pace, .ax 0, .pair] modeFields := by
  have h : modeFields.all (fun f => (f.1 == .pace || f.1 == .ax 0 || f.1 == .pair) && Row.inPage f.2.1 f.2.2) = true := by
    decide
  intro f hf
  have := List.all_eq_true.1 h f hf
  simpa [and_assoc, or_assoc] using this

theorem State.modeWrite_quiet (s : State) (data : Nat) : QuietOnly modeFields s.modeFresh
    (((((s.store .pace 0x40 data).modeFresh.settleReverse).setPage .pace (data % 4)).settlePerm).settleSlow) := by
  have h0 : OnlyFields paceCtrlFields s.modeFresh (s.store .pace 0x40 data).modeFresh := by
    refine OnlyFields.of_parts (u := s) (fun k d hk => (s.store_paceCtrl_only data).fields k d hk) rfl ?_
    unfold State.modeFresh
    rw [(s.store_paceCtrl_only data).rest]
    simp [SameParts]
  have h1 := ((h0.mono (gs := modeFields) (by simp +contextual [modeFields])).trans
    ((State.settleReverse_only _).mono (by simp +contextual [modeFields]))).setPage .pace (data % 4)
      (by simp [modeFields]) (by simp [modeFields])
  exact ((QuietOnly.of_only h1).trans ((State.settlePerm_quiet _).mono (by simp +contextual [modeFields]))).trans
    ((State.settleSlow_quiet _).mono (by simp +contextual [modeFields]))

theorem QuietOnly.pace {fs : List FieldAt} {s t : State} (h : QuietOnly fs s t) :
    t.pace = { s.pace with quietFrom := t.pace.quietFrom } := by
  conv_lhs => rw [OnlyFields.rest h]

theorem paceModeWrite_stores {s : State} {req : Req} {data : Word} (ho : s.open_ req .pace = true)
    (hj : s.judge .pace 0x40 data.toNat = none) (hr : s.rd .pace PACE.RATIO_NUM ≤ s.rd .pace PACE.RATIO_DEN) :
    ∃ t, exec (.paceModeWrite req data) s = .next t ∧ t.rd .pace PACE.CTRL_MODE = data.toNat % 4 ∧
      t.pace = { s.pace with
        acc := 0, last := none, gap := none, short := false, fresh := true, interval := none
        intAt := s.dclk, quietFrom := t.pace.quietFrom } ∧
      t.rd .pace HDR.PG_STAT_STATE = data.toNat % 4 ∧ t.intake.prevKnown = false ∧ OtherPages [.pace, .ax 0, .pair] s t := by
  let u : State := { s with reply := .posted req.code }
  have hq := u.modeWrite_quiet data.toNat
  refine ⟨_, ?_, ?_, hq.pace, ?_, ?_, ?_⟩
  · show Host.Outcome.next (s.gate req .pace 0x40 fun s => s.paceCtrlWrite req data.toNat) = _
    rw [State.gate_open ho]
    exact congrArg _ (State.paceCtrlWrite_stores (s := u) req hj hr)
  · rw [(State.settleSlow_quiet _).untouched.rd_off _ _ _ (by simp +decide),
      (State.settlePerm_quiet _).untouched.rd_off _ _ _ (by simp +decide),
      State.setPage_rd_apart _ _ _ _ rfl rfl, (State.settleReverse_only _).fields.rd_off _ _ _ (by simp +decide)]
    exact u.store_paceCtrl_mode data.toNat
  · rw [(State.settleSlow_quiet _).untouched.rd_off _ _ _ (by simp +decide),
      (State.settlePerm_quiet _).untouched.rd_off _ _ _ (by simp +decide), State.setPage_rd_state]
    omega
  · rw [OnlyFields.rest hq]
    rfl
  · exact OtherPages.of_untouched (fun k d hk => hq.untouched k d hk) modeFields_within

theorem paceModeWrite_refuses {s : State} {req : Req} {data : Word} (ho : s.open_ req .pace = true)
    (hj : s.judge .pace 0x40 data.toNat = none) (hr : s.rd .pace PACE.RATIO_DEN < s.rd .pace PACE.RATIO_NUM)
    (hm : data.toNat % 4 = 1 ∨ data.toNat % 4 = 2) :
    ∃ t, exec (.paceModeWrite req data) s = .next t ∧ t.errorShown .pace = s.errorAfter .pace 0x23 ∧
      OnlyFields (errorFields .pace) { s with reply := .posted req.code } t := by
  refine ⟨({ s with reply := .posted req.code } : State).errOpen .pace 0x23, ?_,
    State.errOpen_errorShown _ _ _ (by decide), OnlyFields.errOpen _ _ (OnlyFields.refl _ _) fun _ h => h⟩
  show Host.Outcome.next (s.gate req .pace 0x40 fun s => s.paceCtrlWrite req data.toNat) = _
  rw [State.gate_open ho]
  exact congrArg _ (State.paceCtrlWrite_refuses (s := { s with reply := .posted req.code }) req hj hr hm)

/-! ### `LST.START` -/

theorem exec_lstStart {s : State} {req : Req} (id : Word) (h : s.ready req .lst = true) :
    exec (.lstStart req id) s = .next (({ s with reply := .posted req.code } : State).lstStartWrite id.toNat) := by
  show Host.Outcome.next (s.command req .lst 0x48 fun s => s.lstStartWrite id.toNat) = _
  rw [State.command_ready h]

theorem lstStart_goes {s : State} {req : Req} {id : Word} {q : PageSt} (h : s.ready req .lst = true)
    (hn : s.nextPage = some q) (hi : q.desc.id = id.toNat) (hm : q.desc.mode = 3) (hc : q.cancel = false) :
    exec (.lstStart req id) s = .next { s with
      reply := .posted req.code
      intake := { s.intake with pages := s.intake.pages.map fun p => if p.ord = q.ord then { p with go := true } else p } } := by
  have hn' : ({ s with reply := .posted req.code } : State).nextPage = some q := hn
  rw [exec_lstStart id h]
  unfold State.lstStartWrite State.pageGo
  rw [hn']
  dsimp only
  rw [if_pos (by simp [hi, hm]), if_pos (by simp [hm, hc])]
  rfl

theorem lstStart_refuses {s : State} {req : Req} {id : Word} (h : s.ready req .lst = true)
    (hq : ∀ q, s.nextPage = some q → q.desc.id ≠ id.toNat ∨ q.desc.mode ≠ 3) :
    ∃ t, exec (.lstStart req id) s = .next t ∧ t.errorShown .lst = s.errorAfter .lst 0x29 ∧
      OnlyFields (errorFields .lst) { s with reply := .posted req.code } t := by
  refine ⟨({ s with reply := .posted req.code } : State).errOpen .lst 0x29, ?_,
    State.errOpen_errorShown _ _ _ (by decide), OnlyFields.errOpen _ _ (OnlyFields.refl _ _) fun _ h => h⟩
  have hn : ({ s with reply := .posted req.code } : State).nextPage = s.nextPage := rfl
  rw [exec_lstStart id h]
  unfold State.lstStartWrite
  rw [hn]
  cases hs : s.nextPage with
  | none => rfl
  | some q =>
    dsimp only
    rw [if_neg]
    simp only [Bool.and_eq_true, decide_eq_true_eq]
    rintro ⟨hi, hm⟩
    exact (hq q hs).elim (fun hh => hh hi) fun hh => hh hm

/-! ### The start of the next page -/

theorem State.modPage_pageActive (s : State) (ord : Nat) (f : PageSt → PageSt) (hf : ∀ p, (f p).phase = p.phase) :
    (s.modPage ord f).pageActive = s.pageActive := by
  unfold State.pageActive State.modPage
  rw [List.any_map]
  congr 1
  funext p
  dsimp only [Function.comp]
  split
  · rw [hf]
  · rfl

/-- The line on which the next page is to start is fixed. -/
def State.fixStart (s : State) (q : PageSt) (x : Nat) : State := s.modPage q.ord fun p => { p with startAt := some x }

theorem State.tryStart_some {s : State} {q : PageSt} {x : Nat} (hn : s.nextPage = some q) (hx : s.startLine q = some x) :
    s.tryStart =
      (let t := s.fixStart q x
      if t.rd .pace PACE.WL < x then t
      else if !t.pageReady q then
        if t.on .lst LST.CTRL_LATE_REJECT then t.pageReject q 0x26
        else if q.moved then t
        else ((t.bump .lst LST.WAIT_CNT).raise .lst 13).modPage q.ord fun p => { p with moved := true }
      else
        match t.startRejects q with
        | some nn => t.pageReject q nn
        | none => t.pageStart q) := by
  unfold State.tryStart
  rw [hn]
  dsimp only
  rw [hx]
  rfl

theorem tryStart_waits {s : State} {q : PageSt} {x : Nat} (hn : s.nextPage = some q) (hx : s.startLine q = some x)
    (hw : x ≤ s.rd .pace PACE.WL) (hr : s.pageReady q = false) (hl : s.on .lst LST.CTRL_LATE_REJECT = false)
    (hm : q.moved = false) :
    (s.tryStart).rd .lst LST.WAIT_CNT = min (s.rd .lst LST.WAIT_CNT + 1) (2 ^ 32 - 1) ∧
      (s.tryStart).event .lst 13 = true ∧ (s.tryStart).pageActive = s.pageActive ∧ (s.tryStart).lanes = s.lanes := by
  let t := s.fixStart q x
  have ht : s.tryStart = ((t.bump .lst LST.WAIT_CNT).raise .lst 13).modPage q.ord fun p => { p with moved := true } := by
    rw [State.tryStart_some hn hx]
    dsimp only
    rw [if_neg (show ¬ t.rd .pace PACE.WL < x from Nat.not_lt.2 hw), if_pos (show (!t.pageReady q) = true by rw [show t.pageReady q = false from hr]; rfl),
      if_neg (show ¬ t.on .lst LST.CTRL_LATE_REJECT = true by rw [show t.on .lst LST.CTRL_LATE_REJECT = false from hl]; simp),
      if_neg (by simp [hm])]
  have ha : ((t.bump .lst LST.WAIT_CNT).raise .lst 13).pageActive = t.pageActive := by
    unfold State.pageActive
    simp
  rw [ht]
  refine ⟨?_, ?_, ?_, ?_⟩
  · show ((t.bump .lst LST.WAIT_CNT).raise .lst 13).rd .lst LST.WAIT_CNT = _
    rw [State.raise_rd_apart _ _ _ _ rfl, State.bump_rd_same]
    rfl
  · exact State.raise_event_same _ _ _ (by decide)
  · rw [State.modPage_pageActive _ _ (fun p => { p with moved := true }) fun _ => rfl, ha]
    exact State.modPage_pageActive _ _ (fun p => { p with startAt := some x }) fun _ => rfl
  · show ((t.bump .lst LST.WAIT_CNT).raise .lst 13).lanes = _
    simp [t, State.fixStart, State.modPage]

theorem tryStart_early {s : State} {q : PageSt} {x : Nat} (hn : s.nextPage = some q) (hx : s.startLine q = some x)
    (hw : s.rd .pace PACE.WL < x) : (s.tryStart).regs = s.regs ∧ (s.tryStart).lanes = s.lanes := by
  rw [State.tryStart_some hn hx]
  dsimp only
  rw [if_pos (show (s.fixStart q x).rd .pace PACE.WL < x from hw)]
  exact ⟨rfl, rfl⟩

/-! ### The words of a line -/

theorem word_outside (d : DealIn) (w : Nat) {x : Nat} (h : x < d.x0 ∨ d.x0 + d.width * d.desc.rep d.plane ≤ x) :
    d.word w x = if d.desc.pre d.plane then 0xC000 else 0x8000 := by
  unfold DealIn.word
  dsimp only
  rw [if_pos]
  simp only [Bool.or_eq_true, decide_eq_true_eq]
  omega

theorem word_prescreened (d : DealIn) (w : Nat) {x : Nat} (hp : d.desc.pre d.plane = true) (h0 : d.x0 ≤ x)
    (h1 : x < d.x0 + d.width) : 0x4000 ≤ d.word w x ∧ d.word w x < 0x4008 := by
  have hrep : d.desc.rep d.plane = 1 := by rw [PageDesc.rep, if_pos hp]
  have h : d.word w x = d.value w ((x - d.x0) / 1) % 8 + 0x4000 := by
    unfold DealIn.word
    rw [hrep, hp]
    dsimp only
    rw [if_neg, if_pos rfl]
    simp only [Bool.or_eq_true, decide_eq_true_eq]
    omega
  rw [h]
  omega

end Sys2Proof.Machine

namespace Sys2Proof

open Machine

/-- Settles O2: the line tick from its frame and the values of its figures, the write of MODE from the frame of the fields it
stores and of those it settles, and the page's start by the cases of its start line. -/
theorem lineTicksAndPageStarts : Obligations.LineTicksAndPageStarts := by
  unfold Obligations.LineTicksAndPageStarts
  refine ⟨?_, ?_, ?_, ?_, ?_, ?_, ?_, ?_, ?_, ?_, ?_⟩
  · exact fun s hu ht hc hp hd => lineTick_idleLanes hu ht hc hp hd
  · exact fun s h => lineTick_idle h
  · exact fun s l d hu ht hc hp hd hw hm => lineTick_firingInstant hu ht hc hp hd hw hm
  · exact fun s req data ho hj hr => paceModeWrite_stores ho hj hr
  · exact fun s req data ho hj hr hm => paceModeWrite_refuses ho hj hr hm
  · exact fun s req id q h hn hi hm hc => lstStart_goes h hn hi hm hc
  · exact fun s req id h hq => lstStart_refuses h hq
  · exact fun s q x hn hx hw hr hl hm => tryStart_waits hn hx hw hr hl hm
  · exact fun s q x hn hx hw => tryStart_early hn hx hw
  · exact fun d w x h => word_outside d w h
  · exact fun d w x hp h0 h1 => word_prescreened d w hp h0 h1

end Sys2Proof
end

section
/-! PROOFS. A lane's change of state (R264): its pages' reports, the calibration runs it ends (R380) and the device state
that follows (R63), as one frame for all that lanes do. -/

namespace Sys2Proof.Machine

open Reg

/-! ### The device's state -/

/-- The fields in which a change of the device's state shows (R63). -/
def devFields : List FieldAt := [(.pwr, HDR.PG_EVT_RAW, 0), (.sys, HDR.PG_EVT_RAW, 0)]

theorem State.setDev_only (s : State) (d : DevState) :
    OnlyFields devFields { s with power := { s.power with dev := d } } (s.setDev d) := by
  unfold State.setDev
  split
  · rename_i h
    rw [show ({ s with power := { s.power with dev := d } } : State) = s by rw [← h]]
    exact OnlyFields.refl _ _
  · exact OnlyFields.raise _ _ (OnlyFields.raise _ _ (OnlyFields.refl _ _) (by simp [devFields])) (by simp [devFields])

theorem State.setDev_events (s : State) (d : DevState) : KeepsEvents s (s.setDev d) :=
  KeepsEvents.ite (KeepsEvents.refl s) ((((KeepsEvents.refl s).of_regs rfl).raise _ _).raise _ _)

theorem State.setDev_event {s : State} {d : DevState} (h : s.power.dev ≠ d) :
    (s.setDev d).event .pwr 6 = true ∧ (s.setDev d).event .sys 6 = true := by
  unfold State.setDev
  rw [if_neg h]
  exact ⟨State.raise_event_of _ _ _ _ _ (State.raise_event_same _ _ _ (by decide)) (by decide),
    State.raise_event_same _ _ _ (by decide)⟩

theorem State.setDev_dev (s : State) (d : DevState) : (s.setDev d).power.dev = d := by rw [(s.setDev_only d).rest]

theorem State.settlePrint_only (s : State) :
    OnlyFields devFields { s with power := { s.power with dev := s.settlePrint.power.dev } } s.settlePrint := by
  have hd (d : DevState) : OnlyFields devFields { s with power := { s.power with dev := (s.setDev d).power.dev } } (s.setDev d) := by
    rw [State.setDev_dev]
    exact s.setDev_only d
  unfold State.settlePrint
  split
  · split
    · exact hd _
    · exact OnlyFields.refl _ _
  · split
    · exact hd _
    · exact OnlyFields.refl _ _
  · exact OnlyFields.refl _ _

theorem State.settlePrint_events (s : State) : KeepsEvents s s.settlePrint := by
  unfold State.settlePrint
  split
  · exact KeepsEvents.ite (s.setDev_events _) (KeepsEvents.refl s)
  · exact KeepsEvents.ite (s.setDev_events _) (KeepsEvents.refl s)
  · exact KeepsEvents.refl s

/-! ### Calibration runs that end -/

/-- The fields of a page in which an aborted run of one of its items shows (R380). -/
def calPageFields (p : Page) : List FieldAt :=
  [(p, HDR.PG_STAT_STALE, 0), (p, ITEM.FAIL_ABORT 1, 0), (p, ITEM.FAIL_ABORT 3, 0), (p, ITEM.FAIL_ABORT 4, 0),
    (p, ITEM.FAIL_ABORT 5, 0)]

/-- The fields in which aborted runs of the items of some pages show. -/
def calFields (ps : List Page) : List FieldAt := (.cal, CAL.ABORT_CNT, 0) :: ps.flatMap calPageFields

theorem failAbort_mem (p : Page) (item : Nat) : (p, ITEM.FAIL_ABORT item, 0) ∈ calPageFields p := by
  unfold ITEM.FAIL_ABORT ITEM.at_ ITEM.blk
  split <;> [skip; (split <;> [skip; split])] <;>
    simp [calPageFields, ITEM.FAIL_ABORT, ITEM.at_, ITEM.blk]

/-- The pages of the runs that meet `f` are among `ps`. -/
def CalRun.onPages (f : CalRun → Bool) (ps : List Page) : Prop :=
  ∀ r p, f r = true → calPage r.item r.inst = some p → p ∈ ps

theorem calFields_mem {ps : List Page} {p : Page} (hp : p ∈ ps) {x : FieldAt} (hx : x ∈ calPageFields p) : x ∈ calFields ps :=
  List.mem_cons_of_mem _ (List.mem_flatMap.2 ⟨p, hp, hx⟩)

theorem State.calAbort_only (s : State) {f : CalRun → Bool} {ps : List Page} (h : CalRun.onPages f ps) :
    OnlyFields (calFields ps) { s with cal := (s.calAbort f).cal } (s.calAbort f) := by
  have hstep (r : CalRun) (hr : f r = true) (u : State) : OnlyFields (calFields ps) u
      (let t := (u.bump .cal CAL.ABORT_CNT).calLet r.item r.inst
       match calPage r.item r.inst with
       | some p => t.bump p (ITEM.FAIL_ABORT r.item)
       | none => t) := by
    have h0 : OnlyFields (calFields ps) u (u.bump .cal CAL.ABORT_CNT) :=
      OnlyFields.bump _ _ _ _ (OnlyFields.refl _ _) (by simp [calFields])
    unfold State.calLet
    cases hp : calPage r.item r.inst with
    | none => exact h0
    | some p =>
      have hm := h r p hr hp
      exact OnlyFields.bump _ _ _ _ (OnlyFields.wr _ _ _ _ h0 (calFields_mem hm (by simp [calPageFields])))
        (calFields_mem hm (failAbort_mem p r.item))
  have hall (l : List CalRun) (hl : ∀ r ∈ l, f r = true) (u : State) : OnlyFields (calFields ps) u
      (u.each l fun t r =>
        let t := (t.bump .cal CAL.ABORT_CNT).calLet r.item r.inst
        match calPage r.item r.inst with
        | some p => t.bump p (ITEM.FAIL_ABORT r.item)
        | none => t) := by
    induction l generalizing u with
    | nil => exact OnlyFields.refl _ _
    | cons r l ih =>
      exact (hstep r (hl r (List.mem_cons_self ..)) u).trans (ih (fun x hx => hl x (List.mem_cons_of_mem _ hx)) _)
  have hx := hall (s.cal.runs.filter f) (fun r hr => (List.mem_filter.1 hr).2)
    { s with cal := { s.cal with
        runs := s.cal.runs.filter fun r => !f r
        ok := s.cal.ok.filter fun e => !((s.cal.runs.filter f).any fun r => r.goal.isSome && (r.item, r.inst) == e) } }
  have hc : (s.calAbort f).cal = { s.cal with
      runs := s.cal.runs.filter fun r => !f r
      ok := s.cal.ok.filter fun e => !((s.cal.runs.filter f).any fun r => r.goal.isSome && (r.item, r.inst) == e) } := by
    have := congrArg State.cal hx.rest
    exact this
  rw [hc]
  exact hx

theorem State.calAbort_events (s : State) (f : CalRun → Bool) : KeepsEvents s (s.calAbort f) := by
  have hi (item : Nat) : Row.apart (ITEM.FAIL_ABORT item) 0 HDR.PG_EVT_RAW 0 = true := by
    unfold ITEM.FAIL_ABORT ITEM.at_ ITEM.blk
    split <;> [skip; (split <;> [skip; split])] <;> rfl
  unfold State.calAbort
  refine KeepsEvents.each _ _ ((KeepsEvents.refl s).of_regs rfl) fun u r hu => ?_
  have h0 := hu.bump .cal CAL.ABORT_CNT 1 0 rfl
  dsimp only
  unfold State.calLet
  cases calPage r.item r.inst with
  | none => exact h0
  | some p => exact (h0.wr p HDR.PG_STAT_STALE 0 0 rfl).bump p _ 1 0 (hi r.item)

theorem CalRun.onLane_pages (l : Lane) (g : CalRun → Bool) : CalRun.onPages (fun r => r.onLane l && g r) [.seq l, .vnl l] := by
  intro r p hr hp
  simp only [CalRun.onLane, Bool.and_eq_true, decide_eq_true_eq, beq_iff_eq] at hr
  obtain ⟨⟨hi, hl⟩, -⟩ := hr
  unfold calPage at hp
  rw [hl] at hp
  simp only [l.isLt, dite_true] at hp
  split at hp
  · simp_all
  · split at hp
    · simp_all
    · rw [if_neg (by omega), if_neg (by omega)] at hp
      cases hp

theorem CalRun.onPages_congr {f g : CalRun → Bool} (h : f = g) {ps : List Page} (hf : CalRun.onPages g ps) :
    CalRun.onPages f ps := h ▸ hf

theorem CalRun.onLane_only (l : Lane) : CalRun.onPages (fun r => r.onLane l) [.seq l, .vnl l] :=
  CalRun.onPages_congr (by simp) (CalRun.onLane_pages l fun _ => true)

end Sys2Proof.Machine
end

section
/-! PROOFS. A lane's change of state as one frame: the fields it may change, the lanes it leaves, and the parts of the state
beside them (R264, R63, R380). -/

namespace Sys2Proof.Machine

open Reg

/-- From s to t only the fields listed change, the lanes listed, the calibration runs and the device's state. -/
structure LaneStep (fs : List FieldAt) (ls : List Lane) (s t : State) : Prop where
  fields : Untouched fs s t
  lanes : OtherLanes ls s t
  events : KeepsEvents s t
  rest : t = { s with
    regs := t.regs, free := t.free, lanes := t.lanes, cal := t.cal, power := { s.power with dev := t.power.dev } }

theorem LaneStep.refl (fs : List FieldAt) (ls : List Lane) (s : State) : LaneStep fs ls s s :=
  ⟨fun _ _ _ => rfl, fun _ _ => rfl, KeepsEvents.refl s, rfl⟩

theorem LaneStep.trans {fs : List FieldAt} {ls : List Lane} {s t u : State} (h : LaneStep fs ls s t) (k : LaneStep fs ls t u) :
    LaneStep fs ls s u := by
  refine ⟨h.fields.trans k.fields, fun l hl => (k.lanes l hl).trans (h.lanes l hl), h.events.trans k.events, ?_⟩
  rw [k.rest, h.rest]

theorem LaneStep.mono {fs gs : List FieldAt} {ls ks : List Lane} {s t : State} (h : LaneStep fs ls s t)
    (hf : ∀ f ∈ fs, f ∈ gs) (hl : ∀ l ∈ ls, l ∈ ks) : LaneStep gs ks s t :=
  ⟨h.fields.mono hf, fun l hn => h.lanes l fun hm => hn (hl l hm), h.events, h.rest⟩

theorem LaneStep.of_only {fs : List FieldAt} (ls : List Lane) {s t : State} (h : OnlyFields fs s t) (he : KeepsEvents s t) :
    LaneStep fs ls s t := by
  refine ⟨h.fields, fun l _ => ?_, he, ?_⟩ <;> rw [h.rest]

theorem LaneStep.modLane (fs : List FieldAt) (s : State) (l : Lane) (f : LaneHw → LaneHw) :
    LaneStep fs [l] s (s.modLane l f) :=
  ⟨fun _ _ _ => rfl, fun _ hk => State.modLane_ne s f fun h => hk (List.mem_singleton.2 h.symm),
    (KeepsEvents.refl s).of_regs rfl, rfl⟩

theorem LaneStep.calAbort (ls : List Lane) (s : State) {f : CalRun → Bool} {ps : List Page} (h : CalRun.onPages f ps) :
    LaneStep (calFields ps) ls s (s.calAbort f) := by
  have ho := s.calAbort_only h
  refine ⟨fun k d hk => ho.fields k d hk, fun _ _ => ?_, s.calAbort_events f, ?_⟩ <;> rw [ho.rest]

theorem LaneStep.settlePrint (ls : List Lane) (s : State) : LaneStep devFields ls s s.settlePrint := by
  have ho := s.settlePrint_only
  refine ⟨fun k d hk => ho.fields k d hk, fun l _ => ?_, s.settlePrint_events, ?_⟩
  · rw [ho.rest]
  · rw [ho.rest]

/-- The fields that a lane's change of state may change. -/
def setLaneFields (l : Lane) : List FieldAt :=
  devFields ++ calFields [.seq l, .vnl l] ++ (lanePages l).flatMap fun p => [(p, HDR.PG_EVT_RAW, 0), (p, HDR.PG_STAT_FAULT, 0)]

theorem State.calLeave_step (ls : List Lane) (s : State) (l : Lane) (st : LaneState) :
    LaneStep (calFields [.seq l, .vnl l]) ls s (s.calLeave l st) := by
  have h := LaneStep.calAbort ls s (CalRun.onLane_only l)
  unfold State.calLeave
  split
  · exact h
  · exact h
  · exact h
  · exact h
  · exact LaneStep.refl _ _ _

/-- A lane's pages raise STATE, and show FAULT. -/
def State.lanesReport (s : State) (l : Lane) (fault : Bool) : State :=
  s.each (lanePages l) fun t p => (t.raise p 6).setFault p fault

theorem State.lanesReport_only (s : State) (l : Lane) (b : Bool) : OnlyFields (setLaneFields l) s (s.lanesReport l b) := by
  have h (u v : State) (p : Page) (hp : p ∈ lanePages l) (hv : OnlyFields (setLaneFields l) u v) :
      OnlyFields (setLaneFields l) u ((v.raise p 6).setFault p b) := by
    have hm (r : Row) (hr : r = HDR.PG_EVT_RAW ∨ r = HDR.PG_STAT_FAULT) : (p, r, 0) ∈ setLaneFields l :=
      List.mem_append_right _ (List.mem_flatMap.2 ⟨p, hp, by rcases hr with rfl | rfl <;> simp⟩)
    exact OnlyFields.when _ _ (OnlyFields.flag _ _ _ _ (OnlyFields.raise _ _ hv (hm _ (Or.inl rfl))) (hm _ (Or.inr rfl)))
      fun _ hu => OnlyFields.raise _ _ hu (hm _ (Or.inl rfl))
  exact h _ _ (.vnl l) (by simp [lanePages]) (h _ _ (.wav l) (by simp [lanePages])
    (h _ _ (.seq l) (by simp [lanePages]) (h _ _ (.lne l) (by simp [lanePages]) (OnlyFields.refl _ _))))

theorem State.lanesReport_events (s : State) (l : Lane) (b : Bool) : KeepsEvents s (s.lanesReport l b) :=
  (KeepsEvents.refl s).each _ _ fun _ _ hu => (hu.raise _ _).setFault _ _

theorem State.setLane_eq {s : State} {l : Lane} {st : LaneState} (h : s.lanes[l].st ≠ st) :
    s.setLane l st =
      (((s.modLane l fun h => { h with st }).calLeave l st).lanesReport l (st == .fault)).settlePrint := by
  unfold State.setLane
  rw [if_neg h]
  rfl

theorem State.setLane_same {s : State} {l : Lane} {st : LaneState} (h : s.lanes[l].st = st) : s.setLane l st = s := by
  unfold State.setLane
  rw [if_pos h]

theorem State.setLane_step (s : State) (l : Lane) (st : LaneState) : LaneStep (setLaneFields l) [l] s (s.setLane l st) := by
  by_cases h : s.lanes[l].st = st
  · rw [State.setLane_same h]
    exact LaneStep.refl _ _ _
  · rw [State.setLane_eq h]
    exact ((LaneStep.modLane _ s l _).trans ((State.calLeave_step _ _ l st).mono (by simp +contextual [setLaneFields])
      fun _ h => h)).trans ((LaneStep.of_only _ (State.lanesReport_only _ l _) (State.lanesReport_events _ l _)).trans
        ((LaneStep.settlePrint _ _).mono (by simp +contextual [setLaneFields]) fun _ h => h))

/-- A lane's change of state changes nothing of what the lane holds but its state. -/
theorem State.setLane_lane (s : State) (l : Lane) (st : LaneState) : (s.setLane l st).lanes[l] = { s.lanes[l] with st } := by
  by_cases h : s.lanes[l].st = st
  · rw [State.setLane_same h, ← h]
  · rw [State.setLane_eq h, (LaneStep.settlePrint [] _).lanes l (by simp),
      (LaneStep.of_only [] (State.lanesReport_only _ l _) (State.lanesReport_events _ l _)).lanes l (by simp),
      (State.calLeave_step [] _ l st).lanes l (by simp), State.modLane_same]

theorem State.setLane_st (s : State) (l : Lane) (st : LaneState) : (s.setLane l st).lanes[l].st = st := by
  rw [State.setLane_lane]

/-- A lane that leaves FAULT shows it (R52). -/
theorem State.setLane_fault {s : State} {l : Lane} {st : LaneState} (h : s.lanes[l].st ≠ st) (hs : st ≠ .fault) :
    (s.setLane l st).on (.seq l) HDR.PG_STAT_FAULT = false := by
  have hb : (st == LaneState.fault) = false := by simpa using hs
  rw [State.setLane_eq h, State.on, (LaneStep.settlePrint [] _).fields.rd_off _ _ _ (by simp +decide), hb]
  unfold State.lanesReport lanePages
  simp +decide [State.each]

end Sys2Proof.Machine
end

section
/-! PROOFS. Losses of a head link, retraining and clearing a lane (R29, R264, R314, R316, R318). -/

namespace Sys2Proof.Machine

open Reg

/-! ### A scan that ends -/

/-- The fields in which an aborted scan shows (R235). -/
def awlFields (l : Lane) : List FieldAt :=
  [(.lne l, LNE.AWL_STAT_STATE, 0), (.lne l, LNE.AWL_ABORT, 0), (.lne l, HDR.PG_STAT_BUSY, 0)] ++ errorFields (.lne l)

theorem State.awlFull_congr {s t : State} {l : Lane} (hr : t.rd (.lne l) LNE.AWL_STAT_STATE = s.rd (.lne l) LNE.AWL_STAT_STATE)
    (hf : t.lanes[l].awl.full = s.lanes[l].awl.full) (hd : t.dclk = s.dclk) : t.awlFull l = s.awlFull l := by
  unfold State.awlFull
  rw [hr, hf, hd]

/-- The registers that tell of an aborted scan. -/
def State.scanTold (s : State) (l : Lane) (link : Bool) : State :=
  (((((s.wr (.lne l) LNE.AWL_STAT_STATE 5).bump (.lne l) LNE.AWL_ABORT).wr (.lne l) HDR.PG_STAT_BUSY 0).raise (.lne l)
    13).when link fun t => t.errOpen (.lne l) 0x33)

theorem State.scanTold_only (s : State) (l : Lane) (link : Bool) : OnlyFields (awlFields l) s (s.scanTold l link) :=
  OnlyFields.when _ _ (OnlyFields.raise _ _ (OnlyFields.wr _ _ _ _ (OnlyFields.bump _ _ _ _ (OnlyFields.wr _ _ _ _
    (OnlyFields.refl _ _) (by simp [awlFields])) (by simp [awlFields])) (by simp [awlFields]))
    (by simp [awlFields, errorFields])) fun _ hu => OnlyFields.errOpen _ _ hu fun _ hf => List.mem_append_right _ hf

theorem State.scanTold_events (s : State) (l : Lane) (link : Bool) : KeepsEvents s (s.scanTold l link) :=
  (((((KeepsEvents.refl s).wr _ _ _ _ rfl).bump _ _ _ _ rfl).wr _ _ _ _ rfl).raise _ _).when _ _ fun _ hu => hu.errOpen _ _

theorem State.awlAborted_eq (s : State) (l : Lane) (link : Bool) :
    s.awlAborted l link = if s.rd (.lne l) LNE.AWL_STAT_STATE = 1 && !s.awlFull l then
      (s.modLane l fun h => { h with awl := { h.awl with codes := [], start := none, full := none } }).scanTold l link
    else s := rfl

theorem State.awlAborted_step (s : State) (l : Lane) (link : Bool) : LaneStep (awlFields l) [l] s (s.awlAborted l link) := by
  rw [State.awlAborted_eq]
  split
  · exact (LaneStep.modLane _ s l _).trans (LaneStep.of_only _ (State.scanTold_only _ _ _) (State.scanTold_events _ _ _))
  · exact LaneStep.refl _ _ _

/-! ### The link's state -/

/-- The fields that a change of the link's state may change (R311, R380). -/
def lsFields (l : Lane) : List FieldAt := (.vnl l, VNL.STAT_LSTATE, 0) :: calFields [.seq l, .vnl l]

theorem lsFields_off (l : Lane) {r : Row} {i : Nat} (h : FieldAt.off (lsFields 0) r i = true) :
    FieldAt.off (lsFields l) r i = true := h

theorem State.setLs_step (s : State) (l : Lane) (v : Nat) :
    LaneStep (lsFields l) [l] s (s.setLs l v) := by
  have h0 : LaneStep (lsFields l) [l] s
      (if v = lsUp then s else s.calAbort fun r => r.onLane l && r.item != 1) := by
    split
    · exact LaneStep.refl _ _ _
    · exact (LaneStep.calAbort _ s (CalRun.onLane_pages l fun r => r.item != 1)).mono
        (fun _ hf => List.mem_cons_of_mem _ hf) fun _ h => h
  unfold State.setLs
  refine (h0.trans (LaneStep.modLane _ _ l _)).trans (LaneStep.of_only _ (OnlyFields.wr _ _ _ _ (OnlyFields.refl _ _)
    (by simp [lsFields])) ((KeepsEvents.refl _).wr _ _ _ _ rfl))

theorem State.setLs_ls (s : State) (l : Lane) {v : Nat} (h : v < 8) : (s.setLs l v).ls l = v := by
  unfold State.setLs State.ls
  rw [State.wr_rd_same]
  exact Nat.mod_eq_of_lt h

theorem State.setLs_lane (s : State) (l : Lane) (v : Nat) :
    (s.setLs l v).lanes[l].st = s.lanes[l].st ∧ (s.setLs l v).lanes[l].awl = s.lanes[l].awl := by
  have h0 : (if v = lsUp then s else s.calAbort fun r => r.onLane l && r.item != 1).lanes[l] = s.lanes[l] := by
    split
    · rfl
    · exact (LaneStep.calAbort [] s (CalRun.onLane_pages l fun r => r.item != 1)).lanes l (by simp)
  unfold State.setLs
  rw [State.wr_lanes, State.modLane_same, h0]
  exact ⟨rfl, rfl⟩

/-! ### A lane whose link is gone -/

/-- The fields that a lane without a link may change beside TEMP_VALID. -/
def unlinkFields (l : Lane) : List FieldAt := setLaneFields l ++ awlFields l

theorem unlinkFields_off (l : Lane) {r : Row} {i : Nat} (h : FieldAt.off (unlinkFields 0) r i = true) :
    FieldAt.off (unlinkFields l) r i = true := h

/-- What a lane whose link is gone does, once its temperature no longer counts (R29). -/
def State.unlinkRest (s : State) (l : Lane) : State :=
  if s.awlFull l then s.modLane l fun (h : LaneHw) => { h with awl := { h.awl with after := some .link } }
  else
    let s := s.awlAborted l true
    let s := s.modLane l fun (h : LaneHw) => { h with outCause := if h.page.isSome then some (4, 0) else h.outCause }
    (s.setLane l .link).boundStart l

/-- A lane in one of these states has no link to lose. -/
def LaneState.unlinked : LaneState → Bool
  | .off => true
  | .link => true
  | .test => true
  | .fault => true
  | _ => false

theorem State.laneUnlinked_eq (s : State) (l : Lane) :
    s.laneUnlinked l = if s.lanes[l].st.unlinked then s.wr (.seq l) SEQ.TEMP_VALID 0
      else (s.wr (.seq l) SEQ.TEMP_VALID 0).unlinkRest l := by
  unfold State.laneUnlinked State.unlinkRest
  dsimp only
  rw [State.wr_lanes]
  cases s.lanes[l].st <;> rfl

theorem State.unlinkRest_step (s : State) (l : Lane) : LaneStep (unlinkFields l) [l] s (s.unlinkRest l) := by
  unfold State.unlinkRest
  split
  · exact LaneStep.modLane _ s l _
  · exact ((((State.awlAborted_step s l true).mono (by simp +contextual [unlinkFields]) fun _ h => h).trans
      (LaneStep.modLane _ _ l _)).trans ((State.setLane_step _ l .link).mono (by simp +contextual [unlinkFields])
        fun _ h => h)).trans (LaneStep.modLane _ _ l _)

theorem State.laneUnlinked_step (s : State) (l : Lane) :
    LaneStep (unlinkFields l) [l] (s.wr (.seq l) SEQ.TEMP_VALID 0) (s.laneUnlinked l) := by
  rw [State.laneUnlinked_eq]
  split
  · exact LaneStep.refl _ _ _
  · exact State.unlinkRest_step _ l

theorem State.laneUnlinked_temp (s : State) (l : Lane) : (s.laneUnlinked l).on (.seq l) SEQ.TEMP_VALID = false := by
  rw [State.on, (s.laneUnlinked_step l).fields.rd_off _ _ _ (unlinkFields_off l (by decide)), State.wr_rd_same]
  rfl

theorem State.unlinkRest_link {s : State} {l : Lane} (h : s.awlFull l = false) : (s.unlinkRest l).lanes[l].st = .link := by
  unfold State.unlinkRest
  rw [if_neg (by simp [h])]
  dsimp only
  unfold State.boundStart
  rw [State.modLane_same]
  exact State.setLane_st _ _ _

theorem State.laneUnlinked_link {s : State} {l : Lane} (hf : s.awlFull l = false) (hs : s.lanes[l].st.unlinked = false) :
    (s.laneUnlinked l).lanes[l].st = .link := by
  rw [State.laneUnlinked_eq, if_neg (by rw [hs]; simp)]
  exact State.unlinkRest_link ((State.awlFull_congr (by simp +decide) (by simp) (by simp)).trans hf)

/-! ### The link leaves UP -/

/-- The fields that the loss of a link may change (R314). -/
def dropFields (l : Lane) : List FieldAt :=
  (.vnl l, VNL.STAT_LSTATE, 0) :: (.seq l, SEQ.TEMP_VALID, 0) :: unlinkFields l

/-- The link is in FAST, the identity kept. -/
def State.dropped (s : State) (l : Lane) : State :=
  ((s.noFrames l).modLane l fun (h : LaneHw) => { h with
    identity := (s.rd (.vnl l) VNL.IDENT1_VENDOR, s.rd (.vnl l) VNL.IDENT1_MODEL, s.rd (.vnl l) VNL.SERIAL,
      s.rd (.vnl l) VNL.IDENT0_N)
    crcRun := 0 }).setLs l lsFast

theorem State.linkDrop_eq (s : State) (l : Lane) : s.linkDrop l = ((s.dropped l).laneUnlinked l).boundStart l := rfl

theorem State.dropped_step (s : State) (l : Lane) : LaneStep (dropFields l) [l] s (s.dropped l) :=
  ((LaneStep.modLane _ s l _).trans (LaneStep.modLane _ _ l _)).trans ((State.setLs_step _ l lsFast).mono
    (by simp +contextual [dropFields, lsFields, unlinkFields, setLaneFields]) fun _ h => h)

theorem State.dropped_lane (s : State) (l : Lane) :
    (s.dropped l).lanes[l].st = s.lanes[l].st ∧ (s.dropped l).lanes[l].awl = s.lanes[l].awl := by
  unfold State.dropped State.noFrames
  obtain ⟨hst, hawl⟩ := State.setLs_lane ((s.noFrames l).modLane l fun (h : LaneHw) => { h with
    identity := (s.rd (.vnl l) VNL.IDENT1_VENDOR, s.rd (.vnl l) VNL.IDENT1_MODEL, s.rd (.vnl l) VNL.SERIAL,
      s.rd (.vnl l) VNL.IDENT0_N)
    crcRun := 0 }) l lsFast
  exact ⟨hst.trans (by simp [State.noFrames]), hawl.trans (by simp [State.noFrames])⟩

theorem State.linkDrop_step (s : State) (l : Lane) : LaneStep (dropFields l) [l] s (s.linkDrop l) := by
  rw [State.linkDrop_eq]
  have hw (u : State) : LaneStep (dropFields l) [l] u (u.wr (.seq l) SEQ.TEMP_VALID 0) :=
    LaneStep.of_only _ (OnlyFields.wr _ _ _ _ (OnlyFields.refl _ _) (by simp [dropFields]))
      ((KeepsEvents.refl _).wr _ _ _ _ rfl)
  exact ((s.dropped_step l).trans ((hw _).trans ((State.laneUnlinked_step _ l).mono (by simp +contextual [dropFields])
    fun _ h => h))).trans (LaneStep.modLane _ _ l _)

theorem State.linkDrop_ls (s : State) (l : Lane) : (s.linkDrop l).ls l = lsFast := by
  rw [State.linkDrop_eq]
  show ((s.dropped l).laneUnlinked l).ls l = _
  rw [State.ls, (State.laneUnlinked_step _ l).fields.rd_off _ _ _ (unlinkFields_off l (by decide)), State.wr_rd_apart _ _ _ _ rfl]
  exact State.setLs_ls _ l (by decide)

theorem State.linkDrop_temp (s : State) (l : Lane) : (s.linkDrop l).on (.seq l) SEQ.TEMP_VALID = false :=
  State.laneUnlinked_temp (s.dropped l) l

theorem State.linkDrop_link {s : State} {l : Lane} (hf : s.awlFull l = false) (hs : s.lanes[l].st.unlinked = false) :
    (s.linkDrop l).lanes[l].st = .link := by
  obtain ⟨hst, hawl⟩ := s.dropped_lane l
  have hfull : (s.dropped l).awlFull l = false := by
    rw [← hf]
    refine State.awlFull_congr ?_ (by rw [hawl]) (by rw [(s.dropped_step l).rest])
    exact (State.setLs_step _ l lsFast).fields.rd_off _ _ _ (lsFields_off l (by decide))
  rw [State.linkDrop_eq]
  unfold State.boundStart
  rw [State.modLane_same]
  exact State.laneUnlinked_link hfull (by rw [hst]; exact hs)

/-! ### The link is lost for a reason -/

/-- An error that a page shows no earlier one of is told with its information (R35, R43). -/
theorem State.err_info {s : State} {p : Page} (h : s.errorShown p = none) (nn info : Nat) :
    (s.err p nn info).rd p HDR.PG_ERR_INFO = info % 2 ^ 32 := by
  have hv : s.on p HDR.PG_ERR_CODE_VALID = false := by
    unfold State.errorShown at h
    by_contra hc
    rw [if_pos (by simpa using hc)] at h
    cases h
  unfold State.err
  dsimp only
  rw [if_neg (by simp [hv]), State.raise_rd_apart _ _ _ _ rfl, State.wr_rd_apart _ _ _ _ rfl, State.wr_rd_same]
  rfl

/-- What the loss of a link tells (R314). -/
def State.lossTold (s : State) (l : Lane) (reason : Nat) : State :=
  ((s.err (.vnl l) 0x23 reason).raise (.vnl l) 9).bump (.vnl l) VNL.LOSS_CNT

theorem State.linkLost_eq {s : State} {l : Lane} (h : s.ls l = lsUp) (reason : Nat) :
    s.linkLost l reason = (s.lossTold l reason).linkDrop l := by
  unfold State.linkLost
  rw [if_pos h]
  rfl

theorem State.lossTold_only (s : State) (l : Lane) (reason : Nat) :
    OnlyFields ((.vnl l, VNL.LOSS_CNT, 0) :: errorFields (.vnl l)) s (s.lossTold l reason) :=
  OnlyFields.bump _ _ _ _ (OnlyFields.raise _ _ (OnlyFields.err _ _ _ (OnlyFields.refl _ _)
    fun _ h => List.mem_cons_of_mem _ h) (by simp [errorFields])) (by simp)

theorem dropFields_off (l : Lane) {r : Row} {i : Nat} (h : FieldAt.off (dropFields 0) r i = true) :
    FieldAt.off (dropFields l) r i = true := h

/-- A field of the link's page that a lane without a link does not change is clear of all it changes. -/
theorem dropFields_clear_vnl (l : Lane) (r : Row) (hr : Row.inPage r 0 = true)
    (h : FieldAt.off ([(.vnl 0, VNL.STAT_LSTATE, 0), (.vnl 0, HDR.PG_EVT_RAW, 0), (.vnl 0, HDR.PG_STAT_FAULT, 0)] ++
      calPageFields (.vnl 0)) r 0 = true) : FieldAt.clear (dropFields l) (.vnl l) r 0 := by
  simp only [calPageFields, FieldAt.off_append, FieldAt.off_cons, FieldAt.off_nil, Bool.and_eq_true] at h
  simp +decide [dropFields, unlinkFields, setLaneFields, awlFields, errorFields, devFields, calFields, calPageFields, lanePages,
    hr, h]

theorem State.linkLost_lost {s : State} {l : Lane} {reason : Nat} (h : s.ls l = lsUp) (hf : s.awlFull l = false)
    (hr : reason < 2 ^ 32) : LinkLost s l reason (s.linkLost l reason) := by
  have hd := State.linkDrop_step (s.lossTold l reason) l
  have ho := s.lossTold_only l reason
  have hlanes : (s.lossTold l reason).lanes = s.lanes := by rw [ho.rest]
  have herr (r : Row) (hr : r = HDR.PG_ERR_CODE_CODE ∨ r = HDR.PG_ERR_CODE_VALID ∨ r = HDR.PG_ERR_INFO) :
      (s.linkLost l reason).rd (.vnl l) r = (s.lossTold l reason).rd (.vnl l) r := by
    rw [State.linkLost_eq h]
    exact hd.fields.rd_clear (dropFields_clear_vnl l r (by rcases hr with rfl | rfl | rfl <;> rfl)
      (by rcases hr with rfl | rfl | rfl <;> decide))
  constructor
  case state => rw [State.linkLost_eq h]; exact State.linkDrop_ls _ l
  case error =>
    rw [State.errorShown, State.on, herr _ (Or.inr (Or.inl rfl)), herr _ (Or.inl rfl)]
    show (s.lossTold l reason).errorShown (.vnl l) = _
    rw [State.lossTold, State.bump_errorShown_apart _ _ _ _ rfl, State.raise_errorShown,
      State.err_errorShown _ _ _ _ (by decide)]
  case info =>
    intro hn
    rw [herr _ (Or.inr (Or.inr rfl)), State.lossTold, State.bump_rd_apart _ _ _ _ rfl, State.raise_rd_apart _ _ _ _ rfl,
      State.err_info hn, Nat.mod_eq_of_lt hr]
  case event =>
    rw [State.linkLost_eq h]
    refine hd.events _ _ (by decide) ?_
    rw [State.lossTold, State.bump_event_apart _ _ _ _ _ rfl]
    exact State.raise_event_same _ _ _ (by decide)
  case count =>
    rw [State.linkLost_eq h, hd.fields.rd_off _ _ _ (dropFields_off l (by decide)), State.lossTold, State.bump_rd_same,
      State.raise_rd_apart _ _ _ _ rfl, State.err_rd_apart _ _ _ _ _ rfl]
    rfl
  case temp => rw [State.linkLost_eq h]; exact State.linkDrop_temp _ l
  case lane =>
    intro hs
    rw [State.linkLost_eq h]
    refine State.linkDrop_link ?_ ?_
    · rw [← hf]
      exact State.awlFull_congr (ho.fields.rd_off _ _ _ (by simp +decide)) (by rw [hlanes]) (by rw [ho.rest])
    · rw [hlanes]
      unfold State.laneRun at hs
      revert hs
      cases s.lanes[l].st <;> simp [LaneState.unlinked, LaneState.runs]

end Sys2Proof.Machine
end

section
/-! PROOFS. The commands and inputs by which a head link is lost, retrained and cleared (R264, R314, R316, R318). -/

namespace Sys2Proof.Machine

open Reg

theorem LinkLost.of_same {s u t : State} {l : Lane} {reason : Nat} (h : LinkLost u l reason t)
    (he : u.errorShown (.vnl l) = s.errorShown (.vnl l)) (hc : u.rd (.vnl l) VNL.LOSS_CNT = s.rd (.vnl l) VNL.LOSS_CNT)
    (hl : u.lanes[l].st = s.lanes[l].st) : LinkLost s l reason t where
  state := h.state
  error := h.error.trans (State.errorAfter_congr he _)
  info hn := h.info (he.trans hn)
  event := h.event
  count := h.count.trans (by rw [hc])
  temp := h.temp
  lane hs := h.lane (by
    unfold State.laneRun at hs ⊢
    rwa [hl])

/-- A field of the link's page that no part of a link's loss changes. -/
theorem State.linkLost_rd {s : State} {l : Lane} {reason : Nat} (h : s.ls l = lsUp) {r : Row}
    (hr : FieldAt.off ((.vnl 0, VNL.LOSS_CNT, 0) :: errorFields (.vnl 0)) r 0 = true)
    (hd : FieldAt.off (dropFields 0) r 0 = true) :
    (s.linkLost l reason).rd (.vnl l) r = s.rd (.vnl l) r := by
  rw [State.linkLost_eq h, (State.linkDrop_step _ l).fields.rd_off _ _ _ (dropFields_off l hd)]
  exact (s.lossTold_only l reason).fields.rd_off _ _ _ hr

/-! ### Reasons of R314 and R316 -/

/-- The state in which the loss of upstream lock is told (R314). -/
def State.unlocked (s : State) (l : Lane) (n : Nat) : State :=
  ((s.bump (.vnl l) VNL.SYM_ERR n).wr (.vnl l) VNL.STAT_UP_LOCK 0).modLane l fun (h : LaneHw) =>
    { h with trial := h.trial.map fun (t : Trial) => { t with bad := true } }

theorem upstreamLockLoss_lost {s : State} {l : Lane} {n : BitVec 8} (hu : s.devUp = true) (hl : s.ls l = lsUp)
    (hf : s.awlFull l = false) :
    ∃ t, exec (.upstreamLockLoss l n) s = .next t ∧ LinkLost s l 1 t ∧ t.on (.vnl l) VNL.STAT_UP_LOCK = false ∧
      t.rd (.vnl l) VNL.SYM_ERR = min (s.rd (.vnl l) VNL.SYM_ERR + n.toNat) (2 ^ 32 - 1) := by
  have hx : exec (.upstreamLockLoss l n) s = .next ((s.unlocked l n.toNat).linkLost l 1) := by
    show execUpstreamLockLoss l n s = _
    unfold execUpstreamLockLoss
    rw [if_pos (by simp [State.hears, hu, hl, lsUp, lsDown])]
    rfl
  have hul : (s.unlocked l n.toNat).ls l = lsUp := by
    rw [← hl]
    simp +decide [State.unlocked, State.ls]
  have hfull : (s.unlocked l n.toNat).awlFull l = false := by
    rw [← hf]
    refine State.awlFull_congr ?_ ?_ ?_
    · simp +decide [State.unlocked]
    · simp [State.unlocked]
    · simp [State.unlocked]
  refine ⟨_, hx, (State.linkLost_lost hul hfull (by decide)).of_same ?_ ?_ ?_, ?_, ?_⟩
  · simp +decide [State.unlocked]
  · simp +decide [State.unlocked]
  · simp [State.unlocked]
  · rw [State.on, State.linkLost_rd hul (by decide) (by decide)]
    simp +decide [State.unlocked]
  · rw [State.linkLost_rd hul (by decide) (by decide), State.unlocked, State.modLane_rd, State.wr_rd_apart _ _ _ _ rfl,
      State.bump_rd_same]
    rfl

theorem statusTimeout_lost {s : State} {l : Lane} (hu : s.devUp = true) (hl : s.ls l = lsUp) (hf : s.awlFull l = false)
    (ht : s.lanes[l].heardAt + 500 * s.lanes[l].cfg.statTmo ≤ s.dclk) :
    ∃ t, exec (.statusTimeout l) s = .next t ∧ LinkLost s l 2 t := by
  refine ⟨_, ?_, State.linkLost_lost hl hf (by decide)⟩
  show execStatusTimeout l s = _
  unfold execStatusTimeout
  exact if_pos (by rw [hu, decide_eq_true ht]; rfl)

theorem crcLimitReached_lost {s : State} {l : Lane} (hu : s.devUp = true) (hl : s.ls l = lsUp) (hf : s.awlFull l = false)
    (hc : s.lanes[l].cfg.crcLimit ≤ s.lanes[l].crcRun) :
    ∃ t, exec (.crcLimitReached l) s = .next t ∧ LinkLost s l 5 t := by
  refine ⟨_, ?_, State.linkLost_lost hl hf (by decide)⟩
  show execCrcLimitReached l s = _
  unfold execCrcLimitReached
  exact if_pos (by rw [hu, decide_eq_true hc]; rfl)

theorem scanDataLate_lost {s : State} {l : Lane} (hu : s.devUp = true) (hl : s.ls l = lsUp)
    (ha : s.rd (.lne l) LNE.AWL_STAT_STATE = 1) (hf : s.awlFull l = false) (hs : s.scanLate l = true) :
    ∃ t, exec (.scanDataLate l) s = .next t ∧ LinkLost s l 6 t := by
  refine ⟨_, ?_, State.linkLost_lost hl hf (by decide)⟩
  show execScanDataLate l s = _
  unfold execScanDataLate
  exact if_pos (by rw [hu, ha, hs]; rfl)

/-! ### Retraining -/

theorem exec_retrain {s : State} {req : Req} {l : Lane} (h : s.ready req (.vnl l) = true) :
    exec (.retrain req l) s = .next (({ s with reply := .posted req.code } : State).retrain l) := by
  show Host.Outcome.next (s.command req (.vnl l) 0x70 fun s => s.retrain l) = _
  rw [State.command_ready h]

theorem State.retrain_drops {s : State} {l : Lane} (hl : s.ls l = lsUp) (hr : s.laneRun l = false) :
    s.retrain l = s.linkDrop l := by
  unfold State.retrain
  rw [if_neg (by rw [hr]; simp), if_pos hl]

theorem retrain_drops {s : State} {req : Req} {l : Lane} (h : s.ready req (.vnl l) = true) (hl : s.ls l = lsUp)
    (hr : s.laneRun l = false) :
    ∃ t, exec (.retrain req l) s = .next t ∧ t.ls l = lsFast ∧ t.on (.seq l) SEQ.TEMP_VALID = false ∧
      t.rd (.vnl l) VNL.LOSS_CNT = s.rd (.vnl l) VNL.LOSS_CNT := by
  refine ⟨_, (exec_retrain h).trans (congrArg _ (State.retrain_drops (s := { s with reply := .posted req.code }) hl hr)), State.linkDrop_ls _ l, State.linkDrop_temp _ l, ?_⟩
  exact (State.linkDrop_step _ l).fields.rd_off _ _ _ (dropFields_off l (by decide))

theorem retrain_refused {s : State} {req : Req} {l : Lane} (h : s.ready req (.vnl l) = true) (hr : s.laneRun l = true) :
    ∃ t, exec (.retrain req l) s = .next t ∧ t.errorShown (.vnl l) = s.errorAfter (.vnl l) 0x26 ∧
      OnlyFields (errorFields (.vnl l)) { s with reply := .posted req.code } t := by
  have hd : ({ s with reply := .posted req.code } : State).retrain l =
      ({ s with reply := .posted req.code } : State).errOpen (.vnl l) 0x26 := if_pos hr
  exact ⟨_, (exec_retrain h).trans (congrArg _ hd), State.errOpen_errorShown _ _ _ (by decide),
    OnlyFields.errOpen _ _ (OnlyFields.refl _ _) fun _ hf => hf⟩

/-! ### Clearing a lane -/

theorem exec_seqClear {s : State} {req : Req} {l : Lane} (h : s.ready req (.seq l) = true) :
    exec (.seqClear req l) s = .next (({ s with reply := .posted req.code } : State).seqClear l) := by
  show Host.Outcome.next (s.command req (.seq l) 0x5C fun s => s.seqClear l) = _
  rw [State.command_ready h]

/-- A lane whose guards are empty. -/
def State.guardsEmpty (s : State) (l : Lane) : State := s.modLane l fun (h : LaneHw) => { h with credit := [], energy := [] }

theorem State.seqClear_idle {s : State} {l : Lane} (hs : s.lanes[l].st = .fault) (hd : s.dllLock l = true)
    (hg : s.hvGood l = true) (hp : s.power.dev ≠ .fault) (hl : s.linkUp l = true) (hn : s.intake.pages = []) :
    s.seqClear l = (s.guardsEmpty l).setLane l .idle := by
  have hnp : ((s.guardsEmpty l).setLane l .idle).nextPage = none := by
    refine State.nextPage_none ?_
    rw [(State.setLane_step _ l .idle).rest]
    exact hn
  unfold State.seqClear
  rw [if_pos (by rw [hs, hd, hg]; simpa using hp)]
  exact (if_pos (show (s.guardsEmpty l).linkUp l = true from hl)).trans (State.armNext_none hnp)

theorem seqClear_idle {s : State} {req : Req} {l : Lane} (h : s.ready req (.seq l) = true) (hs : s.lanes[l].st = .fault)
    (hd : s.dllLock l = true) (hg : s.hvGood l = true) (hp : s.power.dev ≠ .fault) (hl : s.linkUp l = true)
    (hn : s.intake.pages = []) :
    ∃ t, exec (.seqClear req l) s = .next t ∧ t.lanes[l].st = .idle ∧ t.lanes[l].credit = [] ∧ t.lanes[l].energy = [] ∧
      t.on (.seq l) HDR.PG_STAT_FAULT = false ∧ OtherLanes [l] s t := by
  let u : State := { s with reply := .posted req.code }
  have hu : (u.guardsEmpty l).lanes[l] = { u.lanes[l] with credit := [], energy := [] } := State.modLane_same _ _ _
  have hst : (u.guardsEmpty l).lanes[l].st ≠ .idle := by
    rw [hu]
    show s.lanes[l].st ≠ .idle
    rw [hs]
    decide
  have hstep : LaneStep (setLaneFields l) [l] u ((u.guardsEmpty l).setLane l .idle) :=
    (LaneStep.modLane _ u l _).trans (State.setLane_step _ l .idle)
  refine ⟨_, (exec_seqClear h).trans (congrArg _ (State.seqClear_idle (s := u) hs hd hg hp hl hn)), ?_, ?_, ?_, ?_,
    hstep.lanes⟩
  · exact State.setLane_st _ _ _
  · rw [State.setLane_lane, hu]
  · rw [State.setLane_lane, hu]
  · exact State.setLane_fault hst (by decide)

theorem State.seqClear_refused {s : State} {l : Lane} (hs : s.lanes[l].st ≠ .fault) :
    s.seqClear l = s.errOpen (.seq l) 0x23 := by
  unfold State.seqClear
  rw [if_neg (by rw [beq_eq_false_iff_ne.2 hs]; simp)]

theorem seqClear_refused {s : State} {req : Req} {l : Lane} (h : s.ready req (.seq l) = true) (hs : s.lanes[l].st ≠ .fault) :
    ∃ t, exec (.seqClear req l) s = .next t ∧ t.errorShown (.seq l) = s.errorAfter (.seq l) 0x23 ∧
      OnlyFields (errorFields (.seq l)) { s with reply := .posted req.code } t := by
  exact ⟨_, (exec_seqClear h).trans (congrArg _ (State.seqClear_refused (s := { s with reply := .posted req.code }) hs)), State.errOpen_errorShown _ _ _ (by decide),
    OnlyFields.errOpen _ _ (OnlyFields.refl _ _) fun _ hf => hf⟩

end Sys2Proof.Machine

namespace Sys2Proof

open Machine

/-- Settles O12: the loss of a link from the frame of its drop, the clearing of a lane from the frame of its change of
state. -/
theorem linkLosses : Obligations.LinkLosses := by
  unfold Obligations.LinkLosses
  refine ⟨?_, ?_, ?_, ?_, ?_, ?_, ?_, ?_⟩
  · exact fun s l n hu hl hf => upstreamLockLoss_lost hu hl hf
  · exact fun s l hu hl hf ht => statusTimeout_lost hu hl hf ht
  · exact fun s l hu hl hf hc => crcLimitReached_lost hu hl hf hc
  · exact fun s l hu hl ha hf hs => scanDataLate_lost hu hl ha hf hs
  · exact fun s req l h hl hr => retrain_drops h hl hr
  · exact fun s req l h hr => retrain_refused h hr
  · exact fun s req l h hs hd hg hp hl hn => seqClear_idle h hs hd hg hp hl hn
  · exact fun s req l h hs => seqClear_refused h hs

end Sys2Proof
end

section
/-! PROOFS. Entry into SETT while the Den's writer works (R386): the write stops at the word it has reached, so the MRAM is not
as before. -/

namespace Sys2Proof.Machine

open Reg

/-- DRAM refreshes itself in TO_SETT, and the Den's writer has worked on a firmware entry for one word's time. -/
def denWriting : State :=
  { (State.reset.wr .ddr HDR.PG_STAT_STATE ddrSelf) with
    power := { dev := .toSett }
    dclk := 50
    den := { cur := some { type := 0x8000, src := 6, hw := false, payload := 0, time := 0 } } }

theorem exec_settEntryComplete_denWriting : exec .settEntryComplete denWriting = .next denWriting.arriveSett := by
  show execSettEntryComplete denWriting = _
  unfold execSettEntryComplete
  exact if_pos (by decide)

/-- The supply that goes leaves the first word of the entry in the slot HEAD. -/
theorem denWriting_cut : ∃ d, denWriting.denCut.den.mram = [d] := ⟨_, rfl⟩

theorem denWriting_mram : denWriting.arriveSett.den.mram ≠ denWriting.den.mram := by
  obtain ⟨d, hd⟩ := denWriting_cut
  have h : denWriting.arriveSett.den.mram = denWriting.denCut.den.mram := by
    unfold State.arriveSett
    rw [if_neg (by decide)]
    rfl
  rw [h, hd]
  exact List.cons_ne_nil _ _

end Sys2Proof.Machine

namespace Sys2Proof

open Machine

/-- Refutes O46: the clause of the entry into SETT says that the MRAM is as before, but an entry that the Den's writer is
working on is cut at the word it has reached (R386), and stands in its ring slot as far as it came. -/
theorem not_sleepAndSupplies : ¬ Obligations.SleepAndSupplies := by
  unfold Obligations.SleepAndSupplies
  rintro ⟨-, -, -, -, -, hentry, -⟩
  obtain ⟨t, hx, -, -, -, -, -, -, -, hmram, -⟩ := hentry denWriting rfl (by decide) rfl
  rw [exec_settEntryComplete_denWriting] at hx
  cases hx
  exact denWriting_mram hmram

end Sys2Proof
end

section
/-! PROOFS. What the operations of other units leave of a cluster: its power page, its clock and what it holds. -/

namespace Sys2Proof.Machine

open Reg

/-- From s to t a cluster's power page, its clock and what it holds stay; no calibration run is new, and the test that runs
is the same. -/
structure Spares (c : Clu) (s t : State) : Prop where
  cpwr : ∀ r i, Row.inPage r i = true → t.rd (.cpwr c) r i = s.rd (.cpwr c) r i
  dclk : t.rd .clk CLK.DCLK_CL c.val = s.rd .clk CLK.DCLK_CL c.val
  clu : t.clusters[c] = s.clusters[c]
  domOn : t.power.domOn = s.power.domOn
  runs : ∀ r ∈ t.cal.runs, r ∈ s.cal.runs
  test : t.bist.run = s.bist.run

variable {c : Clu} {s t u : State}

theorem Spares.refl (c : Clu) (s : State) : Spares c s s := ⟨fun _ _ _ => rfl, rfl, rfl, rfl, fun _ h => h, rfl⟩

theorem Spares.trans (h : Spares c s t) (k : Spares c t u) : Spares c s u :=
  ⟨fun r i hr => (k.cpwr r i hr).trans (h.cpwr r i hr), k.dclk.trans h.dclk, k.clu.trans h.clu, k.domOn.trans h.domOn,
    fun r hr => h.runs r (k.runs r hr), k.test.trans h.test⟩

/-- A change of other parts of the state. -/
theorem Spares.parts (h : Spares c s t) (hr : u.regs = t.regs) (hc : u.clusters[c] = t.clusters[c])
    (hd : u.power.domOn = t.power.domOn) (hk : ∀ r ∈ u.cal.runs, r ∈ t.cal.runs) (hb : u.bist.run = t.bist.run) : Spares c s u :=
  h.trans ⟨fun _ _ _ => State.rd_congr hr _ _ _, State.rd_congr hr _ _ _, hc, hd, hk, hb⟩

theorem Spares.on (h : Spares c s t) (r : Row) (hr : Row.inPage r 0 = true) : t.on (.cpwr c) r = s.on (.cpwr c) r := by
  unfold State.on
  rw [h.cpwr r 0 hr]

theorem Spares.event (h : Spares c s t) (j : Nat) : t.event (.cpwr c) j = s.event (.cpwr c) j := by
  unfold State.event
  rw [h.cpwr _ _ rfl]

theorem Spares.errorShown (h : Spares c s t) : t.errorShown (.cpwr c) = s.errorShown (.cpwr c) := by
  unfold State.errorShown
  rw [h.on _ rfl, h.cpwr _ _ rfl]

theorem Spares.domUp (h : Spares c s t) : t.domUp c = s.domUp c := h.on _ rfl

/-! ### Rules -/

/-- A page that is neither a cluster's power page nor CLK. -/
def sparePage : Page → Bool
  | .cpwr _ => false
  | .clk => false
  | _ => true

theorem sparePage_ne {p : Page} (h : sparePage p = true) (c : Clu) : p ≠ .cpwr c ∧ p ≠ .clk := by
  constructor <;> rintro rfl <;> cases h

/-- The fields of a list are of such pages. -/
def FieldAt.spare (fs : List FieldAt) : Prop := ∀ f ∈ fs, (sparePage f.1 && Row.inPage f.2.1 f.2.2) = true

@[simp] theorem FieldAt.spare_nil : FieldAt.spare [] := fun _ hf => nomatch hf

@[simp] theorem FieldAt.spare_cons (f : FieldAt) (fs : List FieldAt) :
    FieldAt.spare (f :: fs) ↔ (sparePage f.1 && Row.inPage f.2.1 f.2.2) = true ∧ FieldAt.spare fs := List.forall_mem_cons

@[simp] theorem FieldAt.spare_append (fs gs : List FieldAt) :
    FieldAt.spare (fs ++ gs) ↔ FieldAt.spare fs ∧ FieldAt.spare gs := List.forall_mem_append

theorem Untouched.rd_spare {fs : List FieldAt} {s t : State} (h : Untouched fs s t) (hw : FieldAt.spare fs) {p : Page}
    (hp : sparePage p = false) (r : Row) (i : Nat) (hr : Row.inPage r i = true) : t.rd p r i = s.rd p r i := by
  refine h.rd_clear fun f hf => Or.inr ?_
  have := hw f hf
  simp only [Bool.and_eq_true] at this
  refine ⟨fun e => ?_, this.2, hr⟩
  rw [e, hp] at this
  cases this.1


/-- A change of registers alone, of pages that are neither the cluster's power page nor CLK. -/
theorem Spares.of_only {fs : List FieldAt} (h : OnlyFields fs s t) (hw : FieldAt.spare fs) : Spares c s t := by
  refine ⟨fun r i hr => h.fields.rd_spare hw rfl r i hr, h.fields.rd_spare hw rfl _ _ ?_, ?_, ?_, ?_, ?_⟩
  · simp only [Row.inPage, Row.place, Nat.ble_eq, CLK.DCLK_CL]
    omega
  all_goals rw [h.rest]
  exact fun _ hr => hr

/-- A field of another page is written. -/
theorem Spares.wr {p : Page} {r : Row} {i v : Nat} (h : Spares c s t)
    (hp : (sparePage p && Row.inPage r i) = true) : Spares c s (t.wr p r v i) :=
  h.trans (Spares.of_only (fs := [(p, r, i)]) (OnlyFields.wr _ _ _ _ (OnlyFields.refl _ _) (by simp)) (by simpa using hp))

theorem Spares.raise {p : Page} {n : Nat} (h : Spares c s t) (hp : sparePage p = true) : Spares c s (t.raise p n) :=
  h.wr (by rw [hp]; rfl)

theorem errorFields_spare {p : Page} (hp : sparePage p = true) : FieldAt.spare (errorFields p) := by
  simp +decide [errorFields, hp]

theorem Spares.err {p : Page} {nn info : Nat} (h : Spares c s t) (hp : sparePage p = true) :
    Spares c s (t.err p nn info) :=
  h.trans (Spares.of_only (OnlyFields.err _ _ _ (OnlyFields.refl _ _) fun _ hf => hf) (errorFields_spare hp))

theorem Spares.errOpen {p : Page} {nn : Nat} (h : Spares c s t) (hp : sparePage p = true) :
    Spares c s (t.errOpen p nn) :=
  h.trans (Spares.of_only (OnlyFields.errOpen _ _ (OnlyFields.refl _ _) fun _ hf => hf) (errorFields_spare hp))

theorem Spares.setPage {p : Page} {v : Nat} (h : Spares c s t) (hp : sparePage p = true) : Spares c s (t.setPage p v) := by
  unfold State.setPage
  split
  · exact h
  · exact (h.wr (by rw [hp]; rfl)).raise hp

theorem Spares.ite {q : Prop} [Decidable q] (h : Spares c s t) (k : Spares c s u) : Spares c s (if q then t else u) := by
  split
  · exact h
  · exact k

theorem Spares.when (b : Bool) (f : State → State) (h : Spares c s t) (hf : ∀ u, Spares c s u → Spares c s (f u)) :
    Spares c s (t.when b f) := Spares.ite (hf t h) h

theorem Spares.each {α : Type} (l : List α) (f : State → α → State) (hf : ∀ u x, x ∈ l → Spares c s u → Spares c s (f u x))
    (h : Spares c s t) : Spares c s (t.each l f) := by
  induction l generalizing t with
  | nil => exact h
  | cons x l ih =>
    exact ih (fun u y hy => hf u y (List.mem_cons_of_mem _ hy)) (hf t x (List.mem_cons_self ..) h)

theorem Spares.modLane (l : Lane) (f : LaneHw → LaneHw) (h : Spares c s t) : Spares c s (t.modLane l f) :=
  h.parts rfl rfl rfl (fun _ hr => hr) rfl

theorem Spares.emit (o : Out) (h : Spares c s t) : Spares c s (t.emit o) := h.parts rfl rfl rfl (fun _ hr => hr) rfl

theorem Spares.modClu_ne {d : Clu} (f : CluHw → CluHw) (hd : d ≠ c) (h : Spares c s t) : Spares c s (t.modClu d f) :=
  h.parts rfl (State.modClu_ne t f hd) rfl (fun _ hr => hr) rfl

/-- A change of registers alone follows. -/
theorem Spares.only {fs : List FieldAt} (h : Spares c s t) (hu : OnlyFields fs t u) (hw : FieldAt.spare fs) :
    Spares c s u := h.trans (Spares.of_only hu hw)

theorem dclkCl_apart {c d : Clu} (h : d ≠ c) : Row.apart CLK.DCLK_CL d.val CLK.DCLK_CL c.val = true := by
  have hd : Row.place CLK.DCLK_CL d.val ≠ Row.place CLK.DCLK_CL c.val := by
    have : d.val ≠ c.val := fun e => h (Fin.ext e)
    simp only [Row.place, CLK.DCLK_CL]
    omega
  have hin (x : Clu) : Row.inPage CLK.DCLK_CL x.val = true := by
    simp only [Row.inPage, Row.place, Nat.ble_eq, CLK.DCLK_CL]
    omega
  simp only [Row.apart, hin, Bool.and_self, Bool.true_and, Bool.not_eq_true', ← Bool.not_eq_true, Nat.beq_eq]
  exact hd

/-- A field of CLK is written that is not the cluster's clock. -/
theorem Spares.wrClk {r : Row} (v : Nat) {i : Nat} (hr : Row.apart r i CLK.DCLK_CL c.val = true) (h : Spares c s t) :
    Spares c s (t.wr .clk r v i) := by
  have hi : Row.inPage r i = true := by
    simp only [Row.apart, Bool.and_eq_true] at hr
    exact hr.1.1
  exact h.trans ⟨fun x j hx => State.wr_rd_page t v (by simp) hi hx, State.wr_rd_apart t _ _ v hr, rfl, rfl,
    fun _ h => h, rfl⟩

/-- A key outside those that are lost reads as before. -/
theorem Regs.get_clear {m : Regs} {lo hi k d : Nat} (h : k < lo ∨ hi ≤ k) : Regs.get (Regs.clear m lo hi) k d = Regs.get m k d := by
  unfold Regs.clear
  induction m with
  | nil => rfl
  | cons e m ih =>
    obtain ⟨a, v⟩ := e
    rw [List.filter_cons]
    by_cases ha : a = k
    · have hk : (!(decide (lo ≤ a) && decide (a < hi))) = true := by
        simp only [Bool.not_eq_true', Bool.and_eq_false_iff, decide_eq_false_iff_not]
        omega
      rw [if_pos hk, Regs.get, Regs.get, if_pos ha, if_pos ha]
    · split
      · rw [Regs.get, Regs.get, if_neg ha, if_neg ha, ih]
      · rw [Regs.get, if_neg ha, ih]

/-- A copy of a field of a page lies outside every other page. -/
theorem Row.key_outside {p q : Page} (h : p ≠ q) {r : Row} {i : Nat} (hr : Row.inPage r i = true) :
    r.key q i < p.base * 8 ∨ p.base * 8 + 0x8000 ≤ r.key q i := by
  by_contra hc
  obtain ⟨d, hk, hd⟩ : ∃ d, r.key q i = p.base * 8 + d ∧ d < 0x8000 := ⟨r.key q i - p.base * 8, by omega, by omega⟩
  refine Row.key_ne_of_page (r := ⟨d / 8, d % 8, 1, .ro, 0, 1, 0, .any⟩) (i := 0) h ?_ hr ?_
  · simp only [Row.inPage, Row.place, Nat.ble_eq]
    omega
  · rw [hk]
    simp only [Row.key]
    omega

/-- The registers of another page are lost. -/
theorem Spares.resetPage {p : Page} (h : Spares c s t) (hp : sparePage p = true) : Spares c s (t.resetPage p) := by
  have hrd (q : Page) (hq : p ≠ q) (r : Row) (i : Nat) (hr : Row.inPage r i = true) :
      (t.resetPage p).rd q r i = t.rd q r i := Regs.get_clear (Row.key_outside hq hr)
  obtain ⟨h1, h2⟩ := sparePage_ne hp c
  refine h.trans ⟨fun r i hr => hrd _ h1 r i hr, hrd _ h2 _ _ ?_, rfl, rfl, fun _ h => h, rfl⟩
  simp only [Row.inPage, Row.place, Nat.ble_eq, CLK.DCLK_CL]
  omega

/-! ### Calibration runs -/

/-- The pages of calibration items are none of the power pages. -/
theorem calPage_spare {item inst : Nat} {p : Page} (h : calPage item inst = some p) : sparePage p = true := by
  unfold calPage at h
  split_ifs at h <;> cases h <;> rfl

theorem failAbort_inPage (item : Nat) : Row.inPage (ITEM.FAIL_ABORT item) 0 = true := by
  unfold ITEM.FAIL_ABORT ITEM.at_ ITEM.blk
  split <;> [skip; (split <;> [skip; split])] <;> rfl

theorem Spares.calAbort (f : CalRun → Bool) (h : Spares c s t) : Spares c s (t.calAbort f) := by
  unfold State.calAbort
  refine Spares.each _ _ (fun u r _ hu => ?_) (h.parts rfl rfl rfl (fun r hr => (List.mem_filter.1 hr).1) rfl)
  have h0 : Spares c s (u.bump .cal CAL.ABORT_CNT) := hu.wr rfl
  unfold State.calLet
  dsimp only
  cases hp : calPage r.item r.inst with
  | none => exact h0
  | some p =>
    have hs := calPage_spare hp
    exact (h0.wr (by rw [hs]; rfl)).wr (by rw [hs, failAbort_inPage]; rfl)

theorem Spares.calLet (item inst : Nat) (h : Spares c s t) : Spares c s (t.calLet item inst) := by
  unfold State.calLet
  cases hp : calPage item inst with
  | none => exact h
  | some p => exact h.wr (by rw [calPage_spare hp]; rfl)

/-! ### Lanes -/

theorem Spares.setDev (d : DevState) (h : Spares c s t) : Spares c s (t.setDev d) := by
  have hp : Spares c s { t with power := { t.power with dev := d } } := h.parts rfl rfl rfl (fun _ hr => hr) rfl
  exact Spares.ite h ((hp.raise rfl).raise rfl)

theorem Spares.settlePrint (h : Spares c s t) : Spares c s t.settlePrint := by
  unfold State.settlePrint
  split
  · exact Spares.ite (h.setDev _) h
  · exact Spares.ite (h.setDev _) h
  · exact h

theorem Spares.calLeave (l : Lane) (st : LaneState) (h : Spares c s t) : Spares c s (t.calLeave l st) := by
  unfold State.calLeave
  split
  · exact h.calAbort _
  · exact h.calAbort _
  · exact h.calAbort _
  · exact h.calAbort _
  · exact h

theorem lanePages_spare {l : Lane} {p : Page} (h : p ∈ lanePages l) : sparePage p = true := by
  simp only [lanePages, List.mem_cons, List.not_mem_nil, or_false] at h
  rcases h with rfl | rfl | rfl | rfl <;> rfl

theorem Spares.setFault {p : Page} (b : Bool) (h : Spares c s t) (hp : sparePage p = true) :
    Spares c s (t.setFault p b) :=
  Spares.when _ _ (h.wr (by rw [hp]; rfl)) fun _ hu => hu.raise hp

theorem Spares.setLane (l : Lane) (st : LaneState) (h : Spares c s t) : Spares c s (t.setLane l st) := by
  by_cases hs : t.lanes[l].st = st
  · rw [State.setLane_same hs]
    exact h
  · rw [State.setLane_eq hs]
    refine Spares.settlePrint (Spares.each _ _ (fun u p hp hu => ?_) ((h.modLane l _).calLeave l st))
    have hp := lanePages_spare hp
    exact (hu.raise hp).setFault _ hp

theorem Spares.enterHold (l : Lane) (why : Nat) (h : Spares c s t) : Spares c s (t.enterHold l why) := by
  have h0 : Spares c s (((((t.modLane l fun h => { h with holdTemp := if why = 1 then t.rd (.seq l) SEQ.TEMP_READING else 0 }).wr
      (.seq l) SEQ.STAT_HOLD_WHY why).bump (.seq l) SEQ.HOLD_CNT).raise (.seq l) 8).when (why == 2) fun t => t.raise (.seq l) 14) :=
    Spares.when _ _ ((((h.modLane l _).wr rfl).wr rfl).raise rfl) fun _ hu => hu.raise rfl
  unfold State.enterHold
  exact Spares.ite (Spares.ite (h.wr rfl) (h0.setLane l .hold)) h

theorem Spares.laneRuns (l : Lane) (st : LaneState) (h : Spares c s t) : Spares c s (t.laneRuns l st) :=
  Spares.when _ _ (h.setLane l st) fun _ hu => hu.enterHold l 3

theorem Spares.armNext (h : Spares c s t) : Spares c s t.armNext := by
  unfold State.armNext
  split
  · exact h
  · refine Spares.ite h (Spares.each _ _ (fun u l _ hu => ?_) h)
    exact Spares.ite ((hu.modLane l _).laneRuns l .armed) hu

theorem awlFields_spare (l : Lane) : FieldAt.spare (awlFields l) := by simp +decide [awlFields, errorFields, sparePage]

theorem Spares.awlAborted (l : Lane) (link : Bool) (h : Spares c s t) : Spares c s (t.awlAborted l link) := by
  rw [State.awlAborted_eq]
  exact Spares.ite ((h.modLane l _).only (State.scanTold_only _ l link) (awlFields_spare l)) h

theorem Spares.laneFault (l : Lane) (h : Spares c s t) : Spares c s (t.laneFault l) := by
  have hf : Spares c s (if t.awlFull l then t.modLane l fun h => { h with awl := { h.awl with after := some .fault } }
      else ((t.awlAborted l false).modLane l fun h => { h with outCause := if h.page.isSome then some (5, 0) else h.outCause }).setLane
        l .fault) := Spares.ite (h.modLane l _) (((h.awlAborted l false).modLane l _).setLane l .fault)
  unfold State.laneFault
  split
  · exact h
  · exact h
  · exact hf

theorem Spares.clusterFault (d : Clu) (h : Spares c s t) : Spares c s (t.clusterFault d) :=
  Spares.each _ _ (fun _ l _ hu => hu.laneFault l) h

theorem Spares.setLs (l : Lane) (v : Nat) (h : Spares c s t) : Spares c s (t.setLs l v) := by
  have h0 : Spares c s (if v = lsUp then t else t.calAbort fun r => r.onLane l && r.item != 1) :=
    Spares.ite h (h.calAbort _)
  exact (h0.modLane l _).wr rfl

theorem Spares.linkStop (l : Lane) (h : Spares c s t) : Spares c s (t.linkStop l) := by
  have h0 : Spares c s ((t.noFrames l).setLs l lsDown) := (h.modLane l _).setLs l lsDown
  have h1 : Spares c s (((t.noFrames l).setLs l lsDown).wr (.vnl l) VNL.STAT_UP_LOCK 0) := h0.wr rfl
  exact h1.wr rfl

theorem Spares.laneOff (l : Lane) (h : Spares c s t) : Spares c s (t.laneOff l) := by
  have h0 : Spares c s (if t.awlFull l then t.modLane l fun (h : LaneHw) => { h with awl := { h.awl with after := some .off } }
      else t.awlAborted l true) := Spares.ite (h.modLane l _) (h.awlAborted l true)
  unfold State.laneOff
  refine Spares.linkStop l (Spares.ite ?_ (Spares.setLane l .off ?_)) <;> exact h0.modLane l _

/-! ### The permitted rate -/

theorem permFields_spare : FieldAt.spare permFields := by
  simp +decide [permFields, longFields, slowFields, errorFields]

theorem Spares.settlePerm (h : Spares c s t) : Spares c s t.settlePerm := by
  have hp : Spares c s { t with pace := { t.pace with quietFrom := t.settlePerm.pace.quietFrom } } :=
    h.parts rfl rfl rfl (fun _ hr => hr) rfl
  exact hp.only (State.settlePerm_quiet t) permFields_spare

theorem Spares.settleTmin (l : Lane) (h : Spares c s t) : Spares c s (t.settleTmin l) := by
  have h0 (v : Nat) : Spares c s (t.wr (.seq l) SEQ.TMIN v) := h.wr rfl
  exact (h0 _).settlePerm

end Sys2Proof.Machine
end

section
/-! PROOFS. What the operations of clusters, power, scans and messages leave of another cluster. -/

namespace Sys2Proof.Machine

open Reg

variable {c d : Clu} {s t u : State}

/-! ### Supplies -/

theorem Spares.pmbSend (k : Nat) (cmd : PmbCmd) (data : Nat) (h : Spares c s t) : Spares c s (t.pmbSend k cmd data) := by
  unfold State.pmbSend
  exact Spares.ite ((h.emit _).emit _) h

theorem Spares.headSupply (on : Bool) (h : Spares c s t) : Spares c s (t.headSupply on) := by
  unfold State.headSupply
  exact Spares.ite h (Spares.each _ _ (fun _ k _ hu => hu.pmbSend k _ _) (h.parts rfl rfl rfl (fun _ hr => hr) rfl))

/-! ### Operating points and DLL runs of other clusters -/

/-- A field of another cluster's power page is written. -/
theorem Spares.wrCpwr (hd : d ≠ c) {r : Row} {v i : Nat} (hr : Row.inPage r i = true) (h : Spares c s t) :
    Spares c s (t.wr (.cpwr d) r v i) := by
  refine h.trans ⟨fun x j hx => State.wr_rd_page t v (fun e => hd (Page.cpwr.inj e)) hr hx, State.wr_rd_page t v nofun hr ?_,
    rfl, rfl, fun _ h => h, rfl⟩
  simp only [Row.inPage, Row.place, Nat.ble_eq, CLK.DCLK_CL]
  omega

theorem Spares.setDclk (hd : d ≠ c) (op : Nat) (h : Spares c s t) : Spares c s (t.setDclk d op) := by
  have h0 : Spares c s (if t.rd (.cpwr d) CPWR.STAT_OP_ACT = op then t
      else t.calAbort fun r => (Clu.lanes d).any fun l => r.onLane l) := Spares.ite h (h.calAbort _)
  have h1 (v : Nat) := h0.wrCpwr hd (r := CPWR.STAT_OP_ACT) (v := v) (i := 0) rfl
  exact (h1 op).wrClk _ (dclkCl_apart hd)

theorem Spares.setOp (hd : d ≠ c) (op : Nat) (h : Spares c s t) : Spares c s (t.setOp d op) :=
  (h.modClu_ne _ hd).setDclk hd op

theorem Spares.restoreOp (hd : d ≠ c) (h : Spares c s t) : Spares c s (t.restoreOp d) := by
  unfold State.restoreOp
  split
  · exact Spares.when _ _ (h.modClu_ne _ hd) fun _ hu => hu.setOp hd _
  · exact h

theorem Spares.dllEnd (hd : d ≠ c) (lock : Bool) (h : Spares c s t) : Spares c s (t.dllEnd d lock) := by
  have h0 : Spares c s ((t.flag (.cpwr d) CPWR.STAT_DLL_LOCK lock).setPage (.ccal d) 0) :=
    Spares.setPage (h.wrCpwr hd rfl) rfl
  unfold State.dllEnd
  refine Spares.armNext (Spares.restoreOp hd (Spares.each _ _ (fun u l _ hu => ?_) h0))
  exact Spares.ite (hu.setLane l .idle) hu

theorem Spares.dllAbort (hd : d ≠ c) (h : Spares c s t) : Spares c s (t.dllAbort d) :=
  Spares.each _ _ (fun _ r _ hu => hu.dllEnd hd r.lock) (h.calAbort _)

/-- Every run is aborted, none of them the cluster's DLL run. -/
theorem Spares.calAbortAll (hn : ∀ r ∈ t.cal.runs, r.onDll c = false) (h : Spares c s t) : Spares c s t.calAbortAll := by
  unfold State.calAbortAll
  refine Spares.each _ _ (fun _ r hr hu => Spares.each _ _ (fun _ d hd hv => hv.dllEnd (fun e => ?_) r.lock) hu) (h.calAbort _)
  obtain ⟨hmem, hitem⟩ := List.mem_filter.1 hr
  have hinst := (List.mem_filter.1 hd).2
  have := hn r hmem
  rw [e] at hinst
  simp only [beq_iff_eq] at hitem hinst
  simp [CalRun.onDll, hitem, ← hinst] at this

theorem State.calAbort_runs (s : State) (f : CalRun → Bool) {r : CalRun} (hr : r ∈ (s.calAbort f).cal.runs) : f r = false := by
  have h (l : List CalRun) (u : State) (P : CalRun → Prop) (hu : ∀ r ∈ u.cal.runs, P r) : ∀ r ∈ (u.each l fun t r =>
      let t := (t.bump .cal CAL.ABORT_CNT).calLet r.item r.inst
      match calPage r.item r.inst with
      | some p => t.bump p (ITEM.FAIL_ABORT r.item)
      | none => t).cal.runs, P r := by
    induction l generalizing u with
    | nil => exact hu
    | cons x l ih =>
      refine ih _ ?_
      dsimp only
      unfold State.calLet
      cases calPage x.item x.inst with
      | none => simpa using hu
      | some p => simpa using hu
  unfold State.calAbort at hr
  refine h _ _ (fun r => f r = false) (fun r hr => ?_) r hr
  simpa using (List.mem_filter.1 hr).2

/-! ### Scans, axes and the spool -/

theorem Spares.awlStop (l : Lane) (h : Spares c s t) : Spares c s (t.awlStop l) := by
  have h0 : Spares c s ((t.awlAborted l false).lneBusy l) := (h.awlAborted l false).wr rfl
  unfold State.awlStop
  exact Spares.ite (((h0.modLane l _).setLane l .idle).armNext) h

theorem Spares.scansEnd (h : Spares c s t) : Spares c s t.scansEnd := Spares.each _ _ (fun _ l _ hu => hu.awlStop l) h

theorem Spares.modAxis (a : Axis) (f : AxisHw → AxisHw) (h : Spares c s t) : Spares c s (t.modAxis a f) :=
  h.parts rfl rfl rfl (fun _ hr => hr) rfl

theorem Spares.axHalt (a : Axis) (h : Spares c s t) : Spares c s (t.axHalt a) :=
  (h.modAxis a _).only (State.axHalt_only t a) (by simp +decide [haltFields, sparePage])

theorem Spares.setAx (a : Axis) (v : Nat) (h : Spares c s t) : Spares c s (t.setAx a v) :=
  (h.modAxis a _).only (State.setAx_only t a v) (by simp +decide [axStateFields, sparePage])

theorem Spares.axEstop (a : Axis) (h : Spares c s t) : Spares c s (t.axEstop a) :=
  Spares.ite ((h.axHalt a).setAx a axIdle) (Spares.ite (h.axHalt a) h)

theorem Spares.axSleep (a : Axis) (h : Spares c s t) : Spares c s (t.axSleep a) := by
  have h0 : Spares c s (t.wr (.ax a) AX.STAT_ASLEEP 1) := h.wr rfl
  exact Spares.ite h (h0.raise rfl)

theorem Spares.driversSleep (h : Spares c s t) : Spares c s t.driversSleep := Spares.each _ _ (fun _ a _ hu => hu.axSleep a) h

theorem Spares.setDdr (v : Nat) (h : Spares c s t) : Spares c s (t.setDdr v) := by
  have h0 : Spares c s (if v = ddrActive then t else t.calAbort fun r => r.item == 7) := Spares.ite h (h.calAbort _)
  exact Spares.each _ _ (fun _ _ _ hu => hu.setPage rfl) (h0.setPage rfl)

theorem Spares.modPower (f : Power → Power) (hf : ∀ p : Power, (f p).domOn = p.domOn) (h : Spares c s t) :
    Spares c s (t.modPower f) := h.parts rfl rfl (hf _) (fun _ hr => hr) rfl

theorem Spares.ddr (x : Ddr) (h : Spares c s t) : Spares c s { t with ddr := x } := h.parts rfl rfl rfl (fun _ hr => hr) rfl

theorem Spares.tim (x : Time) (h : Spares c s t) : Spares c s { t with tim := x } := h.parts rfl rfl rfl (fun _ hr => hr) rfl

/-! ### Entry into SETT -/

theorem State.testAbort_none {s : State} (h : s.bist.run = none) (why : Nat) : s.testAbort why = s := by
  unfold State.testAbort
  rw [h]

theorem Spares.toSett (hb : t.bist.run = none) (hn : ∀ r ∈ t.cal.runs, r.onDll c = false) (h : Spares c s t) :
    Spares c s t.toSett := by
  have h0 : Spares c s (((t.calAbortAll.scansEnd).each allAxes State.axEstop).driversSleep) :=
    (Spares.each _ _ (fun _ a _ hu => hu.axEstop a) (h.calAbortAll hn).scansEnd).driversSleep
  unfold State.toSett
  rw [State.testAbort_none hb]
  have h1 (x : Time) (f : State → Axis → AxisHw → AxisHw) (y : Ddr) := Spares.modPower (fun p => { p with grace := false, settNext := false })
    (fun _ => rfl) (Spares.ddr y (Spares.each allAxes (fun t a => t.modAxis a (f t a)) (fun _ a _ hu => hu.modAxis a _) (h0.tim x)))
  exact Spares.setDev _ (Spares.ite (Spares.setDdr _ (h1 _ _ _)) (Spares.when _ _ (h1 _ _ _) fun _ hu => hu.modPower _ fun _ => rfl))

theorem Spares.arriveIdle (hb : t.bist.run = none) (hn : ∀ r ∈ t.cal.runs, r.onDll c = false) (h : Spares c s t) :
    Spares c s t.arriveIdle := by
  have hd : Spares c t (t.setDev .idle) := (Spares.refl c t).setDev .idle
  exact Spares.ite ((h.trans hd).toSett (hd.test.trans hb) fun r hr => hn r (hd.runs r hr)) (h.trans hd)

/-! ### Messages -/

theorem Spares.setPba {v : Nat} (hv : v < 64) (b : Bool) (h : Spares c s t) : Spares c s (t.setPba v b) := by
  refine Spares.ite h (h.wr ?_)
  have : Row.inPage PCI.MSIX_PBA (v / 32) = true := by
    simp only [Row.inPage, Row.place, Nat.ble_eq, PCI.MSIX_PBA]
    omega
  rw [this]
  rfl

theorem Spares.msixSend {v : Nat} (hv : v < 64) (h : Spares c s t) : Spares c s (t.msixSend v) :=
  Spares.ite ((h.emit _).setPba hv _) (h.setPba hv _)

theorem Spares.settleMsix (h : Spares c s t) : Spares c s t.settleMsix := by
  have hv {f : Nat → Bool} {v : Nat} (hm : v ∈ (List.range 64).filter f) : v < 64 := List.mem_range.1 (List.mem_filter.1 hm).1
  unfold State.settleMsix
  refine Spares.parts (t := State.each _ _ _) ?_ rfl rfl rfl (fun _ hr => hr) rfl
  exact Spares.each _ _ (fun _ _ hm hu => Spares.ite (hu.msixSend (hv hm)) hu) (Spares.each _ _
    (fun _ _ hm hu => hu.msixSend (hv hm)) (Spares.each _ _ (fun _ _ hm hu => hu.setPba (hv hm) false) h))

end Sys2Proof.Machine
end

section
/-! PROOFS. What the Den, a lane's restore, a burst and a lane's bring-up leave of a cluster. -/

namespace Sys2Proof.Machine

open Reg

variable {c d : Clu} {s t u : State}

/-! ### The Den's queue -/

theorem Spares.den (x : Den) (h : Spares c s t) : Spares c s { t with den := x } := h.parts rfl rfl rfl (fun _ hr => hr) rfl

theorem Spares.denRoom (h : Spares c s t) : Spares c s t.denRoom := Spares.ite (h.den _) h

theorem Spares.denPump (h : Spares c s t) : Spares c s t.denPump := by
  unfold State.denPump
  split
  · exact Spares.ite (h.den _) h
  · exact h

theorem Spares.denSettle (h : Spares c s t) : Spares c s t.denSettle := h.denRoom.denPump.denRoom

theorem Spares.denDrop (type time : Nat) (h : Spares c s t) : Spares c s (t.denDrop type time) := by
  have h0 : Spares c s (t.bump .den DEN.DROP_CNT) := h.wr rfl
  unfold State.denDrop
  exact Spares.ite ((h0.den _).raise rfl) (h0.den _)

theorem Spares.denPushFatal (e : DenReq) (h : Spares c s t) : Spares c s (t.denPushFatal e) := by
  unfold State.denPushFatal
  split
  · exact h.den _
  · split
    · exact (h.den _).denDrop _ _
    · exact h.denDrop _ _

theorem Spares.denPush (e : DenReq) (h : Spares c s t) : Spares c s (t.denPush e) := by
  unfold State.denPush
  exact Spares.denSettle (Spares.ite (h.denPushFatal _) (Spares.ite (h.denDrop _ _) (h.den _)))

theorem Spares.ddrUe (a port : Nat) (dev : BitVec 5) (scrub : Bool) (h : Spares c s t) :
    Spares c s (t.ddrUe a port dev scrub) := by
  have h0 : Spares c s (t.bump .ddr DDR.UE_CNT) := h.wr rfl
  have h1 : Spares c s ((t.bump .ddr DDR.UE_CNT).bump (.ddrs (subOf a)) DDRS.UE_CNT) := h0.wr rfl
  have h2 (v : Nat) := h1.wr (p := .ddr) (r := DDR.LAST_UE) (i := 0) (v := v) rfl
  have h3 (v nn info : Nat) := Spares.raise (p := .ddr) (n := 9) ((h2 v).err (p := .ddr) (nn := nn) (info := info) rfl) rfl
  exact Spares.ite (h3 _ _ _) (Spares.when _ _ ((h3 _ _ _).denPush _) fun _ hu => hu.ddr _)

/-! ### A lane's window -/

theorem Spares.setWins (l : Lane) (w : Nat) (vs : List Nat) (h : Spares c s t) : Spares c s (t.setWins l w vs) := by
  induction vs generalizing w t with
  | nil => exact h
  | cons v vs ih => exact ih _ (h.modLane l _)

theorem Spares.mapFigures (l : Lane) (h : Spares c s t) : Spares c s (t.mapFigures l) := by
  have h0 (v : Nat) := h.wr (p := .lne l) (r := LNE.MAP_CRC) (i := 0) (v := v) rfl
  exact (h0 _).wr rfl

theorem Spares.partnerRefresh (l : Lane) (h : Spares c s t) : Spares c s (t.partnerRefresh l) := by
  have h0 : Spares c s (match t.leftOf l with
    | some a =>
      let o := t.rd .pln PLN.LMAP_OVL a.val
      let n := t.laneN a
      let s := t.setWins l winMaskL (t.winWords a winMaskR 256)
      let s := s.setWins l winPartnerL
        (packBits 4 fun k => decide (k < o) && s.mapBit a winActive (n - o + k))
      s.modLane l fun h => { h with hoL := s.on (.lne a) LNE.WELT_CTRL_HANDOVER }
    | none =>
      let s := (t.setWins l winMaskL (List.replicate 256 0)).setWins l winPartnerL (List.replicate 4 0)
      s.modLane l fun h => { h with hoL := false }) := by
    split
    · exact ((h.setWins l _ _).setWins l _ _).modLane l _
    · exact ((h.setWins l _ _).setWins l _ _).modLane l _
  unfold State.partnerRefresh
  dsimp only
  split
  · exact Spares.setWins l _ _ h0
  · exact Spares.setWins l _ _ h0

theorem Spares.wrBoth {p : Page} {r : Row} {v i : Nat} (h : Spares c s t) (hp : (sparePage p && Row.inPage r i) = true) :
    Spares c s (t.wrBoth p r v i) := (h.wr hp).parts rfl rfl rfl (fun _ hr => hr) rfl

theorem Spares.imgLoad (l : Lane) (h : Spares c s t) : Spares c s (t.imgLoad l) := by
  have h1 (a b : Nat) (vs : List Nat) : Spares c s (((t.setWins l a vs).wr (.lne l) LNE.MAP_CTRL_ACT_VALID b)) :=
    (h.setWins l a vs).wr rfl
  have h2 (a b e f : Nat) (vs : List Nat) : Spares c s ((((t.setWins l a vs).wr (.lne l) LNE.MAP_CTRL_ACT_VALID b).wrBoth (.lne l)
      LNE.MAP_VER e).wr (.lne l) LNE.TBL_VER f) := ((h1 a b vs).wrBoth rfl).wr rfl
  exact Spares.each _ _ (fun _ k _ hu => hu.partnerRefresh k) ((h2 _ _ _ _ _).mapFigures l)

theorem Spares.imgUe (l : Lane) (h : Spares c s t) : Spares c s (t.imgUe l false).1 := by
  unfold State.imgUe
  split
  · exact h.ddrUe _ _ _ _
  · exact h

/-- What a failed restore records (R365). -/
theorem Spares.restoreFailed (l : Lane) (h : Spares c s t) : Spares c s ((t.errOpen (.lne l) 0x40).raise .bst 11) := by
  have h0 : Spares c s (t.errOpen (.lne l) 0x40) := h.errOpen rfl
  exact h0.raise rfl

theorem Spares.restoreWindow (l : Lane) (h : Spares c s t) : Spares c s (t.restoreWindow l false).1 := by
  unfold State.restoreWindow
  dsimp only
  split
  · dsimp only
    exact (h.imgUe l).imgLoad l
  · dsimp only
    exact (h.imgUe l).restoreFailed l

theorem Spares.awlBegin (l : Lane) (h : Spares c s t) : Spares c s (t.awlBegin l) := by
  have h0 (f : LaneHw → LaneHw) : Spares c s (((t.modLane l f).wr (.lne l) LNE.AWL_STAT_STATE 1).lneBusy l) :=
    ((h.modLane l f).wr rfl).wr rfl
  unfold State.awlBegin State.queueCtrl
  exact Spares.modLane l _ (Spares.setLane l .cal (h0 _))

/-! ### A burst, and the arrival in READY -/

theorem Spares.spitRestore (h : Spares c s t) : Spares c s t.spitRestore := by
  unfold State.spitRestore
  split
  · exact h
  · refine Spares.each _ _ (fun u l _ hu => ?_) (h.modPower _ fun _ => rfl)
    have h0 := (hu.modLane l fun (h : LaneHw) => { h with spit := true }).restoreWindow l
    exact Spares.ite (h0.awlBegin l) h0

theorem Spares.arriveReady (h : Spares c s t) : Spares c s t.arriveReady := ((h.setDev .ready).settlePrint).spitRestore

theorem Spares.settleReady (h : Spares c s t) : Spares c s t.settleReady :=
  Spares.ite (Spares.ite h.arriveReady (Spares.ite h.spitRestore h)) h

/-! ### A lane's bring-up -/

theorem Spares.useTaps (l : Lane) (preset : Nat) (h : Spares c s t) : Spares c s (t.useTaps l preset) := by
  have h0 (v : Nat) := h.wr (p := .vnl l) (r := VNL.EQ_ACT_C_PRE) (i := 0) (v := v) rfl
  exact (h0 _).wr rfl

theorem Spares.linkStart (l : Lane) (h : Spares c s t) : Spares c s (t.linkStart l) := by
  have h0 : Spares c s (((t.linkCfg l).noFrames l).setLs l lsWake) := ((h.modLane l _).modLane l _).setLs l lsWake
  have h1 : Spares c s ((((t.linkCfg l).noFrames l).setLs l lsWake).wr (.vnl l) VNL.STAT_RATE 0) := h0.wr rfl
  have h2 : Spares c s (((((t.linkCfg l).noFrames l).setLs l lsWake).wr (.vnl l) VNL.STAT_RATE 0).wr (.vnl l)
      VNL.STAT_PRESET 0) := h1.wr rfl
  have h3 : Spares c s (((((((t.linkCfg l).noFrames l).setLs l lsWake).wr (.vnl l) VNL.STAT_RATE 0).wr (.vnl l)
      VNL.STAT_PRESET 0).useTaps l 0).wr (.vnl l) VNL.STAT_FALLBACK 0) := (h2.useTaps l 0).wr rfl
  exact (h3.emit _).settleTmin l

theorem Spares.laneOn (l : Lane) (h : Spares c s t) : Spares c s (t.laneOn l) := by
  have h0 : Spares c s ((t.setLane l .link).boundStart l) := (h.setLane l .link).modLane l _
  exact Spares.ite (h0.linkStart l) h

end Sys2Proof.Machine
end

section
/-! PROOFS. Clusters up and down, failures, retry and the READY deadline (R29, R63, R76 to R78). -/

namespace Sys2Proof.Machine

open Reg

/-! ### Up -/

/-- The runs that a change of a cluster's clock aborts (R380). -/
def State.clockAborts (s : State) (c : Clu) (op : Nat) : State :=
  if s.rd (.cpwr c) CPWR.STAT_OP_ACT = op then s else s.calAbort fun r => (Clu.lanes c).any fun l => r.onLane l

theorem State.clockAborts_spares (s : State) (c d : Clu) (op : Nat) : Spares d s (s.clockAborts c op) :=
  Spares.ite (Spares.refl d s) ((Spares.refl d s).calAbort _)

theorem State.setDclk_eq (s : State) (c : Clu) (op : Nat) : s.setDclk c op =
    ((s.clockAborts c op).wr (.cpwr c) CPWR.STAT_OP_ACT op).wr .clk CLK.DCLK_CL (opMHz op) c.val := rfl

theorem dclkCl_inPage (c : Clu) : Row.inPage CLK.DCLK_CL c.val = true := by
  simp only [Row.inPage, Row.place, Nat.ble_eq, CLK.DCLK_CL]
  omega

/-- What a change of a cluster's clock leaves of its power page. -/
theorem State.setDclk_cpwr (s : State) (c : Clu) (op : Nat) {r : Row} (hr : Row.apart CPWR.STAT_OP_ACT 0 r 0 = true) :
    (s.setDclk c op).rd (.cpwr c) r = s.rd (.cpwr c) r := by
  have hin : Row.inPage r 0 = true := by
    simp only [Row.apart, Bool.and_eq_true] at hr
    exact hr.1.2
  rw [State.setDclk_eq, State.wr_rd_page _ _ (by simp) (dclkCl_inPage c) hin, State.wr_rd_apart _ _ _ _ hr,
    (s.clockAborts_spares c c op).cpwr r 0 hin]

theorem State.setDclk_dclk (s : State) (c : Clu) (op : Nat) :
    (s.setDclk c op).rd .clk CLK.DCLK_CL c.val = opMHz op := by
  rw [State.setDclk_eq, State.wr_rd_same]
  refine Nat.mod_eq_of_lt ?_
  unfold opMHz
  split_ifs <;> decide

theorem State.setDclk_clu (s : State) (c : Clu) (op : Nat) : (s.setDclk c op).clusters[c] = s.clusters[c] := by
  rw [State.setDclk_eq]
  simpa using (s.clockAborts_spares c c op).clu

theorem State.setDclk_domOn (s : State) (c : Clu) (op : Nat) : (s.setDclk c op).power.domOn = s.power.domOn := by
  rw [State.setDclk_eq, State.wr_power, State.wr_power]
  exact (s.clockAborts_spares c c op).domOn

/-! ### The domain comes up -/

/-- The domain is on, and the head logic supply; DCLK of the cluster runs. -/
def State.domainOn (s : State) (c : Clu) : State :=
  let s := ((s.wr (.cpwr c) CPWR.STAT_DOM_UP 1).modPower fun p => { p with domOn := some s.dclk }).headSupply true
  s.wr .clk CLK.LOCK (s.rd .clk CLK.LOCK ||| 2 ^ c.val)

/-- The DLL's first code is in force (R374). -/
def State.dllFirst (s : State) (c : Clu) (code qual : Nat) : State :=
  (s.wr (.ccal c) (ITEM.VAL_VALUE 6) code).calDone 6 c.val qual (.ccal c)

theorem State.domainOn_spares (s : State) (c : Clu) :
    Spares c ((s.wr (.cpwr c) CPWR.STAT_DOM_UP 1).modPower fun p => { p with domOn := some s.dclk }) (s.domainOn c) := by
  refine ((Spares.refl c _).headSupply true).wrClk _ ?_
  simp only [Row.apart, dclkCl_inPage, Bool.and_true, Bool.and_eq_true, Bool.not_eq_true', ← Bool.not_eq_true,
    Nat.beq_eq]
  refine ⟨rfl, ?_⟩
  simp only [Row.place, CLK.LOCK, CLK.DCLK_CL]
  omega

theorem Spares.calGone {c : Clu} {s t : State} (item inst : Nat) (h : Spares c s t) : Spares c s (t.calGone item inst) :=
  h.parts rfl rfl rfl (fun _ hr => (List.mem_filter.1 hr).1) rfl

theorem Spares.cal {c : Clu} {s t : State} (x : Cal) (hx : ∀ r ∈ x.runs, r ∈ t.cal.runs) (h : Spares c s t) :
    Spares c s { t with cal := x } := h.parts rfl rfl rfl hx rfl

theorem Spares.calDone {c d : Clu} {s t : State} (qual : Nat) (h : Spares c s t) :
    Spares c s (t.calDone 6 d.val qual (.ccal d)) := by
  have h0 : Spares c s ((t.calGone 6 d.val).calLet 6 d.val) := (h.calGone 6 d.val).calLet 6 d.val
  unfold State.calDone
  exact Spares.raise (Spares.cal _ (fun _ hr => hr) (Spares.wr (Spares.wr (Spares.wr (Spares.wr (Spares.wr (Spares.wr
    (Spares.wr (Spares.wr (Spares.wr h0 rfl) rfl) rfl) rfl) rfl) rfl) rfl) rfl) rfl)) rfl

theorem State.dllFirst_spares (s : State) (c d : Clu) (code qual : Nat) : Spares d s (s.dllFirst c code qual) := by
  have h0 : Spares d s (s.wr (.ccal c) (ITEM.VAL_VALUE 6) code) := (Spares.refl d s).wr rfl
  exact h0.calDone qual

end Sys2Proof.Machine
end

section
/-! PROOFS. The clauses of clusters up and down (R29, R63, R76 to R78). -/

namespace Sys2Proof.Machine

open Reg

/-! ### The domain comes up (R76) -/

/-- A cluster whose domain has come up and whose DLL has locked, before its lanes' bring-up. -/
def State.cluUp (s : State) (c : Clu) (code qual : Nat) : State :=
  (((((s.domainOn c).modClu c fun _ => { phase := .links }).setOp c 0).bump .cal CAL.RUN_CNT).dllFirst c code qual).flag
    (.cpwr c) CPWR.STAT_DLL_LOCK true

theorem exec_clusterPowerOn {s : State} {c : Clu} {code : BitVec 16} {qual : Word} (hd : s.power.dev = .toReady)
    (hs : s.power.sel.testBit c.val = true) (hu : s.domUp c = false) (ho : s.power.domOn = none)
    (hc : calInRange 6 code.toNat = true) :
    exec (.clusterPowerOn c code qual) s = .next ((s.cluUp c code.toNat qual.toNat).each (Clu.lanes c) State.laneOn) := by
  show execClusterPowerOn c code qual s = _
  unfold execClusterPowerOn
  rw [ho]
  dsimp only
  rw [if_pos (by rw [hd, hs, hu]; rfl), hc]
  rfl

/-- The cluster's power page, clock and phase once its domain is up. -/
theorem State.cluUp_up (s : State) (c : Clu) (code qual : Nat) :
    (s.cluUp c code qual).domUp c = true ∧ (s.cluUp c code qual).on (.cpwr c) CPWR.STAT_DLL_LOCK = true ∧
      (s.cluUp c code qual).power.domOn = some s.dclk ∧ (s.cluUp c code qual).clusters[c].phase = .links ∧
      (s.cluUp c code qual).rd .clk CLK.DCLK_CL c.val = 500 := by
  let u := (s.domainOn c).modClu c fun _ => { phase := .links }
  have hd := s.domainOn_spares c
  have hf : Spares c (u.setOp c 0) (((u.setOp c 0).bump .cal CAL.RUN_CNT).dllFirst c code qual) := by
    have h0 : Spares c (u.setOp c 0) ((u.setOp c 0).bump .cal CAL.RUN_CNT) := (Spares.refl c _).wr rfl
    exact h0.trans (State.dllFirst_spares _ c c code qual)
  have hup : u.rd (.cpwr c) CPWR.STAT_DOM_UP = 1 := by
    show (s.domainOn c).rd (.cpwr c) CPWR.STAT_DOM_UP = 1
    rw [hd.cpwr _ _ rfl]
    simp +decide
  refine ⟨?_, ?_, ?_, ?_, ?_⟩
  · show (State.rd _ (.cpwr c) CPWR.STAT_DOM_UP == 1) = true
    unfold State.cluUp
    rw [State.flag_rd_apart _ _ _ _ rfl, hf.cpwr _ _ rfl, State.setOp, State.setDclk_cpwr _ _ _ rfl,
      show (u.setVcl c (opMv 0)).rd (.cpwr c) CPWR.STAT_DOM_UP = 1 from hup]
    rfl
  · simp +decide [State.on, State.cluUp]
  · unfold State.cluUp
    rw [State.flag_power, hf.domOn, State.setOp, State.setDclk_domOn]
    exact hd.domOn
  · unfold State.cluUp
    rw [State.flag_clusters, hf.clu, State.setOp, State.setDclk_clu, State.setVcl, State.modClu_same, State.modClu_same]
  · unfold State.cluUp
    rw [State.flag_rd_page _ _ (by simp) rfl (dclkCl_inPage c), hf.dclk, State.setOp, State.setDclk_dclk]
    rfl

theorem clusterPowerOn_up {s : State} {c : Clu} {code : BitVec 16} {qual : Word} (hd : s.power.dev = .toReady)
    (hs : s.power.sel.testBit c.val = true) (hu : s.domUp c = false) (ho : s.power.domOn = none)
    (hc : calInRange 6 code.toNat = true) :
    ∃ t, exec (.clusterPowerOn c code qual) s = .next t ∧ t.domUp c = true ∧ t.on (.cpwr c) CPWR.STAT_DLL_LOCK = true ∧
      t.power.domOn = some s.dclk ∧ t.clusters[c].phase = .links ∧ t.rd .clk CLK.DCLK_CL c.val = 500 := by
  have hl : Spares c (s.cluUp c code.toNat qual.toNat)
      ((s.cluUp c code.toNat qual.toNat).each (Clu.lanes c) State.laneOn) :=
    Spares.each _ _ (fun _ l _ hu => hu.laneOn l) (Spares.refl _ _)
  obtain ⟨h1, h2, h3, h4, h5⟩ := s.cluUp_up c code.toNat qual.toNat
  refine ⟨_, exec_clusterPowerOn hd hs hu ho hc, hl.domUp.trans h1, (hl.on _ rfl).trans h2, hl.domOn.trans h3, ?_,
    hl.dclk.trans h5⟩
  rw [hl.clu, h4]

/-! ### High voltage (R76 to R78) -/

theorem State.hvRaise_only (s : State) (c : Clu) :
    OnlyFields [(.cpwr c, CPWR.STAT_HVEN, 0)] { s with clusters := (s.hvRaise c).clusters } (s.hvRaise c) := by
  have h := OnlyFields.wr (.cpwr c) CPWR.STAT_HVEN 1 0 (OnlyFields.refl [(.cpwr c, CPWR.STAT_HVEN, 0)] s) (by simp)
  exact ⟨fun k d hk => h.fields k d hk, rfl⟩

theorem State.hvRaise_values (s : State) (c : Clu) :
    (s.hvRaise c).on (.cpwr c) CPWR.STAT_HVEN = true ∧ (s.hvRaise c).clusters[c].phase = .hv ∧
      (s.hvRaise c).clusters[c].hvenAt = s.dclk := by
  have h : (s.hvRaise c).clusters[c] = { s.clusters[c] with phase := .hv, hvenAt := s.dclk } := by
    unfold State.hvRaise
    rw [State.modClu_same, State.wr_clusters]
  refine ⟨?_, by rw [h], by rw [h]⟩
  simp +decide [State.on, State.hvRaise]

theorem hvenSet_raises {s : State} {c : Clu} (hd : s.power.dev = .toReady) (hp : s.clusters[c].phase = .links)
    (hm : s.hvMay c = true) :
    ∃ t, exec (.hvenSet c) s = .next t ∧ t.on (.cpwr c) CPWR.STAT_HVEN = true ∧ t.clusters[c].phase = .hv ∧
      t.clusters[c].hvenAt = s.dclk ∧ OnlyFields [(.cpwr c, CPWR.STAT_HVEN, 0)] { s with clusters := t.clusters } t := by
  obtain ⟨h1, h2, h3⟩ := s.hvRaise_values c
  refine ⟨s.hvRaise c, ?_, h1, h2, h3, s.hvRaise_only c⟩
  show execHvenSet c s = _
  unfold execHvenSet
  exact if_pos (by rw [hd, hp, hm]; rfl)

theorem hvpgRise_ready {s : State} {c : Clu} (hd : s.power.dev = .toReady) (hg : s.on (.cpwr c) CPWR.STAT_HVPG = false)
    (hp : s.clusters[c].phase = .hv) :
    ∃ t, exec (.hvpgRise c) s = .next t ∧ t.on (.cpwr c) CPWR.STAT_HVPG = true ∧ t.clusters[c].phase = .ready ∧
      t.event (.cpwr c) 8 = true := by
  let u := ((s.wr (.cpwr c) CPWR.STAT_HVPG 1).modClu c fun (h : CluHw) => { h with phase := .ready, retry := false }).raise
    (.cpwr c) 8
  have hs : Spares c u u.settleReady.armNext := (Spares.refl c u).settleReady.armNext
  have hu : u.clusters[c] = { s.clusters[c] with phase := .ready, retry := false } := by
    show ((s.wr (.cpwr c) CPWR.STAT_HVPG 1).modClu c fun (h : CluHw) => { h with phase := .ready, retry := false }).clusters[c] = _
    rw [State.modClu_same, State.wr_clusters]
  refine ⟨_, ?_, (hs.on _ rfl).trans ?_, by rw [hs.clu, hu], (hs.event 8).trans (State.raise_event_same _ _ _ (by decide))⟩
  · show execHvpgRise c s = _
    unfold execHvpgRise
    rw [if_pos (by simp [State.devUp, hd, hg])]
    dsimp only
    exact if_pos (by rw [State.wr_clusters, hp]; rfl)
  · simp +decide [State.on, u]

/-- HVEN falls on a failure that has been recorded (R78). -/
def State.hvFails (s : State) (c : Clu) : State := (s.errOpen (.cpwr c) 0x20).hvDrop c

theorem State.hvDrop_clu (s : State) (c : Clu) :
    (s.hvDrop c).clusters[c] = { s.clusters[c] with phase := .failed, tryAt := 500000000 + s.clusters[c].hvenAt } := by
  unfold State.hvDrop
  rw [State.modClu_same, State.wr_clusters]

theorem State.hvDrop_hven (s : State) (c : Clu) : (s.hvDrop c).on (.cpwr c) CPWR.STAT_HVEN = false := by
  simp +decide [State.on, State.hvDrop]

theorem State.hvFails_only (s : State) (c : Clu) : OnlyFields ((.cpwr c, CPWR.STAT_HVEN, 0) :: errorFields (.cpwr c))
    { s with clusters := (s.hvFails c).clusters } (s.hvFails c) := by
  have h := OnlyFields.wr (.cpwr c) CPWR.STAT_HVEN 0 0 (OnlyFields.errOpen (.cpwr c) 0x20
    (OnlyFields.refl ((.cpwr c, CPWR.STAT_HVEN, 0) :: errorFields (.cpwr c)) s) fun _ hf => List.mem_cons_of_mem _ hf) (by simp)
  refine ⟨fun k d hk => h.fields k d hk, ?_⟩
  unfold State.hvFails State.hvDrop State.modClu
  dsimp only
  rw [h.rest]

theorem State.hvFails_error (s : State) (c : Clu) : (s.hvFails c).errorShown (.cpwr c) = s.errorAfter (.cpwr c) 0x20 := by
  unfold State.hvFails State.hvDrop
  rw [State.modClu_errorShown, State.wr_errorShown_apart _ _ _ _ rfl, State.errOpen_errorShown _ _ _ (by decide)]

theorem State.hvFails_clu (s : State) (c : Clu) :
    (s.hvFails c).clusters[c] = { s.clusters[c] with phase := .failed, tryAt := 500000000 + s.clusters[c].hvenAt } := by
  have h : (s.errOpen (.cpwr c) 0x20).clusters = s.clusters := by
    rw [(OnlyFields.errOpen (.cpwr c) 0x20 (OnlyFields.refl (errorFields (.cpwr c)) s) fun _ hf => hf).rest]
  unfold State.hvFails
  rw [State.hvDrop_clu, h]

theorem hvTimeout_toReady {s : State} {c : Clu} (hu : s.devUp = true) (hr : s.power.dev ≠ .ready) (hp : s.power.dev ≠ .print)
    (hc : s.clusters[c].phase = .hv) (ht : s.clusters[c].hvenAt + s.rd (.cpwr c) CPWR.HV_TIME_HV_TMO * 500000 ≤ s.dclk) :
    ∃ t, exec (.hvTimeout c) s = .next t ∧ t.on (.cpwr c) CPWR.STAT_HVEN = false ∧
      t.errorShown (.cpwr c) = s.errorAfter (.cpwr c) 0x20 ∧ t.clusters[c].phase = .failed ∧
      OnlyFields ((.cpwr c, CPWR.STAT_HVEN, 0) :: errorFields (.cpwr c)) { s with clusters := t.clusters } t := by
  refine ⟨s.hvFails c, ?_, State.hvDrop_hven _ c, s.hvFails_error c, by rw [s.hvFails_clu], s.hvFails_only c⟩
  have hpow : (s.hvFails c).power = s.power := by rw [(s.hvFails_only c).rest]
  show execHvTimeout c s = _
  unfold execHvTimeout
  rw [if_pos (by rw [hu, hc, decide_eq_true (by omega)]; rfl)]
  exact if_neg (show ¬ (((s.hvFails c).power.dev == .ready || (s.hvFails c).power.dev == .print) &&
    !(s.hvFails c).clusters[c].retry) = true by rw [hpow]; simp [hr, hp])

theorem hvTimeout_ready {s : State} {c : Clu} (hd : s.power.dev = .ready ∨ s.power.dev = .print)
    (hc : s.clusters[c].phase = .hv) (hn : s.clusters[c].retry = false)
    (ht : s.clusters[c].hvenAt + s.rd (.cpwr c) CPWR.HV_TIME_HV_TMO * 500000 ≤ s.dclk) :
    ∃ t, exec (.hvTimeout c) s = .next t ∧ t.on (.cpwr c) CPWR.STAT_HVEN = false ∧
      t.errorShown (.cpwr c) = s.errorAfter (.cpwr c) 0x20 ∧ t.event (.cpwr c) 11 = true ∧
      t.clusters[c].tryAt = s.clusters[c].hvenAt + 500000000 := by
  have hpow : (s.hvFails c).power = s.power := by rw [(s.hvFails_only c).rest]
  have hu : s.devUp = true := by rcases hd with h | h <;> simp [State.devUp, h]
  refine ⟨((s.hvFails c).modClu c fun (h : CluHw) => { h with retry := true }).raise (.cpwr c) 11, ?_, ?_, ?_,
    State.raise_event_same _ _ _ (by decide), ?_⟩
  · show execHvTimeout c s = _
    unfold execHvTimeout
    rw [if_pos (by rw [hu, hc, decide_eq_true (by omega)]; rfl)]
    refine if_pos (show (((s.hvFails c).power.dev == .ready || (s.hvFails c).power.dev == .print) &&
      !(s.hvFails c).clusters[c].retry) = true from ?_)
    rw [hpow, s.hvFails_clu]
    rcases hd with h | h <;> rw [h, hn] <;> rfl
  · rw [State.on, State.raise_rd_apart _ _ _ _ rfl]
    exact State.hvDrop_hven _ c
  · rw [State.raise_errorShown]
    exact s.hvFails_error c
  · rw [State.raise_clusters, State.modClu_same, s.hvFails_clu]
    exact Nat.add_comm _ _

end Sys2Proof.Machine
end

section
/-! PROOFS. Clusters that lose HVPG, are tried again, and go down (R29, R76, R78). -/

namespace Sys2Proof.Machine

open Reg

/-! ### HVPG lost, HVPG falls, the retry -/

/-- HVPG is lost and recorded, and HVEN falls for good (R78). -/
def State.hvLost (s : State) (c : Clu) : State :=
  ((((s.wr (.cpwr c) CPWR.STAT_HVPG 0).raise (.cpwr c) 9).errOpen (.cpwr c) 0x21).hvDrop c).modClu c
    fun (h : CluHw) => { h with retry := true }

theorem hvpgLost_falls {s : State} {c : Clu} (hu : s.devUp = true) (he : s.on (.cpwr c) CPWR.STAT_HVEN = true)
    (hg : s.on (.cpwr c) CPWR.STAT_HVPG = true) :
    ∃ t, exec (.hvpgLost c) s = .next t ∧ t.on (.cpwr c) CPWR.STAT_HVEN = false ∧ t.on (.cpwr c) CPWR.STAT_HVPG = false ∧
      t.event (.cpwr c) 9 = true ∧ t.errorShown (.cpwr c) = s.errorAfter (.cpwr c) 0x21 ∧ t.clusters[c].phase = .failed := by
  have hs : Spares c (s.hvLost c) ((s.hvLost c).clusterFault c) := (Spares.refl c _).clusterFault c
  refine ⟨(s.hvLost c).clusterFault c, ?_, (hs.on _ rfl).trans (State.hvDrop_hven _ c), (hs.on _ rfl).trans ?_,
    (hs.event 9).trans ?_, hs.errorShown.trans ?_, ?_⟩
  · show execHvpgLost c s = _
    unfold execHvpgLost
    rw [if_pos (by rw [hu, he, hg]; rfl)]
    rfl
  · unfold State.hvLost State.hvDrop State.on
    rw [State.modClu_rd, State.modClu_rd, State.wr_rd_apart _ _ _ _ rfl,
      (OnlyFields.errOpen (.cpwr c) 0x21 (OnlyFields.refl (errorFields (.cpwr c)) _) fun _ hf => hf).fields.rd_off _ _ _ rfl,
      State.raise_rd_apart _ _ _ _ rfl, State.wr_rd_same]
    rfl
  · unfold State.hvLost State.hvDrop
    rw [State.modClu_event, State.modClu_event, State.wr_event_apart _ _ _ _ _ rfl]
    exact (KeepsEvents.refl _).errOpen _ _ _ _ (by decide) (State.raise_event_same _ _ _ (by decide))
  · unfold State.hvLost State.hvDrop
    rw [State.modClu_errorShown, State.modClu_errorShown, State.wr_errorShown_apart _ _ _ _ rfl,
      State.errOpen_errorShown _ _ _ (by decide)]
    refine State.errorAfter_congr ?_ _
    rw [State.raise_errorShown, State.wr_errorShown_apart _ _ _ _ rfl]
  · rw [hs.clu, State.hvLost, State.modClu_same, State.hvDrop_clu]

theorem hvpgFall_discharges {s : State} {c : Clu} (hu : s.devUp = true) (hf : s.power.dev ≠ .fault)
    (hg : s.on (.cpwr c) CPWR.STAT_HVPG = true) (he : s.on (.cpwr c) CPWR.STAT_HVEN = false)
    (hp : s.clusters[c].phase = .fall) :
    ∃ t, exec (.hvpgFall c) s = .next t ∧ t.on (.cpwr c) CPWR.STAT_HVPG = false ∧ t.event (.cpwr c) 9 = true ∧
      t.clusters[c].phase = .discharge ∧
      OnlyFields [(.cpwr c, CPWR.STAT_HVPG, 0), (.cpwr c, HDR.PG_EVT_RAW, 0)] { s with clusters := t.clusters } t := by
  let u := (s.wr (.cpwr c) CPWR.STAT_HVPG 0).raise (.cpwr c) 9
  have ho : OnlyFields [(.cpwr c, CPWR.STAT_HVPG, 0), (.cpwr c, HDR.PG_EVT_RAW, 0)] s u :=
    OnlyFields.raise _ _ (OnlyFields.wr _ _ _ _ (OnlyFields.refl _ s) (by simp)) (by simp)
  have hc : u.clusters = s.clusters := by rw [ho.rest]
  refine ⟨u.modClu c fun (h : CluHw) => { h with phase := .discharge, fellAt := u.dclk }, ?_, ?_,
    State.raise_event_same _ _ _ (by decide), by rw [State.modClu_same], fun k d hk => ho.fields k d hk, ?_⟩
  · show execHvpgFall c s = _
    unfold execHvpgFall
    rw [if_pos (by rw [hu, he, hg]; rfl)]
    refine if_pos (show (u.clusters[c].phase == .fall && u.power.dev != .fault) = true from ?_)
    rw [hc, hp, show u.power = s.power by rw [ho.rest]]
    simpa using hf
  · rw [State.on, State.modClu_rd]
    show State.on u _ _ = false
    rw [State.on, State.raise_rd_apart _ _ _ _ rfl, State.wr_rd_same]
    rfl
  · unfold State.modClu
    rw [ho.rest]

theorem clusterRetry_raises {s : State} {c : Clu} (hd : s.power.dev = .ready ∨ s.power.dev = .print)
    (hp : s.clusters[c].phase = .failed) (hm : s.hvMay c = true) (ht : s.clusters[c].tryAt ≤ s.dclk) :
    ∃ t, exec (.clusterRetry c) s = .next t ∧ t.on (.cpwr c) CPWR.STAT_HVEN = true ∧ t.clusters[c].phase = .hv ∧
      OnlyFields [(.cpwr c, CPWR.STAT_HVEN, 0)] { s with clusters := t.clusters } t := by
  obtain ⟨h1, h2, -⟩ := s.hvRaise_values c
  refine ⟨s.hvRaise c, ?_, h1, h2, s.hvRaise_only c⟩
  show execClusterRetry c s = _
  unfold execClusterRetry
  refine if_pos ?_
  rw [hp, hm, decide_eq_true ht]
  rcases hd with h | h <;> rw [h] <;> rfl

theorem clusterRetry_waits {s : State} {c : Clu} (ht : s.dclk < s.clusters[c].tryAt) :
    exec (.clusterRetry c) s = .next s := by
  show execClusterRetry c s = _
  unfold execClusterRetry
  refine if_neg ?_
  rw [decide_eq_false (by omega), Bool.and_false]
  nofun

/-! ### Down (R76) -/

/-- What a cluster going down ends: its DLL's run, its lanes' scans and its lanes. -/
def State.cluEnded (s : State) (c : Clu) : State :=
  ((s.dllAbort c).each (Clu.lanes c) fun t l => t.awlAborted l false).each (Clu.lanes c) State.laneLost

/-- What its pages hold is lost, and its items' results. -/
def State.cluLost (s : State) (c : Clu) : State := ((s.each (cluPages c) State.resetPage).settlePerm).calForget c

/-- Its power page and its clock show it down. -/
def State.cluStopped (s : State) (c : Clu) : State :=
  let s := ((s.wr (.cpwr c) CPWR.STAT_DOM_UP 0).wr (.cpwr c) CPWR.STAT_HVEN 0).wr (.cpwr c) CPWR.STAT_DLL_LOCK 0
  let s := (s.wr (.cpwr c) CPWR.STAT_OP_ACT 0).wr .clk CLK.DCLK_CL 0 c.val
  let k := s.rd .clk CLK.LOCK
  s.wr .clk CLK.LOCK (if k.testBit c.val then k - 2 ^ c.val else k)

/-- Beside its registers nothing of it is left. -/
def State.cluDark (s : State) (c : Clu) : State :=
  (((s.cluStopped c).softLost (16 * (8 * c.val)) 128).softLost (1024 + 32 * c.val) 32).modClu c fun _ => {}

theorem State.clusterOff_eq {s : State} {c : Clu} (hu : s.domUp c = true) (hb : s.bist.run = none) :
    s.clusterOff c = ((s.cluEnded c).cluLost c).cluDark c := by
  unfold State.clusterOff
  rw [if_pos hu, hb]
  rfl

theorem lockClk_apart (c : Clu) : Row.apart CLK.LOCK 0 CLK.DCLK_CL c.val = true := by
  simp only [Row.apart, dclkCl_inPage, Bool.and_true, Bool.and_eq_true, Bool.not_eq_true', ← Bool.not_eq_true,
    Nat.beq_eq]
  refine ⟨rfl, ?_⟩
  simp only [Row.place, CLK.LOCK, CLK.DCLK_CL]
  omega

theorem State.cluStopped_rd (s : State) (c : Clu) {r : Row} (hr : Row.inPage r 0 = true)
    (ha : Row.apart CPWR.STAT_OP_ACT 0 r 0 = true) : (s.cluStopped c).rd (.cpwr c) r =
      (((s.wr (.cpwr c) CPWR.STAT_DOM_UP 0).wr (.cpwr c) CPWR.STAT_HVEN 0).wr (.cpwr c) CPWR.STAT_DLL_LOCK 0).rd (.cpwr c) r := by
  unfold State.cluStopped
  dsimp only
  rw [State.wr_rd_page _ _ (by simp) rfl hr, State.wr_rd_page _ _ (by simp) (dclkCl_inPage c) hr,
    State.wr_rd_apart _ _ _ _ ha]

theorem State.cluStopped_down (s : State) (c : Clu) : (s.cluStopped c).domUp c = false ∧
    (s.cluStopped c).on (.cpwr c) CPWR.STAT_DLL_LOCK = false ∧ (s.cluStopped c).rd .clk CLK.DCLK_CL c.val = 0 := by
  refine ⟨?_, ?_, ?_⟩
  · rw [State.domUp, State.on, State.cluStopped_rd _ _ rfl rfl, State.wr_rd_apart _ _ _ _ rfl,
      State.wr_rd_apart _ _ _ _ rfl, State.wr_rd_same]
    rfl
  · rw [State.on, State.cluStopped_rd _ _ rfl rfl, State.wr_rd_same]
    rfl
  · unfold State.cluStopped
    dsimp only
    rw [State.wr_rd_apart _ _ _ _ (lockClk_apart c), State.wr_rd_same, Nat.zero_mod]

theorem State.cluDark_down (s : State) (c : Clu) :
    (s.cluDark c).domUp c = false ∧ (s.cluDark c).on (.cpwr c) CPWR.STAT_DLL_LOCK = false ∧
      (s.cluDark c).rd .clk CLK.DCLK_CL c.val = 0 ∧ (s.cluDark c).clusters[c].phase = .off := by
  obtain ⟨h1, h2, h3⟩ := s.cluStopped_down c
  refine ⟨h1, h2, h3, ?_⟩
  unfold State.cluDark
  rw [State.modClu_same]

theorem State.cluDark_beside (s : State) (c : Clu) : (s.cluDark c).bist.run = s.bist.run ∧ (s.cluDark c).cal = s.cal := by
  unfold State.cluDark State.cluStopped State.softLost State.modClu
  dsimp only
  simp only [State.wr_bist, State.wr_cal, and_self]

theorem cluPages_spare {c : Clu} {p : Page} (h : p ∈ cluPages c) : sparePage p = true := by
  rcases List.mem_append.1 h with h | h
  · simp only [List.mem_cons, List.not_mem_nil, or_false] at h
    rcases h with rfl | rfl | rfl | rfl <;> rfl
  · obtain ⟨l, -, hl⟩ := List.mem_flatMap.1 h
    exact lanePages_spare hl

theorem Spares.laneLost {c : Clu} {s t : State} (l : Lane) (h : Spares c s t) : Spares c s (t.laneLost l) := by
  unfold State.laneLost
  exact Spares.modLane l _ ((h.laneOff l).setLane l .off)

theorem Spares.calForget {c d : Clu} {s t : State} (h : Spares d s t) : Spares d s (t.calForget c) := by
  unfold State.calForget
  exact Spares.cal _ (fun _ hr => hr) h

theorem Spares.cluLost {c d : Clu} {s t : State} (h : Spares d s t) : Spares d s (t.cluLost c) :=
  Spares.calForget (Spares.settlePerm (Spares.each _ _ (fun _ _ hp hu => hu.resetPage (cluPages_spare hp)) h))

theorem Spares.cluEnded {c d : Clu} {s : State} (hd : c ≠ d) :
    Spares d (s.calAbort fun r => r.onDll c) (s.cluEnded c) := by
  unfold State.cluEnded State.dllAbort
  refine Spares.each _ _ (fun _ l _ hu => hu.laneLost l) (Spares.each _ _ (fun _ l _ hu => hu.awlAborted l false) ?_)
  exact Spares.each _ _ (fun _ r _ hu => hu.dllEnd hd r.lock) (Spares.refl d _)

/-- A cluster going down leaves the others, and of its own DLL no run. -/
theorem State.clusterOff_others {s : State} {c d : Clu} (hd : c ≠ d) (hu : s.domUp c = true) (hb : s.bist.run = none) :
    (s.clusterOff c).bist.run = none ∧ ∀ r ∈ (s.clusterOff c).cal.runs, r.onDll c = false := by
  have ha : Spares d s (s.calAbort fun r => r.onDll c) := (Spares.refl d s).calAbort _
  have he : Spares d (s.calAbort fun r => r.onDll c) ((s.cluEnded c).cluLost c) := (Spares.cluEnded hd).cluLost
  obtain ⟨hrun, hcal⟩ := ((s.cluEnded c).cluLost c).cluDark_beside c
  rw [State.clusterOff_eq hu hb, hrun, hcal]
  exact ⟨(ha.trans he).test.trans hb, fun r hr => State.calAbort_runs s _ (he.runs r hr)⟩

theorem hvDischargeDone_down {s : State} {c : Clu} (hd : s.power.dev = .toIdle) (hp : s.clusters[c].phase = .discharge)
    (hu : s.domUp c = true) (ht : s.clusters[c].fellAt + s.rd (.cpwr c) CPWR.HV_TIME_HV_DIS_MS * 500000 ≤ s.dclk)
    (hb : s.bist.run = none) :
    ∃ t, exec (.hvDischargeDone c) s = .next t ∧ t.domUp c = false ∧ t.on (.cpwr c) CPWR.STAT_DLL_LOCK = false ∧
      t.rd .clk CLK.DCLK_CL c.val = 0 ∧ t.clusters[c].phase = .off := by
  have h0 : Spares c s s.settleMsix := (Spares.refl c s).settleMsix
  have hu' : s.settleMsix.domUp c = true := h0.domUp.trans hu
  have hb' : s.settleMsix.bist.run = none := h0.test.trans hb
  let o := s.settleMsix.clusterOff c
  obtain ⟨ho, hr⟩ := State.clusterOff_others (d := c + 1) (by fin_cases c <;> decide) hu' hb'
  obtain ⟨h1, h2, h3, h4⟩ := State.cluDark_down ((s.settleMsix.cluEnded c).cluLost c) c
  rw [← State.clusterOff_eq hu' hb'] at h1 h2 h3 h4
  have hk : Spares c o (s.clusterDown c) :=
    Spares.settleMsix (Spares.when _ _ (Spares.refl c o) fun _ hv => hv.headSupply false)
  have hi : Spares c o (if (s.clusterDown c).allOff then (s.clusterDown c).arriveIdle else s.clusterDown c) :=
    Spares.ite (hk.arriveIdle (hk.test.trans ho) fun r hm => hr r (hk.runs r hm)) hk
  refine ⟨_, ?_, hi.domUp.trans h1, (hi.on _ rfl).trans h2, hi.dclk.trans h3, by rw [hi.clu]; exact h4⟩
  show execHvDischargeDone c s = _
  unfold execHvDischargeDone
  exact if_pos (by rw [hd, hp, decide_eq_true (by omega)]; rfl)

end Sys2Proof.Machine
end

section
/-! PROOFS. READY at its deadline, the way back to IDLE and a DLL that loses lock (R29, R63, R77, R84). -/

namespace Sys2Proof.Machine

open Reg

/-! ### READY at the deadline (R63, R77) -/

theorem State.anyRun_congr {s t : State} (h : t.lanes = s.lanes) : t.anyRun = s.anyRun := by
  unfold State.anyRun State.laneRun
  rw [h]

/-- With no lane running and no burst, READY is all that its arrival changes. -/
theorem State.arriveReady_eq {s : State} (hs : s.power.spit = none) (hr : s.anyRun = false) : s.arriveReady = s.setDev .ready := by
  have ho := s.setDev_only .ready
  have hstill : (s.setDev .ready).settlePrint = s.setDev .ready := by
    unfold State.settlePrint
    rw [State.setDev_dev]
    exact if_neg (by rw [State.anyRun_congr (t := s.setDev .ready) (s := s) (by rw [ho.rest]), hr]; nofun)
  unfold State.arriveReady State.spitRestore
  rw [hstill, show (s.setDev .ready).power.spit = none by rw [ho.rest]; exact hs]

theorem exec_toReadyDeadline {s : State} (hd : s.power.dev = .toReady)
    (ht : s.power.readyFrom + (40 + s.power.readyTmo) * 500000 ≤ s.dclk) :
    exec .toReadyDeadline s = .next ((s.each s.selClus State.deadline).arriveReady) := by
  show execToReadyDeadline s = _
  unfold execToReadyDeadline
  rw [if_pos (decide_eq_true (by omega)), if_pos (by rw [hd]; rfl)]

theorem toReadyDeadline_none {s : State} (hd : s.power.dev = .toReady) (hs : s.power.sel = 0) (hp : s.power.spit = none)
    (hr : s.anyRun = false) (ht : s.power.readyFrom + (40 + s.power.readyTmo) * 500000 ≤ s.dclk) :
    ∃ t, exec .toReadyDeadline s = .next t ∧ t.power.dev = .ready ∧ t.event .pwr 6 = true ∧
      OnlyFields [(.pwr, HDR.PG_EVT_RAW, 0), (.sys, HDR.PG_EVT_RAW, 0)] { s with power := { s.power with dev := .ready } } t := by
  refine ⟨s.setDev .ready, ?_, s.setDev_dev _, (State.setDev_event (by rw [hd]; nofun)).1, s.setDev_only _⟩
  rw [exec_toReadyDeadline hd ht, State.selClus, hs]
  simp only [Nat.zero_testBit, List.filter_false]
  exact congrArg _ (State.arriveReady_eq hp hr)

/-- A cluster whose links are not up at the deadline has failed (R77). -/
def State.linksFail (s : State) (c : Clu) : State :=
  ((s.errOpen (.cpwr c) 0x24).modClu c fun (h : CluHw) => { h with phase := .failed, retry := true }).raise (.cpwr c) 11

theorem State.deadline_links {s : State} {c : Clu} (hp : s.clusters[c].phase = .links) (hl : s.linksUp c = false) :
    s.deadline c = s.linksFail c := by
  have hc : s.cluReady c = false := by unfold State.cluReady; rw [hl]; simp
  unfold State.deadline
  dsimp only
  rw [hp, hc]
  rw [if_neg (by simp +decide), if_neg (by decide), if_neg (by decide), hl, if_pos (by decide)]
  rfl

theorem toReadyDeadline_links {s : State} (hd : s.power.dev = .toReady) (hs : s.power.sel = 1) (hp : s.power.spit = none)
    (hr : s.anyRun = false) (ht : s.power.readyFrom + (40 + s.power.readyTmo) * 500000 ≤ s.dclk)
    (hc : s.clusters[(0 : Clu)].phase = .links) (hl : s.linksUp 0 = false) :
    ∃ t, exec .toReadyDeadline s = .next t ∧ t.power.dev = .ready ∧ t.clusters[(0 : Clu)].phase = .failed ∧
      t.errorShown (.cpwr 0) = s.errorAfter (.cpwr 0) 0x24 ∧ t.event (.cpwr 0) 11 = true := by
  have ho : OnlyFields (errorFields (.cpwr 0)) s (s.errOpen (.cpwr 0) 0x24) :=
    OnlyFields.errOpen _ _ (OnlyFields.refl _ s) fun _ hf => hf
  have hpow : (s.linksFail 0).power = s.power := by
    unfold State.linksFail
    rw [State.raise_power]
    show (s.errOpen (.cpwr 0) 0x24).power = _
    rw [ho.rest]
  have hlanes : (s.linksFail 0).lanes = s.lanes := by
    unfold State.linksFail
    rw [State.raise_lanes]
    show (s.errOpen (.cpwr 0) 0x24).lanes = _
    rw [ho.rest]
  have hk : Spares 0 (s.linksFail 0) ((s.linksFail 0).setDev .ready) := (Spares.refl 0 _).setDev .ready
  refine ⟨(s.linksFail 0).setDev .ready, ?_, State.setDev_dev _ _, ?_, hk.errorShown.trans ?_, (hk.event 11).trans
    (State.raise_event_same _ _ _ (by decide))⟩
  · have hsel : s.selClus = [0] := by
      unfold State.selClus
      rw [hs]
      decide
    rw [exec_toReadyDeadline hd ht, hsel]
    show Host.Outcome.next (s.deadline 0).arriveReady = _
    rw [State.deadline_links hc hl, State.arriveReady_eq (by rw [hpow]; exact hp) (by rw [State.anyRun_congr hlanes]; exact hr)]
  · rw [hk.clu, State.linksFail, State.raise_clusters, State.modClu_same]
  · rw [State.linksFail, State.raise_errorShown, State.modClu_errorShown, State.errOpen_errorShown _ _ _ (by decide)]

/-! ### READY's idle time (R63) -/

/-- HVEN of a cluster that is up falls, and its lines discharge (R76). -/
def State.hvenFalls (d : Nat) (s : State) (c : Clu) : State :=
  if s.domUp c then
    (s.wr (.cpwr c) CPWR.STAT_HVEN 0).modClu c fun (h : CluHw) =>
      { h with phase := if s.on (.cpwr c) CPWR.STAT_HVPG then .fall else .discharge, fellAt := d }
  else s

theorem Spares.hvenFalls {c d : Clu} {s t : State} (hd : d ≠ c) (n : Nat) (h : Spares c s t) : Spares c s (t.hvenFalls n d) :=
  Spares.ite ((h.wrCpwr hd rfl).modClu_ne _ hd) h

theorem State.hvenFalls_power (n : Nat) (s : State) (c : Clu) : (s.hvenFalls n c).power = s.power := by
  unfold State.hvenFalls
  split
  · rw [State.modClu_power, State.wr_power]
  · rfl

theorem State.hvenFalls_domUp (n : Nat) (s : State) (c d : Clu) : (s.hvenFalls n d).domUp c = s.domUp c := by
  by_cases h : d = c
  · subst h
    unfold State.hvenFalls
    split
    · rw [State.domUp, State.on, State.modClu_rd, State.wr_rd_apart _ _ _ _ rfl]
      rfl
    · rfl
  · exact ((Spares.refl c s).hvenFalls h n).domUp

theorem State.hvenFalls_same {s : State} {c : Clu} (n : Nat) (h : s.domUp c = true) :
    (s.hvenFalls n c).on (.cpwr c) CPWR.STAT_HVEN = false := by
  unfold State.hvenFalls
  rw [if_pos h, State.on, State.modClu_rd, State.wr_rd_same]
  rfl

theorem State.each_hvenFalls_kept (n : Nat) (cs : List Clu) (s : State) :
    (s.each cs (State.hvenFalls n)).power = s.power ∧ ∀ c, (s.each cs (State.hvenFalls n)).domUp c = s.domUp c := by
  induction cs generalizing s with
  | nil => exact ⟨rfl, fun _ => rfl⟩
  | cons d cs ih =>
    obtain ⟨hp, hu⟩ := ih (s.hvenFalls n d)
    exact ⟨hp.trans (s.hvenFalls_power n d), fun c => (hu c).trans (s.hvenFalls_domUp n c d)⟩

theorem State.each_hvenFalls_low {c : Clu} (n : Nat) (cs : List Clu) (s : State) (hu : s.domUp c = true)
    (hc : c ∈ cs ∨ s.on (.cpwr c) CPWR.STAT_HVEN = false) :
    (s.each cs (State.hvenFalls n)).on (.cpwr c) CPWR.STAT_HVEN = false := by
  induction cs generalizing s with
  | nil => exact hc.resolve_left nofun
  | cons d cs ih =>
    refine ih (s.hvenFalls n d) ((s.hvenFalls_domUp n c d).trans hu) ?_
    by_cases hd : d = c
    · subst hd
      exact Or.inr (State.hvenFalls_same n hu)
    · rcases hc with hm | ho
      · exact Or.inl ((List.mem_cons.1 hm).resolve_left fun e => hd e.symm)
      · exact Or.inr ((((Spares.refl c s).hvenFalls hd n).on _ rfl).trans ho)

theorem State.driversSleep_power (s : State) : s.driversSleep.power = s.power := by
  have h (as : List Axis) (u : State) : (u.each as State.axSleep).power = u.power := by
    induction as generalizing u with
    | nil => rfl
    | cons a as ih =>
      refine (ih (u.axSleep a)).trans ?_
      unfold State.axSleep
      split
      · rfl
      · rw [State.raise_power, State.wr_power]
  exact h _ s

/-- The scans end and the drivers sleep as the device leaves for IDLE. -/
def State.leaves (s : State) : State := (s.scansEnd.setDev .toIdle).driversSleep

theorem State.toIdle_eq {s : State} (h : s.allOff = false) :
    s.toIdle = s.leaves.each allClus (State.hvenFalls s.leaves.dclk) := by
  have hu (c : Clu) : s.leaves.domUp c = s.domUp c :=
    ((((Spares.refl c s).scansEnd).setDev .toIdle).driversSleep).domUp
  unfold State.toIdle
  refine if_neg (show ¬ (s.leaves.each allClus (State.hvenFalls s.leaves.dclk)).allOff = true from ?_)
  unfold State.allOff at h ⊢
  simp only [(State.each_hvenFalls_kept s.leaves.dclk allClus s.leaves).2, hu, h]
  nofun

theorem readyIdleTimeout_toIdle {s : State} (hd : s.power.dev = .ready) (hn : s.rd .pwr PWR.READY_POL ≠ 0)
    (hp : s.intake.pages = []) (ho : s.allOff = false) (hc : s.power.calm = true)
    (ht : s.power.calmFrom + 500000000 * s.rd .pwr PWR.READY_POL ≤ s.dclk) :
    ∃ t, exec .readyIdleTimeout s = .next t ∧ t.power.dev = .toIdle ∧
      (∀ c : Clu, s.domUp c = true → t.on (.cpwr c) CPWR.STAT_HVEN = false) := by
  obtain ⟨hpow, -⟩ := State.each_hvenFalls_kept s.leaves.dclk allClus s.leaves
  refine ⟨s.toIdle, ?_, ?_, fun c hu => ?_⟩
  · show execReadyIdleTimeout s = _
    unfold execReadyIdleTimeout
    refine if_pos ?_
    simp only [State.calmNow, State.noPage, hd, hp, hc, decide_eq_true ht]
    simpa using hn
  · rw [State.toIdle_eq ho, hpow, State.leaves, State.driversSleep_power, State.setDev_dev]
  · rw [State.toIdle_eq ho]
    exact State.each_hvenFalls_low _ _ _
      (((((Spares.refl c s).scansEnd).setDev .toIdle).driversSleep).domUp.trans hu) (Or.inl (List.mem_finRange c))

/-! ### A DLL loses lock (R29) -/

/-- What the fault of a lane does to it beside its state. -/
def State.faultTold (s : State) (l : Lane) : State :=
  (s.awlAborted l false).modLane l fun h => { h with outCause := if h.page.isSome then some (5, 0) else h.outCause }

theorem State.laneFault_cases (s : State) (l : Lane) : s.laneFault l = s ∨
    s.laneFault l = s.modLane l (fun h => { h with awl := { h.awl with after := some .fault } }) ∨
    s.laneFault l = (s.faultTold l).setLane l .fault := by
  unfold State.laneFault
  split
  · exact Or.inl rfl
  · exact Or.inl rfl
  · split
    · exact Or.inr (Or.inl rfl)
    · exact Or.inr (Or.inr rfl)

theorem State.laneFault_step (s : State) (l : Lane) : LaneStep (unlinkFields l) [l] s (s.laneFault l) := by
  rcases s.laneFault_cases l with h | h | h <;> rw [h]
  · exact LaneStep.refl _ _ _
  · exact LaneStep.modLane _ s l _
  · exact (((State.awlAborted_step s l false).mono (by simp +contextual [unlinkFields]) fun _ h => h).trans
      (LaneStep.modLane _ _ l _)).trans ((State.setLane_step _ l .fault).mono (by simp +contextual [unlinkFields]) fun _ h => h)

theorem State.laneFault_idle {s : State} {l : Lane} (h : s.lanes[l].st = .idle) (hf : s.awlFull l = false) :
    (s.laneFault l).lanes[l].st = .fault := by
  unfold State.laneFault
  rw [h]
  dsimp only
  rw [hf]
  exact State.setLane_st _ _ _

theorem State.laneFault_fault {s : State} {l : Lane} (h : s.lanes[l].st = .fault) : (s.laneFault l).lanes[l].st = .fault := by
  rcases s.laneFault_cases l with e | e | e <;> rw [e]
  · exact h
  · rw [State.modLane_same]
    exact h
  · exact State.setLane_st _ _ _

theorem State.laneFault_other {s : State} {k l : Lane} (hk : k ≠ l) :
    (s.laneFault k).lanes[l] = s.lanes[l] ∧ (s.laneFault k).awlFull l = s.awlFull l := by
  have h := s.laneFault_step k
  have hl : (s.laneFault k).lanes[l] = s.lanes[l] := h.lanes l fun hm => hk (List.mem_singleton.1 hm).symm
  refine ⟨hl, State.awlFull_congr ?_ (by rw [hl]) (by rw [h.rest])⟩
  refine h.fields.rd_within (ps := [.pwr, .sys, .cal, .lne k, .seq k, .wav k, .vnl k]) ?_ (by simp [hk.symm]) _ _ rfl
  simp +decide [unlinkFields, setLaneFields, awlFields, errorFields, devFields, calFields, calPageFields, lanePages]

/-- An idle lane without a scan that is full goes to FAULT when its turn comes. -/
theorem State.each_laneFault {l : Lane} (ls : List Lane) (s : State)
    (h : s.lanes[l].st = .fault ∨ (l ∈ ls ∧ s.lanes[l].st = .idle ∧ s.awlFull l = false)) :
    (s.each ls State.laneFault).lanes[l].st = .fault := by
  induction ls generalizing s with
  | nil => exact h.resolve_right fun h => nomatch h.1
  | cons k ls ih =>
    refine ih (s.laneFault k) ?_
    by_cases hk : k = l
    · subst hk
      exact Or.inl (h.elim State.laneFault_fault fun ⟨_, hi, hf⟩ => State.laneFault_idle hi hf)
    · obtain ⟨hl, hf⟩ := State.laneFault_other (s := s) hk
      rw [hl, hf]
      exact h.imp_right fun ⟨hm, hi⟩ => ⟨(List.mem_cons.1 hm).resolve_left fun e => hk e.symm, hi⟩

theorem dllLockLoss_faults {s : State} {c : Clu} (hu : s.devUp = true) (hd : s.domUp c = true)
    (hl : s.on (.cpwr c) CPWR.STAT_DLL_LOCK = true) (hb : s.bist.run = none) :
    ∃ t, exec (.dllLockLoss c) s = .next t ∧ t.on (.cpwr c) CPWR.STAT_DLL_LOCK = false ∧
      (∀ l ∈ Clu.lanes c, s.lanes[l].st = .idle → s.awlFull l = false → t.lanes[l].st = .fault) := by
  let u := s.wr (.cpwr c) CPWR.STAT_DLL_LOCK 0
  have hk : Spares c u (u.clusterFault c) := (Spares.refl c u).clusterFault c
  refine ⟨u.clusterFault c, ?_, (hk.on _ rfl).trans ?_, fun l hm hi hf => State.each_laneFault _ u (Or.inr ⟨hm, ?_, ?_⟩)⟩
  · have hrun : (u.clusterFault c).bist.run = none := hk.test.trans (by rw [State.wr_bist]; exact hb)
    show execDllLockLoss c s = _
    unfold execDllLockLoss
    rw [if_pos (by rw [hu, hd, hl]; rfl)]
    show Host.Outcome.next ((u.clusterFault c).when ((u.clusterFault c).cluTested c) fun t => t.testAbort 2) = _
    rw [State.cluTested, hrun]
    rfl
  · rw [State.on, State.wr_rd_same]
    rfl
  · rw [State.wr_lanes]
    exact hi
  · exact (State.awlFull_congr (State.wr_rd_page _ _ (by simp) rfl rfl) (by rw [State.wr_lanes]) (by rw [State.wr_dclk])).trans hf

end Sys2Proof.Machine

namespace Sys2Proof

open Machine

/-- Settles O45: a cluster's own operations are followed through its power page, its clock and its phase, and what the other
units then do leaves these alone (`Spares`). -/
theorem clusterPower : Obligations.ClusterPower := by
  refine ⟨?_, ?_, ?_, ?_, ?_, ?_, ?_, ?_, ?_, ?_, ?_, ?_, ?_, ?_⟩
  · exact fun _ _ _ _ hd hs hu ho hc => clusterPowerOn_up hd hs hu ho hc
  · exact fun _ _ hd hp hm => hvenSet_raises hd hp hm
  · exact fun _ _ hd hg hp _ => hvpgRise_ready hd hg hp
  · exact fun _ _ hu hr hp hc ht => hvTimeout_toReady hu hr hp hc ht
  · exact fun _ _ hd hc hn ht => hvTimeout_ready hd hc hn ht
  · exact fun _ _ hu he hg _ => hvpgLost_falls hu he hg
  · exact fun _ _ hu hf hg he hp => hvpgFall_discharges hu hf hg he hp
  · exact fun _ _ hd hp hm ht => clusterRetry_raises hd hp hm ht
  · exact fun _ _ _ ht => clusterRetry_waits ht
  · exact fun _ _ hd hp hu ht hb _ => hvDischargeDone_down hd hp hu ht hb
  · exact fun _ hd hs hp hr ht => toReadyDeadline_none hd hs hp hr ht
  · exact fun _ hd hs hp hr ht hc hl => toReadyDeadline_links hd hs hp hr ht hc hl
  · exact fun _ hd hn hp ho hc ht => readyIdleTimeout_toIdle hd hn hp ho hc ht
  · exact fun _ _ hu hd hl hb => dllLockLoss_faults hu hd hl hb

end Sys2Proof
end

section
/-! PROOFS. What other pages keep under the shared operations, and what a lane's spoiled line changes (R265 to R269). -/

namespace Sys2Proof.Machine

open Reg

/-! ### Other pages -/

theorem OtherPages.refl (ps : List Page) (s : State) : OtherPages ps s s := fun _ _ _ _ _ => rfl

theorem OtherPages.trans {ps : List Page} {s t u : State} (h : OtherPages ps s t) (k : OtherPages ps t u) : OtherPages ps s u :=
  fun p r i hp hr => (k p r i hp hr).trans (h p r i hp hr)

theorem OtherPages.mono {ps qs : List Page} {s t : State} (h : OtherPages ps s t) (hs : ∀ p ∈ ps, p ∈ qs) : OtherPages qs s t :=
  fun p r i hp hr => h p r i (fun hm => hp (hs p hm)) hr

/-- Registers that did not change read as before, whatever else did. -/
theorem OtherPages.of_regs {ps : List Page} {s t u : State} (h : OtherPages ps s t) (hr : u.regs = t.regs) : OtherPages ps s u :=
  fun p r i hp hi => (State.rd_congr hr p r i).trans (h p r i hp hi)

theorem OtherPages.wr {ps : List Page} {s t : State} {p : Page} {r : Row} {v i : Nat} (h : OtherPages ps s t) (hp : p ∈ ps)
    (hr : Row.inPage r i = true) : OtherPages ps s (t.wr p r v i) :=
  fun q x j hq hx => (State.wr_rd_page t v (fun e : p = q => hq (e ▸ hp)) hr (by
    simp only [Row.inPage, Row.place, Nat.ble_eq]; omega)).trans (h q x j hq hx)

theorem OtherPages.raise {ps : List Page} {s t : State} {p : Page} {n : Nat} (h : OtherPages ps s t) (hp : p ∈ ps) :
    OtherPages ps s (t.raise p n) := h.wr hp rfl

theorem OtherPages.when {ps : List Page} {s t : State} (b : Bool) (f : State → State) (h : OtherPages ps s t)
    (hf : ∀ u, OtherPages ps s u → OtherPages ps s (f u)) : OtherPages ps s (t.when b f) := by
  unfold State.when
  split
  · exact hf t h
  · exact h

theorem OtherPages.rd {ps : List Page} {s t : State} (h : OtherPages ps s t) {p : Page} (hp : p ∉ ps) {r : Row}
    (hr : Row.inPage r 0 = true) : t.rd p r = s.rd p r :=
  h p r 0 hp (by simp only [Row.inPage, Row.place, Nat.ble_eq] at hr; omega)

theorem OtherPages.event {ps : List Page} {s t : State} (h : OtherPages ps s t) {p : Page} (hp : p ∉ ps) (j : Nat) :
    t.event p j = s.event p j := by
  unfold State.event
  rw [h.rd hp rfl]

/-! ### A spoiled line -/

/-- From s to t a lane's runs, the spoil records and the registers of the spoil ring may change, of what a firing instant
reads nothing else. -/
structure SpoilStep (l : Lane) (s t : State) : Prop where
  pages : OtherPages [.spl] s t
  lane : t.lanes[l] = { s.lanes[l] with run := t.lanes[l].run, after := t.lanes[l].after }
  out : t.out = s.out
  power : t.power = s.power
  pair : t.pair = s.pair

theorem SpoilStep.refl (l : Lane) (s : State) : SpoilStep l s s := ⟨OtherPages.refl _ s, rfl, rfl, rfl, rfl⟩

theorem SpoilStep.trans {l : Lane} {s t u : State} (h : SpoilStep l s t) (k : SpoilStep l t u) : SpoilStep l s u :=
  ⟨h.pages.trans k.pages, by rw [k.lane, h.lane], k.out.trans h.out, k.power.trans h.power, k.pair.trans h.pair⟩

/-- The records change. -/
theorem SpoilStep.records (l : Lane) (s : State) (x : Spoil) : SpoilStep l s { s with spoil := x } :=
  ⟨(OtherPages.refl _ s).of_regs rfl, rfl, rfl, rfl, rfl⟩

theorem SpoilStep.wr (l : Lane) (s : State) {r : Row} (v : Nat) {i : Nat} (hr : Row.inPage r i = true) :
    SpoilStep l s (s.wr .spl r v i) := by
  refine ⟨(OtherPages.refl _ s).wr (by simp) hr, ?_, rfl, rfl, rfl⟩
  rw [State.wr_lanes]

theorem SpoilStep.runs (s : State) (l : Lane) (a b : LaneHw → Option Run) :
    SpoilStep l s (s.modLane l fun h => { h with run := a h, after := b h }) := by
  refine ⟨(OtherPages.refl _ s).of_regs rfl, ?_, rfl, rfl, rfl⟩
  rw [State.modLane_same]

/-- A lane's run is set: that of the lines reported after their instant, or the other. -/
def State.setRun (s : State) (l : Lane) (after : Bool) (r : Option Run) : State :=
  s.modLane l fun h => if after then { h with after := r } else { h with run := r }

theorem State.setRun_step (s : State) (l : Lane) (after : Bool) (r : Option Run) : SpoilStep l s (s.setRun l after r) := by
  cases after
  · exact SpoilStep.runs s l (fun _ => r) fun h => h.after
  · exact SpoilStep.runs s l (fun h => h.run) fun _ => r

theorem State.overflowMerge_step (l : Lane) (s : State) (r : SpoilRec) (last : Nat) : SpoilStep l s (s.overflowMerge r last) := by
  have h (x : Spoil) : SpoilStep l s (({ s with spoil := x }).wr .spl SPL.STAT_OVF 1) :=
    (SpoilStep.records l s x).trans (SpoilStep.wr l _ 1 rfl)
  exact h _

/-- A run that closes while fewer than four records are open goes nowhere else (R267). -/
theorem State.closeRun_step (s : State) (l : Lane) (r : Run) (h : s.spoil.opens.length < 4) : SpoilStep l s (s.closeRun l r) := by
  unfold State.closeRun
  split
  · exact SpoilStep.records l s _
  · dsimp only
    split
    · exact State.overflowMerge_step l s _ _
    · split
      · rename_i ho
        rw [ho] at h
        rw [if_neg (by rw [ho]; omega)]
        exact SpoilStep.records l s _
      · exact SpoilStep.records l s _

theorem State.flushRun_step (s : State) (l : Lane) (after : Bool) (h : s.spoil.opens.length < 4) :
    SpoilStep l s (s.flushRun l after) := by
  unfold State.flushRun
  dsimp only
  split
  · exact SpoilStep.refl l s
  · exact (s.setRun_step l after none).trans (State.closeRun_step _ l _ h)

theorem State.spoilLine_step (s : State) (l : Lane) (t : LineTag) (cause flags detail at_ : Nat) (hc : cause < 15)
    (h : s.spoil.opens.length < 4) : SpoilStep l s (s.spoilLine l t cause flags detail at_) := by
  have hin : Row.inPage SPL.CAUSE_CNT cause = true := by
    simp only [Row.inPage, Row.place, Nat.ble_eq, SPL.CAUSE_CNT]
    omega
  have hb : SpoilStep l s (s.bump .spl SPL.CAUSE_CNT 1 cause) := SpoilStep.wr l s _ hin
  have hf : SpoilStep l s ((s.bump .spl SPL.CAUSE_CNT 1 cause).flushRun l (flags.testBit 4)) :=
    hb.trans (State.flushRun_step _ l _ (by rw [State.bump_spoil]; exact h))
  unfold State.spoilLine
  split
  · exact SpoilStep.refl l s
  · dsimp only
    split
    · exact hb.trans (State.overflowMerge_step l _ _ _)
    · split
      · exact hb.trans (State.setRun_step _ l _ (some _))
      · split
        · exact hb.trans (State.setRun_step _ l _ (some _))
        · exact hf.trans (State.setRun_step _ l _ (some _))

end Sys2Proof.Machine
end

section
/-! PROOFS. The firing instant of a lane's next line (R250 to R253, R262, R265). -/

namespace Sys2Proof.Machine

open Reg

/-! ### What the report of a line leaves -/

/-- From s to t a line is reported: of the lane's SEQ page events alone may change, its queues and its last FIRE marker
stay. -/
structure Reported (l : Lane) (s t : State) : Prop where
  pages : OtherPages [.seq l, .spl] s t
  counts : ∀ r, Row.apart HDR.PG_EVT_RAW 0 r 0 = true → t.rd (.seq l) r = s.rd (.seq l) r
  events : ∀ j < 32, s.event (.seq l) j = true → t.event (.seq l) j = true
  prep : t.lanes[l].prep = s.lanes[l].prep
  due : t.lanes[l].due = s.lanes[l].due
  lastFire : t.lanes[l].lastFire = s.lanes[l].lastFire
  out : t.out = s.out
  power : t.power = s.power
  pair : t.pair = s.pair

theorem Reported.refl (l : Lane) (s : State) : Reported l s s :=
  ⟨OtherPages.refl _ s, fun _ _ => rfl, fun _ _ h => h, rfl, rfl, rfl, rfl, rfl, rfl⟩

theorem Reported.trans {l : Lane} {s t u : State} (h : Reported l s t) (k : Reported l t u) : Reported l s u :=
  ⟨h.pages.trans k.pages, fun r hr => (k.counts r hr).trans (h.counts r hr), fun j hj he => k.events j hj (h.events j hj he),
    k.prep.trans h.prep, k.due.trans h.due, k.lastFire.trans h.lastFire, k.out.trans h.out, k.power.trans h.power,
    k.pair.trans h.pair⟩

theorem SpoilStep.reported {l : Lane} {s t : State} (h : SpoilStep l s t) : Reported l s t := by
  refine ⟨h.pages.mono (by simp), fun r hr => h.pages.rd (by simp) ?_, fun j _ he => (h.pages.event (by simp) j).trans he, ?_, ?_, ?_,
    h.out, h.power, h.pair⟩
  · simp only [Row.apart, Bool.and_eq_true] at hr
    exact hr.1.2
  all_goals rw [h.lane]

theorem Reported.raise (s : State) (l : Lane) (n : Nat) : Reported l s (s.raise (.seq l) n) := by
  refine ⟨(OtherPages.refl _ s).raise (by simp), fun r hr => State.raise_rd_apart _ _ _ _ hr,
    fun j hj he => State.raise_event_of _ _ _ _ _ he hj, ?_, ?_, ?_, rfl, rfl, rfl⟩
  all_goals rw [State.raise_lanes]

/-- A change of what the lane holds beside its queues. -/
theorem Reported.modLane (s : State) (l : Lane) (f : LaneHw → LaneHw) (hp : ∀ h, (f h).prep = h.prep) (hd : ∀ h, (f h).due = h.due)
    (hf : ∀ h, (f h).lastFire = h.lastFire) : Reported l s (s.modLane l f) := by
  refine ⟨(OtherPages.refl _ s).of_regs rfl, fun _ _ => rfl, fun _ _ he => he, ?_, ?_, ?_, rfl, rfl, rfl⟩
  · rw [State.modLane_same, hp]
  · rw [State.modLane_same, hd]
  · rw [State.modLane_same, hf]

theorem State.lineReport_reported {s : State} {l : Lane} (p : PrepLine) (at_ : Nat) (hs : s.shadow = false)
    (ho : s.spoil.opens.length < 4) : Reported l s (s.lineReport l p at_) := by
  have hg (u : State) (b : Bool) : Reported l u (u.modLane l fun h => { h with guarded := b }) :=
    Reported.modLane u l _ (fun _ => rfl) (fun _ => rfl) fun _ => rfl
  have hw : Reported l s (s.when (!s.lanes[l].guarded) fun t => t.raise (.seq l) 11) ∧
      (s.when (!s.lanes[l].guarded) fun t => t.raise (.seq l) 11).spoil = s.spoil := by
    unfold State.when
    split
    · exact ⟨Reported.raise s l 11, State.raise_spoil ..⟩
    · exact ⟨Reported.refl l s, rfl⟩
  have hl (u : State) (c f d : Nat) (hc : c < 15) (hu : u.spoil = s.spoil) : Reported l u (u.spoilLine l p.tag c f d at_) :=
    (State.spoilLine_step u l p.tag c f d at_ hc (by rw [hu]; exact ho)).reported
  have hf (u : State) (hu : u.spoil = s.spoil) : Reported l u (u.flushRun l false) :=
    (State.flushRun_step u l false (by rw [hu]; exact ho)).reported
  unfold State.lineReport
  rw [hs]
  dsimp only
  rw [if_neg (by simp)]
  split
  · exact (hg s false).trans (hl _ _ _ _ (by decide) rfl)
  · split
    · exact hw.1.trans ((hg _ true).trans (hl _ _ _ _ (by decide) hw.2))
    · exact (hg s false).trans (hf _ rfl)

theorem State.lineLost_reported {s : State} {l : Lane} (tag : LineTag) {cause : Nat} (detail at_ : Nat)
    (hd : s.power.dev ≠ .fault) (hs : s.shadow = false) (hc : cause < 15) (ho : s.spoil.opens.length < 4) :
    Reported l s (s.lineLost l tag cause detail at_) := by
  unfold State.lineLost
  rw [if_neg (by simpa using hd), hs, if_neg (by simp)]
  exact (State.spoilLine_step s l tag cause 0 detail at_ hc ho).reported

/-! ### A FIRE marker -/

/-- The lifetime counts alone change in what a lane holds. -/
structure WinOnly (l : Lane) (s t : State) : Prop where
  regs : t.regs = s.regs
  lane : t.lanes[l] = { s.lanes[l] with win := t.lanes[l].win }
  out : t.out = s.out
  power : t.power = s.power
  pair : t.pair = s.pair
  spoil : t.spoil = s.spoil

theorem WinOnly.refl (l : Lane) (s : State) : WinOnly l s s := ⟨rfl, rfl, rfl, rfl, rfl, rfl⟩

theorem WinOnly.setWin {l : Lane} {s t : State} (w v : Nat) (h : WinOnly l s t) : WinOnly l s (t.setWin l w v) := by
  refine ⟨h.regs, ?_, h.out, h.power, h.pair, h.spoil⟩
  unfold State.setWin
  rw [State.modLane_same, h.lane]

theorem State.countFires_win (s : State) (l : Lane) (levels : List Nat) : WinOnly l s (s.countFires l levels) := by
  have h (es : List (Nat × Nat)) (u : State) (hu : WinOnly l s u) : WinOnly l s (u.each es fun t e =>
      if e.1 = 0 then t
      else
        let w := winCounts + 2 * e.2
        let n := t.winWord l w + 2 ^ 32 * t.winWord l (w + 1)
        if n < 2 ^ 48 - 1 then (t.setWin l w ((n + 1) % 2 ^ 32)).setWin l (w + 1) ((n + 1) / 2 ^ 32) else t) := by
    induction es generalizing u with
    | nil => exact hu
    | cons e es ih =>
      refine ih _ ?_
      dsimp only
      split
      · exact hu
      · split
        · exact (hu.setWin _ _).setWin _ _
        · exact hu
  exact h _ s (WinOnly.refl l s)

/-- The marker is out, and the lane notes it. -/
def State.markerOut (s : State) (l : Lane) (at_ n : Nat) (tag : Option LineTag) : State :=
  let s := (s.emit (.fire l.val n)).modLane l fun h => { h with fires := h.fires ++ [{ seq := n, tag, at_ }] }
  let s := { s with power := { s.power with dry := 0 } }
  s.modLane l fun h => { h with lastFire := some at_, noTemp := h.noTemp + 1 }

theorem State.markerOut_lane (s : State) (l : Lane) (at_ n : Nat) (tag : Option LineTag) :
    (s.markerOut l at_ n tag).lanes[l] = { s.lanes[l] with
      fires := s.lanes[l].fires ++ [{ seq := n, tag, at_ }], lastFire := some at_, noTemp := s.lanes[l].noTemp + 1 } := by
  have h : (s.markerOut l at_ n tag).lanes[l] = _ := State.modLane_same ..
  have hm : ((s.emit (.fire l.val n)).modLane l fun h => { h with fires := h.fires ++ [{ seq := n, tag, at_ }] }).lanes[l] = _ :=
    State.modLane_same ..
  rw [h]
  dsimp only
  rw [hm]
  rfl

theorem State.sendFire_eq {s : State} (l : Lane) (at_ n : Nat) (tag : Option LineTag) (levels : List Nat) (hs : s.shadow = false) :
    s.sendFire l at_ n tag levels = (s.markerOut l at_ n tag).countFires l levels := by
  unfold State.sendFire
  rw [hs]
  rfl

/-- A lead sends the marker, and notes when (R250, R262). -/
theorem State.sendFire_sent {s : State} (l : Lane) (at_ n : Nat) (tag : Option LineTag) (levels : List Nat) (hs : s.shadow = false) :
    (s.sendFire l at_ n tag levels).regs = s.regs ∧ (s.sendFire l at_ n tag levels).out = s.out ++ [.fire l.val n] ∧
      (s.sendFire l at_ n tag levels).power = { s.power with dry := 0 } ∧
      (s.sendFire l at_ n tag levels).pair = s.pair ∧ (s.sendFire l at_ n tag levels).spoil = s.spoil ∧
      (s.sendFire l at_ n tag levels).lanes[l].prep = s.lanes[l].prep ∧
      (s.sendFire l at_ n tag levels).lanes[l].due = s.lanes[l].due ∧
      (s.sendFire l at_ n tag levels).lanes[l].lastFire = some at_ ∧
      (s.sendFire l at_ n tag levels).lanes[l].st = s.lanes[l].st := by
  have h := State.countFires_win (s.markerOut l at_ n tag) l levels
  rw [State.sendFire_eq l at_ n tag levels hs]
  refine ⟨h.regs, h.out, h.power, h.pair, h.spoil, ?_, ?_, ?_, ?_⟩
  all_goals rw [h.lane, State.markerOut_lane]

/-- The line has fired, before its report (R250). -/
def State.lineSent (s : State) (l : Lane) (p : PrepLine) (at_ n : Nat) : State :=
  let s := (s.sendFire l at_ n (some p.tag) p.levels).bump (.seq l) SEQ.FIRED
  let s := (s.wr (.seq l) SEQ.LAST_WL p.tag.wl).modLane l fun h => { h with takeover := false }
  { s with intake := { s.intake with pages := s.intake.pages.map fun (q : PageSt) =>
    if q.desc.id = p.tag.page then { q with lastFired := q.lastFired.setIfInBounds p.tag.plane (some p.tag.wl) } else q } }

theorem State.lineSent_lane (s : State) (l : Lane) (p : PrepLine) (at_ n : Nat) :
    (s.lineSent l p at_ n).lanes[l] = { (s.sendFire l at_ n (some p.tag) p.levels).lanes[l] with takeover := false } :=
  State.modLane_same (((s.sendFire l at_ n (some p.tag) p.levels).bump (.seq l) SEQ.FIRED).wr (.seq l) SEQ.LAST_WL p.tag.wl) l
    fun h => { h with takeover := false }

theorem State.lineFires_eq {s : State} {l : Lane} (p : PrepLine) (at_ n : Nat) (hs : s.shadow = false) (ha : s.lanes[l].st ≠ .armed) :
    s.lineFires l p at_ n = (s.lineSent l p at_ n).lineReport l p at_ := by
  obtain ⟨-, -, -, -, -, -, -, -, hst⟩ := s.sendFire_sent l at_ n (some p.tag) p.levels hs
  have h : ((s.lineSent l p at_ n).lanes[l].st == .armed) = false := by
    rw [State.lineSent_lane, hst]
    simpa using ha
  show (if ((s.lineSent l p at_ n).lanes[l].st == .armed) = true then (s.lineSent l p at_ n).setLane l .firing
    else s.lineSent l p at_ n).lineReport l p at_ = _
  rw [h, if_neg (by simp)]

end Sys2Proof.Machine
end

section
/-! PROOFS. What a firing instant comes to: the line fires, or a check of R250 fails (R250, R251). -/

namespace Sys2Proof.Machine

open Reg

/-- A lane whose next line is prepared, at its firing instant, with nothing that keeps the line from firing but the checks of
R250. -/
structure AtInstant (s : State) (l : Lane) (d : Due) (ds : List Due) (p : PrepLine) (ps : List PrepLine) (at_ : Nat) : Prop where
  up : s.devUp = true
  dev : s.power.dev ≠ .fault
  lead : s.shadow = false
  due : s.lanes[l].due = d :: ds
  instant : d.instant = some at_
  now : at_ ≤ s.dclk
  miss : d.miss = none
  last : d.tag.last = false
  prep : s.lanes[l].prep = p :: ps
  ord : p.tag.ord = d.tag.ord
  ue : p.ue = false
  opens : s.spoil.opens.length < 4

/-- The line has left the lane's queues. -/
def State.dueTaken (s : State) (l : Lane) (ps : List PrepLine) : State :=
  (s.modLane l fun h => { h with due := h.due.tail }).modLane l fun h => { h with prep := ps }

theorem State.dueTaken_lane (s : State) (l : Lane) (ps : List PrepLine) :
    (s.dueTaken l ps).lanes[l] = { s.lanes[l] with due := s.lanes[l].due.tail, prep := ps } := by
  unfold State.dueTaken
  rw [State.modLane_same, State.modLane_same]

/-- What the instant of a prepared line comes to (R250). -/
def State.lineInstant (s : State) (l : Lane) (d : Due) (at_ : Nat) (p : Option PrepLine) : State :=
  let framed : Bool := match p with
    | some q => q.frame.isSome
    | none => false
  let running := framed && !frameEnded at_ p && !s.shadow
  match s.lineCause l d p with
  | some (c, detail) => (s.when running fun t => t.emit (.abort l.val)).lineLost l d.tag c detail at_
  | none =>
    match s.fireChecks l d.tag at_ p with
    | some c => (s.when running fun t => t.emit (.abort l.val)).lineSkipped l d.tag c at_
    | none =>
      match p with
      | some q => s.lineFires l q at_ (frameSeq q)
      | none => s

/-- Lines held for promotion that the other half has cleared are forgotten (R352). -/
def State.pastCleared (s : State) (l : Lane) : State :=
  s.modLane l fun h => { h with past := h.past.filter fun e => decide (s.pair.fClear < e.tag.tick) }

variable {s : State} {l : Lane} {d : Due} {ds : List Due} {p : PrepLine} {ps : List PrepLine} {at_ : Nat}

theorem AtInstant.takeDue (h : AtInstant s l d ds p ps at_) : s.takeDue l d = (s.dueTaken l ps, some p) := by
  have hp : (s.modLane l fun h => { h with due := h.due.tail }).lanes[l].prep = p :: ps := by
    rw [State.modLane_same]
    exact h.prep
  unfold State.takeDue
  dsimp only
  rw [hp]
  exact if_pos h.ord

theorem AtInstant.taken (h : AtInstant s l d ds p ps at_) :
    (s.dueTaken l ps).lanes[l].prep = ps ∧ (s.dueTaken l ps).lanes[l].due = ds := by
  rw [State.dueTaken_lane, h.due]
  exact ⟨rfl, rfl⟩

theorem AtInstant.tooSoon_taken : (s.dueTaken l ps).tooSoon l d.tag at_ = s.tooSoon l d.tag at_ := by
  unfold State.tooSoon
  rw [State.dueTaken_lane]
  rfl

theorem AtInstant.exec (h : AtInstant s l d ds p ps at_)
    (hs : ((s.dueTaken l ps).lineInstant l d at_ (some p)).pair = s.pair) :
    Machine.exec (.firingInstant l) s = .next (((s.dueTaken l ps).lineInstant l d at_ (some p)).pastCleared l) := by
  have hm (u : State) (hu : u.pair = s.pair) : u.holdMirror l = u := by
    unfold State.holdMirror
    rw [show u.shadow = false by unfold State.shadow; rw [hu]; exact h.lead]
    rfl
  show execFiringInstant l s = _
  unfold execFiringInstant
  rw [h.due]
  dsimp only
  rw [h.instant]
  dsimp only
  rw [if_pos (by rw [h.up, decide_eq_true h.now]; rfl), h.takeDue]
  dsimp only
  rw [if_neg (by rw [h.last]; nofun)]
  exact congrArg _ (hm (((s.dueTaken l ps).lineInstant l d at_ (some p)).pastCleared l) hs)

theorem State.pastCleared_reported (s : State) (l : Lane) : Reported l s (s.pastCleared l) :=
  Reported.modLane s l _ (fun _ => rfl) (fun _ => rfl) fun _ => rfl

/-! ### The line fires -/

theorem AtInstant.lineCause_framed (h : AtInstant s l d ds p ps at_) (hf : p.frame.isSome = true) :
    (s.dueTaken l ps).lineCause l d (some p) = none := by
  unfold State.lineCause
  rw [h.miss]
  dsimp only
  rw [h.ue, if_neg (by nofun)]
  unfold State.heldCause
  rw [hf]
  rfl

theorem frameEnded_framed {n b e : Nat} (hf : p.frame = some (n, b, e)) : frameEnded at_ (some p) = decide (e ≤ at_) := by
  unfold frameEnded
  rw [Option.bind_some, hf]

theorem AtInstant.fires (h : AtInstant s l d ds p ps at_) {n b e : Nat} (hf : p.frame = some (n, b, e)) (he : e ≤ at_)
    (ht : s.tooSoon l d.tag at_ = false) :
    (s.dueTaken l ps).lineInstant l d at_ (some p) = (s.dueTaken l ps).lineFires l p at_ n := by
  have hc : (s.dueTaken l ps).fireChecks l d.tag at_ (some p) = none := by
    unfold State.fireChecks
    rw [AtInstant.tooSoon_taken, ht, frameEnded_framed hf, decide_eq_true he]
    rfl
  unfold State.lineInstant
  rw [h.lineCause_framed (by rw [hf]; rfl), hc]
  dsimp only
  rw [frameSeq, hf]

theorem State.lineSent_sent (p : PrepLine) (at_ n : Nat) (hs : s.shadow = false) :
    (s.lineSent l p at_ n).out = s.out ++ [.fire l.val n] ∧ (s.lineSent l p at_ n).power = { s.power with dry := 0 } ∧
      (s.lineSent l p at_ n).pair = s.pair ∧ (s.lineSent l p at_ n).spoil = s.spoil ∧
      (s.lineSent l p at_ n).lanes[l].prep = s.lanes[l].prep ∧ (s.lineSent l p at_ n).lanes[l].due = s.lanes[l].due ∧
      (s.lineSent l p at_ n).lanes[l].lastFire = some at_ := by
  obtain ⟨-, hout, hpow, hpair, hspoil, hprep, hdue, hlast, -⟩ := s.sendFire_sent l at_ n (some p.tag) p.levels hs
  rw [State.lineSent_lane]
  exact ⟨hout, hpow, hpair, hspoil, hprep, hdue, hlast⟩

theorem State.lineSent_rd (p : PrepLine) (at_ n : Nat) (hs : s.shadow = false) (q : Page) (r : Row) (i : Nat) :
    (s.lineSent l p at_ n).rd q r i = ((s.bump (.seq l) SEQ.FIRED).wr (.seq l) SEQ.LAST_WL p.tag.wl).rd q r i := by
  obtain ⟨hregs, -⟩ := s.sendFire_sent l at_ n (some p.tag) p.levels hs
  refine State.rd_congr ?_ q r i
  show (((s.sendFire l at_ n (some p.tag) p.levels).bump (.seq l) SEQ.FIRED).wr (.seq l) SEQ.LAST_WL p.tag.wl).regs = _
  have hb : ((s.sendFire l at_ n (some p.tag) p.levels).bump (.seq l) SEQ.FIRED).regs = (s.bump (.seq l) SEQ.FIRED).regs := by
    rw [State.bump, State.bump, State.wr_regs, State.wr_regs, hregs, State.rd_congr hregs]
  rw [State.wr_regs, State.wr_regs, hb]

/-- The line fires: one marker with its SEQ goes out (R250). -/
theorem firingInstant_fires (h : AtInstant s l d ds p ps at_) {n b e : Nat} (hf : p.frame = some (n, b, e)) (he : e ≤ at_)
    (ha : s.lanes[l].st ≠ .armed) (ht : s.tooSoon l d.tag at_ = false) :
    ∃ t, exec (.firingInstant l) s = .next t ∧ t.out = s.out ++ [.fire l.val n] ∧ t.lanes[l].prep = ps ∧
      t.lanes[l].due = ds ∧ t.lanes[l].lastFire = some at_ ∧ t.power.dry = 0 ∧
      t.rd (.seq l) SEQ.FIRED = min (s.rd (.seq l) SEQ.FIRED + 1) (2 ^ 32 - 1) ∧
      t.rd (.seq l) SEQ.LAST_WL = p.tag.wl % 2 ^ 48 ∧ OtherPages [.seq l, .spl] s t := by
  let u := s.dueTaken l ps
  have hu : u.shadow = false := h.lead
  have hi : u.lineInstant l d at_ (some p) = (u.lineSent l p at_ n).lineReport l p at_ := by
    rw [h.fires hf he ht]
    refine State.lineFires_eq p at_ n hu ?_
    rw [State.dueTaken_lane]
    exact ha
  obtain ⟨hout, hpow, hpair, hspoil, hprep, hdue, hlast⟩ := State.lineSent_sent (s := u) (l := l) p at_ n hu
  have hr := State.lineReport_reported (s := u.lineSent l p at_ n) (l := l) p at_
    (by unfold State.shadow; rw [hpair]; exact h.lead) (by rw [hspoil]; exact h.opens)
  have ht := hr.trans (State.pastCleared_reported _ l)
  have hrd (r : Row) := State.lineSent_rd (s := u) (l := l) p at_ n hu (.seq l) r 0
  refine ⟨_, h.exec (by rw [hi, hr.pair, hpair]; rfl), ?_⟩
  rw [hi]
  refine ⟨ht.out.trans hout, ?_, ?_, ht.lastFire.trans hlast, by rw [ht.power, hpow], ?_, ?_, ?_⟩
  · rw [ht.prep, hprep]
    exact h.taken.1
  · rw [ht.due, hdue]
    exact h.taken.2
  · rw [ht.counts _ rfl, hrd, State.wr_rd_apart _ _ _ _ rfl, State.bump_rd_same]
    rfl
  · rw [ht.counts _ rfl, hrd, State.wr_rd_same]
    rfl
  · refine OtherPages.trans (t := u.lineSent l p at_ n) (fun q r i hq hi => ?_) ht.pages
    rw [State.lineSent_rd p at_ n hu q r i]
    exact (((OtherPages.refl [.seq l, .spl] u).wr (by simp) rfl).wr (by simp) rfl) q r i hq hi

/-! ### A check fails -/

/-- A line is skipped: the count of the check, and the event, before its report. -/
def State.skipTold (s : State) (l : Lane) (c : Nat) : State :=
  (s.bump (.seq l) (if c = 10 then SEQ.SKIP else SEQ.LATE)).raise (.seq l) 12

/-- What every line that a check of R250 keeps from firing comes to. -/
theorem firingInstant_skips (h : AtInstant s l d ds p ps at_) {c : Nat} (hc : c = 9 ∨ c = 10) (w : State)
    (hw : w = s.dueTaken l ps ∨ w = (s.dueTaken l ps).emit (.abort l.val))
    (hi : (s.dueTaken l ps).lineInstant l d at_ (some p) = w.lineSkipped l d.tag c at_) :
    ∃ t, exec (.firingInstant l) s = .next t ∧ Reported l (w.skipTold l c) t ∧ t.lanes[l].prep = ps ∧ t.lanes[l].due = ds ∧
      t.lanes[l].lastFire = s.lanes[l].lastFire ∧ t.out = w.out ∧
      t.rd (.seq l) (if c = 10 then SEQ.SKIP else SEQ.LATE) =
        min (s.rd (.seq l) (if c = 10 then SEQ.SKIP else SEQ.LATE) + 1) (2 ^ 32 - 1) ∧
      t.event (.seq l) 12 = true ∧ t.rd (.seq l) SEQ.FIRED = s.rd (.seq l) SEQ.FIRED := by
  obtain ⟨hlanes, hregs, hpair, hpow, hspoil⟩ : w.lanes = (s.dueTaken l ps).lanes ∧ w.regs = s.regs ∧ w.pair = s.pair ∧
      w.power = s.power ∧ w.spoil = s.spoil := by
    rcases hw with rfl | rfl <;> exact ⟨rfl, rfl, rfl, rfl, rfl⟩
  have hc15 (b : Bool) : (if b then 8 else c) < 15 := by
    split
    · decide
    · omega
  have hsk : Reported l (w.skipTold l c) (w.lineSkipped l d.tag c at_) :=
    State.lineLost_reported d.tag 0 at_ (by rw [State.skipTold, State.raise_power, State.bump_power, hpow]; exact h.dev)
      (by unfold State.shadow; rw [State.skipTold, State.raise_pair, State.bump_pair, hpair]; exact h.lead)
      (hc15 _)
      (by rw [State.skipTold, State.raise_spoil, State.bump_spoil, hspoil]; exact h.opens)
  have ht := hsk.trans (State.pastCleared_reported _ l)
  have hl : (w.skipTold l c).lanes[l] = (s.dueTaken l ps).lanes[l] := by
    rw [State.skipTold, State.raise_lanes, State.bump_lanes, hlanes]
  refine ⟨_, h.exec ?_, ?_⟩
  · rw [hi, hsk.pair, State.skipTold, State.raise_pair, State.bump_pair, hpair]
  rw [hi]
  refine ⟨ht, by rw [ht.prep, hl, h.taken.1], by rw [ht.due, hl, h.taken.2], ?_, ?_, ?_, ?_, ?_⟩
  · rw [ht.lastFire, hl, State.dueTaken_lane]
  · rw [ht.out, State.skipTold, State.raise_out, State.bump_out]
  · rcases hc with rfl | rfl
    · rw [if_neg (by decide), ht.counts _ rfl, State.skipTold, State.raise_rd_apart _ _ _ _ rfl, if_neg (by decide),
        State.bump_rd_same, State.rd_congr hregs]
      rfl
    · rw [if_pos rfl, ht.counts _ rfl, State.skipTold, State.raise_rd_apart _ _ _ _ rfl, if_pos rfl,
        State.bump_rd_same, State.rd_congr hregs]
      rfl
  · exact ht.events 12 (by decide) (State.raise_event_same _ _ _ (by decide))
  · rw [ht.counts _ rfl, State.skipTold, State.raise_rd_apart _ _ _ _ rfl,
      State.bump_rd_apart _ _ _ _ (by rcases hc with rfl | rfl <;> rfl), State.rd_congr hregs]

theorem firingInstant_tooSoon (h : AtInstant s l d ds p ps at_) {n b e : Nat} (hf : p.frame = some (n, b, e)) (he : e ≤ at_)
    (ht : s.tooSoon l d.tag at_ = true) :
    ∃ t, exec (.firingInstant l) s = .next t ∧ t.out = s.out ∧ t.lanes[l].prep = ps ∧ t.lanes[l].due = ds ∧
      t.lanes[l].lastFire = s.lanes[l].lastFire ∧
      t.rd (.seq l) SEQ.SKIP = min (s.rd (.seq l) SEQ.SKIP + 1) (2 ^ 32 - 1) ∧ t.event (.seq l) 12 = true ∧
      t.rd (.seq l) SEQ.FIRED = s.rd (.seq l) SEQ.FIRED := by
  have hi : (s.dueTaken l ps).lineInstant l d at_ (some p) = (s.dueTaken l ps).lineSkipped l d.tag 10 at_ := by
    have hc : (s.dueTaken l ps).fireChecks l d.tag at_ (some p) = some 10 := by
      unfold State.fireChecks
      rw [AtInstant.tooSoon_taken, ht]
      rfl
    have hend : frameEnded at_ (some p) = true := (frameEnded_framed hf).trans (decide_eq_true he)
    unfold State.lineInstant
    rw [h.lineCause_framed (by rw [hf]; rfl), hc, hend]
    dsimp only [State.when]
    rw [if_neg (by simp)]
  obtain ⟨t, hx, -, hprep, hdue, hlast, hout, hcnt, hev, hfired⟩ := firingInstant_skips h (Or.inr rfl) _ (Or.inl rfl) hi
  exact ⟨t, hx, hout, hprep, hdue, hlast, hcnt, hev, hfired⟩

theorem firingInstant_unsent (h : AtInstant s l d ds p ps at_) (hf : p.frame = none) (hh : p.held = none)
    (ho : s.lanes[l].outCause = none) (hs : s.lanes[l].st = .firing) (ht : s.tooSoon l d.tag at_ = false) :
    ∃ t, exec (.firingInstant l) s = .next t ∧ t.out = s.out ∧ t.lanes[l].prep = ps ∧ t.lanes[l].due = ds ∧
      t.rd (.seq l) SEQ.LATE = min (s.rd (.seq l) SEQ.LATE + 1) (2 ^ 32 - 1) ∧ t.event (.seq l) 12 = true ∧
      t.rd (.seq l) SEQ.FIRED = s.rd (.seq l) SEQ.FIRED := by
  have hi : (s.dueTaken l ps).lineInstant l d at_ (some p) = (s.dueTaken l ps).lineSkipped l d.tag 9 at_ := by
    have hout : (s.dueTaken l ps).outOf l false = none := by
      unfold State.outOf
      rw [State.dueTaken_lane]
      dsimp only
      rw [if_neg (by nofun), ho, hs]
      exact if_neg (show ¬ (s.power.dev == .fault) = true by simpa using h.dev)
    have hl : (s.dueTaken l ps).lineCause l d (some p) = none := by
      unfold State.lineCause
      rw [h.miss]
      dsimp only
      rw [h.ue, if_neg (by nofun)]
      unfold State.heldCause
      rw [hf, hh]
      dsimp only [Option.isSome_none]
      rw [hout]
      rfl
    have hc : (s.dueTaken l ps).fireChecks l d.tag at_ (some p) = some 9 := by
      unfold State.fireChecks frameEnded
      rw [AtInstant.tooSoon_taken, ht, Option.bind_some, hf]
      rfl
    unfold State.lineInstant
    rw [hl, hc]
    dsimp only [State.when]
    rw [hf, if_neg (by simp)]
  obtain ⟨t, hx, -, hprep, hdue, -, hout, hcnt, hev, hfired⟩ := firingInstant_skips h (Or.inl rfl) _ (Or.inl rfl) hi
  exact ⟨t, hx, hout, hprep, hdue, hcnt, hev, hfired⟩

theorem firingInstant_aborts (h : AtInstant s l d ds p ps at_) {n b e : Nat} (hf : p.frame = some (n, b, e)) (he : at_ < e)
    (ht : s.tooSoon l d.tag at_ = false) :
    ∃ t, exec (.firingInstant l) s = .next t ∧ t.out = s.out ++ [.abort l.val] ∧ t.lanes[l].prep = ps ∧ t.lanes[l].due = ds ∧
      t.rd (.seq l) SEQ.LATE = min (s.rd (.seq l) SEQ.LATE + 1) (2 ^ 32 - 1) ∧ t.event (.seq l) 12 = true ∧
      t.rd (.seq l) SEQ.FIRED = s.rd (.seq l) SEQ.FIRED := by
  have hi : (s.dueTaken l ps).lineInstant l d at_ (some p) =
      ((s.dueTaken l ps).emit (.abort l.val)).lineSkipped l d.tag 9 at_ := by
    have hend : frameEnded at_ (some p) = false := (frameEnded_framed hf).trans (decide_eq_false (by omega))
    have hc : (s.dueTaken l ps).fireChecks l d.tag at_ (some p) = some 9 := by
      unfold State.fireChecks
      rw [AtInstant.tooSoon_taken, ht, hend]
      rfl
    unfold State.lineInstant
    rw [h.lineCause_framed (by rw [hf]; rfl), hc, hend]
    dsimp only [State.when]
    rw [hf, show (s.dueTaken l ps).shadow = false from h.lead]
    rfl
  obtain ⟨t, hx, -, hprep, hdue, -, hout, hcnt, hev, hfired⟩ := firingInstant_skips h (Or.inl rfl) _ (Or.inr rfl) hi
  exact ⟨t, hx, hout, hprep, hdue, hcnt, hev, hfired⟩

end Sys2Proof.Machine
end

section
/-! PROOFS. A line's frame, HOLD, RESUME and the guards of an idle lane (R249, R261 to R263, R302). -/

namespace Sys2Proof.Machine

open Reg

/-! ### The frame of a line -/

theorem State.modLane_modLane (s : State) (l : Lane) (f g : LaneHw → LaneHw) :
    (s.modLane l f).modLane l g = s.modLane l fun h => g (f h) := by
  have h : (s.modLane l f).lanes[l] = f s.lanes[l] := State.modLane_same s l f
  unfold State.modLane at h ⊢
  dsimp only at h ⊢
  rw [h]
  congr 1
  exact Vector.set_set ..

/-- The line of a prepared line, as it goes out (R302). -/
def State.lineOut (s : State) (l : Lane) (p : PrepLine) : Out :=
  .line l.val (lineFrame p.bank p.set (s.rd .pair PAIR.EPOCH_EPOCH) s.lanes[l].seq l.val p.tag.wl p.levels.length p.tag.page
    false p.levels) (crc32c (lineFrame p.bank p.set (s.rd .pair PAIR.EPOCH_EPOCH) s.lanes[l].seq l.val p.tag.wl
      p.levels.length p.tag.page false p.levels))

/-- A prepared line whose frame has started, the frame's number and times noted. -/
def State.framed (s : State) (l : Lane) (p : PrepLine) : PrepLine :=
  { p with frame := some (s.lanes[l].seq, s.dclk, s.dclk + frameDclk p.levels.length (s.rd (.vnl l) VNL.STAT_RATE)) }

/-- What the lane holds once a frame has started. -/
def State.frameStarted (s : State) (l : Lane) (p : PrepLine) (ps : List PrepLine) : State :=
  ({ s with out := s.out ++ [s.lineOut l p] } : State).modLane l fun h =>
    { h with seq := (s.lanes[l].seq + 1) % 65536, prep := s.framed l p :: ps }

theorem State.sendLine_prepared {s : State} (l : Lane) (p : PrepLine) (ps : List PrepLine) (hs : s.shadow = false) :
    (s.sendLine l p.bank p.set p.tag.wl p.tag.page false p.levels).modLane l
        (fun h => { h with prep := s.framed l p :: ps }) = (s.frameStarted l p ps).bump (.vnl l) VNL.LINES_TX := by
  have h : (s.sendLine l p.bank p.set p.tag.wl p.tag.page false p.levels).modLane l
      (fun h => { h with prep := s.framed l p :: ps }) =
      ((((s.emit (s.lineOut l p)).bump (.vnl l) VNL.LINES_TX).modLane l fun h =>
        { h with seq := (h.seq + 1) % 65536 }).modLane l fun h => { h with prep := s.framed l p :: ps }) := by
    unfold State.sendLine
    rw [hs]
    rfl
  rw [h, State.modLane_modLane]
  rfl

theorem exec_lineFrameStart {s : State} {l : Lane} {p : PrepLine} {ps : List PrepLine} (hu : s.devUp = true)
    (hp : s.prepares l = true) (hl : s.linkUp l = true) (hf : s.portFree l = true) (hs : s.shadow = false)
    (hq : s.lanes[l].prep = p :: ps) (he : p.ue = false) (hn : p.frame = none) (hh : p.held = none) (hr : p.ready ≤ s.dclk) :
    exec (.lineFrameStart l) s = .next ((s.frameStarted l p ps).bump (.vnl l) VNL.LINES_TX) := by
  show execLineFrameStart l s = _
  unfold execLineFrameStart
  rw [if_pos (by rw [hu, hp, hl, hf]; rfl), hq]
  dsimp only
  rw [if_neg (by rw [he, hh, hn]; simpa using hr)]
  exact congrArg _ (State.sendLine_prepared l p ps hs)

theorem lineFrameStart_held {s : State} {l : Lane} {p : PrepLine} {ps : List PrepLine} (hq : s.lanes[l].prep = p :: ps)
    (hh : p.held.isSome = true) : exec (.lineFrameStart l) s = .next s := by
  show execLineFrameStart l s = _
  unfold execLineFrameStart
  split
  · rw [hq]
    exact if_pos (by rw [hh]; simp)
  · rfl

/-! ### HOLD (R262) -/

theorem setLaneFields_off (l : Lane) {r : Row} {i : Nat} (h : FieldAt.off (setLaneFields 0) r i = true) :
    FieldAt.off (setLaneFields l) r i = true := h

/-- The registers tell of a HOLD and its cause. -/
def State.holdTold (s : State) (l : Lane) (why : Nat) : State :=
  let s := s.modLane l fun h => { h with holdTemp := if why = 1 then s.rd (.seq l) SEQ.TEMP_READING else 0 }
  (((s.wr (.seq l) SEQ.STAT_HOLD_WHY why).bump (.seq l) SEQ.HOLD_CNT).raise (.seq l) 8).when (why == 2) fun t =>
    t.raise (.seq l) 14

theorem State.enterHold_eq {s : State} {l : Lane} (why : Nat) (hs : s.shadow = false)
    (hl : s.lanes[l].st = .armed ∨ s.lanes[l].st = .firing) : s.enterHold l why = (s.holdTold l why).setLane l .hold := by
  unfold State.enterHold
  rw [if_pos (by rcases hl with h | h <;> rw [h] <;> rfl), hs]
  rfl

theorem tempLost_holds {s : State} {l : Lane} (hu : s.devUp = true) (hs : s.shadow = false)
    (ht : s.rd (.seq l) SEQ.TEMP_RES_TMO ≤ s.lanes[l].noTemp) (hl : s.lanes[l].st = .armed ∨ s.lanes[l].st = .firing) :
    ∃ t, exec (.tempLost l) s = .next t ∧ t.lanes[l].st = .hold ∧ t.rd (.seq l) SEQ.STAT_HOLD_WHY = 2 ∧
      t.rd (.seq l) SEQ.HOLD_CNT = min (s.rd (.seq l) SEQ.HOLD_CNT + 1) (2 ^ 32 - 1) ∧ t.event (.seq l) 8 = true ∧
      t.event (.seq l) 14 = true ∧ OtherLanes [l] s t := by
  let u := ((s.modLane l fun h => { h with holdTemp := 0 }).wr (.seq l) SEQ.STAT_HOLD_WHY 2).bump (.seq l) SEQ.HOLD_CNT
  have he : s.enterHold l 2 = ((u.raise (.seq l) 8).raise (.seq l) 14).setLane l .hold := State.enterHold_eq 2 hs hl
  have hk := State.setLane_step ((u.raise (.seq l) 8).raise (.seq l) 14) l .hold
  refine ⟨((u.raise (.seq l) 8).raise (.seq l) 14).setLane l .hold, ?_, State.setLane_st _ _ _, ?_, ?_, ?_, ?_, fun k hm => ?_⟩
  · show execTempLost l s = _
    unfold execTempLost
    rw [if_pos (by rw [hu, decide_eq_true ht]; rfl), he]
  · rw [hk.fields.rd_off _ _ _ (setLaneFields_off l (by decide)), State.raise_rd_apart _ _ _ _ rfl,
      State.raise_rd_apart _ _ _ _ rfl, State.bump_rd_apart _ _ _ _ rfl, State.wr_rd_same]
    rfl
  · rw [hk.fields.rd_off _ _ _ (setLaneFields_off l (by decide)), State.raise_rd_apart _ _ _ _ rfl,
      State.raise_rd_apart _ _ _ _ rfl, State.bump_rd_same, State.wr_rd_apart _ _ _ _ rfl]
    rfl
  · exact hk.events _ _ (by decide) (State.raise_event_of _ _ _ _ _ (State.raise_event_same _ _ _ (by decide)) (by decide))
  · exact hk.events _ _ (by decide) (State.raise_event_same _ _ _ (by decide))
  · rw [hk.lanes k hm, State.raise_lanes, State.raise_lanes]
    exact State.modLane_ne s (fun h => { h with holdTemp := 0 }) fun (e : l = k) => hm (List.mem_singleton.2 e.symm)

/-! ### RESUME (R263) -/

theorem exec_seqResume {s : State} {req : Req} {l : Lane} (h : s.ready req (.seq l) = true) :
    exec (.seqResume req l) s = .next (({ s with reply := .posted req.code } : State).seqResume l) := by
  show Host.Outcome.next (s.command req (.seq l) 0x5C fun s => s.seqResume l) = _
  rw [State.command_ready h]

/-- The HOLD has ended, and the registers tell it. -/
def State.resumed (s : State) (l : Lane) : State := ((s.holdEnds l).wr (.seq l) SEQ.STAT_HOLD_WHY 0).raise (.seq l) 9

theorem State.resumed_lane (s : State) (l : Lane) : (s.resumed l).lanes[l] = { s.lanes[l] with
    prep := s.lanes[l].prep.map fun (p : PrepLine) =>
      if p.frame.isSome || p.held.isSome then p else { p with held := s.outOf l false } } := by
  unfold State.resumed State.holdEnds
  rw [State.raise_lanes, State.wr_lanes, State.modLane_same]

theorem State.seqResume_runs {s : State} {l : Lane} {id : Nat} (hs : s.lanes[l].st = .hold) (hc : s.holdCleared l = true)
    (hp : s.lanes[l].page = some id) (ho : s.spoil.overflow = none) : s.seqResume l = (s.resumed l).setLane l .firing := by
  have hspoil : (s.resumed l).spoil = s.spoil := by
    unfold State.resumed
    rw [State.raise_spoil, State.wr_spoil]
    rfl
  have hruns : (s.resumed l).laneRuns l .firing = (s.resumed l).setLane l .firing := by
    unfold State.laneRuns
    rw [hspoil, ho]
    rfl
  unfold State.seqResume
  rw [if_neg (by rw [hs]; decide), hc, if_neg (by decide)]
  refine Eq.trans (if_pos (show (s.resumed l).lanes[l].page.isSome = true from ?_)) hruns
  rw [State.resumed_lane, hp]
  rfl

theorem seqResume_fires {s : State} {req : Req} {l : Lane} {id : Nat} (h : s.ready req (.seq l) = true)
    (hs : s.lanes[l].st = .hold) (hc : s.holdCleared l = true) (hp : s.lanes[l].page = some id) (ho : s.spoil.overflow = none) :
    ∃ t, exec (.seqResume req l) s = .next t ∧ t.lanes[l].st = .firing ∧ t.rd (.seq l) SEQ.STAT_HOLD_WHY = 0 ∧
      t.event (.seq l) 9 = true ∧ OtherLanes [l] s t := by
  let u : State := { s with reply := .posted req.code }
  have hk := State.setLane_step (u.resumed l) l .firing
  refine ⟨_, (exec_seqResume h).trans (congrArg _ (State.seqResume_runs (s := u) hs hc hp ho)), State.setLane_st _ _ _, ?_,
    hk.events _ _ (by decide) (State.raise_event_same _ _ _ (by decide)), fun k hm => ?_⟩
  · rw [hk.fields.rd_off _ _ _ (setLaneFields_off l (by decide)), State.resumed, State.raise_rd_apart _ _ _ _ rfl,
      State.wr_rd_same]
    rfl
  · rw [hk.lanes k hm, State.resumed, State.raise_lanes, State.wr_lanes]
    exact State.modLane_ne u _ fun (e : l = k) => hm (List.mem_singleton.2 e.symm)

/-- A line that HOLD kept back stays unsent: it carries the cause of the HOLD (R262, R263). -/
theorem seqResume_keepsBack {s : State} {req : Req} {l : Lane} {id : Nat} {p : PrepLine} {ps : List PrepLine}
    (h : s.ready req (.seq l) = true) (hs : s.lanes[l].st = .hold) (hc : s.holdCleared l = true)
    (hp : s.lanes[l].page = some id) (ho : s.spoil.overflow = none) (hoc : s.lanes[l].outCause = none)
    (hd : s.power.dev ≠ .fault) (hq : s.lanes[l].prep = p :: ps) (hf : p.frame = none) (hh : p.held = none) :
    ∃ t, exec (.seqResume req l) s = .next t ∧ t.lanes[l].prep.head? = some { p with
      held := some (if s.rd (.seq l) SEQ.STAT_HOLD_WHY = 3 then (6, 0) else (7, s.lanes[l].holdTemp)) } := by
  let u : State := { s with reply := .posted req.code }
  have hout : u.outOf l false = some (if s.rd (.seq l) SEQ.STAT_HOLD_WHY = 3 then (6, 0) else (7, s.lanes[l].holdTemp)) := by
    show s.outOf l false = _
    unfold State.outOf
    rw [if_neg (by nofun), hoc, hs]
    dsimp only
    rw [if_neg (by simpa using hd)]
    split <;> rfl
  refine ⟨_, (exec_seqResume h).trans (congrArg _ (State.seqResume_runs (s := u) hs hc hp ho)), ?_⟩
  rw [State.setLane_lane, State.resumed_lane, show u.lanes[l].prep = p :: ps from hq, hout]
  simp [hf, hh]

theorem seqResume_notHeld {s : State} {req : Req} {l : Lane} (h : s.ready req (.seq l) = true) (hs : s.lanes[l].st ≠ .hold) :
    ∃ t, exec (.seqResume req l) s = .next t ∧ t.errorShown (.seq l) = s.errorAfter (.seq l) 0x20 ∧
      OnlyFields (errorFields (.seq l)) { s with reply := .posted req.code } t := by
  have hd : ({ s with reply := .posted req.code } : State).seqResume l =
      ({ s with reply := .posted req.code } : State).errOpen (.seq l) 0x20 := if_pos (by simpa using hs)
  exact ⟨_, (exec_seqResume h).trans (congrArg _ hd), State.errOpen_errorShown _ _ _ (by decide),
    OnlyFields.errOpen _ _ (OnlyFields.refl _ _) fun _ hf => hf⟩

theorem State.seqResume_stands {s : State} {l : Lane} (hs : s.lanes[l].st = .hold) (hc : s.holdCleared l = false) :
    s.seqResume l = s.errOpen (.seq l) (if s.rd (.seq l) SEQ.STAT_HOLD_WHY = 3 then 0x22 else 0x21) := by
  unfold State.seqResume
  rw [if_neg (by rw [hs]; decide), hc]
  rfl

theorem seqResume_causeStands {s : State} {req : Req} {l : Lane} (h : s.ready req (.seq l) = true)
    (hs : s.lanes[l].st = .hold) (hc : s.holdCleared l = false) :
    ∃ t, exec (.seqResume req l) s = .next t ∧
      t.errorShown (.seq l) = s.errorAfter (.seq l) (if s.rd (.seq l) SEQ.STAT_HOLD_WHY = 3 then 0x22 else 0x21) ∧
      OnlyFields (errorFields (.seq l)) { s with reply := .posted req.code } t := by
  refine ⟨_, (exec_seqResume h).trans (congrArg _ (State.seqResume_stands (s := { s with reply := .posted req.code }) hs hc)),
    State.errOpen_errorShown _ _ _ ?_, OnlyFields.errOpen _ _ (OnlyFields.refl _ _) fun _ hf => hf⟩
  split <;> decide

/-! ### The guards of an idle lane (R261) -/

theorem guardIdleExpiry_empties {s : State} {l : Lane} {head : Bool} (hu : s.devUp = true)
    (hi : ∀ f, s.lanes[l].lastFire = some f →
      f + (if head then s.rd (.seq l) SEQ.GUARD_H else s.rd (.seq l) SEQ.GUARD_E_WE) * 3125 ≤ s.dclk) :
    exec (.guardIdleExpiry l head) s = .next (s.modLane l fun h =>
      if head then { h with energy := [] } else { h with credit := [] }) := by
  show execGuardIdleExpiry l head s = _
  unfold execGuardIdleExpiry
  dsimp only
  refine if_pos ?_
  rw [hu]
  cases hl : s.lanes[l].lastFire with
  | none => rfl
  | some f =>
    have := hi f hl
    exact decide_eq_true (by omega)

end Sys2Proof.Machine
end

section
/-! PROOFS. The preparation of a line (R249, R255, R259 to R261, R265). -/

namespace Sys2Proof.Machine

open Reg

/-! ### An entry for the Den -/

/-- The fields in which a dropped entry shows (R390). -/
def denFields : List FieldAt := [(.den, DEN.DROP_CNT, 0), (.den, HDR.PG_EVT_RAW, 0)]

/-- Only what the Den holds changes, and the registers of a dropped entry. -/
def DenOnly (s t : State) : Prop := OnlyFields denFields { s with den := t.den } t

theorem DenOnly.refl (s : State) : DenOnly s s := OnlyFields.refl _ s

theorem DenOnly.trans {s t u : State} (h : DenOnly s t) (k : DenOnly t u) : DenOnly s u := by
  refine OnlyFields.of_parts (u := s) (Untouched.trans (t := t) h.fields k.fields) rfl ?_
  refine SameParts.trans ?_ (OnlyFields.sameParts k)
  rw [OnlyFields.rest h]
  simp [SameParts]

theorem DenOnly.den (s : State) (x : Den) : DenOnly s { s with den := x } := OnlyFields.refl _ _

theorem DenOnly.ite {q : Prop} [Decidable q] {s t u : State} (h : DenOnly s t) (k : DenOnly s u) :
    DenOnly s (if q then t else u) := by
  split
  · exact h
  · exact k

theorem State.denRoom_den (s : State) : DenOnly s s.denRoom := by
  exact DenOnly.ite (DenOnly.den s _) (DenOnly.refl s)

theorem State.denPump_den (s : State) : DenOnly s s.denPump := by
  unfold State.denPump
  split
  · exact DenOnly.ite (DenOnly.den s _) (DenOnly.refl s)
  · exact DenOnly.refl s

theorem State.denSettle_den (s : State) : DenOnly s s.denSettle :=
  (s.denRoom_den.trans s.denRoom.denPump_den).trans (State.denRoom_den _)

theorem State.denDrop_den (s : State) (type time : Nat) : DenOnly s (s.denDrop type time) := by
  have hb : DenOnly s (s.bump .den DEN.DROP_CNT) := OnlyFields.bump _ _ _ _ (OnlyFields.refl _ _) (by simp [denFields])
  have hr (u : State) : DenOnly u (u.raise .den 10) := OnlyFields.raise _ _ (OnlyFields.refl _ _) (by simp [denFields])
  unfold State.denDrop
  dsimp only
  split
  · exact hb.trans ((DenOnly.den _ _).trans (hr _))
  · exact hb.trans (DenOnly.den _ _)

theorem State.denPushFatal_den (s : State) (e : DenReq) : DenOnly s (s.denPushFatal e) := by
  unfold State.denPushFatal
  split
  · exact DenOnly.den s _
  · split
    · exact (DenOnly.den s _).trans (State.denDrop_den _ _ _)
    · exact State.denDrop_den _ _ _

theorem State.denPush_den (s : State) (e : DenReq) : DenOnly s (s.denPush e) := by
  exact (DenOnly.ite (State.denPushFatal_den s _) (DenOnly.ite (State.denDrop_den s _ _) (DenOnly.den s _))).trans
    (State.denSettle_den _)

theorem State.denSramUe_den (s : State) (src array word found lane : Nat) :
    DenOnly s (s.denSramUe src array word found lane) := by
  have hw (u : State) (b : Bool) (f : State → State) (hf : DenOnly u (f u)) : DenOnly u (u.when b f) := by
    unfold State.when
    split
    · exact hf
    · exact DenOnly.refl u
  exact DenOnly.ite (DenOnly.refl s) ((State.denPush_den s _).trans (hw _ _ _ (DenOnly.den _ _)))

/-! ### Band, set and SOFT (R255) -/

/-- The fields in which band and SOFT of a lane show, and SLOWREQ's sources (R255, R281). -/
def bandFields (l : Lane) : List FieldAt :=
  [(.seq l, SEQ.STAT_BAND, 0), (.seq l, SEQ.STAT_SOFT, 0), (.seq l, SEQ.STAT_REDUCED, 0), (.seq l, HDR.PG_EVT_RAW, 0),
    (.wav l, HDR.PG_EVT_RAW, 0), (.pace, PACE.STAT_SRC_SOFT, 0)] ++ slowFields

theorem bandFields_within (l : Lane) : FieldAt.within [.seq l, .wav l, .pace] (bandFields l) := by
  simp +decide [bandFields, slowFields]

theorem State.settleSoft_quiet (s : State) (l : Lane) : QuietOnly (bandFields l) s s.settleSoft := by
  have hf (b : Bool) : OnlyFields (bandFields l) s (s.flag .pace PACE.STAT_SRC_SOFT b) :=
    OnlyFields.flag _ _ _ _ (OnlyFields.refl _ _) (by simp [bandFields])
  exact (QuietOnly.of_only (hf _)).trans ((State.settleSlow_quiet _).mono fun _ h => List.mem_append_right _ h)

/-- Band and SOFT of a lane follow its reading, before the source of SLOWREQ does. -/
def State.bandTold (s : State) (l : Lane) : State :=
  let t := s.rdS (.seq l) SEQ.TEMP_READING
  let hyst : Int := s.rd (.wav l) WAV.HYST
  let old := s.rd (.seq l) SEQ.STAT_BAND
  let band := bandNext (s.thresholds l) hyst t s.lanes[l].freshBand old
  let was := s.on (.seq l) SEQ.STAT_SOFT
  let soft := softNext was (s.rdS (.seq l) SEQ.TEMP_LIM_T_SOFT) hyst t
  let s := (s.wr (.seq l) SEQ.STAT_BAND band).when (band != old) fun u => u.raise (.wav l) 8
  ((s.flag (.seq l) SEQ.STAT_SOFT soft).flag (.seq l) SEQ.STAT_REDUCED soft).when (soft && !was) fun u => u.raise (.seq l) 10

theorem State.takeBand_eq (s : State) (l : Lane) :
    s.takeBand l = ((s.bandTold l).modLane l fun h => { h with freshBand := false }).settleSoft := rfl

theorem State.bandTold_only (s : State) (l : Lane) : OnlyFields (bandFields l) s (s.bandTold l) := by
  have hm (f : FieldAt) (h : f ∈ (bandFields l).take 5) : f ∈ bandFields l := List.mem_of_mem_take h
  exact OnlyFields.when _ _ (OnlyFields.flag _ _ _ _ (OnlyFields.flag _ _ _ _ (OnlyFields.when _ _
    (OnlyFields.wr _ _ _ _ (OnlyFields.refl _ _) (hm _ (by simp [bandFields])))
    fun _ hu => OnlyFields.raise _ _ hu (hm _ (by simp [bandFields]))) (hm _ (by simp [bandFields])))
    (hm _ (by simp [bandFields]))) fun _ hu => OnlyFields.raise _ _ hu (hm _ (by simp [bandFields]))

/-- From s to t a lane prepares: of the other pages and lanes nothing changes, and nothing goes out. -/
structure Prepares (ps : List Page) (l : Lane) (s t : State) : Prop where
  pages : OtherPages ps s t
  lanes : OtherLanes [l] s t
  out : t.out = s.out

theorem Prepares.trans {ps : List Page} {l : Lane} {s t u : State} (h : Prepares ps l s t) (k : Prepares ps l t u) :
    Prepares ps l s u :=
  ⟨h.pages.trans k.pages, fun i hi => (k.lanes i hi).trans (h.lanes i hi), k.out.trans h.out⟩

theorem Prepares.mono {ps qs : List Page} {l : Lane} {s t : State} (h : Prepares ps l s t) (hs : ∀ p ∈ ps, p ∈ qs) :
    Prepares qs l s t := ⟨h.pages.mono hs, h.lanes, h.out⟩

theorem Prepares.modLane (ps : List Page) (s : State) (l : Lane) (f : LaneHw → LaneHw) : Prepares ps l s (s.modLane l f) :=
  ⟨(OtherPages.refl _ s).of_regs rfl, fun _ hk => State.modLane_ne s f fun e => hk (List.mem_singleton.2 e.symm), rfl⟩

/-- The preparation takes its time, and band and SOFT follow the reading (R249, R255). -/
def State.bandRead (s : State) (l : Lane) (ready : Nat) : State :=
  (s.modLane l fun h => { h with prepEnd := ready }).takeBand l

/-- The line's place in the FIFO is free as well. -/
def State.bandTaken (s : State) (l : Lane) (ready : Nat) : State :=
  (s.bandRead l ready).modLane l fun h => { h with fifo := h.fifo.tail }

theorem State.bandTaken_rd (s : State) (l : Lane) (ready : Nat) (p : Page) (r : Row) (i : Nat) :
    (s.bandTaken l ready).rd p r i = (s.bandRead l ready).rd p r i := State.modLane_rd ..

theorem State.bandTaken_untouched (s : State) (l : Lane) (ready : Nat) : Untouched (bandFields l) s (s.bandTaken l ready) := by
  let a := s.modLane l fun h => { h with prepEnd := ready }
  have h1 : Untouched (bandFields l) a (a.bandTold l) := (a.bandTold_only l).fields
  have h2 := (State.settleSoft_quiet ((a.bandTold l).modLane l fun h => { h with freshBand := false }) l).untouched
  exact Untouched.trans (t := a.bandTold l) h1 h2

theorem State.takeBand_lanes (s : State) (l : Lane) :
    (s.takeBand l).lanes = (s.modLane l fun h => { h with freshBand := false }).lanes ∧ (s.takeBand l).out = s.out := by
  have hb := s.bandTold_only l
  have hq : OnlyFields _ _ _ := State.settleSoft_quiet ((s.bandTold l).modLane l fun h => { h with freshBand := false }) l
  rw [State.takeBand_eq, hq.rest]
  unfold State.modLane
  dsimp only
  rw [hb.rest]
  exact ⟨rfl, rfl⟩

theorem State.takeBand_at (s : State) (l k : Lane) :
    (s.takeBand l).lanes[k] = (s.modLane l fun h => { h with freshBand := false }).lanes[k] := by
  rw [(s.takeBand_lanes l).1]

theorem State.bandTaken_lane (s : State) (l : Lane) (ready : Nat) : (s.bandTaken l ready).lanes[l] =
    { s.lanes[l] with prepEnd := ready, freshBand := false, fifo := s.lanes[l].fifo.tail } := by
  unfold State.bandTaken State.bandRead
  rw [State.modLane_same, State.takeBand_at, State.modLane_same, State.modLane_same]

theorem State.bandTaken_prepares (s : State) (l : Lane) (ready : Nat) :
    Prepares [.seq l, .wav l, .pace] l s (s.bandTaken l ready) := by
  refine ⟨OtherPages.of_untouched (s.bandTaken_untouched l ready) (bandFields_within l), fun k hk => ?_,
    (State.takeBand_lanes _ l).2⟩
  have hne : l ≠ k := fun e => hk (List.mem_singleton.2 e.symm)
  unfold State.bandTaken State.bandRead
  rw [State.modLane_ne _ _ hne, State.takeBand_at, State.modLane_ne _ _ hne, State.modLane_ne _ _ hne]

theorem State.bandTaken_seq (s : State) (l : Lane) (ready : Nat) {r : Row} (hr : Row.inPage r 0 = true)
    (h : FieldAt.off ((bandFields 0).take 4) r 0 = true) : (s.bandTaken l ready).rd (.seq l) r = s.rd (.seq l) r := by
  refine (s.bandTaken_untouched l ready).rd_clear ?_
  simp only [bandFields, List.take, FieldAt.off_cons, FieldAt.off_nil, Bool.and_eq_true, List.cons_append] at h
  simp +decide [bandFields, slowFields, hr, h]

theorem State.bandTaken_bank (s : State) (l : Lane) (ready : Nat) :
    (s.bandTaken l ready).rd (.wav l) WAV.BANK_ACTIVE = s.rd (.wav l) WAV.BANK_ACTIVE := by
  refine (s.bandTaken_untouched l ready).rd_clear ?_
  simp +decide [bandFields, slowFields]

/-- The set a line of the lane is prepared with (R255). -/
def State.setOf (s : State) (l : Lane) : Nat := if s.on (.seq l) SEQ.STAT_SOFT then 8 else s.rd (.seq l) SEQ.STAT_BAND

/-! ### The guards (R259, R260) -/

/-- What both guards leave of the state, and of the line. -/
structure Guarding (l : Lane) (s : State) (f : FifoLine) (set bank : Nat) (g : State × PrepLine) : Prop where
  prepares : Prepares [.seq l] l s g.1
  seq : ∀ r, FieldAt.off [(.seq 0, SEQ.GUARD_E_CNT, 0), (.seq 0, SEQ.DEMOTE_CNT, 0)] r 0 = true →
    g.1.rd (.seq l) r = s.rd (.seq l) r
  fifo : g.1.lanes[l].fifo = s.lanes[l].fifo
  prep : g.1.lanes[l].prep = s.lanes[l].prep
  line : (g.2.tag, g.2.bank, g.2.taint, g.2.ue, g.2.set) = (f.tag, bank, f.taint, false, set)
  levels : s.on (.seq l) SEQ.CTRL_GUARD_E = false → s.on (.seq l) SEQ.CTRL_GUARD_H = false →
    g.2.levels = f.levels.map fun x => min x 7

theorem guardNozzle_idle (we ne level credit : Nat) : (guardNozzle we ne false level credit).level = level := by
  unfold guardNozzle
  dsimp only
  split
  · exact Eq.symm ‹_›
  · split <;> rfl

/-- An element guard that is off keeps every level. -/
theorem guardLine_idle (we ne : Nat) (levels credit : List Nat) :
    (guardLine we ne false levels credit).map (fun x => x.level) = levels := by
  induction levels generalizing credit with
  | nil => rfl
  | cons x xs ih =>
    unfold guardLine
    rw [List.map_cons, guardNozzle_idle, ih]

/-- The counts of both guards (R259, R260). -/
def State.guardCounts (s : State) (l : Lane) (n : Nat) (hurt : Bool) : State :=
  (s.bump (.seq l) SEQ.GUARD_E_CNT n).when hurt fun t => t.bump (.seq l) SEQ.DEMOTE_CNT

theorem State.guardCounts_lanes (s : State) (l : Lane) (n : Nat) (hurt : Bool) :
    (s.guardCounts l n hurt).lanes = s.lanes ∧ (s.guardCounts l n hurt).out = s.out := by
  cases hurt <;> exact ⟨rfl, rfl⟩

theorem State.guardCounts_prepares (s : State) (l : Lane) (n : Nat) (hurt : Bool) :
    Prepares [.seq l] l s (s.guardCounts l n hurt) := by
  obtain ⟨hl, ho⟩ := s.guardCounts_lanes l n hurt
  exact ⟨((OtherPages.refl _ s).wr (by simp) rfl).when _ _ fun _ hu => hu.wr (by simp) rfl, fun k _ => by rw [hl], ho⟩

theorem State.guardCounts_rd (s : State) (l : Lane) (n : Nat) (hurt : Bool) {r : Row}
    (h : FieldAt.off [(.seq 0, SEQ.GUARD_E_CNT, 0), (.seq 0, SEQ.DEMOTE_CNT, 0)] r 0 = true) :
    (s.guardCounts l n hurt).rd (.seq l) r = s.rd (.seq l) r := by
  simp only [FieldAt.off_cons, FieldAt.off_nil, Bool.and_eq_true] at h
  obtain ⟨h1, h2, -⟩ := h
  cases hurt
  · exact State.bump_rd_apart _ _ _ _ h1
  · exact (State.bump_rd_apart _ _ _ _ h2).trans (State.bump_rd_apart _ _ _ _ h1)

theorem State.guards_guarding (s : State) (l : Lane) (f : FifoLine) (set bank : Nat) :
    Guarding l s f set bank (s.guards l f.tag f.levels set bank f.taint) := by
  obtain ⟨c, e, n, hurt, hg⟩ : ∃ c e n hurt, (s.guards l f.tag f.levels set bank f.taint).1 =
      (s.modLane l fun h => { h with credit := c, energy := (e :: h.energy).take 4096 }).guardCounts l n hurt := ⟨_, _, _, _, rfl⟩
  have hl : (s.guards l f.tag f.levels set bank f.taint).1.lanes[l] =
      { s.lanes[l] with credit := c, energy := (e :: s.lanes[l].energy).take 4096 } := by
    rw [hg, (State.guardCounts_lanes _ l n hurt).1, State.modLane_same]
  constructor
  case prepares =>
    rw [hg]
    exact (Prepares.modLane _ s l _).trans (State.guardCounts_prepares _ l n hurt)
  case seq =>
    intro r hr
    rw [hg, State.guardCounts_rd _ l n hurt hr]
    rfl
  case fifo => rw [hl]
  case prep => rw [hl]
  case line => rfl
  case levels =>
    intro he hh
    unfold State.guards
    dsimp only
    rw [he, hh, guardLine_idle]
    rfl

end Sys2Proof.Machine
end

section
/-! PROOFS. A line is prepared, or found in error, and the firing of a lane as a whole (R249, R261, R265). -/

namespace Sys2Proof.Machine

open Reg

/-- When the preparation of a line that starts now ends (R249). -/
def State.readyAt (s : State) (l : Lane) (f : FifoLine) : Nat := s.dclk + s.prepareDclk l f.levels.length

/-- A line joins the prepared lines. -/
def State.linePrepared (s : State) (l : Lane) (q : PrepLine) : State := s.modLane l fun h => { h with prep := h.prep ++ [q] }

theorem State.linePrepared_lane (s : State) (l : Lane) (q : PrepLine) :
    (s.linePrepared l q).lanes[l] = { s.lanes[l] with prep := s.lanes[l].prep ++ [q] } := State.modLane_same _ _ _

/-- Both guards on the line that is prepared next. -/
def State.lineGuarded (s : State) (l : Lane) (f : FifoLine) : State × PrepLine :=
  (s.bandTaken l (s.readyAt l f)).guards l f.tag f.levels ((s.bandRead l (s.readyAt l f)).setOf l)
    ((s.bandRead l (s.readyAt l f)).rd (.wav l) WAV.BANK_ACTIVE) f.taint

/-- The line as it joins the prepared lines. -/
def State.lineAsSent (s : State) (l : Lane) (f : FifoLine) : PrepLine := { (s.lineGuarded l f).2 with ready := s.readyAt l f }

theorem exec_linePrepare {s : State} {l : Lane} {f : FifoLine} (hu : s.devUp = true) (hp : s.prepares l = true)
    (he : s.lanes[l].prepEnd ≤ s.dclk) (hn : s.lanes[l].nextToPrepare = some f) :
    exec (.linePrepare l none none) s = .next ((s.lineGuarded l f).1.linePrepared l (s.lineAsSent l f)) := by
  show execLinePrepare l none none s = _
  unfold execLinePrepare
  rw [if_pos (by rw [hu, hp, decide_eq_true he]; rfl), hn]
  rfl

theorem linePrepare_prepares {s : State} {l : Lane} {f : FifoLine} (hu : s.devUp = true) (hp : s.prepares l = true)
    (he : s.lanes[l].prepEnd ≤ s.dclk) (hn : s.lanes[l].nextToPrepare = some f) :
    ∃ t, exec (.linePrepare l none none) s = .next t ∧ t.lanes[l].fifo = s.lanes[l].fifo.tail ∧
      t.lanes[l].prep.map (fun p => (p.tag, p.bank, p.taint, p.ue)) =
        s.lanes[l].prep.map (fun p => (p.tag, p.bank, p.taint, p.ue)) ++
          [(f.tag, s.rd (.wav l) WAV.BANK_ACTIVE, f.taint, false)] ∧
      t.lanes[l].prep.getLast?.map (fun p => p.set) =
        some (if t.on (.seq l) SEQ.STAT_SOFT then 8 else t.rd (.seq l) SEQ.STAT_BAND) ∧
      (s.on (.seq l) SEQ.CTRL_GUARD_E = false → s.on (.seq l) SEQ.CTRL_GUARD_H = false →
        t.lanes[l].prep.getLast?.map (fun p => p.levels) = some (f.levels.map fun x => min x 7)) ∧
      OtherPages [.seq l, .wav l, .pace] s t ∧ OtherLanes [l] s t ∧ t.out = s.out := by
  have hg : Guarding l (s.bandTaken l (s.readyAt l f)) f _ _ (s.lineGuarded l f) :=
    State.guards_guarding (s.bandTaken l (s.readyAt l f)) l f _ _
  have hl := State.linePrepared_lane (s.lineGuarded l f).1 l (s.lineAsSent l f)
  have hs : Prepares [.seq l, .wav l, .pace] l s ((s.lineGuarded l f).1.linePrepared l (s.lineAsSent l f)) :=
    (s.bandTaken_prepares l _).trans ((hg.prepares.mono (by simp)).trans (Prepares.modLane _ _ l _))
  have hq := s.bandTaken_lane l (s.readyAt l f)
  have hline := hg.line
  simp only [Prod.mk.injEq] at hline
  obtain ⟨htag, hbank, htaint, hue, hset⟩ := hline
  refine ⟨_, exec_linePrepare hu hp he hn, ?_, ?_, ?_, ?_, hs.pages, hs.lanes, hs.out⟩
  · rw [hl, hg.fifo, hq]
  · rw [hl, hg.prep, hq, List.map_append, ← s.bandTaken_bank l (s.readyAt l f), State.bandTaken_rd, ← htag, ← hbank,
      ← htaint, ← hue]
    rfl
  · rw [hl, List.getLast?_append]
    refine congrArg some (hset.trans ?_)
    have hr (r : Row) (h : FieldAt.off [(.seq 0, SEQ.GUARD_E_CNT, 0), (.seq 0, SEQ.DEMOTE_CNT, 0)] r 0 = true) :
        ((s.lineGuarded l f).1.linePrepared l (s.lineAsSent l f)).rd (.seq l) r =
          (s.bandRead l (s.readyAt l f)).rd (.seq l) r :=
      (hg.seq r h).trans (State.bandTaken_rd ..)
    unfold State.setOf State.on
    rw [hr SEQ.STAT_SOFT rfl, hr SEQ.STAT_BAND rfl]
  · intro hge hgh
    rw [hl, List.getLast?_append]
    refine congrArg some (hg.levels ?_ ?_)
    · rw [State.on, s.bandTaken_seq l _ rfl rfl]
      exact hge
    · rw [State.on, s.bandTaken_seq l _ rfl rfl]
      exact hgh

/-! ### An error in the line (R265) -/

/-- The error of a lane's SRAM is told, before its entry for the Den. -/
def State.laneUeTold (s : State) (l : Lane) : State :=
  ((s.bump (.lne l) LNE.UE_CNT).errOpen (.lne l) 0x23).raise (.lne l) 10

theorem State.laneUe_den (s : State) (l : Lane) (u : SramUe) : DenOnly (s.laneUeTold l) (s.laneUe l u) :=
  State.denSramUe_den _ _ _ _ _ _

theorem State.laneUeTold_only (s : State) (l : Lane) :
    OnlyFields ((.lne l, LNE.UE_CNT, 0) :: errorFields (.lne l)) s (s.laneUeTold l) :=
  OnlyFields.raise _ _ (OnlyFields.errOpen _ _ (OnlyFields.bump _ _ _ _ (OnlyFields.refl _ s) (by simp))
    fun _ hf => List.mem_cons_of_mem _ hf) (by simp [errorFields])

/-- What an error of a lane's SRAM changes (R217, R219, R261). -/
structure UeTold (l : Lane) (s t : State) : Prop where
  prepares : Prepares [.lne l, .den] l s t
  error : t.errorShown (.lne l) = s.errorAfter (.lne l) 0x23
  count : t.rd (.lne l) LNE.UE_CNT = min (s.rd (.lne l) LNE.UE_CNT + 1) (2 ^ 32 - 1)
  lane : t.lanes[l] = s.lanes[l]

theorem State.laneUe_told (s : State) (l : Lane) (u : SramUe) : UeTold l s (s.laneUe l u) := by
  have ht := s.laneUeTold_only l
  have hd : OnlyFields denFields _ _ := s.laneUe_den l u
  have hlanes : (s.laneUe l u).lanes = s.lanes := by
    rw [hd.rest]
    show (s.laneUeTold l).lanes = _
    rw [ht.rest]
  have hout : (s.laneUe l u).out = s.out := by
    rw [hd.rest]
    show (s.laneUeTold l).out = _
    rw [ht.rest]
  have hp1 : OtherPages [.lne l, .den] s (s.laneUeTold l) := OtherPages.of_untouched ht.fields (by simp +decide [errorFields])
  have hp2 : OtherPages [.den] (s.laneUeTold l) (s.laneUe l u) :=
    OtherPages.of_untouched (s := s.laneUeTold l) hd.fields (by simp +decide [denFields])
  have hrd (r : Row) (hr : Row.inPage r 0 = true) : (s.laneUe l u).rd (.lne l) r = (s.laneUeTold l).rd (.lne l) r :=
    hp2.rd (by simp) hr
  refine ⟨⟨hp1.trans (hp2.mono (by simp)), fun k _ => by rw [hlanes], hout⟩, ?_, ?_, by rw [hlanes]⟩
  · have he : (s.laneUe l u).errorShown (.lne l) = (s.laneUeTold l).errorShown (.lne l) := by
      unfold State.errorShown State.on
      rw [hrd _ rfl, hrd _ rfl]
    rw [he, State.laneUeTold, State.raise_errorShown, State.errOpen_errorShown _ _ _ (by decide)]
    exact State.errorAfter_congr (State.bump_errorShown_apart _ _ _ _ rfl) _
  · rw [hrd _ rfl, State.laneUeTold, State.raise_rd_apart _ _ _ _ rfl, State.errOpen_rd_apart _ _ _ _ rfl, State.bump_rd_same]
    rfl

/-- A line in error as it joins the prepared lines. -/
def State.lineInError (s : State) (l : Lane) (f : FifoLine) : PrepLine :=
  { tag := f.tag, levels := f.levels, taint := f.taint, set := (s.bandRead l (s.readyAt l f)).setOf l
    bank := (s.bandRead l (s.readyAt l f)).rd (.wav l) WAV.BANK_ACTIVE, ue := true, ready := s.readyAt l f, elem := false
    cap := 7, hurt := 0, frame := none }

theorem exec_linePrepare_ue {s : State} {l : Lane} {f : FifoLine} (x : SramUe) (hu : s.devUp = true) (hp : s.prepares l = true)
    (he : s.lanes[l].prepEnd ≤ s.dclk) (hn : s.lanes[l].nextToPrepare = some f) :
    exec (.linePrepare l (some x) none) s =
      .next ((((s.bandTaken l (s.readyAt l f)).laneUe l x).guardsPass l).linePrepared l (s.lineInError l f)) := by
  show execLinePrepare l (some x) none s = _
  unfold execLinePrepare
  rw [if_pos (by rw [hu, hp, decide_eq_true he]; rfl), hn]
  rfl

theorem State.guardsPass_prepares (ps : List Page) (s : State) (l : Lane) : Prepares ps l s (s.guardsPass l) := by
  unfold State.guardsPass
  exact Prepares.modLane ps s l _

theorem State.guardsPass_rd (s : State) (l : Lane) (p : Page) (r : Row) (i : Nat) : (s.guardsPass l).rd p r i = s.rd p r i := by
  unfold State.guardsPass
  exact State.modLane_rd ..

theorem State.joined_errorShown (s : State) (l : Lane) (q : PrepLine) (p : Page) :
    ((s.guardsPass l).linePrepared l q).errorShown p = s.errorShown p := by
  unfold State.errorShown State.on State.linePrepared
  simp only [State.modLane_rd, State.guardsPass_rd]

theorem linePrepare_errs {s : State} {l : Lane} {f : FifoLine} (x : SramUe) (hu : s.devUp = true) (hp : s.prepares l = true)
    (he : s.lanes[l].prepEnd ≤ s.dclk) (hn : s.lanes[l].nextToPrepare = some f) :
    ∃ t, exec (.linePrepare l (some x) none) s = .next t ∧ t.lanes[l].fifo = s.lanes[l].fifo.tail ∧
      t.lanes[l].prep.map (fun p => (p.tag, p.ue)) = s.lanes[l].prep.map (fun p => (p.tag, p.ue)) ++ [(f.tag, true)] ∧
      t.errorShown (.lne l) = s.errorAfter (.lne l) 0x23 ∧
      t.rd (.lne l) LNE.UE_CNT = min (s.rd (.lne l) LNE.UE_CNT + 1) (2 ^ 32 - 1) ∧
      OtherPages [.seq l, .wav l, .pace, .lne l, .den] s t ∧ OtherLanes [l] s t ∧ t.out = s.out := by
  have ht := (s.bandTaken l (s.readyAt l f)).laneUe_told l x
  have hb := s.bandTaken_prepares l (s.readyAt l f)
  have hs : Prepares [.seq l, .wav l, .pace, .lne l, .den] l s
      (((((s.bandTaken l (s.readyAt l f)).laneUe l x).guardsPass l).linePrepared l (s.lineInError l f))) :=
    (hb.mono (by simp +contextual)).trans ((ht.prepares.mono (by simp +contextual)).trans
      ((State.guardsPass_prepares _ _ l).trans (Prepares.modLane _ _ l _)))
  have hq := s.bandTaken_lane l (s.readyAt l f)
  have hlne (r : Row) (hr : Row.inPage r 0 = true) : (s.bandTaken l (s.readyAt l f)).rd (.lne l) r = s.rd (.lne l) r :=
    hb.pages.rd (by simp) hr
  refine ⟨_, exec_linePrepare_ue x hu hp he hn, ?_, ?_, ?_, ?_, hs.pages, hs.lanes, hs.out⟩
  · rw [State.linePrepared_lane, State.guardsPass, State.modLane_same, ht.lane, hq]
  · rw [State.linePrepared_lane, State.guardsPass, State.modLane_same, ht.lane, hq, List.map_append]
    rfl
  · rw [State.joined_errorShown, ht.error]
    refine State.errorAfter_congr ?_ _
    unfold State.errorShown State.on
    rw [hlne _ rfl, hlne _ rfl]
  · rw [State.linePrepared, State.modLane_rd, State.guardsPass_rd, ht.count, hlne _ rfl]

end Sys2Proof.Machine

namespace Sys2Proof

open Machine

/-- Settles O8: the preparation through what the band, the guards and an error of the FIFO each leave (`Prepares`), the firing
instant through what its report leaves of the lane's counts and queues (`Reported`). -/
theorem laneFiring : Obligations.LaneFiring := by
  refine ⟨?_, ?_, ?_, ?_, ?_, ?_, ?_, ?_, ?_, ?_, ?_, ?_, ?_, ?_⟩
  · exact fun _ _ _ hu hp he hn => linePrepare_prepares hu hp he hn
  · exact fun _ _ _ x hu hp he hn => linePrepare_errs x hu hp he hn
  · exact fun _ _ _ _ hu hp hl hf hs hq he hn hh hr =>
      ⟨_, exec_lineFrameStart hu hp hl hf hs hq he hn hh hr, rfl, State.bump_rd_same _ _ _ _ _,
        OnlyFields.bump _ _ _ _ (OnlyFields.refl _ _) (by simp)⟩
  · exact fun _ _ _ _ _ _ _ _ _ _ hu hd hs hdue hi ha hm hl hq ho he hf hend hst hopen ht =>
      firingInstant_fires ⟨hu, hd, hs, hdue, hi, ha, hm, hl, hq, ho, he, hopen⟩ hf hend hst ht
  · exact fun _ _ _ _ _ _ _ _ _ _ hu hd hs hdue hi ha hm hl hq ho he hf hend _ hopen ht =>
      firingInstant_tooSoon ⟨hu, hd, hs, hdue, hi, ha, hm, hl, hq, ho, he, hopen⟩ hf hend ht
  · exact fun _ _ _ _ _ _ _ hu hd hs hdue hi ha hm hl hq ho he hf hh hoc hst hopen ht =>
      firingInstant_unsent ⟨hu, hd, hs, hdue, hi, ha, hm, hl, hq, ho, he, hopen⟩ hf hh hoc hst ht
  · exact fun _ _ _ _ _ _ _ _ _ _ hu hd hs hdue hi ha hm hl hq ho he hf hend _ hopen ht =>
      firingInstant_aborts ⟨hu, hd, hs, hdue, hi, ha, hm, hl, hq, ho, he, hopen⟩ hf hend ht
  · exact fun _ _ hu hs ht hl => tempLost_holds hu hs ht hl
  · exact fun _ _ _ _ h hs hc hp ho => seqResume_fires h hs hc hp ho
  · exact fun _ _ _ _ _ _ h hs hc hp ho hoc hd hq hf hh => seqResume_keepsBack h hs hc hp ho hoc hd hq hf hh
  · exact fun _ _ _ _ hq hh => lineFrameStart_held hq hh
  · exact fun _ _ _ h hs => seqResume_notHeld h hs
  · exact fun _ _ _ h hs hc => seqResume_causeStands h hs hc
  · exact fun _ _ _ hu hi => guardIdleExpiry_empties hu hi

end Sys2Proof
end

section
/-! PROOFS. What every command keeps: the queue, the canonical forms, the order of free values and what was sent; and the spool's
bytes, unless it is one of those that may write them. -/

namespace Sys2Proof.Machine

/-- No command ends in a fault or a refusal, and each keeps what its meaning keeps. -/
theorem exec_keeps (c : Instr) (s : State) : NextKeeps (storesSpool c = true) s (exec c s) :=
  match c with
  | .registerWrite .. => execRegisterWrite_keeps _ _ _ _ rfl (Keeps.refl s)
  | .accessTimeout .. => execAccessTimeout_keeps _ _ _ (Keeps.refl s)
  | .pairLowRead .. => execPairLowRead_keeps _ _ _ (Keeps.refl s)
  | .pairLowWrite .. => execPairLowWrite_keeps _ _ _ _ (Keeps.refl s)
  | .pairHighWrite .. => execPairHighWrite_keeps _ _ _ _ rfl (Keeps.refl s)
  | .pgInit .. => execPgInit_keeps _ _ _ (Keeps.refl s)
  | .pgLock .. => execPgLock_keeps _ _ _ (Keeps.refl s)
  | .commit .. => execCommit_keeps _ _ _ (Keeps.refl s)
  | .cancel .. => execCancel_keeps _ _ _ (Keeps.refl s)
  | .commitDone .. => execCommitDone_keeps _ (Keeps.refl s)
  | .evtPendClear .. => execEvtPendClear_keeps _ _ _ (Keeps.refl s)
  | .errCodeClear .. => execErrCodeClear_keeps _ _ (Keeps.refl s)
  | .eoi .. => execEoi_keeps _ _ (Keeps.refl s)
  | .msixUnmask .. => execMsixUnmask_keeps _ _ (Keeps.refl s)
  | .powerOnReset => execPowerOnReset_keeps (Keeps.refl s)
  | .porAssert => execPorAssert_keeps rfl (Keeps.refl s)
  | .rtcAlarm => execRtcAlarm_keeps (Keeps.refl s)
  | .cmpOutRise .. => execCmpOutRise_keeps _ _ (Keeps.refl s)
  | .wakeReqN => execWakeReqN_keeps (Keeps.refl s)
  | .perstNDeassert => execPerstNDeassert_keeps (Keeps.refl s)
  | .perstNAssert => execPerstNAssert_keeps (Keeps.refl s)
  | .pgoodRise .. => execPgoodRise_keeps _ _ (Keeps.refl s)
  | .pgoodTimeout .. => execPgoodTimeout_keeps _ (Keeps.refl s)
  | .pgoodLost .. => execPgoodLost_keeps _ (Keeps.refl s)
  | .settWakeComplete => execSettWakeComplete_keeps (Keeps.refl s)
  | .reqSett .. => execReqSett_keeps _ (Keeps.refl s)
  | .reqIdle .. => execReqIdle_keeps _ (Keeps.refl s)
  | .reqReady .. => execReqReady_keeps _ (Keeps.refl s)
  | .toReadyDeadline => execToReadyDeadline_keeps (Keeps.refl s)
  | .clusterPowerOn .. => execClusterPowerOn_keeps _ _ _ (Keeps.refl s)
  | .hvenSet .. => execHvenSet_keeps _ (Keeps.refl s)
  | .hvpgRise .. => execHvpgRise_keeps _ (Keeps.refl s)
  | .hvTimeout .. => execHvTimeout_keeps _ (Keeps.refl s)
  | .hvpgLost .. => execHvpgLost_keeps _ (Keeps.refl s)
  | .clusterRetry .. => execClusterRetry_keeps _ (Keeps.refl s)
  | .hvDischargeDone .. => execHvDischargeDone_keeps _ (Keeps.refl s)
  | .readyIdleTimeout => execReadyIdleTimeout_keeps (Keeps.refl s)
  | .autoSleepDue => execAutoSleepDue_keeps (Keeps.refl s)
  | .sleepGraceEnd => execSleepGraceEnd_keeps (Keeps.refl s)
  | .settEntryComplete => execSettEntryComplete_keeps (Keeps.refl s)
  | .tjWarn => execTjWarn_keeps (Keeps.refl s)
  | .tjShut => execTjShut_keeps (Keeps.refl s)
  | .x32Fail => execX32Fail_keeps (Keeps.refl s)
  | .x32Restore => execX32Restore_keeps (Keeps.refl s)
  | .rtcLoadApply => execRtcLoadApply_keeps (Keeps.refl s)
  | .spitTimerExpiry => execSpitTimerExpiry_keeps (Keeps.refl s)
  | .spitBurstDone => execSpitBurstDone_keeps (Keeps.refl s)
  | .opChange .. => execOpChange_keeps _ (Keeps.refl s)
  | .opChangeDone .. => execOpChangeDone_keeps _ (Keeps.refl s)
  | .pmbPoll => execPmbPoll_keeps (Keeps.refl s)
  | .pmbTransferDone .. => execPmbTransferDone_keeps _ _ (Keeps.refl s)
  | .pmbAlert => execPmbAlert_keeps (Keeps.refl s)
  | .pllUnlock .. => execPllUnlock_keeps _ (Keeps.refl s)
  | .bootComplete .. => execBootComplete_keeps _ rfl (Keeps.refl s)
  | .pushData .. => execPushData_keeps _ _ (Keeps.refl s)
  | .bootRestart .. => execBootRestart_keeps _ (Keeps.refl s)
  | .hartRun .. => execHartRun_keeps _ _ (Keeps.refl s)
  | .hartReset .. => execHartReset_keeps _ _ (Keeps.refl s)
  | .wdtKick .. => execWdtKick_keeps _ _ _ (Keeps.refl s)
  | .wdtExpire .. => execWdtExpire_keeps _ (Keeps.refl s)
  | .wdtHalt .. => execWdtHalt_keeps _ _ (Keeps.refl s)
  | .mbxSend .. => execMbxSend_keeps _ _ _ (Keeps.refl s)
  | .mbxRelease .. => execMbxRelease_keeps _ _ (Keeps.refl s)
  | .coreMemUe .. => execCoreMemUe_keeps _ (Keeps.refl s)
  | .pcieLinkUp .. => execPcieLinkUp_keeps _ _ _ (Keeps.refl s)
  | .pcieLinkDown => execPcieLinkDown_keeps (Keeps.refl s)
  | .d3hotEntry => execD3hotEntry_keeps (Keeps.refl s)
  | .d0Return => execD0Return_keeps (Keeps.refl s)
  | .bar2Read .. => execBar2Read_keeps _ _ _ rfl (Keeps.refl s)
  | .bar2Write .. => execBar2Write_keeps _ _ _ rfl (Keeps.refl s)
  | .ringDoorbell .. => execRingDoorbell_keeps _ _ _ (Keeps.refl s)
  | .ringEnable .. => execRingEnable_keeps _ _ (Keeps.refl s)
  | .ringDisable .. => execRingDisable_keeps _ _ (Keeps.refl s)
  | .ringStopped .. => execRingStopped_keeps _ (Keeps.refl s)
  | .ringReset .. => execRingReset_keeps _ _ (Keeps.refl s)
  | .descriptorFetch .. => execDescriptorFetch_keeps _ (Keeps.refl s)
  | .pageOpen .. => execPageOpen_keeps _ (Keeps.refl s)
  | .pageCancel .. => execPageCancel_keeps _ (Keeps.refl s)
  | .presetLoad .. => execPresetLoad_keeps _ (Keeps.refl s)
  | .presetLoadDone .. => execPresetLoadDone_keeps _ _ rfl (Keeps.refl s)
  | .presetDrop .. => execPresetDrop_keeps _ (Keeps.refl s)
  | .presetDropDone .. => execPresetDropDone_keeps _ (Keeps.refl s)
  | .compress .. => execCompress_keeps _ (Keeps.refl s)
  | .nop .. => execNop_keeps _ (Keeps.refl s)
  | .tileDescriptor .. => execTileDescriptor_keeps _ _ (Keeps.refl s)
  | .tileAllocate .. => execTileAllocate_keeps _ (Keeps.refl s)
  | .scwHeaderCheck .. => execScwHeaderCheck_keeps _ _ (Keeps.refl s)
  | .tileLanded .. => execTileLanded_keeps _ _ rfl (Keeps.refl s)
  | .dmaError .. => execDmaError_keeps _ (Keeps.refl s)
  | .completionWrite => execCompletionWrite_keeps (Keeps.refl s)
  | .cqTimerExpiry => execCqTimerExpiry_keeps (Keeps.refl s)
  | .heapConfigWrite .. => execHeapConfigWrite_keeps _ _ _ (Keeps.refl s)
  | .tileFetch => execTileFetch_keeps (Keeps.refl s)
  | .decodeStart .. => execDecodeStart_keeps _ (Keeps.refl s)
  | .decodeDone .. => execDecodeDone_keeps _ (Keeps.refl s)
  | .decodeFail .. => execDecodeFail_keeps _ _ (Keeps.refl s)
  | .encoderAssign .. => execEncoderAssign_keeps _ (Keeps.refl s)
  | .encodeEnd .. => execEncodeEnd_keeps _ _ rfl (Keeps.refl s)
  | .jobPark .. => execJobPark_keeps _ _ _ rfl (Keeps.refl s)
  | .chainCountWrite .. => execChainCountWrite_keeps _ _ _ (Keeps.refl s)
  | .parkTimeout .. => execParkTimeout_keeps _ (Keeps.refl s)
  | .jobAbort .. => execJobAbort_keeps _ _ (Keeps.refl s)
  | .jobRelease .. => execJobRelease_keeps _ _ (Keeps.refl s)
  | .fjobGo .. => execFjobGo_keeps _ (Keeps.refl s)
  | .ddrTrainingDone .. => execDdrTrainingDone_keeps _ _ (Keeps.refl s)
  | .refreshTick .. => execRefreshTick_keeps _ _ (Keeps.refl s)
  | .mr4Poll .. => execMr4Poll_keeps _ _ _ _ (Keeps.refl s)
  | .spoolReadReturn .. => execSpoolReadReturn_keeps _ _ _ _ rfl (Keeps.refl s)
  | .spoolWriteAck .. => execSpoolWriteAck_keeps _ _ _ _ _ _ rfl (Keeps.refl s)
  | .panicAssert => execPanicAssert_keeps (Keeps.refl s)
  | .panicRelease => execPanicRelease_keeps (Keeps.refl s)
  | .autoSrTimeout => execAutoSrTimeout_keeps (Keeps.refl s)
  | .srDrainDone => execSrDrainDone_keeps (Keeps.refl s)
  | .srExit => execSrExit_keeps (Keeps.refl s)
  | .srExitDone => execSrExitDone_keeps (Keeps.refl s)
  | .scrubRead .. => execScrubRead_keeps _ rfl (Keeps.refl s)
  | .lineTick => execLineTick_keeps (Keeps.refl s)
  | .slowreqRelease => execSlowreqRelease_keeps (Keeps.refl s)
  | .paceStopped => execPaceStopped_keeps (Keeps.refl s)
  | .lstStart .. => execLstStart_keeps _ _ (Keeps.refl s)
  | .lineScreenStart .. => execLineScreenStart_keeps _ _ _ (Keeps.refl s)
  | .seamWordArrive .. => execSeamWordArrive_keeps _ _ _ (Keeps.refl s)
  | .seamTimeout .. => execSeamTimeout_keeps _ _ (Keeps.refl s)
  | .tableWindowWrite .. => execTableWindowWrite_keeps _ _ _ _ (Keeps.refl s)
  | .tblCrcGo .. => execTblCrcGo_keeps _ _ (Keeps.refl s)
  | .tblCrcDone .. => execTblCrcDone_keeps _ (Keeps.refl s)
  | .matLoad .. => execMatLoad_keeps _ _ (Keeps.refl s)
  | .matLoadEnd .. => execMatLoadEnd_keeps _ _ (Keeps.refl s)
  | .matCrc .. => execMatCrc_keeps _ _ (Keeps.refl s)
  | .matCrcEnd .. => execMatCrcEnd_keeps _ (Keeps.refl s)
  | .awlStart .. => execAwlStart_keeps _ _ (Keeps.refl s)
  | .awlAutoStart .. => execAwlAutoStart_keeps _ (Keeps.refl s)
  | .awlAbort .. => execAwlAbort_keeps _ _ (Keeps.refl s)
  | .scanDataReceive .. => execScanDataReceive_keeps _ _ _ _ (Keeps.refl s)
  | .awlScanComplete .. => execAwlScanComplete_keeps _ (Keeps.refl s)
  | .awlOverdue .. => execAwlOverdue_keeps _ (Keeps.refl s)
  | .linePrepare .. => execLinePrepare_keeps _ _ _ (Keeps.refl s)
  | .lineFrameStart .. => execLineFrameStart_keeps _ (Keeps.refl s)
  | .firingInstant .. => execFiringInstant_keeps _ (Keeps.refl s)
  | .tempLost .. => execTempLost_keeps _ (Keeps.refl s)
  | .seqResume .. => execSeqResume_keeps _ _ (Keeps.refl s)
  | .seqClear .. => execSeqClear_keeps _ _ (Keeps.refl s)
  | .guardIdleExpiry .. => execGuardIdleExpiry_keeps _ _ (Keeps.refl s)
  | .spoilRunFlush .. => execSpoilRunFlush_keeps _ _ (Keeps.refl s)
  | .spoilRecordWrite => execSpoilRecordWrite_keeps (Keeps.refl s)
  | .spoilWriteAck => execSpoilWriteAck_keeps rfl (Keeps.refl s)
  | .spoilDoorbell .. => execSpoilDoorbell_keeps _ _ (Keeps.refl s)
  | .encEdge .. => execEncEdge_keeps _ (Keeps.refl s)
  | .encIndex => execEncIndex_keeps (Keeps.refl s)
  | .internalTick => execInternalTick_keeps (Keeps.refl s)
  | .paceModeWrite .. => execPaceModeWrite_keeps _ _ (Keeps.refl s)
  | .wlLoad .. => execWlLoad_keeps _ _ (Keeps.refl s)
  | .tofEdge => execTofEdge_keeps (Keeps.refl s)
  | .profileUpdate .. => execProfileUpdate_keeps _ (Keeps.refl s)
  | .axisStep .. => execAxisStep_keeps _ (Keeps.refl s)
  | .observedStep .. => execObservedStep_keeps _ _ (Keeps.refl s)
  | .axHome .. => execAxHome_keeps _ _ (Keeps.refl s)
  | .axStop .. => execAxStop_keeps _ _ (Keeps.refl s)
  | .axEstop .. => execAxEstop_keeps _ _ (Keeps.refl s)
  | .axClear .. => execAxClear_keeps _ _ _ (Keeps.refl s)
  | .axSleep .. => execAxSleep_keeps _ _ (Keeps.refl s)
  | .axWake .. => execAxWake_keeps _ _ (Keeps.refl s)
  | .limitTrip .. => execLimitTrip_keeps _ _ (Keeps.refl s)
  | .limitRelease .. => execLimitRelease_keeps _ _ (Keeps.refl s)
  | .homeEdge .. => execHomeEdge_keeps _ _ (Keeps.refl s)
  | .homeRelease .. => execHomeRelease_keeps _ (Keeps.refl s)
  | .driverFault .. => execDriverFault_keeps _ _ (Keeps.refl s)
  | .axisSleepTimeout .. => execAxisSleepTimeout_keeps _ (Keeps.refl s)
  | .controlFrameSend .. => execControlFrameSend_keeps _ (Keeps.refl s)
  | .controlRetry .. => execControlRetry_keeps _ (Keeps.refl s)
  | .lstatReceive .. => execLstatReceive_keeps _ _ _ _ (Keeps.refl s)
  | .hstatReceive .. => execHstatReceive_keeps _ _ _ (Keeps.refl s)
  | .cackReceive .. => execCackReceive_keeps _ _ _ _ (Keeps.refl s)
  | .identReceive .. => execIdentReceive_keeps _ _ _ _ _ _ _ _ _ (Keeps.refl s)
  | .trainResReceive .. => execTrainResReceive_keeps _ _ _ _ _ (Keeps.refl s)
  | .upstreamCrcError .. => execUpstreamCrcError_keeps _ (Keeps.refl s)
  | .lstatTimeout .. => execLstatTimeout_keeps _ (Keeps.refl s)
  | .noHeadTimeout .. => execNoHeadTimeout_keeps _ (Keeps.refl s)
  | .bringupTmo .. => execBringupTmo_keeps _ (Keeps.refl s)
  | .linkWaitExpiry .. => execLinkWaitExpiry_keeps _ (Keeps.refl s)
  | .trialSwitch .. => execTrialSwitch_keeps _ (Keeps.refl s)
  | .trialTimeout .. => execTrialTimeout_keeps _ (Keeps.refl s)
  | .fastLockTimeout .. => execFastLockTimeout_keeps _ (Keeps.refl s)
  | .upstreamLockLoss .. => execUpstreamLockLoss_keeps _ _ (Keeps.refl s)
  | .statusTimeout .. => execStatusTimeout_keeps _ (Keeps.refl s)
  | .crcLimitReached .. => execCrcLimitReached_keeps _ (Keeps.refl s)
  | .scanDataLate .. => execScanDataLate_keeps _ (Keeps.refl s)
  | .retrain .. => execRetrain_keeps _ _ (Keeps.refl s)
  | .eyeMeasure .. => execEyeMeasure_keeps _ _ (Keeps.refl s)
  | .timeSet .. => execTimeSet_keeps _ _ (Keeps.refl s)
  | .timeAdj .. => execTimeAdj_keeps _ _ (Keeps.refl s)
  | .offsetWrite .. => execOffsetWrite_keeps _ _ _ (Keeps.refl s)
  | .servoEnWrite .. => execServoEnWrite_keeps _ _ (Keeps.refl s)
  | .servoRearm .. => execServoRearm_keeps _ _ (Keeps.refl s)
  | .servoHoldover => execServoHoldover_keeps (Keeps.refl s)
  | .triggerFire .. => execTriggerFire_keeps _ (Keeps.refl s)
  | .trigArm .. => execTrigArm_keeps _ _ _ (Keeps.refl s)
  | .captureEvent .. => execCaptureEvent_keeps _ (Keeps.refl s)
  | .ethTxTail .. => execEthTxTail_keeps _ _ _ (Keeps.refl s)
  | .ethTxDone .. => execEthTxDone_keeps _ rfl (Keeps.refl s)
  | .ethRxFrame .. => execEthRxFrame_keeps _ _ _ rfl (Keeps.refl s)
  | .ethLinkUp .. => execEthLinkUp_keeps _ (Keeps.refl s)
  | .ethLinkDown .. => execEthLinkDown_keeps _ (Keeps.refl s)
  | .x32Measure .. => execX32Measure_keeps _ (Keeps.refl s)
  | .pairLinkUp .. => execPairLinkUp_keeps _ _ _ _ (Keeps.refl s)
  | .pairLinkDown .. => execPairLinkDown_keeps _ (Keeps.refl s)
  | .heartbeatSend => execHeartbeatSend_keeps (Keeps.refl s)
  | .heartbeatReceive .. => execHeartbeatReceive_keeps _ (Keeps.refl s)
  | .hbMiss => execHbMiss_keeps (Keeps.refl s)
  | .heartbeatTimeout => execHeartbeatTimeout_keeps (Keeps.refl s)
  | .pfaultI .. => execPfaultI_keeps _ (Keeps.refl s)
  | .roleIRise .. => execRoleIRise_keeps _ (Keeps.refl s)
  | .pairAlign .. => execPairAlign_keeps _ (Keeps.refl s)
  | .alignReceive .. => execAlignReceive_keeps _ (Keeps.refl s)
  | .pairHandover .. => execPairHandover_keeps _ (Keeps.refl s)
  | .handoverReceive .. => execHandoverReceive_keeps _ (Keeps.refl s)
  | .fwSend .. => execFwSend_keeps _ (Keeps.refl s)
  | .fwReceive .. => execFwReceive_keeps _ (Keeps.refl s)
  | .bistStart .. => execBistStart_keeps _ rfl (Keeps.refl s)
  | .bistAbort .. => execBistAbort_keeps _ (Keeps.refl s)
  | .bistDone .. => execBistDone_keeps _ (Keeps.refl s)
  | .vcoreSample .. => execVcoreSample_keeps _ (Keeps.refl s)
  | .imgSave .. => execImgSave_keeps _ _ (Keeps.refl s)
  | .fuseBurn .. => execFuseBurn_keeps _ _ _ (Keeps.refl s)
  | .burnEntryDone => execBurnEntryDone_keeps (Keeps.refl s)
  | .fsrcFall => execFsrcFall_keeps (Keeps.refl s)
  | .sramScrubRead .. => execSramScrubRead_keeps _ _ (Keeps.refl s)
  | .backgroundOverdue .. => execBackgroundOverdue_keeps _ (Keeps.refl s)
  | .calStart .. => execCalStart_keeps _ _ (Keeps.refl s)
  | .calRun .. => execCalRun_keeps _ _ _ (Keeps.refl s)
  | .calResult .. => execCalResult_keeps _ _ _ _ _ (Keeps.refl s)
  | .calStep .. => execCalStep_keeps _ _ _ (Keeps.refl s)
  | .calOverdue .. => execCalOverdue_keeps _ _ (Keeps.refl s)
  | .denScanDone => execDenScanDone_keeps (Keeps.refl s)
  | .denEntryWritten .. => execDenEntryWritten_keeps _ _ (Keeps.refl s)
  | .denTokenRefill => execDenTokenRefill_keeps (Keeps.refl s)
  | .denRateWrite .. => execDenRateWrite_keeps _ _ (Keeps.refl s)
  | .denFwGo .. => execDenFwGo_keeps _ (Keeps.refl s)
  | .denRdSlot .. => execDenRdSlot_keeps _ _ (Keeps.refl s)
  | .hello => execHello_keeps (Keeps.refl s)
  | .ptpStart => execPtpStart_keeps (Keeps.refl s)
  | .ptpState => execPtpState_keeps (Keeps.refl s)
  | .dllLockLoss .. => execDllLockLoss_keeps _ (Keeps.refl s)
  | .hvpgFall .. => execHvpgFall_keeps _ (Keeps.refl s)
  | .dieSensorSample .. => execDieSensorSample_keeps _ (Keeps.refl s)
  | .spitLine => execSpitLine_keeps (Keeps.refl s)
  | .imgSaveDone => execImgSaveDone_keeps rfl (Keeps.refl s)

/-- The canonical form of a state's three stores is kept together. -/
theorem Keeps.wf {M : Prop} {s t : State} (h : Keeps M s t) (hs : s.wf = true) : t.wf = true := by
  simp only [State.wf, Bool.and_eq_true] at hs ⊢
  obtain ⟨⟨hm, hr⟩, hg⟩ := hs
  exact ⟨⟨h.mem hm, h.regs hr⟩, h.staged hg⟩

end Sys2Proof.Machine

namespace Sys2Proof

open Machine

/-- Settles O59: every meaning answers a next state with the queue, the outputs and the order of free values kept. -/
theorem commandsAnswer : Obligations.CommandsAnswer := by
  intro c s
  obtain ⟨t, ht, hk⟩ := exec_keeps c s
  exact ⟨t, ht, hk.pending, hk.out, hk.free, hk.wf⟩

end Sys2Proof
end

section
/-! PROOFS. A page's error and event registers on their own: the first error, a clear of VALID, a W1C of `PG_EVT_PEND`, and
PEND as RAW AND EN (R35, R44, R51). -/

namespace Sys2Proof.Machine

open Reg

/-! ### The first error -/

theorem State.errorShown_eq_none {s : State} {p : Page} : s.errorShown p = none ↔ s.on p HDR.PG_ERR_CODE_VALID = false := by
  unfold State.errorShown
  split <;> simp_all

theorem State.errorAfter_first {s : State} {p : Page} (h : s.errorShown p = none) (nn : Nat) :
    s.errorAfter p nn = some (p.tt * 256 + nn) := by
  unfold State.errorAfter
  rw [h]

/-- The first error counts 1 and notes the time (R35, R43). -/
theorem State.err_first_count {s : State} {p : Page} (h : s.errorShown p = none) (nn info : Nat) :
    (s.err p nn info).rd p HDR.PG_ERR_CODE_COUNT = 1 := by
  unfold State.err
  dsimp only
  rw [if_neg (by simp [State.errorShown_eq_none.1 h]), State.raise_rd_apart _ _ _ _ rfl, State.wr_rd_apart _ _ _ _ rfl,
    State.wr_rd_apart _ _ _ _ rfl, State.wr_rd_apart _ _ _ _ rfl, State.wr_rd_same]
  rfl

theorem State.err_first_time {s : State} {p : Page} (h : s.errorShown p = none) (nn info : Nat) :
    (s.err p nn info).rd p HDR.PG_ERR_TIME = s.time % 2 ^ 64 := by
  unfold State.err
  dsimp only
  rw [if_neg (by simp [State.errorShown_eq_none.1 h]), State.raise_rd_apart _ _ _ _ rfl, State.wr_rd_same]
  rfl

/-! ### A clear of VALID -/

theorem State.errClear_only (s : State) (p : Page) : OnlyFields (errorFields p) s (s.errClear p) := by
  unfold State.errClear
  exact OnlyFields.wr _ _ _ _ (OnlyFields.wr _ _ _ _ (OnlyFields.wr _ _ _ _ (OnlyFields.wr _ _ _ _ (OnlyFields.wr _ _ _ _
    (OnlyFields.refl _ _) (by simp [errorFields])) (by simp [errorFields])) (by simp [errorFields])) (by simp [errorFields]))
    (by simp [errorFields])

/-- After a clear the page's error registers read 0 (R35). -/
theorem State.errClear_rd (s : State) (p : Page) {r : Row} (h : r ∈ [HDR.PG_ERR_CODE_CODE, HDR.PG_ERR_CODE_COUNT,
    HDR.PG_ERR_CODE_VALID, HDR.PG_ERR_INFO, HDR.PG_ERR_TIME]) : (s.errClear p).rd p r = 0 := by
  simp only [List.mem_cons, List.not_mem_nil, or_false] at h
  rcases h with rfl | rfl | rfl | rfl | rfl <;> simp +decide [State.errClear]

theorem State.errClear_errorShown (s : State) (p : Page) : (s.errClear p).errorShown p = none := by
  rw [State.errorShown_eq_none, State.on, State.errClear_rd s p (by simp)]
  rfl

theorem State.errClear_raw (s : State) (p : Page) : (s.errClear p).rd p HDR.PG_EVT_RAW = s.rd p HDR.PG_EVT_RAW := by
  simp +decide [State.errClear]

theorem State.errClear_time (s : State) (p : Page) : (s.errClear p).time = s.time :=
  (s.errClear_only p).fields.rd_off .tim TIM.TIME 0 rfl

/-! ### A W1C of events -/

/-- Taking the common bits out of a number leaves those that the mask does not name. -/
theorem testBit_sub_and (a m i : Nat) : (a - (a &&& m)).testBit i = (a.testBit i && !m.testBit i) := by
  induction i generalizing a m with
  | zero =>
    have hm : (a &&& m) % 2 = 1 ↔ a % 2 = 1 ∧ m % 2 = 1 := Nat.and_mod_two_eq_one
    have hl : a &&& m ≤ a := Nat.and_le_left
    simp only [Nat.testBit_zero, ← decide_not, ← Bool.decide_and, decide_eq_decide]
    omega
  | succ i ih =>
    have hm : (a &&& m) % 2 = 1 ↔ a % 2 = 1 ∧ m % 2 = 1 := Nat.and_mod_two_eq_one
    have hd : (a - (a &&& m)) / 2 = a / 2 - (a / 2 &&& m / 2) := by
      rw [← Nat.and_div_two]
      have hl : a &&& m ≤ a := Nat.and_le_left
      omega
    rw [Nat.testBit_succ, hd, ih, Nat.testBit_succ, Nat.testBit_succ]

/-- A W1C of `PG_EVT_PEND` clears the events its mask names, and no other (R51). -/
theorem State.evtClear_event (s : State) (p : Page) (m : Nat) (i : Fin 32) :
    (s.evtClear p m).event p i.val = (s.event p i.val && !m.testBit i.val) := by
  unfold State.event State.evtClear
  rw [State.wr_rd_same, show HDR.PG_EVT_RAW.width = 32 from rfl, Nat.testBit_mod_two_pow, testBit_sub_and]
  simp

theorem State.evtClear_only (s : State) (p : Page) (m : Nat) : OnlyFields (eventField p) s (s.evtClear p m) :=
  OnlyFields.wr _ _ _ _ (OnlyFields.refl _ _) (by simp [eventField])

/-! ### PEND -/

theorem State.evtPend_testBit (s : State) (p : Page) (i : Nat) :
    (s.evtPend p).testBit i = (s.event p i && (s.rd p HDR.PG_EVT_EN).testBit i) := Nat.testBit_and ..

/-- A write of `PG_EVT_EN` makes the events it enables pending at once. -/
theorem State.evtPend_enable (s : State) (p : Page) (i en : Nat) (hi : i < 32) :
    ((s.wr p HDR.PG_EVT_EN en).evtPend p).testBit i = (s.event p i && en.testBit i) := by
  rw [State.evtPend_testBit, State.wr_event_apart _ _ _ _ _ rfl, State.wr_rd_same, show HDR.PG_EVT_EN.width = 32 from rfl,
    Nat.testBit_mod_two_pow]
  simp [hi]

end Sys2Proof.Machine

namespace Sys2Proof

open Machine

/-- Settles O52: after the clear the page shows no error, so the one that meets it is the first. -/
theorem errorMeetsClear : Obligations.ErrorMeetsClear := by
  intro s p nn info hn hi
  have h := s.errClear_errorShown p
  refine ⟨?_, State.err_first_count h nn info, ?_, ?_⟩
  · rw [State.err_errorShown _ _ _ _ hn, State.errorAfter_first h]
  · rw [State.err_info h, Nat.mod_eq_of_lt hi]
  · rw [State.err_first_time h, State.errClear_time]

/-- Settles O53: RAW bit by bit after an occurrence, a write of EN and a W1C. -/
theorem eventBits : Obligations.EventBits := by
  refine ⟨fun s p i => State.raise_event_same s p i i.isLt, fun s p i j hij => ?_, fun s p i => State.evtPend_testBit s p i,
    fun s p i en _ he hn => ?_, fun s p i m => State.raise_event_same _ p i i.isLt⟩
  · rw [State.raise_event s p i j j.isLt, decide_eq_false (fun h => hij (Fin.ext h)), Bool.false_or]
  · rw [State.evtPend_enable s p i en i.isLt, he, hn, Bool.and_self]

end Sys2Proof
end

section
/-! PROOFS. How an access ends with a fabric error: what FAB records, how the error reaches its requester, and the accesses that
meet one (R45 to R47, R106). -/

namespace Sys2Proof.Machine

open Reg

/-! ### What FAB records (R45, R47) -/

theorem Req.code_lt (req : Req) : req.code < 8 := by
  cases req with
  | app k => simp only [Req.code]; omega
  | host => decide
  | safe => decide
  | jtag => decide

/-- The count of a fabric error's code stands clear of the fields that describe the last error. -/
theorem fabCnt_apart {nn : Nat} (h1 : 1 ≤ nn) (h6 : nn ≤ 6) {r : Row}
    (hr : r ∈ [FAB.LAST_ADDR, FAB.LAST_INFO_CODE, FAB.LAST_INFO_REQ, FAB.LAST_INFO_WR, FAB.CTRL_HOST_UR, FAB.CTRL_CORE_FAULT,
      HDR.PG_EVT_RAW] ++ Row.errRows) : Row.apart FAB.CNT (nn - 1) r 0 = true ∧ Row.apart r 0 FAB.CNT (nn - 1) = true := by
  have h : ∀ r ∈ [FAB.LAST_ADDR, FAB.LAST_INFO_CODE, FAB.LAST_INFO_REQ, FAB.LAST_INFO_WR, FAB.CTRL_HOST_UR, FAB.CTRL_CORE_FAULT,
      HDR.PG_EVT_RAW] ++ Row.errRows, ∀ k : Fin 6, Row.apart FAB.CNT k.val r 0 = true ∧ Row.apart r 0 FAB.CNT k.val = true := by
    decide
  exact h r hr ⟨nn - 1, by omega⟩

theorem State.fabError_only (s : State) (nn req : Nat) (wr : Bool) (addr : Nat) :
    OnlyFields (fabFields nn) s (s.fabError nn req wr addr) := by
  unfold State.fabError
  refine OnlyFields.bump _ _ _ _ (OnlyFields.wr _ _ _ _ (OnlyFields.wr _ _ _ _ (OnlyFields.wr _ _ _ _ (OnlyFields.wr _ _ _ _
    (OnlyFields.err _ _ _ (OnlyFields.refl _ _) fun f hf => List.mem_append_right _ hf) ?_) ?_) ?_) ?_) ?_ <;> simp [fabFields]

/-- A fabric error leaves the two fields of FAB.CTRL that say how it is told (R46). -/
theorem State.fabError_rd {s : State} {nn : Nat} (h1 : 1 ≤ nn) (h6 : nn ≤ 6) (req : Nat) (wr : Bool) (addr : Nat) {r : Row}
    (hr : r ∈ [FAB.CTRL_HOST_UR, FAB.CTRL_CORE_FAULT]) : (s.fabError nn req wr addr).rd .fab r = s.rd .fab r := by
  refine (s.fabError_only nn req wr addr).fields.rd_off .fab r 0 ?_
  have hc := (fabCnt_apart h1 h6 (r := r) (by
    simp only [List.mem_cons, List.not_mem_nil, or_false] at hr
    rcases hr with rfl | rfl <;> simp)).1
  simp only [List.mem_cons, List.not_mem_nil, or_false] at hr
  rcases hr with rfl | rfl <;> simp +decide [fabFields, hc]

/-- The first error stays, a later one is counted: `fabError` records as `err` does (R43, R45). -/
theorem State.fabError_errorShown {s : State} {nn : Nat} (h1 : 1 ≤ nn) (h6 : nn ≤ 6) (req : Nat) (wr : Bool) (addr : Nat) :
    (s.fabError nn req wr addr).errorShown .fab = s.errorAfter .fab nn := by
  unfold State.fabError
  rw [State.bump_errorShown_apart _ _ _ _ (by
      simp only [Row.offShown, Bool.and_eq_true]
      exact ⟨(fabCnt_apart h1 h6 (by simp [Row.errRows])).1, (fabCnt_apart h1 h6 (by simp [Row.errRows])).1⟩),
    State.wr_errorShown_apart _ _ _ _ rfl, State.wr_errorShown_apart _ _ _ _ rfl, State.wr_errorShown_apart _ _ _ _ rfl,
    State.wr_errorShown_apart _ _ _ _ rfl, State.err_errorShown _ _ _ _ (by omega)]

theorem State.fabError_info {s : State} {nn : Nat} (h1 : 1 ≤ nn) (h6 : nn ≤ 6) (req : Req) (wr : Bool) (addr : Nat)
    (h : s.errorShown .fab = none) :
    (s.fabError nn req.code wr addr).rd .fab HDR.PG_ERR_INFO = req.code * 0x1000 + wr.toNat * 0x10000 := by
  have hq := Req.code_lt req
  have hw : wr.toNat ≤ 1 := Bool.toNat_le wr
  unfold State.fabError
  rw [State.bump_rd_apart _ _ _ _ (fabCnt_apart h1 h6 (by simp [Row.errRows])).1, State.wr_rd_apart _ _ _ _ rfl,
    State.wr_rd_apart _ _ _ _ rfl, State.wr_rd_apart _ _ _ _ rfl, State.wr_rd_apart _ _ _ _ rfl, State.err_info h]
  omega

theorem State.fabError_event {s : State} {nn : Nat} (h1 : 1 ≤ nn) (h6 : nn ≤ 6) (req : Nat) (wr : Bool) (addr : Nat) :
    (s.fabError nn req wr addr).event .fab 0 = true := by
  unfold State.fabError
  rw [State.bump_event_apart _ _ _ _ _ (fabCnt_apart h1 h6 (by simp)).1, State.wr_event_apart _ _ _ _ _ rfl,
    State.wr_event_apart _ _ _ _ _ rfl, State.wr_event_apart _ _ _ _ _ rfl, State.wr_event_apart _ _ _ _ _ rfl,
    State.err_event _ _ _ _ _ _ (by decide)]
  simp

/-- What FAB tells of the last error (R47). -/
theorem State.fabError_last {s : State} {nn : Nat} (h1 : 1 ≤ nn) (h6 : nn ≤ 6) (req : Nat) (wr : Bool) (addr : Nat) :
    (s.fabError nn req wr addr).rd .fab FAB.LAST_ADDR = addr % 2 ^ 32 ∧
      (s.fabError nn req wr addr).rd .fab FAB.LAST_INFO_CODE = nn ∧
      (s.fabError nn req wr addr).rd .fab FAB.LAST_INFO_REQ = req % 2 ^ 4 ∧
      (s.fabError nn req wr addr).rd .fab FAB.LAST_INFO_WR = wr.toNat := by
  have hc {r : Row} (hr : r ∈ [FAB.LAST_ADDR, FAB.LAST_INFO_CODE, FAB.LAST_INFO_REQ, FAB.LAST_INFO_WR]) :
      Row.apart FAB.CNT (nn - 1) r 0 = true :=
    (fabCnt_apart h1 h6 (by
      simp only [List.mem_cons, List.not_mem_nil, or_false] at hr
      rcases hr with rfl | rfl | rfl | rfl <;> simp)).1
  have hw : wr.toNat ≤ 1 := Bool.toNat_le wr
  have hm : nn % 2 ^ FAB.LAST_INFO_CODE.width = nn := Nat.mod_eq_of_lt (Nat.lt_of_le_of_lt h6 (by decide))
  have hb : wr.toNat % 2 ^ FAB.LAST_INFO_WR.width = wr.toNat := Nat.mod_eq_of_lt (Nat.lt_of_le_of_lt hw (by decide))
  unfold State.fabError
  dsimp only
  refine ⟨?_, ?_, ?_, ?_⟩
  · rw [State.bump_rd_apart _ _ _ _ (hc (by simp)), State.wr_rd_apart _ _ _ _ rfl, State.wr_rd_apart _ _ _ _ rfl,
      State.wr_rd_apart _ _ _ _ rfl, State.wr_rd_same]
    rfl
  · rw [State.bump_rd_apart _ _ _ _ (hc (by simp)), State.wr_rd_apart _ _ _ _ rfl, State.wr_rd_apart _ _ _ _ rfl,
      State.wr_rd_same, hm]
  · rw [State.bump_rd_apart _ _ _ _ (hc (by simp)), State.wr_rd_apart _ _ _ _ rfl, State.wr_rd_same]
    rfl
  · rw [State.bump_rd_apart _ _ _ _ (hc (by simp)), State.wr_rd_same, hb]

theorem State.fabError_count {s : State} {nn : Nat} (h1 : 1 ≤ nn) (h6 : nn ≤ 6) (req : Nat) (wr : Bool) (addr : Nat) :
    (s.fabError nn req wr addr).rd .fab FAB.CNT (nn - 1) = min (s.rd .fab FAB.CNT (nn - 1) + 1) (2 ^ 32 - 1) := by
  have ha {r : Row} (hr : r ∈ [FAB.LAST_ADDR, FAB.LAST_INFO_CODE, FAB.LAST_INFO_REQ, FAB.LAST_INFO_WR]) :
      Row.apart r 0 FAB.CNT (nn - 1) = true :=
    (fabCnt_apart h1 h6 (by
      simp only [List.mem_cons, List.not_mem_nil, or_false] at hr
      rcases hr with rfl | rfl | rfl | rfl <;> simp)).2
  have he : Row.offErr FAB.CNT (nn - 1) = true :=
    List.all_eq_true.2 fun r hr => (fabCnt_apart h1 h6 (List.mem_append_right _ hr)).2
  unfold State.fabError
  dsimp only
  rw [State.bump_rd_same, State.wr_rd_apart _ _ _ _ (ha (by simp)), State.wr_rd_apart _ _ _ _ (ha (by simp)),
    State.wr_rd_apart _ _ _ _ (ha (by simp)), State.wr_rd_apart _ _ _ _ (ha (by simp)), State.err_rd_apart _ _ _ _ _ he]
  rfl

/-! ### How the error reaches its requester (R46) -/

/-- The answer to an access that ends with a fabric error. -/
def State.errorReply (s : State) (req : Req) (wr : Bool) : Reply :=
  match req with
  | .host => if wr then .posted 0 else if s.on .fab FAB.CTRL_HOST_UR then .unsupported 0 else .data 0 0
  | .app _ => if s.on .fab FAB.CTRL_CORE_FAULT then .accessFault req.code else if wr then .posted req.code else .data req.code 0
  | .safe => if s.on .fab FAB.CTRL_CORE_FAULT then .accessFault req.code else if wr then .posted req.code else .data req.code 0
  | .jtag => if wr then .posted req.code else .data req.code 0

theorem State.answerError_eq (s : State) (req : Req) (wr : Bool) : s.answerError req wr =
    if s.errorReply req wr = .unsupported 0 then { s with reply := s.errorReply req wr }.raise .pci 10
    else { s with reply := s.errorReply req wr } := by
  have h : s.answerError req wr = ({ s with reply := s.errorReply req wr } : State).when
      (s.errorReply req wr == .unsupported 0) fun t => t.raise .pci 10 := by cases req <;> rfl
  rw [h, State.when]
  simp only [beq_iff_eq]

theorem State.errorReply_core {s : State} {req : Req} (h : Req.isCore req = true) (wr : Bool) : s.errorReply req wr =
    if s.on .fab FAB.CTRL_CORE_FAULT then .accessFault req.code else if wr then .posted req.code else .data req.code 0 := by
  cases req with
  | host => cases h
  | jtag => cases h
  | app k => rfl
  | safe => rfl

@[simp] theorem State.answerError_reply (s : State) (req : Req) (wr : Bool) :
    (s.answerError req wr).reply = s.errorReply req wr := by
  rw [State.answerError_eq]
  split <;> rfl

/-- The answer does not depend on the error's own record. -/
theorem State.fabError_errorReply {s : State} {nn : Nat} (h1 : 1 ≤ nn) (h6 : nn ≤ 6) (q : Nat) (w : Bool) (addr : Nat)
    (req : Req) (wr : Bool) : (s.fabError nn q w addr).errorReply req wr = s.errorReply req wr := by
  unfold State.errorReply State.on
  rw [State.fabError_rd h1 h6 q w addr (by simp), State.fabError_rd h1 h6 q w addr (by simp)]

theorem State.answerError_rd (s : State) (req : Req) (wr : Bool) (p : Page) {r : Row} {i : Nat}
    (h : Row.apart HDR.PG_EVT_RAW 0 r i = true) : (s.answerError req wr).rd p r i = s.rd p r i := by
  rw [State.answerError_eq]
  split
  · exact State.raise_rd_apart _ _ _ _ h
  · rfl

theorem State.answerError_errorShown (s : State) (req : Req) (wr : Bool) (p : Page) :
    (s.answerError req wr).errorShown p = s.errorShown p := by
  rw [State.answerError_eq]
  split
  · exact State.raise_errorShown _ _ _ _
  · rfl

theorem State.answerError_events (s : State) (req : Req) (wr : Bool) : KeepsEvents s (s.answerError req wr) := by
  rw [State.answerError_eq]
  exact KeepsEvents.ite (KeepsEvents.raise _ _ ((KeepsEvents.refl s).of_regs rfl)) ((KeepsEvents.refl s).of_regs rfl)

/-- An Unsupported Request is an error of the link (R106). -/
theorem State.answerError_only (s : State) (req : Req) (wr : Bool) :
    OnlyFields (if (s.answerError req wr).reply = .unsupported 0 then eventField .pci else [])
      { s with reply := (s.answerError req wr).reply } (s.answerError req wr) := by
  rw [State.answerError_reply, State.answerError_eq]
  split
  · exact OnlyFields.raise _ _ (OnlyFields.refl _ _) (by simp [eventField])
  · exact OnlyFields.refl _ _

theorem State.answerError_aer (s : State) (req : Req) (wr : Bool) (h : (s.answerError req wr).reply = .unsupported 0) :
    (s.answerError req wr).event .pci 10 = true := by
  rw [State.answerError_reply] at h
  rw [State.answerError_eq, if_pos h]
  exact State.raise_event_same _ _ _ (by decide)

/-- A fabric error recorded and answered is what R45 to R47 say of it. -/
theorem State.fabError_answered {s : State} {nn : Nat} (h1 : 1 ≤ nn) (h6 : nn ≤ 6) (req : Req) (wr : Bool) {addr : Nat}
    (ha : addr < 2 ^ 32) : FabError s nn req.code wr addr ((s.fabError nn req.code wr addr).answerError req wr) := by
  have hq : req.code < 2 ^ 4 := Nat.lt_trans (Req.code_lt req) (by decide)
  obtain ⟨haddr, hcode, hreq, hwr⟩ := State.fabError_last (s := s) h1 h6 req.code wr addr
  constructor
  case error => rw [State.answerError_errorShown, State.fabError_errorShown h1 h6]
  case info =>
    intro h
    rw [State.answerError_rd _ _ _ _ rfl, State.fabError_info h1 h6 req wr addr h]
  case event => exact State.answerError_events _ _ _ _ _ (by decide) (State.fabError_event h1 h6 _ _ _)
  case addr => rw [State.answerError_rd _ _ _ _ rfl, haddr, Nat.mod_eq_of_lt ha]
  case code => rw [State.answerError_rd _ _ _ _ rfl, hcode]
  case req => rw [State.answerError_rd _ _ _ _ rfl, hreq, Nat.mod_eq_of_lt hq]
  case wr =>
    rw [State.on, State.answerError_rd _ _ _ _ rfl, hwr]
    cases wr <;> rfl
  case count => rw [State.answerError_rd _ _ _ _ (fabCnt_apart h1 h6 (by simp)).2, State.fabError_count h1 h6]
  case aer => exact State.answerError_aer _ _ _
  case rest =>
    have hf := s.fabError_only nn req.code wr addr
    have hr := (s.fabError nn req.code wr addr).answerError_only req wr
    refine OnlyFields.trans ⟨fun k d hk => ?_, ?_⟩ (hr.mono fun f hf => List.mem_append_right _ hf)
    · exact hf.fields k d fun hm => hk (by rw [List.map_append]; exact List.mem_append_left _ hm)
    · rw [hf.rest]

/-! ### Which accesses meet one -/

theorem State.accessError_bounds {s : State} {t : Target} {al : Bool} {nn : Nat} (h : s.accessError t al = some nn) :
    1 ≤ nn ∧ nn ≤ 5 := by
  unfold State.accessError at h
  repeat' split at h
  all_goals cases h
  all_goals decide

/-- A timeout has code 6, unless the access meets another cause. -/
theorem State.timeoutCode_bounds (s : State) (t : Target) (al : Bool) :
    1 ≤ (s.accessError t al).getD 6 ∧ (s.accessError t al).getD 6 ≤ 6 := by
  cases he : s.accessError t al with
  | none => decide
  | some n =>
    obtain ⟨h1, h5⟩ := State.accessError_bounds he
    exact ⟨h1, Nat.le_succ_of_le h5⟩

theorem State.accessError_congr {s t : State} (hm : t.rd .sys SYS.DEV_ID_CL_MASK = s.rd .sys SYS.DEV_ID_CL_MASK)
    (hd : ∀ c, t.domUp c = s.domUp c) (hl : t.lanes = s.lanes) (hb : t.bist = s.bist) (a : Target) (al : Bool) :
    t.accessError a al = s.accessError a al := by
  unfold State.accessError State.cluPresent State.inTest
  simp only [hm, hd, hl, hb]

/-- The end of the grace wait changes nothing that the fabric judges an access by. -/
theorem State.hostTouch_accessError (s : State) (req : Req) (a : Target) (al : Bool) :
    (s.hostTouch req).accessError a al = s.accessError a al := by
  unfold State.hostTouch
  split
  · exact State.accessError_congr (State.raise_rd_apart _ _ _ _ rfl)
      (fun c => congrArg (· == 1) (State.raise_rd_apart _ _ _ _ rfl)) rfl rfl a al
  · rfl

theorem State.hostTouch_of_awake {s : State} (h : s.power.grace = false) (req : Req) : s.hostTouch req = s := by
  unfold State.hostTouch
  rw [h]
  rfl

/-- The fabric has the addresses below 32 MiB alone (R31). -/
theorem Target.lt_of_mapped {a : Nat} (h : Target.ofAddr a ≠ .unmapped) : a < 0x2000000 := by
  by_contra ha
  refine h ?_
  unfold Target.ofAddr
  rw [if_neg (by omega), dif_neg (by omega), dif_neg (by omega), dif_neg (by omega)]

/-- An access of a requester that is no core, or of a core below 32 MiB, goes to the fabric (R88). -/
theorem inFabric {req : Req} {a : Nat} (h : Req.isCore req = false ∨ a < 0x2000000) :
    (Req.isCore req && coreRegion req a != .fabric) = false := by
  rcases h with h | h
  · rw [h, Bool.false_and]
  · unfold coreRegion
    rw [if_pos h]
    exact Bool.and_false _

theorem hostCut_core {s : State} {req : Req} (h : Req.isCore req = true) : s.hostCut req = false := by
  cases req with
  | host => cases h
  | jtag => cases h
  | app k => rfl
  | safe => rfl

theorem exec_registerWrite_error {s : State} {req : Req} {a d : Word} {be : BitVec 4} {h : Option Word} {nn : Nat}
    (hu : s.devUp = true) (hc : s.hostCut req = false) (hr : Req.isCore req = false ∨ a.toNat < 0x2000000)
    (he : s.accessError (Target.ofAddr a.toNat)
      (be == 15 && if h.isSome then wholePair (Target.ofAddr a.toNat) a.toNat else a.toNat % 4 == 0) = some nn) :
    exec (.registerWrite req a be ⟨d, h⟩) s =
      .next (((s.hostTouch req).fabError nn req.code true a.toNat).answerError req true) := by
  show execRegisterWrite req a be ⟨d, h⟩ s = _
  unfold execRegisterWrite
  dsimp only
  rw [hu, hc, inFabric hr, State.hostTouch_accessError, he]
  rfl

theorem exec_pairLowRead_error {s : State} {req : Req} {a : Word} {wide : Bool} {nn : Nat}
    (hu : s.devUp = true) (hc : s.hostCut req = false) (hr : Req.isCore req = false ∨ a.toNat < 0x2000000)
    (he : s.accessError (Target.ofAddr a.toNat)
      (if wide then wholePair (Target.ofAddr a.toNat) a.toNat else a.toNat % 4 == 0) = some nn) :
    exec (.pairLowRead req a wide) s = .next ((s.fabError nn req.code false a.toNat).answerError req false) := by
  show execPairLowRead req a wide s = _
  unfold execPairLowRead
  dsimp only
  rw [hu, hc, inFabric hr, he]
  rfl

theorem exec_accessTimeout {s : State} {req : Req} (wr : Bool) (a : Word) (hu : s.devUp = true) (hc : s.hostCut req = false) :
    exec (.accessTimeout req wr a) s = .next ((s.fabError
      ((s.accessError (Target.ofAddr a.toNat) (a.toNat % 4 == 0)).getD 6) req.code wr a.toNat).answerError req wr) := by
  show execAccessTimeout req wr a s = _
  unfold execAccessTimeout
  rw [hu, hc]
  rfl

/-- A write that meets a fabric error ends with it, where no host access ends the grace wait. -/
theorem registerWrite_error {s : State} {req : Req} {a d : Word} {be : BitVec 4} {h : Option Word} {nn : Nat}
    (hu : s.devUp = true) (hc : s.hostCut req = false) (hg : s.power.grace = false)
    (hr : Req.isCore req = false ∨ a.toNat < 0x2000000)
    (he : s.accessError (Target.ofAddr a.toNat)
      (be == 15 && if h.isSome then wholePair (Target.ofAddr a.toNat) a.toNat else a.toNat % 4 == 0) = some nn) :
    ∃ t, exec (.registerWrite req a be ⟨d, h⟩) s = .next t ∧ FabError s nn req.code true a.toNat t := by
  obtain ⟨h1, h5⟩ := State.accessError_bounds he
  refine ⟨_, exec_registerWrite_error hu hc hr he, ?_⟩
  rw [State.hostTouch_of_awake hg]
  exact State.fabError_answered h1 (by omega) req true a.isLt

theorem pairLowRead_error {s : State} {req : Req} {a : Word} {wide : Bool} {nn : Nat}
    (hu : s.devUp = true) (hc : s.hostCut req = false) (hr : Req.isCore req = false ∨ a.toNat < 0x2000000)
    (he : s.accessError (Target.ofAddr a.toNat)
      (if wide then wholePair (Target.ofAddr a.toNat) a.toNat else a.toNat % 4 == 0) = some nn) :
    ∃ t, exec (.pairLowRead req a wide) s = .next t ∧ FabError s nn req.code false a.toNat t := by
  obtain ⟨h1, h5⟩ := State.accessError_bounds he
  exact ⟨_, exec_pairLowRead_error hu hc hr he, State.fabError_answered h1 (by omega) req false a.isLt⟩

theorem accessTimeout_error {s : State} {req : Req} {wr : Bool} {a : Word} {nn : Nat} (hu : s.devUp = true)
    (hc : s.hostCut req = false)
    (hn : (s.accessError (Target.ofAddr a.toNat) (a.toNat % 4 == 0)).getD 6 = nn) :
    ∃ t, exec (.accessTimeout req wr a) s = .next t ∧ FabError s nn req.code wr a.toNat t := by
  subst hn
  obtain ⟨h1, h6⟩ := State.timeoutCode_bounds s (Target.ofAddr a.toNat) (a.toNat % 4 == 0)
  exact ⟨_, exec_accessTimeout wr a hu hc, State.fabError_answered h1 h6 req wr a.isLt⟩

end Sys2Proof.Machine
end

section
/-! PROOFS. The answer to an access that ends with a fabric error, by `HOST_UR` and `CORE_FAULT` (R46). -/

namespace Sys2Proof.Machine

open Reg

theorem State.fabError_reply {s : State} {nn : Nat} (h1 : 1 ≤ nn) (h6 : nn ≤ 6) (req : Req) (wr : Bool) (addr : Nat) :
    ((s.fabError nn req.code wr addr).answerError req wr).reply = s.errorReply req wr := by
  rw [State.answerError_reply, State.fabError_errorReply h1 h6]

/-- A host read that runs into the timeout is answered by `HOST_UR` as it stands. -/
theorem accessTimeout_hostRead {s : State} (a : Word) (hu : s.devUp = true) (hc : s.hostCut .host = false) :
    ∃ t, exec (.accessTimeout .host false a) s = .next t ∧
      t.reply = if s.on .fab FAB.CTRL_HOST_UR then .unsupported 0 else .data 0 0 := by
  obtain ⟨h1, h6⟩ := s.timeoutCode_bounds (Target.ofAddr a.toNat) (a.toNat % 4 == 0)
  exact ⟨_, exec_accessTimeout false a hu hc, State.fabError_reply h1 h6 .host false _⟩

theorem registerWrite_hostError {s : State} {a d : Word} {be : BitVec 4} {h : Option Word} {nn : Nat} (hu : s.devUp = true)
    (hc : s.hostCut .host = false) (he : s.accessError (Target.ofAddr a.toNat)
      (be == 15 && if h.isSome then wholePair (Target.ofAddr a.toNat) a.toNat else a.toNat % 4 == 0) = some nn) :
    ∃ t, exec (.registerWrite .host a be ⟨d, h⟩) s = .next t ∧ t.reply = .posted 0 :=
  ⟨_, exec_registerWrite_error hu hc (Or.inl rfl) he, State.answerError_reply ..⟩

theorem pairLowRead_coreError {s : State} {req : Req} {a : Word} {wide : Bool} {nn : Nat} (hu : s.devUp = true)
    (hr : Req.isCore req = true) (ha : a.toNat < 0x2000000) (he : s.accessError (Target.ofAddr a.toNat)
      (if wide then wholePair (Target.ofAddr a.toNat) a.toNat else a.toNat % 4 == 0) = some nn) :
    ∃ t, exec (.pairLowRead req a wide) s = .next t ∧
      t.reply = if s.on .fab FAB.CTRL_CORE_FAULT then .accessFault req.code else .data req.code 0 := by
  obtain ⟨h1, h5⟩ := State.accessError_bounds he
  refine ⟨_, exec_pairLowRead_error hu (hostCut_core hr) (Or.inr ha) he, ?_⟩
  rw [State.fabError_reply h1 (Nat.le_succ_of_le h5), State.errorReply_core hr]
  rfl

theorem State.hostTouch_core {s : State} {req : Req} (h : Req.isCore req = true) : s.hostTouch req = s := by
  cases req with
  | host => cases h
  | jtag => cases h
  | app k => exact if_neg (by simp)
  | safe => exact if_neg (by simp)

/-- A core's store that meets a fabric error is answered by `CORE_FAULT` as it stands, and FAB alone records it. -/
theorem registerWrite_coreError {s : State} {req : Req} {a d : Word} {be : BitVec 4} {h : Option Word} {nn : Nat}
    (hu : s.devUp = true) (hr : Req.isCore req = true) (ha : a.toNat < 0x2000000) (he : s.accessError (Target.ofAddr a.toNat)
      (be == 15 && if h.isSome then wholePair (Target.ofAddr a.toNat) a.toNat else a.toNat % 4 == 0) = some nn) :
    ∃ t, exec (.registerWrite req a be ⟨d, h⟩) s = .next t ∧
      t.reply = (if s.on .fab FAB.CTRL_CORE_FAULT then .accessFault req.code else .posted req.code) ∧
      OnlyFields (fabFields nn) { s with reply := t.reply } t := by
  obtain ⟨h1, h5⟩ := State.accessError_bounds he
  refine ⟨_, exec_registerWrite_error hu (hostCut_core hr) (Or.inr ha) he, ?_⟩
  rw [State.hostTouch_core hr]
  have hreply : ((s.fabError nn req.code true a.toNat).answerError req true).reply =
      if s.on .fab FAB.CTRL_CORE_FAULT then .accessFault req.code else .posted req.code := by
    rw [State.fabError_reply h1 (Nat.le_succ_of_le h5), State.errorReply_core hr]
    rfl
  have hrest := (State.fabError_answered (s := s) h1 (Nat.le_succ_of_le h5) req true a.isLt).rest
  rw [if_neg (by rw [hreply]; split <;> exact Reply.noConfusion), List.append_nil] at hrest
  exact ⟨hreply, hrest⟩

end Sys2Proof.Machine

namespace Sys2Proof

open Machine

/-- Settles O55: the answer by the bit in force, for the accesses that end with a fabric error. -/
theorem fabricAnswers : Obligations.FabricAnswers := by
  refine ⟨?_, ?_, fun s a d be h nn hu hc he => registerWrite_hostError hu hc he, ?_, ?_, ?_, ?_⟩
  · intro s a hu hc hb
    simpa only [hb, Bool.false_eq_true, reduceIte] using accessTimeout_hostRead a hu hc
  · intro s a hu hc hb
    simpa only [hb, reduceIte] using accessTimeout_hostRead a hu hc
  · intro s req a wide nn hu hr ha hb he
    simpa only [hb, reduceIte] using pairLowRead_coreError hu hr ha he
  · intro s req a wide nn hu hr ha hb he
    simpa only [hb, Bool.false_eq_true, reduceIte] using pairLowRead_coreError hu hr ha he
  · intro s req a d be h nn hu hr ha hb he
    obtain ⟨t, hx, hreply, -⟩ := registerWrite_coreError (d := d) hu hr ha he
    exact ⟨t, hx, hreply.trans (if_pos hb)⟩
  · intro s req a d be h nn hu hr ha hb he
    obtain ⟨t, hx, hreply, hrest⟩ := registerWrite_coreError (d := d) hu hr ha he
    exact ⟨t, hx, hreply.trans (if_neg (by simp [hb])), hrest⟩

end Sys2Proof
end

section
/-! PROOFS. A read of `TIM.TIME_FRAC` by a requester that has captured the fraction with TIME (R332): it answers the captured
fraction, not what the register shows. -/

namespace Sys2Proof.Machine

open Reg

/-- The block idle, and the host holds the fraction 5 that it captured with TIME. -/
def fracCaptured : State :=
  { State.reset with power := { dev := .idle }, captured := [(0, fracKey, 5)] }

/-- The captured fraction is the answer. -/
theorem exec_pairLowRead_fracCaptured :
    exec (.pairLowRead .host 0x40048 false) fracCaptured = .next { fracCaptured with reply := .data 0 5 } := by
  rfl

/-- The register itself shows 0: the counter's fraction is kept beside the registers. -/
theorem fracCaptured_shown : fracCaptured.readReg .tim 0x48 = 0 := by decide +kernel

end Sys2Proof.Machine

namespace Sys2Proof

open Machine

/-- Refutes O54: the clause that a read of a plain register answers what the register shows leaves out `TIM.TIME_FRAC`, which
answers the fraction captured with TIME (R332). The host has captured 5, and the register shows 0. -/
theorem not_readsChangeNothing : ¬ Obligations.ReadsChangeNothing := by
  rintro ⟨-, hplain, -⟩
  have h := hplain fracCaptured .host 0x40048 .tim 0x48 (by decide) (by decide) (by decide) (by decide) (by decide) (by decide)
  rw [exec_pairLowRead_fracCaptured, fracCaptured_shown] at h
  have hreply := congrArg State.reply (Host.Outcome.next.inj h)
  simp [Req.code] at hreply

end Sys2Proof
end

section
/-! PROOFS. MSI-X messages: which fields and parts they touch, and what `EVT.EOI`, an unmask and the clearing of events and
errors leave (R35, R51, R56). -/

namespace Sys2Proof.Machine

open Reg

/-! ### What messages touch -/

/-- From s to t messages have been sent or held: only the pending bits, the output and what was seen of the vectors change. -/
def MsixOnly (s t : State) : Prop := OnlyFields pbaFields { s with out := t.out, vecWas := t.vecWas } t

theorem MsixOnly.refl (s : State) : MsixOnly s s := OnlyFields.refl _ s

theorem MsixOnly.untouched {s t : State} (h : MsixOnly s t) : Untouched pbaFields s t := fun k d hk => h.fields k d hk

theorem MsixOnly.trans {s t u : State} (h : MsixOnly s t) (k : MsixOnly t u) : MsixOnly s u :=
  ⟨fun a d ha => (k.fields a d ha).trans (h.fields a d ha), by rw [k.rest, h.rest]⟩

theorem MsixOnly.of_only {fs : List FieldAt} {s t : State} (h : OnlyFields fs s t) (hs : ∀ f ∈ fs, f ∈ pbaFields) :
    MsixOnly s t :=
  ⟨fun a d ha => h.fields.mono hs a d ha, by rw [h.rest]⟩

theorem MsixOnly.each {α : Type} {s t : State} (l : List α) (f : State → α → State)
    (hf : ∀ u, ∀ x ∈ l, MsixOnly s u → MsixOnly s (f u x)) (h : MsixOnly s t) : MsixOnly s (t.each l f) := by
  induction l generalizing t with
  | nil => exact h
  | cons x l ih =>
    exact ih (fun u y hy => hf u y (List.mem_cons_of_mem _ hy)) (hf t x (List.mem_cons_self ..) h)

theorem pbaFields_mem {v : Nat} (hv : v < 64) : (Page.pci, PCI.MSIX_PBA, v / 32) ∈ pbaFields := by
  obtain h | h : v / 32 = 0 ∨ v / 32 = 1 := by omega
  all_goals rw [h]; simp [pbaFields]

theorem State.setPba_only (s : State) (v : Nat) (b : Bool) :
    OnlyFields [(.pci, PCI.MSIX_PBA, v / 32)] s (s.setPba v b) := by
  unfold State.setPba
  exact OnlyFields.ite (OnlyFields.refl _ _) (OnlyFields.wr _ _ _ _ (OnlyFields.refl _ _) (by simp))

theorem State.setPba_msixOnly (s : State) {v : Nat} (hv : v < 64) (b : Bool) : MsixOnly s (s.setPba v b) :=
  .of_only (s.setPba_only v b) (by simpa using pbaFields_mem hv)

theorem State.msixSend_msixOnly (s : State) {v : Nat} (hv : v < 64) : MsixOnly s (s.msixSend v) := by
  have he : MsixOnly s (s.emit (.msix v)) := ⟨Untouched.refl _ _, rfl⟩
  unfold State.msixSend
  split
  · exact he.trans (State.setPba_msixOnly _ hv false)
  · exact State.setPba_msixOnly _ hv true

theorem State.settleMsix_msixOnly (s : State) : MsixOnly s s.settleMsix := by
  have hv {f : Nat → Bool} {v : Nat} (hm : v ∈ (List.range 64).filter f) : v < 64 :=
    List.mem_range.1 (List.mem_filter.1 hm).1
  have hw (u : State) (n : Nat) : MsixOnly u { u with vecWas := n } := ⟨Untouched.refl _ _, rfl⟩
  refine MsixOnly.trans ?_ (hw _ _)
  refine MsixOnly.each _ _ (fun u v hm hu => ?_) (MsixOnly.each _ _
    (fun u v hm hu => hu.trans (u.msixSend_msixOnly (hv hm))) (MsixOnly.each _ _
      (fun u v hm hu => hu.trans (u.setPba_msixOnly (hv hm) false)) (MsixOnly.refl s)))
  split
  · exact hu.trans (u.msixSend_msixOnly (hv hm))
  · exact hu

/-- A field of no pending bits is left alone by messages. -/
theorem MsixOnly.rd {s t : State} (h : MsixOnly s t) (p : Page) {r : Row} {i : Nat} (hr : FieldAt.off pbaFields r i = true) :
    t.rd p r i = s.rd p r i := h.untouched.rd_off p r i hr

theorem MsixOnly.event {s t : State} (h : MsixOnly s t) (p : Page) (i : Nat) : t.event p i = s.event p i :=
  h.untouched.event_off p i rfl

theorem MsixOnly.errorShown {s t : State} (h : MsixOnly s t) (p : Page) : t.errorShown p = s.errorShown p :=
  h.untouched.errorShown_off p rfl rfl

/-- A change between two rounds of messages: its own fields change, and those of messages. -/
theorem State.settling_only {fs : List FieldAt} {s : State} {f : State → State}
    (h : OnlyFields fs s.settleMsix (f s.settleMsix)) : OnlyFields (fs ++ pbaFields)
      { s with out := (s.settling f).out, vecWas := (s.settling f).vecWas } (s.settling f) := by
  have h1 := s.settleMsix_msixOnly
  have h2 : MsixOnly (f s.settleMsix) (s.settling f) := (f s.settleMsix).settleMsix_msixOnly
  refine ⟨fun k d hk => ?_, ?_⟩
  · rw [List.map_append, List.mem_append, not_or] at hk
    rw [h2.untouched k d hk.2, h.fields k d hk.1]
    exact h1.untouched k d hk.2
  · rw [h2.rest, h.rest, h1.rest]

/-! ### The pending bits -/

theorem State.setPba_pba (s : State) (v : Nat) (b : Bool) : (s.setPba v b).pba v = b := by
  unfold State.setPba
  dsimp only
  split
  · simp_all
  · rename_i h
    have hv : v % 32 < 32 := Nat.mod_lt _ (by decide)
    unfold State.pba at h ⊢
    rw [State.wr_rd_same, show PCI.MSIX_PBA.width = 32 from rfl, Nat.testBit_mod_two_pow, Nat.testBit_xor,
      Nat.testBit_two_pow_self]
    cases b <;> simp_all

/-- A message that can go goes, and one that cannot is held (R56). -/
theorem State.msixSend_sent {s : State} {v : Nat} (hd : s.dmaOk = true) (hm : s.on .pci PCI.MSIX_MASK v = false) :
    (s.msixSend v).out = s.out ++ [.msix v] ∧ (s.msixSend v).pba v = false ∧
      OnlyFields [(.pci, PCI.MSIX_PBA, v / 32)] { s with out := (s.msixSend v).out } (s.msixSend v) := by
  have h := State.setPba_only (s.emit (.msix v)) v false
  have he : s.msixSend v = (s.emit (.msix v)).setPba v false := if_pos (by rw [hd, hm]; rfl)
  have ho : ((s.emit (.msix v)).setPba v false).out = s.out ++ [.msix v] := by rw [h.rest]; rfl
  rw [he, ho]
  exact ⟨rfl, State.setPba_pba _ v false, h⟩

theorem State.msixSend_held {s : State} {v : Nat} (hm : s.on .pci PCI.MSIX_MASK v = true) :
    s.msixSend v = s.setPba v true := if_neg (by rw [hm]; simp)

/-- The mask of a vector stands clear of the pending bits. -/
theorem msixMask_off {v : Nat} (hv : v < 64) : FieldAt.off pbaFields PCI.MSIX_MASK v = true := by
  have h : ∀ v : Fin 64, FieldAt.off pbaFields PCI.MSIX_MASK v.val = true := by decide
  exact h ⟨v, hv⟩

theorem msixMask_pba {v w : Nat} (hv : v < 64) (hw : w < 64) : Row.apart PCI.MSIX_MASK v PCI.MSIX_PBA (w / 32) = true := by
  have h : ∀ v : Fin 64, ∀ j : Fin 2, Row.apart PCI.MSIX_MASK v.val PCI.MSIX_PBA j.val = true := by decide
  exact h ⟨v, hv⟩ ⟨w / 32, by omega⟩

/-! ### Messages do not see the reply -/

/-- The state with another answer to the requester. -/
def State.withReply (s : State) (r : Reply) : State := { s with reply := r }

/-- A write that the fabric lets through acts on the state in which it is answered as posted. -/
theorem State.gate_posted {s : State} {req : Req} {p : Page} (h : s.open_ req p = true) (off : Nat) (act : State → State) :
    s.gate req p off act = act (s.withReply (.posted req.code)) := State.gate_open h off act

theorem State.withReply_ite (c : Prop) [Decidable c] (t u : State) (r : Reply) :
    (if c then t else u).withReply r = if c then t.withReply r else u.withReply r := apply_ite (State.withReply · r) c t u

theorem State.each_withReply {α : Type} (r : Reply) (f : State → α → State)
    (hf : ∀ u x, f (u.withReply r) x = (f u x).withReply r) (l : List α) (s : State) :
    (s.withReply r).each l f = (s.each l f).withReply r := by
  induction l generalizing s with
  | nil => rfl
  | cons x l ih => rw [State.each_cons, hf, ih]; rfl

theorem State.setPba_withReply (s : State) (r : Reply) (v : Nat) (b : Bool) :
    (s.withReply r).setPba v b = (s.setPba v b).withReply r := by
  unfold State.setPba
  rw [State.withReply_ite]
  rfl

theorem State.msixSend_withReply (s : State) (r : Reply) (v : Nat) :
    (s.withReply r).msixSend v = (s.msixSend v).withReply r := by
  have h1 : ((s.withReply r).emit (.msix v)).setPba v false = ((s.emit (.msix v)).setPba v false).withReply r :=
    (s.emit (.msix v)).setPba_withReply r v false
  unfold State.msixSend
  rw [h1, State.setPba_withReply, State.withReply_ite]
  rfl

theorem State.settleMsix_withReply (s : State) (r : Reply) :
    (s.withReply r).settleMsix = s.settleMsix.withReply r := by
  have hheld (u : State) (v : Nat) : (if (u.withReply r).pba v then (u.withReply r).msixSend v else u.withReply r) =
      (if u.pba v then u.msixSend v else u).withReply r := by
    rw [State.msixSend_withReply, State.withReply_ite]
    rfl
  unfold State.settleMsix
  dsimp only
  rw [State.each_withReply r _ fun u v => u.setPba_withReply r v false,
    State.each_withReply r _ fun u v => u.msixSend_withReply r v, State.each_withReply r _ hheld]
  rfl

/-! ### The commands -/

theorem exec_evtPendClear {s : State} {req : Req} {p : Page} (m : Word) (h : s.open_ req p = true) :
    exec (.evtPendClear req p m) s =
      .next ((s.withReply (.posted req.code)).settling fun t => t.evtClear p m.toNat) :=
  congrArg Host.Outcome.next (State.gate_posted h 0x1C _)

theorem evtPendClear_clears {s : State} {req : Req} {p : Page} (m : Word) (h : s.open_ req p = true) :
    ∃ t, exec (.evtPendClear req p m) s = .next t ∧
      (∀ i : Fin 32, t.event p i.val = (s.event p i.val && !bit m.toNat i.val)) ∧
      OnlyFields (eventField p ++ pbaFields) { s with reply := .posted req.code, out := t.out, vecWas := t.vecWas } t := by
  let u := s.withReply (.posted req.code)
  refine ⟨_, exec_evtPendClear m h, fun i => ?_, State.settling_only (s := u) (u.settleMsix.evtClear_only p m.toNat)⟩
  have h1 := u.settleMsix_msixOnly.event p i.val
  have h2 := (u.settleMsix.evtClear p m.toNat).settleMsix_msixOnly.event p i.val
  calc _ = (u.settleMsix.evtClear p m.toNat).event p i.val := h2
    _ = (u.settleMsix.event p i.val && !m.toNat.testBit i.val) := State.evtClear_event ..
    _ = (s.event p i.val && !bit m.toNat i.val) := by rw [h1]; rfl

theorem errCodeClear_clears {s : State} {req : Req} {p : Page} (h : s.open_ req p = true) :
    ∃ t, exec (.errCodeClear req p) s = .next t ∧ t.errorShown p = none ∧ t.rd p HDR.PG_ERR_CODE_CODE = 0 ∧
      t.rd p HDR.PG_ERR_CODE_COUNT = 0 ∧ t.rd p HDR.PG_ERR_INFO = 0 ∧ t.rd p HDR.PG_ERR_TIME = 0 ∧
      OnlyFields (errorFields p) { s with reply := .posted req.code } t ∧ t.rd p HDR.PG_EVT_RAW = s.rd p HDR.PG_EVT_RAW :=
  ⟨_, congrArg Host.Outcome.next (State.gate_posted h 0x20 _), State.errClear_errorShown _ p, State.errClear_rd _ p (by simp),
    State.errClear_rd _ p (by simp), State.errClear_rd _ p (by simp), State.errClear_rd _ p (by simp), State.errClear_only _ p,
    State.errClear_raw _ p⟩

theorem exec_eoi {s : State} {req : Req} (v : BitVec 6) (h : s.open_ req .evt = true) :
    exec (.eoi req v) s = .next (if s.vecOr v.toNat then (s.withReply (.posted req.code)).msixSend v.toNat
      else s.withReply (.posted req.code)) :=
  congrArg Host.Outcome.next (State.gate_posted h 0xA0 _)

/-- An unmask, its message held until then going out as the host can be reached. -/
def State.unmask (s : State) (v : Nat) : State :=
  let t := s.settleMsix.wr .pci PCI.MSIX_MASK 0 v
  if t.pba v then t.msixSend v else t

theorem State.unmask_mask (s : State) {v : Nat} (hv : v < 64) : (s.unmask v).on .pci PCI.MSIX_MASK v = false := by
  have h : (s.settleMsix.wr .pci PCI.MSIX_MASK 0 v).on .pci PCI.MSIX_MASK v = false := by
    rw [State.on, State.wr_rd_same]
    rfl
  unfold State.unmask
  dsimp only
  split
  · rw [State.on, ((s.settleMsix.wr .pci PCI.MSIX_MASK 0 v).msixSend_msixOnly hv).rd .pci (msixMask_off hv)]
    exact h
  · exact h

theorem State.unmask_only (s : State) {v : Nat} (hv : v < 64) : OnlyFields ((.pci, PCI.MSIX_MASK, v) :: pbaFields)
    { s with out := (s.unmask v).out, vecWas := (s.unmask v).vecWas } (s.unmask v) := by
  have h1 := s.settleMsix_msixOnly
  have hw : OnlyFields [(.pci, PCI.MSIX_MASK, v)] s.settleMsix (s.settleMsix.wr .pci PCI.MSIX_MASK 0 v) :=
    OnlyFields.wr _ _ _ _ (OnlyFields.refl _ _) (by simp)
  have h2 : MsixOnly (s.settleMsix.wr .pci PCI.MSIX_MASK 0 v) (s.unmask v) := by
    unfold State.unmask
    dsimp only
    split
    · exact State.msixSend_msixOnly _ hv
    · exact MsixOnly.refl _
  refine ⟨fun k d hk => ?_, ?_⟩
  · rw [List.map_cons, List.mem_cons, not_or] at hk
    rw [h2.untouched k d hk.2, hw.fields k d (by simpa using hk.1)]
    exact h1.untouched k d hk.2
  · rw [h2.rest, hw.rest, h1.rest]

theorem exec_msixUnmask {s : State} {req : Req} (v : BitVec 6) (h : s.open_ req .pci = true) :
    exec (.msixUnmask req v) s = .next ((s.withReply (.posted req.code)).unmask v.toNat) :=
  congrArg Host.Outcome.next (State.gate_posted h _ _)

/-- With no message due the unmask writes the mask alone, and sends the message that its vector holds. -/
theorem State.unmask_settled {s : State} {v : Nat} (hv : v < 64) (hs : s.settleMsix = s) : s.unmask v =
    if s.pba v then (s.wr .pci PCI.MSIX_MASK 0 v).msixSend v else s.wr .pci PCI.MSIX_MASK 0 v := by
  have hp : (s.wr .pci PCI.MSIX_MASK 0 v).pba v = s.pba v := by
    unfold State.pba
    rw [State.wr_rd_apart _ _ _ _ (msixMask_pba hv hv)]
  unfold State.unmask
  rw [hs]
  dsimp only
  rw [hp]

theorem State.wr_dmaOk (s : State) {v : Nat} (hv : v < 64) (x : Nat) : (s.wr .pci PCI.MSIX_MASK x v).dmaOk = s.dmaOk := by
  have h : ∀ v : Fin 64, Row.apart PCI.MSIX_MASK v.val PCI.LINK_UP 0 = true := by decide
  unfold State.dmaOk State.on
  rw [State.wr_rd_apart _ _ _ _ (h ⟨v, hv⟩)]
  rfl

theorem msixUnmask_sends {s : State} {req : Req} {v : BitVec 6} (h : s.open_ req .pci = true) (hs : s.settleMsix = s)
    (hp : s.pba v.toNat = true) (hd : s.dmaOk = true) :
    ∃ t, exec (.msixUnmask req v) s = .next t ∧ t.on .pci PCI.MSIX_MASK v.toNat = false ∧
      t.out = s.out ++ [.msix v.toNat] ∧ t.pba v.toNat = false ∧
      OnlyFields [(.pci, PCI.MSIX_MASK, v.toNat), (.pci, PCI.MSIX_PBA, v.toNat / 32)]
        { s with reply := .posted req.code, out := t.out } t := by
  have hv : v.toNat < 64 := v.isLt
  let u := s.withReply (.posted req.code)
  have hu : u.settleMsix = u := by rw [State.settleMsix_withReply, hs]
  have hm : (u.wr .pci PCI.MSIX_MASK 0 v.toNat).on .pci PCI.MSIX_MASK v.toNat = false := by
    rw [State.on, State.wr_rd_same]
    rfl
  have he : u.unmask v.toNat = (u.wr .pci PCI.MSIX_MASK 0 v.toNat).msixSend v.toNat :=
    (State.unmask_settled hv hu).trans (if_pos hp)
  obtain ⟨hout, hpba, honly⟩ := State.msixSend_sent (s := u.wr .pci PCI.MSIX_MASK 0 v.toNat)
    (by rw [State.wr_dmaOk u hv]; exact hd) hm
  refine ⟨_, (exec_msixUnmask v h).trans (congrArg _ he), he ▸ u.unmask_mask hv, hout, hpba, fun k d hk => ?_, honly.rest⟩
  rw [List.map_cons, List.mem_cons, not_or] at hk
  rw [honly.fields k d hk.2]
  exact (OnlyFields.wr _ _ 0 _ (OnlyFields.refl _ u) (List.mem_singleton.2 rfl)).fields k d (by simpa using hk.1)

theorem msixUnmask_quiet {s : State} {req : Req} {v : BitVec 6} (h : s.open_ req .pci = true) (hs : s.settleMsix = s)
    (hp : s.pba v.toNat = false) :
    ∃ t, exec (.msixUnmask req v) s = .next t ∧ t.on .pci PCI.MSIX_MASK v.toNat = false ∧
      OnlyFields [(.pci, PCI.MSIX_MASK, v.toNat)] { s with reply := .posted req.code } t := by
  let u := s.withReply (.posted req.code)
  have hu : u.settleMsix = u := by rw [State.settleMsix_withReply, hs]
  have he : u.unmask v.toNat = u.wr .pci PCI.MSIX_MASK 0 v.toNat :=
    (State.unmask_settled v.isLt hu).trans (if_neg (Bool.eq_false_iff.1 hp))
  exact ⟨_, (exec_msixUnmask v h).trans (congrArg _ he), he ▸ u.unmask_mask v.isLt,
    OnlyFields.wr _ _ _ _ (OnlyFields.refl _ u) (List.mem_singleton.2 rfl)⟩

end Sys2Proof.Machine

namespace Sys2Proof

open Machine

/-- Settles O51: each command acts between two rounds of messages, which touch the pending bits alone. -/
theorem eventRegisters : Obligations.EventRegisters := by
  refine ⟨fun s req p m h => evtPendClear_clears m h, fun s req p h => errCodeClear_clears h, ?_, ?_, ?_,
    fun s req v h hs hp hd => msixUnmask_sends h hs hp hd, fun s req v h hs hp => msixUnmask_quiet h hs hp, ?_⟩
  · intro s req v h ho hd hm
    exact ⟨_, (exec_eoi v h).trans (congrArg _ (if_pos ho)),
      State.msixSend_sent (s := s.withReply (.posted req.code)) hd hm⟩
  · intro s req v h ho hm
    have he : (s.withReply (.posted req.code)).msixSend v.toNat = (s.withReply (.posted req.code)).setPba v.toNat true :=
      State.msixSend_held hm
    refine ⟨_, (exec_eoi v h).trans (congrArg _ ((if_pos ho).trans he)), ?_, State.setPba_pba _ _ _,
      State.setPba_only _ _ _⟩
    rw [(State.setPba_only _ _ _).rest]
    rfl
  · intro s req v h ho
    exact (exec_eoi v h).trans (congrArg _ (if_neg (Bool.eq_false_iff.1 ho)))
  · intro s req v h
    exact ⟨_, exec_msixUnmask v h, State.unmask_mask _ v.isLt, (s.withReply (.posted req.code)).unmask_only v.isLt⟩

end Sys2Proof
end

section
/-! PROOFS. Words written and captured for a requester, and the reads of pages and table windows (R45, R48, R50, R206, R207, R253,
R332). -/

namespace Sys2Proof.Machine

open Reg

/-! ### What a requester holds -/

theorem heldOf_without (l : List (Nat × Nat × Nat)) (req key : Nat) : heldOf (heldWithout l req key) req key = none := by
  rw [heldOf, Option.map_eq_none_iff, List.find?_eq_none]
  intro e he
  simpa only [Bool.not_eq_true, Bool.not_eq_true'] using (List.mem_filter.1 he).2

/-- What is taken out under one key leaves what stands under another. -/
theorem heldOf_without_ne (l : List (Nat × Nat × Nat)) {req key req' key' : Nat} (h : req ≠ req' ∨ key ≠ key') :
    heldOf (heldWithout l req key) req' key' = heldOf l req' key' := by
  unfold heldOf heldWithout
  rw [List.find?_filter]
  congr 2
  funext e
  rw [Bool.eq_iff_iff]
  simp only [Bool.not_eq_true', Bool.and_eq_false_iff, Bool.and_eq_true, beq_iff_eq, beq_eq_false_iff_ne, decide_eq_true_eq]
  constructor
  · exact fun hx => hx.2
  · rintro ⟨h1, h2⟩
    refine ⟨?_, h1, h2⟩
    rw [h1, h2]
    exact h.imp Ne.symm Ne.symm

theorem heldOf_append (l m : List (Nat × Nat × Nat)) (req key : Nat) :
    heldOf (l ++ m) req key = (heldOf l req key).or (heldOf m req key) := by
  rw [heldOf, List.find?_append, Option.map_or]
  rfl

theorem heldOf_put (l : List (Nat × Nat × Nat)) (req key v : Nat) :
    heldOf (heldWithout l req key ++ [(req, key, v)]) req key = some v := by
  rw [heldOf_append, heldOf_without]
  simp [heldOf]

theorem heldOf_put_ne (l : List (Nat × Nat × Nat)) {req key req' key' : Nat} (v : Nat) (h : req ≠ req' ∨ key ≠ key') :
    heldOf (heldWithout l req key ++ [(req, key, v)]) req' key' = heldOf l req' key' := by
  have hn : heldOf [(req, key, v)] req' key' = none := by
    have hb : (req == req' && key == key') = false :=
      Bool.and_eq_false_iff.2 (h.imp beq_eq_false_iff_ne.2 beq_eq_false_iff_ne.2)
    simp [heldOf, hb]
  rw [heldOf_append, heldOf_without_ne l h, hn, Option.or_none]

/-! ### What a read returns and captures -/

theorem State.pageRead_pair {s : State} (req : Req) {p : Page} {off : Nat} (h : isPair p off = true) : s.pageRead req p off =
    (s.readReg p off % 2 ^ 32,
      heldWithout (s.fracTaken req p off) req.code (p.base + off) ++ [(req.code, p.base + off, s.readReg p off / 2 ^ 32)]) :=
  if_pos h

theorem State.pageRead_high {s : State} (req : Req) {p : Page} {off : Nat} (h : isPair p off = false)
    (hh : isHigh p off = true) : s.pageRead req p off =
      ((heldOf s.captured req.code (p.base + off - 4)).getD (s.readReg p (off - 4) / 2 ^ 32 % 2 ^ 32),
        heldWithout s.captured req.code (p.base + off - 4)) := by
  unfold State.pageRead
  rw [if_neg (by simp [h]), if_pos hh]
  dsimp only
  cases heldOf s.captured req.code (p.base + off - 4) <;> rfl

theorem State.pageRead_frac (s : State) (req : Req) :
    s.pageRead req .tim 0x48 = ((heldOf s.captured req.code fracKey).getD 0, s.captured) := by
  unfold State.pageRead
  rw [if_neg (by decide), if_neg (by decide), if_pos (by decide)]

theorem State.pageRead_plain {s : State} (req : Req) {p : Page} {off : Nat} (h : isPair p off = false)
    (hh : isHigh p off = false) (hf : p ≠ .tim ∨ off ≠ 0x48) : s.pageRead req p off = (s.readReg p off, s.captured) := by
  unfold State.pageRead
  rw [if_neg (by simp [h]), if_neg (by simp [hh]), if_neg (by tauto)]

theorem State.winRead_plain {s : State} (req : Req) {l : Lane} {off : Nat} (h : winIsCount (off / 4) = false) :
    s.winRead req l off = (s.winWord l (off / 4), s.captured) := if_pos (by simp [h])

theorem State.winRead_low {s : State} (req : Req) {l : Lane} {off : Nat} (h : winIsCount (off / 4) = true)
    (hw : off / 4 % 2 = 0) : s.winRead req l off = (s.winWord l (off / 4),
      heldWithout s.captured req.code (0x1000000 + 0x40000 * l.val + off) ++
        [(req.code, 0x1000000 + 0x40000 * l.val + off, s.winWord l (off / 4 + 1))]) := by
  unfold State.winRead
  dsimp only
  rw [if_neg (by simp [h]), if_pos hw]

theorem State.winRead_high {s : State} (req : Req) {l : Lane} {off : Nat} (h : winIsCount (off / 4) = true)
    (hw : off / 4 % 2 = 1) : s.winRead req l off =
      ((heldOf s.captured req.code (0x1000000 + 0x40000 * l.val + off - 4)).getD (s.winWord l (off / 4)),
        heldWithout s.captured req.code (0x1000000 + 0x40000 * l.val + off - 4)) := by
  unfold State.winRead
  dsimp only
  rw [if_neg (by simp [h]), if_neg (by omega)]
  cases heldOf s.captured req.code (0x1000000 + 0x40000 * l.val + off - 4) <;> rfl

/-! ### A read that the fabric serves -/

/-- The state once a requester has read: the answer, and the captured words. -/
def State.answered (s : State) (req : Req) (r : Nat × List (Nat × Nat × Nat)) : State :=
  { s with reply := .data req.code r.1, captured := r.2 }

theorem exec_pairLowRead_page {s : State} {req : Req} {a : Word} {p : Page} {off : Nat} (hu : s.devUp = true)
    (hc : s.hostCut req = false) (ht : Target.ofAddr a.toNat = .page p off) (he : s.accessError (.page p off) true = none)
    (ha : a.toNat % 4 = 0) : exec (.pairLowRead req a false) s = .next (s.answered req (s.pageRead req p off)) := by
  have hal : (a.toNat % 4 == 0) = true := by simp [ha]
  show execPairLowRead req a false s = _
  unfold execPairLowRead
  dsimp only
  rw [hu, hc, inFabric (Or.inr (Target.lt_of_mapped (by simp [ht]))), ht]
  simp only [hal, he, Bool.not_true, Bool.false_eq_true, reduceIte]
  rfl

theorem exec_pairLowRead_wide {s : State} {req : Req} {a : Word} {p : Page} {off : Nat} (hu : s.devUp = true)
    (hc : s.hostCut req = false) (ht : Target.ofAddr a.toNat = .page p off) (he : s.accessError (.page p off) true = none)
    (hw : wholePair (.page p off) a.toNat = true) : exec (.pairLowRead req a true) s = .next (s.answered req
      (s.readReg p off, heldWithout (s.fracTaken req p off) req.code (p.base + off))) := by
  show execPairLowRead req a true s = _
  unfold execPairLowRead
  dsimp only
  rw [hu, hc, inFabric (Or.inr (Target.lt_of_mapped (by simp [ht]))), ht]
  simp only [hw, he, Bool.not_true, Bool.false_eq_true, reduceIte]
  rfl

theorem exec_pairLowRead_window {s : State} {req : Req} {a : Word} {l : Lane} {off : Nat} (hu : s.devUp = true)
    (hc : s.hostCut req = false) (ht : Target.ofAddr a.toNat = .window l off) (he : s.accessError (.window l off) true = none)
    (ha : a.toNat % 4 = 0) : exec (.pairLowRead req a false) s = .next (s.answered req (s.winRead req l off)) := by
  have hal : (a.toNat % 4 == 0) = true := by simp [ha]
  show execPairLowRead req a false s = _
  unfold execPairLowRead
  dsimp only
  rw [hu, hc, inFabric (Or.inr (Target.lt_of_mapped (by simp [ht]))), ht]
  simp only [hal, he, Bool.not_true, Bool.false_eq_true, reduceIte]
  rfl

/-- A read of TIME, whole or of its low word, captures the fraction of the counter for its requester (R332). -/
theorem pairLowRead_time {s : State} {req : Req} {a : Word} (wide : Bool) (hu : s.devUp = true) (hc : s.hostCut req = false)
    (ha : a.toNat = 0x40040) (he : s.accessError (.page .tim 0x40) true = none) :
    ∃ t, exec (.pairLowRead req a wide) s = .next t ∧ heldOf t.captured req.code fracKey = some s.tim.frac := by
  have ht : Target.ofAddr a.toNat = .page .tim 0x40 := by rw [ha]; decide
  have hk : Page.tim.base + 0x40 ≠ fracKey := by decide
  have hf : heldOf (s.fracTaken req .tim 0x40) req.code fracKey = some s.tim.frac := heldOf_put ..
  cases wide with
  | true =>
    refine ⟨_, exec_pairLowRead_wide hu hc ht he (by rw [ha]; decide), ?_⟩
    exact (heldOf_without_ne _ (Or.inr hk)).trans hf
  | false =>
    refine ⟨_, exec_pairLowRead_page hu hc ht he (by omega), ?_⟩
    rw [State.pageRead_pair req (by decide)]
    exact (heldOf_put_ne _ _ (Or.inr hk)).trans hf

end Sys2Proof.Machine
end

section
/-! PROOFS. A register written as a whole word: the judgement of its fields, what is stored, and the words of the header, of
`AON.RTC_LOAD` and of `GIO.CTRL` and `PMB.CTRL` (R38, R39, R42, R50). -/

namespace Sys2Proof.Machine

open Reg

/-! ### The judgement -/

theorem State.changed_nil {s : State} {p : Page} {off data : Nat} {which : Acc → Bool}
    (h : ∀ e ∈ fieldsAt p off, which (accOf p e.1) = false) : s.changed p off data which = [] := by
  rw [State.changed, List.filter_eq_nil_iff]
  intro e he
  simp [h e he]

/-- A word is accepted whose fields are none of a locked or staged type, hold permitted values, and can be changed as the page
stands (R38, R39, R42). -/
theorem State.judge_none {s : State} {p : Page} {off data : Nat}
    (hrun : s.run p = true → off ≠ 0xC ∧ ∀ e ∈ fieldsAt p off, accOf p e.1 ≠ .rw)
    (hl : ∀ e ∈ fieldsAt p off, accOf p e.1 ≠ .rwl ∧ accOf p e.1 ≠ .rws)
    (hv : ∀ e ∈ fieldsAt p off, e.1.chk.ok (part e.1 data) = true) : s.judge p off data = none := by
  have hrwl : (s.changed p off data fun a => a == .rwl) = [] := State.changed_nil fun e he => by simp [(hl e he).1]
  have hst : hasStaged p off = false := by
    rw [hasStaged, List.any_eq_false]
    intro e he
    simp [(hl e he).2]
  have hbad : ((s.changed p off data fun a => a != .ro).any fun e => !e.1.chk.ok (part e.1 data)) = false := by
    rw [List.any_eq_false]
    intro e he
    simp [hv e (List.mem_filter.1 he).1]
  unfold State.judge
  dsimp only
  rw [hrwl, hst, hbad, if_neg, if_neg (by simp), if_neg (by simp), if_neg (by simp)]
  intro h
  simp only [Bool.and_eq_true] at h
  obtain ⟨h0, hrw⟩ := hrun h.1
  rw [State.changed_nil fun e he => by simp [(hl e he).1, hrw e he]] at h
  simp [h0] at h

/-- A word that would change an RW field while RUN is refused (R39). -/
theorem State.judge_run {s : State} {p : Page} {off data : Nat} {e : Row × Nat} (hrun : s.run p = true)
    (he : e ∈ fieldsAt p off) (ha : accOf p e.1 = .rw) (hc : e.1 ≠ HDR.PG_CTRL_COMMIT_AT)
    (hd : s.changes p data e = true) : s.judge p off data = some Err.rejectRun := by
  have hm : e ∈ (s.changed p off data fun a => a == .rw || a == .rwl).filter fun e => e.1 != HDR.PG_CTRL_COMMIT_AT :=
    List.mem_filter.2 ⟨List.mem_filter.2 ⟨he, by simp [ha, hd]⟩, by simpa using hc⟩
  unfold State.judge
  dsimp only
  rw [if_pos]
  rw [hrun, Bool.true_and, Bool.or_eq_true]
  exact Or.inr (by simpa using List.ne_nil_of_mem hm)

/-- A word with a value outside a field's encoding is refused, where nothing of it is locked (R38, R418). -/
theorem State.judge_badValue {s : State} {p : Page} {off data : Nat} {e : Row × Nat} (hrun : s.run p = false)
    (hl : ∀ e ∈ fieldsAt p off, accOf p e.1 ≠ .rwl) (he : e ∈ fieldsAt p off) (ha : accOf p e.1 ≠ .ro)
    (hd : s.changes p data e = true) (hv : e.1.chk.ok (part e.1 data) = false) : s.judge p off data = some Err.badValue := by
  have hrwl : (s.changed p off data fun a => a == .rwl) = [] := State.changed_nil fun e he => by simp [hl e he]
  have hm : e ∈ s.changed p off data fun a => a != .ro := List.mem_filter.2 ⟨he, by simp [ha, hd]⟩
  unfold State.judge
  dsimp only
  rw [hrun, hrwl, Bool.false_and, if_neg Bool.false_ne_true, if_neg (by simp), if_pos]
  exact List.any_eq_true.2 ⟨e, hm, by simp [hv]⟩

/-! ### Words of the header -/

/-- The block registers begin behind the header (R33). -/
theorem pageRows_off (p : Page) : ∀ r ∈ pageRows p, 0x40 ≤ r.off := by
  have h : (pageRows p).all (fun r => Nat.ble 0x40 r.off) = true := by cases p <;> decide +kernel +revert
  exact fun r hr => Nat.le_of_ble_eq_true (List.all_eq_true.1 h r hr)

theorem fieldsAt_header (p : Page) {off : Nat} (h : off < 0x40) :
    fieldsAt p off = HDR.rows.filterMap fun r => (copyAt r off).map fun i => (r, i) := by
  have hblock : ((pageRows p).filterMap fun r => (copyAt r off).map fun i => (r, i)) = [] := by
    rw [List.filterMap_eq_nil_iff]
    intro r hr
    have hle : ¬ r.off ≤ off := Nat.not_le_of_lt (Nat.lt_of_lt_of_le h (pageRows_off p r hr))
    simp [copyAt, hle]
  rw [fieldsAt, allRows, List.filterMap_append, hblock, List.append_nil]

theorem fieldsAt_id (p : Page) : fieldsAt p 0 = [(HDR.PG_ID_LEVEL, 0), (HDR.PG_ID_INSTANCE, 0), (HDR.PG_ID_TYPE, 0)] := by
  rw [fieldsAt_header p (by decide)]
  decide

theorem fieldsAt_evtEn (p : Page) : fieldsAt p 0x18 = [(HDR.PG_EVT_EN, 0)] := by
  rw [fieldsAt_header p (by decide)]
  decide

/-- PG_ID and PG_EVT_EN are no words of a pair. -/
theorem header_unpaired (p : Page) {off : Nat} (h : off = 0 ∨ off = 0x18) : isPair p off = false ∧ isHigh p off = false := by
  have h14 : isPair p 0x14 = false := by
    rw [isPair, fieldsAt_header p (by decide)]
    decide
  rcases h with rfl | rfl
  · exact ⟨by rw [isPair, fieldsAt_id]; decide, rfl⟩
  · exact ⟨by rw [isPair, fieldsAt_evtEn]; decide, h14⟩

theorem State.wordIn_header (s : State) (p : Page) {off : Nat} (h : off = 0 ∨ off = 0x18) (data : Nat) :
    s.wordIn p off data = data := by
  unfold State.wordIn
  rw [if_neg (by rcases h with rfl | rfl <;> simp), if_neg (by rcases h with rfl | rfl <;> simp)]

theorem State.wordCheck_header (s : State) (req : Req) (p : Page) {off : Nat} (h : off = 0 ∨ off = 0x18) (data : Nat) :
    s.wordCheck req p off data = none := by
  rcases h with rfl | rfl <;> cases p <;> rfl

theorem State.wordAfter_header (s old : State) (p : Page) {off : Nat} (h : off = 0 ∨ off = 0x18) (data : Nat) :
    s.wordAfter old p off data = s := by
  rcases h with rfl | rfl <;> cases p
  case inl.fab => exact if_neg (by simp)
  case inr.fab => exact if_neg (by simp)
  all_goals rfl

/-- PG_ID is read-only: a write is ignored (R38). -/
theorem State.plainWrite_id (s : State) (req : Req) (p : Page) (data : Nat) : s.plainWrite req p 0 data = s := by
  have hro : ∀ e ∈ fieldsAt p 0, accOf p e.1 = .ro ∧ e.1.acc = .ro ∧ e.1.chk = .any := by
    rw [fieldsAt_id]
    simp [accOf, HDR.PG_ID_LEVEL, HDR.PG_ID_INSTANCE, HDR.PG_ID_TYPE, HDR.PG_CTRL_EN]
  have hstore : s.store p 0 data = s := State.each_id _ _ _ fun e he => by simp only [(hro e he).1]
  have hw1c : s.w1c p 0 data = s := by
    unfold State.w1c
    rw [List.filter_eq_nil_iff.2 fun e he => by simp [(hro e he).2.1]]
    rfl
  unfold State.plainWrite
  dsimp only
  rw [State.wordIn_header s p (Or.inl rfl), State.judge_none (fun _ => ⟨by decide, fun e he => by simp [(hro e he).1]⟩)
    (fun e he => by simp [(hro e he).1]) (fun e he => by rw [(hro e he).2.2]; rfl)]
  dsimp only
  rw [State.wordCheck_header s req p (Or.inl rfl)]
  dsimp only
  rw [hstore, hw1c, State.wordAfter_header _ _ p (Or.inl rfl)]

theorem accOf_evtEn (p : Page) : accOf p HDR.PG_EVT_EN = .rw := rfl

/-- PG_EVT_EN is stored on arrival while RUN is 0 (R38). -/
theorem State.plainWrite_evtEn {s : State} (req : Req) {p : Page} (data : Nat) (hr : s.run p = false) :
    s.plainWrite req p 0x18 data = s.wr p HDR.PG_EVT_EN (part HDR.PG_EVT_EN data) := by
  have hstore : s.store p 0x18 data = s.wr p HDR.PG_EVT_EN (part HDR.PG_EVT_EN data) := by
    unfold State.store
    rw [fieldsAt_evtEn]
    rfl
  have hw1c (t : State) : t.w1c p 0x18 data = t := by
    unfold State.w1c
    rw [fieldsAt_evtEn]
    rfl
  unfold State.plainWrite
  dsimp only
  rw [State.wordIn_header s p (Or.inr rfl), State.judge_none (fun h => by rw [hr] at h; cases h)
    (by rw [fieldsAt_evtEn]; simp [accOf_evtEn]) (by rw [fieldsAt_evtEn]; simp [Chk.ok, HDR.PG_EVT_EN])]
  dsimp only
  rw [State.wordCheck_header s req p (Or.inr rfl)]
  dsimp only
  rw [hstore, hw1c, State.wordAfter_header _ _ p (Or.inr rfl)]

/-- While RUN is 1 a change of PG_EVT_EN is refused (R39). -/
theorem State.plainWrite_evtEn_run {s : State} (req : Req) {p : Page} {data : Nat} (hr : s.run p = true)
    (hd : s.rd p HDR.PG_EVT_EN ≠ part HDR.PG_EVT_EN data) :
    s.plainWrite req p 0x18 data = s.errAt p Err.rejectRun 0x18 req.code := by
  unfold State.plainWrite
  dsimp only
  rw [State.wordIn_header s p (Or.inr rfl), State.judge_run (e := (HDR.PG_EVT_EN, 0)) hr (by rw [fieldsAt_evtEn]; simp)
    (accOf_evtEn p) (by decide) (bne_iff_ne.2 hd)]

/-! ### Words of blocks -/

/-- RTC_LOAD takes effect at the next tick of the RTC (R72). -/
theorem State.plainWrite_rtcLoad (s : State) (req : Req) (data : Nat) : s.plainWrite req .aon 0x48 data =
    s.modPower fun q => { q with rtcLoad := some (data % 2 ^ 32, bits data 46 32) } := by
  have hf : fieldsAt .aon 0x48 = [(AON.RTC_LOAD_SEC, 0), (AON.RTC_LOAD_SUB, 0)] := by decide
  have hstore : s.store .aon 0x48 data = s := by
    unfold State.store
    rw [hf]
    rfl
  have hw1c : s.w1c .aon 0x48 data = s := by
    unfold State.w1c
    rw [hf]
    rfl
  have hrun : s.run .aon = false := rfl
  have hj : s.judge .aon 0x48 data = none := State.judge_none (fun h => by rw [hrun] at h; cases h) (by rw [hf]; decide)
    (by rw [hf]; simp [Chk.ok, AON.RTC_LOAD_SEC, AON.RTC_LOAD_SUB])
  unfold State.plainWrite
  dsimp only
  rw [show s.wordIn .aon 0x48 data = data from rfl, hj]
  dsimp only [State.wordCheck]
  rw [hstore, hw1c]
  rfl

theorem State.plainWrite_gioCtrl (s : State) (req : Req) (data : Nat) :
    s.plainWrite req .gio 0x40 data = s.wr .gio GIO.CTRL (part GIO.CTRL data) := by
  have hf : fieldsAt .gio 0x40 = [(GIO.CTRL, 0)] := by decide
  have hstore : s.store .gio 0x40 data = s.wr .gio GIO.CTRL (part GIO.CTRL data) := by
    unfold State.store
    rw [hf]
    rfl
  have hw1c (t : State) : t.w1c .gio 0x40 data = t := by
    unfold State.w1c
    rw [hf]
    rfl
  have hrun : s.run .gio = false := rfl
  have hj : s.judge .gio 0x40 data = none := State.judge_none (fun h => by rw [hrun] at h; cases h) (by rw [hf]; decide)
    (by rw [hf]; simp [Chk.ok, GIO.CTRL])
  unfold State.plainWrite
  dsimp only
  rw [show s.wordIn .gio 0x40 data = data from rfl, hj]
  dsimp only [State.wordCheck]
  rw [hstore, hw1c]
  rfl

/-- SPEED 3 is no encoding of `PMB.CTRL` (R83). -/
theorem State.plainWrite_pmbSpeed {s : State} (req : Req) {data : Nat} (hd : data % 4 = 3) (hs : s.rd .pmb PMB.CTRL_SPEED ≠ 3) :
    s.plainWrite req .pmb 0x40 data = s.errAt .pmb Err.badValue 0x40 req.code := by
  have hf : fieldsAt .pmb 0x40 = [(PMB.CTRL_SPEED, 0), (PMB.CTRL_PEC, 0)] := by decide
  have hp : part PMB.CTRL_SPEED data = 3 := by
    show data / 2 ^ 0 % 2 ^ 2 = 3
    omega
  unfold State.plainWrite
  dsimp only
  rw [show s.wordIn .pmb 0x40 data = data from rfl, State.judge_badValue (e := (PMB.CTRL_SPEED, 0)) rfl (by rw [hf]; decide)
    (by rw [hf]; simp) (by decide) (bne_iff_ne.2 (by rw [hp]; exact hs)) (by rw [hp]; decide)]

end Sys2Proof.Machine
end

section
/-! PROOFS. The words of a register pair written one by one (R50), and what the fabric answers about pairs. -/

namespace Sys2Proof.Machine

open Reg

theorem exec_pairLowWrite {s : State} {req : Req} {p : Page} {w : BitVec 10} (d : Word) (h : s.open_ req p = true)
    (hp : isPair p (4 * w.toNat) = true) :
    exec (.pairLowWrite req p w d) s = .next ((s.withReply (.posted req.code)).lowWrite req p (4 * w.toNat) d.toNat) :=
  congrArg Host.Outcome.next ((State.gate_posted h _ _).trans (if_pos hp))

theorem exec_pairHighWrite {s : State} {req : Req} {p : Page} {w : BitVec 10} (d : Word) (h : s.open_ req p = true)
    (hp : isHigh p (4 * w.toNat) = true) : exec (.pairHighWrite req p w d) s =
      .next ((s.withReply (.posted req.code)).highWrite req p (4 * w.toNat - 4) d.toNat) :=
  congrArg Host.Outcome.next ((State.gate_posted h _ _).trans (if_pos hp))

/-- The state in which nothing is held for a requester under a key. -/
def State.released (s : State) (req : Req) (key : Nat) : State := { s with held := heldWithout s.held req.code key }

theorem State.highWrite_some {s : State} {req : Req} {p : Page} {off low : Nat} (data : Nat)
    (h : heldOf s.held req.code (p.base + off) = some low) :
    s.highWrite req p off data = (s.released req (p.base + off)).regWrite req p off (low + 2 ^ 32 * data) := by
  unfold State.highWrite
  rw [h]
  rfl

theorem State.highWrite_none {s : State} {req : Req} {p : Page} {off : Nat} (data : Nat)
    (h : heldOf s.held req.code (p.base + off) = none) : s.highWrite req p off data = s := by
  unfold State.highWrite
  rw [h]

/-- The high word of `AON.RTC_LOAD` makes the pair take effect. -/
theorem pairHighWrite_rtcLoad {s : State} {req : Req} {d : Word} {low : Nat} (h : s.open_ req .aon = true)
    (hl : heldOf s.held req.code (Page.aon.base + 0x48) = some low) (hlow : low < 2 ^ 32) :
    exec (.pairHighWrite req .aon 0x13 d) s =
      .next (((s.withReply (.posted req.code)).released req (Page.aon.base + 0x48)).modPower
        fun q => { q with rtcLoad := some (low, d.toNat % 2 ^ 15) }) := by
  have hsec : (low + 2 ^ 32 * d.toNat) % 2 ^ 32 = low := by omega
  have hsub : bits (low + 2 ^ 32 * d.toNat) 46 32 = d.toNat % 2 ^ 15 := by
    show (low + 2 ^ 32 * d.toNat) / 2 ^ 32 % 2 ^ 15 = _
    omega
  refine (exec_pairHighWrite d h (by decide)).trans (congrArg Host.Outcome.next ?_)
  refine (State.highWrite_some (s := s.withReply (.posted req.code)) _ hl).trans ?_
  refine (State.plainWrite_rtcLoad _ req _).trans ?_
  rw [hsec, hsub]

end Sys2Proof.Machine

namespace Sys2Proof

open Machine

/-- Settles O50: a read returns a word of the state and replaces the captured words; the halves of a write meet in the held
words. -/
theorem registerPairs : Obligations.RegisterPairs := by
  refine ⟨?_, ?_, ?_, ?_, ?_, fun s req a wide hu hc ha he => pairLowRead_time wide hu hc ha he, ?_, ?_, ?_, ?_,
    fun s req a wide nn hu hc hr he => pairLowRead_error hu hc hr he, ?_, ?_, ?_, ?_⟩
  · intro s req a p off hu hc ht he ha hp
    refine ⟨_, exec_pairLowRead_page hu hc ht he ha, ?_⟩
    rw [State.pageRead_pair req hp]
    exact ⟨rfl, heldOf_put .., rfl⟩
  · intro s req a p off v hu hc ht he ha hp hh hv
    refine ⟨_, exec_pairLowRead_page hu hc ht he ha, ?_⟩
    rw [State.pageRead_high req hp hh, hv]
    exact ⟨rfl, heldOf_without .., rfl⟩
  · intro s req a p off hu hc ht he ha hp hh hv
    refine ⟨_, exec_pairLowRead_page hu hc ht he ha, ?_⟩
    rw [State.pageRead_high req hp hh, hv]
    exact ⟨rfl, rfl⟩
  · intro s req a p off hu hc ht he ha hp hh hf
    rw [exec_pairLowRead_page hu hc ht he ha, State.pageRead_plain req hp hh hf]
    rfl
  · intro s req a hu hc ha he
    have ht : Target.ofAddr a.toNat = .page .tim 0x48 := by rw [ha]; decide
    rw [exec_pairLowRead_page hu hc ht he (by omega), State.pageRead_frac]
    rfl
  · intro s req a p off hu hc ht he hw
    exact ⟨_, exec_pairLowRead_wide hu hc ht he hw, rfl, heldOf_without .., rfl⟩
  · intro s req a l off hu hc ht he ha hn
    rw [exec_pairLowRead_window hu hc ht he ha, State.winRead_plain req hn]
    rfl
  · intro s req a l off hu hc ht he ha hn hw
    refine ⟨_, exec_pairLowRead_window hu hc ht he ha, ?_⟩
    rw [State.winRead_low req hn hw]
    exact ⟨rfl, heldOf_put .., rfl⟩
  · intro s req a l off hu hc ht he ha hn hw
    refine ⟨_, exec_pairLowRead_window hu hc ht he ha, ?_⟩
    rw [State.winRead_high req hn hw]
    exact ⟨rfl, heldOf_without .., rfl⟩
  · intro s req p w d h hp
    exact ⟨_, exec_pairLowWrite d h hp, heldOf_put .., rfl⟩
  · intro s req other p w d key h hp ho
    exact ⟨_, exec_pairLowWrite d h hp, heldOf_put_ne _ _ (Or.inl (Ne.symm ho))⟩
  · intro s req p w d h hp hn
    exact (exec_pairHighWrite d h hp).trans
      (congrArg Host.Outcome.next (State.highWrite_none (s := s.withReply (.posted req.code)) _ hn))
  · intro s req d low h hl hlow
    exact ⟨_, pairHighWrite_rtcLoad h hl hlow, rfl, heldOf_without .., OnlyFields.refl _ _⟩

end Sys2Proof
end

section
/-! PROOFS. Writes by address: the fabric errors in their order, and the words that a page stores, ignores or refuses (R38, R39,
R45, R47, R67). -/

namespace Sys2Proof.Machine

open Reg

/-! ### The fabric errors in their order -/

theorem accessError_absent {s : State} {p : Page} {c : Clu} (off : Nat) (al : Bool) (hp : p.cluster = some c)
    (h : s.cluPresent c = false) : s.accessError (.page p off) al = some 2 := by
  simp [State.accessError, hp, h]

theorem accessError_domainOff {s : State} {p : Page} {c : Clu} (off : Nat) (al : Bool) (hp : p.cluster = some c)
    (h : s.cluPresent c = true) (hd : s.domUp c = false) (hn : p ≠ .cpwr c) :
    s.accessError (.page p off) al = some 3 := by
  simp [State.accessError, hp, h, hd, hn]

theorem accessError_inTest {s : State} {p : Page} (off : Nat) (al : Bool) (hp : p.cluster = none)
    (h : s.inTest p = true) : s.accessError (.page p off) al = some 4 := by
  simp [State.accessError, hp, h]

/-- Alignment is looked at last. -/
theorem accessError_unaligned {s : State} {p : Page} {off : Nat} (h : s.accessError (.page p off) true = none) :
    s.accessError (.page p off) false = some 5 := by
  unfold State.accessError at h ⊢
  dsimp only at h ⊢
  cases hp : p.cluster with
  | none =>
    rw [hp] at h
    dsimp only at h ⊢
    split at h
    · cases h
    · rename_i ht
      rw [if_neg ht]
      rfl
  | some c =>
    rw [hp] at h
    dsimp only at h ⊢
    split at h
    · cases h
    rename_i hc
    split at h
    · cases h
    rename_i hd
    split at h
    · cases h
    rename_i ht
    rw [if_neg hc, if_neg hd, if_neg ht]
    rfl

/-- A word that no page takes whole: not every byte, not on its boundary, or no pair (R45). -/
theorem wordWhole_false {t : Target} {a : Nat} {be : BitVec 4} {h : Option Word}
    (hb : be ≠ 15 ∨ (h = none ∧ a % 4 ≠ 0) ∨ (h ≠ none ∧ wholePair t a = false)) :
    (be == 15 && if h.isSome then wholePair t a else a % 4 == 0) = false := by
  rcases hb with hb | ⟨rfl, ha⟩ | ⟨hs, hw⟩
  · rw [beq_eq_false_iff_ne.2 hb, Bool.false_and]
  · simp [ha]
  · simp [Option.isSome_iff_ne_none.2 hs, hw]

/-! ### A word that the fabric lets through -/

theorem exec_registerWrite_page {s : State} {req : Req} {a d : Word} {p : Page} {off : Nat} (hu : s.devUp = true)
    (hc : s.hostCut req = false) (ht : Target.ofAddr a.toNat = .page p off) (he : s.accessError (.page p off) true = none)
    (ha : a.toNat % 4 = 0) : exec (.registerWrite req a 15 ⟨d, none⟩) s =
      .next (((s.hostTouch req).withReply (.posted req.code)).pageWrite req p off d.toNat) := by
  have hal : (a.toNat % 4 == 0) = true := by simp [ha]
  show execRegisterWrite req a 15 ⟨d, none⟩ s = _
  unfold execRegisterWrite
  dsimp only
  rw [hu, hc, inFabric (Or.inr (Target.lt_of_mapped (by simp [ht]))), State.hostTouch_accessError, ht]
  simp only [hal, he, Bool.not_true, Bool.false_eq_true, reduceIte, Option.isSome_none, Bool.and_true, BEq.rfl]
  rfl

theorem State.open_iff {s : State} {req : Req} {p : Page} (h : s.open_ req p = true) :
    s.devUp = true ∧ s.hostCut req = false ∧ s.hostTouch req = s ∧ ∀ off, s.accessError (.page p off) true = none := by
  simp only [State.open_, Bool.and_eq_true, Bool.not_eq_true', Option.isNone_iff_eq_none] at h
  obtain ⟨⟨⟨hu, hc⟩, hg⟩, he⟩ := h
  exact ⟨hu, hc, if_neg (by simp [hg]), fun _ => he⟩

theorem Page.base_aligned (p : Page) : p.base % 4 = 0 := by
  unfold Page.base
  split
  · omega
  · split <;> omega

/-- A whole word at an offset that is no word of a pair. -/
theorem exec_registerWrite_open {s : State} {req : Req} {a : Word} {p : Page} {off : Nat} (d : Word)
    (h : s.open_ req p = true) (ha : a.toNat = p.base + off) (ho : off < 0x1000) (h4 : off % 4 = 0)
    (hp : isPair p off = false) (hh : isHigh p off = false) : exec (.registerWrite req a 15 ⟨d, none⟩) s =
      .next ((s.withReply (.posted req.code)).regWrite req p off d.toNat) := by
  obtain ⟨hu, hc, ht, he⟩ := State.open_iff h
  have hb := Page.base_aligned p
  have hw : (s.withReply (.posted req.code)).pageWrite req p off d.toNat =
      (s.withReply (.posted req.code)).regWrite req p off d.toNat := by
    unfold State.pageWrite
    rw [if_neg (by simp [hp]), if_neg (by simp [hh])]
  rw [exec_registerWrite_page hu hc (by rw [ha]; exact Target.ofAddr_base p off ho) (he off) (by omega), ht, hw]

/-! ### PG_EVT_EN -/

/-- Messages do not change what runs. -/
theorem State.settleMsix_run (s : State) (p : Page) : s.settleMsix.run p = s.run p := by
  have h := s.settleMsix_msixOnly
  have hl : s.settleMsix.lanes = s.lanes := by rw [h.rest]
  have hi : s.settleMsix.intake = s.intake := by rw [h.rest]
  have hp : s.settleMsix.power = s.power := by rw [h.rest]
  have hx (a : Axis) : s.settleMsix.rd (.ax a) HDR.PG_STAT_STATE = s.rd (.ax a) HDR.PG_STAT_STATE := h.rd _ rfl
  unfold State.run State.laneRun State.pageActive
  simp only [hl, hi, hp, hx]

theorem part_evtEn (d : Word) : part HDR.PG_EVT_EN d.toNat = d.toNat := by
  have hd : d.toNat < 2 ^ 32 := d.isLt
  show d.toNat / 2 ^ 0 % 2 ^ 32 = d.toNat
  omega

theorem evtEn_written {s : State} {req : Req} {p : Page} {a d : Word} (h : s.open_ req p = true)
    (ha : a.toNat = p.base + 0x18) (hr : s.run p = false) :
    ∃ t, exec (.registerWrite req a 15 ⟨d, none⟩) s = .next t ∧ t.rd p HDR.PG_EVT_EN = d.toNat ∧
      OnlyFields ((p, HDR.PG_EVT_EN, 0) :: pbaFields) { s with reply := .posted req.code, out := t.out, vecWas := t.vecWas }
        t := by
  let u := s.withReply (.posted req.code)
  obtain ⟨hp, hh⟩ := header_unpaired p (off := 0x18) (Or.inr rfl)
  have hw : u.settleMsix.plainWrite req p 0x18 d.toNat = u.settleMsix.wr p HDR.PG_EVT_EN d.toNat := by
    rw [State.plainWrite_evtEn req d.toNat ((u.settleMsix_run p).trans hr), part_evtEn]
  have hset : u.settling (fun t => t.plainWrite req p 0x18 d.toNat) = u.settling fun t => t.wr p HDR.PG_EVT_EN d.toNat :=
    congrArg State.settleMsix hw
  refine ⟨_, (exec_registerWrite_open d h ha (by decide) rfl hp hh).trans (congrArg _ hset), ?_,
    State.settling_only (s := u) (fs := [(p, HDR.PG_EVT_EN, 0)])
      (OnlyFields.wr _ _ _ _ (OnlyFields.refl _ _) (List.mem_singleton.2 rfl))⟩
  calc _ = (u.settleMsix.wr p HDR.PG_EVT_EN d.toNat).rd p HDR.PG_EVT_EN := (State.settleMsix_msixOnly _).rd p rfl
    _ = d.toNat := by
      rw [State.wr_rd_same]
      exact Nat.mod_eq_of_lt d.isLt

theorem evtEn_refused {s : State} {req : Req} {p : Page} {a d : Word} (h : s.open_ req p = true)
    (ha : a.toNat = p.base + 0x18) (hr : s.run p = true) (hd : s.rd p HDR.PG_EVT_EN ≠ d.toNat) :
    ∃ t, exec (.registerWrite req a 15 ⟨d, none⟩) s = .next t ∧ t.errorShown p = s.errorAfter p 0x01 ∧
      (s.errorShown p = none → t.rd p HDR.PG_ERR_INFO = 0x18 + req.code * 0x1000) ∧
      OnlyFields (errorFields p ++ pbaFields) { s with reply := .posted req.code, out := t.out, vecWas := t.vecWas } t := by
  let u := s.withReply (.posted req.code)
  have hq := Req.code_lt req
  obtain ⟨hp, hh⟩ := header_unpaired p (off := 0x18) (Or.inr rfl)
  have hm := u.settleMsix_msixOnly
  have hm' := (u.settleMsix.errAt p Err.rejectRun 0x18 req.code).settleMsix_msixOnly
  have hshown : u.settleMsix.errorShown p = s.errorShown p := hm.errorShown p
  have hne : u.settleMsix.rd p HDR.PG_EVT_EN ≠ part HDR.PG_EVT_EN d.toNat := by
    rw [part_evtEn, hm.rd p rfl]
    exact hd
  have hset : u.settling (fun t => t.plainWrite req p 0x18 d.toNat) =
      u.settling fun t => t.errAt p Err.rejectRun 0x18 req.code :=
    congrArg State.settleMsix (State.plainWrite_evtEn_run req ((u.settleMsix_run p).trans hr) hne)
  refine ⟨_, (exec_registerWrite_open d h ha (by decide) rfl hp hh).trans (congrArg _ hset), ?_, fun hn => ?_,
    State.settling_only (s := u) (OnlyFields.errAt _ _ _ _ (OnlyFields.refl _ _) fun _ hf => hf)⟩
  · calc _ = (u.settleMsix.errAt p Err.rejectRun 0x18 req.code).errorShown p := hm'.errorShown p
      _ = u.settleMsix.errorAfter p 0x01 := State.errAt_errorShown _ _ _ _ _ (by decide)
      _ = s.errorAfter p 0x01 := by rw [State.errorAfter, State.errorAfter, hshown]
  · calc _ = (u.settleMsix.errAt p Err.rejectRun 0x18 req.code).rd p HDR.PG_ERR_INFO := hm'.rd p rfl
      _ = errInfo 0x18 req.code % 2 ^ 32 := State.err_info (hshown.trans hn) _ _
      _ = 0x18 + req.code * 0x1000 := by
        rw [errInfo]
        omega

/-! ### PG_ID, PMB.CTRL and GIO.CTRL -/

/-- A write of PG_ID changes nothing; in EVT and PCI messages that are due go out about it. -/
theorem State.regWrite_id (s : State) (req : Req) (p : Page) (data : Nat) : s.regWrite req p 0 data =
    if p = .evt ∨ p = .pci then s.settleMsix.settleMsix else s := by
  have hid (t : State) := t.plainWrite_id req p data
  cases p
  case evt => exact congrArg State.settleMsix (hid s.settleMsix)
  case pci => exact congrArg State.settleMsix (hid s.settleMsix)
  all_goals exact hid s

theorem id_ignored {s : State} {req : Req} {p : Page} {a : Word} (d : Word) (h : s.open_ req p = true) (ha : a.toNat = p.base) :
    ∃ t, exec (.registerWrite req a 15 ⟨d, none⟩) s = .next t ∧
      OnlyFields pbaFields { s with reply := .posted req.code, out := t.out, vecWas := t.vecWas } t ∧
      (p ≠ .evt → p ≠ .pci → OnlyFields [] { s with reply := .posted req.code } t) := by
  let u := s.withReply (.posted req.code)
  obtain ⟨hp, hh⟩ := header_unpaired p (off := 0) (Or.inl rfl)
  refine ⟨_, (exec_registerWrite_open d h ha (by decide) rfl hp hh).trans (congrArg _ (u.regWrite_id req p d.toNat)), ?_,
    fun he hc => ?_⟩
  · have hm : MsixOnly u (if p = .evt ∨ p = .pci then u.settleMsix.settleMsix else u) := by
      split
      · exact u.settleMsix_msixOnly.trans u.settleMsix.settleMsix_msixOnly
      · exact MsixOnly.refl u
    exact hm
  · rw [if_neg (by simp [he, hc])]
    exact OnlyFields.refl _ u

theorem pmbSpeed_refused {s : State} {req : Req} {d : Word} (h : s.open_ req .pmb = true) (hd : d.toNat % 4 = 3)
    (hs : s.rd .pmb PMB.CTRL_SPEED ≠ 3) :
    ∃ t, exec (.registerWrite req 0x3040 15 ⟨d, none⟩) s = .next t ∧ t.errorShown .pmb = s.errorAfter .pmb 0x03 ∧
      OnlyFields (errorFields .pmb) { s with reply := .posted req.code } t := by
  let u := s.withReply (.posted req.code)
  have hw : u.regWrite req .pmb 0x40 d.toNat = u.errAt .pmb Err.badValue 0x40 req.code :=
    State.plainWrite_pmbSpeed (s := u) req hd hs
  exact ⟨_, (exec_registerWrite_open d h (by decide) (by decide) rfl (by decide) (by decide)).trans (congrArg _ hw),
    State.errAt_errorShown u _ _ _ _ (by decide), OnlyFields.errAt _ _ _ _ (OnlyFields.refl _ u) fun _ hf => hf⟩

/-- A host's access ends the grace wait of auto-sleep, and is served (R67). -/
theorem graceWrite_served {s : State} {d : Word} (hd : s.power.dev = .idle) (hg : s.power.grace = true)
    (h3 : s.intake.d3hot = false) (hb : s.bist.pages = []) :
    ∃ t, exec (.registerWrite .host 0x61040 15 ⟨d, none⟩) s = .next t ∧ t.power.grace = false ∧ t.event .pwr 9 = true ∧
      t.rd .gio GIO.CTRL = d.toNat % 2 := by
  have hu : s.devUp = true := by simp [State.devUp, hd]
  have hc : s.hostCut .host = false := by simp [State.hostCut, h3]
  have he : s.accessError (.page .gio 0x40) true = none := by
    have ht : s.inTest .gio = false := by
      show s.bist.pages.contains .gio = false
      rw [hb]
      rfl
    simp [State.accessError, Page.cluster, ht]
  let v := ({ s with power := { s.power with grace := false, sleepFrom := s.dclk } } : State).raise .pwr 9
  have ht : s.hostTouch .host = v := if_pos (by rw [hg]; rfl)
  have hw : (v.withReply (.posted Req.host.code)).pageWrite .host .gio 0x40 d.toNat =
      (v.withReply (.posted Req.host.code)).wr .gio GIO.CTRL (d.toNat % 2) := by
    have hp : part GIO.CTRL d.toNat = d.toNat % 2 := by
      show d.toNat / 2 ^ 0 % 2 ^ 1 = d.toNat % 2
      omega
    have hpw := State.plainWrite_gioCtrl (v.withReply (.posted Req.host.code)) .host d.toNat
    rw [hp] at hpw
    unfold State.pageWrite
    rw [if_neg (by decide), if_neg (by decide)]
    exact hpw
  rw [← ht] at hw
  refine ⟨_, (exec_registerWrite_page (a := 0x61040) hu hc (by decide) he (by decide)).trans (congrArg _ hw), ?_, ?_, ?_⟩
  · rw [ht]
    rfl
  · rw [State.wr_event_apart _ _ _ _ _ rfl, ht]
    exact State.raise_event_same _ _ _ (by decide)
  · rw [State.wr_rd_same]
    exact Nat.mod_eq_of_lt (Nat.mod_lt _ (by decide))

end Sys2Proof.Machine

namespace Sys2Proof

open Machine

/-- Settles O49: each fabric error is met in its order, and a word let through meets its page's judgement. -/
theorem registerWrites : Obligations.RegisterWrites := by
  refine ⟨?_, ?_, ?_, ?_, ?_, ?_, ?_, fun s req p a d h ha hr => evtEn_written h ha hr,
    fun s req p a d h ha hr hd => evtEn_refused h ha hr hd, fun s req p a d h ha => id_ignored d h ha,
    fun s req d h hd hs => pmbSpeed_refused h hd hs, fun s d hd hg h3 hb => graceWrite_served hd hg h3 hb⟩
  · intro s req a d be h hu hc hg hr ht
    exact registerWrite_error hu hc hg hr (by rw [ht]; rfl)
  · intro s req a d be h p off c hu hc hg ht hp hn
    exact registerWrite_error hu hc hg (Or.inr (Target.lt_of_mapped (by simp [ht])))
      (by rw [ht]; exact accessError_absent _ _ hp hn)
  · intro s req a d be h p off c hu hc hg ht hp hn hd hw
    exact registerWrite_error hu hc hg (Or.inr (Target.lt_of_mapped (by simp [ht])))
      (by rw [ht]; exact accessError_domainOff _ _ hp hn hd hw)
  · intro s req a d be h p off hu hc hg ht hp hn
    exact registerWrite_error hu hc hg (Or.inr (Target.lt_of_mapped (by simp [ht])))
      (by rw [ht]; exact accessError_inTest _ _ hp hn)
  · intro s req a d be h p off hu hc hg ht he hb
    exact registerWrite_error hu hc hg (Or.inr (Target.lt_of_mapped (by simp [ht])))
      (by rw [ht, wordWhole_false hb]; exact accessError_unaligned he)
  · intro s req wr a hu hc he
    exact accessTimeout_error hu hc (by rw [he]; rfl)
  · intro s req wr a nn hu hc he
    exact accessTimeout_error hu hc (by rw [he]; rfl)

end Sys2Proof
end

section
/-! PROOFS. `PG_CTRL.INIT` of a lane page with a scan result held for COMMIT_PEND (R232): the INIT withdraws the pending commit, and
the held result is written to the STAGED map. -/

namespace Sys2Proof.Machine

open Reg

/-- The lead of a pair, idle: a commit of the page of lane 0 is pending, and the result of a scan waits for it. -/
def scanHeld : State :=
  { (((State.reset.wr (.cpwr 0) CPWR.STAT_DOM_UP 1).wr (.lne 0) LNE.AWL_STAT_STATE 2).wr (.lne 0) HDR.PG_STAT_COMMIT_PEND 1) with
    power := { dev := .idle }
    pair := { role := .lead }
    commits := [(.lne 0, 0)]
    lanes := State.reset.lanes.set 0 { awl := { held := some ([true], 1) } } }

/-- After the INIT the STAGED map stands as the scan left it, valid, and not at its reset value. -/
theorem pgInit_scanHeld {t : State} (h : exec (.pgInit .host (.lne 0) 0) scanHeld = .next t) :
    t.rdStaged (.lne 0) LNE.MAP_CTRL_VALID = 1 := by
  have ht : scanHeld.gate .host (.lne 0) 0xC (fun s => s.ctrlWrite .host (.lne 0) (0 ||| 2 : Word).toNat) = t :=
    Host.Outcome.next.inj h
  rw [← ht]
  decide +kernel

end Sys2Proof.Machine

namespace Sys2Proof

open Machine Reg

/-- Refutes O48: the clause that INIT returns the staged copies to their reset values leaves out a lane that holds a scan result
for COMMIT_PEND. INIT clears COMMIT_PEND, and the result is then written to the STAGED map (R232): MAP_CTRL.VALID is staged as 1,
and resets to 0. -/
theorem not_pageControl : ¬ Obligations.PageControl := by
  rintro ⟨hinit, -⟩
  obtain ⟨t, hexec, -, hreset⟩ := hinit scanHeld .host (.lne 0) 0 (by decide +kernel) (by decide +kernel)
    (Or.inr (by decide +kernel)) (by decide) (by decide)
  have hvalid := hreset LNE.MAP_CTRL_VALID (by decide +kernel) 0 (by decide)
  rw [pgInit_scanHeld hexec] at hvalid
  exact absurd hvalid (by decide)

end Sys2Proof
end

section
/-! PROOFS. The reset state (R47, R65, R72). -/

namespace Sys2Proof.Machine

open Reg

/-- Before anything is written a field reads as its reset value. -/
theorem State.reset_rd (p : Page) (r : Row) (i : Nat) : State.reset.rd p r i = r.reset := rfl

end Sys2Proof.Machine

namespace Sys2Proof

open Machine Reg

/-- Settles O57: State.reset has empty stores, and every field at its reset value. -/
theorem resetState : Obligations.ResetState :=
  ⟨rfl, rfl, rfl, rfl, rfl, State.reset_rd _ _ _, State.reset_rd _ _ _, by rw [State.on, State.reset_rd]; rfl⟩

end Sys2Proof
end

section
/-! PROOFS. What a scan that ends, a driver that sleeps and HVEN that falls leave of the power state: the device state alone
may follow the lanes (R63), and no event is lost (R51). -/

namespace Sys2Proof.Machine

open Reg

/-- From s to t no event is lost, and of what power holds only the device's state may change. -/
structure Carries (s t : State) : Prop where
  events : KeepsEvents s t
  power : t.power = { s.power with dev := t.power.dev }

variable {s t u : State}

theorem Carries.refl (s : State) : Carries s s := ⟨KeepsEvents.refl s, rfl⟩

theorem Carries.trans (h : Carries s t) (k : Carries t u) : Carries s u :=
  ⟨h.events.trans k.events, by rw [k.power, h.power]⟩

theorem Carries.ite {q : Prop} [Decidable q] (h : Carries s t) (k : Carries s u) : Carries s (if q then t else u) := by
  split
  · exact h
  · exact k

theorem Carries.each {α : Type} (l : List α) (f : State → α → State) (hf : ∀ u x, Carries u (f u x)) (s : State) :
    Carries s (s.each l f) := by
  induction l generalizing s with
  | nil => exact Carries.refl s
  | cons x l ih => exact (hf s x).trans (ih (f s x))

theorem Carries.step {fs : List FieldAt} {ls : List Lane} (h : LaneStep fs ls s t) : Carries s t := by
  refine ⟨h.events, ?_⟩
  rw [h.rest]

theorem State.modLane_carries (s : State) (l : Lane) (f : LaneHw → LaneHw) : Carries s (s.modLane l f) :=
  ⟨(KeepsEvents.refl s).of_regs rfl, rfl⟩

theorem State.setLane_carries (s : State) (l : Lane) (st : LaneState) : Carries s (s.setLane l st) :=
  Carries.step (s.setLane_step l st)

theorem State.holdTold_carries (s : State) (l : Lane) (why : Nat) : Carries s (s.holdTold l why) := by
  refine ⟨KeepsEvents.when _ _ (KeepsEvents.raise _ _ (((s.modLane_carries l _).events.wr _ _ _ _ rfl).bump _ _ _ _ rfl))
    fun _ hu => hu.raise _ _, ?_⟩
  unfold State.holdTold State.when
  dsimp only
  split <;> rfl

theorem State.enterHold_carries (s : State) (l : Lane) (why : Nat) : Carries s (s.enterHold l why) := by
  have hb : Carries s (s.bump (.seq l) SEQ.HOLD_CNT) := ⟨(KeepsEvents.refl s).bump _ _ _ _ rfl, rfl⟩
  exact Carries.ite (Carries.ite hb ((s.holdTold_carries l why).trans (State.setLane_carries _ l .hold))) (Carries.refl s)

theorem State.laneRuns_carries (s : State) (l : Lane) (st : LaneState) : Carries s (s.laneRuns l st) :=
  Carries.ite ((s.setLane_carries l st).trans (State.enterHold_carries _ l 3)) (s.setLane_carries l st)

theorem State.armNext_carries (s : State) : Carries s s.armNext := by
  unfold State.armNext
  split
  · exact Carries.refl s
  · exact Carries.ite (Carries.refl s) (Carries.each _ _ (fun u l => Carries.ite
      ((u.modLane_carries l _).trans (State.laneRuns_carries _ l .armed)) (Carries.refl u)) s)

theorem State.lneBusy_carries (s : State) (l : Lane) : Carries s (s.lneBusy l) := ⟨(KeepsEvents.refl s).flag _ _ _ _ rfl, rfl⟩

theorem State.queueCtrl_carries (s : State) (l : Lane) (frame pay : Nat) : Carries s (s.queueCtrl l frame pay) :=
  State.modLane_carries _ _ _

theorem State.awlAborted_carries (s : State) (l : Lane) (fatal : Bool) : Carries s (s.awlAborted l fatal) :=
  Carries.step (s.awlAborted_step l fatal)

theorem State.awlStop_carries (s : State) (l : Lane) : Carries s (s.awlStop l) := by
  unfold State.awlStop
  refine Carries.ite (.trans ?_ (State.armNext_carries _)) (Carries.refl s)
  refine .trans (.trans ?_ (State.queueCtrl_carries _ l 0x41 0)) (State.setLane_carries _ l .idle)
  exact (s.awlAborted_carries l false).trans (State.lneBusy_carries _ l)

theorem State.scansEnd_carries (s : State) : Carries s s.scansEnd := Carries.each _ _ State.awlStop_carries s

theorem State.setDev_carries (s : State) (d : DevState) : Carries s (s.setDev d) := by
  refine ⟨s.setDev_events d, ?_⟩
  rw [(s.setDev_only d).rest]

theorem Carries.of_power (he : KeepsEvents s t) (hp : t.power = s.power) : Carries s t := ⟨he, by rw [hp]⟩

theorem State.axSleep_carries (s : State) (a : Axis) : Carries s (s.axSleep a) := by
  unfold State.axSleep
  refine Carries.ite (Carries.refl s) (Carries.of_power (((KeepsEvents.refl s).wr _ _ _ _ rfl).raise _ _) ?_)
  rw [State.raise_power, State.wr_power]

theorem State.driversSleep_carries (s : State) : Carries s s.driversSleep := Carries.each _ _ State.axSleep_carries s

theorem State.hvenFalls_carries (n : Nat) (s : State) (c : Clu) : Carries s (s.hvenFalls n c) := by
  refine Carries.of_power ?_ (s.hvenFalls_power n c)
  unfold State.hvenFalls
  split
  · exact ((KeepsEvents.refl s).wr (.cpwr c) CPWR.STAT_HVEN 0 0 rfl).of_regs rfl
  · exact KeepsEvents.refl s

/-- The way back to IDLE, before it is known whether every cluster is down already (R63, R76). -/
def State.goesIdle (s : State) : State := s.leaves.each allClus (State.hvenFalls s.leaves.dclk)

theorem State.toIdle_goes (s : State) : s.toIdle = if s.goesIdle.allOff then s.goesIdle.arriveIdle else s.goesIdle := rfl

theorem State.goesIdle_carries (s : State) : Carries s s.goesIdle :=
  ((s.scansEnd_carries.trans (State.setDev_carries _ .toIdle)).trans (State.driversSleep_carries _)).trans
    (Carries.each _ _ (State.hvenFalls_carries _) _)

theorem State.goesIdle_dev (s : State) : s.goesIdle.power.dev = .toIdle := by
  unfold State.goesIdle
  rw [(State.each_hvenFalls_kept _ _ _).1, State.leaves, State.driversSleep_power, State.setDev_dev]

/-- With no request for SETT waiting, the device is on its way to IDLE or there. -/
theorem State.toIdle_carries (h : s.power.settNext = false) :
    Carries s s.toIdle ∧ (s.toIdle.power.dev = .toIdle ∨ s.toIdle.power.dev = .idle) := by
  have hn : (s.goesIdle.setDev .idle).power.settNext = false := by
    rw [(State.setDev_carries _ .idle).power, s.goesIdle_carries.power]
    exact h
  rw [State.toIdle_goes]
  split
  · unfold State.arriveIdle
    rw [if_neg (by rw [hn]; simp)]
    exact ⟨s.goesIdle_carries.trans (State.setDev_carries _ .idle), Or.inr (State.setDev_dev _ _)⟩
  · exact ⟨s.goesIdle_carries, Or.inl s.goesIdle_dev⟩

end Sys2Proof.Machine
end

section
/-! PROOFS. Keep-wet bursts (R73 to R75): a burst that falls due, its lines, and its end. -/

namespace Sys2Proof.Machine

open Reg

variable {s t u : State} {l : Lane}

/-! ### A burst that brings its clusters up (R73, R78) -/

/-- A number with a bit set among the clusters selects one. -/
theorem exists_clu_testBit {n : Nat} (h : n % 256 ≠ 0) : ∃ c : Clu, n.testBit c.val = true := by
  by_contra hn
  refine h (Nat.eq_of_testBit_eq fun i => ?_)
  rw [Nat.testBit_mod_two_pow (j := 8) n i, Nat.zero_testBit]
  by_cases hi : i < 8
  · exact Bool.and_eq_false_imp.2 fun _ => Bool.eq_false_iff.2 fun hb => hn ⟨⟨i, hi⟩, hb⟩
  · rw [decide_eq_false hi, Bool.false_and]

/-- READY waits for a selected cluster whose domain is off. -/
theorem State.settleReady_waits {c : Clu} (hs : s.power.sel.testBit c.val = true) (hd : s.domUp c = false) :
    s.settleReady = s := by
  unfold State.settleReady
  refine if_neg fun h => ?_
  have hr := List.all_eq_true.1 h c (List.mem_filter.2 ⟨List.mem_finRange c, hs⟩)
  rw [State.cluReady, hd] at hr
  exact nomatch hr

theorem domUp_of_allOff (h : s.allOff = true) (c : Clu) : s.domUp c = false := by
  simpa using List.all_eq_true.1 h c (List.mem_finRange c)

/-! ### A lane's spit line -/

/-- From s to t a lane sends a line: of power the spit timer alone changes, of the lanes this one. -/
structure Sends (l : Lane) (s t : State) : Prop where
  power : t.power = { s.power with dry := t.power.dry }
  others : OtherLanes [l] s t

theorem Sends.refl (l : Lane) (s : State) : Sends l s s := ⟨rfl, fun _ _ => rfl⟩

theorem Sends.trans (h : Sends l s t) (k : Sends l t u) : Sends l s u :=
  ⟨by rw [k.power, h.power], fun i hi => (k.others i hi).trans (h.others i hi)⟩

theorem Sends.of_lanes (hp : t.power = { s.power with dry := t.power.dry }) (hl : t.lanes = s.lanes) : Sends l s t :=
  ⟨hp, fun k _ => by rw [hl]⟩

theorem Sends.modLane (s : State) (l : Lane) (f : LaneHw → LaneHw) : Sends l s (s.modLane l f) :=
  ⟨rfl, fun _ hk => State.modLane_ne s f fun e => hk (List.mem_singleton.2 e.symm)⟩

theorem Sends.when (b : Bool) (f : State → State) (h : Sends l s (f s)) : Sends l s (s.when b f) := by
  cases b
  · exact Sends.refl l s
  · exact h

theorem Sends.of_quiet {fs : List FieldAt} (h : QuietOnly fs s t) : Sends l s t := by
  have hq : OnlyFields fs _ t := h
  refine Sends.of_lanes ?_ ?_ <;> rw [hq.rest]

theorem State.takeBand_sends (s : State) (l : Lane) : Sends l s (s.takeBand l) := by
  rw [State.takeBand_eq]
  exact ((Sends.of_quiet (QuietOnly.of_only (s.bandTold_only l))).trans (Sends.modLane _ l _)).trans
    (Sends.of_quiet (State.settleSoft_quiet _ l))

theorem State.guards_sends (s : State) (l : Lane) (tag : LineTag) (levels : List Nat) (set bank : Nat) (taint : Bool) :
    Sends l s (s.guards l tag levels set bank taint).1 := by
  obtain ⟨c, e, n, hurt, hg⟩ : ∃ c e n hurt, (s.guards l tag levels set bank taint).1 =
      (s.modLane l fun h => { h with credit := c, energy := (e :: h.energy).take 4096 }).guardCounts l n hurt :=
    ⟨_, _, _, _, rfl⟩
  rw [hg]
  refine (Sends.modLane s l _).trans (Sends.of_lanes ?_ (State.guardCounts_lanes _ l n hurt).1)
  cases hurt <;> rfl

theorem State.sendLine_sends (s : State) (l : Lane) (bank set wl page : Nat) (spit : Bool) (levels : List Nat) :
    Sends l s (s.sendLine l bank set wl page spit levels) := by
  unfold State.sendLine
  have hb (u : State) : Sends l u (u.bump (.vnl l) VNL.LINES_TX) := Sends.of_lanes rfl rfl
  exact ((Sends.when _ _ (Sends.of_lanes rfl rfl)).trans (hb _)).trans (Sends.modLane _ l _)

theorem State.countFires_others (s : State) (l : Lane) (levels : List Nat) : OtherLanes [l] s (s.countFires l levels) := by
  have hw (u : State) (w v : Nat) : OtherLanes [l] u (u.setWin l w v) := (Sends.modLane u l _).others
  have h (es : List (Nat × Nat)) (u : State) : OtherLanes [l] u (u.each es fun t e =>
      if e.1 = 0 then t
      else
        let w := winCounts + 2 * e.2
        let n := t.winWord l w + 2 ^ 32 * t.winWord l (w + 1)
        if n < 2 ^ 48 - 1 then (t.setWin l w ((n + 1) % 2 ^ 32)).setWin l (w + 1) ((n + 1) / 2 ^ 32) else t) := by
    induction es generalizing u with
    | nil => exact fun _ _ => rfl
    | cons e es ih =>
      refine fun k hk => (ih _ k hk).trans ?_
      dsimp only
      split
      · rfl
      · split
        · exact (hw _ _ _ k hk).trans (hw _ _ _ k hk)
        · rfl
  exact h _ s

theorem State.sendFire_sends (s : State) (l : Lane) (at_ seq : Nat) (tag : Option LineTag) (levels : List Nat) :
    Sends l s (s.sendFire l at_ seq tag levels) := by
  have hc (u : State) : Sends l u (u.countFires l levels) :=
    ⟨by rw [(u.countFires_win l levels).power], u.countFires_others l levels⟩
  have hd (u : State) : Sends l u { u with power := { u.power with dry := 0 } } := Sends.of_lanes rfl rfl
  have he (u : State) : Sends l u (u.emit (.fire l.val seq)) := Sends.of_lanes rfl rfl
  unfold State.sendFire
  exact (((Sends.when _ _ ((he s).trans (Sends.modLane _ l _))).trans (hd _)).trans (Sends.modLane _ l _)).trans (hc _)

theorem State.spitLine_sends (s : State) (l : Lane) : Sends l s (s.spitLine l) := by
  unfold State.spitLine
  dsimp only
  split
  · exact Sends.refl l s
  · exact (((s.takeBand_sends l).trans (State.guards_sends _ l _ _ _ _ _)).trans (State.sendLine_sends _ l _ _ _ _ _ _)).trans
      (State.sendFire_sends _ l _ _ _ _)

theorem State.each_spitLine (ls : List Lane) (s : State) :
    (s.each ls State.spitLine).power = { s.power with dry := (s.each ls State.spitLine).power.dry } ∧
      OtherLanes ls s (s.each ls State.spitLine) := by
  induction ls generalizing s with
  | nil => exact ⟨rfl, fun _ _ => rfl⟩
  | cons l ls ih =>
    obtain ⟨hp, ho⟩ := ih (s.spitLine l)
    have hl := s.spitLine_sends l
    refine ⟨?_, fun k hk => (ho k fun hm => hk (List.mem_cons_of_mem _ hm)).trans
      (hl.others k fun hm => hk (List.mem_cons.2 (Or.inl (List.mem_singleton.1 hm))))⟩
    rw [State.each_cons, hp, hl.power]

end Sys2Proof.Machine
end

section
/-! PROOFS. Keep-wet bursts, clause by clause (R73, R74, R75). -/

namespace Sys2Proof.Machine

open Reg

variable {s : State} {r : SpitRun}

/-! ### A burst falls due -/

/-- The spit timer has reached INTERVAL with EN = 1, and no burst runs (R73). -/
structure SpitAtInterval (s : State) : Prop where
  on : s.power.dev ≠ .off
  enabled : s.on .aon AON.SPIT_CTRL_EN = true
  none : s.power.spit = none
  time : s.rd .aon AON.SPIT_INT_INTERVAL ≤ s.power.dry

theorem exec_spitTimerExpiry (h : SpitAtInterval s) : exec .spitTimerExpiry s =
    if s.spitSkips then .next (((s.modPower fun p => { p with dry := 0 }).bump .aon AON.SPIT_SKIP).raise .aon 16)
    else .next s.spitDue := by
  show execSpitTimerExpiry s = _
  unfold execSpitTimerExpiry
  exact if_pos (by simp [h.on, h.enabled, h.none, h.time])

theorem exec_spitTimerExpiry_skip (h : SpitAtInterval s) (hs : s.spitSkips = true) : exec .spitTimerExpiry s =
    .next (((s.modPower fun p => { p with dry := 0 }).bump .aon AON.SPIT_SKIP).raise .aon 16) :=
  (exec_spitTimerExpiry h).trans (if_pos hs)

theorem exec_spitTimerExpiry_due (h : SpitAtInterval s) (hs : s.spitSkips = false) :
    exec .spitTimerExpiry s = .next s.spitDue := (exec_spitTimerExpiry h).trans (if_neg (by simp [hs]))

theorem spitTimerExpiry_skips (h : SpitAtInterval s) (hs : s.spitSkips = true) :
    ∃ t, exec .spitTimerExpiry s = .next t ∧ t.event .aon 16 = true ∧
      t.rd .aon AON.SPIT_SKIP = min (s.rd .aon AON.SPIT_SKIP + 1) (2 ^ 32 - 1) ∧
      OnlyFields [(.aon, AON.SPIT_SKIP, 0), (.aon, HDR.PG_EVT_RAW, 0)] { s with power := { s.power with dry := 0 } } t := by
  refine ⟨_, exec_spitTimerExpiry_skip h hs, State.raise_event_same _ _ _ (by decide), ?_, ?_⟩
  · rw [State.raise_rd_apart _ _ _ _ rfl, State.bump_rd_same, State.modPower_rd]
    rfl
  · exact OnlyFields.raise _ _ (OnlyFields.bump _ _ _ _ (OnlyFields.refl _ _) (by simp)) (by simp)

theorem spitTimerExpiry_wakes (h : SpitAtInterval s) (hd : s.power.dev = .sett) (hs : s.spitSkips = false)
    (hw : (s.rd .aon AON.WAKE_EN).testBit 1 = true) (hn : s.power.wake = .none) :
    ∃ t, exec .spitTimerExpiry s = .next t ∧ t.on .pwr PWR.WAKE_CAUSE_SPIT = true ∧ t.power.wake = .pgood0 ∧
      t.power.spit = some { origin := .sett, left := s.rd .aon AON.SPIT_CTRL_DROPS } ∧
      OnlyFields [(.pwr, PWR.WAKE_CAUSE_SPIT, 0)] { s with power := t.power } t := by
  have hdue : s.spitDue = ((s.spitBegin .sett).wr .pwr PWR.WAKE_CAUSE_SPIT 1).wakeStart true := by
    unfold State.spitDue State.wakeBy
    rw [hd, hw, hn]
    dsimp only [State.spitBegin, State.modPower]
    rw [hd, hn]
    rfl
  refine ⟨s.spitDue, exec_spitTimerExpiry_due h hs, ?_, ?_, ?_, ?_⟩
  · rw [hdue, State.wakeStart, State.on, State.modPower_rd, State.wr_rd_same]
    rfl
  · rw [hdue]
    rfl
  · rw [hdue]
    rfl
  · rw [hdue]
    have hf : Untouched [(.pwr, PWR.WAKE_CAUSE_SPIT, 0)] s ((s.spitBegin .sett).wr .pwr PWR.WAKE_CAUSE_SPIT 1) :=
      ((Untouched.refl _ s).of_regs rfl).wr _ _ _ _ (by simp)
    exact ⟨hf.of_regs rfl, rfl⟩

/-- The clusters of `CLU_SEL`, as the device has them (R73). -/
def State.cluSel (s : State) : Nat := s.rd .pwr PWR.CLU_SEL &&& s.rd .sys SYS.DEV_ID_CL_MASK

theorem spitTimerExpiry_idle (h : SpitAtInterval s) (hd : s.power.dev = .idle) (hs : s.spitSkips = false)
    (hc : s.cluSel % 256 ≠ 0) (ho : s.allOff = true) :
    ∃ t, exec .spitTimerExpiry s = .next t ∧ t.power.dev = .toReady ∧
      t.power.spit = some { origin := .idle, left := s.rd .aon AON.SPIT_CTRL_DROPS } ∧ t.power.sel = s.cluSel := by
  obtain ⟨c, hb⟩ := exists_clu_testBit hc
  let u := (s.spitBegin .idle).selectClus
  have hup : ((u.setDev .toReady).driversSleep).domUp c = false :=
    (((Spares.refl c u).setDev .toReady).driversSleep).domUp.trans (domUp_of_allOff ho c)
  have hp : ((u.setDev .toReady).driversSleep).power = { u.power with dev := .toReady } := by
    rw [State.driversSleep_power, (State.setDev_carries u .toReady).power, State.setDev_dev]
  have hdue : s.spitDue = (u.setDev .toReady).driversSleep := by
    unfold State.spitDue
    rw [hd]
    exact State.settleReady_waits (by rw [hp]; exact hb) hup
  refine ⟨s.spitDue, exec_spitTimerExpiry_due h hs, ?_⟩
  rw [hdue, hp]
  exact ⟨rfl, rfl, rfl⟩

theorem spitTimerExpiry_ready (h : SpitAtInterval s) (hd : s.power.dev = .ready) (hs : s.spitSkips = false)
    (hc : s.cluSel % 256 ≠ 0) (ho : s.allOff = true) :
    ∃ t, exec .spitTimerExpiry s = .next t ∧
      t.power.spit = some { origin := .ready, left := s.rd .aon AON.SPIT_CTRL_DROPS } ∧
      t.power.sel = s.cluSel ∧ t.power.readyFrom = s.dclk ∧ t = { s with power := t.power } := by
  obtain ⟨c, hb⟩ := exists_clu_testBit hc
  have hdue : s.spitDue = (s.spitBegin .ready).selectClus := by
    unfold State.spitDue
    rw [hd]
    exact State.settleReady_waits hb (domUp_of_allOff ho c)
  refine ⟨s.spitDue, exec_spitTimerExpiry_due h hs, ?_⟩
  rw [hdue]
  exact ⟨rfl, rfl, rfl, rfl⟩

/-! ### A line of the burst -/

theorem spitLine_waits (hr : s.power.spit = some r) (h : r.sending = false ∨ r.left = 0 ∨ s.spitPaced r = false) :
    exec .spitLine s = .next s := by
  show execSpitLine s = _
  unfold execSpitLine
  rw [hr]
  refine if_neg ?_
  rcases h with h | h | h <;> simp [h]

theorem spitLine_sends (hr : s.power.spit = some r) (hs : r.sending = true) (hl : 0 < r.left) (hd : s.power.dev = .ready)
    (hc : s.spitScanned = true) (hp : s.spitPaced r = true) :
    ∃ t, exec .spitLine s = .next t ∧ t.power.spit = some { r with left := r.left - 1, last := some s.dclk } ∧
      t.power.dev = .ready ∧ (∀ l : Lane, s.lanes[l].spit = false → t.lanes[l] = s.lanes[l]) := by
  let u := s.modPower fun p => { p with spit := some { r with left := r.left - 1, last := some s.dclk } }
  let ls := allLanes.filter fun (l : Lane) => u.lanes[l].spit && u.spits l
  have he : exec .spitLine s = .next (u.each ls State.spitLine) := by
    show execSpitLine s = _
    unfold execSpitLine
    rw [hr]
    exact if_pos (by simp [hs, hl, hd, hc, hp])
  obtain ⟨hpow, hoth⟩ := State.each_spitLine ls u
  refine ⟨_, he, ?_, ?_, fun l h => hoth l fun hm => ?_⟩
  · rw [hpow]
    rfl
  · rw [hpow]
    exact hd
  · have hm := (List.mem_filter.1 hm).2
    rw [show u.lanes[l].spit = false from h] at hm
    exact nomatch hm

/-! ### The end of the burst -/

/-- A lane is out of the burst. -/
def State.spitOver (s : State) (l : Lane) : State := s.modLane l fun h => { h with spit := false }

/-- Every lane is out of the burst. -/
def State.spitsOver (s : State) : State := s.each allLanes State.spitOver

theorem State.spitsOver_eq (s : State) : s.spitsOver = { s with lanes := s.spitsOver.lanes } := by
  have h (ls : List Lane) (u : State) : u.each ls State.spitOver = { u with lanes := (u.each ls State.spitOver).lanes } := by
    induction ls generalizing u with
    | nil => rfl
    | cons l ls ih =>
      rw [State.each_cons, ih]
      rfl
  exact h _ s

theorem State.spitsOver_spit (s : State) (l : Lane) : s.spitsOver.lanes[l].spit = false := by
  obtain ⟨u, -, -, hu⟩ := State.each_lane_own State.spitOver (fun u _ _ hk => State.modLane_ne u _ hk) (fun _ => True)
    (fun _ _ _ => trivial) s trivial l
  rw [State.spitsOver, hu, State.spitOver, State.modLane_same]

theorem State.spitsOver_regs (s : State) : s.spitsOver.regs = s.regs := by rw [s.spitsOver_eq]

/-- The burst has ended, and its lanes with it, before the device returns to where it began. -/
def State.burstEnded (s : State) : State :=
  ((s.spitsOver.modPower fun p => { p with spit := none, dry := 0 }).bump .aon AON.SPIT_CNT).raise .aon 15

theorem State.burstEnded_power (s : State) : s.burstEnded.power = { s.power with spit := none, dry := 0 } := by
  unfold State.burstEnded
  rw [State.raise_power, State.bump_power, State.modPower_power, s.spitsOver_eq]

theorem State.burstEnded_event (s : State) : s.burstEnded.event .aon 15 = true := State.raise_event_same _ _ _ (by decide)

theorem State.burstEnded_cnt (s : State) :
    s.burstEnded.rd .aon AON.SPIT_CNT = min (s.rd .aon AON.SPIT_CNT + 1) (2 ^ AON.SPIT_CNT.width - 1) := by
  unfold State.burstEnded
  rw [State.raise_rd_apart _ _ _ _ rfl, State.bump_rd_same, State.modPower_rd, State.rd_congr s.spitsOver_regs]

theorem State.burstEnded_lanes (s : State) : s.burstEnded.lanes = s.spitsOver.lanes := by
  unfold State.burstEnded
  rw [State.raise_lanes, State.bump_lanes, State.modPower_lanes]

theorem State.burstEnded_only (s : State) : OnlyFields [(.aon, AON.SPIT_CNT, 0), (.aon, HDR.PG_EVT_RAW, 0)]
    { s with power := s.burstEnded.power, lanes := s.burstEnded.lanes } s.burstEnded := by
  have hb : s.spitsOver.modPower (fun p => { p with spit := none, dry := 0 }) =
      { s with power := s.burstEnded.power, lanes := s.burstEnded.lanes } := by
    rw [s.burstEnded_power, s.burstEnded_lanes, State.modPower, s.spitsOver_eq]
  rw [← hb]
  exact OnlyFields.raise _ _ (OnlyFields.bump _ _ _ _ (OnlyFields.refl _ _) (by simp)) (by simp)

theorem exec_spitBurstDone (hr : s.power.spit = some r) (hs : r.sending = true) (hl : r.left = 0) :
    exec .spitBurstDone s = match s.burstEnded.power.dev, r.origin with
      | .ready, .idle => .next s.burstEnded.toIdle
      | .ready, .sett => .next (s.burstEnded.modPower fun p => { p with settNext := true }).toIdle
      | _, _ => .next s.burstEnded := by
  show execSpitBurstDone s = _
  unfold execSpitBurstDone
  rw [hr]
  dsimp only
  rw [if_pos (by simp [hs, hl])]
  rfl

theorem spitBurstDone_ready (hr : s.power.spit = some r) (hs : r.sending = true) (hl : r.left = 0) (ho : r.origin = .ready) :
    ∃ t, exec .spitBurstDone s = .next t ∧ t.power = { s.power with spit := none, dry := 0 } ∧ t.event .aon 15 = true ∧
      t.rd .aon AON.SPIT_CNT = min (s.rd .aon AON.SPIT_CNT + 1) (2 ^ 32 - 1) ∧
      (∀ l : Lane, t.lanes[l].spit = false) ∧
      OnlyFields [(.aon, AON.SPIT_CNT, 0), (.aon, HDR.PG_EVT_RAW, 0)] { s with power := t.power, lanes := t.lanes } t := by
  refine ⟨s.burstEnded, ?_, s.burstEnded_power, s.burstEnded_event, ?_, fun l => ?_, ?_⟩
  · rw [exec_spitBurstDone hr hs hl, ho]
    split <;> trivial
  · rw [s.burstEnded_cnt]
    rfl
  · rw [s.burstEnded_lanes]
    exact s.spitsOver_spit l
  · exact s.burstEnded_only

theorem spitBurstDone_idle (hr : s.power.spit = some r) (hs : r.sending = true) (hl : r.left = 0) (ho : r.origin = .idle)
    (hd : s.power.dev = .ready) (hn : s.power.settNext = false) :
    ∃ t, exec .spitBurstDone s = .next t ∧ (t.power.dev = .toIdle ∨ t.power.dev = .idle) ∧ t.power.spit = none ∧
      t.event .aon 15 = true := by
  have hp := s.burstEnded_power
  obtain ⟨hc, hdev⟩ := State.toIdle_carries (s := s.burstEnded) (by rw [hp]; exact hn)
  refine ⟨s.burstEnded.toIdle, ?_, hdev, ?_, hc.events _ _ (by decide) s.burstEnded_event⟩
  · rw [exec_spitBurstDone hr hs hl, ho, hp, hd]
  · rw [hc.power, hp]

end Sys2Proof.Machine

namespace Sys2Proof

open Machine Reg

/-- Settles O47: a burst that falls due with its clusters off waits for them, a spit line changes no lane outside the burst, and the
way back to IDLE carries the events and the power state along. -/
theorem keepWet : Obligations.KeepWet :=
  ⟨fun _ hd he hn ht hs => spitTimerExpiry_skips ⟨hd, he, hn, ht⟩ hs,
    fun _ hd he hn ht hs hw hk => spitTimerExpiry_wakes ⟨by simp [hd], he, hn, ht⟩ hd hs hw hk,
    fun _ hd he hn ht hs hc ho => spitTimerExpiry_idle ⟨by simp [hd], he, hn, ht⟩ hd hs hc ho,
    fun _ _ hr hs hl hd hc hp => spitLine_sends hr hs hl hd hc hp,
    fun _ hd he hn ht hs hc ho => spitTimerExpiry_ready ⟨by simp [hd], he, hn, ht⟩ hd hs hc ho,
    fun _ _ hr hp => spitLine_waits hr (Or.inr (Or.inr hp)),
    fun _ _ hr h => spitLine_waits hr (h.imp id Or.inl),
    fun _ _ hr hs hl ho => spitBurstDone_ready hr hs hl ho,
    fun _ _ hr hs hl ho hd hn => spitBurstDone_idle hr hs hl ho hd hn⟩

end Sys2Proof
end

section
/-! PROOFS. A fatal cause in a test whose record names a lane number without a result slot (R63, R362). -/

namespace Sys2Proof.Machine

open Reg

/-- The record of a test of lane 4289, which is no lane and has no result slot (R368): its CYCLES stands where the events of
`.gio` do. -/
def strayTest : BistRun := { target := 0, insts := [4289], lanes := [] }

/-- The device idle and too hot, with that test's record. -/
def strayHot : State :=
  { State.reset.wr .pwr PWR.TJ 1000 with
    power := { dev := .idle }
    bist := { State.reset.bist with run := some strayTest } }

/-- What FAULT does before it aborts a running test. -/
def State.faultBegins (s : State) : State :=
  let s := s.each allClus fun t c =>
    let t := t.wr (.cpwr c) CPWR.STAT_HVEN 0
    if t.domUp c then t.modClu c fun (h : CluHw) => { h with phase := .fall } else t
  let s := s.raise .gio 10
  let s := s.each (s.intake.pages.filter fun (q : PageSt) => q.phase == PagePhase.active) fun t q => t.pageCut q 0x28
  let s := (s.each allAxes State.axEstop).driversSleep
  (s.flag .pair PAIR.STAT_PFAULT_O (s.pair.role == .lead)).wr .pair PAIR.STAT_ROLE_O 0

/-- What FAULT does after it. -/
def State.faultEnds (s : State) (pgood : Bool) : State :=
  let s := s.calAbortAll.scansEnd.srUndo.spitAbort
  let s := s.modPower fun p => { p with
    wake := .none, grace := false, settNext := false, wakeHeld := false, pendFault := 0, spit := none, pmb := [] }
  let s := ((s.setDev .fault).setFault .pwr true).setFault .sys true
  s.when pgood fun t => t.each allClus State.clusterDown

theorem State.faultActs_eq (s : State) (pgood : Bool) : s.faultActs pgood = (s.faultBegins.testAbort 5).faultEnds pgood := rfl

/-- The abort of that test is told in the result slot. -/
def State.strayTold (s : State) : State :=
  (((s.draw.2.wr .bst BST.RES_STAT_DONE 1 4289).wr .bst BST.RES_STAT_ABORTED 1 4289).wr .bst BST.RES_STAT_ABORT_WHY 5 4289)

/-- The rest of that abort, with the count of cycles it records. -/
def State.strayAbort (s : State) (cycles : Nat) : State :=
  let t := (s.strayTold.wr .bst BST.RES_CYCLES cycles 4289).marchClears 0 4289
  (((t.testClose 0 4289 (t.testLanes 0 4289) false).err .bst 0x23 5).raise .bst 9).testEnd strayTest

/-- With no cycles expected, the abort counts none. -/
theorem State.testAbort_stray {s : State} (hr : s.bist.run = some strayTest) (he : s.strayTold.rd .bst BST.EXP_CYC = 0) :
    s.testAbort 5 = s.strayAbort 0 := by
  have h : s.testAbort 5 = s.strayAbort (Config.freeNat s.draw.1 % (s.strayTold.rd .bst BST.EXP_CYC + 1)) := by
    unfold State.testAbort
    rw [hr]
    rfl
  rw [h, he, Nat.mod_one]

/-- A fatal cause is recorded, and the Den told of it when it is new. -/
def State.fatalTold (s : State) (b rail : Nat) : State :=
  (s.wr .pwr (fatalRow b) 1).when (!s.on .pwr (fatalRow b)) fun t => t.denFatal rail

theorem State.fatalNow_eq (s : State) (b rail : Nat) : s.fatalNow b rail =
    if (s.fatalTold b rail).power.dev == .fault then (s.fatalTold b rail).when (b == 0) fun t => t.each allClus State.clusterDown
    else (s.fatalTold b rail).faultActs (b == 0) := rfl

theorem strayHot_tjShut {t : State} (h : exec .tjShut strayHot = .next t) : t.event .gio 10 = false := by
  have ht : strayHot.fatal 1 0 = t := by
    have he : execTjShut strayHot = .next (strayHot.fatal 1 0) := if_pos (by decide +kernel)
    exact Host.Outcome.next.inj (he.symm.trans h)
  have hf : strayHot.fatal 1 0 = (strayHot.fatalTold 1 0).faultActs (1 == 0) := by
    rw [show strayHot.fatal 1 0 = strayHot.fatalNow 1 0 from rfl, State.fatalNow_eq, if_neg (by decide +kernel)]
  rw [← ht, hf, State.faultActs_eq, State.testAbort_stray (by decide +kernel) (by decide +kernel)]
  decide +kernel

end Sys2Proof.Machine

namespace Sys2Proof

open Machine Reg

/-- Refutes O43: no clause excludes a test record that names a lane number without a result slot. FAULT aborts the test after
FAULT_N has risen (R362), and the count of cycles that the abort records for lane 4289 falls on the event register of `.gio`:
at TJ_SHUT with no cycles expected it is 0, and the event of FAULT_N is lost. For a record that names the 64 lanes only, within
the 74 slots of R368, this does not occur. -/
theorem not_fatalCauses : ¬ Obligations.FatalCauses := by
  rintro ⟨-, -, -, htj, -⟩
  obtain ⟨t, hexec, -, -, -, -, hgio, -⟩ := htj strayHot (by decide +kernel) (by decide +kernel) (by decide +kernel)
    (by decide +kernel)
  rw [strayHot_tjShut hexec] at hgio
  exact nomatch hgio

end Sys2Proof
end

section
/-! PROOFS. The host link (R69, R102, R103): it comes up, goes down with tile reads in flight or without, and enters D3hot. -/

namespace Sys2Proof.Machine

open Reg

variable {s t u : State}

/-! ### The link comes up -/

/-- The fields that show a link that has come up (R102). -/
def linkUpFields : List FieldAt :=
  [(.pci, PCI.LINK_UP, 0), (.pci, PCI.LINK_SPEED, 0), (.pci, PCI.LINK_WIDTH, 0), (.pci, PCI.LINK_REVERSED, 0),
    (.pci, HDR.PG_EVT_RAW, 0)]

theorem pcieLinkUp_up (speed : BitVec 4) (width : BitVec 6) (rev : Bool) (hu : s.devUp = true)
    (hl : s.on .pci PCI.LINK_UP = false) :
    ∃ t, exec (.pcieLinkUp speed width rev) s = .next t ∧ t.on .pci PCI.LINK_UP = true ∧
      t.rd .pci PCI.LINK_SPEED = min speed.toNat (s.rd .pci PCI.LINK_CTRL) ∧ t.rd .pci PCI.LINK_WIDTH = width.toNat ∧
      t.on .pci PCI.LINK_REVERSED = rev ∧ t.event .pci 8 = true ∧
      OnlyFields linkUpFields { s with power := { s.power with wakeN := false } } t := by
  let b : State := { s with power := { s.power with wakeN := false } }
  let a := (b.wr .pci PCI.LINK_SPEED (min speed.toNat (s.rd .pci PCI.LINK_CTRL))).wr .pci PCI.LINK_WIDTH width.toNat
  let f := (a.flag .pci PCI.LINK_REVERSED rev).wr .pci PCI.LINK_UP 1
  have he : exec (.pcieLinkUp speed width rev) s = .next (f.raise .pci 8) := by
    show execPcieLinkUp speed width rev s = _
    unfold execPcieLinkUp
    exact if_pos (by rw [hu, hl]; rfl)
  have hspeed : min speed.toNat (s.rd .pci PCI.LINK_CTRL) < 2 ^ PCI.LINK_SPEED.width :=
    Nat.lt_of_le_of_lt (Nat.min_le_left ..) speed.isLt
  refine ⟨_, he, ?_, ?_, ?_, ?_, State.raise_event_same _ _ _ (by decide), ?_⟩
  · rw [State.on, State.raise_rd_apart _ _ _ _ rfl, State.wr_rd_same]
    rfl
  · rw [State.raise_rd_apart _ _ _ _ rfl, State.wr_rd_apart _ _ _ _ rfl, State.flag_rd_apart _ _ _ _ rfl,
      State.wr_rd_apart _ _ _ _ rfl, State.wr_rd_same, Nat.mod_eq_of_lt hspeed]
  · rw [State.raise_rd_apart _ _ _ _ rfl, State.wr_rd_apart _ _ _ _ rfl, State.flag_rd_apart _ _ _ _ rfl, State.wr_rd_same]
    exact Nat.mod_eq_of_lt width.isLt
  · rw [State.on, State.raise_rd_apart _ _ _ _ rfl, State.wr_rd_apart _ _ _ _ rfl, State.flag_rd_same]
    cases rev <;> rfl
  · exact OnlyFields.raise _ _ (OnlyFields.wr _ _ _ _ (OnlyFields.flag _ _ _ _ (OnlyFields.wr _ _ _ _ (OnlyFields.wr _ _ _ _
      (OnlyFields.refl _ b) (by simp [linkUpFields])) (by simp [linkUpFields])) (by simp [linkUpFields]))
      (by simp [linkUpFields])) (by simp [linkUpFields])

/-! ### The rings stop (R103) -/

/-- The rings stop: EN and STAT of each are 0. -/
def State.ringsOff (s : State) : State :=
  s.each (List.range 10) fun t r => (t.wr .int INT.RING_CTRL_EN 0 r).wr .int INT.RING_STAT 0 r

/-- EN and STAT of every ring. -/
def ringCopies : List (Row × Nat) := (List.range 10).flatMap fun r => [(INT.RING_CTRL_EN, r), (INT.RING_STAT, r)]

theorem State.ringsOff_eq (s : State) : s.ringsOff = s.each ringCopies fun u e => u.wr .int e.1 0 e.2 := rfl

theorem ringCopies_apart : ringCopies.Pairwise fun x y => Row.key .int x.1 x.2 ≠ Row.key .int y.1 y.2 := by decide

theorem State.ringsOff_rd (s : State) {x : Row × Nat} (hx : x ∈ ringCopies) : s.ringsOff.rd .int x.1 x.2 = 0 := by
  rw [State.ringsOff_eq, (State.each_wr_rd .int (fun _ => 0) ringCopies ringCopies_apart s).2 x hx, Nat.zero_mod]

/-- The fields in which a ring shows that it stopped. -/
def ringStopFields : List FieldAt := (List.range 10).flatMap fun r => [(.int, INT.RING_CTRL_EN, r), (.int, INT.RING_STAT, r)]

theorem ringStopFields_mem {r : Nat} (hr : r ∈ List.range 10) :
    (.int, INT.RING_CTRL_EN, r) ∈ ringStopFields ∧ (.int, INT.RING_STAT, r) ∈ ringStopFields :=
  ⟨List.mem_flatMap.2 ⟨r, hr, by simp⟩, List.mem_flatMap.2 ⟨r, hr, by simp⟩⟩

theorem State.ringsOff_only (s : State) : OnlyFields ringStopFields s s.ringsOff := by
  have h (l : List Nat) (hl : ∀ r ∈ l, r ∈ List.range 10) (u : State) : OnlyFields ringStopFields u
      (u.each l fun t r => (t.wr .int INT.RING_CTRL_EN 0 r).wr .int INT.RING_STAT 0 r) := by
    induction l generalizing u with
    | nil => exact OnlyFields.refl _ u
    | cons r l ih =>
      obtain ⟨he, hs⟩ := ringStopFields_mem (hl r (List.mem_cons_self ..))
      rw [State.each_cons]
      exact (OnlyFields.wr _ _ _ _ (OnlyFields.wr _ _ _ _ (OnlyFields.refl _ u) he) hs).trans
        (ih (fun x hx => hl x (List.mem_cons_of_mem _ hx)) _)
  exact h _ (fun _ hr => hr) s

/-! ### Tile reads in flight fail (R103) -/

/-- From s to t what a failed tile held is released: the pages of others, the lanes, and the error shown stay. -/
structure Fails (s t : State) : Prop where
  pages : OtherPages [.int, .cdc, .lst] s t
  lanes : t.lanes = s.lanes
  shown : t.errorShown .int = s.errorShown .int

theorem Fails.refl (s : State) : Fails s s := ⟨OtherPages.refl _ s, rfl, rfl⟩

theorem Fails.trans (h : Fails s t) (k : Fails t u) : Fails s u :=
  ⟨h.pages.trans k.pages, k.lanes.trans h.lanes, k.shown.trans h.shown⟩

theorem Fails.of_regs (hr : t.regs = s.regs) (hl : t.lanes = s.lanes) : Fails s t :=
  ⟨(OtherPages.refl _ s).of_regs hr, hl, by
    unfold State.errorShown State.on
    rw [State.rd_congr hr, State.rd_congr hr]⟩

theorem Fails.wr (s : State) {p : Page} {r : Row} (v : Nat) {i : Nat} (hp : p ∈ [Page.int, .cdc, .lst])
    (hr : Row.offShown r i = true) (hi : Row.inPage r i = true) : Fails s (s.wr p r v i) :=
  ⟨(OtherPages.refl _ s).wr hp hi, rfl, State.wr_errorShown_apart _ _ _ _ hr⟩

theorem Fails.raise (s : State) {p : Page} (n : Nat) (hp : p ∈ [Page.int, .cdc, .lst]) : Fails s (s.raise p n) :=
  ⟨(OtherPages.refl _ s).raise hp, State.raise_lanes _ _ _, State.raise_errorShown _ _ _ _⟩

theorem Fails.when (b : Bool) (f : State → State) (h : Fails s (f s)) : Fails s (s.when b f) := by
  cases b
  · exact Fails.refl s
  · exact h

theorem State.settleCodec_fails (s : State) : Fails s s.settleCodec := by
  have h (u : State) (v : Nat) : Fails u (u.setPage .cdc v) := by
    unfold State.setPage
    split
    · exact Fails.refl u
    · exact (Fails.wr u v (by simp) rfl rfl).trans (Fails.raise _ _ (by simp))
  exact ((Fails.wr s _ (by simp) rfl rfl).trans (Fails.wr _ _ (by simp) rfl rfl)).trans (h _ _)

theorem State.settleTags_fails (s : State) : Fails s s.settleTags :=
  (Fails.wr s _ (by simp) rfl rfl).trans (Fails.wr _ _ (by simp) rfl rfl)

theorem State.settleCredit_fails (s : State) : Fails s s.settleCredit :=
  ((Fails.wr s _ (by simp) rfl rfl).trans (Fails.when _ _ (Fails.raise _ _ (by simp)))).trans (Fails.of_regs rfl rfl)

/-- The tile is known no more, its encoder is free, and its read is over. -/
def State.tileForgot (s : State) (k : TileKey) : State :=
  let s := { s with intake := { s.intake with tiles := s.intake.tiles.filter fun (t : Tile) => t.key != k } }
  let s := { s with codec := { s.codec with encoders := s.codec.encoders.map fun (e : EncUser) => match e with
    | .intake j _ => if j = k then EncUser.free else e
    | _ => e } }
  s.dmaOver (forTile k)

theorem State.tileLost_eq (s : State) (k : TileKey) (c : Cqe) :
    s.tileLost k c = ((s.tileForgot k).settleCodec.settleTags.settleCredit).pushCqe c := rfl

theorem State.tileLost_fails (s : State) (k : TileKey) (c : Cqe) : Fails s (s.tileLost k c) := by
  rw [State.tileLost_eq]
  have h : Fails s (s.tileForgot k) := Fails.of_regs rfl rfl
  have hp (u : State) : Fails u (u.pushCqe c) := Fails.of_regs rfl rfl
  exact (((h.trans (State.settleCodec_fails _)).trans (State.settleTags_fails _)).trans (State.settleCredit_fails _)).trans (hp _)

theorem State.tileLost_tiles (s : State) (k : TileKey) (c : Cqe) :
    (s.tileLost k c).intake.tiles = s.intake.tiles.filter fun (t : Tile) => t.key != k := by
  have hc (u : State) : u.settleCodec.intake = u.intake := by
    unfold State.settleCodec
    rw [State.setPage_intake, State.wr_intake, State.wr_intake]
  have ht (u : State) : u.settleTags.intake = u.intake := rfl
  have hw (u : State) : u.settleCredit.intake.tiles = u.intake.tiles := by
    unfold State.settleCredit State.when
    dsimp only
    split <;> rfl
  rw [State.tileLost_eq, State.pushCqe, hw, ht, hc]
  rfl

theorem State.errOpen_int_only (s : State) (nn : Nat) : OnlyFields (errorFields .int) s (s.errOpen .int nn) :=
  OnlyFields.errOpen _ _ (OnlyFields.refl _ s) fun _ hf => hf

theorem State.flightFail_tiles (s : State) (u : Tile) (nn : Nat) :
    (s.flightFail u nn).intake.tiles = s.intake.tiles.filter fun (t : Tile) => t.key != u.key := by
  unfold State.flightFail
  rw [State.tileLost_tiles, (s.errOpen_int_only nn).rest]

theorem State.flightFail_pages (s : State) (u : Tile) (nn : Nat) : OtherPages [.int, .cdc, .lst] s (s.flightFail u nn) :=
  (OtherPages.of_untouched (s.errOpen_int_only nn).fields (by simp +decide [errorFields])).trans
    (State.tileLost_fails _ _ _).pages

theorem State.flightFail_lanes (s : State) (u : Tile) (nn : Nat) : (s.flightFail u nn).lanes = s.lanes := by
  unfold State.flightFail
  rw [(State.tileLost_fails _ _ _).lanes, (s.errOpen_int_only nn).rest]

theorem State.flightFail_shown (s : State) (u : Tile) {nn : Nat} (hn : nn < 256) :
    (s.flightFail u nn).errorShown .int = s.errorAfter .int nn :=
  (State.tileLost_fails _ _ _).shown.trans (State.errOpen_errorShown _ _ _ hn)

theorem State.errorAfter_shown {s t : State} {p : Page} {nn : Nat} (h : t.errorShown p = s.errorAfter p nn) (m : Nat) :
    t.errorAfter p m = s.errorAfter p nn := by
  unfold State.errorAfter at h ⊢
  rw [h]
  cases s.errorShown p <;> rfl

/-- Tile reads in flight fail one after the other. -/
def State.flightsFail (s : State) (us : List Tile) : State := s.each us fun t u => t.flightFail u 0x26

theorem State.flightsFail_cons (s : State) (u : Tile) (us : List Tile) :
    s.flightsFail (u :: us) = (s.flightFail u 0x26).flightsFail us := by
  unfold State.flightsFail
  rw [State.each_cons]

theorem State.flightsFail_pages (us : List Tile) (s : State) :
    OtherPages [.int, .cdc, .lst] s (s.flightsFail us) ∧ (s.flightsFail us).lanes = s.lanes := by
  induction us generalizing s with
  | nil => exact ⟨OtherPages.refl _ s, rfl⟩
  | cons u us ih =>
    obtain ⟨hp, hl⟩ := ih (s.flightFail u 0x26)
    rw [State.flightsFail_cons]
    exact ⟨(s.flightFail_pages u 0x26).trans hp, hl.trans (s.flightFail_lanes u 0x26)⟩

/-- The first of the errors is the one shown. -/
theorem State.flightsFail_shown {us : List Tile} (hus : us ≠ []) (s : State) :
    (s.flightsFail us).errorShown .int = s.errorAfter .int 0x26 := by
  have h (us : List Tile) (t : State) (ht : t.errorShown .int = s.errorAfter .int 0x26) :
      (t.flightsFail us).errorShown .int = s.errorAfter .int 0x26 := by
    induction us generalizing t with
    | nil => exact ht
    | cons u us ih =>
      rw [State.flightsFail_cons]
      exact ih _ ((t.flightFail_shown u (by decide)).trans (State.errorAfter_shown ht 0x26))
  obtain ⟨u, us, rfl⟩ := List.exists_cons_of_ne_nil hus
  rw [State.flightsFail_cons]
  exact h us _ (s.flightFail_shown u (by decide))

/-- A tile that is left had another key than each that failed. -/
theorem State.flightsFail_left {us : List Tile} {s : State} {x : Tile} (hx : x ∈ (s.flightsFail us).intake.tiles) :
    x ∈ s.intake.tiles ∧ ∀ u ∈ us, x.key ≠ u.key := by
  induction us generalizing s with
  | nil => exact ⟨hx, fun _ hu => nomatch hu⟩
  | cons u us ih =>
    rw [State.flightsFail_cons] at hx
    obtain ⟨hm, hk⟩ := ih hx
    rw [State.flightFail_tiles, List.mem_filter] at hm
    refine ⟨hm.1, fun v hv => ?_⟩
    rcases List.mem_cons.1 hv with rfl | hv
    · simpa using hm.2
    · exact hk v hv

/-! ### The link goes down (R103) -/

/-- The tile reads in flight. -/
def State.flying (s : State) : List Tile := s.intake.tiles.filter fun t => t.phase == .reading

/-- Completions, fetches and reads of the host that wait are lost. -/
def State.hostLost (s : State) : State := { s with
  intake := { s.intake with cq := [], rings := Vector.replicate 9 {}, reads := [] }
  codec := { s.codec with loads := [] } }

theorem State.hostLost_rd (s : State) (p : Page) (r : Row) (i : Nat) : s.hostLost.rd p r i = s.rd p r i := rfl

theorem State.hostLost_shown (s : State) (p : Page) : s.hostLost.errorShown p = s.errorShown p := rfl

theorem OnlyFields.hostLost {fs : List FieldAt} (h : OnlyFields fs s t) : OnlyFields fs s.hostLost t.hostLost :=
  ⟨h.fields, by unfold State.hostLost; rw [h.rest]⟩

/-- The endpoint is in D0 again. -/
def State.inD0 (s : State) : State := { s with intake := { s.intake with d3hot := false } }

theorem OnlyFields.inD0 {fs : List FieldAt} (h : OnlyFields fs s t) : OnlyFields fs s.inD0 t.inD0 :=
  ⟨h.fields, by unfold State.inD0; rw [h.rest]⟩

/-- The registers tell that the link is down. -/
def State.downTold (s : State) : State := ((s.wr .pci PCI.LINK_UP 0).wr .pci PCI.LINK_SPEED 0).raise .pci 9

/-- The fields that show a link that has gone down (R103). -/
def linkDownFields : List FieldAt := [(.pci, PCI.LINK_UP, 0), (.pci, PCI.LINK_SPEED, 0), (.pci, HDR.PG_EVT_RAW, 0)]

theorem State.downTold_only (s : State) : OnlyFields linkDownFields s s.downTold :=
  OnlyFields.raise _ _ (OnlyFields.wr _ _ _ _ (OnlyFields.wr _ _ _ _ (OnlyFields.refl _ s) (by simp [linkDownFields]))
    (by simp [linkDownFields])) (by simp [linkDownFields])

/-- The link is down, and the registers tell it. -/
def State.linkDown (s : State) : State := s.downTold.inD0

theorem State.linkDown_rd (s : State) (p : Page) (r : Row) (i : Nat) : s.linkDown.rd p r i = s.downTold.rd p r i := rfl

theorem exec_pcieLinkDown (hu : s.devUp = true) (hl : s.on .pci PCI.LINK_UP = true) :
    exec .pcieLinkDown s = .next ((s.flightsFail s.flying).ringsOff.hostLost).linkDown := by
  show execPcieLinkDown s = _
  unfold execPcieLinkDown
  exact if_pos (by rw [hu, hl]; rfl)

theorem State.linkDown_up (s : State) : s.linkDown.on .pci PCI.LINK_UP = false := by
  rw [State.on, State.linkDown_rd, State.downTold, State.raise_rd_apart _ _ _ _ rfl, State.wr_rd_apart _ _ _ _ rfl,
    State.wr_rd_same]
  rfl

theorem State.linkDown_speed (s : State) : s.linkDown.rd .pci PCI.LINK_SPEED = 0 := by
  rw [State.linkDown_rd, State.downTold, State.raise_rd_apart _ _ _ _ rfl, State.wr_rd_same]
  rfl

theorem State.linkDown_event (s : State) : s.linkDown.event .pci 9 = true :=
  State.raise_event_same ((s.wr .pci PCI.LINK_UP 0).wr .pci PCI.LINK_SPEED 0) .pci 9 (by decide)

theorem State.linkDown_only (s : State) : OnlyFields linkDownFields s.inD0 s.linkDown := s.downTold_only.inD0

theorem State.linkDown_rd_page (s : State) {p : Page} {r : Row} {i : Nat} (hp : .pci ≠ p) (hr : Row.inPage r i = true) :
    s.linkDown.rd p r i = s.rd p r i := by
  rw [State.linkDown_rd, State.downTold, State.raise_rd_page _ _ hp hr, State.wr_rd_page _ _ hp rfl hr,
    State.wr_rd_page _ _ hp rfl hr]

/-- What the link's going down does once the tile reads in flight have failed. -/
def State.hostDown (s : State) : State := s.ringsOff.hostLost.linkDown

theorem ringCopies_inPage : ∀ x ∈ ringCopies, Row.inPage x.1 x.2 = true := by decide

theorem ringCopies_mem {r : Nat} (hr : r < 10) : (INT.RING_CTRL_EN, r) ∈ ringCopies ∧ (INT.RING_STAT, r) ∈ ringCopies :=
  ⟨List.mem_flatMap.2 ⟨r, List.mem_range.2 hr, by simp⟩, List.mem_flatMap.2 ⟨r, List.mem_range.2 hr, by simp⟩⟩

theorem State.hostDown_rd (s : State) {row : Row} {r : Nat} (hx : (row, r) ∈ ringCopies) : s.hostDown.rd .int row r = 0 := by
  rw [State.hostDown, State.linkDown_rd_page _ (by simp) (ringCopies_inPage _ hx), State.hostLost_rd]
  exact s.ringsOff_rd hx

/-- Once the link is down every ring is stopped. -/
theorem State.hostDown_rings (s : State) {r : Nat} (hr : r < 10) :
    s.hostDown.on .int INT.RING_CTRL_EN r = false ∧ s.hostDown.ringState r = 0 := by
  obtain ⟨he, hs⟩ := ringCopies_mem hr
  unfold State.on State.ringState
  rw [s.hostDown_rd he, s.hostDown_rd hs]
  exact ⟨rfl, rfl⟩

theorem State.hostDown_only (s : State) : OnlyFields (linkDownFields ++ ringStopFields) s.hostLost.inD0 s.hostDown :=
  OnlyFields.trans (s.ringsOff_only.hostLost.inD0.mono fun _ hm => List.mem_append_right _ hm)
    ((State.linkDown_only _).mono fun _ hm => List.mem_append_left _ hm)

theorem pcieLinkDown_still (hu : s.devUp = true) (hl : s.on .pci PCI.LINK_UP = true)
    (ht : ∀ u ∈ s.intake.tiles, u.phase = .landed) :
    ∃ t, exec .pcieLinkDown s = .next t ∧ t.on .pci PCI.LINK_UP = false ∧ t.rd .pci PCI.LINK_SPEED = 0 ∧
      t.event .pci 9 = true ∧ (∀ r, r < 10 → t.on .int INT.RING_CTRL_EN r = false ∧ t.ringState r = 0) ∧
      OnlyFields (linkDownFields ++ ringStopFields) s.hostLost.inD0 t := by
  have hf : s.flying = [] := List.filter_eq_nil_iff.2 fun u hm => by rw [ht u hm]; decide
  have he := exec_pcieLinkDown hu hl
  rw [hf] at he
  exact ⟨s.hostDown, he, State.linkDown_up _, State.linkDown_speed _, State.linkDown_event _, fun _ hr => s.hostDown_rings hr,
    s.hostDown_only⟩

theorem State.linkDown_shown (s : State) : s.linkDown.errorShown .int = s.errorShown .int := by
  unfold State.errorShown State.on
  rw [State.linkDown_rd_page _ (by simp) rfl, State.linkDown_rd_page _ (by simp) rfl]

theorem hostDown_within : FieldAt.within [.pci, .int] (linkDownFields ++ ringStopFields) := by
  unfold FieldAt.within
  decide

theorem State.ringsOff_shown (s : State) : s.ringsOff.errorShown .int = s.errorShown .int := by
  have h := s.ringsOff_only
  unfold State.errorShown State.on
  rw [h.rd _ _ _ (by decide), h.rd _ _ _ (by decide)]

theorem State.hostDown_shown (s : State) : s.hostDown.errorShown .int = s.errorShown .int := by
  rw [State.hostDown, State.linkDown_shown, State.hostLost_shown, State.ringsOff_shown]

theorem State.hostDown_pages (s : State) : OtherPages [.pci, .int] s s.hostDown :=
  OtherPages.of_untouched (s := s.hostLost.inD0) s.hostDown_only.fields hostDown_within

theorem pcieLinkDown_flying (hu : s.devUp = true) (hl : s.on .pci PCI.LINK_UP = true)
    (ht : ∃ u ∈ s.intake.tiles, u.phase = .reading) :
    ∃ t, exec .pcieLinkDown s = .next t ∧ t.on .pci PCI.LINK_UP = false ∧ t.intake.cq = [] ∧
      t.errorShown .int = s.errorAfter .int 0x26 ∧ (∀ u ∈ t.intake.tiles, u.phase = .landed) ∧
      (∀ r, r < 10 → t.on .int INT.RING_CTRL_EN r = false ∧ t.ringState r = 0) ∧
      OtherPages [.pci, .int, .cdc, .lst] s t ∧ OtherLanes [] s t := by
  obtain ⟨hpa, hla⟩ := State.flightsFail_pages s.flying s
  obtain ⟨v, hv, hread⟩ := ht
  have hne : s.flying ≠ [] := List.ne_nil_of_mem (List.mem_filter.2 ⟨hv, by rw [hread]; rfl⟩)
  have hleft := fun u => State.flightsFail_left (us := s.flying) (s := s) (x := u)
  have hshown := State.flightsFail_shown hne s
  have he := exec_pcieLinkDown hu hl
  generalize s.flightsFail s.flying = a at hpa hla hleft hshown he
  have hd := a.hostDown_only.rest
  refine ⟨a.hostDown, he, State.linkDown_up _, ?_, a.hostDown_shown.trans hshown, fun u hm => ?_, fun _ hr => a.hostDown_rings hr,
    (hpa.mono ?_).trans (a.hostDown_pages.mono ?_), fun l _ => ?_⟩
  · rw [hd]
    rfl
  · rw [hd] at hm
    obtain ⟨hu, hk⟩ := hleft u hm
    by_contra hp
    refine hk u (List.mem_filter.2 ⟨hu, ?_⟩) rfl
    cases h : u.phase
    · rfl
    · exact absurd h hp
  · simp
  · simp
  · rw [hd]
    exact congrArg (fun ls => ls[l]) hla

/-! ### D3hot (R102) -/

theorem dmaOk_of_d3hot (h : s.intake.d3hot = true) : s.dmaOk = false := by
  rw [State.dmaOk, h]
  exact Bool.and_false _

theorem d3hot_idle (r : Fin 9) (k : Fin 8) (h : s.intake.d3hot = true) :
    exec (.descriptorFetch r) s = .next s ∧ exec (.tileAllocate k) s = .next s ∧ exec .completionWrite s = .next s := by
  have hn := dmaOk_of_d3hot h
  refine ⟨?_, ?_, ?_⟩
  · exact if_neg (by rw [hn]; simp)
  · show execTileAllocate k s = _
    unfold execTileAllocate
    split
    · rfl
    · exact if_neg (by rw [hn]; simp)
  · exact if_neg (by rw [hn]; simp)

end Sys2Proof.Machine

namespace Sys2Proof

open Machine Reg

/-- Settles O22: what a tile read in flight that fails leaves alone is carried through all of them, and a tile that is still there
had another key than each. -/
theorem hostLink : Obligations.HostLink :=
  ⟨fun _ speed width rev hu hl => pcieLinkUp_up speed width rev hu hl, fun _ hu hl ht => pcieLinkDown_still hu hl ht,
    fun _ hu hl ht => pcieLinkDown_flying hu hl ht, fun _ hu hl => congrArg _ (if_pos (by rw [hu, hl]; rfl)), fun _ => rfl,
    fun _ r k h => d3hot_idle r k h⟩

end Sys2Proof
end

section
/-! PROOFS. What a takeover leaves of the PAIR page and of what the pair holds (R345, R347, R352). -/

namespace Sys2Proof.Machine

open Reg

variable {s t u : State}

/-- From s to t every field of the PAIR page and what the pair holds stay as they were. -/
structure PairKept (s t : State) : Prop where
  page : ∀ (r : Row) (i : Nat), Row.inPage r i = true → t.rd .pair r i = s.rd .pair r i
  part : t.pair = s.pair

theorem PairKept.refl (s : State) : PairKept s s := ⟨fun _ _ _ => rfl, rfl⟩

theorem PairKept.trans (h : PairKept s t) (k : PairKept t u) : PairKept s u :=
  ⟨fun r i hr => (k.page r i hr).trans (h.page r i hr), k.part.trans h.part⟩

theorem PairKept.of_regs (hr : t.regs = s.regs) (hp : t.pair = s.pair) : PairKept s t :=
  ⟨fun r i _ => State.rd_congr hr .pair r i, hp⟩

theorem PairKept.ite {q : Prop} [Decidable q] (h : PairKept s t) (k : PairKept s u) : PairKept s (if q then t else u) := by
  split
  · exact h
  · exact k

theorem PairKept.when (b : Bool) (f : State → State) (h : PairKept s (f s)) : PairKept s (s.when b f) :=
  PairKept.ite h (PairKept.refl s)

theorem PairKept.each {α : Type} (l : List α) (f : State → α → State) (hf : ∀ u x, PairKept u (f u x)) (s : State) :
    PairKept s (s.each l f) := by
  induction l generalizing s with
  | nil => exact PairKept.refl s
  | cons x l ih => exact (hf s x).trans (ih (f s x))

theorem PairKept.wr (s : State) {p : Page} {r : Row} (v : Nat) {i : Nat} (hp : p ≠ .pair) (hr : Row.inPage r i = true) :
    PairKept s (s.wr p r v i) := ⟨fun _ _ ht => State.wr_rd_page s v hp hr ht, rfl⟩

theorem PairKept.raise (s : State) {p : Page} (n : Nat) (hp : p ≠ .pair) : PairKept s (s.raise p n) := PairKept.wr s _ hp rfl

theorem PairKept.modLane (s : State) (l : Lane) (f : LaneHw → LaneHw) : PairKept s (s.modLane l f) := PairKept.of_regs rfl rfl

/-- A change of fields of other pages that leaves what the pair holds. -/
theorem PairKept.of_untouched {fs : List FieldAt} {ps : List Page} (h : Untouched fs s t) (hw : FieldAt.within ps fs)
    (hp : .pair ∉ ps) (hh : t.pair = s.pair) : PairKept s t := ⟨fun r i hr => h.rd_within hw hp r i hr, hh⟩

/-- A count of a cause of spoiling stands on no field of the PAIR page, whatever its number. -/
theorem PairKept.cause (s : State) (n cause : Nat) : PairKept s (s.bump .spl SPL.CAUSE_CNT n cause) := by
  refine ⟨fun r i hr => State.rd_wr_ne s fun h => ?_, rfl⟩
  have hspl : Page.spl.base = 0x60000 := rfl
  have hpair : Page.pair.base = 0x48000 := rfl
  simp only [Row.key, hspl, hpair, SPL.CAUSE_CNT, Row.inPage, Row.place, Nat.ble_eq] at h hr
  omega

/-! ### The lanes and the spoil records -/

theorem setLaneFields_within (l : Lane) : FieldAt.within ([.pwr, .sys, .cal] ++ lanePages l) (setLaneFields l) := by
  simp +decide [setLaneFields, devFields, calFields, calPageFields, lanePages]

theorem State.setLane_pairKept (s : State) (l : Lane) (st : LaneState) : PairKept s (s.setLane l st) := by
  have h := s.setLane_step l st
  exact PairKept.of_untouched h.fields (setLaneFields_within l) (by simp [lanePages]) (by rw [h.rest])

theorem State.holdTold_pairKept (s : State) (l : Lane) (why : Nat) : PairKept s (s.holdTold l why) := by
  have hw (u : State) : PairKept u (u.wr (.seq l) SEQ.STAT_HOLD_WHY why) := PairKept.wr u _ (by simp) rfl
  have hb (u : State) : PairKept u (u.bump (.seq l) SEQ.HOLD_CNT) := PairKept.wr u _ (by simp) rfl
  have hr (u : State) (n : Nat) : PairKept u (u.raise (.seq l) n) := PairKept.raise u n (by simp)
  unfold State.holdTold
  exact ((((PairKept.modLane s l _).trans (hw _)).trans (hb _)).trans (hr _ 8)).trans (PairKept.when _ _ (hr _ 14))

theorem State.enterHold_pairKept (s : State) (l : Lane) (why : Nat) : PairKept s (s.enterHold l why) := by
  have hb : PairKept s (s.bump (.seq l) SEQ.HOLD_CNT) := PairKept.wr s _ (by simp) rfl
  exact PairKept.ite (PairKept.ite hb ((s.holdTold_pairKept l why).trans (State.setLane_pairKept _ l .hold))) (PairKept.refl s)

theorem State.overflowMerge_pairKept (s : State) (r : SpoilRec) (last : Nat) : PairKept s (s.overflowMerge r last) := by
  have h (x : Spoil) : PairKept s (({ s with spoil := x } : State).wr .spl SPL.STAT_OVF 1) :=
    (PairKept.of_regs rfl rfl : PairKept s { s with spoil := x }).trans (PairKept.wr _ _ (by simp) rfl)
  exact h _

theorem State.spoilFull_pairKept (s : State) (r : SpoilRec) (last : Nat) : PairKept s (s.spoilFull r last) := by
  unfold State.spoilFull
  exact ((PairKept.ite (PairKept.raise s 9 (by simp)) (PairKept.refl s)).trans (State.overflowMerge_pairKept _ r last)).trans
    (PairKept.each _ _ (fun u l => u.enterHold_pairKept l 3) _)

theorem PairKept.spoil (s : State) (x : Spoil) : PairKept s { s with spoil := x } := PairKept.of_regs rfl rfl

theorem State.recordOut_pairKept (s : State) (r : SpoilRec) : PairKept s (s.recordOut r) := by
  have hw : PairKept s (s.wr .spl SPL.SEQ ((s.rd .spl SPL.SEQ + 1) % 2 ^ 32)) := PairKept.wr s _ (by simp) rfl
  unfold State.recordOut
  exact PairKept.ite (s.overflowMerge_pairKept r _) (PairKept.ite (s.spoilFull_pairKept r _) (hw.trans (PairKept.spoil _ _)))

theorem State.closeRun_pairKept (s : State) (l : Lane) (r : Run) : PairKept s (s.closeRun l r) := by
  unfold State.closeRun
  split
  · exact PairKept.spoil s _
  · dsimp only
    refine PairKept.ite (s.overflowMerge_pairKept _ _) ?_
    split
    · exact PairKept.ite ((PairKept.spoil s _).trans (State.recordOut_pairKept _ _)) (PairKept.spoil s _)
    · exact PairKept.spoil s _

theorem State.flushRun_pairKept (s : State) (l : Lane) (after : Bool) : PairKept s (s.flushRun l after) := by
  unfold State.flushRun
  dsimp only
  split
  · exact PairKept.refl s
  · exact (PairKept.modLane s l _).trans (State.closeRun_pairKept _ l _)

theorem State.spoilLine_pairKept (s : State) (l : Lane) (tag : LineTag) (cause flags detail at_ : Nat) :
    PairKept s (s.spoilLine l tag cause flags detail at_) := by
  have hc := PairKept.cause s 1 cause
  unfold State.spoilLine
  refine PairKept.ite (PairKept.refl s) (hc.trans ?_)
  dsimp only
  refine PairKept.ite (State.overflowMerge_pairKept _ _ _) ?_
  split
  · exact PairKept.modLane _ l _
  · exact PairKept.ite (PairKept.modLane _ l _) ((State.flushRun_pairKept _ l _).trans (PairKept.modLane _ l _))

theorem State.takeover_pairKept (s : State) (l : Lane) : PairKept s (s.takeover l) := by
  unfold State.takeover
  refine .trans (PairKept.modLane s l _) (PairKept.each _ _ (fun u e => ?_) _)
  exact u.spoilLine_pairKept l e.tag e.cause 0 e.detail e.at_

/-! ### The axes -/

theorem PairKept.modAxis (s : State) (a : Axis) (f : AxisHw → AxisHw) : PairKept s (s.modAxis a f) := PairKept.of_regs rfl rfl

theorem PairKept.wrAx (s : State) (a : Axis) {r : Row} (v : Nat) (hr : Row.inPage r 0 = true) :
    PairKept s (s.wr (.ax a) r v) := PairKept.wr s v (by simp) hr

theorem State.setAx_pairKept (s : State) (a : Axis) (v : Nat) : PairKept s (s.setAx a v) := by
  have hp (u : State) : PairKept u (u.setPage (.ax a) v) := by
    unfold State.setPage
    exact PairKept.ite (PairKept.refl u) ((PairKept.wrAx u a v rfl).trans (PairKept.raise _ 6 (by simp)))
  unfold State.setAx
  exact (PairKept.ite (PairKept.modAxis s a _) (PairKept.refl s)).trans (hp _)

theorem State.axReport_pairKept (s : State) (a : Axis) (old : Int) : PairKept s (s.axReport a old) := by
  have hv (u : State) (x : Int) : PairKept u (u.wrS (.ax a) AX.VEL x) := PairKept.wrAx u a _ rfl
  have hd (u : State) (b : Bool) : PairKept u (u.flag (.ax a) AX.STAT_DIR b) := PairKept.wrAx u a _ rfl
  have hp (u : State) (n : Nat) : PairKept u (u.wr (.ax a) AX.STAT_PROF n) := PairKept.wrAx u a n rfl
  have h (n : Nat) (x : Int) : PairKept s ((s.wr (.ax a) AX.STAT_PROF n).wrS (.ax a) AX.VEL x) := (hp s n).trans (hv _ x)
  unfold State.axReport
  exact PairKept.ite (h _ _) ((h _ _).trans (hd _ _))

theorem State.axHalt_pairKept (s : State) (a : Axis) : PairKept s (s.axHalt a) :=
  (PairKept.modAxis s a _).trans (State.axReport_pairKept _ a 0)

theorem State.axObserve_pairKept (s : State) (a : Axis) : PairKept s (s.axObserve a) := by
  have h : PairKept s ((s.axHalt a).modAxis a fun h => { h with seen := none }) :=
    (s.axHalt_pairKept a).trans (PairKept.modAxis _ a _)
  unfold State.axObserve
  exact PairKept.ite h (h.trans (State.setAx_pairKept _ a _))

theorem State.axLimits_pairKept (s : State) (a : Axis) : PairKept s (s.axLimits a) :=
  (PairKept.modAxis s a _).trans (PairKept.wrAx _ a 0 rfl)

theorem State.axBegin_pairKept (s : State) (a : Axis) : PairKept s (s.axBegin a) := by
  have h : PairKept s (s.wr (.ax a) AX.STAT_AT_TARGET 0) := PairKept.wrAx s a 0 rfl
  have hs (u : State) : PairKept u (u.wr (.ax a) AX.STAT_ASLEEP 0) := PairKept.wrAx u a 0 rfl
  unfold State.axBegin
  exact PairKept.ite ((h.trans (hs _)).trans (PairKept.modAxis _ a _)) h

theorem State.axPromote_pairKept (s : State) (a : Axis) : PairKept s (s.axPromote a) := by
  unfold State.axPromote
  refine PairKept.ite ?_ (PairKept.refl s)
  split
  · refine PairKept.ite ?_ (s.setAx_pairKept a axIdle)
    exact ((((PairKept.modAxis s a _).trans (State.axLimits_pairKept _ a)).trans (State.axBegin_pairKept _ a)).trans
      (State.axReport_pairKept _ a 0)).trans (State.setAx_pairKept _ a axMoving)
  · exact s.setAx_pairKept a axIdle

/-! ### SLOWREQ and the Den -/

theorem State.settleSlow_pairKept (s : State) : PairKept s s.settleSlow := by
  have h : OnlyFields slowFields _ _ := s.settleSlow_quiet
  exact PairKept.of_untouched (ps := [.pace]) s.settleSlow_quiet.untouched (by simp +decide [slowFields]) (by simp) (by rw [h.rest])

theorem State.slowFall_pairKept (s : State) : PairKept s s.slowFall := by
  have h : PairKept s (s.wr .pace PACE.STAT_SLOWREQ 0) := PairKept.wr s 0 (by simp) rfl
  exact PairKept.ite (h.trans (PairKept.raise _ 9 (by simp))) (PairKept.refl s)

theorem State.denTakeover_pairKept (s : State) (cause old : Nat) : PairKept s (s.denTakeover cause old) := by
  have h : ∀ e, OnlyFields denFields _ (s.denPush e) := s.denPush_den
  exact PairKept.of_untouched (ps := [.den]) (h _).fields (by simp +decide [denFields]) (by simp) (by
    unfold State.denTakeover State.denHw
    rw [(h _).rest])

end Sys2Proof.Machine
end

section
/-! PROOFS. Changes of role (R68, R345, R347, R354). -/

namespace Sys2Proof.Machine

open Reg

variable {s t : State}

/-! ### Promotion (R345) -/

/-- The new lead goes on from the line tick its partner is known to have fired, and no handover is asked for. -/
def State.takesWl (s : State) : State := { s with pair := { s.pair with fWl := s.pair.fClear, handover := false } }

/-- The role and the epoch of the new lead, before the takeover's registers tell them. -/
def State.leadRole (s : State) : State := (s.takesWl.setRole .lead).setEpoch (s.rd .pair PAIR.EPOCH_P_EPOCH + 1)

/-- The lead's role and epoch, and what the registers tell of the takeover. -/
def State.leads (s : State) (cause : Nat) : State :=
  let s := s.leadRole
  ((s.wr .pair PAIR.TO_CAUSE cause).wr .pair PAIR.TO_TIME s.time).bump .pair PAIR.PROMOTE_CNT

/-- The event of a promotion, and its error where ROLE_I is high, after the Den has been told. -/
def State.promoteShown (s : State) : State :=
  (s.raise .pair 10).when ((s.raise .pair 10).on .pair PAIR.STAT_ROLE_I) fun t => t.errOpen .pair 0x29

/-- What the lanes and axes of a new lead do. -/
def State.takesOver (s : State) : State :=
  let s := ((s.each allLanes State.takeover).each allAxes State.axPromote).settleSlow
  if s.on .spl HDR.PG_CTRL_EN then s else s.each allLanes fun t l => t.enterHold l 3

theorem State.promote_eq (s : State) (cause : Nat) : s.promote cause =
    (((s.leads cause).denTakeover cause (s.rd .pair PAIR.EPOCH_EPOCH)).promoteShown).takesOver := rfl

theorem State.takesOver_pairKept (s : State) : PairKept s s.takesOver := by
  have h : PairKept s (((s.each allLanes State.takeover).each allAxes State.axPromote).settleSlow) :=
    ((PairKept.each _ _ State.takeover_pairKept s).trans (PairKept.each _ _ State.axPromote_pairKept _)).trans
      (State.settleSlow_pairKept _)
  unfold State.takesOver
  exact PairKept.ite h (h.trans (PairKept.each _ _ (fun u l => u.enterHold_pairKept l 3) _))

theorem State.promoteShown_rd (s : State) {r : Row} (hv : Row.apart HDR.PG_EVT_RAW 0 r 0 = true) (he : Row.offErr r 0 = true) :
    s.promoteShown.rd .pair r = s.rd .pair r := by
  unfold State.promoteShown State.when
  split
  · rw [State.errOpen_rd_apart _ _ _ _ he, State.raise_rd_apart _ _ _ _ hv]
  · rw [State.raise_rd_apart _ _ _ _ hv]

theorem State.promoteShown_event (s : State) : s.promoteShown.event .pair 10 = true :=
  KeepsEvents.when _ _ (KeepsEvents.refl _) (fun _ hu => hu.errOpen _ _) _ _ (by decide)
    (State.raise_event_same _ _ _ (by decide))

theorem State.promoteShown_pair (s : State) : s.promoteShown.pair = s.pair := by
  have h (u : State) : OnlyFields (errorFields .pair) u (u.errOpen .pair 0x29) :=
    OnlyFields.errOpen _ _ (OnlyFields.refl _ u) fun _ hf => hf
  unfold State.promoteShown State.when
  split
  · dsimp only
    rw [(h _).rest, State.raise_pair]
  · rw [State.raise_pair]

/-- After a promotion a field of the PAIR page reads as once the role, the epoch and the takeover's registers were written. -/
theorem State.promote_rd (s : State) (cause : Nat) {r : Row} (hv : Row.apart HDR.PG_EVT_RAW 0 r 0 = true)
    (he : Row.offErr r 0 = true) (hr : Row.inPage r 0 = true) : (s.promote cause).rd .pair r = (s.leads cause).rd .pair r := by
  rw [State.promote_eq, (State.takesOver_pairKept _).page r 0 hr, State.promoteShown_rd _ hv he,
    (State.denTakeover_pairKept _ _ _).page r 0 hr]

theorem State.promote_event (s : State) (cause : Nat) : (s.promote cause).event .pair 10 = true := by
  rw [State.promote_eq, State.event, (State.takesOver_pairKept _).page _ 0 rfl]
  exact State.promoteShown_event _

theorem State.promote_pair (s : State) (cause : Nat) : (s.promote cause).pair = (s.leads cause).pair := by
  rw [State.promote_eq, (State.takesOver_pairKept _).part, State.promoteShown_pair, (State.denTakeover_pairKept _ _ _).part]

theorem State.setEpoch_parts (s : State) (e : Nat) :
    (s.setEpoch e).regs = (s.wr .pair PAIR.EPOCH_EPOCH (e % 65536)).regs ∧ (s.setEpoch e).pair = s.pair := by
  have h (ls : List Lane) (u : State) : (u.each ls fun t l => t.queueCtrl l 0x30 0).regs = u.regs ∧
      (u.each ls fun t l => t.queueCtrl l 0x30 0).pair = u.pair := by
    induction ls generalizing u with
    | nil => exact ⟨rfl, rfl⟩
    | cons l ls ih => exact ih (u.queueCtrl l 0x30 0)
  exact h _ _

theorem State.setRole_pair (s : State) (r : Role) : (s.setRole r).pair = { s.pair with role := r } := by
  unfold State.setRole
  rw [State.setPage_pair]
  rfl

/-- A field of the PAIR page that does not tell the role reads as before. -/
theorem State.setRole_rd (s : State) (x : Role) {r : Row} (hv : Row.apart HDR.PG_EVT_RAW 0 r 0 = true)
    (hs : Row.apart HDR.PG_STAT_STATE 0 r 0 = true) (ho : Row.apart PAIR.STAT_ROLE_O 0 r 0 = true) :
    (s.setRole x).rd .pair r = s.rd .pair r := by
  unfold State.setRole
  rw [State.setPage_rd_apart _ _ _ _ hv hs, State.flag_rd_apart _ _ _ _ ho]
  rfl

theorem State.setRole_roleO (s : State) (x : Role) : (s.setRole x).on .pair PAIR.STAT_ROLE_O = (x == .lead) := by
  unfold State.setRole
  rw [State.on, State.setPage_rd_apart _ _ _ _ rfl rfl, State.flag_rd_same]
  cases x <;> rfl

theorem State.leadRole_pair (s : State) :
    s.leadRole.pair = { s.pair with role := .lead, fWl := s.pair.fClear, handover := false } := by
  unfold State.leadRole
  rw [(State.setEpoch_parts _ _).2, State.setRole_pair]
  rfl

theorem State.leadRole_rd (s : State) {r : Row} (hr : Row.apart PAIR.EPOCH_EPOCH 0 r 0 = true) :
    s.leadRole.rd .pair r = (s.takesWl.setRole .lead).rd .pair r := by
  unfold State.leadRole
  rw [State.rd_congr (State.setEpoch_parts _ _).1, State.wr_rd_apart _ _ _ _ hr]

theorem State.leadRole_epoch (s : State) :
    s.leadRole.rd .pair PAIR.EPOCH_EPOCH = (s.rd .pair PAIR.EPOCH_P_EPOCH + 1) % 65536 := by
  unfold State.leadRole
  rw [State.rd_congr (State.setEpoch_parts _ _).1, State.wr_rd_same]
  exact Nat.mod_mod _ _

theorem State.leads_rd (s : State) (cause : Nat) {r : Row} (hc : Row.apart PAIR.TO_CAUSE 0 r 0 = true)
    (ht : Row.apart PAIR.TO_TIME 0 r 0 = true) (hp : Row.apart PAIR.PROMOTE_CNT 0 r 0 = true) :
    (s.leads cause).rd .pair r = s.leadRole.rd .pair r := by
  unfold State.leads
  rw [State.bump_rd_apart _ _ _ _ hp, State.wr_rd_apart _ _ _ _ ht, State.wr_rd_apart _ _ _ _ hc]

theorem State.leads_pair (s : State) (cause : Nat) : (s.leads cause).pair = s.leadRole.pair := by
  unfold State.leads
  rw [State.bump_pair, State.wr_pair, State.wr_pair]

/-- What a promotion leaves in the registers and in what the pair holds (R345). -/
structure Promoted (s t : State) (cause : Nat) : Prop where
  pair : t.pair = { s.pair with role := .lead, fWl := s.pair.fClear, handover := false }
  cause : t.rd .pair PAIR.TO_CAUSE = cause
  epoch : t.rd .pair PAIR.EPOCH_EPOCH = (s.rd .pair PAIR.EPOCH_P_EPOCH + 1) % 65536
  count : t.rd .pair PAIR.PROMOTE_CNT = min (s.rd .pair PAIR.PROMOTE_CNT + 1) (2 ^ 32 - 1)
  event : t.event .pair 10 = true
  roleO : t.on .pair PAIR.STAT_ROLE_O = true
  pfaultI : t.on .pair PAIR.STAT_PFAULT_I = s.on .pair PAIR.STAT_PFAULT_I

theorem State.promote_promoted (s : State) {cause : Nat} (hc : cause < 4) : Promoted s (s.promote cause) cause where
  pair := by rw [State.promote_pair, State.leads_pair, State.leadRole_pair]
  cause := by
    rw [State.promote_rd _ _ rfl rfl rfl, State.leads, State.bump_rd_apart _ _ _ _ rfl, State.wr_rd_apart _ _ _ _ rfl,
      State.wr_rd_same]
    exact Nat.mod_eq_of_lt hc
  epoch := by rw [State.promote_rd _ _ rfl rfl rfl, State.leads_rd _ _ rfl rfl rfl, State.leadRole_epoch]
  count := by
    rw [State.promote_rd _ _ rfl rfl rfl, State.leads, State.bump_rd_same, State.wr_rd_apart _ _ _ _ rfl,
      State.wr_rd_apart _ _ _ _ rfl, State.leadRole_rd _ rfl, State.setRole_rd _ _ rfl rfl rfl]
    rfl
  event := s.promote_event cause
  roleO := by
    rw [State.on, State.promote_rd _ _ rfl rfl rfl, State.leads_rd _ _ rfl rfl rfl, State.leadRole_rd _ rfl]
    exact State.setRole_roleO s.takesWl .lead
  pfaultI := by
    rw [State.on, State.promote_rd _ _ rfl rfl rfl, State.leads_rd _ _ rfl rfl rfl, State.leadRole_rd _ rfl,
      State.setRole_rd _ _ rfl rfl rfl]
    rfl

/-! ### The causes of promotion (R68, R345, R354) -/

theorem State.promoteFor_promotes {cause : Nat} (hs : s.shadow = true) (hd : s.power.dev ≠ .fault)
    (ht : s.on .pair PAIR.CTRL_TAKE_EN = true ∨ cause = 3) : s.promoteFor cause = s.promote cause := by
  have hr : s.pair.role = .shadow := by simpa [State.shadow] using hs
  unfold State.promoteFor
  rw [if_pos (by rw [hr]; rfl), if_neg (by simpa using hd), if_pos (by simpa using ht)]

theorem State.promoteFor_fault (cause : Nat) (hs : s.shadow = true) (hd : s.power.dev = .fault) :
    s.promoteFor cause = s.errOpen .pair 0x2A := by
  have hr : s.pair.role = .shadow := by simpa [State.shadow] using hs
  unfold State.promoteFor
  rw [if_pos (by rw [hr]; rfl), if_pos (by rw [hd]; rfl)]

theorem State.promoteFor_none {cause : Nat} (hc : cause ≠ 3)
    (h : s.shadow = false ∨ (s.power.dev ≠ .fault ∧ s.on .pair PAIR.CTRL_TAKE_EN = false)) : s.promoteFor cause = s := by
  unfold State.promoteFor
  rcases h with h | ⟨hd, ht⟩
  · exact if_neg (by rw [show (s.pair.role == .shadow) = false from h]; decide)
  · split
    · rw [if_neg (by simpa using hd), if_neg (by rw [ht]; simpa using hc)]
    · rfl

theorem heartbeatTimeout_early (h : s.rd .pair PAIR.HB_AGE < 1600) : exec .heartbeatTimeout s = .next s := by
  refine if_neg ?_
  rw [decide_eq_false (by omega), Bool.and_false]
  decide

theorem exec_heartbeatTimeout (hu : s.devUp = true) (h : 1600 ≤ s.rd .pair PAIR.HB_AGE) :
    exec .heartbeatTimeout s = .next (s.promoteFor 2) := by
  refine if_pos ?_
  rw [hu, decide_eq_true h]
  rfl

/-- The level of PFAULT_I is recognised. -/
def State.pfaultSeen (s : State) (level : Bool) : State := s.flag .pair PAIR.STAT_PFAULT_I level

theorem State.pfaultSeen_rd (s : State) (level : Bool) {r : Row} (h : Row.apart PAIR.STAT_PFAULT_I 0 r 0 = true) :
    (s.pfaultSeen level).rd .pair r = s.rd .pair r := State.flag_rd_apart _ _ _ _ h

theorem State.pfaultSeen_on (s : State) (level : Bool) : (s.pfaultSeen level).on .pair PAIR.STAT_PFAULT_I = level := by
  unfold State.pfaultSeen
  rw [State.on, State.flag_rd_same]
  cases level <;> rfl

theorem exec_pfaultI (level : Bool) (hu : s.devUp = true) : exec (.pfaultI level) s =
    .next (if level then (s.pfaultSeen level).promoteFor 1 else s.pfaultSeen level) := if_pos hu

theorem pfaultI_promotes (hu : s.devUp = true) (hs : s.shadow = true) (hd : s.power.dev ≠ .fault)
    (ht : s.on .pair PAIR.CTRL_TAKE_EN = true) :
    ∃ t, exec (.pfaultI true) s = .next t ∧ t.pair.role = .lead ∧ t.rd .pair PAIR.TO_CAUSE = 1 ∧
      t.on .pair PAIR.STAT_PFAULT_I = true ∧
      t.rd .pair PAIR.EPOCH_EPOCH = (s.rd .pair PAIR.EPOCH_P_EPOCH + 1) % 65536 ∧ t.event .pair 10 = true := by
  have hen : (s.pfaultSeen true).on .pair PAIR.CTRL_TAKE_EN = true := by
    rw [State.on, s.pfaultSeen_rd true rfl]
    exact ht
  have h := (s.pfaultSeen true).promote_promoted (cause := 1) (by decide)
  refine ⟨(s.pfaultSeen true).promote 1, ?_, by rw [h.pair], h.cause, h.pfaultI.trans (s.pfaultSeen_on true), ?_, h.event⟩
  · rw [exec_pfaultI true hu, if_pos rfl, State.promoteFor_promotes (s := s.pfaultSeen true) hs hd (Or.inl hen)]
  · rw [h.epoch, s.pfaultSeen_rd true rfl]

theorem pfaultI_fault (hu : s.devUp = true) (hs : s.shadow = true) (hd : s.power.dev = .fault) :
    ∃ t, exec (.pfaultI true) s = .next t ∧ t.pair.role = .shadow ∧
      t.errorShown .pair = s.errorAfter .pair 0x2A ∧ t.on .pair PAIR.STAT_PFAULT_I = true ∧
      OnlyFields ((.pair, PAIR.STAT_PFAULT_I, 0) :: errorFields .pair) s t := by
  have ho : OnlyFields ((.pair, PAIR.STAT_PFAULT_I, 0) :: errorFields .pair) s ((s.pfaultSeen true).errOpen .pair 0x2A) :=
    OnlyFields.errOpen _ _ (OnlyFields.flag _ _ _ _ (OnlyFields.refl _ s) (List.mem_cons_self ..))
      fun _ hf => List.mem_cons_of_mem _ hf
  refine ⟨(s.pfaultSeen true).errOpen .pair 0x2A, ?_, ?_, ?_, ?_, ho⟩
  · rw [exec_pfaultI true hu, if_pos rfl, State.promoteFor_fault (s := s.pfaultSeen true) 1 hs hd]
  · rw [ho.rest]
    simpa [State.shadow] using hs
  · rw [State.errOpen_errorShown _ _ _ (by decide)]
    exact State.errorAfter_congr (State.flag_errorShown_apart _ _ _ _ rfl) _
  · rw [State.on, State.errOpen_rd_apart _ _ _ _ rfl]
    exact s.pfaultSeen_on true

theorem pfaultI_seen (level : Bool) (hu : s.devUp = true) (h : level = false ∨ s.shadow = false ∨
      (s.power.dev ≠ .fault ∧ s.on .pair PAIR.CTRL_TAKE_EN = false)) :
    ∃ t, exec (.pfaultI level) s = .next t ∧ t.on .pair PAIR.STAT_PFAULT_I = level ∧
      OnlyFields [(.pair, PAIR.STAT_PFAULT_I, 0)] s t := by
  refine ⟨s.pfaultSeen level, ?_, s.pfaultSeen_on level, OnlyFields.flag _ _ _ _ (OnlyFields.refl _ s) (by simp)⟩
  rw [exec_pfaultI level hu]
  cases level
  · rfl
  · have hn : (s.pfaultSeen true).promoteFor 1 = s.pfaultSeen true := by
      refine State.promoteFor_none (by decide) ?_
      rw [State.on, s.pfaultSeen_rd true rfl]
      exact h.resolve_left nofun
    rw [if_pos rfl, hn]

theorem handoverReceive_promotes {msg : List Byte} {b : List Nat} (hu : s.devUp = true) (hl : s.pairUp = true)
    (hb : pairBody msg 8 = some b) (hs : s.shadow = true) (hd : s.power.dev ≠ .fault) :
    exec (.handoverReceive msg) s = .next (s.promote 3) := by
  show Host.Outcome.next (s.pairTake msg 8 fun s _ => s.promoteFor 3) = _
  unfold State.pairTake
  rw [if_pos (by rw [hu, hl]; rfl), hb]
  dsimp only
  rw [State.promoteFor_promotes hs hd (Or.inr rfl)]

/-! ### Demotion (R347) -/

/-- A lane's frames and markers that wait are forgotten. -/
def State.silence (s : State) (l : Lane) : State := s.modLane l fun h => { h with ctrl := [], unacked := [], fires := [] }

theorem State.silence_parts (ls : List Lane) (s : State) :
    (s.each ls State.silence).regs = s.regs ∧ (s.each ls State.silence).pair = s.pair := by
  induction ls generalizing s with
  | nil => exact ⟨rfl, rfl⟩
  | cons l ls ih => exact ih (s.silence l)

theorem State.silence_lane (s : State) (l : Lane) : (s.each allLanes State.silence).lanes[l].ctrl = [] ∧
    (s.each allLanes State.silence).lanes[l].unacked = [] ∧ (s.each allLanes State.silence).lanes[l].fires = [] := by
  obtain ⟨u, -, -, hu⟩ := State.each_lane_own State.silence (fun u _ _ hk => State.modLane_ne u _ hk) (fun _ => True)
    (fun _ _ _ => trivial) s trivial l
  rw [hu, State.silence, State.modLane_same]
  exact ⟨rfl, rfl, rfl⟩

/-- What every lane was to send is forgotten. -/
def State.silenced (s : State) : State := s.each allLanes State.silence

theorem State.silenced_rd (s : State) (p : Page) (r : Row) (i : Nat) : s.silenced.rd p r i = s.rd p r i :=
  State.rd_congr (State.silence_parts _ s).1 p r i

/-- The device is SHADOW, and no handover is asked for. -/
def State.shadowRole (s : State) : State :=
  { s.setRole .shadow with pair := { (s.setRole .shadow).pair with handover := false } }

/-- Nothing is driven. -/
def State.driveNone (s : State) : State := s.slowFall.each allAxes State.axObserve

/-- The registers tell the demotion, and the Den. -/
def State.demoteTold (s : State) : State :=
  ((s.bump .pair PAIR.DEMOTE_CNT).raise .pair 11).denTakeover 4 (s.rd .pair PAIR.EPOCH_EPOCH)

/-- The state of a demotion before it records anything as an error. -/
def State.demoted (s : State) : State := s.shadowRole.driveNone.demoteTold

/-- What a demotion that was not planned records (R347, R354). -/
def State.unplanned (s : State) : State := (s.wr .pair PAIR.CTRL_TAKE_EN 0).errOpen .pair 0x2B

theorem State.demote_eq (s : State) : s.demote =
    if s.pair.handover then s.silenced.demoted
    else s.silenced.demoted.unplanned := rfl

theorem State.driveNone_pairKept (s : State) : PairKept s s.driveNone :=
  s.slowFall_pairKept.trans (PairKept.each _ _ State.axObserve_pairKept _)

theorem State.axObserve_lanes (s : State) (a : Axis) : (s.axObserve a).lanes = s.lanes := by
  have hh : (s.axHalt a).lanes = s.lanes := by
    rw [(s.axHalt_only a).rest]
    rfl
  have hs (u : State) (v : Nat) : (u.setAx a v).lanes = u.lanes := by
    rw [(u.setAx_only a v).rest]
    rfl
  unfold State.axObserve
  dsimp only
  split
  · exact hh
  · exact (hs _ _).trans hh

theorem State.driveNone_lanes (s : State) : s.driveNone.lanes = s.lanes := by
  have ha (as : List Axis) (u : State) : (u.each as State.axObserve).lanes = u.lanes := by
    induction as generalizing u with
    | nil => rfl
    | cons a as ih => exact (ih _).trans (u.axObserve_lanes a)
  have hf : s.slowFall.lanes = s.lanes := by
    unfold State.slowFall
    split
    · rw [State.raise_lanes, State.wr_lanes]
    · rfl
  exact (ha _ _).trans hf

theorem PairKept.errorShown (h : PairKept s t) : t.errorShown .pair = s.errorShown .pair := by
  unfold State.errorShown State.on
  rw [h.page _ 0 rfl, h.page _ 0 rfl]

theorem State.shadowRole_rd (s : State) {r : Row} (hv : Row.apart HDR.PG_EVT_RAW 0 r 0 = true)
    (hs : Row.apart HDR.PG_STAT_STATE 0 r 0 = true) (ho : Row.apart PAIR.STAT_ROLE_O 0 r 0 = true) :
    s.shadowRole.rd .pair r = s.rd .pair r := State.setRole_rd s .shadow hv hs ho

theorem State.shadowRole_lanes (s : State) : s.shadowRole.lanes = s.lanes := by
  unfold State.shadowRole State.setRole
  dsimp only
  rw [State.setPage_lanes]
  rfl

/-- From s, where the lanes were silenced, to t: what a demotion leaves, before what it records as an error. -/
structure Demoted (s t : State) : Prop where
  role : t.pair.role = .shadow
  count : t.rd .pair PAIR.DEMOTE_CNT = min (s.rd .pair PAIR.DEMOTE_CNT + 1) (2 ^ 32 - 1)
  event : t.event .pair 11 = true
  roleO : t.on .pair PAIR.STAT_ROLE_O = false
  roleI : t.on .pair PAIR.STAT_ROLE_I = s.on .pair PAIR.STAT_ROLE_I
  lanes : t.lanes = s.lanes
  shown : t.errorShown .pair = s.errorShown .pair

theorem State.demoteTold_rd (s : State) {r : Row} (hr : Row.inPage r 0 = true) (hv : Row.apart HDR.PG_EVT_RAW 0 r 0 = true) :
    s.demoteTold.rd .pair r = (s.bump .pair PAIR.DEMOTE_CNT).rd .pair r := by
  unfold State.demoteTold
  rw [(State.denTakeover_pairKept _ _ _).page r 0 hr, State.raise_rd_apart _ _ _ _ hv]

theorem State.demoteTold_event (s : State) : s.demoteTold.event .pair 11 = true := by
  unfold State.demoteTold
  rw [State.event, (State.denTakeover_pairKept _ _ _).page _ 0 rfl]
  exact State.raise_event_same _ _ _ (by decide)

theorem State.demoteTold_parts (s : State) : s.demoteTold.pair = s.pair ∧ s.demoteTold.lanes = s.lanes := by
  have h : ∀ u e, OnlyFields denFields _ (State.denPush u e) := State.denPush_den
  unfold State.demoteTold State.denTakeover State.denHw
  rw [(h _ _).rest]
  dsimp only
  rw [State.raise_pair, State.raise_lanes, State.bump_pair, State.bump_lanes]
  exact ⟨rfl, rfl⟩

theorem State.demoteTold_shown (s : State) : s.demoteTold.errorShown .pair = s.errorShown .pair := by
  unfold State.demoteTold
  rw [(State.denTakeover_pairKept _ _ _).errorShown, State.raise_errorShown, State.bump_errorShown_apart _ _ _ _ rfl]

theorem State.demoted_rd (s : State) {r : Row} (hp : Row.inPage r 0 = true) (hv : Row.apart HDR.PG_EVT_RAW 0 r 0 = true)
    (hc : Row.apart PAIR.DEMOTE_CNT 0 r 0 = true) : s.demoted.rd .pair r = s.shadowRole.rd .pair r := by
  unfold State.demoted
  rw [State.demoteTold_rd _ hp hv, State.bump_rd_apart _ _ _ _ hc, (State.driveNone_pairKept _).page r 0 hp]

theorem State.shadowRole_shown (s : State) : s.shadowRole.errorShown .pair = s.errorShown .pair := by
  have h : s.shadowRole.errorShown .pair = (s.setRole .shadow).errorShown .pair := rfl
  unfold State.setRole at h
  rw [h, State.setPage_errorShown, State.flag_errorShown_apart _ _ _ _ rfl]
  rfl

theorem State.demoted_demoted (s : State) : Demoted s s.demoted where
  role := by
    unfold State.demoted
    rw [(State.demoteTold_parts _).1, (State.driveNone_pairKept _).part, State.shadowRole, State.setRole_pair]
  count := by
    unfold State.demoted
    rw [State.demoteTold_rd _ rfl rfl, State.bump_rd_same, (State.driveNone_pairKept _).page _ 0 rfl,
      State.shadowRole_rd _ rfl rfl rfl]
    rfl
  event := State.demoteTold_event _
  roleO := by
    rw [State.on, State.demoted_rd _ rfl rfl rfl]
    exact State.setRole_roleO s .shadow
  roleI := by rw [State.on, State.demoted_rd _ rfl rfl rfl, State.shadowRole_rd _ rfl rfl rfl, State.on]
  lanes := by
    unfold State.demoted
    rw [(State.demoteTold_parts _).2, State.driveNone_lanes, State.shadowRole_lanes]
  shown := by
    unfold State.demoted
    rw [State.demoteTold_shown, (State.driveNone_pairKept _).errorShown, State.shadowRole_shown]

/-! ### ROLE_I (R347) -/

/-- The level of ROLE_I is recognised. -/
def State.roleISeen (s : State) (level : Bool) : State := s.flag .pair PAIR.STAT_ROLE_I level

theorem State.roleISeen_on (s : State) (level : Bool) : (s.roleISeen level).on .pair PAIR.STAT_ROLE_I = level := by
  unfold State.roleISeen
  rw [State.on, State.flag_rd_same]
  cases level <;> rfl

theorem exec_roleIRise (level : Bool) (hu : s.devUp = true) : exec (.roleIRise level) s =
    .next (if level && s.pair.role == .lead && s.power.dev != .fault then (s.roleISeen level).demote else s.roleISeen level) :=
  if_pos hu

theorem roleIRise_seen (level : Bool) (hu : s.devUp = true)
    (h : level = false ∨ s.pair.role ≠ .lead ∨ s.power.dev = .fault) :
    ∃ t, exec (.roleIRise level) s = .next t ∧ t.on .pair PAIR.STAT_ROLE_I = level ∧
      OnlyFields [(.pair, PAIR.STAT_ROLE_I, 0)] s t := by
  refine ⟨s.roleISeen level, ?_, s.roleISeen_on level, OnlyFields.flag _ _ _ _ (OnlyFields.refl _ s) (by simp)⟩
  rw [exec_roleIRise level hu, if_neg]
  rcases h with h | h | h <;> simp [h]

theorem State.unplanned_only (s : State) :
    OnlyFields ((.pair, PAIR.CTRL_TAKE_EN, 0) :: errorFields .pair) s s.unplanned :=
  OnlyFields.errOpen _ _ (OnlyFields.wr _ _ _ _ (OnlyFields.refl _ s) (List.mem_cons_self ..)) fun _ hf => List.mem_cons_of_mem _ hf

theorem State.unplanned_pair (s : State) : s.unplanned.pair = s.pair := by rw [s.unplanned_only.rest]

theorem State.unplanned_lanes (s : State) : s.unplanned.lanes = s.lanes := by rw [s.unplanned_only.rest]

theorem State.unplanned_shown (s : State) : s.unplanned.errorShown .pair = s.errorAfter .pair 0x2B := by
  unfold State.unplanned
  rw [State.errOpen_errorShown _ _ _ (by decide)]
  exact State.errorAfter_congr (State.wr_errorShown_apart _ _ _ _ rfl) _

theorem State.unplanned_takeEn (s : State) : s.unplanned.on .pair PAIR.CTRL_TAKE_EN = false := by
  unfold State.unplanned
  rw [State.on, State.errOpen_rd_apart _ _ _ _ rfl, State.wr_rd_same]
  rfl

theorem State.unplanned_events (s : State) : KeepsEvents s s.unplanned :=
  ((KeepsEvents.refl s).wr .pair PAIR.CTRL_TAKE_EN 0 0 rfl).errOpen _ _

/-- What a demotion records as an error changes nothing else that it leaves. -/
theorem State.demote_roles (s : State) : (s.demote).pair.role = .shadow ∧
    s.demote.on .pair PAIR.STAT_ROLE_I = s.on .pair PAIR.STAT_ROLE_I ∧
    s.demote.rd .pair PAIR.DEMOTE_CNT = min (s.rd .pair PAIR.DEMOTE_CNT + 1) (2 ^ 32 - 1) ∧ s.demote.event .pair 11 = true ∧
    s.demote.on .pair PAIR.STAT_ROLE_O = false ∧ s.demote.lanes = s.silenced.lanes := by
  have hd := s.silenced.demoted_demoted
  have hu := s.silenced.demoted.unplanned_only
  have hI : s.silenced.on .pair PAIR.STAT_ROLE_I = s.on .pair PAIR.STAT_ROLE_I := by rw [State.on, s.silenced_rd, State.on]
  have hC := hd.count
  rw [s.silenced_rd] at hC
  rw [State.demote_eq]
  split
  · exact ⟨hd.role, hd.roleI.trans hI, hC, hd.event, hd.roleO, hd.lanes⟩
  · refine ⟨?_, ?_, ?_, State.unplanned_events _ _ _ (by decide) hd.event, ?_, ?_⟩
    · rw [State.unplanned_pair]
      exact hd.role
    · rw [State.on, hu.rd _ _ _ (by decide)]
      exact hd.roleI.trans hI
    · rw [hu.rd _ _ _ (by decide)]
      exact hC
    · rw [State.on, hu.rd _ _ _ (by decide)]
      exact hd.roleO
    · rw [State.unplanned_lanes]
      exact hd.lanes

theorem State.demote_unplanned (h : s.pair.handover = false) :
    s.demote.errorShown .pair = s.errorAfter .pair 0x2B ∧ s.demote.on .pair PAIR.CTRL_TAKE_EN = false := by
  have hs : s.silenced.errorShown .pair = s.errorShown .pair := by
    unfold State.errorShown State.on
    rw [s.silenced_rd, s.silenced_rd]
  rw [State.demote_eq, if_neg (by rw [h]; decide)]
  exact ⟨(State.unplanned_shown _).trans (State.errorAfter_congr (s.silenced.demoted_demoted.shown.trans hs) _),
    State.unplanned_takeEn _⟩

theorem roleIRise_demotes (hu : s.devUp = true) (hr : s.pair.role = .lead) (hd : s.power.dev ≠ .fault) :
    ∃ t, exec (.roleIRise true) s = .next t ∧ t.pair.role = .shadow ∧ t.on .pair PAIR.STAT_ROLE_I = true ∧
      t.rd .pair PAIR.DEMOTE_CNT = min (s.rd .pair PAIR.DEMOTE_CNT + 1) (2 ^ 32 - 1) ∧ t.event .pair 11 = true ∧
      t.on .pair PAIR.STAT_ROLE_O = false ∧
      (∀ l : Lane, t.lanes[l].ctrl = [] ∧ t.lanes[l].unacked = [] ∧ t.lanes[l].fires = []) ∧
      (s.pair.handover = false → t.errorShown .pair = s.errorAfter .pair 0x2B ∧ t.on .pair PAIR.CTRL_TAKE_EN = false) := by
  obtain ⟨hrole, hI, hC, hE, hO, hL⟩ := (s.roleISeen true).demote_roles
  refine ⟨(s.roleISeen true).demote, ?_, hrole, hI.trans (s.roleISeen_on true), hC.trans ?_, hE, hO, fun l => ?_, fun h => ?_⟩
  · rw [exec_roleIRise true hu, if_pos (by simp [hr, hd])]
  · rw [State.roleISeen, State.flag_rd_apart _ _ _ _ rfl]
  · rw [hL]
    exact (s.roleISeen true).silence_lane l
  · obtain ⟨he, ht⟩ := State.demote_unplanned (s := s.roleISeen true) h
    exact ⟨he.trans (State.errorAfter_congr (State.flag_errorShown_apart _ _ _ _ rfl) _), ht⟩

end Sys2Proof.Machine

namespace Sys2Proof

open Machine Reg

/-- Settles O17: nothing that follows the writes of a promotion or a demotion touches the PAIR page, or what the pair holds. -/
theorem pairRoles : Obligations.PairRoles := by
  refine ⟨fun _ h => heartbeatTimeout_early h, fun s hu ha hs hd ht => ?_, fun _ hu hs hd ht => pfaultI_promotes hu hs hd ht,
    fun _ hu hs hd => pfaultI_fault hu hs hd, fun _ level hu h => pfaultI_seen level hu h, fun s msg b hu hl hb hs hd => ?_,
    fun _ hu hr hd => roleIRise_demotes hu hr hd, fun _ level hu h => roleIRise_seen level hu h⟩
  · have h := s.promote_promoted (cause := 2) (by decide)
    refine ⟨s.promote 2, ?_, by rw [h.pair], h.cause, h.epoch, h.count, h.event, by rw [h.pair], h.roleO⟩
    rw [exec_heartbeatTimeout hu ha, State.promoteFor_promotes hs hd (Or.inl ht)]
  · have h := s.promote_promoted (cause := 3) (by decide)
    exact ⟨s.promote 3, handoverReceive_promotes hu hl hb hs hd, by rw [h.pair], h.cause, h.epoch, h.event⟩

end Sys2Proof
end

section
/-! PROOFS. A register write that its page answers with an error; the host mailbox (R98). -/

namespace Sys2Proof.Machine

open Reg

variable {s : State} {req : Req}

/-! ### A write that is answered with an error -/

/-- A write that its page answers with an error is accepted by the fabric and changes the page's error fields alone (R43). -/
theorem refused_posted {c : Instr} {p : Page} {off at_ nn : Nat} {act : State → State} (h : s.open_ req p = true)
    (hn : nn < 256) (he : exec c s = .next (s.gate req p off act))
    (ha : act (s.withReply (.posted req.code)) = (s.withReply (.posted req.code)).errAt p nn at_ req.code) :
    ∃ t, exec c s = .next t ∧ t.errorShown p = s.errorAfter p nn ∧
      OnlyFields (errorFields p) { s with reply := .posted req.code } t := by
  refine ⟨_, he.trans (congrArg _ ((State.gate_posted h off act).trans ha)), ?_, ?_⟩
  · exact State.errAt_errorShown _ _ _ _ _ hn
  · exact OnlyFields.errAt _ _ _ _ (OnlyFields.refl _ _) fun _ => id

/-! ### A write of a mailbox CTRL register -/

variable {h2c : Bool}

theorem exec_mbxSend (len : BitVec 9) (h : s.open_ req .core = true) : exec (.mbxSend req h2c len) s =
    .next ((s.withReply (.posted req.code)).mbxCtrlWrite req h2c (len.toNat + 2 ^ 31)) :=
  congrArg Host.Outcome.next (State.gate_posted h _ _)

theorem exec_mbxRelease (h : s.open_ req .core = true) : exec (.mbxRelease req h2c) s =
    .next ((s.withReply (.posted req.code)).mbxCtrlWrite req h2c (s.rd .core (mbxLen h2c))) :=
  congrArg Host.Outcome.next (State.gate_posted h _ _)

theorem mbxWord_len (len : BitVec 9) : bits (len.toNat + 2 ^ 31) 8 0 = len.toNat := by
  have := len.isLt
  simp only [bits]
  omega

theorem mbxWord_full (len : BitVec 9) : bit (len.toNat + 2 ^ 31) 31 = true := by
  have := len.isLt
  rw [bit, Nat.add_comm, Nat.testBit_two_pow_add_eq, Nat.testBit_lt_two_pow (by omega)]
  rfl

/-- The mailbox refuses what its sender may not put down (R98). -/
theorem State.mbxCtrlWrite_busy {data : Nat} (hs : Req.hostSide req = h2c) (hf : s.on .core (mbxFull h2c) = true) :
    s.mbxCtrlWrite req h2c data = s.errAt .core 0x2C (if h2c then 0xA0 else 0xA4) req.code := by
  unfold State.mbxCtrlWrite
  dsimp only
  rw [if_pos (beq_iff_eq.2 hs), if_pos hf]

theorem State.mbxCtrlWrite_long {len : BitVec 9} (hs : Req.hostSide req = h2c) (hf : s.on .core (mbxFull h2c) = false)
    (hl : 256 < len.toNat) : s.mbxCtrlWrite req h2c (len.toNat + 2 ^ 31) =
      s.errAt .core Err.badValue (if h2c then 0xA0 else 0xA4) req.code := by
  unfold State.mbxCtrlWrite
  dsimp only
  rw [if_pos (beq_iff_eq.2 hs), if_neg (Bool.eq_false_iff.1 hf), mbxWord_full, mbxWord_len, if_neg (by decide), if_pos hl]

theorem State.mbxCtrlWrite_sends {len : BitVec 9} (hs : Req.hostSide req = h2c) (hf : s.on .core (mbxFull h2c) = false)
    (hl : len.toNat ≤ 256) : s.mbxCtrlWrite req h2c (len.toNat + 2 ^ 31) = s.mbxSend h2c len.toNat := by
  unfold State.mbxCtrlWrite
  dsimp only
  rw [if_pos (beq_iff_eq.2 hs), if_neg (Bool.eq_false_iff.1 hf), mbxWord_full, mbxWord_len, if_neg (by decide),
    if_neg (Nat.not_lt.2 hl)]

theorem State.mbxCtrlWrite_releases {data : Nat} (hs : Req.hostSide req = !h2c) (hf : s.on .core (mbxFull h2c) = true)
    (hd : data < 2 ^ 31) : s.mbxCtrlWrite req h2c data = s.mbxRelease h2c := by
  have hb : bit data 31 = false := Nat.testBit_lt_two_pow hd
  unfold State.mbxCtrlWrite
  dsimp only
  rw [if_neg (by rw [hs]; cases h2c <;> decide), hf, hb, if_pos (by rfl)]

/-! ### A message put down, and one taken -/

theorem State.mbxSend_only (s : State) (h2c : Bool) (len : Nat) :
    OnlyFields [(.core, mbxLen h2c, 0), (.core, mbxFull h2c, 0), (.core, HDR.PG_EVT_RAW, 0)] s (s.mbxSend h2c len) :=
  OnlyFields.raise _ _ (OnlyFields.wr _ _ _ _ (OnlyFields.wr _ _ _ _ (OnlyFields.refl _ s) (by simp)) (by simp)) (by simp)

theorem State.mbxSend_full (s : State) (h2c : Bool) (len : Nat) : (s.mbxSend h2c len).on .core (mbxFull h2c) = true := by
  cases h2c <;> (rw [State.on, State.mbxSend, State.raise_rd_apart _ _ _ _ rfl, State.wr_rd_same]; rfl)

theorem State.mbxSend_len (s : State) (h2c : Bool) {len : Nat} (hl : len < 512) :
    (s.mbxSend h2c len).rd .core (mbxLen h2c) = len := by
  cases h2c <;>
    (rw [State.mbxSend, State.raise_rd_apart _ _ _ _ rfl, State.wr_rd_apart _ _ _ _ rfl, State.wr_rd_same]
     exact Nat.mod_eq_of_lt hl)

theorem State.mbxSend_event (s : State) (h2c : Bool) (len : Nat) :
    (s.mbxSend h2c len).event .core (mbxEvent h2c) = true :=
  State.raise_event_same _ _ _ (by cases h2c <;> decide)

theorem State.mbxRelease_only (s : State) (h2c : Bool) :
    OnlyFields [(.core, mbxFull h2c, 0), (.core, HDR.PG_EVT_RAW, 0)] s (s.mbxRelease h2c) :=
  OnlyFields.raise _ _ (OnlyFields.wr _ _ _ _ (OnlyFields.refl _ s) (by simp)) (by simp)

theorem State.mbxRelease_full (s : State) (h2c : Bool) : (s.mbxRelease h2c).on .core (mbxFull h2c) = false := by
  cases h2c <;> (rw [State.on, State.mbxRelease, State.raise_rd_apart _ _ _ _ rfl, State.wr_rd_same]; rfl)

theorem State.mbxRelease_event (s : State) (h2c : Bool) :
    (s.mbxRelease h2c).event .core (mbxEvent h2c + 1) = true :=
  State.raise_event_same _ _ _ (by cases h2c <;> decide)

/-! ### The clauses of the mailbox -/

theorem mbxSend_sends {len : BitVec 9} (h : s.open_ req .core = true) (hs : Req.hostSide req = h2c)
    (hf : s.on .core (mbxFull h2c) = false) (hl : len.toNat ≤ 256) :
    ∃ t, exec (.mbxSend req h2c len) s = .next t ∧ t.on .core (mbxFull h2c) = true ∧
      t.rd .core (mbxLen h2c) = len.toNat ∧ t.event .core (mbxEvent h2c) = true ∧
      OnlyFields [(.core, mbxLen h2c, 0), (.core, mbxFull h2c, 0), (.core, HDR.PG_EVT_RAW, 0)]
        { s with reply := .posted req.code } t :=
  ⟨_, (exec_mbxSend len h).trans (congrArg _ (State.mbxCtrlWrite_sends hs hf hl)), State.mbxSend_full _ _ _,
    State.mbxSend_len _ _ len.isLt, State.mbxSend_event _ _ _, State.mbxSend_only _ _ _⟩

theorem mbxRelease_releases (h : s.open_ req .core = true) (hs : Req.hostSide req = !h2c)
    (hf : s.on .core (mbxFull h2c) = true) (hl : s.rd .core (mbxLen h2c) ≤ 256) :
    ∃ t, exec (.mbxRelease req h2c) s = .next t ∧ t.on .core (mbxFull h2c) = false ∧
      t.event .core (mbxEvent h2c + 1) = true ∧
      OnlyFields [(.core, mbxFull h2c, 0), (.core, HDR.PG_EVT_RAW, 0)] { s with reply := .posted req.code } t :=
  ⟨_, (exec_mbxRelease h).trans (congrArg _ (State.mbxCtrlWrite_releases hs hf (Nat.lt_of_le_of_lt hl (by decide)))),
    State.mbxRelease_full _ _, State.mbxRelease_event _ _, State.mbxRelease_only _ _⟩

end Sys2Proof.Machine
end

section
/-! PROOFS. The messages that the shipped firmware answers (R417). -/

namespace Sys2Proof.Machine

open Reg

variable {s : State}

/-! ### The words of a reply -/

/-- The words of a message to the host are written one after the other. -/
def State.putWords (s : State) (l : List Nat) : State :=
  s.each (l.zip (List.range l.length)) fun t e => t.wr .core CORE.MBX_C2H e.1 e.2

/-- Word 0 of a reply: the type of the request with its top bit set, and its SEQ. -/
def State.replyHead (s : State) : Nat :=
  (s.msgType + 0x8000) % 65536 + 65536 * bits (s.rd .core CORE.MBX_H2C 0) 31 16

theorem State.fwReply_eq (s : State) (status : Nat) (words : List Nat) : s.fwReply status words =
    ((s.mbxRelease true).putWords (s.replyHead :: status :: words)).mbxSend false (4 * (words.length + 2)) := rfl

/-- The copies of the first n words of the mailbox to the host. -/
def mbxCopies (n : Nat) : List (Row × Nat) := (List.range n).map fun i => (CORE.MBX_C2H, i)

theorem State.putWords_eq (s : State) (l : List Nat) :
    s.putWords l = s.each (mbxCopies l.length) fun u e => u.wr .core e.1 (l.getD e.2 0) e.2 := by
  have hz : l.zip (List.range l.length) = (List.range l.length).map fun i => (l.getD i 0, i) := by
    refine List.ext_getElem (by simp) fun i h1 h2 => ?_
    have hi : i < l.length := by simpa using h2
    simp [hi]
  simp only [State.putWords, State.each, mbxCopies, hz, List.foldl_map]

theorem mbxCopies_apart (n : Nat) :
    (mbxCopies n).Pairwise fun x y => Row.key .core x.1 x.2 ≠ Row.key .core y.1 y.2 := by
  rw [mbxCopies, List.pairwise_map]
  refine List.pairwise_lt_range.imp fun hab => ?_
  simp only [Row.key, CORE.MBX_C2H]
  omega

theorem State.putWords_word (s : State) {l : List Nat} {k : Nat} (hk : k < l.length) :
    (s.putWords l).rd .core CORE.MBX_C2H k = l[k] % 2 ^ 32 := by
  have hm : (CORE.MBX_C2H, k) ∈ mbxCopies l.length := List.mem_map.2 ⟨k, List.mem_range.2 hk, rfl⟩
  rw [s.putWords_eq, (State.each_wr_rd .core _ _ (mbxCopies_apart _) s).2 _ hm]
  simp [hk, CORE.MBX_C2H]

/-- What stands in the page before the words keeps its value. -/
theorem State.putWords_rd (s : State) (l : List Nat) {r : Row} {i : Nat} (h : Row.place r i < 0x2800) :
    (s.putWords l).rd .core r i = s.rd .core r i := by
  rw [s.putWords_eq]
  refine (State.each_wr_rd .core _ _ (mbxCopies_apart _) s).1 _ _ _ fun y hy he => ?_
  obtain ⟨k, -, rfl⟩ := List.mem_map.1 hy
  simp only [Row.key, Row.place, CORE.MBX_C2H] at h he
  omega

/-- The fields that a reply changes (R98, R417). -/
def replyFields : List FieldAt :=
  [(.core, CORE.MBX_H2C_CTRL_FULL, 0), (.core, CORE.MBX_C2H_CTRL_LEN, 0), (.core, CORE.MBX_C2H_CTRL_FULL, 0),
    (.core, HDR.PG_EVT_RAW, 0)] ++ (List.range 64).map fun k => (.core, CORE.MBX_C2H, k)

theorem replyFields_word {k : Nat} (hk : k < 64) : (.core, CORE.MBX_C2H, k) ∈ replyFields :=
  List.mem_append_right _ (List.mem_map.2 ⟨k, List.mem_range.2 hk, rfl⟩)

theorem replyFields_within : FieldAt.within [.core] replyFields := by
  intro f hf
  rcases List.mem_append.1 hf with hf | hf
  · simp only [List.mem_cons, List.not_mem_nil, or_false] at hf
    obtain rfl | rfl | rfl | rfl := hf <;> exact ⟨by simp, rfl⟩
  · obtain ⟨k, hk, rfl⟩ := List.mem_map.1 hf
    refine ⟨by simp, ?_⟩
    have := List.mem_range.1 hk
    simp only [Row.inPage, Row.place, CORE.MBX_C2H, Nat.ble_eq]
    omega

theorem State.putWords_only (s : State) {l : List Nat} (hl : l.length ≤ 64) : OnlyFields replyFields s (s.putWords l) := by
  have h (m : List (Nat × Nat)) (hm : ∀ e ∈ m, e.2 < 64) (u : State) :
      OnlyFields replyFields u (u.each m fun t e => t.wr .core CORE.MBX_C2H e.1 e.2) := by
    induction m generalizing u with
    | nil => exact OnlyFields.refl _ u
    | cons e m ih =>
      rw [State.each_cons]
      exact (OnlyFields.wr _ _ _ _ (OnlyFields.refl _ u) (replyFields_word (hm e (List.mem_cons_self ..)))).trans
        (ih (fun x hx => hm x (List.mem_cons_of_mem _ hx)) _)
  exact h _ (fun e he => Nat.lt_of_lt_of_le (List.mem_range.1 (List.of_mem_zip he).2) hl) s

/-! ### The reply -/

/-- From s to t the firmware has taken the message and put down a reply (R98, R417). -/
structure Replied (s t : State) (status : Nat) (words : List Nat) : Prop where
  taken : t.on .core CORE.MBX_H2C_CTRL_FULL = false
  sent : t.on .core CORE.MBX_C2H_CTRL_FULL = true
  head : t.rd .core CORE.MBX_C2H 0 = s.replyHead
  status : t.rd .core CORE.MBX_C2H 1 = status % 2 ^ 32
  rest : ∀ k (h : k < words.length), t.rd .core CORE.MBX_C2H (k + 2) = words[k] % 2 ^ 32
  len : t.rd .core CORE.MBX_C2H_CTRL_LEN = 4 * (words.length + 2)
  takenEvent : t.event .core 14 = true
  sentEvent : t.event .core 15 = true
  only : OnlyFields replyFields s t

theorem State.mbxSend_word (s : State) (len : Nat) {k : Nat} (hk : k < 64) :
    (s.mbxSend false len).rd .core CORE.MBX_C2H k = s.rd .core CORE.MBX_C2H k := by
  refine (s.mbxSend_only false len).fields.rd_off .core CORE.MBX_C2H k ?_
  have hp : ∀ k < 64, FieldAt.off [(.core, mbxLen false, 0), (.core, mbxFull false, 0), (.core, HDR.PG_EVT_RAW, 0)]
      CORE.MBX_C2H k = true := by decide
  exact hp k hk

theorem State.replyHead_lt (s : State) : s.replyHead < 2 ^ 32 := by
  unfold State.replyHead bits
  omega

theorem State.fwReply_replied (s : State) (status : Nat) {words : List Nat} (hl : words.length ≤ 62) :
    Replied s (s.fwReply status words) status words := by
  let u := s.mbxRelease true
  let v := u.putWords (s.replyHead :: status :: words)
  have hlen : (s.replyHead :: status :: words).length ≤ 64 := by simp only [List.length_cons]; omega
  have hword {k : Nat} (hk : k < words.length + 2) :
      (s.fwReply status words).rd .core CORE.MBX_C2H k = (s.replyHead :: status :: words)[k] % 2 ^ 32 := by
    rw [s.fwReply_eq, State.mbxSend_word _ _ (Nat.lt_of_lt_of_le hk hlen)]
    exact u.putWords_word hk
  have hv14 : v.event .core 14 = true := by
    rw [State.event, u.putWords_rd _ (by decide)]
    exact s.mbxRelease_event true
  rw [s.fwReply_eq]
  refine ⟨?_, v.mbxSend_full false _, ?_, hword (k := 1) (by omega), fun k hk => hword (k := k + 2) (by omega),
    v.mbxSend_len false (len := 4 * (words.length + 2)) (by omega), ?_, v.mbxSend_event false _, ?_⟩
  · rw [State.on, (v.mbxSend_only false _).fields.rd_off _ _ _ rfl, u.putWords_rd _ (by decide)]
    exact s.mbxRelease_full true
  · exact (hword (k := 0) (by omega)).trans (Nat.mod_eq_of_lt s.replyHead_lt)
  · exact State.raise_event_of _ _ _ _ _ (by
      rw [State.wr_event_apart _ _ _ _ _ rfl, State.wr_event_apart _ _ _ _ _ rfl]; exact hv14) (by decide)
  · have hr : ∀ f ∈ [(Page.core, mbxFull true, 0), (.core, HDR.PG_EVT_RAW, 0)], f ∈ replyFields := by
      simp [replyFields, mbxFull]
    have hs : ∀ f ∈ [(Page.core, mbxLen false, 0), (.core, mbxFull false, 0), (.core, HDR.PG_EVT_RAW, 0)],
        f ∈ replyFields := by
      simp [replyFields, mbxFull, mbxLen]
    exact (((s.mbxRelease_only true).mono hr).trans (u.putWords_only hlen)).trans ((v.mbxSend_only false _).mono hs)

theorem Replied.pages {t : State} {status : Nat} {words : List Nat} (h : Replied s t status words) : OtherPages [.core] s t :=
  OtherPages.of_untouched h.only.fields replyFields_within

theorem Replied.cores {t : State} {status : Nat} {words : List Nat} (h : Replied s t status words) : t.cores = s.cores := by
  rw [h.only.rest]

/-- Word 0 of the reply to a message of a known type. -/
theorem State.replyHead_of {type : Nat} (h : s.msgType = type) (ht : type < 0x8000) :
    s.replyHead = type + 0x8000 + bits (s.rd .core CORE.MBX_H2C 0) 31 16 * 2 ^ 16 := by
  rw [State.replyHead, h]
  omega

/-! ### The firmware's answers -/

theorem State.fwAnswer_known {type : Nat} {act : State → State} (hr : s.fwReady = true) (ht : s.msgType = type) :
    s.fwAnswer type act = act s := by
  unfold State.fwAnswer
  rw [if_pos hr]
  exact if_pos ht

theorem State.fwAnswer_unknown {type : Nat} {act : State → State} (hr : s.fwReady = true) (ht : s.msgType ≠ type)
    (h1 : s.msgType ≠ 0x0001) (h2 : s.msgType ≠ 0x0020) (h3 : s.msgType ≠ 0x0021) :
    s.fwAnswer type act = s.fwReply 0x062E [] := by
  unfold State.fwAnswer
  rw [if_pos hr]
  dsimp only
  rw [if_neg ht, if_neg (by simp [h1, h2, h3])]

theorem exec_hello (s : State) : exec .hello s =
    .next (s.fwAnswer 0x0001 fun s => s.fwReply 0 [Config.firmwareVersion.toNat, s.bootStat]) := rfl

theorem hello_answered (hr : s.fwReady = true) (ht : s.msgType = 0x0001) :
    ∃ t, exec .hello s = .next t ∧ t.on .core CORE.MBX_H2C_CTRL_FULL = false ∧ t.on .core CORE.MBX_C2H_CTRL_FULL = true ∧
      t.rd .core CORE.MBX_C2H 0 = 0x8001 + bits (s.rd .core CORE.MBX_H2C 0) 31 16 * 2 ^ 16 ∧
      t.rd .core CORE.MBX_C2H 1 = 0 ∧ t.rd .core CORE.MBX_C2H 2 = Config.firmwareVersion.toNat ∧
      t.rd .core CORE.MBX_C2H 3 = s.bootStat % 2 ^ 32 ∧ t.rd .core CORE.MBX_C2H_CTRL_LEN = 16 ∧
      t.event .core 14 = true ∧ t.event .core 15 = true ∧ OtherPages [.core] s t := by
  have h := s.fwReply_replied 0 (words := [Config.firmwareVersion.toNat, s.bootStat]) (by simp)
  refine ⟨_, (exec_hello s).trans (congrArg _ (State.fwAnswer_known hr ht)), h.taken, h.sent,
    h.head.trans (State.replyHead_of ht (by decide)), h.status,
    (h.rest 0 (by simp)).trans ?_, h.rest 1 (by simp), h.len, h.takenEvent, h.sentEvent, h.pages⟩
  exact Nat.mod_eq_of_lt Config.firmwareVersion.isLt

theorem hello_unknown (hr : s.fwReady = true) (h1 : s.msgType ≠ 0x0001) (h2 : s.msgType ≠ 0x0020) (h3 : s.msgType ≠ 0x0021) :
    ∃ t, exec .hello s = .next t ∧ t.rd .core CORE.MBX_C2H 1 = 0x062E ∧ t.on .core CORE.MBX_C2H_CTRL_FULL = true := by
  have h := s.fwReply_replied 0x062E (words := []) (by decide)
  exact ⟨_, (exec_hello s).trans (congrArg _ (State.fwAnswer_unknown hr h1 h1 h2 h3)), h.status, h.sent⟩

/-- What a PTP_START asks for (R417). -/
def State.ptpAsked (s : State) : PtpSet :=
  let w := s.rd .core CORE.MBX_H2C 1
  { port := bits w 0 0, profile := bits w 1 1, transport := bits w 3 2, domain := bits w 15 8
    mac := s.rd .core CORE.MBX_H2C 2 + s.rd .core CORE.MBX_H2C 3 % 65536 * 2 ^ 32 }

/-- The firmware runs PTP as asked. -/
def State.ptpRuns (s : State) : State := { s with cores := { s.cores with ptp := some s.ptpAsked } }

theorem exec_ptpStart (hr : s.fwReady = true) (ht : s.msgType = 0x0020) : exec .ptpStart s =
    .next ((s.ptpRuns.when s.cores.ptp.isSome fun t =>
      t.servoCtrl (t.on .tim TIM.SERVO_CTRL_EN) (t.rd .tim TIM.SERVO_CTRL_EN + 2)).fwReply 0 []) :=
  congrArg Host.Outcome.next (State.fwAnswer_known hr ht)

theorem ptpStart_starts (hr : s.fwReady = true) (ht : s.msgType = 0x0020) (hp : s.cores.ptp = none) :
    ∃ t, exec .ptpStart s = .next t ∧
      t.rd .core CORE.MBX_C2H 0 = 0x8020 + bits (s.rd .core CORE.MBX_H2C 0) 31 16 * 2 ^ 16 ∧
      t.rd .core CORE.MBX_C2H 1 = 0 ∧ t.rd .core CORE.MBX_C2H_CTRL_LEN = 8 ∧
      (t.cores.ptp.map fun p => (p.port, p.domain)) =
        some (bits (s.rd .core CORE.MBX_H2C 1) 0 0, bits (s.rd .core CORE.MBX_H2C 1) 15 8) ∧ OtherPages [.core] s t := by
  have h := s.ptpRuns.fwReply_replied 0 (words := []) (by decide)
  have he : exec .ptpStart s = .next (s.ptpRuns.fwReply 0 []) := by
    rw [exec_ptpStart hr ht, hp]
    rfl
  refine ⟨_, he, h.head.trans (State.replyHead_of ht (by decide)), h.status, h.len, ?_, h.pages⟩
  rw [h.cores]
  rfl

/-- A restart of the servo that runs (R325). -/
theorem State.servoCtrl_rearms (he : s.on .tim TIM.SERVO_CTRL_EN = true) (hf : s.servo ≠ svFree) :
    s.servoCtrl (s.on .tim TIM.SERVO_CTRL_EN) (s.rd .tim TIM.SERVO_CTRL_EN + 2) = s.setPage .tim svStep := by
  have h1 : s.rd .tim TIM.SERVO_CTRL_EN = 1 := by simpa [State.on] using he
  have hb : (bit (1 + 2) 1 && s.servo != svFree) = true := by
    rw [Bool.and_eq_true]
    exact ⟨by decide, bne_iff_ne.2 hf⟩
  unfold State.servoCtrl
  dsimp only
  simp only [he, h1, Bool.not_true, Bool.and_false, Bool.false_eq_true, if_false, if_pos hb]

theorem ptpStart_restarts (hr : s.fwReady = true) (ht : s.msgType = 0x0020) (hp : s.cores.ptp.isSome = true)
    (he : s.on .tim TIM.SERVO_CTRL_EN = true) (hf : s.servo ≠ svFree) :
    ∃ t, exec .ptpStart s = .next t ∧ t.servo = svStep ∧ t.rd .core CORE.MBX_C2H 1 = 0 ∧ OtherPages [.core, .tim] s t := by
  let u := s.ptpRuns.setPage .tim svStep
  have hw : exec .ptpStart s = .next (u.fwReply 0 []) := by
    rw [exec_ptpStart hr ht, hp]
    exact congrArg (fun v : State => Host.Outcome.next (v.fwReply 0 [])) (State.servoCtrl_rearms (s := s.ptpRuns) he hf)
  have h := u.fwReply_replied 0 (words := []) (by decide)
  have hu : OtherPages [.tim] s u := OtherPages.of_untouched
    (Untouched.setPage (fs := [(.tim, HDR.PG_STAT_STATE, 0), (.tim, HDR.PG_EVT_RAW, 0)]) .tim svStep
      (Untouched.refl _ s.ptpRuns) (by simp) (by simp)) (by simp +decide)
  refine ⟨_, hw, ?_, h.status, (hu.mono (by simp)).trans (h.pages.mono (by simp))⟩
  rw [State.servo, h.pages.rd (by simp) rfl]
  exact State.setPage_rd_state _ _ _ (by decide)

theorem exec_ptpState (s : State) : exec .ptpState s = .next (s.fwAnswer 0x0021 fun s => s.fwReply 0 [s.servo,
    unsigned 64 (s.rdS .tim TIM.LAST_OFS) % 2 ^ 32, unsigned 64 (s.rdS .tim TIM.LAST_OFS) / 2 ^ 32]) := rfl

theorem unsigned_lt (w : Nat) (i : Int) : unsigned w i < 2 ^ w := by
  have hp : (0 : Int) < ((2 ^ w : Nat) : Int) := by exact_mod_cast Nat.two_pow_pos w
  exact (Int.toNat_lt (Int.emod_nonneg i hp.ne')).2 (Int.emod_lt_of_pos i hp)

theorem ptpState_answered (hr : s.fwReady = true) (ht : s.msgType = 0x0021) :
    ∃ t, exec .ptpState s = .next t ∧
      t.rd .core CORE.MBX_C2H 0 = 0x8021 + bits (s.rd .core CORE.MBX_H2C 0) 31 16 * 2 ^ 16 ∧
      t.rd .core CORE.MBX_C2H 1 = 0 ∧ t.rd .core CORE.MBX_C2H 2 = s.servo % 2 ^ 32 ∧
      t.rd .core CORE.MBX_C2H 3 = unsigned 64 (s.rdS .tim TIM.LAST_OFS) % 2 ^ 32 ∧
      t.rd .core CORE.MBX_C2H 4 = unsigned 64 (s.rdS .tim TIM.LAST_OFS) / 2 ^ 32 ∧ OtherPages [.core] s t := by
  have h := s.fwReply_replied 0 (words := [s.servo, unsigned 64 (s.rdS .tim TIM.LAST_OFS) % 2 ^ 32,
    unsigned 64 (s.rdS .tim TIM.LAST_OFS) / 2 ^ 32]) (by simp)
  refine ⟨_, (exec_ptpState s).trans (congrArg _ (State.fwAnswer_known hr ht)), h.head.trans (State.replyHead_of ht (by decide)),
    h.status, h.rest 0 (by simp), (h.rest 1 (by simp)).trans (Nat.mod_mod _ _), (h.rest 2 (by simp)).trans ?_, h.pages⟩
  exact Nat.mod_eq_of_lt (Nat.div_lt_of_lt_mul (unsigned_lt 64 _))

end Sys2Proof.Machine

namespace Sys2Proof

open Machine Reg

/-- Settles O41: a write of a CTRL register by the side it stands on, and a reply of the firmware word by word. -/
theorem mailbox : Obligations.Mailbox :=
  ⟨fun _ _ _ _ h hs hf hl => mbxSend_sends h hs hf hl,
    fun _ _ _ _ h hs hf => refused_posted h (by decide) rfl (State.mbxCtrlWrite_busy hs hf),
    fun _ _ _ _ h hs hf hl => refused_posted h (by decide) rfl (State.mbxCtrlWrite_long hs hf hl),
    fun _ _ _ h hs hf hl => mbxRelease_releases h hs hf hl,
    fun _ hr ht => hello_answered hr ht,
    fun _ hr ht hp => ptpStart_starts hr ht hp,
    fun _ hr ht hp he hf => ptpStart_restarts hr ht hp he hf,
    fun _ hr ht => ptpState_answered hr ht,
    fun _ hr h1 h2 h3 => hello_unknown hr h1 h2 h3⟩

end Sys2Proof
end

section
/-! PROOFS. `BOOT_CMD.RESTART` (R94) in a state whose register file holds more than a field can: the drop of the presets (R138) goes
through the 32 bits of each PRESET_VALID register, and leaves what stands above them. -/

namespace Sys2Proof.Machine

open Reg

/-- A failed boot, with bit 32 of the 32-bit field `CDC.PRESET_VALID[0]` set. -/
def presetWide : State :=
  { State.reset.wr .core CORE.BOOT_STAT_STAGE 7 with
    power := { dev := .idle }
    regs := Regs.insert (State.reset.wr .core CORE.BOOT_STAT_STAGE 7).regs (CDC.PRESET_VALID.key .cdc 0) (2 ^ 32) }

/-- None of the 256 VALID bits is set, so the restart drops no preset and the register keeps its bit 32. -/
theorem bootRestart_presetWide {t : State} (h : exec (.bootRestart .host) presetWide = .next t) :
    t.rd .cdc CDC.PRESET_VALID 0 = 2 ^ 32 := by
  have ht : presetWide.gate .host .core 0x44 (fun s => s.bootRestart .host) = t := Host.Outcome.next.inj h
  rw [← ht]
  decide +kernel

end Sys2Proof.Machine

namespace Sys2Proof

open Machine Reg

/-- Refutes O39: the clause that RESTART leaves every PRESET_VALID register 0 is said of every state, and no premise keeps a stored
value within the field's width. With bit 32 of PRESET_VALID[0] stored the register still reads 2 ^ 32 after the restart. -/
theorem not_boot : ¬ Obligations.Boot := by
  rintro ⟨-, -, -, -, -, -, -, -, -, hrestart, -⟩
  obtain ⟨t, hexec, -, -, -, hpresets, -⟩ := hrestart presetWide .host (by decide +kernel) (Or.inl (by decide +kernel)) (by decide)
  have hzero := hpresets 0 (by decide)
  rw [bootRestart_presetWide hexec] at hzero
  exact absurd hzero (by decide)

end Sys2Proof
end

section
/-! PROOFS. What the entry into FAULT leaves of the cause that brought it about: the event of watchdog 4 on CORE and its bit of
`PWR.FAULT_CAUSE` (R63, R68, R99). -/

namespace Sys2Proof.Machine

open Reg

/-- From s to t the event of watchdog 4 is not taken back, and its bit of FAULT_CAUSE reads as before. -/
structure CauseKept (s t : State) : Prop where
  event : s.event .core 12 = true → t.event .core 12 = true
  cause : t.rd .pwr PWR.FAULT_CAUSE_SAFE_WDT = s.rd .pwr PWR.FAULT_CAUSE_SAFE_WDT

variable {s t u : State}

theorem CauseKept.refl (s : State) : CauseKept s s := ⟨id, rfl⟩

theorem CauseKept.trans (h : CauseKept s t) (k : CauseKept t u) : CauseKept s u :=
  ⟨fun e => k.event (h.event e), k.cause.trans h.cause⟩

/-- A change of other parts of the state. -/
theorem CauseKept.parts (h : CauseKept s t) (hr : u.regs = t.regs) : CauseKept s u :=
  h.trans ⟨fun e => by rwa [State.event, State.rd_congr hr], State.rd_congr hr _ _ _⟩

/-! ### Rules -/

/-- A page that stands above PWR and CORE in the address space. -/
def farPage : Page → Bool
  | .sys => false
  | .pwr => false
  | .aon => false
  | .pmb => false
  | .clk => false
  | .fab => false
  | .core => false
  | _ => true

theorem farPage_base {p : Page} (h : farPage p = true) : 0x7000 ≤ p.base := by
  cases p <;> simp [farPage] at h <;> simp [Page.base, Page.level, Page.slot, Page.inst, Page.tt] <;> omega

theorem farPage_key {p q : Page} (h : farPage p = true) (r : Row) (i : Nat) {x : Row} (hx : x.key q 0 < 0x38000) :
    r.key p i ≠ x.key q 0 := by
  have := farPage_base h
  rw [Row.key]
  omega

/-- A copy of a field that is neither the events of CORE nor the bit of FAULT_CAUSE. -/
def causeApart (p : Page) (r : Row) (i : Nat) : Bool :=
  match p with
  | .core => Row.apart r i HDR.PG_EVT_RAW 0
  | .pwr => Row.apart r i PWR.FAULT_CAUSE_SAFE_WDT 0
  | p => farPage p || Row.inPage r i

theorem causeApart_far {p : Page} (h : farPage p = true) (r : Row) (i : Nat) : causeApart p r i = true := by
  unfold causeApart
  split
  · cases h
  · cases h
  · rw [h, Bool.true_or]

theorem Row.inPage_of_apart {r x : Row} {i j : Nat} (h : Row.apart r i x j = true) : Row.inPage r i = true := by
  simp only [Row.apart, Bool.and_eq_true] at h
  exact h.1.1

theorem State.wr_rd_cause (s : State) {p : Page} {r : Row} {i : Nat} (v : Nat) (h : causeApart p r i = true) :
    (s.wr p r v i).rd .core HDR.PG_EVT_RAW = s.rd .core HDR.PG_EVT_RAW ∧
      (s.wr p r v i).rd .pwr PWR.FAULT_CAUSE_SAFE_WDT = s.rd .pwr PWR.FAULT_CAUSE_SAFE_WDT := by
  unfold causeApart at h
  split at h
  · exact ⟨State.wr_rd_apart _ _ _ _ h, State.wr_rd_page _ _ (by simp) (Row.inPage_of_apart h) rfl⟩
  · exact ⟨State.wr_rd_page _ _ (by simp) (Row.inPage_of_apart h) rfl, State.wr_rd_apart _ _ _ _ h⟩
  · next hcore hpwr =>
    rcases Bool.or_eq_true_iff.1 h with hf | hi
    · exact ⟨State.rd_wr_ne _ (farPage_key hf _ _ (by decide)), State.rd_wr_ne _ (farPage_key hf _ _ (by decide))⟩
    · exact ⟨State.wr_rd_page _ _ hcore hi rfl, State.wr_rd_page _ _ hpwr hi rfl⟩

theorem CauseKept.wr {p : Page} {r : Row} {i v : Nat} (h : CauseKept s t) (hp : causeApart p r i = true) :
    CauseKept s (t.wr p r v i) := by
  obtain ⟨hevent, hcause⟩ := t.wr_rd_cause v hp
  exact h.trans ⟨fun e => by rwa [State.event, hevent], hcause⟩

theorem CauseKept.raise (h : CauseKept s t) (p : Page) (n : Nat) : CauseKept s (t.raise p n) :=
  h.trans ⟨fun e => State.raise_event_of _ _ _ _ _ e (by decide), State.raise_rd_apart _ _ _ _ rfl⟩

theorem CauseKept.ite {q : Prop} [Decidable q] (h : CauseKept s t) (k : CauseKept s u) : CauseKept s (if q then t else u) := by
  split
  · exact h
  · exact k

theorem CauseKept.when {b : Bool} {f : State → State} (h : CauseKept s t) (hf : ∀ u, CauseKept s u → CauseKept s (f u)) :
    CauseKept s (t.when b f) := CauseKept.ite (hf t h) h

theorem CauseKept.each {α : Type} {l : List α} {f : State → α → State} (h : CauseKept s t)
    (hf : ∀ u x, x ∈ l → CauseKept s u → CauseKept s (f u x)) : CauseKept s (t.each l f) := by
  induction l generalizing t with
  | nil => exact h
  | cons x l ih =>
    exact ih (hf t x (List.mem_cons_self ..) h) fun u y hy => hf u y (List.mem_cons_of_mem _ hy)

theorem CauseKept.err {p : Page} {nn info : Nat} (h : CauseKept s t) (hp : farPage p = true) :
    CauseKept s (t.err p nn info) := by
  have hw {u : State} {r : Row} {v i : Nat} (hu : CauseKept s u) : CauseKept s (u.wr p r v i) := hu.wr (causeApart_far hp r i)
  exact (CauseKept.ite (hw h) (hw (hw (hw (hw (hw h)))))).raise p 0

theorem CauseKept.errOpen {p : Page} {nn : Nat} (h : CauseKept s t) (hp : farPage p = true) : CauseKept s (t.errOpen p nn) :=
  CauseKept.err (t := t.draw.2) (h.parts rfl) hp

theorem CauseKept.setPage {p : Page} {v : Nat} (h : CauseKept s t) (hp : farPage p = true) : CauseKept s (t.setPage p v) :=
  CauseKept.ite h ((h.wr (causeApart_far hp _ _)).raise p 6)

theorem CauseKept.setFault {p : Page} {b : Bool} (h : CauseKept s t) (hp : causeApart p HDR.PG_STAT_FAULT 0 = true) :
    CauseKept s (t.setFault p b) := (h.wr hp).when fun _ hu => hu.raise p 5

theorem CauseKept.resetPage {p : Page} (h : CauseKept s t) (hp : farPage p = true) : CauseKept s (t.resetPage p) := by
  have hrd {q : Page} {x : Row} (hx : x.key q 0 < 0x38000) : (t.resetPage p).rd q x = t.rd q x :=
    Regs.get_clear (Or.inl (by have := farPage_base hp; omega))
  exact h.trans ⟨fun e => by rwa [State.event, hrd (by decide)], hrd (by decide)⟩

theorem CauseKept.only {fs : List FieldAt} (h : CauseKept s t) (hu : OnlyFields fs t u)
    (hf : ∀ f ∈ fs, farPage f.1 = true ∧ Row.inPage f.2.1 f.2.2 = true) : CauseKept s u := by
  have hrd {q : Page} {x : Row} (hq : farPage q = false) (hx : Row.inPage x 0 = true) : u.rd q x = t.rd q x :=
    hu.fields.rd_clear fun f hm => Or.inr ⟨fun e => by simp [← e, (hf f hm).1] at hq, (hf f hm).2, hx⟩
  exact h.trans ⟨fun e => by rwa [State.event, hrd rfl rfl], hrd rfl rfl⟩

/-! ### Calibration runs, lanes and the device state -/

theorem calPage_far {item inst : Nat} {p : Page} (h : calPage item inst = some p) : farPage p = true := by
  unfold calPage at h
  split_ifs at h <;> cases h <;> rfl

theorem CauseKept.calLet {item inst : Nat} (h : CauseKept s t) : CauseKept s (t.calLet item inst) := by
  unfold State.calLet
  split
  · next hp => exact h.wr (causeApart_far (calPage_far hp) _ _)
  · exact h

theorem CauseKept.calAbort {f : CalRun → Bool} (h : CauseKept s t) : CauseKept s (t.calAbort f) := by
  unfold State.calAbort
  refine CauseKept.each (h.parts rfl) fun u r _ hu => ?_
  have hlet : CauseKept s ((u.bump .cal CAL.ABORT_CNT).calLet r.item r.inst) := CauseKept.calLet (hu.wr rfl)
  dsimp only
  split
  · next hp => exact hlet.wr (causeApart_far (calPage_far hp) _ _)
  · exact hlet

theorem CauseKept.calLeave {l : Lane} {st : LaneState} (h : CauseKept s t) : CauseKept s (t.calLeave l st) := by
  unfold State.calLeave
  split
  · exact h.calAbort
  · exact h.calAbort
  · exact h.calAbort
  · exact h.calAbort
  · exact h

theorem CauseKept.modLane {l : Lane} {f : LaneHw → LaneHw} (h : CauseKept s t) : CauseKept s (t.modLane l f) := h.parts rfl

theorem CauseKept.setDev {d : DevState} (h : CauseKept s t) : CauseKept s (t.setDev d) := by
  have hd : CauseKept s { t with power := { t.power with dev := d } } := h.parts rfl
  exact CauseKept.ite h ((hd.raise .pwr 6).raise .sys 6)

theorem CauseKept.settlePrint (h : CauseKept s t) : CauseKept s t.settlePrint := by
  unfold State.settlePrint
  split
  · exact CauseKept.ite h.setDev h
  · exact CauseKept.ite h.setDev h
  · exact h

theorem lanePages_far {l : Lane} {p : Page} (h : p ∈ lanePages l) : farPage p = true := by
  simp only [lanePages, List.mem_cons, List.not_mem_nil, or_false] at h
  rcases h with rfl | rfl | rfl | rfl <;> rfl

theorem CauseKept.setLane {l : Lane} {st : LaneState} (h : CauseKept s t) : CauseKept s (t.setLane l st) :=
  CauseKept.ite h (CauseKept.settlePrint (CauseKept.each h.modLane.calLeave fun _ _ hp hu =>
    (hu.raise _ 6).setFault (causeApart_far (lanePages_far hp) _ _)))

theorem CauseKept.enterHold {l : Lane} {why : Nat} (h : CauseKept s t) : CauseKept s (t.enterHold l why) := by
  have htold {u : State} (hu : CauseKept s u) : CauseKept s ((u.wr (.seq l) SEQ.STAT_HOLD_WHY why).bump (.seq l) SEQ.HOLD_CNT) :=
    (hu.wr rfl).wr rfl
  exact CauseKept.ite (CauseKept.ite (h.wr rfl) (CauseKept.setLane (((htold h.modLane).raise _ 8).when fun _ hu => hu.raise _ 14))) h

theorem CauseKept.laneRuns {l : Lane} {st : LaneState} (h : CauseKept s t) : CauseKept s (t.laneRuns l st) :=
  h.setLane.when fun _ hu => hu.enterHold

theorem CauseKept.armNext (h : CauseKept s t) : CauseKept s t.armNext := by
  unfold State.armNext
  split
  · exact h
  · exact CauseKept.ite h (h.each fun _ _ _ hu => CauseKept.ite hu.modLane.laneRuns hu)

theorem CauseKept.autoResume {l : Lane} (h : CauseKept s t) : CauseKept s (t.autoResume l) := by
  have hidle : CauseKept s ((t.wr (.seq l) SEQ.STAT_HOLD_WHY 0).setLane l .idle) := CauseKept.setLane (h.wr rfl)
  exact CauseKept.ite hidle.armNext h

theorem CauseKept.awlAborted {l : Lane} {link : Bool} (h : CauseKept s t) : CauseKept s (t.awlAborted l link) := by
  have hcount {u : State} (hu : CauseKept s u) : CauseKept s ((u.wr (.lne l) LNE.AWL_STAT_STATE 5).bump (.lne l) LNE.AWL_ABORT) :=
    (hu.wr rfl).wr rfl
  exact CauseKept.ite ((((hcount h.modLane).wr rfl).raise _ 13).when fun _ hu => hu.errOpen rfl) h

theorem CauseKept.awlStop {l : Lane} (h : CauseKept s t) : CauseKept s (t.awlStop l) := by
  have hbusy : CauseKept s ((t.awlAborted l false).lneBusy l) := h.awlAborted.wr rfl
  exact CauseKept.ite (hbusy.modLane.setLane.armNext) h

theorem CauseKept.scansEnd (h : CauseKept s t) : CauseKept s t.scansEnd := h.each fun _ _ _ hu => hu.awlStop

/-! ### The permitted rate -/

theorem CauseKept.settlePerm (h : CauseKept s t) : CauseKept s t.settlePerm := by
  have hp : CauseKept s { t with pace := { t.pace with quietFrom := t.settlePerm.pace.quietFrom } } := h.parts rfl
  exact hp.only (State.settlePerm_quiet t) (by decide)

theorem CauseKept.settleTmin {l : Lane} (h : CauseKept s t) : CauseKept s (t.settleTmin l) := by
  unfold State.settleTmin
  extract_lets n
  exact CauseKept.settlePerm (h.wr rfl)

/-! ### Commits -/

theorem CauseKept.setWins {l : Lane} (h : CauseKept s t) (w : Nat) (vs : List Nat) : CauseKept s (t.setWins l w vs) := by
  induction vs generalizing t w with
  | nil => exact h
  | cons v vs ih => exact ih h.modLane (w + 1)

theorem nearPage_mem {p : Page} (h : ¬ farPage p = true) : p ∈ [Page.sys, .pwr, .aon, .pmb, .clk, .fab, .core] := by
  cases p <;> simp_all [farPage]

theorem stagedRows_apart {p : Page} {r : Row} {i : Nat} (hr : r ∈ pageStaged p) (hi : i < r.count) : causeApart p r i = true := by
  have hnear : ∀ p ∈ [Page.sys, .pwr, .aon, .pmb, .clk, .fab, .core], ∀ r ∈ pageStaged p, ∀ i < r.count,
      causeApart p r i = true := by decide +kernel
  by_cases hf : farPage p = true
  · exact causeApart_far hf r i
  · exact hnear p (nearPage_mem hf) r hr i hi

theorem CauseKept.copyStaged {p : Page} (h : CauseKept s t) : CauseKept s (t.copyStaged p) :=
  h.each fun _ _ hr hu => hu.each fun _ _ hi hv => hv.wr (stagedRows_apart hr (List.mem_range.1 hi))

theorem pending_apart (p : Page) :
    causeApart p HDR.PG_STAT_COMMIT_PEND 0 = true ∧ causeApart p HDR.PG_STAT_PEND_AT 0 = true := by
  cases p <;> exact ⟨rfl, rfl⟩

theorem CauseKept.clearPend {p : Page} (h : CauseKept s t) : CauseKept s (t.clearPend p) := by
  have hw : CauseKept s ((t.wr p HDR.PG_STAT_COMMIT_PEND 0).wr p HDR.PG_STAT_PEND_AT 0) :=
    (h.wr (pending_apart p).1).wr (pending_apart p).2
  exact hw.parts rfl

theorem CauseKept.mapFigures {l : Lane} (h : CauseKept s t) : CauseKept s (t.mapFigures l) := by
  have hcrc (v : Nat) : CauseKept s (t.wr (.lne l) LNE.MAP_CRC v) := h.wr rfl
  exact (hcrc _).wr rfl

theorem CauseKept.partnerRefresh {l : Lane} (h : CauseKept s t) : CauseKept s (t.partnerRefresh l) := by
  have hleft {a b : List Nat} {f : LaneHw → LaneHw} : CauseKept s (((t.setWins l winMaskL a).setWins l winPartnerL b).modLane l f) :=
    CauseKept.modLane ((h.setWins _ _).setWins _ _)
  unfold State.partnerRefresh
  dsimp only
  split <;> split <;> exact hleft.setWins _ _

theorem CauseKept.waveFigures {l : Lane} (h : CauseKept s t) : CauseKept s (t.waveFigures l) :=
  CauseKept.wr (h.each fun _ _ _ hu => hu.wr rfl) rfl

theorem CauseKept.switchBank {l : Lane} (h : CauseKept s t) : CauseKept s (t.switchBank l) := by
  have hact (v : Nat) : CauseKept s (t.wr (.wav l) WAV.BANK_ACTIVE v) := h.wr rfl
  have hload (v : Nat) : CauseKept s ((t.wr (.wav l) WAV.BANK_ACTIVE v).wr (.wav l) WAV.BANK_LOADED 0) := (hact v).wr rfl
  exact CauseKept.ite (hact _) ((hload _).each fun _ _ _ hu => hu.modLane)

theorem CauseKept.pmbSend {k : Nat} {cmd : PmbCmd} {data : Nat} (h : CauseKept s t) : CauseKept s (t.pmbSend k cmd data) :=
  CauseKept.ite (h.parts rfl) h

theorem CauseKept.modClu {c : Clu} {f : CluHw → CluHw} (h : CauseKept s t) : CauseKept s (t.modClu c f) := h.parts rfl

theorem CauseKept.commitHook {p : Page} (h : CauseKept s t) : CauseKept s (t.commitHook p) := by
  unfold State.commitHook
  dsimp only
  split
  · next l =>
    have hset {ws : List Nat} : CauseKept s ((t.setWins l winActive ws).modLane l fun h => { h with mapSnap := none }) :=
      (h.setWins _ _).modLane
    have hact {ws : List Nat} {v : Nat} := (hset (ws := ws)).wr (p := .lne l) (r := LNE.MAP_CTRL_ACT_VALID) (i := 0) (v := v) rfl
    exact (hact.mapFigures.each fun _ _ _ hu => hu.partnerRefresh).armNext
  · exact h.waveFigures.switchBank.settleTmin
  · exact CauseKept.settlePerm (h.parts rfl)
  · exact CauseKept.ite h.settlePerm (h.wr rfl)
  · next c =>
    have hsend {v : Nat} : CauseKept s (t.each (t.railsOf (8 + c.val)) fun t k => t.pmbSend k .voutCommand v) :=
      h.each fun _ _ _ hu => hu.pmbSend
    have hfall {v : Nat} := (hsend (v := v)).wr (p := .cpwr c) (r := CPWR.STAT_HVEN) (i := 0) (v := 0) rfl
    exact CauseKept.ite (hfall.modClu.errOpen rfl) hsend
  · exact h

theorem CauseKept.applyCommit {p : Page} (h : CauseKept s t) : CauseKept s (t.applyCommit p) :=
  h.copyStaged.clearPend.commitHook.raise p 1

theorem CauseKept.commitPend {l : Lane} {n : Nat} (h : CauseKept s t) : CauseKept s (t.commitPend (.lne l) n) := by
  have hw : CauseKept s ((t.wr (.lne l) HDR.PG_STAT_COMMIT_PEND 1).wr (.lne l) HDR.PG_STAT_PEND_AT n) := (h.wr rfl).wr rfl
  exact hw.parts rfl

/-- A scan result that is taken: the figures of the scan, before the map's own commit. -/
theorem CauseKept.awlAccept {l : Lane} {map : List Bool} {new : Nat} (h : CauseKept s t) : CauseKept s (t.awlAccept l map new) := by
  have hmap {ws : List Nat} : CauseKept s ((t.setWins l winStaged ws).wrStaged (.lne l) LNE.MAP_CTRL_VALID 1) :=
    (h.setWins winStaged ws).parts rfl
  have hcnt {u : State} {v : Nat} (hu : CauseKept s u) :
      CauseKept s (((u.bump (.lne l) LNE.AWL_CNT).wr (.lne l) LNE.AWL_STAT_STATE 3).wr (.lne l) LNE.AWL_TIME v) :=
    ((hu.wr rfl).wr rfl).wr rfl
  have hver {u : State} {v : Nat} (hu : CauseKept s u) : CauseKept s (u.wrStaged (.lne l) LNE.MAP_VER v) := hu.parts rfl
  have hraise {b : Bool} {u : State} (hu : CauseKept s u) :
      CauseKept s ((u.raise (.lne l) 11).when b fun t => t.raise (.lne l) 14) := (hu.raise _ _).when fun _ hv => hv.raise _ _
  have hends {q r : Prop} [Decidable q] [Decidable r] {u : State} (hu : CauseKept s u) :
      CauseKept s (if q then if r then u.commitPend (.lne l) 4 else u.applyCommit (.lne l) else u) :=
    CauseKept.ite (CauseKept.ite hu.commitPend hu.applyCommit) hu
  exact hends (hraise (CauseKept.modLane (hver (hcnt hmap))))

theorem CauseKept.commitPage {p : Page} (h : CauseKept s t) : CauseKept s (t.commitPage p) := by
  have ha : CauseKept s (t.applyCommit p) := h.applyCommit
  unfold State.commitPage State.awlRelease
  split
  · refine CauseKept.ite ?_ ha
    split
    · exact ha.awlAccept
    · exact ha
  · exact ha

theorem CauseKept.afterPage (h : CauseKept s t) : CauseKept s t.afterPage :=
  h.armNext.settlePrint.each fun _ _ _ hu => hu.commitPage

/-! ### The end of a page -/

theorem CauseKept.tileFail {k : TileKey} {cookie nn : Nat} (h : CauseKept s t) : CauseKept s (t.tileFail k cookie nn) := by
  have he : CauseKept s (t.errOpen .int nn) := h.errOpen rfl
  exact he.parts rfl

theorem CauseKept.ringAdvance {r : Nat} (h : CauseKept s t) : CauseKept s (t.ringAdvance r) := by
  have hhead {v : Nat} : CauseKept s (t.wr .int INT.RING_HEAD v r) := h.wr rfl
  have hcount {v : Nat} : CauseKept s ((t.wr .int INT.RING_HEAD v r).bump .int INT.RING_COUNT 1 r) := hhead.wr rfl
  exact hcount.parts rfl

theorem CauseKept.settleCodec (h : CauseKept s t) : CauseKept s t.settleCodec := by
  have hw {d o : Nat} : CauseKept s ((t.wr .cdc CDC.DEC_BUSY d).wr .cdc CDC.ENC_OWNER o) := (h.wr rfl).wr rfl
  exact hw.setPage rfl

theorem CauseKept.codecDrop {id : Nat} (h : CauseKept s t) : CauseKept s (t.codecDrop id) :=
  CauseKept.settleCodec (h.parts rfl)

theorem CauseKept.settleTags (h : CauseKept s t) : CauseKept s t.settleTags := by
  have hw {v : Nat} : CauseKept s (t.wr .lst LST.TAGS_USED v) := h.wr rfl
  exact hw.wr rfl

theorem CauseKept.settleCredit (h : CauseKept s t) : CauseKept s t.settleCredit := by
  have hw {v : Nat} : CauseKept s (t.wr .int INT.CREDIT v) := h.wr rfl
  have hr {v : Nat} {b : Bool} : CauseKept s ((t.wr .int INT.CREDIT v).when b fun t => t.raise .int 10) :=
    hw.when fun _ hu => hu.raise _ _
  exact hr.parts rfl

theorem CauseKept.settlePages (h : CauseKept s t) : CauseKept s t.settlePages := by
  have hw {a b c d e : Nat} : CauseKept s (((((t.wr .int INT.OPEN a).wr .lst LST.NEXT b).wr .lst LST.FSAFE_NEXT c).wr
      .lst LST.CUR d).wr .lst LST.FSAFE_CUR e) := ((((h.wr rfl).wr rfl).wr rfl).wr rfl).wr rfl
  exact hw.setPage rfl

theorem CauseKept.closePage {p : PageSt} (h : CauseKept s t) : CauseKept s (t.closePage p) := by
  unfold State.closePage
  extract_lets id failed ended intake closed unread dropped
  have hfailed : CauseKept s failed := h.each fun _ _ _ hu => hu.tileFail
  have hended : CauseKept s ended := by
    refine hfailed.each fun u r _ hu => ?_
    dsimp only
    split
    · exact CauseKept.ite hu.tileFail.ringAdvance hu
    · exact hu
  clear_value ended
  have hclosed : CauseKept s closed := hended.parts rfl
  have hunread : CauseKept s unread := hclosed.parts rfl
  exact hunread.codecDrop.settleTags.settleCredit.settlePages.settlePerm

theorem CauseKept.pageDone {p : PageSt} {nn wl copy : Nat} (h : CauseKept s t) : CauseKept s (t.pageDone p nn wl copy) := by
  have he : CauseKept s (t.when (nn != 0) fun t => t.errOpen .lst nn) := h.when fun _ hu => hu.errOpen rfl
  have hq {c : Cqe} : CauseKept s ((t.when (nn != 0) fun t => t.errOpen .lst nn).pushCqe c) := he.parts rfl
  exact (hq.raise .lst 11).closePage.afterPage

theorem CauseKept.laneLeaves {l : Lane} {id : Nat} (h : CauseKept s t) : CauseKept s (t.laneLeaves l id) := by
  unfold State.laneLeaves
  refine CauseKept.ite ?_ h
  dsimp only
  split
  · split
    · exact CauseKept.ite h.modLane.laneRuns h.modLane.setLane
    · exact CauseKept.ite h.modLane.laneRuns h.modLane.setLane
    · exact CauseKept.ite h.modLane.laneRuns h.modLane.setLane
    · exact h.modLane
  · exact CauseKept.ite (CauseKept.ite h.modLane.modLane.laneRuns h.modLane.setLane) h.modLane.autoResume

theorem CauseKept.prevEnds {e : Nat} (h : CauseKept s t) : CauseKept s (t.prevEnds e) := by
  have hp : CauseKept s { t with intake := { t.intake with prevEnd := e } } := h.parts rfl
  unfold State.prevEnds
  dsimp only
  split
  · exact CauseKept.ite (hp.parts rfl) hp
  · exact hp

theorem CauseKept.pageCut {p : PageSt} {nn : Nat} (h : CauseKept s t) : CauseKept s (t.pageCut p nn) := by
  unfold State.pageCut
  dsimp only
  split
  · exact CauseKept.afterPage (h.pageDone.each fun _ _ _ hu => hu.laneLeaves)
  · exact CauseKept.afterPage (CauseKept.each (CauseKept.pageDone (h.when fun _ hu => hu.prevEnds)) fun _ _ _ hu =>
      CauseKept.ite hu.modLane hu.laneLeaves)

/-! ### The end of a test -/

theorem denFields_far : ∀ f ∈ denFields, farPage f.1 = true ∧ Row.inPage f.2.1 f.2.2 = true := by decide

theorem CauseKept.denPush {e : DenReq} (h : CauseKept s t) : CauseKept s (t.denPush e) := by
  have hd : CauseKept s { t with den := (t.denPush e).den } := h.parts rfl
  exact hd.only (t.denPush_den e) denFields_far

theorem CauseKept.ddrUeDen {a log : Nat} (h : CauseKept s t) : CauseKept s (t.ddrUeDen a log) := by
  have hd {n : Nat} : CauseKept s (t.denHw 2 0x14 n) := h.denPush
  unfold State.ddrUeDen State.denHwTold
  exact hd.when fun _ hu => hu.parts rfl

theorem CauseKept.ddrUe {a port : Nat} {dev : BitVec 5} {scrub : Bool} (h : CauseKept s t) :
    CauseKept s (t.ddrUe a port dev scrub) := by
  unfold State.ddrUe
  extract_lets log counted told
  have hcounted : CauseKept s counted := CauseKept.wr (h.wr rfl) rfl
  have htold : CauseKept s told := (CauseKept.err (hcounted.wr rfl) rfl).raise .ddr 9
  exact CauseKept.ite htold htold.ddrUeDen

theorem CauseKept.imgUe {l : Lane} {ue : Bool} (h : CauseKept s t) : CauseKept s (t.imgUe l ue).1 := by
  unfold State.imgUe
  split
  · exact h.ddrUe
  · split
    · exact CauseKept.ddrUe (t := t.draw.2) (h.parts rfl)
    · exact h

theorem CauseKept.imgLoad {l : Lane} (h : CauseKept s t) : CauseKept s (t.imgLoad l) := by
  unfold State.imgLoad
  extract_lets a hdr counts valid vers
  have hcounts : CauseKept s counts := h.setWins 0 _
  have hvalid : CauseKept s valid := hcounts.wr rfl
  clear_value valid
  have hver {v : Nat} : CauseKept s (valid.wr (.lne l) LNE.MAP_VER v) := hvalid.wr rfl
  have hmap {v : Nat} : CauseKept s (valid.wrBoth (.lne l) LNE.MAP_VER v) := hver.parts rfl
  have hvers : CauseKept s vers := hmap.wr rfl
  exact hvers.mapFigures.each fun _ _ _ hu => hu.partnerRefresh

theorem CauseKept.restoreWindow {l : Lane} {ue : Bool} (h : CauseKept s t) : CauseKept s (t.restoreWindow l ue).1 := by
  have hread : CauseKept s (t.imgUe l ue).1 := h.imgUe
  unfold State.restoreWindow
  generalize t.imgUe l ue = read at hread ⊢
  obtain ⟨u, bad⟩ := read
  have herr : CauseKept s (u.errOpen (.lne l) 0x40) := hread.errOpen rfl
  dsimp only
  split
  · dsimp only
    exact hread.imgLoad
  · exact herr.raise .bst 11

theorem CauseKept.loadCounts {l : Lane} (h : CauseKept s t) : CauseKept s (t.loadCounts l) := by
  unfold State.loadCounts
  dsimp only
  split
  · split
    · exact h.ddrUe
    · exact h.setWins _ _
  · exact h

theorem CauseKept.resetLane {l : Lane} (h : CauseKept s t) : CauseKept s (t.resetLane l) := by
  have hpages {f : LaneHw → LaneHw} :
      CauseKept s ((((t.resetPage (.lne l)).resetPage (.seq l)).resetPage (.wav l)).modLane l f) :=
    (((h.resetPage rfl).resetPage rfl).resetPage rfl).modLane
  unfold State.resetLane
  extract_lets reading valid pages cleared
  have htemp : CauseKept s (cleared.wr (.seq l) SEQ.TEMP_READING reading) := CauseKept.wr hpages rfl
  exact CauseKept.settleTmin (htemp.wr rfl)

theorem CauseKept.resetTested {p : Page} (h : CauseKept s t) (hp : farPage p = true) : CauseKept s (t.resetTested p) := by
  have hbase {v : Nat} : CauseKept s ((t.resetPage .cdc).wr .cdc CDC.PRESET_BASE v) := (h.resetPage rfl).wr rfl
  unfold State.resetTested
  split
  · exact hbase.each fun _ _ _ hu => hu.wr rfl
  · exact h.resetPage hp

theorem testPages_far {target i : Nat} {p : Page} (h : p ∈ testPages target i) : farPage p = true := by
  unfold testPages at h
  split_ifs at h
  · obtain ⟨c, -, hc⟩ := List.mem_flatMap.1 h
    simp only [List.mem_cons, List.not_mem_nil, or_false] at hc
    rcases hc with rfl | rfl | rfl <;> rfl
  · simp only [List.mem_cons, List.not_mem_nil, or_false] at h
    rw [h]
    rfl
  · simp only [List.mem_cons, List.not_mem_nil, or_false] at h
    rw [h]
    rfl
  · cases h

theorem CauseKept.testClose {target i : Nat} {lanes : List Lane} {ue : Bool} (h : CauseKept s t) :
    CauseKept s (t.testClose target i lanes ue) := by
  have hpages : CauseKept s (t.each (testPages target i) State.resetTested) :=
    h.each fun _ _ hp hu => hu.resetTested (testPages_far hp)
  unfold State.testClose
  extract_lets slot pages reset restored
  have hreset : CauseKept s reset := hpages.each fun _ _ _ hu => hu.resetLane
  have hrestored : CauseKept s restored := by
    refine CauseKept.ite (hreset.each fun u l _ hu => ?_) hreset
    refine CauseKept.loadCounts (CauseKept.ite ?_ hu)
    exact hu.restoreWindow.wr (causeApart_far rfl _ _)
  exact hrestored.parts rfl

theorem CauseKept.marchClears {target i : Nat} (h : CauseKept s t) : CauseKept s (t.marchClears target i) :=
  CauseKept.ite h (CauseKept.ite (h.each fun _ _ _ hu => hu.modLane) (CauseKept.ite (h.each fun _ _ _ hu => hu.modClu)
    (CauseKept.ite (h.parts rfl) (h.parts rfl))))

theorem dclkCl_apart_cause (c : Clu) : causeApart .clk CLK.DCLK_CL c.val = true := by
  revert c
  decide

theorem CauseKept.setOp {c : Clu} {op : Nat} (h : CauseKept s t) : CauseKept s (t.setOp c op) := by
  have ha {q : Prop} [Decidable q] {f : CalRun → Bool} {u : State} (hu : CauseKept s u) :
      CauseKept s ((if q then u else u.calAbort f).wr (.cpwr c) CPWR.STAT_OP_ACT op) :=
    (CauseKept.ite hu hu.calAbort).wr rfl
  exact (ha h.modClu).wr (dclkCl_apart_cause c)

theorem CauseKept.restoreOp {c : Clu} (h : CauseKept s t) : CauseKept s (t.restoreOp c) := by
  unfold State.restoreOp
  split
  · exact h.modClu.when fun _ hu => hu.setOp
  · exact h

theorem CauseKept.testLeave {lanes : List Lane} (h : CauseKept s t) : CauseKept s (t.testLeave lanes) := by
  unfold State.testLeave
  exact CauseKept.armNext (h.each fun _ _ _ hu => CauseKept.ite (CauseKept.ite hu.setLane hu.setLane.setLane) hu)

theorem CauseKept.testEnd {r : BistRun} (h : CauseKept s t) : CauseKept s (t.testEnd r) := by
  unfold State.testEnd
  extract_lets bist done left ended
  have hdone : CauseKept s done := h.parts rfl
  have hended : CauseKept s ended := hdone.testLeave.each fun _ _ _ hu => hu.restoreOp
  have hoverdue : CauseKept s ((ended.setPage .bst 0).flag .bst HDR.PG_STAT_OVERDUE false) := (hended.setPage rfl).wr rfl
  exact (hoverdue.when fun _ hu => hu.raise _ _).raise _ _

theorem CauseKept.testAbort {why : Nat} (h : CauseKept s t) : CauseKept s (t.testAbort why) := by
  unfold State.testAbort
  split
  · exact h
  · have hslot {u : State} {n : Nat} (hu : CauseKept s u) : CauseKept s (((u.wr .bst BST.RES_STAT_DONE 1 n).wr
        .bst BST.RES_STAT_ABORTED 1 n).wr .bst BST.RES_STAT_ABORT_WHY why n) := ((hu.wr rfl).wr rfl).wr rfl
    extract_lets closed told
    have hclosed : CauseKept s closed := by
      refine h.each fun u i _ hu => ?_
      have hdraw : CauseKept s u.draw.2 := hu.parts rfl
      exact CauseKept.testClose (CauseKept.marchClears (CauseKept.wr (hslot hdraw) rfl))
    have htold : CauseKept s told := (hclosed.err rfl).raise .bst 9
    exact htold.testEnd

/-! ### Entry into FAULT -/

theorem CauseKept.axEstop {a : Axis} (h : CauseKept s t) : CauseKept s (t.axEstop a) := by
  have hhalt : CauseKept s (t.axHalt a) := by
    have hm : CauseKept s (t.modAxis a AxisHw.halted) := h.parts rfl
    exact hm.only (t.axHalt_only a) (by simp +decide [haltFields, farPage])
  have hset {u : State} (hu : CauseKept s u) : CauseKept s (u.setAx a axIdle) := by
    have hm : CauseKept s (u.modAxis a (u.idled a axIdle)) := hu.parts rfl
    exact hm.only (u.setAx_only a axIdle) (by simp +decide [axStateFields, farPage])
  exact CauseKept.ite (hset hhalt) (CauseKept.ite hhalt h)

theorem CauseKept.axSleep {a : Axis} (h : CauseKept s t) : CauseKept s (t.axSleep a) := by
  have hw : CauseKept s (t.wr (.ax a) AX.STAT_ASLEEP 1) := h.wr rfl
  exact CauseKept.ite h (hw.raise _ 12)

theorem CauseKept.faultBegins (h : CauseKept s t) : CauseKept s t.faultBegins := by
  unfold State.faultBegins
  extract_lets hven told cut asleep
  have hhven : CauseKept s hven := by
    refine h.each fun u c _ hu => ?_
    have hw : CauseKept s (u.wr (.cpwr c) CPWR.STAT_HVEN 0) := hu.wr rfl
    exact CauseKept.ite hw.modClu hw
  have hcut : CauseKept s cut := (hhven.raise .gio 10).each fun _ _ _ hu => hu.pageCut
  have hasleep : CauseKept s asleep := (hcut.each fun _ _ _ hu => hu.axEstop).each fun _ _ _ hu => hu.axSleep
  exact CauseKept.wr (hasleep.wr rfl) rfl

theorem CauseKept.dllEnd {c : Clu} {lock : Bool} (h : CauseKept s t) : CauseKept s (t.dllEnd c lock) := by
  unfold State.dllEnd
  extract_lets told ended
  have htold : CauseKept s told := CauseKept.setPage (h.wr rfl) rfl
  have hended : CauseKept s ended := htold.each fun _ _ _ hu => CauseKept.ite hu.setLane hu
  exact hended.restoreOp.armNext

theorem CauseKept.calAbortAll (h : CauseKept s t) : CauseKept s t.calAbortAll :=
  h.calAbort.each fun _ _ _ hu => hu.each fun _ _ _ hv => hv.dllEnd

theorem CauseKept.setDdr {v : Nat} (h : CauseKept s t) : CauseKept s (t.setDdr v) := by
  have ha : CauseKept s ((if v = ddrActive then t else t.calAbort fun r => r.item == 7).setPage .ddr v) :=
    (CauseKept.ite h h.calAbort).setPage rfl
  exact ha.each fun _ _ _ hu => hu.setPage rfl

theorem CauseKept.srUndo (h : CauseKept s t) : CauseKept s t.srUndo := by
  unfold State.srUndo
  split
  · extract_lets ddr undone
    have hundone : CauseKept s undone := h.parts rfl
    exact CauseKept.ite hundone.setDdr (CauseKept.ite hundone.setDdr hundone)
  · exact h

theorem CauseKept.spitAbort (h : CauseKept s t) : CauseKept s t.spitAbort := by
  unfold State.spitAbort
  split
  · exact h
  · extract_lets dry power out
    have hdry : CauseKept s dry := h.each fun _ _ _ hu => hu.modLane
    clear_value dry
    have hout : CauseKept s out := hdry.parts rfl
    have hskip : CauseKept s (out.bump .aon AON.SPIT_SKIP) := hout.wr rfl
    exact hskip.raise _ _

theorem State.faultEnds_kept (s : State) : CauseKept s (s.faultEnds false) ∧ (s.faultEnds false).power.dev = .fault := by
  unfold State.faultEnds
  extract_lets ended quiet fault
  have hended : CauseKept s ended := (CauseKept.refl s).calAbortAll.scansEnd.srUndo.spitAbort
  clear_value ended
  have hquiet : CauseKept s quiet := hended.parts rfl
  refine ⟨(hquiet.setDev.setFault rfl).setFault rfl, ?_⟩
  show (((quiet.setDev .fault).setFault .pwr true).setFault .sys true).power.dev = .fault
  rw [State.setFault_power, State.setFault_power, State.setDev_dev]

theorem State.fatalTold_kept (s : State) (b rail : Nat) : CauseKept (s.wr .pwr (fatalRow b) 1) (s.fatalTold b rail) :=
  (CauseKept.refl _).when fun _ hu => hu.denPush

/-- A fatal cause that takes no supply with it leads to FAULT, and to FAULT alone. -/
theorem State.fatalNow_fault (s : State) {b : Nat} (rail : Nat) (hb : b ≠ 0) :
    CauseKept (s.wr .pwr (fatalRow b) 1) (s.fatalNow b rail) ∧ (s.fatalNow b rail).power.dev = .fault := by
  have htold := s.fatalTold_kept b rail
  rw [State.fatalNow_eq, beq_false_of_ne hb]
  split
  · next hdev => exact ⟨htold, beq_iff_eq.1 hdev⟩
  · rw [State.faultActs_eq]
    obtain ⟨hends, hdev⟩ := State.faultEnds_kept ((s.fatalTold b rail).faultBegins.testAbort 5)
    exact ⟨htold.faultBegins.testAbort.trans hends, hdev⟩

end Sys2Proof.Machine
end

section
/-! PROOFS. The application cores run, stop and are reset (R85, R97, R99). -/

namespace Sys2Proof.Machine

open Reg

variable {s : State} {req : Req}

/-! ### Four bits as a number -/

/-- The number of the cores for which f holds, a bit for each. -/
def coreBits (f : Nat → Bool) : Nat := (List.range 4).foldl (fun a k => if f k then a + 2 ^ k else a) 0

theorem coreBits_eq (f : Nat → Bool) : coreBits f = (f 0).toNat + 2 * (f 1).toNat + 4 * (f 2).toNat + 8 * (f 3).toNat := by
  have h (b : Bool) (a n : Nat) : (if b then a + n else a) = a + n * b.toNat := by cases b <;> simp
  simp only [coreBits, List.range, List.range.loop, List.foldl, h]
  omega

theorem coreBits_testBit (f : Nat → Bool) {k : Nat} (hk : k < 4) : (coreBits f).testBit k = f k := by
  have h : ∀ a b c d : Bool, (a.toNat + 2 * b.toNat + 4 * c.toNat + 8 * d.toNat).testBit 0 = a ∧
      (a.toNat + 2 * b.toNat + 4 * c.toNat + 8 * d.toNat).testBit 1 = b ∧
      (a.toNat + 2 * b.toNat + 4 * c.toNat + 8 * d.toNat).testBit 2 = c ∧
      (a.toNat + 2 * b.toNat + 4 * c.toNat + 8 * d.toNat).testBit 3 = d := by decide
  obtain ⟨h0, h1, h2, h3⟩ := h (f 0) (f 1) (f 2) (f 3)
  rw [coreBits_eq]
  interval_cases k
  · exact h0
  · exact h1
  · exact h2
  · exact h3

theorem coreBits_lt (f : Nat → Bool) : coreBits f < 16 := by
  have h (b : Bool) : b.toNat ≤ 1 := Bool.toNat_le b
  have h0 := h (f 0)
  have h1 := h (f 1)
  have h2 := h (f 2)
  have h3 := h (f 3)
  rw [coreBits_eq]
  omega

/-- A number of four bits is that of its own bits. -/
theorem coreBits_self {n : Nat} (hn : n < 16) {f : Nat → Bool} (h : ∀ k, k < 4 → f k = n.testBit k) : coreBits f = n := by
  refine Nat.eq_of_testBit_eq fun i => ?_
  by_cases hi : i < 4
  · rw [coreBits_testBit f hi, h i hi]
  · have hp : 16 ≤ 2 ^ i := Nat.pow_le_pow_right (n := 2) (by decide) (Nat.le_of_not_lt hi)
    rw [Nat.testBit_lt_two_pow (Nat.lt_of_lt_of_le (coreBits_lt f) hp), Nat.testBit_lt_two_pow (Nat.lt_of_lt_of_le hn hp)]

/-! ### RUN, RUNNING and WDT_HALT -/

theorem State.hartSettle_eq (s : State) : s.hartSettle = s.wr .core CORE.HART_STAT_RUNNING
    (coreBits fun k => (s.rd .core CORE.HART_CTRL_RUN).testBit k && !(s.rd .core CORE.HART_STAT_WDT_HALT).testBit k) := rfl

theorem State.hartSettle_running (s : State) : s.hartSettle.rd .core CORE.HART_STAT_RUNNING =
    coreBits fun k => (s.rd .core CORE.HART_CTRL_RUN).testBit k && !(s.rd .core CORE.HART_STAT_WDT_HALT).testBit k := by
  rw [State.hartSettle_eq, State.wr_rd_same]
  exact Nat.mod_eq_of_lt (coreBits_lt _)

theorem State.hartSettle_rd (s : State) {r : Row} (h : Row.apart CORE.HART_STAT_RUNNING 0 r 0 = true) :
    s.hartSettle.rd .core r = s.rd .core r := by
  rw [State.hartSettle_eq, State.wr_rd_apart _ _ _ _ h]

/-- The fields of HART_CTRL and HART_STAT that a write of HART_CTRL changes. -/
def hartFields : List FieldAt :=
  [(.core, CORE.HART_CTRL_RUN, 0), (.core, CORE.HART_STAT_RUNNING, 0), (.core, CORE.HART_STAT_WDT_HALT, 0)]

/-- The cores that a write of HART_CTRL leaves halted: those that it does not reset. -/
def State.haltLeft (s : State) (data : Nat) : Nat :=
  coreBits fun k => (s.rd .core CORE.HART_STAT_WDT_HALT).testBit k && !(bits data 7 4).testBit k

/-- WDT_HALT and RUN as a write of HART_CTRL sets them. -/
def State.hartSet (s : State) (data : Nat) : State :=
  (s.wr .core CORE.HART_STAT_WDT_HALT (s.haltLeft data)).wr .core CORE.HART_CTRL_RUN (bits data 3 0)

theorem State.hartWrite_safe (s : State) (data : Nat) : s.hartWrite .safe data = (s.hartSet data).hartSettle := by
  unfold State.hartWrite
  rw [if_neg (by simp)]
  rfl

theorem State.hartWrite_foreign (data : Nat) (h : req ≠ .safe) : s.hartWrite req data = s.errAt .core 0x2E 0x50 req.code := by
  unfold State.hartWrite
  exact if_pos h

theorem State.hartSet_run (s : State) (data : Nat) : (s.hartSet data).rd .core CORE.HART_CTRL_RUN = bits data 3 0 := by
  rw [State.hartSet, State.wr_rd_same]
  exact Nat.mod_eq_of_lt (Nat.mod_lt _ (by decide))

theorem State.hartSet_halt (s : State) (data : Nat) :
    (s.hartSet data).rd .core CORE.HART_STAT_WDT_HALT = s.haltLeft data := by
  rw [State.hartSet, State.wr_rd_apart _ _ _ _ rfl, State.wr_rd_same]
  exact Nat.mod_eq_of_lt (coreBits_lt _)

theorem State.hartSet_only (s : State) (data : Nat) : OnlyFields hartFields s (s.hartSet data).hartSettle :=
  OnlyFields.wr _ _ _ _ (OnlyFields.wr _ _ _ _ (OnlyFields.wr _ _ _ _ (OnlyFields.refl _ s)
    (by simp [hartFields])) (by simp [hartFields])) (by simp [hartFields])

theorem bits_testBit (v lo : Nat) {k n : Nat} (hk : k < n + 1) : (bits v (lo + n) lo).testBit k = v.testBit (lo + k) := by
  rw [bits, Nat.testBit_mod_two_pow, Nat.testBit_div_two_pow, decide_eq_true (by omega), Bool.true_and, Nat.add_comm]

theorem exec_hartRun (data : Word) (h : s.open_ .safe .core = true) : exec (.hartRun .safe data) s =
    .next ((s.withReply (.posted Req.safe.code)).hartSet data.toNat).hartSettle :=
  congrArg Host.Outcome.next ((State.gate_posted h _ _).trans (State.hartWrite_safe _ _))

theorem exec_hartReset (data : Word) (h : s.open_ .safe .core = true) : exec (.hartReset .safe data) s =
    .next ((s.withReply (.posted Req.safe.code)).hartSet data.toNat).hartSettle :=
  congrArg Host.Outcome.next ((State.gate_posted h _ _).trans (State.hartWrite_safe _ _))

theorem hartRun_runs {data : Word} (h : s.open_ .safe .core = true)
    (hh : s.rd .core CORE.HART_STAT_WDT_HALT = 0) :
    ∃ t, exec (.hartRun .safe data) s = .next t ∧ t.rd .core CORE.HART_CTRL_RUN = bits data.toNat 3 0 ∧
      t.rd .core CORE.HART_STAT_RUNNING = bits data.toNat 3 0 ∧
      OnlyFields hartFields { s with reply := .posted Req.safe.code } t := by
  let u := s.withReply (.posted Req.safe.code)
  have hl : u.haltLeft data.toNat = 0 := coreBits_self (by decide) fun k _ => by
    rw [show u.rd .core CORE.HART_STAT_WDT_HALT = 0 from hh]
    simp
  refine ⟨_, exec_hartRun data h, ?_, ?_, u.hartSet_only _⟩
  · rw [State.hartSettle_rd _ rfl, State.hartSet_run]
  · rw [State.hartSettle_running, State.hartSet_run, State.hartSet_halt, hl]
    exact coreBits_self (Nat.mod_lt _ (by decide)) fun k _ => by
      rw [Nat.zero_testBit, Bool.not_false, Bool.and_true]
      rfl

theorem hartReset_resets {data : Word} {k : Fin 4} (h : s.open_ .safe .core = true) (hk : bit data.toNat (4 + k.val) = true) :
    ∃ t, exec (.hartReset .safe data) s = .next t ∧ bit (t.rd .core CORE.HART_STAT_WDT_HALT) k.val = false ∧
      bit (t.rd .core CORE.HART_STAT_RUNNING) k.val = bit data.toNat k.val ∧
      OnlyFields hartFields { s with reply := .posted Req.safe.code } t := by
  let u := s.withReply (.posted Req.safe.code)
  have hl : (u.haltLeft data.toNat).testBit k.val = false := by
    rw [State.haltLeft, coreBits_testBit _ k.isLt, bits_testBit (n := 3) data.toNat 4 k.isLt, show data.toNat.testBit _ = true from hk]
    exact Bool.and_false _
  refine ⟨_, exec_hartReset data h, ?_, ?_, u.hartSet_only _⟩
  · rw [State.hartSettle_rd _ rfl, State.hartSet_halt]
    exact hl
  · rw [State.hartSettle_running, State.hartSet_run, State.hartSet_halt, bit, coreBits_testBit _ k.isLt, hl,
      bits_testBit (n := 3) data.toNat 0 k.isLt, Nat.zero_add, Bool.not_false, Bool.and_true]
    rfl

/-! ### A core that is halted -/

theorem State.hartHalt_halted (s : State) (k : Fin 4) :
    bit ((s.hartHalt k.val).rd .core CORE.HART_STAT_WDT_HALT) k.val = true := by
  rw [State.hartHalt, State.hartSettle_rd _ rfl, State.wr_rd_same, bit, Nat.testBit_mod_two_pow, Nat.testBit_or,
    Nat.testBit_two_pow_self, Bool.or_true, Bool.and_true]
  exact decide_eq_true k.isLt

theorem State.hartHalt_stopped (s : State) (k : Fin 4) :
    bit ((s.hartHalt k.val).rd .core CORE.HART_STAT_RUNNING) k.val = false := by
  have h := s.hartHalt_halted k
  rw [State.hartHalt, State.hartSettle_rd _ rfl] at h
  rw [State.hartHalt, State.hartSettle_running, bit, coreBits_testBit _ k.isLt, show Nat.testBit _ _ = true from h]
  exact Bool.and_false _

theorem State.hartHalt_only (s : State) (k : Nat) :
    OnlyFields [(.core, CORE.HART_STAT_RUNNING, 0), (.core, CORE.HART_STAT_WDT_HALT, 0)] s (s.hartHalt k) :=
  OnlyFields.wr _ _ _ _ (OnlyFields.wr _ _ _ _ (OnlyFields.refl _ s) (by simp)) (by simp)

theorem coreMemUe_halts (hu : s.devUp = true) (k : Fin 4) :
    ∃ t, exec (.coreMemUe k.castSucc) s = .next t ∧ bit (t.rd .core CORE.HART_STAT_WDT_HALT) k.val = true ∧
      bit (t.rd .core CORE.HART_STAT_RUNNING) k.val = false ∧
      OnlyFields [(.core, CORE.HART_STAT_RUNNING, 0), (.core, CORE.HART_STAT_WDT_HALT, 0)] s t := by
  refine ⟨_, ?_, s.hartHalt_halted k, s.hartHalt_stopped k, s.hartHalt_only _⟩
  show execCoreMemUe k.castSucc s = _
  unfold execCoreMemUe
  rw [if_pos hu, if_pos (show k.castSucc.val < 4 from k.isLt)]
  rfl

theorem coreMemUe_stopsSafe (hu : s.devUp = true) :
    ∃ t, exec (.coreMemUe 4) s = .next t ∧ t.on .core CORE.HART_STAT_SAFE_RUN = false ∧
      OnlyFields [(.core, CORE.HART_STAT_SAFE_RUN, 0)] s t := by
  have he : exec (.coreMemUe 4) s = .next (s.wr .core CORE.HART_STAT_SAFE_RUN 0) := if_pos hu
  refine ⟨_, he, ?_, OnlyFields.wr _ _ _ _ (OnlyFields.refl _ s) (by simp)⟩
  rw [State.on, State.wr_rd_same]
  rfl

end Sys2Proof.Machine
end

section
/-! PROOFS. The watchdogs: kicks, expiries, and the halt of an application core (R99). -/

namespace Sys2Proof.Machine

open Reg

variable {s : State} {req : Req}

/-! ### Kicks -/

theorem exec_wdtKick (k : Fin 5) (key : BitVec 8) (h : s.open_ req .core = true) : exec (.wdtKick req k key) s =
    .next ((s.withReply (.posted req.code)).wdtKick req k key.toNat) :=
  congrArg Host.Outcome.next (State.gate_posted h _ _)

/-- Every requester may kick the watchdog of an application core, and the safety core its own. -/
theorem State.wdtKick_served {k : Fin 5} (key : Nat) (hk : k ≠ 4 ∨ req = .safe) : s.wdtKick req k key =
    if key ≠ 0xA5 then s.errAt .core 0x2D (0x64 + 8 * k.val) req.code
    else if s.wdtDue k then
      (s.wdtFire k).when (!decide (s.dclk < s.cores.kicked[k] + 500 * s.wdtTimeout k.val + 2)) fun t => t.wdtRestart k
    else s.wdtRestart k := by
  unfold State.wdtKick
  exact if_neg (by rcases hk with h | h <;> simp [h])

theorem State.wdtKick_foreign (key : Nat) (h : req ≠ .safe) :
    s.wdtKick req 4 key = s.errAt .core 0x2E (0x64 + 8 * 4) req.code := by
  unfold State.wdtKick
  exact if_pos (by simp [h])

theorem State.wdtKick_badKey {k : Fin 5} {key : BitVec 8} (hk : k ≠ 4 ∨ req = .safe) (hkey : key ≠ 0xA5) :
    s.wdtKick req k key.toNat = s.errAt .core 0x2D (0x64 + 8 * k.val) req.code := by
  rw [State.wdtKick_served _ hk]
  exact if_pos fun h => hkey (BitVec.eq_of_toNat_eq h)

theorem wdtKick_restarts {k : Fin 5} (h : s.open_ req .core = true) (hk : k ≠ 4 ∨ req = .safe) (hd : s.wdtDue k = false) :
    exec (.wdtKick req k 0xA5) s = .next { s with
      reply := .posted req.code
      cores := { s.cores with kicked := s.cores.kicked.set k s.dclk, expired := s.cores.expired.set k false } } := by
  have hd' : (s.withReply (.posted req.code)).wdtDue k = false := hd
  rw [exec_wdtKick k _ h, State.wdtKick_served _ hk, if_neg (by decide), hd', if_neg (by decide)]
  rfl

theorem castSucc_ne_four (k : Fin 4) : k.castSucc ≠ 4 := by
  revert k
  decide

theorem State.wdtTimeout_app (s : State) (k : Fin 4) : s.wdtTimeout k.castSucc.val = s.rd .core CORE.WDT_TIMEOUT k.val := by
  unfold State.wdtTimeout
  exact if_neg (by have := k.isLt; simp only [Fin.val_castSucc]; omega)

/-- The expiry of watchdog k is taken. -/
def State.expired (s : State) (k : Fin 5) : State :=
  { s with cores := { s.cores with expired := s.cores.expired.set k true } }

theorem State.wdtFire_app (s : State) (k : Fin 4) :
    s.wdtFire k.castSucc = (s.expired k.castSucc).raise .core (8 + k.val) := by
  unfold State.wdtFire
  exact if_neg (castSucc_ne_four k)

theorem State.raised_event (s : State) (k : Fin 4) : (s.raise .core (8 + k.val)).event .core (8 + k.val) = true :=
  State.raise_event_same _ _ _ (by omega)

theorem State.raised_only (s : State) (n : Nat) : OnlyFields [(.core, HDR.PG_EVT_RAW, 0)] s (s.raise .core n) :=
  OnlyFields.raise _ _ (OnlyFields.refl _ s) (by simp)

theorem wdtKick_late {k : Fin 4} (h : s.open_ req .core = true) (hd : s.wdtDue k.castSucc = true)
    (hl : s.dclk < s.cores.kicked[k.castSucc] + 500 * s.rd .core CORE.WDT_TIMEOUT k.val + 2) :
    ∃ t, exec (.wdtKick req k.castSucc 0xA5) s = .next t ∧ t.event .core (8 + k.val) = true ∧
      OnlyFields [(.core, HDR.PG_EVT_RAW, 0)] { s with
        reply := .posted req.code, cores := { s.cores with expired := s.cores.expired.set k.castSucc true } } t := by
  let u := s.withReply (.posted req.code)
  have hd' : u.wdtDue k.castSucc = true := hd
  have hl' : decide (u.dclk < u.cores.kicked[k.castSucc] + 500 * u.wdtTimeout k.castSucc.val + 2) = true := by
    rw [State.wdtTimeout_app]
    exact decide_eq_true hl
  refine ⟨_, ?_, (u.expired k.castSucc).raised_event k, State.raised_only _ _⟩
  rw [exec_wdtKick _ _ h, State.wdtKick_served _ (Or.inl (castSucc_ne_four k)), if_neg (by decide), hd', if_pos rfl, hl',
    State.wdtFire_app]
  rfl

/-! ### Expiries -/

theorem wdtExpire_app {k : Fin 4} (hu : s.devUp = true) (he : s.on .core CORE.WDT_EN k.val = true)
    (hx : s.cores.expired[k.castSucc] = false)
    (ht : s.cores.kicked[k.castSucc] + s.rd .core CORE.WDT_TIMEOUT k.val * 500 ≤ s.dclk) :
    ∃ t, exec (.wdtExpire k.castSucc) s = .next t ∧ t.event .core (8 + k.val) = true ∧
      OnlyFields [(.core, HDR.PG_EVT_RAW, 0)]
        { s with cores := { s.cores with expired := s.cores.expired.set k.castSucc true } } t := by
  have hd : s.wdtDue k.castSucc = true := by
    unfold State.wdtDue
    rw [State.wdtTimeout_app, Fin.val_castSucc, he, hx, decide_eq_true (by omega)]
    rfl
  refine ⟨_, ?_, (s.expired k.castSucc).raised_event k, State.raised_only _ _⟩
  show execWdtExpire k.castSucc s = _
  unfold execWdtExpire
  rw [hu, hd, State.wdtFire_app]
  rfl

/-! ### The halt of a core, told to the Den -/

theorem State.denRoom_idle (h : s.den.dropped = 0) : s.denRoom = s := by
  unfold State.denRoom
  rw [h]
  rfl

theorem State.denPump_idle (h : s.rd .den HDR.PG_STAT_STATE ≠ 1 ∨ s.den.cur.isSome = true) : s.denPump = s := by
  have hb : (s.den.cur.isNone && s.rd .den HDR.PG_STAT_STATE == 1) = false := by
    rcases h with h | h
    · rw [beq_false_of_ne h, Bool.and_false]
    · rw [Option.isNone_eq_false_iff.2 h, Bool.false_and]
  unfold State.denPump
  rw [hb]
  split <;> rfl

theorem State.denSettle_idle (hd : s.den.dropped = 0)
    (hw : s.rd .den HDR.PG_STAT_STATE ≠ 1 ∨ s.den.cur.isSome = true) : s.denSettle = s := by
  rw [State.denSettle, State.denRoom_idle hd, State.denPump_idle hw, State.denRoom_idle hd]

/-- An entry that finds a token and an empty queue stands in it alone, while the writer does not take it (R390). -/
theorem State.denPush_first {e : DenReq} (h1 : e.type ≠ 1) (hq : s.den.queue = []) (ht : s.den.tokens ≠ 0)
    (hd : s.den.dropped = 0) (hw : s.rd .den HDR.PG_STAT_STATE ≠ 1 ∨ s.den.cur.isSome = true) :
    s.denPush e = { s with den := { s.den with
      queue := [{ e with at_ := s.dclk }], tokens := if denNeedsToken e.type then s.den.tokens - 1 else s.den.tokens } } := by
  have htakes : s.denTakes e.type = true := by
    unfold State.denTakes
    rw [hq, beq_false_of_ne ht, Bool.and_false]
    rfl
  unfold State.denPush
  dsimp only
  rw [if_neg h1, htakes, hq]
  exact State.denSettle_idle hd hw

theorem State.denHw_first {type : Nat} (src payload : Nat) (h1 : type ≠ 1) (hq : s.den.queue = []) (ht : s.den.tokens ≠ 0)
    (hd : s.den.dropped = 0) (hw : s.rd .den HDR.PG_STAT_STATE ≠ 1 ∨ s.den.cur.isSome = true) :
    ∃ d : Den, s.denHw type src payload = { s with den := d } ∧
      d.queue = [{ type, src, hw := true, payload, time := s.time, at_ := s.dclk }] :=
  ⟨_, State.denPush_first (e := { type, src, hw := true, payload, time := s.time }) h1 hq ht hd hw, rfl⟩

theorem OnlyFields.withDen {fs : List FieldAt} {t : State} (h : OnlyFields fs s t) (d : Den) :
    OnlyFields fs { s with den := d } { t with den := d } := ⟨fun k x hk => h.fields k x hk, by rw [h.rest]⟩

theorem exec_wdtHalt {k : Fin 4} (mepc : BitVec 64) (hu : s.devUp = true) (he : s.on .core CORE.WDT_EN k.val = true)
    (hx : s.cores.expired[k.castSucc] = true)
    (ht : s.cores.kicked[k.castSucc] + 625 * s.rd .core CORE.WDT_TIMEOUT k.val ≤ s.dclk) :
    exec (.wdtHalt k mepc) s = .next ((s.hartHalt k.val).denHw 6 0x06 (k.val + mepc.toNat * 2 ^ 64)) := by
  have hc : s.wdtTimeout k.val = s.rd .core CORE.WDT_TIMEOUT k.val := s.wdtTimeout_app k
  show execWdtHalt k mepc s = _
  unfold execWdtHalt
  dsimp only
  rw [hc, hu, he, hx, decide_eq_true ht, Nat.mul_comm (2 ^ 64)]
  rfl

theorem wdtHalt_halts {k : Fin 4} {mepc : BitVec 64} (hu : s.devUp = true) (he : s.on .core CORE.WDT_EN k.val = true)
    (hx : s.cores.expired[k.castSucc] = true)
    (ht : s.cores.kicked[k.castSucc] + 625 * s.rd .core CORE.WDT_TIMEOUT k.val ≤ s.dclk) (hq : s.den.queue = [])
    (hk : s.den.tokens ≠ 0) (hd : s.den.dropped = 0) (hw : s.rd .den HDR.PG_STAT_STATE ≠ 1 ∨ s.den.cur.isSome = true) :
    ∃ t, exec (.wdtHalt k mepc) s = .next t ∧ bit (t.rd .core CORE.HART_STAT_WDT_HALT) k.val = true ∧
      bit (t.rd .core CORE.HART_STAT_RUNNING) k.val = false ∧
      t.den.queue = [{ type := 6, src := 0x06, hw := true, payload := k.val + mepc.toNat * 2 ^ 64, time := s.time, at_ := s.dclk }] ∧
      OnlyFields [(.core, CORE.HART_STAT_RUNNING, 0), (.core, CORE.HART_STAT_WDT_HALT, 0)] { s with den := t.den } t := by
  have ho := s.hartHalt_only k.val
  obtain ⟨hden, hdclk⟩ : (s.hartHalt k.val).den = s.den ∧ (s.hartHalt k.val).dclk = s.dclk := ⟨by rw [ho.rest], by rw [ho.rest]⟩
  have htime : (s.hartHalt k.val).time = s.time := ho.fields.rd_off _ _ _ rfl
  have hstate : (s.hartHalt k.val).rd .den HDR.PG_STAT_STATE = s.rd .den HDR.PG_STAT_STATE := ho.fields.rd_off _ _ _ rfl
  obtain ⟨d, hpush, hqueue⟩ := State.denHw_first (s := s.hartHalt k.val) (type := 6) 0x06 (k.val + mepc.toNat * 2 ^ 64)
    (by decide) (by rw [hden, hq]) (by rw [hden]; exact hk) (by rw [hden, hd]) (by rw [hden, hstate]; exact hw)
  rw [htime, hdclk] at hqueue
  exact ⟨_, (exec_wdtHalt mepc hu he hx ht).trans (congrArg _ hpush), s.hartHalt_halted k, s.hartHalt_stopped k, hqueue,
    ho.withDen d⟩

/-! ### Watchdog 4 -/

theorem State.wdtFire_safe (s : State) : s.wdtFire 4 = ((s.expired 4).raise .core 12).fatal 2 0 := rfl

theorem State.fatal_up {b rail : Nat} (h : s.devUp = true) : s.fatal b rail = s.fatalNow b rail := by
  unfold State.devUp at h
  unfold State.fatal
  split
  · next hd => rw [hd] at h; cases h
  · next hd => rw [hd] at h; cases h
  · rfl

theorem wdtExpire_safe (hu : s.devUp = true) (he : s.on .core CORE.WDT_EN 4 = true) (hx : s.cores.expired[4] = false)
    (ht : s.cores.kicked[4] + s.rd .core CORE.WDT4_TIMEOUT * 500 ≤ s.dclk) :
    ∃ t, exec (.wdtExpire 4) s = .next t ∧ t.event .core 12 = true ∧ t.power.dev = .fault ∧ t.rd .pwr (fatalRow 2) = 1 := by
  let u := (s.expired 4).raise .core 12
  have hd : s.wdtDue 4 = true := by
    have hlate : decide (s.cores.kicked[4] + 500 * s.wdtTimeout 4 ≤ s.dclk) = true := decide_eq_true (by
      show s.cores.kicked[4] + 500 * s.rd .core CORE.WDT4_TIMEOUT ≤ s.dclk
      omega)
    show (s.on .core CORE.WDT_EN 4 && !s.cores.expired[4] && decide (s.cores.kicked[4] + 500 * s.wdtTimeout 4 ≤ s.dclk)) = true
    rw [he, hx, hlate]
    rfl
  have hexec : exec (.wdtExpire 4) s = .next (u.fatalNow 2 0) := by
    show execWdtExpire 4 s = _
    unfold execWdtExpire
    rw [hu, hd, State.wdtFire_safe, State.fatal_up (s := u) hu]
    rfl
  obtain ⟨hkept, hdev⟩ := u.fatalNow_fault 0 (show (2 : Nat) ≠ 0 by decide)
  have hevent : (u.wr .pwr (fatalRow 2) 1).event .core 12 = true := by
    rw [State.event, State.wr_rd_page _ _ (by simp) rfl rfl]
    exact State.raise_event_same _ _ _ (by decide)
  exact ⟨_, hexec, hkept.event hevent, hdev, hkept.cause.trans (State.wr_rd_same _ _ _ _ _)⟩

end Sys2Proof.Machine

namespace Sys2Proof

open Machine

/-- Settles O40: each write acts on the bits of the core it names, and the entry into FAULT that watchdog 4 brings about keeps the
event and the cause that name it. -/
theorem hartsAndWatchdogs : Obligations.HartsAndWatchdogs := by
  refine ⟨fun _ _ h _ hh => hartRun_runs h hh, ?_, fun _ _ _ h hk => hartReset_resets h hk, fun _ k hu => coreMemUe_halts hu k,
    fun _ hu => coreMemUe_stopsSafe hu, fun _ _ _ h hk hd => wdtKick_restarts h hk hd,
    fun _ _ _ h hd hl => wdtKick_late h hd hl, ?_, ?_, fun _ _ hu he hx ht => wdtExpire_app hu he hx ht,
    fun _ hu he hx ht => wdtExpire_safe hu he hx ht,
    fun _ _ _ hu he hx ht hq hk hd hw => wdtHalt_halts hu he hx ht hq hk hd hw⟩
  · intro s req data h hr
    exact refused_posted h (by decide) rfl (State.hartWrite_foreign _ hr)
  · intro s req k key h hk hkey
    exact refused_posted h (by decide) rfl (State.wdtKick_badKey hk hkey)
  · intro s req key h hr
    exact refused_posted h (by decide) rfl (State.wdtKick_foreign _ hr)

end Sys2Proof
end

section
/-! PROOFS. The bytes of a burst: a number of little-endian bytes, and what a masked write leaves of it (R169, R174). -/

namespace Sys2Proof.Machine

theorem Memory.readNat_byte (m : List Host.Cell) (a : Nat) {i n : Nat} (h : i < n) :
    Memory.readNat m a n / 2 ^ (8 * i) % 256 = (Memory.read m (a + i)).toNat := by
  induction n generalizing a i with
  | zero => omega
  | succ n ih =>
    have hb : (Memory.read m a).toNat < 256 := (Memory.read m a).isLt
    rw [Memory.readNat]
    cases i with
    | zero =>
      rw [Nat.mul_zero, Nat.pow_zero, Nat.div_one, Nat.add_zero, Nat.add_mul_mod_self_left, Nat.mod_eq_of_lt hb]
      rfl
    | succ i =>
      rw [show 8 * (i + 1) = 8 + 8 * i by omega, Nat.pow_add, ← Nat.div_div_eq_div_mul,
        Nat.add_mul_div_left _ _ (by decide), Nat.div_eq_of_lt hb, Nat.zero_add, ih _ (by omega), Nat.add_right_comm, Nat.add_assoc]

theorem Memory.read_writeAll_inside (m : List Host.Cell) (a : Nat) {l : List Byte} {i : Nat} (h : i < l.length) :
    Memory.read (Memory.writeAll m a l) (a + i) = l[i] := by
  induction l generalizing m a i with
  | nil => cases h
  | cons x l ih =>
    rw [Memory.writeAll]
    cases i with
    | zero =>
      rw [Memory.read_writeAll_outside _ _ _ _ (Or.inl (by omega)), Memory.read_write]
      exact if_pos rfl
    | succ i =>
      rw [show a + (i + 1) = a + 1 + i by omega, ih _ _ (Nat.lt_of_succ_lt_succ h)]
      rfl

theorem burstMerge_length (old data : Nat) (mask : BitVec 64) : (burstMerge old data mask).length = 64 := by
  rw [burstMerge, List.length_map, List.length_range]

/-- A byte of a burst after a masked write: the data's where the mask names it, else the old one. -/
theorem Memory.read_burstMerge (m : List Host.Cell) (a data : Nat) (mask : BitVec 64) {i : Nat} (h : i < 64) :
    Memory.read (Memory.writeAll m a (burstMerge (Memory.readNat m a 64) data mask)) (a + i) =
      if mask.toNat.testBit i then BitVec.ofNat 8 (data / 2 ^ (8 * i)) else Memory.read m (a + i) := by
  rw [Memory.read_writeAll_inside m a (by rw [burstMerge_length]; exact h)]
  simp only [burstMerge, List.getElem_map, List.getElem_range]
  split
  · rfl
  · refine BitVec.eq_of_toNat_eq ?_
    rw [BitVec.toNat_ofNat]
    exact Memory.readNat_byte m a h

theorem mem_risingInsert (l : List Nat) (x : Nat) : x ∈ risingInsert l x := by
  induction l with
  | nil => exact List.mem_singleton.2 rfl
  | cons y l ih =>
    unfold risingInsert
    split
    · exact List.mem_cons_self ..
    · split
      · next h => exact h ▸ List.mem_cons_self ..
      · exact List.mem_cons_of_mem _ ih

theorem contains_filter_ne (l : List Nat) (x : Nat) : (l.filter fun b => b != x).contains x = false := by
  simp [List.mem_filter]

end Sys2Proof.Machine
end

section
/-! PROOFS. The one request that waits on the spool's ports is served at once, or held (R160, R161, R167). -/

namespace Sys2Proof.Machine

open Reg

variable {s : State} {r : SpoolReq}

/-! ### A queue of one request -/

theorem State.waiting_one (h : s.ddr.queue = [r]) (p : Nat) :
    s.waiting (subOf r.addr) p = if r.port = p then [r] else [] := by
  unfold State.waiting
  rw [h, List.filter_cons, List.filter_nil, beq_self_eq_true, Bool.true_and]
  by_cases hp : r.port = p <;> simp [hp]

theorem State.waiting_own (h : s.ddr.queue = [r]) : s.waiting (subOf r.addr) r.port = [r] := by
  rw [State.waiting_one h, if_pos rfl]

theorem State.waits_iff (h : s.ddr.queue = [r]) (p : Nat) :
    (!(s.waiting (subOf r.addr) p).isEmpty) = true ↔ r.port = p := by
  rw [State.waiting_one h]
  by_cases hp : r.port = p <;> simp [hp]

theorem State.fgWaits_one (h : s.ddr.queue = [r]) (hp : r.port < 4) : s.fgWaits (subOf r.addr) = true :=
  List.any_eq_true.2 ⟨r.port, List.mem_range.2 hp, (State.waits_iff h _).2 rfl⟩

/-- Among the four ports from any one on stands every port. -/
theorem port_in_turn {q : Nat} (p : Nat) (h : q < 4) : q ∈ (List.range 4).map fun i => (p + 1 + i) % 4 := by
  refine List.mem_map.2 ⟨(q + 3 * (p + 1)) % 4, List.mem_range.2 (Nat.mod_lt _ (by decide)), ?_⟩
  omega

theorem State.portTurn_one (h : s.ddr.queue = [r]) (hp : r.port < 4) : ∃ n, s.portTurn (subOf r.addr) = some (r.port, n) := by
  have hfind (p : Nat) : ((List.range 4).map fun i => (p + 1 + i) % 4).find?
      (fun q => !(s.waiting (subOf r.addr) q).isEmpty) = some r.port := by
    have hsome := List.find?_isSome (p := fun q => !(s.waiting (subOf r.addr) q).isEmpty) |>.2
      ⟨r.port, port_in_turn p hp, (State.waits_iff h _).2 rfl⟩
    obtain ⟨q, hq⟩ := Option.isSome_iff_exists.1 hsome
    have hwaits : (!(s.waiting (subOf r.addr) q).isEmpty) = true :=
      List.find?_some (p := fun q => !(s.waiting (subOf r.addr) q).isEmpty) hq
    rw [hq, (State.waits_iff h q).1 hwaits]
  unfold State.portTurn
  dsimp only
  split
  · next hb =>
    rw [Bool.and_eq_true, State.waits_iff h] at hb
    exact ⟨_, by rw [← hb.1]⟩
  · exact ⟨1, by rw [hfind]; rfl⟩

theorem State.portFirst_one (h : s.ddr.queue = [r]) : s.portFirst (subOf r.addr) r.port = some r := by
  unfold State.portFirst
  dsimp only
  rw [State.waiting_own h]
  split
  · next x hx => rw [List.mem_singleton.1 (List.mem_of_find?_eq_some hx)]
  · rfl

theorem State.serveSlot_one (h : s.ddr.queue = [r]) (hp : r.port < 4) (hpanic : s.on .ddr DDR.STAT_PANIC = false) :
    ∃ turn, s.serveSlot (subOf r.addr) = State.serveReq { s with ddr := { s.ddr with turn := turn } } r := by
  obtain ⟨n, hturn⟩ := State.portTurn_one h hp
  refine ⟨s.ddr.turn.set (subOf r.addr) (r.port, n), ?_⟩
  unfold State.serveSlot
  rw [State.fgWaits_one h hp, hpanic, hturn]
  dsimp only
  rw [State.portFirst_one h]
  rfl

theorem State.serveSlot_panic (h : s.ddr.queue = [r]) (hp : r.port < 4) (h1 : r.port ≠ 1)
    (hpanic : s.on .ddr DDR.STAT_PANIC = true) : s.serveSlot (subOf r.addr) = s := by
  unfold State.serveSlot
  rw [State.fgWaits_one h hp, hpanic, State.waiting_one h, if_neg h1]
  rfl

/-! ### A request at an idle port -/

/-- What the service of a request does, once its row is open. -/
def State.performs (s : State) (r : SpoolReq) : State :=
  match r.op with
  | .read kind wait => s.serveRead r.user r.addr kind wait
  | .write data mask poison ue => s.burstWrite r.user.port (r.addr / 64 * 64) data.toNat mask poison ue
  | .scrub kind => s.scrubNext kind

/-- The ports once a request that found them idle has been granted: the row it opened, and whose turn it is. -/
def State.granted (s : State) (rows : List (Nat × Nat)) (turn : Vector (Nat × Nat) 4) : State :=
  { s with ddr := { s.ddr with rows := rows, turn := turn, lastReq := s.dclk } }

/-- A request that waits, alone, since now. -/
def State.asked (s : State) (r : SpoolReq) : State := { s with ddr := { s.ddr with queue := [r], lastReq := s.dclk } }

theorem State.serveReq_one (s : State) (r : SpoolReq) (turn : Vector (Nat × Nat) 4) (hq : s.ddr.queue = []) :
    ∃ rows, State.serveReq { s.asked r with ddr := { (s.asked r).ddr with turn := turn } } r = (s.granted rows turn).performs r := by
  have hs (rows : List (Nat × Nat)) : State.granted s rows turn =
      { s with ddr := { s.ddr with queue := [r].erase r, rows := rows, turn := turn, lastReq := s.dclk } } := by
    rw [State.granted, List.erase_cons_head, ← hq]
  exact ⟨_, congrArg (fun t : State => t.performs r) (hs _).symm⟩

theorem State.enqueue_idle (hq : s.ddr.queue = []) : s.enqueue r =
    if s.portsRun then State.serveSlot { s with ddr := { s.ddr with queue := [r] } } (subOf r.addr)
    else { s with ddr := { s.ddr with queue := [r] } } := by
  have hroom : (s.waiting (subOf r.addr) r.port).length < portDepth r.port := by
    rw [State.waiting, hq, List.filter_nil, List.length_nil]
    unfold portDepth
    split
    · decide
    · split <;> decide
  unfold State.enqueue
  dsimp only
  rw [if_pos hroom, hq]
  rfl

theorem State.spoolAsk_refused (h : s.portReaches r.user r.addr = false) : s.spoolAsk r = s.portError r.user := by
  unfold State.spoolAsk
  exact if_pos (by rw [h]; rfl)

theorem State.spoolAsk_waked (h : s.portReaches r.user r.addr = true) (hf : s.ddr.forSett = false)
    (hd : s.ddrState = ddrActive ∨ s.ddrState = ddrSelf) : s.spoolAsk r = s.portWake.enqueue r := by
  unfold State.spoolAsk
  rw [h, if_neg (by decide), hf, if_neg (by rcases hd with hd | hd <;> rw [hd] <;> decide)]

/-- A port has presented a request. -/
def State.presented (s : State) : State := { s with ddr := { s.ddr with lastReq := s.dclk } }

theorem State.portWake_eq (hf : s.ddr.forSett = false) : s.portWake =
    if s.ddrState = ddrEntry then s.presented.srAbort else if s.ddrState = ddrSelf then s.presented.setDdr ddrExit
    else s.presented := if_neg (show ¬ s.ddr.forSett = true by rw [hf]; decide)

/-- The controller is ACTIVE and not on the way to SETT, and no request waits. -/
structure SpoolIdle (s : State) : Prop where
  active : s.ddrState = ddrActive
  stays : s.ddr.forSett = false
  empty : s.ddr.queue = []

theorem State.spoolAsk_idle (h : SpoolIdle s) (hr : s.portReaches r.user r.addr = true) :
    s.spoolAsk r = (s.asked r).serveSlot (subOf r.addr) := by
  have hwake : s.portWake = s.presented := by
    rw [State.portWake_eq h.stays, h.active]
    rfl
  have hruns : s.presented.portsRun = true := by
    rw [State.portsRun, show s.presented.ddrState = ddrActive from h.active]
    rfl
  rw [State.spoolAsk_waked hr h.stays (Or.inl h.active), hwake,
    State.enqueue_idle (s := s.presented) h.empty, if_pos hruns]
  rfl

theorem State.spoolAsk_served (h : SpoolIdle s) (hpanic : s.on .ddr DDR.STAT_PANIC = false)
    (hr : s.portReaches r.user r.addr = true) (hp : r.port < 4) :
    ∃ rows turn, s.spoolAsk r = (s.granted rows turn).performs r := by
  obtain ⟨turn, hslot⟩ := State.serveSlot_one (s := s.asked r) rfl hp hpanic
  obtain ⟨rows, hserve⟩ := s.serveReq_one r turn h.empty
  exact ⟨rows, turn, by rw [State.spoolAsk_idle h hr, hslot, hserve]⟩

theorem State.spoolAsk_panic (h : SpoolIdle s) (hpanic : s.on .ddr DDR.STAT_PANIC = true)
    (hr : s.portReaches r.user r.addr = true) (hp : r.port < 4) (h1 : r.port ≠ 1) : s.spoolAsk r = s.asked r := by
  rw [State.spoolAsk_idle h hr]
  exact State.serveSlot_panic (s := s.asked r) rfl hp h1 hpanic

/-! ### A request in self-refresh -/

theorem ddrRuns_onPages : CalRun.onPages (fun r => r.item == 7) ((List.finRange 4).map .ddrs) := by
  intro r p hr hp
  rw [beq_iff_eq] at hr
  rw [hr] at hp
  unfold calPage at hp
  split_ifs at hp <;> cases hp <;> simp at *

theorem State.setDdrs_kept (v : Nat) (ks : List (Fin 4)) (s : State) :
    let t := s.each ks fun t k => t.setPage (.ddrs k) v
    t.ddrState = s.ddrState ∧ t.ddr = s.ddr ∧ t.reply = s.reply := by
  induction ks generalizing s with
  | nil => exact ⟨rfl, rfl, rfl⟩
  | cons k ks ih =>
    obtain ⟨hstate, hddr, hreply⟩ := ih (s.setPage (.ddrs k) v)
    exact ⟨hstate.trans (State.setPage_rd_page _ _ (by simp) rfl), hddr.trans (State.setPage_ddr _ _ _),
      hreply.trans (State.setPage_reply _ _ _)⟩

theorem State.setDdr_kept (s : State) {v : Nat} (hv : v < 16) :
    (s.setDdr v).ddrState = v ∧ (s.setDdr v).ddr = s.ddr ∧ (s.setDdr v).reply = s.reply := by
  have hends : ∀ u : State, u = (if v = ddrActive then s else s.calAbort fun r => r.item == 7) →
      u.ddr = s.ddr ∧ u.reply = s.reply := by
    rintro u rfl
    split
    · exact ⟨rfl, rfl⟩
    · have h := s.calAbort_only ddrRuns_onPages
      exact ⟨by rw [h.rest], by rw [h.rest]⟩
  obtain ⟨hd, hr⟩ := hends _ rfl
  obtain ⟨hstate, hddr, hreply⟩ := State.setDdrs_kept v (List.finRange 4)
    (State.setPage (if v = ddrActive then s else s.calAbort fun r => r.item == 7) .ddr v)
  exact ⟨hstate.trans (State.setPage_rd_state _ _ _ hv), (hddr.trans (State.setPage_ddr _ _ _)).trans hd,
    (hreply.trans (State.setPage_reply _ _ _)).trans hr⟩

theorem State.spoolAsk_asleep (hd : s.ddrState = ddrSelf) (hf : s.ddr.forSett = false) (hq : s.ddr.queue = [])
    (hr : s.portReaches r.user r.addr = true) :
    (s.spoolAsk r).ddrState = ddrExit ∧ (s.spoolAsk r).ddr.queue = [r] ∧ (s.spoolAsk r).reply = s.reply := by
  let u := s.presented
  obtain ⟨hstate, hddr, hreply⟩ := u.setDdr_kept (v := ddrExit) (by decide)
  have hwake : s.portWake = u.setDdr ddrExit := by
    rw [State.portWake_eq hf, hd]
    rfl
  have hruns : (u.setDdr ddrExit).portsRun = false := by
    rw [State.portsRun, hstate]
    rfl
  have hask : s.spoolAsk r = { u.setDdr ddrExit with ddr := { (u.setDdr ddrExit).ddr with queue := [r] } } := by
    rw [State.spoolAsk_waked hr hf (Or.inr hd), hwake, State.enqueue_idle (by rw [hddr]; exact hq), hruns]
    rfl
  rw [hask]
  generalize u.setDdr ddrExit = t at hstate hreply
  exact ⟨hstate, rfl, hreply⟩

end Sys2Proof.Machine
end

section
/-! PROOFS. What a served read and a served write do: the burst, its errors and its bytes (R169 to R172, R174). -/

namespace Sys2Proof.Machine

open Reg

variable {s t : State} {user : SpoolUser} {a : Nat}

/-! ### Changes beside the register file -/

theorem OnlyFields.withReply {fs : List FieldAt} (h : OnlyFields fs s t) (x : Reply) :
    OnlyFields fs (s.withReply x) (t.withReply x) := ⟨h.fields, by rw [State.withReply, h.rest]; rfl⟩

theorem OnlyFields.withDdr {fs : List FieldAt} (h : OnlyFields fs s t) (x : Ddr) :
    OnlyFields fs { s with ddr := x } { t with ddr := x } := ⟨h.fields, by rw [h.rest]⟩

theorem OnlyFields.ddr_same {fs : List FieldAt} (h : OnlyFields fs s t) : t.ddr = s.ddr := by rw [h.rest]

theorem OnlyFields.each_mem {fs : List FieldAt} {α : Type} {l : List α} {f : State → α → State} (h : OnlyFields fs s t)
    (hf : ∀ u x, x ∈ l → OnlyFields fs s u → OnlyFields fs s (f u x)) : OnlyFields fs s (t.each l f) := by
  induction l generalizing t with
  | nil => exact h
  | cons x l ih =>
    exact ih (hf t x (List.mem_cons_self ..) h) fun u y hy => hf u y (List.mem_cons_of_mem _ hy)

/-! ### Reads -/

/-- The record of the longest wait of P1. -/
def State.stalled (s : State) (user : SpoolUser) (wait : Nat) : State :=
  s.when (user == .fetch && decide (s.rd .ddr DDR.STALL_MAX < wait)) fun t => t.wr .ddr DDR.STALL_MAX wait

theorem State.stalled_only (s : State) (user : SpoolUser) (wait : Nat) :
    OnlyFields [(.ddr, DDR.STALL_MAX, 0)] s (s.stalled user wait) :=
  OnlyFields.when _ _ (OnlyFields.refl _ s) fun _ hu => OnlyFields.wr _ _ _ _ hu (by simp)

/-- The data of the burst at an address. -/
def State.burstAt (s : State) (a : Nat) : BitVec 512 := BitVec.ofNat 512 (Memory.readNat s.ddr.mem (a / 64 * 64) 64)

/-- A read that returns no data. -/
def State.readFails (s : State) (user : SpoolUser) (a : Nat) (dev : BitVec 5) : State :=
  (s.ddrUe a user.port dev false).portError user

theorem State.serveRead_eq (s : State) (user : SpoolUser) (a : Nat) (kind : ReadKind) (wait : Nat) :
    s.serveRead user a kind wait =
      if (s.stalled user wait).ddr.poison.contains (a / 64) then (s.stalled user wait).readFails user a 0
      else match kind with
        | .clean => (s.stalled user wait).withReply (.burst user.port ((s.stalled user wait).burstAt a))
        | .corrected dev =>
          ((s.stalled user wait).ddrCe a user.port dev false).withReply (.burst user.port ((s.stalled user wait).burstAt a))
        | .uncorrectable dev => (s.stalled user wait).readFails user a dev := by
  cases kind <;> rfl

theorem State.serveRead_clean (wait : Nat) (hp : s.ddr.poison.contains (a / 64) = false) :
    s.serveRead user a .clean wait = (s.stalled user wait).withReply (.burst user.port (s.burstAt a)) := by
  rw [State.serveRead_eq, (s.stalled_only user wait).ddr_same, hp, State.burstAt, (s.stalled_only user wait).ddr_same]
  rfl

theorem State.serveRead_corrected (dev : BitVec 5) (wait : Nat) (hp : s.ddr.poison.contains (a / 64) = false) :
    s.serveRead user a (.corrected dev) wait =
      ((s.stalled user wait).ddrCe a user.port dev false).withReply (.burst user.port (s.burstAt a)) := by
  rw [State.serveRead_eq, (s.stalled_only user wait).ddr_same, hp, State.burstAt, (s.stalled_only user wait).ddr_same]
  rfl

theorem State.serveRead_fails {kind : ReadKind} (wait : Nat)
    (h : s.ddr.poison.contains (a / 64) = true ∨ ∃ dev, kind = .uncorrectable dev) :
    ∃ dev, s.serveRead user a kind wait = (s.stalled user wait).readFails user a dev := by
  rw [State.serveRead_eq, (s.stalled_only user wait).ddr_same]
  by_cases hp : s.ddr.poison.contains (a / 64) = true
  · exact ⟨0, if_pos hp⟩
  · obtain ⟨dev, rfl⟩ := h.resolve_left hp
    exact ⟨dev, if_neg hp⟩

/-! ### Corrected errors (R170, R172) -/

/-- The fields that log a corrected error, beside the count. -/
def ceFields (k : Fin 4) : List FieldAt :=
  [(.ddr, DDR.LAST_CE, 0), (.ddr, HDR.PG_EVT_RAW, 0)] ++ (List.range 5).map fun j => (.ddrs k, DDRS.CE_DEV, j)

/-- A corrected error is counted and logged. -/
def State.ceLogged (s : State) (a port : Nat) (dev : BitVec 5) : State :=
  let s := s.each (List.range 5) fun t k => t.when (dev.toNat.testBit k) fun u => u.bump (.ddrs (subOf a)) DDRS.CE_DEV 1 k
  (s.wr .ddr DDR.LAST_CE (s.ddrLog a port dev false false)).raise .ddr 8

theorem State.ceLogged_only (s : State) (a port : Nat) (dev : BitVec 5) :
    OnlyFields (ceFields (subOf a)) s (s.ceLogged a port dev) := by
  have hdev : OnlyFields (ceFields (subOf a)) s (s.each (List.range 5) fun t k =>
      t.when (dev.toNat.testBit k) fun u => u.bump (.ddrs (subOf a)) DDRS.CE_DEV 1 k) :=
    OnlyFields.each_mem (OnlyFields.refl _ s) fun u k hk hu =>
      OnlyFields.when _ _ hu fun _ hv => OnlyFields.bump _ _ _ _ hv
        (List.mem_append_right _ (List.mem_map.2 ⟨k, hk, rfl⟩))
  exact OnlyFields.raise _ _ (OnlyFields.wr _ _ _ _ hdev (by simp [ceFields])) (by simp [ceFields])

theorem State.ceLogged_event (s : State) (a port : Nat) (dev : BitVec 5) : (s.ceLogged a port dev).event .ddr 8 = true :=
  State.raise_event_same _ _ _ (by decide)

theorem State.ceLogged_rd (s : State) (a port : Nat) (dev : BitVec 5) :
    (s.ceLogged a port dev).rd .ddr DDR.CE_CNT = s.rd .ddr DDR.CE_CNT := by
  refine (s.ceLogged_only a port dev).fields.rd_clear fun f hf => ?_
  rcases List.mem_append.1 hf with hf | hf
  · simp only [List.mem_cons, List.not_mem_nil, or_false] at hf
    rcases hf with rfl | rfl <;> exact Or.inl rfl
  · obtain ⟨k, hk, rfl⟩ := List.mem_map.1 hf
    have hin : ∀ k ∈ List.range 5, Row.inPage DDRS.CE_DEV k = true := by decide
    exact Or.inr ⟨by simp, hin k hk, rfl⟩

/-- A write-back of the burst waits. -/
def State.backed (s : State) (a : Nat) : State := { s with ddr := { s.ddr with writeBack := s.ddr.writeBack ++ [a / 64] } }

theorem State.ddrCe_eq (port : Nat) (dev : BitVec 5) (h : (s.writeBacks (subOf a)).length < 8) :
    s.ddrCe a port dev false = ((s.bump .ddr DDR.CE_CNT).ceLogged a port dev).backed a := by
  have hw : (((s.bump .ddr DDR.CE_CNT).ceLogged a port dev).writeBacks (subOf a)).length < 8 := by
    rw [State.writeBacks, ((s.bump .ddr DDR.CE_CNT).ceLogged_only a port dev).ddr_same]
    exact h
  exact if_pos (decide_eq_true hw)

theorem State.ddrCe_cnt (port : Nat) (dev : BitVec 5) (h : (s.writeBacks (subOf a)).length < 8) :
    (s.ddrCe a port dev false).rd .ddr DDR.CE_CNT = min (s.rd .ddr DDR.CE_CNT + 1) (2 ^ 32 - 1) := by
  rw [State.ddrCe_eq port dev h]
  exact (State.ceLogged_rd _ _ _ _).trans (State.bump_rd_same _ _ _ _ _)

theorem State.ddrCe_event (port : Nat) (dev : BitVec 5) (h : (s.writeBacks (subOf a)).length < 8) :
    (s.ddrCe a port dev false).event .ddr 8 = true := by
  rw [State.ddrCe_eq port dev h]
  exact State.ceLogged_event _ _ _ _

theorem State.ddrCe_only (port : Nat) (dev : BitVec 5) (h : (s.writeBacks (subOf a)).length < 8) :
    OnlyFields ((.ddr, DDR.CE_CNT, 0) :: ceFields (subOf a)) (s.backed a) (s.ddrCe a port dev false) := by
  rw [State.ddrCe_eq port dev h]
  have hb : OnlyFields ((.ddr, DDR.CE_CNT, 0) :: ceFields (subOf a)) s (s.bump .ddr DDR.CE_CNT) :=
    OnlyFields.bump _ _ _ _ (OnlyFields.refl _ s) (by simp)
  have hl := hb.trans ((State.ceLogged_only _ a port dev).mono fun _ hf => List.mem_cons_of_mem _ hf)
  rw [State.backed, State.backed, hl.ddr_same]
  exact hl.withDdr _

/-! ### Uncorrectable errors (R171, R172) -/

/-- The fields that log an uncorrectable error. -/
def ueFields (k : Fin 4) : List FieldAt := [(.ddr, DDR.UE_CNT, 0), (.ddrs k, DDRS.UE_CNT, 0), (.ddr, DDR.LAST_UE, 0)]

theorem ueFields_off (k : Fin 4) : FieldAt.off (ueFields k) HDR.PG_ERR_CODE_CODE 0 = true ∧
    FieldAt.off (ueFields k) HDR.PG_ERR_CODE_VALID 0 = true := by simp +decide [ueFields]

/-- An uncorrectable error is counted and logged. -/
def State.ueLogged (s : State) (a port : Nat) (dev : BitVec 5) (scrub : Bool) : State :=
  ((s.bump .ddr DDR.UE_CNT).bump (.ddrs (subOf a)) DDRS.UE_CNT).wr .ddr DDR.LAST_UE
    (s.ddrLog a port dev scrub (s.ddr.poison.contains (a / 64)))

/-- The error and the event that report it. -/
def State.ueShown (s : State) (a : Nat) : State := (s.err .ddr 0x20 (a / 64 * 64 % 2 ^ 32)).raise .ddr 9

/-- What the Den's entry of an uncorrectable error leaves: the DDR page, the reply and the spool. -/
structure UeShown (s t : State) : Prop where
  page : ∀ r : Row, Row.inPage r 0 = true → t.rd .ddr r = s.rd .ddr r
  reply : t.reply = s.reply
  ddr : t.ddr = { s.ddr with lastUe := t.ddr.lastUe }

theorem UeShown.refl (s : State) : UeShown s s := ⟨fun _ _ => rfl, rfl, rfl⟩

theorem State.denHw_kept (s : State) (type src payload : Nat) :
    (∀ r : Row, Row.inPage r 0 = true → (s.denHw type src payload).rd .ddr r = s.rd .ddr r) ∧
      (s.denHw type src payload).reply = s.reply ∧ (s.denHw type src payload).ddr = s.ddr := by
  have h : OnlyFields denFields { s with den := (s.denHw type src payload).den } (s.denHw type src payload) := s.denPush_den _
  exact ⟨fun r hr => h.fields.rd_within (ps := [.den]) (by simp +decide [denFields]) (by simp) r 0 hr, by rw [h.rest], h.ddr_same⟩

theorem State.ddrUeDen_shown (s : State) (a log : Nat) : UeShown s (s.ddrUeDen a log) := by
  obtain ⟨hpage, hreply, hddr⟩ := s.denHw_kept 2 0x14 (log + 2 ^ 64 * s.curPage + 2 ^ 96 * s.curWl)
  unfold State.ddrUeDen State.denHwTold
  dsimp only
  generalize s.denHw 2 0x14 _ = u at hpage hreply hddr ⊢
  have hlast (x : Option (Nat × Nat)) : { u.ddr with lastUe := x } = { s.ddr with lastUe := x } := by rw [hddr]
  unfold State.when
  split
  · exact ⟨hpage, hreply, hlast _⟩
  · exact ⟨hpage, hreply, hlast u.ddr.lastUe⟩

theorem State.ddrUe_shown (s : State) (a port : Nat) (dev : BitVec 5) (scrub : Bool) :
    UeShown ((s.ueLogged a port dev scrub).ueShown a) (s.ddrUe a port dev scrub) := by
  unfold State.ddrUe
  extract_lets log counted shown
  change UeShown shown _
  split
  · exact UeShown.refl _
  · exact State.ddrUeDen_shown _ _ _

theorem State.ueLogged_only (s : State) (a port : Nat) (dev : BitVec 5) (scrub : Bool) :
    OnlyFields (ueFields (subOf a)) s (s.ueLogged a port dev scrub) :=
  OnlyFields.wr _ _ _ _ (OnlyFields.bump _ _ _ _ (OnlyFields.bump _ _ _ _ (OnlyFields.refl _ s) (by simp [ueFields]))
    (by simp [ueFields])) (by simp [ueFields])

theorem State.ueShown_ddr (s : State) (a : Nat) : (s.ueShown a).ddr = s.ddr := by
  have h : OnlyFields (errorFields .ddr) s (s.err .ddr 0x20 (a / 64 * 64 % 2 ^ 32)) :=
    OnlyFields.err _ _ _ (OnlyFields.refl _ s) fun _ hf => hf
  exact h.ddr_same

theorem State.ddrUe_error (s : State) (a port : Nat) (dev : BitVec 5) (scrub : Bool) :
    (s.ddrUe a port dev scrub).errorShown .ddr = s.errorAfter .ddr 0x20 := by
  have h := s.ddrUe_shown a port dev scrub
  have hshown : (s.ddrUe a port dev scrub).errorShown .ddr = ((s.ueLogged a port dev scrub).ueShown a).errorShown .ddr := by
    unfold State.errorShown State.on
    rw [h.page _ rfl, h.page _ rfl]
  rw [hshown, State.ueShown, State.raise_errorShown, State.err_errorShown _ .ddr 0x20 _ (by decide)]
  have hkept : (s.ueLogged a port dev scrub).errorShown .ddr = s.errorShown .ddr :=
    (s.ueLogged_only a port dev scrub).fields.errorShown_off .ddr (ueFields_off _).1 (ueFields_off _).2
  exact State.errorAfter_congr hkept _

theorem State.ddrUe_event (s : State) (a port : Nat) (dev : BitVec 5) (scrub : Bool) :
    (s.ddrUe a port dev scrub).event .ddr 9 = true := by
  rw [State.event, (s.ddrUe_shown a port dev scrub).page _ rfl]
  exact State.raise_event_same _ _ _ (by decide)

theorem State.ddrUe_cnt (s : State) (a port : Nat) (dev : BitVec 5) (scrub : Bool) :
    (s.ddrUe a port dev scrub).rd .ddr DDR.UE_CNT = min (s.rd .ddr DDR.UE_CNT + 1) (2 ^ 32 - 1) := by
  rw [(s.ddrUe_shown a port dev scrub).page _ rfl, State.ueShown, State.raise_rd_apart _ _ _ _ rfl, State.err_rd_apart _ _ _ _ _ rfl,
    State.ueLogged, State.wr_rd_apart _ _ _ _ rfl, State.bump_rd_page _ _ (by simp) rfl rfl, State.bump_rd_same]
  rfl

theorem State.ddrUe_ddr (s : State) (a port : Nat) (dev : BitVec 5) (scrub : Bool) :
    (s.ddrUe a port dev scrub).ddr = { s.ddr with lastUe := (s.ddrUe a port dev scrub).ddr.lastUe } := by
  have h := (s.ddrUe_shown a port dev scrub).ddr
  rwa [State.ueShown_ddr, (s.ueLogged_only a port dev scrub).ddr_same] at h

theorem State.readFails_ddr (s : State) (user : SpoolUser) (a : Nat) (dev : BitVec 5) :
    (s.readFails user a dev).ddr = { s.ddr with lastUe := (s.readFails user a dev).ddr.lastUe } :=
  s.ddrUe_ddr a user.port dev false

theorem State.readFails_error (s : State) (user : SpoolUser) (a : Nat) (dev : BitVec 5) :
    (s.readFails user a dev).errorShown .ddr = s.errorAfter .ddr 0x20 := s.ddrUe_error a user.port dev false

theorem State.readFails_event (s : State) (user : SpoolUser) (a : Nat) (dev : BitVec 5) :
    (s.readFails user a dev).event .ddr 9 = true := s.ddrUe_event a user.port dev false

theorem State.readFails_cnt (s : State) (user : SpoolUser) (a : Nat) (dev : BitVec 5) :
    (s.readFails user a dev).rd .ddr DDR.UE_CNT = min (s.rd .ddr DDR.UE_CNT + 1) (2 ^ 32 - 1) :=
  s.ddrUe_cnt a user.port dev false

/-! ### The clauses of a read -/

/-- A request of a user's port. -/
theorem userPort_lt (user : SpoolUser) : user.port < 4 := by
  unfold SpoolUser.port
  split <;> decide

theorem exec_spoolRead {addr : BitVec 36} {kind : ReadKind} {wait : BitVec 16} (hu : s.devUp = true) :
    exec (.spoolReadReturn user addr kind wait) s =
      .next (s.spoolAsk { user, addr := addr.toNat, op := .read kind wait.toNat }) := if_pos hu

theorem exec_spoolRead_served {addr : BitVec 36} {kind : ReadKind} {wait : BitVec 16} (hu : s.devUp = true) (h : SpoolIdle s)
    (hpanic : s.on .ddr DDR.STAT_PANIC = false) (hr : s.portReaches user addr.toNat = true) :
    ∃ rows turn, exec (.spoolReadReturn user addr kind wait) s =
      .next ((s.granted rows turn).serveRead user addr.toNat kind wait.toNat) := by
  obtain ⟨rows, turn, hask⟩ := State.spoolAsk_served (r := { user, addr := addr.toNat, op := .read kind wait.toNat }) h hpanic hr
    (userPort_lt user)
  exact ⟨rows, turn, (exec_spoolRead hu).trans (congrArg _ hask)⟩

theorem spoolRead_clean {addr : BitVec 36} {wait : BitVec 16} (hu : s.devUp = true) (h : SpoolIdle s)
    (hpanic : s.on .ddr DDR.STAT_PANIC = false) (hr : s.portReaches user addr.toNat = true)
    (hp : s.ddr.poison.contains (addr.toNat / 64) = false) :
    ∃ t, exec (.spoolReadReturn user addr .clean wait) s = .next t ∧
      OnlyFields [(.ddr, DDR.STALL_MAX, 0)] { s with
        reply := .burst user.port (s.burstAt addr.toNat)
        ddr := { s.ddr with rows := t.ddr.rows, turn := t.ddr.turn, lastReq := s.dclk } } t := by
  obtain ⟨rows, turn, hexec⟩ := exec_spoolRead_served (kind := .clean) (wait := wait) hu h hpanic hr
  have ho := ((s.granted rows turn).stalled_only user wait.toNat).withReply (.burst user.port (s.burstAt addr.toNat))
  have hd := ho.ddr_same
  refine ⟨((s.granted rows turn).stalled user wait.toNat).withReply (.burst user.port (s.burstAt addr.toNat)),
    hexec.trans (congrArg _ (State.serveRead_clean _ hp)), ?_⟩
  generalize State.withReply (State.stalled _ _ _) _ = t at ho hd ⊢
  rw [hd]
  exact ho

theorem spoolRead_corrected {addr : BitVec 36} {dev : BitVec 5} {wait : BitVec 16} (hu : s.devUp = true) (h : SpoolIdle s)
    (hpanic : s.on .ddr DDR.STAT_PANIC = false) (hr : s.portReaches user addr.toNat = true)
    (hp : s.ddr.poison.contains (addr.toNat / 64) = false) (hw : (s.writeBacks (subOf addr.toNat)).length < 8) :
    ∃ t, exec (.spoolReadReturn user addr (.corrected dev) wait) s = .next t ∧
      t.rd .ddr DDR.CE_CNT = min (s.rd .ddr DDR.CE_CNT + 1) (2 ^ 32 - 1) ∧ t.event .ddr 8 = true ∧
      OnlyFields ((.ddr, DDR.STALL_MAX, 0) :: (.ddr, DDR.CE_CNT, 0) :: ceFields (subOf addr.toNat)) { s with
        reply := .burst user.port (s.burstAt addr.toNat)
        ddr := { s.ddr with
          writeBack := s.ddr.writeBack ++ [addr.toNat / 64], rows := t.ddr.rows, turn := t.ddr.turn, lastReq := s.dclk } } t := by
  obtain ⟨rows, turn, hexec⟩ := exec_spoolRead_served (kind := .corrected dev) (wait := wait) hu h hpanic hr
  let u := s.granted rows turn
  have hs := u.stalled_only user wait.toNat
  have hw' : ((u.stalled user wait.toNat).writeBacks (subOf addr.toNat)).length < 8 := by
    rw [State.writeBacks, hs.ddr_same]
    exact hw
  have hb : (u.stalled user wait.toNat).backed addr.toNat =
      { u.stalled user wait.toNat with ddr := (u.backed addr.toNat).ddr } := by
    rw [State.backed, State.backed, hs.ddr_same]
  have hc := (State.ddrCe_only user.port dev hw').withReply (.burst user.port (s.burstAt addr.toNat))
  rw [hb] at hc
  have ho := (((hs.withDdr (u.backed addr.toNat).ddr).withReply (.burst user.port (s.burstAt addr.toNat))).mono
    (fs := [(.ddr, DDR.STALL_MAX, 0)]) (gs := (.ddr, DDR.STALL_MAX, 0) :: (.ddr, DDR.CE_CNT, 0) :: ceFields (subOf addr.toNat))
    (by simp)).trans (hc.mono fun _ hf => List.mem_cons_of_mem _ hf)
  refine ⟨((u.stalled user wait.toNat).ddrCe addr.toNat user.port dev false).withReply (.burst user.port (s.burstAt addr.toNat)),
    hexec.trans (congrArg _ (State.serveRead_corrected dev _ hp)), ?_, State.ddrCe_event _ _ hw', ?_⟩
  · refine (State.ddrCe_cnt _ _ hw').trans ?_
    rw [hs.fields.rd_off _ _ _ rfl]
    rfl
  · have hd := ho.ddr_same
    generalize State.withReply (State.ddrCe _ _ _ _ _) _ = t at ho hd ⊢
    rw [hd]
    exact ho

theorem spoolRead_fails {addr : BitVec 36} {kind : ReadKind} {wait : BitVec 16} (hu : s.devUp = true) (h : SpoolIdle s)
    (hpanic : s.on .ddr DDR.STAT_PANIC = false) (hr : s.portReaches user addr.toNat = true)
    (hk : s.ddr.poison.contains (addr.toNat / 64) = true ∨ ∃ dev, kind = .uncorrectable dev) :
    ∃ t, exec (.spoolReadReturn user addr kind wait) s = .next t ∧ t.errorShown .ddr = s.errorAfter .ddr 0x20 ∧
      t.event .ddr 9 = true ∧ t.rd .ddr DDR.UE_CNT = min (s.rd .ddr DDR.UE_CNT + 1) (2 ^ 32 - 1) ∧
      t.reply = (s.portError user).reply ∧ t.ddr.mem = s.ddr.mem ∧ t.ddr.queue = [] := by
  obtain ⟨rows, turn, hexec⟩ := exec_spoolRead_served (wait := wait) hu h hpanic hr
  let u := s.granted rows turn
  have hs := u.stalled_only user wait.toNat
  obtain ⟨dev, hserve⟩ := State.serveRead_fails (s := u) (user := user) (a := addr.toNat) wait.toNat hk
  have hd := (u.stalled user wait.toNat).readFails_ddr user addr.toNat dev
  have hshown : (u.stalled user wait.toNat).errorShown .ddr = s.errorShown .ddr := hs.fields.errorShown_off _ rfl rfl
  have hcnt : (u.stalled user wait.toNat).rd .ddr DDR.UE_CNT = s.rd .ddr DDR.UE_CNT := hs.fields.rd_off _ _ _ rfl
  rw [hs.ddr_same] at hd
  refine ⟨(u.stalled user wait.toNat).readFails user addr.toNat dev, hexec.trans (congrArg _ hserve),
    (State.readFails_error _ _ _ _).trans (State.errorAfter_congr hshown _), State.readFails_event _ _ _ _, ?_, rfl, ?_, ?_⟩
  · rw [State.readFails_cnt, hcnt]
  · rw [hd]
    rfl
  · rw [hd]
    exact h.empty

/-! ### The clauses of a write -/

theorem exec_spoolWrite {addr : BitVec 36} {data : BitVec 512} {mask : BitVec 64} {poison ue : Bool} (hu : s.devUp = true) :
    exec (.spoolWriteAck user addr data mask poison ue) s =
      .next (s.spoolAsk { user, addr := addr.toNat, op := .write data mask poison ue }) := if_pos hu

theorem exec_spoolWrite_served {addr : BitVec 36} {data : BitVec 512} {mask : BitVec 64} {poison ue : Bool}
    (hu : s.devUp = true) (h : SpoolIdle s) (hpanic : s.on .ddr DDR.STAT_PANIC = false)
    (hr : s.portReaches user addr.toNat = true) :
    ∃ rows turn, exec (.spoolWriteAck user addr data mask poison ue) s =
      .next ((s.granted rows turn).burstWrite user.port (addr.toNat / 64 * 64) data.toNat mask poison ue) := by
  obtain ⟨rows, turn, hask⟩ := State.spoolAsk_served (r := { user, addr := addr.toNat, op := .write data mask poison ue }) h hpanic
    hr (userPort_lt user)
  exact ⟨rows, turn, (exec_spoolWrite hu).trans (congrArg _ hask)⟩

/-- A write-back of the burst no longer waits. -/
def State.unbacked (s : State) (b : Nat) : State :=
  { s with ddr := { s.ddr with writeBack := s.ddr.writeBack.filter fun x => x != b } }

theorem State.burstWrite_poison (port b data : Nat) (mask : BitVec 64) (ue : Bool) :
    s.burstWrite port (b * 64) data mask true ue = (s.unbacked b).poisonBurst b := by
  unfold State.burstWrite
  rw [Nat.mul_div_cancel _ (by decide)]
  rfl

/-- The bytes of a burst that the mask names are stored, and the burst holds poison no longer. -/
def State.burstStored (s : State) (b data : Nat) (mask : BitVec 64) : State :=
  ((s.unbacked b).spoolWrite (b * 64) (burstMerge (Memory.readNat s.ddr.mem (b * 64) 64) data mask)).cleanBurst b

theorem State.burstWrite_stores (port data : Nat) {b : Nat} {mask : BitVec 64}
    (h : mask = BitVec.allOnes 64 ∨ s.ddr.poison.contains b = false) :
    s.burstWrite port (b * 64) data mask false false = s.burstStored b data mask := by
  have hgood : ¬ ((!(mask == BitVec.allOnes 64) && (false || s.ddr.poison.contains b)) = true) := by
    rcases h with h | h
    · simp [h]
    · rw [h]
      simp
  unfold State.burstWrite
  rw [Nat.mul_div_cancel _ (by decide)]
  exact if_neg hgood

theorem State.burstStored_mem (s : State) (b data : Nat) (mask : BitVec 64) : (s.burstStored b data mask).ddr.mem =
    Memory.writeAll s.ddr.mem (b * 64) (burstMerge (Memory.readNat s.ddr.mem (b * 64) 64) data mask) := rfl

theorem State.burstStored_poison (s : State) (b data : Nat) (mask : BitVec 64) :
    (s.burstStored b data mask).ddr.poison.contains b = false := contains_filter_ne s.ddr.poison b

theorem State.burstStored_writeBack (s : State) (b data : Nat) (mask : BitVec 64) :
    (s.burstStored b data mask).ddr.writeBack.contains b = false := contains_filter_ne s.ddr.writeBack b

theorem State.burstStored_only (s : State) (b data : Nat) (mask : BitVec 64) :
    OnlyFields [] { s with ddr := (s.burstStored b data mask).ddr } (s.burstStored b data mask) := by
  unfold State.burstStored State.cleanBurst State.spoolWrite State.unbacked
  exact OnlyFields.refl _ _

theorem spoolWrite_stores {addr : BitVec 36} {data : BitVec 512} {mask : BitVec 64} (hu : s.devUp = true) (h : SpoolIdle s)
    (hpanic : s.on .ddr DDR.STAT_PANIC = false) (hr : s.portReaches user addr.toNat = true)
    (hm : mask = BitVec.allOnes 64 ∨ s.ddr.poison.contains (addr.toNat / 64) = false) :
    ∃ t, exec (.spoolWriteAck user addr data mask false false) s = .next t ∧
      (∀ i, i < 64 → Memory.read t.ddr.mem (addr.toNat / 64 * 64 + i) =
        if mask.toNat.testBit i then BitVec.ofNat 8 (data.toNat / 2 ^ (8 * i))
        else Memory.read s.ddr.mem (addr.toNat / 64 * 64 + i)) ∧
      (∀ x, x < addr.toNat / 64 * 64 ∨ addr.toNat / 64 * 64 + 64 ≤ x → Memory.read t.ddr.mem x = Memory.read s.ddr.mem x) ∧
      t.ddr.poison.contains (addr.toNat / 64) = false ∧ t.ddr.writeBack.contains (addr.toNat / 64) = false ∧
      OnlyFields [] { s with ddr := t.ddr } t := by
  obtain ⟨rows, turn, hexec⟩ := exec_spoolWrite_served (data := data) (mask := mask) (poison := false) (ue := false) hu h hpanic hr
  let u := s.granted rows turn
  refine ⟨u.burstStored (addr.toNat / 64) data.toNat mask, hexec.trans (congrArg _ (State.burstWrite_stores _ _ hm)), ?_, ?_,
    u.burstStored_poison _ _ _, u.burstStored_writeBack _ _ _, u.burstStored_only _ _ _⟩
  · intro i hi
    rw [State.burstStored_mem]
    exact Memory.read_burstMerge _ _ _ _ hi
  · intro x hx
    rw [State.burstStored_mem]
    exact Memory.read_writeAll_outside _ _ _ _ (by rwa [burstMerge_length])

theorem spoolWrite_poisons {addr : BitVec 36} {data : BitVec 512} {mask : BitVec 64} {ue : Bool} (hu : s.devUp = true)
    (h : SpoolIdle s) (hpanic : s.on .ddr DDR.STAT_PANIC = false) (hr : s.portReaches user addr.toNat = true) :
    ∃ t, exec (.spoolWriteAck user addr data mask true ue) s = .next t ∧ t.ddr.mem = s.ddr.mem ∧
      t.ddr.poison.contains (addr.toNat / 64) = true ∧ OnlyFields [] { s with ddr := t.ddr } t := by
  obtain ⟨rows, turn, hexec⟩ := exec_spoolWrite_served (data := data) (mask := mask) (poison := true) (ue := ue) hu h hpanic hr
  exact ⟨_, hexec.trans (congrArg _ (State.burstWrite_poison _ _ _ _ _)), rfl,
    List.contains_iff_mem.2 (mem_risingInsert _ _), OnlyFields.refl _ _⟩

end Sys2Proof.Machine

namespace Sys2Proof

open Machine Reg

/-- Settles O4: a request that finds its port idle is granted at once, whoever's turn it was, and its service is a read's or a
write's own. -/
theorem spoolBursts : Obligations.SpoolBursts := by
  refine ⟨?_, ?_, ?_, ?_, ?_, ?_, ?_, ?_, ?_⟩
  · intro s user addr wait hu hd hf hq hpanic hr hp
    exact spoolRead_clean hu ⟨hd, hf, hq⟩ hpanic hr hp
  · intro s user addr dev wait hu hd hf hq hpanic hr hp hw
    exact spoolRead_corrected hu ⟨hd, hf, hq⟩ hpanic hr hp hw
  · intro s user addr kind wait hu hd hf hq hpanic hr hk
    obtain ⟨t, hexec, herror, hevent, hcnt, hreply, hmem, hqueue⟩ := spoolRead_fails (wait := wait) hu ⟨hd, hf, hq⟩ hpanic hr hk
    exact ⟨t, hexec, herror, hevent, hcnt, hreply.trans (by cases user <;> rfl), hmem, hqueue⟩
  · intro s user addr kind wait hu hr
    exact (exec_spoolRead hu).trans (congrArg _ (State.spoolAsk_refused hr))
  · intro s user addr kind wait hu hd hf hq hpanic h1 hr
    exact (exec_spoolRead hu).trans (congrArg _ (State.spoolAsk_panic ⟨hd, hf, hq⟩ hpanic hr (userPort_lt user) h1))
  · intro s user addr kind wait hu hd hf hq hr
    exact ⟨_, exec_spoolRead hu, State.spoolAsk_asleep hd hf hq hr⟩
  · intro s user addr data mask hu hd hf hq hpanic hr hm
    exact spoolWrite_stores hu ⟨hd, hf, hq⟩ hpanic hr hm
  · intro s user addr data mask ue hu hd hf hq hpanic hr
    exact spoolWrite_poisons hu ⟨hd, hf, hq⟩ hpanic hr
  · intro s user addr data mask poison ue hu hr
    exact (exec_spoolWrite hu).trans (congrArg _ (State.spoolAsk_refused hr))

end Sys2Proof
end

section
/-! PROOFS. Changes of intake and of the codec beside the register file, and the DMA reads of host memory (R101). -/

namespace Sys2Proof.Machine

open Reg

variable {fs : List FieldAt} {s t : State}

/-! ### Parts beside the register file -/

/-- Intake changed. -/
def State.modIntake (s : State) (f : Intake → Intake) : State := { s with intake := f s.intake }

/-- The codec changed. -/
def State.modCodec (s : State) (f : Codec → Codec) : State := { s with codec := f s.codec }

theorem OnlyFields.modIntake (h : OnlyFields fs s t) (f : Intake → Intake) : OnlyFields fs (s.modIntake f) (t.modIntake f) :=
  ⟨h.fields, by unfold State.modIntake; rw [h.rest]⟩

theorem OnlyFields.modCodec (h : OnlyFields fs s t) (f : Codec → Codec) : OnlyFields fs (s.modCodec f) (t.modCodec f) :=
  ⟨h.fields, by unfold State.modCodec; rw [h.rest]⟩

theorem OnlyFields.intake_same (h : OnlyFields fs s t) : t.intake = s.intake := by rw [h.rest]
theorem OnlyFields.codec_same (h : OnlyFields fs s t) : t.codec = s.codec := by rw [h.rest]
theorem OnlyFields.out_same (h : OnlyFields fs s t) : t.out = s.out := by rw [h.rest]

/-- Changes of one list of fields after those of another. -/
theorem OnlyFields.append {gs : List FieldAt} {u : State} (h : OnlyFields fs s t) (k : OnlyFields gs t u) :
    OnlyFields (fs ++ gs) s u :=
  (h.mono fun _ hm => List.mem_append_left _ hm).trans (k.mono fun _ hm => List.mem_append_right _ hm)

theorem OnlyFields.on_clear (h : OnlyFields fs s t) {p : Page} {r : Row} {i : Nat} (hc : FieldAt.clear fs p r i) :
    t.on p r i = s.on p r i := by
  unfold State.on
  rw [h.fields.rd_clear hc]

theorem OnlyFields.event_clear (h : OnlyFields fs s t) {p : Page} (i : Nat) (hc : FieldAt.clear fs p HDR.PG_EVT_RAW 0) :
    t.event p i = s.event p i := by
  unfold State.event
  rw [h.fields.rd_clear hc]

theorem OnlyFields.errorShown_clear (h : OnlyFields fs s t) {p : Page} (hc : FieldAt.clear fs p HDR.PG_ERR_CODE_CODE 0)
    (hv : FieldAt.clear fs p HDR.PG_ERR_CODE_VALID 0) : t.errorShown p = s.errorShown p := by
  unfold State.errorShown
  rw [h.on_clear hv, h.fields.rd_clear hc]

theorem State.errOpen_only (s : State) (p : Page) (nn : Nat) : OnlyFields (errorFields p) s (s.errOpen p nn) :=
  OnlyFields.errOpen _ _ (OnlyFields.refl _ s) fun _ hf => hf

/-! ### DMA reads (R101) -/

/-- The reads under way and what has been sent, once one more request issues if there is room for it. -/
def dmaStepOn (ok : Bool) (limit : Nat) (p : List DmaRead × List Out) : List DmaRead × List Out :=
  if ok && decide ((p.1.map fun r => r.flying).sum < limit) then
    match nextPiece p.1 with
    | some (q, rs) => (rs, p.2 ++ [.read q.1 q.2])
    | none => p
  else p

/-- The same once requests have issued while there is room. -/
def dmaIssued (ok : Bool) (limit : Nat) (p : List DmaRead × List Out) : List DmaRead × List Out :=
  (List.range limit).foldl (fun q _ => dmaStepOn ok limit q) p

/-- The state with these reads under way and this sent. -/
def State.withDma (s : State) (p : List DmaRead × List Out) : State :=
  { s with out := p.2, intake := { s.intake with reads := p.1 } }

/-- What a read that starts leaves under way and sends. -/
def State.dmaBegun (s : State) (who : ReadFor) (a n : Nat) : List DmaRead × List Out :=
  dmaIssued s.dmaOk (s.rd .pci PCI.RD_OUT) (s.intake.reads ++ [({ who, todo := readPieces n a n } : DmaRead)], s.out)

theorem State.dmaStep_withDma (s : State) (p : List DmaRead × List Out) :
    (s.withDma p).dmaStep = s.withDma (dmaStepOn s.dmaOk (s.rd .pci PCI.RD_OUT) p) := by
  unfold State.dmaStep dmaStepOn
  rw [show (s.withDma p).dmaOk = s.dmaOk from rfl, show (s.withDma p).rd .pci PCI.RD_OUT = s.rd .pci PCI.RD_OUT from rfl,
    show (s.withDma p).intake.reads = p.1 from rfl]
  split
  · cases nextPiece p.1 <;> rfl
  · rfl

theorem State.dmaIssue_withDma (s : State) (p : List DmaRead × List Out) :
    (s.withDma p).dmaIssue = s.withDma (dmaIssued s.dmaOk (s.rd .pci PCI.RD_OUT) p) := by
  unfold State.dmaIssue State.each dmaIssued
  rw [show (s.withDma p).rd .pci PCI.RD_OUT = s.rd .pci PCI.RD_OUT from rfl]
  generalize List.range (s.rd .pci PCI.RD_OUT) = l
  induction l generalizing p with
  | nil => rfl
  | cons x l ih => rw [List.foldl_cons, List.foldl_cons, State.dmaStep_withDma, ih]

/-- A read that starts changes what has been sent and the reads under way, and nothing else. -/
theorem State.dmaStart_eq (s : State) (who : ReadFor) (a n : Nat) : s.dmaStart who a n = s.withDma (s.dmaBegun who a n) :=
  s.dmaIssue_withDma (s.intake.reads ++ [({ who, todo := readPieces n a n } : DmaRead)], s.out)

theorem State.dmaStart_out (s : State) (who : ReadFor) (a n : Nat) : (s.dmaStart who a n).out = (s.dmaBegun who a n).2 := by
  rw [State.dmaStart_eq]
  rfl

theorem State.dmaStart_reads (s : State) (who : ReadFor) (a n : Nat) :
    (s.dmaStart who a n).intake.reads = (s.dmaBegun who a n).1 := by
  rw [State.dmaStart_eq]
  rfl

theorem OnlyFields.dmaOk_clear (h : OnlyFields fs s t) (hl : FieldAt.clear fs .pci PCI.LINK_UP 0) : t.dmaOk = s.dmaOk := by
  have hp : t.power = s.power := by rw [h.rest]
  unfold State.dmaOk State.devUp
  rw [h.on_clear hl, h.intake_same, hp]

/-- A read of host memory starts in the same way after a change of fields that do not bear on DMA. -/
theorem OnlyFields.dmaStart (h : OnlyFields fs s t) (hl : FieldAt.clear fs .pci PCI.LINK_UP 0)
    (hr : FieldAt.clear fs .pci PCI.RD_OUT 0) (who : ReadFor) (a n : Nat) :
    OnlyFields fs (s.dmaStart who a n) (t.dmaStart who a n) := by
  have hb : t.dmaBegun who a n = s.dmaBegun who a n := by
    unfold State.dmaBegun
    rw [h.dmaOk_clear hl, h.fields.rd_clear hr, h.intake_same, h.out_same]
  rw [State.dmaStart_eq, State.dmaStart_eq, hb]
  exact ⟨h.fields, by unfold State.withDma; rw [h.rest]⟩

end Sys2Proof.Machine
end

section
/-! PROOFS. The ring registers and the heap (R107, R108, R109, R111). -/

namespace Sys2Proof.Machine

open Reg

variable {s : State} {req : Req}

/-! ### A write that intake refuses -/

/-- A write that the fabric lets through and its page answers with an error of free information. -/
theorem refusedOpen_posted {c : Instr} {p : Page} {off nn : Nat} {act : State → State} (h : s.open_ req p = true)
    (hn : nn < 256) (he : exec c s = .next (s.gate req p off act))
    (ha : act (s.withReply (.posted req.code)) = (s.withReply (.posted req.code)).errOpen p nn) :
    ∃ t, exec c s = .next t ∧ t.errorShown p = s.errorAfter p nn ∧
      OnlyFields (errorFields p) { s with reply := .posted req.code } t :=
  ⟨_, he.trans (congrArg _ ((State.gate_posted h off act).trans ha)), State.errOpen_errorShown _ _ _ hn, State.errOpen_only _ _ _⟩

/-! ### The reserve of ring 9 and the heap's credit -/

theorem State.settleReserve_only (s : State) : OnlyFields [(.int, HDR.PG_EVT_RAW, 0)]
    (s.modIntake fun i => { i with reserveSeen := s.settleReserve.intake.reserveSeen }) s.settleReserve :=
  (OnlyFields.when _ _ (OnlyFields.refl _ s) fun _ hu => OnlyFields.raise _ _ hu (by simp)).modIntake
    fun i => { i with reserveSeen := s.settleReserve.intake.reserveSeen }

/-- What follows a change of ring r: ring 9 watches its reserve. -/
def State.ringSettled (s : State) (r : Fin 10) : State := if r = 9 then s.settleReserve else s

/-- The field that may then change. -/
def reserveFields (r : Fin 10) : List FieldAt := if r = 9 then [(.int, HDR.PG_EVT_RAW, 0)] else []

theorem State.ringSettled_only (s : State) (r : Fin 10) : OnlyFields (reserveFields r)
    (s.modIntake fun i => { i with reserveSeen := (s.ringSettled r).intake.reserveSeen }) (s.ringSettled r) := by
  unfold State.ringSettled reserveFields
  split
  · exact s.settleReserve_only
  · exact OnlyFields.refl _ s

theorem reserveFields_clear (r : Fin 10) {x : Row} {i : Nat} (h : Row.apart HDR.PG_EVT_RAW 0 x i = true) :
    FieldAt.clear (reserveFields r) .int x i := by
  unfold reserveFields
  split <;> simp [h]

/-- Rings' registers stand clear of the event register. -/
theorem ringRows_apart (r : Fin 10) : ∀ x ∈ [INT.RING_CTRL_EN, INT.RING_DB, INT.RING_HEAD, INT.RING_STAT],
    Row.apart HDR.PG_EVT_RAW 0 x r.val = true := by
  revert r
  decide

theorem State.ringSettled_rd (s : State) (r : Fin 10) {x : Row}
    (hx : x ∈ [INT.RING_CTRL_EN, INT.RING_DB, INT.RING_HEAD, INT.RING_STAT]) :
    (s.ringSettled r).rd .int x r.val = s.rd .int x r.val :=
  (s.ringSettled_only r).fields.rd_clear (reserveFields_clear r (ringRows_apart r x hx))

theorem State.settleCredit_only (s : State) : OnlyFields creditFields
    (s.modIntake fun i => { i with lowSeen := s.settleCredit.intake.lowSeen }) s.settleCredit :=
  (OnlyFields.when _ _ (OnlyFields.wr _ _ _ _ (OnlyFields.refl _ s) (by simp [creditFields])) fun _ hu =>
    OnlyFields.raise _ _ hu (by simp [creditFields])).modIntake fun i => { i with lowSeen := s.settleCredit.intake.lowSeen }

theorem State.settleCredit_credit (s : State) :
    s.settleCredit.rd .int INT.CREDIT = (s.heapGranules - s.usedGranules none) % 2 ^ 25 := by
  have hw : OnlyFields [(.int, HDR.PG_EVT_RAW, 0)]
      ((s.wr .int INT.CREDIT (s.heapGranules - s.usedGranules none)).modIntake fun i =>
        { i with lowSeen := s.settleCredit.intake.lowSeen }) s.settleCredit :=
    (OnlyFields.when _ _ (OnlyFields.refl _ _) fun _ hu => OnlyFields.raise _ _ hu (by simp)).modIntake
      fun i => { i with lowSeen := s.settleCredit.intake.lowSeen }
  exact (hw.fields.rd_clear (by simp +decide)).trans (State.wr_rd_same _ _ _ _ _)

/-! ### Doorbells, EN and RESET (R107, R108) -/

theorem ringDoorbell_stored (h : s.open_ req .int = true) {r : Fin 10} {v : BitVec 16} (hv : v.toNat < 2 ^ s.ringSize r.val) :
    ∃ t, exec (.ringDoorbell req r v) s = .next t ∧ t.rd .int INT.RING_DB r.val = v.toNat ∧
      OnlyFields ((.int, INT.RING_DB, r.val) :: reserveFields r)
        { s with reply := .posted req.code, intake := { s.intake with reserveSeen := t.intake.reserveSeen } } t := by
  let u := s.withReply (.posted req.code)
  let w := u.wr .int INT.RING_DB v.toNat r.val
  have hw : OnlyFields [(.int, INT.RING_DB, r.val)] u w := OnlyFields.wr _ _ _ _ (OnlyFields.refl _ u) (by simp)
  have hact : u.ringDb r v = w.ringSettled r := if_neg (Nat.not_le.2 hv)
  refine ⟨w.ringSettled r, congrArg _ ((State.gate_posted h _ _).trans hact), ?_, (hw.modIntake _).append (w.ringSettled_only r)⟩
  rw [State.ringSettled_rd _ _ (by simp), State.wr_rd_same]
  exact Nat.mod_eq_of_lt v.isLt

theorem ringDoorbell_refused (h : s.open_ req .int = true) {r : Fin 10} {v : BitVec 16} (hv : 2 ^ s.ringSize r.val ≤ v.toNat) :
    ∃ t, exec (.ringDoorbell req r v) s = .next t ∧ t.errorShown .int = s.errorAfter .int 0x2B ∧
      OnlyFields (errorFields .int) { s with reply := .posted req.code } t :=
  refusedOpen_posted (act := fun s => s.ringDb r v) h (by decide) rfl (if_pos hv)

theorem ringEn_apart (r : Fin 10) : Row.apart INT.RING_STAT r.val INT.RING_CTRL_EN r.val = true := by
  revert r
  decide

theorem ringEnable_enables (h : s.open_ req .int = true) (r : Fin 10) :
    ∃ t, exec (.ringEnable req r) s = .next t ∧ t.on .int INT.RING_CTRL_EN r.val = true ∧ t.ringState r.val = 1 ∧
      OnlyFields ([(.int, INT.RING_CTRL_EN, r.val), (.int, INT.RING_STAT, r.val)] ++ reserveFields r)
        { s with reply := .posted req.code, intake := { s.intake with reserveSeen := t.intake.reserveSeen } } t := by
  let u := s.withReply (.posted req.code)
  let w := (u.wr .int INT.RING_CTRL_EN 1 r.val).wr .int INT.RING_STAT 1 r.val
  have hw : OnlyFields [(.int, INT.RING_CTRL_EN, r.val), (.int, INT.RING_STAT, r.val)] u w :=
    OnlyFields.wr _ _ _ _ (OnlyFields.wr _ _ _ _ (OnlyFields.refl _ u) (by simp)) (by simp)
  refine ⟨w.ringSettled r, congrArg _ (State.gate_posted h _ _), ?_, ?_, (hw.modIntake _).append (w.ringSettled_only r)⟩
  · rw [State.on, State.ringSettled_rd _ _ (by simp), State.wr_rd_apart _ _ _ _ (ringEn_apart r), State.wr_rd_same]
    rfl
  · rw [State.ringState, State.ringSettled_rd _ _ (by simp), State.wr_rd_same]
    rfl

theorem ringDisable_stops (h : s.open_ req .int = true) {r : Fin 10} (he : s.on .int INT.RING_CTRL_EN r.val = true) :
    ∃ t, exec (.ringDisable req r) s = .next t ∧ t.on .int INT.RING_CTRL_EN r.val = false ∧ t.ringState r.val = 6 ∧
      OnlyFields [(.int, INT.RING_CTRL_EN, r.val), (.int, INT.RING_STAT, r.val)] { s with reply := .posted req.code } t := by
  let u := s.withReply (.posted req.code)
  let t := (u.wr .int INT.RING_CTRL_EN 0 r.val).wr .int INT.RING_STAT 6 r.val
  have hact : u.ringOff r = t := if_pos he
  have hexec : exec (.ringDisable req r) s = .next t :=
    congrArg Host.Outcome.next ((State.gate_posted h _ fun s => s.ringOff r).trans hact)
  refine ⟨t, hexec, ?_, ?_,
    OnlyFields.wr _ _ _ _ (OnlyFields.wr _ _ _ _ (OnlyFields.refl _ u) (by simp)) (by simp)⟩
  · rw [State.on, State.wr_rd_apart _ _ _ _ (ringEn_apart r), State.wr_rd_same]
    rfl
  · exact State.wr_rd_same _ _ _ _ _

theorem ringStopped_disables (hu : s.devUp = true) {r : Fin 10} (hr : s.ringState r.val = 6) (hb : s.ringBusy r.val = false) :
    ∃ t, exec (.ringStopped r) s = .next t ∧ t.ringState r.val = 0 ∧ OnlyFields [(.int, INT.RING_STAT, r.val)] s t :=
  ⟨_, if_pos (by rw [hu, hr, hb]; rfl), State.wr_rd_same _ _ _ _ _, OnlyFields.wr _ _ _ _ (OnlyFields.refl _ s) (by simp)⟩

theorem ringStopped_busy {r : Fin 10} (hb : s.ringBusy r.val = true) : exec (.ringStopped r) s = .next s :=
  if_neg (by rw [hb]; simp)

/-- Ring r at its first entry, with nothing held of an entry. -/
def State.ringCleared (s : State) (r : Fin 10) : State :=
  ((s.wr .int INT.RING_HEAD 0 r.val).wr .int INT.RING_DB 0 r.val).modIntake fun i =>
    { i with rings := i.rings.setIfInBounds r.val {}, phase9 := if r = 9 then true else i.phase9 }

theorem State.ringReset_eq {r : Fin 10} (hr : s.ringState r.val = 0) : s.ringReset r = (s.ringCleared r).ringSettled r := by
  unfold State.ringReset State.ringSettled State.ringCleared
  rw [if_neg (fun hn => hn hr)]
  by_cases h9 : r = 9
  · simp only [if_pos h9]
    rfl
  · simp only [if_neg h9]
    rfl

theorem ringHead_apart (r : Fin 10) : Row.apart INT.RING_DB r.val INT.RING_HEAD r.val = true := by
  revert r
  decide

theorem State.ringCleared_head (s : State) (r : Fin 10) : (s.ringCleared r).rd .int INT.RING_HEAD r.val = 0 := by
  change ((s.wr .int INT.RING_HEAD 0 r.val).wr .int INT.RING_DB 0 r.val).rd .int INT.RING_HEAD r.val = 0
  rw [State.wr_rd_apart _ _ _ _ (ringHead_apart r), State.wr_rd_same, Nat.zero_mod]

theorem State.ringCleared_db (s : State) (r : Fin 10) : (s.ringCleared r).rd .int INT.RING_DB r.val = 0 := by
  change ((s.wr .int INT.RING_HEAD 0 r.val).wr .int INT.RING_DB 0 r.val).rd .int INT.RING_DB r.val = 0
  rw [State.wr_rd_same, Nat.zero_mod]

theorem State.ringSettled_phase9 (s : State) (r : Fin 10) : (s.ringSettled r).intake.phase9 = s.intake.phase9 := by
  rw [(s.ringSettled_only r).intake_same]
  rfl

theorem ringReset_resets (h : s.open_ req .int = true) {r : Fin 10} (hr : s.ringState r.val = 0) :
    ∃ t, exec (.ringReset req r) s = .next t ∧ t.rd .int INT.RING_HEAD r.val = 0 ∧ t.rd .int INT.RING_DB r.val = 0 ∧
      (r = 9 → t.intake.phase9 = true) ∧
      OnlyFields ([(.int, INT.RING_HEAD, r.val), (.int, INT.RING_DB, r.val)] ++ reserveFields r) { s with
        reply := .posted req.code
        intake := { s.intake with
          rings := s.intake.rings.setIfInBounds r.val {}
          phase9 := t.intake.phase9
          reserveSeen := t.intake.reserveSeen } } t := by
  let u := s.withReply (.posted req.code)
  have hw : OnlyFields [(.int, INT.RING_HEAD, r.val), (.int, INT.RING_DB, r.val)] (u.modIntake fun i =>
      { i with rings := i.rings.setIfInBounds r.val {}, phase9 := if r = 9 then true else i.phase9 }) (u.ringCleared r) :=
    OnlyFields.modIntake (OnlyFields.wr _ _ _ _ (OnlyFields.wr _ _ _ _ (OnlyFields.refl _ u) (by simp)) (by simp)) _
  have hphase : ((u.ringCleared r).ringSettled r).intake.phase9 = if r = 9 then true else s.intake.phase9 :=
    State.ringSettled_phase9 _ _
  refine ⟨(u.ringCleared r).ringSettled r, congrArg _ ((State.gate_posted h _ _).trans (State.ringReset_eq (s := u) hr)), ?_, ?_, ?_, ?_⟩
  · rw [State.ringSettled_rd _ _ (by simp), State.ringCleared_head]
  · rw [State.ringSettled_rd _ _ (by simp), State.ringCleared_db]
  · exact fun h9 => hphase.trans (if_pos h9)
  · rw [hphase]
    exact (hw.modIntake _).append (State.ringSettled_only _ r)

theorem ringReset_refused (h : s.open_ req .int = true) {r : Fin 10} (hr : s.ringState r.val ≠ 0) :
    ∃ t, exec (.ringReset req r) s = .next t ∧ t.errorShown .int = s.errorAfter .int 0x2C ∧
      OnlyFields (errorFields .int) { s with reply := .posted req.code } t :=
  refusedOpen_posted (act := fun s => s.ringReset r) h (by decide) rfl (if_pos hr)

/-! ### The heap (R111) -/

theorem pages_isEmpty (hp : s.intake.pages = []) : ¬ (!s.intake.pages.isEmpty) = true := by
  rw [hp]
  decide

/-- HEAP_BASE or HEAP_SIZE is written. -/
def State.heapSet (s : State) (isSize : Bool) (mib : BitVec 16) : State :=
  if isSize then s.wr .int INT.HEAP_SIZE mib.toNat else s.wr .int INT.HEAP_BASE mib.toNat

/-- The heap as it would stand after a write has a base of at least 64 MiB and lies within the DRAM. -/
def State.heapGood (s : State) (isSize : Bool) (mib : BitVec 16) : Prop :=
  let base := if isSize then s.rd .int INT.HEAP_BASE else mib.toNat
  let size := if isSize then mib.toNat else s.rd .int INT.HEAP_SIZE
  64 ≤ base ∧ (size = 0 ∨ base + size ≤ 1024 * s.rd .ddr DDR.CFG_SIZE_GIB)

theorem State.heapWrite_eq {isSize : Bool} {mib : BitVec 16} (hp : s.intake.pages = []) (hg : s.heapGood isSize mib) :
    s.heapWrite req isSize mib = (s.heapSet isSize mib).settleCredit := by
  obtain ⟨hbase, hsize⟩ := hg
  unfold State.heapWrite
  rw [if_neg (pages_isEmpty hp)]
  refine if_neg ?_
  simp only [Bool.or_eq_true, Bool.and_eq_true, decide_eq_true_eq, bne_iff_ne, not_or, not_and]
  exact ⟨Nat.not_lt.2 hbase, fun hn => Nat.not_lt.2 (hsize.resolve_left hn)⟩

theorem State.heapWrite_bad {isSize : Bool} {mib : BitVec 16} (hp : s.intake.pages = []) (hg : ¬ s.heapGood isSize mib) :
    s.heapWrite req isSize mib = s.errAt .int 0x03 (if isSize then 0x48 else 0x44) req.code := by
  unfold State.heapWrite
  rw [if_neg (pages_isEmpty hp)]
  refine if_pos ?_
  simp only [Bool.or_eq_true, Bool.and_eq_true, decide_eq_true_eq, bne_iff_ne]
  unfold State.heapGood at hg
  dsimp only at hg
  omega

/-- A write of the heap registers that is taken: the register, then the credit. -/
theorem heapConfigWrite_takes (h : s.open_ req .int = true) (hp : s.intake.pages = []) {isSize : Bool} {mib : BitVec 16}
    (hg : s.heapGood isSize mib) : exec (.heapConfigWrite req isSize mib) s =
      .next (((s.withReply (.posted req.code)).heapSet isSize mib).settleCredit) :=
  congrArg _ ((State.gate_posted h _ _).trans (State.heapWrite_eq (s := s.withReply (.posted req.code)) hp hg))

theorem heapConfigWrite_base (h : s.open_ req .int = true) (hp : s.intake.pages = []) {mib : BitVec 16} (hm : 64 ≤ mib.toNat)
    (hs : s.rd .int INT.HEAP_SIZE = 0 ∨ mib.toNat + s.rd .int INT.HEAP_SIZE ≤ s.rd .ddr DDR.CFG_SIZE_GIB * 1024) :
    ∃ t, exec (.heapConfigWrite req false mib) s = .next t ∧ t.rd .int INT.HEAP_BASE = mib.toNat ∧
      OnlyFields ((.int, INT.HEAP_BASE, 0) :: creditFields)
        { s with reply := .posted req.code, intake := { s.intake with lowSeen := t.intake.lowSeen } } t := by
  let u := s.withReply (.posted req.code)
  have hw : OnlyFields [(.int, INT.HEAP_BASE, 0)] u (u.heapSet false mib) := OnlyFields.wr _ _ _ _ (OnlyFields.refl _ u) (by simp)
  refine ⟨_, heapConfigWrite_takes h hp ⟨hm, by rwa [Nat.mul_comm] at hs⟩, ?_,
    (hw.modIntake _).append (State.settleCredit_only _)⟩
  rw [(State.settleCredit_only _).fields.rd_clear (by simp +decide [creditFields])]
  exact (State.wr_rd_same _ _ _ _ _).trans (Nat.mod_eq_of_lt mib.isLt)

theorem heapConfigWrite_size (h : s.open_ req .int = true) (hp : s.intake.pages = []) {mib : BitVec 16}
    (hb : 64 ≤ s.rd .int INT.HEAP_BASE)
    (hs : mib.toNat = 0 ∨ s.rd .int INT.HEAP_BASE + mib.toNat ≤ s.rd .ddr DDR.CFG_SIZE_GIB * 1024) :
    ∃ t, exec (.heapConfigWrite req true mib) s = .next t ∧ t.rd .int INT.HEAP_SIZE = mib.toNat ∧
      t.rd .int INT.CREDIT = 256 * mib.toNat - s.usedGranules none ∧
      OnlyFields ((.int, INT.HEAP_SIZE, 0) :: creditFields)
        { s with reply := .posted req.code, intake := { s.intake with lowSeen := t.intake.lowSeen } } t := by
  let u := s.withReply (.posted req.code)
  have hsize : (u.heapSet true mib).rd .int INT.HEAP_SIZE = mib.toNat :=
    (State.wr_rd_same _ _ _ _ _).trans (Nat.mod_eq_of_lt mib.isLt)
  have hw : OnlyFields [(.int, INT.HEAP_SIZE, 0)] u (u.heapSet true mib) := OnlyFields.wr _ _ _ _ (OnlyFields.refl _ u) (by simp)
  refine ⟨_, heapConfigWrite_takes h hp ⟨hb, by rwa [Nat.mul_comm] at hs⟩, ?_, ?_,
    (hw.modIntake _).append (State.settleCredit_only _)⟩
  · rw [(State.settleCredit_only _).fields.rd_clear (by simp +decide [creditFields])]
    exact hsize
  · rw [State.settleCredit_credit, State.heapGranules, hsize]
    have := mib.isLt
    exact Nat.mod_eq_of_lt (by omega)

theorem heapConfigWrite_bad (h : s.open_ req .int = true) (hp : s.intake.pages = []) {isSize : Bool} {mib : BitVec 16}
    (hg : ¬ s.heapGood isSize mib) :
    ∃ t, exec (.heapConfigWrite req isSize mib) s = .next t ∧ t.errorShown .int = s.errorAfter .int 0x03 ∧
      OnlyFields (errorFields .int) { s with reply := .posted req.code } t :=
  refused_posted (act := fun s => s.heapWrite req isSize mib) h (by decide) rfl
    (State.heapWrite_bad (s := s.withReply (.posted req.code)) hp hg)

theorem heapConfigWrite_busy (h : s.open_ req .int = true) {isSize : Bool} {mib : BitVec 16} (hp : s.intake.pages ≠ []) :
    ∃ t, exec (.heapConfigWrite req isSize mib) s = .next t ∧ t.errorShown .int = s.errorAfter .int 0x30 ∧
      OnlyFields (errorFields .int) { s with reply := .posted req.code } t :=
  refusedOpen_posted (act := fun s => s.heapWrite req isSize mib) h (by decide) rfl
    (if_pos (by simpa [State.withReply] using hp))

end Sys2Proof.Machine

namespace Sys2Proof

open Machine Reg

/-- Settles O24: each register's write is its own effect on the state in which it is answered; ring 9 then watches its reserve,
and the heap its credit. -/
theorem ringRegisters : Obligations.RingRegisters := by
  refine ⟨fun _ _ _ _ h hv => ringDoorbell_stored h hv, fun _ _ _ _ h hv => ringDoorbell_refused h hv,
    fun _ _ r h => ringEnable_enables h r, fun _ _ _ h he => ringDisable_stops h he,
    fun _ _ hu hr hb => ringStopped_disables hu hr hb, fun _ _ hb => ringStopped_busy hb,
    fun _ _ _ h hr => ringReset_resets h hr, fun _ _ _ h hr => ringReset_refused h hr,
    fun _ _ _ h hp hm hs => heapConfigWrite_base h hp hm hs, fun _ _ _ h hp hb hs => heapConfigWrite_size h hp hb hs,
    ?_, fun _ _ _ _ h hp => heapConfigWrite_busy h hp⟩
  intro s req isSize mib h hp hbad
  refine heapConfigWrite_bad h hp fun hg => ?_
  unfold State.heapGood at hg
  rcases hbad with ⟨rfl, hm⟩ | ⟨rfl, hm, hb⟩ <;> simp only [Bool.false_eq_true, if_true, if_false] at hg <;> omega

end Sys2Proof
end

section
/-! PROOFS. The completion ring and its interrupt (R120 to R123). -/

namespace Sys2Proof.Machine

open Reg

variable {s : State} {c : Cqe} {rest : List Cqe}

/-- What intake holds once a completion has been written. -/
def State.cqeBooked (s : State) (c : Cqe) (rest : List Cqe) (i : Intake) : Intake :=
  { i with
    cq := rest
    phase9 := if s.rd .int INT.RING_HEAD 9 + 1 = 2 ^ s.rd .int INT.RING9_SIZE then !i.phase9 else i.phase9
    unsignalled := i.unsignalled + 1
    unsigAt := if i.unsignalled = 0 then s.dclk else i.unsigAt
    tiles := match c.tile with
      | some k => withTile k (fun v => { v with accepted := true }) i.tiles
      | none => i.tiles }

/-- Ring 9's registers once the completion has been written to host memory. -/
def State.cqeWritten (s : State) (c : Cqe) : State :=
  ((s.emit (.completion (s.rd .int INT.RING_BASE 9 + 32 * s.rd .int INT.RING_HEAD 9) (s.cqeBytes c))).wr .int INT.RING_HEAD
    ((s.rd .int INT.RING_HEAD 9 + 1) % 2 ^ s.rd .int INT.RING9_SIZE) 9).bump .int INT.RING_COUNT 1 9

/-- CQ is raised for every completion written since it was raised last. -/
def State.cqRaised (s : State) : State := (s.modIntake fun i => { i with unsignalled := 0 }).raise .int 8

theorem State.cqeWritten_only (s : State) (c : Cqe) : OnlyFields (ringFields 9)
    (s.emit (.completion (s.rd .int INT.RING_BASE 9 + 32 * s.rd .int INT.RING_HEAD 9) (s.cqeBytes c))) (s.cqeWritten c) :=
  OnlyFields.bump _ _ _ _ (OnlyFields.wr _ _ _ _ (OnlyFields.refl _ _) (by simp [ringFields])) (by simp [ringFields])

theorem State.cqeWritten_head (s : State) (c : Cqe) : (s.cqeWritten c).rd .int INT.RING_HEAD 9 =
    (s.rd .int INT.RING_HEAD 9 + 1) % 2 ^ s.rd .int INT.RING9_SIZE % 2 ^ 16 := by
  unfold State.cqeWritten
  rw [State.bump_rd_apart _ _ _ _ (by decide), State.wr_rd_same]
  rfl

theorem State.cqeWritten_count (s : State) (c : Cqe) :
    (s.cqeWritten c).rd .int INT.RING_COUNT 9 = min (s.rd .int INT.RING_COUNT 9 + 1) (2 ^ 32 - 1) := by
  unfold State.cqeWritten
  rw [State.bump_rd_same, State.wr_rd_apart _ _ _ _ (by decide), State.emit_rd]
  rfl

theorem State.settleReserve_event (s : State) {i : Nat} (hi : i < 32) (hn : i ≠ 11) : s.settleReserve.event .int i = s.event .int i := by
  change (s.when _ fun t => t.raise .int 11).event .int i = _
  unfold State.when
  split
  · rw [State.raise_event _ _ _ _ hi, decide_eq_false hn.symm, Bool.false_or]
  · rfl

/-- The write of a completion, up to the interrupt. -/
theorem execCompletionWrite_eq (hd : s.dmaOk = true) (ht : takeFirst s.cqeFits s.intake.cq = some (c, rest)) :
    exec .completionWrite s = .next (State.settleReserve (
      let u := (s.cqeWritten c).modIntake (s.cqeBooked c rest)
      if cqUrgent c.type || decide (u.rd .int INT.CQ_COAL_COUNT ≤ u.intake.unsignalled) then u.cqRaised else u)) := by
  change execCompletionWrite s = _
  unfold execCompletionWrite
  rw [if_pos hd, ht]
  obtain ⟨_, _, _, _, _, _, _, tile⟩ := c
  cases tile <;> rfl

/-- Without DMA, or without an entry that may be written, nothing is. -/
theorem completionWrite_waits (h : s.dmaOk = false ∨ takeFirst s.cqeFits s.intake.cq = none) : exec .completionWrite s = .next s := by
  change execCompletionWrite s = _
  unfold execCompletionWrite
  split
  case isFalse => rfl
  case isTrue hd => rw [h.resolve_left (by simp [hd])]

/-- The completion and the registers of ring 9, with `unsignalled` completions that CQ has not been raised for. -/
theorem cqeWritten_settled (hd : s.dmaOk = true) (ht : takeFirst s.cqeFits s.intake.cq = some (c, rest)) (raised : Bool)
    (hr : (cqUrgent c.type || decide (s.rd .int INT.CQ_COAL_COUNT ≤ s.intake.unsignalled + 1)) = raised) :
    ∃ t, exec .completionWrite s = .next t ∧ t.event .int 8 = (raised || s.event .int 8) ∧
      t.rd .int INT.RING_HEAD 9 = (s.rd .int INT.RING_HEAD 9 + 1) % 2 ^ s.rd .int INT.RING9_SIZE % 2 ^ 16 ∧
      t.rd .int INT.RING_COUNT 9 = min (s.rd .int INT.RING_COUNT 9 + 1) (2 ^ 32 - 1) ∧
      OnlyFields ((.int, HDR.PG_EVT_RAW, 0) :: ringFields 9)
        ((s.emit (.completion (s.rd .int INT.RING_BASE 9 + 32 * s.rd .int INT.RING_HEAD 9) (s.cqeBytes c))).modIntake fun i =>
          { s.cqeBooked c rest i with
            unsignalled := if raised then 0 else i.unsignalled + 1
            reserveSeen := t.intake.reserveSeen }) t := by
  let u := (s.cqeWritten c).modIntake (s.cqeBooked c rest)
  let v := if raised then u.cqRaised else u
  have hw := s.cqeWritten_only c
  have hcount : u.rd .int INT.CQ_COAL_COUNT = s.rd .int INT.CQ_COAL_COUNT := hw.fields.rd_clear (by simp +decide [ringFields])
  have hgo : (cqUrgent c.type || decide (u.rd .int INT.CQ_COAL_COUNT ≤ u.intake.unsignalled)) = raised := by
    rw [hcount]
    exact hr
  have hexec : exec .completionWrite s = .next v.settleReserve :=
    (execCompletionWrite_eq hd ht).trans
      (congrArg (fun b : Bool => Host.Outcome.next (State.settleReserve (if b then u.cqRaised else u))) hgo)
  have hv : OnlyFields [(.int, HDR.PG_EVT_RAW, 0)]
      (u.modIntake fun i => { i with unsignalled := if raised then 0 else i.unsignalled }) v := by
    cases raised with
    | false => exact OnlyFields.refl _ u
    | true => exact OnlyFields.raise _ _ (OnlyFields.refl _ _) (by simp)
  have hset : OnlyFields [(.int, HDR.PG_EVT_RAW, 0)] (u.modIntake fun i =>
      { i with unsignalled := if raised then 0 else i.unsignalled, reserveSeen := v.settleReserve.intake.reserveSeen }) v.settleReserve :=
    (hv.modIntake fun i => { i with reserveSeen := v.settleReserve.intake.reserveSeen }).trans v.settleReserve_only
  have hevent : v.event .int 8 = (raised || s.event .int 8) := by
    cases raised with
    | false => exact hw.event_clear 8 (by simp +decide [ringFields])
    | true => exact State.raise_event_same _ _ _ (by decide)
  exact ⟨_, hexec, (v.settleReserve_event (by decide) (by decide)).trans hevent,
    (hset.fields.rd_clear (by simp +decide)).trans (s.cqeWritten_head c),
    (hset.fields.rd_clear (by simp +decide)).trans (s.cqeWritten_count c),
    ((hw.modIntake _).append hset).mono (by simp [or_comm])⟩

end Sys2Proof.Machine

namespace Sys2Proof

open Machine Reg

/-- Settles O27: the registers of ring 9 and intake's part of a completion are written, then CQ is raised or left, and last the
reserve of ring 9 is watched. -/
theorem completions : Obligations.Completions := by
  refine ⟨fun s c rest hd ht hq => ?_, fun s c rest hd ht hn hlt => ?_, fun s h => ?_, fun s hu hn ht hd => ?_⟩
  · exact cqeWritten_settled hd ht true (by simpa using hq)
  · obtain ⟨t, he, hev, hh, -, ho⟩ := cqeWritten_settled hd ht false (by simp [hn, Nat.not_le.2 hlt])
    exact ⟨t, he, hev, hh, ho⟩
  · exact completionWrite_waits h
  · exact ⟨_, if_pos (by simp [hu, hn, ht, hd]), State.raise_event_same _ _ _ (by decide), OnlyFields.raise _ _ (OnlyFields.refl _ _) (by simp)⟩

end Sys2Proof
end

section
/-! PROOFS. The page that opens while an overflow record of the spoil report waits. -/

namespace Sys2Proof.Machine

open Reg

/-- IDLE with an overflow record held (R269): the admin ring waits for its entry; plane 0 has lane 3, whose nozzles' counts agree with
the columns expected, and which may be armed. -/
def openHeld : State :=
  let s := [(Page.pci, PCI.LINK_UP, 1), (.cdc, HDR.PG_CTRL_EN, 1), (.cdc, CDC.PRESET_BASE, 80), (.lst, HDR.PG_CTRL_EN, 1),
    (.vnl 3, VNL.N_EXP, 512), (.vnl 3, VNL.STAT_LSTATE, 5), (.seq 3, SEQ.TEMP_VALID, 1), (.lne 3, LNE.MAP_CTRL_ACT_VALID, 1),
    (.cpwr 0, CPWR.STAT_DLL_LOCK, 1), (.cpwr 0, CPWR.STAT_HVPG, 1), (.spl, SPL.STAT_OVF, 1)].foldl
      (fun t e => t.wr e.1 e.2.1 e.2.2) { State.reset with power := { dev := .idle } }
  let s := (((s.wr .pln PLN.LMAP_EN 1 3).wr .pln PLN.PLANE_WIDTH 64 0).wr .pln PLN.PLANE_MODE_BAND_KIB 8 0).modRing 8 fun q =>
    { q with fetching := true }
  let r : SpoilRec := { page := 3, cause := 6, flags := flagOverflow, firstWl := 40, count := 1, lanes := 8, planes := 1, copy := 0
                        time := 0, detail := 0 }
  (({ s with spoil := { overflow := some (r, 40) } }).modIntake fun i => { i with
    counts := (Vector.replicate 64 0).setIfInBounds 3 512 }).modLane 3 fun h => { h with st := .idle }

/-- The PAGE_OPEN entry of a page of plane 0 (R112). -/
def openPlane0 : BitVec 512 :=
  BitVec.ofNat 512 (0x10 + 1 * 2 ^ 16 + 7 * 2 ^ 32 + 64 * 2 ^ 64 + 1 * 2 ^ 96 + 10 * 2 ^ 112 + 5 * 2 ^ 192)

theorem openHeld_admits : openHeld.admitted 0x10 openPlane0 = true ∧ pageBreak openPlane0 = none ∧
    openHeld.pageById (readPage openPlane0).id = none ∧
    openHeld.lastRejects openHeld.intake.counts (readPage openPlane0) = none := by decide +kernel

theorem openHeld_armable : openHeld.nextPage = none ∧ (∀ k : Lane, openHeld.rd (.lne k) LNE.AWL_STAT_STATE ≠ 1) ∧
    (3 : Lane) ∈ openHeld.pageLanes (readPage openPlane0).planes ∧ openHeld.armable 3 = true := by decide +kernel

/-- Lane 3 starts to arm, and the overflow record holds it (R7, R262). -/
theorem pageOpen_openHeld {t : State} (h : exec (.pageOpen openPlane0) openHeld = .next t) : t.lanes[3].st = .hold := by
  have hd : (match exec (.pageOpen openPlane0) openHeld with
      | .next u => decide (u.lanes[3].st = LaneState.hold)
      | _ => false) = true := by decide +kernel
  rw [h] at hd
  exact of_decide_eq_true hd

end Sys2Proof.Machine

namespace Sys2Proof

open Machine Reg

/-- Refutes O28: its second clause has a lane that may be armed end ARMED when the page opens, but while an overflow record is
held, the lane goes on to HOLD (R7, R262) as soon as it is armed. -/
theorem not_pageEntries : ¬ Obligations.PageEntries := by
  rintro ⟨-, harm, -⟩
  obtain ⟨hadmit, hbreak, hnew, hlast⟩ := openHeld_admits
  obtain ⟨hnext, hscan, hlane, harmable⟩ := openHeld_armable
  obtain ⟨t, hexec, hst, -⟩ := harm openHeld openPlane0 3 hadmit hbreak hnew (by decide) hlast hnext rfl hscan hlane
    (by decide) (by decide) harmable
  exact absurd (hst.symm.trans (pageOpen_openHeld hexec)) (by decide)

end Sys2Proof
end

section
/-! PROOFS. The requests of a DMA read: their size, their place and their number (R101). -/

namespace Sys2Proof.Machine

open Reg

/-- A request of at most 512 bytes that lies within the n bytes at a. -/
def pieceWithin (a n : Nat) (q : Nat × Nat) : Prop := 0 < q.2 ∧ q.2 ≤ 512 ∧ a ≤ q.1 ∧ q.1 + q.2 ≤ a + n

theorem readUnit_pos : 0 < readUnit := by
  have := Nat.two_pow_pos (Config.readRequest % 6)
  unfold readUnit
  omega

theorem readUnit_le : readUnit ≤ 512 := Nat.min_le_left _ _

theorem readUnit_dvd : 64 ∣ readUnit := by
  unfold readUnit
  rcases Nat.le_total 512 (128 * 2 ^ (Config.readRequest % 6)) with h | h
  · rw [Nat.min_eq_left h]
    decide
  · rw [Nat.min_eq_right h]
    exact Dvd.dvd.mul_right (by decide) _

theorem readPieces_within {a n : Nat} (fuel : Nat) {b m : Nat} (hb : a ≤ b) (hm : b + m ≤ a + n) :
    ∀ q ∈ readPieces fuel b m, pieceWithin a n q := by
  induction fuel generalizing b m with
  | zero => simp [readPieces]
  | succ fuel ih =>
    have hunit := readUnit_le
    have hroom : b % readUnit < readUnit := Nat.mod_lt _ readUnit_pos
    unfold readPieces
    split
    · simp
    · refine List.forall_mem_cons.2 ⟨?_, ih ?_ ?_⟩
      · unfold pieceWithin
        dsimp only
        omega
      all_goals omega

/-- A whole descriptor at a multiple of its size is one request. -/
theorem readPieces_descriptor {a : Nat} (h : a % 64 = 0) : readPieces 64 a 64 = [(a, 64)] := by
  obtain ⟨c, hc⟩ := readUnit_dvd
  have hroom : a % readUnit < readUnit := Nat.mod_lt _ readUnit_pos
  have hmod : a % readUnit % 64 = 0 := by rw [Nat.mod_mod_of_dvd _ readUnit_dvd, h]
  have hk : min 64 (readUnit - a % readUnit) = 64 := by omega
  simp [readPieces, hk]

/-- What holds while the requests of reads issue: all reads keep to their bounds. -/
structure ReadsKeep (a n limit : Nat) (out : List Out) (p : List DmaRead × List Out) : Prop where
  sent : ∃ l, p.2 = out ++ l ∧ ∀ o ∈ l, o.readWithin a n = true
  todo : ∀ r ∈ p.1, ∀ q ∈ r.todo, pieceWithin a n q
  flying : (p.1.map fun r => r.flying).sum ≤ limit

/-- The request that issues is one still to do, no read gets a new one to do, and one more is in flight. -/
theorem nextPiece_spec {P : Nat × Nat → Prop} {rs rs' : List DmaRead} {q : Nat × Nat} (h : nextPiece rs = some (q, rs'))
    (hp : ∀ r ∈ rs, ∀ x ∈ r.todo, P x) :
    P q ∧ (∀ r ∈ rs', ∀ x ∈ r.todo, P x) ∧
      (rs'.map fun r => r.flying).sum = (rs.map fun r => r.flying).sum + 1 := by
  induction rs generalizing rs' with
  | nil => simp [nextPiece] at h
  | cons r rs ih =>
    obtain ⟨hr, hrs⟩ := List.forall_mem_cons.1 hp
    unfold nextPiece at h
    split at h
    case h_1 x xs htodo =>
      obtain ⟨rfl, rfl⟩ := Prod.mk.inj (Option.some.inj h)
      rw [htodo] at hr
      obtain ⟨hx, hxs⟩ := List.forall_mem_cons.1 hr
      refine ⟨hx, List.forall_mem_cons.2 ⟨hxs, hrs⟩, ?_⟩
      simp only [List.map_cons, List.sum_cons]
      omega
    case h_2 htodo =>
      obtain ⟨⟨x, xs⟩, hnext, heq⟩ := Option.map_eq_some_iff.1 h
      obtain ⟨rfl, rfl⟩ := Prod.mk.inj heq
      obtain ⟨hq, hall, hsum⟩ := ih hnext hrs
      refine ⟨hq, List.forall_mem_cons.2 ⟨hr, hall⟩, ?_⟩
      simp only [List.map_cons, List.sum_cons, hsum]
      omega

theorem dmaStepOn_keeps {a n limit : Nat} {out : List Out} {ok : Bool} {p : List DmaRead × List Out}
    (h : ReadsKeep a n limit out p) : ReadsKeep a n limit out (dmaStepOn ok limit p) := by
  obtain ⟨⟨l, hl, hsent⟩, htodo, hfly⟩ := h
  unfold dmaStepOn
  split
  case isFalse => exact ⟨⟨l, hl, hsent⟩, htodo, hfly⟩
  case isTrue hroom =>
    simp only [Bool.and_eq_true, decide_eq_true_eq] at hroom
    split
    case h_2 => exact ⟨⟨l, hl, hsent⟩, htodo, hfly⟩
    case h_1 q rs hnext =>
      obtain ⟨hq, hall, hsum⟩ := nextPiece_spec hnext htodo
      refine ⟨⟨l ++ [.read q.1 q.2], by rw [hl, List.append_assoc], ?_⟩, hall, by rw [hsum]; exact hroom.2⟩
      simp only [List.mem_append, List.mem_singleton]
      rintro o (ho | rfl)
      · exact hsent o ho
      · exact decide_eq_true hq

theorem dmaIssued_keeps {a n limit : Nat} {out : List Out} {ok : Bool} {p : List DmaRead × List Out}
    (h : ReadsKeep a n limit out p) : ReadsKeep a n limit out (dmaIssued ok limit p) := by
  unfold dmaIssued
  generalize List.range limit = l
  induction l generalizing p with
  | nil => exact h
  | cons _ l ih => exact ih (dmaStepOn_keeps h)

theorem State.dmaBegun_keeps {s : State} (who : ReadFor) (a n : Nat) (hr : s.intake.reads = []) :
    ReadsKeep a n (s.rd .pci PCI.RD_OUT) s.out (s.dmaBegun who a n) := by
  refine dmaIssued_keeps ⟨⟨[], by simp, by simp⟩, ?_, ?_⟩
  · simpa [hr] using readPieces_within n (Nat.le_refl a) (Nat.le_refl (a + n))
  · simp [hr]

/-- Once nothing is left to issue, nothing issues. -/
theorem dmaIssued_idle {ok : Bool} {limit : Nat} {p : List DmaRead × List Out} (h : nextPiece p.1 = none) (l : List Nat) :
    l.foldl (fun q _ => dmaStepOn ok limit q) p = p := by
  have hstep : dmaStepOn ok limit p = p := by
    unfold dmaStepOn
    rw [h, ite_self]
  induction l with
  | nil => rfl
  | cons _ l ih => rw [List.foldl_cons, hstep, ih]

/-- A read of one request that starts alone issues it at once. -/
theorem dmaIssued_single {limit : Nat} (hl : limit ≠ 0) (who : ReadFor) (q : Nat × Nat) (out : List Out) :
    (dmaIssued true limit ([{ who, todo := [q] }], out)).2 = out ++ [.read q.1 q.2] := by
  obtain ⟨m, rfl⟩ := Nat.exists_eq_succ_of_ne_zero hl
  unfold dmaIssued
  rw [List.range_succ_eq_map, List.foldl_cons, dmaIssued_idle]
  · simp [dmaStepOn, nextPiece]
  · simp [dmaStepOn, nextPiece]

end Sys2Proof.Machine
end

section
/-! PROOFS. The descriptors of the rings: their fetches and their checks (R107, R110, R116). -/

namespace Sys2Proof.Machine

open Reg

variable {s u : State} {e : BitVec 512} {r : Nat}

/-! ### What a ring holds -/

@[simp] theorem State.modRing_ring (s : State) (f : RingSt → RingSt) (hr : r < 9) : (s.modRing r f).ring r = f (s.ring r) := by
  simp [State.modRing, State.ring, hr]

/-- The registers of a ring's place stand apart from each other and from those an error changes. -/
theorem ringPlace_apart (r : Fin 10) : Row.apart INT.RING_COUNT r.val INT.RING_HEAD r.val = true ∧
    Row.offShown INT.RING_COUNT r.val = true ∧ Row.offShown INT.RING_HEAD r.val = true ∧
    Row.offErr INT.RING_HEAD r.val = true ∧ Row.offErr INT.RING_SIZE r.val = true := by
  revert r
  decide

/-! ### The head entry of a ring has been dealt with -/

/-- Nothing more is held of the ring's entry. -/
def RingSt.passed (q : RingSt) : RingSt := { q with entry := none, checked := false, waited := false }

theorem State.ringAdvance_only (s : State) (r : Nat) :
    OnlyFields (ringFields r) (s.modRing r RingSt.passed) (s.ringAdvance r) :=
  OnlyFields.modIntake (OnlyFields.bump _ _ _ _ (OnlyFields.wr _ _ _ _ (OnlyFields.refl _ s) (by simp [ringFields]))
    (by simp [ringFields])) fun i => { i with rings := i.rings.setIfInBounds r (RingSt.passed (i.rings.toList.getD r {})) }

theorem State.ringAdvance_head (s : State) (hr : r < 10) : (s.ringAdvance r).rd .int INT.RING_HEAD r = s.nextHead r := by
  change ((s.wr .int INT.RING_HEAD _ r).bump .int INT.RING_COUNT 1 r).rd .int INT.RING_HEAD r = _
  rw [State.bump_rd_apart _ _ _ _ (ringPlace_apart ⟨r, hr⟩).1, State.wr_rd_same]
  rfl

theorem State.ringAdvance_errorShown (s : State) (p : Page) (hr : r < 10) :
    (s.ringAdvance r).errorShown p = s.errorShown p := by
  obtain ⟨-, hcount, hhead, -⟩ := ringPlace_apart ⟨r, hr⟩
  change ((s.wr .int INT.RING_HEAD _ r).bump .int INT.RING_COUNT 1 r).errorShown p = _
  rw [State.bump_errorShown_apart _ _ _ _ hcount, State.wr_errorShown_apart _ _ _ _ hhead]

/-! ### Fetches -/

theorem execDescriptorFetch_eq {r : Fin 9} (hd : s.dmaOk = true) (ht : s.fetchTurn = some r.val) :
    exec (.descriptorFetch r) s = .next { s with
      out := (s.dmaStart (.dma (.ring (r.castLE (by omega))))
        (s.rd .int INT.RING_BASE r.val + 64 * s.rd .int INT.RING_HEAD r.val) 64).out
      intake := { s.intake with
        reads := (s.dmaStart (.dma (.ring (r.castLE (by omega))))
          (s.rd .int INT.RING_BASE r.val + 64 * s.rd .int INT.RING_HEAD r.val) 64).intake.reads
        rings := s.intake.rings.setIfInBounds r.val { s.ring r.val with fetching := true }
        turn := if r.val < 8 then (r.val + 1) % 8 else s.intake.turn } } := by
  rw [State.dmaStart_out, State.dmaStart_reads]
  refine (if_pos (by simp [hd, ht])).trans (congrArg Host.Outcome.next ?_)
  rw [State.dmaStart_eq]
  by_cases h8 : r.val < 8
  · rw [if_pos h8, if_pos h8]
    rfl
  · rw [if_neg h8, if_neg h8]
    rfl

theorem descriptorFetch_waits {r : Fin 9} (h : s.dmaOk = false ∨ s.fetchTurn ≠ some r.val) : exec (.descriptorFetch r) s = .next s :=
  if_neg (by rcases h with h | h <;> simp [h])

/-- The admin ring comes first. -/
theorem fetchTurn_admin {r : Fin 9} (h : s.canFetch 8 = true) (ht : s.fetchTurn = some r.val) : r = 8 := by
  rw [State.fetchTurn, if_pos h] at ht
  exact Fin.ext (Option.some.inj ht).symm

/-! ### The check of a plane ring's entry -/

/-- The read of a plane ring's entry is over, and the ring holds the entry. -/
def State.entryHeld (s : State) (r : Fin 8) (e : BitVec 512) : State :=
  { s with intake := { s.intake with
      rings := s.intake.rings.setIfInBounds r.val { s.ring r.val with fetching := false, entry := some e }
      reads := s.readsLess (.dma (.ring (r.castLE (by omega)))) } }

theorem execTileDescriptor_eq {r : Fin 8} (hd : s.dmaOk = true) (hf : (s.ring r.val).fetching = true)
    (hs : s.dmaSent (.dma (.ring (r.castLE (by omega)))) = true) :
    exec (.tileDescriptor r e) s = .next ((s.entryHeld r e).ringCheck r.val) :=
  if_pos (by rw [hd, hf, show s.dmaSent (.dma (.ring ⟨r.val, _⟩)) = true from hs]; rfl)

/-- The ring holds an entry that has neither been checked nor is kept back by ring 9. -/
structure EntryOpen (u : State) (r : Nat) (e : BitVec 512) : Prop where
  entry : (u.ring r).entry = some e
  unchecked : (u.ring r).checked = false
  free : u.cqBlocked r = false

theorem State.entryHeld_ring (s : State) (r : Fin 8) (e : BitVec 512) :
    (s.entryHeld r e).ring r.val = { s.ring r.val with fetching := false, entry := some e } :=
  State.modRing_ring s (fun q => { q with fetching := false, entry := some e }) (by omega)

theorem State.entryHeld_open {r : Fin 8} (hc : (s.ring r.val).checked = false) (hb : s.cqBlocked r.val = false) :
    EntryOpen (s.entryHeld r e) r.val e :=
  ⟨by rw [State.entryHeld_ring], by rw [State.entryHeld_ring]; exact hc, hb⟩

theorem EntryOpen.ringCheck_break (h : EntryOpen u r e) {nn : Nat} (hb : tileBreak e = some nn) :
    u.ringCheck r = u.entryFail r e nn := by
  simp [State.ringCheck, h.entry, h.unchecked, h.free, hb]

theorem EntryOpen.ringCheck_page (h : EntryOpen u r e) {p : PageSt} (hb : tileBreak e = none)
    (hp : u.pageById (readKey r e).page = some p) : u.ringCheck r =
      if tileFits p.desc (p.width.toList.getD r 0) (readKey r e) (readTile e) then u.tileChecks r e p
      else u.entryFail r e 0x21 := by
  simp [State.ringCheck, h.entry, h.unchecked, h.free, hb, hp]

theorem EntryOpen.ringCheck_closed (h : EntryOpen u r e) (hb : tileBreak e = none) (hp : u.pageById (readKey r e).page = none)
    (hc : u.intake.closed.contains (readKey r e).page = true) : u.ringCheck r = u.entryFail r e 0x2D := by
  simp only [State.ringCheck, h.entry, h.unchecked, h.free, hb, hp, hc]
  rfl

theorem EntryOpen.ringCheck_waits (h : EntryOpen u r e) (hb : tileBreak e = none) (hp : u.pageById (readKey r e).page = none)
    (hc : u.intake.closed.contains (readKey r e).page = false) (hw : (u.ring r).waited = false) :
    u.ringCheck r = (u.modRing r fun q => { q with waited := true }).raise .int 9 := by
  simp only [State.ringCheck, h.entry, h.unchecked, h.free, hb, hp, hc, hw]
  rfl

/-- An error code or the next check's: each is one byte. -/
theorem errorCode_lt_of_ite {c : Prop} [Decidable c] {a nn : Nat} {o : Option Nat} (ha : a < 256) (ho : ∀ n, o = some n → n < 256)
    (h : (if c then some a else o) = some nn) : nn < 256 := by
  split at h
  · exact Option.some.inj h ▸ ha
  · exact ho nn h

theorem tileBreak_lt {nn : Nat} (h : tileBreak e = some nn) : nn < 256 :=
  errorCode_lt_of_ite (by decide) (fun _ => errorCode_lt_of_ite (by decide) fun _ =>
    errorCode_lt_of_ite (by decide) fun _ hn => by simp at hn) h

/-- An entry that a ring holds fails: its error, its TILE_FAIL, and the ring at its next entry. -/
theorem State.entryHeld_fails (s : State) (r : Fin 8) (e : BitVec 512) {nn : Nat} (hn : nn < 256) :
    EntryFailed s r e nn ((s.entryHeld r e).entryFail r.val e nn) := by
  let u := s.entryHeld r e
  let v := u.tileFail (readKey r.val e) (readTile e).cookie nn
  have hv : OnlyFields (errorFields .int)
      (u.pushCqe (tileCqe (readKey r.val e) (readTile e).cookie 2 (0x1100 + nn) 0 0)) v :=
    (u.errOpen_only .int nn).modIntake fun i =>
      { i with cq := i.cq ++ [tileCqe (readKey r.val e) (readTile e).cookie 2 (0x1100 + nn) 0 0] }
  obtain ⟨-, -, -, hhead, hsize⟩ := ringPlace_apart (r.castLE (by omega))
  constructor
  · exact (State.ringAdvance_errorShown _ _ (by omega)).trans (State.errOpen_errorShown _ _ _ hn)
  · refine (State.ringAdvance_head v (by omega)).trans ?_
    unfold State.nextHead
    rw [show v.rd .int INT.RING_HEAD r.val = s.rd .int INT.RING_HEAD r.val from State.errOpen_rd_apart _ _ _ _ hhead,
      show v.rd .int INT.RING_SIZE r.val = s.rd .int INT.RING_SIZE r.val from State.errOpen_rd_apart _ _ _ _ hsize]
  · have hpass : v.modRing r.val RingSt.passed = v.modIntake fun i => { i with rings := s.intake.rings.setIfInBounds r.val {} } := by
      have hring : v.ring r.val = u.ring r.val := by rw [State.ring, hv.intake_same]; rfl
      have hrings : v.intake.rings = s.intake.rings.setIfInBounds r.val (u.ring r.val) := by rw [hv.intake_same, s.entryHeld_ring]; rfl
      unfold State.modRing
      rw [hring, hrings, Vector.setIfInBounds_setIfInBounds, s.entryHeld_ring]
      rfl
    have hadv := v.ringAdvance_only r.val
    rw [hpass] at hadv
    exact (hv.modIntake fun i => { i with rings := s.intake.rings.setIfInBounds r.val {} }).append hadv

end Sys2Proof.Machine
end

section
/-! PROOFS. The entries of the plane rings: the checks of their tiles, and the granules they are given (R116, R117). -/

namespace Sys2Proof.Machine

open Reg

variable {s u : State} {e : BitVec 512} {r : Nat} {p : PageSt}

/-! ### The checks on an open page -/

theorem tileChecks_late (hr : (readTile e).resubmit = false) (ho : u.inOrder r p (readKey r e).band = false) :
    u.tileChecks r e p = u.entryFail r e 0x22 := by
  unfold State.inOrder at ho
  unfold State.tileChecks
  rcases hlast : u.intake.order.toList.getD r none with - | ⟨o, b⟩
  · rw [hlast] at ho
    exact absurd ho (by simp)
  · rw [hlast] at ho
    refine if_pos ?_
    simp only [decide_eq_false_iff_not] at ho
    simp only [hr, Bool.not_false, Bool.true_and, Bool.or_eq_true, Bool.and_eq_true, decide_eq_true_eq, beq_iff_eq]
    omega

/-- A tile in order that is new and finds room in the heap and in its plane's quota passes. -/
theorem tileChecks_pass (hr : (readTile e).resubmit = false) (ho : u.inOrder r p (readKey r e).band = true)
    (hk : u.intake.tiles.all (fun v => v.key != readKey r e) = true) (hg : tileGranules (readTile e) ≤ u.heapGranules)
    (hq : u.rd .int INT.PQUOTA r = 0 ∨ tileGranules (readTile e) ≤ 256 * u.rd .int INT.PQUOTA r) :
    u.tileChecks r e p = (u.modIntake fun i => { i with
      order := i.order.setIfInBounds r (some (p.ord, (readKey r e).band)) }).modRing r fun x => { x with checked := true } := by
  have hnew : (u.intake.tiles.find? fun v => v.key == readKey r e) = none := by
    simpa [List.find?_eq_none] using hk
  unfold State.tileChecks
  refine (if_neg ?_).trans ?_
  · unfold State.inOrder at ho
    rcases hlast : u.intake.order.toList.getD r none with - | ⟨o, b⟩
    · simp
    · rw [hlast] at ho
      simp only [decide_eq_true_eq] at ho
      simp only [hr, Bool.not_false, Bool.true_and, Bool.or_eq_true, Bool.and_eq_true, decide_eq_true_eq, beq_iff_eq]
      omega
  · rw [hr, hnew]
    refine (if_neg (by simp)).trans ((if_neg (by simp)).trans (if_neg ?_))
    change ¬ (decide (u.heapGranules < tileGranules (readTile e)) ||
      (u.rd .int INT.PQUOTA r != 0 && decide (256 * u.rd .int INT.PQUOTA r < tileGranules (readTile e)))) = true
    simp only [Bool.or_eq_true, Bool.and_eq_true, decide_eq_true_eq, bne_iff_ne]
    omega

/-! ### The data of a tile's entry has come -/

theorem State.entryHeld_modRing (s : State) (r : Fin 8) (e : BitVec 512) (f : RingSt → RingSt) :
    (s.entryHeld r e).modRing r.val f = { s with intake := { s.intake with
      rings := s.intake.rings.setIfInBounds r.val (f { s.ring r.val with fetching := false, entry := some e })
      reads := s.readsLess (.dma (.ring (r.castLE (by omega)))) } } := by
  have hset : (s.entryHeld r e).intake.rings.setIfInBounds r.val (f ((s.entryHeld r e).ring r.val)) =
      s.intake.rings.setIfInBounds r.val (f { s.ring r.val with fetching := false, entry := some e }) := by
    rw [s.entryHeld_ring]
    exact Vector.setIfInBounds_setIfInBounds ..
  unfold State.modRing
  rw [hset]
  rfl

theorem execTileDescriptor_pass {r : Fin 8} (hd : s.dmaOk = true) (hf : (s.ring r.val).fetching = true)
    (hs : s.dmaSent (.dma (.ring (r.castLE (by omega)))) = true) (hb : s.cqBlocked r.val = false)
    (hc : (s.ring r.val).checked = false) (he : tileBreak e = none) (hp : s.pageById (readKey r.val e).page = some p)
    (hfit : tileFits p.desc (p.width.toList.getD r.val 0) (readKey r.val e) (readTile e) = true)
    (hr : (readTile e).resubmit = false) (ho : s.inOrder r.val p (readKey r.val e).band = true)
    (hk : s.intake.tiles.all (fun u => u.key != readKey r.val e) = true) (hg : tileGranules (readTile e) ≤ s.heapGranules)
    (hq : s.rd .int INT.PQUOTA r.val = 0 ∨ tileGranules (readTile e) ≤ 256 * s.rd .int INT.PQUOTA r.val) :
    exec (.tileDescriptor r e) s = .next { s with intake := { s.intake with
      reads := s.readsLess (.dma (.ring (r.castLE (by omega))))
      rings := s.intake.rings.setIfInBounds r.val { s.ring r.val with fetching := false, entry := some e, checked := true }
      order := s.intake.order.setIfInBounds r.val (some (p.ord, (readKey r.val e).band)) } } := by
  rw [execTileDescriptor_eq hd hf hs, (State.entryHeld_open hc hb).ringCheck_page he hp, if_pos hfit,
    tileChecks_pass (u := s.entryHeld r e) hr ho hk hg hq]
  refine congrArg Host.Outcome.next ?_
  exact congrArg (fun t => State.modIntake t fun i => { i with
    order := i.order.setIfInBounds r.val (some (p.ord, (readKey r.val e).band)) })
    (s.entryHeld_modRing r e fun x => { x with checked := true })

theorem execTileDescriptor_waits {r : Fin 8} (hd : s.dmaOk = true) (hf : (s.ring r.val).fetching = true)
    (hs : s.dmaSent (.dma (.ring (r.castLE (by omega)))) = true) (hb : s.cqBlocked r.val = false)
    (hc : (s.ring r.val).checked = false) (hw : (s.ring r.val).waited = false) (he : tileBreak e = none)
    (hp : s.pageById (readKey r.val e).page = none) (hcl : s.intake.closed.contains (readKey r.val e).page = false) :
    ∃ t, exec (.tileDescriptor r e) s = .next t ∧ t.event .int 9 = true ∧
      OnlyFields [(.int, HDR.PG_EVT_RAW, 0)] { s with intake := { s.intake with
        reads := s.readsLess (.dma (.ring (r.castLE (by omega))))
        rings := s.intake.rings.setIfInBounds r.val
          { s.ring r.val with fetching := false, entry := some e, waited := true } } } t := by
  have hopen : EntryOpen (s.entryHeld r e) r.val e := State.entryHeld_open hc hb
  have hring := s.entryHeld_ring r e
  refine ⟨_, (execTileDescriptor_eq hd hf hs).trans (congrArg _ (hopen.ringCheck_waits he hp hcl (by rw [hring]; exact hw))),
    State.raise_event_same _ _ _ (by decide), ?_⟩
  rw [s.entryHeld_modRing]
  exact OnlyFields.raise _ _ (OnlyFields.refl _ _) (by simp)

end Sys2Proof.Machine
end

section
/-! PROOFS. The granules a tile is given, and the read of its data (R117). -/

namespace Sys2Proof.Machine

open Reg

variable {s : State} {e : BitVec 512}

/-! ### Granules -/

theorem pickGranules_length_le (size : Nat) (used : List Nat) (fuel i n : Nat) :
    (pickGranules size used fuel i n).length ≤ n := by
  induction fuel generalizing i n with
  | zero => exact Nat.zero_le _
  | succ fuel ih =>
    unfold pickGranules
    split
    · exact Nat.zero_le _
    · split
      · exact ih _ _
      · have := ih (i + 1) (n - 1)
        simp only [List.length_cons]
        omega

/-- A granule that is picked stands at one of the places searched, and no tile holds it. -/
theorem pickGranules_mem {size : Nat} {used : List Nat} {fuel i n g : Nat} (h : g ∈ pickGranules size used fuel i n) :
    g ∉ used ∧ ∃ j, i ≤ j ∧ j < i + fuel ∧ g = j % size := by
  induction fuel generalizing i n with
  | zero => simp [pickGranules] at h
  | succ fuel ih =>
    have hlater {m : Nat} (hm : g ∈ pickGranules size used fuel (i + 1) m) :
        g ∉ used ∧ ∃ j, i ≤ j ∧ j < i + (fuel + 1) ∧ g = j % size := by
      obtain ⟨hu, j, hj, hlt, hg⟩ := ih hm
      exact ⟨hu, j, by omega, by omega, hg⟩
    unfold pickGranules at h
    split at h
    · simp at h
    · split at h
      · exact hlater h
      next hfree =>
        rcases List.mem_cons.1 h with rfl | h
        · exact ⟨by simpa using hfree, i, Nat.le_refl i, by omega, rfl⟩
        · exact hlater h

/-- Places closer together than the size of the heap are different granules. -/
theorem mod_ne_mod {size i j : Nat} (h : i < j) (hj : j < i + size) : i % size ≠ j % size := by
  intro he
  have hd : size ∣ j - i := (Nat.modEq_iff_dvd' h.le).1 he
  exact absurd (Nat.le_of_dvd (by omega) hd) (by omega)

theorem pickGranules_nodup {size : Nat} {used : List Nat} {fuel : Nat} (hf : fuel ≤ size) (i n : Nat) :
    (pickGranules size used fuel i n).Nodup := by
  induction fuel generalizing i n with
  | zero => exact List.nodup_nil
  | succ fuel ih =>
    unfold pickGranules
    split
    · exact List.nodup_nil
    · split
      · exact ih (by omega) _ _
      · refine List.nodup_cons.2 ⟨fun hm => ?_, ih (by omega) _ _⟩
        obtain ⟨-, j, hj, hlt, heq⟩ := pickGranules_mem hm
        exact mod_ne_mod (by omega) (by omega) heq

/-- As many are picked as are sought, or as are free. -/
theorem pickGranules_length (size : Nat) (used : List Nat) (fuel i n : Nat) : (pickGranules size used fuel i n).length =
    min n ((List.range' i fuel).filter fun j => !used.contains (j % size)).length := by
  induction fuel generalizing i n with
  | zero => simp [pickGranules]
  | succ fuel ih =>
    unfold pickGranules
    rw [List.range'_succ, List.filter_cons]
    split
    · simp_all
    · split
      next hused => rw [ih, if_neg (by simpa using hused)]
      next hfree =>
        rw [if_pos (by simpa using hfree), List.length_cons, List.length_cons, ih]
        omega

/-- At most as many places of the heap are used as granules are held. -/
theorem usedPlaces_le (size : Nat) (used : List Nat) (i : Nat) :
    ((List.range' i size).filter fun j => used.contains (j % size)).length ≤ used.length := by
  have hinj : (((List.range' i size).filter fun j => used.contains (j % size)).map (· % size)).Nodup := by
    refine List.Nodup.map_on (fun x hx y hy he => ?_) (List.Nodup.filter _ List.nodup_range')
    have hx := List.mem_range'_1.1 (List.mem_of_mem_filter hx)
    have hy := List.mem_range'_1.1 (List.mem_of_mem_filter hy)
    rcases Nat.lt_trichotomy x y with h | h | h
    · exact absurd he (mod_ne_mod h (by omega))
    · exact h
    · exact absurd he.symm (mod_ne_mod h (by omega))
  have hsub : ((List.range' i size).filter fun j => used.contains (j % size)).map (· % size) ⊆ used := by
    intro g hg
    obtain ⟨j, hj, rfl⟩ := List.mem_map.1 hg
    simpa using List.of_mem_filter hj
  simpa using (List.subperm_of_subset hinj hsub).length_le

/-- Where enough granules are free, all that are sought are picked. -/
theorem pickGranules_full {size : Nat} {used : List Nat} {n : Nat} (h : used.length + n ≤ size) (i : Nat) :
    (pickGranules size used size i n).length = n := by
  have hsplit := List.length_eq_length_filter_add (l := List.range' i size) fun j => used.contains (j % size)
  rw [List.length_range'] at hsplit
  have hused := usedPlaces_le size used i
  rw [pickGranules_length]
  omega

/-- The granules that tiles hold. -/
def State.heldGranules (s : State) : List Nat := s.intake.tiles.flatMap fun t => t.gran

theorem State.usedGranules_all (s : State) : s.usedGranules none = s.heldGranules.length := by
  simp [State.usedGranules, State.heldGranules, List.length_flatMap]

/-- The granules given to a tile of n granules. -/
def State.granulesFor (s : State) (n : Nat) : List Nat :=
  pickGranules s.heapGranules s.heldGranules s.heapGranules (Config.freeNat s.free) n

/-- Granules are given once each, lie in the heap and are held by no tile. -/
theorem State.granulesFor_free (s : State) (n : Nat) : (s.granulesFor n).Nodup ∧ (s.granulesFor n).length ≤ n ∧
    ∀ g ∈ s.granulesFor n, g < s.heapGranules ∧ ∀ v ∈ s.intake.tiles, g ∉ v.gran := by
  refine ⟨pickGranules_nodup (Nat.le_refl _) _ _, pickGranules_length_le _ _ _ _ _, fun g hg => ?_⟩
  obtain ⟨hu, j, hj, hlt, rfl⟩ := pickGranules_mem hg
  exact ⟨Nat.mod_lt _ (by omega), fun v hv hm => hu (List.mem_flatMap.2 ⟨v, hv, hm⟩)⟩

theorem State.granulesFor_full {n : Nat} (h : s.usedGranules none + n ≤ s.heapGranules) : (s.granulesFor n).length = n :=
  pickGranules_full (by rwa [← State.usedGranules_all]) _

end Sys2Proof.Machine
end

section
/-! PROOFS. Tiles are allocated (R117). -/

namespace Sys2Proof.Machine

open Reg

variable {s : State} {e : BitVec 512} {r : Fin 8}

/-- The tile of an entry, whose data will be read. -/
def State.tileOf (s : State) (r : Fin 8) (e : BitVec 512) : Tile :=
  { key := readKey r.val e, desc := readTile e, phase := .reading, gran := s.granulesFor (tileGranules (readTile e))
    repl := (readTile e).resubmit }

/-- The credit, the ring and the read once the tile has its granules. -/
def State.tileStarted (s : State) (r : Fin 8) (e : BitVec 512) : State :=
  (((s.draw.2.modIntake fun i => { i with tiles := i.tiles ++ [s.tileOf r e] }).settleCredit).ringAdvance r.val).dmaStart
    (.dma (.tile (readKey r.val e))) (readTile e).srcAddr (readTile e).srcLen

/-- A change of intake in which neither the reads nor D3hot change bears on no read that starts. -/
theorem State.dmaBegun_modIntake (s : State) {f : Intake → Intake} {who : ReadFor} {a n : Nat}
    (hr : (f s.intake).reads = s.intake.reads) (hd : (f s.intake).d3hot = s.intake.d3hot) :
    (s.modIntake f).dmaBegun who a n = s.dmaBegun who a n := by
  have hok : (s.modIntake f).dmaOk = s.dmaOk := congrArg (fun b => s.devUp && s.on .pci PCI.LINK_UP && !b) hd
  unfold State.dmaBegun
  rw [hok, show (s.modIntake f).intake.reads = s.intake.reads from hr]
  rfl

theorem OnlyFields.settleCredit {fs : List FieldAt} {t : State} (h : OnlyFields fs s t) : OnlyFields (fs ++ creditFields)
    (s.modIntake fun i => { i with lowSeen := t.settleCredit.intake.lowSeen }) t.settleCredit :=
  (h.modIntake fun i => { i with lowSeen := t.settleCredit.intake.lowSeen }).append t.settleCredit_only

/-- What a ring holds changes, as it did in s. -/
theorem OnlyFields.modRing {fs : List FieldAt} {t : State} {q : RingSt} {k : Nat} (h : OnlyFields fs s t) (hq : t.ring k = q)
    (f : RingSt → RingSt) :
    OnlyFields fs (s.modIntake fun i => { i with rings := i.rings.setIfInBounds k (f q) }) (t.modRing k f) := by
  subst hq
  exact h.modIntake fun i => { i with rings := i.rings.setIfInBounds k (f (t.ring k)) }

theorem execTileAllocate_eq (hd : s.dmaOk = true) (he : (s.ring r.val).entry = some e) (hc : (s.ring r.val).checked = true)
    (hg : tileGranules (readTile e) ≤ s.rd .int INT.CREDIT)
    (hq : s.rd .int INT.PQUOTA r.val = 0 ∨
      s.usedGranules (some r.val) + tileGranules (readTile e) ≤ 256 * s.rd .int INT.PQUOTA r.val)
    (hf : (s.intake.tiles.filter fun u => u.phase == .reading).length < 16) (hb : s.cqBlocked r.val = false) :
    exec (.tileAllocate r) s = .next (s.tileStarted r e) := by
  have hroom : s.creditLacks r.val e = false := by
    simp only [State.creditLacks, Bool.or_eq_false_iff, Bool.and_eq_false_iff, decide_eq_false_iff_not, bne_eq_false_iff_eq]
    omega
  change execTileAllocate r s = _
  unfold execTileAllocate
  rw [he]
  exact if_pos (by simp [hd, hc, hroom, hf, hb])

theorem tileAllocate_waits (he : (s.ring r.val).entry = some e)
    (h : s.rd .int INT.CREDIT < tileGranules (readTile e) ∨ s.cqBlocked r.val = true) : exec (.tileAllocate r) s = .next s := by
  change execTileAllocate r s = _
  unfold execTileAllocate
  rw [he]
  refine if_neg ?_
  rcases h with h | h <;> simp [State.creditLacks, h]

theorem ringCredit_apart (r : Fin 8) : ∀ x ∈ [INT.RING_HEAD, INT.RING_SIZE],
    Row.apart INT.CREDIT 0 x r.val = true ∧ Row.apart HDR.PG_EVT_RAW 0 x r.val = true := by
  revert r
  decide

theorem ringFields_clear (r : Fin 8) : FieldAt.clear (ringFields r.val) .int INT.CREDIT 0 ∧
    FieldAt.clear (ringFields r.val) .int INT.HEAP_SIZE 0 := by
  have h : (Row.apart INT.RING_HEAD r.val INT.CREDIT 0 = true ∧ Row.apart INT.RING_COUNT r.val INT.CREDIT 0 = true) ∧
      Row.apart INT.RING_HEAD r.val INT.HEAP_SIZE 0 = true ∧ Row.apart INT.RING_COUNT r.val INT.HEAP_SIZE 0 = true := by
    revert r
    decide
  simp [ringFields, h]

/-- The fields of intake that a tile's start changes do not bear on DMA. -/
theorem startFields_clear (r : Fin 8) : FieldAt.clear (creditFields ++ ringFields r.val) .pci PCI.LINK_UP 0 ∧
    FieldAt.clear (creditFields ++ ringFields r.val) .pci PCI.RD_OUT 0 := by
  have hin : Row.inPage INT.RING_HEAD r.val = true ∧ Row.inPage INT.RING_COUNT r.val = true := by
    revert r
    decide
  constructor <;> simp +decide [creditFields, ringFields, hin]

theorem State.settleCredit_nextHead (s : State) (r : Fin 8) : s.settleCredit.nextHead r.val = s.nextHead r.val := by
  have hrd {x : Row} (hx : x ∈ [INT.RING_HEAD, INT.RING_SIZE]) : s.settleCredit.rd .int x r.val = s.rd .int x r.val :=
    s.settleCredit_only.fields.rd_clear (by simp [creditFields, ringCredit_apart r x hx])
  rw [State.nextHead, hrd (by simp), hrd (by simp)]
  rfl

theorem State.tileStarted_only (s : State) (r : Fin 8) (e : BitVec 512) :
    OnlyFields (creditFields ++ ringFields r.val) { s with
        out := (s.dmaStart (.dma (.tile (readKey r.val e))) (readTile e).srcAddr (readTile e).srcLen).out
        intake := { s.intake with
          reads := (s.dmaStart (.dma (.tile (readKey r.val e))) (readTile e).srcAddr (readTile e).srcLen).intake.reads
          tiles := s.intake.tiles ++ [s.tileOf r e]
          rings := s.intake.rings.setIfInBounds r.val (s.ring r.val).passed
          lowSeen := (s.tileStarted r e).intake.lowSeen } } (s.tileStarted r e) := by
  unfold State.tileStarted
  generalize s.tileOf r e = new
  have hcredit := ((OnlyFields.refl [] s).drawn.modIntake fun i => { i with tiles := i.tiles ++ [new] }).settleCredit
  generalize (State.modIntake s.draw.2 fun i => { i with tiles := i.tiles ++ [new] }).settleCredit = c at hcredit ⊢
  have hlow : ((c.ringAdvance r.val).dmaStart (.dma (.tile (readKey r.val e))) (readTile e).srcAddr
      (readTile e).srcLen).intake.lowSeen = c.intake.lowSeen := by
    rw [State.dmaStart_eq]
    rfl
  rw [hlow]
  generalize c.intake.lowSeen = low at hcredit ⊢
  have hring : c.ring r.val = s.ring r.val := by
    rw [State.ring, hcredit.intake_same]
    rfl
  obtain ⟨hlink, hout⟩ := startFields_clear r
  have hall := ((hcredit.modRing hring RingSt.passed).append (c.ringAdvance_only r.val)).dmaStart hlink hout
    (.dma (.tile (readKey r.val e))) (readTile e).srcAddr (readTile e).srcLen
  rw [State.dmaStart_eq (State.modIntake _ _), State.dmaBegun_modIntake _ rfl rfl, State.dmaBegun_modIntake _ rfl rfl,
    State.dmaBegun_modIntake _ rfl rfl, List.nil_append] at hall
  dsimp only [State.modIntake, State.withDma] at hall
  rw [State.dmaStart_out, State.dmaStart_reads]
  exact hall

theorem State.tileStarted_tiles (s : State) (r : Fin 8) (e : BitVec 512) :
    (s.tileStarted r e).intake.tiles = s.intake.tiles ++ [s.tileOf r e] := by
  rw [(s.tileStarted_only r e).intake_same]

theorem State.tileStarted_last (s : State) (r : Fin 8) (e : BitVec 512) :
    (s.tileStarted r e).intake.tiles.getLast? = some (s.tileOf r e) := by
  rw [State.tileStarted_tiles, List.getLast?_concat]

theorem State.withDma_rd (s : State) (q : List DmaRead × List Out) (p : Page) (x : Row) (i : Nat) :
    (s.withDma q).rd p x i = s.rd p x i := rfl

theorem State.tileStarted_head (s : State) (r : Fin 8) (e : BitVec 512) :
    (s.tileStarted r e).rd .int INT.RING_HEAD r.val = s.nextHead r.val := by
  unfold State.tileStarted
  rw [State.dmaStart_eq, State.withDma_rd, State.ringAdvance_head _ (by omega), State.settleCredit_nextHead]
  rfl

theorem State.tileStarted_credit (s : State) (r : Fin 8) (e : BitVec 512) : (s.tileStarted r e).rd .int INT.CREDIT =
    ((s.tileStarted r e).heapGranules - (s.tileStarted r e).usedGranules none) % 2 ^ 25 := by
  let b := s.draw.2.modIntake fun i => { i with tiles := i.tiles ++ [s.tileOf r e] }
  have hheap : (s.tileStarted r e).heapGranules = b.heapGranules := by
    unfold State.heapGranules
    rw [(s.tileStarted_only r e).fields.rd_clear (by simp +decide [creditFields, ringFields_clear r])]
    rfl
  have hused : (s.tileStarted r e).usedGranules none = b.usedGranules none := by
    unfold State.usedGranules
    rw [State.tileStarted_tiles]
    rfl
  rw [hheap, hused, ← State.settleCredit_credit b]
  unfold State.tileStarted
  rw [State.dmaStart_eq, State.withDma_rd, (State.ringAdvance_only _ _).fields.rd_clear (ringFields_clear r).1]
  rfl

end Sys2Proof.Machine

namespace Sys2Proof

open Machine Reg

/-- Settles O25: the fetch and the checks go through what the ring holds of its entry, the requests through what every step of
issuing keeps, and the allocation through the search for free granules. -/
theorem tileEntries : Obligations.TileEntries := by
  refine ⟨fun s r hd ht => execDescriptorFetch_eq hd ht, fun s r h => descriptorFetch_waits h, fun s r h ht => fetchTurn_admin h ht,
    fun s who a n hr => ?_, fun s who a hd hr hl ha => ?_,
    fun s r e p hd hf hs hb hc he hp hfit hr ho hk hg hq => execTileDescriptor_pass hd hf hs hb hc he hp hfit hr ho hk hg hq,
    fun s r e nn hd hf hs hb hc he => ?_,
    fun s r e hd hf hs hb hc hw he hp hcl => execTileDescriptor_waits hd hf hs hb hc hw he hp hcl,
    fun s r e hd hf hs hb hc he hp hcl => ?_, fun s r e p hd hf hs hb hc he hp hfit => ?_,
    fun s r e p hd hf hs hb hc he hp hfit hr ho => ?_, fun s r e hd he hc hg hq hf hb => ?_,
    fun s r e he h => tileAllocate_waits he h⟩
  · obtain ⟨⟨l, hl, hwithin⟩, -, hfly⟩ := State.dmaBegun_keeps who a n hr
    rw [State.dmaStart_out, State.dmaStart_reads, hl, List.drop_left]
    exact ⟨hwithin, hfly⟩
  · rw [State.dmaStart_out, State.dmaBegun, hd, hr, readPieces_descriptor ha]
    exact dmaIssued_single hl who (a, 64) s.out
  · exact ⟨_, (execTileDescriptor_eq hd hf hs).trans (congrArg _ ((State.entryHeld_open hc hb).ringCheck_break he)),
      s.entryHeld_fails r e (tileBreak_lt he)⟩
  · exact ⟨_, (execTileDescriptor_eq hd hf hs).trans (congrArg _ ((State.entryHeld_open hc hb).ringCheck_closed he hp hcl)),
      s.entryHeld_fails r e (by decide)⟩
  · have hcheck := (State.entryHeld_open (e := e) hc hb).ringCheck_page he hp
    rw [if_neg (by rw [hfit]; decide)] at hcheck
    exact ⟨_, (execTileDescriptor_eq hd hf hs).trans (congrArg _ hcheck), s.entryHeld_fails r e (by decide)⟩
  · have hcheck := (State.entryHeld_open (e := e) hc hb).ringCheck_page he hp
    rw [if_pos hfit, tileChecks_late (u := s.entryHeld r e) hr ho] at hcheck
    exact ⟨_, (execTileDescriptor_eq hd hf hs).trans (congrArg _ hcheck), s.entryHeld_fails r e (by decide)⟩
  · refine ⟨_, execTileAllocate_eq hd he hc hg hq hf hb, ?_, ?_, s.tileStarted_head r e, s.tileStarted_credit r e, ?_⟩
    · rw [State.tileStarted_last]
      rintro u ⟨⟩
      exact s.granulesFor_free _
    · rw [State.tileStarted_last]
      rintro hroom u ⟨⟩
      exact State.granulesFor_full hroom
    · rw [State.tileStarted_last]
      have hpassed : (s.ring r.val).passed = { fetching := (s.ring r.val).fetching } := rfl
      rw [← hpassed]
      exact s.tileStarted_only r e

end Sys2Proof
end

section
/-! PROOFS. What a failed tile leaves (R116, R127): the codec, the tags and the credit follow. -/

namespace Sys2Proof.Machine

open Reg

variable {fs : List FieldAt} {s t : State}

theorem State.settleCodec_only (s : State) : OnlyFields codecFields s s.settleCodec :=
  OnlyFields.setPage _ _ (OnlyFields.wr _ _ _ _ (OnlyFields.wr _ _ _ _ (OnlyFields.refl _ s) (by simp [codecFields]))
    (by simp [codecFields])) (by simp [codecFields]) (by simp [codecFields])

theorem State.settleTags_only (s : State) : OnlyFields tagFields s s.settleTags :=
  OnlyFields.wr _ _ _ _ (OnlyFields.wr _ _ _ _ (OnlyFields.refl _ s) (by simp [tagFields])) (by simp [tagFields])

/-- A change of fields in which neither the size of the heap nor its credit shows leaves the credit right. -/
theorem OnlyFields.creditRight (h : OnlyFields fs s.settleCredit t) (hi : t.intake.tiles = s.intake.tiles)
    (hc : FieldAt.clear fs .int INT.CREDIT 0) (hs : FieldAt.clear fs .int INT.HEAP_SIZE 0) :
    t.rd .int INT.CREDIT = (t.heapGranules - t.usedGranules none) % 2 ^ 25 := by
  have hheap : t.heapGranules = s.heapGranules := by
    unfold State.heapGranules
    rw [h.fields.rd_clear hs, s.settleCredit_only.fields.rd_clear (by simp +decide [creditFields])]
    rfl
  have hused : t.usedGranules none = s.usedGranules none := by
    unfold State.usedGranules
    rw [hi]
  rw [h.fields.rd_clear hc, State.settleCredit_credit, hheap, hused]

theorem State.settleCredit_right (s : State) : s.settleCredit.rd .int INT.CREDIT =
    (s.settleCredit.heapGranules - s.settleCredit.usedGranules none) % 2 ^ 25 :=
  (OnlyFields.refl [] _).creditRight (by rw [s.settleCredit_only.intake_same]; rfl) (by simp) (by simp)

@[simp] theorem State.pushCqe_rd (s : State) (c : Cqe) (p : Page) (r : Row) (i : Nat) : (s.pushCqe c).rd p r i = s.rd p r i := rfl

theorem State.pushCqe_heapGranules (s : State) (c : Cqe) : (s.pushCqe c).heapGranules = s.heapGranules := rfl

theorem State.pushCqe_usedGranules (s : State) (c : Cqe) (p : Option Nat) :
    (s.pushCqe c).usedGranules p = s.usedGranules p := rfl

theorem OnlyFields.pushCqe (h : OnlyFields fs s t) (c : Cqe) : OnlyFields fs (s.pushCqe c) (t.pushCqe c) :=
  h.modIntake fun i => { i with cq := i.cq ++ [c] }

/-- The credit is right, and then a completion waits. -/
theorem State.settleCredit_pushCqe (s : State) (c : Cqe) : (s.settleCredit.pushCqe c).rd .int INT.CREDIT =
    ((s.settleCredit.pushCqe c).heapGranules - (s.settleCredit.pushCqe c).usedGranules none) % 2 ^ 25 := by
  rw [State.pushCqe_rd, State.pushCqe_heapGranules, State.pushCqe_usedGranules]
  exact s.settleCredit_right

/-- What intake and the codec hold once the tile is lost. -/
theorem State.tileForgot_pushCqe (s : State) (k : TileKey) (low : Bool) (c : Cqe) :
    ((s.tileForgot k).modIntake fun i => { i with lowSeen := low }).pushCqe c = { s with
      codec := { s.codec with encoders := s.encodersLess k }
      intake := { s.intake with
        tiles := s.intake.tiles.filter fun (u : Tile) => u.key != k
        cq := s.intake.cq ++ [c]
        reads := s.readsLess (.dma (.tile k))
        lowSeen := low } } := rfl

theorem OnlyFields.tileForgot (h : OnlyFields fs s t) (k : TileKey) : OnlyFields fs (s.tileForgot k) (t.tileForgot k) :=
  ⟨h.fields, by unfold State.tileForgot State.dmaOver; rw [h.rest]⟩

theorem OnlyFields.tileLost_rest (h : OnlyFields fs s t) (k : TileKey) (c : Cqe) :
    OnlyFields (fs ++ codecFields ++ tagFields ++ creditFields)
      (((s.tileForgot k).modIntake fun i => { i with lowSeen := (t.tileLost k c).intake.lowSeen }).pushCqe c) (t.tileLost k c) := by
  rw [State.tileLost_eq]
  have hcredit := (((h.tileForgot k).append (State.settleCodec_only _)).append (State.settleTags_only _)).settleCredit
  generalize (t.tileForgot k).settleCodec.settleTags.settleCredit = u at hcredit ⊢
  exact hcredit.pushCqe c

/-- A tile in flight is lost after changes of some fields, INT's error among them. -/
theorem OnlyFields.tileLost {more : List FieldAt} (h : OnlyFields (errorFields .int ++ more) s t) (k : TileKey)
    (cookie status : Nat) : TileFailed s k cookie status more (t.tileLost k (tileCqe k cookie 2 status 0 0)) := by
  constructor
  · rw [State.tileLost_eq]
    exact State.settleCredit_pushCqe _ _
  · have hall := h.tileLost_rest k (tileCqe k cookie 2 status 0 0)
    rw [State.tileForgot_pushCqe] at hall
    refine OnlyFields.mono hall fun f hf => ?_
    simp only [List.mem_append] at hf ⊢
    tauto

theorem State.flightFail_failed (s : State) (u : Tile) (nn : Nat) :
    TileFailed s u.key u.desc.cookie (0x1100 + nn) [] (s.flightFail u nn) :=
  OnlyFields.tileLost (by simpa using s.errOpen_int_only nn) _ _ _

/-! ### A failed DMA read may be logged (R106) -/

theorem State.aerMaybe_only (s : State) : OnlyFields (eventField .pci) s s.aerMaybe :=
  OnlyFields.when _ _ (OnlyFields.refl _ s).drawn fun _ hu => OnlyFields.raise _ _ hu (by simp [eventField])

theorem State.aerMaybe_errorShown (s : State) : s.aerMaybe.errorShown .int = s.errorShown .int :=
  s.aerMaybe_only.errorShown_clear (by simp +decide [eventField]) (by simp +decide [eventField])

end Sys2Proof.Machine
end

section
/-! PROOFS. Bytes that intake and the codec write to the spool through a port, burst by burst (R160, R169, R170). -/

namespace Sys2Proof.Machine

open Reg

/-! ### The part of a write that falls into one burst -/

/-- The data and the mask of a write's bytes at a, as far as the first n bytes of the burst at b hold any. -/
structure PartUpTo (a b : Nat) (l : List Byte) (n : Nat) (p : Nat × BitVec 64) : Prop where
  lt : p.1 < 2 ^ (8 * n)
  byte : ∀ i, i < n → a ≤ b + i → b + i < a + l.length → p.1 / 2 ^ (8 * i) % 256 = (l.getD (b + i - a) 0).toNat
  mask : ∀ i, p.2.toNat.testBit i = decide (i < n ∧ a ≤ b + i ∧ b + i < a + l.length)

theorem add_mul_pow_byte {d v n i : Nat} (h : i < n) :
    (d + v * 2 ^ (8 * n)) / 2 ^ (8 * i) % 256 = d / 2 ^ (8 * i) % 256 := by
  obtain ⟨k, rfl⟩ : ∃ k, n = i + 1 + k := ⟨n - i - 1, by omega⟩
  have hsplit : v * 2 ^ (8 * (i + 1 + k)) = 2 ^ (8 * i) * (256 * (v * 2 ^ (8 * k))) := by
    rw [show 8 * (i + 1 + k) = 8 * i + (8 + 8 * k) by omega, pow_add, pow_add]
    ring
  rw [hsplit, Nat.add_mul_div_left _ _ (Nat.two_pow_pos _), Nat.add_mul_mod_self_left]

theorem burstPart_upTo (a b : Nat) (l : List Byte) {n : Nat} (hn : n ≤ 64) :
    PartUpTo a b l n ((List.range n).foldl (fun (d, m) i =>
      if decide (a ≤ b + i) && decide (b + i < a + l.length) && true then
        (d + (l.getD (b + i - a) 0).toNat * 2 ^ (8 * i), m ||| BitVec.ofNat 64 (2 ^ i))
      else (d, m)) (0, 0)) := by
  induction n with
  | zero => exact ⟨by simp, by simp, by simp⟩
  | succ n ih =>
    obtain ⟨hlt, hbyte, hmask⟩ := ih (by omega)
    rw [List.range_succ, List.foldl_append]
    generalize (List.range n).foldl _ _ = p at hlt hbyte hmask ⊢
    obtain ⟨d, m⟩ := p
    dsimp only at hlt hbyte hmask
    have hgrow : 2 ^ (8 * (n + 1)) = 256 * 2 ^ (8 * n) := by rw [Nat.mul_succ, pow_add]; ring
    simp only [List.foldl_cons, List.foldl_nil, Bool.and_true]
    split
    next hin =>
      simp only [Bool.and_eq_true, decide_eq_true_eq] at hin
      have hv : (l.getD (b + n - a) 0).toNat < 256 := (l.getD (b + n - a) 0).isLt
      refine ⟨?_, fun i hi ha hb => ?_, fun i => ?_⟩
      · dsimp only
        rw [hgrow]
        nlinarith
      · dsimp only
        rcases Nat.lt_succ_iff_lt_or_eq.1 hi with hi | rfl
        · rw [add_mul_pow_byte hi, hbyte i hi ha hb]
        · rw [Nat.add_mul_div_right _ _ (Nat.two_pow_pos _), Nat.div_eq_of_lt hlt, Nat.zero_add, Nat.mod_eq_of_lt hv]
      · dsimp only
        rw [BitVec.toNat_or, Nat.testBit_or, hmask, BitVec.toNat_ofNat, Nat.testBit_mod_two_pow, Nat.testBit_two_pow]
        rw [← Bool.decide_and, ← Bool.decide_or, decide_eq_decide]
        omega
    next hout =>
      simp only [Bool.and_eq_true, decide_eq_true_eq, not_and] at hout
      refine ⟨?_, fun i hi ha hb => ?_, fun i => ?_⟩
      · dsimp only
        omega
      · have hne : i ≠ n := fun h => hout (h ▸ ha) (h ▸ hb)
        exact hbyte i (by omega) ha hb
      · dsimp only
        rw [hmask, decide_eq_decide]
        constructor
        · omega
        · rintro ⟨hi, ha, hb⟩
          have hne : i ≠ n := fun h => hout (h ▸ ha) (h ▸ hb)
          omega

theorem burstPart_spec (a b : Nat) (l : List Byte) : PartUpTo a b l 64 (burstPart a b l fun _ => true) :=
  burstPart_upTo a b l (Nat.le_refl 64)

/-- The bytes of the spool once the burst b has taken its part of a write: the write's own, and the old ones. -/
theorem Memory.read_burstPart (m : List Host.Cell) (a b : Nat) (l : List Byte) (x : Nat) :
    Memory.read (Memory.writeAll m (b * 64) (burstMerge (Memory.readNat m (b * 64) 64)
      (burstPart a (b * 64) l fun _ => true).1 (burstPart a (b * 64) l fun _ => true).2)) x =
      if x / 64 = b ∧ a ≤ x ∧ x < a + l.length then l.getD (x - a) 0 else Memory.read m x := by
  obtain ⟨-, hbyte, hmask⟩ := burstPart_spec a (b * 64) l
  by_cases hx : x / 64 = b
  · obtain ⟨i, hi, rfl⟩ : ∃ i, i < 64 ∧ x = b * 64 + i := ⟨x % 64, Nat.mod_lt _ (by decide), by omega⟩
    rw [Memory.read_burstMerge _ _ _ _ hi, hmask]
    by_cases hin : a ≤ b * 64 + i ∧ b * 64 + i < a + l.length
    · rw [if_pos (by simpa [hi] using hin), if_pos ⟨hx, hin⟩]
      refine BitVec.eq_of_toNat_eq ?_
      rw [BitVec.toNat_ofNat]
      exact hbyte i hi hin.1 hin.2
    · rw [if_neg (by simpa [hi] using hin), if_neg fun h => hin h.2]
  · rw [if_neg fun h => hx h.1]
    exact Memory.read_writeAll_outside _ _ _ _ (by rw [burstMerge_length]; omega)

/-! ### A write of bytes -/

/-- From s to t the spool's bytes change as `put` says; nothing is poisoned, and of the rest only the write-backs that wait and
the time of the last request. -/
structure PortWritten (s t : State) (put : Nat → Option Byte) : Prop where
  poison : t.ddr.poison = []
  rest : t = { s with ddr := { s.ddr with
    mem := t.ddr.mem, writeBack := t.ddr.writeBack, lastReq := t.ddr.lastReq } }
  read : ∀ x, Memory.read t.ddr.mem x = (put x).getD (Memory.read s.ddr.mem x)

variable {s t u : State} {put more : Nat → Option Byte}

theorem PortWritten.refl (h : s.ddr.poison = []) : PortWritten s s fun _ => none := ⟨h, rfl, fun _ => rfl⟩

theorem PortWritten.trans (h : PortWritten s t put) (k : PortWritten t u more) :
    PortWritten s u fun x => (more x).or (put x) := by
  refine ⟨k.poison, ?_, fun x => ?_⟩
  · rw [k.rest, h.rest]
  · rw [k.read, h.read]
    cases more x <;> rfl

theorem PortWritten.congr (h : PortWritten s t put) (he : ∀ x, put x = more x) : PortWritten s t more :=
  ⟨h.poison, h.rest, fun x => he x ▸ h.read x⟩

theorem PortWritten.rd (h : PortWritten s t put) (p : Page) (r : Row) (i : Nat) : t.rd p r i = s.rd p r i := by
  rw [h.rest]
  rfl

theorem PortWritten.granuleAt (h : PortWritten s t put) (g : Nat) : t.granuleAt g = s.granuleAt g := by
  unfold State.granuleAt
  rw [h.rd]

theorem PortWritten.spoolSize (h : PortWritten s t put) : t.spoolSize = s.spoolSize := by
  unfold State.spoolSize
  rw [h.rd]

theorem PortWritten.ddrState (h : PortWritten s t put) : t.ddrState = s.ddrState := by
  unfold State.ddrState
  rw [h.rd]

/-- What the bursts of a list take of a write's bytes at a. -/
def putAt (a : Nat) (l : List Byte) (bs : List Nat) (x : Nat) : Option Byte :=
  if x / 64 * 64 ∈ bs ∧ a ≤ x ∧ x < a + l.length then some (l.getD (x - a) 0) else none

theorem State.burstWrite_part (hp : s.ddr.poison = []) (port a b : Nat) (l : List Byte) :
    PortWritten s (s.burstWrite port (b * 64) (burstPart a (b * 64) l fun _ => true).1
      (burstPart a (b * 64) l fun _ => true).2 false false) (putAt a l [b * 64]) := by
  rw [State.burstWrite_stores _ _ (Or.inr (by rw [hp]; rfl))]
  refine ⟨?_, ?_, fun x => ?_⟩
  · change (s.ddr.poison.filter fun x => x != b) = []
    rw [hp]
    rfl
  · have hkept : (s.ddr.poison.filter fun x => x != b) = s.ddr.poison := by
      rw [hp]
      rfl
    exact congrArg (fun x => { s with ddr := { s.ddr with
      mem := (s.burstStored b (burstPart a (b * 64) l fun _ => true).1 (burstPart a (b * 64) l fun _ => true).2).ddr.mem
      writeBack := s.ddr.writeBack.filter fun x => x != b
      poison := x } }) hkept
  · rw [State.burstStored_mem, Memory.read_burstPart]
    unfold putAt
    simp only [List.mem_singleton]
    by_cases h : x / 64 = b ∧ a ≤ x ∧ x < a + l.length
    · rw [if_pos h, if_pos ⟨by rw [h.1], h.2⟩]
      rfl
    · rw [if_neg h, if_neg fun hn => h ⟨by omega, hn.2⟩]
      rfl

theorem State.eachBurst_written (hp : s.ddr.poison = []) (port a : Nat) (l : List Byte) {bs : List Nat}
    (hb : ∀ b ∈ bs, b % 64 = 0) : PortWritten s (s.each bs fun t b =>
      t.burstWrite port b (burstPart a b l fun _ => true).1 (burstPart a b l fun _ => true).2 false false) (putAt a l bs) := by
  induction bs generalizing s with
  | nil => exact (PortWritten.refl hp).congr fun x => by simp [putAt]
  | cons b bs ih =>
    obtain ⟨hb0, hbs⟩ := List.forall_mem_cons.1 hb
    obtain ⟨c, rfl⟩ : ∃ c, b = c * 64 := ⟨b / 64, by omega⟩
    have hfirst := State.burstWrite_part hp port a c l
    rw [State.each_cons]
    refine (hfirst.trans (ih hfirst.poison hbs)).congr fun x => ?_
    unfold putAt
    by_cases hin : a ≤ x ∧ x < a + l.length
    · by_cases hm : x / 64 * 64 ∈ bs <;> simp [hin, hm]
    · simp [hin]

theorem State.portWake_active (hs : s.ddrState = ddrActive) :
    s.portWake = { s with ddr := { s.ddr with lastReq := s.dclk } } := by
  unfold State.portWake
  dsimp only
  split
  · rfl
  · rw [if_neg, if_neg]
    · rw [show State.ddrState { s with ddr := { s.ddr with lastReq := s.dclk } } = ddrActive from hs]
      decide
    · rw [show State.ddrState { s with ddr := { s.ddr with lastReq := s.dclk } } = ddrActive from hs]
      decide

theorem State.portWake_written (hs : s.ddrState = ddrActive) (hp : s.ddr.poison = []) :
    PortWritten s s.portWake fun _ => none := by
  rw [State.portWake_active hs]
  exact ⟨hp, rfl, fun _ => rfl⟩

/-- The bytes of a write at a that lie within the DRAM. -/
def putBytes (size a : Nat) (l : List Byte) (x : Nat) : Option Byte :=
  if x / 64 * 64 < size ∧ a ≤ x ∧ x < a + l.length then some (l.getD (x - a) 0) else none

theorem mem_burstsOf {a n x : Nat} (ha : a ≤ x) (hx : x < a + n) : x / 64 * 64 ∈ burstsOf a n := by
  unfold burstsOf
  refine List.mem_map.2 ⟨x / 64 - a / 64, List.mem_range.2 ?_, ?_⟩ <;> omega

theorem burstsOf_aligned (a n size : Nat) : ∀ b ∈ (burstsOf a n).filter fun b => decide (b < size), b % 64 = 0 := by
  intro b hb
  obtain ⟨i, -, rfl⟩ := List.mem_map.1 (List.mem_of_mem_filter hb)
  exact Nat.mul_mod_right 64 _

theorem State.portWrite_written (hs : s.ddrState = ddrActive) (hp : s.ddr.poison = []) (port a : Nat) (l : List Byte) :
    PortWritten s (s.portWrite port a l) (putBytes s.spoolSize a l) := by
  have hwake := State.portWake_written hs hp
  refine (hwake.trans (State.eachBurst_written hwake.poison port a l (burstsOf_aligned _ _ _))).congr fun x => ?_
  rw [hwake.spoolSize, Option.or_none]
  unfold putAt putBytes
  by_cases hin : a ≤ x ∧ x < a + l.length
  · simp [hin, mem_burstsOf hin.1 hin.2]
  · rw [if_neg fun h => hin h.2, if_neg fun h => hin h.2]

/-! ### The bytes of a tile in its granules -/

theorem State.tileStore_written {gs : List Nat} (hs : s.ddrState = ddrActive) (hp : s.ddr.poison = []) (l : List Byte) :
    ∃ put, PortWritten s (s.tileStore gs l) put ∧
      ∀ x, (∀ g ∈ gs, x < s.granuleAt g ∨ s.granuleAt g + 4096 ≤ x) → put x = none := by
  induction gs generalizing s l with
  | nil => exact ⟨_, PortWritten.refl hp, fun _ _ => rfl⟩
  | cons g gs ih =>
    have hfirst := State.portWrite_written hs hp 0 (s.granuleAt g) (l.take 4096)
    obtain ⟨put, hrest, hout⟩ := ih (hfirst.ddrState.trans hs) hfirst.poison (l.drop 4096)
    refine ⟨_, hfirst.trans hrest, fun x hx => ?_⟩
    obtain ⟨hg, hgs⟩ := List.forall_mem_cons.1 hx
    have hlen : (l.take 4096).length ≤ 4096 := List.length_take_le _ _
    rw [hout x fun k hk => by rw [hfirst.granuleAt]; exact hgs k hk]
    exact if_neg (by omega)

/-- Bytes that fit into one granule within the DRAM. -/
theorem State.tileStore_single (hs : s.ddrState = ddrActive) (hp : s.ddr.poison = []) {g : Nat} {l : List Byte}
    (hl : l.length ≤ 4096) (hg : s.granuleAt g + 4096 ≤ s.spoolSize) {i : Nat} (hi : i < l.length) :
    Memory.read (s.tileStore [g] l).ddr.mem (s.granuleAt g + i) = l.getD i 0 := by
  have h := State.portWrite_written hs hp 0 (s.granuleAt g) (l.take 4096)
  rw [List.take_of_length_le hl] at h
  change Memory.read (s.portWrite 0 (s.granuleAt g) (l.take 4096)).ddr.mem (s.granuleAt g + i) = _
  rw [List.take_of_length_le hl, h.read, putBytes, if_pos (by omega), Nat.add_sub_cancel_left]
  rfl

end Sys2Proof.Machine
end

section
/-! PROOFS. Tile data lands or fails (R115, R117, R121, R131). -/

namespace Sys2Proof.Machine

open Reg

variable {s t : State} {key : TileKey} {u : Tile} {data : List Byte} {out : List Nat} {isStream : Bool} {status info crc : Nat}

theorem State.tileInFlight_key (h : s.tileInFlight key = some u) : u.key = key := by
  have hfind := List.find?_some h
  simp only [Bool.and_eq_true, beq_iff_eq] at hfind
  exact hfind.1

theorem State.tileInFlight_failed (h : s.tileInFlight key = some u) (nn : Nat) :
    TileFailed s key u.desc.cookie (0x1100 + nn) [] (s.flightFail u nn) :=
  State.tileInFlight_key h ▸ s.flightFail_failed u nn

/-! ### Headers and checks -/

theorem scwHeaderCheck_bad {hdr : BitVec 128} {p : PageSt} (hd : s.devUp = true) (hu : s.tileInFlight key = some u)
    (hp : s.pageById key.page = some p) (hs : u.desc.scw = true) (hb : headerBad hdr u.desc (p.desc.bitsOf key.plane) = true) :
    exec (.scwHeaderCheck key hdr) s = .next (s.flightFail u 0x21) := by
  change execScwHeaderCheck key hdr s = _
  unfold execScwHeaderCheck
  rw [hu, hp]
  exact if_pos (by simp [hd, hs, hb])

theorem scwHeaderCheck_good {hdr : BitVec 128} {p : PageSt} (hu : s.tileInFlight key = some u)
    (hp : s.pageById key.page = some p) (hb : headerBad hdr u.desc (p.desc.bitsOf key.plane) = false) :
    exec (.scwHeaderCheck key hdr) s = .next s := by
  change execScwHeaderCheck key hdr s = _
  unfold execScwHeaderCheck
  rw [hu, hp]
  exact if_neg (by simp [hb])

theorem State.dataBad_crc {l : List Nat} (hs : u.desc.scw = false) (hc : u.desc.crcByIntake = false) (h : crc32c l ≠ u.desc.crc) :
    s.dataBad u l = some 0x28 := by
  simp [State.dataBad, hs, hc, h]

theorem State.dataBad_header {l : List Nat} {p : PageSt} (hs : u.desc.scw = true) (hp : s.pageById u.key.page = some p)
    (h : l.length < 16 ∨ headerBad (BitVec.ofNat 128 (ofBytes (l.take 16))) u.desc (p.desc.bitsOf u.key.plane) = true) :
    s.dataBad u l = some 0x21 := by
  simp only [State.dataBad, hs, hp, if_true]
  exact if_pos h

/-- All of a tile's data has come. -/
structure DataCame (s : State) (key : TileKey) (data : List Byte) (u : Tile) : Prop where
  up : s.devUp = true
  tile : s.tileInFlight key = some u
  length : data.length = u.desc.srcLen
  sent : s.dmaSent (.dma (.tile key)) = true

theorem DataCame.fails (h : DataCame s key data u) {nn : Nat} (hb : s.dataBad u (data.map fun b => b.toNat) = some nn) :
    exec (.tileLanded key data) s = .next (s.flightFail u nn) := by
  obtain ⟨hup, htile, hlen, hsent⟩ := h
  change execTileLanded key data s = _
  simp only [execTileLanded, htile, hup, hsent, hb, List.length_map, hlen, BEq.rfl, Bool.and_self, if_true]

theorem DataCame.held (h : DataCame s key data u) (hb : s.dataBad u (data.map fun b => b.toNat) = none)
    (hh : s.portsHold = true) : exec (.tileLanded key data) s = .next s.portWake := by
  obtain ⟨hup, htile, hlen, hsent⟩ := h
  change execTileLanded key data s = _
  simp only [execTileLanded, htile, hup, hsent, hb, hh, List.length_map, hlen, BEq.rfl, Bool.and_self, if_true]

theorem DataCame.lands (h : DataCame s key data u) (hb : s.dataBad u (data.map fun b => b.toNat) = none)
    (hs : s.ddrState = ddrActive) (ho : s.storedAs u (data.map fun b => b.toNat) = some (out, isStream, status, info, crc)) :
    exec (.tileLanded key data) s = .next ((s.dmaOver (forTile key)).tileLands u out isStream status info crc) := by
  obtain ⟨hup, htile, hlen, hsent⟩ := h
  have hhold : s.portsHold = false := by rw [State.portsHold, hs]; rfl
  change execTileLanded key data s = _
  simp only [execTileLanded, htile, hup, hsent, hb, hhold, ho, List.length_map, hlen, BEq.rfl, Bool.and_self, if_true]
  rfl

theorem tileLanded_short (hu : s.tileInFlight key = some u) (hl : data.length ≠ u.desc.srcLen) :
    exec (.tileLanded key data) s = .next s := by
  change execTileLanded key data s = _
  unfold execTileLanded
  rw [hu]
  exact if_neg (by simp [hl])

/-! ### A tile that lands (R121, R125) -/

/-- The tile as the heap holds it. -/
def Tile.landed (u : Tile) (out : List Nat) (isStream : Bool) (info crc : Nat) : Tile :=
  { u with
    phase := .landed, gran := u.gran.take (granulesOf out.length), crc, info, enc := none
    stored := if isStream then .stream out.length else .raw out.length
    accepted := u.desc.noCpl, rereqs := 0, decoded := none, failed := [] }

/-- Its TILE_DONE. -/
def Tile.doneCqe (u : Tile) (out : List Nat) (status info : Nat) : Cqe :=
  { tileCqe u.key u.desc.cookie 1 status out.length info with tile := some u.key }

/-- The tile stands in the heap, and an error of its encode shows. -/
def State.tileKept (s : State) (new : Tile) (status : Nat) : State :=
  ((s.modIntake fun i => { i with tiles := (i.tiles.filter fun v => v.key != new.key) ++ [new] }).settleCredit).when (status != 0)
    fun v => v.errOpen .cdc (status % 256)

theorem PortWritten.only {put : Nat → Option Byte} (h : PortWritten s t put) : OnlyFields [] { s with ddr := { s.ddr with
    mem := t.ddr.mem, writeBack := t.ddr.writeBack, lastReq := t.ddr.lastReq } } t := by
  rw [← h.rest]
  exact OnlyFields.refl [] t

/-- The error that an encode's status shows. -/
def statusFields (status : Nat) : List FieldAt := if status = 0 then [] else errorFields .cdc

/-- An error of an encode's status is recorded. -/
def State.statusErr (s : State) (status : Nat) : State := s.when (status != 0) fun v => v.errOpen .cdc (status % 256)

theorem State.statusErr_only (s : State) (status : Nat) : OnlyFields (statusFields status) s (s.statusErr status) := by
  unfold State.statusErr State.when statusFields
  by_cases h : status = 0
  · rw [if_pos h, if_neg (by simp [h])]
    exact OnlyFields.refl _ s
  · rw [if_neg h, if_pos (by simpa using h)]
    exact s.errOpen_only .cdc _

theorem statusFields_clear (status : Nat) {r : Row} {i : Nat} (h : FieldAt.clear (errorFields .cdc) .int r i) :
    FieldAt.clear (statusFields status) .int r i := by
  unfold statusFields
  split
  · exact FieldAt.clear_nil _ _ _
  · exact h

theorem OnlyFields.tileKept {fs : List FieldAt} (h : OnlyFields fs s t) (new : Tile) (status : Nat) :
    OnlyFields (fs ++ creditFields ++ statusFields status) (s.modIntake fun i => { i with
      tiles := (i.tiles.filter fun v => v.key != new.key) ++ [new], lowSeen := (t.tileKept new status).intake.lowSeen })
      (t.tileKept new status) := by
  have hset := (h.modIntake fun i => { i with tiles := (i.tiles.filter fun v => v.key != new.key) ++ [new] }).settleCredit
  unfold State.tileKept
  generalize (State.modIntake t _).settleCredit = c at hset ⊢
  change OnlyFields _ (s.modIntake fun i => { i with
      tiles := (i.tiles.filter fun v => v.key != new.key) ++ [new], lowSeen := (c.statusErr status).intake.lowSeen })
      (c.statusErr status)
  rw [(c.statusErr_only status).intake_same]
  exact hset.append (c.statusErr_only status)

theorem State.tileKept_credit (s : State) (new : Tile) (status : Nat) : (s.tileKept new status).rd .int INT.CREDIT =
    ((s.tileKept new status).heapGranules - (s.tileKept new status).usedGranules none) % 2 ^ 25 := by
  have h : OnlyFields (statusFields status) _ (s.tileKept new status) := State.statusErr_only _ status
  refine h.creditRight ?_ (statusFields_clear _ (by simp +decide [errorFields])) (statusFields_clear _ (by simp +decide [errorFields]))
  rw [h.intake_same, (State.settleCredit_only _).intake_same]
  rfl

theorem State.tileKept_errorShown (s : State) (new : Tile) {status : Nat} (h : status ≠ 0) :
    (s.tileKept new status).errorShown .cdc = s.errorAfter .cdc (status % 256) := by
  have hset := State.settleCredit_only (s.modIntake fun i =>
    { i with tiles := (i.tiles.filter fun v => v.key != new.key) ++ [new] })
  have hshown := hset.errorShown_clear (p := .cdc) (by simp +decide [creditFields]) (by simp +decide [creditFields])
  unfold State.tileKept State.when
  rw [if_pos (by simpa using h), State.errOpen_errorShown _ _ _ (Nat.mod_lt _ (by decide)), State.errorAfter_congr hshown]
  rfl

/-- A tile that lands: its state after the store, with its TILE_DONE unless it is suppressed. -/
def State.tileDone (s : State) (u : Tile) (out : List Nat) (isStream : Bool) (status info crc : Nat) : State :=
  let v := s.tileKept (u.landed out isStream info crc) status
  if u.desc.noCpl then v else v.pushCqe (u.doneCqe out status info)

theorem State.tileDone_eq (s : State) (u : Tile) (out : List Nat) (isStream : Bool) (status info crc : Nat) :
    s.tileDone u out isStream status info crc = (s.tileKept (u.landed out isStream info crc) status).modIntake fun i =>
      { i with cq := if u.desc.noCpl then i.cq else i.cq ++ [u.doneCqe out status info] } := by
  unfold State.tileDone
  split <;> rfl

/-- The spool with the tile's data in its granules, and the read of the data over. -/
def State.tileStored (s : State) (u : Tile) (out : List Nat) : State :=
  (s.dmaOver (forTile u.key)).tileStore (u.gran.take (granulesOf out.length)) (out.map fun b => BitVec.ofNat 8 b)

theorem State.tileStored_written (hs : s.ddrState = ddrActive) (hp : s.ddr.poison = []) (u : Tile) (out : List Nat) :
    ∃ put, PortWritten (s.dmaOver (forTile u.key)) (s.tileStored u out) put ∧
      ∀ x, (∀ g ∈ u.gran, x < s.granuleAt g ∨ s.granuleAt g + 4096 ≤ x) → put x = none := by
  obtain ⟨put, hw, hout⟩ := State.tileStore_written (s := s.dmaOver (forTile u.key)) (gs := u.gran.take (granulesOf out.length))
    hs hp (out.map fun b => BitVec.ofNat 8 b)
  exact ⟨put, hw, fun x hx => hout x fun g hg => hx g (List.mem_of_mem_take hg)⟩

theorem State.tileStored_single (hs : s.ddrState = ddrActive) (hp : s.ddr.poison = []) {g : Nat} (hg : u.gran = [g])
    (hl : out.length ≤ 4096) (hroom : s.granuleAt g + 4096 ≤ s.spoolSize) {i : Nat} (hi : i < out.length) :
    Memory.read (s.tileStored u out).ddr.mem (s.granuleAt g + i) = BitVec.ofNat 8 (out.getD i 0) := by
  have hone : u.gran.take (granulesOf out.length) = [g] := by
    rw [hg, List.take_of_length_le]
    unfold granulesOf ceilDiv
    simp only [List.length_singleton]
    omega
  unfold State.tileStored
  rw [hone]
  refine (State.tileStore_single (s := s.dmaOver (forTile u.key)) hs hp (by simpa using hl) hroom (by simpa using hi)).trans ?_
  simp [List.getD_eq_getElem?_getD, hi]

theorem State.tileDone_only (hw : ∃ put, PortWritten (s.dmaOver (forTile u.key)) t put) (out : List Nat) (isStream : Bool)
    (status info crc : Nat) : OnlyFields (creditFields ++ statusFields status) { s with
      ddr := { s.ddr with mem := t.ddr.mem, writeBack := t.ddr.writeBack, lastReq := t.ddr.lastReq }
      intake := { s.intake with
        tiles := (s.intake.tiles.filter fun v => v.key != u.key) ++ [u.landed out isStream info crc]
        cq := if u.desc.noCpl then s.intake.cq else s.intake.cq ++ [u.doneCqe out status info]
        reads := s.readsLess (.dma (.tile u.key))
        lowSeen := (t.tileDone u out isStream status info crc).intake.lowSeen } }
      (t.tileDone u out isStream status info crc) := by
  obtain ⟨put, hw⟩ := hw
  have hkept := hw.only.tileKept (u.landed out isStream info crc) status
  rw [State.tileDone_eq]
  generalize t.tileKept (u.landed out isStream info crc) status = v at hkept ⊢
  have hall := hkept.modIntake fun i => { i with cq := if u.desc.noCpl then i.cq else i.cq ++ [u.doneCqe out status info] }
  rw [List.nil_append] at hall
  dsimp only [State.modIntake, State.dmaOver] at hall ⊢
  exact hall

theorem State.tileDone_credit (s : State) : (s.tileDone u out isStream status info crc).rd .int INT.CREDIT =
    ((s.tileDone u out isStream status info crc).heapGranules - (s.tileDone u out isStream status info crc).usedGranules none) %
      2 ^ 25 := by
  have hright := s.tileKept_credit (u.landed out isStream info crc) status
  rw [State.tileDone_eq]
  generalize s.tileKept (u.landed out isStream info crc) status = v at hright ⊢
  exact hright

theorem State.tileDone_errorShown (hw : ∃ put, PortWritten (s.dmaOver (forTile u.key)) t put) (h : status ≠ 0) :
    (t.tileDone u out isStream status info crc).errorShown .cdc = s.errorAfter .cdc (status % 256) := by
  obtain ⟨put, hw⟩ := hw
  have hshown : t.errorShown .cdc = s.errorShown .cdc := by
    unfold State.errorShown State.on
    rw [hw.rd, hw.rd]
    rfl
  have herr := t.tileKept_errorShown (u.landed out isStream info crc) h
  rw [State.tileDone_eq, ← State.errorAfter_congr hshown]
  generalize t.tileKept (u.landed out isStream info crc) status = v at herr ⊢
  exact herr

theorem State.tileDone_ddr (s : State) : (s.tileDone u out isStream status info crc).ddr = s.ddr := by
  rw [State.tileDone_eq]
  exact ((OnlyFields.refl [] s).tileKept (u.landed out isStream info crc) status).ddr_same

theorem State.tileLands_first (s : State) (hr : u.repl = false) (out : List Nat) (isStream : Bool) (status info crc : Nat) :
    s.tileLands u out isStream status info crc =
      (s.tileStore (u.gran.take (granulesOf out.length)) (out.map fun b => BitVec.ofNat 8 b)).tileDone u out isStream status info crc := by
  obtain ⟨key, desc, phase, gran, stored, crc', info', accepted, rereqs, outstanding, tag, decoded, failed, repl, enc⟩ := u
  obtain rfl : repl = false := hr
  cases isStream <;> rfl

/-! ### A replacement that comes too late (R124) -/

/-- What was in flight of the tile is gone, and TILE_LATE waits. -/
def State.tileLate (s : State) (u : Tile) : State :=
  ((s.modIntake fun i => { i with
    tiles := i.tiles.filter fun v => !(v.key == u.key && v.phase != TilePhase.landed) }).settleCredit).pushCqe
      (tileCqe u.key u.desc.cookie 9 0 0 0)

theorem State.tileLands_late (s : State) (hr : u.repl = true) (hs : s.ddrState = ddrActive) (hp : s.ddr.poison = [])
    (hold : s.tileAt u.key = none) (out : List Nat) (isStream : Bool) (status info crc : Nat) :
    s.tileLands u out isStream status info crc =
      (s.tileStore (u.gran.take (granulesOf out.length)) (out.map fun b => BitVec.ofNat 8 b)).tileLate u := by
  obtain ⟨put, hw, -⟩ := State.tileStore_written (gs := u.gran.take (granulesOf out.length)) hs hp
    (out.map fun b => BitVec.ofNat 8 b)
  have hgone : (s.tileStore (u.gran.take (granulesOf out.length)) (out.map fun b => BitVec.ofNat 8 b)).tileAt u.key = none := by
    rw [State.tileAt, hw.only.intake_same]
    exact hold
  unfold State.tileLands
  simp only [hr, hgone, Bool.true_and, if_true]
  rfl

theorem State.tileLate_only (hw : ∃ put, PortWritten (s.dmaOver (forTile u.key)) t put) : OnlyFields creditFields { s with
    ddr := { s.ddr with mem := t.ddr.mem, writeBack := t.ddr.writeBack, lastReq := t.ddr.lastReq }
    intake := { s.intake with
      tiles := s.intake.tiles.filter fun (v : Tile) => !(v.key == u.key && v.phase != TilePhase.landed)
      cq := s.intake.cq ++ [tileCqe u.key u.desc.cookie 9 0 0 0]
      reads := s.readsLess (.dma (.tile u.key))
      lowSeen := (t.tileLate u).intake.lowSeen } } (t.tileLate u) := by
  obtain ⟨put, hw⟩ := hw
  have hset := (hw.only.modIntake fun i => { i with
    tiles := i.tiles.filter fun v => !(v.key == u.key && v.phase != TilePhase.landed) }).settleCredit
  unfold State.tileLate
  generalize (State.modIntake t _).settleCredit = v at hset ⊢
  have hall := hset.pushCqe (tileCqe u.key u.desc.cookie 9 0 0 0)
  rw [List.nil_append] at hall
  dsimp only [State.modIntake, State.dmaOver, State.pushCqe] at hall ⊢
  exact hall

theorem State.tileLate_credit (s : State) (u : Tile) : (s.tileLate u).rd .int INT.CREDIT =
    ((s.tileLate u).heapGranules - (s.tileLate u).usedGranules none) % 2 ^ 25 := State.settleCredit_pushCqe _ _

theorem State.tileLate_ddr (s : State) (u : Tile) : (s.tileLate u).ddr = s.ddr := by
  exact (State.settleCredit_only _).ddr_same

end Sys2Proof.Machine
end

section
/-! PROOFS. DMA reads that fail (R127). -/

namespace Sys2Proof.Machine

open Reg

variable {s : State}

/-- The descriptor read of a ring fails: the ring holds nothing, its EN and STATE are 0, and the error and DMA_ERR show. -/
def State.ringFailed (s : State) (r : Fin 10) : State :=
  (((((s.dmaOver (· == .dma (.ring r))).modRing r.val fun _ => {}).wr .int INT.RING_CTRL_EN 0 r.val).wr .int INT.RING_STAT 0
    r.val).errOpen .int 0x26).raise .int 12

theorem dmaError_ring {r : Fin 10} (hd : s.devUp = true) (hf : (s.ring r.val).fetching = true) :
    exec (.dmaError (.ring r)) s = .next (s.aerMaybe.ringFailed r) := if_pos (by rw [hd, hf]; rfl)

theorem State.ringFailed_only {fs : List FieldAt} {t : State} (h : OnlyFields fs s t) (r : Fin 10) :
    OnlyFields (fs ++ ([(.int, INT.RING_CTRL_EN, r.val), (.int, INT.RING_STAT, r.val)] ++ errorFields .int)) { s with
      intake := { s.intake with
        rings := s.intake.rings.setIfInBounds r.val {}, reads := s.readsLess (.dma (.ring r)) } } (t.ringFailed r) := by
  have hbase : OnlyFields fs { s with intake := { s.intake with
      rings := s.intake.rings.setIfInBounds r.val {}, reads := s.readsLess (.dma (.ring r)) } }
      ((t.dmaOver (· == .dma (.ring r))).modRing r.val fun _ => {}) :=
    ⟨h.fields, by unfold State.modRing State.dmaOver; rw [h.rest]; rfl⟩
  refine hbase.append ?_
  exact OnlyFields.raise _ _ (OnlyFields.errOpen _ _ (OnlyFields.wr _ _ _ _ (OnlyFields.wr _ _ _ _ (OnlyFields.refl _ _) (by simp))
    (by simp)) fun f hf => List.mem_append_right _ hf) (by simp [errorFields])

/-- The enable and the state of a ring stand apart from each other and from an error. -/
theorem ringFailed_apart (r : Fin 10) : Row.apart INT.RING_STAT r.val INT.RING_CTRL_EN r.val = true ∧
    Row.offErr INT.RING_CTRL_EN r.val = true ∧ Row.offErr INT.RING_STAT r.val = true ∧
    Row.apart HDR.PG_EVT_RAW 0 INT.RING_CTRL_EN r.val = true ∧ Row.apart HDR.PG_EVT_RAW 0 INT.RING_STAT r.val = true ∧
    Row.offShown INT.RING_CTRL_EN r.val = true ∧ Row.offShown INT.RING_STAT r.val = true := by
  revert r
  decide

theorem State.ringFailed_en (s : State) (r : Fin 10) : (s.ringFailed r).on .int INT.RING_CTRL_EN r.val = false := by
  obtain ⟨hstat, hen, -, hevt, -⟩ := ringFailed_apart r
  unfold State.ringFailed State.on
  rw [State.raise_rd_apart _ _ _ _ hevt, State.errOpen_rd_apart _ _ _ _ hen, State.wr_rd_apart _ _ _ _ hstat, State.wr_rd_same]
  rfl

theorem State.ringFailed_state (s : State) (r : Fin 10) : (s.ringFailed r).ringState r.val = 0 := by
  obtain ⟨-, -, hstat, -, hevt, -⟩ := ringFailed_apart r
  unfold State.ringFailed State.ringState
  rw [State.raise_rd_apart _ _ _ _ hevt, State.errOpen_rd_apart _ _ _ _ hstat, State.wr_rd_same, Nat.zero_mod]

theorem State.ringFailed_errorShown (s : State) (r : Fin 10) : (s.ringFailed r).errorShown .int = s.errorAfter .int 0x26 := by
  obtain ⟨-, -, -, -, -, hen, hstat⟩ := ringFailed_apart r
  unfold State.ringFailed
  rw [State.raise_errorShown, State.errOpen_errorShown _ _ _ (by decide)]
  refine State.errorAfter_congr ?_ _
  rw [State.wr_errorShown_apart _ _ _ _ hstat, State.wr_errorShown_apart _ _ _ _ hen]
  rfl

theorem dmaError_tile {k : TileKey} {u : Tile} (hd : s.devUp = true) (hu : s.tileInFlight k = some u) :
    exec (.dmaError (.tile k)) s = .next (s.aerMaybe.flightFail u 0x26) := by
  change execDmaError (.tile k) s = _
  unfold execDmaError
  simp only [hu, hd, if_true]

/-- The load of a preset fails: it no longer waits, its error shows, and its ADMIN_DONE waits. -/
def State.loadFailed (s : State) (id : Nat) (who : ReadFor) : State :=
  (((s.dmaOver (· == who)).modCodec fun c => { c with loads := c.loads.filter fun e => e.1 != id }).errOpen .int 0x26).pushCqe
    (adminCqe 0x1126 0 0 0)

theorem dmaError_preset {id : BitVec 8} (hd : s.devUp = true) (hl : s.codec.loads.any (fun e => e.1 == id.toNat) = true) :
    exec (.dmaError (.preset id)) s = .next (s.aerMaybe.loadFailed id.toNat (.dma (.preset id))) :=
  if_pos (by rw [hd, hl]; rfl)

theorem OnlyFields.loadFailed {fs : List FieldAt} {t : State} (h : OnlyFields fs s t) (id : Nat) (who : ReadFor) :
    OnlyFields (fs ++ errorFields .int) { s with
      codec := { s.codec with loads := s.codec.loads.filter fun e => e.1 != id }
      intake := { s.intake with cq := s.intake.cq ++ [adminCqe 0x1126 0 0 0], reads := s.readsLess who } } (t.loadFailed id who) := by
  have hbase : OnlyFields fs ((s.dmaOver (· == who)).modCodec fun c => { c with loads := c.loads.filter fun e => e.1 != id })
      ((t.dmaOver (· == who)).modCodec fun c => { c with loads := c.loads.filter fun e => e.1 != id }) :=
    ⟨h.fields, by unfold State.modCodec State.dmaOver; rw [h.rest]⟩
  have hall := (hbase.append (State.errOpen_only _ .int 0x26)).pushCqe (adminCqe 0x1126 0 0 0)
  dsimp only [State.modCodec, State.dmaOver, State.pushCqe] at hall ⊢
  exact hall

theorem State.loadFailed_errorShown (s : State) (id : Nat) (who : ReadFor) :
    (s.loadFailed id who).errorShown .int = s.errorAfter .int 0x26 := State.errOpen_errorShown _ _ _ (by decide)

end Sys2Proof.Machine

namespace Sys2Proof

open Machine Reg

/-- Settles O26: a tile fails or lands by what its data shows; what its bytes leave in the spool is followed burst by burst, and
what intake, the codec and the credit hold is followed along the store, the tile and its completion. -/
theorem tileLanding : Obligations.TileLanding := by
  refine ⟨fun s key hdr u p hd hu hp hs hb => ?_, fun s key hdr u p hu hp hb => scwHeaderCheck_good hu hp hb,
    fun s key data u hd hu hl hsent hs hc hcrc => ?_, fun s key data u p hd hu hl hsent hs hp hbad => ?_,
    fun s key data u out isStream status info crc hd hu hl hsent hb hr hs hp ho => ?_,
    fun s key data u out isStream status info crc hd hu hl hsent hb hr hs hp hold ho => ?_,
    fun s key data u hd hu hl hsent hb hh => DataCame.held ⟨hd, hu, hl, hsent⟩ hb hh,
    fun s key data u hu hl => tileLanded_short hu hl,
    fun s r hd hf => ?_, fun s k u hd hu => ?_, fun s id hd hl => ?_⟩
  · exact ⟨_, scwHeaderCheck_bad hd hu hp hs hb, s.flightFail_shown u (by decide), State.tileInFlight_failed hu 0x21⟩
  · exact ⟨_, DataCame.fails ⟨hd, hu, hl, hsent⟩ (State.dataBad_crc hs hc hcrc), s.flightFail_shown u (by decide),
      State.tileInFlight_failed hu 0x28⟩
  · rw [← State.tileInFlight_key hu] at hp hbad
    exact ⟨_, DataCame.fails ⟨hd, hu, hl, hsent⟩ (State.dataBad_header hs hp (by simpa using hbad)),
      s.flightFail_shown u (by decide), State.tileInFlight_failed hu 0x21⟩
  · obtain rfl := State.tileInFlight_key hu
    have hexec := DataCame.lands ⟨hd, hu, hl, hsent⟩ hb hs ho
    rw [State.tileLands_first _ hr] at hexec
    obtain ⟨put, hw, hout⟩ := State.tileStored_written hs hp u out
    have hddr : ((s.tileStored u out).tileDone u out isStream status info crc).ddr = (s.tileStored u out).ddr :=
      State.tileDone_ddr _
    refine ⟨_, hexec, ?_, ?_, State.tileDone_credit _, State.tileDone_errorShown ⟨put, hw⟩, ?_⟩
    · intro g hg hlen hroom i hi
      exact (congrArg (fun d => Memory.read d.mem _) hddr).trans (State.tileStored_single hs hp hg hlen hroom hi)
    · intro a ha
      exact (congrArg (fun d => Memory.read d.mem a) hddr).trans ((hw.read a).trans (by rw [hout a ha]))
    · have hall := State.tileDone_only ⟨put, hw⟩ out isStream status info crc
      rw [← hddr] at hall
      exact hall
  · obtain rfl := State.tileInFlight_key hu
    have hexec := DataCame.lands ⟨hd, hu, hl, hsent⟩ hb hs ho
    rw [State.tileLands_late (s.dmaOver (forTile u.key)) hr hs hp hold] at hexec
    obtain ⟨put, hw, -⟩ := State.tileStored_written hs hp u out
    have hall := State.tileLate_only ⟨put, hw⟩
    rw [← State.tileLate_ddr (s.tileStored u out) u] at hall
    exact ⟨_, hexec, State.tileLate_credit _ u, hall⟩
  · refine ⟨_, dmaError_ring hd hf, State.ringFailed_en _ r, State.ringFailed_state _ r, ?_,
      State.raise_event_same _ _ _ (by decide), ?_⟩
    · rw [State.ringFailed_errorShown, State.errorAfter_congr s.aerMaybe_errorShown]
    · refine OnlyFields.mono (State.ringFailed_only s.aerMaybe_only r) fun f hf => ?_
      simp only [List.mem_append] at hf ⊢
      tauto
  · refine ⟨_, dmaError_tile hd hu, ?_, ?_⟩
    · rw [State.flightFail_shown _ _ (by decide), State.errorAfter_congr s.aerMaybe_errorShown]
    · rw [State.flightFail, State.tileInFlight_key hu]
      refine OnlyFields.tileLost (OnlyFields.mono (s.aerMaybe_only.append (State.errOpen_only _ .int 0x26)) fun f hf => ?_) _ _ _
      simp only [List.mem_append] at hf ⊢
      tauto
  · refine ⟨_, dmaError_preset hd hl, ?_, ?_⟩
    · rw [State.loadFailed_errorShown, State.errorAfter_congr s.aerMaybe_errorShown]
    · refine OnlyFields.mono (s.aerMaybe_only.loadFailed id.toNat (.dma (.preset id))) fun f hf => ?_
      simp only [List.mem_append] at hf ⊢
      tauto

end Sys2Proof
end

section
/-! PROOFS. The entries of the admin ring (R107, R112), and what a request that wakes the spool leaves (R167). -/

namespace Sys2Proof.Machine

open Reg

variable {fs : List FieldAt} {s t u b : State} {e : BitVec 512} {op : Nat}

/-! ### The admin ring -/

/-- The admin ring has dealt with its entry, and holds nothing of it. -/
def State.adminDone (u : State) : State := (u.ringAdvance 8).modRing 8 fun _ => {}

theorem State.admin_eq (h : s.admitted op e = true) (act : State → State) :
    s.admin op e act = (act s.adminOver).adminDone := by
  simp only [State.admitted, Bool.and_eq_true, beq_iff_eq] at h
  obtain ⟨hready, hop⟩ := h
  unfold State.admin
  rw [if_pos (by simpa only [Bool.and_eq_true] using hready)]
  exact if_pos hop

/-- Intake with nothing held of the admin ring's entry. -/
def State.adminFree (u : State) : State := u.modIntake fun i => { i with rings := i.rings.setIfInBounds 8 {} }

theorem State.adminDone_only (u : State) : OnlyFields adminFields u.adminFree u.adminDone := by
  have hadv := u.ringAdvance_only 8
  have hring : (u.ringAdvance 8).intake.rings = u.intake.rings.setIfInBounds 8 (u.ring 8).passed := by
    rw [hadv.intake_same]
    rfl
  have hset : u.adminDone = (u.ringAdvance 8).modIntake fun i => { i with rings := u.intake.rings.setIfInBounds 8 {} } := by
    unfold State.adminDone State.modRing
    rw [hring, Vector.setIfInBounds_setIfInBounds]
    rfl
  rw [hset]
  exact hadv.modIntake fun i => { i with rings := u.intake.rings.setIfInBounds 8 {} }

/-- The act of an entry changes fields that are not the admin ring's, and the ring is then at its next entry. -/
theorem OnlyFields.adminDone (h : OnlyFields fs b u) : OnlyFields (fs ++ adminFields) b.adminFree u.adminDone :=
  (h.modIntake fun i => { i with rings := i.rings.setIfInBounds 8 {} }).append u.adminDone_only

/-- The fields of the admin ring stand clear of those an act changes. -/
structure AdminClear (fs : List FieldAt) : Prop where
  head : FieldAt.clear fs .int INT.RING_HEAD 8
  count : FieldAt.clear fs .int INT.RING_COUNT 8
  size : FieldAt.clear fs .int INT.RING_SIZE 8

theorem OnlyFields.adminPassed (h : OnlyFields fs b u) (hc : AdminClear fs) (hregs : b.regs = s.regs)
    (hrings : b.intake.rings = s.intake.rings) : AdminPassed s u.adminDone := by
  have hrd {r : Row} (hr : FieldAt.clear fs .int r 8) : u.rd .int r 8 = s.rd .int r 8 :=
    (h.fields.rd_clear hr).trans (by unfold State.rd; rw [hregs])
  have hfree : u.adminDone.intake.rings = u.intake.rings.setIfInBounds 8 {} := by
    rw [u.adminDone_only.intake_same]
    rfl
  constructor
  · refine (State.ringAdvance_head u (by decide)).trans ?_
    unfold State.nextHead
    rw [hrd hc.head, hrd hc.size]
  · have hcount : (u.ringAdvance 8).rd .int INT.RING_COUNT 8 = min (u.rd .int INT.RING_COUNT 8 + 1) (2 ^ 32 - 1) := by
      change ((u.wr .int INT.RING_HEAD _ 8).bump .int INT.RING_COUNT 1 8).rd .int INT.RING_COUNT 8 = _
      rw [State.bump_rd_same, State.wr_rd_apart _ _ _ _ (by decide)]
      rfl
    exact hcount.trans (by rw [hrd hc.count])
  · rw [hfree, h.intake_same, hrings]
    rfl

theorem State.adminDone_event (u : State) (p : Page) (i : Nat) : u.adminDone.event p i = u.event p i :=
  u.adminDone_only.event_clear i (by simp +decide [adminFields])

theorem State.adminDone_errorShown (u : State) (p : Page) : u.adminDone.errorShown p = u.errorShown p :=
  u.adminDone_only.errorShown_clear (by simp +decide [adminFields]) (by simp +decide [adminFields])

theorem errorFields_adminClear : AdminClear (errorFields .int) := by
  constructor <;> simp +decide [errorFields]

/-- An entry that fails: its error, and its ADMIN_DONE. -/
theorem State.adminFail_fails (h : s.admitted op e = true) {act : State → State} {nn : Nat} (hn : nn < 256)
    (ha : act s.adminOver = s.adminOver.adminFail nn) :
    ∃ t, Host.Outcome.next (φ := Fault) (ρ := Refusal) (s.admin op e act) = .next t ∧ AdminPassed s t ∧
      t.errorShown .int = s.errorAfter .int nn ∧
      OnlyFields (errorFields .int ++ adminFields) { s with intake := { s.intake with
        rings := s.adminRings, reads := s.adminReads, cq := s.intake.cq ++ [adminCqe (0x1100 + nn) 0 0 0] } } t := by
  have hfail := (State.errOpen_only s.adminOver .int nn).pushCqe (adminCqe (0x1100 + nn) 0 0 0)
  have hall := hfail.adminDone
  rw [State.admin_eq h, ha]
  refine ⟨_, rfl, hfail.adminPassed errorFields_adminClear rfl rfl, ?_, ?_⟩
  · exact (State.adminDone_errorShown _ _).trans (State.errOpen_errorShown _ _ _ hn)
  · dsimp only [State.adminFree, State.modIntake, State.adminOver, State.pushCqe] at hall
    exact hall

/-! ### A request that wakes the spool -/

/-- The pages in which a change of the controller's state may show. -/
def wakePages : List Page := [.cal, .ddr] ++ (List.finRange 4).map .ddrs

/-- Every field that a request may change as it wakes the spool stands in those pages. -/
structure Woken (s t : State) : Prop where
  pages : OtherPages wakePages s t
  rest : t = { s with regs := t.regs, free := t.free, cal := t.cal, ddr := t.ddr }
  mem : t.ddr.mem = s.ddr.mem

theorem Woken.refl (s : State) : Woken s s := ⟨OtherPages.refl _ s, rfl, rfl⟩

theorem Woken.trans (h : Woken s t) (k : Woken t u) : Woken s u :=
  ⟨h.pages.trans k.pages, by rw [k.rest, h.rest], k.mem.trans h.mem⟩

theorem Woken.of_only (h : OnlyFields fs { s with cal := t.cal } t) (hw : FieldAt.within wakePages fs) : Woken s t :=
  ⟨OtherPages.of_untouched (fun k d hk => h.fields k d hk) hw, by rw [h.rest], by rw [h.rest]⟩

theorem Woken.setPage (s : State) {p : Page} (hp : p ∈ wakePages) (v : Nat) : Woken s (s.setPage p v) := by
  have h : OnlyFields [(p, HDR.PG_STAT_STATE, 0), (p, HDR.PG_EVT_RAW, 0)] s (s.setPage p v) :=
    OnlyFields.setPage _ _ (OnlyFields.refl _ s) (by simp) (by simp)
  exact Woken.of_only (by rw [show (s.setPage p v).cal = s.cal by rw [h.rest]]; exact h) (by simp +decide [hp])

theorem Woken.each {α : Type} (f : State → α → State) {l : List α} (hf : ∀ u, ∀ x ∈ l, Woken u (f u x)) (s : State) :
    Woken s (s.each l f) := by
  induction l generalizing s with
  | nil => exact Woken.refl s
  | cons x l ih =>
    rw [State.each_cons]
    exact (hf s x (by simp)).trans (ih (fun u y hy => hf u y (by simp [hy])) _)

theorem calFields_within : FieldAt.within wakePages (calFields ((List.finRange 4).map .ddrs)) := by
  simp +decide [calFields, calPageFields, wakePages, List.finRange]

theorem Woken.setDdr (s : State) (v : Nat) : Woken s (s.setDdr v) := by
  unfold State.setDdr
  have hcal : Woken s (if v = ddrActive then s else s.calAbort fun r => r.item == 7) := by
    split
    · exact Woken.refl s
    · exact Woken.of_only (s.calAbort_only ddrRuns_onPages) calFields_within
  refine (hcal.trans (Woken.setPage _ (by decide) v)).trans (Woken.each _ (fun u k _ => Woken.setPage u ?_ v) _)
  exact List.mem_append_right _ (List.mem_map_of_mem (List.mem_finRange k))

theorem State.portWake_woken (hh : s.portsHold = true) : Woken s s.portWake := by
  have hpresent : Woken s s.presented := ⟨OtherPages.of_regs (OtherPages.refl _ s) rfl, rfl, rfl⟩
  cases hf : s.ddr.forSett with
  | true => exact (show s.portWake = s.presented from if_pos hf) ▸ hpresent
  | false =>
    have hne : s.ddrState ≠ ddrEntry := by
      intro he
      rw [State.portsHold, he] at hh
      exact absurd hh (by decide)
    rw [State.portWake_eq hf, if_neg hne]
    split
    · exact hpresent.trans (Woken.setDdr _ _)
    · exact hpresent

end Sys2Proof.Machine
end

section
/-! PROOFS. Presets: their VALID bits, and their loads and drops (R113, R137, R138). -/

namespace Sys2Proof.Machine

open Reg

variable {s : State} {entry : BitVec 512} {id : Nat}

/-! ### One bit of a number -/

theorem testBit_add_two_pow {w k : Nat} (h : w.testBit k = false) : (w + 2 ^ k).testBit k = true := by
  rw [Nat.add_comm, Nat.testBit_two_pow_add_eq, h]
  rfl

theorem testBit_sub_two_pow {w k : Nat} (h : w.testBit k = true) (i : Nat) :
    (w - 2 ^ k).testBit i = (w.testBit i && decide (i ≠ k)) := by
  obtain ⟨q, r, hr, rfl⟩ : ∃ q r, r < 2 ^ k ∧ w = 2 ^ k * (2 * q + 1) + r := by
    refine ⟨w / 2 ^ k / 2, w % 2 ^ k, Nat.mod_lt _ (Nat.two_pow_pos k), ?_⟩
    have hodd : w / 2 ^ k % 2 = 1 := by simpa [Nat.testBit_eq_decide_div_mod_eq] using h
    have hdiv := Nat.div_add_mod w (2 ^ k)
    rw [show 2 * (w / 2 ^ k / 2) + 1 = w / 2 ^ k by omega, hdiv]
  have hsub : 2 ^ k * (2 * q + 1) + r - 2 ^ k = 2 ^ k * (2 * q) + r := by
    rw [Nat.mul_succ]
    omega
  rw [hsub, Nat.testBit_two_pow_mul_add _ hr, Nat.testBit_two_pow_mul_add _ hr]
  split
  next hlt => simp [Nat.ne_of_lt hlt]
  next hge =>
    rcases Nat.eq_or_lt_of_le (Nat.not_lt.1 hge) with rfl | hlt
    · simp
    · obtain ⟨j, hj⟩ : ∃ j, i - k = j + 1 := ⟨i - k - 1, by omega⟩
      have hne : i ≠ k := by omega
      rw [hj, Nat.testBit_succ, Nat.testBit_succ]
      simp only [hne, ne_eq, not_false_eq_true, decide_true, Bool.and_true]
      congr 1
      omega

/-! ### VALID bits -/

/-- The fields in which a VALID bit shows (R138, R154). -/
def presetFields (id : Nat) : List FieldAt := [(.cdc, CDC.PRESET_VALID, id / 32), (.cdc, HDR.PG_EVT_RAW, 0)]

/-- The state with the VALID bit of a preset changed. -/
def State.presetFlipped (s : State) (id : Nat) (b : Bool) : State :=
  (s.wr .cdc CDC.PRESET_VALID (if b then s.rd .cdc CDC.PRESET_VALID (id / 32) + 2 ^ (id % 32)
    else s.rd .cdc CDC.PRESET_VALID (id / 32) - 2 ^ (id % 32)) (id / 32)).raise .cdc 11

theorem State.presetFlipped_only (s : State) (id : Nat) (b : Bool) : OnlyFields (presetFields id) s (s.presetFlipped id b) :=
  OnlyFields.raise _ _ (OnlyFields.wr _ _ _ _ (OnlyFields.refl _ s) (by simp [presetFields])) (by simp [presetFields])

theorem presetWord_apart {i j : Nat} (hi : i < 8) (hj : j < 8) (h : i ≠ j) :
    Row.apart CDC.PRESET_VALID i CDC.PRESET_VALID j = true := by
  have hall : ∀ i j : Fin 8, i ≠ j → Row.apart CDC.PRESET_VALID i.val CDC.PRESET_VALID j.val = true := by decide
  exact hall ⟨i, hi⟩ ⟨j, hj⟩ fun he => h (congrArg Fin.val he)

theorem presetWord_event {i : Nat} (hi : i < 8) : Row.apart HDR.PG_EVT_RAW 0 CDC.PRESET_VALID i = true := by
  have hall : ∀ i : Fin 8, Row.apart HDR.PG_EVT_RAW 0 CDC.PRESET_VALID i.val = true := by decide
  exact hall ⟨i, hi⟩

theorem State.presetFlipped_valid (s : State) (hid : id < 256) {b : Bool} (hb : s.presetValid id = !b) :
    (s.presetFlipped id b).presetValid id = b := by
  have hk : id % 32 < 32 := Nat.mod_lt _ (by decide)
  unfold State.presetValid at hb ⊢
  unfold State.presetFlipped
  rw [State.raise_rd_apart _ _ _ _ (presetWord_event (by omega)), State.wr_rd_same, Nat.testBit_mod_two_pow,
    show CDC.PRESET_VALID.width = 32 from rfl, decide_eq_true hk, Bool.true_and]
  cases b with
  | true => exact testBit_add_two_pow hb
  | false => simpa using testBit_sub_two_pow hb (id % 32)

theorem State.presetFlipped_other (s : State) (hid : id < 256) (hv : s.presetValid id = true) {i : Nat} (hi : i < 256)
    (hne : i ≠ id) : (s.presetFlipped id false).presetValid i = s.presetValid i := by
  have hk : i % 32 < 32 := Nat.mod_lt _ (by decide)
  unfold State.presetValid at hv ⊢
  unfold State.presetFlipped
  rw [State.raise_rd_apart _ _ _ _ (presetWord_event (by omega))]
  by_cases hw : id / 32 = i / 32
  · rw [hw, State.wr_rd_same, Nat.testBit_mod_two_pow, show CDC.PRESET_VALID.width = 32 from rfl, decide_eq_true hk, Bool.true_and]
    rw [hw] at hv
    have hbit : i % 32 ≠ id % 32 := by omega
    simpa [hbit] using testBit_sub_two_pow hv (i % 32)
  · rw [State.wr_rd_apart _ _ _ _ (presetWord_apart (by omega) (by omega) hw)]

theorem State.presetFlipped_event (s : State) (id : Nat) (b : Bool) : (s.presetFlipped id b).event .cdc 11 = true :=
  State.raise_event_same _ _ _ (by decide)

theorem State.setPreset_true (s : State) (id : Nat) :
    s.setPreset id true = if s.presetValid id = true then s else s.presetFlipped id true := rfl

/-- No decoder keeps the preset. -/
def State.presetFree (s : State) (id : Nat) : State := s.modCodec fun c => { c with
  decPreset := c.decPreset.map fun l => l.filter fun x => x != id }

theorem State.setPreset_false (s : State) (id : Nat) :
    s.setPreset id false = if s.presetValid id = false then s else (s.presetFree id).presetFlipped id false := rfl

end Sys2Proof.Machine
end

section
/-! PROOFS. PRESET_LOAD and PRESET_DROP as they execute (R113, R138). -/

namespace Sys2Proof.Machine

open Reg

variable {s t : State} {entry : BitVec 512}

theorem entryField_lt (e : BitVec 512) (off n : Nat) : entryField e off n < 2 ^ (8 * n) := Nat.mod_lt _ (Nat.two_pow_pos _)

/-! ### Loads begin -/

/-- The reserved bytes of a PRESET_LOAD are 0. -/
def loadClean (e : BitVec 512) : Prop :=
  entryField e 1 3 = 0 ∧ entryField e 5 3 = 0 ∧ entryField e 0xC 4 = 0 ∧ entryField e 0x18 40 = 0

/-- The preset of a PRESET_LOAD may be loaded. -/
def State.loadFits (s : State) (e : BitVec 512) : Prop :=
  1 ≤ entryField e 8 4 ∧ entryField e 8 4 ≤ 16384 ∧ s.presetValid (entryField e 4 1) = false ∧ s.rd .cdc CDC.PRESET_BASE ≠ 0 ∧
    ∀ x ∈ s.codec.loads, x.1 ≠ entryField e 4 1

/-- The load waits for its bytes. -/
def State.loadBegun (s : State) (e : BitVec 512) : State :=
  (s.modCodec fun c => { c with loads := c.loads ++ [(entryField e 4 1, entryField e 8 4)] }).withDma
    (s.dmaBegun (.dma (.preset (BitVec.ofNat 8 (entryField e 4 1)))) (entryField e 0x10 8) (entryField e 8 4))

theorem presetLoad_begins (h : s.admitted 0x12 entry = true) (hc : loadClean entry) (hf : s.loadFits entry) :
    exec (.presetLoad entry) s = .next (s.adminOver.loadBegun entry).adminDone := by
  obtain ⟨h1, h5, hC, h18⟩ := hc
  obtain ⟨hlo, hhi, hvalid, hbase, hloads⟩ := hf
  refine congrArg Host.Outcome.next ((State.admin_eq h _).trans (congrArg State.adminDone ?_))
  refine (if_neg (by omega)).trans ((if_neg ?_).trans (State.dmaStart_eq _ _ _ _))
  have hany : s.codec.loads.any (fun x => x.1 == entryField entry 4 1) = false := by simpa using hloads
  have hv : s.adminOver.presetValid (entryField entry 4 1) = false := hvalid
  rintro (hbad | hbad | hbad | hbad | hbad)
  · omega
  · omega
  · exact absurd hbad (by rw [hv]; decide)
  · exact hbase hbad
  · exact absurd hbad (by rw [show s.adminOver.codec.loads = s.codec.loads from rfl, hany]; decide)

theorem presetLoad_fails (h : s.admitted 0x12 entry = true) (hc : loadClean entry) (hbad : entryField entry 8 4 = 0 ∨
    16384 < entryField entry 8 4 ∨ s.presetValid (entryField entry 4 1) = true ∨ s.rd .cdc CDC.PRESET_BASE = 0) :
    ∃ t, exec (.presetLoad entry) s = .next t ∧ AdminPassed s t ∧ t.errorShown .int = s.errorAfter .int 0x2F ∧
      OnlyFields (errorFields .int ++ adminFields) { s with intake := { s.intake with
        rings := s.adminRings, reads := s.adminReads, cq := s.intake.cq ++ [adminCqe 0x112F 0 0 0] } } t := by
  obtain ⟨h1, h5, hC, h18⟩ := hc
  refine State.adminFail_fails h (by decide) ((if_neg (by omega)).trans (if_pos ?_))
  rcases hbad with hb | hb | hb | hb
  · exact Or.inl hb
  · exact Or.inr (Or.inl hb)
  · exact Or.inr (Or.inr (Or.inl hb))
  · exact Or.inr (Or.inr (Or.inr (Or.inl hb)))

/-! ### The bytes of a load have come -/

theorem State.burstWrite_lastReq (hp : s.ddr.poison = []) (port a b : Nat) (l : List Byte) :
    (s.burstWrite port (b * 64) (burstPart a (b * 64) l fun _ => true).1 (burstPart a (b * 64) l fun _ => true).2 false
      false).ddr.lastReq = s.ddr.lastReq := by
  rw [State.burstWrite_stores _ _ (Or.inr (by rw [hp]; rfl))]
  rfl

theorem State.eachBurst_lastReq (hp : s.ddr.poison = []) (port a : Nat) (l : List Byte) {bs : List Nat}
    (hb : ∀ b ∈ bs, b % 64 = 0) : (s.each bs fun t b =>
      t.burstWrite port b (burstPart a b l fun _ => true).1 (burstPart a b l fun _ => true).2 false false).ddr.lastReq =
      s.ddr.lastReq := by
  induction bs generalizing s with
  | nil => rfl
  | cons b bs ih =>
    obtain ⟨hb0, hbs⟩ := List.forall_mem_cons.1 hb
    obtain ⟨c, rfl⟩ : ∃ c, b = c * 64 := ⟨b / 64, by omega⟩
    rw [State.each_cons, ih (State.burstWrite_part hp port a c l).poison hbs, State.burstWrite_lastReq hp]

theorem State.portWrite_lastReq (hs : s.ddrState = ddrActive) (hp : s.ddr.poison = []) (port a : Nat) (l : List Byte) :
    (s.portWrite port a l).ddr.lastReq = s.dclk := by
  have hwake := State.portWake_active hs
  refine (State.eachBurst_lastReq (State.portWake_written hs hp).poison port a l (burstsOf_aligned _ _ _)).trans ?_
  rw [hwake]

/-- The read of a preset is over, and its load no longer waits. -/
def State.loadOver (s : State) (id : BitVec 8) : State :=
  (s.dmaOver (· == .dma (.preset id))).modCodec fun c => { c with loads := c.loads.filter fun e => e.1 != id.toNat }

/-- The bytes of a preset and their length stand in the spool. -/
def State.presetStored (s : State) (id : BitVec 8) (data : List Byte) : State :=
  (s.portWrite 0 (s.presetAt id.toNat) data).portWrite 0 (s.presetLenAt id.toNat) (natBytes 4 data.length)

theorem presetLoadDone_stores {id : BitVec 8} {data : List Byte} (hu : s.devUp = true)
    (hl : s.codec.loads.contains (id.toNat, data.length) = true) (hd : s.dmaSent (.dma (.preset id)) = true)
    (hs : s.ddrState = ddrActive) : exec (.presetLoadDone id data) s =
      .next ((((s.loadOver id).presetStored id data).setPreset id.toNat true).pushCqe (adminCqe 0 0 0 0)) := by
  have hhold : s.portsHold = false := by rw [State.portsHold, hs]; rfl
  refine (if_pos (by rw [hu, hl, hd]; rfl)).trans (if_neg (show ¬ s.portsHold = true by rw [hhold]; decide))

/-- Where the bytes of presets and their lengths stand (R137). -/
theorem State.presetAt_before (s : State) {id n : Nat} (hid : id < 256) (hn : n ≤ 16384) :
    s.presetAt id + n ≤ s.presetLenAt id := by
  unfold State.presetAt State.presetLenAt
  omega

theorem readNat_natBytes {m : List Host.Cell} {a v : Nat} (n : Nat)
    (h : ∀ i, i < n → Memory.read m (a + i) = BitVec.ofNat 8 (v / 2 ^ (8 * i))) : Memory.readNat m a n = v % 2 ^ (8 * n) := by
  induction n generalizing a v with
  | zero => simp [Memory.readNat, Nat.mod_one]
  | succ n ih =>
    have hfirst := h 0 (by omega)
    have hrest := ih (a := a + 1) (v := v / 256) fun i hi => by
      rw [Nat.div_div_eq_div_mul, show 256 * 2 ^ (8 * i) = 2 ^ (8 * (i + 1)) by rw [Nat.mul_succ, pow_add]; ring,
        ← h (i + 1) (by omega)]
      congr 1
      omega
    have hgrow : 2 ^ (8 * (n + 1)) = 256 * 2 ^ (8 * n) := by rw [Nat.mul_succ, pow_add]; ring
    rw [Memory.readNat, hrest, show a = a + 0 from rfl, hfirst, hgrow, Nat.mod_mul, BitVec.toNat_ofNat]
    simp

/-- The bytes of a load and their length, at their places in the spool; every other byte is as before. -/
theorem State.presetStored_written {id : BitVec 8} {data : List Byte} (hs : s.ddrState = ddrActive) (hp : s.ddr.poison = []) :
    PortWritten s (s.presetStored id data) fun x =>
      (putBytes s.spoolSize (s.presetLenAt id.toNat) (natBytes 4 data.length) x).or
        (putBytes s.spoolSize (s.presetAt id.toNat) data x) := by
  have hfirst := State.portWrite_written hs hp 0 (s.presetAt id.toNat) data
  have hsecond := State.portWrite_written (hfirst.ddrState.trans hs) hfirst.poison 0 (s.presetLenAt id.toNat)
    (natBytes 4 data.length)
  rw [hfirst.spoolSize] at hsecond
  exact hfirst.trans hsecond

theorem State.presetStored_lastReq {id : BitVec 8} {data : List Byte} (hs : s.ddrState = ddrActive) (hp : s.ddr.poison = []) :
    (s.presetStored id data).ddr.lastReq = s.dclk := by
  have hfirst := State.portWrite_written hs hp 0 (s.presetAt id.toNat) data
  unfold State.presetStored
  rw [State.portWrite_lastReq (hfirst.ddrState.trans hs) hfirst.poison, hfirst.rest]

theorem putBytes_out {size a x : Nat} {l : List Byte} (h : x < a ∨ a + l.length ≤ x) : putBytes size a l x = none :=
  if_neg (by omega)

theorem putBytes_at {size a i : Nat} {l : List Byte} (hi : i < l.length) (hs : a + l.length ≤ size) :
    putBytes size a l (a + i) = some (l.getD i 0) := by
  unfold putBytes
  rw [if_pos (by omega), Nat.add_sub_cancel_left]

theorem natBytes_length (n v : Nat) : (natBytes n v).length = n := by simp [natBytes]

theorem State.presetStored_data {id : BitVec 8} {data : List Byte} (hs : s.ddrState = ddrActive) (hp : s.ddr.poison = [])
    (hlen : data.length ≤ 16384) (hroom : s.presetAt id.toNat + data.length ≤ s.spoolSize) :
    Memory.readAll (s.presetStored id data).ddr.mem (s.presetAt id.toNat) data.length = data := by
  have hbefore := s.presetAt_before id.isLt hlen
  refine List.ext_getElem (by simp [Memory.readAll]) fun i hi hj => ?_
  simp only [Memory.readAll, List.getElem_map, List.getElem_range]
  rw [(State.presetStored_written hs hp).read, putBytes_out (by omega), Option.none_or, putBytes_at hj hroom,
    Option.getD_some, List.getD_eq_getElem _ _ hj]

theorem State.presetStored_length {id : BitVec 8} {data : List Byte} (hs : s.ddrState = ddrActive) (hp : s.ddr.poison = [])
    (hlen : data.length ≤ 16384) (hroom : s.presetLenAt id.toNat + 4 ≤ s.spoolSize) :
    Memory.readNat (s.presetStored id data).ddr.mem (s.presetLenAt id.toNat) 4 = data.length := by
  refine (readNat_natBytes (v := data.length) 4 fun i hi => ?_).trans (Nat.mod_eq_of_lt (by omega))
  have hn := natBytes_length 4 data.length
  rw [(State.presetStored_written hs hp).read, putBytes_at (by omega) (by omega), Option.some_or, Option.getD_some,
    List.getD_eq_getElem _ _ (by omega)]
  simp [natBytes]

theorem State.presetStored_rest {id : BitVec 8} {data : List Byte} (hs : s.ddrState = ddrActive) (hp : s.ddr.poison = []) {x : Nat}
    (hd : x < s.presetAt id.toNat ∨ s.presetAt id.toNat + data.length ≤ x)
    (hl : x < s.presetLenAt id.toNat ∨ s.presetLenAt id.toNat + 4 ≤ x) :
    Memory.read (s.presetStored id data).ddr.mem x = Memory.read s.ddr.mem x := by
  rw [(State.presetStored_written hs hp).read, putBytes_out (by rw [natBytes_length]; exact hl), putBytes_out hd]
  rfl

end Sys2Proof.Machine
end

section
/-! PROOFS. The VALID bits of presets as loads end and drops execute (R138, R167). -/

namespace Sys2Proof.Machine

open Reg

variable {s : State} {entry : BitVec 512}

theorem presetWord_inPage {i : Nat} (hi : i < 8) : Row.inPage CDC.PRESET_VALID i = true := by
  have hall : ∀ i : Fin 8, Row.inPage CDC.PRESET_VALID i.val = true := by decide
  exact hall ⟨i, hi⟩

theorem presetFields_clear {id : Nat} (hid : id < 256) {r : Row} {i : Nat} (hr : Row.inPage r i = true) :
    FieldAt.clear (presetFields id) .int r i := by
  have hw := presetWord_inPage (i := id / 32) (by omega)
  simp +decide [presetFields, hw, hr]

theorem State.presetValid_congr {t : State} (h : ∀ i, i < 8 → t.rd .cdc CDC.PRESET_VALID i = s.rd .cdc CDC.PRESET_VALID i)
    {id : Nat} (hid : id < 256) : t.presetValid id = s.presetValid id := by
  unfold State.presetValid
  rw [h _ (by omega)]

/-! ### Loads -/

theorem State.setPreset_true_only (s : State) (id : Nat) : OnlyFields (presetFields id) s (s.setPreset id true) := by
  rw [State.setPreset_true]
  split
  · exact OnlyFields.refl _ s
  · exact s.presetFlipped_only id true

theorem State.setPreset_true_valid (s : State) {id : Nat} (hid : id < 256) : (s.setPreset id true).presetValid id = true := by
  rw [State.setPreset_true]
  split
  · assumption
  next h => exact s.presetFlipped_valid hid (by simpa using h)

theorem State.setPreset_true_event (s : State) {id : Nat} (h : s.presetValid id = false) :
    (s.setPreset id true).event .cdc 11 = true := by
  rw [State.setPreset_true, if_neg (by rw [h]; decide)]
  exact s.presetFlipped_event id true

/-- What stands once the load of a preset has ended. -/
def State.loadDone (s : State) (id : BitVec 8) (data : List Byte) : State :=
  (((s.loadOver id).presetStored id data).setPreset id.toNat true).pushCqe (adminCqe 0 0 0 0)

theorem State.loadDone_ddr (s : State) (id : BitVec 8) (data : List Byte) :
    (s.loadDone id data).ddr = ((s.loadOver id).presetStored id data).ddr :=
  (State.setPreset_true_only _ _).ddr_same

theorem State.loadDone_only {id : BitVec 8} {data : List Byte} (hs : s.ddrState = ddrActive) (hp : s.ddr.poison = []) :
    OnlyFields (presetFields id.toNat) { s with
      ddr := { s.ddr with mem := (s.loadDone id data).ddr.mem, writeBack := (s.loadDone id data).ddr.writeBack, lastReq := s.dclk }
      codec := { s.codec with loads := s.codec.loads.filter fun e => e.1 != id.toNat }
      intake := { s.intake with
        cq := s.intake.cq ++ [adminCqe 0 0 0 0], reads := s.readsLess (.dma (.preset id)) } } (s.loadDone id data) := by
  rw [State.loadDone_ddr]
  unfold State.loadDone
  have hstored := (State.presetStored_written (s := s.loadOver id) (id := id) (data := data) hs hp).only
  rw [State.presetStored_lastReq (s := s.loadOver id) hs hp] at hstored
  generalize (s.loadOver id).presetStored id data = w at hstored ⊢
  have hall := (hstored.append (w.setPreset_true_only id.toNat)).pushCqe (adminCqe 0 0 0 0)
  rw [List.nil_append] at hall
  dsimp only [State.loadOver, State.modCodec, State.dmaOver, State.pushCqe] at hall ⊢
  exact hall

theorem presetLoadDone_held {id : BitVec 8} {data : List Byte} (hu : s.devUp = true)
    (hl : s.codec.loads.contains (id.toNat, data.length) = true) (hd : s.dmaSent (.dma (.preset id)) = true)
    (hh : s.portsHold = true) : exec (.presetLoadDone id data) s = .next s.portWake :=
  (if_pos (by rw [hu, hl, hd]; rfl)).trans (if_pos hh)

theorem State.portWake_presetValid (hh : s.portsHold = true) {id : Nat} (hid : id < 256) :
    s.portWake.presetValid id = s.presetValid id := by
  refine State.presetValid_congr (fun i hi => (State.portWake_woken hh).pages .cdc CDC.PRESET_VALID i (by decide) ?_) hid
  have hin := presetWord_inPage hi
  simp only [Row.inPage, Row.place, Nat.ble_eq] at hin
  omega

/-! ### Drops -/

theorem State.setPreset_false_only (s : State) (id : Nat) : OnlyFields (presetFields id)
    (s.modCodec fun c => { c with decPreset := (s.setPreset id false).codec.decPreset }) (s.setPreset id false) := by
  rw [State.setPreset_false]
  split
  · exact OnlyFields.refl _ s
  · have hflip := (s.presetFree id).presetFlipped_only id false
    rw [hflip.codec_same]
    exact hflip

theorem State.setPreset_false_valid (s : State) {id : Nat} (hid : id < 256) : (s.setPreset id false).presetValid id = false := by
  rw [State.setPreset_false]
  split
  · assumption
  next h =>
    exact (s.presetFree id).presetFlipped_valid hid (show s.presetValid id = true by simpa using h)

theorem State.setPreset_false_other (s : State) {id i : Nat} (hid : id < 256) (hi : i < 256) (hne : i ≠ id) :
    (s.setPreset id false).presetValid i = s.presetValid i := by
  rw [State.setPreset_false]
  split
  · rfl
  next h =>
    exact (s.presetFree id).presetFlipped_other hid (show s.presetValid id = true by simpa using h) hi hne

theorem State.setPreset_false_event (s : State) {id : Nat} (h : s.presetValid id = true) :
    (s.setPreset id false).event .cdc 11 = true := by
  rw [State.setPreset_false, if_neg (by rw [h]; decide)]
  exact State.presetFlipped_event _ id false

/-- The preset of an entry has been dropped, and the drop waits for its readers. -/
def State.dropBegun (s : State) (id : Nat) : State :=
  (s.setPreset id false).modCodec fun c => { c with drops := c.drops ++ [id] }

theorem presetDrop_begins (h : s.admitted 0x13 entry = true) (h1 : entryField entry 1 3 = 0) (h5 : entryField entry 5 59 = 0) :
    exec (.presetDrop entry) s = .next (s.adminOver.dropBegun (entryField entry 4 1)).adminDone := by
  refine congrArg Host.Outcome.next ((State.admin_eq h _).trans (congrArg State.adminDone ?_))
  exact if_neg (by omega)

theorem State.dropBegun_only (s : State) (id : Nat) : OnlyFields (presetFields id) (s.modCodec fun c => { c with
    drops := c.drops ++ [id], decPreset := (s.dropBegun id).codec.decPreset }) (s.dropBegun id) :=
  (s.setPreset_false_only id).modCodec fun c => { c with drops := c.drops ++ [id] }

theorem State.adminDone_presetValid (u : State) {id : Nat} (hid : id < 256) : u.adminDone.presetValid id = u.presetValid id :=
  State.presetValid_congr (s := u.adminFree) (fun i hi => u.adminDone_only.fields.rd_clear (by
    have hin := presetWord_inPage hi
    simp +decide [adminFields, hin])) hid

end Sys2Proof.Machine

namespace Sys2Proof

open Machine Reg

/-- Settles O18: loads and drops are entries of the admin ring; the bytes of a load are followed burst by burst into the spool, and
each VALID bit through the word that holds it. -/
theorem presets : Obligations.Presets := by
  refine ⟨fun s e h h1 h5 hC h18 hlo hhi hv hbase hl => ?_, fun s e h h1 h5 hC h18 hbad => presetLoad_fails h ⟨h1, h5, hC, h18⟩ hbad,
    fun s id data hu hl hlen hd hs hp hroom hlroom => ?_, fun s id data hu hl hd hh => ?_, fun s e h h1 h5 => ?_,
    fun s id hu hd hr => ?_, fun s id hr => ?_⟩
  · have hexec := presetLoad_begins h ⟨h1, h5, hC, h18⟩ ⟨hlo, hhi, hv, hbase, hl⟩
    have hrefl := OnlyFields.refl [] (s.adminOver.loadBegun e)
    have hall := hrefl.adminDone
    refine ⟨_, hexec, hrefl.adminPassed ⟨by simp, by simp, by simp⟩ rfl rfl, ?_⟩
    rw [State.dmaStart_out, State.dmaStart_reads]
    rw [List.nil_append] at hall
    dsimp only [State.loadBegun, State.adminFree, State.modIntake, State.modCodec, State.withDma] at hall
    exact hall
  · have hvalid : ((s.loadOver id).presetStored id data).presetValid id.toNat = s.presetValid id.toNat :=
      State.presetValid_congr (fun i _ => (State.presetStored_written (s := s.loadOver id) hs hp).rd _ _ i) id.isLt
    refine ⟨s.loadDone id data, presetLoadDone_stores hu hl hd hs, State.setPreset_true_valid _ id.isLt, ?_, ?_,
      fun h => State.setPreset_true_event _ (hvalid.trans h), ?_, State.loadDone_only hs hp⟩
    · rw [State.loadDone_ddr]
      exact State.presetStored_data (s := s.loadOver id) hs hp hlen hroom
    · rw [State.loadDone_ddr]
      exact State.presetStored_length (s := s.loadOver id) hs hp hlen hlroom
    · intro a ha hal
      rw [State.loadDone_ddr]
      exact State.presetStored_rest (s := s.loadOver id) hs hp ha hal
  · have hwoken := State.portWake_woken hh
    exact ⟨_, presetLoadDone_held hu hl hd hh, by rw [hwoken.rest], hwoken.mem, State.portWake_presetValid hh id.isLt,
      by rw [hwoken.rest]⟩
  · have hid : entryField e 4 1 < 256 := entryField_lt e 4 1
    have honly := s.adminOver.dropBegun_only (entryField e 4 1)
    have hall := honly.adminDone
    refine ⟨_, presetDrop_begins h h1 h5, honly.adminPassed ⟨presetFields_clear hid rfl, presetFields_clear hid rfl,
      presetFields_clear hid rfl⟩ rfl rfl, ?_, fun i hi hne => ?_, fun hv => ?_, ?_⟩
    · rw [State.adminDone_presetValid _ hid]
      exact State.setPreset_false_valid _ hid
    · rw [State.adminDone_presetValid _ hi]
      exact State.setPreset_false_other s.adminOver hid hi hne
    · rw [State.adminDone_event]
      exact State.setPreset_false_event s.adminOver hv
    · have hcodec : (s.adminOver.dropBegun (entryField e 4 1)).adminDone.codec =
          (s.adminOver.dropBegun (entryField e 4 1)).codec := (State.adminDone_only _).codec_same
      rw [hcodec]
      generalize s.adminOver.dropBegun (entryField e 4 1) = u at hall ⊢
      dsimp only [State.adminFree, State.modIntake, State.modCodec, State.adminOver] at hall
      refine OnlyFields.mono hall fun f hf => ?_
      exact List.mem_append.2 (List.mem_append.1 hf).symm
  · exact if_pos (by rw [hu, hd, hr]; rfl)
  · exact if_neg (by rw [hr]; simp)

end Sys2Proof
end

section
/-! PROOFS. Tags, and the decoders that take tiles (R191). -/

namespace Sys2Proof.Machine

open Reg

variable {fs : List FieldAt} {s t b : State} {u : Tile} {d : Fin 16}

/-! ### The landed tile of a key -/

theorem State.modTile_eq (s : State) (k : TileKey) (f : Tile → Tile) :
    s.modTile k f = s.modIntake fun i => { i with tiles := withTile k f i.tiles } := rfl

theorem OnlyFields.modTile (h : OnlyFields fs s t) (k : TileKey) (f : Tile → Tile) :
    OnlyFields fs (s.modTile k f) (t.modTile k f) := h.modIntake fun i => { i with tiles := withTile k f i.tiles }

/-- A change that keeps the tile the landed one of its key. -/
def KeepsPlace (f : Tile → Tile) : Prop := ∀ v, (f v).key = v.key ∧ (f v).phase = v.phase

theorem withTile_withTile {f : Tile → Tile} (hf : KeepsPlace f) (k : TileKey) (g : Tile → Tile) (l : List Tile) :
    withTile k g (withTile k f l) = withTile k (g ∘ f) l := by
  unfold withTile
  rw [List.map_map]
  refine List.map_congr_left fun v _ => ?_
  obtain ⟨hkey, hphase⟩ := hf v
  by_cases h : (v.key = k && v.phase == TilePhase.landed) = true
  · simp only [Function.comp_apply, if_pos h, hkey, hphase]
  · simp only [Function.comp_apply, if_neg h]

theorem withTile_cons (k : TileKey) (f : Tile → Tile) (v : Tile) (l : List Tile) :
    withTile k f (v :: l) = (if v.key = k && v.phase == TilePhase.landed then f v else v) :: withTile k f l := rfl

/-- The tile changed or not, it is left out alike. -/
theorem filter_withTile {f : Tile → Tile} (hf : KeepsPlace f) (k : TileKey) (l : List Tile) :
    (withTile k f l).filter (fun v => !(v.key == k && v.phase == TilePhase.landed)) =
      l.filter fun v => !(v.key == k && v.phase == TilePhase.landed) := by
  induction l with
  | nil => rfl
  | cons v l ih =>
    obtain ⟨hkey, hphase⟩ := hf v
    rw [withTile_cons, List.filter_cons, List.filter_cons, ih]
    by_cases h : (v.key = k && v.phase == TilePhase.landed) = true
    · have hland : (v.key == k && v.phase == TilePhase.landed) = true := by simpa using h
      rw [if_pos h, hkey, hphase, hland]
      rfl
    · rw [if_neg h]

/-! ### Tags -/

theorem tileFetch_takes (hd : s.devUp = true) (hn : s.rd .lst LST.TAGS_USED < 512)
    (hu : leastBy (fun v => s.tileOrder v.key ((s.wantedFor v).getD 0)) (s.intake.tiles.filter fun v =>
      v.phase == .landed && v.accepted && v.tag.isNone && (s.wantedFor v).isSome) = some u) :
    exec .tileFetch s = .next (s.modTile u.key fun v => { v with tag := s.wantedFor u }).settleTags := by
  change execTileFetch s = _
  unfold execTileFetch
  dsimp only
  rw [if_pos (by simp [hd, hn]), hu]

theorem tileFetch_full (h : 512 ≤ s.rd .lst LST.TAGS_USED) : exec .tileFetch s = .next s :=
  if_neg (by simp [Nat.not_lt.2 h])

theorem State.settleTags_used (s : State) :
    s.settleTags.rd .lst LST.TAGS_USED = (s.settleTags.intake.tiles.filter fun v => v.tag.isSome).length % 2 ^ 10 := by
  change ((s.wr .lst LST.TAGS_USED _).wr .lst LST.TAGS_PEAK _).rd .lst LST.TAGS_USED = _
  rw [State.wr_rd_apart _ _ _ _ (by decide), State.wr_rd_same]
  rfl

/-! ### Presets in a decoder's slots -/

theorem State.setDecoder_only (s : State) (d : Fin 16) (j : Option DecJob) :
    OnlyFields codecFields (s.modCodec fun c => { c with decoders := c.decoders.set d j }) (s.setDecoder d j) :=
  State.settleCodec_only _

/-- The preset that a decoder loads early stands behind the one in use. -/
theorem State.preloadPreset_cases (s : State) (d : Fin 16) : s.preloadPreset d = s ∨ ∃ id, s.preloadPreset d =
    s.modCodec fun c => { c with decPreset := c.decPreset.set d (s.codec.decPreset[d].take 1 ++ [id]) } := by
  unfold State.preloadPreset
  split
  · split
    · split
      · exact Or.inr ⟨_, rfl⟩
      · exact Or.inl rfl
    · exact Or.inl rfl
  · exact Or.inl rfl

/-- The presets of the decoders as decoder d loads one early. -/
structure Preloads (d : Fin 16) (old new : Vector (List Nat) 16) : Prop where
  others : ∀ e : Fin 16, e ≠ d → new[e] = old[e]
  own : new[d] = old[d] ∨ ∃ id, new[d] = old[d].take 1 ++ [id]

theorem OnlyFields.preloadPreset (h : OnlyFields fs s t) (d : Fin 16) : ∃ new, Preloads d s.codec.decPreset new ∧
    OnlyFields fs (s.modCodec fun c => { c with decPreset := new }) (t.preloadPreset d) := by
  rcases t.preloadPreset_cases d with hsame | ⟨id, hset⟩
  · exact ⟨s.codec.decPreset, ⟨fun _ _ => rfl, Or.inl rfl⟩, by rw [hsame]; exact h⟩
  · refine ⟨s.codec.decPreset.set d (s.codec.decPreset[d].take 1 ++ [id]), ⟨fun e he => ?_, Or.inr ⟨id, ?_⟩⟩, ?_⟩
    · have hne : d.val ≠ e.val := fun hv => he (Fin.ext hv.symm)
      simp [hne]
    · simp
    · rw [hset, h.codec_same]
      exact h.modCodec fun c => { c with decPreset := c.decPreset.set d (s.codec.decPreset[d].take 1 ++ [id]) }

/-! ### A decoder takes a tile -/

/-- The bytes of an input of n bytes that have come as a decoder takes it (R192). -/
def State.inputCome (s : State) (n : Nat) : Nat := Config.freeNat s.free % (min 16384 n + 1)

theorem State.inputCome_le (s : State) (n : Nat) : s.inputCome n ≤ min 16384 n :=
  Nat.lt_succ_iff.1 (Nat.mod_lt _ (Nat.succ_pos _))

/-- A job with its input as it is taken. -/
def State.inputOf (s : State) (u : Tile) (j : DecJob) : DecJob :=
  { j with level := s.inputCome u.stored.len, left := u.stored.len - s.inputCome u.stored.len }

/-- The decoder serves the job; of the presets only its own slots may change. -/
theorem DecodeTaken.of_only {j : DecJob} {P : Vector (List Nat) 16} (hj : j.level = 0 ∧ j.left = 0)
    (hP : ∀ e : Fin 16, e ≠ d → P[e] = s.codec.decPreset[e])
    (h : OnlyFields codecFields (s.modCodec fun c => { c with
      decoders := c.decoders.set d (some (s.inputOf u j)), decPreset := P }) t) : DecodeTaken s d u j t := by
  have hle := s.inputCome_le u.stored.len
  have hdec : t.codec.decoders[d] = some (s.inputOf u j) := by
    rw [h.codec_same]
    simp [State.modCodec]
  have hpre : t.codec.decPreset = P := by
    rw [h.codec_same]
    rfl
  constructor
  · rw [hdec]
    obtain ⟨key, copy, preset, missing, dict, bad, level, left, waits⟩ := j
    obtain ⟨rfl, rfl⟩ := hj
    rfl
  · rw [hdec]
    simp only [Option.map_some, State.inputOf]
    congr 1
    omega
  · rw [hdec]
    simp only [Option.all_some, State.inputOf, decide_eq_true_eq]
    omega
  · exact fun e he => by rw [hpre]; exact hP e he
  · rw [hdec, hpre]
    exact h

/-- A free decoder that may take a tile, and the tile it takes. -/
structure MayDecode (s : State) (d : Fin 16) (u : Tile) (copy : Nat) : Prop where
  up : s.devUp = true
  on : s.codecOn = true
  free : s.codec.decoders[d] = none
  next : s.decodeNext d = some (u, copy)
  serves : s.portsHold = false

variable {copy id : Nat}

theorem MayDecode.exec_bare (h : MayDecode s d u copy) (hp : s.presetOf u = none) : exec (.decodeStart d) s =
    .next ((s.draw.2.setDecoder d (some (s.inputOf u { key := u.key, copy, preset := none, missing := false }))).preloadPreset d) := by
  obtain ⟨hup, hon, hfree, hnext, hserves⟩ := h
  have hpre : s.draw.2.presetOf u = none := hp
  change execDecodeStart d s = _
  simp only [execDecodeStart, hup, hon, hfree, hnext, hserves, Option.isNone_none, Bool.and_self, if_true, State.inputStart]
  rw [if_neg (by decide), hpre]
  rfl

theorem MayDecode.exec_missing (h : MayDecode s d u copy) (hp : s.presetOf u = some id) (hv : s.presetValid id = false) :
    exec (.decodeStart d) s =
      .next (s.draw.2.setDecoder d (some (s.inputOf u { key := u.key, copy, preset := some id, missing := true }))) := by
  obtain ⟨hup, hon, hfree, hnext, hserves⟩ := h
  have hpre : s.draw.2.presetOf u = some id := hp
  have hval : s.draw.2.presetValid id = false := hv
  change execDecodeStart d s = _
  simp only [execDecodeStart, hup, hon, hfree, hnext, hserves, Option.isNone_none, Bool.and_self, if_true, State.inputStart]
  rw [if_neg (by decide), hpre]
  exact if_neg (by rw [hval]; decide)

theorem MayDecode.exec_held (h : MayDecode s d u copy) (hp : s.presetOf u = some id) (hv : s.presetValid id = true)
    (hb : s.presetBad id = []) : exec (.decodeStart d) s =
      .next (((s.draw.2.setDecoder d (some (s.inputOf u { key := u.key, copy, preset := some id, missing := false
                                                          dict := s.presetBytes id
                                                          waits := !s.codec.decPreset[d].contains id }))).slotPreset d id).preloadPreset
        d) := by
  obtain ⟨hup, hon, hfree, hnext, hserves⟩ := h
  have hpre : s.draw.2.presetOf u = some id := hp
  have hval : s.draw.2.presetValid id = true := hv
  have hbad : s.draw.2.presetBad id = [] := hb
  change execDecodeStart d s = _
  simp only [execDecodeStart, hup, hon, hfree, hnext, hserves, Option.isNone_none, Bool.and_self, if_true, State.inputStart]
  rw [if_neg (by decide), hpre]
  refine (if_pos hval).trans ?_
  rw [hbad]
  rfl

end Sys2Proof.Machine
end

section
/-! PROOFS. The start of a decode, with or without a preset (R138, R191). -/

namespace Sys2Proof.Machine

open Reg

variable {s : State} {u : Tile} {d : Fin 16} {copy id : Nat}

/-- The slots of a decoder that uses a preset. -/
def slotsWith (old : Vector (List Nat) 16) (d : Fin 16) (id : Nat) : Vector (List Nat) 16 :=
  old.set d (id :: (old[d].filter fun x => x != id).take 1)

theorem State.slotPreset_eq (s : State) (d : Fin 16) (id : Nat) :
    s.slotPreset d id = s.modCodec fun c => { c with decPreset := slotsWith c.decPreset d id } := rfl

theorem State.setDecoder_drawn (s : State) (d : Fin 16) (j : Option DecJob) :
    OnlyFields codecFields (s.modCodec fun c => { c with decoders := c.decoders.set d j }) (s.draw.2.setDecoder d j) :=
  ((OnlyFields.refl [] s).drawn.modCodec fun c => { c with decoders := c.decoders.set d j }).append (State.settleCodec_only _)

theorem MayDecode.takes_bare (h : MayDecode s d u copy) (hp : s.presetOf u = none) : ∃ t, exec (.decodeStart d) s = .next t ∧
    DecodeTaken s d u { key := u.key, copy, preset := none, missing := false } t := by
  let j : DecJob := { key := u.key, copy, preset := none, missing := false }
  have hset := s.setDecoder_drawn d (some (s.inputOf u j))
  obtain ⟨P, hP, hall⟩ := hset.preloadPreset d
  exact ⟨_, h.exec_bare hp, DecodeTaken.of_only ⟨rfl, rfl⟩ hP.others hall⟩

theorem MayDecode.takes_missing (h : MayDecode s d u copy) (hp : s.presetOf u = some id) (hv : s.presetValid id = false) :
    ∃ t, exec (.decodeStart d) s = .next t ∧ t.codec.decPreset = s.codec.decPreset ∧
      DecodeTaken s d u { key := u.key, copy, preset := some id, missing := true } t := by
  let j : DecJob := { key := u.key, copy, preset := some id, missing := true }
  have hset := s.setDecoder_drawn d (some (s.inputOf u j))
  exact ⟨_, h.exec_missing hp hv, by rw [hset.codec_same]; rfl, DecodeTaken.of_only ⟨rfl, rfl⟩ (fun _ _ => rfl) hset⟩

theorem MayDecode.takes_held (h : MayDecode s d u copy) (hp : s.presetOf u = some id) (hv : s.presetValid id = true)
    (hb : s.presetBad id = []) : ∃ t, exec (.decodeStart d) s = .next t ∧ t.codec.decPreset[d].head? = some id ∧
      t.codec.decPreset[d].length ≤ 2 ∧
      DecodeTaken s d u { key := u.key, copy, preset := some id, missing := false, dict := s.presetBytes id
                          waits := !s.codec.decPreset[d].contains id } t := by
  let j : DecJob := { key := u.key, copy, preset := some id, missing := false, dict := s.presetBytes id
                      waits := !s.codec.decPreset[d].contains id }
  have hset := s.setDecoder_drawn d (some (s.inputOf u j))
  have hslot : OnlyFields codecFields (s.modCodec fun c => { c with
      decoders := c.decoders.set d (some (s.inputOf u j)), decPreset := slotsWith s.codec.decPreset d id })
      ((s.draw.2.setDecoder d (some (s.inputOf u j))).slotPreset d id) := by
    rw [State.slotPreset_eq]
    exact hset.modCodec fun c => { c with decPreset := slotsWith c.decPreset d id }
  obtain ⟨P, hP, hall⟩ := hslot.preloadPreset d
  have hown : (slotsWith s.codec.decPreset d id)[d] = id :: (s.codec.decPreset[d].filter fun x => x != id).take 1 := by
    simp [slotsWith]
  have hcodec : (((s.draw.2.setDecoder d (some (s.inputOf u j))).slotPreset d id).preloadPreset d).codec.decPreset = P := by
    rw [hall.codec_same]
    rfl
  have hkeep := hP.own
  change P[d] = (slotsWith s.codec.decPreset d id)[d] ∨ ∃ x, P[d] = (slotsWith s.codec.decPreset d id)[d].take 1 ++ [x] at hkeep
  rw [hown] at hkeep
  refine ⟨_, h.exec_held hp hv hb, ?_, ?_, DecodeTaken.of_only ⟨rfl, rfl⟩ (fun e he => ?_) hall⟩
  · rw [hcodec]
    rcases hkeep with hk | ⟨x, hk⟩ <;> rw [hk] <;> rfl
  · rw [hcodec]
    rcases hkeep with hk | ⟨x, hk⟩ <;> rw [hk] <;> simp
  · refine (hP.others e he).trans ?_
    have hne : d.val ≠ e.val := fun hv => he (Fin.ext hv.symm)
    simp [slotsWith, State.modCodec, hne]

end Sys2Proof.Machine
end

section
/-! PROOFS. Decodes that pass (R134, R184, R190, R193, R194). -/

namespace Sys2Proof.Machine

open Reg

variable {fs : List FieldAt} {s t v : State} {u : Tile} {d : Fin 16} {j : DecJob} {p : PageSt} {l : List Nat}

/-! ### The place of a decoded tile -/

/-- A decoded tile in a half of its plane's region of the band buffer. -/
def State.bandPlace (s : State) (k : TileKey) (copy : Nat) (l : List Nat) (half : Bool) : BandTile :=
  { key := k, copy, content := l, at_ := s.dclk, half
    region := ((List.range k.plane).map fun q => 1024 * s.rd .pln PLN.PLANE_MODE_BAND_KIB q).sum }

theorem State.bandFill_early (k : TileKey) (copy : Nat) (l : List Nat) (h : v.deadlinePast k.plane ⟨p.ord, copy, k.band⟩ = false) :
    ∃ half, v.bandFill p k copy l = v.modIntake fun i => { i with bandBuf := i.bandBuf ++ [v.bandPlace k copy l half] } := by
  unfold State.bandFill
  dsimp only
  rw [if_neg (by rw [h]; decide)]
  exact ⟨_, rfl⟩

theorem State.fillPeak_only (s : State) (opened dead done : Nat) :
    OnlyFields [(.lst, LST.FILL_PEAK, 0)] s (s.fillPeak opened dead done) := by
  unfold State.fillPeak
  exact OnlyFields.ite (OnlyFields.wr _ _ _ _ (OnlyFields.refl _ s) (by simp)) (OnlyFields.refl _ s)

/-- A tile that completes late is used for nothing: only the plane's account of it and FILL_PEAK change. -/
theorem State.bandFill_late (k : TileKey) (copy : Nat) (l : List Nat) (h : v.deadlinePast k.plane ⟨p.ord, copy, k.band⟩ = true) :
    ∃ P, OnlyFields [(.lst, LST.FILL_PEAK, 0)] (v.modIntake fun i => { i with planes := P }) (v.bandFill p k copy l) := by
  unfold State.bandFill
  dsimp only
  rw [if_pos h]
  split
  · split
    · split
      · exact ⟨_, State.fillPeak_only _ _ _ _⟩
      · exact ⟨_, OnlyFields.refl _ _⟩
    · exact ⟨_, OnlyFields.refl _ _⟩
  · exact ⟨v.intake.planes, OnlyFields.refl _ v⟩

/-! ### The decoder is free, and the tile's tag is released -/

/-- The tile has been decoded for the copy, its tag is released, and its decoder is free. -/
def State.decodeOver (s : State) (d : Fin 16) (j : DecJob) : State :=
  ((s.setDecoder d none).tagOff j.key).modTile j.key fun v => { v with decoded := some j.copy }

/-- The tile as such a decode leaves it. -/
def DecJob.passed (j : DecJob) (v : Tile) : Tile := { v with tag := none, decoded := some j.copy }

theorem State.decodeOver_only (s : State) (d : Fin 16) (j : DecJob) : OnlyFields (codecFields ++ tagFields)
    ((s.modCodec fun c => { c with decoders := c.decoders.set d none }).modIntake fun i =>
      { i with tiles := withTile j.key j.passed i.tiles }) (s.decodeOver d j) := by
  have hset := s.setDecoder_only d none
  have hall := ((hset.modTile j.key fun v => { v with tag := none }).append (State.settleTags_only _)).modTile j.key
    fun v => { v with decoded := some j.copy }
  rw [State.modTile_eq, State.modTile_eq] at hall
  have htiles := withTile_withTile (f := fun v => { v with tag := none }) (fun _ => ⟨rfl, rfl⟩) j.key
    (fun v => { v with decoded := some j.copy }) s.intake.tiles
  dsimp only [State.modIntake, State.modCodec] at hall ⊢
  rw [htiles] at hall
  exact hall

theorem State.decodeOver_deadline (s : State) (d : Fin 16) (j : DecJob) (q : Nat) (b : BandId) :
    (s.decodeOver d j).deadlinePast q b = s.deadlinePast q b := by
  unfold State.deadlinePast State.planeSt
  rw [(s.decodeOver_only d j).intake_same]
  rfl

/-- The sizes of the band regions stand behind the codec's fields and the tags' in the register file, whatever the plane. -/
theorem bandWord_off (q : Nat) : FieldAt.key (.pln, PLN.PLANE_MODE_BAND_KIB, q) ∉ (codecFields ++ tagFields).map FieldAt.key := by
  intro hm
  have hlow : ∀ f ∈ codecFields ++ tagFields, FieldAt.key f < 0x21000 * 8 := by decide
  obtain ⟨f, hf, hk⟩ := List.mem_map.1 hm
  have hkey := hlow f hf
  have hhigh : 0x21000 * 8 ≤ FieldAt.key (.pln, PLN.PLANE_MODE_BAND_KIB, q) := by
    change 0x21000 * 8 ≤ (0x21000 + 0x10C + 32 * q) * 8 + 16
    omega
  omega

theorem State.decodeOver_place (s : State) (d : Fin 16) (j : DecJob) (half : Bool) :
    (s.decodeOver d j).bandPlace j.key j.copy l half = s.bandPlace j.key j.copy l half := by
  have honly := s.decodeOver_only d j
  unfold State.bandPlace
  rw [show (s.decodeOver d j).dclk = s.dclk by rw [honly.rest]; rfl]
  congr 2
  exact List.map_congr_left fun q _ => congrArg (1024 * ·) (honly.rd _ _ _ (bandWord_off q))

end Sys2Proof.Machine
end

section
/-! PROOFS. A decode that passes puts its tile into the band, or comes too late (R134, R193). -/

namespace Sys2Proof.Machine

open Reg

variable {fs : List FieldAt} {s t v : State} {u : Tile} {d : Fin 16} {j : DecJob} {p : PageSt} {l : List Nat}

/-- A decode that passes, its input all read and its preset there. -/
structure Passes (s : State) (d : Fin 16) (j : DecJob) (u : Tile) (p : PageSt) (l : List Nat) : Prop where
  up : s.devUp = true
  job : s.codec.decoders[d] = some j
  tile : s.tileAt j.key = some u
  page : s.pageById j.key.page = some p
  serves : s.portsHold = false
  read : j.left = 0
  ready : j.waits = false
  result : (s.decodeOf u j none).toOption = some l

/-- The band of the decode's copy. -/
def DecJob.bandOf (j : DecJob) (p : PageSt) : BandId := ⟨p.ord, j.copy, j.key.band⟩

/-- The tile of a decode is put into its band or found too late; the tile goes with the last copy. -/
theorem Passes.exec_eq (h : Passes s d j u p l)
    (hr : (s.regionFree j.key.plane (j.bandOf p) || s.deadlinePast j.key.plane (j.bandOf p)) = true) :
    exec (.decodeDone d) s = .next (if j.copy + 1 = p.desc.copies then
      ((((s.decodeOver d j).bandFill p j.key j.copy l).modIntake fun i => { i with tiles := i.tiles.filter fun (v : Tile) =>
        !(v.key == j.key && v.phase == TilePhase.landed) }).settleTags).settleCredit
      else (s.decodeOver d j).bandFill p j.key j.copy l) := by
  obtain ⟨hup, hjob, htile, hpage, hserves, hread, hready, hresult⟩ := h
  have hok : s.decodeOf u j none = .ok l := by
    cases hdec : s.decodeOf u j none with
    | error e => rw [hdec] at hresult; exact absurd hresult (by simp [Except.toOption])
    | ok m => rw [hdec] at hresult; exact congrArg _ (Option.some.inj hresult)
  change execDecodeDone d s = _
  unfold execDecodeDone
  rw [hjob]
  dsimp only
  rw [htile, hpage]
  dsimp only
  rw [hok]
  dsimp only
  rw [if_pos (by rw [hup, hserves, hread, hready]; exact hr)]
  split <;> rfl

/-- The decoded tile stands in its band, in the half of the buffer that the state after the step shows. -/
theorem State.decodeOver_fills (s : State) (d : Fin 16) (j : DecJob) (p : PageSt) (l : List Nat)
    (h : s.deadlinePast j.key.plane (j.bandOf p) = false) :
    ∃ b : BandTile, (∀ t : State, t.intake.bandBuf = s.intake.bandBuf ++ [b] → s.bandTile j l t = b) ∧
      (s.decodeOver d j).bandFill p j.key j.copy l =
        (s.decodeOver d j).modIntake fun i => { i with bandBuf := i.bandBuf ++ [b] } := by
  obtain ⟨half, heq⟩ := State.bandFill_early (p := p) j.key j.copy l
    ((s.decodeOver_deadline d j j.key.plane (j.bandOf p)).trans h)
  rw [s.decodeOver_place d j half] at heq
  refine ⟨_, fun t ht => ?_, heq⟩
  unfold State.bandTile
  rw [ht, List.getLast?_concat]
  rfl

theorem Passes.kept (h : Passes s d j u p l) (hr : s.regionFree j.key.plane (j.bandOf p) = true)
    (hp : s.deadlinePast j.key.plane (j.bandOf p) = false) (hc : j.copy + 1 ≠ p.desc.copies) :
    ∃ t, exec (.decodeDone d) s = .next t ∧
      OnlyFields (codecFields ++ tagFields) { s with
        codec := { s.codec with decoders := s.codec.decoders.set d none }
        intake := { s.intake with
          tiles := withTile j.key j.passed s.intake.tiles
          bandBuf := s.intake.bandBuf ++ [s.bandTile j l t] } } t := by
  obtain ⟨b, hb, hfill⟩ := s.decodeOver_fills d j p l hp
  have hall := (s.decodeOver_only d j).modIntake fun i => { i with bandBuf := i.bandBuf ++ [b] }
  refine ⟨_, (h.exec_eq (by rw [hr]; rfl)).trans (by rw [if_neg hc, hfill]), ?_⟩
  rw [hb _ (by rw [hall.intake_same]; rfl)]
  exact hall

theorem Passes.last (h : Passes s d j u p l) (hr : s.regionFree j.key.plane (j.bandOf p) = true)
    (hp : s.deadlinePast j.key.plane (j.bandOf p) = false) (hc : j.copy + 1 = p.desc.copies) :
    ∃ t, exec (.decodeDone d) s = .next t ∧
      t.rd .int INT.CREDIT = (t.heapGranules - t.usedGranules none) % 2 ^ 25 ∧
      OnlyFields (codecFields ++ tagFields ++ creditFields) { s with
        codec := { s.codec with decoders := s.codec.decoders.set d none }
        intake := { s.intake with
          tiles := s.intake.tiles.filter fun (v : Tile) => !(v.key == j.key && v.phase == TilePhase.landed)
          bandBuf := s.intake.bandBuf ++ [s.bandTile j l t]
          lowSeen := t.intake.lowSeen } } t := by
  obtain ⟨b, hb, hfill⟩ := s.decodeOver_fills d j p l hp
  have hpassed : KeepsPlace j.passed := fun _ => ⟨rfl, rfl⟩
  have hover := ((s.decodeOver_only d j).modIntake fun i => { i with bandBuf := i.bandBuf ++ [b] }).modIntake fun i =>
    { i with tiles := i.tiles.filter fun (v : Tile) => !(v.key == j.key && v.phase == TilePhase.landed) }
  refine ⟨_, (h.exec_eq (by rw [hr]; rfl)).trans (by rw [if_pos hc, hfill]), State.settleCredit_right _, ?_⟩
  generalize (((s.decodeOver d j).modIntake _).modIntake _) = w at hover ⊢
  have htags : OnlyFields (codecFields ++ tagFields) _ w.settleTags :=
    (hover.append (State.settleTags_only w)).mono fun f hf => by simp only [List.mem_append] at hf ⊢; tauto
  have hall := htags.settleCredit
  have hbuf : w.settleTags.settleCredit.intake.bandBuf = s.intake.bandBuf ++ [b] := by
    rw [hall.intake_same]
    rfl
  rw [hb _ hbuf]
  generalize w.settleTags.settleCredit = c at hall ⊢
  dsimp only [State.modIntake, State.modCodec] at hall ⊢
  rw [filter_withTile hpassed] at hall
  exact hall

/-- A decode that ends after its band's deadline is used for nothing. -/
theorem Passes.late (h : Passes s d j u p l) (hp : s.deadlinePast j.key.plane (j.bandOf p) = true) (hc : j.copy + 1 ≠ p.desc.copies) :
    ∃ t, exec (.decodeDone d) s = .next t ∧ t.intake.bandBuf = s.intake.bandBuf ∧
      t.intake.tiles = withTile j.key j.passed s.intake.tiles ∧
      OnlyFields (codecFields ++ tagFields ++ [(.lst, LST.FILL_PEAK, 0)]) { s with
        codec := { s.codec with decoders := s.codec.decoders.set d none }
        intake := { s.intake with tiles := t.intake.tiles, planes := t.intake.planes } } t := by
  obtain ⟨P, hP⟩ := State.bandFill_late (p := p) j.key j.copy l
    ((s.decodeOver_deadline d j j.key.plane (j.bandOf p)).trans hp)
  have hall := ((s.decodeOver_only d j).modIntake fun i => { i with planes := P }).append hP
  refine ⟨_, (h.exec_eq (by rw [hp, Bool.or_true])).trans (by rw [if_neg hc]), ?_, ?_, ?_⟩
  · rw [hall.intake_same]; rfl
  · rw [hall.intake_same]; rfl
  · rw [show ((s.decodeOver d j).bandFill p j.key j.copy l).intake.tiles = withTile j.key j.passed s.intake.tiles by
      rw [hall.intake_same]; rfl]
    rw [show ((s.decodeOver d j).bandFill p j.key j.copy l).intake.planes = P by rw [hall.intake_same]; rfl]
    exact hall

end Sys2Proof.Machine
end

section
/-! PROOFS. Decodes that fail (R134, R135, R152, R154). -/

namespace Sys2Proof.Machine

open Reg

variable {fs : List FieldAt} {s t v : State} {u : Tile} {d : Fin 16} {j : DecJob} {e : DecodeError} {x : Den}

/-! ### The code of a failed decode -/

/-- A decode that fails has an error code of one byte. -/
def ErrByte (r : Except DecodeError (List Nat)) : Prop := ∀ e, r = .error e → e.nn < 256

theorem ErrByte.ok (l : List Nat) : ErrByte (.ok l) := nofun

theorem ErrByte.error (h : e.nn < 256) : ErrByte (.error e) := fun _ he => by cases he; exact h

theorem ErrByte.ite {q : Prop} [Decidable q] {r r' : Except DecodeError (List Nat)} (h : ErrByte r) (h' : ErrByte r') :
    ErrByte (if q then r else r') := by
  split
  · exact h
  · exact h'

theorem rawDecode_errByte (l : List Nat) (crc : Nat) (hurt : Nat → Bool) : ErrByte (rawDecode l crc hurt) := by
  unfold rawDecode
  split
  · exact .error (by decide : 0x23 < 256)
  · exact .ite (.ok _) (.error (by decide : 0x23 < 256))

theorem scwTokens_errByte (l : List Nat) (lineLen rawLen stop p : Nat) (hurt hurtDict : Nat → Bool) (fuel i : Nat) (h : List Nat) :
    ErrByte (scwTokens l lineLen rawLen stop p hurt hurtDict fuel i h) := by
  induction fuel generalizing i h with
  | zero => exact .ok h
  | succ fuel ih =>
    have hcut : (0x21 : Nat) < 256 := by decide
    have hbad : (0x22 : Nat) < 256 := by decide
    have hcrc : (0x23 : Nat) < 256 := by decide
    unfold scwTokens
    refine .ite (.ok h) ?_
    dsimp only
    split
    · exact .error hcrc
    · exact .ite (.error hcut) (.ite (.error hbad) (.ite (.error hbad) (.ite (.error hcut) (.ite (.error hcrc)
        (.ite (.error hcut) (ih _ _))))))

theorem scwDecode_errByte (l preset : List Nat) (hurt hurtDict : Nat → Bool) : ErrByte (scwDecode l preset hurt hurtDict) := by
  unfold scwDecode
  dsimp only
  split
  · next e he => exact .error (scwTokens_errByte _ _ _ _ _ _ _ _ _ _ e he)
  · refine .ite (.error (by decide : 0x21 < 256)) ?_
    split
    · exact .error (by decide : 0x23 < 256)
    · exact .ite (.error (by decide : 0x23 < 256)) (.ok _)

theorem State.decodeOf_errByte (s : State) (u : Tile) (j : DecJob) (extra : Option Nat) : ErrByte (s.decodeOf u j extra) := by
  unfold State.decodeOf
  dsimp only
  split
  · exact rawDecode_errByte _ _ _
  · split
    · exact .error (by decide : 0x23 < 256)
    · exact .ite (.error (by decide : 0x20 < 256)) (scwDecode_errByte _ _ _ _)

/-- The token that fails a stream whose preset is not loaded is its first: the preset's, at offset 5 (R154). -/
theorem State.decodeOf_missing {n : Nat} (hst : u.stored = .stream n) (hp : s.ddr.poison = []) (hm : j.missing = true) :
    s.decodeOf u j none = .error ⟨0x20, 5, none⟩ := by
  unfold State.decodeOf
  rw [hst, hp, hm]
  rfl

/-! ### The decoder of a failed decode -/

/-- The information word of a decode's error (R154). -/
def DecodeError.info (e : DecodeError) (d : Fin 16) : Nat := e.off % 2 ^ 17 + 2 ^ 17 * d.val + 2 ^ 21 * e.ue.isSome.toNat

/-- A decode has failed: its decoder is free, its tag released, and the failure counted and recorded. -/
def State.decodeLost (s : State) (d : Fin 16) (j : DecJob) (e : DecodeError) : State :=
  ((((s.setDecoder d none).tagOff j.key).bump .cdc CDC.DEC_FAIL).raise .cdc 8).err .cdc e.nn (e.info d)

/-- The fields in which a failed decode shows. -/
def lostFields : List FieldAt := codecFields ++ tagFields ++ errorFields .cdc ++ [(.cdc, CDC.DEC_FAIL, 0)]

/-- What a decode leaves without its decoder and its tag. -/
def State.undecoded (s : State) (d : Fin 16) (j : DecJob) : State :=
  (s.modCodec fun c => { c with decoders := c.decoders.set d none }).modIntake fun i =>
    { i with tiles := withTile j.key (fun v => { v with tag := none }) i.tiles }

/-- From s to v a decode has failed with error e, and only the fields listed have changed besides. -/
structure DecodeLost (fs : List FieldAt) (s : State) (d : Fin 16) (j : DecJob) (e : DecodeError) (x : Den) (v : State) : Prop where
  shown : v.errorShown .cdc = s.errorAfter .cdc e.nn
  info : s.errorShown .cdc = none → v.rd .cdc HDR.PG_ERR_INFO = e.info d
  event : v.event .cdc 8 = true
  count : v.rd .cdc CDC.DEC_FAIL = min (s.rd .cdc CDC.DEC_FAIL + 1) (2 ^ 32 - 1)
  only : OnlyFields fs { s.undecoded d j with den := x } v

theorem State.undecoded_only (s : State) (d : Fin 16) (j : DecJob) :
    OnlyFields (codecFields ++ tagFields) (s.undecoded d j) ((s.setDecoder d none).tagOff j.key) :=
  ((s.setDecoder_only d none).modTile j.key fun v => { v with tag := none }).append (State.settleTags_only _)

theorem DecodeError.info_lt (e : DecodeError) (d : Fin 16) : e.info d < 2 ^ 32 := by
  have hd := d.isLt
  have hu := Bool.toNat_le e.ue.isSome
  unfold DecodeError.info
  omega

theorem State.decodeLost_lost (s : State) (d : Fin 16) (j : DecJob) (hn : e.nn < 256) :
    DecodeLost lostFields s d j e s.den (s.decodeLost d j e) := by
  have hfree := s.undecoded_only d j
  have hshown : ((s.setDecoder d none).tagOff j.key).errorShown .cdc = s.errorShown .cdc :=
    hfree.errorShown_clear (by simp +decide [codecFields, tagFields]) (by simp +decide [codecFields, tagFields])
  have hcount : ((s.setDecoder d none).tagOff j.key).rd .cdc CDC.DEC_FAIL = s.rd .cdc CDC.DEC_FAIL :=
    hfree.fields.rd_clear (by simp +decide [codecFields, tagFields])
  unfold State.decodeLost
  generalize (s.setDecoder d none).tagOff j.key = w at hfree hshown hcount ⊢
  have hbump : ((w.bump .cdc CDC.DEC_FAIL).raise .cdc 8).errorShown .cdc = s.errorShown .cdc := by
    rw [State.raise_errorShown, State.bump_errorShown_apart _ _ _ _ rfl, hshown]
  refine ⟨?_, fun hs => ?_, ?_, ?_, ?_⟩
  · rw [State.err_errorShown _ _ _ _ hn]
    exact State.errorAfter_congr hbump _
  · rw [State.err_info (hbump.trans hs)]
    exact Nat.mod_eq_of_lt (e.info_lt d)
  · exact State.err_event_of _ _ _ _ _ _ (State.raise_event_same _ _ _ (by decide)) (by decide)
  · rw [State.err_rd _ _ _ _ _ _ _ (by decide) (by decide), State.raise_rd_apart _ _ _ _ rfl, State.bump_rd_same, hcount]
    rfl
  · have hb := OnlyFields.bump .cdc CDC.DEC_FAIL 1 0 (hfree.mono (gs := lostFields) fun f hf => by
      simp only [lostFields, List.mem_append] at hf ⊢; tauto) (by simp [lostFields])
    exact OnlyFields.err _ _ _ (OnlyFields.raise _ _ hb (by simp [lostFields, errorFields])) fun f hf => by
      simp only [lostFields, List.mem_append]; tauto

/-- The error log takes an uncorrectable error of the decoder's SRAM besides (R152, R172). -/
theorem DecodeLost.denSramUe (h : DecodeLost lostFields s d j e x v) (src array word found lane : Nat) :
    DecodeLost (lostFields ++ denFields) s d j e (v.denSramUe src array word found lane).den
      (v.denSramUe src array word found lane) := by
  obtain ⟨hshown, hinfo, hevent, hcount, honly⟩ := h
  have hden : OnlyFields denFields { v with den := (v.denSramUe src array word found lane).den }
    (v.denSramUe src array word found lane) := v.denSramUe_den src array word found lane
  generalize v.denSramUe src array word found lane = w at hden ⊢
  refine ⟨?_, fun hs => ?_, ?_, ?_, (honly.withDen w.den).append hden⟩
  · exact (hden.errorShown_clear (by simp +decide [denFields]) (by simp +decide [denFields])).trans hshown
  · exact (hden.fields.rd_clear (by simp +decide [denFields])).trans (hinfo hs)
  · exact (hden.event_clear 8 (by simp +decide [denFields])).trans hevent
  · exact (hden.fields.rd_clear (by simp +decide [denFields])).trans hcount

end Sys2Proof.Machine
end

section
/-! PROOFS. A tile that failed its decode is asked for again, or fails (R124, R126). -/

namespace Sys2Proof.Machine

open Reg

variable {fs : List FieldAt} {s t v : State} {u : Tile} {d : Fin 16} {j : DecJob} {e : DecodeError} {x : Den}

/-- The failure of a decode for a copy stands in its tile, and is counted. -/
def State.copyFailed (v : State) (j : DecJob) : State :=
  (v.bump .lst LST.REREQ_CNT).modTile j.key fun u => { u with failed := j.copy :: u.failed }

theorem State.copyFailed_only (v : State) (j : DecJob) : OnlyFields [(.lst, LST.REREQ_CNT, 0)]
    (v.modTile j.key fun u => { u with failed := j.copy :: u.failed }) (v.copyFailed j) :=
  (OnlyFields.bump _ _ _ _ (OnlyFields.refl _ v) (by simp)).modTile j.key fun u => { u with failed := j.copy :: u.failed }

/-- The tile of a failed decode, its tag released and its failure noted. -/
def DecJob.lost (j : DecJob) (v : Tile) : Tile := { v with tag := none, failed := j.copy :: v.failed }

/-- What a failed decode leaves beside registers. -/
def State.unfilled (s : State) (d : Fin 16) (j : DecJob) (x : Den) : State :=
  { s with
    den := x
    codec := { s.codec with decoders := s.codec.decoders.set d none }
    intake := { s.intake with tiles := withTile j.key j.lost s.intake.tiles } }

theorem DecodeLost.copyFailed (h : DecodeLost fs s d j e x v) :
    OnlyFields (fs ++ [(.lst, LST.REREQ_CNT, 0)]) (s.unfilled d j x) (v.copyFailed j) := by
  have hall := (h.only.modTile j.key fun u => { u with failed := j.copy :: u.failed }).append (v.copyFailed_only j)
  rw [State.modTile_eq] at hall
  have htiles := withTile_withTile (f := fun v => { v with tag := none }) (fun _ => ⟨rfl, rfl⟩) j.key
    (fun v => { v with failed := j.copy :: v.failed }) s.intake.tiles
  dsimp only [State.modIntake, State.undecoded, State.modCodec] at hall
  rw [htiles] at hall
  exact hall

/-- The completion of a tile that intake asks for again. -/
def Tile.again (u : Tile) (e : DecodeError) : Cqe := tileCqe u.key u.desc.cookie 3 (0x1200 + e.nn) u.stored.len u.info

/-- The completion of a tile that failed too often. -/
def Tile.spent (u : Tile) : Cqe := tileCqe u.key u.desc.cookie 2 0x112A u.stored.len u.info

/-- The tile once it is asked for again. -/
def Tile.awaited (v : Tile) : Tile := { v with rereqs := v.rereqs + 1, outstanding := true }

theorem State.tileRereq_again (h : u.rereqs < v.rd .int INT.CTRL_REREQ_MAX) (e : DecodeError) :
    v.tileRereq u e.nn = ((v.modTile u.key Tile.awaited).pushCqe (u.again e)).raise .int 13 := if_pos h

theorem State.tileRereq_spent (h : v.rd .int INT.CTRL_REREQ_MAX ≤ u.rereqs) (e : DecodeError) :
    v.tileRereq u e.nn = (v.errOpen .int 0x2A).pushCqe u.spent := if_neg (Nat.not_lt.2 h)

/-- No field of a decode's failure bears on the limit of the requests and their count. -/
structure RereqClear (fs : List FieldAt) : Prop where
  limit : FieldAt.clear fs .int INT.CTRL_REREQ_MAX 0
  count : FieldAt.clear fs .lst LST.REREQ_CNT 0
  code : FieldAt.clear fs .int HDR.PG_ERR_CODE_CODE 0
  valid : FieldAt.clear fs .int HDR.PG_ERR_CODE_VALID 0

theorem DecodeLost.limit (h : DecodeLost fs s d j e x v) (hc : RereqClear fs) :
    (v.copyFailed j).rd .int INT.CTRL_REREQ_MAX = s.rd .int INT.CTRL_REREQ_MAX :=
  ((v.copyFailed_only j).fields.rd_clear (by simp +decide)).trans (h.only.fields.rd_clear hc.limit)

theorem DecodeLost.rereqs (h : DecodeLost fs s d j e x v) (hc : RereqClear fs) :
    (v.copyFailed j).rd .lst LST.REREQ_CNT = min (s.rd .lst LST.REREQ_CNT + 1) (2 ^ 32 - 1) := by
  change (v.bump .lst LST.REREQ_CNT).rd .lst LST.REREQ_CNT = _
  rw [State.bump_rd_same, h.only.fields.rd_clear hc.count]
  rfl

/-- What a failed decode shows of the decoder stands after the tile is asked for again or has failed. -/
theorem DecodeLost.after {gs : List FieldAt} (h : DecodeLost fs s d j e x v) (hregs : t.regs = v.regs) {w : State}
    (ho : OnlyFields gs t w) (hcode : FieldAt.clear gs .cdc HDR.PG_ERR_CODE_CODE 0)
    (hvalid : FieldAt.clear gs .cdc HDR.PG_ERR_CODE_VALID 0) (hinfo : FieldAt.clear gs .cdc HDR.PG_ERR_INFO 0)
    (hevent : FieldAt.clear gs .cdc HDR.PG_EVT_RAW 0) (hcount : FieldAt.clear gs .cdc CDC.DEC_FAIL 0) :
    w.errorShown .cdc = s.errorAfter .cdc e.nn ∧
    (s.errorShown .cdc = none → w.rd .cdc HDR.PG_ERR_INFO = e.info d) ∧ w.event .cdc 8 = true ∧
    w.rd .cdc CDC.DEC_FAIL = min (s.rd .cdc CDC.DEC_FAIL + 1) (2 ^ 32 - 1) := by
  have hrd (p : Page) (r : Row) (i : Nat) : t.rd p r i = v.rd p r i := by
    unfold State.rd
    rw [hregs]
  have hshown : t.errorShown .cdc = v.errorShown .cdc := by
    unfold State.errorShown State.on
    rw [hrd, hrd]
  have hev : t.event .cdc 8 = v.event .cdc 8 := by
    unfold State.event
    rw [hrd]
  refine ⟨?_, fun hs => ?_, ?_, ?_⟩
  · rw [ho.errorShown_clear hcode hvalid, hshown, h.shown]
  · rw [ho.fields.rd_clear hinfo, hrd, h.info hs]
  · rw [ho.event_clear 8 hevent, hev, h.event]
  · rw [ho.fields.rd_clear hcount, hrd, h.count]

/-! ### Asked for again, or failed -/

/-- The state beside registers once the tile is asked for again. -/
def State.reasked (s : State) (d : Fin 16) (j : DecJob) (u : Tile) (e : DecodeError) (x : Den) : State :=
  { s with
    den := x
    codec := { s.codec with decoders := s.codec.decoders.set d none }
    intake := { s.intake with
      tiles := withTile u.key Tile.awaited (withTile j.key j.lost s.intake.tiles), cq := s.intake.cq ++ [u.again e] } }

theorem DecodeLost.reasked (h : DecodeLost fs s d j e x v) (hc : RereqClear fs) (hr : u.rereqs < s.rd .int INT.CTRL_REREQ_MAX) :
    ((v.copyFailed j).tileRereq u e.nn).rd .lst LST.REREQ_CNT = min (s.rd .lst LST.REREQ_CNT + 1) (2 ^ 32 - 1) ∧
    ((v.copyFailed j).tileRereq u e.nn).event .int 13 = true ∧
    OnlyFields (fs ++ [(.lst, LST.REREQ_CNT, 0), (.int, HDR.PG_EVT_RAW, 0)]) (s.reasked d j u e x)
      ((v.copyFailed j).tileRereq u e.nn) := by
  have hbase := (h.copyFailed.modTile u.key Tile.awaited).pushCqe (u.again e)
  have hcount := h.rereqs hc
  rw [State.tileRereq_again (by rw [h.limit hc]; exact hr)]
  generalize v.copyFailed j = w at hbase hcount ⊢
  refine ⟨?_, State.raise_event_same _ _ _ (by decide), ?_⟩
  · rw [State.raise_rd_apart _ _ _ _ rfl]
    exact hcount
  · exact OnlyFields.raise _ _ (hbase.mono fun f hf => by
      simp only [List.mem_append, List.mem_cons, List.not_mem_nil] at hf ⊢; tauto) (by simp)

/-- The state beside registers once the tile has failed. -/
def State.spent (s : State) (d : Fin 16) (j : DecJob) (u : Tile) (x : Den) : State :=
  { s with
    den := x
    codec := { s.codec with decoders := s.codec.decoders.set d none }
    intake := { s.intake with tiles := withTile j.key j.lost s.intake.tiles, cq := s.intake.cq ++ [u.spent] } }

theorem DecodeLost.spent (h : DecodeLost fs s d j e x v) (hc : RereqClear fs) (hr : s.rd .int INT.CTRL_REREQ_MAX ≤ u.rereqs) :
    ((v.copyFailed j).tileRereq u e.nn).errorShown .int = s.errorAfter .int 0x2A ∧
    OnlyFields (fs ++ [(.lst, LST.REREQ_CNT, 0)] ++ errorFields .int) (s.spent d j u x) ((v.copyFailed j).tileRereq u e.nn) := by
  have hshown : (v.copyFailed j).errorShown .int = s.errorShown .int :=
    ((v.copyFailed_only j).errorShown_clear (by simp +decide) (by simp +decide)).trans (h.only.errorShown_clear hc.code hc.valid)
  rw [State.tileRereq_spent (by rw [h.limit hc]; exact hr)]
  refine ⟨(State.errOpen_errorShown _ _ _ (by decide)).trans (State.errorAfter_congr hshown _), ?_⟩
  exact (h.copyFailed.append (State.errOpen_only _ _ _)).pushCqe u.spent

end Sys2Proof.Machine
end

section
/-! PROOFS. The command that ends a failed decode (R135, R152, R154). -/

namespace Sys2Proof.Machine

open Reg

variable {s v : State} {u : Tile} {d : Fin 16} {j : DecJob} {e : DecodeError} {ue : Option DecodeUe}

/-- A decode that fails with error e, of itself or with an uncorrectable error. -/
structure MayFail (s : State) (d : Fin 16) (j : DecJob) (u : Tile) (ue : Option DecodeUe) (e : DecodeError) : Prop where
  up : s.devUp = true
  serves : s.portsHold = false
  job : s.codec.decoders[d] = some j
  tile : s.tileAt j.key = some u
  result : decodeError (s.decodeOf u j (ue.map fun x => x.off.toNat)) = some e

theorem MayFail.decodeOf (h : MayFail s d j u ue e) : s.decodeOf u j (ue.map fun x => x.off.toNat) = .error e := by
  have hresult := h.result
  cases hdec : s.decodeOf u j (ue.map fun x => x.off.toNat) with
  | ok l => rw [hdec] at hresult; cases hresult
  | error e' => rw [hdec] at hresult; exact congrArg _ (Option.some.inj hresult)

theorem MayFail.nn_lt (h : MayFail s d j u ue e) : e.nn < 256 := s.decodeOf_errByte _ _ _ e h.decodeOf

/-- The failed decode with its uncorrectable error, if it met one, in the error log. -/
def State.decodeLostUe (s : State) (d : Fin 16) (j : DecJob) (u : Tile) (ue : Option DecodeUe) (e : DecodeError) : State :=
  match e.ue with
  | some (some o) => (s.decodeLost d j e).decodeUe u o ue
  | _ => s.decodeLost d j e

theorem MayFail.exec_eq (h : MayFail s d j u ue e) : exec (.decodeFail d ue) s =
    .next (((s.decodeLostUe d j u ue e).copyFailed j).tileRereq u e.nn) := by
  have hdec := h.decodeOf
  obtain ⟨hup, hserves, hjob, htile, hresult⟩ := h
  change execDecodeFail d ue s = _
  unfold execDecodeFail
  rw [hjob]
  dsimp only
  rw [htile]
  dsimp only
  rw [hdec]
  dsimp only
  rw [if_neg (by rw [hup]; decide), if_neg (by rw [hserves]; decide)]
  rfl

theorem State.decodeLostUe_none (h : e.ue = none) : s.decodeLostUe d j u ue e = s.decodeLost d j e := by
  unfold State.decodeLostUe
  rw [h]

/-- An uncorrectable error of the decoder's SRAM that ends the decode goes to the error log. -/
theorem State.decodeLostUe_sram {x : DecodeUe} {w : SramUe} (hx : x.at_ = .sram w) (h : e.ue = some (some x.off.toNat)) :
    s.decodeLostUe d j u (some x) e = (s.decodeLost d j e).denSramUe 0x12 w.array.toNat w.word.toNat 0 0xFF := by
  unfold State.decodeLostUe
  rw [h]
  dsimp only [State.decodeUe]
  rw [if_pos rfl, hx]

theorem lostFields_rereq : RereqClear lostFields := by
  constructor <;> simp +decide [lostFields, codecFields, tagFields, errorFields]

theorem lostFields_den_rereq : RereqClear (lostFields ++ denFields) := by
  constructor <;> simp +decide [lostFields, codecFields, tagFields, errorFields, denFields]

/-! ### What the command leaves -/

/-- What a failed decode shows of its decoder. -/
structure FailShown (s : State) (d : Fin 16) (e : DecodeError) (t : State) : Prop where
  shown : t.errorShown .cdc = s.errorAfter .cdc e.nn
  info : s.errorShown .cdc = none → t.rd .cdc HDR.PG_ERR_INFO = e.info d
  event : t.event .cdc 8 = true
  count : t.rd .cdc CDC.DEC_FAIL = min (s.rd .cdc CDC.DEC_FAIL + 1) (2 ^ 32 - 1)

theorem DecodeLost.shown_again {fs : List FieldAt} {x : Den} (h : DecodeLost fs s d j e x v)
    (hr : u.rereqs < (v.copyFailed j).rd .int INT.CTRL_REREQ_MAX) : FailShown s d e ((v.copyFailed j).tileRereq u e.nn) := by
  have honly := OnlyFields.raise .int 13 ((((v.copyFailed_only j).mono (gs := [(.lst, LST.REREQ_CNT, 0), (.int, HDR.PG_EVT_RAW, 0)])
    (by simp)).modTile u.key Tile.awaited).pushCqe (u.again e)) (by simp)
  rw [State.tileRereq_again hr]
  obtain ⟨hshown, hinfo, hevent, hcount⟩ := h.after (t := ((v.modTile j.key fun u => { u with failed := j.copy :: u.failed }).modTile
    u.key Tile.awaited).pushCqe (u.again e)) rfl honly (by simp +decide) (by simp +decide) (by simp +decide) (by simp +decide)
    (by simp +decide)
  exact ⟨hshown, hinfo, hevent, hcount⟩

theorem DecodeLost.shown_spent {fs : List FieldAt} {x : Den} (h : DecodeLost fs s d j e x v)
    (hr : (v.copyFailed j).rd .int INT.CTRL_REREQ_MAX ≤ u.rereqs) : FailShown s d e ((v.copyFailed j).tileRereq u e.nn) := by
  have honly := ((v.copyFailed_only j).append ((v.copyFailed j).errOpen_only .int 0x2A)).pushCqe u.spent
  rw [State.tileRereq_spent hr]
  obtain ⟨hshown, hinfo, hevent, hcount⟩ := h.after (t := (v.modTile j.key fun u => { u with failed := j.copy :: u.failed }).pushCqe
    u.spent) rfl honly (by simp +decide [errorFields]) (by simp +decide [errorFields]) (by simp +decide [errorFields])
    (by simp +decide [errorFields]) (by simp +decide [errorFields])
  exact ⟨hshown, hinfo, hevent, hcount⟩

theorem MayFail.asks (h : MayFail s d j u none e) (hue : e.ue = none) (hr : u.rereqs < s.rd .int INT.CTRL_REREQ_MAX) :
    ∃ t, exec (.decodeFail d none) s = .next t ∧ FailShown s d e t ∧
      t.rd .lst LST.REREQ_CNT = min (s.rd .lst LST.REREQ_CNT + 1) (2 ^ 32 - 1) ∧ t.event .int 13 = true ∧
      OnlyFields (lostFields ++ [(.lst, LST.REREQ_CNT, 0), (.int, HDR.PG_EVT_RAW, 0)]) (s.reasked d j u e s.den) t := by
  have hlost := s.decodeLost_lost d j h.nn_lt
  refine ⟨_, h.exec_eq, ?_⟩
  rw [State.decodeLostUe_none hue]
  exact ⟨hlost.shown_again (by rw [hlost.limit lostFields_rereq]; exact hr), hlost.reasked lostFields_rereq hr⟩

theorem MayFail.fails (h : MayFail s d j u none e) (hue : e.ue = none) (hr : s.rd .int INT.CTRL_REREQ_MAX ≤ u.rereqs) :
    ∃ t, exec (.decodeFail d none) s = .next t ∧ FailShown s d e t ∧ t.errorShown .int = s.errorAfter .int 0x2A ∧
      OnlyFields (lostFields ++ [(.lst, LST.REREQ_CNT, 0)] ++ errorFields .int) (s.spent d j u s.den) t := by
  have hlost := s.decodeLost_lost d j h.nn_lt
  refine ⟨_, h.exec_eq, ?_⟩
  rw [State.decodeLostUe_none hue]
  exact ⟨hlost.shown_spent (by rw [hlost.limit lostFields_rereq]; exact hr), hlost.spent lostFields_rereq hr⟩

theorem MayFail.asks_sram {x : DecodeUe} {w : SramUe} (h : MayFail s d j u (some x) e) (hx : x.at_ = .sram w)
    (hue : e.ue = some (some x.off.toNat)) (hr : u.rereqs < s.rd .int INT.CTRL_REREQ_MAX) :
    ∃ t, exec (.decodeFail d (some x)) s = .next t ∧ FailShown s d e t ∧
      OnlyFields (lostFields ++ denFields ++ [(.lst, LST.REREQ_CNT, 0), (.int, HDR.PG_EVT_RAW, 0)])
        (s.reasked d j u e t.den) t := by
  have hlost := (s.decodeLost_lost d j h.nn_lt).denSramUe 0x12 w.array.toNat w.word.toNat 0 0xFF
  obtain ⟨-, -, honly⟩ := hlost.reasked lostFields_den_rereq hr
  refine ⟨_, h.exec_eq, ?_⟩
  rw [State.decodeLostUe_sram hx hue]
  refine ⟨hlost.shown_again (by rw [hlost.limit lostFields_den_rereq]; exact hr), ?_⟩
  generalize ((_ : State).copyFailed j).tileRereq u e.nn = t at honly ⊢
  have hden : t.den = ((s.decodeLost d j e).denSramUe 0x12 w.array.toNat w.word.toNat 0 0xFF).den := by
    rw [honly.rest]
    rfl
  rw [hden]
  exact honly

end Sys2Proof.Machine

namespace Sys2Proof

open Machine Reg

/-- Settles O21: the tags, the decoders that take tiles, and the decodes that pass and that fail. -/
theorem decodes : Obligations.Decodes := by
  unfold Obligations.Decodes
  refine ⟨fun s u hd hn hu => ⟨_, tileFetch_takes hd hn hu, State.settleTags_used _, ?_⟩, fun s h => tileFetch_full h,
    fun s d u copy hd hon hfree hnext hserves hp => (MayDecode.mk hd hon hfree hnext hserves).takes_bare hp,
    fun s d u copy id hd hon hfree hnext hserves hp hv hb => (MayDecode.mk hd hon hfree hnext hserves).takes_held hp hv hb,
    fun s d u copy id hd hon hfree hnext hserves hp hv => (MayDecode.mk hd hon hfree hnext hserves).takes_missing hp hv,
    fun s d j u p l hd hj hu hp hs hl hw hr hf hdl hc => (Passes.mk hd hj hu hp hs hl hw hr).kept hf hdl hc,
    fun s d j u p l hd hj hu hp hs hl hw hr hf hdl hc => (Passes.mk hd hj hu hp hs hl hw hr).last hf hdl hc,
    fun s d j u p l hd hj hu hp hs hl hw hr hdl hc => (Passes.mk hd hj hu hp hs hl hw hr).late hdl hc,
    fun s d j u n hj hu hst hp hm => State.decodeOf_missing hst hp hm, fun s d j u e hd hs hj hu hres hue hr => ?_,
    fun s d j u e hd hs hj hu hres hue hr => ?_, fun s d j u x e w hd hs hj hu hx hres hue hr => ?_⟩
  · exact State.settleTags_only (s.modTile u.key fun v => { v with tag := s.wantedFor u })
  · obtain ⟨t, hexec, hshown, hcount, hasked, honly⟩ := (MayFail.mk (ue := none) hd hs hj hu hres).asks hue hr
    refine ⟨t, hexec, hshown.shown, fun hn => (hshown.info hn).trans ?_, hshown.event, hshown.count, hcount, hasked, ?_⟩
    · simp [DecodeError.info, hue, Nat.mul_comm]
    · exact honly.mono fun f hf => by
        simp only [lostFields, List.mem_append, List.mem_cons, List.not_mem_nil, or_false] at hf ⊢; tauto
  · obtain ⟨t, hexec, hshown, hlimit, honly⟩ := (MayFail.mk (ue := none) hd hs hj hu hres).fails hue hr
    exact ⟨t, hexec, hshown.shown, hlimit, hshown.event, honly.mono fun f hf => by
      simp only [lostFields, List.mem_append, List.mem_cons, List.not_mem_nil, or_false] at hf ⊢; tauto⟩
  · obtain ⟨t, hexec, hshown, honly⟩ := (MayFail.mk (ue := some x) hd hs hj hu hres).asks_sram hx hue hr
    refine ⟨t, hexec, hshown.shown, fun hn => (hshown.info hn).trans ?_, honly.codec_same, honly.intake_same,
      OtherPages.of_untouched honly.fields ?_, fun l _ => ?_, honly.ddr_same⟩
    · simp [DecodeError.info, hue, Nat.mul_comm]
    · simp +decide [lostFields, codecFields, tagFields, errorFields, denFields]
    · rw [honly.rest]
      rfl

end Sys2Proof
end

section
/-! PROOFS. The registers of a job slot (R153), and what the end of a job shows in them (R150). -/

namespace Sys2Proof.Machine

open Reg

variable {fs : List FieldAt} {s t v : State} {k nn len : Nat}

/-! ### The fields of a slot stand apart from each other, and from the fields before the slots -/

/-- A field of the job slots. -/
def Row.inSlot (r : Row) : Bool := r.stride == 32 && decide (0x200 ≤ r.off ∧ r.off < 0x220 ∧ r.lo < 32)

/-- Different fields of a slot. -/
def Row.slotApart (r t : Row) : Bool := Row.inSlot r && Row.inSlot t && decide (r.off * 8 + r.lo ≠ t.off * 8 + t.lo)

theorem Row.apart_of_slot {r t : Row} (hk : k < 16) (h : Row.slotApart r t = true) : Row.apart r k t k = true := by
  simp only [Row.slotApart, Row.inSlot, Bool.and_eq_true, beq_iff_eq, decide_eq_true_eq] at h
  obtain ⟨⟨⟨hrs, hr⟩, hts, ht⟩, hne⟩ := h
  simp only [Row.apart, Row.inPage, Row.place, hrs, hts, Bool.and_eq_true, Nat.ble_eq, Bool.not_eq_true', ← Bool.not_eq_true,
    Nat.beq_eq]
  omega

/-- A field before the slots. -/
def Row.preSlot (r : Row) : Bool := decide (r.off ≤ 0x1FC ∧ r.lo < 32)

theorem Row.apart_of_preSlot {r t : Row} (hk : k < 16) (hr : Row.inSlot r = true) (ht : Row.preSlot t = true) :
    Row.apart r k t 0 = true := by
  simp only [Row.inSlot, Bool.and_eq_true, beq_iff_eq, decide_eq_true_eq] at hr
  obtain ⟨hrs, hr⟩ := hr
  simp only [Row.preSlot, decide_eq_true_eq] at ht
  simp only [Row.apart, Row.inPage, Row.place, hrs, Bool.and_eq_true, Nat.ble_eq, Bool.not_eq_true', ← Bool.not_eq_true,
    Nat.beq_eq, Nat.mul_zero, Nat.add_zero]
  omega

theorem Row.apart_comm {r t : Row} {i j : Nat} (h : Row.apart r i t j = true) : Row.apart t j r i = true := by
  simp only [Row.apart, Bool.and_eq_true, Bool.not_eq_true', ← Bool.not_eq_true, Nat.beq_eq] at h ⊢
  exact ⟨⟨h.1.2, h.1.1⟩, fun he => h.2 he.symm⟩

theorem slotFields_inSlot {f : FieldAt} (h : f ∈ slotFields k) : Row.inSlot f.2.1 = true ∧ f.2.2 = k := by
  simp only [slotFields, List.mem_cons, List.not_mem_nil, or_false] at h
  rcases h with rfl | rfl | rfl | rfl | rfl | rfl | rfl | rfl <;> exact ⟨rfl, rfl⟩

/-- The fields of a slot are none of those before the slots. -/
theorem slotFields_clear (hk : k < 16) (p : Page) {r : Row} (hr : Row.preSlot r = true) : FieldAt.clear (slotFields k) p r 0 := by
  intro f hf
  obtain ⟨hin, hcopy⟩ := slotFields_inSlot hf
  rw [hcopy]
  exact Or.inl (Row.apart_of_preSlot hk hin hr)

/-! ### What the end of a job writes in its slot -/

/-- The result of a job, in its slot. -/
def State.jobResult (v : State) (k code : Nat) (noGain : Bool) : State :=
  ((v.wr .cdc CDC.JS_STAT_RESULT code k).flag .cdc CDC.JS_STAT_NO_GAIN noGain k).wr .cdc CDC.JS_STAT_ENC 0 k

/-- The length of the stream of a job that is done, and its input's. -/
def State.jobLengths (v : State) (k len raw : Nat) (done : Bool) : State :=
  v.when done fun t => (t.wr .cdc CDC.JS_OUT len k).wr .cdc CDC.JS_IN raw k

theorem State.jobResult_only (v : State) (k code : Nat) (noGain : Bool) : OnlyFields (slotFields k) v (v.jobResult k code noGain) :=
  OnlyFields.wr _ _ _ _ (OnlyFields.flag _ _ _ _ (OnlyFields.wr _ _ _ _ (OnlyFields.refl _ v) (by simp [slotFields]))
    (by simp [slotFields])) (by simp [slotFields])

theorem State.jobLengths_only (v : State) (k len raw : Nat) (done : Bool) :
    OnlyFields (slotFields k) v (v.jobLengths k len raw done) :=
  OnlyFields.when _ _ (OnlyFields.refl _ v) fun _ hu =>
    OnlyFields.wr _ _ _ _ (OnlyFields.wr _ _ _ _ hu (by simp [slotFields])) (by simp [slotFields])

/-- The lengths change no other field of a slot. -/
theorem State.jobLengths_rd {r : Row} {done : Bool} (v : State) (len raw : Nat) (hk : k < 16)
    (ho : Row.slotApart CDC.JS_OUT r = true) (hi : Row.slotApart CDC.JS_IN r = true) :
    (v.jobLengths k len raw done).rd .cdc r k = v.rd .cdc r k := by
  unfold State.jobLengths State.when
  split
  · rw [State.wr_rd_apart _ _ _ _ (Row.apart_of_slot hk hi), State.wr_rd_apart _ _ _ _ (Row.apart_of_slot hk ho)]
  · rfl

/-- The slot of a job that has ended. -/
def State.jobSlot (v : State) (k code len raw st : Nat) (noGain done : Bool) : State :=
  ((v.jobResult k code noGain).jobLengths k len raw done).wr .cdc CDC.JS_STAT_STATE st k

/-- What stands in the slot of a job that has ended. -/
structure SlotShows (t : State) (k code len raw st : Nat) (noGain done : Bool) : Prop where
  result : t.rd .cdc CDC.JS_STAT_RESULT k = code % 2 ^ 16
  gain : t.on .cdc CDC.JS_STAT_NO_GAIN k = noGain
  enc : t.rd .cdc CDC.JS_STAT_ENC k = 0
  lengths : done = true → t.rd .cdc CDC.JS_OUT k = len % 2 ^ 17 ∧ t.rd .cdc CDC.JS_IN k = raw % 2 ^ 17
  state : t.slotState k = st % 2 ^ 3

theorem State.jobSlot_only (v : State) (k code len raw st : Nat) (noGain done : Bool) :
    OnlyFields (slotFields k) v (v.jobSlot k code len raw st noGain done) :=
  OnlyFields.wr _ _ _ _ ((v.jobResult_only k code noGain).trans (State.jobLengths_only _ _ _ _ _)) (by simp [slotFields])

theorem State.jobSlot_shows (v : State) (hk : k < 16) (code len raw st : Nat) (noGain done : Bool) :
    SlotShows (v.jobSlot k code len raw st noGain done) k code len raw st noGain done := by
  have hlast {r : Row} (h : Row.slotApart CDC.JS_STAT_STATE r = true) (ho : Row.slotApart CDC.JS_OUT r = true)
      (hi : Row.slotApart CDC.JS_IN r = true) :
      (v.jobSlot k code len raw st noGain done).rd .cdc r k = (v.jobResult k code noGain).rd .cdc r k := by
    unfold State.jobSlot
    rw [State.wr_rd_apart _ _ _ _ (Row.apart_of_slot hk h), State.jobLengths_rd _ _ _ hk ho hi]
  refine ⟨?_, ?_, ?_, fun hd => ?_, ?_⟩
  · rw [hlast rfl rfl rfl, State.jobResult, State.wr_rd_apart _ _ _ _ (Row.apart_of_slot hk rfl), State.flag,
      State.wr_rd_apart _ _ _ _ (Row.apart_of_slot hk rfl), State.wr_rd_same]
    rfl
  · unfold State.on
    rw [hlast rfl rfl rfl, State.jobResult, State.wr_rd_apart _ _ _ _ (Row.apart_of_slot hk rfl), State.flag, State.wr_rd_same]
    cases noGain <;> rfl
  · rw [hlast rfl rfl rfl, State.jobResult, State.wr_rd_same]
    rfl
  · subst hd
    have hstate (r : Row) (h : Row.slotApart CDC.JS_STAT_STATE r = true) : (v.jobSlot k code len raw st noGain true).rd .cdc r k =
        (((v.jobResult k code noGain).wr .cdc CDC.JS_OUT len k).wr .cdc CDC.JS_IN raw k).rd .cdc r k :=
      State.wr_rd_apart _ _ _ _ (Row.apart_of_slot hk h)
    constructor
    · rw [hstate _ rfl, State.wr_rd_apart _ _ _ _ (Row.apart_of_slot hk rfl), State.wr_rd_same]
      rfl
    · rw [hstate _ rfl, State.wr_rd_same]
      rfl
  · unfold State.slotState State.jobSlot
    rw [State.wr_rd_same]
    rfl

end Sys2Proof.Machine
end

section
/-! PROOFS. The end of a job (R150). -/

namespace Sys2Proof.Machine

open Reg

variable {fs : List FieldAt} {s t v : State} {k nn len : Nat} {noGain : Bool}

/-! ### The encoder is free, the error is told -/

/-- The encoder of a job is free, and the read of its input over. -/
def State.jobLet (s : State) (k : Nat) : State := (s.slotLetGo k).dmaOver (· == .job k)

/-- What the end of a job leaves of the encoders and of the reads. -/
def State.jobLess (s : State) (k : Nat) : State :=
  { s with
    codec := { s.codec with encoders := s.codec.encoders.map fun e => if e.serves k then .free else e }
    intake := { s.intake with reads := s.readsLess (.job k) } }

theorem State.slotLetGo_eq (s : State) (k : Nat) : s.slotLetGo k =
    (s.modCodec fun c => { c with encoders := c.encoders.map fun e => if e.serves k then .free else e }).settleCodec := by
  unfold State.slotLetGo
  refine congrArg (fun f => State.settleCodec { s with codec := { s.codec with encoders := s.codec.encoders.map f } })
    (funext fun e => ?_)
  cases e with
  | free => rfl
  | intake => rfl
  | job j p => simp [EncUser.serves]

theorem State.jobLet_only (s : State) (k : Nat) : OnlyFields codecFields (s.jobLess k) (s.jobLet k) := by
  unfold State.jobLet
  rw [State.slotLetGo_eq]
  have hset := State.settleCodec_only (s.modCodec fun c => { c with
    encoders := c.encoders.map fun e => if e.serves k then .free else e })
  exact hset.modIntake fun i => { i with reads := i.reads.filter fun r => r.who != .job k }

/-- The error of a job that failed is told. -/
def State.jobTold (s : State) (k nn : Nat) : State := (s.jobLet k).when (nn != 0) fun t => t.err .cdc nn k

/-- The fields in which the error of a job shows, if it has one. -/
def jobErrs (nn : Nat) : List FieldAt := if nn = 0 then [] else errorFields .cdc

theorem State.jobTold_only (s : State) (k nn : Nat) : OnlyFields (codecFields ++ jobErrs nn) (s.jobLess k) (s.jobTold k nn) := by
  have hlet := s.jobLet_only k
  unfold State.jobTold jobErrs State.when
  by_cases hn : nn = 0
  · rw [if_pos hn, if_neg (by simpa using hn), List.append_nil]
    exact hlet
  · rw [if_neg hn, if_pos (by simpa using hn)]
    exact hlet.append (OnlyFields.err _ _ _ (OnlyFields.refl _ _) fun _ hf => hf)

theorem State.jobLet_errorShown (s : State) (k : Nat) : (s.jobLet k).errorShown .cdc = s.errorShown .cdc :=
  (s.jobLet_only k).errorShown_clear (by simp +decide [codecFields]) (by simp +decide [codecFields])

theorem State.jobTold_errorShown (s : State) (k : Nat) (h0 : nn ≠ 0) (hn : nn < 256) :
    (s.jobTold k nn).errorShown .cdc = s.errorAfter .cdc nn := by
  unfold State.jobTold State.when
  rw [if_pos (by simpa using h0), State.err_errorShown _ _ _ _ hn]
  exact State.errorAfter_congr (s.jobLet_errorShown k) _

/-! ### The end -/

/-- The result code of an error, or of none. -/
def jobCode (nn : Nat) : Nat := if nn = 0 then 0 else 0x1200 + nn

theorem jobCode_lt (hn : nn < 256) : jobCode nn < 2 ^ 16 := by
  unfold jobCode
  split <;> omega

/-- The registers of a job that ends. -/
def State.jobOver (s : State) (k nn len st : Nat) (noGain : Bool) : State :=
  (s.jobTold k nn).jobSlot k (jobCode nn) len (jobRaw (s.slotDesc k)) st noGain (nn == 0 && !noGain)

/-- The slot holds no job. -/
def State.slotEmpty (s : State) (k : Nat) : State := s.modCodec fun c => { c with jobs := c.jobs.setIfInBounds k none }

/-- The ADMIN_DONE of a host job. -/
def State.jobCqe (s : State) (k nn len : Nat) (noGain : Bool) : Cqe :=
  adminCqe (jobCode nn) (k + 2 ^ 32 * jobTag (s.slotDesc k)) len (2 * noGain.toNat + 16 * (jobLevel (s.slotDesc k) % 16))

theorem State.jobEnd_host (s : State) (h : k < 12) :
    s.jobEnd k nn len noGain = ((s.jobOver k nn len jsFree noGain).slotEmpty k).pushCqe (s.jobCqe k nn len noGain) := by
  unfold State.jobEnd
  dsimp only
  rw [if_pos h]
  rfl

theorem State.jobEnd_firm (s : State) (h : 12 ≤ k) :
    s.jobEnd k nn len noGain = ((s.jobOver k nn len jsDone noGain).slotEmpty k).raise .cdc 10 := by
  unfold State.jobEnd
  dsimp only
  rw [if_neg (Nat.not_lt.2 h)]
  rfl

theorem State.jobOver_only (s : State) (k nn len st : Nat) (noGain : Bool) :
    OnlyFields (slotFields k ++ codecFields ++ jobErrs nn) (s.jobLess k) (s.jobOver k nn len st noGain) :=
  ((s.jobTold_only k nn).append (State.jobSlot_only _ k (jobCode nn) len (jobRaw (s.slotDesc k)) st noGain
    (nn == 0 && !noGain))).mono fun f hf => by simp only [List.mem_append] at hf ⊢; tauto

theorem State.jobOver_shows (s : State) (hk : k < 16) (nn len st : Nat) (noGain : Bool) :
    SlotShows (s.jobOver k nn len st noGain) k (jobCode nn) len (jobRaw (s.slotDesc k)) st noGain (nn == 0 && !noGain) :=
  State.jobSlot_shows _ hk _ _ _ _ _ _

theorem State.jobOver_errorShown (s : State) (hk : k < 16) (h0 : nn ≠ 0) (hn : nn < 256) (len st : Nat) (noGain : Bool) :
    (s.jobOver k nn len st noGain).errorShown .cdc = s.errorAfter .cdc nn :=
  ((State.jobSlot_only (s.jobTold k nn) k (jobCode nn) len (jobRaw (s.slotDesc k)) st noGain (nn == 0 && !noGain)).errorShown_clear
    (slotFields_clear hk .cdc rfl) (slotFields_clear hk .cdc rfl)).trans (s.jobTold_errorShown k h0 hn)

end Sys2Proof.Machine
end

section
/-! PROOFS. A job has ended (R150): the host's, and the firmware's. -/

namespace Sys2Proof.Machine

open Reg

variable {fs : List FieldAt} {s t v w : State} {k nn len : Nat} {noGain : Bool}

/-- What stands in the registers of a slot whose job has ended stands for every state with these fields. -/
theorem SlotShows.congr {code raw st : Nat} {done : Bool} (h : SlotShows v k code len raw st noGain done)
    (hr : ∀ r, Row.inSlot r = true → t.rd .cdc r k = v.rd .cdc r k) : SlotShows t k code len raw st noGain done := by
  obtain ⟨hresult, hgain, henc, hlengths, hstate⟩ := h
  refine ⟨(hr _ rfl).trans hresult, ?_, (hr _ rfl).trans henc, fun hd => ?_, (hr _ rfl).trans hstate⟩
  · unfold State.on
    rw [hr _ rfl]
    exact hgain
  · rw [hr _ rfl, hr _ rfl]
    exact hlengths hd

/-- The end of a job as its slot shows it. -/
theorem JobEnded.of_shows {st : Nat} (hn : nn < 256) (h : SlotShows t k (jobCode nn) len (jobRaw (s.slotDesc k)) st noGain
    (nn == 0 && !noGain)) (herr : nn ≠ 0 → t.errorShown .cdc = s.errorAfter .cdc nn)
    (hhost : k < 12 → t.slotState k = jsFree ∧ t.intake.cq = s.intake.cq ++ [s.jobCqe k nn len noGain])
    (hfirm : 12 ≤ k → t.slotState k = jsDone ∧ t.event .cdc 10 = true ∧ t.intake.cq = s.intake.cq)
    (hcodec : t.codec = s.codec.without k) : JobEnded s k nn len noGain t where
  result := h.result.trans (Nat.mod_eq_of_lt (jobCode_lt hn))
  gain := h.gain
  enc := h.enc
  done := fun ⟨h0, hg⟩ => h.lengths (by rw [h0, hg]; rfl)
  error := herr
  host := fun hk => ⟨(hhost hk).1, (hhost hk).2.trans (by rw [State.jobCqe, Nat.mul_comm (2 ^ 32)]; rfl)⟩
  firm := hfirm
  codec := hcodec

/-- What the end of a job leaves: its registers, the codec without it, and the read of its input over. -/
def State.jobGone (s : State) (k : Nat) (t : State) : State :=
  { s with codec := t.codec, intake := { s.intake with cq := t.intake.cq, reads := s.readsLess (.job k) } }

theorem State.jobEnd_ended (s : State) (hk : k < 16) (hn : nn < 256) (len : Nat) (noGain : Bool) :
    JobEnded s k nn len noGain (s.jobEnd k nn len noGain) ∧
    OnlyFields (slotFields k ++ codecFields ++ jobErrs nn) (s.jobGone k (s.jobEnd k nn len noGain))
      (s.jobEnd k nn len noGain) := by
  rcases Nat.lt_or_ge k 12 with hlt | hge
  · have honly := ((s.jobOver_only k nn len jsFree noGain).modCodec fun c => { c with jobs := c.jobs.setIfInBounds k none }).pushCqe
      (s.jobCqe k nn len noGain)
    have hshows := s.jobOver_shows hk nn len jsFree noGain
    have hold : nn ≠ 0 → (s.jobOver k nn len jsFree noGain).errorShown .cdc = s.errorAfter .cdc nn :=
      fun h0 => s.jobOver_errorShown hk h0 hn len jsFree noGain
    rw [State.jobEnd_host s hlt]
    unfold State.slotEmpty
    generalize s.jobOver k nn len jsFree noGain = v at honly hshows hold ⊢
    refine ⟨JobEnded.of_shows hn (hshows.congr fun _ _ => rfl) hold (fun _ => ⟨hshows.state, ?_⟩) (fun h => ?_) ?_, ?_⟩
    · rw [honly.intake_same]; rfl
    · omega
    · rw [honly.codec_same]; rfl
    · unfold State.jobGone
      rw [honly.codec_same, honly.intake_same]
      exact honly
  · have honly := ((s.jobOver_only k nn len jsDone noGain).modCodec fun c => { c with jobs := c.jobs.setIfInBounds k none })
    have hshows := s.jobOver_shows hk nn len jsDone noGain
    have hold : nn ≠ 0 → (s.jobOver k nn len jsDone noGain).errorShown .cdc = s.errorAfter .cdc nn :=
      fun h0 => s.jobOver_errorShown hk h0 hn len jsDone noGain
    rw [State.jobEnd_firm s hge]
    unfold State.slotEmpty
    generalize s.jobOver k nn len jsDone noGain = v at honly hshows hold ⊢
    have hraised : OnlyFields (slotFields k ++ codecFields ++ jobErrs nn) _
        ((v.modCodec fun c => { c with jobs := c.jobs.setIfInBounds k none }).raise .cdc 10) :=
      OnlyFields.raise .cdc 10 honly (by simp [codecFields])
    have hslot (r : Row) (hr : Row.inSlot r = true) : ((v.modCodec fun c => { c with
        jobs := c.jobs.setIfInBounds k none }).raise .cdc 10).rd .cdc r k = v.rd .cdc r k :=
      State.raise_rd_apart _ _ _ _ (Row.apart_comm (Row.apart_of_preSlot hk hr rfl))
    refine ⟨JobEnded.of_shows hn (hshows.congr hslot) (fun h0 => ?_) (fun h => ?_) (fun _ => ⟨?_, ?_, ?_⟩) ?_, ?_⟩
    · rw [State.raise_errorShown]
      exact hold h0
    · omega
    · exact (hslot _ rfl).trans hshows.state
    · exact State.raise_event_same _ _ _ (by decide)
    · rw [hraised.intake_same]; rfl
    · rw [hraised.codec_same]; rfl
    · unfold State.jobGone
      rw [hraised.codec_same, hraised.intake_same]
      exact hraised

/-- The end of a job is told of the state before the job's last steps, if these left its codec, its completions and its error. -/
theorem JobEnded.of_same (h : JobEnded v k nn len noGain t) (hc : v.codec = s.codec) (hq : v.intake.cq = s.intake.cq)
    (he : v.errorShown .cdc = s.errorShown .cdc) : JobEnded s k nn len noGain t := by
  have hd : v.slotDesc k = s.slotDesc k := by
    unfold State.slotDesc
    rw [hc]
  obtain ⟨hresult, hgain, henc, hdone, herror, hhost, hfirm, hcodec⟩ := h
  exact ⟨hresult, hgain, henc, hd ▸ hdone, fun h0 => (herror h0).trans (State.errorAfter_congr he _), by rw [← hd, ← hq]; exact hhost,
    by rw [← hq]; exact hfirm, by rw [← hc]; exact hcodec⟩

end Sys2Proof.Machine
end

section
/-! PROOFS. The encode of a job ends (R142, R144, R147, R150). -/

namespace Sys2Proof.Machine

open Reg

variable {s t v : State} {e : Fin 12} {k : Fin 16} {input : List Byte} {chain : List (BitVec 128)} {enc : Encoding}
  {laid : List (Nat × List Nat)}

/-! ### The encoder of a fed job -/

theorem exec_encodeEnd_job (h : s.jobFed e k = true) (res : EncodeResult) :
    exec (.encodeEnd e res) s = .next (s.jobEncodeEnd e k.val res) := by
  simp only [State.jobFed, Bool.and_eq_true, beq_iff_eq] at h
  obtain ⟨⟨⟨hup, hrun⟩, hsent⟩, hserves⟩ := h
  change execEncodeEnd e res s = _
  unfold execEncodeEnd
  rw [if_neg (by rw [hup]; decide)]
  cases hu : s.codec.encoders[e] with
  | free => rw [hu] at hserves; cases hserves
  | intake key p => rw [hu] at hserves; cases hserves
  | job j p =>
    rw [hu] at hserves
    obtain rfl : j = k.val := by simpa using hserves
    rfl

theorem State.jobFed_running (h : s.jobFed e k = true) : s.slotState k.val = jsRunning ∧ s.dmaSent (.job k.val) = true := by
  simp only [State.jobFed, Bool.and_eq_true, beq_iff_eq] at h
  exact ⟨h.1.1.2, h.1.2⟩

theorem hostJob_parts {d : Nat} (h : hostJob d = true) : jobSrcSpace d = 0 ∧ jobChainSpool d = false := by
  simpa [hostJob] using h

/-- A job with input and chain in host memory takes what it kept, or what DMA brings. -/
theorem State.jobInput_host (h : hostJob (s.job k.val).desc = true) (input : List Byte) :
    s.jobInput k.val input = (some (s.jobTakes k.val input), s) := by
  obtain ⟨hsrc, -⟩ := hostJob_parts h
  unfold State.jobInput State.jobTakes
  dsimp only
  by_cases hkept : (s.job k.val).input.isEmpty = true
  · rw [if_neg (by simp [hkept]), if_neg (by rw [hsrc]; decide), if_neg (by rw [hsrc]; decide), if_pos hkept]
  · rw [if_pos (by simp [hkept]), if_neg hkept]

theorem State.jobEncodeEnd_host (hf : s.jobFed e k = true) (hh : hostJob (s.job k.val).desc = true)
    (hl : (s.jobTakes k.val input).length = jobRaw (s.job k.val).desc) :
    s.jobEncodeEnd e k.val (.ended input chain) = s.jobFinish e k.val (s.jobTakes k.val input) chain := by
  obtain ⟨hrun, hsent⟩ := State.jobFed_running hf
  obtain ⟨hsrc, hchain⟩ := hostJob_parts hh
  unfold State.jobEncodeEnd
  rw [if_neg (by rw [hrun]; decide)]
  dsimp only
  rw [if_neg (by simp [jobInSpool, hsrc, hchain]), if_neg (by rw [hsent]; decide), State.jobInput_host hh]
  exact if_pos hl

/-! ### The output in host memory -/

theorem State.each_emit (s : State) (l : List (Nat × List Nat)) :
    (s.each l fun t w => t.emit (.write w.1 w.2)) = { s with out := s.out ++ l.map fun w => .write w.1 w.2 } := by
  induction l generalizing s with
  | nil => simp [State.each]
  | cons w l ih =>
    rw [State.each_cons, ih]
    simp [State.emit]

theorem State.jobWrite_host (h : hostJob (s.job k.val).desc = true) (laid : List (Nat × List Nat)) :
    s.jobWrite k.val laid = { s with out := s.jobSends k.val laid } := by
  obtain ⟨-, hchain⟩ := hostJob_parts h
  unfold State.jobWrite
  simp only [hchain, Bool.false_eq_true, if_false]
  exact s.each_emit _

theorem State.jobProgress_only (s : State) (k : Nat) (enc : Encoding) (n : Nat) :
    OnlyFields (slotFields k) s (s.jobProgress k enc n) :=
  OnlyFields.wr _ _ _ _ (OnlyFields.wr _ _ _ _ (OnlyFields.refl _ s) (by simp [slotFields])) (by simp [slotFields])

theorem OnlyFields.jobGone {fs : List FieldAt} (h : OnlyFields fs s v) (k : Nat) (t : State) :
    OnlyFields fs (s.jobGone k t) (v.jobGone k t) := ⟨h.fields, by unfold State.jobGone State.readsLess; rw [h.rest]⟩

theorem FieldAt.within.append {ps : List Page} {fs gs : List FieldAt} (hf : FieldAt.within ps fs) (hg : FieldAt.within ps gs) :
    FieldAt.within ps (fs ++ gs) := fun f hm => (List.mem_append.1 hm).elim (hf f) (hg f)

theorem slotFields_within (k : Fin 16) : FieldAt.within [.cdc, .den] (slotFields k.val) := by
  intro f hf
  obtain ⟨hin, hcopy⟩ := slotFields_inSlot hf
  refine ⟨?_, ?_⟩
  · simp only [slotFields, List.mem_cons, List.not_mem_nil, or_false] at hf
    rcases hf with rfl | rfl | rfl | rfl | rfl | rfl | rfl | rfl <;> exact List.mem_cons_self
  · have hk := k.isLt
    simp only [Row.inSlot, Bool.and_eq_true, beq_iff_eq, decide_eq_true_eq] at hin
    obtain ⟨hstride, hoff⟩ := hin
    rw [hcopy]
    simp only [Row.inPage, Row.place, hstride, Nat.ble_eq]
    omega

/-! ### The ends -/

/-- A job whose encode meets its chain with this layout. -/
structure Lays (s : State) (e : Fin 12) (k : Fin 16) (input : List Byte) (chain : List (BitVec 128)) (enc : Encoding)
    (laid : List (Nat × List Nat)) (fin : LayEnd) : Prop where
  fed : s.jobFed e k = true
  host : hostJob (s.job k.val).desc = true
  whole : (s.jobTakes k.val input).length = jobRaw (s.job k.val).desc
  encoding : enc = s.jobEncoding e k.val (s.jobTakes k.val input)
  lay : s.jobLay k.val chain enc.out = (laid, fin)

theorem Lays.exec_done (h : Lays s e k input chain enc laid .done) (hg : enc.noGain = false) :
    exec (.encodeEnd e (.ended input chain)) s =
      .next (State.jobEnd { s with out := s.jobSends k.val laid } k.val 0 enc.stream.length false) := by
  obtain ⟨hfed, hhost, hwhole, rfl, hlay⟩ := h
  rw [exec_encodeEnd_job hfed, State.jobEncodeEnd_host hfed hhost hwhole, ← State.jobWrite_host hhost]
  unfold State.jobFinish
  dsimp only
  rw [hlay]
  dsimp only
  rw [if_neg (by rw [hg]; decide)]

theorem Lays.exec_noGain (h : Lays s e k input chain enc laid .done) (hg : enc.noGain = true) :
    exec (.encodeEnd e (.ended input chain)) s =
      .next (((s.bump .cdc CDC.ENC_NOGAIN).jobProgress k.val enc (laidLen laid)).jobEnd k.val 0 0 true) := by
  obtain ⟨hfed, hhost, hwhole, rfl, hlay⟩ := h
  rw [exec_encodeEnd_job hfed, State.jobEncodeEnd_host hfed hhost hwhole]
  unfold State.jobFinish
  dsimp only
  rw [hlay]
  dsimp only
  rw [if_pos hg]

theorem Lays.exec_bad (h : Lays s e k input chain enc laid .bad) :
    exec (.encodeEnd e (.ended input chain)) s = .next ((State.jobProgress { s with out := s.jobSends k.val laid } k.val enc
      (laidLen laid)).jobEnd k.val 0x26 0 false) := by
  obtain ⟨hfed, hhost, hwhole, rfl, hlay⟩ := h
  rw [exec_encodeEnd_job hfed, State.jobEncodeEnd_host hfed hhost hwhole, ← State.jobWrite_host hhost]
  unfold State.jobFinish
  dsimp only
  rw [hlay]

theorem Lays.done (h : Lays s e k input chain enc laid .done) (hg : enc.noGain = false) :
    ∃ t, exec (.encodeEnd e (.ended input chain)) s = .next t ∧ JobEnded s k.val 0 enc.stream.length false t ∧
      OnlyFields (slotFields k.val ++ codecFields) (State.jobGone { s with out := s.jobSends k.val laid } k.val t) t := by
  obtain ⟨hended, honly⟩ := State.jobEnd_ended (nn := 0) { s with out := s.jobSends k.val laid } k.isLt (by decide)
    enc.stream.length false
  exact ⟨_, h.exec_done hg, hended.of_same rfl rfl rfl, honly.mono fun f hf => by simpa [jobErrs] using hf⟩

theorem Lays.noGain (h : Lays s e k input chain enc laid .done) (hg : enc.noGain = true) :
    ∃ t, exec (.encodeEnd e (.ended input chain)) s = .next t ∧ JobEnded s k.val 0 0 true t ∧
      t.rd .cdc CDC.ENC_NOGAIN = min (s.rd .cdc CDC.ENC_NOGAIN + 1) (2 ^ 32 - 1) ∧
      OnlyFields ((.cdc, CDC.ENC_NOGAIN, 0) :: slotFields k.val ++ codecFields) (s.jobGone k.val t) t := by
  have hslot := State.jobProgress_only (s.bump .cdc CDC.ENC_NOGAIN) k.val enc (laidLen laid)
  have hcount := hslot.fields.rd_clear (slotFields_clear k.isLt .cdc (r := CDC.ENC_NOGAIN) rfl)
  have hshown := hslot.errorShown_clear (slotFields_clear k.isLt .cdc rfl) (slotFields_clear k.isLt .cdc rfl)
  have hall := (OnlyFields.bump .cdc CDC.ENC_NOGAIN 1 0 (OnlyFields.refl [(.cdc, CDC.ENC_NOGAIN, 0)] s) (by simp)).append hslot
  obtain ⟨hended, honly⟩ := State.jobEnd_ended (nn := 0) ((s.bump .cdc CDC.ENC_NOGAIN).jobProgress k.val enc (laidLen laid)) k.isLt
    (by decide) 0 true
  refine ⟨_, h.exec_noGain hg, hended.of_same hall.codec_same (by rw [hall.intake_same])
    (hshown.trans (State.bump_errorShown_apart _ _ _ _ rfl)), ?_, ?_⟩
  · rw [honly.fields.rd_clear]
    · exact hcount.trans (State.bump_rd_same _ _ _ _ _)
    · exact (FieldAt.clear_append _ _ _ _ _).2 ⟨(FieldAt.clear_append _ _ _ _ _).2 ⟨slotFields_clear k.isLt .cdc rfl,
        by simp +decide [codecFields]⟩, by simp [jobErrs]⟩
  · exact ((hall.jobGone k.val _).append honly).mono fun f hf => by
      simp only [jobErrs, if_true, List.mem_append, List.mem_cons, List.not_mem_nil, or_false] at hf ⊢; tauto

theorem Lays.bad (h : Lays s e k input chain enc laid .bad) :
    ∃ t, exec (.encodeEnd e (.ended input chain)) s = .next t ∧ JobEnded s k.val 0x26 0 false t ∧
      OnlyFields (slotFields k.val ++ codecFields ++ errorFields .cdc)
        (State.jobGone { s with out := s.jobSends k.val laid } k.val t) t := by
  have hslot := State.jobProgress_only { s with out := s.jobSends k.val laid } k.val enc (laidLen laid)
  have hshown := hslot.errorShown_clear (slotFields_clear k.isLt .cdc rfl) (slotFields_clear k.isLt .cdc rfl)
  obtain ⟨hended, honly⟩ := State.jobEnd_ended (nn := 0x26) (State.jobProgress { s with out := s.jobSends k.val laid } k.val enc
    (laidLen laid)) k.isLt (by decide) 0 false
  exact ⟨_, h.exec_bad, hended.of_same hslot.codec_same (by rw [hslot.intake_same]) hshown,
    ((hslot.jobGone k.val _).append honly).mono fun f hf => by
      simp only [jobErrs, if_neg (show ¬(0x26 = 0) by decide), List.mem_append] at hf ⊢; tauto⟩

theorem encodeEnd_chainDma (hf : s.jobFed e k = true) (hh : hostJob (s.job k.val).desc = true) :
    ∃ t, exec (.encodeEnd e .chainDma) s = .next t ∧ JobEnded s k.val 0x27 0 false t ∧
      OnlyFields (slotFields k.val ++ codecFields ++ errorFields .cdc) (s.jobGone k.val t) t := by
  obtain ⟨hrun, -⟩ := State.jobFed_running hf
  obtain ⟨-, hchain⟩ := hostJob_parts hh
  obtain ⟨hended, honly⟩ := s.jobEnd_ended (nn := 0x27) k.isLt (by decide) 0 false
  refine ⟨_, (exec_encodeEnd_job hf _).trans (congrArg _ ?_), hended, honly⟩
  unfold State.jobEncodeEnd
  rw [if_neg (by rw [hrun]; decide)]
  exact if_neg (by rw [hchain]; decide)

theorem encodeEnd_memUe_job (hf : s.jobFed e k = true) (w : SramUe) :
    ∃ t, exec (.encodeEnd e (.memUe w)) s = .next t ∧ JobEnded s k.val 0x2A 0 false t ∧ t.ddr = s.ddr ∧ t.out = s.out ∧
      OtherPages [.cdc, .den] s t ∧ OtherLanes [] s t := by
  obtain ⟨hrun, -⟩ := State.jobFed_running hf
  have hden : OnlyFields denFields _ _ := s.denSramUe_den 0x12 w.array.toNat w.word.toNat 0 0xFF
  have hexec : s.jobEncodeEnd e k.val (.memUe w) =
      (s.denSramUe 0x12 w.array.toNat w.word.toNat 0 0xFF).jobEnd k.val 0x2A 0 false := by
    unfold State.jobEncodeEnd
    rw [if_neg (by rw [hrun]; decide)]
  have hshown := hden.errorShown_clear (p := .cdc) (by simp +decide [denFields]) (by simp +decide [denFields])
  have hrun' := (exec_encodeEnd_job hf (.memUe w)).trans (congrArg _ hexec)
  generalize s.denSramUe 0x12 w.array.toNat w.word.toNat 0 0xFF = v at hden hshown hrun'
  obtain ⟨hended, honly⟩ := v.jobEnd_ended (nn := 0x2A) k.isLt (by decide) 0 false
  have hall := (hden.jobGone k.val _).append honly
  refine ⟨_, hrun', hended.of_same hden.codec_same (by rw [hden.intake_same]) hshown, hall.ddr_same, hall.out_same,
    OtherPages.of_untouched hall.fields ?_, fun l _ => ?_⟩
  · exact (FieldAt.within.append (by simp +decide [denFields]) (((slotFields_within k).append (by simp +decide [codecFields])).append
      (by simp +decide [jobErrs, errorFields])))
  · rw [hall.rest]
    rfl

end Sys2Proof.Machine
end

section
/-! PROOFS. A free encoder goes to intake or to a job, its preset in its window (R138, R142, R149). -/

namespace Sys2Proof.Machine

open Reg

variable {fs : List FieldAt} {s t v : State} {e : Fin 12} {u : Tile} {p : Option Nat} {id k : Nat}

/-! ### An encoder reads a preset -/

/-- The spool's last request is now. -/
def State.requested (s : State) : State := { s with ddr := { s.ddr with lastReq := s.dclk } }

theorem State.portRead_served (ha : s.ddrState = ddrActive) {a n : Nat} (hin : a + n ≤ s.spoolSize) (hp : s.poisonIn a n = none)
    (port : Nat) : s.portRead port a n = (some (Memory.readAll s.ddr.mem a n), s.requested) := by
  unfold State.portRead
  rw [State.portWake_active ha]
  refine (if_neg (Nat.not_lt.2 hin)).trans ?_
  rw [show State.poisonIn { s with ddr := { s.ddr with lastReq := s.dclk } } a n = none from hp]
  rfl

/-- A preset that is loaded and that the spool can be read for. -/
structure Readable (s : State) (id : Nat) : Prop where
  valid : s.presetValid id = true
  active : s.ddrState = ddrActive
  lenIn : s.presetLenAt id + 4 ≤ s.spoolSize
  bytesIn : s.presetAt id + s.presetLen id ≤ s.spoolSize
  lenWhole : s.poisonIn (s.presetLenAt id) 4 = none
  bytesWhole : s.poisonIn (s.presetAt id) (s.presetLen id) = none

theorem State.presetReads_readable (h : s.presetReads id = true) : Readable s id := by
  simp only [State.presetReads, Bool.and_eq_true, beq_iff_eq, decide_eq_true_eq, Option.isNone_iff_eq_none] at h
  obtain ⟨⟨⟨⟨⟨hvalid, hactive⟩, hlen⟩, hbytes⟩, hpl⟩, hpb⟩ := h
  exact ⟨hvalid, hactive, hlen, hbytes, hpl, hpb⟩

theorem Readable.presetForEnc (h : Readable s id) : s.presetForEnc id = (some (s.presetBytes id), s.requested) := by
  obtain ⟨hvalid, hactive, hlen, hbytes, hpl, hpb⟩ := h
  have hagain : s.requested.portRead 2 (s.requested.presetAt id) (s.requested.presetLen id) =
      (some (Memory.readAll s.ddr.mem (s.presetAt id) (s.presetLen id)), s.requested) :=
    State.portRead_served (s := s.requested) hactive hbytes hpb 2
  unfold State.presetForEnc
  rw [State.portRead_served hactive hlen hpl]
  dsimp only
  rw [hagain]
  rfl

theorem Readable.portsHold (h : Readable s id) : s.portsHold = false := by
  unfold State.portsHold
  rw [h.active]
  decide

/-- The state once a preset has been read, if one is named. -/
def State.presetGot (s : State) (p : Option Nat) : State := { s with ddr := s.ddrRead p }

/-! ### Whose turn it is -/

/-- A free encoder of a codec that takes work. -/
structure EncoderFree (s : State) (e : Fin 12) : Prop where
  up : s.devUp = true
  on : s.codecOn = true
  free : s.codec.encoders[e] = .free

theorem EncoderFree.exec_tile (h : EncoderFree s e) (hu : s.tileForEncoder = some u) (hm : s.encIntake < s.rd .int INT.CTRL_ENC_MAX) :
    exec (.encoderAssign e) s = .next (s.tileStart e u) := by
  change execEncoderAssign e s = _
  unfold execEncoderAssign
  rw [if_pos (by rw [h.up, h.on, h.free]; decide), hu]
  exact if_pos hm

theorem EncoderFree.exec_job (h : EncoderFree s e) (hn : s.tileForEncoder = none ∨ s.rd .int INT.CTRL_ENC_MAX ≤ s.encIntake) :
    exec (.encoderAssign e) s = .next (s.jobAssign e) := by
  change execEncoderAssign e s = _
  unfold execEncoderAssign
  rw [if_pos (by rw [h.up, h.on, h.free]; decide)]
  cases hu : s.tileForEncoder with
  | none => rfl
  | some u =>
    refine if_neg (Nat.not_lt.2 (hn.resolve_left ?_))
    rw [hu]
    nofun

theorem State.jobAssign_firm (hm : s.encJobs 12 16 < s.rd .cdc CDC.CTRL_FW_ENC_MAX) (hk : s.oldestJob 12 16 = some k) :
    s.jobAssign e = s.jobStart e k := by
  unfold State.jobAssign
  rw [if_pos hm, hk]

theorem State.jobAssign_host (hn : s.oldestJob 12 16 = none ∨ s.rd .cdc CDC.CTRL_FW_ENC_MAX ≤ s.encJobs 12 16)
    (hm : s.encJobs 0 12 < s.rd .cdc CDC.CTRL_HOST_ENC_MAX) (hk : s.oldestJob 0 12 = some k) : s.jobAssign e = s.jobStart e k := by
  have hfirm : (if s.encJobs 12 16 < s.rd .cdc CDC.CTRL_FW_ENC_MAX then s.oldestJob 12 16 else none) = none := by
    rcases hn with hn | hn
    · rw [hn, ite_self]
    · rw [if_neg (Nat.not_lt.2 hn)]
  unfold State.jobAssign
  rw [hfirm, if_pos hm, hk]

theorem leastBy_mem {α : Type} {key : α → List Nat} {l : List α} {a : α} (h : leastBy key l = some a) : a ∈ l := by
  induction l generalizing a with
  | nil => cases h
  | cons b l ih =>
    unfold leastBy at h
    cases hl : leastBy key l with
    | none =>
      rw [hl] at h
      cases h
      exact List.mem_cons_self
    | some c =>
      rw [hl] at h
      dsimp only at h
      split at h
      · cases h
        exact List.mem_cons_of_mem _ (ih hl)
      · cases h
        exact List.mem_cons_self

theorem State.oldestJob_range {lo hi : Nat} (h : s.oldestJob lo hi = some k) : lo ≤ k ∧ k < hi := by
  have hmem := (List.mem_filter.1 (leastBy_mem h)).1
  rw [List.range_eq_range', List.drop_range', List.mem_range'] at hmem
  omega

end Sys2Proof.Machine
end

section
/-! PROOFS. Tiles and jobs on their encoders (R138, R142, R149). -/

namespace Sys2Proof.Machine

open Reg

variable {fs : List FieldAt} {s t v w : State} {e : Fin 12} {u : Tile} {p : Option Nat} {id k : Nat}

/-! ### A tile takes an encoder -/

/-- A preset that is named, if one is, can be read. -/
theorem Readable.of_all (h : p.all s.presetReads = true) (hp : p = some id) : Readable s id := by
  subst hp
  exact State.presetReads_readable h

/-- An encoder with its user and the window before the input. -/
def State.encoderTaken (s : State) (e : Fin 12) (x : EncUser) (dict : List Nat) : State :=
  s.modCodec fun c => { c with encoders := c.encoders.set e x, encDict := c.encDict.set e dict }

theorem State.setEncoder_only (s : State) (e : Fin 12) (x : EncUser) :
    OnlyFields codecFields (s.modCodec fun c => { c with encoders := c.encoders.set e x }) (s.setEncoder e x) :=
  State.settleCodec_only _

theorem State.setDict_only (s : State) (e : Fin 12) (x : EncUser) (dict : List Nat) :
    OnlyFields codecFields (s.encoderTaken e x dict) ((s.setEncoder e x).setDict e dict) :=
  (s.setEncoder_only e x).modCodec fun c => { c with encDict := c.encDict.set e dict }

theorem State.tileStart_takes (hp : p = if u.desc.presetEn then some u.desc.preset else none) (hr : p.all s.presetReads = true) :
    s.tileStart e u = ((s.presetGot p).setEncoder e (.intake u.key p)).setDict e (s.dictOf p) := by
  unfold State.tileStart
  by_cases hen : u.desc.presetEn = true
  · rw [if_pos hen] at hp
    have hread := Readable.of_all hr hp
    subst hp
    rw [if_neg (by rw [hen]; decide), if_neg (by rw [hread.valid]; decide), if_neg (by rw [hread.portsHold]; decide),
      hread.presetForEnc]
    rfl
  · rw [if_neg hen] at hp
    subst hp
    exact if_pos (by simpa using hen)

theorem State.tileStart_missing (hen : u.desc.presetEn = true) (hv : s.presetValid u.desc.preset = false) :
    s.tileStart e u = s.modInFlight u.key fun v => { v with enc := some .missing } := by
  unfold State.tileStart
  rw [if_neg (by rw [hen]; decide), if_pos (by rw [hv]; decide)]

/-! ### A job takes an encoder -/

theorem jobPreset_lt {d : Nat} (h : jobPreset d = some id) : id < 256 := by
  unfold jobPreset at h
  split at h
  · cases h
    exact Nat.mod_lt _ (by decide)
  · cases h

/-- A job that starts changes what has been sent and intake's reads, and nothing else. -/
theorem State.jobReads_eq (s : State) (k : Nat) : s.jobReads k =
    { s with out := (s.jobReads k).out, intake := (s.jobReads k).intake } := by
  unfold State.jobReads
  split
  · rw [State.dmaStart_eq]
    rfl
  · rfl

theorem OnlyFields.jobReads (h : OnlyFields fs s t) (hl : FieldAt.clear fs .pci PCI.LINK_UP 0)
    (hr : FieldAt.clear fs .pci PCI.RD_OUT 0) (k : Nat) : OnlyFields fs (s.jobReads k) (t.jobReads k) := by
  have hd : t.slotDesc k = s.slotDesc k := by
    unfold State.slotDesc
    rw [h.codec_same]
  unfold State.jobReads
  rw [hd]
  split
  · exact h.dmaStart hl hr _ _ _
  · exact h

/-- The fields of a slot whose job starts. -/
def runFields (k : Nat) : List FieldAt := [(.cdc, CDC.JS_STAT_STATE, k), (.cdc, CDC.JS_STAT_ENC, k)]

/-- The slot of a job that runs. -/
def State.slotRuns (v : State) (e : Fin 12) (k : Nat) : State :=
  (v.wr .cdc CDC.JS_STAT_STATE jsRunning k).wr .cdc CDC.JS_STAT_ENC e.val k

theorem State.slotRuns_only (v : State) (e : Fin 12) (k : Nat) : OnlyFields (runFields k) v (v.slotRuns e k) :=
  OnlyFields.wr _ _ _ _ (OnlyFields.wr _ _ _ _ (OnlyFields.refl _ v) (by simp [runFields])) (by simp [runFields])

theorem State.slotRuns_state (v : State) (e : Fin 12) (hk : k < 16) : (v.slotRuns e k).slotState k = jsRunning := by
  unfold State.slotState State.slotRuns
  rw [State.wr_rd_apart _ _ _ _ (Row.apart_of_slot hk rfl), State.wr_rd_same]
  rfl

theorem State.slotRuns_enc (v : State) (e : Fin 12) (k : Nat) : (v.slotRuns e k).rd .cdc CDC.JS_STAT_ENC k = e.val := by
  unfold State.slotRuns
  rw [State.wr_rd_same]
  exact Nat.mod_eq_of_lt (Nat.lt_trans e.isLt (by decide))

theorem State.jobReads_rd (s : State) (k : Nat) (q : Page) (r : Row) (i : Nat) : (s.jobReads k).rd q r i = s.rd q r i := by
  rw [State.jobReads_eq]
  rfl

/-- The job on its encoder and in its slot, its input not yet asked for. -/
def State.jobPlaced (v : State) (e : Fin 12) (k : Nat) (dict : List Nat) : State :=
  ((v.setEncoder e (.job k (jobPreset (v.slotDesc k)))).setDict e dict).slotRuns e k

theorem State.jobPlaced_only (v : State) (e : Fin 12) (k : Nat) (dict : List Nat) : OnlyFields (codecFields ++ runFields k)
    (v.encoderTaken e (.job k (jobPreset (v.slotDesc k))) dict) (v.jobPlaced e k dict) :=
  (v.setDict_only e _ dict).append (State.slotRuns_only _ e k)

theorem State.jobPlaced_slotDesc (v : State) (e : Fin 12) (k : Nat) (dict : List Nat) :
    (v.jobPlaced e k dict).slotDesc k = v.slotDesc k := by
  unfold State.slotDesc
  rw [(v.jobPlaced_only e k dict).codec_same]
  rfl

theorem State.jobRuns_eq (v : State) (e : Fin 12) (k : Nat) (dict : List Nat) :
    v.jobRuns e k dict = (v.jobPlaced e k dict).jobReads k := by
  unfold State.jobReads
  rw [State.jobPlaced_slotDesc]
  unfold State.jobRuns State.when
  simp only [beq_iff_eq]
  rfl

theorem runFields_clear (hk : k < 16) (p : Page) {r : Row} (hr : Row.preSlot r = true) : FieldAt.clear (runFields k) p r 0 := by
  intro f hf
  refine slotFields_clear hk p hr f ?_
  simp only [runFields, slotFields, List.mem_cons, List.not_mem_nil, or_false] at hf ⊢
  tauto

theorem State.jobReads_taken (s : State) (p : Option Nat) (e : Fin 12) (x : EncUser) (dict : List Nat) (k : Nat) :
    ((s.presetGot p).encoderTaken e x dict).jobReads k = { s with
      out := (s.jobReads k).out
      intake := (s.jobReads k).intake
      ddr := s.ddrRead p
      codec := { s.codec with encoders := s.codec.encoders.set e x, encDict := s.codec.encDict.set e dict } } := by
  have hd : ((s.presetGot p).encoderTaken e x dict).slotDesc k = s.slotDesc k := rfl
  unfold State.jobReads
  rw [hd]
  split
  · rw [State.dmaStart_eq, State.dmaStart_eq]
    rfl
  · rfl

/-- A job runs on its encoder, behind the bytes of its preset. -/
structure JobRuns (s : State) (e : Fin 12) (k : Nat) (p : Option Nat) (t : State) : Prop where
  state : t.slotState k = jsRunning
  enc : t.rd .cdc CDC.JS_STAT_ENC k = e.val
  overdue : t.on .cdc HDR.PG_STAT_OVERDUE = s.on .cdc HDR.PG_STAT_OVERDUE
  only : OnlyFields (codecFields ++ runFields k) { s with
    out := (s.jobReads k).out
    intake := (s.jobReads k).intake
    ddr := s.ddrRead p
    codec := { s.codec with encoders := s.codec.encoders.set e (.job k p), encDict := s.codec.encDict.set e (s.dictOf p) } } t

theorem State.jobRuns_runs (s : State) (e : Fin 12) (hk : k < 16) (hp : p = jobPreset (s.slotDesc k)) :
    JobRuns s e k p ((s.presetGot p).jobRuns e k (s.dictOf p)) := by
  have hplaced := (s.presetGot p).jobPlaced_only e k (s.dictOf p)
  have hall := hplaced.jobReads (by
    refine (FieldAt.clear_append _ _ _ _ _).2 ⟨by simp +decide [codecFields], runFields_clear hk _ rfl⟩) (by
    refine (FieldAt.clear_append _ _ _ _ _).2 ⟨by simp +decide [codecFields], runFields_clear hk _ rfl⟩) k
  have hdesc : jobPreset ((s.presetGot p).slotDesc k) = p := hp.symm
  rw [hdesc, State.jobReads_taken] at hall
  rw [State.jobRuns_eq]
  refine ⟨?_, ?_, ?_, ?_⟩
  · exact (State.jobReads_rd _ _ _ _ _).trans (State.slotRuns_state _ e hk)
  · exact (State.jobReads_rd _ _ _ _ _).trans (State.slotRuns_enc _ e k)
  · exact hall.on_clear ((FieldAt.clear_append _ _ _ _ _).2 ⟨by simp +decide [codecFields], runFields_clear hk _ rfl⟩)
  · exact hall

end Sys2Proof.Machine
end

section
/-! PROOFS. Jobs start, or end for want of their preset (R138, R149, R150). -/

namespace Sys2Proof.Machine

open Reg

variable {fs : List FieldAt} {s t v w : State} {e : Fin 12} {u : Tile} {p : Option Nat} {id k : Nat}

/-! ### OVERDUE falls as a firmware job starts -/

/-- A firmware job that starts is no longer overdue. -/
def State.onTime (s : State) : State := s.wr .cdc HDR.PG_STAT_OVERDUE 0

theorem State.onTime_only (s : State) : OnlyFields [(.cdc, HDR.PG_STAT_OVERDUE, 0)] s s.onTime :=
  OnlyFields.wr _ _ _ _ (OnlyFields.refl _ s) (by simp)

theorem State.onTime_overdue (s : State) : s.onTime.on .cdc HDR.PG_STAT_OVERDUE = false := by
  unfold State.onTime State.on
  rw [State.wr_rd_same]
  rfl

/-- The state in which a job of slot k starts. -/
def State.starting (s : State) (k : Nat) : State := s.when (decide (12 ≤ k)) fun t => t.setOverdue .cdc false

theorem State.starting_firm (s : State) (h : 12 ≤ k) : s.starting k = s.onTime := if_pos (decide_eq_true h)

theorem State.starting_host (s : State) (h : k < 12) : s.starting k = s := if_neg (by simpa using h)

theorem State.onTime_presetValid (s : State) (hid : id < 256) : s.onTime.presetValid id = s.presetValid id := by
  refine State.presetValid_congr (fun i hi => s.onTime_only.fields.rd_clear ?_) hid
  have hapart : ∀ i : Fin 8, Row.apart HDR.PG_STAT_OVERDUE 0 CDC.PRESET_VALID i.val = true := by decide
  simp [hapart ⟨i, hi⟩]

theorem State.onTime_presetAt (s : State) (id : Nat) : s.onTime.presetAt id = s.presetAt id := by
  unfold State.presetAt
  rw [s.onTime_only.fields.rd_clear (by simp +decide)]

theorem State.onTime_presetLenAt (s : State) (id : Nat) : s.onTime.presetLenAt id = s.presetLenAt id := by
  unfold State.presetLenAt
  rw [s.onTime_only.fields.rd_clear (by simp +decide)]

theorem State.onTime_presetLen (s : State) (id : Nat) : s.onTime.presetLen id = s.presetLen id := by
  unfold State.presetLen
  rw [State.onTime_presetLenAt]
  rfl

theorem State.onTime_dictOf (s : State) (p : Option Nat) : s.onTime.dictOf p = s.dictOf p := by
  cases p with
  | none => rfl
  | some id =>
    change s.onTime.presetBytes id = s.presetBytes id
    unfold State.presetBytes
    rw [State.onTime_presetAt, State.onTime_presetLen]
    rfl

theorem Readable.onTime (h : Readable s id) (hid : id < 256) : Readable s.onTime id := by
  obtain ⟨hvalid, hactive, hlen, hbytes, hpl, hpb⟩ := h
  have hsize : s.onTime.spoolSize = s.spoolSize := by
    unfold State.spoolSize
    rw [s.onTime_only.fields.rd_clear (by simp +decide)]
  constructor
  · rw [s.onTime_presetValid hid, hvalid]
  · exact (s.onTime_only.fields.rd_clear (by simp +decide)).trans hactive
  · rw [s.onTime_presetLenAt, hsize]
    exact hlen
  · rw [s.onTime_presetAt, s.onTime_presetLen, hsize]
    exact hbytes
  · rw [s.onTime_presetLenAt]
    exact hpl
  · rw [s.onTime_presetAt, s.onTime_presetLen]
    exact hpb

/-! ### A job starts -/

theorem State.jobStart_runs (hw : s.starting k = w) (hp : p = jobPreset (w.slotDesc k)) (hr : ∀ id, p = some id → Readable w id) :
    s.jobStart e k = (w.presetGot p).jobRuns e k (w.dictOf p) := by
  subst hw
  unfold State.jobStart
  dsimp only
  rw [← State.starting, ← hp]
  cases p with
  | none => rfl
  | some id =>
    have hread := hr id rfl
    dsimp only
    rw [if_neg (by rw [hread.valid]; decide), if_neg (by rw [hread.portsHold]; decide), hread.presetForEnc]
    rfl

theorem State.jobStart_host (h : k < 12) (hp : p = jobPreset (s.slotDesc k)) (hr : p.all s.presetReads = true) :
    JobRuns s e k p (s.jobStart e k) := by
  rw [State.jobStart_runs (s.starting_host h) hp fun _ => Readable.of_all hr]
  exact s.jobRuns_runs e (by omega) hp

theorem State.jobStart_firm (h : 12 ≤ k) (hk : k < 16) (hp : p = jobPreset (s.slotDesc k)) (hr : p.all s.presetReads = true) :
    JobRuns s.onTime e k p (s.jobStart e k) := by
  rw [State.jobStart_runs (s.starting_firm h) hp fun id hid => (Readable.of_all hr hid).onTime (jobPreset_lt (hp.symm.trans hid))]
  exact s.onTime.jobRuns_runs e hk hp

theorem State.jobStart_missing (h : k < 12) (hp : jobPreset (s.slotDesc k) = some id) (hv : s.presetValid id = false) :
    s.jobStart e k = s.jobEnd k 0x20 0 false := by
  unfold State.jobStart
  dsimp only
  rw [← State.starting, s.starting_host h, hp]
  exact if_pos (by rw [hv]; decide)

/-- The DMA of a job that starts does not depend on OVERDUE. -/
theorem State.onTime_jobReads (s : State) (k : Nat) :
    (s.onTime.jobReads k).out = (s.jobReads k).out ∧ (s.onTime.jobReads k).intake = (s.jobReads k).intake := by
  have honly := s.onTime_only.jobReads (by simp +decide) (by simp +decide) k
  exact ⟨honly.out_same, honly.intake_same⟩

theorem JobRuns.of_onTime (h : JobRuns s.onTime e k p t) :
    OnlyFields (codecFields ++ [(.cdc, CDC.JS_STAT_STATE, k), (.cdc, CDC.JS_STAT_ENC, k), (.cdc, HDR.PG_STAT_OVERDUE, 0)]) { s with
      out := (s.jobReads k).out
      intake := (s.jobReads k).intake
      ddr := s.ddrRead p
      codec := { s.codec with encoders := s.codec.encoders.set e (.job k p), encDict := s.codec.encDict.set e (s.dictOf p) } } t := by
  obtain ⟨hout, hintake⟩ := s.onTime_jobReads k
  have honly := h.only
  rw [hout, hintake, State.onTime_dictOf] at honly
  refine OnlyFields.trans (t := { s.onTime with
    out := (s.jobReads k).out
    intake := (s.jobReads k).intake
    ddr := s.ddrRead p
    codec := { s.codec with encoders := s.codec.encoders.set e (.job k p), encDict := s.codec.encDict.set e (s.dictOf p) } })
    ?_ (honly.mono fun f hf => ?_)
  · exact OnlyFields.wr .cdc HDR.PG_STAT_OVERDUE 0 0 (OnlyFields.refl _ _) (by simp)
  · simp only [runFields, List.mem_append, List.mem_cons, List.not_mem_nil, or_false] at hf ⊢
    tauto

end Sys2Proof.Machine
end

section
/-! PROOFS. The encode of a tile ends (R142, R144, R152), and the tokens of an encoding cover its input (R142). -/

namespace Sys2Proof.Machine

open Reg

variable {s t v : State} {e : Fin 12} {k : TileKey} {u : Tile} {p : Option Nat} {input : List Byte} {chain : List (BitVec 128)}

theorem OnlyFields.lanes_same {fs : List FieldAt} (h : OnlyFields fs s t) : t.lanes = s.lanes := by rw [h.rest]

/-! ### The encode of a tile -/

/-- An encoder that encodes a tile in flight. -/
structure Encodes (s : State) (e : Fin 12) (k : TileKey) (p : Option Nat) (u : Tile) : Prop where
  up : s.devUp = true
  user : s.codec.encoders[e] = .intake k p
  tile : s.tileInFlight k = some u

theorem Encodes.exec_eq (h : Encodes s e k p u) (res : EncodeResult) :
    exec (.encodeEnd e res) s = .next (s.tileEncodeEnd e u res) := by
  obtain ⟨hup, huser, htile⟩ := h
  change execEncodeEnd e res s = _
  unfold execEncodeEnd
  rw [if_neg (by rw [hup]; decide), huser]
  dsimp only
  rw [htile]

theorem Encodes.key (h : Encodes s e k p u) : u.key = k := by
  have hfound := List.find?_some h.tile
  simp only [Bool.and_eq_true, beq_iff_eq] at hfound
  exact hfound.1

/-- The tiles once the tile of a key in flight is encoded. -/
def encodedTiles (k : TileKey) (x : TileEnc) (l : List Tile) : List Tile :=
  l.map fun v => if v.key = k && v.phase != TilePhase.landed then { v with enc := some x } else v

theorem State.tileEncodeEnd_stream (hk : u.key = k) (hl : input.length = u.desc.rawLen) (hs : s.dmaSent (.dma (.tile k)) = true)
    (hg : (s.tileEncoding e u (input.map fun b => b.toNat)).noGain = false) :
    s.tileEncodeEnd e u (.ended input chain) = (s.setEncoder e .free).modIntake fun i => { i with
      tiles := encodedTiles k (.stream (input.map fun b => b.toNat) (s.tileEncoding e u (input.map fun b => b.toNat)).stream)
        i.tiles } := by
  subst hk
  refine (if_pos ⟨hl, hs⟩).trans ?_
  rw [hg]
  rfl

theorem State.tileEncodeEnd_noGain (hk : u.key = k) (hl : input.length = u.desc.rawLen) (hs : s.dmaSent (.dma (.tile k)) = true)
    (hg : (s.tileEncoding e u (input.map fun b => b.toNat)).noGain = true) :
    s.tileEncodeEnd e u (.ended input chain) = ((s.setEncoder e .free).bump .cdc CDC.ENC_NOGAIN).modIntake fun i => { i with
      tiles := encodedTiles k (.noGain (input.map fun b => b.toNat)) i.tiles } := by
  subst hk
  refine (if_pos ⟨hl, hs⟩).trans ?_
  rw [hg]
  rfl

theorem Encodes.memUe (h : Encodes s e k p u) (w : SramUe) : ∃ t, exec (.encodeEnd e (.memUe w)) s = .next t ∧
    t.errorShown .cdc = s.errorAfter .cdc 0x2A ∧ t.intake.tiles = s.intake.tiles.filter (fun v => v.key != u.key) ∧
    t.codec.encoders[e] = .free ∧ t.intake.cq = s.intake.cq ++ [tileCqe u.key u.desc.cookie 2 0x122A 0 0] ∧
    OtherPages [.cdc, .int, .lst, .den] s t ∧ OtherLanes [] s t := by
  have hden : OnlyFields denFields _ _ := (s.setEncoder e .free).denSramUe_den 0x12 w.array.toNat w.word.toNat 0 0xFF
  have hexec : exec (.encodeEnd e (.memUe w)) s =
      .next (((s.setEncoder e .free).denSramUe 0x12 w.array.toNat w.word.toNat 0 0xFF).tileMemUe u) := h.exec_eq _
  generalize (s.setEncoder e .free).denSramUe 0x12 w.array.toNat w.word.toNat 0 0xFF = v at hden hexec
  have hbase := ((s.setEncoder_only e .free).withDen v.den).append hden
  have hshown := hbase.errorShown_clear (p := .cdc) (by simp +decide [codecFields, denFields]) (by simp +decide [codecFields, denFields])
  have hall : OnlyFields _ _ (v.tileMemUe u) :=
    (hbase.append (v.errOpen_only .cdc 0x2A)).tileLost_rest u.key (tileCqe u.key u.desc.cookie 2 0x122A 0 0)
  have hlost : OnlyFields _ _ (v.tileMemUe u) :=
    (OnlyFields.refl [] (v.errOpen .cdc 0x2A)).tileLost_rest u.key (tileCqe u.key u.desc.cookie 2 0x122A 0 0)
  have htold : (v.tileMemUe u).errorShown .cdc = s.errorAfter .cdc 0x2A :=
    (hlost.errorShown_clear (by simp +decide [codecFields, tagFields, creditFields])
      (by simp +decide [codecFields, tagFields, creditFields])).trans ((State.errOpen_errorShown _ _ _ (by decide)).trans
        (State.errorAfter_congr hshown _))
  rw [State.tileForgot_pushCqe] at hall
  generalize v.tileMemUe u = t at hexec hall htold
  refine ⟨t, hexec, htold, ?_, ?_, ?_, OtherPages.of_untouched hall.fields ?_, fun l _ => ?_⟩
  · rw [hall.intake_same]; rfl
  · rw [hall.codec_same]
    simp [State.encodersLess, State.modCodec]
  · rw [hall.intake_same]; rfl
  · simp +decide [codecFields, tagFields, creditFields, denFields, errorFields]
  · rw [hall.lanes_same]; rfl

/-! ### The tokens of an encoding -/

theorem equalLen_le (l m : List Nat) : equalLen l m ≤ m.length := by
  induction l generalizing m with
  | nil => exact Nat.zero_le _
  | cons a l ih =>
    cases m with
    | nil => exact Nat.zero_le _
    | cons b m =>
      unfold equalLen
      split
      · exact Nat.succ_le_succ (ih m)
      · exact Nat.zero_le _

theorem matchLen_le (buf : List Nat) (j i : Nat) : matchLen buf j i ≤ buf.length - i := by
  have h := equalLen_le (buf.drop j) (buf.drop i)
  rwa [List.length_drop] at h

/-- A match that is not empty and does not go beyond the input. -/
def FitsHit (buf : List Nat) (i : Nat) (h : Hit) : Prop := 0 < h.len ∧ h.len ≤ buf.length - i

/-- The best match among some candidates fits, if the best one so far does. -/
theorem bestHit_fits {same : Nat → Nat → Bool} {buf : List Nat} {depth line i : Nat} {h : Hit}
    (hb : bestHit same buf depth line i = some h) : FitsHit buf i h := by
  unfold bestHit at hb
  refine List.foldlRecOn (motive := fun b => ∀ h, b = some h → FitsHit buf i h) (candidates same depth line i) _
    (fun _ hh => by cases hh) (fun best ih c _ h hh => ?_) h hb
  rcases ite_eq_iff.1 hh with ⟨⟨hlong, -⟩, hnew⟩ | ⟨-, hold⟩
  · cases hnew
    exact ⟨Nat.lt_of_lt_of_le (by decide) hlong, matchLen_le _ _ _⟩
  · exact ih h hold

/-- The tokens from a position on cover the literals pending and the rest of the window. -/
theorem encodeFrom_covers (same : Nat → Nat → Bool) (buf : List Nat) (depth line fuel i : Nat) (lits : List Nat)
    (hi : i ≤ buf.length) (hf : buf.length - i < fuel) :
    ((encodeFrom same buf depth line fuel i lits).map fun x => x.2).sum = lits.length + (buf.length - i) := by
  induction fuel generalizing i lits with
  | zero => omega
  | succ fuel ih =>
    unfold encodeFrom
    rcases Nat.lt_or_ge i buf.length with hlt | hge
    · rw [List.getElem?_eq_getElem hlt]
      dsimp only
      cases hb : bestHit same buf depth line i with
      | none =>
        dsimp only
        rw [ih (i + 1) _ (by omega) (by omega), List.length_cons]
        omega
      | some h =>
        obtain ⟨hpos, hlen⟩ := bestHit_fits hb
        simp only [List.map_cons, List.sum_cons]
        rw [ih (i + h.len) [] (by omega) (by omega), List.length_nil]
        omega
    · rw [List.getElem?_eq_none hge]
      cases lits with
      | nil => simp; omega
      | cons b l => simp; omega

theorem encodeTokens_covers (level line : Nat) (dict input : List Nat) :
    ((encodeTokens level line dict input).map fun x => x.2).sum = input.length := by
  unfold encodeTokens
  rw [encodeFrom_covers _ _ _ _ _ _ _ (by simp) (by simp)]
  simp

end Sys2Proof.Machine
end

section
/-! PROOFS. The encoders (R138, R142, R144, R149, R150). -/

namespace Sys2Proof.Machine

open Reg

variable {s : State} {e : Fin 12} {u : Tile} {p : Option Nat} {k : TileKey} {input : List Byte} {chain : List (BitVec 128)} {j id : Nat}

theorem EncoderFree.takes_tile (h : EncoderFree s e) (hu : s.tileForEncoder = some u)
    (hm : s.encIntake < s.rd .int INT.CTRL_ENC_MAX) (hp : p = if u.desc.presetEn then some u.desc.preset else none)
    (hr : p.all s.presetReads = true) : ∃ t, exec (.encoderAssign e) s = .next t ∧
      OnlyFields codecFields ((s.presetGot p).encoderTaken e (.intake u.key p) (s.dictOf p)) t :=
  ⟨_, h.exec_tile hu hm, by
    rw [State.tileStart_takes hp hr]
    exact (s.presetGot p).setDict_only e _ _⟩

theorem EncoderFree.misses_job (h : EncoderFree s e) (hn : s.tileForEncoder = none) (hf : s.oldestJob 12 16 = none)
    (hm : s.encJobs 0 12 < s.rd .cdc CDC.CTRL_HOST_ENC_MAX) (hk : s.oldestJob 0 12 = some j)
    (hp : jobPreset (s.slotDesc j) = some id) (hv : s.presetValid id = false) :
    ∃ t, exec (.encoderAssign e) s = .next t ∧ JobEnded s j 0x20 0 false t ∧
      OnlyFields (slotFields j ++ codecFields ++ errorFields .cdc) (s.jobGone j t) t := by
  have hlt := (State.oldestJob_range hk).2
  obtain ⟨hended, honly⟩ := s.jobEnd_ended (k := j) (nn := 0x20) (by omega) (by decide) 0 false
  refine ⟨_, (h.exec_job (Or.inl hn)).trans (congrArg _ ?_), hended, honly⟩
  rw [State.jobAssign_host (Or.inl hf) hm hk, State.jobStart_missing hlt hp hv]

theorem Encodes.stream (h : Encodes s e k p u) (hl : input.length = u.desc.rawLen) (hs : s.dmaSent (.dma (.tile k)) = true)
    (hg : (s.tileEncoding e u (input.map fun b => b.toNat)).noGain = false) :
    ∃ t, exec (.encodeEnd e (.ended input chain)) s = .next t ∧
      OnlyFields codecFields { s with
        codec := { s.codec with encoders := s.codec.encoders.set e .free }
        intake := { s.intake with tiles := encodedTiles k (.stream (input.map fun b => b.toNat)
          (s.tileEncoding e u (input.map fun b => b.toNat)).stream) s.intake.tiles } } t :=
  ⟨_, (h.exec_eq _).trans (congrArg _ (State.tileEncodeEnd_stream h.key hl hs hg)),
    (s.setEncoder_only e .free).modIntake fun i => { i with tiles := encodedTiles k (.stream (input.map fun b => b.toNat)
      (s.tileEncoding e u (input.map fun b => b.toNat)).stream) i.tiles }⟩

theorem Encodes.noGain (h : Encodes s e k p u) (hl : input.length = u.desc.rawLen) (hs : s.dmaSent (.dma (.tile k)) = true)
    (hg : (s.tileEncoding e u (input.map fun b => b.toNat)).noGain = true) :
    ∃ t, exec (.encodeEnd e (.ended input chain)) s = .next t ∧
      t.rd .cdc CDC.ENC_NOGAIN = min (s.rd .cdc CDC.ENC_NOGAIN + 1) (2 ^ 32 - 1) ∧
      OnlyFields (codecFields ++ [(.cdc, CDC.ENC_NOGAIN, 0)]) { s with
        codec := { s.codec with encoders := s.codec.encoders.set e .free }
        intake := { s.intake with
          tiles := encodedTiles k (.noGain (input.map fun b => b.toNat)) s.intake.tiles } } t := by
  have hset := s.setEncoder_only e .free
  have hcount := State.bump_rd_same (s.setEncoder e .free) .cdc CDC.ENC_NOGAIN 1 0
  rw [hset.fields.rd_clear (by simp +decide [codecFields])] at hcount
  refine ⟨_, (h.exec_eq _).trans (congrArg _ (State.tileEncodeEnd_noGain h.key hl hs hg)), hcount, ?_⟩
  exact (hset.append (OnlyFields.bump .cdc CDC.ENC_NOGAIN 1 0 (OnlyFields.refl _ _) (by simp))).modIntake fun i => { i with
    tiles := encodedTiles k (.noGain (input.map fun b => b.toNat)) i.tiles }

/-- A stream longer than its limit has no gain (R144). -/
theorem Encoding.noGain_of_lt {enc : Encoding} {n : Nat} (hl : enc.limit = some n) (hn : n < enc.stream.length) :
    enc.noGain = true := by
  unfold Encoding.noGain
  rw [hl]
  exact decide_eq_true hn

/-- A free encoder has no encode that could end. -/
theorem encodeEnd_free (hf : s.codec.encoders[e] = .free) (res : EncodeResult) : exec (.encodeEnd e res) s = .next s := by
  change execEncodeEnd e res s = _
  unfold execEncodeEnd
  rw [hf]
  exact ite_self _

end Sys2Proof.Machine

namespace Sys2Proof

open Machine Reg

/-- Settles O20: the encoders' assignment, the ends of encodes, and the cover of the tokens. -/
theorem encoders : Obligations.Encoders := by
  unfold Obligations.Encoders
  refine ⟨fun s e u p hd hon hfree hu hm hp hr => (EncoderFree.mk hd hon hfree).takes_tile hu hm hp hr, ?_, ?_,
    fun s e k id hd hon hfree hn hf hm hk hp hv => (EncoderFree.mk hd hon hfree).misses_job hn hf hm hk hp hv, ?_,
    fun s e k p u input chain hd he hu hl hs hg => (Encodes.mk hd he hu).stream hl hs hg,
    fun s e k p u input chain hd he hu hl hs hg => (Encodes.mk hd he hu).noGain hl hs (Encoding.noGain_of_lt rfl hg),
    fun s e k p u w hd he hu => (Encodes.mk hd he hu).memUe w,
    fun s e k input chain enc laid hf hh hw henc hlay hg => (Lays.mk hf hh hw henc hlay).done hg, ?_,
    fun s e k input chain enc laid hf hh hw henc hlay => (Lays.mk hf hh hw henc hlay).bad,
    fun s e k hf hh => encodeEnd_chainDma hf hh, fun s e k w hf => encodeEnd_memUe_job hf w,
    fun s e res hf => encodeEnd_free hf res, encodeTokens_covers⟩
  · intro s e k p hd hon hfree hn hm hk hp hr
    obtain ⟨hge, hlt⟩ := State.oldestJob_range hk
    have hruns := State.jobStart_firm (e := e) hge hlt hp hr
    refine ⟨_, ((EncoderFree.mk hd hon hfree).exec_job hn).trans (congrArg _ (State.jobAssign_firm hm hk)), hruns.state, hruns.enc,
      hruns.overdue.trans s.onTime_overdue, hruns.of_onTime⟩
  · intro s e k p hd hon hfree hn hf hm hk hp hr
    have hruns := State.jobStart_host (e := e) (State.oldestJob_range hk).2 hp hr
    exact ⟨_, ((EncoderFree.mk hd hon hfree).exec_job hn).trans (congrArg _ (State.jobAssign_host hf hm hk)), hruns.state, hruns.enc,
      hruns.only⟩
  · intro s e u hd hon hfree hu hm hen hv
    exact ((EncoderFree.mk hd hon hfree).exec_tile hu hm).trans (congrArg _ (State.tileStart_missing hen hv))
  · intro s e k input chain enc laid hf hh hw henc hlay hgain hlimit
    refine (Lays.mk hf hh hw henc hlay).noGain (Encoding.noGain_of_lt ?_ hlimit)
    rw [henc]
    exact if_neg hgain

end Sys2Proof
end
